-- ==== Sys2Proof/Word.lean ====
section
/-! DEFINITION. The words of the device: bytes of memory, 32-bit registers (R11) and 64-bit counters and addresses (R15). -/

namespace Sys2Proof

/-- One byte of memory. -/
abbrev Byte := BitVec 8

/-- One 32-bit register (R11). -/
abbrev Word := BitVec 32

/-- A 64-bit counter, address, time or fault message (R15, R512). -/
abbrev DWord := BitVec 64

end Sys2Proof
end

