-- ==== Sys2Proof/Syntax.lean ====
section
/-! DEFINITION. The commands of the XK9 block: one constructor of `Instr` per row of the table of operations and events.
An operand is what the outside decides and the state does not: who writes which word, which frame arrives, what an
analogue sensor shows, which of several jobs in progress moves next. Everything else a command needs it reads from the
state. -/

namespace Sys2Proof

/-- Who issues a register access (R57): the host's physical function, virtual function `n + 1`, SVC, Cupola firmware, or
the TAP (R17, R507). -/
inductive Req where
  | pf | vf (n : Fin 31) | svc | cupola | tap
  deriving DecidableEq, Repr

/-- A register access that is not a 32-bit write of a register with a row of its own: a read of 8, 16 or 32 bits, or a
32-bit write (R11, R58). -/
inductive Access where
  | read8 | read16 | read32 | write32 (v : Word)
  deriving DecidableEq, Repr

/-- What a token in the core belonged to when its completion detector or watchdog fired (R26): a job, a frame, an
internal operation (first try or retry), or nothing. -/
inductive Victim where
  | job (id : Nat) | frame (id : Nat) | internal (retry : Bool) | nothing
  deriving DecidableEq, Repr

/-- The events that reset HIF (R65, R544). -/
inductive HostReset where
  | perst | hotReset | pfFlr | linkDown
  deriving DecidableEq, Repr

/-- The configuration registers of a queue that R77 guards. -/
inductive QCfgReg where
  | sqStartLo | sqStartHi | cqBaseLo | cqBaseHi | cqSize
  deriving DecidableEq, Repr

/-- The points at which JQM dispatches jobs (R83, R111): lattice tiles, code-based and classical engines, a tile with a
classical engine, HEA Keccak and SHA-2 cores, DKE channels, AES and ChaCha20-Poly1305 lanes, KEEP, the Context Arbiter. -/
inductive Res where
  | lt | cbe | cle | composite | keccak | sha2 | dke | aes | chacha | keep | arbiter
  deriving DecidableEq, Repr

/-- The KIND of a failed internal check, if one failed (R54). -/
abbrev Check := Option (BitVec 6)

/-- What the line side found when a frame had arrived: whether its FCS held (R54), the codewords that FEC corrected and
those it could not (R290), and a failed internal check of the frame (R54). -/
structure RxInfo where
  fcsOk : Bool
  fecCorr : BitVec 16
  fecUncorr : BitVec 16
  fault : Check
  deriving DecidableEq, Repr

/-- A detector of a Belfry source (R465). -/
inductive Det where
  | a | b
  deriving DecidableEq, Repr

/-- Which health test of a noise source failed (R449, R450). -/
inductive NsuCause where
  | repetition | proportion | silence
  deriving DecidableEq, Repr

/-- The mailbox windows: the host's, SVC's, and SMBus (R587). -/
inductive MbxWin where
  | host | svc | smbus
  deriving DecidableEq, Repr

/-- What the debug instructions of the TAP ask of a halted processor (R500). -/
inductive DbgOp where
  | halt | resume | step | read (addr : Word) | write (addr : Word) (v : Word)
  deriving DecidableEq, Repr

/-- What a scrub pass found on a line (R300, R301): all good, a corrected ECC error, an uncorrectable one, a failed line
MAC or a failed node MAC (a leaf, level 0, or an interior node), at a protected address. -/
inductive ScrubFind where
  | clean | corrected (addr : BitVec 37) | uncorrectable (addr : BitVec 37) | lineMac (addr : BitVec 37)
  | nodeMac (addr : BitVec 37) (level : Fin 8)
  deriving DecidableEq, Repr

/-- The straps that CPM samples (R541). -/
structure Straps where
  bootSrc : BitVec 2
  hostEn : Bool
  nvIo : Bool
  lineMode : BitVec 2
  smbAddr : BitVec 2
  vigilPort : BitVec 3
  deriving DecidableEq, Repr

/-- Reads of one copy of an OTP word that differ (R493): the word, 1 to 5 (0 for none), and the bits that some reads
show. -/
structure OtpNoise where
  word : BitVec 3
  bits : Word
  deriving DecidableEq, Repr

/-- What the host does to its MSI-X structures (R531): enables MSI-X in its function, or unmasks one vector. -/
inductive MsixUnmask where
  | enable | vector (n : Fin 64)
  deriving DecidableEq, Repr

/-- An Almanac entry as Cupola firmware composes it (R532), with the device time of its event. -/
structure AlmReq where
  time : DWord
  etype : BitVec 8
  level : BitVec 8
  rtag : BitVec 16
  eflags : BitVec 8
  subject : DWord
  data : BitVec 128
  deriving DecidableEq, Repr

/-- What an IKEv2 message is, once SVC has decrypted it and followed its exchange (R364): a request or response of
IKE_SA_INIT (whether the proposal fits the policy, names the additional key exchange, and carries the cookie), of
IKE_INTERMEDIATE, of IKE_AUTH (whether the peer authenticates), of CREATE_CHILD_SA for a new child SA of a CHILD record or
for a rekey of a child SA (whether it names the additional key exchange) or of the IKE SA, a Delete of a child SA or of the
IKE SA, or another INFORMATIONAL. A CHILD record that is not the peer's stands for selectors that fit none. -/
inductive IkeKind where
  | initReq (fits addKe cookie : Bool) | initResp (fits : Bool)
  | interReq | interResp
  | authReq (ok : Bool) | authResp (ok : Bool)
  | childReq (child : BitVec 16) (addKe : Bool) | childResp (child : BitVec 16) (ok : Bool)
  | rekeyReq (sa : Nat) (addKe : Bool) | rekeyResp (sa : Nat) (ok : Bool)
  | ikeRekeyReq | ikeRekeyResp (ok : Bool)
  | deleteChild (sa : Nat) | deleteIke | info
  deriving DecidableEq, Repr

/-- An IKEv2 message from a configured peer, on an IKE SA of SVC's (0 for an IKE_SA_INIT request). -/
structure IkeMsg where
  peer : BitVec 16
  ike : Nat
  kind : IkeKind
  deriving DecidableEq, Repr

/-- What a GDOI message is (R373 to R376): to the KDC, the registration of a member, by the digest of its authenticated
IKE ID; to a member, a TEK from a registration or a push, with its key ID, GDOI sequence number and validity in PTP
seconds, and whether its encryption and signature hold. -/
inductive GdoiMsg where
  | register (group : Word) (idDigest : List Byte)
  | tek (group : Word) (push ok : Bool) (keyId seq : Word) (validFrom validTo : DWord)
  deriving DecidableEq, Repr

/-- The eight rails of R596 in mV, in its order. -/
structure Rails where
  sram : BitVec 16
  vgl : BitVec 16
  io : BitVec 16
  sdL : BitVec 16
  sdH : BitVec 16
  hbmQ : BitVec 16
  hbm : BitVec 16
  vpp : BitVec 16
  deriving DecidableEq, Repr

/-- The temperatures of the four stacks in °C, signed (R332). -/
structure Temps4 where
  t0 : BitVec 8
  t1 : BitVec 8
  t2 : BitVec 8
  t3 : BitVec 8
  deriving DecidableEq, Repr

/-- The commands, in the order of the table of operations and events. -/
inductive Instr where
  /-- REGISTER_WRITE (R12). -/
  | registerWrite (r : Req) (addr : Word) (wide : Bool) (v : DWord)
  /-- SUBWORD_WRITE (R11). -/
  | subwordWrite (r : Req) (addr : Word) (half : Bool) (v : BitVec 16)
  /-- DENIED_ACCESS (R58). -/
  | deniedAccess (r : Req) (addr : Word) (acc : Access)
  /-- COUNTER_LOW_READ (R15). -/
  | counterLowRead (r : Req) (addr : Word) (wide : Bool)
  /-- GLB_SNAP (R18). -/
  | glbSnap (r : Req) (v : Word)
  /-- SNAP_COMPLETE (R18). -/
  | snapComplete
  /-- CODE_VIOLATION (R26). -/
  | codeViolation (src : Fin 0x126) (victim : Victim)
  /-- HANDSHAKE_STALL (R27). -/
  | handshakeStall (src : Fin 0x126) (victim : Victim)
  /-- CONNECT (R554). -/
  | connect (x : Fin 64)
  /-- QGRP_OWNER_WRITE (R64). -/
  | qgrpOwnerWrite (r : Req) (g : Fin 32) (v : Word)
  /-- VF_FLR (R65). -/
  | vfFlr (vf : Fin 31)
  /-- HOST_RESET (R544). -/
  | hostReset (c : HostReset)
  /-- SVC_RESET (R66). -/
  | svcReset
  /-- QUEUE_ENABLE (R78). -/
  | queueEnable (r : Req) (q : Fin 4096) (v : Word)
  /-- QUEUE_DISABLE (R79). -/
  | queueDisable (r : Req) (q : Fin 4096) (v : Word)
  /-- PAUSE (R80). -/
  | queuePause (r : Req) (q : Fin 4096) (v : Word)
  /-- PAUSE_CLEAR (R80). -/
  | pauseClear (r : Req) (q : Fin 4096) (v : Word)
  /-- FLUSH (R81). -/
  | queueFlush (r : Req) (q : Fin 4096) (v : Word)
  /-- FLUSH_COMPLETE (R81). -/
  | flushComplete (q : Fin 4096)
  /-- CNT_SNAP (R76). -/
  | cntSnap (r : Req) (q : Fin 4096) (v : Word)
  /-- Q_CNT_CLR (R76). -/
  | qCntClr (r : Req) (q : Fin 4096) (v : Word)
  /-- QUEUE_PRIO_WRITE (R71). -/
  | queuePrioWrite (r : Req) (q : Fin 4096) (v : Word)
  /-- QUEUE_CFG_WRITE (R77). -/
  | queueCfgWrite (r : Req) (q : Fin 4096) (k : QCfgReg) (v : Word)
  /-- SQ_KICK (R92). -/
  | sqKick (r : Req) (q : Fin 4096) (v : Word)
  /-- DESC_FETCH_COMPLETE (R95). -/
  | descFetchComplete (q : Fin 4096)
  /-- REREAD_COMPLETE (R91). -/
  | rereadComplete (q : Fin 4096)
  /-- JOB_DISPATCH (R111). -/
  | jobDispatch (p : Res)
  /-- FENCE_RELEASE (R113). -/
  | fenceRelease (q : Fin 4096)
  /-- JOB_COMPLETE (R99). -/
  | jobComplete (j : Nat) (chk : Check)
  /-- CQ_HEAD_WRITE (R101). -/
  | cqHeadWrite (r : Req) (q : Fin 4096) (v : Word)
  /-- HELD_RECORD_TRANSFER (R105). -/
  | heldRecordTransfer (q : Fin 4096)
  /-- RNG_WAIT_TIMEOUT (R110). -/
  | rngWaitTimeout (j : Nat)
  /-- KEYGEN (R127). -/
  | keygen (j : Nat)
  /-- ENCAPS (R136). -/
  | encaps (j : Nat)
  /-- DECAPS (R141). -/
  | decaps (j : Nat)
  /-- SIGN (R144). -/
  | sign (j : Nat)
  /-- VERIFY (R148). -/
  | verify (j : Nat)
  /-- EXCHANGE (R195). -/
  | exchange (j : Nat)
  /-- HASH (R174). -/
  | hash (j : Nat)
  /-- MAC (R428). -/
  | mac (j : Nat)
  /-- MAC_COMPARE (R429). -/
  | macCompare (j : Nat)
  /-- ENCRYPT (R280). -/
  | encrypt (j : Nat)
  /-- DECRYPT (R280). -/
  | decrypt (j : Nat)
  /-- WRAP (R394). -/
  | wrap (j : Nat)
  /-- UNWRAP (R397). -/
  | unwrap (j : Nat)
  /-- DERIVE (R392). -/
  | derive (j : Nat)
  /-- ATTEST (R402). -/
  | attest (j : Nat)
  /-- CTX_INSTALL (R316). -/
  | ctxInstall (j : Nat)
  /-- CTX_UPDATE (R317). -/
  | ctxUpdate (j : Nat)
  /-- CTX_RETIRE (R318). -/
  | ctxRetire (j : Nat)
  /-- CTX_SNAPSHOT (R320). -/
  | ctxSnapshot (j : Nat)
  /-- KEEP_LOAD (R387). -/
  | keepLoad (j : Nat)
  /-- KEEP_ERASE (R404). -/
  | keepErase (j : Nat) (bad : Nat)
  /-- FENCE (R113). -/
  | fence (q : Fin 4096)
  /-- ENGINE_INSTRUCTION_BOUNDARY (R221). -/
  | engineInstructionBoundary (e : Fin 256) (ns : BitVec 16)
  /-- LT_EN_WRITE (R158). -/
  | ltEnWrite (r : Req) (e : Fin 48) (v : Word)
  /-- AEA_SELFTEST (R162). -/
  | aeaSelftest (r : Req) (e : Fin 48) (v : Word)
  /-- AEA_SELFTEST_END (R162). -/
  | aeaSelftestEnd (e : Fin 48) (pass : Bool)
  /-- MAXINSN_READ (R160). -/
  | maxinsnRead (r : Req) (e : Fin 48)
  /-- LT_CFG_LOCK (R166). -/
  | ltCfgLock (r : Req) (v : Word)
  /-- XCFG_LOCK (R205). -/
  | xcfgLock (r : Req) (v : Word)
  /-- LEAF_WAIT_TIMEOUT (R184). -/
  | leafWaitTimeout (j : Nat)
  /-- TREE_BUILD_COMPLETE (R181). -/
  | treeBuildComplete (j : Nat)
  /-- ACK (R412). -/
  | jrAck (r : Req) (v : Word)
  /-- FAIL (R412). -/
  | jrFail (r : Req) (v : Word)
  /-- PRESENT (R412). -/
  | jrPresent (r : Req) (v : Word)
  /-- NONE_LEFT (R412). -/
  | jrNoneLeft (r : Req) (v : Word)
  /-- SEEK_TIMEOUT (R412). -/
  | seekTimeout
  /-- NEXT (R210). -/
  | spireNext (e : Fin 48)
  /-- BR (R210). -/
  | spireBr (e : Fin 48) (ext : Bool)
  /-- CALL (R210). -/
  | spireCall (e : Fin 48) (ext : Bool)
  /-- RET (R210). -/
  | spireRet (e : Fin 48) (ext : Bool)
  /-- DISP (R214). -/
  | spireDisp (e : Fin 48)
  /-- LOOP (R210). -/
  | spireLoop (e : Fin 48)
  /-- WAIT (R210). -/
  | spireWait (e : Fin 48) (ext : Bool)
  /-- WAIT_TAKEN (R210). -/
  | spireWaitTaken (e : Fin 48)
  /-- DONE (R210). -/
  | spireDone (e : Fin 48)
  /-- ASSERT (R215). -/
  | spireAssert (e : Fin 48) (ext : Bool)
  /-- BOUNDARY_CAP (R223). -/
  | boundaryCap (e : Fin 48)
  /-- CONTROL_STORE_ECC_ERROR (R225). -/
  | controlStoreEccError (e : Fin 48) (uncorr : Bool) (addr : BitVec 40)
  /-- UCS_SCRUB (R225). -/
  | ucsScrub (q : Fin 4)
  /-- UCODE_Q_WR (R231). -/
  | ucodeQWr (r : Req) (q : Fin 4) (v : Word)
  /-- ARM (R234). -/
  | ucodeArm (r : Req) (q : Fin 4) (v : Word)
  /-- UCODE_Q_CLEAR (R237). -/
  | ucodeQClear (r : Req) (q : Fin 4) (v : Word)
  /-- UCODE_Q_CLEAR_DONE (R237). -/
  | ucodeQClearDone (q : Fin 4)
  /-- DIGEST_START (R232). -/
  | digestStart (r : Req) (q : Fin 4) (v : Word)
  /-- DIGEST_COMPLETE (R232). -/
  | digestComplete (q : Fin 4)
  /-- BUNDLE_ABANDON (R233). -/
  | bundleAbandon
  /-- LINK_CHANGE (R290). -/
  | linkChange (p : Fin 16) (up : Bool) (aui : Bool)
  /-- PREEMPT_VERIFY (R243). -/
  | preemptVerify (p : Fin 16) (ok : Bool)
  /-- RESTART_AN (R289). -/
  | restartAn (r : Req) (p : Fin 16) (v : Word)
  /-- LIF_CNT_CLR (R289). -/
  | lifCntClr (r : Req) (p : Fin 16) (v : Word)
  /-- FRAME_INGRESS (R257). -/
  | frameIngress (p : Fin 16) (bytes : List Byte) (rx : RxInfo)
  /-- DATA_PATH_ADVANCE (R322). -/
  | dataPathAdvance (f : Nat)
  /-- FRAME_EGRESS (R286). -/
  | frameEgress (f : Nat) (chk : Check)
  /-- PTP_HOLD_TIMEOUT (R269). -/
  | ptpHoldTimeout (f : Nat)
  /-- TIME_AVAILABLE (R269). -/
  | timeAvailable
  /-- FLOW_AGING (R255). -/
  | flowAging (k : Nat)
  /-- RECORD_FORGET (R271). -/
  | recordForget (g : Fin 8) (k : Nat)
  /-- RG_WRITE (R292). -/
  | rgWrite (r : Req) (g : Fin 8) (v : Word)
  /-- SAEVT_READ (R284). -/
  | saevtRead (r : Req)
  /-- SNAP (R292). -/
  | ptpSnap (r : Req) (v : Word)
  /-- STEP (R292). -/
  | ptpStep (r : Req) (v : Word)
  /-- LOCK_SET (R275). -/
  | lockSet (r : Req) (set : Bool)
  /-- HOLDOVER_EXPIRY (R275). -/
  | holdoverExpiry
  /-- SVC_FRAME_TX (R360). -/
  | svcFrameTx (p : Fin 16) (bytes : List Byte)
  /-- ROTATE (R302). -/
  | rotate (r : Req) (v : Word)
  /-- FILL_COMPLETE (R304). -/
  | fillComplete
  /-- SCRUB_PASS (R301). -/
  | scrubPass (find : ScrubFind)
  /-- PROMOTION (R312). -/
  | promotion (c : Fin 0x110000)
  /-- SWITCH_AT_REACHED (R329). -/
  | switchAtReached (c : Fin 0x110000)
  /-- DRAIN_END (R328). -/
  | drainEnd (c : Fin 0x110000)
  /-- RELINK_NOW (R330). -/
  | relinkNow (r : Req) (v : Word)
  /-- RELINK_SCAN_END (R328). -/
  | relinkScanEnd
  /-- STACK_TEMP_SAMPLE (R332). -/
  | stackTempSample (t : Temps4)
  /-- CTS_CNT_CLR (R335). -/
  | ctsCntClr (r : Req) (v : Word)
  /-- CTS_CFG_LOCK (R337). -/
  | ctsCfgLock (r : Req) (v : Word)
  /-- RECOVERY_IMAGE (R356). -/
  | recoveryImage (img : List Byte)
  /-- STATUS (R361). -/
  | svcStatus (w : MbxWin)
  /-- PEER_UP (R361). -/
  | peerUp (w : MbxWin)
  /-- PEER_DOWN (R361). -/
  | peerDown (w : MbxWin)
  /-- REKEY (R372). -/
  | svcRekey (w : MbxWin)
  /-- GROUP_REKEY (R376). -/
  | groupRekey (w : MbxWin)
  /-- PEER_LIST (R361). -/
  | peerList (w : MbxWin)
  /-- SVC_HB (R598). -/
  | svcHb (v : Word)
  /-- SVC_HEARTBEAT_TIMEOUT (R363). -/
  | svcHeartbeatTimeout
  /-- IKE_MESSAGE (R364). -/
  | ikeMessage (m : IkeMsg)
  /-- CHILD_REKEY (R372). -/
  | childRekey (k : Nat)
  /-- SWITCH_MS_EXPIRY (R372). -/
  | switchMsExpiry (k : Nat)
  /-- HARD_LIFETIME (R372). -/
  | hardLifetime (k : Nat)
  /-- DPD (R364). -/
  | ikeDpd (k : Nat) (ok : Bool)
  /-- GDOI_MESSAGE (R376). -/
  | gdoiMessage (m : GdoiMsg)
  /-- GROUPKEY_PUSH (R375). -/
  | groupkeyPush (g : BitVec 16)
  /-- GROUP_REREGISTER (R376). -/
  | groupReregister (g : BitVec 16)
  /-- BLOB_LOAD (R411). -/
  | blobLoad (r : Req) (v : Word)
  /-- BBK_GEN (R399). -/
  | bbkGen (r : Req) (v : Word)
  /-- ERASE_ALL (R408). -/
  | eraseAll (r : Req) (v : Word) (bad : Nat)
  /-- KEEP_CNT_CLR (R408). -/
  | keepCntClr (r : Req) (v : Word)
  /-- KEEP_CFG_LOCK (R410). -/
  | keepCfgLock (r : Req) (v : Word)
  /-- SFEVT_READ (R408). -/
  | sfevtRead (r : Req)
  /-- TAKE (R417). -/
  | dkeTake (r : Req) (c : Fin 4)
  /-- RELEASE (R419). -/
  | dkeRelease (r : Req) (c : Fin 4)
  /-- FORCE (R419). -/
  | dkeForce (r : Req) (c : Fin 4)
  /-- DKE_BLOCK_BOUNDARY (R430). -/
  | dkeBlockBoundary (c : Fin 4)
  /-- START (R421). -/
  | dkeStart (r : Req) (c : Fin 4)
  /-- ABORT (R420). -/
  | dkeAbort (r : Req) (c : Fin 4)
  /-- CLEAR (R420). -/
  | dkeClear (r : Req) (c : Fin 4)
  /-- KEYING_DONE (R422). -/
  | keyingDone (c : Fin 4)
  /-- BEAT_ABSORBED (R435). -/
  | beatAbsorbed (c : Fin 4) (chk : Check)
  /-- FINISH_DONE (R426). -/
  | finishDone (c : Fin 4) (disagree : Bool) (chk : Check)
  /-- RESULT_READ (R424). -/
  | resultRead (r : Req) (c : Fin 4) (k : Fin 17)
  /-- DKE_CNT_CLR (R442). -/
  | dkeCntClr (r : Req) (v : Word)
  /-- DKE_CFG_LOCK (R442). -/
  | dkeCfgLock (r : Req) (v : Word)
  /-- SFI_DATA (R433). -/
  | sfiData (r : Req) (c : Fin 4) (v : Word)
  /-- SFI_EOP (R433). -/
  | sfiEop (r : Req) (c : Fin 4) (n : Fin 4) (v : Word)
  /-- SFI_FLUSH (R438). -/
  | sfiFlush (r : Req) (c : Fin 4)
  /-- ABORT_PKT (R437). -/
  | abortPkt (r : Req) (c : Fin 4)
  /-- UNDERRUN (R436). -/
  | underrun (c : Fin 4)
  /-- STARTUP_TEST_END (R447). -/
  | startupTestEnd (rep : BitVec 8) (prop : BitVec 8) (silent : BitVec 8) (shakeOk : Bool) (drbgOk : Bool)
  /-- FIRST_SEED (R447). -/
  | firstSeed
  /-- HEALTH_TEST_FAIL (R450). -/
  | healthTestFail (n : Fin 8) (cause : NsuCause)
  /-- SOURCE_RETEST (R450). -/
  | sourceRetest (n : Fin 8) (pass : Bool)
  /-- SEED_PRODUCED (R451). -/
  | seedProduced
  /-- RESEED (R456). -/
  | reseed (d : Fin 16)
  /-- RESTART (R453). -/
  | rngRestart (r : Req) (v : Word)
  /-- RNG_DATA_READ (R459). -/
  | rngDataRead (r : Req) (wide : Bool)
  /-- RNG_RAWSEL (R460). -/
  | rngRawsel (r : Req) (v : Word)
  /-- RNG_MIN_SRC_WRITE (R461). -/
  | rngMinSrcWrite (r : Req) (v : Word)
  /-- RNG_CNT_CLR (R463). -/
  | rngCntClr (r : Req) (v : Word)
  /-- RNG_LOCK (R463). -/
  | rngLock (r : Req) (v : Word)
  /-- DETECTOR_ALARM (R469). -/
  | detectorAlarm (n : Fin 14) (d : Det)
  /-- DISAGREEMENT (R470). -/
  | disagreement (n : Fin 14) (d : Det)
  /-- BLF_SELFTEST (R474). -/
  | blfSelftest (r : Req) (v : Word)
  /-- PERIODIC_SELFTEST (R474). -/
  | periodicSelftest
  /-- SELFTEST_RESULT (R472). -/
  | selftestResult (n : Fin 14) (d : Det) (pass : Bool)
  /-- BLF_FAULTY_DECLARE (R472). -/
  | blfFaultyDeclare (r : Req) (v : Word)
  /-- FUSE_PGM (R478). -/
  | fusePgm (r : Req) (v : Word)
  /-- START_WINDOW_END (R475). -/
  | startWindowEnd
  /-- HEARTBEAT_TIMEOUT (R466). -/
  | heartbeatTimeout (d : Det)
  /-- VIGIL_ALARM (R481). -/
  | vigilAlarm (n : Fin 14) (d : Det)
  /-- BACKUP_ALARM (R483). -/
  | backupAlarm (n : Fin 14) (hot : Bool)
  /-- VBAT_CHECK (R485). -/
  | vbatCheck (mv : BitVec 16)
  /-- VBAT_BROWNOUT (R614). -/
  | vbatBrownout (mv : BitVec 16)
  /-- VBAT_FIRST_APPLY (R399). -/
  | vbatFirstApply
  /-- CLR_EVT (R484). -/
  | clrEvt (r : Req) (v : Word)
  /-- CLR_FRESH (R487). -/
  | clrFresh (r : Req) (v : Word)
  /-- BLF_CNT_CLR (R487). -/
  | blfCntClr (r : Req) (v : Word)
  /-- BLF_LOCK (R487). -/
  | blfLock (r : Req) (v : Word)
  /-- LCS_TRANSITION (R497). -/
  | lcsTransition (r : Req) (v : Word)
  /-- DS_PROGRAM (R497). -/
  | dsProgram
  /-- WIPE_DONE (R497). -/
  | wipeDone (r : Req) (v : Word)
  /-- TRANSITION_COMPLETE (R497). -/
  | transitionComplete
  /-- CHAL_REQ (R503). -/
  | chalReq (r : Req) (v : Word)
  /-- CHALLENGE_EXPIRY (R503). -/
  | challengeExpiry
  /-- TOK_START (R502). -/
  | tokStart (r : Req) (v : Word)
  /-- TOKEN_CHECK_DONE (R502). -/
  | tokenCheckDone
  /-- SESSION_EXPIRY (R506). -/
  | sessionExpiry
  /-- END_DEBUG (R506). -/
  | endDebug (r : Req) (v : Word)
  /-- OWNER_PGM (R501). -/
  | ownerPgm (r : Req) (v : Word)
  /-- LCS_CNT_CLR (R510). -/
  | lcsCntClr (r : Req) (v : Word)
  /-- IDCODE (R507). -/
  | tapIdcode
  /-- SAMPLE_PRELOAD (R507). -/
  | samplePreload (v : List Byte)
  /-- EXTEST (R508). -/
  | extest
  /-- EXTEST_PULSE (R508). -/
  | extestPulse
  /-- EXTEST_TRAIN (R508). -/
  | extestTrain
  /-- CLAMP (R508). -/
  | clamp
  /-- HIGHZ (R508). -/
  | highz
  /-- TAP_RESET (R508). -/
  | tapReset
  /-- LCS_STATUS (R507). -/
  | lcsStatus
  /-- LCS_CHAL (R503). -/
  | lcsChal
  /-- TOKEN_LOAD (R502). -/
  | tokenLoad (tok : List Byte)
  /-- CUP_DBG (R500). -/
  | cupDbg (op : DbgOp)
  /-- SVC_DBG (R500). -/
  | svcDbg (op : DbgOp)
  /-- REG_READ (R500). -/
  | regRead (addr : Word)
  /-- PROD_TEST (R500). -/
  | prodTest (v : Word)
  /-- SCAN (R500). -/
  | tapScan (v : Word)
  /-- ASYNC_DFT (R500). -/
  | asyncDft (v : Word)
  /-- BYPASS (R507). -/
  | tapBypass (b : Bool)
  /-- FAULT_MESSAGE (R523). -/
  | faultMessage (m : DWord)
  /-- REACTION_END (R523). -/
  | reactionEnd
  /-- RESUME (R522). -/
  | fltResume (r : Req)
  /-- LD_CLR (R526). -/
  | ldClr (r : Req)
  /-- FLT_CNT_CLR (R536). -/
  | fltCntClr (r : Req)
  /-- FLT_CFG_LOCK (R536). -/
  | fltCfgLock (r : Req) (v : Word)
  /-- FIRST_CLEAR (R517). -/
  | firstClear (r : Req)
  /-- STICKY_CLEAR (R516). -/
  | stickyClear (r : Req) (v : Word)
  /-- FLT_MAP_WRITE (R519). -/
  | fltMapWrite (r : Req) (k : Fin 32) (v : Word)
  /-- MSG_LATCH (R536). -/
  | msgLatch (r : Req)
  /-- MSG_POP (R536). -/
  | msgPop (r : Req)
  /-- EVENT_RISE (R528). -/
  | eventRise (s : Fin 256)
  /-- EVC_PEND_CLEAR (R528). -/
  | evcPendClear (r : Req) (w : Fin 8) (v : Word)
  /-- EVC_MASK_WRITE (R528). -/
  | evcMaskWrite (r : Req) (w : Fin 8) (v : Word)
  /-- EVC_CNT_CLR (R538). -/
  | evcCntClr (r : Req) (v : Word)
  /-- ALMANAC_WRITE (R532). -/
  | almanacWrite (e : AlmReq) (bad : Bool)
  /-- POWER_ON_RESET (R543). -/
  | powerOnReset (straps : Straps) (u : OtpNoise)
  /-- PWR_OK_FALL (R540). -/
  | pwrOkFall
  /-- SYSTEM_RESET (R544). -/
  | systemReset
  /-- SYS_RESET (R544). -/
  | sysReset (r : Req) (v : Word)
  /-- BLOCK_RESET (R546). -/
  | blockReset (r : Req) (v : Word)
  /-- PWR_CNT_CLR (R568). -/
  | pwrCntClr (r : Req) (v : Word)
  /-- PWR_CFG_LOCK (R568). -/
  | pwrCfgLock (r : Req) (v : Word)
  /-- CLOCK_FAILURE (R549). -/
  | clockFailure (c : Fin 6)
  /-- CLOCK_READY (R548). -/
  | clockReady (c : Fin 6)
  /-- CKG_SEL_WRITE (R550). -/
  | ckgSelWrite (r : Req) (v : Word)
  /-- PACE_VALID (R556). -/
  | paceValid (idx : BitVec 10) (mon : Fin 32)
  /-- GOVERNOR_STEP (R557). -/
  | governorStep (idx : BitVec 10) (mon : Fin 32)
  /-- PACE_LOW (R558). -/
  | paceLow
  /-- AVS_FAIL (R559). -/
  | avsFail
  /-- AVS_RECOVER (R559). -/
  | avsRecover
  /-- TEMP_SAMPLE (R560). -/
  | tempSample (tj : BitVec 8) (pred : BitVec 8) (pv : Bool)
  /-- BOOST_REQ (R561). -/
  | boostReq (r : Req) (v : Word)
  /-- BOOST_RAMP_DONE (R561). -/
  | boostRampDone
  /-- BOOST_END (R563). -/
  | boostEnd (r : Req) (v : Word)
  /-- BOOST_CREDIT_EXHAUSTED (R563). -/
  | boostCreditExhausted
  /-- VIGIL_REQ (R565). -/
  | vigilReq (r : Req) (v : Word)
  /-- VIGIL_PIN_REQUEST (R565). -/
  | vigilPinRequest
  /-- VIGIL_ENTRY_DONE (R565). -/
  | vigilEntryDone
  /-- VIGIL_EXIT (R566). -/
  | vigilExit (r : Req) (v : Word)
  /-- VIGIL_PIN_EXIT (R566). -/
  | vigilPinExit
  /-- VIGIL_EXIT_DONE (R566). -/
  | vigilExitDone
  /-- LOCKSTEP_MISMATCH (R572). -/
  | lockstepMismatch
  /-- WARM_RESTART (R574). -/
  | warmRestart
  /-- ROM_RECOVERY_IMAGE (R586). -/
  | romRecoveryImage (img : List Byte)
  /-- MBX_GO (R589). -/
  | mbxGo (w : MbxWin) (r : Req)
  /-- MBX_ABORT (R587). -/
  | mbxAbort (w : MbxWin) (r : Req)
  /-- MBX_WRITE (R592). -/
  | mbxWrite (bytes : List Byte) (pec : Bool)
  /-- MBX_READ (R592). -/
  | mbxRead (n : BitVec 8)
  /-- MBX_STATUS (R592). -/
  | mbxStatus
  /-- BOOT_STATUS (R591). -/
  | bootStatus (w : MbxWin)
  /-- SENSORS (R597). -/
  | mbxSensors (w : MbxWin)
  /-- ALMANAC_READ (R591). -/
  | almanacRead (w : MbxWin)
  /-- VERSIONS (R591). -/
  | mbxVersions (w : MbxWin)
  /-- UPDATE_BEGIN (R593). -/
  | updateBegin (w : MbxWin)
  /-- UPDATE_ERASE_DONE (R593). -/
  | updateEraseDone
  /-- UPDATE_DATA (R593). -/
  | updateData (w : MbxWin)
  /-- UPDATE_END (R594). -/
  | updateEnd (w : MbxWin)
  /-- UPDATE_CANCEL (R593). -/
  | updateCancel (w : MbxWin)
  /-- UPDATE_TIMEOUT (R593). -/
  | updateTimeout
  /-- UPDATE_STATUS (R591). -/
  | updateStatus (w : MbxWin)
  /-- COMMIT (R582). -/
  | arbCommit (w : MbxWin)
  /-- AUTO_COMMIT (R582). -/
  | autoCommit
  /-- ACTIVATE (R591). -/
  | mbxActivate (w : MbxWin)
  /-- CFGKEY_PROGRAM (R579). -/
  | cfgkeyProgram (w : MbxWin)
  /-- CFGKEY_REVOKE (R579). -/
  | cfgkeyRevoke (w : MbxWin)
  /-- CUP_CFG_LOCK (R598). -/
  | cupCfgLock (r : Req) (v : Word)
  /-- RAIL_SAMPLE (R596). -/
  | railSample (v : Rails)
  /-- SYSRST_N_RELEASE (R544). -/
  | sysrstNRelease (u : OtpNoise)
  /-- PCIE_LINK_UP (R622). -/
  | pcieLinkUp
  /-- SUPPLY_OUT_OF_RANGE (R540). -/
  | supplyOutOfRange (rail : Fin 8)
  /-- BACKUP_POWER (R483). -/
  | backupPower (on : Bool)
  /-- HBM_REFCLK_LONG_LOSS (R549). -/
  | hbmRefclkLongLoss
  /-- IKE_SA_REKEY (R349). -/
  | ikeSaRekey (k : Nat)
  /-- RNG_RAW_READ (R460). -/
  | rngRawRead (r : Req)
  /-- MSIX_UNMASK (R531). -/
  | msixUnmask (fn : Fin 32) (v : MsixUnmask)
  deriving DecidableEq, Repr

end Sys2Proof
end

