-- ==== Sys2Proof/Config.lean ====
section
/-! DEFINITION. What an implementation fixes or the spec leaves open: opaque constants, of which nothing can be proved
but that they are functions of their arguments. The algorithms of the standards that the spec cites (FIPS 202 to 205, SP
800-38, RFC 8439 and so on) stand here too, one constant each: the spec gives their lengths and uses, not their text. -/

namespace Sys2Proof

/-- Free values, one for each time a value that the spec leaves open is taken. -/
opaque Config.freeValue : Nat → Nat

/-- Free byte strings, in the same way. -/
opaque Config.freeBytes : Nat → List Byte

/-- The ROM dispatch table of a quadrant (R207, R219): the entry address of an (OPCODE, ALG) pair. -/
opaque Config.romEntry : (quad op alg : Nat) → Nat

/-- The ROM control store of a quadrant (R207): the microword and the nanoword at an index. -/
opaque Config.romMicro : (quad a : Nat) → Nat
opaque Config.romNano : (quad a : Nat) → Nat

/-- The grade fixed in a part (R6). -/
opaque Config.gradeCode : Nat

/-- The hash functions of R173 by ALG, with the output length of the XOFs. -/
opaque Config.hash : (alg len : Nat) → List Byte → List Byte

/-- The digest after whole blocks that already carry their padding (R423), by the hash ALG of R173. -/
opaque Config.rawHash : (alg : Nat) → List Byte → List Byte

/-- HMAC with the hash of an ALG of R383: key, message. -/
opaque Config.hmac : (alg : Nat) → List Byte → List Byte → List Byte

/-- KMAC128 and KMAC256 (SP 800-185): key, message, customisation string, output length. -/
opaque Config.kmac : (alg : Nat) → List Byte → List Byte → List Byte → Nat → List Byte

/-- The keystreams of AES-256-GCM, AES-256-CTR and ChaCha20 under a key and an IV, by ALG. -/
opaque Config.stream : (alg : Nat) → List Byte → List Byte → Nat → List Byte

/-- The 16-byte tags of AES-256-GCM and ChaCha20-Poly1305 by ALG: key, IV, AAD, ciphertext. -/
opaque Config.aeadTag : (alg : Nat) → List Byte → List Byte → List Byte → List Byte → List Byte

/-- AES-256-XTS, encryption and decryption: key, tweak, data. -/
opaque Config.xtsEnc : List Byte → List Byte → List Byte → List Byte
opaque Config.xtsDec : List Byte → List Byte → List Byte → List Byte

/-- AES-256 KW and KWP (SP 800-38F) by ALG: key, data; unwrapping answers none where the integrity check fails. -/
opaque Config.kwWrap : (alg : Nat) → List Byte → List Byte → List Byte
opaque Config.kwUnwrap : (alg : Nat) → List Byte → List Byte → Option (List Byte)

/-- Key generation of an asymmetric ALG from the bytes drawn or the seed, with the scheme's own parameters (curve,
modulus length, tree types): public key and private key. -/
opaque Config.keygen : (alg : Nat) → (params seed : List Byte) → List Byte × List Byte

/-- The number of failed attempts of a Classic McEliece KEYGEN (R192) from its seed. -/
opaque Config.mcelieceRetries : (alg : Nat) → List Byte → Nat

/-- Encapsulation: public key and message; ciphertext and shared secret. -/
opaque Config.encaps : (alg : Nat) → List Byte → List Byte → List Byte × List Byte

/-- Decapsulation, implicit rejection included: private key and ciphertext; shared secret. -/
opaque Config.decaps : (alg : Nat) → List Byte → List Byte → List Byte

/-- The internal consistency digest of a stored code-based private key holds (R190). -/
opaque Config.digestOk : (alg : Nat) → List Byte → Bool

/-- The encapsulation key check of HQC, and point validity of a public key (R190, R195, R387). -/
opaque Config.pubKeyOk : (alg params : Nat) → List Byte → Bool

/-- A key exchange: ALG, curve, private key, peer public key; none where a check of R195 fails. -/
opaque Config.exchange : (alg curve : Nat) → List Byte → List Byte → Option (List Byte)

/-- Signatures: ALG, the parameters of the job, private key, the bytes drawn, the message representative. -/
opaque Config.sign : (alg : Nat) → (params sk rnd msg : List Byte) → List Byte

/-- ML-DSA signing iterations run, the accepted one included (R146), and ECDSA nonces drawn again (R196). -/
opaque Config.signIters : (alg : Nat) → (params sk rnd msg : List Byte) → Nat

/-- Verification: ALG, parameters, public key, message representative, signature. -/
opaque Config.verify : (alg : Nat) → (params pk msg sig : List Byte) → Bool

/-- The public key that a private key holds or determines. -/
opaque Config.publicOf : (alg : Nat) → List Byte → List Byte

/-- The public-key and signature sizes and the total of leaves of a stateful key of given types (SP 800-208): ALG,
LEVELS, the TYPES bytes; none where SP 800-208 has no such parameter set. Size of the public key, of a signature,
heights of the levels from the top. -/
opaque Config.statefulSizes : (alg levels : Nat) → List Byte → Option (Nat × Nat × List Nat)

/-- The bytes of seeds that a stateful key's slot holds, and the public keys that SP 800-208 admits by length. -/
opaque Config.statefulSeedLen : (alg : Nat) → List Byte → Nat
opaque Config.statefulPkLenOk : (alg len : Nat) → Bool

/-- The hash length n of a stateful key's types, and what a blob of a stateful key says of them by its body: LEVELS, the
TYPES bytes, BLOCK_LOG2 and WARN_SHIFT (R395 gives the blob no field for them). -/
opaque Config.statefulN : (alg : Nat) → List Byte → Nat
opaque Config.blobTypes : (alg : Nat) → List Byte → Nat × List Byte × Nat × Nat

/-- The fixed internal message of the pairwise consistency test (R132). -/
opaque Config.pctMessage : (alg : Nat) → List Byte

/-- The length of a stateful public key that stands in memory, from its first 8 bytes. -/
opaque Config.statefulPkLen : (alg : Nat) → List Byte → Nat

/-- Whether a stateful signature carries the type codes of the public key (R187). -/
opaque Config.statefulTypesMatch : (alg : Nat) → (pk sig : List Byte) → Bool

/-- The security extension of IEC 62351-6 on a GOOSE or SV frame: algorithm, key ID, timestamp in ns and the MAC, and
the frame without the extension; none where it is malformed. -/
opaque Config.extDecode : List Byte → Option (Nat × Nat × Nat × List Byte × List Byte)

/-- The frame with the extension appended: frame, algorithm, key ID, timestamp; and with the MAC filled in. -/
opaque Config.extEncode : List Byte → (alg keyId ts : Nat) → (mac : List Byte) → List Byte

/-- The session header of an IEC 61850-90-5 SPDU in a UDP payload: MAC algorithm, encryption algorithm, key ID, SPDU
number, time of the key in ns and the signature, and the payload that the signature covers; none where the payload is no
SPDU. -/
opaque Config.spduDecode : List Byte → Option (Nat × Nat × Nat × Nat × Nat × List Byte × List Byte)

/-- The SPDU with its security fields filled in: payload, MAC algorithm, encryption algorithm, key ID, key times, user
data, signature; and the SPDU without session-layer security. -/
opaque Config.spduEncode : List Byte → (alg enc keyId t : Nat) → (body mac : List Byte) → List Byte
opaque Config.spduStrip : List Byte → List Byte

/-- The user data of an SPDU, encrypted or not. -/
opaque Config.spduBody : List Byte → List Byte

/-- The initialisation vector of AES-GMAC and AES-GCM on a group stream, from the frame or SPDU that it protects. -/
opaque Config.groupIv : List Byte → List Byte

/-- The SHA-384 digest of Yeliton's signing key, fixed in the boot ROM (R501, R573). -/
opaque Config.yelitonDigest : List Byte

/-- Yeliton's manufacturer identity in IDCODE (R507). -/
opaque Config.tapManufacturer : Nat

/-- Where the blob of an index lies in the KEEP_BLOBS partition: offset and length (R348, R411). -/
opaque Config.blobPlace : Nat → Nat × Nat

/-- The journal record of a UID that Cupola firmware finds in flash (R186). -/
opaque Config.journalRecord : List (Nat × Byte) → Nat → Option (List Byte)

/-- The Pdelay_Resp frame, and the Follow_Up, with which a port answers a Pdelay_Req (IEEE 1588): the request, the port,
and the time it arrived in ns. -/
opaque Config.pdelayResp : List Byte → (port rxNs : Nat) → List (List Byte)

end Sys2Proof
end

