-- ==== Sys2Proof/Machine/Regs.lean ====
section
/-! DEFINITION. Names of every register and register field of the device, at the offsets of BAR0 (R55) that
the register tables of the chapters give. `R.X` is the offset of register X; `F.X_FIELD` is the field [hi:lo] of X.
Registers of repeated blocks take the instance number, repeated registers their index. -/

namespace Sys2Proof.Machine

/-- A register field: the register's offset, its lowest bit, its width in bits (R9, R10). -/
structure Fld where
  off : Nat
  lo : Nat
  width : Nat
  deriving DecidableEq, Repr

/-- The base of an AEA engine's register block by ENGINE code (R55, R102): LT, then CBE, then CLE. -/
def aeaBase (e : Nat) : Nat :=
  if e < 0x20 then 0xA0000 + e * 0x400
  else if e < 0x28 then 0xA8000 + (e - 0x20) * 0x400
  else 0xA9000 + (e - 0x28) * 0x400

/-! ### GLB (registers of spec file 00) -/

/-- GLB_ID (R6). -/
abbrev R.GLB_ID : Nat := 0x0
abbrev F.GLB_ID_PART : Fld := ⟨R.GLB_ID, 16, 16⟩
abbrev F.GLB_ID_STEP_MAJOR : Fld := ⟨R.GLB_ID, 12, 4⟩
abbrev F.GLB_ID_STEP_MINOR : Fld := ⟨R.GLB_ID, 8, 4⟩
abbrev F.GLB_ID_GRADE : Fld := ⟨R.GLB_ID, 4, 4⟩
/-- GLB_STAT (R18). -/
abbrev R.GLB_STAT : Nat := 0x4
abbrev F.GLB_STAT_SUBWORD_WR : Fld := ⟨R.GLB_STAT, 0, 1⟩
abbrev F.GLB_STAT_DENIED_ACC : Fld := ⟨R.GLB_STAT, 1, 1⟩
abbrev F.GLB_STAT_SNAP_BUSY : Fld := ⟨R.GLB_STAT, 2, 1⟩
abbrev F.GLB_STAT_SNAP_REJECT : Fld := ⟨R.GLB_STAT, 3, 1⟩
abbrev F.GLB_STAT_DENIED_SAT : Fld := ⟨R.GLB_STAT, 31, 1⟩
/-- GLB_SNAP (R17). -/
abbrev R.GLB_SNAP : Nat := 0x8
/-- GLB_STRAP (R542). -/
abbrev R.GLB_STRAP : Nat := 0x10
abbrev F.GLB_STRAP_BOOT_SRC : Fld := ⟨R.GLB_STRAP, 0, 2⟩
abbrev F.GLB_STRAP_HOST_EN : Fld := ⟨R.GLB_STRAP, 2, 1⟩
abbrev F.GLB_STRAP_NV_IO : Fld := ⟨R.GLB_STRAP, 3, 1⟩
abbrev F.GLB_STRAP_LINE_MODE : Fld := ⟨R.GLB_STRAP, 4, 2⟩
abbrev F.GLB_STRAP_SMB_ADDR : Fld := ⟨R.GLB_STRAP, 6, 2⟩
abbrev F.GLB_STRAP_VIGIL_PORT : Fld := ⟨R.GLB_STRAP, 8, 3⟩
abbrev F.GLB_STRAP_CONFLICT : Fld := ⟨R.GLB_STRAP, 16, 1⟩
abbrev F.GLB_STRAP_LINE_OVR : Fld := ⟨R.GLB_STRAP, 17, 1⟩
abbrev F.GLB_STRAP_VIGIL_OVR : Fld := ⟨R.GLB_STRAP, 18, 1⟩
abbrev F.GLB_STRAP_VIGIL_EFF : Fld := ⟨R.GLB_STRAP, 19, 3⟩
/-- GLB_DENIED (R17). -/
abbrev R.GLB_DENIED : Nat := 0x20
/-- GLB_DENIED_ADDR (R17). -/
abbrev R.GLB_DENIED_ADDR : Nat := 0x28
abbrev F.GLB_DENIED_ADDR_OFFSET : Fld := ⟨R.GLB_DENIED_ADDR, 0, 24⟩
abbrev F.GLB_DENIED_ADDR_REQUESTER : Fld := ⟨R.GLB_DENIED_ADDR, 24, 3⟩
abbrev F.GLB_DENIED_ADDR_WRITE : Fld := ⟨R.GLB_DENIED_ADDR, 31, 1⟩
/-- GLB_QGRP (R63). -/
abbrev R.GLB_QGRP (i : Nat) : Nat := 0x200 + i * 4
abbrev F.GLB_QGRP_OWNER (i : Nat) : Fld := ⟨R.GLB_QGRP i, 0, 6⟩
abbrev F.GLB_QGRP_REJECT (i : Nat) : Fld := ⟨R.GLB_QGRP i, 16, 1⟩
/-- GLB_HOLD_FREE (R62). -/
abbrev R.GLB_HOLD_FREE : Nat := 0x280
abbrev F.GLB_HOLD_FREE_FREE : Fld := ⟨R.GLB_HOLD_FREE, 0, 14⟩
/-! ### CPM (registers of spec file 15) -/

/-- CKG_SRC_STAT (R568). -/
abbrev R.CKG_SRC_STAT : Nat := 0x10000
abbrev F.CKG_SRC_STAT_SYSCLK : Fld := ⟨R.CKG_SRC_STAT, 0, 1⟩
abbrev F.CKG_SRC_STAT_SDREFCLK_A : Fld := ⟨R.CKG_SRC_STAT, 1, 1⟩
abbrev F.CKG_SRC_STAT_SDREFCLK_B : Fld := ⟨R.CKG_SRC_STAT, 2, 1⟩
abbrev F.CKG_SRC_STAT_PCIE_REFCLK : Fld := ⟨R.CKG_SRC_STAT, 3, 1⟩
abbrev F.CKG_SRC_STAT_HBM_REFCLK : Fld := ⟨R.CKG_SRC_STAT, 4, 1⟩
abbrev F.CKG_SRC_STAT_IROSC : Fld := ⟨R.CKG_SRC_STAT, 5, 1⟩
/-- CKG_SEL (R569). -/
abbrev R.CKG_SEL : Nat := 0x10004
abbrev F.CKG_SEL_MGMT_SRC : Fld := ⟨R.CKG_SEL, 0, 1⟩
abbrev F.CKG_SEL_PTP_SRC : Fld := ⟨R.CKG_SEL, 1, 1⟩
abbrev F.CKG_SEL_VIGIL_SRC : Fld := ⟨R.CKG_SEL, 2, 1⟩
abbrev F.CKG_SEL_PTP_AUTO : Fld := ⟨R.CKG_SEL, 3, 1⟩
/-- CKG_STAT (R568). -/
abbrev R.CKG_STAT : Nat := 0x10008
abbrev F.CKG_STAT_SWITCHING : Fld := ⟨R.CKG_STAT, 0, 1⟩
abbrev F.CKG_STAT_SEL_REJECT : Fld := ⟨R.CKG_STAT, 1, 1⟩
abbrev F.CKG_STAT_FAIL : Fld := ⟨R.CKG_STAT, 8, 5⟩
/-- CKG_CBUS (R568). -/
abbrev R.CKG_CBUS : Nat := 0x1000c
abbrev F.CKG_CBUS_MUL : Fld := ⟨R.CKG_CBUS, 0, 6⟩
abbrev F.CKG_CBUS_PBUS_DIV : Fld := ⟨R.CKG_CBUS, 8, 2⟩
abbrev F.CKG_CBUS_XSPI_DIV : Fld := ⟨R.CKG_CBUS, 16, 4⟩
/-- CKG_OBS (R568). -/
abbrev R.CKG_OBS : Nat := 0x10010
abbrev F.CKG_OBS_SEL : Fld := ⟨R.CKG_OBS, 0, 6⟩
abbrev F.CKG_OBS_K : Fld := ⟨R.CKG_OBS, 8, 4⟩
/-- CKG_SYSCNT (R568). -/
abbrev R.CKG_SYSCNT : Nat := 0x10014
abbrev F.CKG_SYSCNT_COUNT : Fld := ⟨R.CKG_SYSCNT, 0, 16⟩
/-- PWR_CTL (R568). -/
abbrev R.PWR_CTL : Nat := 0x10100
abbrev F.PWR_CTL_BOOST_REQ : Fld := ⟨R.PWR_CTL, 0, 1⟩
abbrev F.PWR_CTL_BOOST_END : Fld := ⟨R.PWR_CTL, 1, 1⟩
abbrev F.PWR_CTL_VIGIL_REQ : Fld := ⟨R.PWR_CTL, 2, 1⟩
abbrev F.PWR_CTL_VIGIL_EXIT : Fld := ⟨R.PWR_CTL, 3, 1⟩
abbrev F.PWR_CTL_SYS_RESET : Fld := ⟨R.PWR_CTL, 4, 1⟩
abbrev F.PWR_CTL_CNT_CLR : Fld := ⟨R.PWR_CTL, 8, 1⟩
/-- PWR_STAT (R570). -/
abbrev R.PWR_STAT : Nat := 0x10104
abbrev F.PWR_STAT_GOV_RUN : Fld := ⟨R.PWR_STAT, 0, 1⟩
abbrev F.PWR_STAT_BOOST : Fld := ⟨R.PWR_STAT, 1, 1⟩
abbrev F.PWR_STAT_RAMP : Fld := ⟨R.PWR_STAT, 2, 1⟩
abbrev F.PWR_STAT_VIGIL : Fld := ⟨R.PWR_STAT, 3, 1⟩
abbrev F.PWR_STAT_VIGIL_TRANS : Fld := ⟨R.PWR_STAT, 4, 1⟩
abbrev F.PWR_STAT_TLIMIT : Fld := ⟨R.PWR_STAT, 5, 1⟩
abbrev F.PWR_STAT_PACE_LOW : Fld := ⟨R.PWR_STAT, 6, 1⟩
abbrev F.PWR_STAT_AVS_FAIL : Fld := ⟨R.PWR_STAT, 7, 1⟩
abbrev F.PWR_STAT_EXIT_CAUSE : Fld := ⟨R.PWR_STAT, 8, 3⟩
abbrev F.PWR_STAT_BOOST_REJECT : Fld := ⟨R.PWR_STAT, 16, 1⟩
abbrev F.PWR_STAT_VIGIL_REJECT : Fld := ⟨R.PWR_STAT, 17, 1⟩
/-- PWR_CFG (R568). -/
abbrev R.PWR_CFG : Nat := 0x10108
abbrev F.PWR_CFG_VIGIL_PIN_EN : Fld := ⟨R.PWR_CFG, 0, 1⟩
abbrev F.PWR_CFG_BOOST_EN : Fld := ⟨R.PWR_CFG, 1, 1⟩
abbrev F.PWR_CFG_BOOST_MIN_S : Fld := ⟨R.PWR_CFG, 8, 7⟩
abbrev F.PWR_CFG_LOCK : Fld := ⟨R.PWR_CFG, 31, 1⟩
/-- PWR_VCORE (R568). -/
abbrev R.PWR_VCORE : Nat := 0x1010c
abbrev F.PWR_VCORE_SETPOINT : Fld := ⟨R.PWR_VCORE, 0, 10⟩
abbrev F.PWR_VCORE_READBACK : Fld := ⟨R.PWR_VCORE, 16, 10⟩
/-- PWR_PACE (R568). -/
abbrev R.PWR_PACE : Nat := 0x10110
abbrev F.PWR_PACE_INDEX : Fld := ⟨R.PWR_PACE, 0, 10⟩
abbrev F.PWR_PACE_MONITOR : Fld := ⟨R.PWR_PACE, 16, 5⟩
abbrev F.PWR_PACE_VALID : Fld := ⟨R.PWR_PACE, 31, 1⟩
/-- PWR_PACE_TGT (R568). -/
abbrev R.PWR_PACE_TGT : Nat := 0x10114
abbrev F.PWR_PACE_TGT_TARGET : Fld := ⟨R.PWR_PACE_TGT, 0, 10⟩
/-- PWR_BOOST_CREDIT (R568). -/
abbrev R.PWR_BOOST_CREDIT : Nat := 0x10118
abbrev F.PWR_BOOST_CREDIT_CREDIT : Fld := ⟨R.PWR_BOOST_CREDIT, 0, 17⟩
/-- PWR_TJ (R568). -/
abbrev R.PWR_TJ : Nat := 0x1011c
abbrev F.PWR_TJ_TJ_MAX : Fld := ⟨R.PWR_TJ, 0, 8⟩
abbrev F.PWR_TJ_TJ_PRED : Fld := ⟨R.PWR_TJ, 8, 8⟩
abbrev F.PWR_TJ_PRED_VALID : Fld := ⟨R.PWR_TJ, 31, 1⟩
/-- PWR_THERM (R568). -/
abbrev R.PWR_THERM : Nat := 0x10120
abbrev F.PWR_THERM_TJ_BOOST : Fld := ⟨R.PWR_THERM, 0, 8⟩
abbrev F.PWR_THERM_TJ_LIMIT : Fld := ⟨R.PWR_THERM, 8, 8⟩
abbrev F.PWR_THERM_TJ_CRIT : Fld := ⟨R.PWR_THERM, 16, 8⟩
/-- PWR_BLKRST (R568). -/
abbrev R.PWR_BLKRST : Nat := 0x10124
abbrev F.PWR_BLKRST_BLK : Fld := ⟨R.PWR_BLKRST, 0, 13⟩
/-- PWR_RST_CAUSE (R568). -/
abbrev R.PWR_RST_CAUSE : Nat := 0x10128
abbrev F.PWR_RST_CAUSE_CAUSE : Fld := ⟨R.PWR_RST_CAUSE, 0, 6⟩
/-- PWR_CNT (R568). -/
abbrev R.PWR_CNT (i : Nat) : Nat := 0x10140 + i * 8
/-- PWR_SAT (R568). -/
abbrev R.PWR_SAT : Nat := 0x10178
abbrev F.PWR_SAT_SAT : Fld := ⟨R.PWR_SAT, 0, 7⟩
/-! ### LCS (registers of spec file 13) -/

/-- LCS_STATE (R510). -/
abbrev R.LCS_STATE : Nat := 0x20000
abbrev F.LCS_STATE_STATE : Fld := ⟨R.LCS_STATE, 0, 4⟩
/-- LCS_STAT (R511). -/
abbrev R.LCS_STAT : Nat := 0x20004
abbrev F.LCS_STAT_READY : Fld := ⟨R.LCS_STAT, 0, 1⟩
abbrev F.LCS_STAT_IN_TRANSITION : Fld := ⟨R.LCS_STAT, 1, 1⟩
abbrev F.LCS_STAT_ROLL_FWD : Fld := ⟨R.LCS_STAT, 2, 1⟩
abbrev F.LCS_STAT_WIPE_WAIT : Fld := ⟨R.LCS_STAT, 3, 1⟩
abbrev F.LCS_STAT_REJECT : Fld := ⟨R.LCS_STAT, 4, 1⟩
abbrev F.LCS_STAT_REJECT_CAUSE : Fld := ⟨R.LCS_STAT, 5, 3⟩
abbrev F.LCS_STAT_OTP_UNSTABLE : Fld := ⟨R.LCS_STAT, 8, 1⟩
abbrev F.LCS_STAT_INVALID_WORD : Fld := ⟨R.LCS_STAT, 9, 3⟩
abbrev F.LCS_STAT_OWNER_SET : Fld := ⟨R.LCS_STAT, 12, 1⟩
abbrev F.LCS_STAT_CHAL_VALID : Fld := ⟨R.LCS_STAT, 13, 1⟩
abbrev F.LCS_STAT_CHAL_REJECT : Fld := ⟨R.LCS_STAT, 14, 1⟩
abbrev F.LCS_STAT_TARGET : Fld := ⟨R.LCS_STAT, 16, 4⟩
/-- LCS_TRANSITION (R510). -/
abbrev R.LCS_TRANSITION : Nat := 0x20008
abbrev F.LCS_TRANSITION_TARGET : Fld := ⟨R.LCS_TRANSITION, 0, 4⟩
/-- LCS_CTL (R510). -/
abbrev R.LCS_CTL : Nat := 0x2000c
abbrev F.LCS_CTL_WIPE_DONE : Fld := ⟨R.LCS_CTL, 0, 1⟩
abbrev F.LCS_CTL_CHAL_REQ : Fld := ⟨R.LCS_CTL, 1, 1⟩
abbrev F.LCS_CTL_TOK_START : Fld := ⟨R.LCS_CTL, 2, 1⟩
abbrev F.LCS_CTL_END_DEBUG : Fld := ⟨R.LCS_CTL, 3, 1⟩
abbrev F.LCS_CTL_OWNER_PGM : Fld := ⟨R.LCS_CTL, 4, 1⟩
abbrev F.LCS_CTL_CNT_CLR : Fld := ⟨R.LCS_CTL, 8, 1⟩
/-- LCS_W_RAW (R510). -/
abbrev R.LCS_W_RAW (i : Nat) : Nat := 0x20010 + i * 4
/-- LCS_DBG_STAT (R510). -/
abbrev R.LCS_DBG_STAT : Nat := 0x20024
abbrev F.LCS_DBG_STAT_SESSION : Fld := ⟨R.LCS_DBG_STAT, 0, 1⟩
abbrev F.LCS_DBG_STAT_AUTHORITY : Fld := ⟨R.LCS_DBG_STAT, 1, 1⟩
abbrev F.LCS_DBG_STAT_BLANK_OPEN : Fld := ⟨R.LCS_DBG_STAT, 2, 1⟩
abbrev F.LCS_DBG_STAT_SCOPES : Fld := ⟨R.LCS_DBG_STAT, 8, 8⟩
/-- LCS_DBG_REMAIN (R510). -/
abbrev R.LCS_DBG_REMAIN : Nat := 0x20028
abbrev F.LCS_DBG_REMAIN_SECONDS : Fld := ⟨R.LCS_DBG_REMAIN, 0, 17⟩
/-- LCS_TOK_ADDR (R510). -/
abbrev R.LCS_TOK_ADDR : Nat := 0x2002c
/-- LCS_TOK_LEN (R510). -/
abbrev R.LCS_TOK_LEN : Nat := 0x20030
/-- LCS_TOK_RES (R510). -/
abbrev R.LCS_TOK_RES : Nat := 0x20034
abbrev F.LCS_TOK_RES_CODE : Fld := ⟨R.LCS_TOK_RES, 0, 4⟩
abbrev F.LCS_TOK_RES_BUSY : Fld := ⟨R.LCS_TOK_RES, 31, 1⟩
/-- LCS_CHAL (R510). -/
abbrev R.LCS_CHAL (i : Nat) : Nat := 0x20040 + i * 4
/-- LCS_OWN_DIG (R510). -/
abbrev R.LCS_OWN_DIG (i : Nat) : Nat := 0x20060 + i * 4
/-- LCS_CNT (R510). -/
abbrev R.LCS_CNT (i : Nat) : Nat := 0x20100 + i * 8
/-- LCS_SAT (R510). -/
abbrev R.LCS_SAT : Nat := 0x20128
abbrev F.LCS_SAT_SAT : Fld := ⟨R.LCS_SAT, 0, 5⟩
/-! ### FCR (registers of spec file 14) -/

/-- FLT_CTL (R536). -/
abbrev R.FLT_CTL : Nat := 0x30000
abbrev F.FLT_CTL_RESUME : Fld := ⟨R.FLT_CTL, 0, 1⟩
abbrev F.FLT_CTL_LD_CLR : Fld := ⟨R.FLT_CTL, 1, 1⟩
abbrev F.FLT_CTL_CNT_CLR : Fld := ⟨R.FLT_CTL, 8, 1⟩
/-- FLT_STAT (R537). -/
abbrev R.FLT_STAT : Nat := 0x30004
abbrev F.FLT_STAT_FIRST_VALID : Fld := ⟨R.FLT_STAT, 0, 1⟩
abbrev F.FLT_STAT_OVERFLOW : Fld := ⟨R.FLT_STAT, 1, 1⟩
abbrev F.FLT_STAT_REACT_BUSY : Fld := ⟨R.FLT_STAT, 2, 1⟩
abbrev F.FLT_STAT_QUIESCED : Fld := ⟨R.FLT_STAT, 3, 1⟩
abbrev F.FLT_STAT_WINDOW : Fld := ⟨R.FLT_STAT, 4, 1⟩
abbrev F.FLT_STAT_SEQ_GAP : Fld := ⟨R.FLT_STAT, 5, 1⟩
abbrev F.FLT_STAT_MSG_OVF : Fld := ⟨R.FLT_STAT, 6, 1⟩
abbrev F.FLT_STAT_MAP_REJECT : Fld := ⟨R.FLT_STAT, 7, 1⟩
abbrev F.FLT_STAT_FAULT_N : Fld := ⟨R.FLT_STAT, 8, 1⟩
/-- FLT_CFG (R536). -/
abbrev R.FLT_CFG : Nat := 0x30008
abbrev F.FLT_CFG_PIN_LEVEL : Fld := ⟨R.FLT_CFG, 0, 3⟩
abbrev F.FLT_CFG_LOCK : Fld := ⟨R.FLT_CFG, 31, 1⟩
/-- FLT_FIRST_LO (R536). -/
abbrev R.FLT_FIRST_LO : Nat := 0x30010
/-- FLT_FIRST_HI (R536). -/
abbrev R.FLT_FIRST_HI : Nat := 0x30014
/-- FLT_FIRST_INFO (R536). -/
abbrev R.FLT_FIRST_INFO : Nat := 0x30018
abbrev F.FLT_FIRST_INFO_LEVEL : Fld := ⟨R.FLT_FIRST_INFO, 0, 3⟩
abbrev F.FLT_FIRST_INFO_RTAG : Fld := ⟨R.FLT_FIRST_INFO, 16, 15⟩
abbrev F.FLT_FIRST_INFO_VALID : Fld := ⟨R.FLT_FIRST_INFO, 31, 1⟩
/-- FLT_FIRST_TIME_LO (R536). -/
abbrev R.FLT_FIRST_TIME_LO : Nat := 0x30020
/-- FLT_FIRST_TIME_HI (R536). -/
abbrev R.FLT_FIRST_TIME_HI : Nat := 0x30024
/-- FLT_COUNT (R536). -/
abbrev R.FLT_COUNT : Nat := 0x30028
abbrev F.FLT_COUNT_COUNT : Fld := ⟨R.FLT_COUNT, 0, 16⟩
/-- FLT_STICKY (R536). -/
abbrev R.FLT_STICKY : Nat := 0x3002c
/-- FLT_SRC_LIVE (R536). -/
abbrev R.FLT_SRC_LIVE : Nat := 0x30030
/-- FLT_REACT (R536). -/
abbrev R.FLT_REACT : Nat := 0x30034
abbrev F.FLT_REACT_LEVEL : Fld := ⟨R.FLT_REACT, 0, 3⟩
abbrev F.FLT_REACT_BUSY : Fld := ⟨R.FLT_REACT, 3, 1⟩
abbrev F.FLT_REACT_RTAG : Fld := ⟨R.FLT_REACT, 16, 16⟩
/-- FLT_MSG0 (R536). -/
abbrev R.FLT_MSG0 : Nat := 0x30040
/-- FLT_MSG1 (R536). -/
abbrev R.FLT_MSG1 : Nat := 0x30044
/-- FLT_MSG2 (R536). -/
abbrev R.FLT_MSG2 : Nat := 0x30048
/-- FLT_MSG3 (R536). -/
abbrev R.FLT_MSG3 : Nat := 0x3004c
/-- FLT_MSG_CNT (R536). -/
abbrev R.FLT_MSG_CNT : Nat := 0x30050
abbrev F.FLT_MSG_CNT_COUNT : Fld := ⟨R.FLT_MSG_CNT, 0, 9⟩
/-- FLT_LOCKDOWN_LO (R536). -/
abbrev R.FLT_LOCKDOWN_LO : Nat := 0x30058
/-- FLT_LOCKDOWN_HI (R536). -/
abbrev R.FLT_LOCKDOWN_HI : Nat := 0x3005c
/-- FLT_MAP (R536). -/
abbrev R.FLT_MAP (i : Nat) : Nat := 0x30080 + i * 4
abbrev F.FLT_MAP_LEVEL (i : Nat) : Fld := ⟨R.FLT_MAP i, 0, 3⟩
/-- FLT_KCNT (R536). -/
abbrev R.FLT_KCNT (i : Nat) : Nat := 0x30100 + i * 8
/-- FLT_KSAT (R536). -/
abbrev R.FLT_KSAT : Nat := 0x30200
/-! ### BLF (registers of spec file 12) -/

/-- BLF_CTL (R487). -/
abbrev R.BLF_CTL : Nat := 0x40000
abbrev F.BLF_CTL_SELFTEST : Fld := ⟨R.BLF_CTL, 0, 1⟩
abbrev F.BLF_CTL_CNT_CLR : Fld := ⟨R.BLF_CTL, 8, 1⟩
abbrev F.BLF_CTL_LOCK : Fld := ⟨R.BLF_CTL, 31, 1⟩
/-- BLF_STAT (R488). -/
abbrev R.BLF_STAT : Nat := 0x40004
abbrev F.BLF_STAT_READY : Fld := ⟨R.BLF_STAT, 0, 1⟩
abbrev F.BLF_STAT_START_WINDOW : Fld := ⟨R.BLF_STAT, 1, 1⟩
abbrev F.BLF_STAT_FILTERING : Fld := ⟨R.BLF_STAT, 2, 1⟩
abbrev F.BLF_STAT_ST_BUSY : Fld := ⟨R.BLF_STAT, 3, 1⟩
abbrev F.BLF_STAT_ST_FAIL : Fld := ⟨R.BLF_STAT, 4, 1⟩
abbrev F.BLF_STAT_CFG_REJECT : Fld := ⟨R.BLF_STAT, 5, 1⟩
abbrev F.BLF_STAT_SINGLE : Fld := ⟨R.BLF_STAT, 6, 1⟩
/-- BLF_ST_SEL (R487). -/
abbrev R.BLF_ST_SEL : Nat := 0x40008
abbrev F.BLF_ST_SEL_SOURCES : Fld := ⟨R.BLF_ST_SEL, 0, 16⟩
abbrev F.BLF_ST_SEL_DET_A : Fld := ⟨R.BLF_ST_SEL, 16, 1⟩
abbrev F.BLF_ST_SEL_DET_B : Fld := ⟨R.BLF_ST_SEL, 17, 1⟩
/-- BLF_ST_RES (R487). -/
abbrev R.BLF_ST_RES : Nat := 0x4000c
abbrev F.BLF_ST_RES_FAILED_A : Fld := ⟨R.BLF_ST_RES, 0, 16⟩
abbrev F.BLF_ST_RES_FAILED_B : Fld := ⟨R.BLF_ST_RES, 16, 16⟩
/-- BLF_LIVE (R487). -/
abbrev R.BLF_LIVE : Nat := 0x40010
abbrev F.BLF_LIVE_SOURCES : Fld := ⟨R.BLF_LIVE, 0, 16⟩
/-- BLF_LATCH (R487). -/
abbrev R.BLF_LATCH : Nat := 0x40014
abbrev F.BLF_LATCH_SOURCES : Fld := ⟨R.BLF_LATCH, 0, 16⟩
/-- BLF_DISAGREE (R487). -/
abbrev R.BLF_DISAGREE : Nat := 0x40018
abbrev F.BLF_DISAGREE_SOURCES : Fld := ⟨R.BLF_DISAGREE, 0, 16⟩
/-- BLF_FAULTY (R487). -/
abbrev R.BLF_FAULTY : Nat := 0x4001c
abbrev F.BLF_FAULTY_FAULTY_A : Fld := ⟨R.BLF_FAULTY, 0, 16⟩
abbrev F.BLF_FAULTY_FAULTY_B : Fld := ⟨R.BLF_FAULTY, 16, 16⟩
/-- BLF_FUSED (R487). -/
abbrev R.BLF_FUSED : Nat := 0x40020
abbrev F.BLF_FUSED_FUSED_A : Fld := ⟨R.BLF_FUSED, 0, 16⟩
abbrev F.BLF_FUSED_FUSED_B : Fld := ⟨R.BLF_FUSED, 16, 16⟩
/-- BLF_FILT (R487). -/
abbrev R.BLF_FILT : Nat := 0x40024
abbrev F.BLF_FILT_N : Fld := ⟨R.BLF_FILT, 0, 4⟩
abbrev F.BLF_FILT_W : Fld := ⟨R.BLF_FILT, 16, 16⟩
/-- BLF_FUSE_PGM (R487). -/
abbrev R.BLF_FUSE_PGM : Nat := 0x40028
abbrev F.BLF_FUSE_PGM_SOURCE : Fld := ⟨R.BLF_FUSE_PGM, 0, 4⟩
abbrev F.BLF_FUSE_PGM_DET_A : Fld := ⟨R.BLF_FUSE_PGM, 8, 1⟩
abbrev F.BLF_FUSE_PGM_DET_B : Fld := ⟨R.BLF_FUSE_PGM, 9, 1⟩
abbrev F.BLF_FUSE_PGM_GO : Fld := ⟨R.BLF_FUSE_PGM, 31, 1⟩
/-- BLF_SRC_CFG (R487). -/
abbrev R.BLF_SRC_CFG (i : Nat) : Nat := 0x40040 + i * 4
abbrev F.BLF_SRC_CFG_LEVEL (i : Nat) : Fld := ⟨R.BLF_SRC_CFG i, 0, 3⟩
abbrev F.BLF_SRC_CFG_POLICY (i : Nat) : Fld := ⟨R.BLF_SRC_CFG i, 4, 1⟩
/-- BLF_BAT_STAT (R489). -/
abbrev R.BLF_BAT_STAT : Nat := 0x40080
abbrev F.BLF_BAT_STAT_EVT : Fld := ⟨R.BLF_BAT_STAT, 0, 5⟩
abbrev F.BLF_BAT_STAT_BAT_TCNT : Fld := ⟨R.BLF_BAT_STAT, 8, 4⟩
abbrev F.BLF_BAT_STAT_VBAT_FRESH : Fld := ⟨R.BLF_BAT_STAT, 16, 1⟩
abbrev F.BLF_BAT_STAT_VBAT_LOW : Fld := ⟨R.BLF_BAT_STAT, 17, 1⟩
abbrev F.BLF_BAT_STAT_ON_BACKUP : Fld := ⟨R.BLF_BAT_STAT, 18, 1⟩
/-- BLF_BAT_CTL (R487). -/
abbrev R.BLF_BAT_CTL : Nat := 0x40084
abbrev F.BLF_BAT_CTL_CLR_EVT : Fld := ⟨R.BLF_BAT_CTL, 0, 1⟩
abbrev F.BLF_BAT_CTL_CLR_FRESH : Fld := ⟨R.BLF_BAT_CTL, 1, 1⟩
/-- BLF_BAT_TLIM (R487). -/
abbrev R.BLF_BAT_TLIM : Nat := 0x40088
abbrev F.BLF_BAT_TLIM_T_LO : Fld := ⟨R.BLF_BAT_TLIM, 0, 8⟩
abbrev F.BLF_BAT_TLIM_T_HI : Fld := ⟨R.BLF_BAT_TLIM, 8, 8⟩
/-- BLF_BAT_TEMP (R487). -/
abbrev R.BLF_BAT_TEMP : Nat := 0x4008c
abbrev F.BLF_BAT_TEMP_TEMP : Fld := ⟨R.BLF_BAT_TEMP, 0, 8⟩
/-- BLF_ALM_CNT (R487). -/
abbrev R.BLF_ALM_CNT (i : Nat) : Nat := 0x40100 + i * 8
/-- BLF_DIS_CNT (R487). -/
abbrev R.BLF_DIS_CNT (i : Nat) : Nat := 0x40180 + i * 8
/-- BLF_FILTC (R487). -/
abbrev R.BLF_FILTC (i : Nat) : Nat := 0x40200 + i * 8
/-- BLF_SAT0 (R487). -/
abbrev R.BLF_SAT0 : Nat := 0x40280
abbrev F.BLF_SAT0_SAT : Fld := ⟨R.BLF_SAT0, 0, 16⟩
/-- BLF_SAT1 (R487). -/
abbrev R.BLF_SAT1 : Nat := 0x40284
abbrev F.BLF_SAT1_SAT : Fld := ⟨R.BLF_SAT1, 0, 16⟩
/-- BLF_SAT2 (R487). -/
abbrev R.BLF_SAT2 : Nat := 0x40288
abbrev F.BLF_SAT2_SAT : Fld := ⟨R.BLF_SAT2, 0, 16⟩
/-! ### RNG (registers of spec file 11) -/

/-- RNG_CTL (R463). -/
abbrev R.RNG_CTL : Nat := 0x50000
abbrev F.RNG_CTL_RESTART : Fld := ⟨R.RNG_CTL, 0, 1⟩
abbrev F.RNG_CTL_CNT_CLR : Fld := ⟨R.RNG_CTL, 8, 1⟩
abbrev F.RNG_CTL_LOCK : Fld := ⟨R.RNG_CTL, 31, 1⟩
/-- RNG_STAT (R464). -/
abbrev R.RNG_STAT : Nat := 0x50004
abbrev F.RNG_STAT_STATE : Fld := ⟨R.RNG_STAT, 0, 3⟩
abbrev F.RNG_STAT_VALID : Fld := ⟨R.RNG_STAT, 3, 1⟩
abbrev F.RNG_STAT_EMPTY_READ : Fld := ⟨R.RNG_STAT, 4, 1⟩
abbrev F.RNG_STAT_RESTART_REJECT : Fld := ⟨R.RNG_STAT, 5, 1⟩
abbrev F.RNG_STAT_CFG_REJECT : Fld := ⟨R.RNG_STAT, 6, 1⟩
abbrev F.RNG_STAT_FINAL : Fld := ⟨R.RNG_STAT, 7, 1⟩
abbrev F.RNG_STAT_RESTARTS : Fld := ⟨R.RNG_STAT, 8, 2⟩
abbrev F.RNG_STAT_FAIL_CAUSE : Fld := ⟨R.RNG_STAT, 12, 4⟩
/-- RNG_MIN_SRC (R463). -/
abbrev R.RNG_MIN_SRC : Nat := 0x50008
abbrev F.RNG_MIN_SRC_MIN : Fld := ⟨R.RNG_MIN_SRC, 0, 4⟩
/-- RNG_WAIT_MAX (R463). -/
abbrev R.RNG_WAIT_MAX : Nat := 0x5000c
abbrev F.RNG_WAIT_MAX_MS : Fld := ⟨R.RNG_WAIT_MAX, 0, 10⟩
/-- RNG_RESEED (R463). -/
abbrev R.RNG_RESEED : Nat := 0x50010
abbrev F.RNG_RESEED_RESEED_LOG2 : Fld := ⟨R.RNG_RESEED, 0, 5⟩
/-- RNG_SRC_STAT (R465). -/
abbrev R.RNG_SRC_STAT : Nat := 0x50014
abbrev F.RNG_SRC_STAT_LIVE : Fld := ⟨R.RNG_SRC_STAT, 0, 8⟩
abbrev F.RNG_SRC_STAT_ISOLATED : Fld := ⟨R.RNG_SRC_STAT, 8, 8⟩
abbrev F.RNG_SRC_STAT_STARTUP_FAIL : Fld := ⟨R.RNG_SRC_STAT, 16, 8⟩
abbrev F.RNG_SRC_STAT_PERMANENT : Fld := ⟨R.RNG_SRC_STAT, 24, 8⟩
/-- RNG_SRC_CAUSE (R463). -/
abbrev R.RNG_SRC_CAUSE : Nat := 0x50018
/-- RNG_DRBG_STAT (R463). -/
abbrev R.RNG_DRBG_STAT : Nat := 0x5001c
abbrev F.RNG_DRBG_STAT_INST : Fld := ⟨R.RNG_DRBG_STAT, 0, 16⟩
abbrev F.RNG_DRBG_STAT_WAITING : Fld := ⟨R.RNG_DRBG_STAT, 16, 16⟩
/-- RNG_DATA (R463). -/
abbrev R.RNG_DATA : Nat := 0x50020
/-- RNG_RAWSEL (R463). -/
abbrev R.RNG_RAWSEL : Nat := 0x50028
abbrev F.RNG_RAWSEL_SOURCE : Fld := ⟨R.RNG_RAWSEL, 0, 3⟩
abbrev F.RNG_RAWSEL_EN : Fld := ⟨R.RNG_RAWSEL, 31, 1⟩
/-- RNG_RAW (R463). -/
abbrev R.RNG_RAW : Nat := 0x5002c
/-- RNG_CNT (R463). -/
abbrev R.RNG_CNT (i : Nat) : Nat := 0x50040 + i * 8
/-- RNG_SAT (R463). -/
abbrev R.RNG_SAT : Nat := 0x50080
abbrev F.RNG_SAT_SAT : Fld := ⟨R.RNG_SAT, 0, 8⟩
/-! ### KEEP (registers of spec file 09) -/

/-- KEEP_CTL (R408). -/
abbrev R.KEEP_CTL : Nat := 0x60000
abbrev F.KEEP_CTL_ERASE_ALL : Fld := ⟨R.KEEP_CTL, 0, 1⟩
abbrev F.KEEP_CTL_CNT_CLR : Fld := ⟨R.KEEP_CTL, 8, 1⟩
/-- KEEP_STAT (R409). -/
abbrev R.KEEP_STAT : Nat := 0x60004
abbrev F.KEEP_STAT_READY : Fld := ⟨R.KEEP_STAT, 0, 1⟩
abbrev F.KEEP_STAT_DS_OK : Fld := ⟨R.KEEP_STAT, 1, 1⟩
abbrev F.KEEP_STAT_BBK_VALID : Fld := ⟨R.KEEP_STAT, 2, 1⟩
abbrev F.KEEP_STAT_BBK_LOST : Fld := ⟨R.KEEP_STAT, 3, 1⟩
abbrev F.KEEP_STAT_ZEROIZING : Fld := ⟨R.KEEP_STAT, 4, 1⟩
abbrev F.KEEP_STAT_LOBJ_LOST : Fld := ⟨R.KEEP_STAT, 5, 1⟩
abbrev F.KEEP_STAT_SFEVT_OVF : Fld := ⟨R.KEEP_STAT, 6, 1⟩
abbrev F.KEEP_STAT_ZERO_FAIL : Fld := ⟨R.KEEP_STAT, 7, 1⟩
/-- KEEP_CFG (R410). -/
abbrev R.KEEP_CFG : Nat := 0x60008
abbrev F.KEEP_CFG_WRAP_MEM_EN : Fld := ⟨R.KEEP_CFG, 0, 1⟩
abbrev F.KEEP_CFG_CLR_ASYM_EN : Fld := ⟨R.KEEP_CFG, 1, 1⟩
abbrev F.KEEP_CFG_LOCK : Fld := ⟨R.KEEP_CFG, 31, 1⟩
/-- KEEP_CLR_MASK (R408). -/
abbrev R.KEEP_CLR_MASK : Nat := 0x6000c
/-- KEEP_USED (R408). -/
abbrev R.KEEP_USED : Nat := 0x60010
abbrev F.KEEP_USED_SLOTS : Fld := ⟨R.KEEP_USED, 0, 15⟩
abbrev F.KEEP_USED_FREE_GRANULES : Fld := ⟨R.KEEP_USED, 16, 15⟩
/-- KEEP_LOBJ_FREE (R408). -/
abbrev R.KEEP_LOBJ_FREE : Nat := 0x60014
abbrev F.KEEP_LOBJ_FREE_EXTENTS : Fld := ⟨R.KEEP_LOBJ_FREE, 0, 22⟩
/-- KEEP_CELLS_FREE (R408). -/
abbrev R.KEEP_CELLS_FREE : Nat := 0x60018
abbrev F.KEEP_CELLS_FREE_CELLS : Fld := ⟨R.KEEP_CELLS_FREE, 0, 7⟩
/-- KEEP_SFEVT (R408). -/
abbrev R.KEEP_SFEVT : Nat := 0x6001c
abbrev F.KEEP_SFEVT_SLOT : Fld := ⟨R.KEEP_SFEVT, 0, 14⟩
abbrev F.KEEP_SFEVT_KIND : Fld := ⟨R.KEEP_SFEVT, 16, 4⟩
abbrev F.KEEP_SFEVT_VALID : Fld := ⟨R.KEEP_SFEVT, 31, 1⟩
/-- KEEP_DEVID (R408). -/
abbrev R.KEEP_DEVID (i : Nat) : Nat := 0x60020 + i * 4
/-- KEEP_BBK_CTL (R408). -/
abbrev R.KEEP_BBK_CTL : Nat := 0x60030
abbrev F.KEEP_BBK_CTL_GEN : Fld := ⟨R.KEEP_BBK_CTL, 0, 1⟩
/-- KEEP_BBK_GEN (R408). -/
abbrev R.KEEP_BBK_GEN : Nat := 0x60034
/-- KEEP_QSEL (R408). -/
abbrev R.KEEP_QSEL : Nat := 0x60038
abbrev F.KEEP_QSEL_SLOT : Fld := ⟨R.KEEP_QSEL, 0, 14⟩
/-- KEEP_QINFO0 (R408). -/
abbrev R.KEEP_QINFO0 : Nat := 0x6003c
/-- KEEP_QINFO1 (R408). -/
abbrev R.KEEP_QINFO1 : Nat := 0x60040
abbrev F.KEEP_QINFO1_ALG : Fld := ⟨R.KEEP_QINFO1, 0, 16⟩
abbrev F.KEEP_QINFO1_CELL : Fld := ⟨R.KEEP_QINFO1, 16, 6⟩
/-- KEEP_QINFO2 (R408). -/
abbrev R.KEEP_QINFO2 : Nat := 0x60044
/-- KEEP_QINFO3 (R408). -/
abbrev R.KEEP_QINFO3 : Nat := 0x60048
abbrev F.KEEP_QINFO3_KEY_LEN : Fld := ⟨R.KEEP_QINFO3, 0, 21⟩
/-- KEEP_BL_ADDR (R408). -/
abbrev R.KEEP_BL_ADDR : Nat := 0x60050
/-- KEEP_BL_LEN (R408). -/
abbrev R.KEEP_BL_LEN : Nat := 0x60054
/-- KEEP_BL_CMD (R408). -/
abbrev R.KEEP_BL_CMD : Nat := 0x60058
abbrev F.KEEP_BL_CMD_TARGET : Fld := ⟨R.KEEP_BL_CMD, 0, 14⟩
abbrev F.KEEP_BL_CMD_ANY : Fld := ⟨R.KEEP_BL_CMD, 14, 1⟩
abbrev F.KEEP_BL_CMD_START : Fld := ⟨R.KEEP_BL_CMD, 31, 1⟩
/-- KEEP_BL_RES (R408). -/
abbrev R.KEEP_BL_RES : Nat := 0x6005c
abbrev F.KEEP_BL_RES_STATUS : Fld := ⟨R.KEEP_BL_RES, 0, 8⟩
abbrev F.KEEP_BL_RES_DETAIL : Fld := ⟨R.KEEP_BL_RES, 8, 24⟩
/-- KEEP_BL_HANDLE (R408). -/
abbrev R.KEEP_BL_HANDLE : Nat := 0x60060
/-- KEEP_JR_STAT (R408). -/
abbrev R.KEEP_JR_STAT : Nat := 0x60080
abbrev F.KEEP_JR_STAT_REQ : Fld := ⟨R.KEEP_JR_STAT, 0, 1⟩
abbrev F.KEEP_JR_STAT_SEEK : Fld := ⟨R.KEEP_JR_STAT, 1, 1⟩
abbrev F.KEEP_JR_STAT_CELL : Fld := ⟨R.KEEP_JR_STAT, 8, 6⟩
/-- KEEP_JR_CMD (R408). -/
abbrev R.KEEP_JR_CMD : Nat := 0x60084
abbrev F.KEEP_JR_CMD_ACK : Fld := ⟨R.KEEP_JR_CMD, 0, 1⟩
abbrev F.KEEP_JR_CMD_FAIL : Fld := ⟨R.KEEP_JR_CMD, 1, 1⟩
abbrev F.KEEP_JR_CMD_PRESENT : Fld := ⟨R.KEEP_JR_CMD, 2, 1⟩
abbrev F.KEEP_JR_CMD_NONE_LEFT : Fld := ⟨R.KEEP_JR_CMD, 3, 1⟩
/-- KEEP_JR_REC (R408). -/
abbrev R.KEEP_JR_REC (i : Nat) : Nat := 0x600c0 + i * 4
/-- KEEP_CNT (R408). -/
abbrev R.KEEP_CNT (i : Nat) : Nat := 0x60100 + i * 8
/-- KEEP_SAT (R408). -/
abbrev R.KEEP_SAT : Nat := 0x60148
abbrev F.KEEP_SAT_SAT : Fld := ⟨R.KEEP_SAT, 0, 9⟩
/-! ### DKE_CH (registers of spec file 10) -/

/-- DKE_CH_LOCK (R440). -/
abbrev R.DKE_CH_LOCK (n : Nat) : Nat := 0x70000 + n * 0x200
abbrev F.DKE_CH_LOCK_TAKE (n : Nat) : Fld := ⟨R.DKE_CH_LOCK n, 0, 1⟩
abbrev F.DKE_CH_LOCK_RELEASE (n : Nat) : Fld := ⟨R.DKE_CH_LOCK n, 1, 1⟩
abbrev F.DKE_CH_LOCK_FORCE (n : Nat) : Fld := ⟨R.DKE_CH_LOCK n, 2, 1⟩
abbrev F.DKE_CH_LOCK_MINE (n : Nat) : Fld := ⟨R.DKE_CH_LOCK n, 8, 1⟩
abbrev F.DKE_CH_LOCK_BUSY (n : Nat) : Fld := ⟨R.DKE_CH_LOCK n, 9, 1⟩
abbrev F.DKE_CH_LOCK_PENDING (n : Nat) : Fld := ⟨R.DKE_CH_LOCK n, 10, 1⟩
abbrev F.DKE_CH_LOCK_HOLDER (n : Nat) : Fld := ⟨R.DKE_CH_LOCK n, 12, 2⟩
/-- DKE_CTL (R439). -/
abbrev R.DKE_CTL (n : Nat) : Nat := 0x70000 + n * 0x200 + 0x4
abbrev F.DKE_CTL_START (n : Nat) : Fld := ⟨R.DKE_CTL n, 0, 1⟩
abbrev F.DKE_CTL_ABORT (n : Nat) : Fld := ⟨R.DKE_CTL n, 1, 1⟩
abbrev F.DKE_CTL_CLEAR (n : Nat) : Fld := ⟨R.DKE_CTL n, 2, 1⟩
/-- DKE_STAT (R441). -/
abbrev R.DKE_STAT (n : Nat) : Nat := 0x70000 + n * 0x200 + 0x8
abbrev F.DKE_STAT_STATE (n : Nat) : Fld := ⟨R.DKE_STAT n, 0, 3⟩
abbrev F.DKE_STAT_EARLY_READ (n : Nat) : Fld := ⟨R.DKE_STAT n, 8, 1⟩
abbrev F.DKE_STAT_RES_DENIED (n : Nat) : Fld := ⟨R.DKE_STAT n, 9, 1⟩
abbrev F.DKE_STAT_CTL_REJECT (n : Nat) : Fld := ⟨R.DKE_STAT n, 10, 1⟩
abbrev F.DKE_STAT_CMP_FAULT (n : Nat) : Fld := ⟨R.DKE_STAT n, 11, 1⟩
abbrev F.DKE_STAT_ERR (n : Nat) : Fld := ⟨R.DKE_STAT n, 16, 8⟩
abbrev F.DKE_STAT_ERR_INFO (n : Nat) : Fld := ⟨R.DKE_STAT n, 24, 8⟩
/-- DKE_MODE (R441). -/
abbrev R.DKE_MODE (n : Nat) : Nat := 0x70000 + n * 0x200 + 0xc
abbrev F.DKE_MODE_FUNC (n : Nat) : Fld := ⟨R.DKE_MODE n, 0, 4⟩
abbrev F.DKE_MODE_COMPARE (n : Nat) : Fld := ⟨R.DKE_MODE n, 8, 1⟩
abbrev F.DKE_MODE_CMP_LEN (n : Nat) : Fld := ⟨R.DKE_MODE n, 16, 7⟩
/-- DKE_KEY (R439). -/
abbrev R.DKE_KEY (n : Nat) : Nat := 0x70000 + n * 0x200 + 0x10
/-- DKE_CMP (R439). -/
abbrev R.DKE_CMP (n : Nat) : Nat := 0x70000 + n * 0x200 + 0x14
abbrev F.DKE_CMP_FLAGS (n : Nat) : Fld := ⟨R.DKE_CMP n, 0, 16⟩
/-- DKE_BYTES_LO (R439). -/
abbrev R.DKE_BYTES_LO (n : Nat) : Nat := 0x70000 + n * 0x200 + 0x18
/-- DKE_BYTES_HI (R439). -/
abbrev R.DKE_BYTES_HI (n : Nat) : Nat := 0x70000 + n * 0x200 + 0x1c
/-- DKE_EXP (R439). -/
abbrev R.DKE_EXP (n : Nat) (i : Nat) : Nat := 0x70000 + n * 0x200 + 0x40 + i * 4
/-- DKE_RES (R439). -/
abbrev R.DKE_RES (n : Nat) (i : Nat) : Nat := 0x70000 + n * 0x200 + 0x80 + i * 4
/-! ### DKE_COM (registers of spec file 10) -/

/-- DKE_CFG (R442). -/
abbrev R.DKE_CFG : Nat := 0x70800
abbrev F.DKE_CFG_MAX_LOCKS : Fld := ⟨R.DKE_CFG, 0, 3⟩
abbrev F.DKE_CFG_CMP_MIN : Fld := ⟨R.DKE_CFG, 8, 7⟩
abbrev F.DKE_CFG_LOCK : Fld := ⟨R.DKE_CFG, 31, 1⟩
/-- DKE_GSTAT (R442). -/
abbrev R.DKE_GSTAT : Nat := 0x70804
abbrev F.DKE_GSTAT_HELD : Fld := ⟨R.DKE_GSTAT, 0, 4⟩
abbrev F.DKE_GSTAT_QUEUE : Fld := ⟨R.DKE_GSTAT, 4, 4⟩
/-- DKE_CNT (R442). -/
abbrev R.DKE_CNT (i : Nat) : Nat := 0x70810 + i * 8
/-- DKE_SAT (R442). -/
abbrev R.DKE_SAT : Nat := 0x70850
abbrev F.DKE_SAT_SAT : Fld := ⟨R.DKE_SAT, 0, 8⟩
/-- DKE_GCTL (R442). -/
abbrev R.DKE_GCTL : Nat := 0x70854
abbrev F.DKE_GCTL_CNT_CLR : Fld := ⟨R.DKE_GCTL, 0, 1⟩
/-! ### SFI (registers of spec file 10) -/

/-- SFI_DATA (R443). -/
abbrev R.SFI_DATA (n : Nat) : Nat := 0x78000 + n * 0x100
/-- SFI_EOP (R443). -/
abbrev R.SFI_EOP (n : Nat) (i : Nat) : Nat := 0x78000 + n * 0x100 + 0x10 + i * 4
/-- SFI_CTL (R443). -/
abbrev R.SFI_CTL (n : Nat) : Nat := 0x78000 + n * 0x100 + 0x20
abbrev F.SFI_CTL_FLUSH (n : Nat) : Fld := ⟨R.SFI_CTL n, 0, 1⟩
abbrev F.SFI_CTL_ABORT_PKT (n : Nat) : Fld := ⟨R.SFI_CTL n, 1, 1⟩
/-- SFI_STAT (R444). -/
abbrev R.SFI_STAT (n : Nat) : Nat := 0x78000 + n * 0x100 + 0x24
abbrev F.SFI_STAT_LEVEL (n : Nat) : Fld := ⟨R.SFI_STAT n, 0, 13⟩
abbrev F.SFI_STAT_PKT_OPEN (n : Nat) : Fld := ⟨R.SFI_STAT n, 16, 1⟩
abbrev F.SFI_STAT_DROPPING (n : Nat) : Fld := ⟨R.SFI_STAT n, 17, 1⟩
abbrev F.SFI_STAT_OVF (n : Nat) : Fld := ⟨R.SFI_STAT n, 24, 1⟩
abbrev F.SFI_STAT_UNDERRUN (n : Nat) : Fld := ⟨R.SFI_STAT n, 25, 1⟩
/-- SFI_FREE (R443). -/
abbrev R.SFI_FREE (n : Nat) : Nat := 0x78000 + n * 0x100 + 0x28
abbrev F.SFI_FREE_BYTES (n : Nat) : Fld := ⟨R.SFI_FREE n, 0, 13⟩
/-- SFI_CFG (R443). -/
abbrev R.SFI_CFG (n : Nat) : Nat := 0x78000 + n * 0x100 + 0x2c
abbrev F.SFI_CFG_UNDERRUN_US (n : Nat) : Fld := ⟨R.SFI_CFG n, 0, 16⟩
/-- SFI_CNT (R443). -/
abbrev R.SFI_CNT (n : Nat) (i : Nat) : Nat := 0x78000 + n * 0x100 + 0x30 + i * 8
/-- SFI_SAT (R443). -/
abbrev R.SFI_SAT (n : Nat) : Nat := 0x78000 + n * 0x100 + 0x50
abbrev F.SFI_SAT_SAT (n : Nat) : Fld := ⟨R.SFI_SAT n, 0, 4⟩
/-! ### UCS_COM (registers of spec file 05) -/

/-- UCODE_ROM_VER (R235). -/
abbrev R.UCODE_ROM_VER : Nat := 0x80000
abbrev F.UCODE_ROM_VER_BUILD : Fld := ⟨R.UCODE_ROM_VER, 0, 16⟩
abbrev F.UCODE_ROM_VER_MAJOR : Fld := ⟨R.UCODE_ROM_VER, 16, 16⟩
/-- UCODE_BUNDLE_ID (R235). -/
abbrev R.UCODE_BUNDLE_ID : Nat := 0x80004
/-- UCODE_PATCH_VER (R235). -/
abbrev R.UCODE_PATCH_VER : Nat := 0x80008
/-- UCODE_PATCH_SVN (R235). -/
abbrev R.UCODE_PATCH_SVN : Nat := 0x8000c
abbrev F.UCODE_PATCH_SVN_SVN : Fld := ⟨R.UCODE_PATCH_SVN, 0, 7⟩
/-- UCODE_ASSERT (R235). -/
abbrev R.UCODE_ASSERT : Nat := 0x80010
abbrev F.UCODE_ASSERT_SPIRE : Fld := ⟨R.UCODE_ASSERT, 0, 6⟩
abbrev F.UCODE_ASSERT_UPC : Fld := ⟨R.UCODE_ASSERT, 6, 14⟩
abbrev F.UCODE_ASSERT_CAUSE : Fld := ⟨R.UCODE_ASSERT, 20, 4⟩
abbrev F.UCODE_ASSERT_VALID : Fld := ⟨R.UCODE_ASSERT, 31, 1⟩
/-- UCODE_ASSERT_CNT (R235). -/
abbrev R.UCODE_ASSERT_CNT : Nat := 0x80018
/-! ### UCS_Q (registers of spec file 05) -/

/-- UCODE_Q_CTL (R237). -/
abbrev R.UCODE_Q_CTL (n : Nat) : Nat := 0x81000 + n * 0x1000
abbrev F.UCODE_Q_CTL_ARM (n : Nat) : Fld := ⟨R.UCODE_Q_CTL n, 0, 1⟩
abbrev F.UCODE_Q_CTL_CLEAR (n : Nat) : Fld := ⟨R.UCODE_Q_CTL n, 1, 1⟩
abbrev F.UCODE_Q_CTL_DIGEST_START (n : Nat) : Fld := ⟨R.UCODE_Q_CTL n, 2, 1⟩
/-- UCODE_Q_STAT (R238). -/
abbrev R.UCODE_Q_STAT (n : Nat) : Nat := 0x81000 + n * 0x1000 + 0x4
abbrev F.UCODE_Q_STAT_ARMED (n : Nat) : Fld := ⟨R.UCODE_Q_STAT n, 0, 1⟩
abbrev F.UCODE_Q_STAT_PATCHED (n : Nat) : Fld := ⟨R.UCODE_Q_STAT n, 1, 1⟩
abbrev F.UCODE_Q_STAT_LOAD_REJECT (n : Nat) : Fld := ⟨R.UCODE_Q_STAT n, 2, 1⟩
abbrev F.UCODE_Q_STAT_DIGEST_BUSY (n : Nat) : Fld := ⟨R.UCODE_Q_STAT n, 3, 1⟩
abbrev F.UCODE_Q_STAT_DIGEST_VALID (n : Nat) : Fld := ⟨R.UCODE_Q_STAT n, 4, 1⟩
abbrev F.UCODE_Q_STAT_ASSERT_SAT (n : Nat) : Fld := ⟨R.UCODE_Q_STAT n, 16, 1⟩
/-- UCODE_Q_KIND (R236). -/
abbrev R.UCODE_Q_KIND (n : Nat) : Nat := 0x81000 + n * 0x1000 + 0x8
abbrev F.UCODE_Q_KIND_KIND (n : Nat) : Fld := ⟨R.UCODE_Q_KIND n, 0, 2⟩
abbrev F.UCODE_Q_KIND_FIRST (n : Nat) : Fld := ⟨R.UCODE_Q_KIND n, 8, 6⟩
abbrev F.UCODE_Q_KIND_COUNT (n : Nat) : Fld := ⟨R.UCODE_Q_KIND n, 16, 6⟩
/-- UCODE_Q_ADDR (R239). -/
abbrev R.UCODE_Q_ADDR (n : Nat) : Nat := 0x81000 + n * 0x1000 + 0xc
abbrev F.UCODE_Q_ADDR_INDEX (n : Nat) : Fld := ⟨R.UCODE_Q_ADDR n, 0, 14⟩
abbrev F.UCODE_Q_ADDR_SPACE (n : Nat) : Fld := ⟨R.UCODE_Q_ADDR n, 16, 2⟩
/-- UCODE_Q_DATA (R236). -/
abbrev R.UCODE_Q_DATA (n : Nat) (i : Nat) : Nat := 0x81000 + n * 0x1000 + 0x10 + i * 4
/-- UCODE_Q_WR (R236). -/
abbrev R.UCODE_Q_WR (n : Nat) : Nat := 0x81000 + n * 0x1000 + 0x20
/-- UCODE_Q_REJ (R236). -/
abbrev R.UCODE_Q_REJ (n : Nat) : Nat := 0x81000 + n * 0x1000 + 0x24
abbrev F.UCODE_Q_REJ_SPACE (n : Nat) : Fld := ⟨R.UCODE_Q_REJ n, 0, 2⟩
abbrev F.UCODE_Q_REJ_INDEX (n : Nat) : Fld := ⟨R.UCODE_Q_REJ n, 2, 14⟩
abbrev F.UCODE_Q_REJ_REASON (n : Nat) : Fld := ⟨R.UCODE_Q_REJ n, 16, 4⟩
/-- UCODE_Q_USED (R236). -/
abbrev R.UCODE_Q_USED (n : Nat) : Nat := 0x81000 + n * 0x1000 + 0x28
abbrev F.UCODE_Q_USED_MICRO (n : Nat) : Fld := ⟨R.UCODE_Q_USED n, 0, 13⟩
abbrev F.UCODE_Q_USED_NANO (n : Nat) : Fld := ⟨R.UCODE_Q_USED n, 16, 10⟩
/-- UCODE_Q_TBL (R236). -/
abbrev R.UCODE_Q_TBL (n : Nat) : Nat := 0x81000 + n * 0x1000 + 0x2c
abbrev F.UCODE_Q_TBL_HOOKS (n : Nat) : Fld := ⟨R.UCODE_Q_TBL n, 0, 7⟩
abbrev F.UCODE_Q_TBL_DISP (n : Nat) : Fld := ⟨R.UCODE_Q_TBL n, 16, 9⟩
/-- UCODE_Q_DIGEST (R236). -/
abbrev R.UCODE_Q_DIGEST (n : Nat) (i : Nat) : Nat := 0x81000 + n * 0x1000 + 0x40 + i * 4
/-! ### CTS (registers of spec file 07) -/

/-- CTS_CTL (R335). -/
abbrev R.CTS_CTL : Nat := 0x90000
abbrev F.CTS_CTL_ROTATE : Fld := ⟨R.CTS_CTL, 0, 1⟩
abbrev F.CTS_CTL_SCRUB_EN : Fld := ⟨R.CTS_CTL, 1, 1⟩
abbrev F.CTS_CTL_RELINK_NOW : Fld := ⟨R.CTS_CTL, 2, 1⟩
abbrev F.CTS_CTL_CNT_CLR : Fld := ⟨R.CTS_CTL, 8, 1⟩
/-- CTS_STAT (R336). -/
abbrev R.CTS_STAT : Nat := 0x90004
abbrev F.CTS_STAT_READY : Fld := ⟨R.CTS_STAT, 0, 1⟩
abbrev F.CTS_STAT_ROTATING : Fld := ⟨R.CTS_STAT, 1, 1⟩
abbrev F.CTS_STAT_FILLING : Fld := ⟨R.CTS_STAT, 2, 1⟩
abbrev F.CTS_STAT_NO_KEY : Fld := ⟨R.CTS_STAT, 3, 1⟩
abbrev F.CTS_STAT_REFRESH_2X : Fld := ⟨R.CTS_STAT, 4, 1⟩
abbrev F.CTS_STAT_THROTTLE : Fld := ⟨R.CTS_STAT, 5, 1⟩
abbrev F.CTS_STAT_RELINK_BUSY : Fld := ⟨R.CTS_STAT, 6, 1⟩
abbrev F.CTS_STAT_POISON_FULL : Fld := ⟨R.CTS_STAT, 7, 1⟩
abbrev F.CTS_STAT_STACK_FAULT : Fld := ⟨R.CTS_STAT, 8, 4⟩
abbrev F.CTS_STAT_ERR_PEND : Fld := ⟨R.CTS_STAT, 16, 1⟩
/-- CTS_CFG (R337). -/
abbrev R.CTS_CFG : Nat := 0x90008
abbrev F.CTS_CFG_DRAIN_DEF_MS : Fld := ⟨R.CTS_CFG, 0, 16⟩
abbrev F.CTS_CFG_SCRUB_HOURS : Fld := ⟨R.CTS_CFG, 16, 8⟩
abbrev F.CTS_CFG_RELINK_AUTO : Fld := ⟨R.CTS_CFG, 24, 1⟩
abbrev F.CTS_CFG_LOCK : Fld := ⟨R.CTS_CFG, 31, 1⟩
/-- CTS_KEY_GEN (R334). -/
abbrev R.CTS_KEY_GEN : Nat := 0x9000c
abbrev F.CTS_KEY_GEN_GEN : Fld := ⟨R.CTS_KEY_GEN, 0, 16⟩
/-- CTS_FILL (R334). -/
abbrev R.CTS_FILL : Nat := 0x90010
abbrev F.CTS_FILL_BLOCKS : Fld := ⟨R.CTS_FILL, 0, 24⟩
/-- CTS_TEMP (R334). -/
abbrev R.CTS_TEMP : Nat := 0x90014
/-- CTS_THERM (R338). -/
abbrev R.CTS_THERM : Nat := 0x90018
abbrev F.CTS_THERM_T_REFRESH : Fld := ⟨R.CTS_THERM, 0, 8⟩
abbrev F.CTS_THERM_T_THROTTLE : Fld := ⟨R.CTS_THERM, 8, 8⟩
abbrev F.CTS_THERM_T_CRIT : Fld := ⟨R.CTS_THERM, 16, 8⟩
/-- CTS_PIN_USED (R334). -/
abbrev R.CTS_PIN_USED : Nat := 0x9001c
abbrev F.CTS_PIN_USED_CONTEXTS : Fld := ⟨R.CTS_PIN_USED, 0, 13⟩
abbrev F.CTS_PIN_USED_FLOWS : Fld := ⟨R.CTS_PIN_USED, 16, 13⟩
/-- CTS_CSN_LO (R334). -/
abbrev R.CTS_CSN_LO : Nat := 0x90020
/-- CTS_CSN_HI (R334). -/
abbrev R.CTS_CSN_HI : Nat := 0x90024
/-- CTS_ERR_ADDR_LO (R334). -/
abbrev R.CTS_ERR_ADDR_LO : Nat := 0x90028
/-- CTS_ERR_ADDR_HI (R334). -/
abbrev R.CTS_ERR_ADDR_HI : Nat := 0x9002c
abbrev F.CTS_ERR_ADDR_HI_ADDR : Fld := ⟨R.CTS_ERR_ADDR_HI, 0, 5⟩
abbrev F.CTS_ERR_ADDR_HI_NODE : Fld := ⟨R.CTS_ERR_ADDR_HI, 8, 1⟩
abbrev F.CTS_ERR_ADDR_HI_VALID : Fld := ⟨R.CTS_ERR_ADDR_HI, 31, 1⟩
/-- CTS_POISON (R334). -/
abbrev R.CTS_POISON : Nat := 0x90030
abbrev F.CTS_POISON_ENTRIES : Fld := ⟨R.CTS_POISON, 0, 9⟩
/-- CTS_CNT (R334). -/
abbrev R.CTS_CNT (i : Nat) : Nat := 0x90040 + i * 8
/-- CTS_SAT (R334). -/
abbrev R.CTS_SAT : Nat := 0x90098
abbrev F.CTS_SAT_SAT : Fld := ⟨R.CTS_SAT, 0, 11⟩
/-! ### AEA_LT (registers of spec file 03) -/

/-- AEA_CTL (R161). -/
abbrev R.AEA_CTL (e : Nat) : Nat := aeaBase e
abbrev F.AEA_CTL_EN (e : Nat) : Fld := ⟨R.AEA_CTL e, 0, 1⟩
abbrev F.AEA_CTL_SELFTEST (e : Nat) : Fld := ⟨R.AEA_CTL e, 8, 1⟩
/-- AEA_STAT (R163). -/
abbrev R.AEA_STAT (e : Nat) : Nat := aeaBase e + 0x4
abbrev F.AEA_STAT_HELD (e : Nat) : Fld := ⟨R.AEA_STAT e, 0, 3⟩
abbrev F.AEA_STAT_RUN_CLASS (e : Nat) : Fld := ⟨R.AEA_STAT e, 3, 2⟩
abbrev F.AEA_STAT_RNG_WAIT (e : Nat) : Fld := ⟨R.AEA_STAT e, 5, 1⟩
abbrev F.AEA_STAT_DRAINED (e : Nat) : Fld := ⟨R.AEA_STAT e, 6, 1⟩
abbrev F.AEA_STAT_FAULTED (e : Nat) : Fld := ⟨R.AEA_STAT e, 7, 1⟩
abbrev F.AEA_STAT_ST_PASS (e : Nat) : Fld := ⟨R.AEA_STAT e, 8, 1⟩
abbrev F.AEA_STAT_ST_FAIL (e : Nat) : Fld := ⟨R.AEA_STAT e, 9, 1⟩
abbrev F.AEA_STAT_ST_REJECT (e : Nat) : Fld := ⟨R.AEA_STAT e, 10, 1⟩
abbrev F.AEA_STAT_OPS_SAT (e : Nat) : Fld := ⟨R.AEA_STAT e, 16, 1⟩
abbrev F.AEA_STAT_PREEMPT_SAT (e : Nat) : Fld := ⟨R.AEA_STAT e, 17, 1⟩
abbrev F.AEA_STAT_REJ_SAT (e : Nat) : Fld := ⟨R.AEA_STAT e, 18, 1⟩
abbrev F.AEA_STAT_FAULT_SAT (e : Nat) : Fld := ⟨R.AEA_STAT e, 19, 1⟩
/-- AEA_CUR (R164). -/
abbrev R.AEA_CUR (e : Nat) : Nat := aeaBase e + 0x8
abbrev F.AEA_CUR_QUEUE (e : Nat) : Fld := ⟨R.AEA_CUR e, 0, 12⟩
abbrev F.AEA_CUR_CLASS (e : Nat) : Fld := ⟨R.AEA_CUR e, 12, 2⟩
abbrev F.AEA_CUR_ALG (e : Nat) : Fld := ⟨R.AEA_CUR e, 16, 16⟩
/-- AEA_OPS (R160). -/
abbrev R.AEA_OPS (e : Nat) : Nat := aeaBase e + 0x10
/-- AEA_PREEMPT (R160). -/
abbrev R.AEA_PREEMPT (e : Nat) : Nat := aeaBase e + 0x18
/-- AEA_REJ (R160). -/
abbrev R.AEA_REJ (e : Nat) : Nat := aeaBase e + 0x20
/-- AEA_FAULT (R160). -/
abbrev R.AEA_FAULT (e : Nat) : Nat := aeaBase e + 0x28
/-- AEA_BUSY (R160). -/
abbrev R.AEA_BUSY (e : Nat) : Nat := aeaBase e + 0x30
/-- AEA_MAXINSN (R160). -/
abbrev R.AEA_MAXINSN (e : Nat) : Nat := aeaBase e + 0x38
abbrev F.AEA_MAXINSN_NS (e : Nat) : Fld := ⟨R.AEA_MAXINSN e, 0, 16⟩
/-! ### AEA_COM (registers of spec file 03/04) -/

/-- AEA_LT_AVAIL (R165). -/
abbrev R.AEA_LT_AVAIL : Nat := 0xaf000
/-- AEA_LT_CFG (R166). -/
abbrev R.AEA_LT_CFG : Nat := 0xaf004
abbrev F.AEA_LT_CFG_DET_SIGN_EN : Fld := ⟨R.AEA_LT_CFG, 0, 1⟩
abbrev F.AEA_LT_CFG_FORCE_PCT : Fld := ⟨R.AEA_LT_CFG, 1, 1⟩
abbrev F.AEA_LT_CFG_TEST_VEC_EN : Fld := ⟨R.AEA_LT_CFG, 2, 1⟩
abbrev F.AEA_LT_CFG_LOCK : Fld := ⟨R.AEA_LT_CFG, 31, 1⟩
/-- AEA_CB_AVAIL (R204). -/
abbrev R.AEA_CB_AVAIL : Nat := 0xaf040
/-- AEA_CL_AVAIL (R204). -/
abbrev R.AEA_CL_AVAIL : Nat := 0xaf044
/-- AEA_XCFG (R205). -/
abbrev R.AEA_XCFG : Nat := 0xaf048
abbrev F.AEA_XCFG_DET_ECDSA_EN : Fld := ⟨R.AEA_XCFG, 0, 1⟩
abbrev F.AEA_XCFG_RSA_PKCS1_EN : Fld := ⟨R.AEA_XCFG, 1, 1⟩
abbrev F.AEA_XCFG_COMB_RAW_EN : Fld := ⟨R.AEA_XCFG, 2, 1⟩
abbrev F.AEA_XCFG_LOCK : Fld := ⟨R.AEA_XCFG, 31, 1⟩
/-! ### IPP (registers of spec file 06) -/

/-- IPP_CTL (R292). -/
abbrev R.IPP_CTL : Nat := 0xb0000
abbrev F.IPP_CTL_EN : Fld := ⟨R.IPP_CTL, 0, 1⟩
/-- IPP_STAT (R292). -/
abbrev R.IPP_STAT : Nat := 0xb0004
abbrev F.IPP_STAT_RUNNING : Fld := ⟨R.IPP_STAT, 0, 1⟩
abbrev F.IPP_STAT_PTP_LOCKED : Fld := ⟨R.IPP_STAT, 1, 1⟩
abbrev F.IPP_STAT_PTP_HOLDOVER : Fld := ⟨R.IPP_STAT, 2, 1⟩
abbrev F.IPP_STAT_SAEVT_OVF : Fld := ⟨R.IPP_STAT, 8, 1⟩
/-- IPP_FRESH (R292). -/
abbrev R.IPP_FRESH : Nat := 0xb0008
abbrev F.IPP_FRESH_T_MS : Fld := ⟨R.IPP_FRESH, 0, 16⟩
abbrev F.IPP_FRESH_HOLDOVER_S : Fld := ⟨R.IPP_FRESH, 16, 16⟩
/-- IPP_PN_WARN (R292). -/
abbrev R.IPP_PN_WARN : Nat := 0xb000c
/-- IPP_XPN_WARN_LO (R292). -/
abbrev R.IPP_XPN_WARN_LO : Nat := 0xb0010
/-- IPP_XPN_WARN_HI (R292). -/
abbrev R.IPP_XPN_WARN_HI : Nat := 0xb0014
/-- IPP_SAEVT (R292). -/
abbrev R.IPP_SAEVT : Nat := 0xb0018
/-- IPP_SAEVT_CNT (R292). -/
abbrev R.IPP_SAEVT_CNT : Nat := 0xb001c
abbrev F.IPP_SAEVT_CNT_COUNT : Fld := ⟨R.IPP_SAEVT_CNT, 0, 11⟩
/-- IPP_FT_USED (R292). -/
abbrev R.IPP_FT_USED : Nat := 0xb0020
abbrev F.IPP_FT_USED_ENTRIES : Fld := ⟨R.IPP_FT_USED, 0, 23⟩
/-- IPP_FT_PINNED (R292). -/
abbrev R.IPP_FT_PINNED : Nat := 0xb0024
abbrev F.IPP_FT_PINNED_ENTRIES : Fld := ⟨R.IPP_FT_PINNED, 0, 13⟩
/-- IPP_FT_REJ (R292). -/
abbrev R.IPP_FT_REJ : Nat := 0xb0028
/-- IPP_RG (R292). -/
abbrev R.IPP_RG (i : Nat) : Nat := 0xb0040 + i * 4
abbrev F.IPP_RG_MEMBERS (i : Nat) : Fld := ⟨R.IPP_RG i, 0, 8⟩
abbrev F.IPP_RG_SIDE (i : Nat) : Fld := ⟨R.IPP_RG i, 8, 1⟩
abbrev F.IPP_RG_MODE (i : Nat) : Fld := ⟨R.IPP_RG i, 9, 1⟩
abbrev F.IPP_RG_EN (i : Nat) : Fld := ⟨R.IPP_RG i, 10, 1⟩
abbrev F.IPP_RG_FORGET_MS (i : Nat) : Fld := ⟨R.IPP_RG i, 16, 16⟩
/-- IPP_PTP_CTL (R292). -/
abbrev R.IPP_PTP_CTL : Nat := 0xb0080
abbrev F.IPP_PTP_CTL_SNAP : Fld := ⟨R.IPP_PTP_CTL, 0, 1⟩
abbrev F.IPP_PTP_CTL_STEP : Fld := ⟨R.IPP_PTP_CTL, 1, 1⟩
abbrev F.IPP_PTP_CTL_LOCK_SET : Fld := ⟨R.IPP_PTP_CTL, 2, 1⟩
/-- IPP_PTP_SEC_HI (R292). -/
abbrev R.IPP_PTP_SEC_HI : Nat := 0xb0084
abbrev F.IPP_PTP_SEC_HI_SECONDS : Fld := ⟨R.IPP_PTP_SEC_HI, 0, 16⟩
/-- IPP_PTP_SEC_LO (R292). -/
abbrev R.IPP_PTP_SEC_LO : Nat := 0xb0088
/-- IPP_PTP_NS (R292). -/
abbrev R.IPP_PTP_NS : Nat := 0xb008c
abbrev F.IPP_PTP_NS_NS : Fld := ⟨R.IPP_PTP_NS, 0, 30⟩
/-- IPP_PTP_ADJ (R292). -/
abbrev R.IPP_PTP_ADJ : Nat := 0xb0090
/-- IPP_PTP_STEP (R292). -/
abbrev R.IPP_PTP_STEP : Nat := 0xb0094
/-- IPP_PTP_SRC (R292). -/
abbrev R.IPP_PTP_SRC : Nat := 0xb0098
abbrev F.IPP_PTP_SRC_PORT : Fld := ⟨R.IPP_PTP_SRC, 0, 3⟩
abbrev F.IPP_PTP_SRC_SIDE : Fld := ⟨R.IPP_PTP_SRC, 3, 1⟩
abbrev F.IPP_PTP_SRC_EN : Fld := ⟨R.IPP_PTP_SRC, 31, 1⟩
/-! ### LIF (registers of spec file 06) -/

/-- LIF_PCTL (R289). -/
abbrev R.LIF_PCTL (n : Nat) : Nat := 0xc0000 + n * 0x1000
abbrev F.LIF_PCTL_EN (n : Nat) : Fld := ⟨R.LIF_PCTL n, 0, 1⟩
abbrev F.LIF_PCTL_LOOPBACK (n : Nat) : Fld := ⟨R.LIF_PCTL n, 1, 1⟩
abbrev F.LIF_PCTL_RESTART_AN (n : Nat) : Fld := ⟨R.LIF_PCTL n, 8, 1⟩
abbrev F.LIF_PCTL_CNT_CLR (n : Nat) : Fld := ⟨R.LIF_PCTL n, 9, 1⟩
/-- LIF_PSTAT (R290). -/
abbrev R.LIF_PSTAT (n : Nat) : Nat := 0xc0000 + n * 0x1000 + 0x4
abbrev F.LIF_PSTAT_LINK_UP (n : Nat) : Fld := ⟨R.LIF_PSTAT n, 0, 1⟩
abbrev F.LIF_PSTAT_AM_LOCK (n : Nat) : Fld := ⟨R.LIF_PSTAT n, 1, 1⟩
abbrev F.LIF_PSTAT_AN_DONE (n : Nat) : Fld := ⟨R.LIF_PSTAT n, 2, 1⟩
abbrev F.LIF_PSTAT_PREEMPT_ACTIVE (n : Nat) : Fld := ⟨R.LIF_PSTAT n, 3, 1⟩
abbrev F.LIF_PSTAT_VIGIL (n : Nat) : Fld := ⟨R.LIF_PSTAT n, 4, 1⟩
abbrev F.LIF_PSTAT_LINK_PEND (n : Nat) : Fld := ⟨R.LIF_PSTAT n, 16, 1⟩
abbrev F.LIF_PSTAT_PREEMPT_PEND (n : Nat) : Fld := ⟨R.LIF_PSTAT n, 17, 1⟩
abbrev F.LIF_PSTAT_FEC_UNCORR_PEND (n : Nat) : Fld := ⟨R.LIF_PSTAT n, 18, 1⟩
abbrev F.LIF_PSTAT_CL0_OUTSIDE_PEND (n : Nat) : Fld := ⟨R.LIF_PSTAT n, 19, 1⟩
/-- LIF_PCFG (R291). -/
abbrev R.LIF_PCFG (n : Nat) : Nat := 0xc0000 + n * 0x1000 + 0x8
abbrev F.LIF_PCFG_DEFAULT_ACTION (n : Nat) : Fld := ⟨R.LIF_PCFG n, 0, 2⟩
abbrev F.LIF_PCFG_PAIR (n : Nat) : Fld := ⟨R.LIF_PCFG n, 4, 3⟩
abbrev F.LIF_PCFG_PTP_TC (n : Nat) : Fld := ⟨R.LIF_PCFG n, 8, 1⟩
abbrev F.LIF_PCFG_PTP_PDELAY (n : Nat) : Fld := ⟨R.LIF_PCFG n, 9, 1⟩
abbrev F.LIF_PCFG_PREEMPT_EN (n : Nat) : Fld := ⟨R.LIF_PCFG n, 10, 1⟩
/-- LIF_PMODE (R291). -/
abbrev R.LIF_PMODE (n : Nat) : Nat := 0xc0000 + n * 0x1000 + 0xc
abbrev F.LIF_PMODE_RATE (n : Nat) : Fld := ⟨R.LIF_PMODE n, 0, 2⟩
abbrev F.LIF_PMODE_VIGIL_10G (n : Nat) : Fld := ⟨R.LIF_PMODE n, 4, 1⟩
abbrev F.LIF_PMODE_FIRST_LANE (n : Nat) : Fld := ⟨R.LIF_PMODE n, 8, 4⟩
abbrev F.LIF_PMODE_LANES (n : Nat) : Fld := ⟨R.LIF_PMODE n, 12, 4⟩
/-- LIF_MAXFRM (R288). -/
abbrev R.LIF_MAXFRM (n : Nat) : Nat := 0xc0000 + n * 0x1000 + 0x10
abbrev F.LIF_MAXFRM_BYTES (n : Nat) : Fld := ⟨R.LIF_MAXFRM n, 0, 14⟩
/-- LIF_QMAX (R288). -/
abbrev R.LIF_QMAX (n : Nat) : Nat := 0xc0000 + n * 0x1000 + 0x14
abbrev F.LIF_QMAX_BYTES (n : Nat) : Fld := ⟨R.LIF_QMAX n, 0, 24⟩
/-- LIF_CL0_POL (R288). -/
abbrev R.LIF_CL0_POL (n : Nat) : Nat := 0xc0000 + n * 0x1000 + 0x18
abbrev F.LIF_CL0_POL_RATE (n : Nat) : Fld := ⟨R.LIF_CL0_POL n, 0, 16⟩
abbrev F.LIF_CL0_POL_BURST (n : Nat) : Fld := ⟨R.LIF_CL0_POL n, 16, 16⟩
/-- LIF_PTP_RXCOMP (R288). -/
abbrev R.LIF_PTP_RXCOMP (n : Nat) : Nat := 0xc0000 + n * 0x1000 + 0x1c
/-- LIF_PTP_TXCOMP (R288). -/
abbrev R.LIF_PTP_TXCOMP (n : Nat) : Nat := 0xc0000 + n * 0x1000 + 0x20
/-- LIF_PTP_MLD (R288). -/
abbrev R.LIF_PTP_MLD (n : Nat) : Nat := 0xc0000 + n * 0x1000 + 0x24
/-- LIF_EVT_EN (R288). -/
abbrev R.LIF_EVT_EN (n : Nat) : Nat := 0xc0000 + n * 0x1000 + 0x28
abbrev F.LIF_EVT_EN_EN (n : Nat) : Fld := ⟨R.LIF_EVT_EN n, 0, 4⟩
/-- LIF_CNT (R288). -/
abbrev R.LIF_CNT (n : Nat) (i : Nat) : Nat := 0xc0000 + n * 0x1000 + 0x100 + i * 8
/-- LIF_DROP (R288). -/
abbrev R.LIF_DROP (n : Nat) (i : Nat) : Nat := 0xc0000 + n * 0x1000 + 0x200 + i * 8
/-- LIF_SAT0 (R288). -/
abbrev R.LIF_SAT0 (n : Nat) : Nat := 0xc0000 + n * 0x1000 + 0x300
abbrev F.LIF_SAT0_SAT (n : Nat) : Fld := ⟨R.LIF_SAT0 n, 0, 10⟩
/-- LIF_SAT1 (R288). -/
abbrev R.LIF_SAT1 (n : Nat) : Nat := 0xc0000 + n * 0x1000 + 0x304
/-! ### EVC (registers of spec file 14) -/

/-- EVC_CTL (R538). -/
abbrev R.EVC_CTL : Nat := 0xd0000
abbrev F.EVC_CTL_CNT_CLR : Fld := ⟨R.EVC_CTL, 8, 1⟩
/-- EVC_STAT (R538). -/
abbrev R.EVC_STAT : Nat := 0xd0004
abbrev F.EVC_STAT_INT_N : Fld := ⟨R.EVC_STAT, 0, 1⟩
/-- EVC_RAW (R538). -/
abbrev R.EVC_RAW (i : Nat) : Nat := 0xd0010 + i * 4
/-- EVC_PEND (R538). -/
abbrev R.EVC_PEND (i : Nat) : Nat := 0xd0030 + i * 4
/-- EVC_MASK (R538). -/
abbrev R.EVC_MASK (i : Nat) : Nat := 0xd0050 + i * 4
/-- EVC_NM (R538). -/
abbrev R.EVC_NM (i : Nat) : Nat := 0xd0070 + i * 4
/-- EVC_CNT (R538). -/
abbrev R.EVC_CNT (i : Nat) : Nat := 0xd0100 + i * 8
/-- EVC_SAT (R538). -/
abbrev R.EVC_SAT : Nat := 0xd0118
abbrev F.EVC_SAT_SAT : Fld := ⟨R.EVC_SAT, 0, 3⟩
/-- EVC_ROUTE (R538). -/
abbrev R.EVC_ROUTE (i : Nat) : Nat := 0xd0400 + i * 4
abbrev F.EVC_ROUTE_VECTOR (i : Nat) : Fld := ⟨R.EVC_ROUTE i, 0, 6⟩
abbrev F.EVC_ROUTE_MSIX (i : Nat) : Fld := ⟨R.EVC_ROUTE i, 8, 1⟩
abbrev F.EVC_ROUTE_INTN (i : Nat) : Fld := ⟨R.EVC_ROUTE i, 9, 1⟩
abbrev F.EVC_ROUTE_CUPOLA (i : Nat) : Fld := ⟨R.EVC_ROUTE i, 10, 1⟩
/-! ### MBX (registers of spec file 16) -/

/-- MBX_CTL (R587). -/
abbrev R.MBX_CTL (n : Nat) : Nat := 0xe0000 + n * 0x4000
abbrev F.MBX_CTL_GO (n : Nat) : Fld := ⟨R.MBX_CTL n, 0, 1⟩
abbrev F.MBX_CTL_ABORT (n : Nat) : Fld := ⟨R.MBX_CTL n, 1, 1⟩
/-- MBX_STAT (R587). -/
abbrev R.MBX_STAT (n : Nat) : Nat := 0xe0000 + n * 0x4000 + 0x4
abbrev F.MBX_STAT_BUSY (n : Nat) : Fld := ⟨R.MBX_STAT n, 0, 1⟩
abbrev F.MBX_STAT_DONE (n : Nat) : Fld := ⟨R.MBX_STAT n, 1, 1⟩
abbrev F.MBX_STAT_GO_REJECT (n : Nat) : Fld := ⟨R.MBX_STAT n, 2, 1⟩
abbrev F.MBX_STAT_RESTARTED (n : Nat) : Fld := ⟨R.MBX_STAT n, 3, 1⟩
/-- MBX_REQ (R587). -/
abbrev R.MBX_REQ (n : Nat) (i : Nat) : Nat := 0xe0000 + n * 0x4000 + 0x1000 + i * 4
/-- MBX_RSP (R587). -/
abbrev R.MBX_RSP (n : Nat) (i : Nat) : Nat := 0xe0000 + n * 0x4000 + 0x2000 + i * 4
/-! ### CUP (registers of spec file 16) -/

/-- CUP_BOOT_STAT (R599). -/
abbrev R.CUP_BOOT_STAT : Nat := 0xef000
abbrev F.CUP_BOOT_STAT_MILESTONE : Fld := ⟨R.CUP_BOOT_STAT, 0, 4⟩
abbrev F.CUP_BOOT_STAT_MODE : Fld := ⟨R.CUP_BOOT_STAT, 4, 3⟩
abbrev F.CUP_BOOT_STAT_RECOVERY_REASON : Fld := ⟨R.CUP_BOOT_STAT, 8, 2⟩
abbrev F.CUP_BOOT_STAT_BOOT_COPY : Fld := ⟨R.CUP_BOOT_STAT, 12, 1⟩
abbrev F.CUP_BOOT_STAT_CFG_COPY : Fld := ⟨R.CUP_BOOT_STAT, 13, 1⟩
abbrev F.CUP_BOOT_STAT_UC_PATCHED : Fld := ⟨R.CUP_BOOT_STAT, 14, 1⟩
abbrev F.CUP_BOOT_STAT_UC_ABANDONED : Fld := ⟨R.CUP_BOOT_STAT, 15, 1⟩
/-- CUP_FW_VER (R598). -/
abbrev R.CUP_FW_VER : Nat := 0xef004
/-- CUP_BOOT_GEN (R598). -/
abbrev R.CUP_BOOT_GEN : Nat := 0xef008
/-- CUP_CFG_GEN (R598). -/
abbrev R.CUP_CFG_GEN : Nat := 0xef00c
/-- CUP_SVN (R598). -/
abbrev R.CUP_SVN : Nat := 0xef010
abbrev F.CUP_SVN_FW : Fld := ⟨R.CUP_SVN, 0, 7⟩
abbrev F.CUP_SVN_UCODE : Fld := ⟨R.CUP_SVN, 8, 7⟩
abbrev F.CUP_SVN_CFG : Fld := ⟨R.CUP_SVN, 16, 7⟩
/-- CUP_ARB (R598). -/
abbrev R.CUP_ARB : Nat := 0xef014
abbrev F.CUP_ARB_FW : Fld := ⟨R.CUP_ARB, 0, 7⟩
abbrev F.CUP_ARB_UCODE : Fld := ⟨R.CUP_ARB, 8, 7⟩
abbrev F.CUP_ARB_CFG : Fld := ⟨R.CUP_ARB, 16, 7⟩
abbrev F.CUP_ARB_FW_CEIL : Fld := ⟨R.CUP_ARB, 24, 1⟩
abbrev F.CUP_ARB_UC_CEIL : Fld := ⟨R.CUP_ARB, 25, 1⟩
abbrev F.CUP_ARB_CFG_CEIL : Fld := ⟨R.CUP_ARB, 26, 1⟩
/-- CUP_CFG (R598). -/
abbrev R.CUP_CFG : Nat := 0xef018
abbrev F.CUP_CFG_AUTO_COMMIT : Fld := ⟨R.CUP_CFG, 0, 1⟩
abbrev F.CUP_CFG_SMB_UPDATE_EN : Fld := ⟨R.CUP_CFG, 1, 1⟩
abbrev F.CUP_CFG_SMB_SVC_EN : Fld := ⟨R.CUP_CFG, 2, 1⟩
abbrev F.CUP_CFG_LOCK : Fld := ⟨R.CUP_CFG, 31, 1⟩
/-- CUP_SVC_HB (R598). -/
abbrev R.CUP_SVC_HB : Nat := 0xef01c
/-- CUP_RESTARTS (R598). -/
abbrev R.CUP_RESTARTS : Nat := 0xef020
abbrev F.CUP_RESTARTS_COUNT : Fld := ⟨R.CUP_RESTARTS, 0, 8⟩
/-- CUP_UPD_STAT (R598). -/
abbrev R.CUP_UPD_STAT : Nat := 0xef024
abbrev F.CUP_UPD_STAT_PHASE : Fld := ⟨R.CUP_UPD_STAT, 0, 2⟩
abbrev F.CUP_UPD_STAT_TARGET : Fld := ⟨R.CUP_UPD_STAT, 2, 2⟩
abbrev F.CUP_UPD_STAT_HOLDER : Fld := ⟨R.CUP_UPD_STAT, 4, 2⟩
abbrev F.CUP_UPD_STAT_FAILED_CHECK : Fld := ⟨R.CUP_UPD_STAT, 8, 4⟩
abbrev F.CUP_UPD_STAT_ABNORMAL : Fld := ⟨R.CUP_UPD_STAT, 16, 16⟩
/-- CUP_KEYS (R598). -/
abbrev R.CUP_KEYS : Nat := 0xef028
abbrev F.CUP_KEYS_USABLE : Fld := ⟨R.CUP_KEYS, 0, 4⟩
abbrev F.CUP_KEYS_REVOKED : Fld := ⟨R.CUP_KEYS, 4, 4⟩
/-- CUP_CNT (R598). -/
abbrev R.CUP_CNT (i : Nat) : Nat := 0xef030 + i * 8
/-- CUP_SAT (R598). -/
abbrev R.CUP_SAT : Nat := 0xef068
abbrev F.CUP_SAT_SAT : Fld := ⟨R.CUP_SAT, 0, 7⟩
/-! ### Q (registers of spec file 02) -/

/-- Q_CTL (R68). -/
abbrev R.Q_CTL (n : Nat) : Nat := 0x100000 + n * 0x100
abbrev F.Q_CTL_EN (n : Nat) : Fld := ⟨R.Q_CTL n, 0, 1⟩
abbrev F.Q_CTL_DCHK_EN (n : Nat) : Fld := ⟨R.Q_CTL n, 1, 1⟩
abbrev F.Q_CTL_PAUSE (n : Nat) : Fld := ⟨R.Q_CTL n, 2, 1⟩
abbrev F.Q_CTL_CPL_2STEP (n : Nat) : Fld := ⟨R.Q_CTL n, 3, 1⟩
abbrev F.Q_CTL_FLUSH (n : Nat) : Fld := ⟨R.Q_CTL n, 8, 1⟩
abbrev F.Q_CTL_CNT_SNAP (n : Nat) : Fld := ⟨R.Q_CTL n, 9, 1⟩
abbrev F.Q_CTL_CNT_CLR (n : Nat) : Fld := ⟨R.Q_CTL n, 10, 1⟩
/-- Q_STAT (R69). -/
abbrev R.Q_STAT (n : Nat) : Nat := 0x100000 + n * 0x100 + 0x4
abbrev F.Q_STAT_ACTIVE (n : Nat) : Fld := ⟨R.Q_STAT n, 0, 1⟩
abbrev F.Q_STAT_CHAIN_IDLE (n : Nat) : Fld := ⟨R.Q_STAT n, 1, 1⟩
abbrev F.Q_STAT_CQ_STALL (n : Nat) : Fld := ⟨R.Q_STAT n, 2, 1⟩
abbrev F.Q_STAT_ERR_STOP (n : Nat) : Fld := ⟨R.Q_STAT n, 3, 1⟩
abbrev F.Q_STAT_FLUSHING (n : Nat) : Fld := ⟨R.Q_STAT n, 4, 1⟩
abbrev F.Q_STAT_KICK_PEND (n : Nat) : Fld := ⟨R.Q_STAT n, 5, 1⟩
abbrev F.Q_STAT_FENCE_WAIT (n : Nat) : Fld := ⟨R.Q_STAT n, 6, 1⟩
abbrev F.Q_STAT_AWAIT_FIRST (n : Nat) : Fld := ⟨R.Q_STAT n, 7, 1⟩
abbrev F.Q_STAT_INFLIGHT (n : Nat) : Fld := ⟨R.Q_STAT n, 8, 7⟩
abbrev F.Q_STAT_CPL_PEND (n : Nat) : Fld := ⟨R.Q_STAT n, 16, 1⟩
abbrev F.Q_STAT_ERR_PEND (n : Nat) : Fld := ⟨R.Q_STAT n, 17, 1⟩
abbrev F.Q_STAT_STALL_PEND (n : Nat) : Fld := ⟨R.Q_STAT n, 18, 1⟩
abbrev F.Q_STAT_IDLE_PEND (n : Nat) : Fld := ⟨R.Q_STAT n, 19, 1⟩
abbrev F.Q_STAT_DONE_SAT (n : Nat) : Fld := ⟨R.Q_STAT n, 28, 1⟩
abbrev F.Q_STAT_ERR_SAT (n : Nat) : Fld := ⟨R.Q_STAT n, 29, 1⟩
/-- Q_PRIO (R70). -/
abbrev R.Q_PRIO (n : Nat) : Nat := 0x100000 + n * 0x100 + 0x8
abbrev F.Q_PRIO_CLASS (n : Nat) : Fld := ⟨R.Q_PRIO n, 0, 2⟩
abbrev F.Q_PRIO_WEIGHT (n : Nat) : Fld := ⟨R.Q_PRIO n, 8, 4⟩
/-- Q_GROUP (R72). -/
abbrev R.Q_GROUP (n : Nat) : Nat := 0x100000 + n * 0x100 + 0xc
abbrev F.Q_GROUP_GROUP (n : Nat) : Fld := ⟨R.Q_GROUP n, 0, 5⟩
abbrev F.Q_GROUP_INDEX (n : Nat) : Fld := ⟨R.Q_GROUP n, 8, 7⟩
abbrev F.Q_GROUP_OWNER (n : Nat) : Fld := ⟨R.Q_GROUP n, 16, 6⟩
/-- SQ_START_LO (R67). -/
abbrev R.SQ_START_LO (n : Nat) : Nat := 0x100000 + n * 0x100 + 0x10
/-- SQ_START_HI (R67). -/
abbrev R.SQ_START_HI (n : Nat) : Nat := 0x100000 + n * 0x100 + 0x14
/-- SQ_KICK (R67). -/
abbrev R.SQ_KICK (n : Nat) : Nat := 0x100000 + n * 0x100 + 0x18
/-- SQ_CUR_LO (R67). -/
abbrev R.SQ_CUR_LO (n : Nat) : Nat := 0x100000 + n * 0x100 + 0x20
/-- SQ_CUR_HI (R67). -/
abbrev R.SQ_CUR_HI (n : Nat) : Nat := 0x100000 + n * 0x100 + 0x24
/-- CQ_BASE_LO (R67). -/
abbrev R.CQ_BASE_LO (n : Nat) : Nat := 0x100000 + n * 0x100 + 0x28
/-- CQ_BASE_HI (R67). -/
abbrev R.CQ_BASE_HI (n : Nat) : Nat := 0x100000 + n * 0x100 + 0x2c
/-- CQ_SIZE (R67). -/
abbrev R.CQ_SIZE (n : Nat) : Nat := 0x100000 + n * 0x100 + 0x30
/-- CQ_TAIL (R67). -/
abbrev R.CQ_TAIL (n : Nat) : Nat := 0x100000 + n * 0x100 + 0x34
abbrev F.CQ_TAIL_INDEX (n : Nat) : Fld := ⟨R.CQ_TAIL n, 0, 16⟩
abbrev F.CQ_TAIL_TAIL_PHASE (n : Nat) : Fld := ⟨R.CQ_TAIL n, 31, 1⟩
/-- CQ_HEAD (R67). -/
abbrev R.CQ_HEAD (n : Nat) : Nat := 0x100000 + n * 0x100 + 0x38
abbrev F.CQ_HEAD_INDEX (n : Nat) : Fld := ⟨R.CQ_HEAD n, 0, 16⟩
/-- CQ_HOLD (R67). -/
abbrev R.CQ_HOLD (n : Nat) : Nat := 0x100000 + n * 0x100 + 0x3c
abbrev F.CQ_HOLD_RECORDS (n : Nat) : Fld := ⟨R.CQ_HOLD n, 0, 7⟩
/-- Q_ERR (R73). -/
abbrev R.Q_ERR (n : Nat) : Nat := 0x100000 + n * 0x100 + 0x40
abbrev F.Q_ERR_NEXT_BAD (n : Nat) : Fld := ⟨R.Q_ERR n, 0, 1⟩
abbrev F.Q_ERR_SQ_FAULT (n : Nat) : Fld := ⟨R.Q_ERR n, 1, 1⟩
abbrev F.Q_ERR_CQ_FAULT (n : Nat) : Fld := ⟨R.Q_ERR n, 2, 1⟩
abbrev F.Q_ERR_CFG_REJECT (n : Nat) : Fld := ⟨R.Q_ERR n, 3, 1⟩
abbrev F.Q_ERR_PRIO_REJECT (n : Nat) : Fld := ⟨R.Q_ERR n, 4, 1⟩
abbrev F.Q_ERR_HEAD_INVALID (n : Nat) : Fld := ⟨R.Q_ERR n, 5, 1⟩
abbrev F.Q_ERR_KICK_IGNORED (n : Nat) : Fld := ⟨R.Q_ERR n, 6, 1⟩
/-- Q_EVT_EN (R74). -/
abbrev R.Q_EVT_EN (n : Nat) : Nat := 0x100000 + n * 0x100 + 0x44
abbrev F.Q_EVT_EN_CPL_EN (n : Nat) : Fld := ⟨R.Q_EVT_EN n, 0, 1⟩
abbrev F.Q_EVT_EN_ERR_EN (n : Nat) : Fld := ⟨R.Q_EVT_EN n, 1, 1⟩
abbrev F.Q_EVT_EN_STALL_EN (n : Nat) : Fld := ⟨R.Q_EVT_EN n, 2, 1⟩
abbrev F.Q_EVT_EN_IDLE_EN (n : Nat) : Fld := ⟨R.Q_EVT_EN n, 3, 1⟩
abbrev F.Q_EVT_EN_CPL_ON_ERR (n : Nat) : Fld := ⟨R.Q_EVT_EN n, 4, 1⟩
/-- Q_JOBS_DONE (R67). -/
abbrev R.Q_JOBS_DONE (n : Nat) : Nat := 0x100000 + n * 0x100 + 0x48
/-- Q_JOBS_ERR (R67). -/
abbrev R.Q_JOBS_ERR (n : Nat) : Nat := 0x100000 + n * 0x100 + 0x50

end Sys2Proof.Machine
end

