-- ==== Sys2Proof/Machine/RegTable.lean ====
section
/-! DEFINITION. The register tables of the chapters as data: for every register its offset in its block, how often it
repeats, its fields with their access codes (R12), their reset kinds (R13) and reset values, its lock, and for a counter
the SAT bit. What R12 (a generic write), R13 (a reset) and R14 (reserved offsets) do is computed from these rows. -/

namespace Sys2Proof.Machine

/-- The access codes of R12. -/
inductive Acc where
  | ro | rw | wo | w1c | w1s | rc | rwl
  deriving DecidableEq, Repr

/-- The reset kinds of R13; `live` is the dash: a field that reflects live hardware state. -/
inductive RstKind where
  | po | sys | blk | bat | live
  deriving DecidableEq, Repr

/-- One field of a register: lowest bit, width, access, the reset that restores it and the value it restores. -/
structure FieldSpec where
  lo : Nat
  width : Nat
  acc : Acc
  kind : RstKind
  val : Nat
  deriving DecidableEq, Repr

/-- One row of a register table: offset in the block, repeat count and stride, and the fields. A 64-bit counter
(R15, R16) has no fields; `sat` says where the SAT bits of the repeats begin: offset in the block and first bit. -/
structure RegSpec where
  off : Nat
  count : Nat
  stride : Nat
  fields : List FieldSpec
  counter : Option RstKind
  sat : Nat × Nat
  deriving DecidableEq, Repr

/-- The blocks of the address map of R55, the repeated ones once. -/
inductive Blk where
  | glb | cpm | lcs | fcr | blf | rng | keep | dkeCh | dkeCom | sfi | ucsCom | ucsQ | cts | aea | aeaCom | ipp | lif
  | evc | mbx | cup | q
  deriving DecidableEq, Repr

/-- The register table of the GLB block (spec file 00). -/
def regTableGlb : List RegSpec :=
  [ ⟨0x0, 1, 4, [⟨16, 16, .ro, .live, 0⟩, ⟨12, 4, .ro, .live, 0⟩, ⟨8, 4, .ro, .live, 0⟩, ⟨4, 4, .ro, .live, 0⟩], none, (0, 0)⟩,
    ⟨0x4, 1, 4, [⟨0, 1, .w1c, .sys, 0⟩, ⟨1, 1, .w1c, .sys, 0⟩, ⟨2, 1, .ro, .sys, 0⟩, ⟨3, 1, .w1c, .sys, 0⟩, ⟨31, 1, .ro, .sys, 0⟩], none, (0, 0)⟩,
    ⟨0x8, 1, 4, [⟨0, 32, .wo, .sys, 0⟩], none, (0, 0)⟩,
    ⟨0x10, 1, 4, [⟨0, 2, .ro, .po, 0⟩, ⟨2, 1, .ro, .po, 0⟩, ⟨3, 1, .ro, .po, 0⟩, ⟨4, 2, .ro, .po, 0⟩, ⟨6, 2, .ro, .po, 0⟩, ⟨8, 3, .ro, .po, 0⟩, ⟨16, 1, .ro, .po, 0⟩, ⟨17, 1, .ro, .po, 0⟩, ⟨18, 1, .ro, .po, 0⟩, ⟨19, 3, .ro, .po, 0⟩], none, (0, 0)⟩,
    ⟨0x20, 1, 8, [], some .sys, (0x4, 31)⟩,
    ⟨0x28, 1, 4, [⟨0, 24, .ro, .sys, 0⟩, ⟨24, 3, .ro, .sys, 0⟩, ⟨31, 1, .ro, .sys, 0⟩], none, (0, 0)⟩,
    ⟨0x200, 32, 4, [⟨0, 6, .rw, .sys, 0⟩, ⟨16, 1, .w1c, .sys, 0⟩], none, (0, 0)⟩,
    ⟨0x280, 1, 4, [⟨0, 14, .ro, .live, 0⟩], none, (0, 0)⟩ ]

/-- The register table of the CPM block (spec file 15). -/
def regTableCpm : List RegSpec :=
  [ ⟨0x0, 1, 4, [⟨0, 1, .ro, .live, 0⟩, ⟨1, 1, .ro, .live, 0⟩, ⟨2, 1, .ro, .live, 0⟩, ⟨3, 1, .ro, .live, 0⟩, ⟨4, 1, .ro, .live, 0⟩, ⟨5, 1, .ro, .live, 0⟩], none, (0, 0)⟩,
    ⟨0x4, 1, 4, [⟨0, 1, .rw, .sys, 0⟩, ⟨1, 1, .rw, .sys, 0⟩, ⟨2, 1, .rw, .sys, 0⟩, ⟨3, 1, .rw, .sys, 1⟩], none, (0, 0)⟩,
    ⟨0x8, 1, 4, [⟨0, 1, .ro, .sys, 0⟩, ⟨1, 1, .w1c, .sys, 0⟩, ⟨8, 5, .w1c, .sys, 0⟩], none, (0, 0)⟩,
    ⟨0xc, 1, 4, [⟨0, 6, .rw, .sys, 16⟩, ⟨8, 2, .rw, .sys, 0⟩, ⟨16, 4, .rw, .sys, 4⟩], none, (0, 0)⟩,
    ⟨0x10, 1, 4, [⟨0, 6, .rw, .sys, 0⟩, ⟨8, 4, .rw, .sys, 0⟩], none, (0, 0)⟩,
    ⟨0x14, 1, 4, [⟨0, 16, .ro, .live, 0⟩], none, (0, 0)⟩,
    ⟨0x100, 1, 4, [⟨0, 1, .w1s, .sys, 0⟩, ⟨1, 1, .w1s, .sys, 0⟩, ⟨2, 1, .w1s, .sys, 0⟩, ⟨3, 1, .w1s, .sys, 0⟩, ⟨4, 1, .w1s, .sys, 0⟩, ⟨8, 1, .w1s, .sys, 0⟩], none, (0, 0)⟩,
    ⟨0x104, 1, 4, [⟨0, 1, .ro, .sys, 0⟩, ⟨1, 1, .ro, .sys, 0⟩, ⟨2, 1, .ro, .sys, 0⟩, ⟨3, 1, .ro, .sys, 0⟩, ⟨4, 1, .ro, .sys, 0⟩, ⟨5, 1, .ro, .live, 0⟩, ⟨6, 1, .ro, .live, 0⟩, ⟨7, 1, .ro, .sys, 0⟩, ⟨8, 3, .ro, .sys, 0⟩, ⟨16, 1, .w1c, .sys, 0⟩, ⟨17, 1, .w1c, .sys, 0⟩], none, (0, 0)⟩,
    ⟨0x108, 1, 4, [⟨0, 1, .rwl, .sys, 0⟩, ⟨1, 1, .rwl, .sys, 0⟩, ⟨8, 7, .rwl, .sys, 10⟩, ⟨31, 1, .w1s, .sys, 0⟩], none, (0, 0)⟩,
    ⟨0x10c, 1, 4, [⟨0, 10, .ro, .live, 0⟩, ⟨16, 10, .ro, .live, 0⟩], none, (0, 0)⟩,
    ⟨0x110, 1, 4, [⟨0, 10, .ro, .live, 0⟩, ⟨16, 5, .ro, .live, 0⟩, ⟨31, 1, .ro, .live, 0⟩], none, (0, 0)⟩,
    ⟨0x114, 1, 4, [⟨0, 10, .rw, .sys, 328⟩], none, (0, 0)⟩ ] ++
  [ ⟨0x118, 1, 4, [⟨0, 17, .ro, .live, 0⟩], none, (0, 0)⟩,
    ⟨0x11c, 1, 4, [⟨0, 8, .ro, .live, 0⟩, ⟨8, 8, .ro, .live, 0⟩, ⟨31, 1, .ro, .live, 0⟩], none, (0, 0)⟩,
    ⟨0x120, 1, 4, [⟨0, 8, .rwl, .sys, 103⟩, ⟨8, 8, .rwl, .sys, 105⟩, ⟨16, 8, .rwl, .sys, 110⟩], none, (0, 0)⟩,
    ⟨0x124, 1, 4, [⟨0, 13, .w1s, .sys, 0⟩], none, (0, 0)⟩,
    ⟨0x128, 1, 4, [⟨0, 6, .ro, .po, 1⟩], none, (0, 0)⟩,
    ⟨0x140, 7, 8, [], some .sys, (0x178, 0)⟩,
    ⟨0x178, 1, 4, [⟨0, 7, .ro, .sys, 0⟩], none, (0, 0)⟩ ]

/-- The register table of the LCS block (spec file 13). -/
def regTableLcs : List RegSpec :=
  [ ⟨0x0, 1, 4, [⟨0, 4, .ro, .po, 0⟩], none, (0, 0)⟩,
    ⟨0x4, 1, 4, [⟨0, 1, .ro, .sys, 0⟩, ⟨1, 1, .ro, .po, 0⟩, ⟨2, 1, .ro, .po, 0⟩, ⟨3, 1, .ro, .po, 0⟩, ⟨4, 1, .w1c, .sys, 0⟩, ⟨5, 3, .ro, .sys, 0⟩, ⟨8, 1, .w1c, .po, 0⟩, ⟨9, 3, .ro, .po, 0⟩, ⟨12, 1, .ro, .po, 0⟩, ⟨13, 1, .ro, .sys, 0⟩, ⟨14, 1, .w1c, .sys, 0⟩, ⟨16, 4, .ro, .po, 0⟩], none, (0, 0)⟩,
    ⟨0x8, 1, 4, [⟨0, 4, .wo, .sys, 0⟩], none, (0, 0)⟩,
    ⟨0xc, 1, 4, [⟨0, 1, .w1s, .sys, 0⟩, ⟨1, 1, .w1s, .sys, 0⟩, ⟨2, 1, .w1s, .sys, 0⟩, ⟨3, 1, .w1s, .sys, 0⟩, ⟨4, 1, .w1s, .sys, 0⟩, ⟨8, 1, .w1s, .sys, 0⟩], none, (0, 0)⟩,
    ⟨0x10, 5, 4, [⟨0, 32, .ro, .live, 0⟩], none, (0, 0)⟩,
    ⟨0x24, 1, 4, [⟨0, 1, .ro, .sys, 0⟩, ⟨1, 1, .ro, .sys, 0⟩, ⟨2, 1, .ro, .sys, 0⟩, ⟨8, 8, .ro, .sys, 0⟩], none, (0, 0)⟩,
    ⟨0x28, 1, 4, [⟨0, 17, .ro, .sys, 0⟩], none, (0, 0)⟩,
    ⟨0x2c, 1, 4, [⟨0, 32, .rw, .sys, 0⟩], none, (0, 0)⟩,
    ⟨0x30, 1, 4, [⟨0, 32, .rw, .sys, 0⟩], none, (0, 0)⟩,
    ⟨0x34, 1, 4, [⟨0, 4, .ro, .sys, 0⟩, ⟨31, 1, .ro, .sys, 0⟩], none, (0, 0)⟩,
    ⟨0x40, 8, 4, [⟨0, 32, .ro, .sys, 0⟩], none, (0, 0)⟩,
    ⟨0x60, 12, 4, [⟨0, 32, .rw, .sys, 0⟩], none, (0, 0)⟩ ] ++
  [ ⟨0x100, 5, 8, [], some .sys, (0x128, 0)⟩,
    ⟨0x128, 1, 4, [⟨0, 5, .ro, .sys, 0⟩], none, (0, 0)⟩ ]

/-- The register table of the FCR block (spec file 14). -/
def regTableFcr : List RegSpec :=
  [ ⟨0x0, 1, 4, [⟨0, 1, .w1s, .sys, 0⟩, ⟨1, 1, .w1s, .sys, 0⟩, ⟨8, 1, .w1s, .sys, 0⟩], none, (0, 0)⟩,
    ⟨0x4, 1, 4, [⟨0, 1, .ro, .live, 0⟩, ⟨1, 1, .w1c, .po, 0⟩, ⟨2, 1, .ro, .sys, 0⟩, ⟨3, 1, .ro, .sys, 0⟩, ⟨4, 1, .ro, .sys, 0⟩, ⟨5, 1, .w1c, .sys, 0⟩, ⟨6, 1, .w1c, .sys, 0⟩, ⟨7, 1, .w1c, .sys, 0⟩, ⟨8, 1, .ro, .live, 0⟩], none, (0, 0)⟩,
    ⟨0x8, 1, 4, [⟨0, 3, .rwl, .sys, 1⟩, ⟨31, 1, .w1s, .sys, 0⟩], none, (0, 0)⟩,
    ⟨0x10, 1, 4, [⟨0, 32, .ro, .po, 0⟩], none, (0, 0)⟩,
    ⟨0x14, 1, 4, [⟨0, 32, .ro, .po, 0⟩], none, (0, 0)⟩,
    ⟨0x18, 1, 4, [⟨0, 3, .ro, .po, 0⟩, ⟨16, 15, .ro, .po, 0⟩, ⟨31, 1, .w1c, .po, 0⟩], none, (0, 0)⟩,
    ⟨0x20, 1, 4, [⟨0, 32, .ro, .po, 0⟩], none, (0, 0)⟩,
    ⟨0x24, 1, 4, [⟨0, 32, .ro, .po, 0⟩], none, (0, 0)⟩,
    ⟨0x28, 1, 4, [⟨0, 16, .ro, .po, 0⟩], none, (0, 0)⟩,
    ⟨0x2c, 1, 4, [⟨0, 32, .w1c, .po, 0⟩], none, (0, 0)⟩,
    ⟨0x30, 1, 4, [⟨0, 32, .ro, .live, 0⟩], none, (0, 0)⟩,
    ⟨0x34, 1, 4, [⟨0, 3, .ro, .sys, 0⟩, ⟨3, 1, .ro, .sys, 0⟩, ⟨16, 16, .ro, .sys, 0⟩], none, (0, 0)⟩ ] ++
  [ ⟨0x40, 1, 4, [⟨0, 32, .ro, .live, 0⟩], none, (0, 0)⟩,
    ⟨0x44, 1, 4, [⟨0, 32, .ro, .live, 0⟩], none, (0, 0)⟩,
    ⟨0x48, 1, 4, [⟨0, 32, .ro, .live, 0⟩], none, (0, 0)⟩,
    ⟨0x4c, 1, 4, [⟨0, 32, .ro, .live, 0⟩], none, (0, 0)⟩,
    ⟨0x50, 1, 4, [⟨0, 9, .ro, .live, 0⟩], none, (0, 0)⟩,
    ⟨0x58, 1, 4, [⟨0, 32, .ro, .bat, 0⟩], none, (0, 0)⟩,
    ⟨0x5c, 1, 4, [⟨0, 32, .ro, .bat, 0⟩], none, (0, 0)⟩,
    ⟨0x80, 32, 4, [⟨0, 3, .rw, .sys, 0⟩], none, (0, 0)⟩,
    ⟨0x100, 32, 8, [], some .sys, (0x200, 0)⟩,
    ⟨0x200, 1, 4, [⟨0, 32, .ro, .sys, 0⟩], none, (0, 0)⟩ ]

/-- The register table of the BLF block (spec file 12). -/
def regTableBlf : List RegSpec :=
  [ ⟨0x0, 1, 4, [⟨0, 1, .w1s, .sys, 0⟩, ⟨8, 1, .w1s, .sys, 0⟩, ⟨31, 1, .w1s, .sys, 0⟩], none, (0, 0)⟩,
    ⟨0x4, 1, 4, [⟨0, 1, .ro, .sys, 0⟩, ⟨1, 1, .ro, .sys, 1⟩, ⟨2, 1, .ro, .sys, 1⟩, ⟨3, 1, .ro, .sys, 0⟩, ⟨4, 1, .w1c, .sys, 0⟩, ⟨5, 1, .w1c, .sys, 0⟩, ⟨6, 1, .ro, .live, 0⟩], none, (0, 0)⟩,
    ⟨0x8, 1, 4, [⟨0, 16, .rw, .sys, 0⟩, ⟨16, 1, .rw, .sys, 0⟩, ⟨17, 1, .rw, .sys, 0⟩], none, (0, 0)⟩,
    ⟨0xc, 1, 4, [⟨0, 16, .ro, .po, 0⟩, ⟨16, 16, .ro, .po, 0⟩], none, (0, 0)⟩,
    ⟨0x10, 1, 4, [⟨0, 16, .ro, .live, 0⟩], none, (0, 0)⟩,
    ⟨0x14, 1, 4, [⟨0, 16, .w1c, .po, 0⟩], none, (0, 0)⟩,
    ⟨0x18, 1, 4, [⟨0, 16, .w1c, .po, 0⟩], none, (0, 0)⟩,
    ⟨0x1c, 1, 4, [⟨0, 16, .w1s, .po, 0⟩, ⟨16, 16, .w1s, .po, 0⟩], none, (0, 0)⟩,
    ⟨0x20, 1, 4, [⟨0, 16, .ro, .live, 0⟩, ⟨16, 16, .ro, .live, 0⟩], none, (0, 0)⟩,
    ⟨0x24, 1, 4, [⟨0, 4, .rwl, .sys, 3⟩, ⟨16, 16, .rwl, .sys, 1000⟩], none, (0, 0)⟩,
    ⟨0x28, 1, 4, [⟨0, 4, .rw, .sys, 0⟩, ⟨8, 1, .rw, .sys, 0⟩, ⟨9, 1, .rw, .sys, 0⟩, ⟨31, 1, .w1s, .sys, 0⟩], none, (0, 0)⟩,
    ⟨0x40, 14, 4, [⟨0, 3, .rwl, .sys, 0⟩, ⟨4, 1, .rwl, .sys, 0⟩], none, (0, 0)⟩ ] ++
  [ ⟨0x80, 1, 4, [⟨0, 5, .ro, .bat, 0⟩, ⟨8, 4, .ro, .bat, 0⟩, ⟨16, 1, .ro, .bat, 0⟩, ⟨17, 1, .ro, .bat, 0⟩, ⟨18, 1, .ro, .live, 0⟩], none, (0, 0)⟩,
    ⟨0x84, 1, 4, [⟨0, 1, .w1s, .sys, 0⟩, ⟨1, 1, .w1s, .sys, 0⟩], none, (0, 0)⟩,
    ⟨0x88, 1, 4, [⟨0, 8, .rwl, .bat, 206⟩, ⟨8, 8, .rwl, .bat, 125⟩], none, (0, 0)⟩,
    ⟨0x8c, 1, 4, [⟨0, 8, .ro, .live, 0⟩], none, (0, 0)⟩,
    ⟨0x100, 14, 8, [], some .sys, (0x280, 0)⟩,
    ⟨0x180, 14, 8, [], some .sys, (0x284, 0)⟩,
    ⟨0x200, 14, 8, [], some .sys, (0x288, 0)⟩,
    ⟨0x280, 1, 4, [⟨0, 16, .ro, .sys, 0⟩], none, (0, 0)⟩,
    ⟨0x284, 1, 4, [⟨0, 16, .ro, .sys, 0⟩], none, (0, 0)⟩,
    ⟨0x288, 1, 4, [⟨0, 16, .ro, .sys, 0⟩], none, (0, 0)⟩ ]

/-- The register table of the RNG block (spec file 11). -/
def regTableRng : List RegSpec :=
  [ ⟨0x0, 1, 4, [⟨0, 1, .w1s, .sys, 0⟩, ⟨8, 1, .w1s, .sys, 0⟩, ⟨31, 1, .w1s, .sys, 0⟩], none, (0, 0)⟩,
    ⟨0x4, 1, 4, [⟨0, 3, .ro, .blk, 0⟩, ⟨3, 1, .ro, .live, 0⟩, ⟨4, 1, .w1c, .live, 0⟩, ⟨5, 1, .w1c, .blk, 0⟩, ⟨6, 1, .w1c, .blk, 0⟩, ⟨7, 1, .ro, .po, 0⟩, ⟨8, 2, .ro, .po, 0⟩, ⟨12, 4, .ro, .blk, 0⟩], none, (0, 0)⟩,
    ⟨0x8, 1, 4, [⟨0, 4, .rwl, .sys, 6⟩], none, (0, 0)⟩,
    ⟨0xc, 1, 4, [⟨0, 10, .rwl, .sys, 10⟩], none, (0, 0)⟩,
    ⟨0x10, 1, 4, [⟨0, 5, .rwl, .sys, 16⟩], none, (0, 0)⟩,
    ⟨0x14, 1, 4, [⟨0, 8, .ro, .live, 0⟩, ⟨8, 8, .ro, .live, 0⟩, ⟨16, 8, .ro, .live, 0⟩, ⟨24, 8, .ro, .live, 0⟩], none, (0, 0)⟩,
    ⟨0x18, 1, 4, [⟨0, 32, .ro, .blk, 0⟩], none, (0, 0)⟩,
    ⟨0x1c, 1, 4, [⟨0, 16, .ro, .live, 0⟩, ⟨16, 16, .ro, .live, 0⟩], none, (0, 0)⟩,
    ⟨0x20, 1, 4, [⟨0, 32, .ro, .live, 0⟩], none, (0, 0)⟩,
    ⟨0x28, 1, 4, [⟨0, 3, .rwl, .sys, 0⟩, ⟨31, 1, .rwl, .sys, 0⟩], none, (0, 0)⟩,
    ⟨0x2c, 1, 4, [⟨0, 32, .ro, .live, 0⟩], none, (0, 0)⟩,
    ⟨0x40, 8, 8, [], some .sys, (0x80, 0)⟩ ] ++
  [ ⟨0x80, 1, 4, [⟨0, 8, .ro, .sys, 0⟩], none, (0, 0)⟩ ]

/-- The register table of the KEEP block (spec file 09). -/
def regTableKeep : List RegSpec :=
  [ ⟨0x0, 1, 4, [⟨0, 1, .w1s, .sys, 0⟩, ⟨8, 1, .w1s, .sys, 0⟩], none, (0, 0)⟩,
    ⟨0x4, 1, 4, [⟨0, 1, .ro, .sys, 0⟩, ⟨1, 1, .ro, .po, 0⟩, ⟨2, 1, .ro, .live, 0⟩, ⟨3, 1, .ro, .po, 0⟩, ⟨4, 1, .ro, .sys, 0⟩, ⟨5, 1, .w1c, .sys, 0⟩, ⟨6, 1, .w1c, .sys, 0⟩, ⟨7, 1, .w1c, .sys, 0⟩], none, (0, 0)⟩,
    ⟨0x8, 1, 4, [⟨0, 1, .rwl, .sys, 1⟩, ⟨1, 1, .rwl, .sys, 0⟩, ⟨31, 1, .w1s, .sys, 0⟩], none, (0, 0)⟩,
    ⟨0xc, 1, 4, [⟨0, 32, .rwl, .sys, 0⟩], none, (0, 0)⟩,
    ⟨0x10, 1, 4, [⟨0, 15, .ro, .live, 0⟩, ⟨16, 15, .ro, .live, 0⟩], none, (0, 0)⟩,
    ⟨0x14, 1, 4, [⟨0, 22, .ro, .live, 0⟩], none, (0, 0)⟩,
    ⟨0x18, 1, 4, [⟨0, 7, .ro, .live, 0⟩], none, (0, 0)⟩,
    ⟨0x1c, 1, 4, [⟨0, 14, .ro, .live, 0⟩, ⟨16, 4, .ro, .live, 0⟩, ⟨31, 1, .ro, .live, 0⟩], none, (0, 0)⟩,
    ⟨0x20, 4, 4, [⟨0, 32, .ro, .live, 0⟩], none, (0, 0)⟩,
    ⟨0x30, 1, 4, [⟨0, 1, .w1s, .sys, 0⟩], none, (0, 0)⟩,
    ⟨0x34, 1, 4, [⟨0, 32, .ro, .live, 0⟩], none, (0, 0)⟩,
    ⟨0x38, 1, 4, [⟨0, 14, .rw, .sys, 0⟩], none, (0, 0)⟩ ] ++
  [ ⟨0x3c, 1, 4, [⟨0, 32, .ro, .live, 0⟩], none, (0, 0)⟩,
    ⟨0x40, 1, 4, [⟨0, 16, .ro, .live, 0⟩, ⟨16, 6, .ro, .live, 0⟩], none, (0, 0)⟩,
    ⟨0x44, 1, 4, [⟨0, 32, .ro, .live, 0⟩], none, (0, 0)⟩,
    ⟨0x48, 1, 4, [⟨0, 21, .ro, .live, 0⟩], none, (0, 0)⟩,
    ⟨0x50, 1, 4, [⟨0, 32, .rw, .sys, 0⟩], none, (0, 0)⟩,
    ⟨0x54, 1, 4, [⟨0, 32, .rw, .sys, 0⟩], none, (0, 0)⟩,
    ⟨0x58, 1, 4, [⟨0, 14, .rw, .sys, 0⟩, ⟨14, 1, .rw, .sys, 0⟩, ⟨31, 1, .w1s, .sys, 0⟩], none, (0, 0)⟩,
    ⟨0x5c, 1, 4, [⟨0, 8, .ro, .sys, 0⟩, ⟨8, 24, .ro, .sys, 0⟩], none, (0, 0)⟩,
    ⟨0x60, 1, 4, [⟨0, 32, .ro, .sys, 0⟩], none, (0, 0)⟩,
    ⟨0x80, 1, 4, [⟨0, 1, .ro, .sys, 0⟩, ⟨1, 1, .ro, .sys, 0⟩, ⟨8, 6, .ro, .sys, 0⟩], none, (0, 0)⟩,
    ⟨0x84, 1, 4, [⟨0, 1, .w1s, .sys, 0⟩, ⟨1, 1, .w1s, .sys, 0⟩, ⟨2, 1, .w1s, .sys, 0⟩, ⟨3, 1, .w1s, .sys, 0⟩], none, (0, 0)⟩,
    ⟨0xc0, 16, 4, [⟨0, 32, .rw, .sys, 0⟩], none, (0, 0)⟩ ] ++
  [ ⟨0x100, 9, 8, [], some .sys, (0x148, 0)⟩,
    ⟨0x148, 1, 4, [⟨0, 9, .ro, .sys, 0⟩], none, (0, 0)⟩ ]

/-- The register table of the DKE_CH block (spec file 10). -/
def regTableDkeCh : List RegSpec :=
  [ ⟨0x0, 1, 4, [⟨0, 1, .w1s, .blk, 0⟩, ⟨1, 1, .w1s, .blk, 0⟩, ⟨2, 1, .w1s, .blk, 0⟩, ⟨8, 1, .ro, .live, 0⟩, ⟨9, 1, .ro, .live, 0⟩, ⟨10, 1, .ro, .live, 0⟩, ⟨12, 2, .ro, .live, 0⟩], none, (0, 0)⟩,
    ⟨0x4, 1, 4, [⟨0, 1, .w1s, .blk, 0⟩, ⟨1, 1, .w1s, .blk, 0⟩, ⟨2, 1, .w1s, .blk, 0⟩], none, (0, 0)⟩,
    ⟨0x8, 1, 4, [⟨0, 3, .ro, .live, 0⟩, ⟨8, 1, .w1c, .blk, 0⟩, ⟨9, 1, .w1c, .blk, 0⟩, ⟨10, 1, .w1c, .blk, 0⟩, ⟨11, 1, .w1c, .blk, 0⟩, ⟨16, 8, .ro, .blk, 0⟩, ⟨24, 8, .ro, .blk, 0⟩], none, (0, 0)⟩,
    ⟨0xc, 1, 4, [⟨0, 4, .rw, .blk, 0⟩, ⟨8, 1, .rw, .blk, 0⟩, ⟨16, 7, .rw, .blk, 0⟩], none, (0, 0)⟩,
    ⟨0x10, 1, 4, [⟨0, 32, .rw, .blk, 4294967295⟩], none, (0, 0)⟩,
    ⟨0x14, 1, 4, [⟨0, 16, .ro, .blk, 0⟩], none, (0, 0)⟩,
    ⟨0x18, 1, 4, [⟨0, 32, .ro, .blk, 0⟩], none, (0, 0)⟩,
    ⟨0x1c, 1, 4, [⟨0, 32, .ro, .blk, 0⟩], none, (0, 0)⟩,
    ⟨0x40, 16, 4, [⟨0, 32, .wo, .blk, 0⟩], none, (0, 0)⟩,
    ⟨0x80, 16, 4, [⟨0, 32, .ro, .blk, 0⟩], none, (0, 0)⟩ ]

/-- The register table of the DKE_COM block (spec file 10). -/
def regTableDkeCom : List RegSpec :=
  [ ⟨0x0, 1, 4, [⟨0, 3, .rwl, .sys, 3⟩, ⟨8, 7, .rwl, .sys, 16⟩, ⟨31, 1, .w1s, .sys, 0⟩], none, (0, 0)⟩,
    ⟨0x4, 1, 4, [⟨0, 4, .ro, .live, 0⟩, ⟨4, 4, .ro, .live, 0⟩], none, (0, 0)⟩,
    ⟨0x10, 8, 8, [], some .sys, (0x50, 0)⟩,
    ⟨0x50, 1, 4, [⟨0, 8, .ro, .sys, 0⟩], none, (0, 0)⟩,
    ⟨0x54, 1, 4, [⟨0, 1, .w1s, .sys, 0⟩], none, (0, 0)⟩ ]

/-- The register table of the SFI block (spec file 10). -/
def regTableSfi : List RegSpec :=
  [ ⟨0x0, 1, 4, [⟨0, 32, .wo, .blk, 0⟩], none, (0, 0)⟩,
    ⟨0x10, 4, 4, [⟨0, 32, .wo, .blk, 0⟩], none, (0, 0)⟩,
    ⟨0x20, 1, 4, [⟨0, 1, .w1s, .blk, 0⟩, ⟨1, 1, .w1s, .blk, 0⟩], none, (0, 0)⟩,
    ⟨0x24, 1, 4, [⟨0, 13, .ro, .live, 0⟩, ⟨16, 1, .ro, .live, 0⟩, ⟨17, 1, .ro, .live, 0⟩, ⟨24, 1, .w1c, .blk, 0⟩, ⟨25, 1, .w1c, .blk, 0⟩], none, (0, 0)⟩,
    ⟨0x28, 1, 4, [⟨0, 13, .ro, .live, 0⟩], none, (0, 0)⟩,
    ⟨0x2c, 1, 4, [⟨0, 16, .rw, .blk, 1000⟩], none, (0, 0)⟩,
    ⟨0x30, 4, 8, [], some .blk, (0x50, 0)⟩,
    ⟨0x50, 1, 4, [⟨0, 4, .ro, .blk, 0⟩], none, (0, 0)⟩ ]

/-- The register table of the UCS_COM block (spec file 05). -/
def regTableUcsCom : List RegSpec :=
  [ ⟨0x0, 1, 4, [⟨0, 16, .ro, .po, 17⟩, ⟨16, 16, .ro, .po, 2⟩], none, (0, 0)⟩,
    ⟨0x4, 1, 4, [⟨0, 32, .rwl, .sys, 0⟩], none, (0, 0)⟩,
    ⟨0x8, 1, 4, [⟨0, 32, .rwl, .sys, 0⟩], none, (0, 0)⟩,
    ⟨0xc, 1, 4, [⟨0, 7, .rwl, .sys, 0⟩], none, (0, 0)⟩,
    ⟨0x10, 1, 4, [⟨0, 6, .ro, .blk, 0⟩, ⟨6, 14, .ro, .blk, 0⟩, ⟨20, 4, .ro, .blk, 0⟩, ⟨31, 1, .w1c, .blk, 0⟩], none, (0, 0)⟩,
    ⟨0x18, 1, 8, [], some .blk, (0x1004, 16)⟩ ]

/-- The register table of the UCS_Q block (spec file 05). -/
def regTableUcsQ : List RegSpec :=
  [ ⟨0x0, 1, 4, [⟨0, 1, .w1s, .sys, 0⟩, ⟨1, 1, .w1s, .sys, 0⟩, ⟨2, 1, .w1s, .sys, 0⟩], none, (0, 0)⟩,
    ⟨0x4, 1, 4, [⟨0, 1, .ro, .sys, 0⟩, ⟨1, 1, .ro, .sys, 0⟩, ⟨2, 1, .w1c, .sys, 0⟩, ⟨3, 1, .ro, .sys, 0⟩, ⟨4, 1, .ro, .sys, 0⟩, ⟨16, 1, .ro, .blk, 0⟩], none, (0, 0)⟩,
    ⟨0x8, 1, 4, [⟨0, 2, .ro, .live, 0⟩, ⟨8, 6, .ro, .live, 0⟩, ⟨16, 6, .ro, .live, 0⟩], none, (0, 0)⟩,
    ⟨0xc, 1, 4, [⟨0, 14, .rw, .sys, 0⟩, ⟨16, 2, .rw, .sys, 0⟩], none, (0, 0)⟩,
    ⟨0x10, 4, 4, [⟨0, 32, .wo, .sys, 0⟩], none, (0, 0)⟩,
    ⟨0x20, 1, 4, [⟨0, 32, .wo, .sys, 0⟩], none, (0, 0)⟩,
    ⟨0x24, 1, 4, [⟨0, 2, .ro, .sys, 0⟩, ⟨2, 14, .ro, .sys, 0⟩, ⟨16, 4, .ro, .sys, 0⟩], none, (0, 0)⟩,
    ⟨0x28, 1, 4, [⟨0, 13, .ro, .sys, 0⟩, ⟨16, 10, .ro, .sys, 0⟩], none, (0, 0)⟩,
    ⟨0x2c, 1, 4, [⟨0, 7, .ro, .sys, 0⟩, ⟨16, 9, .ro, .sys, 0⟩], none, (0, 0)⟩,
    ⟨0x40, 12, 4, [⟨0, 32, .ro, .sys, 0⟩], none, (0, 0)⟩ ]

/-- The register table of the CTS block (spec file 07). -/
def regTableCts : List RegSpec :=
  [ ⟨0x0, 1, 4, [⟨0, 1, .w1s, .sys, 0⟩, ⟨1, 1, .rw, .sys, 1⟩, ⟨2, 1, .w1s, .sys, 0⟩, ⟨8, 1, .w1s, .sys, 0⟩], none, (0, 0)⟩,
    ⟨0x4, 1, 4, [⟨0, 1, .ro, .sys, 0⟩, ⟨1, 1, .ro, .sys, 0⟩, ⟨2, 1, .ro, .sys, 0⟩, ⟨3, 1, .ro, .sys, 0⟩, ⟨4, 1, .ro, .live, 0⟩, ⟨5, 1, .ro, .live, 0⟩, ⟨6, 1, .ro, .sys, 0⟩, ⟨7, 1, .ro, .sys, 0⟩, ⟨8, 4, .ro, .sys, 0⟩, ⟨16, 1, .w1c, .sys, 0⟩], none, (0, 0)⟩,
    ⟨0x8, 1, 4, [⟨0, 16, .rwl, .sys, 500⟩, ⟨16, 8, .rwl, .sys, 24⟩, ⟨24, 1, .rwl, .sys, 1⟩, ⟨31, 1, .w1s, .sys, 0⟩], none, (0, 0)⟩,
    ⟨0xc, 1, 4, [⟨0, 16, .ro, .po, 0⟩], none, (0, 0)⟩,
    ⟨0x10, 1, 4, [⟨0, 24, .ro, .live, 0⟩], none, (0, 0)⟩,
    ⟨0x14, 1, 4, [⟨0, 32, .ro, .live, 0⟩], none, (0, 0)⟩,
    ⟨0x18, 1, 4, [⟨0, 8, .rw, .sys, 95⟩, ⟨8, 8, .rw, .sys, 105⟩, ⟨16, 8, .rw, .sys, 110⟩], none, (0, 0)⟩,
    ⟨0x1c, 1, 4, [⟨0, 13, .ro, .live, 0⟩, ⟨16, 13, .ro, .live, 0⟩], none, (0, 0)⟩,
    ⟨0x20, 1, 4, [⟨0, 32, .ro, .live, 0⟩], none, (0, 0)⟩,
    ⟨0x24, 1, 4, [⟨0, 32, .ro, .live, 0⟩], none, (0, 0)⟩,
    ⟨0x28, 1, 4, [⟨0, 32, .ro, .sys, 0⟩], none, (0, 0)⟩,
    ⟨0x2c, 1, 4, [⟨0, 5, .ro, .sys, 0⟩, ⟨8, 1, .ro, .sys, 0⟩, ⟨31, 1, .w1c, .sys, 0⟩], none, (0, 0)⟩ ] ++
  [ ⟨0x30, 1, 4, [⟨0, 9, .ro, .live, 0⟩], none, (0, 0)⟩,
    ⟨0x40, 11, 8, [], some .sys, (0x98, 0)⟩,
    ⟨0x98, 1, 4, [⟨0, 11, .ro, .sys, 0⟩], none, (0, 0)⟩ ]

/-- The register table of the AEA_LT block (spec file 03). -/
def regTableAea : List RegSpec :=
  [ ⟨0x0, 1, 4, [⟨0, 1, .rw, .blk, 1⟩, ⟨8, 1, .w1s, .blk, 0⟩], none, (0, 0)⟩,
    ⟨0x4, 1, 4, [⟨0, 3, .ro, .live, 0⟩, ⟨3, 2, .ro, .live, 0⟩, ⟨5, 1, .ro, .live, 0⟩, ⟨6, 1, .ro, .live, 0⟩, ⟨7, 1, .ro, .sys, 0⟩, ⟨8, 1, .ro, .blk, 0⟩, ⟨9, 1, .ro, .blk, 0⟩, ⟨10, 1, .w1c, .blk, 0⟩, ⟨16, 1, .ro, .blk, 0⟩, ⟨17, 1, .ro, .blk, 0⟩, ⟨18, 1, .ro, .blk, 0⟩, ⟨19, 1, .ro, .blk, 0⟩], none, (0, 0)⟩,
    ⟨0x8, 1, 4, [⟨0, 12, .ro, .live, 0⟩, ⟨12, 2, .ro, .live, 0⟩, ⟨16, 16, .ro, .live, 0⟩], none, (0, 0)⟩,
    ⟨0x10, 1, 8, [], some .blk, (0x4, 16)⟩,
    ⟨0x18, 1, 8, [], some .blk, (0x4, 17)⟩,
    ⟨0x20, 1, 8, [], some .blk, (0x4, 18)⟩,
    ⟨0x28, 1, 8, [], some .blk, (0x4, 19)⟩,
    ⟨0x30, 1, 8, [], some .blk, (0x0, 0)⟩,
    ⟨0x38, 1, 4, [⟨0, 16, .rc, .blk, 0⟩], none, (0, 0)⟩ ]

/-- The register table of the AEA_COM block (spec file 03/04). -/
def regTableAeaCom : List RegSpec :=
  [ ⟨0x0, 1, 4, [⟨0, 32, .ro, .live, 0⟩], none, (0, 0)⟩,
    ⟨0x4, 1, 4, [⟨0, 1, .rwl, .sys, 1⟩, ⟨1, 1, .rwl, .sys, 0⟩, ⟨2, 1, .rwl, .sys, 0⟩, ⟨31, 1, .w1s, .sys, 0⟩], none, (0, 0)⟩,
    ⟨0x40, 1, 4, [⟨0, 32, .ro, .live, 0⟩], none, (0, 0)⟩,
    ⟨0x44, 1, 4, [⟨0, 32, .ro, .live, 0⟩], none, (0, 0)⟩,
    ⟨0x48, 1, 4, [⟨0, 1, .rwl, .sys, 0⟩, ⟨1, 1, .rwl, .sys, 1⟩, ⟨2, 1, .rwl, .sys, 1⟩, ⟨31, 1, .w1s, .sys, 0⟩], none, (0, 0)⟩ ]

/-- The register table of the IPP block (spec file 06). -/
def regTableIpp : List RegSpec :=
  [ ⟨0x0, 1, 4, [⟨0, 1, .rw, .sys, 0⟩], none, (0, 0)⟩,
    ⟨0x4, 1, 4, [⟨0, 1, .ro, .live, 0⟩, ⟨1, 1, .ro, .live, 0⟩, ⟨2, 1, .ro, .blk, 0⟩, ⟨8, 1, .w1c, .blk, 0⟩], none, (0, 0)⟩,
    ⟨0x8, 1, 4, [⟨0, 16, .rw, .sys, 2000⟩, ⟨16, 16, .rw, .sys, 60⟩], none, (0, 0)⟩,
    ⟨0xc, 1, 4, [⟨0, 32, .rw, .sys, 3221225472⟩], none, (0, 0)⟩,
    ⟨0x10, 1, 4, [⟨0, 32, .rw, .sys, 0⟩], none, (0, 0)⟩,
    ⟨0x14, 1, 4, [⟨0, 32, .rw, .sys, 3221225472⟩], none, (0, 0)⟩,
    ⟨0x18, 1, 4, [⟨0, 32, .ro, .live, 0⟩], none, (0, 0)⟩,
    ⟨0x1c, 1, 4, [⟨0, 11, .ro, .live, 0⟩], none, (0, 0)⟩,
    ⟨0x20, 1, 4, [⟨0, 23, .ro, .live, 0⟩], none, (0, 0)⟩,
    ⟨0x24, 1, 4, [⟨0, 13, .ro, .live, 0⟩], none, (0, 0)⟩,
    ⟨0x28, 1, 8, [], some .blk, (0x2c, 31)⟩,
    ⟨0x40, 8, 4, [⟨0, 8, .rw, .sys, 0⟩, ⟨8, 1, .rw, .sys, 0⟩, ⟨9, 1, .rw, .sys, 0⟩, ⟨10, 1, .rw, .sys, 0⟩, ⟨16, 16, .rw, .sys, 0⟩], none, (0, 0)⟩ ] ++
  [ ⟨0x80, 1, 4, [⟨0, 1, .w1s, .sys, 0⟩, ⟨1, 1, .w1s, .sys, 0⟩, ⟨2, 1, .rw, .sys, 0⟩], none, (0, 0)⟩,
    ⟨0x84, 1, 4, [⟨0, 16, .ro, .sys, 0⟩], none, (0, 0)⟩,
    ⟨0x88, 1, 4, [⟨0, 32, .ro, .sys, 0⟩], none, (0, 0)⟩,
    ⟨0x8c, 1, 4, [⟨0, 30, .ro, .sys, 0⟩], none, (0, 0)⟩,
    ⟨0x90, 1, 4, [⟨0, 32, .rw, .sys, 0⟩], none, (0, 0)⟩,
    ⟨0x94, 1, 4, [⟨0, 32, .rw, .sys, 0⟩], none, (0, 0)⟩,
    ⟨0x98, 1, 4, [⟨0, 3, .rw, .sys, 0⟩, ⟨3, 1, .rw, .sys, 0⟩, ⟨31, 1, .rw, .sys, 0⟩], none, (0, 0)⟩ ]

/-- The register table of the LIF block (spec file 06). -/
def regTableLif : List RegSpec :=
  [ ⟨0x0, 1, 4, [⟨0, 1, .rw, .blk, 0⟩, ⟨1, 1, .rw, .blk, 0⟩, ⟨8, 1, .w1s, .blk, 0⟩, ⟨9, 1, .w1s, .blk, 0⟩], none, (0, 0)⟩,
    ⟨0x4, 1, 4, [⟨0, 1, .ro, .live, 0⟩, ⟨1, 1, .ro, .live, 0⟩, ⟨2, 1, .ro, .live, 0⟩, ⟨3, 1, .ro, .live, 0⟩, ⟨4, 1, .ro, .live, 0⟩, ⟨16, 1, .w1c, .blk, 0⟩, ⟨17, 1, .w1c, .blk, 0⟩, ⟨18, 1, .w1c, .blk, 0⟩, ⟨19, 1, .w1c, .blk, 0⟩], none, (0, 0)⟩,
    ⟨0x8, 1, 4, [⟨0, 2, .rw, .blk, 0⟩, ⟨4, 3, .rw, .blk, 0⟩, ⟨8, 1, .rw, .blk, 0⟩, ⟨9, 1, .rw, .blk, 0⟩, ⟨10, 1, .rw, .blk, 0⟩], none, (0, 0)⟩,
    ⟨0xc, 1, 4, [⟨0, 2, .ro, .sys, 0⟩, ⟨4, 1, .ro, .sys, 0⟩, ⟨8, 4, .ro, .sys, 0⟩, ⟨12, 4, .ro, .sys, 0⟩], none, (0, 0)⟩,
    ⟨0x10, 1, 4, [⟨0, 14, .rw, .blk, 1536⟩], none, (0, 0)⟩,
    ⟨0x14, 1, 4, [⟨0, 24, .rw, .blk, 1048576⟩], none, (0, 0)⟩,
    ⟨0x18, 1, 4, [⟨0, 16, .rw, .blk, 0⟩, ⟨16, 16, .rw, .blk, 0⟩], none, (0, 0)⟩,
    ⟨0x1c, 1, 4, [⟨0, 32, .rw, .blk, 0⟩], none, (0, 0)⟩,
    ⟨0x20, 1, 4, [⟨0, 32, .rw, .blk, 0⟩], none, (0, 0)⟩,
    ⟨0x24, 1, 4, [⟨0, 32, .ro, .blk, 0⟩], none, (0, 0)⟩,
    ⟨0x28, 1, 4, [⟨0, 4, .rw, .blk, 0⟩], none, (0, 0)⟩,
    ⟨0x100, 10, 8, [], some .blk, (0x300, 0)⟩ ] ++
  [ ⟨0x200, 32, 8, [], some .blk, (0x304, 0)⟩,
    ⟨0x300, 1, 4, [⟨0, 10, .ro, .blk, 0⟩], none, (0, 0)⟩,
    ⟨0x304, 1, 4, [⟨0, 32, .ro, .blk, 0⟩], none, (0, 0)⟩ ]

/-- The register table of the EVC block (spec file 14). -/
def regTableEvc : List RegSpec :=
  [ ⟨0x0, 1, 4, [⟨8, 1, .w1s, .sys, 0⟩], none, (0, 0)⟩,
    ⟨0x4, 1, 4, [⟨0, 1, .ro, .live, 0⟩], none, (0, 0)⟩,
    ⟨0x10, 8, 4, [⟨0, 32, .ro, .live, 0⟩], none, (0, 0)⟩,
    ⟨0x30, 8, 4, [⟨0, 32, .w1c, .sys, 0⟩], none, (0, 0)⟩,
    ⟨0x50, 8, 4, [⟨0, 32, .rw, .sys, 0⟩], none, (0, 0)⟩,
    ⟨0x70, 8, 4, [⟨0, 32, .ro, .live, 0⟩], none, (0, 0)⟩,
    ⟨0x100, 3, 8, [], some .sys, (0x118, 0)⟩,
    ⟨0x118, 1, 4, [⟨0, 3, .ro, .sys, 0⟩], none, (0, 0)⟩,
    ⟨0x400, 256, 4, [⟨0, 6, .rw, .sys, 0⟩, ⟨8, 1, .rw, .sys, 0⟩, ⟨9, 1, .rw, .sys, 0⟩, ⟨10, 1, .rw, .sys, 0⟩], none, (0, 0)⟩ ]

/-- The register table of the MBX block (spec file 16). -/
def regTableMbx : List RegSpec :=
  [ ⟨0x0, 1, 4, [⟨0, 1, .w1s, .sys, 0⟩, ⟨1, 1, .w1s, .sys, 0⟩], none, (0, 0)⟩,
    ⟨0x4, 1, 4, [⟨0, 1, .ro, .sys, 0⟩, ⟨1, 1, .w1c, .sys, 0⟩, ⟨2, 1, .w1c, .sys, 0⟩, ⟨3, 1, .w1c, .sys, 0⟩], none, (0, 0)⟩,
    ⟨0x1000, 1024, 4, [⟨0, 32, .rw, .sys, 0⟩], none, (0, 0)⟩,
    ⟨0x2000, 1024, 4, [⟨0, 32, .ro, .sys, 0⟩], none, (0, 0)⟩ ]

/-- The register table of the CUP block (spec file 16). -/
def regTableCup : List RegSpec :=
  [ ⟨0x0, 1, 4, [⟨0, 4, .ro, .sys, 0⟩, ⟨4, 3, .ro, .sys, 0⟩, ⟨8, 2, .ro, .sys, 0⟩, ⟨12, 1, .ro, .sys, 0⟩, ⟨13, 1, .ro, .sys, 0⟩, ⟨14, 1, .ro, .sys, 0⟩, ⟨15, 1, .ro, .sys, 0⟩], none, (0, 0)⟩,
    ⟨0x4, 1, 4, [⟨0, 32, .ro, .sys, 0⟩], none, (0, 0)⟩,
    ⟨0x8, 1, 4, [⟨0, 32, .ro, .sys, 0⟩], none, (0, 0)⟩,
    ⟨0xc, 1, 4, [⟨0, 32, .ro, .sys, 0⟩], none, (0, 0)⟩,
    ⟨0x10, 1, 4, [⟨0, 7, .ro, .sys, 0⟩, ⟨8, 7, .ro, .sys, 0⟩, ⟨16, 7, .ro, .sys, 0⟩], none, (0, 0)⟩,
    ⟨0x14, 1, 4, [⟨0, 7, .ro, .live, 0⟩, ⟨8, 7, .ro, .live, 0⟩, ⟨16, 7, .ro, .live, 0⟩, ⟨24, 1, .ro, .live, 0⟩, ⟨25, 1, .ro, .live, 0⟩, ⟨26, 1, .ro, .live, 0⟩], none, (0, 0)⟩,
    ⟨0x18, 1, 4, [⟨0, 1, .rwl, .sys, 1⟩, ⟨1, 1, .rwl, .sys, 1⟩, ⟨2, 1, .rwl, .sys, 1⟩, ⟨31, 1, .w1s, .sys, 0⟩], none, (0, 0)⟩,
    ⟨0x1c, 1, 4, [⟨0, 32, .wo, .sys, 0⟩], none, (0, 0)⟩,
    ⟨0x20, 1, 4, [⟨0, 8, .ro, .sys, 0⟩], none, (0, 0)⟩,
    ⟨0x24, 1, 4, [⟨0, 2, .ro, .sys, 0⟩, ⟨2, 2, .ro, .sys, 0⟩, ⟨4, 2, .ro, .sys, 0⟩, ⟨8, 4, .ro, .sys, 0⟩, ⟨16, 16, .ro, .sys, 0⟩], none, (0, 0)⟩,
    ⟨0x28, 1, 4, [⟨0, 4, .ro, .live, 0⟩, ⟨4, 4, .ro, .live, 0⟩], none, (0, 0)⟩,
    ⟨0x30, 7, 8, [], some .sys, (0x68, 0)⟩ ] ++
  [ ⟨0x68, 1, 4, [⟨0, 7, .ro, .sys, 0⟩], none, (0, 0)⟩ ]

/-- The register table of the Q block (spec file 02). -/
def regTableQ : List RegSpec :=
  [ ⟨0x0, 1, 4, [⟨0, 1, .rw, .blk, 0⟩, ⟨1, 1, .rw, .blk, 0⟩, ⟨2, 1, .rw, .blk, 0⟩, ⟨3, 1, .rw, .blk, 0⟩, ⟨8, 1, .w1s, .blk, 0⟩, ⟨9, 1, .w1s, .blk, 0⟩, ⟨10, 1, .w1s, .blk, 0⟩], none, (0, 0)⟩,
    ⟨0x4, 1, 4, [⟨0, 1, .ro, .live, 0⟩, ⟨1, 1, .ro, .blk, 0⟩, ⟨2, 1, .ro, .blk, 0⟩, ⟨3, 1, .ro, .blk, 0⟩, ⟨4, 1, .ro, .blk, 0⟩, ⟨5, 1, .ro, .blk, 0⟩, ⟨6, 1, .ro, .blk, 0⟩, ⟨7, 1, .ro, .blk, 0⟩, ⟨8, 7, .ro, .live, 0⟩, ⟨16, 1, .w1c, .blk, 0⟩, ⟨17, 1, .w1c, .blk, 0⟩, ⟨18, 1, .w1c, .blk, 0⟩, ⟨19, 1, .w1c, .blk, 0⟩, ⟨28, 1, .ro, .blk, 0⟩, ⟨29, 1, .ro, .blk, 0⟩], none, (0, 0)⟩,
    ⟨0x8, 1, 4, [⟨0, 2, .rw, .blk, 0⟩, ⟨8, 4, .rw, .blk, 1⟩], none, (0, 0)⟩,
    ⟨0xc, 1, 4, [⟨0, 5, .ro, .live, 0⟩, ⟨8, 7, .ro, .live, 0⟩, ⟨16, 6, .ro, .live, 0⟩], none, (0, 0)⟩,
    ⟨0x10, 1, 4, [⟨0, 32, .rw, .blk, 0⟩], none, (0, 0)⟩,
    ⟨0x14, 1, 4, [⟨0, 32, .rw, .blk, 0⟩], none, (0, 0)⟩,
    ⟨0x18, 1, 4, [⟨0, 32, .wo, .blk, 0⟩], none, (0, 0)⟩,
    ⟨0x20, 1, 4, [⟨0, 32, .ro, .blk, 0⟩], none, (0, 0)⟩,
    ⟨0x24, 1, 4, [⟨0, 32, .ro, .blk, 0⟩], none, (0, 0)⟩,
    ⟨0x28, 1, 4, [⟨0, 32, .rw, .blk, 0⟩], none, (0, 0)⟩,
    ⟨0x2c, 1, 4, [⟨0, 32, .rw, .blk, 0⟩], none, (0, 0)⟩,
    ⟨0x30, 1, 4, [⟨0, 32, .rw, .blk, 16⟩], none, (0, 0)⟩ ] ++
  [ ⟨0x34, 1, 4, [⟨0, 16, .ro, .blk, 0⟩, ⟨31, 1, .ro, .blk, 0⟩], none, (0, 0)⟩,
    ⟨0x38, 1, 4, [⟨0, 16, .rw, .blk, 0⟩], none, (0, 0)⟩,
    ⟨0x3c, 1, 4, [⟨0, 7, .ro, .live, 0⟩], none, (0, 0)⟩,
    ⟨0x40, 1, 4, [⟨0, 1, .w1c, .blk, 0⟩, ⟨1, 1, .w1c, .blk, 0⟩, ⟨2, 1, .w1c, .blk, 0⟩, ⟨3, 1, .w1c, .blk, 0⟩, ⟨4, 1, .w1c, .blk, 0⟩, ⟨5, 1, .w1c, .blk, 0⟩, ⟨6, 1, .w1c, .blk, 0⟩], none, (0, 0)⟩,
    ⟨0x44, 1, 4, [⟨0, 1, .rw, .blk, 0⟩, ⟨1, 1, .rw, .blk, 0⟩, ⟨2, 1, .rw, .blk, 0⟩, ⟨3, 1, .rw, .blk, 0⟩, ⟨4, 1, .rw, .blk, 0⟩], none, (0, 0)⟩,
    ⟨0x48, 1, 8, [], some .blk, (0x4, 28)⟩,
    ⟨0x50, 1, 8, [], some .blk, (0x4, 29)⟩ ]

/-- The register table of a block. -/
def regTable : Blk → List RegSpec
  | .glb => regTableGlb
  | .cpm => regTableCpm
  | .lcs => regTableLcs
  | .fcr => regTableFcr
  | .blf => regTableBlf
  | .rng => regTableRng
  | .keep => regTableKeep
  | .dkeCh => regTableDkeCh
  | .dkeCom => regTableDkeCom
  | .sfi => regTableSfi
  | .ucsCom => regTableUcsCom
  | .ucsQ => regTableUcsQ
  | .cts => regTableCts
  | .aea => regTableAea
  | .aeaCom => regTableAeaCom
  | .ipp => regTableIpp
  | .lif => regTableLif
  | .evc => regTableEvc
  | .mbx => regTableMbx
  | .cup => regTableCup
  | .q => regTableQ

end Sys2Proof.Machine
end

