-- ==== Sys2Proof/Machine/Sparse.lean ====
section
/-! DEFINITION. Sparse maps as plain lists of (key, value) pairs: what an unlisted key holds is the map's default, and a
write of the default removes the entry, so that equal maps are equal lists. Registers, counters, memories, contexts and
slots are all held this way. -/

namespace Sys2Proof.Machine

/-- The value at key `k`; `d k` where nothing is listed. -/
def sget {α : Type} (d : Nat → α) (m : List (Nat × α)) (k : Nat) : α :=
  match m.find? (fun e => e.1 == k) with
  | some e => e.2
  | none => d k

/-- Insert before the first larger key. -/
def sins {α : Type} (k : Nat) (v : α) : List (Nat × α) → List (Nat × α)
  | [] => [(k, v)]
  | e :: m => if k < e.1 then (k, v) :: e :: m else e :: sins k v m

/-- The entries of every other key. -/
def serase {α : Type} (m : List (Nat × α)) (k : Nat) : List (Nat × α) := m.filter (fun e => e.1 != k)

/-- Write `v` at key `k`, keeping the canonical form. -/
def sput {α : Type} [DecidableEq α] (d : Nat → α) (m : List (Nat × α)) (k : Nat) (v : α) : List (Nat × α) :=
  if v = d k then serase m k else sins k v (serase m k)

/-- Replace every listed value, dropping the entries that become the default. -/
def smap {α : Type} [DecidableEq α] (d : Nat → α) (f : Nat → α → α) (m : List (Nat × α)) : List (Nat × α) :=
  (m.map (fun e => (e.1, f e.1 e.2))).filter (fun e => decide (e.2 ≠ d e.1))

/-- Keys strictly rising. -/
def sorted {α : Type} : List (Nat × α) → Bool
  | [] => true
  | [_] => true
  | a :: b :: m => decide (a.1 < b.1) && sorted (b :: m)

/-- The canonical form: keys strictly rising, no entry equal to the default of its key. -/
def swf {α : Type} [DecidableEq α] (d : Nat → α) (m : List (Nat × α)) : Bool :=
  sorted m && m.all (fun e => decide (e.2 ≠ d e.1))

end Sys2Proof.Machine
end

