-- ==== Sys2Proof/Machine/State.lean ====
section
/-! DEFINITION. The state of the XK9: everything the spec gives the device, as plain data. Registers are one sparse map
from BAR0 offset to word (`regs`), in which a register at its reset value is not listed; what the spec gives a block
beyond its registers stands in that block's own structure. -/

namespace Sys2Proof.Machine

/-- Why a run stops. Each reason is about an operand that no command of the device can carry; no command of the spec is
stopped by one of them on its own operands. -/
inductive Fault where
  /-- Raised by the register commands for an address that is not 4-byte (8-byte for a 64-bit access) aligned, or that
  lies outside the requester's map: R11 and R55 to R59 give such an access no form. Safe: the model stops. -/
  | badAddress
  /-- Raised by commands whose operand is longer than the command's own format holds (R592, R587, R244). Safe: the model
  stops. -/
  | badLength
  deriving DecidableEq, Repr

/-- Why a command is refused. -/
inductive Refusal where
  /-- Raised by `exec` for a command whose meaning is not written. Safe: the model stops. -/
  | notModelled (mnemonic : String)
  deriving DecidableEq, Repr

/-! ### Job queues (02) -/

/-- Which hold record a job has reserved (R103): one of its queue's own two, or one of the shared pool. -/
inductive Hold where
  | own | shared
  deriving DecidableEq, Repr

/-- How a job ended (R99, R108): status, DETAIL, OUT_LEN, ENGINE and the TRUNC flag. -/
structure JobResult where
  status : Nat
  detail : Nat
  outLen : Nat
  engine : Nat
  trunc : Bool
  deriving DecidableEq, Repr

/-- Where a dispatched job stands: waiting for its unit to start it, running, held in its context or save area behind
higher-class work (R117, R115), or finished and not yet completed (R99). -/
inductive JobPhase where
  | waiting | running | preempted | done
  deriving DecidableEq, Repr

/-- What a job waits for while it stands at its engine: nothing, randomness (R110), a leaf reservation (R184), a tree
build (R181), the leaf journal (R187, R412). -/
inductive JobWait where
  | none | rng | leaf | tree | journal
  deriving DecidableEq, Repr

/-- A pending abort, taken at the next engine-instruction boundary (R221): a flush, or a Belfry reaction with its
source number. -/
inductive AbortReq where
  | none | flush | tamper (source : Nat)
  deriving DecidableEq, Repr

/-- The sequencer state that each job context of an engine holds (R208, R223). -/
structure Spire where
  upc : Nat
  stack : List Nat
  lc0 : Nat
  lc1 : Nat
  lc2 : Nat
  lc3 : Nat
  z : Bool
  c : Bool
  n : Bool
  secret : Nat
  acceptPub : Bool
  committed : Bool
  asyncPend : Bool
  waiting : Bool
  sinceBnd : Nat
  atBnd : Bool
  deriving DecidableEq, Repr

/-- A cleared sequencer at an entry address (R219). -/
def Spire.entry (a : Nat) : Spire :=
  ⟨a, [], 0, 0, 0, 0, false, false, false, 0, false, false, false, false, 0, true⟩

/-- What a job on an engine is: a queue job, or KEEP's internal class-3 tree build for a slot (R181). -/
inductive JobKind where
  | queue | treeBuild (slot : Nat)
  deriving DecidableEq, Repr

/-- What a job found at its start (stages 7 and 8 of R95): its input data, cut to DECL_LEN, the number of input bytes
not processed, and its output buffers as (address, length). -/
structure JobIn where
  data : List Byte
  excess : Nat
  outs : List (Nat × Nat)
  deriving DecidableEq, Repr

/-- A dispatched job, from its dispatch (R111) until its record is written or held (R99). -/
structure Job where
  id : Nat
  kind : JobKind
  q : Nat
  owner : Nat
  addr : Nat
  desc : List Byte
  cls : Nat
  res : Res
  engine : Nat
  engine2 : Nat
  phase : JobPhase
  wait : JobWait
  abort : AbortReq
  hold : Hold
  spire : Spire
  targets : List Nat
  slotWritten : Bool
  newHandle : Nat
  iters : Nat
  leaf : Option Nat
  inp : Option JobIn
  key : List Byte
  rnd : List Byte
  discard : Bool
  doneAt : Nat
  result : Option JobResult
  deriving DecidableEq, Repr

/-- A completion record of R99 without its PHASE bit, which the ring slot decides. -/
structure Record where
  tag : Nat
  result : JobResult
  held : Bool
  time : Nat
  addr : Nat
  int : Bool
  deriving DecidableEq, Repr

/-- A fetched, undispatched descriptor (R88): where it came from, its bytes, whether it has passed the checks before
dispatch, the target slots that stage 5 reserved for it (R131), and, once it is decided that it completes without
dispatch, its result (R96, R103). -/
structure Hand where
  addr : Nat
  desc : List Byte
  checked : Bool
  targets : List Nat
  result : Option JobResult
  deriving DecidableEq, Repr

/-- Which descriptor read a queue wants (R88 to R92): the first after enabling, NEXT of the last, or a re-read. -/
inductive FetchKind where
  | first | next | reread
  deriving DecidableEq, Repr

/-- A wanted descriptor read: its kind, its address, and whether the read has been issued. -/
structure Fetch where
  kind : FetchKind
  addr : Nat
  issued : Bool
  deriving DecidableEq, Repr

/-- What a queue holds beyond its registers: the descriptor in hand, the read wanted, whether it is parked, and its held
records, oldest first, each with the hold record it occupies. -/
structure QueueSt where
  hand : Option Hand
  fetch : Option Fetch
  parked : Bool
  held : List (Hold × Record)
  deriving DecidableEq, Repr

/-- An idle queue. -/
def QueueSt.idle : QueueSt := ⟨none, none, false, []⟩

/-- The job queue manager: queues (sparse, idle where unlisted), dispatched jobs in dispatch order, the next job's
serial number, and the weighted round robin of each dispatch point and class: key (point × 4 + class), value (queue
served last + 1, grants it has taken in a row) (R111). -/
structure JqmSt where
  queues : List (Nat × QueueSt)
  jobs : List Job
  nextId : Nat
  wrr : List (Nat × (Nat × Nat))
  deriving DecidableEq, Repr

/-! ### Memories the device reaches by DMA -/

/-- A range of addresses where DMA of a requester faults: the environment's, not the device's (R95 stage 7). The
requester is an owner code of R63. -/
structure FaultRange where
  owner : Nat
  lo : Nat
  hi : Nat
  rd : Bool
  wr : Bool
  deriving DecidableEq, Repr

/-! ### Spire control stores (05) -/

/-- The patch RAM and tables of one quadrant (R207): microwords, nanowords, hooks and dispatch entries by index; an
unlisted word is null. -/
structure Quadrant where
  micro : List (Nat × Nat)
  nano : List (Nat × Nat)
  hooks : List (Nat × Nat)
  disp : List (Nat × Nat)
  deriving DecidableEq, Repr

/-- A quadrant with every word null. -/
def Quadrant.null : Quadrant := ⟨[], [], [], []⟩

/-! ### Faults and events (14) -/

/-- One entry of the message history (R536). -/
structure HistEntry where
  msg : DWord
  rtag : Nat
  cause : Bool
  conseq : Bool
  level : Nat
  timeUs : Nat
  deriving DecidableEq, Repr

/-- FCR beyond its registers: messages on their way to it, the next SEQ of every source, the SEQ expected from every
source (R513), the history (oldest first), the entry a read of FLT_MSG0 latched, the end of the consequential window
(R523), the actions of a reaction still to end, and the persisting conditions behind FLT_SRC_LIVE (R516). -/
structure FcrSt where
  transit : List DWord
  seqTx : List (Nat × Nat)
  seqRx : List (Nat × Nat)
  history : List HistEntry
  latched : Option HistEntry
  windowEnd : Nat
  live : List (Nat × Nat)
  lockdown : Bool
  deriving DecidableEq, Repr

/-- EVC beyond its registers (R528 to R531): the sources asserted now, the functions with MSI-X enabled, the unmasked
(function, vector) pairs, the pending bits of the PBAs, and what was delivered: MSI-X messages sent and the pending
lines of the interrupt controllers of Cupola and SVC. -/
structure EvcSt where
  raw : List Nat
  msixEnabled : List Nat
  msixUnmasked : List (Nat × Nat)
  pba : List (Nat × Nat)
  msixLog : List (Nat × Nat)
  cupIrq : List Nat
  svcIrq : List Nat
  deriving DecidableEq, Repr

/-! ### Resets and the requesters they hold (15, R622) -/

/-- Which parts are out of reset: PWR_OK and SYSRST_N, the core and its later-released blocks (R37), the processors,
and HIF with its PCIe link (R622). -/
structure PowerSt where
  pwrOk : Bool
  sysrstLow : Bool
  sysHeld : Bool
  coreUp : Bool
  jqmUp : Bool
  ippUp : Bool
  cupUp : Bool
  svcUp : Bool
  hostUp : Bool
  deriving DecidableEq, Repr

/-! ### IPP and LIF (06) -/

/-- Where a frame in the device stands: held for PTP time (R269), waiting for its Context Arbiter commit (R257), or
waiting for its egress port. -/
inductive FramePhase where
  | held | commit | egress
  deriving DecidableEq, Repr

/-- A frame in the device: its ingress port (0 to 7 clear, 8 to 15 protected), its bytes from the destination address on
without the FCS (after verification or encryption, those that will leave), its ingress length, device time and PTP time,
its class, the key of the flow entry that it matched, the action (3 for the default BYPASS), FFLAGS.STRIP, the context,
the egress port (16 for SVC), the packet number or sequence recovered (R260, R263), the timestamp or SPDU number of a
group stream (R268), its redundancy group and identity there (R271), whether it passes the transparent clock (R273),
and whether the duplicate decision found it first. -/
structure FrameSt where
  id : Nat
  port : Nat
  bytes : List Byte
  len : Nat
  time : Nat
  ptp : Nat
  cls : Nat
  entry : Option (List Byte)
  action : Nat
  strip : Bool
  ctx : Nat
  egress : Nat
  pn : Nat
  fresh : Option Nat
  ident : Option (Nat × Nat)
  tc : Bool
  recorded : Bool
  phase : FramePhase
  deriving DecidableEq, Repr

/-- IPP and LIF beyond their registers: the frames in the device in arrival order, the SA events waiting and those
reported once per context (R284), the duplicate records of each redundancy group with the time each was made (R271), the
PTP time base in ns with the rest of its rate adjustment (R274), when lock was lost (R275), whether a PTP_UNLOCKED drop
has been reported (R269), the policer of each port (the burst used, in hundredths of a bit, and the time of that), the residence
times that wait for a Follow_Up (R273) as (port, (identity, residence)), the ports whose line runs neither
auto-negotiation nor training (R242), the frames that left by port, SVC's receive queue, its
rate (frames taken since a time), and the frames that SVC discarded (R359). -/
structure IppSt where
  frames : List FrameSt
  nextId : Nat
  saevt : List Word
  saSeen : List (Nat × Nat)
  records : List (Nat × List (Nat × Nat))
  ptpNs : Nat
  ptpAcc : Int
  lockLost : Option Nat
  unlockedSeen : Bool
  policer : List (Nat × (Nat × Nat))
  twoStep : List (Nat × (Nat × Int))
  aui : List Nat
  txLog : List (Nat × List Byte)
  svcRx : List (Nat × List Byte)
  svcRate : Nat × Nat
  svcDiscards : Nat
  deriving DecidableEq, Repr


/-! ### Context store (07) -/

/-- CTS beyond its registers: the contexts as 512-byte images (zero where unlisted), the unpinned contexts in the on-die
cache, most recent first (R325), the last commit sequence number (R45), SWITCH of each STANDBY context (R315), when each
DRAINING context ends its drain (R328), the SESSION contexts installed with 36 key bytes (R281), the CTS flow table by
bucket × 8 + way and the pinned flow section (R249, R252), the keys of the flow entries that a flow-only install made
(R319), and the relink scan that runs: the FORWARD contexts it serves, and whether another scan follows it (R330). -/
structure CtsSt where
  ctxs : List (Nat × List Byte)
  cache : List Nat
  csn : Nat
  switch : List (Nat × Nat)
  drainEnd : List (Nat × Nat)
  salted : List Nat
  flows : List (Nat × List Byte)
  pinFlows : List (List Byte)
  flowOnly : List (List Byte)
  scan : Option (List Nat)
  scanAgain : Bool
  deriving DecidableEq, Repr

/-- MPE (R296 to R304): the memory key (none before the first rotation and while NO_KEY), MAJOR of each leaf, MINOR of
each data line, the counters of interior nodes by level × 2^26 + index, the root counters, the poison list as
(what failed: 0 a line, l + 1 a node of level l; (the line or node, the lines of its range rewritten since)), the blocks filled by writes since the last rotation, whether the
zero fill has completed, and the stacks at or above T_REFRESH, T_THROTTLE and T_CRIT with their hysteresis (R332). -/
structure MpeSt where
  key : Option (List Byte)
  majors : List (Nat × Nat)
  minors : List (Nat × Nat)
  nodes : List (Nat × Nat)
  root : List (Nat × Nat)
  poison : List (Nat × (Nat × List Nat))
  filled : List Nat
  fillDone : Bool
  hotRefresh : List Nat
  hotThrottle : List Nat
  hotCrit : List Nat
  deriving DecidableEq, Repr


/-! ### KEEP (09) -/

/-- The states of a slot (R378, R379). -/
inductive SlotSt where
  | empty | reserved | live
  deriving DecidableEq, Repr

/-- The STATE of a stateful key's leaf state (R182). -/
inductive LeafMode where
  | normal | blocked | exhausted
  deriving DecidableEq, Repr

/-- The leaf state of a stateful slot (R182), with the types that its KEYGEN fixed (R180: LEVELS and the TYPES bytes),
the leaves of one bottom-level tree, the end of the leaves whose trees are built, whether a build runs (R181), and
whether the warning event has been raised (R185). -/
structure LeafState where
  uid : Nat
  next : Nat
  resEnd : Nat
  limit : Nat
  block : Nat
  warn : Nat
  mode : LeafMode
  levels : Nat
  types : List Byte
  treeLeaves : Nat
  builtEnd : Nat
  building : Bool
  warned : Bool
  deriving DecidableEq, Repr

/-- A key slot: its descriptor (R378), its key bytes, which no register shows, the leaf state of a stateful key, and the
serial number of the erasure that emptied it last (R380). -/
structure Slot where
  st : SlotSt
  gen : Nat
  usage : Nat
  origin : Nat
  exportable : Bool
  alg : Nat
  group : Nat
  epoch : Nat
  keyLen : Nat
  cell : Option Nat
  lobj : Bool
  pkDigest : List Byte
  key : List Byte
  leaf : Option LeafState
  freedAt : Nat
  deriving DecidableEq, Repr

/-- An EMPTY slot of a generation (R379, R380). -/
def Slot.emptyGen (g t : Nat) : Slot :=
  ⟨.empty, g, 0, 0, false, 0, 0, 0, 0, none, false, [], [], none, t⟩

/-- What KEEP asks of Cupola firmware (R412): to program a journal record with an end of reservation, to program the
record of an erased key for a KEEP_ERASE job (R187), or to present the records of a UID after a load by an UNWRAP job
or by KEEP_BL_CMD (R411). -/
inductive JrKind where
  | reserve (resEnd : Nat) | erase (job : Nat) | seek (job : Option Nat)
  deriving DecidableEq, Repr

/-- A journal request: the slot, the cell and UID of its key, and LIMIT. -/
structure JrReq where
  kind : JrKind
  slot : Nat
  cell : Nat
  uid : Nat
  limit : Nat
  deriving DecidableEq, Repr

/-- KEEP beyond its registers: the slots (sparse; EMPTY of generation 1 where unlisted), the serial number of erasures,
the granules withdrawn under R405, the battery-backed BBK, BBK_VALID, BBK_GEN, UID counter and journal cells (UID, JSEQ)
of R399, the stateful events waiting in KEEP_SFEVT, the journal request being served and those queued (R412), and
whether the attestation key has been made since the last system reset (R401). -/
structure KeepSt where
  slots : List (Nat × Slot)
  erasures : Nat
  withdrawn : Nat
  bbk : List Byte
  bbkValid : Bool
  bbkGen : Nat
  uidCount : Nat
  cells : List (Nat × (Nat × Nat))
  sfevt : List Word
  jr : Option JrReq
  jrQueue : List JrReq
  dakMade : Bool
  deriving DecidableEq, Repr

/-! ### One-time programmable memory (09, 13, 16) -/

/-- The OTP contents that several blocks read: the device secret (none until programmed, R396, R497), the device
identifier (R408), the life-cycle words with their second copies (R490 to R494), the owner digest (R501) and the detector
fuses (R478; bit s for detector A of source s, bit 16 + s for B). -/
structure OtpSt where
  ds : Option (List Byte)
  devId : List Byte
  lcsA : List (Nat × Nat)
  lcsB : List (Nat × Nat)
  ownerDigest : Option (List Byte)
  fuses : Nat
  deriving DecidableEq, Repr

/-! ### DKE and SFI (10) -/

/-- The register-mode states of a channel (R420); QUEUE is shown while a queue job runs on a FREE channel. -/
inductive DkeState where
  | free | owned | keying | absorb | finish | done | error
  deriving DecidableEq, Repr

/-- A packet in a lane: its bytes not yet absorbed, and whether its last word has been written (R433). -/
structure SfiPacket where
  bytes : List Byte
  closed : Bool
  deriving DecidableEq, Repr

/-- A DKE channel with its SFI lane beyond their registers: the holder (0 none, 1 host PF, 2 SVC, 3 Cupola firmware), the
requester whose TAKE is pending (0 none), the state, the message absorbed in this message, the key taken over the key
bus and whether its usage is VERIFY, whether an ABORT or a Belfry reaction waits for the next block boundary, the packets
buffered (oldest first), and whether the lane drops words until an end mark (R437). -/
structure DkeCh where
  holder : Nat
  takePend : Nat
  st : DkeState
  msg : List Byte
  key : List Byte
  keyVerify : Bool
  abortPend : Bool
  tamperPend : Bool
  packets : List SfiPacket
  dropping : Bool
  deriving DecidableEq, Repr

/-- A FREE channel with an empty lane. -/
def DkeCh.idle : DkeCh := ⟨0, 0, .free, [], [], false, false, false, [], false⟩

/-! ### RNG (11) -/

/-- A DRBG instance (R454, R456): whether it is instantiated, the generate requests since its last reseed, the time of
that reseed, and whether it has reseeded since its instantiation. -/
structure Drbg where
  inst : Bool
  requests : Nat
  reseeded : Nat
  fresh : Bool
  deriving DecidableEq, Repr

/-- An instance that does not exist. -/
def Drbg.none : Drbg := ⟨false, 0, 0, false⟩

/-- RNG beyond its registers: the times of the latest isolations of each source (R450), the seeds in the reservoir,
oldest first (R451), the instances, the RNG_DATA buffers of the readers 0 host PF, 1 SVC and 2 Cupola firmware, and the
readers whose EMPTY_READ is set (R459). -/
structure RngSt where
  isoTimes : List (Nat × List Nat)
  reservoir : List (List Byte)
  drbgs : List (Nat × Drbg)
  bufs : List (Nat × List Byte)
  emptyRead : List Nat
  deriving DecidableEq, Repr



/-! ### The Almanac (14) -/

/-- An entry of the Almanac (R532), without the fields that every entry has alike. -/
structure AlmEntry where
  aseq : Nat
  boot : Nat
  time : Nat
  etype : Nat
  level : Nat
  rtag : Nat
  eflags : Nat
  subject : Nat
  data : Nat
  count : Nat
  deriving DecidableEq, Repr

/-- The Almanac (R532 to R535): the entries in flash, oldest first, the number of the next, the power-up count, the
sectors retired; in Cupola SRAM the buffered entries, each with the time it was queued, the entries discarded and not yet
reported, the write budget (entries, and the time in ms it was last filled), and the summaries that wait, by KIND:
occurrences and when the summary began. -/
structure AlmSt where
  written : List AlmEntry
  nextSeq : Nat
  boots : Nat
  retired : Nat
  buffer : List (Nat × AlmEntry)
  lost : Nat
  budget : Nat
  budgetAt : Nat
  summary : List (Nat × (Nat × Nat))
  deriving DecidableEq, Repr


/-! ### CPM (15) -/

/-- CPM beyond its registers: the READY clock sources by their bit of CKG_SRC_STAT (R547), the VDD_CORE setpoint, the
governor's own setpoint and the last AVSBus reading in mV, the VDD_CORE current in units of 100 mA (R597), the lowest Pace
index with its monitor (R555), whether 10 ms of samples exist (R556), TJ_MAX and TJ_PRED with the validity of the latter,
which limit of KIND 0x13 the junction is beyond (0 none, 1 the upper, 2 the lower), whether THERMTRIP_N is asserted (R560), the start of the Boost that
runs, the intervals of past Boost and the time of the last exit (R562, R563), the time of power-on, and the Vigil requests that wait for a transition to
end (R567), and whether SVC holds its clock (R549). -/
structure CpmSt where
  ready : List Nat
  vcore : Nat
  govMv : Nat
  avsMv : Nat
  amps : Nat
  pace : Nat
  paceMon : Nat
  paceValid : Bool
  tjMax : BitVec 8
  tjPred : BitVec 8
  predValid : Bool
  crit : Nat
  tripped : Bool
  boostFrom : Option Nat
  spans : List (Nat × Nat)
  exitAt : Nat
  powerOn : Nat
  exitWaits : Bool
  entryWaits : Bool
  svcHold : Bool
  deriving DecidableEq, Repr

/-! ### Belfry (12) -/

/-- An alarm that the Vigil domain stores, with the ADDR of its message (R471, R482). -/
structure StoredAlarm where
  source : Nat
  addr : Nat
  level : Nat
  deriving DecidableEq, Repr

/-- Belfry beyond its registers: the times of the last alarm of each detector (2 × source, + 1 for B), those whose alarm
has no partner yet (R470), the time of each source's last alarm message (R471), the times of the events that a filter
counts (R476), the sources silent after NO_LIVE (R473), the detectors still to be tested with whether the test is on demand,
the first of them under test (R474), the fault messages of KIND 0x03 and 0x04 of the last 1 ms with their sources (R466,
R479), when the start window began (R475), the alarms that the Vigil domain stores and those it counted beyond sixteen
(R482), VBAT in mV, and whether the domain runs on backup power (R483). -/
structure BlfSt where
  alarm : List (Nat × Nat)
  lone : List (Nat × Nat)
  last : List (Nat × Nat)
  events : List (Nat × List Nat)
  silent : List Nat
  tests : List (Nat × Bool)
  logic : List (Nat × Nat)
  startAt : Nat
  stored : List StoredAlarm
  extra : Nat
  vbat : Nat
  backup : Bool
  deriving DecidableEq, Repr

/-! ### LCS and the TAP (13) -/

/-- An accepted token whose session waits to open (R502): authority, scopes, seconds. -/
structure Grant where
  authority : Nat
  scopes : Nat
  seconds : Nat
  deriving DecidableEq, Repr

/-- LCS and the TAP beyond their registers: when the outstanding challenge was drawn (R503), when the session ends (R504),
the token under check, the grant that waits for ERASE_ALL (R502), the TAP instruction selected and whether it holds the
device in reset (R508), the boundary cells preloaded, what the TAP shifted out last, and the processors halted under debug
(R500). -/
structure LcsSt where
  chalAt : Nat
  sessionEnd : Nat
  token : Option (List Byte)
  opening : Option Grant
  tapInsn : Nat
  tapHold : Bool
  cells : List Byte
  tapOut : List Byte
  cupHalted : Bool
  svcHalted : Bool
  deriving DecidableEq, Repr

/-! ### Cupola (16) -/

/-- An owner configuration key slot in OTP (R579). -/
structure CfgKey where
  digest : List Byte
  done : Nat
  revoked : Bool
  deriving DecidableEq, Repr

/-- The SMBus window (R587, R592): the request frame under construction, the response, how far it has been read, the bytes
that the last read transaction returned, and the bits of MBX_STAT. -/
structure SmbSt where
  req : List Byte
  rsp : List Byte
  pos : Nat
  out : List Byte
  busy : Bool
  done : Bool
  reject : Bool
  restarted : Bool
  deriving DecidableEq, Repr

/-- An update session (R593): its holder (1 host PF, 2 SMBus), TARGET (1 BOOT, 2 CONFIG), LENGTH, the next offset, the
time of the holder's last command, and, where the image is pushed and not written to flash (R586), what has been staged. -/
structure UpdSt where
  holder : Nat
  target : Nat
  length : Nat
  next : Nat
  last : Nat
  stage : Option (List Byte)
  deriving DecidableEq, Repr

/-- Cupola beyond its registers: the flash (R576; 0xFF where unlisted), the anti-rollback counters FW, UCODE and CFG in OTP
(R580), the owner key slots, the SMBus window, who wrote the last GO of windows 0 and 1 (R591, by the requester codes of R17), the update session, the running BOOT copy and configuration image, the
failed check of each BOOT and CONFIG copy (0 none), the times of the Cupola resets in the last 60 s (R574), when milestone 7 was reached and whether no Cupola reset and no reaction of level 3
or above has come since (R582), when a system reset asked by ACTIVATE is due, and the rails of R596 in mV. -/
structure CupSt where
  flash : List Host.Cell
  arbFw : Nat
  arbUc : Nat
  arbCfg : Nat
  keys : List (Nat × CfgKey)
  smb : SmbSt
  goBy : Nat × Nat
  upd : Option UpdSt
  boot : List Byte
  cfg : List Byte
  bootFail : Nat × Nat
  cfgFail : Nat × Nat
  restarts : List Nat
  ms7At : Option Nat
  calm : Bool
  activateAt : Option Nat
  rails : List Nat
  deriving DecidableEq, Repr

/-! ### SVC (08) -/

/-- Where an IKE SA of SVC stands (R364): IKE_SA_INIT or IKE_INTERMEDIATE under way, or up. -/
inductive IkeSt where
  | initiated | inter | up
  deriving DecidableEq, Repr

/-- An IKE SA (R364 to R367): its peer, whether SVC initiated it, its state, its three SESSION contexts, and when it came
up. -/
structure IkeSa where
  id : Nat
  peer : Nat
  initiator : Bool
  st : IkeSt
  ctxs : List Nat
  born : Nat
  deriving DecidableEq, Repr

/-- A child SA (R368 to R372): its IKE SA, its CHILD record, its receive and transmit contexts, its AN, when it was
installed, its successors while a rekey runs (receive, transmit), whether SVC initiated that rekey, when they were
installed, and whether the SA is going: a Delete is applied, and none is sent, when its drain ends. -/
structure ChildSa where
  id : Nat
  ike : Nat
  record : Nat
  rx : Nat
  tx : Nat
  an : Nat
  born : Nat
  succ : Option (Nat × Nat)
  initiated : Bool
  respAt : Nat
  deleting : Bool
  deriving DecidableEq, Repr

/-- A GDOI group (R373 to R376): the registered members of a KDC, whether a member is registered, the GDOI sequence number
that follows the last one sent or accepted, and the last key ID. -/
structure GroupSt where
  members : List (List Byte)
  registered : Bool
  seq : Nat
  keyId : Nat
  deriving DecidableEq, Repr

/-- What SVC sends (R361 to R376): the peer or group, and the message: an IKE request or response of an exchange, a
refusal with its notification, or a GDOI message. -/
inductive SvcMsg where
  | initReq | initResp | interReq | interResp | authReq | authResp | childReq (record : Nat) | rekeyReq (sa : Nat) | childResp
  | ikeRekeyReq | ikeRekeyResp | deleteChild (sa : Nat) | deleteIke | liveness | infoResp
  | noProposal | temporaryFailure | noAdditionalSas | tsUnacceptable | cookie | authFailed
  | gsaAuth | registration | push
  deriving DecidableEq, Repr

/-- SVC: the time of its last heartbeat (R363), its IKE SAs, child SAs and groups by GDOI_GROUP record, the next number of
an SA, the state (0 down, 1 up) and last failure of each peer, what it has sent, oldest first, the handles of SK_pi and
SK_pr by the context of their SK_d (R367), and of the key of each group by its record (R375). -/
structure SvcSt where
  hbAt : Nat
  ikes : List IkeSa
  childs : List ChildSa
  groups : List (Nat × GroupSt)
  nextId : Nat
  peers : List (Nat × (Nat × Nat))
  sent : List (Nat × SvcMsg)
  auth : List (Nat × List Nat)
  groupKeys : List (Nat × Nat)
  deriving DecidableEq, Repr

/-! ### The whole device -/

/-- The state of the device. -/
structure State where
  /-- The commands that wait, first in, first out. -/
  pending : List Instr
  /-- Every register by BAR0 offset (R55); one at its reset value is not listed. -/
  regs : List (Nat × Word)
  /-- Live counts of the 64-bit counters, by the offset of the low word; 0 where unlisted (R15, R16). -/
  cnt : List (Nat × Nat)
  /-- The readable copies of the statistics counters (R15, R76). -/
  cntCopy : List (Nat × Nat)
  /-- The capture that GLB_SNAP took and that is being loaded (R18). -/
  cntSnap : List (Nat × Nat)
  /-- The high words latched by reads of low words, plus 1; 0 where no word is latched (R15). -/
  hiLatch : List (Nat × Nat)
  /-- The data that the last register read returned. -/
  busOut : DWord
  /-- Memory behind the host's requester IDs. -/
  hostMem : List Host.Cell
  /-- SVC's internal memory (R61). -/
  svcMem : List Host.Cell
  /-- Cupola's SRAM, in which it keeps blobs and tokens for KEEP and LCS (R411, R502). -/
  cupMem : List Host.Cell
  /-- Where DMA faults. -/
  faults : List FaultRange
  /-- Device time in nanoseconds. -/
  time : Nat
  /-- The model's own counter of free values taken so far. -/
  free : Nat
  jqm : JqmSt
  /-- The control-store quadrants by number. -/
  ucs : List (Nat × Quadrant)
  fcr : FcrSt
  evc : EvcSt
  power : PowerSt
  ipp : IppSt
  cts : CtsSt
  mpe : MpeSt
  keep : KeepSt
  otp : OtpSt
  /-- The DKE channels by number. -/
  dke : List (Nat × DkeCh)
  rng : RngSt
  alm : AlmSt
  cpm : CpmSt
  blf : BlfSt
  lcs : LcsSt
  cup : CupSt
  svc : SvcSt
  deriving DecidableEq, Repr

/-- The three outcomes of a command. -/
abbrev Out : Type := Host.Outcome State Fault Refusal

/-- The device when power has just been applied: held in its power-on reset (R543), every register at its reset value
(R13), every counter at 0, every buffer empty. -/
def State.reset : State where
  pending := []
  regs := []
  cnt := []
  cntCopy := []
  cntSnap := []
  hiLatch := []
  busOut := 0
  hostMem := []
  svcMem := []
  cupMem := []
  faults := []
  time := 0
  free := 0
  jqm := ⟨[], [], 0, []⟩
  ucs := []
  fcr := ⟨[], [], [], [], none, 0, [], false⟩
  evc := ⟨[], [], [], [], [], [], []⟩
  power := ⟨false, false, true, false, false, false, false, false, false⟩
  ipp := ⟨[], 0, [], [], [], 0, 0, none, false, [], [], [], [], [], (0, 0), 0⟩
  cts := ⟨[], [], 0, [], [], [], [], [], [], none, false⟩
  mpe := ⟨none, [], [], [], [], [], [], false, [], [], []⟩
  keep := ⟨[], 0, 0, [], false, 0, 0, [], [], none, [], false⟩
  otp := ⟨none, [], [], [], none, 0⟩
  dke := []
  rng := ⟨[], [], [], [], []⟩
  alm := ⟨[], 0, 0, 0, [], 0, 4096, 0, []⟩
  cpm := ⟨[], 800, 800, 800, 0, 0, 0, false, 0, 0, false, 0, false, none, [], 0, 0, false, false, false⟩
  blf := ⟨[], [], [], [], [], [], [], 0, [], 0, 3000, true⟩
  lcs := ⟨0, 0, none, none, 0xFF, false, [], [], false, false⟩
  cup := ⟨[], 0, 0, 0, [], ⟨[], [], 0, [], false, false, false, false⟩, (0, 2), none, [], [], (0, 0), (0, 0), [], none, true, none, []⟩
  svc := ⟨0, [], [], [], 1, [], [], [], []⟩

end Sys2Proof.Machine
end

