-- ==== Sys2Proof/Machine/RegMap.lean ====
section
/-! DEFINITION. The register file: which register an offset names, what it holds at reset, and the operations every
command uses to read and change registers and fields, among them the generic write of R12 and the resets of R13. -/

namespace Sys2Proof.Machine

/-- Block, instance and offset in the block of a BAR0 offset (R55); none for the reserved areas between blocks. AEA
instances are ENGINE codes (R102). -/
def locate (o : Nat) : Option (Blk × Nat × Nat) :=
  if o < 0x10000 then some (.glb, 0, o)
  else if o < 0x20000 then some (.cpm, 0, o - 0x10000)
  else if o < 0x30000 then some (.lcs, 0, o - 0x20000)
  else if o < 0x40000 then some (.fcr, 0, o - 0x30000)
  else if o < 0x50000 then some (.blf, 0, o - 0x40000)
  else if o < 0x60000 then some (.rng, 0, o - 0x50000)
  else if o < 0x70000 then some (.keep, 0, o - 0x60000)
  else if o < 0x70800 then some (.dkeCh, (o - 0x70000) / 0x200, o % 0x200)
  else if o < 0x78000 then some (.dkeCom, 0, o - 0x70800)
  else if o < 0x78400 then some (.sfi, (o - 0x78000) / 0x100, o % 0x100)
  else if o < 0x80000 then none
  else if o < 0x81000 then some (.ucsCom, 0, o - 0x80000)
  else if o < 0x85000 then some (.ucsQ, (o - 0x81000) / 0x1000, o % 0x1000)
  else if o < 0x90000 then none
  else if o < 0xA0000 then some (.cts, 0, o - 0x90000)
  else if o < 0xA8000 then some (.aea, (o - 0xA0000) / 0x400, o % 0x400)
  else if o < 0xA9000 then some (.aea, 0x20 + (o - 0xA8000) / 0x400, o % 0x400)
  else if o < 0xAB000 then some (.aea, 0x28 + (o - 0xA9000) / 0x400, o % 0x400)
  else if o < 0xAF000 then none
  else if o < 0xB0000 then some (.aeaCom, 0, o - 0xAF000)
  else if o < 0xC0000 then some (.ipp, 0, o - 0xB0000)
  else if o < 0xD0000 then some (.lif, (o - 0xC0000) / 0x1000, o % 0x1000)
  else if o < 0xE0000 then some (.evc, 0, o - 0xD0000)
  else if o < 0xE8000 then some (.mbx, (o - 0xE0000) / 0x4000, o % 0x4000)
  else if o < 0xEF000 then none
  else if o < 0xF0000 then some (.cup, 0, o - 0xEF000)
  else if o < 0x100000 then none
  else if o < 0x200000 then some (.q, (o - 0x100000) / 0x100, o % 0x100)
  else none

/-- Whether the row covers the local offset, and at which repeat; a counter covers both its words (R15). -/
def RegSpec.covers (r : RegSpec) (loc : Nat) : Option Nat :=
  if loc < r.off then none
  else
    let i := (loc - r.off) / r.stride
    let rest := (loc - r.off) % r.stride
    if i < r.count ∧ (rest = 0 ∨ (r.counter.isSome ∧ rest = 4)) then some i else none

/-- The row of a table that covers a local offset, with the repeat. -/
def findSpec (loc : Nat) : List RegSpec → Option (RegSpec × Nat)
  | [] => none
  | r :: rs => match r.covers loc with
    | some i => some (r, i)
    | none => findSpec loc rs

/-- The register row at a BAR0 offset. -/
def specAt (o : Nat) : Option (RegSpec × Nat) :=
  match locate o with
  | some (b, _, loc) => findSpec loc (regTable b)
  | none => none

/-- The block of a BAR0 offset. -/
def blockAt (o : Nat) : Option (Blk × Nat) := (locate o).map (fun x => (x.1, x.2.1))

/-- Whether an offset holds no register (R14). -/
def reservedAt (o : Nat) : Bool := (specAt o).isNone

/-- The default reaction levels of FLT_MAP[0..31] (R519). -/
def fltMapDefault (k : Nat) : Nat :=
  [0, 0, 1, 1, 1, 3, 3, 0, 1, 1, 4, 1, 2, 0, 0, 0, 0, 1, 1, 2, 2].getD k 0

/-- The KINDs that FLT_MAP has an entry for (R519). -/
def faultKind (k : Nat) : Bool := (1 ≤ k && k ≤ 0x0C) || (0x10 ≤ k && k ≤ 0x14)

/-- The default levels of the Belfry sources (R466). -/
def blfLevelDefault (n : Nat) : Nat := [5, 5, 5, 4, 4, 4, 4, 4, 4, 4, 3, 5, 4, 5].getD n 0

/-- Reset words that depend on the instance: R63, R70, R519, R466, R291. -/
def specialReset (o : Nat) : Option Nat :=
  if o = 0x200 + 31 * 4 then some 0x3F
  else if 0x30080 ≤ o ∧ o < 0x30100 then some (fltMapDefault ((o - 0x30080) / 4))
  else if 0x40040 ≤ o ∧ o < 0x40078 then some (blfLevelDefault ((o - 0x40040) / 4))
  else if 0xC0000 ≤ o ∧ o < 0xD0000 ∧ o % 0x1000 = 8 then some (((o - 0xC0000) / 0x1000 % 8) * 16)
  else if 0x100000 ≤ o ∧ o < 0x200000 ∧ o % 0x100 = 8 then some ((if o < 0x1F8000 then 2 else 1) + 256)
  else none

/-- The word that the fields' reset values make; a live field holds nothing. -/
def fieldsReset (fs : List FieldSpec) : Nat :=
  fs.foldl (fun a f => if f.kind = .live then a else a + f.val % 2 ^ f.width * 2 ^ f.lo) 0

/-- What a register holds at reset (R13). -/
def regReset (o : Nat) : Word :=
  match specialReset o with
  | some v => BitVec.ofNat 32 v
  | none => match specAt o with
    | some (r, _) => BitVec.ofNat 32 (fieldsReset r.fields)
    | none => 0

/-- The word that holds only the bits of a field. -/
def fieldMask (lo width : Nat) : Word := BitVec.ofNat 32 ((2 ^ width - 1) * 2 ^ lo)

/-- The field [lo + width - 1 : lo] of a word. -/
def fieldGet (lo width : Nat) (v : Word) : Nat := bits v.toNat lo width

/-- The word with that field replaced. -/
def fieldSet (lo width : Nat) (v : Word) (x : Nat) : Word :=
  (v &&& ~~~ fieldMask lo width) ||| BitVec.ofNat 32 (x % 2 ^ width * 2 ^ lo)

/-- The stored word of a register. -/
def State.rd (s : State) (o : Nat) : Word := sget regReset s.regs o

/-- Store a register's word. -/
def State.wr (s : State) (o : Nat) (v : Word) : State := { s with regs := sput regReset s.regs o v }

/-- A stored field. -/
def State.get (s : State) (f : Fld) : Nat := fieldGet f.lo f.width (s.rd f.off)

/-- Store a field; the register's other bits stay. -/
def State.put (s : State) (f : Fld) (x : Nat) : State := s.wr f.off (fieldSet f.lo f.width (s.rd f.off) x)

/-- Whether a stored one-bit field is 1. -/
def State.on (s : State) (f : Fld) : Bool := s.get f != 0

/-- Set, clear or assign a one-bit field. -/
def State.set (s : State) (f : Fld) : State := s.put f 1

/-- Clear a one-bit field. -/
def State.clr (s : State) (f : Fld) : State := s.put f 0

/-- Assign a one-bit field. -/
def State.putB (s : State) (f : Fld) (b : Bool) : State := s.put f (if b then 1 else 0)

/-- What R12 makes of one field when `new` is written over `old`; `locked` is the state of the register's lock. -/
def FieldSpec.write (f : FieldSpec) (locked : Bool) (old new : Nat) : Nat :=
  match f.acc with
  | .ro | .wo | .rc => old
  | .rw => new
  | .w1c => old &&& (new ^^^ (2 ^ f.width - 1))
  | .w1s => old ||| new
  | .rwl => if locked then old else new

/-- The generic write of R12 over the fields of a register; reserved bits stay 0 (R14). -/
def r12Write (fs : List FieldSpec) (locked : Bool) (old new : Word) : Word :=
  fs.foldl (fun w f => fieldSet f.lo f.width w
    (f.write locked (fieldGet f.lo f.width old) (fieldGet f.lo f.width new))) old

/-- The lock of an RWL register: the field whose 1 makes it read only (R12). -/
def lockOf (o : Nat) : Option Fld :=
  match locate o with
  | some (.cpm, _, _) => some F.PWR_CFG_LOCK
  | some (.fcr, _, _) => some F.FLT_CFG_LOCK
  | some (.blf, _, _) => some F.BLF_CTL_LOCK
  | some (.rng, _, _) => some F.RNG_CTL_LOCK
  | some (.keep, _, _) => some F.KEEP_CFG_LOCK
  | some (.dkeCom, _, _) => some F.DKE_CFG_LOCK
  | some (.ucsCom, _, _) => some (F.UCODE_Q_STAT_ARMED 3)
  | some (.cts, _, _) => some F.CTS_CFG_LOCK
  | some (.aeaCom, _, loc) => some (if loc = 4 then F.AEA_LT_CFG_LOCK else F.AEA_XCFG_LOCK)
  | some (.cup, _, _) => some F.CUP_CFG_LOCK
  | _ => none

/-- Whether the RWL fields at an offset are read only now. -/
def State.locked (s : State) (o : Nat) : Bool :=
  match lockOf o with
  | some f => s.on f
  | none => false

/-- The register write that R12 gives a register with no rule of its own. -/
def State.wrGeneric (s : State) (o : Nat) (v : Word) : State :=
  match specAt o with
  | some (r, _) => s.wr o (r12Write r.fields (s.locked o) (s.rd o) v)
  | none => s

/-- What a reset of the kinds in `ks` makes of one register's word (R13). -/
def resetWord (ks : List RstKind) (o : Nat) (old : Word) : Word :=
  match specAt o with
  | some (r, _) => r.fields.foldl (fun w f =>
      if ks.contains f.kind then fieldSet f.lo f.width w (fieldGet f.lo f.width (regReset o)) else w) old
  | none => old

/-- Whether a reset of the kinds in `ks` zeroes the counter at an offset. -/
def resetsCounter (ks : List RstKind) (o : Nat) : Bool :=
  match specAt o with
  | some (r, _) => match r.counter with
    | some k => ks.contains k
    | none => false
  | none => false

/-- Reset every register and counter that `sel` picks, for the given reset kinds (R13). -/
def State.resetRegs (s : State) (ks : List RstKind) (sel : Nat → Bool) : State :=
  { s with
    regs := smap regReset (fun o v => if sel o then resetWord ks o v else v) s.regs
    cnt := s.cnt.filter (fun e => !(sel e.1 && resetsCounter ks e.1))
    cntCopy := s.cntCopy.filter (fun e => !(sel e.1 && resetsCounter ks e.1)) }

/-- The kinds a block reset restores. -/
def blkKinds : List RstKind := [.blk]

/-- The kinds a system reset restores: it implies every block reset (R13). -/
def sysKinds : List RstKind := [.sys, .blk]

/-- The kinds a power-on reset restores: it implies a system reset (R13). -/
def poKinds : List RstKind := [.po, .sys, .blk]

/-- Select the registers of one block. -/
def inBlock (b : Blk) (o : Nat) : Bool :=
  match locate o with
  | some (b', _, _) => b' == b
  | none => false

/-- Select the registers of one instance of a repeated block. -/
def inInst (b : Blk) (n : Nat) (o : Nat) : Bool :=
  match locate o with
  | some (b', n', _) => b' == b && n' == n
  | none => false

end Sys2Proof.Machine
end

