-- ==== Sys2Proof/Machine/Ops.lean ====
section
/-! DEFINITION. The operations every block shares: counters (R15, R16), the memories reached by DMA, free values, the
delivery of events (R528 to R531) and the sending of fault messages (R512, R513). -/

namespace Sys2Proof.Machine

/-! ### Counters -/

/-- Where the SAT bit of the counter at offset `o` lies (R16): register offset and bit. -/
def satOf (o : Nat) : Option Fld :=
  match locate o with
  | some (b, _, loc) => match findSpec loc (regTable b) with
    | some (r, i) => if r.sat.1 = 0 ∧ r.sat.2 = 0 then none else some ⟨o - loc + r.sat.1, r.sat.2 + i, 1⟩
    | none => none
  | none => none

/-- The largest value of a statistics counter (R16); IPP_FT_REJ has 63 bits beside its SAT bit (R292). -/
def cntMax (o : Nat) : Nat := if o = R.IPP_FT_REJ then 2 ^ 63 - 1 else 2 ^ 64 - 1

/-- The live count of a counter. -/
def State.cntGet (s : State) (o : Nat) : Nat := sget (fun _ => 0) s.cnt o

/-- Advance a statistics counter; it saturates and sets its SAT bit (R16). -/
def State.count (s : State) (o : Nat) (n : Nat) : State :=
  let v := s.cntGet o + n
  if v < cntMax o then { s with cnt := sput (fun _ => 0) s.cnt o v }
  else
    let s := { s with cnt := sput (fun _ => 0) s.cnt o (cntMax o) }
    match satOf o with
    | some f => s.set f
    | none => s

/-- Count one. -/
def State.inc (s : State) (o : Nat) : State := s.count o 1

/-- Advance a free-running time counter, which wraps (R16). -/
def State.countTime (s : State) (o : Nat) (n : Nat) : State :=
  { s with cnt := sput (fun _ => 0) s.cnt o ((s.cntGet o + n) % 2 ^ 64) }

/-- Zero a counter: the live count, the readable copy and the SAT bit. -/
def State.cntClear (s : State) (o : Nat) : State :=
  let s := { s with cnt := serase s.cnt o, cntCopy := serase s.cntCopy o }
  match satOf o with
  | some f => s.clr f
  | none => s

/-- Zero `n` counters from `o` on, 8 bytes apart. -/
def State.cntClearN (s : State) (o : Nat) : Nat → State
  | 0 => s
  | n + 1 => (s.cntClear o).cntClearN (o + 8) n

/-- Load the readable copy of one counter (R15, R76). -/
def State.cntLoad (s : State) (o : Nat) : State :=
  { s with cntCopy := sput (fun _ => 0) s.cntCopy o (s.cntGet o) }

/-! ### Free values -/

/-- Take a fresh free value: the number that the opaque `Config.freeValue` gives for the model's counter, and the state
with the counter advanced. -/
def State.freeNat (s : State) : Nat × State := (Config.freeValue s.free, { s with free := s.free + 1 })

/-- Take `n` fresh free bytes. -/
def State.freeBytes (s : State) (n : Nat) : List Byte × State :=
  ((List.range n).map ((Config.freeBytes s.free).getD · 0), { s with free := s.free + 1 })

/-- Take a fresh free bit. -/
def State.freeBool (s : State) : Bool × State := (Config.freeValue s.free % 2 = 1, { s with free := s.free + 1 })

/-! ### Memory -/

/-- What an unlisted byte of memory reads as. -/
def memDefault (_ : Nat) : Byte := 0

/-- One byte of a memory. -/
def memByte (m : List Host.Cell) (a : Nat) : Byte := sget memDefault m a

/-- Read bytes of a memory. -/
def memRead (m : List Host.Cell) (a : Nat) : Nat → List Byte
  | 0 => []
  | n + 1 => memByte m a :: memRead m (a + 1) n

/-- Write bytes into a memory. -/
def memWrite (m : List Host.Cell) (a : Nat) : List Byte → List Host.Cell
  | [] => m
  | b :: bs => memWrite (sput memDefault m a b) (a + 1) bs

/-- The canonical form of a memory. -/
def Memory.wf (m : List Host.Cell) : Bool := swf memDefault m

/-- The memory behind a requester ID (R61): owner code 0x3F is SVC. -/
def State.memOf (s : State) (owner : Nat) : List Host.Cell := if owner = 0x3F then s.svcMem else s.hostMem

/-- Whether a DMA access of the requester faults. -/
def State.dmaFaults (s : State) (owner a n : Nat) (wr : Bool) : Bool :=
  s.faults.any (fun f => f.owner == owner && (if wr then f.wr else f.rd) && decide (a < f.hi ∧ f.lo < a + n)) ||
  decide (2 ^ 64 < a + n)

/-- A DMA read; none where it faults. -/
def State.dmaRead (s : State) (owner a n : Nat) : Option (List Byte) :=
  if s.dmaFaults owner a n false then none else some (memRead (s.memOf owner) a n)

/-- A DMA write that does not fault. -/
def State.dmaStore (s : State) (owner a : Nat) (bs : List Byte) : State :=
  if owner = 0x3F then { s with svcMem := memWrite s.svcMem a bs } else { s with hostMem := memWrite s.hostMem a bs }

/-- A DMA write; none where it faults. -/
def State.dmaWrite (s : State) (owner a : Nat) (bs : List Byte) : Option State :=
  if s.dmaFaults owner a bs.length true then none else some (s.dmaStore owner a bs)

/-! ### Sets of numbers, kept sorted -/

/-- Insert into a sorted list without repeats. -/
def setIns (n : Nat) : List Nat → List Nat
  | [] => [n]
  | m :: l => if n < m then n :: m :: l else if n = m then m :: l else m :: setIns n l

/-- Remove from a list. -/
def setDel (n : Nat) (l : List Nat) : List Nat := l.filter (· != n)

/-! ### Events (R528 to R531) -/

/-- The bit of source `n` in an eight-word EVC register array. -/
def evcBit (base n : Nat) : Fld := ⟨base + n / 32 * 4, n % 32, 1⟩

/-- Whether a source is non-maskable now (R529). -/
def State.evcNonMask (s : State) (n : Nat) : Bool :=
  n == 49 || (decide (n ≤ 13) && decide (3 ≤ s.get (F.BLF_SRC_CFG_LEVEL n)))

/-- The owner code of the queue group behind a queue-group source (R530), none for the other sources. -/
def State.evcGroupOwner (s : State) (n : Nat) : Option Nat :=
  if 128 ≤ n ∧ n < 192 then some (s.get (F.GLB_QGRP_OWNER ((n - 128) / 2))) else none

/-- Whether source `n` drives INT_N by its route (R528 to R530). -/
def State.evcIntn (s : State) (n : Nat) : Bool :=
  s.evcNonMask n ||
  (s.on (F.EVC_ROUTE_INTN n) && !s.on (evcBit (R.EVC_MASK 0) n) &&
    match s.evcGroupOwner n with
    | some w => w == 0
    | none => true)

/-- The pending sources. -/
def State.evcPending (s : State) : List Nat := (List.range 256).filter (fun n => s.on (evcBit (R.EVC_PEND 0) n))

/-- Whether any pending bit is set at all. -/
def State.evcAnyPend (s : State) : Bool := (List.range 8).any (fun w => s.rd (R.EVC_PEND w) != 0)

/-- Whether INT_N is driven low (R528). -/
def State.intLow (s : State) : Bool := s.evcAnyPend && (s.evcPending).any s.evcIntn

/-- Send an MSI-X message of function `fn`, or hold it as a pending bit of the PBA (R531). -/
def State.msix (s : State) (fn vec : Nat) : State :=
  if s.evc.msixEnabled.contains fn && s.evc.msixUnmasked.contains (fn, vec) then
    { s with evc := { s.evc with msixLog := s.evc.msixLog ++ [(fn, vec)] } }.inc (R.EVC_CNT 0)
  else
    { s with evc := { s.evc with
        pba := if s.evc.pba.contains (fn, vec) then s.evc.pba else s.evc.pba ++ [(fn, vec)] } }.inc (R.EVC_CNT 2)

/-- Deliver a source to Cupola's interrupt controller. -/
def State.irqCup (s : State) (n : Nat) : State :=
  { s with evc := { s.evc with cupIrq := setIns n s.evc.cupIrq } }

/-- Deliver a source to SVC's interrupt controller. -/
def State.irqSvc (s : State) (n : Nat) : State :=
  { s with evc := { s.evc with svcIrq := setIns n s.evc.svcIrq } }

/-- Deliver a pending bit to every destination its route enables (R528 to R530). INT_N follows the pending bits. -/
def State.evcDeliver (s : State) (n : Nat) : State :=
  if s.on (evcBit (R.EVC_MASK 0) n) && !s.evcNonMask n then s
  else
    let vec := s.get (F.EVC_ROUTE_VECTOR n)
    let cup := s.on (F.EVC_ROUTE_CUPOLA n) || s.evcNonMask n
    let s1 := match s.evcGroupOwner n with
      | some 0 => if s.on (F.EVC_ROUTE_MSIX n) then s.msix 0 vec else s
      | some 0x3F => s.irqSvc n
      | some vf => s.msix vf ((n - 128) % 4)
      | none => if s.on (F.EVC_ROUTE_MSIX n) then s.msix 0 vec else s
    if cup then s1.irqCup n else s1

/-- Count a falling edge of INT_N between two states (R538). -/
def countIntn (before after : State) : State :=
  if !before.intLow && after.intLow then after.inc (R.EVC_CNT 1) else after

/-- Source `n` rises: EVC latches its pending bit and, when the bit was 0, delivers it (R528). -/
def State.raise (s : State) (n : Nat) : State :=
  if s.on (evcBit (R.EVC_PEND 0) n) then s
  else countIntn s ((s.set (evcBit (R.EVC_PEND 0) n)).evcDeliver n)

/-- Raise several sources in order. -/
def State.raiseAll (s : State) : List Nat → State
  | [] => s
  | n :: ns => (s.raise n).raiseAll ns

/-- A level source takes a value; a rise latches it (R527, R528). -/
def State.level (s : State) (n : Nat) (b : Bool) : State :=
  if b then
    if s.evc.raw.contains n then s
    else { s with evc := { s.evc with raw := setIns n s.evc.raw } }.raise n
  else { s with evc := { s.evc with raw := setDel n s.evc.raw } }

/-! ### Belfry conditions that others see -/

/-- In Vigil, until an exit has started (R564 to R566). -/
def State.inVigil (s : State) : Bool := s.on F.PWR_STAT_VIGIL && !s.on F.PWR_STAT_VIGIL_TRANS

/-- Whether a detector's alarm condition still lasts: 10 µs from its alarm (assumption 41). -/
def State.inAlarm (s : State) (d : Nat) : Bool := s.blf.alarm.any (fun e => e.1 == d && decide (s.time < e.2 + 10000))

/-- Whether some detector is in alarm. -/
def State.detectorsLive (s : State) : Bool := (List.range 28).any s.inAlarm

/-- Whether a filter period of R475 runs: the start window, a self-stimulus test, a self-test of an AEA engine, or
RECOVERY. -/
def State.filtering (s : State) : Bool :=
  s.on F.BLF_STAT_START_WINDOW || !s.blf.tests.isEmpty || s.get F.CUP_BOOT_STAT_MODE == 2 ||
  (List.range 48).any (fun e => s.on (F.AEA_CTL_SELFTEST e))

/-- A filter period that has ended lets the counting restart (R476). -/
def State.settleFilter (s : State) : State :=
  if s.filtering then s else { s with blf := { s.blf with events := [] } }

/-! ### Fault messages (R512, R513) -/

/-- The 64-bit message of its fields. -/
def faultMsg (source kind sev seq addr : Nat) : DWord :=
  BitVec.ofNat 64 (source % 1024 * 2 ^ 54 + kind % 64 * 2 ^ 48 + sev % 8 * 2 ^ 45 + seq % 32 * 2 ^ 40 + addr % 2 ^ 40)

/-- A block sends a fault message to FCR; SEQ counts the messages of the source modulo 32. -/
def State.report (s : State) (source kind sev addr : Nat) : State :=
  let seq := sget (fun _ => 0) s.fcr.seqTx source
  { s with fcr := { s.fcr with
      transit := s.fcr.transit ++ [faultMsg source kind sev seq addr]
      seqTx := sput (fun _ => 0) s.fcr.seqTx source ((seq + 1) % 32) } }

/-- A condition that a source reports as persisting begins or ends (R516); the key is the source and KIND. -/
def State.setLive (s : State) (source kind : Nat) (b : Bool) : State :=
  { s with fcr := { s.fcr with live := sput (fun _ => 0) s.fcr.live (source * 64 + kind) (if b then 1 else 0) } }

end Sys2Proof.Machine
end

