-- ==== Sys2Proof/Machine/Almanac.lean ====
section
/-! DEFINITION. The Almanac log that Cupola firmware keeps in flash (R532 to R535): its entries, the buffer in SRAM, and
the limits on writing. -/

namespace Sys2Proof.Machine

/-- The 64 bytes of an entry (R532). -/
def AlmEntry.bytes (e : AlmEntry) : List Byte :=
  let b := [0x41, 0x4C, 0x4D, 0x4E] ++ natLE 8 e.aseq ++ natLE 4 e.boot ++ natLE 8 e.time ++ natLE 1 e.etype ++
    natLE 1 e.level ++ natLE 2 e.rtag ++ natLE 1 e.eflags ++ zeros 3 ++ natLE 8 e.subject ++ natLE 16 e.data ++ natLE 4 e.count
  b ++ natLE 4 (crc32c b)

/-- Entries of level 0 or 1 are the ones that are coalesced or discarded (R534, R535); an ETYPE of 2 to 8 is always
kept. -/
def AlmEntry.minor (e : AlmEntry) : Bool := decide (e.level ≤ 1) && e.etype == 1

/-- SOURCE and KIND of the fault message that an entry is about. -/
def AlmEntry.what (e : AlmEntry) : Nat := e.subject / 2 ^ 48

/-- How many entries the partition holds after the write of number `n`: the sector being written and the whole sectors
before it (R533). -/
def almRoom (retired n : Nat) : Nat := (255 - retired) * 1023 + n % 1023 + 1

/-- Write an entry to flash: it takes the next number, and the oldest entries leave with their sector. -/
def State.almStore (s : State) (e : AlmEntry) : State :=
  let n := s.alm.nextSeq
  let l := s.alm.written ++ [{ e with aseq := n }]
  { s with alm := { s.alm with nextSeq := n + 1, written := l.drop (l.length - almRoom s.alm.retired n) } }

/-- The write budget of R535: 16 entries a second on average, a burst of 4,096. -/
def State.almFill (s : State) : State :=
  let now := s.time / 1000000
  let n := (now - s.alm.budgetAt) * 16 / 1000
  if n = 0 then s
  else { s with alm := { s.alm with budget := min 4096 (s.alm.budget + n), budgetAt := s.alm.budgetAt + n * 1000 / 16 } }

/-- A summary entry of a KIND whose 60 s are over (R535). -/
def State.almSummaries (s : State) : State :=
  let due := s.alm.summary.filter (fun e => decide (e.2.2 + 60000000000 ≤ s.time))
  let s := { s with alm := { s.alm with summary := s.alm.summary.filter (fun e => !decide (e.2.2 + 60000000000 ≤ s.time)) } }
  due.foldl (fun s e => s.almStore ⟨0, s.alm.boots, s.time, 1, 0, 0, 4, e.1 * 2 ^ 48, 0, e.2.1⟩) s

/-- Add an entry to the summary of its KIND; event source 241 is raised (R535). -/
def State.almSummarise (s : State) (e : AlmEntry) : State :=
  let k := e.what % 64
  let x := sget (fun _ => (0, s.time)) s.alm.summary k
  ({ s with alm := { s.alm with summary := sput (fun _ => (0, 0)) s.alm.summary k (x.1 + e.count, x.2) } }).raise 241

/-- An entry leaves the buffer for flash, within the budget. -/
def State.almLeave (s : State) (e : AlmEntry) : State :=
  if s.alm.budget = 0 ∧ e.minor then s.almSummarise e
  else ({ s with alm := { s.alm with budget := s.alm.budget - 1 } }).almStore e

/-- The entries queued 50 ms ago or earlier reach flash (R534), and a count of lost entries is written (R535). -/
def State.almDrain (s : State) : State :=
  let s := s.almFill.almSummaries
  let due := s.alm.buffer.filter (fun e => decide (e.1 + 50000000 ≤ s.time))
  let s := { s with alm := { s.alm with buffer := s.alm.buffer.filter (fun e => !decide (e.1 + 50000000 ≤ s.time)) } }
  let s : State := due.foldl (fun s e => s.almLeave e.2) s
  if s.alm.lost = 0 ∨ 4096 ≤ s.alm.buffer.length then s
  else { s with alm := { s.alm with
    lost := 0, buffer := s.alm.buffer ++ [(s.time, ⟨0, s.alm.boots, s.time, 7, 0, 0, 0, s.alm.lost, 0, 1⟩)] } }

/-- Whether an entry may be added to a queued one (R534): the same SOURCE and KIND, queued within the last 1 s. -/
def State.almMatches (s : State) (e : AlmEntry) (q : Nat × AlmEntry) : Bool :=
  e.minor && q.2.minor && q.2.what == e.what && decide (s.time ≤ q.1 + 1000000000)

/-- Add the occurrence to the first match. -/
def almCoalesce (p : Nat × AlmEntry → Bool) : List (Nat × AlmEntry) → List (Nat × AlmEntry)
  | [] => []
  | q :: l => if p q then (q.1, { q.2 with count := q.2.count + 1, eflags := q.2.eflags ||| 4 }) :: l else q :: almCoalesce p l

/-- Queue an entry (R534): coalesced with a queued one, or put in the buffer, of which minor entries leave 128 places
free; a minor entry that finds no place is discarded and counted, and event source 242 is raised. -/
def State.almQueue (s : State) (e : AlmEntry) : State :=
  let s := s.almDrain
  let e := { e with boot := s.alm.boots }
  if s.alm.buffer.any (s.almMatches e) then
    { s with alm := { s.alm with buffer := almCoalesce (s.almMatches e) s.alm.buffer } }
  else if e.minor && decide (3968 ≤ s.alm.buffer.length) then
    ({ s with alm := { s.alm with lost := s.alm.lost + 1 } }).raise 242
  else
    match s.alm.buffer with
    | q :: l =>
      if s.alm.buffer.length < 4096 then { s with alm := { s.alm with buffer := s.alm.buffer ++ [(s.time, e)] } }
      else (({ s with alm := { s.alm with buffer := l ++ [(s.time, e)] } }).almLeave q.2)
    | [] => { s with alm := { s.alm with buffer := [(s.time, e)] } }

/-- An entry that Cupola firmware writes of itself, of an ETYPE, with a subject and data (R532). -/
def State.almanac (s : State) (etype subject data : Nat) : State :=
  s.almQueue ⟨0, 0, s.time, etype, 0, 0, 0, subject, data, 1⟩

/-- The sector ahead fails to erase or program: it is retired, and event source 240 is raised (R533). -/
def State.almRetire (s : State) : State :=
  ({ s with alm := { s.alm with retired := min 255 (s.alm.retired + 1) } }).raise 240

def execAlmanacWrite (e : AlmReq) (bad : Bool) (s : State) : Out :=
  .next (if !s.power.cupUp then s
    else
      let s := if bad then s.almRetire else s
      s.almQueue ⟨0, 0, e.time.toNat, e.etype.toNat, e.level.toNat, e.rtag.toNat, e.eflags.toNat % 4, e.subject.toNat,
        e.data.toNat, 1⟩)

end Sys2Proof.Machine
end

