-- ==== Sys2Proof/Machine/Crypto.lean ====
section
/-! DEFINITION. The algorithms of the cited standards, at the lengths that the spec gives them. Stream ciphers are a
keystream XORed onto the data, so that decrypting undoes encrypting. -/

namespace Sys2Proof.Machine

/-- Bytewise XOR, over the shorter length. -/
def xorBytes (a b : List Byte) : List Byte := List.zipWith (· ^^^ ·) a b

/-- Encrypt or decrypt with a keystream cipher: ALG 0x0B01, 0x0B02 or 0x0C01 (R278). -/
def streamCrypt (alg : Nat) (key iv data : List Byte) : List Byte :=
  xorBytes data (fit data.length (Config.stream alg key iv data.length))

/-- The leftmost `n` bytes of an AEAD tag. -/
def aeadTag (alg : Nat) (key iv aad ct : List Byte) (n : Nat) : List Byte := fit n (Config.aeadTag alg key iv aad ct)

/-- The output length of a hash of fixed length (R173). -/
def hashLen (alg : Nat) : Nat :=
  if alg = 0x901 ∨ alg = 0x905 ∨ alg = 0x911 then 28
  else if alg = 0x902 ∨ alg = 0x906 ∨ alg = 0x912 then 32
  else if alg = 0x903 ∨ alg = 0x913 then 48
  else 64

/-- A hash (R173). -/
def hashOf (alg len : Nat) (m : List Byte) : List Byte := fit len (Config.hash alg len m)

/-- SHA-384 of a public key: PK_DIGEST (R402). -/
def pkDigest (pk : List Byte) : List Byte := hashOf 0x903 48 pk

/-- KMAC256 (SP 800-185). -/
def kmac256 (key msg cust : List Byte) (n : Nat) : List Byte := fit n (Config.kmac 0xA12 key msg cust n)

/-- The characters of a customisation string. -/
def ascii (t : String) : List Byte := t.toList.map (fun c => BitVec.ofNat 8 c.toNat)

/-- HMAC output length by ALG 0x0A01 to 0x0A03 (and the PRF of the KDFs that use them). -/
def hmacLen (alg : Nat) : Nat := if alg % 16 = 1 then 32 else if alg % 16 = 2 then 48 else 64

/-- A MAC of the DKE (R428): HMAC cut to `n`, or KMAC of output length `n`. -/
def macOf (alg : Nat) (key msg cust : List Byte) (n : Nat) : List Byte :=
  if alg = 0xA11 ∨ alg = 0xA12 then fit n (Config.kmac alg key msg cust n)
  else fit n (fit (hmacLen alg) (Config.hmac alg key msg))

/-- AES-256-GCM sealing: ciphertext and 16-byte tag. -/
def gcmSeal (key iv aad pt : List Byte) : List Byte × List Byte :=
  let ct := streamCrypt 0xB01 key iv pt
  (ct, aeadTag 0xB01 key iv aad ct 16)

/-- AES-256-GCM opening; none where the tag does not verify. -/
def gcmOpen (key iv aad ct tag : List Byte) : Option (List Byte) :=
  if aeadTag 0xB01 key iv aad ct 16 = tag then some (streamCrypt 0xB01 key iv ct) else none

end Sys2Proof.Machine
end

