-- ==== Sys2Proof/Machine/CtsStore.lean ====
section
/-! DEFINITION. The context store: contexts and their fields (R306 to R309), the memory protection engine under them
(R296 to R304), commits and versions (R45, R311), the context cache (R325), and the flow table (R249 to R253). -/

namespace Sys2Proof.Machine

/-! ### Contexts -/

def ctxDefault (_ : Nat) : List Byte := zeros 512

/-- A context as the last commit left it. -/
def State.ctx (s : State) (c : Nat) : List Byte := sget ctxDefault s.cts.ctxs c

def State.putCtx (s : State) (c : Nat) (x : List Byte) : State :=
  { s with cts := { s.cts with ctxs := sput ctxDefault s.cts.ctxs c x } }

/-- The context types and states of R307. -/
abbrev ctMacsecTx : Nat := 1
abbrev ctMacsecRx : Nat := 2
abbrev ctEspOut : Nat := 3
abbrev ctEspIn : Nat := 4
abbrev ctGroup : Nat := 5
abbrev ctSession : Nat := 6
abbrev csEmpty : Nat := 0
abbrev csReserved : Nat := 1
abbrev csStandby : Nat := 2
abbrev csActive : Nat := 3
abbrev csDraining : Nat := 4
abbrev csForward : Nat := 5
abbrev csExhausted : Nat := 6

def cVersion (x : List Byte) : Nat := leAt x 0 8
def cType (x : List Byte) : Nat := byteAt x 16
def cState (x : List Byte) : Nat := byteAt x 17
def cFlags (x : List Byte) : Nat := leAt x 18 2
def cPinned (x : List Byte) : Bool := bit (cFlags x) 0
def cWide (x : List Byte) : Bool := bit (cFlags x) 2
def cReplayEn (x : List Byte) : Bool := bit (cFlags x) 3
def cConf (x : List Byte) : Bool := bit (cFlags x) 7
def cCipher (x : List Byte) : Nat := byteAt x 20
def cOwner (x : List Byte) : Nat := byteAt x 22 % 32
def cSucc (x : List Byte) : Nat := leAt x 24 4
def cPred (x : List Byte) : Nat := leAt x 28 4
def cSwitchAt (x : List Byte) : Nat := leAt x 32 8
def cDrainMs (x : List Byte) : Nat := leAt x 40 4
def cKey (x : List Byte) : List Byte := slice x 64 32
def cSalt (x : List Byte) : List Byte := slice x 96 12

/-- The security counter of a context: NEXT_PN, NEXT_SEQ, TOP_SEQ or NEXT_IV (R309). -/
def cCtrOff (t : Nat) : Nat := if t = ctMacsecTx ∨ t = ctMacsecRx then 144 else 136
def cCtr (x : List Byte) : Nat := leAt x (cCtrOff (cType x)) 8

/-- A transmit type: its switch and drain act on what leaves (R328). -/
def isTxType (t : Nat) : Bool := t == ctMacsecTx || t == ctEspOut || t == ctSession || t == ctGroup

/-- Store a little-endian field of a context image. -/
def setLE (x : List Byte) (off len v : Nat) : List Byte := patch x off (natLE len v)

/-- Set or clear CFLAGS.PINNED. -/
def setPinned (x : List Byte) (b : Bool) : List Byte :=
  setLE x 18 2 (cFlags x - (if cPinned x then 1 else 0) + (if b then 1 else 0))

/-- Add to a context counter CNT[i], saturating with its CSAT bit (R306). -/
def cntAdd (x : List Byte) (i n : Nat) : List Byte :=
  let v := leAt x (448 + 8 * i) 8 + n
  if v < 2 ^ 64 - 1 then setLE x (448 + 8 * i) 8 v
  else setLE (setLE x (448 + 8 * i) 8 (2 ^ 64 - 1)) 23 1 (byteAt x 23 ||| 2 ^ i)

/-- A frame or job used the context: PKTS, OCTETS and LAST_USE, the device time in ms (R306). -/
def ctxUse (x : List Byte) (octets now : Nat) : List Byte :=
  setLE (cntAdd (cntAdd x 0 1) 1 octets) 496 8 (now / 1000000)

/-- The contexts in use. -/
def State.ctxIds (s : State) : List Nat := s.cts.ctxs.map (·.1)

/-- The contexts that count as pinned (R326, R330). -/
def State.pinnedCtxs (s : State) : List Nat := (s.cts.ctxs.filter (fun e => cPinned e.2)).map (·.1)

/-! ### Memory protection -/

/-- The protected address of a context (R294). -/
def ctxAddr (c : Nat) : Nat := if c < 0x100000 then c * 512 else 0x20000000 + (c - 0x100000) * 512

/-- The protected address of a flow entry by bucket × 8 + way (R294). -/
def flowAddr (i : Nat) : Nat := 0x22000000 + i * 64

/-- The stack and the leaf node of a data line (R293, R295). -/
def stackOf (line : Nat) : Nat := line / 256 % 4
def leafOf (line : Nat) : Nat := stackOf line * 2 ^ 23 + line / 1024 * 4 + line / 64 % 4

/-- Whether a poison entry covers a line: a line's own entry, or that of a leaf or interior node above it (R300). -/
def poisonCovers (p : Nat × (Nat × List Nat)) (line : Nat) : Bool :=
  if p.1 = 0 then p.2.1 == line else p.2.1 == leafOf line / 8 ^ (p.1 - 1)

/-- The lines that an entry covers. -/
def poisonSize (p : Nat × (Nat × List Nat)) : Nat := if p.1 = 0 then 1 else 64 * 8 ^ (p.1 - 1)

/-- Whether a line lies in a poisoned range (R300). -/
def State.poisoned (s : State) (line : Nat) : Bool := s.mpe.poison.any (poisonCovers · line)

/-- Advance the counters of a path from a leaf to the root (R298). -/
def bumpPath (leaf : Nat) : Nat → List (Nat × Nat) → List (Nat × Nat)
  | 0, m => m
  | l + 1, m =>
    let k := (l + 1) * 2 ^ 26 + leaf / 8 ^ (l + 1)
    bumpPath leaf l (sput (fun _ => 0) m k ((sget (fun _ => 0) m k + 1) % 2 ^ 56))

/-- The poison list after a line has been written in full: an entry leaves when all its lines have been (R300). -/
def clearPoison (line : Nat) (l : List (Nat × (Nat × List Nat))) : List (Nat × (Nat × List Nat)) :=
  (l.map (fun p => if poisonCovers p line then (p.1, (p.2.1, setIns line p.2.2)) else p)).filter
    (fun p => decide (p.2.2.length < poisonSize p))

/-- MPE writes one data line (R298, R304): the line's MINOR and every counter on the path to the root rise; past 63 the
leaf's MAJOR rises in its place and the leaf's other lines are re-encrypted. -/
def State.mpeWrite (s : State) (line : Nat) : State :=
  let leaf := leafOf line
  let m := s.mpe
  let blk := line / 256
  let minor := sget (fun _ => 0) m.minors line + 1
  let roll := decide (63 < minor)
  let m1 := { m with
    minors := if roll then sput (fun _ => 0) (m.minors.filter (fun e => e.1 / 64 != line / 64)) line 1
      else sput (fun _ => 0) m.minors line minor
    majors := if roll then sput (fun _ => 0) m.majors leaf (sget (fun _ => 0) m.majors leaf + 1) else m.majors
    nodes := bumpPath leaf 7 m.nodes
    root := sput (fun _ => 0) m.root (leaf / 2 ^ 21) ((sget (fun _ => 0) m.root (leaf / 2 ^ 21) + 1) % 2 ^ 56)
    filled := if m.fillDone then m.filled else setIns blk m.filled
    poison := clearPoison line m.poison }
  let s := { s with mpe := m1 }
  if roll then s.inc (R.CTS_CNT 5) else s

/-- MPE writes `n` lines from `line` on. -/
def State.mpeWriteN (s : State) (line : Nat) : Nat → State
  | 0 => s
  | n + 1 => (s.mpeWrite line).mpeWriteN (line + 1) n

/-- A data-line MAC or NODE_MAC at a protected address fails (R300, R334): `lvl` 0 is the line, l + 1 a node of level l. -/
def State.macFail (s : State) (lvl addr : Nat) : State :=
  let s := s.report 0x106 (if lvl = 0 then 0x09 else 0x0A) 0 addr
  let s := (s.inc (R.CTS_CNT (if lvl = 0 then 3 else 4))).set F.CTS_STAT_ERR_PEND
  let s := if s.on F.CTS_ERR_ADDR_HI_VALID then s
    else (s.wr R.CTS_ERR_ADDR_LO (BitVec.ofNat 32 addr)).wr R.CTS_ERR_ADDR_HI
      (BitVec.ofNat 32 (addr / 2 ^ 32 % 32 + (if lvl = 0 then 0 else 256) + 2 ^ 31))
  let at_ := if lvl = 0 then addr / 64 else leafOf (addr / 64) / 8 ^ (lvl - 1)
  if s.mpe.poison.any (fun p => p.1 == lvl && p.2.1 == at_) then s
  else if s.mpe.poison.length < 256 then { s with mpe := { s.mpe with poison := s.mpe.poison ++ [(lvl, (at_, []))] } }
  else s.set F.CTS_STAT_POISON_FULL

/-- Whether CTS accesses are admitted: a memory key, memory trained, not in Vigil (R303, R327, R336). -/
def State.ctsOpen (s : State) : Bool :=
  s.on F.CTS_STAT_READY && !s.on F.CTS_STAT_NO_KEY && !s.on F.CTS_STAT_ROTATING && !s.inVigil

/-- The DETAIL of a job that CTS fails: 0x09 without a key or on a failed check (R303), 0x11 while HBM_REFCLK is lost
(R549). -/
def State.ctsDetail (s : State) : Nat := if s.cpm.ready.contains 4 then 0x09 else 0x11

/-- Whether a context may be read or committed now: from its pinned or cached copy, else from CTS (R303, R325, R327). -/
def State.ctxReach (s : State) (c : Nat) : Bool :=
  (s.cts.cache.contains c || cPinned (s.ctx c) || (s.ctsOpen && !s.poisoned (ctxAddr c / 64))) &&
  !(s.inVigil && !cPinned (s.ctx c))

/-- Bring a context into the cache (R325): a hit, or a miss that may evict the least recently used unpinned entry, which
is written back. -/
def State.touch (s : State) (c : Nat) : State :=
  if cPinned (s.ctx c) then s.inc (R.CTS_CNT 1)
  else
    let hit := s.cts.cache.contains c
    let l := c :: s.cts.cache.filter (· != c)
    let cap := 16384 - s.pinnedCtxs.length
    let s := { s with cts := { s.cts with cache := l.take cap } }
    let s := if cap < l.length then s.mpeWriteN (ctxAddr (l.getLastD c) / 64) 8 else s
    s.inc (R.CTS_CNT (if hit then 1 else 2))

/-! ### Commits -/

/-- The generation of the memory key. -/
def State.keyGen (s : State) : Nat := s.get F.CTS_KEY_GEN_GEN

/-- The version that a versioned commit sets (R311). -/
def State.nextVersion (s : State) (x : List Byte) : Nat := max (cVersion x + 1) (s.keyGen * 2 ^ 48 + 1)

/-- The Context Arbiter takes the next commit sequence number (R45). -/
def State.commitBegin (s : State) : State :=
  { s with cts := { s.cts with csn := s.cts.csn + 1 } }.inc (R.CTS_CNT 0)

/-- Store one context of the commit in progress; a versioned one raises VERSION (R47, R311). -/
def State.commitCtx (s : State) (c : Nat) (versioned : Bool) (x : List Byte) : State :=
  let x := if versioned then setLE x 0 8 (s.nextVersion (s.ctx c)) else setLE x 0 8 (cVersion (s.ctx c))
  (s.touch c).putCtx c (setLE x 8 8 s.cts.csn)

/-- A commit of one context. -/
def State.commit1 (s : State) (c : Nat) (versioned : Bool) (x : List Byte) : State :=
  s.commitBegin.commitCtx c versioned x

/-- The 12-byte nonce of a context with a 4-byte salt (R281, R264). -/
def saltNonce (x : List Byte) (iv : List Byte) : List Byte := (cSalt x).take 4 ++ iv

/-! ### The flow table -/

/-- CRC-32C from a seed (R252). -/
def crcSeed (seed : Nat) (bs : List Byte) : Nat := (bs.foldl crcByte seed) ^^^ 0xFFFFFFFF

/-- The two buckets of a flow key (R252). -/
def bucket0 (key : List Byte) : Nat := crcSeed 0xFFFFFFFF key % 2 ^ 19
def bucket1 (key : List Byte) : Nat := crcSeed 0x9E3779B9 key % 2 ^ 19

def feKey (e : List Byte) : List Byte := e.take 40
def feKtype (e : List Byte) : Nat := byteAt e 0
def feInPort (e : List Byte) : Nat := byteAt e 1
def feCtx (e : List Byte) : Nat := leAt e 40 4
def feAction (e : List Byte) : Nat := byteAt e 44
def feFlags (e : List Byte) : Nat := byteAt e 45
def feCl0 (e : List Byte) : Bool := bit (feFlags e) 0
def fePinned (e : List Byte) : Bool := bit (feFlags e) 1
def feStrip (e : List Byte) : Bool := bit (feFlags e) 2
def feOwner (e : List Byte) : Nat := feFlags e / 8
def feEgress (e : List Byte) : Nat := byteAt e 46
def feRgEn (e : List Byte) : Bool := bit (byteAt e 47) 7
def feRg (e : List Byte) : Nat := byteAt e 47 % 8
def feIdle (e : List Byte) : Nat := leAt e 48 4
def feLast (e : List Byte) : Nat := leAt e 52 4
def feStream (e : List Byte) : Nat := leAt e 56 8

/-- Where a flow entry stands: the pinned section by index, or the CTS table by bucket × 8 + way. -/
inductive FlowRef where
  | pin (i : Nat) | tab (i : Nat)
  deriving DecidableEq, Repr

def noFlow (_ : Nat) : List Byte := []

/-- The entry at an index of the CTS table. -/
def State.flowAt (s : State) (i : Nat) : List Byte := sget noFlow s.cts.flows i

/-- The slots of the CTS table in which a key may lie. -/
def flowWays (key : List Byte) : List Nat :=
  let a := bucket0 key
  let b := bucket1 key
  (List.range 8).map (a * 8 + ·) ++ (if a = b then [] else (List.range 8).map (b * 8 + ·))

/-- Find a key in the pinned flow section. -/
def State.findPin (s : State) (key : List Byte) : Option FlowRef :=
  (s.cts.pinFlows.findIdx? (fun e => feKey e == key)).map .pin

/-- Find a key in the CTS table. -/
def State.findTab (s : State) (key : List Byte) : Option FlowRef :=
  ((flowWays key).find? (fun i => let e := s.flowAt i; !e.isEmpty && feKey e == key)).map .tab

/-- The entry at a place. -/
def State.flowGet (s : State) : FlowRef → List Byte
  | .pin i => s.cts.pinFlows.getD i []
  | .tab i => s.flowAt i

/-- Replace the entry at a place; an empty one removes it. A change of the CTS table is written through MPE. -/
def State.flowPut (s : State) (r : FlowRef) (e : List Byte) : State :=
  match r with
  | .pin i => { s with cts := { s.cts with
      pinFlows := if e.isEmpty then s.cts.pinFlows.eraseIdx i else s.cts.pinFlows.set i e } }
  | .tab i => { s with cts := { s.cts with flows := sput noFlow s.cts.flows i e } }.mpeWrite (flowAddr i / 64)

/-- Whether a key exists anywhere. -/
def State.findFlow (s : State) (key : List Byte) : Option FlowRef :=
  match s.findPin key with
  | some r => some r
  | none => s.findTab key

/-- Insert an entry in the CTS table; none where both buckets are full. -/
def State.insertTab (s : State) (e : List Byte) : Option State :=
  ((flowWays (feKey e)).find? (fun i => (s.flowAt i).isEmpty)).map (fun i => s.flowPut (.tab i) e)

/-- Store FFLAGS of an entry. -/
def setFeFlags (e : List Byte) (v : Nat) : List Byte := setLE e 45 1 v

/-- The entry marked pinned or not. -/
def fePin (e : List Byte) (b : Bool) : List Byte :=
  setFeFlags e (feFlags e - (if fePinned e then 2 else 0) + (if b then 2 else 0))

/-- Insert an entry in the pinned section; none where it is full. -/
def State.insertPin (s : State) (e : List Byte) : Option State :=
  if s.cts.pinFlows.length < 4096 then
    some { s with cts := { s.cts with pinFlows := s.cts.pinFlows ++ [fePin e true] } }
  else none

/-- The CTX_ID by which flow entries name a context: TARGET, and for MACSEC_RX the base of its quadruple (R249, R316). -/
def flowCtxOf (c t : Nat) : Nat := if t = ctMacsecRx then c / 4 * 4 else c

/-- Insert several entries, pinned or in the table; none at the first that does not fit. -/
def State.insertFlows (s : State) (pin : Bool) : List (List Byte) → Option State
  | [] => some s
  | e :: es => match (if pin then s.insertPin e else s.insertTab (fePin e false)) with
    | some s => s.insertFlows pin es
    | none => none

/-- Move the flow entries that name a context into the pinned section; none where it is too full (R326). -/
def State.pinEntries (s : State) (c : Nat) : Option State :=
  let es := s.cts.flows.filter (fun e => feCtx e.2 == c)
  let s := es.foldl (fun s e => s.flowPut (.tab e.1) []) s
  s.insertFlows true (es.map (·.2))

/-- Move them back; none where an entry finds both of its buckets full (R326). -/
def State.unpinEntries (s : State) (c : Nat) : Option State :=
  let es := s.cts.pinFlows.filter (fun e => feCtx e == c)
  let s := { s with cts := { s.cts with pinFlows := s.cts.pinFlows.filter (fun e => feCtx e != c) } }
  s.insertFlows false es

/-- A refused install for full buckets is counted and raises event source 82 (R253). -/
def State.flowRejected (s : State) : State := (s.inc R.IPP_FT_REJ).raise 82

end Sys2Proof.Machine
end

