-- ==== Sys2Proof/Machine/Access.lean ====
section
/-! DEFINITION. Register access: who may reach which block (R55 to R59), what a refused access does (R58) and what a
requester or block held in reset means for an access (R622). -/

namespace Sys2Proof.Machine

/-- The requester code of GLB_DENIED_ADDR (R17). -/
def reqCode : Req → Nat
  | .pf => 0
  | .vf _ => 1
  | .svc => 2
  | .cupola => 3
  | .tap => 4

/-- The owner code of a host function (R63). -/
def reqOwner : Req → Nat
  | .pf => 0
  | .vf n => n.val + 1
  | .svc => 0x3F
  | .cupola => 0x3E
  | .tap => 0x3D

/-- The BAR0 offset of an address in the requester's own map (R55, R56, R59); none outside that map. -/
def busOffset (r : Req) (a : Nat) : Option Nat :=
  match r with
  | .pf => if a < 0x1000000 then some a else none
  | .vf _ => if a < 0x100000 then some (0x100000 + a) else none
  | _ => if 0x40000000 ≤ a ∧ a < 0x41000000 then some (a - 0x40000000) else none

/-- Whether the requester is out of reset and so can issue an access (R622); SVC needs its clock (R549), and a processor
halted under debug issues none. -/
def State.reqUp (s : State) (r : Req) : Bool :=
  match r with
  | .pf | .vf _ => s.power.hostUp
  | .svc => s.power.svcUp && !s.cpm.svcHold && !s.lcs.svcHalted
  | .cupola => s.power.cupUp && !s.lcs.cupHalted
  | .tap => s.power.pwrOk

/-- The bit of PWR_BLKRST of a block's registers (R568); none for the blocks without one. -/
def rstBit : Blk → Option Nat
  | .aea | .aeaCom => some 0
  | .ucsCom | .ucsQ => some 3
  | .q => some 4
  | .cts => some 5
  | .keep => some 6
  | .dkeCh | .dkeCom | .sfi => some 7
  | .rng => some 8
  | .ipp => some 9
  | .lif => some 10
  | _ => none

/-- Whether a block is held in a block reset (R546): bit `b` of PWR_BLKRST. -/
def State.inReset (s : State) (b : Nat) : Bool := (s.rd R.PWR_BLKRST).getLsbD b

/-- The blocks that Vigil gates (R564). -/
def gated : Blk → Bool
  | .aea | .aeaCom | .ucsCom | .ucsQ | .q | .keep | .dkeCh | .dkeCom | .sfi | .rng => true
  | _ => false

/-- Whether the block at an offset is out of reset, released and not gated (R37, R564, R622). -/
def State.blkUp (s : State) (o : Nat) : Bool :=
  (match locate o with
  | some (b, _, _) => !(s.inVigil && gated b)
  | none => true) &&
  (match locate o with
  | some (b, _, _) => match rstBit b with
    | some k => !s.inReset k
    | none => true
  | none => true) &&
  match locate o with
  | some (.q, _, _) => s.power.jqmUp
  | some (.ipp, _, _) => s.power.ippUp
  | some (.glb, _, _) | some (.cpm, _, _) | some (.lcs, _, _) | some (.fcr, _, _) | some (.evc, _, _)
  | some (.blf, _, _) | some (.cup, _, _) | some (.mbx, _, _) => s.power.pwrOk && !s.power.sysHeld
  | _ => s.power.coreUp

/-- The queue group of a queue (R61). -/
def groupOf (q : Nat) : Nat := q / 128

/-- The owner code of a queue group (R63). -/
def State.groupOwner (s : State) (g : Nat) : Nat := s.get (F.GLB_QGRP_OWNER g)

/-- The matrix of R57: may `r` read (`wr = false`) or write a register of the block at offset `o`? The TAP reads the
map under R500; it writes nothing. -/
def State.mayMatrix (s : State) (r : Req) (o : Nat) (wr : Bool) : Bool :=
  match r, locate o with
  | _, none => false
  | .cupola, _ => true
  | .tap, _ => !wr
  | .pf, some (b, n, _) => match b with
    | .cpm | .ucsCom | .ucsQ | .aea | .aeaCom | .blf => !wr
    | .lcs => !wr || o == R.LCS_CTL
    | .q => !wr || decide (groupOf n ≠ 31)
    | _ => true
  | .vf v, some (b, n, _) => b == .q && s.groupOwner (groupOf n) == v.val + 1
  | .svc, some (b, n, _) => match b with
    | .rng | .keep | .dkeCh | .dkeCom | .sfi | .ipp | .evc | .mbx | .cup => true
    | .q => decide (groupOf n = 31)
    | _ => !wr

/-- The finer rights that the chapters set inside a block, as far as they concern a whole register: offsets that only
Cupola firmware may write, or read (R442, R461, R536). -/
def cupolaOnly (o : Nat) (wr : Bool) : Bool :=
  if wr then
    o == R.DKE_CFG || o == R.FLT_CFG || (decide (R.FLT_MAP 0 ≤ o ∧ o ≤ R.FLT_MAP 31)) || o == R.RNG_MIN_SRC || o == R.RNG_WAIT_MAX ||
    o == R.RNG_RESEED || o == R.RNG_RAWSEL || o == R.CUP_CFG
  else
    decide (R.FLT_MSG0 ≤ o ∧ o ≤ R.FLT_MSG3)

/-- The registers of KEEP that the host PF and SVC may not access at all (R408). -/
def keepClosed (loc : Nat) : Bool :=
  loc == 0 || loc == 0x8 || loc == 0xC || loc == 0x30 || loc == 0x50 || loc == 0x54 || loc == 0x58 || loc == 0x84 ||
  decide (0xC0 ≤ loc ∧ loc < 0x100)

/-- The rest of the finer rights: KEEP (R408), the mailbox windows (R587), the heartbeat register (R598). -/
def finer (r : Req) (o : Nat) (wr : Bool) : Bool :=
  (!cupolaOnly o wr || r == .cupola) &&
  (match locate o with
  | some (.keep, _, loc) => r == .cupola || r == .tap || !keepClosed loc
  | some (.mbx, n, _) => r == .cupola || r == (if n = 0 then .pf else .svc)
  | _ => true) &&
  (o != R.CUP_SVC_HB || !wr || r == .svc)

/-- The three holders of a DKE channel by requester (R416); 0 for the others. -/
def dkeHolder : Req → Nat
  | .pf => 1
  | .svc => 2
  | .cupola => 3
  | _ => 0

/-- A DKE channel. -/
def State.dkeCh (s : State) (c : Nat) : DkeCh := sget (fun _ => DkeCh.idle) s.dke c

/-- Store a DKE channel. -/
def State.putDke (s : State) (c : Nat) (x : DkeCh) : State := { s with dke := sput (fun _ => DkeCh.idle) s.dke c x }

/-- Whether an access to a held DKE channel comes from a requester that does not hold it (R418): any register of the
channel but DKE_CH_LOCK, and writes of its lane. -/
def State.foreign (s : State) (r : Req) (o : Nat) (wr : Bool) : Bool :=
  match locate o with
  | some (.dkeCh, c, loc) => loc != 0 && (s.dkeCh c).holder != 0 && (s.dkeCh c).holder != dkeHolder r
  | some (.sfi, c, _) => wr && (s.dkeCh c).holder != 0 && (s.dkeCh c).holder != dkeHolder r
  | _ => false

/-- Whether an access is permitted (R57 with the finer rights of the chapters). -/
def State.may (s : State) (r : Req) (o : Nat) (wr : Bool) : Bool :=
  s.mayMatrix r o wr && finer r o wr && !s.foreign r o wr

/-- A refused access (R58, R17, R18): DENIED_ACC is set and the access counted; the first since DENIED_ACC was last
cleared is recorded. -/
def State.denied (s : State) (r : Req) (o : Nat) (wr : Bool) : State :=
  let s1 := if s.on F.GLB_STAT_DENIED_ACC then s
    else s.wr R.GLB_DENIED_ADDR
      (BitVec.ofNat 32 (o % 2 ^ 24 + reqCode r * 2 ^ 24 + if wr then 2 ^ 31 else 0))
  let s2 := (s1.set F.GLB_STAT_DENIED_ACC).inc R.GLB_DENIED
  if s.foreign r o wr then s2.inc (R.DKE_CNT 7) else s2

/-- Whether an access reaches a register that it may use: the block is out of reset, the offset is not reserved, and the
requester has the right. -/
def State.grants (s : State) (r : Req) (o : Nat) (wr : Bool) : Bool :=
  s.blkUp o && !reservedAt o && s.may r o wr

/-- A write of one register by a requester: nothing while the requester is in reset (R622), refused where it has no right
(R58), else the register's effect. -/
def State.gateW (s : State) (r : Req) (o : Nat) (k : State → State) : State :=
  if !s.reqUp r then s else if s.grants r o true then k s else s.denied r o true

/-- A read of one register by a requester; a refused read returns 0. -/
def State.gateR (s : State) (r : Req) (o : Nat) (k : State → State) : State :=
  if !s.reqUp r then s else if s.grants r o false then k s
  else { s.denied r o false with busOut := 0 }

end Sys2Proof.Machine
end

