-- ==== Sys2Proof/Machine/Operands.lean ====
section
/-! DEFINITION. The operands of look-aside jobs: the descriptor's fields (R82, R84), status codes (R108), the gather and
scatter forms of data (R86, R98), and what a job's end does to its output buffer (R108). -/

namespace Sys2Proof.Machine

/-! ### Status codes (R108) and ENGINE codes (R102) -/

abbrev stOk : Nat := 0x00
abbrev stTrunc : Nat := 0x01
abbrev stMalformed : Nat := 0x10
abbrev stCheckFail : Nat := 0x11
abbrev stUnsupported : Nat := 0x12
abbrev stKeyDenied : Nat := 0x13
abbrev stSlotEmpty : Nat := 0x14
abbrev stLenShort : Nat := 0x15
abbrev stAddrFault : Nat := 0x16
abbrev stCapSmall : Nat := 0x17
abbrev stRngNotReady : Nat := 0x20
abbrev stRngFailed : Nat := 0x21
abbrev stVerifyFail : Nat := 0x30
abbrev stTamper : Nat := 0x40
abbrev stFault : Nat := 0x41
abbrev stCounter : Nat := 0x50
abbrev stStateExh : Nat := 0x51
abbrev stFlushed : Nat := 0x60
abbrev stStale : Nat := 0x61
abbrev stBusy : Nat := 0x62

/-- ENGINE 0x70: no resource started the job. -/
abbrev engJqm : Nat := 0x70
/-- ENGINE 0x71: Context Arbiter. -/
abbrev engArb : Nat := 0x71
/-- ENGINE 0x72: KEEP. -/
abbrev engKeep : Nat := 0x72

/-! ### Descriptor fields (R82, R84) -/

/-- "None" in a handle or context field. -/
abbrev none32 : Nat := 0xFFFFFFFF

def dTag (d : List Byte) : Nat := leAt d 0 4
def dOpcode (d : List Byte) : Nat := leAt d 4 2
def dAlg (d : List Byte) : Nat := leAt d 6 2
def dFlags (d : List Byte) : Nat := leAt d 8 4
def dEnd (d : List Byte) : Bool := bit (dFlags d) 0
def dFence (d : List Byte) : Bool := bit (dFlags d) 1
def dInt (d : List Byte) : Bool := bit (dFlags d) 2
def dClass (d : List Byte) : Nat := bits (dFlags d) 4 2
def dGather (d : List Byte) : Bool := bit (dFlags d) 8
def dScatter (d : List Byte) : Bool := bit (dFlags d) 9
def dDeclLen (d : List Byte) : Nat := leAt d 12 4
def dInAddr (d : List Byte) : Nat := leAt d 16 8
def dInLen (d : List Byte) : Nat := leAt d 24 4
def dOutAddr (d : List Byte) : Nat := leAt d 32 8
def dOutCap (d : List Byte) : Nat := leAt d 40 4
def dKeyHandle (d : List Byte) : Nat := leAt d 44 4
def dCtxId (d : List Byte) : Nat := leAt d 48 4
def dAuxHandle (d : List Byte) : Nat := leAt d 52 4
def dAuxAddr (d : List Byte) : Nat := leAt d 56 8
def dNext (d : List Byte) : Nat := leAt d 112 8
def dChk (d : List Byte) : Nat := leAt d 124 4

/-! ### OPCODE codes (R83) -/

abbrev opKeygen : Nat := 0x10
abbrev opEncaps : Nat := 0x11
abbrev opDecaps : Nat := 0x12
abbrev opSign : Nat := 0x20
abbrev opVerify : Nat := 0x21
abbrev opExchange : Nat := 0x30
abbrev opHash : Nat := 0x40
abbrev opMac : Nat := 0x41
abbrev opMacCompare : Nat := 0x42
abbrev opEncrypt : Nat := 0x50
abbrev opDecrypt : Nat := 0x51
abbrev opWrap : Nat := 0x60
abbrev opUnwrap : Nat := 0x61
abbrev opDerive : Nat := 0x70
abbrev opAttest : Nat := 0x80
abbrev opCtxInstall : Nat := 0x90
abbrev opCtxUpdate : Nat := 0x91
abbrev opCtxRetire : Nat := 0x92
abbrev opCtxSnapshot : Nat := 0x93
abbrev opKeepLoad : Nat := 0xA0
abbrev opKeepErase : Nat := 0xA1
abbrev opFence : Nat := 0xF0

/-- Whether R83 lists the OPCODE. -/
def knownOpcode (op : Nat) : Bool :=
  [opKeygen, opEncaps, opDecaps, opSign, opVerify, opExchange, opHash, opMac, opMacCompare, opEncrypt, opDecrypt,
   opWrap, opUnwrap, opDerive, opAttest, opCtxInstall, opCtxUpdate, opCtxRetire, opCtxSnapshot, opKeepLoad,
   opKeepErase, opFence].contains op

/-! ### Results -/

/-- A result that reports a status with a DETAIL; OUT_LEN is 0 (R99). -/
def failed (engine status detail : Nat) : JobResult := ⟨status, detail, 0, engine, false⟩

/-- An error that a check found: status and DETAIL. -/
abbrev Err := Nat × Nat

/-- DESC_MALFORMED at a byte offset (R108). -/
def malformed (off : Nat) : Err := (stMalformed, off)

/-- The first error of a list of checks, each a condition that must not hold. -/
def firstErr : List (Bool × Err) → Option Err
  | [] => none
  | (b, e) :: l => if b then some e else firstErr l

/-! ### Stages 1 and 2 (R95, R85) -/

/-- Whether a handle field is within R85. -/
def handleInRange (h : Nat) : Bool := h == none32 || decide (h % 2 ^ 24 < 16384)

/-- Whether a CTX_ID is within R85. -/
def ctxIdInRange (c : Nat) : Bool := c == none32 || decide (c < 0x110000)

/-- Stage 1: DESC_CHK, when DCHK_EN = 1; DETAIL is the CRC computed. -/
def stage1 (dchk : Bool) (d : List Byte) : Option Err :=
  let c := crc32c (d.take 124)
  if dchk && c != dChk d then some (stCheckFail, c) else none

/-- Stage 2: reserved fields zero and every field within R85, in the order of their offsets; for FENCE also PARAMS
(R113). -/
def stage2 (d : List Byte) : Option Err :=
  firstErr [
    (bit (dFlags d) 3 || bits (dFlags d) 6 2 != 0 || bits (dFlags d) 10 22 != 0, malformed 8),
    (dGather d && dInAddr d % 16 != 0, malformed 16),
    (dGather d && !decide (1 ≤ dInLen d ∧ dInLen d ≤ 256), malformed 24),
    (leAt d 28 4 != 0, malformed 28),
    (dScatter d && dOutAddr d % 16 != 0, malformed 32),
    (dScatter d && !decide (1 ≤ dOutCap d ∧ dOutCap d ≤ 256), malformed 40),
    (!handleInRange (dKeyHandle d), malformed 44),
    (!ctxIdInRange (dCtxId d), malformed 48),
    (!handleInRange (dAuxHandle d), malformed 52),
    (dOpcode d == opFence && (firstNonZero d 64 48).isSome, malformed 64),
    (leAt d 120 4 != 0, malformed 120)]

/-! ### Gather and scatter (R86, R98) -/

/-- A buffer in memory: address and length. -/
abbrev Buf := Nat × Nat

/-- The entries of a gather or scatter list, and the index of the first with a non-zero reserved field. -/
def listEntries : Nat → List Byte → List (Buf × Bool)
  | 0, _ => []
  | n + 1, bs => ((leAt bs 0 8, leAt bs 8 4), leAt bs 12 4 != 0) :: listEntries n (bs.drop 16)

/-- Read one list; `off` is the descriptor offset that a bad entry reports, `code` the DETAIL of a faulting read. -/
def readList (s : State) (owner addr count off code : Nat) : Except Err (List Buf) :=
  match s.dmaRead owner addr (16 * count) with
  | none => .error (stAddrFault, code)
  | some bs =>
    let es := listEntries count bs
    match es.findIdx? (·.2) with
    | some i => .error (stMalformed, off + (i + 1) * 2 ^ 16)
    | none => .ok (es.map (·.1))

/-- The input buffers of a descriptor. -/
def inBufs (s : State) (owner : Nat) (d : List Byte) : Except Err (List Buf) :=
  if dGather d then readList s owner (dInAddr d) (dInLen d) 16 3
  else .ok [(dInAddr d, dInLen d)]

/-- The output buffers of a descriptor. -/
def outBufs (s : State) (owner : Nat) (d : List Byte) : Except Err (List Buf) :=
  if dScatter d then readList s owner (dOutAddr d) (dOutCap d) 32 4
  else .ok [(dOutAddr d, dOutCap d)]

/-- The total length of buffers. -/
def bufsLen (bs : List Buf) : Nat := bs.foldl (fun a b => a + b.2) 0

/-- Read the first `n` bytes that buffers hold; none on a fault. An entry of length 0 is skipped. -/
def readBufs (s : State) (owner : Nat) : List Buf → Nat → Option (List Byte)
  | [], _ => some []
  | b :: bs, n =>
    let k := min b.2 n
    if k = 0 then readBufs s owner bs n
    else match s.dmaRead owner b.1 k, readBufs s owner bs (n - k) with
      | some x, some y => some (x ++ y)
      | _, _ => none

/-- Store bytes through buffers in list order. The state after the writes that did not fault; where a buffer faults its
contents are free (R108) and the write ends there. -/
def writeBufs (s : State) (owner : Nat) : List Buf → List Byte → State × Bool
  | [], _ => (s, true)
  | b :: bs, v =>
    let k := min b.2 v.length
    if k = 0 then writeBufs s owner bs v
    else match s.dmaWrite owner b.1 (v.take k) with
      | some s' => writeBufs s' owner bs (v.drop k)
      | none =>
        let (x, s') := s.freeBytes k
        (s'.dmaStore owner b.1 x, false)

/-- Write zero to every writable buffer (R108, "zeroed where writable"); a buffer whose write faults is left free. -/
def zeroBufs (s : State) (owner : Nat) : List Buf → State
  | [] => s
  | b :: bs => zeroBufs (writeBufs s owner [b] (zeros b.2)).1 owner bs

/-- Write zero to all OUT_CAP bytes, or to every scatter entry. -/
def zeroOutput (s : State) (owner : Nat) (d : List Byte) : State :=
  match outBufs s owner d with
  | .ok bs => zeroBufs s owner bs
  | .error _ => s

/-- What a status does to the output buffer (R108): whether the device writes zero to it. -/
def statusZeroes (e : Err) : Bool :=
  if e.1 = stSlotEmpty then e.2 == 2
  else if e.1 = stFlushed then e.2 == 2
  else [stLenShort, stAddrFault, stRngNotReady, stRngFailed, stVerifyFail, stTamper, stFault, stCounter,
        stStateExh].contains e.1

/-- Whether an access to the whole of a buffer faults; a buffer of length 0 is skipped. -/
def bufFaults (s : State) (owner : Nat) (wr : Bool) (b : Buf) : Bool := b.2 != 0 && s.dmaFaults owner b.1 b.2 wr

/-- Stages 7 and 8 of R95: the lists are read and checked before any buffer (R86); then every buffer must read or write
without fault, the further buffers of the opcode with them (address, length and DETAIL of each); the data is then
compared with DECL_LEN (R98). -/
def stage78 (s : State) (owner : Nat) (d : List Byte) (more : List (Buf × Nat)) : Except Err JobIn :=
  match inBufs s owner d with
  | .error e => .error e
  | .ok ins => match outBufs s owner d with
    | .error e => .error e
    | .ok outs =>
      if ins.any (bufFaults s owner false) then .error (stAddrFault, 0)
      else if outs.any (bufFaults s owner true) then .error (stAddrFault, 1)
      else match more.find? (fun b => bufFaults s owner false b.1) with
        | some b => .error (stAddrFault, b.2)
        | none =>
          let have_ := bufsLen ins
          if have_ < dDeclLen d then .error (stLenShort, have_)
          else match readBufs s owner ins (dDeclLen d) with
            | none => .error (stAddrFault, 0)
            | some data => .ok ⟨data, have_ - dDeclLen d, outs⟩

end Sys2Proof.Machine
end

