-- ==== Sys2Proof/Machine/KeepSlots.lean ====
section
/-! DEFINITION. KEEP's slots: looking them up by handle, reserving, filling and erasing them (R377 to R381), the free
granules, extents and journal cells, and the key bytes that jobs take over the key bus. -/

namespace Sys2Proof.Machine

def slotDefault (_ : Nat) : Slot := Slot.emptyGen 1 0

def State.slot (s : State) (i : Nat) : Slot := sget slotDefault s.keep.slots i

def State.putSlot (s : State) (i : Nat) (x : Slot) : State :=
  { s with keep := { s.keep with slots := sput slotDefault s.keep.slots i x } }

/-- The slot index of a handle (R85). -/
def hSlot (h : Nat) : Nat := h % 2 ^ 24

/-- The generation of a handle (R85). -/
def hGen (h : Nat) : Nat := h / 2 ^ 24

/-- The handle of a slot as it stands. -/
def State.handleOf (s : State) (i : Nat) : Nat := i + (s.slot i).gen * 2 ^ 24

/-- The live slot of that generation that a handle names (stage 4 of R95). -/
def State.liveSlot (s : State) (h : Nat) : Option Slot :=
  let x := s.slot (hSlot h)
  if x.st = .live ∧ x.gen = hGen h ∧ hGen h ≠ 0 ∧ hSlot h < 16384 then some x else none

/-- The granules of a key of `k` bytes (R377). -/
def granulesOf (k : Nat) : Nat := (k + 255) / 256

/-- The granules a slot takes. -/
def Slot.granules (x : Slot) : Nat := if x.lobj then 0 else granulesOf x.keyLen

/-- The 64 KiB extents of the large-object area a slot takes (R381). -/
def Slot.extents (x : Slot) : Nat := if x.lobj then (x.keyLen + 65535) / 65536 else 0

/-- Free granules (R377, R405). -/
def State.freeGranules (s : State) : Nat :=
  16384 - s.keep.withdrawn - (s.keep.slots.map (fun e => if e.2.st = .empty then 0 else e.2.granules)).sum

/-- Free extents (R381, R358): 128 MiB of the area are reserved for SVC. -/
def State.freeExtents (s : State) : Nat :=
  2080768 - 2048 - (s.keep.slots.map (fun e => if e.2.st = .empty then 0 else e.2.extents)).sum

/-- The slots that are not EMPTY. -/
def State.slotsUsed (s : State) : Nat := (s.keep.slots.filter (fun e => e.2.st != .empty)).length

def State.cell (s : State) (c : Nat) : Nat × Nat := sget (fun _ => (0, 0)) s.keep.cells c

def State.putCell (s : State) (c : Nat) (v : Nat × Nat) : State :=
  { s with keep := { s.keep with cells := sput (fun _ => (0, 0)) s.keep.cells c v } }

/-- The free journal cells: those that hold no UID (R399). -/
def State.freeCells (s : State) : List Nat := (List.range 64).filter (fun c => (s.cell c).1 == 0)

/-- The first index at or above `i` that the sorted slots do not list. -/
def firstUnlisted (i : Nat) : List (Nat × Slot) → Nat
  | [] => i
  | e :: m => if e.1 < i then firstUnlisted i m else if e.1 = i then firstUnlisted (i + 1) m else i

/-- The listed EMPTY slot that was emptied longest ago. -/
def oldestFreed : List (Nat × Slot) → Option (Nat × Nat)
  | [] => none
  | e :: m =>
    let r := oldestFreed m
    if e.2.st = .empty then
      match r with
      | some (t, i) => if t < e.2.freedAt then some (t, i) else some (e.2.freedAt, e.1)
      | none => some (e.2.freedAt, e.1)
    else r

/-- The EMPTY slot that has been EMPTY longest (R380): one never used since the reset, else the one freed first. -/
def State.pickSlot (s : State) : Option Nat :=
  let i := firstUnlisted 0 s.keep.slots
  if i < 16384 then some i else (oldestFreed s.keep.slots).map (·.2)

/-- The target check of stage 5 (R131, R398): the slot that a TARGET_SLOT value takes for a key of `len` bytes, in
granules or in extents. -/
def State.findTarget (s : State) (target len : Nat) (lobj : Bool) : Option Nat :=
  let room := if lobj then decide ((len + 65535) / 65536 ≤ s.freeExtents) else decide (granulesOf len ≤ s.freeGranules)
  if !room then none
  else if target = none32 then s.pickSlot
  else if target < 16384 ∧ (s.slot target).st = .empty then some target
  else none

/-- EMPTY to RESERVED (R379). -/
def State.reserveSlot (s : State) (i len : Nat) (lobj : Bool) : State :=
  s.putSlot i { s.slot i with st := .reserved, keyLen := len, lobj := lobj }

/-- A return to EMPTY: granules and descriptor zeroed, GEN raised, from 255 to 1 (R379). -/
def State.emptySlot (s : State) (i : Nat) : State :=
  let x := s.slot i
  let s := { s with keep := { s.keep with erasures := s.keep.erasures + 1 } }
  s.putSlot i (Slot.emptyGen (if x.gen = 255 then 1 else x.gen + 1) (s.keep.erasures))

/-- Release the target slots that a job reserved and did not fill (R131, R379). -/
def State.releaseTargets (s : State) : List Nat → State
  | [] => s
  | i :: is => (if (s.slot i).st = .reserved then s.emptySlot i else s).releaseTargets is

/-- RESERVED to LIVE with a descriptor and key (R379); the generation stays. -/
def State.fillSlot (s : State) (i : Nat) (x : Slot) : State :=
  s.putSlot i { x with st := .live, gen := (s.slot i).gen, freedAt := (s.slot i).freedAt }

/-- The jobs and descriptors that had reserved a slot have it no more (R406). -/
def State.dropTarget (s : State) (i : Nat) : State :=
  { s with jqm := { s.jqm with
    jobs := s.jqm.jobs.map (fun j => if j.phase = .done then j else { j with targets := j.targets.filter (· != i) })
    queues := s.jqm.queues.map (fun e => (e.1, { e.2 with
      hand := e.2.hand.map (fun h => { h with targets := h.targets.filter (· != i) }) })) } }

/-- Erase a live or reserved slot (R404, R406), counted in ERASED. -/
def State.eraseSlot (s : State) (i : Nat) : State :=
  match (s.slot i).st with
  | .empty => s
  | .reserved => ((s.dropTarget i).emptySlot i).inc (R.KEEP_CNT 4)
  | .live => (s.emptySlot i).inc (R.KEEP_CNT 4)

/-- Erase the slots listed. -/
def State.eraseSlots (s : State) : List Nat → State
  | [] => s
  | i :: is => (s.eraseSlot i).eraseSlots is

/-- Every slot in use that a predicate picks. -/
def State.slotsWhere (s : State) (p : Slot → Bool) : List Nat :=
  (s.keep.slots.filter (fun e => e.2.st != .empty && p e.2)).map (·.1)

/-- Drive event source 200: KEEP_SFEVT holds an entry (R413). -/
def State.syncSfevt (s : State) : State := s.level 200 (!s.keep.sfevt.isEmpty)

/-- Enter a stateful event in KEEP_SFEVT, which holds 64 (R408, R409). -/
def State.sfEvent (s : State) (slot kind : Nat) : State :=
  if s.keep.sfevt.length < 64 then
    { s with keep := { s.keep with
        sfevt := s.keep.sfevt ++ [BitVec.ofNat 32 (slot + kind * 2 ^ 16 + 2 ^ 31)] } }.syncSfevt
  else s.set F.KEEP_STAT_SFEVT_OVF

end Sys2Proof.Machine
end

