-- ==== Sys2Proof/Machine/Jqm.lean ====
section
/-! DEFINITION. The job queue manager's own operations (02): the state of a queue, fetching and parking (R88 to R92),
completion records, the ring and the holding pool (R99 to R107), and flushing (R79 to R81). -/

namespace Sys2Proof.Machine

/-! ### Queue state -/

def State.qst (s : State) (q : Nat) : QueueSt := sget (fun _ => QueueSt.idle) s.jqm.queues q

def State.qput (s : State) (q : Nat) (x : QueueSt) : State :=
  { s with jqm := { s.jqm with queues := sput (fun _ => QueueSt.idle) s.jqm.queues q x } }

def State.setJobs (s : State) (js : List Job) : State := { s with jqm := { s.jqm with jobs := js } }

/-- The dispatched jobs of a queue that have not completed. -/
def State.jobsOf (s : State) (q : Nat) : List Job := s.jqm.jobs.filter (fun j => j.kind == .queue && j.q == q)

/-- Q_STAT.INFLIGHT (R69). -/
def State.inflight (s : State) (q : Nat) : Nat := (s.jobsOf q).length

/-- Q_STAT.ACTIVE (R69). -/
def State.qActive (s : State) (q : Nat) : Bool :=
  s.on (F.Q_CTL_EN q) || decide (0 < s.inflight q) || !(s.qst q).held.isEmpty

/-- The owner code of a queue's group: the requester ID of its DMA (R61). -/
def State.qOwner (s : State) (q : Nat) : Nat := s.groupOwner (groupOf q)

/-- A 64-bit address held in two registers. -/
def State.rd64 (s : State) (lo hi : Nat) : Nat := (s.rd lo).toNat + (s.rd hi).toNat * 2 ^ 32

/-- Store a 64-bit value in two registers. -/
def State.wr64 (s : State) (lo hi v : Nat) : State :=
  (s.wr lo (BitVec.ofNat 32 v)).wr hi (BitVec.ofNat 32 (v / 2 ^ 32))

def State.sqCur (s : State) (q : Nat) : Nat := s.rd64 (R.SQ_CUR_LO q) (R.SQ_CUR_HI q)
def State.sqStart (s : State) (q : Nat) : Nat := s.rd64 (R.SQ_START_LO q) (R.SQ_START_HI q)
def State.cqBase (s : State) (q : Nat) : Nat := s.rd64 (R.CQ_BASE_LO q) (R.CQ_BASE_HI q)
def State.cqSize (s : State) (q : Nat) : Nat := (s.rd (R.CQ_SIZE q)).toNat

/-- Whether one queue of a group asserts its completion (`att = false`) or attention source (R74, R75). -/
def State.queueAsserts (s : State) (q : Nat) (att : Bool) : Bool :=
  if att then (s.on (F.Q_STAT_ERR_PEND q) && s.on (F.Q_EVT_EN_ERR_EN q)) ||
      (s.on (F.Q_STAT_STALL_PEND q) && s.on (F.Q_EVT_EN_STALL_EN q))
  else (s.on (F.Q_STAT_CPL_PEND q) && s.on (F.Q_EVT_EN_CPL_EN q)) ||
      (s.on (F.Q_STAT_IDLE_PEND q) && s.on (F.Q_EVT_EN_IDLE_EN q))

/-- Whether a group asserts one of its two sources. Only a queue whose Q_STAT is listed can have a pending bit. -/
def State.groupAsserts (s : State) (g : Nat) (att : Bool) : Bool :=
  s.regs.any (fun e => e.1 % 0x100 == 4 && decide (0x100000 ≤ e.1) && groupOf ((e.1 - 0x100000) / 0x100) == g &&
    s.queueAsserts ((e.1 - 0x100000) / 0x100) att)

/-- Drive the two event sources of a group (R75). -/
def State.syncGroup (s : State) (g : Nat) : State :=
  (s.level (128 + 2 * g) (s.groupAsserts g false)).level (129 + 2 * g) (s.groupAsserts g true)

/-- Drive the sources of a queue's group. -/
def State.syncQ (s : State) (q : Nat) : State := s.syncGroup (groupOf q)

/-- Set a Q_ERR cause and ERR_PEND; a cause of [2:0] stops fetching (R73). -/
def State.qError (s : State) (q : Nat) (f : Fld) : State :=
  let s := (s.set f).set (F.Q_STAT_ERR_PEND q)
  let s := if f.lo ≤ 2 then (s.set (F.Q_STAT_ERR_STOP q)).qput q { s.qst q with fetch := none } else s
  s.syncQ q

/-! ### Fetching (R88 to R92) -/

/-- Whether the queue may issue a descriptor read now (R79 to R81, R88, R105, R520). -/
def State.fetchOpen (s : State) (q : Nat) : Bool :=
  s.on (F.Q_CTL_EN q) && !s.on (F.Q_STAT_FLUSHING q) && !s.on (F.Q_STAT_ERR_STOP q) && !s.on (F.Q_CTL_PAUSE q) &&
  !s.on (F.Q_STAT_CQ_STALL q) && !s.on F.FLT_STAT_QUIESCED && decide (s.inflight q < 64) &&
  (s.qst q).hand.isNone && s.power.jqmUp

/-- Want a descriptor read, issuing it when the queue may. A fetch sets SQ_CUR to its address when it is issued
(R89). -/
def State.wantFetch (s : State) (q : Nat) (k : FetchKind) (a : Nat) : State :=
  let go := s.fetchOpen q
  let s1 := s.qput q { s.qst q with fetch := some ⟨k, a, go⟩, parked := k == .reread }
  if go && k != .reread then s1.wr64 (R.SQ_CUR_LO q) (R.SQ_CUR_HI q) a else s1

/-- The moment of parking (R90), also at the end of a re-read that saw END = 1 (R91). -/
def State.park (s : State) (q : Nat) : State :=
  let s := s.qput q { s.qst q with parked := true, fetch := none }
  if s.on (F.Q_STAT_KICK_PEND q) then (s.clr (F.Q_STAT_KICK_PEND q)).wantFetch q .reread (s.sqCur q)
  else if s.on (F.Q_STAT_CHAIN_IDLE q) then s
  else ((s.set (F.Q_STAT_CHAIN_IDLE q)).set (F.Q_STAT_IDLE_PEND q)).syncQ q

/-- Follow NEXT (R89): NEXT_BAD when it is 0 or not 128-byte aligned. -/
def State.followNext (s : State) (q next : Nat) : State :=
  if next = 0 ∨ next % 128 ≠ 0 then s.qError q (F.Q_ERR_NEXT_BAD q) else s.wantFetch q .next next

/-- After handling a descriptor, by the END read in that same fetch (R89, R96). -/
def State.proceed (s : State) (q : Nat) (d : List Byte) : State :=
  if !s.on (F.Q_CTL_EN q) || s.on (F.Q_STAT_FLUSHING q) || s.on (F.Q_STAT_ERR_STOP q) then s
  else if dEnd d then s.park q else s.followNext q (dNext d)

/-- A doorbell (R92), by the first case that applies. -/
def State.kick (s : State) (q : Nat) : State :=
  let qs := s.qst q
  if !s.on (F.Q_CTL_EN q) || s.on (F.Q_STAT_ERR_STOP q) then s.qError q (F.Q_ERR_KICK_IGNORED q)
  else if s.on (F.Q_CTL_PAUSE q) || s.on F.FLT_STAT_QUIESCED || s.on (F.Q_STAT_FLUSHING q) then
    s.set (F.Q_STAT_KICK_PEND q)
  else match qs.fetch with
    | some f => if f.issued || f.kind == .next then s.set (F.Q_STAT_KICK_PEND q) else s
    | none =>
      if qs.parked then s.wantFetch q .reread (s.sqCur q)
      else if s.on (F.Q_STAT_AWAIT_FIRST q) && qs.hand.isNone then s.wantFetch q .first (s.sqCur q)
      else s.set (F.Q_STAT_KICK_PEND q)

/-- Act on a KICK_PEND that waited for fetching to open again (R80; the same on RESUME, R520). -/
def State.resumeKick (s : State) (q : Nat) : State :=
  if s.on (F.Q_STAT_KICK_PEND q) && (s.qst q).fetch.isNone && (s.qst q).hand.isNone then
    if s.on (F.Q_STAT_AWAIT_FIRST q) then (s.clr (F.Q_STAT_KICK_PEND q)).wantFetch q .first (s.sqCur q)
    else if (s.qst q).parked then (s.clr (F.Q_STAT_KICK_PEND q)).wantFetch q .reread (s.sqCur q)
    else s
  else s

/-! ### The holding pool (R103, R106) -/

/-- The hold records a queue occupies of one kind, by jobs and by held records. -/
def State.holdUsed (s : State) (q : Nat) (h : Hold) : Nat :=
  ((s.jobsOf q).filter (fun j => j.hold == h)).length + ((s.qst q).held.filter (fun e => e.1 == h)).length

/-- The shared hold records in use. -/
def State.sharedUsed (s : State) : Nat :=
  (s.jqm.jobs.filter (fun j => j.kind == .queue && j.hold == .shared)).length +
  (s.jqm.queues.map (fun e => (e.2.held.filter (fun r => r.1 == .shared)).length)).sum

/-- Reserve a hold record: one of the queue's own two, then one of the shared pool, of which a queue may reserve at most
62. -/
def State.reserveHold (s : State) (q : Nat) : Option Hold :=
  if s.holdUsed q .own < 2 then some .own
  else if s.holdUsed q .shared < 62 ∧ s.sharedUsed < 8192 then some .shared
  else none

/-! ### Records (R99 to R107) -/

/-- The 32 bytes of a record with the PHASE bit of its slot. -/
def recordBytes (r : Record) (phase : Nat) : List Byte :=
  natLE 4 r.tag ++ natLE 1 r.result.status ++ natLE 1 r.result.engine ++
  natLE 1 ((if r.result.trunc then 1 else 0) + (if r.held then 2 else 0) + phase * 128) ++ natLE 1 0 ++
  natLE 4 r.result.outLen ++ natLE 4 r.result.detail ++ natLE 8 r.time ++ natLE 8 r.addr

/-- Whether the ring has a free slot: it holds at most CQ_SIZE − 1 unconsumed records (R101). -/
def State.ringFree (s : State) (q : Nat) : Bool :=
  let n := s.cqSize q
  (s.get (F.CQ_TAIL_INDEX q) + 1) % n != s.get (F.CQ_HEAD_INDEX q) % n

/-- A completion record write failed (R107): CQ_FAULT stops fetching, the record is discarded and counted, and every
job still in flight will be. -/
def State.cqFault (s : State) (q : Nat) : State :=
  let s := s.qError q (F.Q_ERR_CQ_FAULT q)
  let s := s.inc (R.Q_JOBS_ERR q)
  s.setJobs (s.jqm.jobs.map (fun j => if j.kind == .queue && j.q == q then { j with discard := true } else j))

/-- Write a record into the ring (R99), whose counters and pending bits follow (R67, R69, R74). -/
def State.ringWrite (s : State) (q : Nat) (r : Record) : State :=
  let tail := s.get (F.CQ_TAIL_INDEX q)
  let phase := s.get (F.CQ_TAIL_TAIL_PHASE q)
  match s.dmaWrite (s.qOwner q) (s.cqBase q + 32 * tail) (recordBytes r phase) with
  | none => s.cqFault q
  | some s =>
    let tail' := (tail + 1) % s.cqSize q
    let s := s.put (F.CQ_TAIL_INDEX q) tail'
    let s := if tail' = 0 then s.put (F.CQ_TAIL_TAIL_PHASE q) (1 - phase) else s
    let s := s.inc (R.Q_JOBS_DONE q)
    let bad := 0x10 ≤ r.result.status
    let s := if bad then s.inc (R.Q_JOBS_ERR q) else s
    if r.int || (bad && s.on (F.Q_EVT_EN_CPL_ON_ERR q)) then (s.set (F.Q_STAT_CPL_PEND q)).syncQ q else s

/-- A finished record goes into the ring, or stays in its hold record (R104, R105). -/
def State.deliverRecord (s : State) (q : Nat) (h : Hold) (r : Record) : State :=
  let qs := s.qst q
  if qs.held.isEmpty && s.ringFree q then s.ringWrite q r
  else
    let s1 := s.qput q { qs with held := qs.held ++ [(h, { r with held := true })] }
    if qs.held.isEmpty then ((s1.set (F.Q_STAT_CQ_STALL q)).set (F.Q_STAT_STALL_PEND q)).syncQ q else s1

/-- The record of a descriptor that ended with a result at a time. -/
def mkRecord (addr : Nat) (d : List Byte) (r : JobResult) (t : Nat) : Record := ⟨dTag d, r, false, t, addr, dInt d⟩

/-- Complete the descriptor in hand without dispatch (R96, R103): it reserves a hold record first, and waits in hand
when there is none. -/
def State.completeHand (s : State) (q : Nat) (r : JobResult) : State :=
  match (s.qst q).hand with
  | none => s
  | some h => match s.reserveHold q with
    | none => s.qput q { s.qst q with hand := some { h with result := some r } }
    | some k =>
      let s := (s.releaseTargets h.targets).qput q { s.qst q with hand := none }
      let s := s.clr (F.Q_STAT_FENCE_WAIT q)
      (s.deliverRecord q k (mkRecord h.addr h.desc r s.time)).proceed q h.desc

/-- The queues whose descriptor in hand has a result that waits for a hold record. -/
def State.waitingHands (s : State) : List (Nat × JobResult) :=
  s.jqm.queues.filterMap (fun e => e.2.hand.bind (fun h => h.result.map (fun r => (e.1, r))))

/-- Retry the completions that waited for a hold record, lowest queue first. -/
def State.settleHands (s : State) : State :=
  s.waitingHands.foldl (fun s e => s.completeHand e.1 e.2) s

/-- Issue the reads that a queue wanted while it could not fetch (R80, R88, R105). -/
def State.issueWanted (s : State) (q : Nat) : State :=
  match (s.qst q).fetch with
  | some f =>
    if !f.issued && s.fetchOpen q then
      let s1 := s.qput q { s.qst q with fetch := some { f with issued := true } }
      if f.kind != .reread then s1.wr64 (R.SQ_CUR_LO q) (R.SQ_CUR_HI q) f.addr else s1
    else s
  | none => s

/-! ### Jobs -/

/-- The job with a serial number. -/
def State.job? (s : State) (id : Nat) : Option Job := s.jqm.jobs.find? (fun j => j.id == id)

/-- Replace a job. -/
def State.putJob (s : State) (j : Job) : State := s.setJobs (s.jqm.jobs.map (fun k => if k.id == j.id then j else k))

/-- Remove a job. -/
def State.dropJob (s : State) (id : Nat) : State := s.setJobs (s.jqm.jobs.filter (fun k => k.id != id))

/-- Q_ERR causes [2:0] (R73). -/
def State.qErrStops (s : State) (q : Nat) : Bool := bits (s.rd (R.Q_ERR q)).toNat 0 3 != 0

/-- Complete the descriptor in hand QUEUE_FLUSHED with DETAIL 0 (R79, R81 step 1). -/
def State.flushHand (s : State) (q : Nat) : State := s.completeHand q (failed engJqm stFlushed 0)

/-- Stop fetching: the wanted read is dropped. -/
def State.stopFetch (s : State) (q : Nat) : State :=
  (s.qput q { s.qst q with fetch := none, parked := false }).clr (F.Q_STAT_FENCE_WAIT q)

/-- Return a queue block to its BLK reset values, its counters included (R65), and drop what JQM holds for it. -/
def State.resetQueue (s : State) (q : Nat) : State :=
  let s := s.resetRegs blkKinds (inInst .q q)
  s.qput q .idle

end Sys2Proof.Machine
end

