-- ==== Sys2Proof/Machine/Engines.lean ====
section
/-! DEFINITION. Jobs at their resources: where each runs (R83, R167), effective classes (R40, R41), availability and
dispatch order (R118, R168, R175, R430), starting, preempting, finishing and aborting a job (R119, R155, R221), and what
a flush or a Belfry reaction does to every dispatched job (R81, R477). -/

namespace Sys2Proof.Machine

/-! ### Control-store dispatch tables (R219, R228, R229) -/

/-- The patch RAM and tables of a quadrant. -/
def State.quad (s : State) (n : Nat) : Quadrant := sget (fun _ => Quadrant.null) s.ucs n

def State.putQuad (s : State) (n : Nat) (x : Quadrant) : State :=
  { s with ucs := sput (fun _ => Quadrant.null) s.ucs n x }

def dispOpcode (e : Nat) : Nat := bits e 0 16
def dispAlg (e : Nat) : Nat := bits e 16 16
def dispEntry (e : Nat) : Nat := bits e 32 14
def dispFlags (e : Nat) : Nat := bits e 48 8
def dispGran (e : Nat) : Nat := bits e 56 8

/-- The patch-RAM dispatch entry of a pair in a quadrant, the first that matches (R219). -/
def Quadrant.lookup (x : Quadrant) (op alg : Nat) : Option Nat :=
  (x.disp.find? (fun e => e.2 != 0 && dispOpcode e.2 == op && dispAlg e.2 == alg)).map (·.2)

/-- The quadrants in which a patched ALG of 0x0E00 to 0x0EFF may be declared, with the resource they serve (R206,
R229). -/
def State.patchedRes (s : State) (op alg : Nat) : Option (Res × Nat) :=
  if ((s.quad 0).lookup op alg).isSome then some (.lt, 0)
  else if ((s.quad 2).lookup op alg).isSome then some (.cbe, 2)
  else if ((s.quad 3).lookup op alg).isSome then some (.cle, 3)
  else none

/-- The quadrant of an AEA engine (R206). -/
def quadOf (e : Nat) : Nat := if e < 0x10 then 0 else if e < 0x20 then 1 else if e < 0x28 then 2 else 3

/-- The ROM of an engine: quadrants 0 and 1 always hold the same (R206). -/
def romQuad (e : Nat) : Nat := if quadOf e = 1 then 0 else quadOf e

/-- The Spire index of an AEA engine (R206). -/
def spireIndex (e : Nat) : Nat := if e < 0x20 then e else if e < 0x28 then 32 + (e - 0x20) else 36 + (e - 0x28)

/-! ### Families and resources (R83, R167, R621) -/

def algHigh (alg : Nat) : Nat := alg / 256

def isMlKem (alg : Nat) : Bool := decide (0x101 ≤ alg ∧ alg ≤ 0x103)
def isMlDsa (alg : Nat) : Bool := decide (0x201 ≤ alg ∧ alg ≤ 0x203)
def isSlhDsa (alg : Nat) : Bool := decide (0x301 ≤ alg ∧ alg ≤ 0x30C)
def isStateful (alg : Nat) : Bool := decide (0x401 ≤ alg ∧ alg ≤ 0x404)
def isHqc (alg : Nat) : Bool := decide (0x501 ≤ alg ∧ alg ≤ 0x503)
def isMcEliece (alg : Nat) : Bool := decide (0x601 ≤ alg ∧ alg ≤ 0x605)
def isCompKem (alg : Nat) : Bool := alg == 0x801 || alg == 0x802
def isCompSig (alg : Nat) : Bool := alg == 0x811 || alg == 0x812

/-- The SLH-DSA parameter sets of the "s" family (R41, R176). -/
def isSlhS (alg : Nat) : Bool := [0x301, 0x302, 0x305, 0x306, 0x309, 0x30A].contains alg

/-- A key-encapsulation ALG of the engine chapters. -/
def isKem (alg : Nat) : Bool := isMlKem alg || isHqc alg || isMcEliece alg || isCompKem alg

/-- A signature ALG of the engine chapters. -/
def isSig (alg : Nat) : Bool :=
  isMlDsa alg || isSlhDsa alg || isStateful alg || isCompSig alg ||
  [0x703, 0x704, 0x711, 0x712, 0x713, 0x731].contains alg

/-- A key-exchange ALG (R621). -/
def isExch (alg : Nat) : Bool := [0x701, 0x702, 0x721].contains alg

/-- A hash ALG that runs on SHA-2 cores (R173). -/
def isSha2 (alg : Nat) : Bool := decide (0x901 ≤ alg ∧ alg ≤ 0x906)

/-- A hash ALG (R173). -/
def isHashAlg (alg : Nat) : Bool := isSha2 alg || [0x911, 0x912, 0x913, 0x914, 0x921, 0x922].contains alg

/-- The resource that runs a job (R83, R167, R415, R278). -/
def State.resOf (s : State) (op alg : Nat) : Res :=
  if [opKeygen, opEncaps, opDecaps, opSign, opVerify, opExchange].contains op then
    let h := algHigh alg
    if h = 0x0E then ((s.patchedRes op alg).map (·.1)).getD .lt
    else if h ≤ 4 then .lt else if h ≤ 6 then .cbe else if h = 7 then .cle else .composite
  else if op = opHash then (if isSha2 alg then .sha2 else .keccak)
  else if op = opMac ∨ op = opMacCompare then (if alg = 0x0B01 then .aes else .dke)
  else if op = opEncrypt ∨ op = opDecrypt then (if alg = 0x0C01 then .chacha else .aes)
  else if op = opCtxInstall ∨ op = opCtxUpdate ∨ op = opCtxRetire ∨ op = opCtxSnapshot then .arbiter
  else .keep

/-- The effective class of a job (R40, R41, R228). -/
def State.effClass (s : State) (q : Nat) (d : List Byte) : Nat :=
  let bg := (isMcEliece (dAlg d) && dOpcode d == opKeygen) || (isSlhS (dAlg d) && dOpcode d == opSign) ||
    (match s.patchedRes (dOpcode d) (dAlg d) with
     | some (_, n) => bit (dispFlags (((s.quad n).lookup (dOpcode d) (dAlg d)).getD 0)) 1
     | none => false)
  let c := s.get (F.Q_PRIO_CLASS q)
  if bg then 3 else if dClass d = 0 then c else max (dClass d) c

/-- Whether a job needs randomness at its start (R124, R171, R228). -/
def State.needsRng (s : State) (d : List Byte) : Bool :=
  let op := dOpcode d
  [opKeygen, opEncaps, opDecaps, opSign, opExchange].contains op ||
  (match s.patchedRes op (dAlg d) with
   | some (_, n) => bit (dispFlags (((s.quad n).lookup op (dAlg d)).getD 0)) 0
   | none => false)

/-! ### RNG state codes (R446) -/

abbrev rngReset : Nat := 0
abbrev rngStartup : Nat := 1
abbrev rngSeeding : Nat := 2
abbrev rngRunning : Nat := 3
abbrev rngFailed : Nat := 4
abbrev rngStopped : Nat := 5

def State.rngState (s : State) : Nat := s.get F.RNG_STAT_STATE

/-! ### Engines -/

/-- The engines of a dispatch point (R102, R44: the lanes and cores reserved for class 0 are not among them). -/
def enginesOf : Res → List Nat
  | .lt => List.range 32
  | .cbe => (List.range 4).map (0x20 + ·)
  | .cle => (List.range 8).map (0x28 + ·)
  | .composite => List.range 32
  | .keccak => (List.range 64).map (0x80 + ·)
  | .sha2 => (List.range 60).map (0xC0 + ·)
  | .dke => (List.range 4).map (0x60 + ·)
  | .aes => (List.range 20).map (0x40 + ·)
  | .chacha => (List.range 8).map (0x58 + ·)
  | .keep => [engKeep]
  | .arbiter => [engArb]

/-- Whether an ENGINE code is an AEA engine, with the registers of R160. -/
def isAea (e : Nat) : Bool := decide (e < 0x24) || decide (0x28 ≤ e ∧ e < 0x30)

/-- Availability for dispatch (R118): an AEA engine with EN = 1 and FAULTED = 0. -/
def State.engAvail (s : State) (e : Nat) : Bool :=
  !isAea e || (s.on (F.AEA_CTL_EN e) && !s.on (F.AEA_STAT_FAULTED e))

/-- Dispatch points whose engines keep preempted jobs in contexts (R117, R168, R283). -/
def isCtxRes : Res → Bool
  | .lt | .cbe | .cle | .composite | .aes | .chacha => true
  | _ => false

/-- The job occupies a context of the engine, or runs on the core, channel or unit (a preempted job of a pool stands in
its save area and keeps only the number of the unit it ran on). -/
def Job.at (j : Job) (e : Nat) : Bool :=
  (j.engine == e || j.engine2 == e) && j.phase != .done && (isCtxRes j.res || j.phase == .running)

/-- The jobs in the contexts of an engine. -/
def State.jobsAt (s : State) (e : Nat) : List Job := s.jqm.jobs.filter (fun j => j.at e)

/-- The running job of an engine. -/
def State.running (s : State) (e : Nat) : Option Job := (s.jobsAt e).find? (fun j => j.phase == .running)

/-- Whether the context of class `c` is free (R117). -/
def State.ctxFree (s : State) (e c : Nat) : Bool := (s.jobsAt e).all (fun j => j.cls != c)

/-- The class of the running job, 0 when none runs (R163). -/
def State.runClass (s : State) (e : Nat) : Nat := ((s.running e).map (·.cls)).getD 0

/-- Case 2 of R118: the eligible engine whose running job has the largest class number, then the lowest number. -/
def State.pickBusy (s : State) (c : Nat) : List Nat → Option Nat
  | [] => none
  | e :: es =>
    let r := s.pickBusy c es
    if s.engAvail e && s.ctxFree e c && decide (c < s.runClass e) then
      match r with
      | some e' => if s.runClass e < s.runClass e' then some e' else some e
      | none => some e
    else r

/-- The engine that R118 gives a job of class `c`. -/
def State.pickEngine (s : State) (es : List Nat) (c : Nat) : Option Nat :=
  match es.find? (fun e => s.engAvail e && (s.jobsAt e).isEmpty) with
  | some e => some e
  | none => s.pickBusy c es

/-- A DKE channel that is FREE with no TAKE pending and runs no queue job (R430). -/
def State.dkeFree (s : State) (e : Nat) : Bool :=
  let c := s.dkeCh (e - 0x60)
  c.holder == 0 && c.takePend == 0 && (s.running e).isNone

/-- A free unit of a pooled resource: a core of the kind, a KEEP unit of the eight (R175, R407), a DKE channel. -/
def State.freeUnit (s : State) (p : Res) : Option Nat :=
  match p with
  | .keep => if (s.jqm.jobs.filter (fun j => j.res == .keep && j.phase == .running)).length < 8 then some engKeep else none
  | .dke => (enginesOf .dke).find? s.dkeFree
  | p => (enginesOf p).find? (fun e => (s.running e).isNone)

/-! ### Starting and preempting -/

/-- The entry address of a pair: the first matching patch-RAM entry, then ROM (R219). -/
def State.entryOf (s : State) (e op alg : Nat) : Nat :=
  match (s.quad (quadOf e)).lookup op alg with
  | some x => dispEntry x
  | none => Config.romEntry (romQuad e) op alg

/-- A job starts at its engine: its sequencer is cleared at its entry (R219); it is held when it needs randomness that
RNG has not yet released (R110). -/
def State.startJob (s : State) (j : Job) : State :=
  let hold := s.needsRng j.desc && s.rngState != rngRunning && s.rngState != rngFailed
  s.putJob { j with
    phase := .running
    wait := if hold then .rng else .none
    spire := Spire.entry (s.entryOf j.engine (dOpcode j.desc) (dAlg j.desc)) }

/-- A job gets its engine: one that has not started starts, a preempted one resumes where it was. -/
def State.giveEngine (s : State) (j : Job) : State :=
  if j.phase = .waiting then s.startJob j else s.putJob { j with phase := .running }

/-- The job of smallest class number in a list, the earliest of them. -/
def bestJob : List Job → Option Job
  | [] => none
  | j :: js => match bestJob js with
    | some k => if k.cls < j.cls then some k else some j
    | none => some j

/-- The next job of an engine whose contexts hold jobs (R119): the one of lowest class number. Number 256 stands for no
engine. -/
def State.schedule (s : State) (e : Nat) : State :=
  if e = 256 then s
  else match s.running e with
  | some _ => s
  | none => match bestJob ((s.jobsAt e).filter (fun j => (s.running j.engine).isNone && (s.running j.engine2).isNone)) with
    | some j => s.giveEngine j
    | none => s

/-- Grant a free unit of a pool to the waiting or saved job of lowest class number (R39, R115, R175, R407). -/
def State.grantPool (s : State) (p : Res) : State :=
  match s.freeUnit p with
  | none => s
  | some e => match bestJob (s.jqm.jobs.filter
      (fun j => j.res == p && (j.phase == .waiting || j.phase == .preempted))) with
    | some j => s.giveEngine { j with engine := e }
    | none => s

/-- A DKE channel whose queue job has left it: a pending TAKE is granted (R417, R420). -/
def State.dkeGrant (s : State) (e : Nat) : State :=
  let x := s.dkeCh (e - 0x60)
  if 0x60 ≤ e ∧ x.takePend ≠ 0 ∧ (s.running e).isNone then
    s.putDke (e - 0x60) { x with holder := x.takePend, takePend := 0, st := .owned }
  else s

/-- After a resource has been given up: its next job, if it has one. -/
def State.refill (s : State) (p : Res) (e e2 : Nat) : State :=
  match p with
  | .keccak | .sha2 | .keep => s.grantPool p
  | .dke => s.dkeGrant e
  | .arbiter => s
  | _ => if e2 = e then s.schedule e else (s.schedule e).schedule e2

/-- Hold the running job of an engine so that a waiting job of a higher class starts (R119, R221 order 3). -/
def State.preemptAt (s : State) (e : Nat) : State :=
  match s.running e with
  | none => s
  | some r => match bestJob ((s.jobsAt e).filter (fun j => j.phase != .running && decide (j.cls < r.cls))) with
    | none => s
    | some _ =>
      let s := s.putJob { r with phase := .preempted }
      let s := if isAea e then s.inc (R.AEA_PREEMPT e) else s
      s.schedule e

/-! ### Ending a job -/

/-- The counters of an AEA engine that a finished job advances (R160). -/
def State.countEnd (s : State) (e status : Nat) : State :=
  if !isAea e then s
  else if status ≤ 1 then s.inc (R.AEA_OPS e)
  else if status = stFault then s.inc (R.AEA_FAULT e)
  else s

/-- Whether a tree build of a stateful slot runs (R181). -/
def State.setBuilding (s : State) (i : Nat) (b : Bool) : State :=
  let x := s.slot i
  match x.leaf with
  | some l => s.putSlot i { x with leaf := some { l with building := b } }
  | none => s

/-- A job ends: its result stands for its record, unfilled target slots are released (R131, R155), its context is
cleared and its resource goes to the next job. -/
def State.finishJob (s : State) (j : Job) (r : JobResult) : State :=
  let s := s.putJob { j with phase := .done, wait := .none, abort := .none, result := some r, doneAt := s.time, spire := Spire.entry 0 }
  let s := if 0x10 ≤ r.status then s.releaseTargets j.targets else s
  let s := s.countEnd j.engine r.status
  let s := match j.kind with
    | .queue => s
    | .treeBuild i => (s.dropJob j.id).setBuilding i false
  s.refill j.res j.engine j.engine2

/-- ENGINE of a job that fails (R102): the resource that it ran on last; JQM while no resource has started it (R86,
R407). The Context Arbiter starts a job when it takes it. -/
def Job.ranOn (j : Job) : Nat := if j.phase = .waiting ∧ j.res ≠ .arbiter then engJqm else j.engine

/-- A job ends with a status other than OK: R108 says whether its output is zeroed. -/
def State.failJob (s : State) (j : Job) (e : Err) : State :=
  let s := if statusZeroes e then zeroOutput s j.owner j.desc else s
  s.finishJob j (failed j.ranOn e.1 e.2)

/-- A Belfry reaction completes a job TAMPER_ABORT; a slot that it wrote is erased (R156). -/
def State.tamperJob (s : State) (j : Job) (source : Nat) : State :=
  let s := if j.slotWritten then s.eraseSlots j.targets else s
  s.failJob j (stTamper, source)

/-- A flush withdraws a job that has not started (R81 step 2). -/
def State.withdrawJob (s : State) (j : Job) : State := s.finishJob j (failed engJqm stFlushed 1)

/-- Whether a job stands at a boundary without running: preempted, held for randomness (R221), or a KEEP job that waits
for the leaf journal (R412). -/
def Job.held (j : Job) : Bool :=
  j.phase == .preempted || (j.phase == .running && (j.wait == .rng || j.wait == .journal))

/-- What a flush does to one dispatched job (R81 steps 2 and 3). -/
def State.flushJob (s : State) (j : Job) : State :=
  if j.phase = .waiting then s.withdrawJob j
  else if j.phase = .done ∨ j.res = .keep ∨ j.res = .arbiter ∨ j.spire.committed then s
  else if j.held then s.failJob j (stFlushed, 2)
  else match j.abort with
    | .tamper _ => s
    | _ => s.putJob { j with abort := .flush }

/-- What a Belfry reaction of source `n` does to one dispatched job (R477). -/
def State.tamperOne (s : State) (n : Nat) (j : Job) : State :=
  if j.phase = .done ∨ j.res = .arbiter then s
  else if j.phase = .waiting ∨ j.held then s.tamperJob j n
  else s.putJob { j with abort := .tamper n }

/-- Apply an operation to each job of a list, as the job then stands. -/
def State.eachJob (s : State) (f : State → Job → State) : List Nat → State
  | [] => s
  | i :: is => (match s.job? i with
    | some j => f s j
    | none => s).eachJob f is

/-- The serial numbers of the jobs that a predicate picks. -/
def State.jobIds (s : State) (p : Job → Bool) : List Nat := (s.jqm.jobs.filter p).map (·.id)

/-- Every dispatched job of a queue is flushed. -/
def State.flushJobs (s : State) (q : Nat) : State :=
  s.eachJob State.flushJob (s.jobIds (fun j => j.kind == .queue && j.q == q))

/-- A Belfry reaction acts on every dispatched job. -/
def State.tamperJobs (s : State) (n : Nat) : State := s.eachJob (State.tamperOne · n) (s.jobIds (fun _ => true))

/-- A fault ends a job FAULT_ABORT with its KIND (R26, R54, R222). -/
def State.faultJob (s : State) (kind : Nat) (j : Job) : State :=
  if j.phase = .done then s else s.failJob j (stFault, kind)

/-- Every job that a predicate picks ends FAULT_ABORT with a KIND. -/
def State.faultJobs (s : State) (kind : Nat) (p : Job → Bool) : State :=
  s.eachJob (State.faultJob · kind) (s.jobIds p)

end Sys2Proof.Machine
end

