-- ==== Sys2Proof/Machine/Sizes.lean ====
section
/-! DEFINITION. Sizes of keys, ciphertexts, secrets and signatures (R125, R176, R189, R194, R198, R200), and the symmetric
ALGs with their key lengths and usages (R382, R383). -/

namespace Sys2Proof.Machine

/-- The value beside a key in a table of pairs, 0 where none is. -/
def lookupNat (t : List (Nat × Nat)) (k : Nat) : Nat := (t.lookup k).getD 0

/-- The security parameter n of an SLH-DSA set (R176). -/
def slhN (alg : Nat) : Nat := if alg ≤ 0x304 then 16 else if alg ≤ 0x308 then 24 else 32

/-- Coordinate length of a curve of ALG 0x0721: 1 P-256, 2 P-384, 3 P-521 (R194). -/
def curveLen (c : Nat) : Nat := if c = 1 then 32 else if c = 2 then 48 else if c = 3 then 66 else 0

/-- Public-key size by ALG; `p` is the curve of 0x0721 or the modulus length of RSA. -/
def pkLen (alg p : Nat) : Nat :=
  if isSlhDsa alg then 2 * slhN alg
  else if alg = 0x721 then 2 * curveLen p + 1
  else if alg = 0x731 then p / 8 + 4
  else lookupNat [(0x101, 800), (0x102, 1184), (0x103, 1568), (0x201, 1312), (0x202, 1952), (0x203, 2592),
    (0x501, 2249), (0x502, 4522), (0x503, 7245), (0x601, 261120), (0x602, 524160), (0x603, 1044992),
    (0x604, 1047319), (0x605, 1357824), (0x701, 32), (0x702, 56), (0x703, 32), (0x704, 57), (0x711, 65),
    (0x712, 97), (0x713, 133), (0x801, 1216), (0x802, 1665), (0x811, 2017), (0x812, 2689)] alg

/-- Private-key size by ALG; `p` as in `pkLen`. -/
def skLen (alg p : Nat) : Nat :=
  if isSlhDsa alg then 4 * slhN alg
  else if alg = 0x721 then curveLen p
  else if alg = 0x731 then 5 * (p / 16) + p / 8 + 4
  else lookupNat [(0x101, 1632), (0x102, 2400), (0x103, 3168), (0x201, 2560), (0x202, 4032), (0x203, 4896),
    (0x501, 2305), (0x502, 4586), (0x503, 7317), (0x601, 6492), (0x602, 13608), (0x603, 13932),
    (0x604, 13948), (0x605, 14120), (0x701, 32), (0x702, 56), (0x703, 32), (0x704, 57), (0x711, 32),
    (0x712, 48), (0x713, 66), (0x801, 2464), (0x802, 3313), (0x811, 4064), (0x812, 4944)] alg

/-- Ciphertext size of a KEM. -/
def ctLen (alg : Nat) : Nat :=
  lookupNat [(0x101, 768), (0x102, 1088), (0x103, 1568), (0x501, 4433), (0x502, 8978), (0x503, 14421), (0x601, 96),
    (0x602, 156), (0x603, 208), (0x604, 194), (0x605, 208), (0x801, 1120), (0x802, 1665)] alg

/-- Shared-secret size of a KEM; with COMBINE_RAW the two parts (R198). -/
def ssLen (alg : Nat) (raw : Bool) : Nat :=
  if isHqc alg then 64 else if raw then (if alg = 0x801 then 64 else 80) else 32

/-- The secret of an exchange (R194). -/
def exchLen (alg curve : Nat) : Nat := if alg = 0x701 then 32 else if alg = 0x702 then 56 else curveLen curve

/-- Signature size of a scheme of fixed size; `p` is the modulus length of RSA. -/
def sigLen (alg p : Nat) : Nat :=
  if alg = 0x731 then p / 8
  else lookupNat [(0x201, 2420), (0x202, 3309), (0x203, 4627), (0x301, 7856), (0x302, 7856), (0x303, 17088),
    (0x304, 17088), (0x305, 16224), (0x306, 16224), (0x307, 35664), (0x308, 35664), (0x309, 29792), (0x30A, 29792),
    (0x30B, 49856), (0x30C, 49856), (0x703, 64), (0x704, 114), (0x711, 64), (0x712, 96), (0x713, 132),
    (0x811, 3373), (0x812, 4723)] alg

/-- The modulus length of an RSA private key, and of an RSA public key, from its size. -/
def rsaOfSk (len : Nat) : Nat := (len - 4) * 16 / 7
def rsaOfPk (len : Nat) : Nat := (len - 4) * 8

/-- The modulus lengths of R194. -/
def rsaLenOk (n : Nat) : Bool := decide (2048 ≤ n ∧ n ≤ 4096 ∧ n % 64 = 0)

/-- Seed bytes that SEED_IN reads, equal to the bytes that KEYGEN draws otherwise (R123, R128, R170, R177, R190). -/
def seedLen (alg p : Nat) : Nat :=
  if isMlKem alg then 64 else if isMlDsa alg then 32 else if isSlhDsa alg then 3 * slhN alg
  else if isHqc alg then 64 else if isMcEliece alg then 32
  else if alg = 0x731 then p / 16
  else if alg = 0x801 then 96 else if alg = 0x802 then 112 else if alg = 0x811 then 64 else if alg = 0x812 then 80
  else skLen alg p

/-- Message bytes that M_IN reads (R138, R190): m, or the error vector of n/8 bytes of Classic McEliece. -/
def mLen (alg : Nat) : Nat :=
  lookupNat [(0x501, 16), (0x502, 24), (0x503, 32), (0x601, 436), (0x602, 576), (0x603, 836), (0x604, 870),
    (0x605, 1024)] alg + (if isMlKem alg then 32 else if isCompKem alg then (if alg = 0x801 then 64 else 80) else 0)

/-- Bytes that ENCAPS draws (R123, R170). -/
def encapsDraw (alg : Nat) : Nat :=
  if isMcEliece alg then 32 else if isHqc alg then mLen alg + 16 else mLen alg

/-- Digest lengths of R143 by PH_ALG; 0 for an ALG outside its list. -/
def phLen (alg : Nat) : Nat :=
  lookupNat [(0x902, 32), (0x903, 48), (0x904, 64), (0x912, 32), (0x913, 48), (0x914, 64), (0x921, 32), (0x922, 64)] alg

/-- An asymmetric ALG (R382). -/
def isAsym (alg : Nat) : Bool := isKem alg || isSig alg || isExch alg

/-- A symmetric ALG of R383. -/
def isSymAlg (alg : Nat) : Bool :=
  [0xA01, 0xA02, 0xA03, 0xA11, 0xA12, 0xB01, 0xB02, 0xB03, 0xB04, 0xB05, 0xC01, 0xD01, 0xD02, 0xD03, 0xD11, 0xD21,
   0xD22, 0xD23, 0xD31, 0xD32, 0xD33, 0xD41, 0xD42, 0xD43].contains alg

/-- Whether R383 admits a key length for a symmetric ALG. -/
def symLenOk (alg len : Nat) : Bool :=
  if alg = 0xB01 then [32, 36, 44].contains len
  else if alg = 0xC01 then [32, 36].contains len
  else if alg = 0xB05 then len == 64
  else if alg / 256 = 0xB then len == 32
  else if alg = 0xA12 ∨ alg = 0xD11 then decide (32 ≤ len ∧ len ≤ 256)
  else if 0xD21 ≤ alg then decide (1 ≤ len ∧ len ≤ 256)
  else decide (16 ≤ len ∧ len ≤ 256)

/-- The usage codes of R378. -/
abbrev usEncrypt : Nat := 0
abbrev usDecrypt : Nat := 1
abbrev usWrap : Nat := 2
abbrev usDerive : Nat := 3
abbrev usSign : Nat := 4
abbrev usVerify : Nat := 5
abbrev usDecaps : Nat := 6

/-- Whether R383 permits a usage of a symmetric ALG. -/
def symUsageOk (alg u : Nat) : Bool :=
  if alg / 256 = 0xA then u == usSign || u == usVerify || u == usDerive
  else if alg = 0xB01 then [usEncrypt, usDecrypt, usWrap, usSign, usVerify].contains u
  else if alg = 0xB03 ∨ alg = 0xB04 then u == usWrap
  else if alg / 256 = 0xB ∨ alg = 0xC01 then u == usEncrypt || u == usDecrypt
  else u == usDerive

/-- The usage that R382 permits of an asymmetric private key, and of a public key. -/
def privUsage (alg : Nat) : Nat := if isKem alg then usDecaps else if isExch alg then usDerive else usSign
def pubUsageOk (alg u : Nat) : Bool := (isKem alg && u == usEncrypt) || (isSig alg && u == usVerify)

/-- The PRF class of a MAC or KDF ALG (R383): HMAC-SHA-256, -384, -512, KMAC128, KMAC256; 0 for none. -/
def prfOf (alg : Nat) : Nat :=
  lookupNat [(0xA01, 1), (0xA02, 2), (0xA03, 3), (0xA11, 4), (0xA12, 5), (0xD01, 1), (0xD02, 2), (0xD03, 3), (0xD11, 5),
    (0xD21, 1), (0xD22, 2), (0xD23, 3), (0xD31, 1), (0xD32, 2), (0xD33, 3), (0xD41, 1), (0xD42, 2), (0xD43, 3)] alg

/-- An IKEv2 KDF. -/
def isIkeKdf (alg : Nat) : Bool := decide (0xD31 ≤ alg ∧ alg ≤ 0xD43)

/-- HKDF. -/
def isHkdf (alg : Nat) : Bool := decide (0xD21 ≤ alg ∧ alg ≤ 0xD23)

/-- A KDF ALG of R383. -/
def isKdf (alg : Nat) : Bool := isSymAlg alg && alg / 256 == 0xD

end Sys2Proof.Machine
end

