-- ==== Sys2Proof/Machine/Checks.lean ====
section
/-! DEFINITION. The checks of a descriptor before it is dispatched: stage 2 with the layout of the opcode, stage 3, the
keys of stages 4 and 5 with the reservation of target slots, and the output size of stage 6 (R95, R149, R202, R316, R384,
R398, R428). -/

namespace Sys2Proof.Machine

/-! ### Stage 3 -/

/-- The quadrant whose dispatch table serves an ALG of the engine chapters (R206, R229). -/
def kindQuad (alg : Nat) : Nat :=
  if algHigh alg ≤ 4 ∨ algHigh alg = 8 then 0 else if algHigh alg ≤ 6 then 2 else 3

/-- Whether the loaded bundle withdraws a pair (R228: ENTRY 0). -/
def State.withdrawn (s : State) (op alg : Nat) : Bool :=
  match (s.quad (kindQuad alg)).lookup op alg with
  | some e => dispEntry e == 0
  | none => false

/-- Whether the loaded bundle declares an ALG of 0x0E00 to 0x0EFF for the opcode. -/
def State.declares (s : State) (op alg : Nat) : Bool :=
  [0, 2, 3].any (fun n => match (s.quad n).lookup op alg with
    | some e => dispEntry e != 0
    | none => false)

/-- The engine opcodes that an ALG takes (R621 with R127 to R200). -/
def asymAlgOk (op alg : Nat) : Bool :=
  if op = opKeygen then isKem alg || isSig alg || isExch alg
  else if op = opEncaps ∨ op = opDecaps then isKem alg
  else if op = opSign ∨ op = opVerify then isSig alg
  else isExch alg

/-- WFORMAT of a WRAP or UNWRAP, and the ALGs that it takes (R621). -/
def wFormat (d : List Byte) : Nat := byteAt d 64
def wrapAlgOk (d : List Byte) : Bool :=
  if wFormat d = 0 then dAlg d == 0
  else if wFormat d = 1 then dAlg d == 0xB03 || dAlg d == 0xB04
  else if wFormat d = 2 then dAlg d == 0xB01
  else dAlg d == 0 || dAlg d == 0xB03 || dAlg d == 0xB04 || dAlg d == 0xB01

/-- Whether ALG is one of its opcode's values, patches apart (R621). -/
def algOk (d : List Byte) : Bool :=
  let op := dOpcode d
  let alg := dAlg d
  if [opKeygen, opEncaps, opDecaps, opSign, opVerify, opExchange].contains op then asymAlgOk op alg
  else if op = opHash then isHashAlg alg
  else if op = opMac ∨ op = opMacCompare then [0xA01, 0xA02, 0xA03, 0xA11, 0xA12, 0xB01].contains alg
  else if op = opEncrypt ∨ op = opDecrypt then [0xB01, 0xB02, 0xB05, 0xC01].contains alg
  else if op = opWrap ∨ op = opUnwrap then wrapAlgOk d
  else if op = opDerive then isKdf alg
  else if op = opKeepLoad then isSymAlg alg || isAsym alg
  else alg == 0

/-- Whether the ALG of an engine opcode exists only through patches (R206). -/
def isPatchAlg (d : List Byte) : Bool :=
  algHigh (dAlg d) == 0x0E && [opKeygen, opEncaps, opDecaps, opSign, opVerify, opExchange].contains (dOpcode d)

/-- The TYPES bytes of a stateful KEYGEN (R180). -/
def kgTypes (d : List Byte) : List Byte := slice d 80 32

/-- The levels of a stateful KEYGEN and the heights its types give. -/
def kgHeights (d : List Byte) : Option (List Nat) :=
  (Config.statefulSizes (dAlg d) (byteAt d 76) (kgTypes d)).map (·.2.2)

/-- Stage 3: OPCODE_UNSUPPORTED with DETAIL 0 to 2 (R83, R108, R202, R398, R621). -/
def State.stage3 (s : State) (d : List Byte) : Option Err :=
  let op := dOpcode d
  if !knownOpcode op then some (stUnsupported, 0)
  else if op = opAttest ∧ !s.on F.KEEP_STAT_DS_OK then some (stUnsupported, 0)
  else if isPatchAlg d then (if s.declares op (dAlg d) then none else some (stUnsupported, 2))
  else if !algOk d then some (stUnsupported, 1)
  else if op ≤ opExchange ∧ s.withdrawn op (dAlg d) then some (stUnsupported, 2)
  else if op = opKeygen ∧ isStateful (dAlg d) ∧ ((kgHeights d).getD []).any (fun h => decide (20 < h)) then
    some (stUnsupported, 1)
  else none

/-! ### Stage 2: the layout of the opcode

Each list holds the conditions that must not hold with the byte offset that DETAIL reports; the smallest offset of a
condition that holds is the first offending field. -/

abbrev Bad := Bool × Nat

/-- Whether bytes `[off, off + n)` are not all zero. -/
def nz (d : List Byte) (off n : Nat) : Bool := !allZero (slice d off n)

def noKey (d : List Byte) : Bad := (dKeyHandle d != none32, 44)
def needKey (d : List Byte) : Bad := (dKeyHandle d == none32, 44)
def noCtx (d : List Byte) : Bad := (dCtxId d != none32, 48)
def noAux (d : List Byte) : Bad := (dAuxHandle d != none32, 52)
def noAuxAddr (d : List Byte) : Bad := (dAuxAddr d != 0, 56)
def needAuxAddr (d : List Byte) : Bad := (dAuxAddr d == 0, 56)
def noInput (d : List Byte) : List Bad := [(dDeclLen d != 0, 12), (dInLen d != 0, 24)]

/-- A TARGET_SLOT field: an index below 16,384 or 0xFFFF_FFFF; 0 where there is no slot (R127). -/
def badTarget (d : List Byte) (off : Nat) (used : Bool) : Bad :=
  let v := leAt d off 4
  (if used then !(decide (v < 16384) || v == none32) else v != 0, off)

/-- KEYGEN (R127, R128, R180, R194). -/
def State.badKeygen (s : State) (d : List Byte) : List Bad :=
  let alg := dAlg d
  let fl := leAt d 64 2
  let dest := bit fl 0
  let seed := bit fl 1
  let sf := isStateful alg
  noInput d ++ [noKey d, noCtx d, noAux d, (seed != (dAuxAddr d != 0), 56),
    (bits fl 4 12 != 0 || (sf && (dest || bit fl 2 || bit fl 3 || (seed && !s.on F.AEA_LT_CFG_TEST_VEC_EN))), 64),
    badTarget d 68 (!dest), (dest && leAt d 72 4 != 0, 72)] ++
  (if sf then
    let lv := byteAt d 76
    [(!decide (4 ≤ leAt d 66 2 ∧ leAt d 66 2 ≤ 16), 66),
     (if alg = 0x402 then !decide (1 ≤ lv ∧ lv ≤ 8) else if alg = 0x404 then lv != 0 else lv != 1, 76),
     (decide (16 < byteAt d 77), 77), (nz d 78 2, 78), ((kgHeights d).isNone, 80),
     (if alg ≤ 0x402 then (nz d (80 + 4 * min lv 8) (32 - 4 * min lv 8), 80 + 4 * min lv 8) else (nz d 84 28, 84))]
  else [(nz d 66 2, 66)] ++
    (if alg = 0x721 then [(curveLen (byteAt d 76) == 0, 76), (nz d 77 35, 77)]
     else if alg = 0x731 then [(nz d 76 12, 76), (! [2048, 3072, 4096].contains (leAt d 88 2), 88), (nz d 90 22, 90)]
     else [(nz d 76 36, 76)]))

/-- SS_FLAGS, SS_ALG, SS_SLOT and SS_EPOCH of R134. -/
def badSS (d : List Byte) : List Bad :=
  let dest := bit (leAt d 64 2) 0
  let a := leAt d 66 2
  [(if dest then !(isSymAlg a && (a / 256 == 0xD || a / 256 == 0xA)) else a != 0, 66),
   badTarget d 68 dest, (!dest && leAt d 72 4 != 0, 72)]

/-- COMBINE_RAW asked for where R198 does not permit it. -/
def State.badRaw (s : State) (d : List Byte) : Bool :=
  let fl := leAt d 64 2
  bit fl 2 && !(isCompKem (dAlg d) && !bit fl 0 && s.on F.AEA_XCFG_COMB_RAW_EN)

/-- ENCAPS (R134, R135, R138, R190, R198). -/
def State.badEncaps (s : State) (d : List Byte) : List Bad :=
  let fl := leAt d 64 2
  let m := bit fl 1
  let keyed := dKeyHandle d != none32
  [(dDeclLen d != (if keyed then 0 else pkLen (dAlg d) 0), 12), (keyed && dInLen d != 0, 24), noCtx d, noAux d,
   (m != (dAuxAddr d != 0), 56), (bits fl 3 13 != 0 || (m && !s.on F.AEA_LT_CFG_TEST_VEC_EN) || s.badRaw d, 64),
   (nz d 76 36, 76)] ++ badSS d

/-- DECAPS (R134, R139, R198). -/
def State.badDecaps (s : State) (d : List Byte) : List Bad :=
  let fl := leAt d 64 2
  [(dDeclLen d != ctLen (dAlg d), 12), needKey d, noCtx d, noAux d, noAuxAddr d,
   (bits fl 3 13 != 0 || bit fl 1 || s.badRaw d, 64), (nz d 76 36, 76)] ++ badSS d

/-- MODE of R142. -/
def sgMode (d : List Byte) : Nat := bits (leAt d 64 2) 1 2

/-- PH_ALG, CTX_LEN, CTX_ADDR and PK_ADDR of R142. -/
def sgPh (d : List Byte) : Nat := leAt d 66 2
def sgCtxLen (d : List Byte) : Nat := byteAt d 68
def sgCtxAddr (d : List Byte) : Nat := leAt d 72 8
def sgPkAddr (d : List Byte) : Nat := leAt d 80 8

/-- ECDSA and RSA, whose engine hashes the message with PH_ALG (R196). -/
def phAlways (alg : Nat) : Bool := [0x711, 0x712, 0x713, 0x731].contains alg

/-- EdDSA. -/
def isEd (alg : Nat) : Bool := alg == 0x703 || alg == 0x704

/-- Whether the policy registers refuse DETERMINISTIC for an ALG (R145, R177, R196, R200). -/
def State.detRefused (s : State) (alg : Nat) : Bool :=
  if isEd alg then false
  else if phAlways alg then !s.on F.AEA_XCFG_DET_ECDSA_EN
  else if isCompSig alg then !(s.on F.AEA_LT_CFG_DET_SIGN_EN && s.on F.AEA_XCFG_DET_ECDSA_EN)
  else if isStateful alg then true
  else !s.on F.AEA_LT_CFG_DET_SIGN_EN

/-- The modes that an ALG takes: ML-DSA all three, SLH-DSA and the classical ALGs two, the others one (R142, R177, R187,
R196, R200). -/
def modesOf (alg : Nat) : Nat := if isMlDsa alg then 3 else if isStateful alg || isCompSig alg then 1 else 2

/-- Whether PH_ALG is outside what the mode and the ALG take (R143, R196). -/
def badPh (alg mode ph : Nat) : Bool :=
  if phAlways alg then phLen ph == 0
  else if mode = 1 then (if alg = 0x703 then ph != 0x904 else if alg = 0x704 then ph != 0x922 else phLen ph == 0)
  else ph != 0

/-- The fields that SIGN and VERIFY share (R142, R143, R187, R196, R200). -/
def State.badSig (s : State) (d : List Byte) (sign : Bool) : List Bad :=
  let alg := dAlg d
  let fl := leAt d 64 2
  let mode := sgMode d
  let rsa := alg == 0x731
  let ctxOk := !(mode == 2 || phAlways alg || isStateful alg)
  [(decide (mode < modesOf alg) && (mode == 1 && !badPh alg mode (sgPh d) && dDeclLen d != phLen (sgPh d) ||
     mode == 2 && dDeclLen d != 64), 12), noCtx d, noAux d,
   (bits fl 4 12 != 0 || decide (modesOf alg ≤ mode) || (!sign && (bit fl 0 || bit fl 3)) ||
     (sign && bit fl 0 && s.detRefused alg), 64),
   (badPh alg mode (sgPh d), 66), (!ctxOk && sgCtxLen d != 0, 68),
   (if rsa then !(byteAt d 69 == 0 || byteAt d 69 == 1 && s.on F.AEA_XCFG_RSA_PKCS1_EN) else nz d 69 3, 69),
   (rsa && byteAt d 71 != 0, 71), ((sgCtxLen d == 0) != (sgCtxAddr d == 0), 72)]

/-- SIGN (R142, R144). -/
def State.badSign (s : State) (d : List Byte) : List Bad :=
  s.badSig d true ++ [needKey d, noAuxAddr d, (sgPkAddr d != 0, 80), (nz d 88 24, 88)]

/-- VERIFY (R142, R148, R187, R196). -/
def State.badVerify (s : State) (d : List Byte) : List Bad :=
  let alg := dAlg d
  let mem := dKeyHandle d == none32
  s.badSig d false ++ [needAuxAddr d, (mem != (sgPkAddr d != 0), 80)] ++
  (if isStateful alg then [(leAt d 88 4 == 0, 88), (nz d 92 20, 92)]
   else if alg = 0x731 ∧ mem then [(!rsaLenOk (leAt d 88 2), 88), (nz d 90 22, 90)]
   else [(nz d 88 24, 88)])

/-- EXCHANGE (R195). -/
def badExchange (d : List Byte) : List Bad :=
  let fl := leAt d 64 2
  let curve := byteAt d 76
  [(dDeclLen d != pkLen (dAlg d) curve, 12), (bit fl 2 != (dKeyHandle d == none32), 44), noCtx d, noAux d, noAuxAddr d,
   (bit fl 1 || bits fl 3 13 != 0, 64), (if dAlg d = 0x721 then curveLen curve == 0 else curve != 0, 76),
   (nz d 77 35, 77)] ++ badSS d

/-- HASH (R174). -/
def badHash (d : List Byte) : List Bad :=
  let x := leAt d 64 4
  [noKey d, noCtx d, noAux d, noAuxAddr d,
   (if dAlg d = 0x921 ∨ dAlg d = 0x922 then !decide (1 ≤ x ∧ x ≤ 65536) else x != 0, 64), (nz d 68 44, 68)]

/-- The longest MAC of R428. -/
def macMax (alg : Nat) : Nat := if alg = 0xA11 ∨ alg = 0xA12 then 64 else hmacLen alg

/-- MAC and MAC_COMPARE on DKE and as GMAC (R282, R428, R429). -/
def State.badMac (s : State) (d : List Byte) (cmp : Bool) : List Bad :=
  let n := leAt d 64 2
  let min_ := s.get F.DKE_CFG_CMP_MIN
  [needKey d, noCtx d, noAux d, if cmp then needAuxAddr d else noAuxAddr d] ++
  (if dAlg d = 0xB01 then
    [(if cmp then !((n == 12 || n == 16) && decide (min_ ≤ n)) else ! [8, 12, 16].contains n, 64), (nz d 66 6, 66),
     (nz d 84 28, 84)]
  else
    let k := dAlg d == 0xA11 || dAlg d == 0xA12
    [(!decide ((if cmp then min_ else 1) ≤ n ∧ n ≤ macMax (dAlg d)), 64), (nz d 66 2, 66),
     (!k && byteAt d 68 != 0, 68), (nz d 69 3, 69), ((byteAt d 68 == 0) != (leAt d 72 8 == 0), 72), (nz d 80 32, 80)])

/-- ENCRYPT and DECRYPT (R279 to R281). -/
def badCrypt (d : List Byte) (enc : Bool) : List Bad :=
  let alg := dAlg d
  let fl := leAt d 64 2
  let aead := alg == 0xB01 || alg == 0xC01
  let sess := dKeyHandle d == none32
  let tag := byteAt d 66
  let aad := leAt d 68 4
  let unit := dDeclLen d
  [(if enc then decide (unit < aad) else decide (unit < aad + tag), 12),
   (alg == 0xB05 && !decide (16 ≤ unit ∧ unit ≤ 16777216), 12),
   (sess && dCtxId d == none32, 44), (!sess && dCtxId d != none32 || (sess && !aead), 48), noAux d, noAuxAddr d,
   (bits fl 2 14 != 0 || bit fl 0 != (enc && sess) || (bit fl 1 && !bit fl 0), 64),
   (if alg = 0xB01 then ! [8, 12, 16].contains tag else if alg = 0xC01 then tag != 16 else tag != 0, 66),
   (byteAt d 67 != 0, 67), (if aead then decide (65536 < aad) else aad != 0, 68),
   (if sess then (if enc then nz d 72 16 else nz d 80 8) else aead && nz d 84 4, 72), (nz d 88 24, 88)]

/-- Whether an ALG, a usage and a length fit R382 and R383 for a new slot that takes key bytes from outside. -/
def newSlotAlgOk (alg u : Nat) : Bool := (isSymAlg alg && symUsageOk alg u) || (isAsym alg && u == privUsage alg)

/-- WRAP (R393, R394). -/
def badWrap (d : List Byte) : List Bad :=
  let f := wFormat d
  [(dDeclLen d != (if f = 2 then leAt d 76 2 else 0), 12), ((dKeyHandle d == none32) != (f == 0), 44),
   (dAuxHandle d == none32, 52), (decide (2 < f), 64), (bits (byteAt d 66) 1 7 != 0, 66), (byteAt d 67 != 0, 67),
   (f == 2 && decide (1024 < leAt d 76 2), 76), (nz d 80 32, 80)]

/-- UNWRAP (R393, R394, R398). -/
def badUnwrap (d : List Byte) : List Bad :=
  let f := wFormat d
  let n := dDeclLen d
  [((f == 1 && !decide (16 ≤ n ∧ n % 8 = 0)) || (f == 2 && decide (n < leAt d 76 2 + 29)), 12),
   (f == 0 && decide (n < 81), 16), ((dKeyHandle d == none32) != (f == 0), 44), noAux d, (decide (2 < f), 64),
   (f != 0 && !newSlotAlgOk (leAt d 78 2) (byteAt d 65), 65), (bits (byteAt d 66) 1 7 != 0, 66),
   (byteAt d 67 != 0, 67), badTarget d 68 true, (f == 2 && decide (1024 < leAt d 76 2), 76), (nz d 80 32, 80)]

/-- A public-key size that KEEP_LOAD PUBLIC takes for an ALG. -/
def pubLenOk (alg len : Nat) : Bool :=
  if isStateful alg then Config.statefulPkLenOk alg len
  else if alg = 0x731 then rsaLenOk (rsaOfPk len) && len == pkLen alg (rsaOfPk len)
  else if alg = 0x721 then len == 65 || len == 97 || len == 133
  else len == pkLen alg 0

/-- A private-key size that KEEP_LOAD CLEAR takes for an asymmetric ALG. -/
def privLenOk (alg len : Nat) : Bool :=
  if alg = 0x731 then rsaLenOk (rsaOfSk len) && len == skLen alg (rsaOfSk len)
  else if alg = 0x721 then len == 32 || len == 48 || len == 66
  else len == skLen alg 0

/-- KEEP_LOAD (R386, R387, R398). -/
def badKeepLoad (d : List Byte) : List Bad :=
  let alg := dAlg d
  let src := byteAt d 64
  let u := byteAt d 65
  let len := leAt d 76 4
  let sym := isSymAlg alg
  let srcBad := decide (2 < src) || (src == 1 && !sym) || (src == 2 && sym) || (src == 0 && isStateful alg)
  let lenOk := if sym then symLenOk alg len else if src = 2 then pubLenOk alg len else privLenOk alg len
  [(!srcBad && (!lenOk || dDeclLen d != (if src = 1 then 0 else len)), 12), (src == 1 && dInLen d != 0, 24), noKey d,
   noAux d, (srcBad, 64),
   (if sym then !symUsageOk alg u else if src = 2 then !pubUsageOk alg u else u != privUsage alg, 65),
   (bits (byteAt d 66) 1 7 != 0, 66), (byteAt d 67 != 0, 67), badTarget d 68 true, (nz d 80 32, 80)]

/-- DERIVE (R389, R390). -/
def badDerive (d : List Byte) : List Bad :=
  let alg := dAlg d
  let fl := leAt d 64 2
  let k1 := bit fl 1
  let split := byteAt d 67
  [(decide (4096 < dDeclLen d), 12), (k1 != (dKeyHandle d == none32), 44), (k1 && dCtxId d == none32, 48),
   (dAuxHandle d != none32 && !(isHkdf alg || isIkeKdf alg), 52), needAuxAddr d,
   (bits fl 2 14 != 0 || (bit fl 0 && !isIkeKdf alg), 64), (!decide (1 ≤ byteAt d 66 ∧ byteAt d 66 ≤ 8), 66),
   (if isHkdf alg || alg == 0xD11 then decide (dDeclLen d < split) else split != 0, 67), (nz d 68 44, 68)]

/-- ATTEST (R402). -/
def badAttest (d : List Byte) : List Bad :=
  let m := byteAt d 64
  [(if m = 2 then dDeclLen d != 0 else decide (64 < dDeclLen d), 12), ((m == 0) != (dKeyHandle d != none32), 44),
   noAux d, (decide (2 < m), 64), (nz d 65 47, 65)]

/-- KEEP_ERASE (R404). -/
def badErase (d : List Byte) : List Bad :=
  let m := byteAt d 64
  [((m == 0) != (dKeyHandle d != none32), 44), noAux d, (decide (2 < m), 64), (nz d 65 3, 65), (nz d 72 40, 72)]

/-- CTX_INSTALL: the descriptor's own fields, of an install with a context image and of the flow-only form (R315, R316,
R319). -/
def badInstall (d : List Byte) : List Bad :=
  let fl := byteAt d 72
  let nf := byteAt d 73
  let t := leAt d 80 4
  let common := [(bits fl 4 4 != 0, 72), (decide (4 < nf), 73), (nz d 74 2, 74), (t != dCtxId d, 80), (nz d 84 28, 84)]
  if dCtxId d = none32 then
    [(dDeclLen d != 64 * nf, 12), noKey d, noAux d, (nz d 64 8, 64), (bit fl 0 || bits fl 2 2 != 0, 72), (nf == 0, 73),
     (leAt d 76 4 != none32, 76)] ++ common
  else
    [(dDeclLen d != 512 + 64 * nf, 12), (bit fl 0 != (dKeyHandle d == none32), 44), (leAt d 76 4 == t, 76),
     (!ctxIdInRange (leAt d 76 4), 76)] ++ common

/-- CTX_UPDATE (R313, R317). -/
def badUpdate (d : List Byte) : List Bad :=
  let fl := byteAt d 72
  let img := dAuxAddr d != 0
  [(dDeclLen d != (if img then 512 else 0), 12), (!img && dInLen d != 0, 24), noKey d, (dCtxId d == none32, 48),
   (bit fl 2 != (dAuxHandle d != none32), 52), (bits fl 3 5 != 0 || (bit fl 0 && bit fl 1), 72), (nz d 73 39, 73)]

/-- CTX_RETIRE and its flow-only form (R318, R319). -/
def badRetire (d : List Byte) : List Bad :=
  let flow := dCtxId d == none32
  (if flow then [(!decide (dDeclLen d % 64 = 0 ∧ 1 ≤ dDeclLen d / 64 ∧ dDeclLen d / 64 ≤ 4), 12)]
   else [(dGather d, 8), (dDeclLen d != 0, 12), (dInLen d != 0, 24)]) ++ [noKey d, noAux d, (nz d 72 40, 72)]

/-- CTX_SNAPSHOT (R320). -/
def badSnapshot (d : List Byte) : List Bad :=
  [(dGather d, 8), (dDeclLen d != 0, 12), (dInLen d != 0, 24), noKey d, (dCtxId d == none32, 48), noAux d, noAuxAddr d,
   (nz d 72 40, 72)]

/-- The layout conditions of the opcode. -/
def State.badFields (s : State) (d : List Byte) : List Bad :=
  let op := dOpcode d
  if isPatchAlg d then []
  else if op = opKeygen then s.badKeygen d
  else if op = opEncaps then s.badEncaps d
  else if op = opDecaps then s.badDecaps d
  else if op = opSign then s.badSign d
  else if op = opVerify then s.badVerify d
  else if op = opExchange then badExchange d
  else if op = opHash then badHash d
  else if op = opMac then s.badMac d false
  else if op = opMacCompare then s.badMac d true
  else if op = opEncrypt then badCrypt d true
  else if op = opDecrypt then badCrypt d false
  else if op = opWrap then badWrap d
  else if op = opUnwrap then badUnwrap d
  else if op = opDerive then badDerive d
  else if op = opAttest then badAttest d
  else if op = opCtxInstall then badInstall d
  else if op = opCtxUpdate then badUpdate d
  else if op = opCtxRetire then badRetire d
  else if op = opCtxSnapshot then badSnapshot d
  else if op = opKeepLoad then badKeepLoad d
  else if op = opKeepErase then badErase d
  else []

/-- The smallest offset of a condition that holds. -/
def firstBad : List Bad → Option Nat
  | [] => none
  | (b, o) :: l => match firstBad l with
    | some p => some (if b then min o p else p)
    | none => if b then some o else none

/-- Stages 2 and 3: the generic fields, with those of the opcode where stage 3 knows its layout; the first offending
field decides. -/
def State.stage23 (s : State) (d : List Byte) : Option Err :=
  let known := (s.stage3 d).isNone
  let own := if known then firstBad (s.badFields d) else none
  match stage2 d, own with
  | some (st, a), some b => some (st, min a b)
  | some e, none => some e
  | none, some b => some (malformed b)
  | none, none => s.stage3 d

/-! ### Stages 4 and 5: keys -/

/-- What a check of one named slot needs: the handle, its index in DETAIL (0 KEY_HANDLE, 1 AUX_HANDLE), the usages that
permit the operation (none: any), and whether the ALG fits. -/
structure KeyNeed where
  handle : Nat
  idx : Nat
  usages : Option (List Nat)
  algFits : Nat → Bool

/-- The named keys of a descriptor (R384). -/
def keyNeeds (d : List Byte) : List KeyNeed :=
  let op := dOpcode d
  let same := fun a => a == dAlg d
  let one := fun (u : Nat) => [⟨dKeyHandle d, 0, some [u], same⟩]
  let all :=
    if op = opEncaps then one usEncrypt
    else if op = opDecaps then one usDecaps
    else if op = opSign ∨ op = opMac then one usSign
    else if op = opVerify ∨ op = opMacCompare then one usVerify
    else if op = opExchange then one usDerive
    else if op = opEncrypt then one usEncrypt
    else if op = opDecrypt then one usDecrypt
    else if op = opWrap then one usWrap ++ [⟨dAuxHandle d, 1, none, fun _ => true⟩]
    else if op = opUnwrap then one usWrap
    else if op = opDerive then
      [⟨dKeyHandle d, 0, some [usDerive], fun a => prfOf a != 0 && prfOf a == prfOf (dAlg d)⟩,
       ⟨dAuxHandle d, 1, some [usDerive], fun a => prfOf a != 0 && prfOf a == prfOf (dAlg d)⟩]
    else if op = opAttest ∨ op = opKeepErase then [⟨dKeyHandle d, 0, none, fun _ => true⟩]
    else []
  all.filter (fun k => k.handle != none32)

/-- KEY_USAGE_DENIED with an index and a reason (R108). -/
def keyDenied (idx reason : Nat) : Err := (stKeyDenied, idx + reason * 256)

/-- Stage 4: the first named handle with no live slot of its generation. -/
def State.stage4 (s : State) (ks : List KeyNeed) : Option Err :=
  (ks.find? (fun k => (s.liveSlot k.handle).isNone)).map (fun k => (stSlotEmpty, k.idx))

/-- Stage 5 for one named slot: usage, ALG, OWNER_GROUP (R384). -/
def State.keyErr (s : State) (group : Nat) (k : KeyNeed) : Option Err :=
  match s.liveSlot k.handle with
  | none => some (stSlotEmpty, k.idx)
  | some x =>
    if (match k.usages with
      | some us => !us.contains x.usage
      | none => false) then some (keyDenied k.idx 1)
    else if !k.algFits x.alg then some (keyDenied k.idx 2)
    else if x.group != group then some (keyDenied k.idx 3)
    else none

/-- The first error over the named slots. -/
def State.keyErrs (s : State) (group : Nat) : List KeyNeed → Option Err
  | [] => none
  | k :: ks => match s.keyErr group k with
    | some e => some e
    | none => s.keyErrs group ks

/-! ### DERIVE's destinations (R391) -/

/-- One entry of a destination list. -/
structure Dest where
  dtype : Nat
  usage : Nat
  len : Nat
  target : Nat
  alg : Nat
  flags : Nat
  rsv : Nat
  epoch : Nat
  deriving DecidableEq, Repr

/-- The entries of a destination list. -/
def destEntries : Nat → List Byte → List Dest
  | 0, _ => []
  | n + 1, b => ⟨byteAt b 0, byteAt b 1, leAt b 2 2, leAt b 4 4, leAt b 8 2, byteAt b 10, byteAt b 11, leAt b 12 4⟩ ::
      destEntries n (b.drop 16)

/-- The destination list of a DERIVE; none where its read faults. -/
def State.destList (s : State) (owner : Nat) (d : List Byte) : Option (List Dest) :=
  (s.dmaRead owner (dAuxAddr d) (16 * byteAt d 66)).map (destEntries (byteAt d 66))

/-- Whether an entry breaks R391, the states of slots and contexts apart. -/
def badDest (e : Dest) : Bool :=
  decide (3 < e.dtype) || !decide (1 ≤ e.len ∧ e.len ≤ 256) || e.rsv != 0 || decide (2 ≤ e.flags) ||
  (match e.dtype with
   | 1 => !(isSymAlg e.alg && symUsageOk e.alg e.usage && symLenOk e.alg e.len) ||
      !(decide (e.target < 16384) || e.target == none32)
   | 2 => ! [32, 36, 44].contains e.len || !decide (e.target < 0x110000)
   | _ => e.target != 0)

/-- The sum of the destination lengths (R390). -/
def destSum (es : List Dest) : Nat := (es.map (·.len)).sum

/-- Whether a context may take a derived key (R391): EMPTY, or RESERVED with the requester's group. -/
def State.ctxTakes (s : State) (group c : Nat) : Bool :=
  let x := s.ctx c
  cState x == csEmpty || (cState x == csReserved && cOwner x == group)

/-- The IKEv2 prf gives as many bytes as its hash (R390). -/
def prfLenBad (d : List Byte) (es : List Dest) : Bool :=
  decide (0xD31 ≤ dAlg d ∧ dAlg d ≤ 0xD33) && destSum es != hmacLen (dAlg d)

/-- Whether a destination list breaks R390 or R391 as the slots and contexts stand. -/
def State.badDests (s : State) (group : Nat) (d : List Byte) (es : List Dest) : Bool :=
  es.any badDest || decide (1024 < destSum es) || prfLenBad d es ||
  es.any (fun e => e.dtype == 2 && !s.ctxTakes group e.target)

/-- Whether every key input of a DERIVE may be exported; a context key may not (R392). -/
def State.deriveExportable (s : State) (d : List Byte) : Bool :=
  !bit (leAt d 64 2) 1 && (s.slot (hSlot (dKeyHandle d))).exportable &&
  (dAuxHandle d == none32 || (s.slot (hSlot (dAuxHandle d))).exportable)

/-! ### Stage 5: conditions of the opcode -/

/-- Rights over a context (R314): the owner's group, or SVC through group 31. -/
def State.ctxRights (s : State) (group c : Nat) : Bool := group == 31 || cOwner (s.ctx c) == group

/-- A SESSION context that a job may take its key from (R281). -/
def State.sessionBad (s : State) (d : List Byte) : Bool :=
  let x := s.ctx (dCtxId d)
  cType x != ctSession || cState x != csActive || !s.cts.salted.contains (dCtxId d) ||
  (if dAlg d = 0xB01 then cCipher x != 1 else cCipher x != 2)

/-- The life-cycle codes of R490 in which a CLEAR load is free, and the mask of queue groups elsewhere (R388). -/
def State.clearLoadOk (s : State) (group : Nat) : Bool :=
  let l := s.get F.LCS_STATE_STATE
  l == 1 || l == 2 || ((l == 3 || l == 4) && bit (s.rd R.KEEP_CLR_MASK).toNat group)

/-- The conditions of stage 5 beyond the slots' own. -/
def State.stage5 (s : State) (group : Nat) (d : List Byte) (es : List Dest) : Option Err :=
  let op := dOpcode d
  if (op = opEncrypt ∨ op = opDecrypt) ∧ dKeyHandle d = none32 then
    firstErr [(!s.ctxRights group (dCtxId d), keyDenied 0 3), (s.sessionBad d, malformed 48)]
  else if op = opWrap then
    let x := s.slot (hSlot (dAuxHandle d))
    firstErr [(wFormat d != 0 && !x.exportable, keyDenied 1 4),
      (wFormat d != 0 && !s.on F.KEEP_CFG_WRAP_MEM_EN, keyDenied 0 5), (wFormat d == 0 && x.lobj, malformed 52),
      (wFormat d == 0 && !(s.on F.KEEP_STAT_BBK_VALID && s.on F.KEEP_STAT_DS_OK), malformed 64)]
  else if op = opUnwrap then
    firstErr [(wFormat d == 0 && !(s.on F.KEEP_STAT_BBK_VALID && s.on F.KEEP_STAT_DS_OK), malformed 64)]
  else if op = opDerive then
    firstErr [(bit (leAt d 64 2) 1 && cType (s.ctx (dCtxId d)) != ctSession, malformed 48),
      (bit (leAt d 64 2) 1 && !s.ctxRights group (dCtxId d), keyDenied 0 3),
      (es.any (·.dtype == 3) && !s.deriveExportable d, keyDenied 0 4),
      (es.any (fun e => e.dtype == 3 && e.flags % 2 == 0), keyDenied 0 4),
      (es.any (·.dtype == 3) && !s.on F.KEEP_CFG_WRAP_MEM_EN, keyDenied 0 5)]
  else if op = opKeepLoad then
    firstErr [(byteAt d 64 == 0 && !s.clearLoadOk group, keyDenied 0 5),
      (byteAt d 64 == 0 && isAsym (dAlg d) && !s.on F.KEEP_CFG_CLR_ASYM_EN, keyDenied 0 5)]
  else if op = opCtxUpdate ∧ dAuxHandle d ≠ none32 then
    firstErr [(!s.ctxRights group (dCtxId d), keyDenied 0 3), (cType (s.ctx (dCtxId d)) != ctGroup, malformed 72),
      ((s.slot (hSlot (dAuxHandle d))).keyLen != 32, malformed 52)]
  else if (op = opCtxUpdate ∨ op = opCtxSnapshot ∨ (op = opCtxRetire ∧ dCtxId d ≠ none32)) then
    firstErr [(!s.ctxRights group (dCtxId d), keyDenied 0 3)]
  else if op = opCtxInstall ∧ dCtxId d ≠ none32 then
    firstErr [(cState (s.ctx (dCtxId d)) == csReserved && cOwner (s.ctx (dCtxId d)) != group, keyDenied 0 3)]
  else none

/-- The named slots of the context opcodes. Those of CTX_INSTALL have a usage and ALG that depend on the image, which the
job checks when it has read it (R315): here only that they are live and of the requester's group. The next key of
CTX_UPDATE must fit the MAC_ALG of its context (R317, R384). -/
def State.ctxKeyNeeds (s : State) (d : List Byte) : List KeyNeed :=
  (if dOpcode d = opCtxInstall then
    ([⟨dKeyHandle d, 0, none, fun _ => true⟩, ⟨dAuxHandle d, 1, none, fun _ => true⟩] : List KeyNeed)
  else if dOpcode d = opCtxUpdate then
    [⟨dAuxHandle d, 1, some [usSign, usVerify],
      fun a => a == (if byteAt (s.ctx (dCtxId d)) 136 = 3 then 0xB01 else 0xA01)⟩]
  else []).filter (fun k => k.handle != none32)

/-! ### Target slots and output sizes -/

/-- The curve or modulus parameter of a KEYGEN. -/
def kgParam (d : List Byte) : Nat := if dAlg d = 0x721 then byteAt d 76 else if dAlg d = 0x731 then leAt d 88 2 else 0

/-- The key bytes of the slot that a stateful KEYGEN fills: seeds only (R395). -/
def statefulSeed (alg : Nat) (types : List Byte) : Nat := Config.statefulSeedLen alg types

/-- The slots that a descriptor reserves at stage 5 (R131): TARGET value, key length, large object. -/
def State.wantSlots (_s : State) (d : List Byte) (es : List Dest) : List (Nat × Nat × Bool) :=
  let op := dOpcode d
  let alg := dAlg d
  if isPatchAlg d then []
  else if op = opKeygen then
    if bit (leAt d 64 2) 0 then []
    else [(leAt d 68 4, if isStateful alg then statefulSeed alg (kgTypes d) else skLen alg (kgParam d), false)]
  else if op = opEncaps ∨ op = opDecaps then
    if bit (leAt d 64 2) 0 then [(leAt d 68 4, ssLen alg false, false)] else []
  else if op = opExchange then
    if bit (leAt d 64 2) 0 then [(leAt d 68 4, exchLen alg (byteAt d 76), false)] else []
  else if op = opUnwrap then
    [(leAt d 68 4, if wFormat d = 0 then dDeclLen d - 80 else if wFormat d = 1 then dDeclLen d - 8
      else dDeclLen d - leAt d 76 2 - 28, false)]
  else if op = opKeepLoad then [(leAt d 68 4, leAt d 76 4, decide (16384 < leAt d 76 4))]
  else if op = opDerive then (es.filter (·.dtype == 1)).map (fun e => (e.target, e.len, false))
  else []

/-- Reserve the target slots in order (R131, R398). Where one cannot be had, those taken before it return to EMPTY
(R379). -/
def State.reserveAll (s : State) : List (Nat × Nat × Bool) → Except State (List Nat × State)
  | [] => .ok ([], s)
  | (t, n, lobj) :: ws => match s.findTarget t n lobj with
    | none => .error s
    | some i => match (s.reserveSlot i n lobj).reserveAll ws with
      | .ok (is, s) => .ok (i :: is, s)
      | .error s => .error (s.releaseTargets [i])

/-- The signature size of a SIGN (stage 6): fixed, or by the key's modulus or types (R187, R194). -/
def State.signOut (s : State) (d : List Byte) : Nat :=
  let x := s.slot (hSlot (dKeyHandle d))
  if isStateful (dAlg d) then
    ((x.leaf.bind (fun l => Config.statefulSizes (dAlg d) l.levels l.types)).map (·.2.1)).getD 0
  else sigLen (dAlg d) (rsaOfSk x.keyLen)

/-- The size of a stateful public key by its types. -/
def statefulPk (d : List Byte) : Nat :=
  ((Config.statefulSizes (dAlg d) (byteAt d 76) (kgTypes d)).map (·.1)).getD 0

/-- The output size known before the run (stage 6). -/
def State.outSize (s : State) (d : List Byte) (es : List Dest) : Nat :=
  let op := dOpcode d
  let alg := dAlg d
  let fl := leAt d 64 2
  if isPatchAlg d then 0
  else if op = opKeygen then
    if isStateful alg then statefulPk d
    else pkLen alg (kgParam d) + (if bit fl 0 then skLen alg (kgParam d) else 0)
  else if op = opEncaps then ctLen alg + (if bit fl 0 then 0 else ssLen alg (bit fl 2))
  else if op = opDecaps then (if bit fl 0 then 0 else ssLen alg (bit fl 2))
  else if op = opSign then s.signOut d
  else if op = opExchange then
    (if bit fl 2 then pkLen alg (byteAt d 76) else 0) + (if bit fl 0 then 0 else exchLen alg (byteAt d 76))
  else if op = opHash then (if alg = 0x921 ∨ alg = 0x922 then leAt d 64 4 else hashLen alg)
  else if op = opMac then fl
  else if op = opEncrypt then (if bit fl 1 then 8 else 0) + dDeclLen d - leAt d 68 4 + byteAt d 66
  else if op = opDecrypt then dDeclLen d - leAt d 68 4 - byteAt d 66
  else if op = opWrap then
    let n := (s.slot (hSlot (dAuxHandle d))).keyLen
    if wFormat d = 0 then 80 + n else if wFormat d = 1 then (n + 7) / 8 * 8 + 8 else 28 + n
  else if op = opDerive then ((es.filter (·.dtype == 3)).map (·.len)).sum
  else if op = opAttest then (if byteAt d 64 = 2 then 2689 else 4979)
  else if op = opCtxSnapshot then 512
  else 0

/-- Whether the output does not fit OUT_CAP (stage 6). A job without output writes nothing, whatever OUT_CAP is; the
capacity of a scatter list is known when the job starts (R86). -/
def tooSmall (d : List Byte) (n : Nat) : Bool := !dScatter d && decide (dOutCap d < n)

/-- OUT_CAP_SMALL with the size required (R108). -/
def capSmall (n : Nat) : JobResult := { failed engJqm stCapSmall 0 with outLen := n }

/-- Where a target slot or a journal cell cannot be had (R131, R398). -/
def noTargetErr : Err := malformed 68

/-- Whether a stateful KEYGEN finds no journal cell free (R399). -/
def State.noCell (s : State) (d : List Byte) : Bool :=
  dOpcode d == opKeygen && isStateful (dAlg d) && s.freeCells.isEmpty

/-- Stages 4 to 6 with DERIVE's list read before them (R389): the target slots reserved and the state that holds them,
or the result with which the descriptor completes without dispatch, its reservations released (R379). -/
def State.stage456 (s : State) (q : Nat) (d : List Byte) : Except (JobResult × State) (List Nat × State) :=
  let owner := s.qOwner q
  let group := groupOf q
  let bad := fun (e : Err) => ((failed engJqm e.1 e.2, s) : JobResult × State)
  match (if dOpcode d = opDerive then s.destList owner d else some []) with
  | none => .error (bad (stAddrFault, 2))
  | some es =>
    let ks := keyNeeds d ++ s.ctxKeyNeeds d
    match s.stage4 ks with
    | some e => .error (bad e)
    | none => match s.keyErrs group ks with
      | some e => .error (bad e)
      | none => match s.stage5 group d es with
        | some e => .error (bad e)
        | none =>
          if dOpcode d = opDerive ∧ s.badDests group d es then .error (bad (malformed 56))
          else if s.noCell d then .error (bad noTargetErr)
          else match s.reserveAll (s.wantSlots d es) with
            | .error s' => .error (failed engJqm noTargetErr.1 noTargetErr.2, s')
            | .ok (is, s') =>
              let n := s.outSize d es
              if tooSmall d n then .error (capSmall n, s'.releaseTargets is) else .ok (is, s')

/-! ### A job's start: stages 6 (scatter capacity), 7 and 8 -/

/-- The seed bytes of a KEYGEN. -/
def kgSeedLen (d : List Byte) : Nat :=
  if isStateful (dAlg d) then statefulSeed (dAlg d) (kgTypes d) else seedLen (dAlg d) (kgParam d)

/-- MAC_LEN. -/
def macLen (d : List Byte) : Nat := leAt d 64 2

/-- The signature size of a VERIFY by the length of its public key. -/
def verifySigLen (d : List Byte) (n : Nat) : Nat :=
  if isStateful (dAlg d) then leAt d 88 4 else sigLen (dAlg d) (rsaOfPk n)

/-- The buffers of a VERIFY beside its context: the public key where it is in memory, and the signature (R148, R187). The
types of a stateful key in memory tell its length. -/
def State.verifyBufs (s : State) (owner : Nat) (d : List Byte) : List (Buf × Nat) :=
  let alg := dAlg d
  let pk := fun (n : Nat) => [((sgPkAddr d, n), 5), ((dAuxAddr d, verifySigLen d n), 2)]
  if dKeyHandle d ≠ none32 then [((dAuxAddr d, verifySigLen d (s.slot (hSlot (dKeyHandle d))).key.length), 2)]
  else if isStateful alg then
    match s.dmaRead owner (sgPkAddr d) 8 with
    | none => [((sgPkAddr d, 8), 5)]
    | some h => pk (Config.statefulPkLen alg h)
  else pk (pkLen alg (leAt d 88 2))

/-- The buffers that a job reads beside its input, each with the DETAIL of a fault on it (R108): AUX_ADDR 2; CTX_ADDR,
PK_ADDR and CUST_ADDR 5. -/
def State.moreBufs (s : State) (owner : Nat) (d : List Byte) : List (Buf × Nat) :=
  let op := dOpcode d
  if isPatchAlg d then []
  else if op = opKeygen then (if bit (leAt d 64 2) 1 then [((dAuxAddr d, kgSeedLen d), 2)] else [])
  else if op = opEncaps then (if bit (leAt d 64 2) 1 then [((dAuxAddr d, mLen (dAlg d)), 2)] else [])
  else if op = opSign then [((sgCtxAddr d, sgCtxLen d), 5)]
  else if op = opVerify then ((sgCtxAddr d, sgCtxLen d), 5) :: s.verifyBufs owner d
  else if op = opMac ∨ op = opMacCompare then
    (if dAlg d = 0xB01 then [] else [((leAt d 72 8, byteAt d 68), 5)]) ++
    (if op = opMac then [] else [((dAuxAddr d, macLen d), 2)])
  else if op = opCtxUpdate then (if dAuxAddr d = 0 then [] else [((dAuxAddr d, 64), 2)])
  else []

/-- The output size of a job (stage 6), with the destination list that JQM read. -/
def State.jobOut (s : State) (d : List Byte) : Nat :=
  s.outSize d (if dOpcode d = opDerive then destEntries (byteAt d 66) (d.drop 128) else [])

/-- Whether the scatter list, where it reads well, has less capacity than the output takes (R86). -/
def State.scatterSmall (s : State) (owner : Nat) (d : List Byte) : Bool :=
  dScatter d && match outBufs s owner d with
    | .ok bs => decide (bufsLen bs < s.jobOut d)
    | .error _ => false

/-- What a job's start needs (R86, R95): the scatter capacity, which fails like any check of stage 6, then stages 7 and 8,
then the rest of the job. -/
def State.withInput (s : State) (j : Job) (k : JobIn → State) : State :=
  if s.scatterSmall j.owner j.desc then s.finishJob j (capSmall (s.jobOut j.desc))
  else match stage78 s j.owner j.desc (s.moreBufs j.owner j.desc) with
  | .error e => s.failJob j e
  | .ok x => k x

end Sys2Proof.Machine
end

