-- ==== Sys2Proof/Machine/Queues.lean ====
section
/-! DEFINITION. The commands of the job queues (02): register writes of a queue block, descriptor fetches, dispatch,
fences, completion, and the resets that act on queues. -/

namespace Sys2Proof.Machine

/-! ### Q_CTL (R68) -/

/-- A write that sets EN from 0 to 1 (R78). -/
def State.queueEnable (s : State) (q : Nat) : State :=
  if s.sqStart q % 128 ≠ 0 ∨ s.cqBase q % 4096 ≠ 0 ∨ s.qErrStops q ∨ s.qActive q then
    s.qError q (F.Q_ERR_CFG_REJECT q)
  else
    let s := s.wr64 (R.SQ_CUR_LO q) (R.SQ_CUR_HI q) (s.sqStart q)
    let s := (s.wr (R.CQ_TAIL q) 0).wr (R.CQ_HEAD q) 0
    let s := (s.set (F.CQ_TAIL_TAIL_PHASE q)).set (F.Q_STAT_AWAIT_FIRST q)
    let s := ((s.clr (F.Q_STAT_CHAIN_IDLE q)).clr (F.Q_STAT_CQ_STALL q)).clr (F.Q_STAT_KICK_PEND q)
    let s := (s.clr (F.Q_STAT_ERR_STOP q)).qput q .idle
    s.set (F.Q_CTL_EN q)

/-- A write that clears EN (R79): fetching stops, and a descriptor in hand completes QUEUE_FLUSHED. -/
def State.queueDisable (s : State) (q : Nat) : State := ((s.clr (F.Q_CTL_EN q)).stopFetch q).flushHand q

/-- PAUSE is set, or cleared, when JQM goes on (R80). -/
def State.queuePause (s : State) (q : Nat) (p : Bool) : State :=
  if p then s.set (F.Q_CTL_PAUSE q)
  else if s.on (F.Q_CTL_PAUSE q) then ((s.clr (F.Q_CTL_PAUSE q)).resumeKick q).issueWanted q
  else s

/-- A write of 1 to FLUSH (R81, steps 1 to 3 as far as they act at once). -/
def State.queueFlush (s : State) (q : Nat) : State :=
  if s.on (F.Q_STAT_FLUSHING q) then s
  else
    let s := ((s.set (F.Q_CTL_FLUSH q)).set (F.Q_STAT_FLUSHING q)).stopFetch q
    (s.flushHand q).flushJobs q

/-- CNT_SNAP of one queue (R76). -/
def State.queueSnap (s : State) (q : Nat) : State := (s.cntLoad (R.Q_JOBS_DONE q)).cntLoad (R.Q_JOBS_ERR q)

/-- CNT_CLR of one queue (R76). -/
def State.queueCntClr (s : State) (q : Nat) : State := (s.cntClear (R.Q_JOBS_DONE q)).cntClear (R.Q_JOBS_ERR q)

/-- A write of Q_CTL: each field acts by its own rule (R68). -/
def State.qCtlWrite (s : State) (q : Nat) (v : Word) : State :=
  let n := v.toNat
  let s := (s.putB (F.Q_CTL_DCHK_EN q) (bit n 1)).putB (F.Q_CTL_CPL_2STEP q) (bit n 3)
  let s := if bit n 10 then s.queueCntClr q else s
  let s := if bit n 9 then s.queueSnap q else s
  let s := if bit n 0 then (if s.on (F.Q_CTL_EN q) then s else s.queueEnable q)
    else (if s.on (F.Q_CTL_EN q) then s.queueDisable q else s)
  let s := s.queuePause q (bit n 2)
  if bit n 8 then s.queueFlush q else s

/-- A write of Q_PRIO (R71). -/
def State.qPrioWrite (s : State) (q : Nat) (v : Word) : State :=
  let c := bits v.toNat 0 2
  let w := bits v.toNat 8 4
  if w = 0 ∨ (groupOf q ≠ 31 ∧ c = 0) then s.qError q (F.Q_ERR_PRIO_REJECT q)
  else
    let s := s.put (F.Q_PRIO_WEIGHT q) w
    if groupOf q = 31 then s else s.put (F.Q_PRIO_CLASS q) c

/-- The offset of a configuration register of a queue. -/
def qCfgOff (q : Nat) : QCfgReg → Nat
  | .sqStartLo => R.SQ_START_LO q
  | .sqStartHi => R.SQ_START_HI q
  | .cqBaseLo => R.CQ_BASE_LO q
  | .cqBaseHi => R.CQ_BASE_HI q
  | .cqSize => R.CQ_SIZE q

/-- The ring sizes of R67: powers of two from 16 to 65,536. -/
def cqSizeOk (n : Nat) : Bool := (List.range 13).any (fun k => n == 16 * 2 ^ k)

/-- A write of SQ_START, CQ_BASE or CQ_SIZE (R77). -/
def State.qCfgWrite (s : State) (q : Nat) (k : QCfgReg) (v : Word) : State :=
  if s.on (F.Q_CTL_EN q) || s.qActive q || (k == .cqSize && !cqSizeOk v.toNat) then s.qError q (F.Q_ERR_CFG_REJECT q)
  else s.wr (qCfgOff q k) v

/-- A write of CQ_HEAD (R101). Freed slots let held records follow (HELD_RECORD_TRANSFER). -/
def State.cqHeadWrite (s : State) (q : Nat) (v : Word) : State :=
  let n := s.cqSize q
  let i := v.toNat
  let head := s.get (F.CQ_HEAD_INDEX q)
  let tail := s.get (F.CQ_TAIL_INDEX q)
  if n ≤ i ∨ 65536 ≤ i ∨ (tail + n - head) % n < (i + n - head) % n then s.qError q (F.Q_ERR_HEAD_INVALID q)
  else s.put (F.CQ_HEAD_INDEX q) i

/-- A write of Q_STAT, Q_ERR or Q_EVT_EN: the generic write of R12, after which the group's sources follow (R75). -/
def State.qEventWrite (s : State) (q o : Nat) (v : Word) : State := (s.wrGeneric o v).syncQ q

/-- A write of GLB_QGRP[g] (R64): OWNER changes only on an idle group, and only to a code that R64 admits. -/
def State.qgrpWrite (s : State) (g : Nat) (v : Word) : State :=
  let n := bits v.toNat 0 6
  let s := if bit v.toNat 16 then s.clr (F.GLB_QGRP_REJECT g) else s
  let busy := (List.range 128).any (fun i => s.qActive (g * 128 + i))
  let codeOk := if g = 31 then n == 0x3F else decide (n ≤ 0x1F)
  if busy || !codeOk then s.set (F.GLB_QGRP_REJECT g) else s.put (F.GLB_QGRP_OWNER g) n

/-! ### Fetch (R88 to R96) -/

/-- The descriptor with the destination list that JQM reads for a DERIVE after it (R389). -/
def State.withList (s : State) (q : Nat) (d : List Byte) : List Byte :=
  if dOpcode d = opDerive then d.take 128 ++ (s.dmaRead (s.qOwner q) (dAuxAddr d) (16 * byteAt d 66)).getD [] else d

/-- What a refusal before dispatch leaves beside its record: KEEP counts a denied use, and a blob presented without a
battery-backed key sets BBK_LOST with event source 201 (R399, R408). -/
def State.noteRefusal (s : State) (d : List Byte) (r : JobResult) : State :=
  let s := if r.status = stKeyDenied then s.inc (R.KEEP_CNT 6) else s
  if dOpcode d = opUnwrap ∧ wFormat d = 0 ∧ r.status = stMalformed ∧ !s.on F.KEEP_STAT_BBK_VALID then
    (s.set F.KEEP_STAT_BBK_LOST).raise 201
  else s

/-- Stages 4 to 6 of the descriptor in hand (R95): checked, its target slots reserved; or completed without dispatch. -/
def State.enlist (s : State) (q : Nat) : State :=
  match (s.qst q).hand with
  | none => s
  | some h => match s.stage456 q h.desc with
    | .error (r, s') => (s'.noteRefusal h.desc r).completeHand q r
    | .ok (is, s') => s'.qput q { s'.qst q with
        hand := some { h with desc := s.withList q h.desc, checked := true, targets := is } }

/-- A descriptor arrives (R95): stages 1 to 3, then the fence, then stages 4 to 6. -/
def State.fetched (s : State) (q addr : Nat) (d : List Byte) : State :=
  let s := s.qput q { s.qst q with fetch := none, parked := false, hand := some ⟨addr, d, false, [], none⟩ }
  let s := s.clr (F.Q_STAT_AWAIT_FIRST q)
  match stage1 (s.on (F.Q_CTL_DCHK_EN q)) d with
  | some e => s.completeHand q (failed engJqm e.1 e.2)
  | none => match s.stage23 d with
    | some e => s.completeHand q (failed engJqm e.1 e.2)
    | none =>
      if dOpcode d = opFence ∨ (dFence d ∧ 0 < s.inflight q) then s.set (F.Q_STAT_FENCE_WAIT q) else s.enlist q

/-- The descriptor read of a queue completes; a fault sets SQ_FAULT on the first fetch and NEXT_BAD on a later one
(R89, R92). -/
def State.fetchArrive (s : State) (q : Nat) : State :=
  match (s.qst q).fetch with
  | some f =>
    if !f.issued || f.kind == .reread then s
    else match s.dmaRead (s.qOwner q) f.addr 128 with
      | some d => s.fetched q f.addr d
      | none => s.qError q (if f.kind = .first then F.Q_ERR_SQ_FAULT q else F.Q_ERR_NEXT_BAD q)
  | none => s

/-- A re-read completes (R91). -/
def State.rereadArrive (s : State) (q : Nat) : State :=
  match (s.qst q).fetch with
  | some f =>
    if !f.issued || f.kind != .reread then s
    else match s.dmaRead (s.qOwner q) (f.addr + 8) 4, s.dmaRead (s.qOwner q) (f.addr + 112) 8 with
      | some fl, some nx =>
        if bit (leNat fl) 0 then s.park q
        else ((s.qput q { s.qst q with fetch := none, parked := false }).clr (F.Q_STAT_CHAIN_IDLE q)).followNext q
          (leNat nx)
      | _, _ => s.qError q (F.Q_ERR_NEXT_BAD q)
  | none => s

/-! ### Dispatch (R111) -/

/-- The checked descriptor of a queue that waits at a dispatch point. -/
def State.waitingAt (s : State) (p : Res) (q : Nat) : Option Hand :=
  match (s.qst q).hand with
  | some h =>
    if h.checked && h.result.isNone && !s.on (F.Q_STAT_FENCE_WAIT q) && s.resOf (dOpcode h.desc) (dAlg h.desc) == p
      && (s.reserveHold q).isSome then some h else none
  | none => none

/-- The engines a job of class `c` gets at a point: one, or for a composite a tile and a classical engine; none where it
waits at JQM (R118, R168, R199). For a pool the job is dispatched and waits there for its unit (R175, R407). -/
def State.place (s : State) (p : Res) (c : Nat) : Option (Nat × Nat) :=
  match p with
  | .composite => match s.pickEngine (enginesOf .lt) c, s.pickEngine (enginesOf .cle) c with
    | some a, some b => some (a, b)
    | _, _ => none
  | .keccak | .sha2 => some (256, 256)
  | .keep => some (engKeep, engKeep)
  | .arbiter => some (engArb, engArb)
  | .dke => (s.freeUnit .dke).map (fun e => (e, e))
  | p => (s.pickEngine (enginesOf p) c).map (fun e => (e, e))

/-- The queues whose jobs wait at a point, with their effective classes. -/
def State.readyQueues (s : State) (p : Res) : List (Nat × Nat) :=
  s.jqm.queues.filterMap (fun e => (s.waitingAt p e.1).bind (fun h =>
    let c := s.effClass e.1 h.desc
    if (s.place p c).isSome then some (e.1, c) else none))

/-- The smallest class among ready queues. -/
def minClass : List (Nat × Nat) → Nat
  | [] => 4
  | e :: l => min e.2 (minClass l)

/-- The queue that weighted round robin serves next among the ready queues of one class (R111): the one served last
while it has grants of its WEIGHT left, else the next in cyclic order. -/
def State.nextQueue (s : State) (key : Nat) (qs : List Nat) : Option Nat :=
  let w := sget (fun _ => (0, 0)) s.jqm.wrr key
  if w.1 ≠ 0 ∧ qs.contains (w.1 - 1) ∧ w.2 < s.get (F.Q_PRIO_WEIGHT (w.1 - 1)) then some (w.1 - 1)
  else match qs.find? (fun q => decide (w.1 ≤ q)) with
    | some q => some q
    | none => qs.head?

/-- Note a grant to a queue. -/
def State.noteGrant (s : State) (key q : Nat) : State :=
  let w := sget (fun _ => (0, 0)) s.jqm.wrr key
  let n := if w.1 = q + 1 ∧ w.2 < s.get (F.Q_PRIO_WEIGHT q) then w.2 + 1 else 1
  { s with jqm := { s.jqm with wrr := sput (fun _ => (0, 0)) s.jqm.wrr key (q + 1, n) } }

/-- A number for each dispatch point. -/
def pointNo : Res → Nat
  | .lt => 0 | .cbe => 1 | .cle => 2 | .composite => 3 | .keccak => 4 | .sha2 => 5 | .dke => 6 | .aes => 7
  | .chacha => 8 | .keep => 9 | .arbiter => 10

/-- Start a dispatched job where its resource allows it: an idle engine starts it, a pool grants a free unit, and an
engine whose running job stands at a boundary held for randomness is preempted at once (R110, R118, R119). -/
def State.tryStart (s : State) (p : Res) (e : Nat) : State :=
  match p with
  | .keccak | .sha2 | .keep => s.grantPool p
  | .arbiter => s
  | _ => match s.running e with
    | none => s.schedule e
    | some r => if r.wait = .rng then s.preemptAt e else s

/-- Whether KEEP wants the next tree of a stateful key built: half of the leaves with a tree are used, or none has one
(R181, R397). -/
def Slot.wantsBuild (x : Slot) : Bool :=
  x.st == .live && match x.leaf with
    | some l => !l.building && decide (l.builtEnd < l.limit) && decide (l.builtEnd ≤ l.next + l.treeLeaves / 2) &&
        l.mode == .normal
    | none => false

/-- KEEP's internal class-3 build job for a slot, not yet at a tile (R181). -/
def buildJob (id slot : Nat) : Job :=
  { id := id, kind := .treeBuild slot, q := 4096, owner := 0, addr := 0, desc := [], cls := 3, res := .lt, engine := 256,
    engine2 := 256, phase := .waiting, wait := .none, abort := .none, hold := .own, spire := Spire.entry 0, targets := [],
    slotWritten := false, newHandle := 0, iters := 0, leaf := none, inp := none, key := [], rnd := [], discard := false,
    doneAt := 0, result := none }

/-- Put the internal builds that have no tile at the tiles that R118 gives class 3. -/
def State.placeBuilds (s : State) : State :=
  s.eachJob (fun s j => match s.pickEngine (enginesOf .lt) 3 with
    | some e => (s.putJob { j with engine := e, engine2 := e }).tryStart .lt e
    | none => s) (s.jobIds (fun j => j.kind != .queue && j.engine == 256))

/-- KEEP starts the builds that are wanted (R181). -/
def State.startBuilds (s : State) : State :=
  let s := (s.slotsWhere Slot.wantsBuild).foldl (fun s i =>
    ({ s with jqm := { s.jqm with jobs := s.jqm.jobs ++ [buildJob s.jqm.nextId i], nextId := s.jqm.nextId + 1 } } :
      State).setBuilding i true) s
  s.placeBuilds

/-- JQM dispatches the descriptor in hand of a queue: it takes a hold record and its engines, and the chain goes on
(R88, R89, R103). -/
def State.dispatch (s : State) (p : Res) (q c : Nat) (h : Hand) (hold : Hold) (es : Nat × Nat) : State :=
  let j : Job :=
    { id := s.jqm.nextId, kind := .queue, q := q, owner := s.qOwner q, addr := h.addr, desc := h.desc, cls := c, res := p,
      engine := es.1, engine2 := es.2, phase := .waiting, wait := .none, abort := .none, hold := hold,
      spire := Spire.entry 0, targets := h.targets, slotWritten := false, newHandle := 0, iters := 0, leaf := none,
      inp := none, key := [], rnd := [], discard := false, doneAt := 0, result := none }
  let s := { s with jqm := { s.jqm with jobs := s.jqm.jobs ++ [j], nextId := s.jqm.nextId + 1 } }
  let s := (s.qput q { s.qst q with hand := none }).noteGrant (pointNo p * 4 + c) q
  ((s.tryStart p es.1).tryStart p es.2).proceed q h.desc

/-- The best saved DKE job (R115, R430). -/
def State.savedDke (s : State) : Option Job :=
  bestJob (s.jqm.jobs.filter (fun j => j.res == .dke && j.phase == .preempted))

/-- Grant the queue that round robin picks in class `c`. -/
def State.dispatchReady (s : State) (p : Res) (rs : List (Nat × Nat)) (c : Nat) : State :=
  match s.nextQueue (pointNo p * 4 + c) ((rs.filter (fun e => e.2 == c)).map (·.1)) with
  | none => s
  | some q => match s.waitingAt p q, s.place p c, s.reserveHold q with
    | some h, some es, some hold => s.dispatch p q c h hold es
    | _, _, _ => s

/-- The bit of PWR_BLKRST of the block that serves a dispatch point. -/
def resBit : Res → Nat
  | .lt | .cbe | .cle | .composite => 0
  | .aes | .chacha => 1
  | .keccak | .sha2 => 2
  | .dke => 7
  | .keep => 6
  | .arbiter => 5

/-- A grant at a dispatch point (R39, R40, R111). Saved DKE jobs compete with the waiting ones for a free channel; with
no queue job ready, KEEP's internal builds take a tile. -/
def State.dispatchAt (s : State) (p : Res) : State :=
  if s.on F.FLT_STAT_QUIESCED || s.inReset 4 || s.inReset (resBit p) then s
  else
    let rs := s.readyQueues p
    let c := minClass rs
    if p = .lt ∧ rs.isEmpty then s.startBuilds
    else
    match (if p = .dke then s.savedDke else none), s.freeUnit .dke with
    | some j, some e =>
      if j.cls ≤ c then s.giveEngine { j with engine := e, engine2 := e } else s.dispatchReady p rs c
    | _, _ => s.dispatchReady p rs c
/-! ### Fences (R113) -/

/-- The descriptor in hand of a queue whose earlier jobs all have their records, with FENCE_WAIT set. -/
def State.fenceReady (s : State) (q : Nat) : Option Hand :=
  if s.on (F.Q_STAT_FENCE_WAIT q) && s.inflight q == 0 then (s.qst q).hand else none

/-! ### Completion (R99 to R107) -/

/-- What follows a record: waiting hands may take the freed hold record, and the queue may fetch again. -/
def State.afterRecord (s : State) (q : Nat) : State := (s.settleHands.issueWanted q).syncQ q

/-- The record of a finished job is written, held, or, after CQ_FAULT, discarded and counted (R99, R105, R107). -/
def State.jobRecord (s : State) (j : Job) (r : JobResult) : State :=
  let s := s.dropJob j.id
  let s := if j.discard then s.inc (R.Q_JOBS_ERR j.q)
    else s.deliverRecord j.q j.hold (mkRecord j.addr j.desc r j.doneAt)
  s.afterRecord j.q

/-- Report a failed check of a job (R54, R513): a failing address is open, an MPE failure is MPE's own report. -/
def State.reportCheck (s : State) (j : Job) (k : Nat) : State :=
  if k = 0x09 ∨ k = 0x0A then s.macFail (k - 9) (ctxAddr (dCtxId j.desc) % 2 ^ 37)
  else if k = 1 ∨ k = 2 then
    let (a, s) := s.freeNat
    s.report j.engine k 0 a
  else s.report j.engine k 0 j.addr

/-- What a failed check on the last transfer of a finished job makes of its result (R54): its KIND is reported; the data
is not used, so its output is zeroed, the slots that it filled are erased, and it completes FAULT_ABORT. A corrected ECC
error lets it be. -/
def State.checkedResult (s : State) (j : Job) (r : JobResult) : Check → State × JobResult
  | none => (s, r)
  | some k =>
    let s := s.reportCheck j k.toNat
    if k = 1 then (s, r)
    else
      let s := if r.status < 0x10 then s.eraseSlots j.targets else s
      (zeroOutput s j.owner j.desc, failed r.engine stFault k.toNat)

/-- The first held record of a queue moves into the ring (R105). -/
def State.heldTransfer (s : State) (q : Nat) : State :=
  match (s.qst q).held with
  | [] => s
  | (_, r) :: rest =>
    if !s.ringFree q then s
    else
      let s := (s.qput q { s.qst q with held := rest }).ringWrite q r
      let s := if rest.isEmpty then s.clr (F.Q_STAT_CQ_STALL q) else s
      s.afterRecord q

/-- Step 4 of a flush (R81). -/
def State.flushDone (s : State) (q : Nat) : State :=
  if !s.on (F.Q_STAT_FLUSHING q) || s.inflight q != 0 then s
  else
    let s := s.clr (F.Q_CTL_EN q)
    if (s.qst q).held.isEmpty then (s.clr (F.Q_CTL_FLUSH q)).clr (F.Q_STAT_FLUSHING q) else s

/-! ### Resets of queue groups (R65, R66) -/

/-- End a dispatched job with no record and no write to memory. -/
def State.loseJob (s : State) (j : Job) : State :=
  let s := if j.phase = .done then s else s.finishJob j (failed j.engine stFlushed 2)
  s.dropJob j.id

/-- The queues of the picked groups that hold a descriptor, records or jobs, or whose Q_CTL is not at reset. -/
def State.queuesIn (s : State) (g : Nat → Bool) : List Nat :=
  ((s.jqm.queues.map (·.1)) ++ ((s.jqm.jobs.filter (fun j => j.kind == .queue)).map (·.q)) ++
    s.regs.filterMap (fun e => match locate e.1 with
      | some (.q, n, 0) => some n
      | _ => none)).eraseDups.filter (fun q => g (groupOf q))

/-- The records that a reset of a queue discards: one for each descriptor in hand, job and held record. -/
def State.lostRecords (s : State) (q : Nat) : Nat :=
  (if (s.qst q).hand.isSome then 1 else 0) + s.inflight q + (s.qst q).held.length

/-- Flush every queue of the picked groups, discard their records and return their register blocks to BLK reset values;
with `keepErr` Q_JOBS_ERR then holds the records discarded (R65, R66). -/
def State.resetQueues (s : State) (g : Nat → Bool) (keepErr : Bool) : State :=
  let qs := s.queuesIn g
  let lost := qs.map (fun q => (q, s.lostRecords q))
  let s := qs.foldl (fun s q => match (s.qst q).hand with
    | some h => s.releaseTargets h.targets
    | none => s) s
  let s := s.eachJob State.loseJob (s.jobIds (fun j => j.kind == .queue && g (groupOf j.q)))
  let s := { s with jqm := { s.jqm with queues := s.jqm.queues.filter (fun e => !g (groupOf e.1)) } }
  let s := s.resetRegs blkKinds (fun o => match locate o with
    | some (.q, n, _) => g (groupOf n)
    | _ => false)
  let s := if keepErr then lost.foldl (fun s e => s.count (R.Q_JOBS_ERR e.1) e.2) s else s
  ((List.range 32).filter g).foldl (fun s n => s.syncGroup n) s.settleHands

/-! ### The commands -/

def execQgrpOwnerWrite (r : Req) (g : Fin 32) (v : Word) (s : State) : Out :=
  .next (s.gateW r (R.GLB_QGRP g) (·.qgrpWrite g v))

def execQueueEnable (r : Req) (q : Fin 4096) (v : Word) (s : State) : Out :=
  .next (s.gateW r (R.Q_CTL q) (·.qCtlWrite q (v ||| 1)))

def execQueueDisable (r : Req) (q : Fin 4096) (v : Word) (s : State) : Out :=
  .next (s.gateW r (R.Q_CTL q) (·.qCtlWrite q (v &&& ~~~1)))

def execQueuePause (r : Req) (q : Fin 4096) (v : Word) (s : State) : Out :=
  .next (s.gateW r (R.Q_CTL q) (·.qCtlWrite q (v ||| 4)))

def execPauseClear (r : Req) (q : Fin 4096) (v : Word) (s : State) : Out :=
  .next (s.gateW r (R.Q_CTL q) (·.qCtlWrite q (v &&& ~~~4)))

def execQueueFlush (r : Req) (q : Fin 4096) (v : Word) (s : State) : Out :=
  .next (s.gateW r (R.Q_CTL q) (·.qCtlWrite q (v ||| 0x100)))

def execFlushComplete (q : Fin 4096) (s : State) : Out := .next (s.flushDone q)

def execCntSnap (r : Req) (q : Fin 4096) (v : Word) (s : State) : Out :=
  .next (s.gateW r (R.Q_CTL q) (·.qCtlWrite q (v ||| 0x200)))

def execQCntClr (r : Req) (q : Fin 4096) (v : Word) (s : State) : Out :=
  .next (s.gateW r (R.Q_CTL q) (·.qCtlWrite q (v ||| 0x400)))

def execQueuePrioWrite (r : Req) (q : Fin 4096) (v : Word) (s : State) : Out :=
  .next (s.gateW r (R.Q_PRIO q) (·.qPrioWrite q v))

def execQueueCfgWrite (r : Req) (q : Fin 4096) (k : QCfgReg) (v : Word) (s : State) : Out :=
  .next (s.gateW r (qCfgOff q k) (·.qCfgWrite q k v))

def execSqKick (r : Req) (q : Fin 4096) (_v : Word) (s : State) : Out :=
  .next (s.gateW r (R.SQ_KICK q) (·.kick q))

def execDescFetchComplete (q : Fin 4096) (s : State) : Out := .next (s.fetchArrive q)

def execRereadComplete (q : Fin 4096) (s : State) : Out := .next (s.rereadArrive q)

def execJobDispatch (p : Res) (s : State) : Out := .next (s.dispatchAt p)

def execFenceRelease (q : Fin 4096) (s : State) : Out :=
  .next (match s.fenceReady q with
    | some h => if dOpcode h.desc = opFence then s else (s.clr (F.Q_STAT_FENCE_WAIT q)).enlist q
    | none => s)

def execFence (q : Fin 4096) (s : State) : Out :=
  .next (match s.fenceReady q with
    | some h => if dOpcode h.desc = opFence then s.completeHand q ⟨stOk, 0, 0, engJqm, false⟩ else s
    | none => s)

def execJobComplete (j : Nat) (chk : Check) (s : State) : Out :=
  .next (match s.job? j with
    | some k => match k.kind, k.result with
      | .queue, some r => (s.checkedResult k r chk).1.jobRecord k (s.checkedResult k r chk).2
      | _, _ => s
    | none => s)

def execCqHeadWrite (r : Req) (q : Fin 4096) (v : Word) (s : State) : Out :=
  .next (s.gateW r (R.CQ_HEAD q) (·.cqHeadWrite q v))

def execHeldRecordTransfer (q : Fin 4096) (s : State) : Out := .next (s.heldTransfer q)

def execRngWaitTimeout (j : Nat) (s : State) : Out :=
  .next (match s.job? j with
    | some k =>
      if k.wait = .rng ∧ k.phase ≠ .done then
        s.withInput k fun _ => (s.inc (R.RNG_CNT 6)).failJob k (stRngNotReady, 0)
      else s
    | none => s)

def execVfFlr (vf : Fin 31) (s : State) : Out :=
  .next (s.resetQueues (fun g => s.groupOwner g == vf.val + 1) false)

end Sys2Proof.Machine
end

