-- ==== Sys2Proof/Machine/Rng.lean ====
section
/-! DEFINITION. Random number delivery (11): sources and their tests, states, DRBG instances, and the draws of jobs. -/

namespace Sys2Proof.Machine

abbrev srcRng : Nat := 0x104

/-- A mask with bit `n` set or cleared. -/
def maskSet (m n : Nat) (b : Bool) : Nat := if b then m ||| 2 ^ n else m - (if bit m n then 2 ^ n else 0)

/-- The number of bits set among the lowest eight. -/
def popCount8 (m : Nat) : Nat := ((List.range 8).filter (bit m ·)).length

def State.rngLive (s : State) : Nat := popCount8 (s.get F.RNG_SRC_STAT_LIVE)

def State.drbg (s : State) (i : Nat) : Drbg := sget (fun _ => Drbg.none) s.rng.drbgs i

def State.putDrbg (s : State) (i : Nat) (x : Drbg) : State :=
  { s with rng := { s.rng with drbgs := sput (fun _ => Drbg.none) s.rng.drbgs i x } }

def State.rngBuf (s : State) (r : Nat) : List Byte := sget (fun _ => []) s.rng.bufs r

def State.putRngBuf (s : State) (r : Nat) (b : List Byte) : State :=
  { s with rng := { s.rng with bufs := sput (fun _ => []) s.rng.bufs r b } }

/-! ### Draws -/

/-- The instance that serves an engine's job randomness (R455): LT, CBE, CLE; KEEP otherwise. -/
def drbgOf (e : Nat) : Nat :=
  if e < 0x10 then 7 else if e < 0x20 then 8 else if e < 0x28 then 9 else if e < 0x30 then 10 else 11

/-- The instance that serves an engine's masks (R455). -/
def maskDrbgOf (e : Nat) : Nat := if e < 0x20 then 1 + e / 8 else if e < 0x30 then 5 else 6

/-- A draw of `n` bytes: free bytes, counted in GEN_BYTES, one generate request (R454). -/
def State.draw (s : State) (i n : Nat) : List Byte × State :=
  let (b, s) := s.freeBytes n
  let x := s.drbg i
  (b, (s.putDrbg i { x with requests := x.requests + 1 }).count (R.RNG_CNT 2) n)

/-- The masks of an operation (R28): a draw whose length the spec does not give. -/
def State.drawMasks (s : State) (e : Nat) : State :=
  let (n, s) := s.freeNat
  let x := s.drbg (maskDrbgOf e)
  (s.putDrbg (maskDrbgOf e) { x with requests := x.requests + 1 }).count (R.RNG_CNT 2) (n % 2 ^ 16)

/-- Release the jobs held for randomness. -/
def State.releaseRngWaits (s : State) : State :=
  s.setJobs (s.jqm.jobs.map (fun j => if j.wait = .rng then { j with wait := .none } else j))

/-! ### States -/

/-- Instantiate every instance and fill the readers' buffers (R447 step 6, R458, R459). -/
def State.instantiate (s : State) : State :=
  let s := { s with rng := { s.rng with drbgs := (List.range 16).map (fun i => (i, ⟨true, 0, s.time, false⟩)), bufs := [] } }
  let s := s.put F.RNG_DRBG_STAT_INST 0xFFFF
  [0, 1, 2].foldl (fun s r => let (b, s) := s.draw (13 + r) 64; s.putRngBuf r b) s

/-- Uninstantiate every instance and zero the reservoir and buffers. -/
def State.uninstantiate (s : State) : State :=
  ({ s with rng := { s.rng with reservoir := [], drbgs := [], bufs := [] } }).wr R.RNG_DRBG_STAT 0

/-- RNG enters FAILED (R452). -/
def State.rngFail (s : State) (cause : Nat) : State :=
  let s := s.uninstantiate
  let s := s.put F.RNG_STAT_STATE rngFailed
  let s := s.eachJob (fun s j => s.withInput j fun _ => s.failJob j (stRngFailed, 0)) (s.jobIds (fun j => j.wait == .rng && j.phase != .done))
  let s := (s.report srcRng 0x12 0 0).raise 194
  let s := (s.put F.RNG_STAT_FAIL_CAUSE cause).inc (R.RNG_CNT 7)
  if s.get F.RNG_STAT_RESTARTS = 3 then s.set F.RNG_STAT_FINAL else s

/-- RNG enters STARTUP: the sources are tested anew. -/
def State.rngBegin (s : State) : State :=
  (s.put F.RNG_STAT_STATE rngStartup).put F.RNG_SRC_STAT_LIVE 0

/-- Release of an RNG reset: STARTUP, or FAILED while FINAL is set (R446, R453, R458). -/
def State.rngRelease (s : State) : State :=
  let s := s.uninstantiate
  if s.on F.RNG_STAT_FINAL then s.put F.RNG_STAT_STATE rngFailed else s.rngBegin

/-- The first seed: every instance is instantiated, RUNNING is entered and held draws go on (R447, R110). -/
def State.rngRun (s : State) : State :=
  let s := (s.instantiate.put F.RNG_STAT_STATE rngRunning).raise 192
  s.releaseRngWaits

/-- The reaction ERASE_ALL zeroes and re-instantiates (R458). -/
def State.rngReinstantiate (s : State) : State :=
  if s.rngState = rngRunning then s.uninstantiate.instantiate else s.uninstantiate

/-- Vigil entry stops RNG (R458). -/
def State.rngStop (s : State) : State :=
  (s.uninstantiate.put F.RNG_STAT_STATE rngStopped).put F.RNG_SRC_STAT_LIVE 0

/-! ### Sources -/

/-- Set the isolation cause of a source. -/
def State.srcCause (s : State) (n c : Nat) : State :=
  s.wr R.RNG_SRC_CAUSE (fieldSet (4 * n) 4 (s.rd R.RNG_SRC_CAUSE) c)

/-- Isolate a source with a cause: it is live no more, and the isolation is counted. -/
def State.isolate (s : State) (n c : Nat) : State :=
  let s := s.put F.RNG_SRC_STAT_LIVE (maskSet (s.get F.RNG_SRC_STAT_LIVE) n false)
  let s := s.put F.RNG_SRC_STAT_ISOLATED (maskSet (s.get F.RNG_SRC_STAT_ISOLATED) n true)
  (s.srcCause n c).inc (R.RNG_CNT 4)

/-- Note the time of a continuous-test isolation; the third within 60 s makes it permanent (R450). -/
def State.noteIsolation (s : State) (n : Nat) : State :=
  let l := (sget (fun _ => []) s.rng.isoTimes n).filter (fun t => decide (s.time < t + 60000000000)) ++ [s.time]
  let s := { s with rng := { s.rng with isoTimes := sput (fun _ => []) s.rng.isoTimes n l } }
  if 3 ≤ l.length then s.put F.RNG_SRC_STAT_PERMANENT (maskSet (s.get F.RNG_SRC_STAT_PERMANENT) n true) else s

/-- The start-up tests of one source (R447 steps 2 and 3). -/
def State.startupSource (s : State) (rep prop silent : Nat) (n : Nat) : State :=
  if bit (s.get F.RNG_SRC_STAT_PERMANENT) n then s
  else
    let c := if bit rep n then 1 else if bit prop n then 2 else if bit silent n then 5 else 0
    if c = 0 then
      let s := s.put F.RNG_SRC_STAT_LIVE (maskSet (s.get F.RNG_SRC_STAT_LIVE) n true)
      let s := s.put F.RNG_SRC_STAT_ISOLATED (maskSet (s.get F.RNG_SRC_STAT_ISOLATED) n false)
      s.put F.RNG_SRC_STAT_STARTUP_FAIL (maskSet (s.get F.RNG_SRC_STAT_STARTUP_FAIL) n false)
    else
      ((s.isolate n c).put F.RNG_SRC_STAT_STARTUP_FAIL (maskSet (s.get F.RNG_SRC_STAT_STARTUP_FAIL) n true)).raise 193

/-- The end of the start-up tests (R447 step 4). -/
def State.startupEnd (s : State) (rep prop silent : Nat) (shakeOk drbgOk : Bool) : State :=
  let s := (List.range 8).foldl (fun s n => s.startupSource rep prop silent n) s
  if !shakeOk then s.rngFail 3
  else if !drbgOk then s.rngFail 4
  else if s.rngLive < s.get F.RNG_MIN_SRC_MIN then s.rngFail 1
  else s.put F.RNG_STAT_STATE rngSeeding

/-- A continuous test fails on a source (R450): isolation, blocks discarded (their number is open), and FAILED where too
few sources remain. The tests of a source in raw access isolate nothing (R460). -/
def State.healthFail (s : State) (n : Nat) (cause : NsuCause) : State :=
  if !bit (s.get F.RNG_SRC_STAT_LIVE) n then s
  else
    let s := s.isolate n (match cause with
      | .repetition => 3
      | .proportion => 4
      | .silence => 5)
    let (k, s) := s.freeNat
    let s := ((s.count (R.RNG_CNT 3) (k % 2 ^ 16)).noteIsolation n).raise 193
    if s.rngLive < s.get F.RNG_MIN_SRC_MIN then s.rngFail 2 else s

/-- The fresh start-up test of an isolated source (R450, R460). -/
def State.retest (s : State) (n : Nat) (pass : Bool) : State :=
  let last := ((sget (fun _ => []) s.rng.isoTimes n).getLast?).getD 0
  let raw := s.on F.RNG_RAWSEL_EN && s.get F.RNG_RAWSEL_SOURCE == n
  if !bit (s.get F.RNG_SRC_STAT_ISOLATED) n || bit (s.get F.RNG_SRC_STAT_PERMANENT) n || raw ||
      s.rngState != rngRunning || (last != 0 && decide (s.time < last + 10000000)) then s
  else
    let s := s.put F.RNG_SRC_STAT_STARTUP_FAIL (maskSet (s.get F.RNG_SRC_STAT_STARTUP_FAIL) n (!pass))
    if pass then
      let s := s.put F.RNG_SRC_STAT_LIVE (maskSet (s.get F.RNG_SRC_STAT_LIVE) n true)
      (s.put F.RNG_SRC_STAT_ISOLATED (maskSet (s.get F.RNG_SRC_STAT_ISOLATED) n false)).raise 193
    else s

/-! ### Reseeding (R456) -/

/-- Whether an instance is due for a reseed: its requests, 1 s, or the first reseed after instantiation. The requests of
the mask instances are not known, so they are due at any time. -/
def State.reseedDue (s : State) (d : Nat) : Bool :=
  let x := s.drbg d
  decide (2 ^ s.get F.RNG_RESEED_RESEED_LOG2 ≤ x.requests) || decide (x.reseeded + 1000000000 ≤ s.time) || !x.fresh ||
    decide (1 ≤ d ∧ d ≤ 6)

/-- An instance reseeds from the oldest seed; with an empty reservoir it waits once 2^20 requests have passed. -/
def State.reseedInst (s : State) (d : Nat) : State :=
  if s.rngState ≠ rngRunning ∨ !(s.drbg d).inst ∨ !s.reseedDue d then s
  else match s.rng.reservoir with
    | _ :: rest =>
      let s := { s with rng := { s.rng with reservoir := rest } }
      let s := s.putDrbg d ⟨true, 0, s.time, true⟩
      (s.put F.RNG_DRBG_STAT_WAITING (maskSet (s.get F.RNG_DRBG_STAT_WAITING) d false)).inc (R.RNG_CNT 1)
    | [] =>
      if 2 ^ 20 ≤ (s.drbg d).requests then
        s.put F.RNG_DRBG_STAT_WAITING (maskSet (s.get F.RNG_DRBG_STAT_WAITING) d true)
      else s

/-! ### Register effects -/

/-- The reader of RNG_DATA (R455, R459). -/
def rngReader : Req → Option Nat
  | .pf => some 0
  | .svc => some 1
  | .cupola => some 2
  | _ => none

/-- VALID as a reader sees it. -/
def State.rngValid (s : State) (r : Req) : Bool :=
  match rngReader r with
  | some i => decide (8 ≤ (s.rngBuf i).length) && s.rngState == rngRunning
  | none => false

/-- A read of RNG_DATA (R448, R459): 4 or 8 bytes of the reader's buffer, refilled below 8 bytes unless its instance
waits for a seed; zeros and EMPTY_READ while VALID = 0. -/
def State.rngRead (s : State) (r : Req) (wide : Bool) : State :=
  match rngReader r with
  | none => { s with busOut := 0 }
  | some i =>
    let n := if wide then 8 else 4
    if s.rngValid r then
      let b := s.rngBuf i
      let s := { (s.putRngBuf i (b.drop n)) with busOut := BitVec.ofNat 64 (leNat (b.take n)) }
      if (s.rngBuf i).length < 8 && !bit (s.get F.RNG_DRBG_STAT_WAITING) (13 + i) then
        let (x, s) := s.draw (13 + i) (64 - (s.rngBuf i).length)
        s.putRngBuf i (s.rngBuf i ++ x)
      else s
    else { s with busOut := 0, rng := { s.rng with emptyRead := setIns i s.rng.emptyRead } }.inc (R.RNG_CNT 5)

/-- A read of RNG_RAW (R460): 32 raw samples, whose value is open, while a source is withdrawn; otherwise 0. -/
def State.rngRawRead (s : State) : State :=
  if s.on F.RNG_RAWSEL_EN then
    let (v, s) := s.freeNat
    { s with busOut := BitVec.ofNat 64 (v % 2 ^ 32) }
  else { s with busOut := 0 }

/-- A write of RNG_CTL (R453, R463). -/
def State.rngCtlWrite (s : State) (r : Req) (v : Word) : State :=
  let s := if bit v.toNat 8 then s.cntClearN (R.RNG_CNT 0) 8 else s
  let s := if bit v.toNat 31 then s.set F.RNG_CTL_LOCK else s
  if !bit v.toNat 0 then s
  else if s.rngState = rngFailed ∧ s.get F.RNG_STAT_RESTARTS < 3 ∧ (r = .cupola ∨ r = .pf) then
    let s := s.put F.RNG_STAT_RESTARTS (s.get F.RNG_STAT_RESTARTS + 1)
    let s := s.put F.RNG_STAT_FAIL_CAUSE 0
    let s := (s.put F.RNG_SRC_STAT_ISOLATED 0).put F.RNG_SRC_STAT_PERMANENT 0
    { s with rng := { s.rng with isoTimes := [] } }.rngBegin
  else
    let s := s.set F.RNG_STAT_RESTART_REJECT
    if s.rngState = rngFailed then s.raise 195 else s

/-- A write of RNG_STAT: W1C flags, EMPTY_READ for the writer alone (R459, R464). -/
def State.rngStatWrite (s : State) (r : Req) (v : Word) : State :=
  let s := s.wrGeneric R.RNG_STAT v
  match rngReader r with
  | some i => if bit v.toNat 4 then { s with rng := { s.rng with emptyRead := setDel i s.rng.emptyRead } } else s
  | none => s

/-- A write of RNG_MIN_SRC (R461, R463). -/
def State.rngMinWrite (s : State) (v : Word) : State :=
  let n := bits v.toNat 0 4
  if s.locked R.RNG_MIN_SRC || !decide (4 ≤ n ∧ n ≤ 8) then s
  else if s.rngLive < n then s.set F.RNG_STAT_CFG_REJECT
  else s.put F.RNG_MIN_SRC_MIN n

/-- Writes of RNG_WAIT_MAX and RNG_RESEED: values out of range leave them unchanged (R463). -/
def State.rngWaitWrite (s : State) (v : Word) : State :=
  let n := bits v.toNat 0 10
  if s.locked R.RNG_WAIT_MAX || !decide (1 ≤ n ∧ n ≤ 1000) then s else s.put F.RNG_WAIT_MAX_MS n

def State.rngReseedWrite (s : State) (v : Word) : State :=
  let n := bits v.toNat 0 5
  if s.locked R.RNG_RESEED || !decide (10 ≤ n ∧ n ≤ 20) then s else s.put F.RNG_RESEED_RESEED_LOG2 n

/-- Raw access ends: the source stays isolated until its start-up test passes (R460). -/
def State.rawEnd (s : State) : State := s.clr F.RNG_RAWSEL_EN

/-- A write of RNG_RAWSEL by Cupola firmware (R460). -/
def State.rawselWrite (s : State) (v : Word) : State :=
  let n := bits v.toNat 0 3
  let lcs := s.get F.LCS_STATE_STATE
  if s.locked R.RNG_RAWSEL then s
  else if !bit v.toNat 31 then s.rawEnd.put F.RNG_RAWSEL_SOURCE n
  else if lcs ≠ 1 ∧ lcs ≠ 4 then s.set F.RNG_STAT_CFG_REJECT
  else
    let live := s.get F.RNG_SRC_STAT_LIVE
    if popCount8 (maskSet live n false) < s.get F.RNG_MIN_SRC_MIN then s.set F.RNG_STAT_CFG_REJECT
    else
      let s := if s.on F.RNG_RAWSEL_EN && s.get F.RNG_RAWSEL_SOURCE == n then s else ((s.rawEnd).isolate n 6).raise 193
      (s.put F.RNG_RAWSEL_SOURCE n).set F.RNG_RAWSEL_EN

/-! ### The commands -/

def execStartupTestEnd (rep prop silent : BitVec 8) (shakeOk drbgOk : Bool) (s : State) : Out :=
  .next (if s.rngState = rngStartup then s.startupEnd rep.toNat prop.toNat silent.toNat shakeOk drbgOk else s)

def execHealthTestFail (n : Fin 8) (cause : NsuCause) (s : State) : Out :=
  .next (if s.rngState = rngRunning ∨ s.rngState = rngSeeding then s.healthFail n cause else s)

def execSourceRetest (n : Fin 8) (pass : Bool) (s : State) : Out := .next (s.retest n pass)

def execSeedProduced (s : State) : Out :=
  .next (if s.rngState = rngRunning ∧ s.rng.reservoir.length < 16 then
    let (b, s) := s.freeBytes 48
    { s with rng := { s.rng with reservoir := s.rng.reservoir ++ [b] } }.inc (R.RNG_CNT 0)
  else s)

def execReseed (d : Fin 16) (s : State) : Out := .next (s.reseedInst d)

def execRngRestart (r : Req) (v : Word) (s : State) : Out :=
  .next (s.gateW r R.RNG_CTL (·.rngCtlWrite r (v ||| 1)))

def execRngDataRead (r : Req) (wide : Bool) (s : State) : Out :=
  .next (s.gateR r R.RNG_DATA (·.rngRead r wide))

def execRngRawRead (r : Req) (s : State) : Out := .next (s.gateR r R.RNG_RAW State.rngRawRead)

def execRngRawsel (r : Req) (v : Word) (s : State) : Out := .next (s.gateW r R.RNG_RAWSEL (·.rawselWrite v))

def execRngMinSrcWrite (r : Req) (v : Word) (s : State) : Out := .next (s.gateW r R.RNG_MIN_SRC (·.rngMinWrite v))

def execRngCntClr (r : Req) (v : Word) (s : State) : Out :=
  .next (s.gateW r R.RNG_CTL (·.rngCtlWrite r (v ||| 0x100)))

def execRngLock (r : Req) (v : Word) (s : State) : Out :=
  .next (s.gateW r R.RNG_CTL (·.rngCtlWrite r (v ||| 0x80000000)))

end Sys2Proof.Machine
end

