-- ==== Sys2Proof/Machine/KeepJournal.lean ====
section
/-! DEFINITION. KEEP's leaf journal (R183 to R187, R399, R400, R412): leaf states, hand-out, reservations, the requests
that Cupola firmware serves, and the batteries' cells; with the keys K_B and K_J (R396) and BBK (R399). -/

namespace Sys2Proof.Machine

/-- The source code of KEEP in fault messages (R512). -/
abbrev srcKeep : Nat := 0x072

/-! ### Keys -/

/-- K_B, the key of blobs (R396); none without DS. -/
def State.blobKey (s : State) : Option (List Byte) :=
  s.otp.ds.map (fun ds => kmac256 ds
    (s.keep.bbk ++ natLE 1 (s.get F.LCS_STATE_STATE) ++ natLE 4 s.keep.bbkGen) (ascii "YLT KEEP BLOB") 32)

/-- K_J, the key of journal records (R396). -/
def State.journalKey (s : State) : List Byte :=
  kmac256 (s.otp.ds.getD []) (s.keep.bbk ++ natLE 4 s.keep.bbkGen) (ascii "YLT KEEP JRNL") 32

/-- A journal record (R400). -/
def State.jrRecord (s : State) (jseq uid resEnd limit : Nat) : List Byte :=
  let b := [0x4B, 0x4A, 0x52, 0x4E] ++ natLE 4 jseq ++ natLE 8 uid ++ natLE 8 resEnd ++ natLE 8 limit
  b ++ kmac256 s.journalKey b (ascii "YLT KEEP JREC") 32

/-! ### The record window and the requests (R412) -/

/-- The bytes of KEEP_JR_REC. -/
def State.jrWindow (s : State) : List Byte := (List.range 16).flatMap (fun i => natLE 4 (s.rd (R.KEEP_JR_REC i)).toNat)

/-- Store 64 bytes in KEEP_JR_REC. -/
def State.setJrWindow (s : State) (b : List Byte) : State :=
  (List.range 16).foldl (fun s i => s.wr (R.KEEP_JR_REC i) (BitVec.ofNat 32 (leAt b (4 * i) 4))) s

/-- KEEP begins to serve a request. -/
def State.jrServe (s : State) (r : JrReq) : State :=
  let s := { s with keep := { s.keep with jr := some r } }
  let s := s.put F.KEEP_JR_STAT_CELL r.cell
  let jseq := (s.cell r.cell).2 + 1
  match r.kind with
  | .reserve e => ((s.setJrWindow (s.jrRecord jseq r.uid e r.limit)).set F.KEEP_JR_STAT_REQ).raise 204
  | .erase _ => ((s.setJrWindow (s.jrRecord jseq r.uid r.limit r.limit)).set F.KEEP_JR_STAT_REQ).raise 204
  | .seek _ => (s.setJrWindow (zeros 8 ++ natLE 8 r.uid ++ zeros 48)).set F.KEEP_JR_STAT_SEEK

/-- A request is served at once, or queued behind the one in progress. -/
def State.jrRequest (s : State) (r : JrReq) : State :=
  match s.keep.jr with
  | none => s.jrServe r
  | some _ => { s with keep := { s.keep with jrQueue := s.keep.jrQueue ++ [r] } }

/-- The request in progress ends, and the next one is served. -/
def State.jrEnd (s : State) : State :=
  let s := (s.clr F.KEEP_JR_STAT_REQ).clr F.KEEP_JR_STAT_SEEK
  match s.keep.jrQueue with
  | [] => { s with keep := { s.keep with jr := none } }
  | r :: rs => { s with keep := { s.keep with jr := none, jrQueue := rs } }.jrServe r

/-! ### Leaf states -/

/-- Replace the leaf state of a slot. -/
def State.putLeaf (s : State) (i : Nat) (l : LeafState) : State := s.putSlot i { s.slot i with leaf := some l }

/-- Whether a reservation for a key waits or is being served. -/
def State.reserving (s : State) (uid : Nat) : Bool :=
  (s.keep.jr.toList ++ s.keep.jrQueue).any (fun r => r.uid == uid && match r.kind with
    | .reserve _ => true
    | _ => false)

/-- KEEP starts a reservation where R185 asks for one. -/
def State.reserveCheck (s : State) (i : Nat) : State :=
  match (s.slot i).leaf, (s.slot i).cell with
  | some l, some c =>
    if l.mode = .normal ∧ l.resEnd < l.limit ∧ l.resEnd ≤ l.next + l.block / 4 ∧ !s.reserving l.uid then
      s.jrRequest ⟨.reserve (min (l.resEnd + l.block) l.limit), i, c, l.uid, l.limit⟩
    else s
  | _, _ => s

/-- A stateful slot becomes BLOCKED or EXHAUSTED; a stateful event reports it (R408). -/
def State.setLeafMode (s : State) (i : Nat) (m : LeafMode) : State :=
  match (s.slot i).leaf with
  | some l => (s.putLeaf i { l with mode := m }).sfEvent i (if m = .blocked then 2 else 3)
  | none => s

/-- KEEP hands out the next leaf of a NORMAL key with a reserved leaf left (R184 step 3), and checks the warning, a new
reservation and the next tree. At LIMIT the key is EXHAUSTED. -/
def State.handOut (s : State) (i : Nat) (l : LeafState) : State :=
  let n := l.next + 1
  let warn := !l.warned && decide (l.limit - n ≤ l.warn)
  let s := s.putLeaf i { l with next := n, warned := l.warned || warn }
  let s := if warn then s.sfEvent i 1 else s
  let s := if n = l.limit then s.setLeafMode i .exhausted else s
  (s.reserveCheck i).startBuilds

/-- Steps 2 to 4 of R184 for a job with its randomness: STATE_EXHAUSTED, a leaf, or a wait; a leaf whose tree is not
built makes the job wait for the build (R181). -/
def State.leafStep (s : State) (j : Job) (i : Nat) : State :=
  match (s.slot i).leaf with
  | none => s.failJob j (stStateExh, 0)
  | some l =>
    if l.mode ≠ .normal ∨ l.next = l.limit then s.failJob j (stStateExh, 0)
    else if l.next < l.resEnd then
      let s := s.putJob { j with leaf := some l.next, wait := if l.builtEnd ≤ l.next then .tree else .none }
      s.handOut i l
    else s.putJob { j with wait := .leaf }

/-- The jobs that wait for a leaf of a slot, in dispatch order. -/
def State.leafWaiters (s : State) (i : Nat) : List Nat :=
  s.jobIds (fun j => j.wait == .leaf && j.phase != .done && hSlot (dKeyHandle j.desc) == i)

/-- Repeat step 3 for the jobs that wait for a leaf of a slot (R184 step 4). -/
def State.releaseLeafWaits (s : State) (i : Nat) : State :=
  s.eachJob (fun s j => s.leafStep j i) (s.leafWaiters i)

/-- A tree build ends: the jobs that wait for leaves it covers go on (R181). -/
def State.treeBuilt (s : State) (j : Job) (i : Nat) : State :=
  let s := (s.dropJob j.id).setBuilding i false
  let s := match (s.slot i).leaf with
    | some l => s.putLeaf i { l with builtEnd := min (l.builtEnd + l.treeLeaves) l.limit }
    | none => s
  let built := ((s.slot i).leaf.map (·.builtEnd)).getD 0
  let s := s.setJobs (s.jqm.jobs.map (fun k =>
    if k.wait = .tree ∧ hSlot (dKeyHandle k.desc) = i ∧ k.leaf.getD 0 < built then { k with wait := .none } else k))
  (s.refill .lt j.engine j.engine2).startBuilds

/-! ### Erasing a stateful key (R187) -/

/-- A key's journal cell is freed. -/
def State.freeCell (s : State) (c uid : Nat) : State := if (s.cell c).1 = uid then s.putCell c (0, 0) else s

/-- Erase a stateful slot once its record is written, or cannot be (R187, R400). -/
def State.eraseStateful (s : State) (r : JrReq) : State :=
  let s := s.freeCell r.cell r.uid
  if ((s.slot r.slot).leaf.map (·.uid)) = some r.uid then s.eraseSlot r.slot else s

/-- Whether a KEEP_ERASE job still waits for the journal, beyond the request in progress. -/
def State.eraseMore (s : State) (id : Nat) : Bool := s.keep.jrQueue.any (fun r => r.kind == .erase id)

/-- The erase request in progress ends: the slot is erased, and the job completes with its last one. -/
def State.eraseEnd (s : State) (r : JrReq) (id : Nat) : State :=
  let more := s.eraseMore id
  let s := (s.eraseStateful r).jrEnd
  match s.job? id with
  | some j => if more || j.phase = .done then s else s.finishJob j ⟨stOk, j.iters, 0, j.engine, false⟩
  | none => s

/-! ### Loading a stateful key (R186, R412) -/

/-- The result of R186: the leaf state of a slot by the record presented (none: no record, or no answer). A JSEQ that
exceeds the cell's by more than 1 is not covered by R186: the result is free. -/
def State.loadLeaf (s : State) (r : JrReq) (rec : Option (List Byte)) : State :=
  match (s.slot r.slot).leaf with
  | none => s
  | some l =>
    let cell := s.cell r.cell
    match rec with
    | none => s.setLeafMode r.slot .blocked
    | some b =>
      let jseq := leAt b 4 4
      let e := leAt b 16 8
      let l' := { l with next := e, resEnd := e, limit := leAt b 24 8, builtEnd := e / l.treeLeaves * l.treeLeaves }
      let (free, s) := if cell.2 + 1 < jseq then s.freeBool else (true, s)
      if cell.1 ≠ r.uid ∨ jseq < cell.2 ∨ !free then s.setLeafMode r.slot .blocked
      else
        let s := s.putCell r.cell (cell.1, jseq)
        if e = leAt b 24 8 then (s.putLeaf r.slot l').setLeafMode r.slot .exhausted
        else (s.putLeaf r.slot { l' with mode := .normal }).reserveCheck r.slot

/-- The load of a stateful key ends: the slot is LIVE and the UNWRAP job or KEEP_BL_RES answers; a slot erased meanwhile
answers KEY_SLOT_EMPTY (R406). -/
def State.loadEnd (s : State) (r : JrReq) (job : Option Nat) : State :=
  let kept := (s.slot r.slot).leaf.map (·.uid) == some r.uid
  let s := if kept then (s.putSlot r.slot { s.slot r.slot with st := .live }).startBuilds else s
  let h := s.handleOf r.slot
  match job with
  | some id => match s.job? id with
    | some j =>
      if j.phase = .done then s
      else if !kept then s.failJob j (stSlotEmpty, 2)
      else (s.inc (R.KEEP_CNT 3)).finishJob j
        (match j.inp with
         | some x => if x.excess = 0 then ⟨stOk, h, 0, j.engine, false⟩
            else ⟨stTrunc, min x.excess none32, 0, j.engine, true⟩
         | none => ⟨stOk, h, 0, j.engine, false⟩)
    | none => s
  | none =>
    let s := (s.clr ⟨R.KEEP_BL_CMD, 31, 1⟩)
    if kept then (s.wr R.KEEP_BL_RES 0).wr R.KEEP_BL_HANDLE (BitVec.ofNat 32 h)
    else s.wr R.KEEP_BL_RES (BitVec.ofNat 32 (stSlotEmpty + 2 * 256))

/-- A seek ends with a record, or with none. -/
def State.seekEnd (s : State) (r : JrReq) (job : Option Nat) (rec : Option (List Byte)) : State :=
  ((s.loadLeaf r rec).loadEnd r job).jrEnd

/-! ### KEEP_JR_CMD -/

/-- ACK (R412 Reserve 3). -/
def State.jrAck (s : State) : State :=
  match s.keep.jr with
  | none => s
  | some r =>
    let c := s.cell r.cell
    let store := fun (s : State) => if c.1 = r.uid then s.putCell r.cell (c.1, (c.2 + 1) % 2 ^ 32) else s
    match r.kind with
    | .reserve e =>
      let s := store s
      let s := match (s.slot r.slot).leaf with
        | some l => if l.uid = r.uid then s.putLeaf r.slot { l with resEnd := e } else s
        | none => s
      let s := s.jrEnd
      (s.releaseLeafWaits r.slot).reserveCheck r.slot
    | .erase id => (store s).eraseEnd r id
    | .seek _ => s

/-- FAIL (R412 Reserve 3, R185, R187); a failed reservation enters the Almanac. -/
def State.jrFail (s : State) : State :=
  match s.keep.jr with
  | none => s
  | some r => match r.kind with
    | .reserve _ =>
      let s := if ((s.slot r.slot).leaf.map (·.uid)) = some r.uid then s.setLeafMode r.slot .blocked else s
      ((s.jrEnd).releaseLeafWaits r.slot).almanac 5 r.uid r.slot
    | .erase id => s.eraseEnd r id
    | .seek _ => s

/-- Whether the record window holds a valid record of a UID (R412 Load 3). -/
def State.jrValid (s : State) (uid : Nat) : Bool :=
  let b := s.jrWindow
  b.take 4 == [0x4B, 0x4A, 0x52, 0x4E] && leAt b 8 8 == uid &&
    slice b 32 32 == kmac256 s.journalKey (b.take 32) (ascii "YLT KEEP JREC") 32

/-- PRESENT (R412 Load 2 and 3): the first valid record decides. -/
def State.jrPresent (s : State) : State :=
  match s.keep.jr with
  | some r => match r.kind with
    | .seek job => if s.jrValid r.uid then s.seekEnd r job (some s.jrWindow) else s
    | _ => s
  | none => s

/-- NONE_LEFT, or no answer within 100 ms (R412 Load 3). -/
def State.jrNone (s : State) : State :=
  match s.keep.jr with
  | some r => match r.kind with
    | .seek job => s.seekEnd r job none
    | _ => s
  | none => s

/-- A write of KEEP_JR_CMD: each bit acts by its own rule. -/
def State.jrCmdWrite (s : State) (v : Word) : State :=
  let n := v.toNat
  let s := if bit n 0 then s.jrAck else s
  let s := if bit n 1 then s.jrFail else s
  let s := if bit n 2 then s.jrPresent else s
  if bit n 3 then s.jrNone else s

/-! ### The battery-backed key (R399) -/

/-- Mirror the battery's state in the registers that show it. -/
def State.syncBattery (s : State) : State :=
  (s.putB F.KEEP_STAT_BBK_VALID s.keep.bbkValid).wr R.KEEP_BBK_GEN (BitVec.ofNat 32 s.keep.bbkGen)

/-- BBK_LOST is set; Almanac entry; event source 201 (R399, R413). -/
def State.bbkLost (s : State) : State := ((s.set F.KEEP_STAT_BBK_LOST).almanac 5 0 0).raise 201

/-- KEEP_BBK_CTL.GEN (R399): in every life-cycle state but BLANK, SCRAP and, under R491, INVALID. While RNG has no seed
the draw is held, and GEN reads 1 (R110). BBK_GEN wraps. -/
def State.bbkGenerate (s : State) : State :=
  let l := s.get F.LCS_STATE_STATE
  if l = 0 ∨ l = 5 ∨ l = 15 ∨ s.rngState = rngFailed then s
  else if s.rngState ≠ rngRunning then s.set F.KEEP_BBK_CTL_GEN
  else
    let (b, s) := s.draw 11 32
    let s := { s with keep := { s.keep with
      bbk := b, bbkValid := true, bbkGen := (s.keep.bbkGen + 1) % 2 ^ 32, cells := [] } }
    ((s.clr F.KEEP_STAT_BBK_LOST).clr F.KEEP_BBK_CTL_GEN).syncBattery

/-- BBK and every cell are destroyed; BBK_GEN stays (R399). -/
def State.bbkDestroy (s : State) : State :=
  { s with keep := { s.keep with bbk := zeros s.keep.bbk.length, bbkValid := false, cells := [] } }.syncBattery

/-! ### The commands -/

def execJrAck (r : Req) (v : Word) (s : State) : Out := .next (s.gateW r R.KEEP_JR_CMD (·.jrCmdWrite (v ||| 1)))

def execJrFail (r : Req) (v : Word) (s : State) : Out := .next (s.gateW r R.KEEP_JR_CMD (·.jrCmdWrite (v ||| 2)))

def execJrPresent (r : Req) (v : Word) (s : State) : Out := .next (s.gateW r R.KEEP_JR_CMD (·.jrCmdWrite (v ||| 4)))

def execJrNoneLeft (r : Req) (v : Word) (s : State) : Out := .next (s.gateW r R.KEEP_JR_CMD (·.jrCmdWrite (v ||| 8)))

def execSeekTimeout (s : State) : Out := .next s.jrNone

def execLeafWaitTimeout (j : Nat) (s : State) : Out :=
  .next (match s.job? j with
    | some k => if k.wait = .leaf ∧ k.phase ≠ .done then s.failJob k (stStateExh, 0) else s
    | none => s)

def execTreeBuildComplete (j : Nat) (s : State) : Out :=
  .next (match s.job? j with
    | some k => match k.kind with
      | .treeBuild i => if k.phase = .running then s.treeBuilt k i else s
      | .queue => s
    | none => s)

end Sys2Proof.Machine
end

