-- ==== Sys2Proof/Machine/JobRun.lean ====
section
/-! DEFINITION. How a job's own row begins and ends: which job may move, the wait for randomness (R110, R124), reading
operands, writing the output and filling target slots (R131, R133), and assertions (R215). -/

namespace Sys2Proof.Machine

/-- The first words of an abort that a running job takes at its next boundary (R221): TAMPER_ABORT, even when committed;
QUEUE_FLUSHED, unless committed. -/
def State.takeAbort (s : State) (j : Job) (k : State) : State :=
  match j.abort with
  | .tamper n => s.tamperJob j n
  | .flush => if j.spire.committed then k else s.failJob j (stFlushed, 2)
  | .none => k

/-- Whether a job is the one that its unit works on: running, or at the Context Arbiter the first of lowest class. -/
def State.mayMove (s : State) (j : Job) : Bool :=
  if j.res = .arbiter then
    j.phase == .waiting && (bestJob (s.jqm.jobs.filter (fun k => k.res == .arbiter && k.phase == .waiting))).map (·.id) ==
      some j.id
  else j.phase == .running

/-- A job row acts on a running job of its opcode that waits for nothing; a pending abort comes first. A job held for
randomness has started, so the row makes the checks of its start, and no more (R86, R110). A job of an ALG that exists
only through patches ends by its microcode. -/
def State.atUnit (s : State) (id : Nat) (op : Nat) (f : State → Job → State) : State :=
  match s.job? id with
  | some j =>
    if j.kind = .queue ∧ dOpcode j.desc = op ∧ s.mayMove j ∧ !isPatchAlg j.desc then
      if j.wait = .none then s.takeAbort j (f s j)
      else if j.wait = .rng then s.withInput j (fun _ => s)
      else s
    else s
  | none => s

/-- A job that needs randomness goes on while RNG is RUNNING; in FAILED it completes RNG_FAILED; otherwise it is held
(R110, R124, R448). -/
def State.needRng (s : State) (j : Job) (k : State → State) : State :=
  if s.rngState = rngRunning then k s
  else if s.rngState = rngFailed then s.failJob j (stRngFailed, 0)
  else s.putJob { j with wait := .rng }

/-- Read an operand of a job; a fault completes it ADDR_FAULT with the DETAIL given. -/
def State.withBytes (s : State) (j : Job) (a n code : Nat) (k : List Byte → State) : State :=
  match s.dmaRead j.owner a n with
  | none => s.failJob j (stAddrFault, code)
  | some b => k b

/-- Take the key of a named slot over the key bus; a slot erased since stage 4 completes KEY_SLOT_EMPTY (R154). -/
def State.withSlot (s : State) (j : Job) (h idx : Nat) (k : Slot → State) : State :=
  match s.liveSlot h with
  | none => s.failJob j (stSlotEmpty, idx)
  | some x => k x

/-- A job whose failing check leaves the output untouched (R108, VERIFY_FAIL of the named checks). -/
def State.failQuiet (s : State) (j : Job) (e : Err) : State := s.finishJob j (failed j.ranOn e.1 e.2)

/-- The result of a job that has done its work: OK, or OK_TRUNCATED with the bytes not processed (R98, R108). -/
def okResult (engine detail outLen excess : Nat) : JobResult :=
  if excess = 0 then ⟨stOk, detail, outLen, engine, false⟩ else ⟨stTrunc, min excess none32, outLen, engine, true⟩

/-- Write the output and complete; a write fault completes ADDR_FAULT. -/
def State.finishOut (s : State) (j : Job) (x : JobIn) (out : List Byte) (detail : Nat) : State :=
  match writeBufs s j.owner x.outs out with
  | (s, false) => s.failJob j (stAddrFault, 1)
  | (s, true) => s.finishJob j (okResult j.engine detail out.length x.excess)

/-- Fill the job's target slots in order. -/
def State.fillAll (s : State) : List (Nat × Slot) → State
  | [] => s
  | e :: es => (s.fillSlot e.1 e.2).fillAll es

/-- Fill the target slots, write the output and complete with the first new handle as DETAIL (R129, R133). A target that
was erased meanwhile completes KEY_SLOT_EMPTY (R406); a write fault leaves no slot. -/
def State.finishSlots (s : State) (j : Job) (x : JobIn) (out : List Byte) (ks : List Slot) : State :=
  if j.targets.length ≠ ks.length then s.failJob j (stSlotEmpty, 2)
  else match writeBufs s j.owner x.outs out with
    | (s, false) => s.failJob j (stAddrFault, 1)
    | (s, true) =>
      let h := match j.targets with
        | t :: _ => s.handleOf t
        | [] => 0
      (s.fillAll (j.targets.zip ks)).finishJob j (okResult j.engine h out.length x.excess)

/-! ### Assertions (R215) -/

/-- Note an assertion of a Spire: KIND 0x08, UCODE_ASSERT and its counter. -/
def State.noteAssert (s : State) (e upc cause addr : Nat) : State :=
  let s := s.report e 0x08 0 addr
  let s := if s.on F.UCODE_ASSERT_VALID then s
    else s.wr R.UCODE_ASSERT (BitVec.ofNat 32 (spireIndex e + upc % 2 ^ 14 * 2 ^ 6 + cause * 2 ^ 20 + 2 ^ 31))
  s.inc R.UCODE_ASSERT_CNT

/-- A job whose microcode raises an assertion completes FAULT_ABORT 0x08. -/
def State.assertJob (s : State) (j : Job) (upc cause : Nat) : State :=
  (s.noteAssert j.engine upc cause j.addr).failJob j (stFault, 0x08)

/-- The ROM microcode asserts; the address in ROM is open (R215, R216). -/
def State.romAssert (s : State) (j : Job) : State :=
  let (u, s) := s.freeNat
  s.assertJob j u 3

/-! ### New slots -/

abbrev orGenerated : Nat := 0
abbrev orImported : Nat := 1
abbrev orDerived : Nat := 2

/-- A slot descriptor with its key (R378); the fields that only some keys have are empty. -/
def newSlot (usage origin : Nat) (exportable : Bool) (alg group epoch : Nat) (key : List Byte) : Slot :=
  ⟨.live, 0, usage, origin, exportable, alg, group, epoch, key.length, none, false, [], key, none, 0⟩

/-- The group of a job's queue. -/
def Job.group (j : Job) : Nat := groupOf j.q

end Sys2Proof.Machine
end

