-- ==== Sys2Proof/Machine/Schemes.lean ====
section
/-! DEFINITION. The public-key schemes as functions of bytes, at the sizes of R125, R176, R189 and R194, and the composite
schemes from their parts (R198, R200). -/

namespace Sys2Proof.Machine

/-! ### Composites -/

/-- The parts of a composite: the lattice ALG, the classical ALG, and its curve. -/
def compParts (alg : Nat) : Nat × Nat × Nat :=
  if alg = 0x801 then (0x102, 0x701, 0) else if alg = 0x802 then (0x103, 0x721, 2)
  else if alg = 0x811 then (0x202, 0x711, 0) else (0x203, 0x712, 0)

/-- Whether an ALG is a composite. -/
def isComp (alg : Nat) : Bool := isCompKem alg || isCompSig alg

/-- A key pair of a simple scheme. -/
def simpleKey (alg p : Nat) (seed : List Byte) : List Byte × List Byte :=
  let r := Config.keygen alg (natLE 2 p) seed
  (fit (pkLen alg p) r.1, fit (skLen alg p) r.2)

/-- A key pair from a seed: public key, private key; a composite KEM's private key ends with the classical public key
(R198). -/
def keyPair (alg p : Nat) (seed : List Byte) : List Byte × List Byte :=
  if isComp alg then
    let (m, x, c) := compParts alg
    let n := seedLen m 0
    let km := simpleKey m 0 (seed.take n)
    let kx := simpleKey x c (seed.drop n)
    (km.1 ++ kx.1, km.2 ++ kx.2 ++ (if isCompKem alg then kx.1 else []))
  else simpleKey alg p seed

/-- The public key of a private key. -/
def publicKey (alg p : Nat) (sk : List Byte) : List Byte :=
  if isComp alg then
    let (m, x, c) := compParts alg
    let n := skLen m 0
    fit (pkLen m 0) (Config.publicOf m (sk.take n)) ++
      fit (pkLen x c) (Config.publicOf x (slice sk n (skLen x c)))
  else fit (pkLen alg p) (Config.publicOf alg sk)

/-! ### KEMs -/

/-- The label of the combiner (R198). -/
def kemLabel (alg : Nat) : List Byte := [0x59, 0x4C, 0x54, 0x4B, 0x45, 0x4D] ++ natBE 2 alg

/-- The shared secret of a composite KEM (R198). -/
def combine (alg : Nat) (raw : Bool) (ssM ssX ctX pkX : List Byte) : List Byte :=
  if raw then ssM ++ ssX else hashOf 0x912 32 (ssM ++ ssX ++ ctX ++ pkX ++ kemLabel alg)

/-- Encapsulation in a simple KEM. -/
def simpleEncaps (alg : Nat) (pk m : List Byte) : List Byte × List Byte :=
  let r := Config.encaps alg pk m
  (fit (ctLen alg) r.1, fit (ssLen alg false) r.2)

/-- Whether the 12-bit coefficients that bytes encode, two in three bytes, low bits first, are below q = 3329 (R116,
R137). -/
def coeffsOk : List Byte → Bool
  | a :: b :: c :: bs =>
    decide (a.toNat + 256 * (b.toNat % 16) < 3329) && decide (b.toNat / 16 + 16 * c.toNat < 3329) && coeffsOk bs
  | _ => true

/-- The encapsulation key check of R137 for ML-KEM: the coefficients stand before the last 32 bytes of the key. -/
def mlKemKeyOk (alg : Nat) (pk : List Byte) : Bool := coeffsOk (pk.take (pkLen alg 0 - 32))

/-- The key check of R137 and R190: ML-KEM alone or in a composite, and HQC; no check for Classic McEliece. -/
def encapsKeyOk (alg : Nat) (pk : List Byte) : Bool :=
  if isMcEliece alg then true
  else if isComp alg then mlKemKeyOk (compParts alg).1 pk
  else if isMlKem alg then mlKemKeyOk alg pk
  else Config.pubKeyOk alg 0 pk

/-- Point validity of a public key of a curve part `x` of a composite. -/
def compPointOk (alg : Nat) (pk : List Byte) : Bool :=
  Config.pubKeyOk (compParts alg).2.1 (compParts alg).2.2 (pk.drop (pkLen (compParts alg).1 0))

/-- Encapsulation: ciphertext and secret; none where the classical part's point is invalid (R199). -/
def encapsOf (alg : Nat) (raw : Bool) (pk m : List Byte) : Option (List Byte × List Byte) :=
  if isComp alg then
    let (a, x, c) := compParts alg
    let n := pkLen a 0
    let r := simpleEncaps a (pk.take n) (m.take 32)
    let e := simpleKey x c (m.drop 32)
    (Config.exchange x c e.2 (pk.drop n)).map (fun ss =>
      (r.1 ++ e.1, combine alg raw r.2 (fit (exchLen x c) ss) e.1 (pk.drop n)))
  else some (simpleEncaps alg pk m)

/-- Decapsulation; none where a composite's ct_X is invalid (R199). -/
def decapsOf (alg : Nat) (raw : Bool) (sk ct : List Byte) : Option (List Byte) :=
  if isComp alg then
    let (a, x, c) := compParts alg
    let n := skLen a 0
    let k := ctLen a
    let ssM := fit 32 (Config.decaps a (sk.take n) (ct.take k))
    (Config.exchange x c (slice sk n (skLen x c)) (ct.drop k)).map (fun ss =>
      combine alg raw ssM (fit (exchLen x c) ss) (ct.drop k) (sk.drop (n + skLen x c)))
  else some (fit (ssLen alg false) (Config.decaps alg sk ct))

/-- The check of a stored decapsulation key (R140, R190). -/
def storedKeyOk (alg : Nat) (sk : List Byte) : Bool :=
  if isComp alg then Config.digestOk (compParts alg).1 (sk.take (skLen (compParts alg).1 0)) else Config.digestOk alg sk

/-! ### Signatures -/

/-- M′ of a composite signature (R200). -/
def compMessage (alg : Nat) (ctx msg : List Byte) : List Byte :=
  [0x59, 0x4C, 0x54, 0x53, 0x49, 0x47] ++ natBE 2 alg ++ natLE 1 ctx.length ++ ctx ++ hashOf 0x904 64 msg

/-- The hash of the ECDSA part of a composite (R200). -/
def compHash (alg : Nat) (m : List Byte) : List Byte := if alg = 0x811 then hashOf 0x902 32 m else hashOf 0x903 48 m

/-- The parameters of a signature beside keys and message: MODE, PH_ALG, PAD, SALT_LEN, and the context string. -/
structure SigParams where
  mode : Nat
  ph : Nat
  pad : Nat
  salt : Nat
  ctx : List Byte
  deriving DecidableEq, Repr

/-- Pure mode with an empty context. -/
def SigParams.pure : SigParams := ⟨0, 0, 0, 0, []⟩

/-- The parameters as bytes. -/
def SigParams.bytes (p : SigParams) : List Byte :=
  natLE 1 p.mode ++ natLE 2 p.ph ++ natLE 1 p.pad ++ natLE 1 p.salt ++ natLE 1 p.ctx.length ++ p.ctx

/-- What a classical engine signs: ECDSA and RSA hash the message with PH_ALG in MODE 00 (R196). -/
def sigMessage (alg : Nat) (p : SigParams) (msg : List Byte) : SigParams × List Byte :=
  if phAlways alg && p.mode == 0 then ({ p with mode := 1 }, hashOf p.ph (phLen p.ph) msg) else (p, msg)

/-- A signature of a given size. -/
def simpleSign (alg n : Nat) (p : SigParams) (sk rnd msg : List Byte) : List Byte :=
  let (p, msg) := sigMessage alg p msg
  fit n (Config.sign alg p.bytes sk rnd msg)

/-- The iterations or redraws of a signature (R146, R196). -/
def simpleIters (alg : Nat) (p : SigParams) (sk rnd msg : List Byte) : Nat :=
  let (p, msg) := sigMessage alg p msg
  Config.signIters alg p.bytes sk rnd msg

/-- The parts of a composite signing: parameters, key, randomness and message of the ML-DSA part and of the ECDSA
part. -/
def compSigM (alg : Nat) (p : SigParams) (sk rnd msg : List Byte) : List Byte × List Byte × List Byte :=
  (sk.take (skLen (compParts alg).1 0), rnd.take 32, compMessage alg p.ctx msg)

/-- A signature; `n` is its size. -/
def signOf (alg n : Nat) (p : SigParams) (sk rnd msg : List Byte) : List Byte :=
  if isCompSig alg then
    let (a, x, _) := compParts alg
    let (skM, rndM, m) := compSigM alg p sk rnd msg
    simpleSign a (sigLen a 0) .pure skM rndM m ++
      simpleSign x (sigLen x 0) ⟨1, if alg = 0x811 then 0x902 else 0x903, 0, 0, []⟩ (sk.drop (skLen a 0)) (rnd.drop 32)
        (compHash alg m)
  else simpleSign alg n p sk rnd msg

/-- The ML-DSA iterations run, of a composite those of its lattice part; ECDSA nonces drawn again. -/
def itersOf (alg : Nat) (p : SigParams) (sk rnd msg : List Byte) : Nat :=
  if isCompSig alg then
    let (skM, rndM, m) := compSigM alg p sk rnd msg
    simpleIters (compParts alg).1 .pure skM rndM m
  else simpleIters alg p sk rnd msg

/-- Verification in a simple scheme. -/
def simpleVerify (alg : Nat) (p : SigParams) (pk msg sig : List Byte) : Bool :=
  let (p, msg) := sigMessage alg p msg
  Config.verify alg p.bytes pk msg sig

/-- Verification (R148, R187, R196, R200). -/
def verifyOf (alg : Nat) (p : SigParams) (pk msg sig : List Byte) : Bool :=
  if isCompSig alg then
    let (a, x, _) := compParts alg
    let m := compMessage alg p.ctx msg
    let okM := simpleVerify a .pure (pk.take (pkLen a 0)) m (sig.take (sigLen a 0))
    let okX := simpleVerify x ⟨1, if alg = 0x811 then 0x902 else 0x903, 0, 0, []⟩ (pk.drop (pkLen a 0)) (compHash alg m)
      (sig.drop (sigLen a 0))
    okM && okX
  else if isStateful alg then Config.statefulTypesMatch alg pk sig && simpleVerify alg p pk msg sig
  else simpleVerify alg p pk msg sig

end Sys2Proof.Machine
end

