-- ==== Sys2Proof/Machine/AeaJobs.lean ====
section
/-! DEFINITION. The jobs of the asymmetric engines (03, 04): KEYGEN, ENCAPS, DECAPS, SIGN, VERIFY and EXCHANGE on lattice
tiles, code-based and classical engines, and composites. -/

namespace Sys2Proof.Machine

/-! ### KEYGEN (R127 to R133, R180, R190, R192) -/

/-- The seed: from AUX_ADDR with SEED_IN, else drawn. -/
def State.kgSeed (s : State) (j : Job) (k : List Byte → State → State) : State :=
  let d := j.desc
  if bit (leAt d 64 2) 1 then s.withBytes j (dAuxAddr d) (kgSeedLen d) 2 (k · s)
  else
    let (b, s) := s.draw (drbgOf j.engine) (kgSeedLen d)
    k b s

/-- The pairwise consistency test (R132): one encapsulation and decapsulation, or one deterministic signature and its
verification, of a fixed message. Key exchanges have no test. -/
def pctOk (alg p : Nat) (pk sk : List Byte) : Bool :=
  if isKem alg then
    match encapsOf alg false pk (Config.pctMessage alg) with
    | some (ct, ss) => decapsOf alg false sk ct == some ss
    | none => false
  else if isSig alg then
    verifyOf alg .pure pk (fit 32 (Config.pctMessage alg))
      (signOf alg (sigLen alg p) .pure sk (zeros 32) (fit 32 (Config.pctMessage alg)))
  else true

/-- Rejected RSA prime candidates, each a draw of nlen/16 bytes: their number is open. -/
def State.rsaCandidates (s : State) (j : Job) : State :=
  if dAlg j.desc = 0x731 then
    let (n, s) := s.freeNat
    let s := s.count (R.AEA_REJ j.engine) (n % 2 ^ 16)
    (s.draw (drbgOf j.engine) (kgParam j.desc / 16 * (n % 2 ^ 16 + 1))).2
  else s

/-- The end of a KEYGEN whose key is made: the PCT, then the slot and the public key, or both keys to memory. -/
def State.kgEnd (s : State) (j : Job) (x : JobIn) (pk sk : List Byte) : State :=
  let d := j.desc
  let alg := dAlg d
  let fl := leAt d 64 2
  let dest := bit fl 0
  let test := bit fl 3 || (s.on F.AEA_LT_CFG_FORCE_PCT && !dest)
  if test && !pctOk alg (kgParam d) pk sk then s.romAssert j
  else if dest then s.finishOut j x (pk ++ sk) 0
  else
    let k := newSlot (privUsage alg) (if bit fl 1 then orImported else orGenerated) (bit fl 2) alg j.group (leAt d 72 4) sk
    s.finishSlots j x pk [{ k with pkDigest := pkDigest pk }]

/-- The leaf state of a new stateful key (R180, R182): one tree built on every level, nothing reserved yet. -/
def newLeaf (d : List Byte) (uid : Nat) (heights : List Nat) : LeafState :=
  let limit := 2 ^ heights.sum
  let tree := 2 ^ heights.getLastD 0
  let w := if byteAt d 77 = 0 then 4 else byteAt d 77
  ⟨uid, 0, 0, limit, 2 ^ leAt d 66 2, limit / 2 ^ w, .normal, byteAt d 76, kgTypes d, tree, tree, false, false⟩

/-- The end of a stateful KEYGEN: a journal cell and a UID are taken, and the first reservation starts (R185, R399). -/
def State.kgStateful (s : State) (j : Job) (x : JobIn) (seed : List Byte) : State :=
  let d := j.desc
  let alg := dAlg d
  match s.freeCells, j.targets, Config.statefulSizes alg (byteAt d 76) (kgTypes d) with
  | c :: _, t :: _, some (n, _, hs) =>
    let pk := fit n (Config.keygen alg (natLE 1 (byteAt d 76) ++ kgTypes d) seed).1
    let uid := s.keep.bbkGen * 2 ^ 32 + s.keep.uidCount + 1
    let k := newSlot usSign (if bit (leAt d 64 2) 1 then orImported else orGenerated) false alg j.group (leAt d 72 4) seed
    let k := { k with pkDigest := pkDigest pk, cell := some c, leaf := some (newLeaf d uid hs) }
    match writeBufs s j.owner x.outs pk with
    | (s, false) => s.failJob j (stAddrFault, 1)
    | (s, true) =>
      let s := { s with keep := { s.keep with uidCount := (s.keep.uidCount + 1) % 2 ^ 32 } }.putCell c (uid, 0)
      let h := s.handleOf t
      ((s.fillSlot t k).reserveCheck t).finishJob j (okResult j.engine h pk.length x.excess)
  | [], _, _ => s.failJob j (malformed 68)
  | _, [], _ => s.failJob j (stSlotEmpty, 2)
  | _, _, none => s.failJob j (malformed 80)

/-- A KEYGEN job. A Classic McEliece key that 256 attempts do not give is an assertion (R192). -/
def State.runKeygen (s : State) (j : Job) : State :=
  s.withInput j fun x => s.needRng j fun s =>
    s.kgSeed j fun seed s =>
      let alg := dAlg j.desc
      let s := (s.drawMasks j.engine).rsaCandidates j
      if isStateful alg then s.kgStateful j x seed
      else
        let n := if isMcEliece alg then min (Config.mcelieceRetries alg seed) 256 else 0
        let s := if n = 0 then s else s.count (R.AEA_REJ j.engine) n
        if n = 256 then s.romAssert j
        else
          let k := keyPair alg (kgParam j.desc) seed
          s.kgEnd j x k.1 k.2

/-! ### ENCAPS and DECAPS (R134 to R141, R190, R198) -/

/-- A shared secret goes to memory after `pre`, or to a slot of usage DERIVE (R134). -/
def State.finishSecret (s : State) (j : Job) (x : JobIn) (pre ss : List Byte) : State :=
  let d := j.desc
  if bit (leAt d 64 2) 0 then
    s.finishSlots j x pre [newSlot usDerive orDerived false (leAt d 66 2) j.group (leAt d 72 4) ss]
  else s.finishOut j x (pre ++ ss) 0

/-- What an ENCAPS draws: the message (unless it is read), with the salt of HQC, or the error vectors' seeds, 32 bytes for
each of an open number of attempts (R170). -/
def State.encapsDraws (s : State) (j : Job) : List Byte × State :=
  let alg := dAlg j.desc
  let m := bit (leAt j.desc 64 2) 1
  if isMcEliece alg then
    if m then ([], s)
    else
      let (n, s) := s.freeNat
      s.draw (drbgOf j.engine) (32 * (n % 2 ^ 16 + 1))
  else
    let n := encapsDraw alg - (if m then mLen alg else 0)
    if n = 0 then ([], s) else s.draw (drbgOf j.engine) n

/-- The message of an ENCAPS: read with M_IN (the drawn bytes follow it), or drawn. -/
def State.encapsMessage (s : State) (j : Job) (k : List Byte → State → State) : State :=
  let d := j.desc
  if bit (leAt d 64 2) 1 then
    s.withBytes j (dAuxAddr d) (mLen (dAlg d)) 2 fun m =>
      let (b, s) := s.encapsDraws j
      k (m ++ b) s
  else
    let (b, s) := s.encapsDraws j
    k b s

/-- The public key of an ENCAPS: a slot's, or the input (R135). -/
def State.encapsKey (s : State) (j : Job) (x : JobIn) (k : List Byte → State) : State :=
  if dKeyHandle j.desc = none32 then k x.data else s.withSlot j (dKeyHandle j.desc) 0 (fun y => k y.key)

/-- An ENCAPS job: the key check comes before any draw (R137). -/
def State.runEncaps (s : State) (j : Job) : State :=
  s.withInput j fun x => s.needRng j fun s => s.encapsKey j x fun pk =>
    let alg := dAlg j.desc
    if !encapsKeyOk alg pk then s.failQuiet j (stVerifyFail, 0)
    else s.encapsMessage j fun m s =>
      match encapsOf alg (bit (leAt j.desc 64 2) 2) pk m with
      | some (ct, ss) => (s.drawMasks j.engine).finishSecret j x ct ss
      | none => (s.drawMasks j.engine).failQuiet j (stVerifyFail, 0)

/-- A DECAPS job: the stored key is checked, and a rejected ciphertext completes like a valid one (R139 to R141). -/
def State.runDecaps (s : State) (j : Job) : State :=
  s.withInput j fun x => s.needRng j fun s => s.withSlot j (dKeyHandle j.desc) 0 fun y =>
    let alg := dAlg j.desc
    let s := s.drawMasks j.engine
    if !storedKeyOk alg y.key then s.romAssert j
    else match decapsOf alg (bit (leAt j.desc 64 2) 2) y.key x.data with
      | some ss => s.finishSecret j x [] ss
      | none => s.failQuiet j (stVerifyFail, 0)

/-! ### SIGN and VERIFY (R142 to R148, R177, R184, R187, R196, R200) -/

/-- The context string of a signature job; a fault on it has DETAIL 5. -/
def State.withContext (s : State) (j : Job) (k : SigParams → State) : State :=
  let d := j.desc
  let p := SigParams.mk (sgMode d) (sgPh d) (byteAt d 69) (byteAt d 70)
  if sgCtxLen d = 0 then k (p []) else s.withBytes j (sgCtxAddr d) (sgCtxLen d) 5 (fun c => k (p c))

/-- DETERMINISTIC. -/
def sgDet (d : List Byte) : Bool := bit (leAt d 64 2) 0

/-- The bytes that a SIGN draws (R123, R170). For a stateful key: the randomiser of LMS and HSS. -/
def signDraw (d : List Byte) (y : Slot) : Nat :=
  let alg := dAlg d
  if isStateful alg then (if alg ≤ 0x402 then Config.statefulN alg ((y.leaf.map (·.types)).getD []) else 0)
  else if isEd alg then 0
  else if alg = 0x731 then (if byteAt d 69 = 1 then 0 else if byteAt d 70 = 0 then phLen (sgPh d) else byteAt d 70)
  else if sgDet d then 0
  else if isMlDsa alg then 32 else if isSlhDsa alg then slhN alg
  else if isCompSig alg then 32 + skLen (compParts alg).2.1 0
  else skLen alg 0

/-- The randomness of a signature: drawn, or 32 zero bytes of a deterministic ML-DSA signature (R123). -/
def State.signRnd (s : State) (j : Job) (y : Slot) : List Byte × State :=
  let n := signDraw j.desc y
  if n = 0 then (if isMlDsa (dAlg j.desc) || isCompSig (dAlg j.desc) then (zeros 32, s) else ([], s))
  else s.draw (drbgOf j.engine) n

/-- The counts that a signature leaves: rejected iterations or nonces drawn again in REJ, the latter's draws, and
DETAIL (R144, R160, R196, R201). -/
def State.signCounts (s : State) (j : Job) (n : Nat) : Nat × State :=
  let alg := dAlg j.desc
  if isMlDsa alg || isCompSig alg then (max n 1, if n ≤ 1 then s else s.count (R.AEA_REJ j.engine) (n - 1))
  else if [0x711, 0x712, 0x713].contains alg then
    if n = 0 then (0, s)
    else
      let s := s.count (R.AEA_REJ j.engine) n
      (n, if sgDet j.desc then s else (s.draw (drbgOf j.engine) (n * skLen alg 0)).2)
  else (0, s)

/-- The end of a SIGN: the iteration cap, the verification that VERIFY_AFTER or RSA asks for, and the output. -/
def State.signEnd (s : State) (j : Job) (x : JobIn) (p : SigParams) (y : Slot) (rnd : List Byte) : State :=
  let d := j.desc
  let alg := dAlg d
  let n := itersOf alg p y.key rnd x.data
  if (isMlDsa alg || isCompSig alg) && decide (1024 < n) then
    (s.count (R.AEA_REJ j.engine) 1024).romAssert j
  else
    let sig := signOf alg (s.signOut d) p y.key rnd x.data
    let (detail, s) := s.signCounts j n
    let pk := publicKey alg (rsaOfSk y.keyLen) y.key
    if (bit (leAt d 64 2) 3 || alg = 0x731) && !verifyOf alg p pk x.data sig then s.romAssert j
    else s.finishOut j x sig detail

/-- The end of a stateful SIGN: the signature with the leaf that KEEP handed out (R184 step 5). The leaf goes into the
signature as its index. -/
def State.signLeaf (s : State) (j : Job) (x : JobIn) (q : Nat) : State :=
  let d := j.desc
  let alg := dAlg d
  match (s.slot (hSlot (dKeyHandle d))).leaf with
  | none => s.failJob j (stSlotEmpty, 0)
  | some l =>
    let n := ((Config.statefulSizes alg l.levels l.types).map (·.2.1)).getD 0
    let ps := natLE 8 q ++ natLE 1 l.levels ++ l.types
    let sig := fit n (Config.sign alg ps j.key j.rnd x.data)
    let pk := (Config.keygen alg (natLE 1 l.levels ++ l.types) j.key).1
    if bit (leAt d 64 2) 3 && !verifyOf alg .pure pk x.data sig then s.romAssert j
    else s.finishOut j x sig (q % 2 ^ 32)

/-- The draw of a job that starts new lower-level trees (R170). -/
def State.treeDraw (s : State) (j : Job) (y : Slot) : State :=
  match y.leaf with
  | some l =>
    if dAlg j.desc ≤ 0x402 ∧ l.next % l.treeLeaves = 0 ∧ 0 < l.next then
      (s.draw (drbgOf j.engine) (32 + Config.statefulN (dAlg j.desc) l.types)).2
    else s
  | none => s

/-- A stateful job that has its leaf and its tree signs; one that still waits stays (R181, R184). -/
def State.signResume (s : State) (id : Nat) : State :=
  match s.job? id with
  | some j => match j.leaf, j.inp with
    | some q, some x => if j.wait = .none ∧ j.phase = .running then s.signLeaf j x q else s
    | _, _ => s
  | none => s

/-- A SIGN job; a stateful one first obtains its leaf. -/
def State.runSign (s : State) (j : Job) : State :=
  match j.inp with
  | some _ => s.signResume j.id
  | none => s.withInput j fun x => s.needRng j fun s => s.withContext j fun p =>
      s.withSlot j (dKeyHandle j.desc) 0 fun y =>
        let (rnd, s) := s.signRnd j y
        let s := s.drawMasks j.engine
        if isStateful (dAlg j.desc) then
          let s := s.treeDraw j y
          let j' := { j with inp := some x, key := y.key, rnd := rnd }
          ((s.putJob j').leafStep j' (hSlot (dKeyHandle j.desc))).signResume j.id
        else s.signEnd j x p y rnd

/-- The public key of a VERIFY: a slot's, or memory's at PK_ADDR (R148). -/
def State.withPublic (s : State) (j : Job) (k : List Byte → State) : State :=
  let d := j.desc
  let alg := dAlg d
  if dKeyHandle d ≠ none32 then s.withSlot j (dKeyHandle d) 0 (fun y => k y.key)
  else if isStateful alg then
    s.withBytes j (sgPkAddr d) 8 5 (fun h => s.withBytes j (sgPkAddr d) (Config.statefulPkLen alg h) 5 k)
  else s.withBytes j (sgPkAddr d) (pkLen alg (leAt d 88 2)) 5 k

/-- A VERIFY job; it writes no output (R148). -/
def State.runVerify (s : State) (j : Job) : State :=
  s.withInput j fun x => s.withContext j fun p => s.withPublic j fun pk =>
    s.withBytes j (dAuxAddr j.desc) (verifySigLen j.desc pk.length) 2 fun sig =>
      if verifyOf (dAlg j.desc) p pk x.data sig then s.finishJob j (okResult j.engine 0 0 x.excess)
      else s.failJob j (stVerifyFail, 0)

/-! ### EXCHANGE (R195) -/

/-- The private key of an EXCHANGE and what stands before the secret: the slot's, or a one-time pair. -/
def State.exchangeKey (s : State) (j : Job) (k : List Byte → List Byte → State → State) : State :=
  let d := j.desc
  let c := byteAt d 76
  if bit (leAt d 64 2) 2 then
    let (b, s) := s.draw (drbgOf j.engine) (skLen (dAlg d) c)
    let r := simpleKey (dAlg d) c b
    k r.2 r.1 s
  else s.withSlot j (dKeyHandle d) 0 (fun y => k y.key [] s)

/-- An EXCHANGE job; an invalid peer point and a zero result write nothing. -/
def State.runExchange (s : State) (j : Job) : State :=
  s.withInput j fun x => s.needRng j fun s => s.exchangeKey j fun sk pre s =>
    let s := s.drawMasks j.engine
    let alg := dAlg j.desc
    let c := byteAt j.desc 76
    match Config.exchange alg c sk x.data with
    | some ss => s.finishSecret j x pre (fit (exchLen alg c) ss)
    | none => s.failQuiet j (stVerifyFail, 0)

/-! ### The commands -/

def execKeygen (j : Nat) (s : State) : Out := .next (s.atUnit j opKeygen State.runKeygen)

def execEncaps (j : Nat) (s : State) : Out := .next (s.atUnit j opEncaps State.runEncaps)

def execDecaps (j : Nat) (s : State) : Out := .next (s.atUnit j opDecaps State.runDecaps)

def execSign (j : Nat) (s : State) : Out := .next (s.atUnit j opSign State.runSign)

def execVerify (j : Nat) (s : State) : Out := .next (s.atUnit j opVerify State.runVerify)

def execExchange (j : Nat) (s : State) : Out := .next (s.atUnit j opExchange State.runExchange)

end Sys2Proof.Machine
end

