-- ==== Sys2Proof/Machine/Rollover.lean ====
section
/-! DEFINITION. Rollover and the scans of the context store (07): which contexts a rollover holds (R49), the switch
(R328, R329), the drain end, the relink scan (R330, R370), and removal of flow entries with their pins (R318, R326). -/

namespace Sys2Proof.Machine

/-! ### Rollover state -/

/-- SWITCH of a context (R315). -/
def State.switchOf (s : State) (c : Nat) : Nat := sget (fun _ => 0) s.cts.switch c

def State.setSwitch (s : State) (c v : Nat) : State :=
  { s with cts := { s.cts with switch := sput (fun _ => 0) s.cts.switch c v } }

/-- When a DRAINING context ends its drain. -/
def State.drainEndOf (s : State) (c : Nat) : Nat := sget (fun _ => 0) s.cts.drainEnd c

/-- Whether a context has been installed and not been emptied: its links then mean contexts. -/
def cLinked (x : List Byte) : Bool := decide (csStandby ≤ cState x)

/-- Whether a predecessor's rollover runs: it has a successor (R49). -/
def cHasSucc (x : List Byte) : Bool := cLinked x && cSucc x != none32

/-- Whether a context is the successor of a context not yet EMPTY (R49, R316). -/
def State.isSuccessor (s : State) (c : Nat) : Bool :=
  let x := s.ctx c
  cLinked x && cPred x != none32 && cHasSucc (s.ctx (cPred x)) && cSucc (s.ctx (cPred x)) == c

/-- Busy with a rollover (R49): the predecessor from the install of its successor, the successor from its switch. -/
def State.rollBusy (s : State) (c : Nat) : Bool :=
  let x := s.ctx c
  cState x != csStandby && (cHasSucc x || s.isSuccessor c)

/-- The drain time of a predecessor in ms (R306, R337). -/
def State.drainMs (s : State) (x : List Byte) : Nat :=
  if cDrainMs x = 0 then s.get F.CTS_CFG_DRAIN_DEF_MS else cDrainMs x

/-- A predecessor that switches: it drains, and its drain ends DRAIN_MS later (R328). -/
def State.startDrain (s : State) (p : Nat) (x : List Byte) : State :=
  { s with cts := { s.cts with
    drainEnd := sput (fun _ => 0) s.cts.drainEnd p (s.time + s.drainMs x * 1000000) } }

/-- The switch, within the commit in progress (R328 step 2). -/
def State.switchPair (s : State) (p n : Nat) : State :=
  let x := s.ctx p
  let s := (s.commitCtx p true (setLE x 17 1 csDraining)).startDrain p x
  (s.commitCtx n true (setLE (s.ctx n) 17 1 csActive)).setSwitch n 0

/-- The pair of a rollover that waits for its switch, named by its successor. -/
def State.waitingPair (s : State) (n : Nat) : Option Nat :=
  let x := s.ctx n
  if cState x = csStandby ∧ s.isSuccessor n then some (cPred x) else none

/-! ### Flow entries of a context -/

/-- Remove a flow entry. -/
def State.dropFlow (s : State) (r : FlowRef) : State :=
  let k := feKey (s.flowGet r)
  let s := s.flowPut r []
  { s with cts := { s.cts with flowOnly := s.cts.flowOnly.filter (· != k) } }

/-- Remove every pinned flow entry that names a context. -/
def State.dropPinned (s : State) (c : Nat) : State :=
  { s with cts := { s.cts with
    flowOnly := s.cts.flowOnly.filter (fun k => !s.cts.pinFlows.any (fun e => feCtx e == c && feKey e == k))
    pinFlows := s.cts.pinFlows.filter (fun e => feCtx e != c) } }

/-- The other contexts of a MACSEC_RX quadruple. -/
def quadOthers (c : Nat) : List Nat := ((List.range 4).map (c / 4 * 4 + ·)).filter (· != c)

/-- The other installed contexts of the quadruple of a MACSEC_RX context (R370). -/
def State.quadMates (s : State) (c : Nat) : List Nat :=
  (quadOthers c).filter (fun i => cType (s.ctx i) == ctMacsecRx && cState (s.ctx i) != csEmpty)

/-- Whether another context of the quadruple is pinned: the SCI entry then stays pinned (R326). -/
def State.quadPinned (s : State) (c : Nat) : Bool := (s.quadMates c).any (fun i => cPinned (s.ctx i))

/-- What becomes of the flow entries when a context gives up its pin and its use, as in CTX_RETIRE (R318, R370); none
where the SCI entry of a quadruple must leave the pinned section and finds its buckets full. -/
def State.releaseFlows (s : State) (c : Nat) (x : List Byte) : Option State :=
  if cType x = ctMacsecRx ∧ !(s.quadMates c).isEmpty then
    if cPinned x && !s.quadPinned c then s.unpinEntries (flowCtxOf c ctMacsecRx) else some s
  else some (s.dropPinned (flowCtxOf c (cType x)))

/-- A context becomes EMPTY, within the commit in progress: every byte zero but VERSION, which rises, and LAST_CSN
(R318, R328 step 4). -/
def State.emptyCtx (s : State) (c : Nat) : State :=
  let s := (s.commitCtx c true (zeros 512)).setSwitch c 0
  { s with
    cts := { s.cts with drainEnd := serase s.cts.drainEnd c, salted := setDel c s.cts.salted }
    ipp := { s.ipp with saSeen := s.ipp.saSeen.filter (fun e => e.1 != c) } }

/-! ### The relink scan (R330) -/

/-- The contexts in FORWARD. -/
def State.forwards (s : State) : List Nat := (s.cts.ctxs.filter (fun e => cState e.2 == csForward)).map (·.1)

/-- Start a relink scan; one that already runs is followed by another. -/
def State.startScan (s : State) : State :=
  match s.cts.scan with
  | some _ => { s with cts := { s.cts with scanAgain := true } }
  | none => { s with cts := { s.cts with scan := some s.forwards } }.set F.CTS_STAT_RELINK_BUSY

/-- The relink of one flow entry, in a commit of its own (R328 step 4): rewritten to the successor for a transmit type,
removed for a receive type; a MACSEC_RX quadruple's SCI entry stays (R370). An entry that names a context no longer in
use is removed (R318). -/
def State.relinkOne (s : State) (ts : List Nat) (r : FlowRef) : State :=
  let e := s.flowGet r
  let c := feCtx e
  if e.isEmpty ∨ c = none32 then s
  else
    let x := s.ctx c
    let quad := feKtype e = 2 ∧ ((s.quadMates c).isEmpty = false ∨ cType x = ctMacsecRx)
    if quad then s
    else if ts.contains c ∧ cState x = csForward then
      let s := s.commitBegin.inc (R.CTS_CNT 10)
      if isTxType (cType x) then s.flowPut r (setLE e 40 4 (cSucc x)) else s.dropFlow r
    else if cState x = csEmpty ∧ !s.cts.flowOnly.contains (feKey e) then (s.commitBegin.inc (R.CTS_CNT 10)).dropFlow r
    else s

/-- Relink the entries of a list of keys. -/
def State.relinkKeys (s : State) (ts : List Nat) : List (List Byte) → State
  | [] => s
  | k :: ks => (match s.findFlow k with
    | some r => s.relinkOne ts r
    | none => s).relinkKeys ts ks

/-- A FORWARD context that the scan has served becomes EMPTY in a commit (R328 step 4). -/
def State.endForward (s : State) (c : Nat) : State :=
  let x := s.ctx c
  if cState x ≠ csForward then s
  else
    let s := match s.releaseFlows c x with
      | some s => s
      | none => s.dropPinned (flowCtxOf c (cType x))
    s.commitBegin.emptyCtx c

/-- The scan has passed over the CTS flow table and the pinned flow section. -/
def State.endScan (s : State) : State :=
  match s.cts.scan with
  | none => s
  | some ts =>
    let keys := (s.cts.pinFlows.map feKey) ++ s.cts.flows.map (fun e => feKey e.2)
    let s := (s.relinkKeys ts keys)
    let s := ts.foldl State.endForward s
    let again := s.cts.scanAgain
    let s := ({ s with cts := { s.cts with scan := none, scanAgain := false } }.clr F.CTS_STAT_RELINK_BUSY)
    let s := s.clr F.CTS_CTL_RELINK_NOW
    if again then s.startScan else s

/-- The drain-end commit (R328 step 3): FORWARD, keys and body zeroed, the pin kept. -/
def State.endDrain (s : State) (c : Nat) : State :=
  let x := s.ctx c
  if cState x ≠ csDraining ∨ s.time < s.drainEndOf c then s
  else
    let x := setLE (x.take 64 ++ zeros 384 ++ x.drop 448) 17 1 csForward
    let s := s.commitBegin.commitCtx c true x
    let s := { s with cts := { s.cts with drainEnd := serase s.cts.drainEnd c, salted := setDel c s.cts.salted } }
    if s.on F.CTS_CFG_RELINK_AUTO then s.startScan else s

/-- The switch at SWITCH_AT (R329, SWITCH 01). -/
def State.timedSwitch (s : State) (n : Nat) : State :=
  match s.waitingPair n with
  | some p => if s.switchOf n = 1 ∧ cSwitchAt (s.ctx n) ≤ s.time then s.commitBegin.switchPair p n else s
  | none => s

/-- The promotion of a GROUP context when device time passes NEXT_VALID_FROM (R312), which is in PTP seconds: the next
key and its period become current and the next fields are zeroed. -/
def promoted (x : List Byte) : List Byte :=
  let x := patch x 64 (slice x 176 32)
  let x := patch x 128 (slice x 132 4)
  let x := patch x 144 (slice x 160 16)
  patch (patch x 132 (zeros 4)) 160 (zeros 48)

/-- Whether a promotion is due. -/
def State.promotionDue (s : State) (x : List Byte) : Bool :=
  cType x == ctGroup && cState x == csActive && leAt x 160 8 != 0 &&
  decide (leAt x 160 8 * 1000000000 ≤ s.ipp.ptpNs)

/-- PROMOTION. -/
def State.promote (s : State) (c : Nat) : State :=
  let x := s.ctx c
  if s.promotionDue x then s.commitBegin.commitCtx c true (promoted x) else s

end Sys2Proof.Machine
end

