-- ==== Sys2Proof/Machine/CtsCmds.lean ====
section
/-! DEFINITION. The commands of the context store (07): memory-key rotation and the zero fill (R302 to R305), the scrub
(R301), stack temperatures (R332), and the timed steps of a rollover (R312, R328 to R330). -/

namespace Sys2Proof.Machine

/-! ### Rotation -/

/-- What a rotation takes from KEEP (R406): large objects are lost, and the trees of stateful keys are built again
(R397). -/
def State.loseObjects (s : State) : State :=
  let lost := s.slotsWhere (fun x => x.lobj && x.st == .live)
  let s := s.eraseSlots lost
  let s := if lost.isEmpty then s else (s.set F.KEEP_STAT_LOBJ_LOST).raise 202
  { s with keep := { s.keep with slots := s.keep.slots.map (fun e => (e.1, { e.2 with
      leaf := e.2.leaf.map (fun l => { l with builtEnd := l.next / (max 1 l.treeLeaves) * l.treeLeaves }) })) } }

/-- The contexts, caches and flow entries under the old key are gone (R302 step 3, R304). -/
def State.wipeStore (s : State) : State :=
  let s := { s with
    cts := { s.cts with ctxs := [], cache := [], switch := [], drainEnd := [], salted := [], flows := [], pinFlows := [],
                        flowOnly := [], scan := none, scanAgain := false }
    ipp := { s.ipp with saSeen := [] } }
  (s.clr F.CTS_STAT_RELINK_BUSY).clr F.CTS_CTL_RELINK_NOW

/-- HEA and DKE jobs whose state lies in a save area of CTS cannot go on (R115, R294, R303). -/
def State.loseSaves (s : State) : State :=
  s.faultJobs 0x09 (fun j => j.phase == .preempted && (j.res == .keccak || j.res == .sha2 || j.res == .dke))

/-- A rotation (R302, R303): with the draw, a new key; without it, NO_KEY. -/
def State.rotate (s : State) : State :=
  let ok := s.rngState == rngRunning
  let (k, s) := if ok then s.draw 12 32 else ([], s)
  let s := s.loseSaves.wipeStore.loseObjects
  let s := { s with mpe := { s.mpe with
    key := if ok then some k else none
    majors := [], minors := [], nodes := [], root := [], poison := [], filled := [], fillDone := false } }
  let s := s.put F.CTS_KEY_GEN_GEN (s.keyGen + 1)
  let s := ((s.clr F.CTS_STAT_POISON_FULL).putB F.CTS_STAT_NO_KEY (!ok)).putB F.CTS_STAT_READY (ok && s.cpm.ready.contains 4)
  (s.putB F.CTS_STAT_FILLING ok).startBuilds

/-- A write of CTS_CTL (R335). Only Cupola firmware may write ROTATE (R58). -/
def State.ctsCtlWrite (s : State) (r : Req) (v : Word) : State :=
  let n := v.toNat
  if bit n 0 && r != .cupola then s.denied r R.CTS_CTL true
  else
    let s := s.putB F.CTS_CTL_SCRUB_EN (bit n 1)
    let s := if bit n 8 then s.cntClearN (R.CTS_CNT 0) 11 else s
    let s := if bit n 2 then (s.set F.CTS_CTL_RELINK_NOW).startScan else s
    if bit n 0 then s.rotate else s

/-- A write of CTS_CFG (R337): a field out of range keeps its value. -/
def State.ctsCfgWrite (s : State) (v : Word) : State :=
  let n := v.toNat
  let v := if 1 ≤ bits n 0 16 ∧ bits n 0 16 ≤ 60000 then v else fieldSet 0 16 v (s.get F.CTS_CFG_DRAIN_DEF_MS)
  let v := if bits n 16 8 = 0 then fieldSet 16 8 v (s.get F.CTS_CFG_SCRUB_HOURS) else v
  s.wrGeneric R.CTS_CFG v

/-- A write of CTS_THERM (R338): each threshold from 70 °C to its reset value. -/
def State.ctsThermWrite (s : State) (v : Word) : State :=
  let n := v.toNat
  let f := fun (v : Word) (lo top : Nat) (old : Nat) =>
    if 70 ≤ bits n lo 8 ∧ bits n lo 8 ≤ top then v else fieldSet lo 8 v old
  let v := f v 0 95 (s.get F.CTS_THERM_T_REFRESH)
  let v := f v 8 105 (s.get F.CTS_THERM_T_THROTTLE)
  s.wrGeneric R.CTS_THERM (f v 16 110 (s.get F.CTS_THERM_T_CRIT))

/-! ### Fill and scrub -/

/-- The zero fill has filled every block (R304). -/
def State.fillComplete (s : State) : State :=
  if s.mpe.key.isNone || s.mpe.fillDone then s
  else ({ s with mpe := { s.mpe with fillDone := true, filled := [] } }).clr F.CTS_STAT_FILLING

/-- The data and metadata lines of the four stacks (R295). -/
def scrubLines : Nat := 4 * 36 * 2 ^ 30 / 64

/-- The source of a stack (R512). -/
def stackSource (addr : Nat) : Nat := 0x120 + addr / 2 ^ 14 % 4

/-- A scrub pass and what it found (R301). -/
def State.scrubPass (s : State) (f : ScrubFind) : State :=
  if !s.on F.CTS_CTL_SCRUB_EN || !s.ctsOpen then s
  else
    let s := s.count (R.CTS_CNT 6) scrubLines
    match f with
    | .clean => s
    | .corrected a => (s.report (stackSource a.toNat) 0x01 0 a.toNat).inc (R.CTS_CNT 7)
    | .uncorrectable a => s.report (stackSource a.toNat) 0x02 0 a.toNat
    | .lineMac a => s.macFail 0 a.toNat
    | .nodeMac a l => s.macFail (l.val + 1) a.toNat

/-! ### Stack temperatures (R332) -/

/-- A set of stacks after a sample, with 3 °C of hysteresis on the way down. -/
def hotSet (old : List Nat) (th : Nat) (ts : List Int) : List Nat :=
  (List.range 4).filter (fun i =>
    let t := ts.getD i 0
    decide ((th : Int) ≤ t) || (old.contains i && decide ((th : Int) - 3 < t)))

/-- A sample of the four stacks. -/
def State.stackTemps (s : State) (t : Temps4) : State :=
  let ts := [t.t0.toInt, t.t1.toInt, t.t2.toInt, t.t3.toInt]
  let crit := hotSet s.mpe.hotCrit (s.get F.CTS_THERM_T_CRIT) ts
  let new := crit.filter (fun i => !s.mpe.hotCrit.contains i)
  let s := s.wr R.CTS_TEMP (t.t3 ++ t.t2 ++ t.t1 ++ t.t0)
  let s := { s with mpe := { s.mpe with
    hotRefresh := hotSet s.mpe.hotRefresh (s.get F.CTS_THERM_T_REFRESH) ts
    hotThrottle := hotSet s.mpe.hotThrottle (s.get F.CTS_THERM_T_THROTTLE) ts
    hotCrit := crit } }
  let s := (List.range 4).foldl (fun s i => s.setLive (0x120 + i) 0x13 (crit.contains i)) s
  new.foldl (fun s i => s.report (0x120 + i) 0x13 0 0) s

/-! ### The commands -/

def execRotate (r : Req) (v : Word) (s : State) : Out :=
  .next (s.gateW r R.CTS_CTL (·.ctsCtlWrite r (v ||| 1)))

def execFillComplete (s : State) : Out := .next s.fillComplete

def execScrubPass (find : ScrubFind) (s : State) : Out := .next (s.scrubPass find)

def execPromotion (c : Fin 0x110000) (s : State) : Out := .next (s.promote c)

def execSwitchAtReached (c : Fin 0x110000) (s : State) : Out := .next (s.timedSwitch c)

def execRelinkNow (r : Req) (v : Word) (s : State) : Out :=
  .next (s.gateW r R.CTS_CTL (·.ctsCtlWrite r (v ||| 4)))

def execStackTempSample (t : Temps4) (s : State) : Out := .next (if s.power.coreUp then s.stackTemps t else s)

def execCtsCntClr (r : Req) (v : Word) (s : State) : Out :=
  .next (s.gateW r R.CTS_CTL (·.ctsCtlWrite r (v ||| 0x100)))

def execCtsCfgLock (r : Req) (v : Word) (s : State) : Out :=
  .next (s.gateW r R.CTS_CFG (·.ctsCfgWrite (v ||| 0x80000000)))

end Sys2Proof.Machine
end

