-- ==== Sys2Proof/Machine/BulkJobs.lean ====
section
/-! DEFINITION. The jobs of HEA, DKE and BCE: HASH (R174), MAC and MAC_COMPARE (R282, R428, R429), ENCRYPT and DECRYPT
(R278 to R281). -/

namespace Sys2Proof.Machine

/-- A HASH job (R174). -/
def State.runHash (s : State) (j : Job) : State :=
  s.withInput j fun x =>
    let alg := dAlg j.desc
    let n := if alg = 0x921 ∨ alg = 0x922 then leAt j.desc 64 4 else hashLen alg
    s.finishOut j x (hashOf alg n x.data) 0

/-! ### MACs -/

/-- The customisation string of a KMAC job; a fault on it has DETAIL 5. -/
def State.withCust (s : State) (j : Job) (k : List Byte → State) : State :=
  let n := byteAt j.desc 68
  if dAlg j.desc = 0xB01 ∨ n = 0 then k [] else s.withBytes j (leAt j.desc 72 8) n 5 k

/-- A keyed pass of DKE needs masks (R28); GMAC on a lane does not. -/
def State.macMasks (s : State) (j : Job) (k : State → State) : State :=
  if dAlg j.desc = 0xB01 then k s else s.needRng j (fun s => k (s.drawMasks j.engine))

/-- The MAC of a job (R282, R428). -/
def jobMac (d key cust data : List Byte) : List Byte :=
  if dAlg d = 0xB01 then aeadTag 0xB01 (key.take 32) (slice d 72 12) data [] (macLen d)
  else macOf (dAlg d) key data cust (macLen d)

/-- What a finished job of a DKE channel counts (R442): a message and its blocks, of which the spec does not say which it
counts (free). GMAC jobs run on lanes (R415). -/
def State.dkeCounts (s : State) (j : Job) : State :=
  if dAlg j.desc = 0xB01 then s
  else
    let (n, s) := s.freeNat
    (s.inc (R.DKE_CNT 0)).count (R.DKE_CNT 1) (n % 2 ^ 32)

/-- A MAC job. -/
def State.runMac (s : State) (j : Job) : State :=
  s.withInput j fun x => s.macMasks j fun s => s.withCust j fun c => s.withSlot j (dKeyHandle j.desc) 0 fun y =>
    (s.dkeCounts j).finishOut j x (jobMac j.desc y.key c x.data) 0

/-- A MAC_COMPARE job: no output in any case (R429). -/
def State.runMacCompare (s : State) (j : Job) : State :=
  s.withInput j fun x => s.macMasks j fun s => s.withCust j fun c => s.withSlot j (dKeyHandle j.desc) 0 fun y =>
    s.withBytes j (dAuxAddr j.desc) (macLen j.desc) 2 fun e =>
      let eq := jobMac j.desc y.key c x.data = e
      let s := s.dkeCounts j
      let s := if dAlg j.desc = 0xB01 then s else s.inc (R.DKE_CNT (if eq then 2 else 3))
      if eq then s.finishJob j (okResult j.engine 0 0 x.excess) else s.failJob j (stVerifyFail, 0)

/-! ### ENCRYPT and DECRYPT -/

def bcTag (d : List Byte) : Nat := byteAt d 66
def bcAad (d : List Byte) : Nat := leAt d 68 4

/-- Whether an ALG of R278 authenticates. -/
def isAead (alg : Nat) : Bool := alg == 0xB01 || alg == 0xC01

/-- Encrypt the data of a job under a key and an IV: ciphertext and tag (R280). -/
def bcEncrypt (d key iv data : List Byte) : List Byte :=
  let alg := dAlg d
  if isAead alg then
    let ct := streamCrypt alg (key.take 32) iv (data.drop (bcAad d))
    ct ++ aeadTag alg (key.take 32) iv (data.take (bcAad d)) ct (bcTag d)
  else if alg = 0xB02 then streamCrypt alg key iv data
  else fit data.length (Config.xtsEnc key iv data)

/-- Decrypt the data of a job; none where the tag does not verify (R280). -/
def bcDecrypt (d key iv data : List Byte) : Option (List Byte) :=
  let alg := dAlg d
  if isAead alg then
    let n := dDeclLen d - bcAad d - bcTag d
    let ct := slice data (bcAad d) n
    if aeadTag alg (key.take 32) iv (data.take (bcAad d)) ct (bcTag d) = data.drop (bcAad d + n) then
      some (streamCrypt alg (key.take 32) iv ct)
    else none
  else if alg = 0xB02 then some (streamCrypt alg key iv data)
  else some (fit data.length (Config.xtsDec key iv data))

/-- The IV of a job with a slot key (R279). -/
def bcIv (d : List Byte) : List Byte := slice d 72 (if isAead (dAlg d) then 12 else 16)

/-- The SESSION context of a job, still fit for it; none of it reachable ends the job FAULT_ABORT 0x09 (R281, R303). -/
def State.withSession (s : State) (j : Job) (k : List Byte → State) : State :=
  let c := dCtxId j.desc
  if !s.ctxReach c then s.failJob j (stFault, s.ctsDetail)
  else if s.sessionBad j.desc then s.failJob j (malformed 48)
  else k (s.ctx c)

/-- An ENCRYPT under a SESSION context: NEXT_IV advances in a data-path commit before the lane starts; at IV_LIMIT the
context is EXHAUSTED (R281). -/
def State.sessionEncrypt (s : State) (j : Job) (x : JobIn) : State :=
  s.withSession j fun c =>
    let d := j.desc
    let id := dCtxId d
    let iv := cCtr c
    if iv = leAt c 144 8 then (s.commit1 id true (setLE c 17 1 csExhausted)).failJob j (stCounter, 0)
    else
      let s := s.commit1 id false (ctxUse (setLE c 136 8 (iv + 1)) (dDeclLen d) s.time)
      let head := if bit (leAt d 64 2) 1 then natBE 8 iv else []
      s.finishOut j x (head ++ bcEncrypt d (cKey c) (saltNonce c (natBE 8 iv)) x.data) 0

/-- An ENCRYPT job. -/
def State.runEncrypt (s : State) (j : Job) : State :=
  s.withInput j fun x =>
    if dKeyHandle j.desc = none32 then s.sessionEncrypt j x
    else s.withSlot j (dKeyHandle j.desc) 0 fun y => s.finishOut j x (bcEncrypt j.desc y.key (bcIv j.desc) x.data) 0

/-- A DECRYPT under a SESSION context: it counts in a commit at its completion (R281). -/
def State.sessionDecrypt (s : State) (j : Job) (x : JobIn) : State :=
  s.withSession j fun c =>
    let d := j.desc
    let id := dCtxId d
    match bcDecrypt d (cKey c) (saltNonce c (slice d 72 8)) x.data with
    | some pt => (s.commit1 id false (ctxUse c (dDeclLen d) s.time)).finishOut j x pt 0
    | none => (s.commit1 id false (cntAdd c 3 1)).failJob j (stVerifyFail, 0)

/-- A DECRYPT job: no plaintext before the tag has verified. -/
def State.runDecrypt (s : State) (j : Job) : State :=
  s.withInput j fun x =>
    if dKeyHandle j.desc = none32 then s.sessionDecrypt j x
    else s.withSlot j (dKeyHandle j.desc) 0 fun y =>
      match bcDecrypt j.desc y.key (bcIv j.desc) x.data with
      | some pt => s.finishOut j x pt 0
      | none => s.failJob j (stVerifyFail, 0)

/-! ### The commands -/

def execHash (j : Nat) (s : State) : Out := .next (s.atUnit j opHash State.runHash)

def execMac (j : Nat) (s : State) : Out := .next (s.atUnit j opMac State.runMac)

def execMacCompare (j : Nat) (s : State) : Out := .next (s.atUnit j opMacCompare State.runMacCompare)

def execEncrypt (j : Nat) (s : State) : Out := .next (s.atUnit j opEncrypt State.runEncrypt)

def execDecrypt (j : Nat) (s : State) : Out := .next (s.atUnit j opDecrypt State.runDecrypt)

end Sys2Proof.Machine
end

