-- ==== Sys2Proof/Machine/Dke.lean ====
section
/-! DEFINITION. DKE in register mode and the Stream FIFO Interface (10): ownership, messages, lanes, and the block
boundaries of queue jobs (R430). -/

namespace Sys2Proof.Machine

/-! ### Functions (R414) -/

/-- Whether FUNC is a code of R414, and whether it is keyed. -/
def dkeFunc (f : Nat) : Bool := decide (1 ≤ f ∧ f ≤ 7)
def dkeKeyed (f : Nat) : Bool := decide (5 ≤ f)

/-- Block bytes, digest bytes, slot ALG and hash ALG of a FUNC. -/
def dkeBlock (f : Nat) : Nat := if f = 1 ∨ f = 2 ∨ f = 5 then 64 else 128
def dkeDigest (f : Nat) : Nat := [0, 28, 32, 48, 64, 32, 48, 64].getD f 0
def dkeAlg (f : Nat) : Nat := 0xA00 + (f - 4)
def dkeHash (f : Nat) : Nat := [0, 0x901, 0x902, 0x903, 0x904, 0x902, 0x903, 0x904].getD f 0

/-- The keyed digest of a message whose padding software supplied (R423): a long key is hashed, then the inner pass over
K ⊕ ipad and the message, then the outer pass. -/
def dkeHmac (f : Nat) (key msg : List Byte) : List Byte :=
  let h := dkeHash f
  let n := dkeDigest f
  let k := fit (dkeBlock f) (if dkeBlock f < key.length then hashOf h n key else key)
  let inner := fit n (Config.rawHash h (k.map (· ^^^ 0x36) ++ msg))
  hashOf h n (k.map (· ^^^ 0x5C) ++ inner)

/-- The digest of a message by FUNC. -/
def dkeResult (f : Nat) (key msg : List Byte) : List Byte :=
  if dkeKeyed f then dkeHmac f key msg else fit (dkeDigest f) (Config.rawHash (dkeHash f) msg)

/-! ### Lanes (R433 to R438) -/

/-- Bytes that a lane buffers. -/
def DkeCh.level (x : DkeCh) : Nat := x.packets.foldl (fun a p => a + p.bytes.length) 0

/-- The open packet of a lane, if there is one. -/
def DkeCh.openPkt (x : DkeCh) : Option SfiPacket :=
  match x.packets.getLast? with
  | some p => if p.closed then none else some p
  | none => none

/-- The packets of a lane without its open packet. -/
def DkeCh.dropOpen (x : DkeCh) : DkeCh := { x with packets := x.packets.filter (·.closed) }

/-- Append a word's valid bytes to the open packet, or open one with them; `last` closes it. -/
def DkeCh.append (x : DkeCh) (bs : List Byte) (last : Bool) : DkeCh :=
  match x.openPkt with
  | some p => { x with packets := x.packets.filter (·.closed) ++ [⟨p.bytes ++ bs, last⟩] }
  | none => { x with packets := x.packets ++ [⟨bs, last⟩] }

/-- Whether the channel absorbs the lane's open packet: it is in ABSORB and no closed packet stands before that one. -/
def DkeCh.absorbsOpen (x : DkeCh) : Bool := x.st == .absorb && (x.packets.filter (·.closed)).isEmpty

/-- The lane is flushed (R438): every byte is discarded, and each packet it held counts as dropped. -/
def State.sfiFlush (s : State) (c : Nat) : State :=
  let x := s.dkeCh c
  (s.putDke c { x with packets := [], dropping := false }).count (R.SFI_CNT c 2) x.packets.length

/-- A channel moves to ERROR with ERR and ERR_INFO (R420): its message and key are gone. -/
def State.dkeError (s : State) (c err info : Nat) : State :=
  let x := s.dkeCh c
  let s := s.putDke c { x with st := .error, msg := [], key := [], abortPend := false, tamperPend := false }
  ((s.put (F.DKE_STAT_ERR c) err).put (F.DKE_STAT_ERR_INFO c) info).inc (R.DKE_CNT 4)

/-- The open packet is dropped (R436, R437): later words of it are discarded unless it has just ended, and a channel
that was absorbing it moves to ERROR with ERR 0x15. -/
def State.sfiDrop (s : State) (c : Nat) (ended : Bool) : State :=
  let x := s.dkeCh c
  let hit := x.absorbsOpen
  let s := (s.putDke c { x.dropOpen with dropping := !ended }).inc (R.SFI_CNT c 2)
  if hit then s.dkeError c stLenShort 0 else s

/-- A word written to a lane: `n` valid bytes, `last` at an end mark (R433, R437). -/
def State.sfiWord (s : State) (c : Nat) (v : Word) (n : Nat) (last : Bool) : State :=
  let x := s.dkeCh c
  if x.dropping then
    (s.putDke c { x with dropping := !last }).inc (R.SFI_CNT c 3)
  else if 4096 < x.level + n then
    ((s.set (F.SFI_STAT_OVF c)).inc (R.SFI_CNT c 3)).sfiDrop c last
  else
    let s := (s.putDke c (x.append ((natLE 4 v.toNat).take n) last)).count (R.SFI_CNT c 1) n
    if last then s.inc (R.SFI_CNT c 0) else s

/-- A write of SFI_CTL (R437, R438). -/
def State.sfiCtlWrite (s : State) (c : Nat) (v : Word) : State :=
  let s := if bit v.toNat 0 then s.sfiFlush c else s
  if bit v.toNat 1 && (s.dkeCh c).openPkt.isSome then s.sfiDrop c false else s

/-- A write of SFI_CFG: 0 leaves UNDERRUN_US unchanged (R443). -/
def State.sfiCfgWrite (s : State) (c : Nat) (v : Word) : State :=
  if bits v.toNat 0 16 = 0 then s else s.put (F.SFI_CFG_UNDERRUN_US c) (bits v.toNat 0 16)

/-- An underrun (R436): no byte came in time after START or after the last word of an open packet. -/
def State.sfiUnderrun (s : State) (c : Nat) : State :=
  let x := s.dkeCh c
  let waits := (x.st == .absorb || x.st == .keying) && x.packets.isEmpty
  if !waits && x.openPkt.isNone then s
  else
    let s := s.set (F.SFI_STAT_UNDERRUN c)
    let s := if x.openPkt.isSome then s.sfiDrop c false else s
    if waits then s.dkeError c stLenShort 0 else s

/-! ### Ownership (R416 to R419) -/

/-- Channels held. -/
def State.dkeHeld (s : State) : Nat := ((List.range 4).filter (fun c => (s.dkeCh c).holder != 0)).length

/-- A TAKE by a requester (R417). -/
def State.dkeTake (s : State) (r : Req) (c : Nat) : State :=
  let x := s.dkeCh c
  let h := dkeHolder r
  if h = 0 ∨ x.holder ≠ 0 ∨ x.takePend ≠ 0 ∨ s.get F.DKE_CFG_MAX_LOCKS ≤ s.dkeHeld then s
  else if (s.running (0x60 + c)).isSome then s.putDke c { x with takePend := h }
  else s.putDke c { x with holder := h, st := .owned }

/-- A channel is released: its state is zeroed, its registers return to their reset values and its lane is flushed
(R419). -/
def State.dkeRelease (s : State) (c : Nat) : State :=
  let s := s.sfiFlush c
  (s.putDke c { DkeCh.idle with takePend := (s.dkeCh c).takePend }).resetRegs blkKinds (inInst .dkeCh c)

/-- Every channel that a holder has, and every TAKE of it that waits, goes with the holder's reset (R419). -/
def State.dkeHolderReset (s : State) (h : Nat) : State :=
  (List.range 4).foldl (fun s c =>
    let x := s.dkeCh c
    let s := if x.takePend = h then s.putDke c { x with takePend := 0 } else s
    if (s.dkeCh c).holder = h then s.dkeRelease c else s) s

/-- A write of DKE_CH_LOCK (R440). FORCE by a requester other than Cupola firmware has the effects of R58 (R419). -/
def State.dkeLockWrite (s : State) (r : Req) (c : Nat) (v : Word) : State :=
  if bit v.toNat 2 && r != .cupola then s.denied r (R.DKE_CH_LOCK c) true
  else
    let s := if bit v.toNat 2 && (s.dkeCh c).holder != 0 then s.dkeRelease c else s
    let mine := (s.dkeCh c).holder != 0 && (s.dkeCh c).holder == dkeHolder r
    let s := if bit v.toNat 1 && mine then s.dkeRelease c else s
    if bit v.toNat 0 then s.dkeTake r c else s

/-! ### Messages (R420 to R427) -/

/-- DKE_EXP as bytes. -/
def State.dkeExp (s : State) (c : Nat) : List Byte :=
  (List.range 16).flatMap (fun i => natLE 4 (s.rd (R.DKE_EXP c i)).toNat)

/-- Store a word in each of `n` registers from `o` on. -/
def State.wrWords (s : State) (o : Nat) : List Word → State
  | [] => s
  | v :: vs => (s.wr o v).wrWords (o + 4) vs

/-- A digest as the sixteen words of DKE_RES (R425). -/
def resWords (d : List Byte) : List Word := (List.range 16).map (fun i => BitVec.ofNat 32 (leAt d (4 * i) 4))

/-- Zero DKE_RES and DKE_EXP. -/
def State.dkeZeroRes (s : State) (c : Nat) : State :=
  (s.wrWords (R.DKE_RES c 0) (List.replicate 16 0)).wrWords (R.DKE_EXP c 0) (List.replicate 16 0)

/-- Whether a START may be accepted (R421). -/
def State.dkeStartOk (s : State) (c : Nat) : Bool :=
  let f := s.get (F.DKE_MODE_FUNC c)
  let none_ := s.rd (R.DKE_KEY c) == 0xFFFFFFFF
  let n := s.get (F.DKE_MODE_CMP_LEN c)
  (s.dkeCh c).st == .owned && dkeFunc f && (dkeKeyed f != none_) &&
  (!s.on (F.DKE_MODE_COMPARE c) || decide (s.get F.DKE_CFG_CMP_MIN ≤ n ∧ n ≤ dkeDigest f))

/-- START (R420, R421). -/
def State.dkeStart (s : State) (c : Nat) : State :=
  if s.dkeStartOk c then
    s.putDke c { s.dkeCh c with
      st := if dkeKeyed (s.get (F.DKE_MODE_FUNC c)) then .keying else .absorb, msg := [], key := [] }
  else s.set (F.DKE_STAT_CTL_REJECT c)

/-- Whether a message is under way (R420). -/
def DkeCh.inMessage (x : DkeCh) : Bool := x.st == .keying || x.st == .absorb || x.st == .finish

/-- CLEAR in DONE or ERROR (R420). -/
def State.dkeClear (s : State) (c : Nat) : State :=
  let x := s.dkeCh c
  if x.st = .done ∨ x.st = .error then
    let s := s.putDke c { x with st := .owned, msg := [], key := [] }
    let s := ((s.dkeZeroRes c).wr (R.DKE_CMP c) 0).wr64 (R.DKE_BYTES_LO c) (R.DKE_BYTES_HI c) 0
    (s.put (F.DKE_STAT_ERR c) 0).put (F.DKE_STAT_ERR_INFO c) 0
  else s

/-- ABORT in a message waits for the next block boundary (R420). -/
def State.dkeAbort (s : State) (c : Nat) : State :=
  let x := s.dkeCh c
  if x.inMessage then s.putDke c { x with abortPend := true } else s

/-- A write of DKE_CTL (R439): ABORT, CLEAR and START in this order. -/
def State.dkeCtlWrite (s : State) (c : Nat) (v : Word) : State :=
  let s := if bit v.toNat 1 then s.dkeAbort c else s
  let s := if bit v.toNat 2 then s.dkeClear c else s
  if bit v.toNat 0 then s.dkeStart c else s

/-- A write of DKE_MODE, DKE_KEY or DKE_EXP: only in OWNED (R421). -/
def State.dkeSetup (s : State) (c o : Nat) (v : Word) : State :=
  if (s.dkeCh c).st = .owned then
    (if decide (R.DKE_EXP c 0 ≤ o) then s.wr o v else s.wrGeneric o v)
  else s.set (F.DKE_STAT_CTL_REJECT c)

/-- The abort of a message at a block boundary: the open packet and what is left of the packet being absorbed are
dropped (R420). -/
def State.dkeAborted (s : State) (c : Nat) : State :=
  let x := s.dkeCh c
  let begun := x.st == .absorb && !x.msg.isEmpty
  let rest := if begun then x.packets.drop 1 else x.packets
  let kept := rest.filter (·.closed)
  let torn := x.openPkt.isSome
  let s := s.putDke c { x with
    st := .owned, msg := [], key := [], abortPend := false, packets := kept, dropping := x.dropping || torn }
  (s.count (R.SFI_CNT c 2) (x.packets.length - kept.length)).wr64 (R.DKE_BYTES_LO c) (R.DKE_BYTES_HI c) 0

/-- A message ends in ERROR by a Belfry reaction or a fault (R427). -/
def State.dkeLost (s : State) (c err info : Nat) : State :=
  ((s.dkeError c err info).dkeZeroRes c).sfiFlush c

/-- What waits for the next block boundary of a message acts (R420, R427); none where nothing waits. -/
def State.dkePending (s : State) (c : Nat) : Option State :=
  let x := s.dkeCh c
  if !x.inMessage then none
  else if x.tamperPend then some (s.dkeLost c stTamper 0)
  else if x.abortPend then some (s.dkeAborted c)
  else none

/-- A fault found in a message (R427): reported, and the channel moves to ERROR 0x41 with the KIND. -/
def State.dkeFault (s : State) (c k : Nat) : State := (s.report (0x60 + c) k 0 0).dkeLost c stFault k

/-- Run a step of a message unless an abort or a reaction waits, or a check failed. -/
def State.dkeStep (s : State) (c : Nat) (st : DkeState) (chk : Check) (k : State → State) : State :=
  if (s.dkeCh c).st ≠ st then s
  else match s.dkePending c with
    | some s' => s'
    | none => match chk with
      | some x => s.dkeFault c x.toNat
      | none => k s

/-- The first failed check of the slot that DKE_KEY names (R422): ERR and ERR_INFO, or the slot. -/
def State.dkeSlot (s : State) (c : Nat) : Except (Nat × Nat) Slot :=
  match s.liveSlot (s.rd (R.DKE_KEY c)).toNat with
  | none => .error (stSlotEmpty, 0)
  | some x =>
    if !(x.usage == usSign || (x.usage == usVerify && s.on (F.DKE_MODE_COMPARE c))) then .error (stKeyDenied, 1)
    else if x.alg ≠ dkeAlg (s.get (F.DKE_MODE_FUNC c)) then .error (stKeyDenied, 2)
    else
      let h := (s.dkeCh c).holder
      if h = 3 ∨ (h = 1 ∧ s.groupOwner x.group = 0) ∨ (h = 2 ∧ x.group = 31) then .ok x else .error (stKeyDenied, 3)

/-- KEYING ends (R420, R422). It waits while RNG has no randomness for the masks of the keyed passes (R28, R110). -/
def State.dkeKeyingDone (s : State) (c : Nat) : State :=
  s.dkeStep c .keying none fun s =>
    match s.dkeSlot c with
    | .error e => s.dkeError c e.1 e.2
    | .ok x =>
      if s.rngState ≠ rngRunning then s
      else
        let s := s.drawMasks (0x60 + c)
        s.putDke c { s.dkeCh c with st := .absorb, key := x.key, keyVerify := x.usage == usVerify }

/-- The beat at the head of a lane: its bytes and whether it carries the end of the packet (R434). -/
def DkeCh.beat (x : DkeCh) : Option (List Byte × Bool) :=
  match x.packets with
  | [] => none
  | p :: _ =>
    if 64 < p.bytes.length ∨ (p.bytes.length = 64 ∧ !p.closed) then some (p.bytes.take 64, false)
    else if p.closed then some (p.bytes, true)
    else none

/-- The lane without the beat at its head. -/
def DkeCh.tail (x : DkeCh) : DkeCh :=
  match x.packets with
  | [] => x
  | p :: ps => if p.closed ∧ p.bytes.length ≤ 64 then { x with packets := ps }
    else { x with packets := ⟨p.bytes.drop 64, p.closed⟩ :: ps }

/-- The channel absorbs a beat (R434, R435). -/
def State.dkeBeat (s : State) (c : Nat) (chk : Check) : State :=
  match (s.dkeCh c).beat with
  | none => s
  | some (bs, eop) => s.dkeStep c .absorb chk fun s =>
    let x := s.dkeCh c
    let b := dkeBlock (s.get (F.DKE_MODE_FUNC c))
    let m := x.msg ++ bs
    let s := s.putDke c { x.tail with msg := m }
    let s := s.wr64 (R.DKE_BYTES_LO c) (R.DKE_BYTES_HI c) m.length
    let s := s.count (R.DKE_CNT 1) (m.length / b - x.msg.length / b)
    if !eop then s
    else if m.length % b ≠ 0 then s.dkeError c stMalformed 0
    else s.putDke c { s.dkeCh c with st := .finish }

/-- The message ends (R425, R426); `disagree`: the two comparators disagree. -/
def State.dkeFinish (s : State) (c : Nat) (disagree : Bool) (chk : Check) : State :=
  s.dkeStep c .finish chk fun s =>
    let x := s.dkeCh c
    let d := dkeResult (s.get (F.DKE_MODE_FUNC c)) x.key x.msg
    let s := ((s.putDke c { x with st := .done, msg := [], key := [] }).wrWords (R.DKE_RES c 0) (resWords d)).inc (R.DKE_CNT 0)
    if !s.on (F.DKE_MODE_COMPARE c) then s
    else if disagree then ((s.wr (R.DKE_CMP c) 0).set (F.DKE_STAT_CMP_FAULT c)).report (0x60 + c) 0x04 0 0
    else
      let n := s.get (F.DKE_MODE_CMP_LEN c)
      if d.take n = (s.dkeExp c).take n then (s.wr (R.DKE_CMP c) 0x9696).inc (R.DKE_CNT 2)
      else (s.wr (R.DKE_CMP c) 0x6969).inc (R.DKE_CNT 3)

/-- What a read of DKE_RES or DKE_CMP (k = 16) returns, with the flags it sets (R424, R425). -/
def State.dkeResRead (s : State) (c k : Nat) : State :=
  let x := s.dkeCh c
  if x.st ≠ .done then { (s.set (F.DKE_STAT_EARLY_READ c)).inc (R.DKE_CNT 5) with busOut := 0 }
  else if k = 16 then { s with busOut := (s.rd (R.DKE_CMP c)).setWidth 64 }
  else if dkeKeyed (s.get (F.DKE_MODE_FUNC c)) && x.keyVerify then
    { s.set (F.DKE_STAT_RES_DENIED c) with busOut := 0 }
  else { s with busOut := (s.rd (R.DKE_RES c k)).setWidth 64 }

/-- A Belfry reaction in register mode: every message ends at its next block boundary (R427, R477). -/
def State.tamperDke (s : State) : State :=
  (List.range 4).foldl (fun s c =>
    let x := s.dkeCh c
    if x.inMessage then s.putDke c { x with tamperPend := true } else s) s

/-! ### Queue jobs (R430) -/

/-- A queue job is preempted to its save area; a pending TAKE is granted. -/
def State.dkePreempt (s : State) (c : Nat) (j : Job) : State :=
  ((s.putJob { j with phase := .preempted }).inc (R.DKE_CNT 6)).dkeGrant (0x60 + c)

/-- A block boundary of a channel: a pending abort, then a preemption (R430); in register mode what waits for it. -/
def State.dkeBoundary (s : State) (c : Nat) : State :=
  match s.running (0x60 + c) with
  | some j =>
    if j.wait ≠ .none then s
    else match j.abort with
      | .tamper n => s.tamperJob j n
      | .flush => s.failJob j (stFlushed, 2)
      | .none =>
        let free := ((enginesOf .dke).find? s.dkeFree).isSome
        let higher := decide (minClass (s.readyQueues .dke) < j.cls) ||
          (match s.savedDke with
           | some k => decide (k.cls < j.cls)
           | none => false)
        if (s.dkeCh c).takePend ≠ 0 ∨ (higher ∧ !free) then s.dkePreempt c j else s
  | none => (s.dkePending c).getD s

/-! ### Common registers (R442) -/

/-- A write of DKE_CFG: an out-of-range value leaves its field unchanged; LOCK locks both. -/
def State.dkeCfgWrite (s : State) (v : Word) : State :=
  let a := bits v.toNat 0 3
  let b := bits v.toNat 8 7
  let v := if 4 < a then fieldSet 0 3 v (s.get F.DKE_CFG_MAX_LOCKS) else v
  let v := if b < 10 ∨ 64 < b then fieldSet 8 7 v (s.get F.DKE_CFG_CMP_MIN) else v
  s.wrGeneric R.DKE_CFG v

/-- A write of DKE_GCTL: CNT_CLR zeroes every counter of DKE and SFI. -/
def State.dkeGctlWrite (s : State) (v : Word) : State :=
  if bit v.toNat 0 then
    (List.range 4).foldl (fun s c => s.cntClearN (R.SFI_CNT c 0) 4) (s.cntClearN (R.DKE_CNT 0) 8)
  else s

/-! ### Commands -/

def execDkeTake (r : Req) (c : Fin 4) (s : State) : Out := .next (s.gateW r (R.DKE_CH_LOCK c) (·.dkeLockWrite r c 1))

def execDkeRelease (r : Req) (c : Fin 4) (s : State) : Out := .next (s.gateW r (R.DKE_CH_LOCK c) (·.dkeLockWrite r c 2))

def execDkeForce (r : Req) (c : Fin 4) (s : State) : Out := .next (s.gateW r (R.DKE_CH_LOCK c) (·.dkeLockWrite r c 4))

def execDkeBlockBoundary (c : Fin 4) (s : State) : Out := .next (s.dkeBoundary c)

def execDkeStart (r : Req) (c : Fin 4) (s : State) : Out := .next (s.gateW r (R.DKE_CTL c) (·.dkeCtlWrite c 1))

def execDkeAbort (r : Req) (c : Fin 4) (s : State) : Out := .next (s.gateW r (R.DKE_CTL c) (·.dkeCtlWrite c 2))

def execDkeClear (r : Req) (c : Fin 4) (s : State) : Out := .next (s.gateW r (R.DKE_CTL c) (·.dkeCtlWrite c 4))

def execKeyingDone (c : Fin 4) (s : State) : Out := .next (s.dkeKeyingDone c)

def execBeatAbsorbed (c : Fin 4) (chk : Check) (s : State) : Out := .next (s.dkeBeat c chk)

def execFinishDone (c : Fin 4) (disagree : Bool) (chk : Check) (s : State) : Out := .next (s.dkeFinish c disagree chk)

def execResultRead (r : Req) (c : Fin 4) (k : Fin 17) (s : State) : Out :=
  .next (s.gateR r (if k.val = 16 then R.DKE_CMP c else R.DKE_RES c k) (·.dkeResRead c k))

def execDkeCntClr (r : Req) (v : Word) (s : State) : Out :=
  .next (s.gateW r R.DKE_GCTL (·.dkeGctlWrite (v ||| 1)))

def execDkeCfgLock (r : Req) (v : Word) (s : State) : Out :=
  .next (s.gateW r R.DKE_CFG (·.dkeCfgWrite (v ||| 0x80000000)))

def execSfiData (r : Req) (c : Fin 4) (v : Word) (s : State) : Out :=
  .next (s.gateW r (R.SFI_DATA c) (·.sfiWord c v 4 false))

def execSfiEop (r : Req) (c : Fin 4) (n : Fin 4) (v : Word) (s : State) : Out :=
  .next (s.gateW r (R.SFI_EOP c n) (·.sfiWord c v (n + 1) true))

def execSfiFlush (r : Req) (c : Fin 4) (s : State) : Out := .next (s.gateW r (R.SFI_CTL c) (·.sfiCtlWrite c 1))

def execAbortPkt (r : Req) (c : Fin 4) (s : State) : Out := .next (s.gateW r (R.SFI_CTL c) (·.sfiCtlWrite c 2))

def execUnderrun (c : Fin 4) (s : State) : Out := .next (s.sfiUnderrun c)

end Sys2Proof.Machine
end

