-- ==== Sys2Proof/Machine/Flash.lean ====
section
/-! DEFINITION. The xSPI flash (R576) and the update session that writes it (R593). -/

namespace Sys2Proof.Machine

/-- An erased byte of flash. -/
def flashDefault (_ : Nat) : Byte := 0xFF

/-- Read `n` bytes of flash. -/
def State.flashRead (s : State) (a : Nat) : Nat → List Byte
  | 0 => []
  | n + 1 => sget flashDefault s.cup.flash a :: s.flashRead (a + 1) n

/-- Program bytes. -/
def flashPut (m : List Host.Cell) (a : Nat) : List Byte → List Host.Cell
  | [] => m
  | b :: bs => flashPut (sput flashDefault m a b) (a + 1) bs

/-- Program bytes into flash that has been erased. -/
def State.flashWrite (s : State) (a : Nat) (bs : List Byte) : State :=
  { s with cup := { s.cup with flash := flashPut s.cup.flash a bs } }

/-- Erase `n` bytes of flash. -/
def State.flashErase (s : State) (a n : Nat) : State :=
  { s with cup := { s.cup with flash := s.cup.flash.filter (fun e => !decide (a ≤ e.1 ∧ e.1 < a + n)) } }

/-- Where a BOOT or CONFIG copy lies (R576): TARGET 1 BOOT, 2 CONFIG; copy 0 A, 1 B. -/
def copyBase (target copy : Nat) : Nat :=
  if target = 1 then (if copy = 0 then 0x10000 else 0xC10000) else if copy = 0 then 0x1810000 else 0x2010000

/-- The size of the partition of a TARGET. -/
def copySize (target : Nat) : Nat := if target = 1 then 0xC00000 else 0x800000

/-- The erase sector (R533). -/
def sectorSize : Nat := 65536

/-- The copies that an update writes (R593): the one not selected at the last system reset; both in RECOVERY for CONFIG
and in ROM recovery for BOOT. -/
def State.updCopies (s : State) (target : Nat) : List Nat :=
  let m := s.get F.CUP_BOOT_STAT_MODE
  if (target = 2 ∧ m = 2) ∨ (target = 1 ∧ m = 3) then [0, 1]
  else if target = 1 then [1 - s.get F.CUP_BOOT_STAT_BOOT_COPY] else [1 - s.get F.CUP_BOOT_STAT_CFG_COPY]

/-- Erase the sectors that cover the first `n` bytes of the copies of a TARGET. -/
def State.eraseCopies (s : State) (target n : Nat) : State :=
  (s.updCopies target).foldl
    (fun s c => s.flashErase (copyBase target c) ((n + sectorSize - 1) / sectorSize * sectorSize)) s

/-- The session ends other than by a successful UPDATE_END (R593): the first sector of the copy is erased. `count`: an
abnormal end, which CUP_UPD_STAT counts. -/
def State.endUpdate (s : State) (count : Bool) : State :=
  match s.cup.upd with
  | none => s
  | some u =>
    let s := if u.stage.isSome then s else s.eraseCopies u.target sectorSize
    let s := { s with cup := { s.cup with upd := none } }
    let s := ((s.put F.CUP_UPD_STAT_PHASE 0).put F.CUP_UPD_STAT_HOLDER 0).put F.CUP_UPD_STAT_TARGET 0
    if count then s.put F.CUP_UPD_STAT_ABNORMAL (min 0xFFFF (s.get F.CUP_UPD_STAT_ABNORMAL + 1)) else s

end Sys2Proof.Machine
end

