-- ==== Sys2Proof/Machine/KeepJobs.lean ====
section
/-! DEFINITION. The jobs of KEEP (09): KEEP_LOAD, KEEP_ERASE, DERIVE, WRAP, UNWRAP, ATTEST, and the loading of blobs by
Cupola firmware (R411). -/

namespace Sys2Proof.Machine

/-! ### Erasing (R404 to R406) -/

/-- `n` granules freed did not read back zero: they are withdrawn, ZERO_FAIL is set and KIND 0x02 reported (R405). -/
def State.zeroFail (s : State) (n : Nat) : State :=
  if n = 0 then s
  else
    let s := { s with keep := { s.keep with withdrawn := min 16384 (s.keep.withdrawn + n) } }
    ((s.set F.KEEP_STAT_ZERO_FAIL).count (R.KEEP_CNT 8) n).report srcKeep 0x02 0 0

/-- The LIVE slots that a KEEP_ERASE names (R404). -/
def State.eraseList (s : State) (j : Job) : List Nat :=
  let d := j.desc
  let live := fun (p : Slot → Bool) => s.slotsWhere (fun x => x.st == .live && x.group == j.group && p x)
  if byteAt d 64 = 0 then [hSlot (dKeyHandle d)]
  else if byteAt d 64 = 1 then live (fun _ => true)
  else live (fun x => decide (x.epoch < leAt d 68 4))

/-- Erase one slot, or first ask for the record that ends its leaves (R187). -/
def State.eraseOne (s : State) (id i : Nat) : State :=
  match (s.slot i).leaf, (s.slot i).cell with
  | some l, some c => s.jrRequest ⟨.erase id, i, c, l.uid, l.limit⟩
  | _, _ => s.eraseSlot i

/-- A KEEP_ERASE job; with stateful keys it completes when their records are written. -/
def State.runKeepErase (s : State) (bad : Nat) (j : Job) : State :=
  let is := s.eraseList j
  if byteAt j.desc 64 = 0 ∧ (s.liveSlot (dKeyHandle j.desc)).isNone then s.failJob j (stSlotEmpty, 0)
  else
    let wait := is.any (fun i => (s.slot i).leaf.isSome)
    let s := (is.foldl (fun s i => s.eraseOne j.id i) s).zeroFail bad
    if wait then s.putJob { j with wait := .journal, iters := is.length }
    else s.finishJob j ⟨stOk, is.length, 0, j.engine, false⟩

/-- Every slot is erased, RESERVED ones included (R406). -/
def State.eraseAllSlots (s : State) : State := s.eraseSlots (s.slotsWhere (fun _ => true))

/-- Power-on or system reset, or a block reset of KEEP: every slot EMPTY with GEN 1 (R380, R406). -/
def State.clearSlots (s : State) : State :=
  { s with keep := { s.keep with slots := [], erasures := 0, withdrawn := 0, sfevt := [], jr := none, jrQueue := [] } }

/-! ### KEEP_LOAD (R386 to R388) -/

/-- The check of a public key that KEEP_LOAD PUBLIC makes (R387): as R137 for ML-KEM and HQC, and point validity on
curves; of a composite, those of its parts. -/
def publicOk (alg : Nat) (pk : List Byte) : Bool :=
  if isMlKem alg || isHqc alg then encapsKeyOk alg pk
  else if isComp alg then (!isCompKem alg || encapsKeyOk alg pk) && compPointOk alg pk
  else if algHigh alg == 7 && alg != 0x731 then Config.pubKeyOk alg 0 pk
  else true

/-- A KEEP_LOAD job. -/
def State.runKeepLoad (s : State) (j : Job) : State :=
  let d := j.desc
  let n := leAt d 76 4
  let src := byteAt d 64
  let slot := fun (origin : Nat) (exp : Bool) (key : List Byte) =>
    newSlot (byteAt d 65) origin exp (dAlg d) j.group (leAt d 72 4) key
  if src = 1 then
    s.withInput j fun x => s.needRng j fun s =>
      let (b, s) := s.draw 11 n
      (s.inc (R.KEEP_CNT 0)).finishSlots j x [] [slot orGenerated (bit (byteAt d 66) 0) b]
  else s.withInput j fun x =>
    if src = 0 then (s.inc (R.KEEP_CNT 0)).finishSlots j x [] [slot orImported (bit (byteAt d 66) 0) x.data]
    else if !publicOk (dAlg d) x.data then s.failQuiet j (stVerifyFail, 0)
    else if 16384 < n ∧ !s.ctsOpen then s.failJob j (stFault, s.ctsDetail)
    else (s.inc (R.KEEP_CNT 0)).finishSlots j x []
      [{ slot orImported true x.data with pkDigest := pkDigest x.data, lobj := decide (16384 < n) }]

/-! ### DERIVE (R389 to R392) -/

/-- HMAC with the hash of a PRF class: ALG 0x0A01 to 0x0A03. -/
def prfHmac (alg : Nat) (key msg : List Byte) : List Byte :=
  let h := 0xA00 + prfOf alg
  fit (hmacLen h) (Config.hmac h key msg)

/-- `n` blocks of the SP 800-108 counter mode, from block `i`; L in bits (R390). -/
def counterBlocks (alg : Nat) (k p : List Byte) (bits_ : Nat) : Nat → Nat → List Byte
  | _, 0 => []
  | i, n + 1 => prfHmac alg k (natBE 4 i ++ p ++ natBE 4 bits_) ++ counterBlocks alg k p bits_ (i + 1) n

/-- `n` chained blocks T(i) = prf(k, T(i − 1) ‖ m ‖ i): HKDF expansion and IKEv2 prf+. -/
def chainBlocks (alg : Nat) (k m prev : List Byte) : Nat → Nat → List Byte
  | _, 0 => []
  | i, n + 1 =>
    let t := prfHmac alg k (prev ++ m ++ natLE 1 i)
    t ++ chainBlocks alg k m t (i + 1) n

/-- The blocks that `n` bytes take. -/
def blocksFor (alg n : Nat) : Nat := (n + hmacLen (0xA00 + prfOf alg) - 1) / hmacLen (0xA00 + prfOf alg)

/-- The derived bytes (R390): `role` as DFLAGS, `split` as SPLIT. -/
def kdf (alg : Nat) (role : Bool) (split : Nat) (k1 k2 p : List Byte) (n : Nat) : List Byte :=
  let key := if role then p else k1
  let msg := if role then k1 ++ k2 else k2 ++ p
  fit n (
    if alg ≤ 0xD03 then counterBlocks alg k1 p (8 * n) 1 (blocksFor alg n)
    else if alg = 0xD11 then kmac256 k1 (p.drop split) (p.take split) n
    else if isHkdf alg then
      chainBlocks alg (prfHmac alg (p.take split) (k1 ++ k2)) (p.drop split) [] 1 (blocksFor alg n)
    else if alg ≤ 0xD33 then prfHmac alg key msg
    else chainBlocks alg key msg [] 1 (blocksFor alg n))

/-- The pieces of the derived bytes, one for each destination. -/
def deal : List Dest → List Byte → List (Dest × List Byte)
  | [], _ => []
  | e :: es, b => (e, b.take e.len) :: deal es (b.drop e.len)

/-- The new slots of the SLOT destinations. -/
def State.derivedSlots (s : State) (j : Job) (ps : List (Dest × List Byte)) : List Slot :=
  let exp := s.deriveExportable j.desc
  (ps.filter (·.1.dtype == 1)).map (fun p =>
    newSlot p.1.usage orDerived (p.1.flags % 2 == 1 && exp) p.1.alg j.group p.1.epoch p.2)

/-- Every CONTEXT destination in the commit in progress: RESERVED, with group, epoch, KEY and SALT (R392). -/
def State.deriveContexts (s : State) (group : Nat) (ps : List (Dest × List Byte)) : State :=
  ps.foldl (fun s p =>
    let c := p.1.target
    let x := setLE (setLE (setLE (zeros 512) 17 1 csReserved) 22 1 group) 44 4 p.1.epoch
    let x := patch (patch x 64 (p.2.take 32)) 96 (p.2.drop 32)
    let s := { s with cts := { s.cts with
      salted := if p.2.length = 36 then setIns c s.cts.salted else setDel c s.cts.salted } }
    s.commitCtx c true (setLE x 0 8 (cVersion (s.ctx c)))) s

/-- The key input K1 (R389): the slot of KEY_HANDLE, or the KEY field of a SESSION context. -/
def State.deriveK1 (s : State) (j : Job) (k : List Byte → State) : State :=
  let d := j.desc
  if bit (leAt d 64 2) 1 then
    if !s.ctxReach (dCtxId d) then s.failJob j (stFault, s.ctsDetail)
    else if cType (s.ctx (dCtxId d)) ≠ ctSession then s.failJob j (malformed 48)
    else k (cKey (s.ctx (dCtxId d)))
  else s.withSlot j (dKeyHandle d) 0 (fun x => k x.key)

/-- The key input K2, empty where it is not named. -/
def State.deriveK2 (s : State) (j : Job) (k : List Byte → State) : State :=
  if dAuxHandle j.desc = none32 then k [] else s.withSlot j (dAuxHandle j.desc) 1 (fun x => k x.key)

/-- A DERIVE job: every destination is written or none (R392). -/
def State.runDerive (s : State) (j : Job) : State :=
  s.withInput j fun x => s.deriveK1 j fun k1 => s.deriveK2 j fun k2 =>
    let d := j.desc
    let es := destEntries (byteAt d 66) (d.drop 128)
    let ps := deal es (kdf (dAlg d) (bit (leAt d 64 2) 0) (byteAt d 67) k1 k2 x.data (destSum es))
    let cs := ps.filter (·.1.dtype == 2)
    let ks := s.derivedSlots j ps
    if cs.any (fun p => !s.ctxReach p.1.target) then s.failJob j (stFault, s.ctsDetail)
    else if cs.any (fun p => !s.ctxTakes j.group p.1.target) then s.failJob j (malformed 56)
    else if j.targets.length ≠ ks.length then s.failJob j (stSlotEmpty, 2)
    else match writeBufs s j.owner x.outs ((ps.filter (·.1.dtype == 3)).flatMap (·.2)) with
      | (s, false) => s.failJob j (stAddrFault, 1)
      | (s, true) =>
        let h := match j.targets with
          | t :: _ => s.handleOf t
          | [] => 0
        let s := if cs.isEmpty then s else s.commitBegin.deriveContexts j.group cs
        ((s.fillAll (j.targets.zip ks)).inc (R.KEEP_CNT 1)).finishJob j
          (okResult j.engine h ((ps.filter (·.1.dtype == 3)).map (·.1.len)).sum x.excess)

/-! ### WRAP (R393 to R395) -/

/-- ATTR of a blob and a statement: ORIGIN, EXPORTABLE, STATEFUL. -/
def Slot.attr (x : Slot) : Nat :=
  x.origin + (if x.exportable then 4 else 0) + (if x.leaf.isSome then 8 else 0)

/-- The 64-byte header of a blob (R395). -/
def State.blobHeader (s : State) (x : Slot) (nonce : List Byte) : List Byte :=
  [0x4B, 0x42, 0x4C, 0x42] ++ natLE 2 1 ++ natLE 2 64 ++ natLE 2 x.alg ++ natLE 1 x.usage ++ natLE 1 x.attr ++
  natLE 4 x.epoch ++ natLE 1 x.group ++ natLE 1 (s.get F.LCS_STATE_STATE) ++ natLE 1 (x.cell.getD 0) ++ natLE 1 0 ++
  natLE 4 x.keyLen ++ natLE 8 ((x.leaf.map (·.uid)).getD 0) ++ nonce ++ natLE 4 s.keep.bbkGen ++ zeros 16

/-- A blob of a slot under K_B. -/
def State.blobOf (s : State) (kb : List Byte) (x : Slot) (nonce : List Byte) : List Byte :=
  let h := s.blobHeader x nonce
  let r := gcmSeal kb nonce h x.key
  h ++ r.1 ++ r.2

/-- A WRAP job. -/
def State.runWrap (s : State) (j : Job) : State :=
  let d := j.desc
  let f := wFormat d
  s.withInput j fun x => s.withSlot j (dAuxHandle d) 1 fun y =>
    if f = 1 then s.withSlot j (dKeyHandle d) 0 fun k =>
      (s.inc (R.KEEP_CNT 2)).finishOut j x (fit ((y.keyLen + 7) / 8 * 8 + 8) (Config.kwWrap (dAlg d) (k.key.take 32) y.key)) 0
    else s.needRng j fun s =>
      let (iv, s) := s.draw 11 12
      if f = 0 then match s.blobKey with
        | some kb => (s.inc (R.KEEP_CNT 2)).finishOut j x (s.blobOf kb y iv) 0
        | none => s.failJob j (malformed 64)
      else s.withSlot j (dKeyHandle d) 0 fun k =>
        let r := gcmSeal (k.key.take 32) iv x.data y.key
        (s.inc (R.KEEP_CNT 2)).finishOut j x (iv ++ r.1 ++ r.2) 0

/-! ### UNWRAP (R394, R397) -/

/-- Whether bytes have the form of a blob (R395, R398). -/
def blobForm (b : List Byte) : Bool :=
  b.take 4 == [0x4B, 0x42, 0x4C, 0x42] && leAt b 4 2 == 1 && leAt b 6 2 == 64 && decide (80 ≤ b.length) &&
    leAt b 20 4 + 80 == b.length

/-- The slot that a blob restores; none where the tag fails (R395, R397). The types of a stateful key, its BLOCK and its
WARN stand in the body in a way that the blob does not state. -/
def State.openBlob (s : State) (b : List Byte) : Option Slot :=
  match s.blobKey with
  | none => none
  | some kb =>
    let n := leAt b 20 4
    (gcmOpen kb (slice b 32 12) (b.take 64) (slice b 64 n) (slice b (64 + n) 16)).map (fun key =>
      let a := byteAt b 11
      let x := newSlot (byteAt b 10) (a % 4) (bit a 2) (leAt b 8 2) (byteAt b 16) (leAt b 12 4) key
      if bit a 3 then
        let (lv, ts, bl, w) := Config.blobTypes (leAt b 8 2) key
        let hs := ((Config.statefulSizes (leAt b 8 2) lv ts).map (·.2.2)).getD []
        { x with
          cell := some (byteAt b 18 % 64)
          leaf := some ⟨leAt b 24 8, 0, 0, 2 ^ hs.sum, 2 ^ bl, 2 ^ hs.sum / 2 ^ w, .blocked, lv, ts,
            2 ^ hs.getLastD 0, 0, false, false⟩ }
      else x)

/-- Whether a slot in use holds a stateful key of a UID (R397). -/
def State.uidLive (s : State) (uid : Nat) : Bool :=
  !(s.slotsWhere (fun x => x.leaf.any (·.uid == uid))).isEmpty

/-- The checks of a blob: its form, the battery-backed key, its group (for a job), and a UID that no slot holds. -/
def State.blobErr (s : State) (b : List Byte) (group : Option Nat) : Option Err :=
  firstErr [(!blobForm b, malformed 16), (!(s.keep.bbkValid && s.otp.ds.isSome), malformed 64),
    (bit (byteAt b 11) 3 && s.uidLive (leAt b 24 8), malformed 16),
    (match group with
     | some g => byteAt b 16 != g
     | none => false, keyDenied 0 3)]

/-- A stateful key enters its reserved slot and KEEP asks for the records of its UID (R397, R412 Load 1). -/
def State.seekLoad (s : State) (t : Nat) (x : Slot) (job : Option Nat) : State :=
  let old := s.slot t
  let s := s.putSlot t { x with st := .reserved, gen := old.gen, freedAt := old.freedAt }
  match x.leaf, x.cell with
  | some l, some c => s.jrRequest ⟨.seek job, t, c, l.uid, l.limit⟩
  | _, _ => s

/-- UNWRAP of a blob. -/
def State.unwrapBlob (s : State) (j : Job) (x : JobIn) : State :=
  match s.blobErr x.data (some j.group) with
  | some e => (if e.1 = stKeyDenied then s.inc (R.KEEP_CNT 6) else s).failJob j e
  | none => match s.openBlob x.data with
    | none => (s.inc (R.KEEP_CNT 7)).failJob j (stVerifyFail, 0)
    | some y => match y.leaf, j.targets with
      | some _, t :: _ => (s.putJob { j with wait := .journal, inp := some x }).seekLoad t y (some j.id)
      | some _, [] => s.failJob j (stSlotEmpty, 2)
      | none, _ => (s.inc (R.KEEP_CNT 3)).finishSlots j x [] [y]

/-- Whether an unwrapped key has a length that its new ALG takes (R383, R398). -/
def unwrappedOk (alg len : Nat) : Bool := if isSymAlg alg then symLenOk alg len else privLenOk alg len

/-- An UNWRAP job. -/
def State.runUnwrap (s : State) (j : Job) : State :=
  let d := j.desc
  s.withInput j fun x =>
    if wFormat d = 0 then s.unwrapBlob j x
    else s.withSlot j (dKeyHandle d) 0 fun k =>
      let a := leAt d 76 2
      let n := x.data.length - a - 28
      let r := if wFormat d = 1 then Config.kwUnwrap (dAlg d) (k.key.take 32) x.data
        else gcmOpen (k.key.take 32) (slice x.data a 12) (x.data.take a) (slice x.data (a + 12) n)
          (x.data.drop (a + 12 + n))
      match r with
      | none => s.failJob j (stVerifyFail, 0)
      | some key =>
        if !unwrappedOk (leAt d 78 2) key.length then s.failJob j (malformed 12)
        else (s.inc (R.KEEP_CNT 3)).finishSlots j x []
          [newSlot (byteAt d 65) orImported (bit (byteAt d 66) 0) (leAt d 78 2) j.group (leAt d 72 4) key]

/-! ### ATTEST (R401 to R403) -/

/-- GLB_ID as it reads (R6): the grade is fixed in the part. -/
def glbId : Word := fieldSet 4 4 0x4B391000 Config.gradeCode

/-- The device attestation key (R401). -/
def State.attestKey (s : State) : List Byte × List Byte :=
  keyPair 0x812 0 (kmac256 (s.otp.ds.getD []) [] (ascii "YLT KEEP DAK") (seedLen 0x812 0))

/-- The statement on a slot, or with the slot fields 0 (R403). -/
def State.statement (s : State) (h : Nat) (x : Option Slot) (nonce : List Byte) : List Byte :=
  let y := x.getD (Slot.emptyGen 0 0)
  let l := fun (f : LeafState → Nat) => (y.leaf.map f).getD 0
  [0x4B, 0x41, 0x54, 0x54] ++ natLE 2 1 ++ natLE 2 256 ++ fit 16 s.otp.devId ++ natLE 4 glbId.toNat ++
  natLE 1 (s.get F.LCS_STATE_STATE) ++ natLE 1 (if s.keep.bbkValid then 1 else 0) ++ zeros 2 ++ natLE 4 s.keep.bbkGen ++
  natLE 1 (s.get F.CUP_SVN_FW) ++ natLE 1 (s.get F.CUP_SVN_UCODE) ++ natLE 1 (s.get F.CUP_SVN_CFG) ++ zeros 1 ++
  natLE 4 (if x.isSome then h else 0) ++ natLE 2 y.alg ++ natLE 1 y.usage ++
  natLE 1 (y.attr + if y.lobj then 16 else 0) ++ natLE 1 y.group ++ zeros 3 ++ natLE 4 y.epoch ++
  natLE 8 (l (·.uid)) ++ natLE 8 (l (·.next)) ++ natLE 8 (l (·.limit)) ++ fit 48 y.pkDigest ++ fit 64 nonce ++
  natLE 1 nonce.length ++ zeros 7 ++ natLE 8 s.time ++ zeros 48

/-- An ATTEST job. -/
def State.runAttest (s : State) (j : Job) : State :=
  let d := j.desc
  s.withInput j fun x => s.needRng j fun s =>
    let key := s.attestKey
    let s := { s with keep := { s.keep with dakMade := true } }
    if byteAt d 64 = 2 then (s.inc (R.KEEP_CNT 5)).finishOut j x key.1 0
    else
      let end_ := fun (s : State) (y : Option Slot) =>
        let st := s.statement (dKeyHandle d) y x.data
        let (rnd, s) := s.draw 11 (32 + skLen 0x712 0)
        let s := s.drawMasks engKeep
        (s.inc (R.KEEP_CNT 5)).finishOut j x
          (st ++ signOf 0x812 (sigLen 0x812 0) { SigParams.pure with ctx := ascii "YLT-ATTEST" } key.2 rnd st) 0
      if byteAt d 64 = 0 then s.withSlot j (dKeyHandle d) 0 (fun y => end_ s (some y)) else end_ s none

/-! ### Blobs that Cupola firmware loads (R411) -/

/-- Write KEEP_BL_RES and clear START. -/
def State.blAnswer (s : State) (e : Err) (h : Nat) : State :=
  let s := s.wr R.KEEP_BL_RES (BitVec.ofNat 32 (e.1 + e.2 % 2 ^ 24 * 256))
  (if e.1 = stOk then s.wr R.KEEP_BL_HANDLE (BitVec.ofNat 32 h) else s).clr ⟨R.KEEP_BL_CMD, 31, 1⟩

/-- KEEP_BL_CMD.START (R411): the blob lies in Cupola's SRAM; the group check is left out. -/
def State.blobLoad (s : State) : State :=
  let b := memRead s.cupMem (s.rd R.KEEP_BL_ADDR).toNat (s.rd R.KEEP_BL_LEN).toNat
  let s := if s.keep.bbkValid then s else s.bbkLost
  match s.blobErr b none with
  | some e => s.blAnswer e 0
  | none => match s.openBlob b with
    | none => (s.inc (R.KEEP_CNT 7)).blAnswer (stVerifyFail, 0) 0
    | some y =>
      let t := if s.on F.KEEP_BL_CMD_ANY then none32 else s.get F.KEEP_BL_CMD_TARGET
      match s.findTarget t y.keyLen false with
      | none => s.blAnswer (malformed 68) 0
      | some i =>
        let s := s.reserveSlot i y.keyLen false
        match y.leaf with
        | some _ => s.seekLoad i y none
        | none => ((s.fillSlot i y).inc (R.KEEP_CNT 3)).blAnswer (stOk, 0) (s.handleOf i)

/-- The longest blob of a slot: 80 + 16,384 bytes. -/
def State.blobFits (s : State) : Bool := decide ((s.rd R.KEEP_BL_LEN).toNat ≤ 16464)

/-- A write of KEEP_BL_CMD. While a load runs START stays 1 and a second START changes nothing. -/
def State.blCmdWrite (s : State) (v : Word) : State :=
  let busy := s.on ⟨R.KEEP_BL_CMD, 31, 1⟩
  let s := (s.put F.KEEP_BL_CMD_TARGET (bits v.toNat 0 14)).putB F.KEEP_BL_CMD_ANY (bit v.toNat 14)
  if busy || !bit v.toNat 31 then s
  else if s.blobFits then (s.set ⟨R.KEEP_BL_CMD, 31, 1⟩).blobLoad
  else s.blAnswer (malformed 16) 0

/-! ### Register effects -/

/-- KEEP_CTL (R408): ERASE_ALL with `bad` granules that do not read back zero, and CNT_CLR. -/
def State.keepCtlWrite (s : State) (bad : Nat) (v : Word) : State :=
  let s := if bit v.toNat 8 then s.cntClearN (R.KEEP_CNT 0) 9 else s
  if bit v.toNat 0 then (s.eraseAllSlots).zeroFail bad else s

/-- A read of KEEP_SFEVT takes the oldest stateful event (R408). -/
def State.sfevtTake (s : State) : State :=
  match s.keep.sfevt with
  | [] => { s with busOut := 0 }
  | e :: es => { s with busOut := e.setWidth 64, keep := { s.keep with sfevt := es } }.syncSfevt

/-- KEEP_BBK_CTL (R399). -/
def State.bbkCtlWrite (s : State) (v : Word) : State := if bit v.toNat 0 then s.bbkGenerate else s

/-! ### The commands -/

def execKeepErase (j bad : Nat) (s : State) : Out := .next (s.atUnit j opKeepErase (fun s j => s.runKeepErase bad j))

def execKeepLoad (j : Nat) (s : State) : Out := .next (s.atUnit j opKeepLoad State.runKeepLoad)

def execDerive (j : Nat) (s : State) : Out := .next (s.atUnit j opDerive State.runDerive)

def execWrap (j : Nat) (s : State) : Out := .next (s.atUnit j opWrap State.runWrap)

def execUnwrap (j : Nat) (s : State) : Out := .next (s.atUnit j opUnwrap State.runUnwrap)

def execAttest (j : Nat) (s : State) : Out := .next (s.atUnit j opAttest State.runAttest)

def execBlobLoad (r : Req) (v : Word) (s : State) : Out :=
  .next (s.gateW r R.KEEP_BL_CMD (·.blCmdWrite (v ||| 0x80000000)))

def execBbkGen (r : Req) (v : Word) (s : State) : Out := .next (s.gateW r R.KEEP_BBK_CTL (·.bbkCtlWrite (v ||| 1)))

def execEraseAll (r : Req) (v : Word) (bad : Nat) (s : State) : Out :=
  .next (s.gateW r R.KEEP_CTL (·.keepCtlWrite bad (v ||| 1)))

def execKeepCntClr (r : Req) (v : Word) (s : State) : Out :=
  .next (s.gateW r R.KEEP_CTL (·.keepCtlWrite 0 (v ||| 0x100)))

def execKeepCfgLock (r : Req) (v : Word) (s : State) : Out :=
  .next (s.gateW r R.KEEP_CFG (·.wrGeneric R.KEEP_CFG (v ||| 0x80000000)))

def execSfevtRead (r : Req) (s : State) : Out := .next (s.gateR r R.KEEP_SFEVT State.sfevtTake)

end Sys2Proof.Machine
end

