-- ==== Sys2Proof/Machine/FrameBase.lean ====
section
/-! DEFINITION. Frames in the device: how one is counted as dropped (R285) and how a failed check ends it (R54). -/

namespace Sys2Proof.Machine

/-! ### Drop reasons (R285) -/

abbrev drFcs : Nat := 0x00
abbrev drLength : Nat := 0x01
abbrev drMacControl : Nat := 0x02
abbrev drParse : Nat := 0x03
abbrev drNoFlow : Nat := 0x04
abbrev drAction : Nat := 0x05
abbrev drSectag : Nat := 0x06
abbrev drNoSa : Nat := 0x07
abbrev drReplay : Nat := 0x08
abbrev drIcv : Nat := 0x09
abbrev drCounter : Nat := 0x0A
abbrev drEsp : Nat := 0x0B
abbrev drFragment : Nat := 0x0C
abbrev drTooBig : Nat := 0x0D
abbrev drAuthExt : Nat := 0x0E
abbrev drStale : Nat := 0x0F
abbrev drPtp : Nat := 0x10
abbrev drDuplicate : Nat := 0x11
abbrev drEgressDown : Nat := 0x12
abbrev drQueueFull : Nat := 0x13
abbrev drFault : Nat := 0x14
abbrev drFlushed : Nat := 0x15
abbrev drVigil : Nat := 0x16

/-- Count a drop at an ingress port; a frame of SVC has none. -/
def State.countDrop (s : State) (port code : Nat) : State := if port < 16 then s.inc (R.LIF_DROP port code) else s

def State.frame? (s : State) (id : Nat) : Option FrameSt := s.ipp.frames.find? (fun f => f.id == id)

/-- Take a frame out of the device. -/
def State.removeFrame (s : State) (id : Nat) : State :=
  { s with ipp := { s.ipp with frames := s.ipp.frames.filter (fun f => f.id != id) } }

def State.putFrame (s : State) (f : FrameSt) : State :=
  { s with ipp := { s.ipp with frames := s.ipp.frames.map (fun g => if g.id == f.id then f else g) } }

/-- The duplicate records of a redundancy group. -/
def State.recordsOf (s : State) (g : Nat) : List (Nat × Nat) := sget (fun _ => []) s.ipp.records g

def State.putRecords (s : State) (g : Nat) (l : List (Nat × Nat)) : State :=
  { s with ipp := { s.ipp with records := sput (fun _ => []) s.ipp.records g l } }

/-- The identity that a frame has recorded in its redundancy group is withdrawn with the frame (R272). -/
def State.withdrawRecord (s : State) (f : FrameSt) : State :=
  match f.ident, f.recorded with
  | some (g, i), true => s.putRecords g ((s.recordsOf g).filter (fun r => r.1 != i))
  | _, _ => s

/-- Drop a frame of the device with a reason. -/
def State.dropFrame (s : State) (f : FrameSt) (code : Nat) : State :=
  ((s.withdrawRecord f).removeFrame f.id).countDrop f.port code

/-- Drop the frames that a predicate picks. -/
def State.dropFrames (s : State) (code : Nat) (p : FrameSt → Bool) : State :=
  (s.ipp.frames.filter p).foldl (fun s f => s.dropFrame f code) s

end Sys2Proof.Machine
end

