-- ==== Sys2Proof/Machine/Lif.lean ====
section
/-! DEFINITION. The line interface (06): ports and their state (R240 to R244, R288 to R291), their event sources (R287) and
the frames they send. -/

namespace Sys2Proof.Machine

/-- An active port (R240); the Vigil pair is active in Vigil (R277). -/
def State.portActive (s : State) (p : Nat) : Bool := s.get (F.LIF_PMODE_RATE p) != 0 || s.on (F.LIF_PSTAT_VIGIL p)

/-- A port that carries frames: active, enabled, its link up. -/
def State.portUp (s : State) (p : Nat) : Bool :=
  decide (p < 16) && s.portActive p && s.on (F.LIF_PCTL_EN p) && s.on (F.LIF_PSTAT_LINK_UP p)

/-- Drive the event source of a port (R287): CP[n] is 64 + n, PP[n] 72 + n. -/
def State.syncLif (s : State) (p : Nat) : State :=
  s.level (64 + p) (bits (s.rd (R.LIF_PSTAT p)).toNat 16 4 &&& s.get (F.LIF_EVT_EN_EN p) != 0)

/-- Set a pending bit of a port. -/
def State.lifPend (s : State) (p : Nat) (f : Fld) : State := (s.set f).syncLif p

/-- PREEMPT_ACTIVE takes a value (R243). -/
def State.setPreempt (s : State) (p : Nat) (b : Bool) : State :=
  if s.on (F.LIF_PSTAT_PREEMPT_ACTIVE p) = b then s
  else (s.putB (F.LIF_PSTAT_PREEMPT_ACTIVE p) b).lifPend p (F.LIF_PSTAT_PREEMPT_PEND p)

/-- LINK_UP takes a value (R290); a link that goes down ends preemption. -/
def State.setLink (s : State) (p : Nat) (b : Bool) : State :=
  let s := s.putB (F.LIF_PSTAT_AM_LOCK p) b
  let s := s.putB (F.LIF_PSTAT_AN_DONE p) (b && !s.ipp.aui.contains p)
  if s.on (F.LIF_PSTAT_LINK_UP p) = b then s
  else
    let s := (s.putB (F.LIF_PSTAT_LINK_UP p) b).lifPend p (F.LIF_PSTAT_LINK_PEND p)
    if b then s else s.setPreempt p false

/-- The line side of a port comes up or goes down; `aui` says that it runs neither auto-negotiation nor training (R242). -/
def State.linkChange (s : State) (p : Nat) (up aui : Bool) : State :=
  if !s.portActive p || !s.on (F.LIF_PCTL_EN p) then s
  else
    let s := { s with ipp := { s.ipp with aui := if aui then setIns p s.ipp.aui else setDel p s.ipp.aui } }
    s.setLink p up

/-- Preemption has been verified with the link partner, or has failed (R243). -/
def State.preemptVerified (s : State) (p : Nat) (ok : Bool) : State :=
  if s.portUp p && s.on (F.LIF_PCFG_PREEMPT_EN p) then s.setPreempt p ok else s

/-- Zero the counters of a port and both SAT registers. -/
def State.lifCntClr (s : State) (p : Nat) : State := (s.cntClearN (R.LIF_CNT p 0) 10).cntClearN (R.LIF_DROP p 0) 32

/-- A write of LIF_PCTL (R289). -/
def State.pctlWrite (s : State) (p : Nat) (v : Word) : State :=
  let n := v.toNat
  let en := bit n 0 && s.portActive p
  let s := (s.putB (F.LIF_PCTL_EN p) en).putB (F.LIF_PCTL_LOOPBACK p) (bit n 1)
  let s := if en then s else s.setLink p false
  let s := if bit n 8 && s.on (F.LIF_PSTAT_LINK_UP p) && !s.ipp.aui.contains p then s.setLink p false else s
  if bit n 9 then s.lifCntClr p else s

/-- A write of LIF_PCFG (R291): reserved default actions are refused. -/
def State.pcfgWrite (s : State) (p : Nat) (v : Word) : State :=
  let v := if 2 ≤ bits v.toNat 0 2 then fieldSet 0 2 v (s.get (F.LIF_PCFG_DEFAULT_ACTION p)) else v
  let s := s.wrGeneric (R.LIF_PCFG p) v
  if s.on (F.LIF_PCFG_PREEMPT_EN p) then s else s.setPreempt p false

/-- A write of LIF_MAXFRM or LIF_QMAX: values out of range leave it unchanged (R288). -/
def State.maxfrmWrite (s : State) (p : Nat) (v : Word) : State :=
  if 64 ≤ bits v.toNat 0 14 ∧ bits v.toNat 0 14 ≤ 9216 then s.wrGeneric (R.LIF_MAXFRM p) v else s

def State.qmaxWrite (s : State) (p : Nat) (v : Word) : State :=
  if bits v.toNat 0 24 ≤ 0x800000 then s.wrGeneric (R.LIF_QMAX p) v else s

/-- A write of LIF_PSTAT or LIF_EVT_EN, after which the source follows. -/
def State.lifEventWrite (s : State) (p o : Nat) (v : Word) : State := (s.wrGeneric o v).syncLif p

/-- The bytes of a frame as it leaves: padded to the least Ethernet length (IEEE 802.3). -/
def padFrame (bs : List Byte) : List Byte := if bs.length < 60 then fit 60 bs else bs

/-- A frame leaves by a port: counted, with 4 bytes of FCS. -/
def State.transmit (s : State) (p : Nat) (bs : List Byte) : State :=
  let bs := padFrame bs
  let s := { s with ipp := { s.ipp with txLog := s.ipp.txLog ++ [(p, bs)] } }
  (s.inc (R.LIF_CNT p 2)).count (R.LIF_CNT p 3) (bs.length + 4)

/-! ### The commands -/

def execPreemptVerify (p : Fin 16) (ok : Bool) (s : State) : Out := .next (s.preemptVerified p ok)

def execRestartAn (r : Req) (p : Fin 16) (v : Word) (s : State) : Out :=
  .next (s.gateW r (R.LIF_PCTL p) (·.pctlWrite p (v ||| 0x100)))

def execLifCntClr (r : Req) (p : Fin 16) (v : Word) (s : State) : Out :=
  .next (s.gateW r (R.LIF_PCTL p) (·.pctlWrite p (v ||| 0x200)))

end Sys2Proof.Machine
end

