-- ==== Sys2Proof/Machine/Resets.lean ====
section
/-! DEFINITION. Resets (R13, R31, R544 to R546, R554): the block resets with the disconnect rule at their crossings, the
host, SVC and Cupola resets, the system reset and the power-on reset. -/

namespace Sys2Proof.Machine

/-! ### Disconnects (R31, R554) -/

/-- The SOURCE of the live side of the crossing that a reset of a block breaks, by its bit of PWR_BLKRST. -/
def liveSide (b : Nat) : Nat :=
  [0x070, 0x070, 0x070, 0x10A, 0x109, 0x108, 0x070, 0x070, 0x072, 0x071, 0x108, 0x070, 0x070].getD b 0x070

/-- The live side drops what is in flight and sends one KIND 0x07 message; CPM counts the disconnect (R554). -/
def State.disconnect (s : State) (source : Nat) : State := (s.report source 0x07 0 0).inc (R.PWR_CNT 5)

/-! ### What each block loses -/

/-- Reset the BLK fields and counters of a block's registers. -/
def State.resetBlk (s : State) (b : Blk) : State := s.resetRegs blkKinds (inBlock b)

/-- EN stays 0 through a reset of an engine that is FAULTED (R159). -/
def State.keepFaulted (s : State) : List Nat → State
  | [] => s
  | e :: es => (if s.on (F.AEA_STAT_FAULTED e) then s.clr (F.AEA_CTL_EN e) else s).keepFaulted es

/-- A block reset of AEA (R157, R159). -/
def State.resetAea (s : State) : State :=
  (((s.faultJobs 0x07 (fun j => isAea j.engine || isAea j.engine2)).resetBlk .aea).resetBlk .aeaCom).keepFaulted
    (List.range 48)

/-- A reset of one AEA engine (R157, R521). -/
def State.resetEngine (s : State) (e : Nat) : State :=
  ((s.faultJobs 0x07 (fun j => j.at e)).resetRegs blkKinds (inInst .aea e)).keepFaulted [e]

/-- A block reset of BCE: the look-aside jobs of its lanes are lost (R31). -/
def State.resetBce (s : State) : State := s.faultJobs 0x07 (fun j => j.res == .aes || j.res == .chacha)

/-- A block reset of HEA (R623). -/
def State.resetHea (s : State) : State := s.faultJobs 0x07 (fun j => j.res == .keccak || j.res == .sha2)

/-- A block reset of CTS (R305, R624). -/
def State.resetCts (s : State) : State :=
  let s := s.faultJobs 0x07 (fun j => j.res == .arbiter)
  let s := s.dropFrames drFlushed (fun f => f.phase == .commit)
  (s.resetBlk .cts).rotate

/-- A block reset of KEEP (R31, R406). -/
def State.resetKeep (s : State) : State :=
  ((s.faultJobs 0x07 (fun j => j.res == .keep)).clearSlots).resetBlk .keep

/-- A block reset of DKE (R419, R431): the queue jobs on its channels and every channel's state are lost. -/
def State.resetDke (s : State) : State :=
  let s := s.faultJobs 0x07 (fun j => j.res == .dke && j.phase == .running)
  ((({ s with dke := [] }).resetBlk .dkeCh).resetBlk .sfi).resetBlk .dkeCom

/-- A reset of one DKE channel (R521). -/
def State.resetDkeCh (s : State) (c : Nat) : State :=
  let s := s.faultJobs 0x07 (fun j => j.at (0x60 + c))
  ((s.putDke c DkeCh.idle).resetRegs blkKinds (inInst .dkeCh c)).resetRegs blkKinds (inInst .sfi c)

/-- RNG is held in its reset (R446, R458). -/
def State.resetRng (s : State) : State :=
  let s := { s with rng := { s.rng with isoTimes := [], emptyRead := [] } }
  (s.uninstantiate.resetBlk .rng).put F.RNG_STAT_STATE 0

/-- A block reset of IPP: every frame in the device is lost, and what IPP keeps of the traffic. -/
def State.resetIpp (s : State) : State :=
  let s := s.dropFrames drFlushed (fun _ => true)
  let s := { s with ipp := { s.ipp with saevt := [], saSeen := [], records := [], twoStep := [], policer := [],
                                        unlockedSeen := false, lockLost := none } }
  s.resetBlk .ipp

/-- A block reset of LIF: the frames that wait for a port are lost, and every port is disabled. -/
def State.resetLif (s : State) : State :=
  let s := s.dropFrames drFlushed (fun f => f.phase == .egress)
  ({ s with ipp := { s.ipp with aui := [], twoStep := [] } }).resetBlk .lif

/-- A reset of one port (R521). -/
def State.resetPort (s : State) (p : Nat) : State :=
  let s := s.dropFrames drFlushed (fun f => f.phase == .egress && f.egress == p)
  ({ s with ipp := { s.ipp with aui := setDel p s.ipp.aui } }).resetRegs blkKinds (inInst .lif p)

/-- The MSI-X state of the host's functions is lost with their reset (PRESUMED, as PCI Express specifies). -/
def State.resetMsix (s : State) : State :=
  { s with evc := { s.evc with msixEnabled := [], msixUnmasked := [], pba := [] } }

/-- A reset of the host's functions (R65, R419, R544, R593): the queues of groups 0 to 30, the DKE channels the PF holds
and its update session. -/
def State.resetHost (s : State) : State :=
  let s := s.resetQueues (fun g => decide (g < 31)) false
  let s := (s.dkeHolderReset 1).resetMsix
  if (s.cup.upd.map (·.holder)) = some 1 then s.endUpdate true else s

/-- The PCIe link is down: the host can issue no access (R622). -/
def State.linkDown (s : State) : State := { s with power := { s.power with hostUp := false } }

/-- SVC's own state is lost with its reset; what it has sent is kept for the reader. -/
def State.clearSvc (s : State) : State :=
  { s with
    svc := ⟨s.time, [], [], [], s.svc.nextId, [], s.svc.sent, [], []⟩
    evc := { s.evc with svcIrq := [] }
    ipp := { s.ipp with svcRx := [], svcRate := (0, 0), svcDiscards := 0 }
    lcs := { s.lcs with svcHalted := false } }

/-- A reset of SVC (R66, R419): the queues of group 31, the channels it holds, its own state. -/
def State.resetSvc (s : State) : State :=
  let s := s.resetQueues (fun g => g == 31) true
  let s := ((s.dkeHolderReset 2).clearSvc)
  { s with power := { s.power with svcUp := false } }

/-- What a block reset of bit `b` of PWR_BLKRST does at once. -/
def State.loseBlock (s : State) (b : Nat) : State :=
  match b with
  | 0 => s.resetAea
  | 1 => s.resetBce
  | 2 => s.resetHea
  | 3 => (s.resetBlk .ucsCom).resetBlk .ucsQ
  | 4 => s.resetQueues (fun _ => true) false
  | 5 => s.resetCts
  | 6 => s.resetKeep
  | 7 => s.resetDke
  | 8 => s.resetRng
  | 9 => s.resetIpp
  | 10 => s.resetLif
  | 11 => s.resetHost.linkDown
  | 12 => s.resetSvc
  | _ => s

/-- A block reset (R546, R554): the block is held until its crossings have reconnected. -/
def State.blockReset (s : State) (b : Nat) : State :=
  if s.inReset b then s
  else ((s.put ⟨R.PWR_BLKRST, b, 1⟩ 1).loseBlock b).disconnect (liveSide b)

/-- The block resets of a mask. -/
def State.blockResets (s : State) (m : Nat) : State :=
  (List.range 13).foldl (fun s b => if bit m b then s.blockReset b else s) s

/-- The reset side sends CONNECT and the live side answers (R554): the block is back in service. RNG leaves RESET
(R458). SVC is started by Cupola firmware. -/
def State.reconnect (s : State) (b : Nat) : State :=
  if !s.inReset b then s
  else
    let s := s.put ⟨R.PWR_BLKRST, b, 1⟩ 0
    if b = 8 then s.rngRelease else s

/-! ### Cupola (R574) -/

/-- A mailbox command in progress is answered with RESTARTED (R574, R589, R590). -/
def State.mbxRestart (s : State) (n : Nat) : State :=
  if s.on (F.MBX_STAT_BUSY n) then
    let h := s.rd (R.MBX_REQ n 0)
    let s := ((s.wr (R.MBX_RSP n 0) (fieldSet 16 16 h 7)).wr (R.MBX_RSP n 1) (s.rd (R.MBX_REQ n 1))).wr (R.MBX_RSP n 2) 0
    let s := (s.wr (R.MBX_RSP n 3) 0).inc (R.CUP_CNT 1)
    ((s.clr (F.MBX_STAT_BUSY n)).set (F.MBX_STAT_DONE n)).set (F.MBX_STAT_RESTARTED n)
  else s

/-- The same on the SMBus window. -/
def State.smbRestart (s : State) : State :=
  let m := s.cup.smb
  if m.busy then
    { s with cup := { s.cup with smb := { m with
        busy := false, done := true, restarted := true, req := [], pos := 0
        rsp := m.req.take 2 ++ [7, 0] ++ slice m.req 4 4 ++ zeros 8 } } }
  else s

/-- A reset of Cupola (R419, R574): its processor stops, its channels are released, commands in progress are answered and
an update session ends. The boot ROM then restarts it (WARM_RESTART). -/
def State.resetCupola (s : State) : State :=
  let s := (((s.dkeHolderReset 3).mbxRestart 0).mbxRestart 1).smbRestart
  let s := s.endUpdate true
  { s with
    power := { s.power with cupUp := false }
    lcs := { s.lcs with cupHalted := false }
    evc := { s.evc with cupIrq := [] }
    cup := { s.cup with calm := false, restarts := s.cup.restarts.filter (fun t => decide (s.time < t + 60000000000)) ++ [s.time] } }

/-! ### System and power-on reset -/

/-- The Boost that runs, if one does, closes its interval of the window (R562): it ends with the ramp down, at 10 mV/µs. -/
def CpmSt.closeBoost (c : CpmSt) (now : Nat) : CpmSt :=
  match c.boostFrom with
  | none => c
  | some t => { c with boostFrom := none, spans := c.spans ++ [(t, now + (c.vcore - c.govMv) * 100)], vcore := c.govMv }

/-- What every block but the battery domain and the always-kept parts looks like in reset. -/
def State.clearCore (s : State) : State :=
  { s with
    hiLatch := [], cntSnap := [], ucs := []
    jqm := ⟨[], [], s.jqm.nextId, []⟩
    dke := []
    rng := ⟨[], [], [], [], []⟩
    cts := State.reset.cts
    mpe := { State.reset.mpe with hotRefresh := s.mpe.hotRefresh, hotThrottle := s.mpe.hotThrottle, hotCrit := s.mpe.hotCrit }
    keep := { s.keep with slots := [], erasures := 0, withdrawn := 0, sfevt := [], jr := none, jrQueue := [], dakMade := false }
    ipp := { State.reset.ipp with nextId := s.ipp.nextId, txLog := s.ipp.txLog }
    fcr := { s.fcr with transit := [], seqTx := [], seqRx := [], history := [], latched := none, windowEnd := 0 }
    evc := ⟨s.evc.raw, [], [], [], s.evc.msixLog, [], []⟩
    svc := ⟨s.time, [], [], [], s.svc.nextId, [], s.svc.sent, [], []⟩
    blf := { s.blf with lone := [], last := [], events := [], silent := [], tests := [], logic := [], stored := [], extra := 0 }
    lcs := { s.lcs with token := none, opening := none, sessionEnd := 0, cupHalted := false, svcHalted := false }
    cpm := { s.cpm.closeBoost s.time with
      vcore := 800, govMv := 800, paceValid := false, predValid := false, exitWaits := false, entryWaits := false }
    cup := { s.cup with
      smb := ⟨[], [], 0, [], false, false, false, false⟩, goBy := (0, 2), boot := [], cfg := [], bootFail := (0, 0), cfgFail := (0, 0)
      restarts := [], ms7At := none, calm := true, activateAt := none }
    power := { s.power with sysHeld := true, coreUp := false, jqmUp := false, ippUp := false, cupUp := false, svcUp := false, hostUp := false } }

/-- A system reset for a cause of PWR_RST_CAUSE (R544): every block is reset and held until the release. -/
def State.systemReset (s : State) (cause : Nat) : State :=
  if !s.power.pwrOk then s
  else
    let s := s.endUpdate true
    let s := (s.resetRegs sysKinds (fun _ => true)).clearCore
    s.wr R.PWR_RST_CAUSE (BitVec.ofNat 32 (2 ^ cause))

/-- PWR_OK low (R540): the power-on reset holds everything but the battery domain, OTP and flash. -/
def State.powerOff (s : State) : State :=
  let s := (s.resetRegs poKinds (fun _ => true)).clearCore
  { s with
    cnt := [], cntCopy := []
    svcMem := [], cupMem := []
    power := { State.reset.power with sysrstLow := s.power.sysrstLow }
    fcr := State.reset.fcr
    evc := { s.evc with raw := [] }
    mpe := State.reset.mpe
    blf := { s.blf with alarm := [] }
    lcs := State.reset.lcs
    cpm := State.reset.cpm
    alm := { s.alm with buffer := [], summary := [], lost := 0 }
    cup := { s.cup with rails := [], upd := none } }

/-! ### The commands -/

def execBlockReset (r : Req) (v : Word) (s : State) : Out :=
  .next (s.gateW r R.PWR_BLKRST (·.blockResets v.toNat))

/-- A PF FLR leaves the link up; the other three take it down (R544, R622). -/
def execHostReset (c : HostReset) (s : State) : Out :=
  .next (if !s.power.hostUp then s
    else if c = .pfFlr then s.resetHost
    else (s.resetHost.disconnect 0x070).linkDown)

/-- A reset of SVC (R66), held until its crossing has reconnected. -/
def execSvcReset (s : State) : Out := .next (if s.power.svcUp then s.blockReset 12 else s)

/-- SYSRST_N low for 1 µs or more (R544). -/
def execSystemReset (s : State) : Out :=
  .next (if s.power.pwrOk then ({ s with power := { s.power with sysrstLow := true } }).systemReset 1 else s)

def execPwrOkFall (s : State) : Out := .next (if s.power.pwrOk then s.powerOff else s)

end Sys2Proof.Machine
end

