-- ==== Sys2Proof/Machine/Modes.lean ====
section
/-! DEFINITION. What a reaction ends besides jobs and frames: Boost (R562, R563) and the debug session (R506). -/

namespace Sys2Proof.Machine

/-! ### The Boost window (R562) -/

/-- One bin, in ns. -/
def binNs : Nat := 100000000

/-- The part of [a, b) that lies in [lo, hi). -/
def overlapOf (a b lo hi : Nat) : Nat := min b hi - max a lo

/-- The Boost time in ns within [lo, hi), a running Boost included. -/
def CpmSt.boostIn (c : CpmSt) (now lo hi : Nat) : Nat :=
  c.spans.foldl (fun n p => n + overlapOf p.1 p.2 lo hi) (match c.boostFrom with
    | some t => overlapOf t now lo hi
    | none => 0)

/-- PWR_BOOST_CREDIT in ms: 120,000 minus the sum of the last 6,000 whole bins; the bins before power-on hold 20 ms. -/
def State.boostCredit (s : State) : Nat :=
  let c := s.cpm
  let k := (s.time - c.powerOn) / binNs
  let lo := c.powerOn + (k - 6000) * binNs
  120000 - ((6000 - min 6000 k) * 20 + c.boostIn s.time lo (c.powerOn + k * binNs) / 1000000)

/-- Whether a Boost runs, its ramp included. -/
def State.boosting (s : State) : Bool := s.cpm.boostFrom.isSome

/-- Boost ends for a cause (R563): VDD_CORE ramps down to the governor's setpoint, the interval enters the window, event
source 216 is raised; the governor goes on. A cause within 100 µs of an exit is recorded when it has a lower number. -/
def State.boostExit (s : State) (cause : Nat) : State :=
  match s.cpm.boostFrom with
  | none =>
    if s.cpm.exitAt ≠ 0 ∧ s.time ≤ s.cpm.exitAt + 100000 ∧ cause < s.get F.PWR_STAT_EXIT_CAUSE then
      s.put F.PWR_STAT_EXIT_CAUSE cause
    else s
  | some t =>
    let ms := (s.time + (s.cpm.vcore - s.cpm.govMv) * 100 - t) / 1000000
    let s := { s with cpm := { s.cpm.closeBoost s.time with exitAt := s.time } }
    let s := ((s.clr F.PWR_STAT_BOOST).clr F.PWR_STAT_RAMP).putB F.PWR_STAT_GOV_RUN (!s.on F.PWR_STAT_AVS_FAIL)
    ((s.put F.PWR_STAT_EXIT_CAUSE cause).count (R.PWR_CNT 1) ms).raise 216

/-! ### Debug sessions (R504 to R506) -/

/-- Whether a scope of R500 is granted now. -/
def State.scope (s : State) (b : Nat) : Bool := s.on F.LCS_DBG_STAT_SESSION && bit (s.get F.LCS_DBG_STAT_SCOPES) b

/-- Cupola and SVC are reset where they were debugged under scopes that are withdrawn (R506). -/
def State.undebug (s : State) (withdrawn : Nat) : State :=
  let s := if bit withdrawn 1 then s.resetCupola else s
  if bit withdrawn 2 then s.blockReset 12 else s

/-- A session ends (R506). A BLANK session does not. -/
def State.endSession (s : State) : State :=
  if !s.on F.LCS_DBG_STAT_SESSION || s.on F.LCS_DBG_STAT_BLANK_OPEN then s
  else
    let m := s.get F.LCS_DBG_STAT_SCOPES
    let s := (s.wr R.LCS_DBG_STAT 0).wr R.LCS_DBG_REMAIN 0
    (s.raise 211).undebug m

/-- A session opens (R504); one that is open is replaced, and what the new one does not grant is withdrawn (R505). -/
def State.openSession (s : State) (g : Grant) : State :=
  let old := if s.on F.LCS_DBG_STAT_SESSION then s.get F.LCS_DBG_STAT_SCOPES else 0
  let s := s.wr R.LCS_DBG_STAT (BitVec.ofNat 32 (1 + g.authority % 2 * 2 + g.scopes % 256 * 256))
  let s := { s with lcs := { s.lcs with opening := none, sessionEnd := s.time + g.seconds * 1000000000 } }
  (s.raise 211).undebug (old ^^^ (old &&& g.scopes))

end Sys2Proof.Machine
end

