-- ==== Sys2Proof/Machine/Fcr.lean ====
section
/-! DEFINITION. FCR and EVC (14): fault messages and reactions (R512 to R526), the history, and the delivery of events
(R527 to R531). -/

namespace Sys2Proof.Machine

/-! ### Messages (R512, R513) -/

def msgSource (m : DWord) : Nat := bits m.toNat 54 10
def msgKind (m : DWord) : Nat := bits m.toNat 48 6
def msgSev (m : DWord) : Nat := bits m.toNat 45 3
def msgSeq (m : DWord) : Nat := bits m.toNat 40 5
def msgAddr (m : DWord) : Nat := bits m.toNat 0 40

/-- The group of a SOURCE (R512). -/
def sourceGroup (n : Nat) : Nat :=
  if n < 0x20 then 0 else if n < 0x28 then 1 else if n < 0x40 then 2 else if n < 0x60 then 3 else if n < 0x70 then 4
  else if n < 0x73 then 5 + (n - 0x70) else if n < 0xC0 then 8 else if n < 0x100 then 9
  else if n < 0x10D then 10 + (n - 0x100) else if n < 0x118 then 23 else if n < 0x120 then 24 else if n < 0x124 then 25
  else 26

/-- Whether R512 lists a SOURCE. -/
def knownSource (n : Nat) : Bool :=
  decide (n < 0x24) || decide (0x28 ≤ n ∧ n < 0x30) || decide (0x40 ≤ n ∧ n < 0x64) || decide (0x70 ≤ n ∧ n < 0x73) ||
  decide (0x80 ≤ n ∧ n < 0x10D) || decide (0x110 ≤ n ∧ n < 0x125)

/-- The level of a message (R514). -/
def State.msgLevel (s : State) (m : DWord) : Nat :=
  max (msgSev m) (if msgKind m < 32 then s.get (F.FLT_MAP_LEVEL (msgKind m)) else 0)

/-- The consequential set of a level (R524). -/
def consequential (level kind : Nat) : Bool :=
  match level with
  | 2 => kind == 0x06
  | 3 => kind == 0x06 || kind == 0x07
  | 4 | 5 => [0x06, 0x07, 0x09, 0x0A, 0x14].contains kind
  | 6 => true
  | _ => false

/-- The message arrives: it leaves the way, and its SEQ is compared with the one expected (R513). -/
def State.takeMsg (s : State) (m : DWord) : State :=
  let n := msgSource m
  let due := sget (fun _ => 0) s.fcr.seqRx n
  let s := { s with fcr := { s.fcr with
    transit := s.fcr.transit.erase m
    seqRx := sput (fun _ => 0) s.fcr.seqRx n ((msgSeq m + 1) % 32 + 1) } }
  if due = 0 ∨ due = msgSeq m + 1 then s else (s.set F.FLT_STAT_SEQ_GAP).level 56 true

/-- Count a message and enter it in the history (R536). -/
def State.enter (s : State) (m : DWord) (rtag : Nat) (cause conseq : Bool) (level : Nat) : State :=
  let s := if msgKind m < 32 then s.inc (R.FLT_KCNT (msgKind m)) else s
  if 256 ≤ s.fcr.history.length then (s.set F.FLT_STAT_MSG_OVF).level 56 true
  else { s with fcr := { s.fcr with
    history := s.fcr.history ++ [⟨m, rtag, cause, conseq, level, s.time / 1000 % 2 ^ 32⟩] } }

/-- The latching of a message at or above PIN_LEVEL (R515). -/
def State.latch (s : State) (m : DWord) (rtag level : Nat) : State :=
  if level < s.get F.FLT_CFG_PIN_LEVEL then s
  else
    let s := s.put ⟨R.FLT_STICKY, sourceGroup (msgSource m), 1⟩ 1
    if s.on F.FLT_FIRST_INFO_VALID then
      let s := s.put F.FLT_COUNT_COUNT (min 0xFFFF (s.get F.FLT_COUNT_COUNT + 1))
      (s.set F.FLT_STAT_OVERFLOW).level 55 true
    else
      let s := (s.wr R.FLT_FIRST_LO (m.setWidth 32)).wr R.FLT_FIRST_HI (BitVec.ofNat 32 (m.toNat / 2 ^ 32))
      let s := ((s.put F.FLT_FIRST_INFO_LEVEL level).put F.FLT_FIRST_INFO_RTAG rtag).set F.FLT_FIRST_INFO_VALID
      let s := s.wr64 R.FLT_FIRST_TIME_LO R.FLT_FIRST_TIME_HI s.time
      (s.set F.FLT_STAT_FIRST_VALID).level 32 true

/-- The event source of a KIND pulses at level 1 or above (R520, R527). -/
def State.kindEvent (s : State) (kind level : Nat) : State :=
  if 1 ≤ level ∧ 1 ≤ kind ∧ kind ≤ 0x14 then s.raise (32 + kind) else s

/-! ### Actions (R520, R521) -/

/-- QUIESCE: queues stop fetching, ingress frames are dropped. -/
def State.quiesce (s : State) : State := s.set F.FLT_STAT_QUIESCED

/-- BLOCK_RESET of the resource that a SOURCE names (R521). -/
def State.resetSource (s : State) (n : Nat) : State :=
  if n < 0x40 then (s.resetEngine n).disconnect 0x070
  else if n < 0x60 then (s.faultJobs 0x07 (fun j => j.at n)).disconnect 0x070
  else if n < 0x64 then (s.resetDkeCh (n - 0x60)).disconnect 0x070
  else if n = 0x70 then s.blockReset 4
  else if n = 0x71 ∨ n = 0x106 ∨ n = 0x107 ∨ (0x120 ≤ n ∧ n < 0x124) then s.blockReset 5
  else if n = 0x72 then s.blockReset 6
  else if 0x80 ≤ n ∧ n < 0x100 then (s.faultJobs 0x07 (fun j => j.at n)).disconnect 0x070
  else if n = 0x104 then s.blockReset 8
  else if n = 0x105 then s.blockReset 3
  else if n = 0x108 then s.blockReset 9
  else if n = 0x109 then s.blockReset 11
  else if n = 0x10A then s.resetCupola
  else if n = 0x10B then s.blockReset 12
  else if 0x110 ≤ n ∧ n < 0x120 then (s.resetPort (n - 0x110)).disconnect 0x108
  else if n = 0x124 then s
  else s.systemReset 3

/-- ERASE_ALL beyond ERASE_SESSIONS: every KEEP slot, and the DRBGs (R458, R520). -/
def State.eraseEverything (s : State) (slots : Bool) : State :=
  (if slots then s.eraseAllSlots else s).rngReinstantiate

/-- LOCKDOWN after its level-5 actions: the record, and every block held until PWR_OK falls (R520, R526). -/
def State.lockDown (s : State) (m : DWord) : State :=
  let s := (s.wr R.FLT_LOCKDOWN_LO (m.setWidth 32)).wr R.FLT_LOCKDOWN_HI (BitVec.ofNat 32 (m.toNat / 2 ^ 32))
  let s := s.systemReset 3
  { s with fcr := { s.fcr with lockdown := true } }

/-- The actions of a reaction that goes from level `l0` (0: it starts) to `l` (R520, R523): what has begun is not repeated.
`vigil`: the Vigil domain has done the zeroing of R481 step 1 already. -/
def State.act (s : State) (l0 l : Nat) (m : DWord) (vigil : Bool) : State :=
  let has2 := fun l => l == 2 || decide (4 ≤ l)
  let s := if l = 6 ∧ !vigil then s.bbkDestroy else s
  let s := if has2 l && !has2 l0 then s.quiesce else s
  let s := if 4 ≤ l ∧ l0 < 4 ∧ !vigil then s.rotate else s
  let s := if 5 ≤ l ∧ l0 < 5 then s.eraseEverything (!vigil) else s
  let s := s.boostExit 5
  let s := if 3 ≤ l ∧ l0 < 3 then { s.endSession with cup := { s.endSession.cup with calm := false } } else s
  let s := if l = 3 then s.resetSource (msgSource m) else s
  if l = 6 then s.lockDown m else s

/-- A window opens, or opens anew (R523). -/
def State.openWindow (s : State) : State := { s with fcr := { s.fcr with windowEnd := s.time + 5000 } }

/-- What a Belfry alarm of level 2 or above adds (R477): jobs, register-mode messages, frames. -/
def State.belfryReaction (s : State) (n : Nat) : State :=
  ((s.tamperJobs n).tamperDke).dropFrames drFlushed (fun _ => true)

/-- Whether a message is a Belfry alarm. -/
def isBelfry (m : DWord) : Bool := msgSource m == 0x100 && msgKind m == 0x10

/-- The effects of R477 where the message has them. -/
def State.belfryPart (s : State) (m : DWord) (level : Nat) : State :=
  if isBelfry m && decide (2 ≤ level) then s.belfryReaction (msgAddr m % 16) else s

/-- Whether the parts of R481 step 1 are done already: a Belfry alarm delivered with VIGIL = 1 (R482, R525). -/
def msgVigil (m : DWord) : Bool := isBelfry m && bit (msgAddr m) 17

/-- Whether a reaction is in progress. -/
def State.reacting (s : State) : Bool := s.on F.FLT_STAT_REACT_BUSY

/-- Whether its consequential window is open. -/
def State.inWindow (s : State) : Bool := s.reacting && decide (s.time < s.fcr.windowEnd)

/-- A new reaction takes the next RTAG (R520). -/
def State.beginReaction (s : State) (level : Nat) : State :=
  let t := (s.get F.FLT_REACT_RTAG + 1) % 2 ^ 16
  let s := ((s.put F.FLT_REACT_RTAG t).put F.FLT_REACT_LEVEL level).set F.FLT_REACT_BUSY
  (s.set F.FLT_STAT_REACT_BUSY).openWindow

/-- FCR receives a message (R514, R515, R523). -/
def State.faultReceived (s : State) (m : DWord) : State :=
  let s := s.takeMsg m
  let k := msgKind m
  let l := s.msgLevel m
  let l0 := s.get F.FLT_REACT_LEVEL
  let s := if k = 3 ∨ k = 4 then { s with blf := { s.blf with
      logic := s.blf.logic.filter (fun e => decide (s.time < e.1 + 1000000)) ++ [(s.time, msgSource m)] } } else s
  if s.reacting then
    let tag := s.get F.FLT_REACT_RTAG
    if l0 < l then
      let s := ((s.latch m tag l).enter m tag true false l).kindEvent k l
      let s := (s.put F.FLT_REACT_LEVEL l).openWindow
      (s.belfryPart m l).act l0 l m (msgVigil m)
    else if s.inWindow && consequential l0 k then s.enter m tag false true l
    else (((s.latch m tag l).enter m tag true false l).kindEvent k l).belfryPart m l
  else if 2 ≤ l then
    let s := s.beginReaction l
    let tag := s.get F.FLT_REACT_RTAG
    let s := (((s.latch m tag l).enter m tag true false l).kindEvent k l).raise 53
    (s.belfryPart m l).act 0 l m (msgVigil m)
  else ((s.latch m 0 l).enter m 0 false false l).kindEvent k l

/-- A reaction that LCS asks of FCR (R502): level 5 without a message. -/
def State.reactErase (s : State) : State :=
  if s.reacting then
    let l0 := s.get F.FLT_REACT_LEVEL
    if l0 < 5 then ((s.put F.FLT_REACT_LEVEL 5).openWindow).act l0 5 0 false else s
  else ((s.beginReaction 5).raise 53).act 0 5 0 false

/-- A reaction ends (R522, R523): its actions are complete, the reset block back in service, its window closed. A debug
session that waited for it opens (R502). -/
def State.reactionEnd (s : State) : State :=
  if s.reacting && !s.inWindow && (s.rd R.PWR_BLKRST == 0) && s.power.cupUp then
    let s := ((s.clr F.FLT_STAT_REACT_BUSY).clr F.FLT_REACT_BUSY).raise 54
    match s.lcs.opening with
    | some g => s.openSession g
    | none => s
  else s

/-- Fetching goes on after RESUME. -/
def State.resumeQueues (s : State) : State :=
  (s.queuesIn (fun _ => true)).foldl (fun s q => (s.resumeKick q).issueWanted q) s

/-! ### FCR registers (R536, R537) -/

/-- A write of FLT_CTL: RESUME and LD_CLR are Cupola firmware's (R522, R526). -/
def State.fltCtlWrite (s : State) (r : Req) (v : Word) : State :=
  let n := v.toNat
  if (bit n 0 || bit n 1) && r != .cupola then s.denied r R.FLT_CTL true
  else
    let s := if bit n 0 && !s.reacting && s.on F.FLT_STAT_QUIESCED then (s.clr F.FLT_STAT_QUIESCED).resumeQueues else s
    let s := if bit n 1 then (s.wr R.FLT_LOCKDOWN_LO 0).wr R.FLT_LOCKDOWN_HI 0 else s
    if bit n 8 then s.cntClearN (R.FLT_KCNT 0) 32 else s

/-- A write of FLT_STAT: the flags cleared let their event sources fall. -/
def State.fltStatWrite (s : State) (v : Word) : State :=
  let s := s.wrGeneric R.FLT_STAT v
  (s.level 55 (s.on F.FLT_STAT_OVERFLOW)).level 56 (s.on F.FLT_STAT_SEQ_GAP || s.on F.FLT_STAT_MSG_OVF)

/-- A write of FLT_CFG: PIN_LEVEL takes 1 to 6 (R536). -/
def State.fltCfgWrite (s : State) (v : Word) : State :=
  let p := bits v.toNat 0 3
  s.wrGeneric R.FLT_CFG (if 1 ≤ p ∧ p ≤ 6 then v else fieldSet 0 3 v (s.get F.FLT_CFG_PIN_LEVEL))

/-- A write of 1 to FLT_FIRST_INFO.VALID clears the first record as one step (R517). -/
def State.firstClear (s : State) (v : Word) : State :=
  if bit v.toNat 31 then
    let s := ((s.wr R.FLT_FIRST_LO 0).wr R.FLT_FIRST_HI 0).wr R.FLT_FIRST_INFO 0
    let s := ((s.wr R.FLT_FIRST_TIME_LO 0).wr R.FLT_FIRST_TIME_HI 0).wr R.FLT_COUNT 0
    (s.clr F.FLT_STAT_FIRST_VALID).level 32 false
  else s

/-- FLT_SRC_LIVE (R516): the groups with a persisting condition, Belfry's while a detector is in alarm. -/
def State.srcLive (s : State) : Nat :=
  s.fcr.live.foldl (fun m e => m ||| 2 ^ sourceGroup (e.1 / 64)) (if s.detectorsLive then 2 ^ 10 else 0)

/-- A write of FLT_STICKY: a bit whose condition is live is set again (R516). -/
def State.stickyClear (s : State) (v : Word) : State :=
  let old := s.rd R.FLT_STICKY
  s.wr R.FLT_STICKY ((old &&& ~~~v) ||| (old &&& v &&& BitVec.ofNat 32 s.srcLive))

/-- A write of FLT_MAP: it only raises (R519). The entry of a KIND with no fault is RO (R536), so a write of it is
ignored. -/
def State.fltMapWrite (s : State) (k : Nat) (v : Word) : State :=
  let l := v.toNat
  if !faultKind k then s
  else if decide (s.get (F.FLT_MAP_LEVEL k) < l % 8 ∧ l % 8 ≤ 6) then s.put (F.FLT_MAP_LEVEL k) (l % 8)
  else s.set F.FLT_STAT_MAP_REJECT

/-- FAULT_N is driven low (R517). -/
def State.faultLow (s : State) : Bool := s.on F.FLT_FIRST_INFO_VALID || s.rd R.FLT_STICKY != 0

/-- FLT_MSG2 of an entry. -/
def HistEntry.info (e : HistEntry) : Nat :=
  e.rtag % 2 ^ 16 + (if e.cause then 2 ^ 16 else 0) + (if e.conseq then 2 ^ 17 else 0) + e.level % 8 * 2 ^ 20 + 2 ^ 31

/-- A read of FLT_MSG0 latches the oldest entry. -/
def State.msgLatch (s : State) : State :=
  match s.fcr.history with
  | [] => { s with fcr := { s.fcr with latched := none }, busOut := 0 }
  | e :: _ => { s with fcr := { s.fcr with latched := some e }, busOut := BitVec.ofNat 64 (e.msg.toNat % 2 ^ 32) }

/-- The entry that FLT_MSG1 to FLT_MSG3 show: the latched one, else the oldest. -/
def State.msgShown (s : State) : Option HistEntry := s.fcr.latched.or s.fcr.history.head?

/-- A read of FLT_MSG3 returns the entry's time and pops it. -/
def State.msgPop (s : State) : State :=
  match s.msgShown with
  | none => { s with busOut := 0 }
  | some e => { s with
      fcr := { s.fcr with latched := none, history := s.fcr.history.drop 1 }
      busOut := BitVec.ofNat 64 (e.timeUs % 2 ^ 32) }

/-! ### EVC (R528 to R531, R538) -/

/-- A source that is still asserted sets its pending bit again, as a new event (R528). -/
def State.reRaise (s : State) : List Nat → State
  | [] => s
  | n :: ns => (if s.evc.raw.contains n then s.raise n else s).reRaise ns

/-- The sources of a word whose bits a value has. -/
def bitsOf (w : Nat) (v : Word) : List Nat := ((List.range 32).filter (fun i => v.getLsbD i)).map (32 * w + ·)

/-- A write of EVC_PEND (R528). -/
def State.pendClear (s : State) (w : Nat) (v : Word) : State :=
  let was := (bitsOf w (s.rd (R.EVC_PEND w))).filter (fun n => v.getLsbD (n % 32))
  (s.wr (R.EVC_PEND w) (s.rd (R.EVC_PEND w) &&& ~~~v)).reRaise was

/-- A write of EVC_MASK: a pending bit that is unmasked is delivered once (R528). -/
def State.maskWrite (s : State) (w : Nat) (v : Word) : State :=
  let freed := (bitsOf w (s.rd (R.EVC_MASK w) &&& ~~~v)).filter
    (fun n => s.on (evcBit (R.EVC_PEND 0) n) && !s.evcNonMask n)
  countIntn s (freed.foldl (fun s n => s.evcDeliver n) (s.wr (R.EVC_MASK w) v))

/-- A write of EVC_ROUTE; INT_N follows. -/
def State.routeWrite (s : State) (o : Nat) (v : Word) : State := countIntn s (s.wrGeneric o v)

/-- A write of EVC_CTL. -/
def State.evcCtlWrite (s : State) (v : Word) : State := if bit v.toNat 8 then s.cntClearN (R.EVC_CNT 0) 3 else s

/-- The vectors of a function (R531). -/
def msixVectors (fn : Nat) : Nat := if fn = 0 then 64 else 4

/-- The messages that the PBA holds and that may now be sent are sent. -/
def State.sendHeld (s : State) : State :=
  let ok := fun (p : Nat × Nat) => s.evc.msixEnabled.contains p.1 && s.evc.msixUnmasked.contains p
  let go := s.evc.pba.filter ok
  ({ s with evc := { s.evc with pba := s.evc.pba.filter (fun p => !ok p), msixLog := s.evc.msixLog ++ go } }).count
    (R.EVC_CNT 0) go.length

/-- The host enables MSI-X in a function or unmasks a vector (R531). -/
def State.msixUnmask (s : State) (fn : Nat) (v : MsixUnmask) : State :=
  if !s.power.hostUp then s
  else match v with
    | .enable => { s with evc := { s.evc with msixEnabled := setIns fn s.evc.msixEnabled } }.sendHeld
    | .vector n =>
      if n.val < msixVectors fn ∧ !s.evc.msixUnmasked.contains (fn, n.val) then
        { s with evc := { s.evc with msixUnmasked := s.evc.msixUnmasked ++ [(fn, n.val)] } }.sendHeld
      else s

/-! ### The commands -/

/-- Whether FCR and EVC are out of reset. -/
def State.alive (s : State) : Bool := s.power.pwrOk && !s.power.sysHeld

/-- A SOURCE that R512 does not list is never sent. While the TAP holds the device in reset, Belfry's messages still act
(R508). -/
def execFaultMessage (m : DWord) (s : State) : Out :=
  .next (if knownSource (msgSource m) && (s.alive || (s.power.pwrOk && s.lcs.tapHold && isBelfry m)) then s.faultReceived m
    else s)

def execReactionEnd (s : State) : Out := .next s.reactionEnd

def execFltResume (r : Req) (s : State) : Out := .next (s.gateW r R.FLT_CTL (·.fltCtlWrite r 1))

def execLdClr (r : Req) (s : State) : Out := .next (s.gateW r R.FLT_CTL (·.fltCtlWrite r 2))

def execFltCntClr (r : Req) (s : State) : Out := .next (s.gateW r R.FLT_CTL (·.fltCtlWrite r 0x100))

def execFltCfgLock (r : Req) (v : Word) (s : State) : Out :=
  .next (s.gateW r R.FLT_CFG (·.fltCfgWrite (v ||| 0x80000000)))

def execFirstClear (r : Req) (s : State) : Out := .next (s.gateW r R.FLT_FIRST_INFO (·.firstClear 0x80000000))

def execStickyClear (r : Req) (v : Word) (s : State) : Out := .next (s.gateW r R.FLT_STICKY (·.stickyClear v))

def execFltMapWrite (r : Req) (k : Fin 32) (v : Word) (s : State) : Out :=
  .next (s.gateW r (R.FLT_MAP k) (·.fltMapWrite k v))

def execMsgLatch (r : Req) (s : State) : Out := .next (s.gateR r R.FLT_MSG0 State.msgLatch)

def execMsgPop (r : Req) (s : State) : Out := .next (s.gateR r R.FLT_MSG3 State.msgPop)

def execEventRise (n : Fin 256) (s : State) : Out := .next (if s.alive then s.raise n else s)

def execEvcPendClear (r : Req) (w : Fin 8) (v : Word) (s : State) : Out :=
  .next (s.gateW r (R.EVC_PEND w) (·.pendClear w v))

def execEvcMaskWrite (r : Req) (w : Fin 8) (v : Word) (s : State) : Out :=
  .next (s.gateW r (R.EVC_MASK w) (·.maskWrite w v))

def execEvcCntClr (r : Req) (v : Word) (s : State) : Out :=
  .next (s.gateW r R.EVC_CTL (·.evcCtlWrite (v ||| 0x100)))

def execMsixUnmask (fn : Fin 32) (v : MsixUnmask) (s : State) : Out := .next (s.msixUnmask fn v)

end Sys2Proof.Machine
end

