-- ==== Sys2Proof/Machine/Blf.lean ====
section
/-! DEFINITION. Belfry (12): detectors and alarms (R466 to R471), self-stimulus tests (R472 to R474), filtering (R475,
R476), fuses (R478) and the battery domain (R483 to R485). What an alarm does in Vigil stands in Vigil.lean. -/

namespace Sys2Proof.Machine

/-- Belfry's SOURCE (R512). -/
abbrev srcBlf : Nat := 0x100

/-- The number of a detector. -/
def detNum : Det → Nat
  | .a => 0
  | .b => 1

/-- The sources that R466 marks "Filtered". -/
def filtered (n : Nat) : Bool := decide (2 ≤ n ∧ n ≤ 12) && n != 11

/-- The sources that R466 marks "Fusable" (R478). -/
def fusable (n : Nat) : Bool := decide (1 ≤ n ∧ n ≤ 11)

/-- Bit `n` of BLF_FAULTY and of the fuses: detector A of source n, or 16 + n for B. -/
def detBit (n d : Nat) : Nat := n + 16 * d

def State.fused (s : State) (n d : Nat) : Bool := bit s.otp.fuses (detBit n d)

/-- Fuse-disabled (R478). -/
def State.fuseDisabled (s : State) (n : Nat) : Bool := s.fused n 0 && s.fused n 1

/-- Live: neither fused off nor declared faulty (R469). -/
def State.detLive (s : State) (n d : Nat) : Bool := !s.fused n d && !(s.rd R.BLF_FAULTY).getLsbD (detBit n d)

/-- How many detectors of a source are live. -/
def State.liveDets (s : State) (n : Nat) : Nat := (if s.detLive n 0 then 1 else 0) + if s.detLive n 1 then 1 else 0

/-- The detector under test. -/
def State.underTest (s : State) (k : Nat) : Bool :=
  match s.blf.tests with
  | t :: _ => t.1 == k
  | [] => false

/-- Whether Belfry is out of reset. -/
def State.blfUp (s : State) : Bool := s.power.pwrOk && !s.power.sysHeld

/-- The sources that stay active while the TAP holds the device in reset (R508). -/
def State.heldActive (s : State) (n : Nat) : Bool := s.power.pwrOk && s.lcs.tapHold && [0, 1, 2, 11].contains n

/-! ### Alarms -/

/-- ADDR of a Belfry message (R471). -/
def blfAddr (n dets : Nat) (windowed vigil noLive : Bool) : Nat :=
  n + dets * 256 + (if windowed then 2 ^ 16 else 0) + (if vigil then 2 ^ 17 else 0) + if noLive then 2 ^ 18 else 0

/-- A source issues an alarm: the message, BLF_LATCH, BLF_ALM_CNT and its event. -/
def State.alarmOut (s : State) (n level addr : Nat) : State :=
  let s := s.report srcBlf 0x10 level addr
  ((s.put ⟨R.BLF_LATCH, n, 1⟩ 1).inc (R.BLF_ALM_CNT n)).raise n

/-- At most one alarm of a source per 10 µs (R471). -/
def State.alarmLimit (s : State) (n : Nat) (k : State → State) : State :=
  let t := sget (fun _ => 0) s.blf.last n
  if t ≠ 0 ∧ s.time < t - 1 + 10000 then s
  else k { s with blf := { s.blf with last := sput (fun _ => 0) s.blf.last n (s.time + 1) } }

/-- An alarm of a source. -/
def State.alarmOnce (s : State) (n dets : Nat) (windowed noLive : Bool) : State :=
  s.alarmLimit n (fun s => s.alarmOut n (s.get (F.BLF_SRC_CFG_LEVEL n)) (blfAddr n dets windowed false noLive))

/-- An event of a source in a filter period (R476); `k` is the alarm that it may amount to. -/
def State.filterEvent (s : State) (n : Nat) (k : State → State) : State :=
  let w := s.get F.BLF_FILT_W * 1000
  let old := (sget (fun _ => []) s.blf.events n).filter (fun t => decide (s.time ≤ t + w))
  let s := { s with blf := { s.blf with events := sput (fun _ => []) s.blf.events n (old ++ [s.time]) } }
  if s.get F.BLF_FILT_N ≤ old.length + 1 then k s
  else (s.inc (R.BLF_FILTC n)).raise 19

/-- An event of a source: `k` issues its alarm, with WINDOWED in a filter period. -/
def State.sourceEvent (s : State) (n : Nat) (k : Bool → State → State) : State :=
  if s.filtering && filtered n then s.filterEvent n (k true) else k false s

/-- The counts that LOGIC alarms on (R466): 4 messages within 100 µs, 3 distinct sources within 1 ms. -/
def State.logicFires (s : State) (d : Nat) : Bool :=
  let within := fun ns => (s.blf.logic.filter (fun e => decide (s.time ≤ e.1 + ns))).map (·.2)
  if d = 0 then decide (4 ≤ (within 100000).length) else decide (3 ≤ (within 1000000).eraseDups.length)

/-- What a detector's alarm amounts to (R469, R470): the state with the alarm noted, and the detectors in alarm where the
source's combined state rises. -/
def State.noteAlarm (s : State) (n d : Nat) : State × Option Nat :=
  let k := 2 * n + d
  let p := 2 * n + (1 - d)
  let both := s.inAlarm p
  let was := both || s.inAlarm k
  let pLive := s.detLive n (1 - d)
  let lone := s.blf.lone.filter (fun e => e.1 != k && !(e.1 == p && both))
  let s' := { s with blf := { s.blf with
    alarm := s.blf.alarm.filter (·.1 != k) ++ [(k, s.time)]
    lone := if pLive && !both then lone ++ [(k, s.time)] else lone } }
  let dets := if both then 3 else 2 ^ d
  let isBoth := s.on (F.BLF_SRC_CFG_POLICY n) && pLive
  (s', if (if isBoth then both && !s.inAlarm k else !was) then some dets else none)

/-- A detector alarms: `k` issues an alarm of the source with the detectors in alarm and WINDOWED. -/
def State.detAlarm (s : State) (n d : Nat) (k : State → Nat → Bool → State) : State :=
  if !(s.blfUp || s.heldActive n) || !s.detLive n d || s.underTest (2 * n + d) || (n == 12 && !s.logicFires d) then s
  else match s.noteAlarm n d with
    | (s, some dets) => s.sourceEvent n (fun w s => k s dets w)
    | (s, none) => s

/-- A detector alarms outside Vigil. -/
def State.detectorAlarm (s : State) (n d : Nat) : State := s.detAlarm n d (fun s dets w => s.alarmOnce n dets w false)

/-- Whether the Vigil domain takes the alarms: during an entry and in Vigil (R480, R567); during an exit the main Belfry
does (R482). -/
def State.vigilBelfry (s : State) : Bool := s.on F.PWR_STAT_VIGIL != s.on F.PWR_STAT_VIGIL_TRANS

/-- A detector's alarm was not matched within 10 µs (R470). -/
def State.disagree (s : State) (n d : Nat) : State :=
  let k := 2 * n + d
  if s.blfUp && !s.fuseDisabled n && s.blf.lone.any (fun e => e.1 == k && decide (e.2 + 10000 ≤ s.time)) then
    let s := { s with blf := { s.blf with lone := s.blf.lone.filter (·.1 != k) } }
    ((s.put ⟨R.BLF_DISAGREE, n, 1⟩ 1).inc (R.BLF_DIS_CNT n)).raise 16
  else s

/-! ### Live detectors and tests -/

/-- What follows for the sources when detectors have become live or have ceased to be (R473, R486): `n0` is the number of
live detectors before. -/
def State.liveChanged (s : State) (n0 : Nat → Nat) : State :=
  (List.range 14).foldl (fun s n =>
    let k := s.liveDets n
    if k = 0 ∧ !s.fuseDisabled n ∧ !s.blf.silent.contains n then
      ({ s with blf := { s.blf with silent := setIns n s.blf.silent } }).alarmOnce n 0 false true
    else
      let s := if k ≠ 0 then { s with blf := { s.blf with silent := setDel n s.blf.silent } } else s
      if k = 1 ∧ n0 n = 2 then s.raise 21 else s) s

/-- Declare detectors faulty (R472). -/
def State.declareFaulty (s : State) (m : Nat) : State :=
  let old := (s.rd R.BLF_FAULTY).toNat
  let new := (m &&& 0x3FFF3FFF) ||| old
  if new = old then s
  else ((s.wr R.BLF_FAULTY (BitVec.ofNat 32 new)).raise 17).liveChanged s.liveDets

/-- Tests that end leave the bits of BLF_STAT and BLF_CTL, and the filter, as the rest of the tests wants. -/
def State.syncTests (s : State) : State :=
  let s := s.putB F.BLF_STAT_ST_BUSY (!s.blf.tests.isEmpty)
  (s.putB F.BLF_CTL_SELFTEST (s.blf.tests.any (·.2))).settleFilter

/-- A test ends (R472). -/
def State.testResult (s : State) (n d : Nat) (pass : Bool) : State :=
  match s.blf.tests with
  | [] => s
  | (k, dem) :: ts =>
    if k ≠ 2 * n + d ∨ !s.blfUp then s
    else
      let s := { s with blf := { s.blf with tests := ts } }
      let s := s.put ⟨R.BLF_ST_RES, detBit n d, 1⟩ (if pass then 0 else 1)
      let s := if pass && dem then
          (s.put ⟨R.BLF_FAULTY, detBit n d, 1⟩ 0).liveChanged s.liveDets
        else if pass then s
        else ((s.set F.BLF_STAT_ST_FAIL).almanac 6 n d).declareFaulty (2 ^ detBit n d)
      s.syncTests

/-- The detectors that a mask of sources and detectors selects and that can be tested. -/
def State.testList (s : State) (sources : Nat) (da db : Bool) : List Nat :=
  (List.range 28).filter (fun k => bit sources (k / 2) && (if k % 2 = 0 then da else db) && !s.fused (k / 2) (k % 2))

/-- A write of 1 to SELFTEST (R474). -/
def State.selftestReq (s : State) : State :=
  if !s.blf.tests.isEmpty then s.set F.BLF_STAT_CFG_REJECT
  else
    let l := s.testList (s.get F.BLF_ST_SEL_SOURCES) (s.on F.BLF_ST_SEL_DET_A) (s.on F.BLF_ST_SEL_DET_B)
    ({ s with blf := { s.blf with tests := l.map (·, true) } }).syncTests

/-- The periodic test falls due: the only live detector of each source (R474), after the tests that run. -/
def State.periodicTest (s : State) : State :=
  if !s.blfUp then s
  else
    let l := (List.range 28).filter (fun k => s.detLive (k / 2) (k % 2) && !s.detLive (k / 2) (1 - k % 2))
    ({ s with blf := { s.blf with tests := s.blf.tests ++ l.map (·, false) } }).syncTests

/-- The start window ends (R475). -/
def State.startWindowEnd (s : State) : State :=
  if s.blfUp && s.on F.BLF_STAT_START_WINDOW && decide (s.blf.startAt + 50000000 ≤ s.time) then
    (s.clr F.BLF_STAT_START_WINDOW).settleFilter
  else s

/-! ### Registers -/

/-- A write of BLF_CTL (R487). -/
def State.blfCtlWrite (s : State) (v : Word) : State :=
  let n := v.toNat
  let s := if bit n 8 then ((s.cntClearN (R.BLF_ALM_CNT 0) 14).cntClearN (R.BLF_DIS_CNT 0) 14).cntClearN (R.BLF_FILTC 0) 14
    else s
  let s := if bit n 31 then s.set F.BLF_CTL_LOCK else s
  if bit n 0 then s.selftestReq else s

/-- A write of BLF_SRC_CFG (R469, R487). -/
def State.srcCfgWrite (s : State) (n : Nat) (v : Word) : State :=
  if s.on F.BLF_CTL_LOCK then s
  else
    let l := bits v.toNat 0 3
    let st := s.get F.LCS_STATE_STATE
    let noBoth := bit v.toNat 4 && ([0, 1, 11, 12, 13].contains n || (st != 1 && st != 4))
    let s := if l = 7 ∨ noBoth then s.set F.BLF_STAT_CFG_REJECT else s
    let s := if l = 7 then s else s.put (F.BLF_SRC_CFG_LEVEL n) l
    if noBoth then s else s.putB (F.BLF_SRC_CFG_POLICY n) (bit v.toNat 4)

/-- A write of BLF_FILT. -/
def State.filtWrite (s : State) (v : Word) : State :=
  let v := if bits v.toNat 0 4 = 0 then fieldSet 0 4 v (s.get F.BLF_FILT_N) else v
  s.wrGeneric R.BLF_FILT (if bits v.toNat 16 16 = 0 then fieldSet 16 16 v (s.get F.BLF_FILT_W) else v)

/-- A signed byte. -/
def sbyte (n : Nat) : Int := (BitVec.ofNat 8 n).toInt

/-- A write of BLF_BAT_TLIM. -/
def State.tlimWrite (s : State) (v : Word) : State :=
  let lo := sbyte (bits v.toNat 0 8)
  let hi := bits v.toNat 8 8
  let v := if -60 ≤ lo ∧ lo ≤ -30 then v else fieldSet 0 8 v (s.get F.BLF_BAT_TLIM_T_LO)
  s.wrGeneric R.BLF_BAT_TLIM (if 110 ≤ hi ∧ hi ≤ 140 then v else fieldSet 8 8 v (s.get F.BLF_BAT_TLIM_T_HI))

/-- The tests of detectors that are fused off end without a result (R478). -/
def State.dropTests (s : State) : State :=
  let l := s.blf.tests.filter (fun e => !s.fused (e.1 / 2) (e.1 % 2))
  if l.length < s.blf.tests.length then ({ s with blf := { s.blf with tests := l } }).syncTests else s

/-- A write of BLF_FUSE_PGM (R478): MANUFACTURE and PROVISION only, never sources 0, 12 and 13. A detector that is fused off is
tested no more. -/
def State.fuseWrite (s : State) (v : Word) : State :=
  let n := bits v.toNat 0 4
  let st := s.get F.LCS_STATE_STATE
  let s := s.wr R.BLF_FUSE_PGM (v &&& 0x30F)
  if !bit v.toNat 31 then s
  else if !fusable n || (st != 1 && st != 2) then s.set F.BLF_STAT_CFG_REJECT
  else
    let m := (if bit v.toNat 8 then 2 ^ n else 0) ||| if bit v.toNat 9 then 2 ^ (16 + n) else 0
    ({ s with otp := { s.otp with fuses := s.otp.fuses ||| m } }).dropTests.liveChanged s.liveDets

/-- A write of BLF_BAT_CTL. -/
def State.batCtlWrite (s : State) (v : Word) : State :=
  let s := if bit v.toNat 0 then (s.put F.BLF_BAT_STAT_EVT 0).put F.BLF_BAT_STAT_BAT_TCNT 0 else s
  if bit v.toNat 1 then s.clr F.BLF_BAT_STAT_VBAT_FRESH else s

/-! ### The battery domain -/

/-- An alarm on backup power (R483): sources 0, 1, 2 and 8. -/
def State.backupAlarm (s : State) (n : Nat) (hot : Bool) : State :=
  if !s.blf.backup || ! [0, 1, 2, 8].contains n || s.fuseDisabled n then s
  else
    let s := s.bbkDestroy
    let s := s.put ⟨R.BLF_BAT_STAT, if n = 8 then (if hot then 4 else 3) else n, 1⟩ 1
    s.put F.BLF_BAT_STAT_BAT_TCNT (min 15 (s.get F.BLF_BAT_STAT_BAT_TCNT + 1))

/-- The comparison of VBAT with 2.5 V on main power (R485). -/
def State.vbatCheck (s : State) (mv : Nat) : State :=
  if !s.blfUp || s.blf.backup then s
  else
    let s := { s with blf := { s.blf with vbat := mv } }
    if mv < 2500 then (s.set F.BLF_BAT_STAT_VBAT_LOW).raise 20 else s.clr F.BLF_BAT_STAT_VBAT_LOW

/-- The battery domain's contents are zeroed (R485, R614). -/
def State.batteryLost (s : State) : State :=
  let s := { s with keep := { s.keep with bbk := [], bbkValid := false, bbkGen := 0, uidCount := 0, cells := [] } }
  let s := s.syncBattery
  (s.put F.BLF_BAT_STAT_EVT 0).put F.BLF_BAT_STAT_BAT_TCNT 0

/-- VBAT falls below 2.2 V on backup power (R614). -/
def State.vbatBrownout (s : State) (mv : Nat) : State :=
  if s.blf.backup && decide (mv < 2200) then
    (({ s with blf := { s.blf with vbat := mv } }).batteryLost).set F.BLF_BAT_STAT_VBAT_FRESH
  else s

/-- VBAT is applied for the first time, or for the first time after both supplies were lost (R399, R485): every field and
register of kind BAT takes its reset value, and VBAT_FRESH is set. -/
def State.vbatFirst (s : State) : State :=
  if s.power.pwrOk then s
  else ((s.resetRegs [.bat] (fun _ => true)).batteryLost).set F.BLF_BAT_STAT_VBAT_FRESH

/-! ### The commands -/

def execDetectorAlarm (n : Fin 14) (d : Det) (s : State) : Out :=
  .next (if s.vigilBelfry then s else s.detectorAlarm n (detNum d))

def execDisagreement (n : Fin 14) (d : Det) (s : State) : Out := .next (s.disagree n (detNum d))

def execBlfSelftest (r : Req) (v : Word) (s : State) : Out := .next (s.gateW r R.BLF_CTL (·.blfCtlWrite (v ||| 1)))

def execPeriodicSelftest (s : State) : Out := .next s.periodicTest

def execSelftestResult (n : Fin 14) (d : Det) (pass : Bool) (s : State) : Out := .next (s.testResult n (detNum d) pass)

def execBlfFaultyDeclare (r : Req) (v : Word) (s : State) : Out :=
  .next (s.gateW r R.BLF_FAULTY (·.declareFaulty v.toNat))

def execFusePgm (r : Req) (v : Word) (s : State) : Out :=
  .next (s.gateW r R.BLF_FUSE_PGM (·.fuseWrite (v ||| 0x80000000)))

def execStartWindowEnd (s : State) : Out := .next s.startWindowEnd

/-- No heartbeat token for 4 µs: ALARM_PATH alarms (R466, R479). -/
def execHeartbeatTimeout (d : Det) (s : State) : Out :=
  .next (if s.vigilBelfry then s else s.detectorAlarm 13 (detNum d))

def execBackupAlarm (n : Fin 14) (hot : Bool) (s : State) : Out := .next (s.backupAlarm n hot)

def execVbatCheck (mv : BitVec 16) (s : State) : Out := .next (s.vbatCheck mv.toNat)

def execVbatBrownout (mv : BitVec 16) (s : State) : Out := .next (s.vbatBrownout mv.toNat)

def execVbatFirstApply (s : State) : Out := .next s.vbatFirst

/-- The battery domain changes between main and backup power (R483); the supplies of a running device do not fail. -/
def execBackupPower (on : Bool) (s : State) : Out :=
  .next (if s.power.pwrOk then s else { s with blf := { s.blf with backup := on } })

def execClrEvt (r : Req) (v : Word) (s : State) : Out := .next (s.gateW r R.BLF_BAT_CTL (·.batCtlWrite (v ||| 1)))

def execClrFresh (r : Req) (v : Word) (s : State) : Out := .next (s.gateW r R.BLF_BAT_CTL (·.batCtlWrite (v ||| 2)))

def execBlfCntClr (r : Req) (v : Word) (s : State) : Out := .next (s.gateW r R.BLF_CTL (·.blfCtlWrite (v ||| 0x100)))

def execBlfLock (r : Req) (v : Word) (s : State) : Out :=
  .next (s.gateW r R.BLF_CTL (·.blfCtlWrite (v ||| 0x80000000)))

end Sys2Proof.Machine
end

