-- ==== Sys2Proof/Machine/FrameParse.lean ====
section
/-! DEFINITION. What IPP reads from the bytes of a frame (R257): tags, EtherType, IP and transport headers, SecTAG, PRP
trailer, and the flow keys that R250 and R251 build from them. Layouts are those of the cited standards. -/

namespace Sys2Proof.Machine

/-- What a frame's outer headers hold: the outer VID (0xFFFF untagged) and the number of tags, the HSR sequence number,
the EtherType and the offset after it, the IP version (0 none), its addresses, transport protocol and header offset, the
offset of the byte that names the protocol, the end of the packet, and whether it is a fragment. -/
structure Parsed where
  vid : Nat
  tags : Nat
  hsr : Option Nat
  etype : Nat
  off : Nat
  ip : Nat
  src : List Byte
  dst : List Byte
  proto : Nat
  l4 : Nat
  nh : Nat
  ipEnd : Nat
  frag : Bool
  deriving DecidableEq, Repr

/-! ### Ones' complement sums -/

/-- The sum of the 16-bit words of a byte string in network order. -/
def sumWords : List Byte → Nat
  | a :: b :: r => a.toNat * 256 + b.toNat + sumWords r
  | [a] => a.toNat * 256
  | [] => 0

/-- Fold a sum to 16 bits. -/
def fold16 (n : Nat) : Nat :=
  let a := n % 65536 + n / 65536
  a % 65536 + a / 65536

/-- The checksum that makes a header sum to 0xFFFF. -/
def checksum (bs : List Byte) : Nat := 0xFFFF - fold16 (sumWords bs)

/-! ### Parsing -/

def isVlan (t : Nat) : Bool := t == 0x8100 || t == 0x88A8

/-- Skip up to two VLAN tags (R257): the tags, the outer VID and the offset of the EtherType; none for a third tag or a
truncated header. -/
def skipTags (bs : List Byte) : Option (Nat × Nat × Nat) :=
  let t0 := beAt bs 12 2
  if bs.length < 14 then none
  else if !isVlan t0 then some (0, 0xFFFF, 12)
  else if bs.length < 18 then none
  else if !isVlan (beAt bs 16 2) then some (1, beAt bs 14 2 % 4096, 16)
  else if bs.length < 22 then none
  else if isVlan (beAt bs 20 2) then none
  else some (2, beAt bs 14 2 % 4096, 20)

/-- The IPv6 extension headers that R257 lets pass, Hop-by-Hop and Destination Options of at most 64 bytes together: the
transport protocol, its offset and the offset of the byte that names it; none for any other. -/
def skipExt (bs : List Byte) (start : Nat) : Nat → Nat → Nat → Nat → Option (Nat × Nat × Nat)
  | 0, _, _, _ => none
  | n + 1, nh, at_, nhOff =>
    if nh = 0 ∨ nh = 60 then
      let len := (byteAt bs (at_ + 1) + 1) * 8
      if bs.length < at_ + len ∨ 64 < at_ + len - start then none
      else skipExt bs start n (byteAt bs at_) (at_ + len) at_
    else if [43, 44, 51, 135, 139, 140].contains nh then none
    else some (nh, at_, nhOff)

/-- The bytes that a transport header must have. -/
def l4Min (proto : Nat) : Nat := if proto = 6 then 20 else if proto = 17 then 8 else if proto = 50 then 8 else 0

/-- The IPv4 header at an offset (R257); none where it is truncated or its checksum fails. -/
def parseIp4 (bs : List Byte) (p : Parsed) : Option Parsed :=
  let o := p.off
  let ihl := byteAt bs o % 16 * 4
  let total := beAt bs (o + 2) 2
  let fr := beAt bs (o + 6) 2
  let frag := fr % 0x4000 != 0
  let proto := byteAt bs (o + 9)
  if bs.length < o + 20 ∨ byteAt bs o / 16 ≠ 4 ∨ ihl < 20 ∨ total < ihl ∨ bs.length < o + total then none
  else if fold16 (sumWords (slice bs o ihl)) ≠ 0xFFFF then none
  else if !frag && decide (total < ihl + l4Min proto) then none
  else some { p with ip := 4, src := slice bs (o + 12) 4, dst := slice bs (o + 16) 4, proto := proto, l4 := o + ihl,
                     nh := o + 9, ipEnd := o + total, frag := frag }

/-- The IPv6 header at an offset. -/
def parseIp6 (bs : List Byte) (p : Parsed) : Option Parsed :=
  let o := p.off
  let end_ := o + 40 + beAt bs (o + 4) 2
  if bs.length < o + 40 ∨ byteAt bs o / 16 ≠ 6 ∨ bs.length < end_ then none
  else match skipExt (bs.take end_) (o + 40) 10 (byteAt bs (o + 6)) (o + 40) (o + 6) with
    | none => none
    | some (proto, l4, nh) =>
      if end_ < l4 + l4Min proto then none
      else some { p with ip := 6, src := slice bs (o + 8) 16, dst := slice bs (o + 24) 16, proto := proto, l4 := l4, nh := nh,
                         ipEnd := end_, frag := false }

def isGoose (t : Nat) : Bool := t == 0x88B8 || t == 0x88BA

/-- Parse the outer headers (R257 step 2); none is PARSE_ERR. -/
def parseFrame (bs : List Byte) : Option Parsed :=
  match skipTags bs with
  | none => none
  | some (n, vid, o) =>
    let hsr := beAt bs o 2 == 0x892F
    if hsr && decide (bs.length < o + 8) then none
    else
      let o' := if hsr then o + 6 else o
      let t := beAt bs o' 2
      let p : Parsed := ⟨vid, n, if hsr then some (beAt bs (o + 4) 2) else none, t, o' + 2, 0, [], [], 0, 0, 0, 0, false⟩
      if t = 0x0800 then parseIp4 bs p
      else if t = 0x86DD then parseIp6 bs p
      else if isGoose t && decide (bs.length < p.off + 8) then none
      else if t = 0x88E5 ∧ bs.length < p.off + 6 + (if bit (byteAt bs p.off) 5 then 8 else 0) + 16 then none
      else some p

/-! ### Keys (R250, R251) -/

/-- A flow key: KTYPE, IN_PORT and KEY_DATA. -/
def mkKey (kt port : Nat) (data : List Byte) : List Byte :=
  fit 40 ([BitVec.ofNat 8 kt, BitVec.ofNat 8 port] ++ data)

def hasPorts (proto : Nat) : Bool := [6, 17, 33, 132, 136].contains proto

/-- Source and destination ports in wire order, zero for protocols without. -/
def Parsed.ports (p : Parsed) (bs : List Byte) : List Byte := if hasPorts p.proto then fit 4 (slice bs p.l4 4) else zeros 4

def Parsed.dport (p : Parsed) (bs : List Byte) : Nat := if hasPorts p.proto then beAt bs (p.l4 + 2) 2 else 0

def keyL2 (p : Parsed) (port : Nat) (bs : List Byte) : List Byte :=
  mkKey 1 port (bs.take 6 ++ natBE 2 p.vid ++ natBE 2 p.etype ++ (if isGoose p.etype then slice bs p.off 2 else zeros 2))

def keyEtype (p : Parsed) (port : Nat) : List Byte := mkKey 0xA port (natBE 2 p.etype)

/-- The keys of R251 that no security protocol claims. -/
def keysPlain (p : Parsed) (port : Nat) (bs : List Byte) : List (List Byte) :=
  (if p.ip != 0 && !p.frag then
    [mkKey (if p.ip = 4 then 5 else 7) port (p.src ++ p.dst ++ natBE 1 p.proto ++ p.ports bs),
     mkKey (if p.ip = 4 then 6 else 8) port (p.src ++ p.dst)]
  else []) ++ [keyL2 p port bs, keyEtype p port]

/-- Whether a packet is ESP: protocol 50, or UDP port 4500 with a non-zero first word (R251). -/
def Parsed.isEsp (p : Parsed) (bs : List Byte) : Bool :=
  p.ip != 0 && (p.proto == 50 ||
    (p.proto == 17 && !p.frag && p.dport bs == 4500 && decide (p.l4 + 16 ≤ p.ipEnd) && beAt bs (p.l4 + 8) 4 != 0))

/-- Where the ESP header of such a packet begins. -/
def Parsed.espAt (p : Parsed) : Nat := if p.proto = 17 then p.l4 + 8 else p.l4

/-- The UDP payload of a packet. -/
def Parsed.udpPayload (p : Parsed) (bs : List Byte) : List Byte := slice bs (p.l4 + 8) (p.ipEnd - p.l4 - 8)

/-- The SPDU that a UDP packet for port 102 carries (R251). -/
def Parsed.spdu (p : Parsed) (bs : List Byte) : Option (Nat × Nat × Nat × Nat × Nat × List Byte × List Byte) :=
  if p.ip != 0 && p.proto == 17 && !p.frag && p.dport bs == 102 then Config.spduDecode (p.udpPayload bs) else none

/-- A SecTAG: TCI and AN, SL, PN, SCI and the offset of the secure data. -/
structure SecTag where
  tci : Nat
  an : Nat
  sl : Nat
  pn : Nat
  sci : List Byte
  data : Nat
  deriving DecidableEq, Repr

/-- Read the SecTAG; without SC, the SCI is the source address with port 0x0001 (R259). -/
def Parsed.sectag (p : Parsed) (bs : List Byte) : SecTag :=
  let t := byteAt bs p.off
  let sc := bit t 5
  { tci := t / 4, an := t % 4, sl := byteAt bs (p.off + 1), pn := beAt bs (p.off + 2) 4
    sci := if sc then slice bs (p.off + 6) 8 else slice bs 6 6 ++ natBE 2 1
    data := p.off + 6 + (if sc then 8 else 0) }

/-- The faults of a SecTAG that need no context (R260): V, ES with SC, SC with SCB, C without E, SL. -/
def SecTag.bad (t : SecTag) (bs : List Byte) : Bool :=
  let f := fun i => bit t.tci i
  let n := bs.length - t.data - 16
  f 5 || (f 4 && f 3) || (f 3 && f 2) || (f 0 && !f 1) || decide (48 ≤ t.sl) || (t.sl != 0 && t.sl != n)

/-- The keys of a frame in the order of R251. -/
def flowKeys (p : Parsed) (port : Nat) (bs : List Byte) : List (List Byte) :=
  if port < 8 then keysPlain p port bs
  else if p.etype = 0x88E5 then [mkKey 2 port (p.sectag bs).sci]
  else if p.isEsp bs then
    [mkKey (if p.ip = 4 then 3 else 4) port (p.dst ++ slice bs p.espAt 4 ++ natBE 1 (if p.proto = 17 then 1 else 0))]
  else match p.spdu bs with
    | some (_, _, kid, _) => [mkKey 9 port (natBE 1 p.ip ++ fit 16 p.dst ++ natBE 4 kid)]
    | none => keysPlain p port bs

/-! ### Redundancy -/

/-- The PRP sequence number: suffix 0x88FB with a matching LSDUsize at the end of the frame (R270). -/
def prpSeq (p : Parsed) (bs : List Byte) : Option Nat :=
  let n := bs.length
  if beAt bs (n - 2) 2 = 0x88FB ∧ beAt bs (n - 4) 2 % 4096 = n - 14 - 4 * p.tags ∧ 20 ≤ n then some (beAt bs (n - 6) 2) else none

/-- The identity of R271: source address and sequence number. -/
def identityOf (hsrMode : Bool) (p : Parsed) (bs : List Byte) : Option Nat :=
  (if hsrMode then p.hsr else prpSeq p bs).map (fun q => beAt bs 6 6 * 65536 + q)

/-! ### IP headers with a new payload -/

/-- An IPv4 header with its total length and checksum set. -/
def ip4Fix (h : List Byte) (total : Nat) : List Byte :=
  let h := patch (patch h 2 (natBE 2 total)) 10 (zeros 2)
  patch h 10 (natBE 2 (checksum h))

/-- The IP header bytes of a packet (extension headers included) with a new transport protocol and payload length. -/
def ipHeader (p : Parsed) (bs : List Byte) (proto payload : Nat) : List Byte :=
  let h := slice bs p.off (p.l4 - p.off)
  let h := patch h (p.nh - p.off) (natBE 1 proto)
  if p.ip = 4 then ip4Fix h (h.length + payload) else patch h 4 (natBE 2 (h.length - 40 + payload))

/-- A frame whose UDP payload is replaced: lengths, IPv4 header checksum and UDP checksum follow (R267). -/
def withUdpPayload (p : Parsed) (bs v : List Byte) : List Byte :=
  let n := 8 + v.length
  let u := slice bs p.l4 4 ++ natBE 2 n ++ zeros 2 ++ v
  let pseudo := p.src ++ p.dst ++ (if p.ip = 4 then natBE 2 17 ++ natBE 2 n else natBE 4 n ++ natBE 4 17)
  let c := checksum (pseudo ++ u)
  bs.take p.off ++ ipHeader p bs 17 n ++ patch u 6 (natBE 2 (if c = 0 then 0xFFFF else c))

end Sys2Proof.Machine
end

