-- ==== Sys2Proof/Machine/FrameXform.lean ====
section
/-! DEFINITION. The transforms of a frame as functions of its bytes and a context: MACsec (R259 to R261), ESP (R263 to
R265) and group streams (R266, R267). -/

namespace Sys2Proof.Machine

/-! ### MACsec -/

/-- The 12-byte nonce: SCI and PN, or for XPN the SSCI and the 64-bit PN over the salt (IEEE 802.1AE). -/
def macsecIv (x : List Byte) (sci : List Byte) (pn : Nat) : List Byte :=
  if cWide x then xorBytes (natBE 4 (leAt x 140 4) ++ natBE 8 pn) (fit 12 (cSalt x)) else sci ++ natBE 4 pn

/-- How many bytes of the user data stay clear: all without confidentiality, else the confidentiality offset. -/
def macsecClear (x : List Byte) (enc : Bool) (user : List Byte) : Nat := if enc then min (byteAt x 137) user.length else user.length

/-- The protected frame of a clear one under a context and a PN: the SecTAG after the source address, then the user data,
then the 16-byte ICV. -/
def macsecProtect (x : List Byte) (pn : Nat) (bs : List Byte) : List Byte :=
  let user := bs.drop 12
  let sci := slice x 128 8
  let tci := byteAt x 136 % 4 + (if cConf x then 12 else 0) + (if bit (cFlags x) 1 then 32 else 0)
  let sl := if user.length < 48 then user.length else 0
  let head := bs.take 12 ++ natBE 2 0x88E5 ++ natBE 1 tci ++ natBE 1 sl ++ natBE 4 pn ++ (if bit (cFlags x) 1 then sci else [])
  let iv := macsecIv x sci pn
  let n := macsecClear x (cConf x) user
  let ct := streamCrypt 0xB01 (cKey x) iv (user.drop n)
  head ++ user.take n ++ ct ++ aeadTag 0xB01 (cKey x) iv (head ++ user.take n) ct 16

/-- lowestPN: the lowest PN that the replay check accepts (R261). -/
def lowestPn (x : List Byte) : Nat := max 1 (cCtr x - leAt x 152 4)

/-- The 64-bit PN that a 32-bit PN stands for: for XPN, the upper half is that of the lowest acceptable PN, or one more
when the top bit of its lower half is set and that of the received PN is clear (IEEE 802.1AE). -/
def recoverPn (x : List Byte) (pn : Nat) : Nat :=
  if !cWide x then pn
  else
    let low := lowestPn x
    (low / 2 ^ 32 + if bit low 31 && !bit pn 31 then 1 else 0) % 2 ^ 32 * 2 ^ 32 + pn

/-- Verify a protected frame and take its protection off; none where the ICV fails. -/
def macsecVerify (x : List Byte) (t : SecTag) (pn : Nat) (bs : List Byte) : Option (List Byte) :=
  let body := slice bs t.data (bs.length - t.data - 16)
  let iv := macsecIv x t.sci pn
  let n := macsecClear x (bit t.tci 1) body
  let ct := body.drop n
  if aeadTag 0xB01 (cKey x) iv (bs.take t.data ++ body.take n) ct 16 = bs.drop (bs.length - 16) then
    some (bs.take 12 ++ body.take n ++ streamCrypt 0xB01 (cKey x) iv ct)
  else none

/-! ### ESP -/

def espAlg (x : List Byte) : Nat := if cCipher x = 2 then 0xC01 else 0xB01

/-- The AAD: SPI and the 32-bit, or extended 64-bit, sequence number. -/
def espAad (x : List Byte) (seq : Nat) : List Byte :=
  natBE 4 (leAt x 128 4) ++ (if cWide x then natBE 8 seq else natBE 4 seq)

/-- ESP padding to a multiple of four bytes, pad length and Next Header (RFC 4303). -/
def espTrailer (n next : Nat) : List Byte :=
  let p := (4 - (n + 2) % 4) % 4
  (List.range p).map (fun i => BitVec.ofNat 8 (i + 1)) ++ [BitVec.ofNat 8 p, BitVec.ofNat 8 next]

/-- The ESP packet of a payload: SPI, sequence number, IV, ciphertext, ICV. -/
def espPacket (x : List Byte) (seq : Nat) (payload : List Byte) (next : Nat) : List Byte :=
  let iv := natBE 8 seq
  let ct := streamCrypt (espAlg x) (cKey x) (saltNonce x iv) (payload ++ espTrailer payload.length next)
  natBE 4 (leAt x 128 4) ++ natBE 4 seq ++ iv ++ ct ++ aeadTag (espAlg x) (cKey x) (saltNonce x iv) (espAad x seq) ct 16

/-- The Ethernet header of a template: 14 bytes, or 18 with a VLAN tag. -/
def ethLen (t : List Byte) : Nat := if isVlan (beAt t 12 2) then 18 else 14

/-- The UDP header of an encapsulated packet, with checksum 0 (RFC 3948). -/
def espUdp (h : List Byte) (n : Nat) : List Byte := slice h 0 4 ++ natBE 2 (8 + n) ++ zeros 2

/-- The outer IP header of tunnel mode (R264) for a payload of `n` bytes. -/
def tunnelIp (x h : List Byte) (dscp n : Nat) : List Byte :=
  let proto := if bit (cFlags x) 4 then 17 else 50
  if byteAt h 0 / 16 = 4 then
    let h := patch h 1 (natBE 1 (dscp * 4 + byteAt h 1 % 4))
    let h := patch (patch h 4 (natBE 2 0)) 6 (natBE 2 0x4000)
    ip4Fix (patch (patch h 8 (natBE 1 (byteAt x 133))) 9 (natBE 1 proto)) (h.length + n)
  else
    let ecn := byteAt h 1 / 16 % 4
    let tc := dscp * 4 + ecn
    let h := patch h 0 (natBE 4 (6 * 2 ^ 28 + tc * 2 ^ 20))
    patch (patch h 4 (natBE 2 (h.length - 40 + n))) 6 (natBE 1 proto ++ natBE 1 (byteAt x 133))

/-- The DSCP of an inner packet. -/
def innerDscp (p : Parsed) (bs : List Byte) : Nat :=
  if p.ip = 4 then byteAt bs (p.off + 1) / 4 else beAt bs p.off 2 / 64 % 64

/-- The frame of tunnel mode: the template's headers with their lengths, around the packet. -/
def espTunnel (x : List Byte) (seq : Nat) (p : Parsed) (bs : List Byte) : List Byte :=
  let t := slice x 144 (byteAt x 134)
  let e := ethLen t
  let ipLen := if byteAt t e / 16 = 4 then byteAt t e % 16 * 4 else 40
  let esp := espPacket x seq (slice bs p.off (p.ipEnd - p.off)) (if p.ip = 4 then 4 else 41)
  let udp := if bit (cFlags x) 4 then espUdp (slice t (e + ipLen) 8) esp.length else []
  let dscp := if bit (cFlags x) 6 then innerDscp p bs else byteAt x 132 % 64
  t.take e ++ tunnelIp x (slice t e ipLen) dscp (udp.length + esp.length) ++ udp ++ esp

/-- The frame of transport mode: the packet's own IP header, with protocol 50 or UDP port 4500. The Ethernet header is the
context's where it holds one. -/
def espTransport (x : List Byte) (seq : Nat) (p : Parsed) (bs : List Byte) : List Byte :=
  let t := slice x 144 (byteAt x 134)
  let eth := if t.length < 14 then bs.take p.off else t.take (ethLen t)
  let esp := espPacket x seq (slice bs p.l4 (p.ipEnd - p.l4)) p.proto
  let udp := if bit (cFlags x) 4 then espUdp (natBE 2 4500 ++ natBE 2 4500) esp.length else []
  eth ++ ipHeader p bs (if bit (cFlags x) 4 then 17 else 50) (udp.length + esp.length) ++ udp ++ esp

/-- The frame that an ESP_OUT context makes of an IP packet. -/
def espProtect (x : List Byte) (seq : Nat) (p : Parsed) (bs : List Byte) : List Byte :=
  if bit (cFlags x) 5 then espTunnel x seq p bs else espTransport x seq p bs

/-- The window of an ESP_IN context. -/
def espWin (x : List Byte) : Nat := 2 ^ byteAt x 133

/-- The sequence number that 32 bits stand for (RFC 4303, Appendix A); none where it would lie below 0. -/
def recoverSeq (x : List Byte) (lo : Nat) : Option Nat :=
  if !cWide x then some lo
  else
    let t := cCtr x
    let tl := t % 2 ^ 32
    let th := t / 2 ^ 32
    let w := espWin x
    if w ≤ tl + 1 then some ((if tl + 1 - w ≤ lo then th else th + 1) * 2 ^ 32 + lo)
    else if tl + 1 + 2 ^ 32 - w ≤ lo then (if th = 0 then none else some ((th - 1) * 2 ^ 32 + lo))
    else some (th * 2 ^ 32 + lo)

/-- Whether the window refuses a sequence number (R265): below it, marked, or 0. -/
def espReplay (x : List Byte) (seq : Nat) : Bool :=
  let top := cCtr x
  cReplayEn x && (seq == 0 || decide (seq + espWin x ≤ top) || (decide (seq ≤ top) && bit (leAt x 144 128) (top - seq)))

/-- The context after a sequence number is accepted: the bit marked, the window edge advanced. -/
def espMark (x : List Byte) (seq : Nat) : List Byte :=
  let top := cCtr x
  let b := leAt x 144 128
  if seq ≤ top then setLE x 144 128 (b ||| 2 ^ (top - seq))
  else setLE (setLE x 136 8 seq) 144 128 ((b * 2 ^ (seq - top) + 1) % 2 ^ 1024)

/-- What an ESP packet opens to. -/
inductive EspOpen where
  | badIcv | badForm | dummy | frame (bs : List Byte)
  deriving DecidableEq, Repr

/-- The frame of an opened payload (R265): in tunnel mode the inner packet behind the received Ethernet header, in transport
mode the received IP header with the inner protocol. -/
def espInner (x : List Byte) (p : Parsed) (bs pt : List Byte) : EspOpen :=
  let n := pt.length
  let pad := byteAt pt (n - 2)
  let next := byteAt pt (n - 1)
  let body := pt.take (n - 2 - pad)
  let padOk := decide (2 + pad ≤ n) && slice pt (n - 2 - pad) pad == (List.range pad).map (fun i => BitVec.ofNat 8 (i + 1))
  if n < 2 ∨ !padOk then .badForm
  else if next = 59 then .dummy
  else if bit (cFlags x) 5 then
    let ok4 := decide (20 ≤ body.length) && byteAt body 0 / 16 == 4
    let ok6 := decide (40 ≤ body.length) && byteAt body 0 / 16 == 6
    let len := if next = 4 then beAt body 2 2 else 40 + beAt body 4 2
    if !((next == 4 && ok4) || (next == 41 && ok6)) ∨ body.length < len then .badForm
    else .frame (bs.take (p.off - 2) ++ natBE 2 (if next = 4 then 0x0800 else 0x86DD) ++ body.take len)
  else if next = 4 ∨ next = 41 then .badForm
  else .frame (bs.take p.off ++ ipHeader p bs next body.length ++ body)

/-- Open an ESP packet under a context and a sequence number. -/
def espOpen (x : List Byte) (seq : Nat) (p : Parsed) (bs : List Byte) : EspOpen :=
  let esp := slice bs p.espAt (p.ipEnd - p.espAt)
  let iv := slice esp 8 8
  let ct := slice esp 16 (esp.length - 32)
  if esp.length < 32 ∨ aeadTag (espAlg x) (cKey x) (saltNonce x iv) (espAad x seq) ct 16 ≠ esp.drop (esp.length - 16) then .badIcv
  else espInner x p bs (streamCrypt (espAlg x) (cKey x) (saltNonce x iv) ct)

/-! ### Group streams -/

def gMacAlg (x : List Byte) : Nat := byteAt x 136

/-- The MAC of a group stream (R266). -/
def groupMac (alg : Nat) (key msg : List Byte) : List Byte :=
  if alg = 3 then aeadTag 0xB01 key (fit 12 (Config.groupIv msg)) msg [] 16
  else macOf 0xA01 key msg [] (if alg = 1 then 16 else if alg = 2 then 32 else 10)

/-- The key of a group context that a key ID selects, current or next, with the end of its validity in PTP seconds. -/
def groupKey (x : List Byte) (kid : Nat) : Option (List Byte × Nat) :=
  if kid = leAt x 128 4 then some (cKey x, leAt x 152 8)
  else if kid = leAt x 132 4 ∧ leAt x 160 8 ≠ 0 then some (slice x 176 32, leAt x 168 8)
  else none

/-- Whether a key that ends at a PTP second has expired at a PTP time in ns. -/
def keyExpired (last ns : Nat) : Bool := decide (last * 1000000000 < ns)

/-- A GOOSE or SV frame with its security extension (R267). -/
def goosePro (x : List Byte) (ts : Nat) (bs : List Byte) : List Byte :=
  let kid := leAt x 128 4
  Config.extEncode bs (gMacAlg x) kid ts (groupMac (gMacAlg x) (cKey x) (Config.extEncode bs (gMacAlg x) kid ts []))

/-- An R-GOOSE or R-SV packet with its session layer secured (R267). -/
def spduPro (x : List Byte) (p : Parsed) (bs : List Byte) : List Byte :=
  let v := p.udpPayload bs
  let kid := leAt x 128 4
  let enc := if cConf x then 1 else 0
  let user := Config.spduBody v
  let body := if cConf x then streamCrypt 0xB01 (cKey x) (fit 12 (Config.groupIv v)) user else user
  let open_ := Config.spduEncode v (gMacAlg x) enc kid (leAt x 144 8) body []
  withUdpPayload p bs (Config.spduEncode v (gMacAlg x) enc kid (leAt x 144 8) body (groupMac (gMacAlg x) (cKey x) open_))

/-- What a received group frame says: its time, its order value (timestamp or SPDU number), and the frame to forward. -/
structure GroupIn where
  ts : Nat
  order : Nat
  out : List Byte
  deriving DecidableEq, Repr

/-- Check a received GOOSE or SV frame (R266): the drop reason, or what it says. -/
def gooseIn (x : List Byte) (strip : Bool) (now : Nat) (bs : List Byte) : Except Nat GroupIn :=
  match Config.extDecode bs with
  | none => .error drAuthExt
  | some (alg, kid, ts, mac, plain) =>
    match groupKey x kid with
    | none => .error drAuthExt
    | some (k, last) =>
      if keyExpired last now ∨ alg ≠ gMacAlg x ∨ alg = 4 then .error drAuthExt
      else if mac ≠ groupMac alg k (Config.extEncode plain alg kid ts []) then .error drIcv
      else .ok ⟨ts, ts, if strip then plain else bs⟩

/-- Check and decrypt a received R-GOOSE or R-SV packet. -/
def spduIn (x : List Byte) (strip : Bool) (now : Nat) (p : Parsed) (bs : List Byte) : Except Nat GroupIn :=
  match p.spdu bs with
  | none => .error drAuthExt
  | some (alg, enc, kid, num, ts, sig, covered) =>
    match groupKey x kid with
    | none => .error drAuthExt
    | some (k, last) =>
      if keyExpired last now ∨ alg ≠ gMacAlg x ∨ (enc != 0) ≠ cConf x then .error drAuthExt
      else if sig ≠ groupMac alg k covered then .error drIcv
      else
        let v := p.udpPayload bs
        let user := Config.spduBody v
        let v := if cConf x then
            Config.spduEncode v alg enc kid ts (streamCrypt 0xB01 k (fit 12 (Config.groupIv v)) user) sig else v
        .ok ⟨ts, num, withUdpPayload p bs (if strip then Config.spduStrip v else v)⟩

end Sys2Proof.Machine
end

