-- ==== Sys2Proof/Machine/Ipp.lean ====
section
/-! DEFINITION. In-line protection up to the commit (06): reception and its checks, the flow lookup and the frame's class
(R251 to R255), the hold for time (R269), and what each transform checks before the Context Arbiter commits (R257). -/

namespace Sys2Proof.Machine

/-! ### Time -/

/-- Time is available: locked, or in holdover (R269, R275). -/
def State.timeAvail (s : State) : Bool := s.on F.IPP_STAT_PTP_LOCKED || s.on F.IPP_STAT_PTP_HOLDOVER

/-- A drop for want of time; the first since time was last available raises event source 83. -/
def State.dropUnlocked (s : State) (f : FrameSt) : State :=
  let s := s.dropFrame f drPtp
  if s.ipp.unlockedSeen then s else ({ s with ipp := { s.ipp with unlockedSeen := true } }).raise 83

/-- The bytes in the hold buffer. -/
def State.heldBytes (s : State) : Nat := ((s.ipp.frames.filter (fun f => f.phase == .held)).map (·.len)).sum

/-- Hold a frame for time, in a buffer of 2 MiB. -/
def State.holdFrame (s : State) (f : FrameSt) : State :=
  if f.phase = .held then s
  else if 2 ^ 21 < s.heldBytes + f.len then s.dropUnlocked f
  else s.putFrame { f with phase := .held }

/-! ### SA events (R284) -/

/-- Queue an SA event; one that finds the queue full is lost. -/
def State.pushSaevt (s : State) (c kind : Nat) : State :=
  if 1024 ≤ s.ipp.saevt.length then s.set F.IPP_STAT_SAEVT_OVF
  else ({ s with ipp := { s.ipp with
    saevt := s.ipp.saevt ++ [BitVec.ofNat 32 (c % 2 ^ 21 + kind * 2 ^ 24 + 2 ^ 31)] } }).level 80 true

/-- Report a counter event of a context once. -/
def State.saEvent (s : State) (c kind : Nat) : State :=
  if s.ipp.saSeen.contains (c, kind) then s
  else ({ s with ipp := { s.ipp with saSeen := s.ipp.saSeen ++ [(c, kind)] } }).pushSaevt c kind

/-! ### Redundancy groups (R271) -/

/-- FORGET_MS of a group, 0 standing for 400 (R292). -/
def State.forgetNs (s : State) (g : Nat) : Nat :=
  (if s.get (F.IPP_RG_FORGET_MS g) = 0 then 400 else s.get (F.IPP_RG_FORGET_MS g)) * 1000000

/-- Whether an ingress port is a member of a group in use. -/
def State.rgMember (s : State) (g port : Nat) : Bool :=
  s.on (F.IPP_RG_EN g) && s.get (F.IPP_RG_SIDE g) == port / 8 && bit (s.get (F.IPP_RG_MEMBERS g)) (port % 8)

/-- The identity of a frame in its redundancy group, where its entry and port make it subject to duplicate discard. -/
def State.identFor (s : State) (f : FrameSt) (bs : List Byte) : Option (Nat × Nat) :=
  match f.entry.bind s.findFlow with
  | none => none
  | some r =>
    let e := s.flowGet r
    let g := feRg e
    if feRgEn e && s.rgMember g f.port then
      ((parseFrame bs).bind (fun p => identityOf (s.on (F.IPP_RG_MODE g)) p bs)).map (fun i => (g, i))
    else none

/-- Whether the identity of a frame is recorded and not yet forgotten. -/
def State.isDuplicate (s : State) (f : FrameSt) : Bool :=
  match f.ident with
  | some (g, i) => (s.recordsOf g).any (fun r => r.1 == i && decide (s.time < r.2 + s.forgetNs g))
  | none => false

/-- Record the identity of a frame; in a full group of 16,384 the oldest record is forgotten. -/
def State.recordFrame (s : State) (f : FrameSt) : State :=
  match f.ident with
  | some (g, i) =>
    let l := (s.recordsOf g).filter (fun r => r.1 != i) ++ [(i, s.time)]
    (s.putRecords g (l.drop (l.length - 16384))).putFrame { f with recorded := true }
  | none => s

/-! ### Before the commit (R257 steps 4 to 6) -/

/-- Count a drop in its context, without a commit. -/
def State.noteCtx (s : State) (c i : Nat) : State := s.putCtx c (cntAdd (s.ctx c) i 1)

/-- Drop a frame and count it in its context: 2 replay, 3 ICV, 4 stale, 5 other (R306). -/
def State.dropIn (s : State) (f : FrameSt) (code i : Nat) : State := (s.noteCtx f.ctx i).dropFrame f code

/-- A frame goes to the Context Arbiter with the bytes that it then has. -/
def State.enterCommit (s : State) (f : FrameSt) (bs : List Byte) : State :=
  s.putFrame { f with bytes := bs, ident := s.identFor f bs, phase := .commit }

/-- Whether a packet is a group stream: GOOSE or SV, or an SPDU. -/
def isGroupFrame (p : Parsed) (bs : List Byte) : Bool := isGoose p.etype || (p.spdu bs).isSome

/-- Whether a transmit context suits a frame (R256, R266). -/
def suitsTx (x : List Byte) (p : Parsed) (bs : List Byte) : Bool :=
  let t := cType x
  t == ctMacsecTx || (t == ctEspOut && p.ip != 0 && !p.frag) || (t == ctGroup && gMacAlg x != 4 && isGroupFrame p bs)

/-- The states in which a transmit context is looked at. -/
def txOpen (x : List Byte) : Bool := [csActive, csDraining, csForward, csExhausted].contains (cState x)

/-- The states in which a receive context accepts frames (R328). -/
def rxOpen (x : List Byte) : Bool := [csStandby, csActive, csDraining].contains (cState x)

/-- PROTECT before the commit. -/
def State.preProtect (s : State) (f : FrameSt) (p : Parsed) : State :=
  let x := s.ctx f.ctx
  if 8 ≤ f.port ∨ !suitsTx x p f.bytes ∨ !txOpen x then s.dropFrame f drNoSa
  else if cType x = ctGroup then
    if !s.timeAvail then s.holdFrame f
    else if keyExpired (leAt x 152 8) f.ptp then s.dropIn f drAuthExt 5
    else s.enterCommit f f.bytes
  else s.enterCommit f f.bytes

/-- UNPROTECT of a MACsec frame before the commit. -/
def State.preMacsec (s : State) (f : FrameSt) (p : Parsed) (x : List Byte) : State :=
  let t := p.sectag f.bytes
  let pn := recoverPn x t.pn
  if pn = 0 then s.dropIn f drSectag 5
  else if cReplayEn x ∧ pn < lowestPn x then s.dropIn f drReplay 2
  else match macsecVerify x t pn f.bytes with
    | none => s.dropIn f drIcv 3
    | some bs => s.enterCommit { f with pn := pn } bs

/-- UNPROTECT of an ESP packet before the commit. -/
def State.preEsp (s : State) (f : FrameSt) (p : Parsed) (x : List Byte) : State :=
  if p.frag then s.dropIn f drFragment 5
  else match recoverSeq x (beAt f.bytes (p.espAt + 4) 4) with
    | none => s.dropIn f drReplay 2
    | some seq =>
      if espReplay x seq then s.dropIn f drReplay 2
      else match espOpen x seq p f.bytes with
        | .badIcv => s.dropIn f drIcv 3
        | .badForm => s.dropIn f drEsp 5
        | .dummy => s.dropIn f drAction 5
        | .frame bs => s.enterCommit { f with pn := seq } bs

/-- STREAM_STATE of the flow entry of a frame. -/
def State.streamState (s : State) (f : FrameSt) (goose : Bool) : Option Nat :=
  (f.entry.bind s.findFlow).map (fun r => if goose then feStream (s.flowGet r) else feStream (s.flowGet r) % 2 ^ 32)

/-- UNPROTECT of a group stream before the commit, with the freshness test (R268). -/
def State.preGroup (s : State) (f : FrameSt) (p : Parsed) (x : List Byte) : State :=
  if !s.timeAvail then s.holdFrame f
  else
    let goose := isGoose p.etype
    match (if goose then gooseIn x f.strip f.ptp f.bytes else spduIn x f.strip f.ptp p f.bytes) with
    | .error c => s.dropIn f c (if c = drIcv then 3 else 5)
    | .ok g =>
      let late := s.get F.IPP_FRESH_T_MS * 1000000 < (max g.ts f.ptp - min g.ts f.ptp)
      if late ∨ g.order ≤ (s.streamState f goose).getD 0 then s.dropIn f drStale 4
      else s.enterCommit { f with fresh := some g.order } g.out

/-- UNPROTECT before the commit. -/
def State.preUnprotect (s : State) (f : FrameSt) (p : Parsed) : State :=
  let x := s.ctx f.ctx
  let t := cType x
  if f.port < 8 ∨ !rxOpen x then s.dropFrame f drNoSa
  else if t = ctMacsecRx ∧ p.etype = 0x88E5 then s.preMacsec f p x
  else if t = ctEspIn ∧ p.isEsp f.bytes then s.preEsp f p x
  else if t = ctGroup ∧ cState x = csActive ∧ isGroupFrame p f.bytes then s.preGroup f p x
  else s.dropFrame f drNoSa

/-- What happens to a looked-up frame before the commit: the context is read (R33 step 3), and the transform checked. -/
def State.preCommit (s : State) (f : FrameSt) : State :=
  if f.action = 1 ∨ f.action = 2 then
    if !s.ctxReach f.ctx then s.dropFrame f drFault
    else match parseFrame f.bytes with
      | none => s.dropFrame f drParse
      | some p =>
        let s := s.touch f.ctx
        if f.action = 1 then s.preProtect f p else s.preUnprotect f p
  else s.enterCommit f f.bytes

/-! ### Lookup and class (R251, R254, R276) -/

/-- The class-0 policer of a port: a token bucket of BURST bytes, filled at RATE. -/
def State.police (s : State) (p len : Nat) : Bool × State :=
  let rate := s.get (F.LIF_CL0_POL_RATE p)
  if rate = 0 then (true, s)
  else
    let u := sget (fun _ => (0, 0)) s.ipp.policer p
    let used := u.1 - rate * (s.time - u.2)
    let ok := decide (used + len * 800 ≤ s.get (F.LIF_CL0_POL_BURST p) * 800)
    let used := if ok then used + len * 800 else used
    (ok, { s with ipp := { s.ipp with policer := sput (fun _ => (0, 0)) s.ipp.policer p (used, s.time) } })

/-- The greatest ingress length within the bound of R44, by RATE code. -/
def cl0Max (rate : Nat) : Nat := if rate = 1 then 2048 else if rate = 2 then 1024 else if rate = 3 then 512 else 0

/-- Whether a class-0 frame misses one of conditions 2 to 5 of R276. -/
def State.cl0Outside (s : State) (f : FrameSt) : Bool :=
  let others := s.ipp.frames.filter (fun g => g.id != f.id && g.cls == 0 && decide (g.port / 8 = f.port / 8))
  let rate := fun p => s.get (F.LIF_PMODE_RATE p)
  decide (cl0Max (rate f.port) < f.len) || decide (rate f.egress < rate f.port) ||
  (!s.on (F.LIF_PSTAT_PREEMPT_ACTIVE f.egress) && s.ipp.frames.any (fun g => g.cls != 0 && g.egress == f.egress)) ||
  decide (3 < others.length) || others.any (fun g => g.ctx == f.ctx || g.egress == f.egress)

/-- The class of a matched frame, counted (R254, R276). -/
def State.classify (s : State) (f : FrameSt) (e : List Byte) : Nat × State :=
  if !(fePinned e && feCl0 e && !s.cts.flowOnly.contains (feKey e)) then (2, s)
  else match s.police f.port f.len with
    | (false, s) => (2, s.inc (R.LIF_CNT f.port 5))
    | (true, s) =>
      let s := s.inc (R.LIF_CNT f.port 4)
      if !s.on F.PWR_STAT_VIGIL && s.cl0Outside f then
        (0, (s.inc (R.LIF_CNT f.port 6)).lifPend f.port (F.LIF_PSTAT_CL0_OUTSIDE_PEND f.port))
      else (0, s)

/-- Refresh LAST_SEEN, at most once per 100 ms (R255). -/
def State.refreshSeen (s : State) (r : FlowRef) : State :=
  let e := s.flowGet r
  let now := s.time / 1000000 % 2 ^ 32
  if (now + 2 ^ 32 - feLast e) % 2 ^ 32 < 100 then s else s.flowPut r (setLE e 52 4 now)

/-- Put a new frame into the device. -/
def State.addFrame (s : State) (f : FrameSt) : State :=
  { s with ipp := { s.ipp with frames := s.ipp.frames ++ [f], nextId := s.ipp.nextId + 1 } }

/-- The context of a matched frame: of a MACsec receive entry, the one of the frame's AN (R260). -/
def entryCtx (e : List Byte) (p : Parsed) (bs : List Byte) : Nat :=
  if feKtype e = 2 ∧ feCtx e ≠ none32 then feCtx e + (p.sectag bs).an else feCtx e

/-- A frame that matched an entry. -/
def State.matched (s : State) (f : FrameSt) (p : Parsed) (r : FlowRef) : State :=
  let s := s.refreshSeen r
  let e := s.flowGet r
  let f := { f with
    entry := some (feKey e), action := feAction e, strip := feStrip e, ctx := entryCtx e p f.bytes
    egress := if feAction e = 4 then 16 else feEgress e
    tc := feAction e == 3 && s.on (F.LIF_PCFG_PTP_TC f.port) }
  let (c, s) := s.classify f e
  let f := { f with cls := c }
  let s := s.addFrame f
  if feAction e = 0 then s.dropFrame f drAction else s.preCommit f

/-- A frame that matched nothing (R251, R277, R291). -/
def State.unmatched (s : State) (f : FrameSt) : State :=
  if s.on F.PWR_STAT_VIGIL then s.countDrop f.port drVigil
  else if s.get (F.LIF_PCFG_DEFAULT_ACTION f.port) = 1 then
    let f := { f with action := 3, egress := (1 - f.port / 8) * 8 + s.get (F.LIF_PCFG_PAIR f.port) }
    (s.addFrame f).preCommit f
  else s.countDrop f.port drNoFlow

/-- The first key of a list that an index holds. -/
def firstMatch (find : List Byte → Option FlowRef) : List (List Byte) → Option FlowRef
  | [] => none
  | k :: ks => match find k with
    | some r => some r
    | none => firstMatch find ks

/-- The flow lookup (R251): the pinned section over all keys, then the CTS table, which needs CTS. -/
def State.lookup (s : State) (f : FrameSt) (p : Parsed) : State :=
  let keys := flowKeys p f.port f.bytes
  match firstMatch s.findPin keys with
  | some r => s.matched f p r
  | none =>
    if s.on F.PWR_STAT_VIGIL then s.countDrop f.port drVigil
    else if !s.ctsOpen then s.countDrop f.port drFault
    else match firstMatch s.findTab keys with
      | some (.tab i) =>
        if s.poisoned (flowAddr i / 64) then s.countDrop f.port drFault else s.matched f p (.tab i)
      | some r => s.matched f p r
      | none => s.unmatched f

/-! ### Peer delay (R273) -/

/-- The message type of a layer-2 PTP frame. -/
def ptpType (p : Parsed) (bs : List Byte) : Option Nat := if p.etype = 0x88F7 then some (byteAt bs p.off % 16) else none

/-- Peer-delay messages are never forwarded: a port with PTP_PDELAY answers a request, and measures meanLinkDelay from an
answer. -/
def State.peerDelay (s : State) (f : FrameSt) (t : Nat) : State :=
  if !s.on (F.LIF_PCFG_PTP_PDELAY f.port) then s
  else if t = 2 then (Config.pdelayResp f.bytes f.port f.ptp).foldl (fun s b => s.transmit f.port b) s
  else
    let (n, s) := s.freeNat
    s.wr (R.LIF_PTP_MLD f.port) (BitVec.ofNat 32 n)

/-- Steps 2 and 3 of R257: parse, tag checks, lookup. -/
def State.parseStep (s : State) (f : FrameSt) : State :=
  match parseFrame f.bytes with
  | none => s.countDrop f.port drParse
  | some p =>
    if 8 ≤ f.port ∧ p.etype = 0x88E5 ∧ (p.sectag f.bytes).bad f.bytes then s.countDrop f.port drSectag
    else match ptpType p f.bytes with
      | some t => if t = 2 ∨ t = 3 ∨ t = 10 then s.peerDelay f t else s.lookup f p
      | none => s.lookup f p

/-! ### Reception -/

/-- A new frame from a port. -/
def State.newFrame (s : State) (p : Nat) (bs : List Byte) : FrameSt :=
  ⟨s.ipp.nextId, p, bs, bs.length + 4, s.time, s.ipp.ptpNs, 2, none, 3, false, none32, 0, 0, none, none, false, false, .commit⟩

/-- A failed internal check of a frame at ingress is reported (R54); whether the frame is lost. -/
def State.rxCheck (s : State) : Check → Bool × State
  | none => (false, s)
  | some k =>
    let (a, s) := s.freeNat
    if k = 0x09 ∨ k = 0x0A then (true, s.macFail (k.toNat - 9) (a % 2 ^ 37))
    else (k != 1, s.report 0x108 k.toNat 0 (if k = 1 ∨ k = 2 then a else 0))

/-- IPP takes a frame from LIF: FLUSHED while it forwards nothing, then the checks of step 1. -/
def State.receive (s : State) (p : Nat) (bs : List Byte) (rx : RxInfo) : State :=
  let len := bs.length + 4
  let s := (s.inc (R.LIF_CNT p 0)).count (R.LIF_CNT p 1) len
  if !s.power.ippUp || !s.on F.IPP_CTL_EN || s.on F.FLT_STAT_QUIESCED then s.countDrop p drFlushed
  else if !rx.fcsOk then s.countDrop p drFcs
  else if len < 64 ∨ s.get (F.LIF_MAXFRM_BYTES p) < len then s.countDrop p drLength
  else if beAt bs 12 2 = 0x8808 then s.countDrop p drMacControl
  else match s.rxCheck rx.fault with
    | (true, s) => s.countDrop p drFault
    | (false, s) => s.parseStep (s.newFrame p bs)

/-- Codewords that FEC corrected, or could not (R290). -/
def State.fecNote (s : State) (p : Nat) (rx : RxInfo) : State :=
  let s := if rx.fecCorr = 0 then s else s.count (R.LIF_CNT p 7) rx.fecCorr.toNat
  if rx.fecUncorr = 0 then s
  else (s.count (R.LIF_CNT p 8) rx.fecUncorr.toNat).lifPend p (F.LIF_PSTAT_FEC_UNCORR_PEND p)

/-- A frame arrives from the line; a port in loopback takes none. -/
def State.ingress (s : State) (p : Nat) (bs : List Byte) (rx : RxInfo) : State :=
  if !s.portUp p || s.on (F.LIF_PCTL_LOOPBACK p) then s else (s.fecNote p rx).receive p bs rx

/-- Time has become available: the frames held are handled in arrival order (R269). -/
def State.releaseHeld (s : State) : State :=
  if !s.timeAvail then s
  else
    let s := { s with ipp := { s.ipp with unlockedSeen := false } }
    (s.ipp.frames.filter (fun f => f.phase == .held)).foldl (fun s f => s.preCommit { f with phase := .commit }) s

end Sys2Proof.Machine
end

