-- ==== Sys2Proof/Machine/CtxJobs.lean ====
section
/-! DEFINITION. The context jobs (R313 to R320): what an image and a flow entry may hold, and the commits of CTX_INSTALL,
CTX_UPDATE, CTX_RETIRE and CTX_SNAPSHOT. -/

namespace Sys2Proof.Machine

/-! ### Images and flow entries -/

/-- The bytes of a type body that hold a field (R309), as [lo, hi). -/
def bodyFields (t : Nat) : List (Nat × Nat) :=
  if t = ctMacsecTx then [(128, 138), (140, 152)]
  else if t = ctMacsecRx then [(128, 138), (140, 156)]
  else if t = ctEspOut then [(128, 135), (136, 240)]
  else if t = ctEspIn then [(128, 132), (133, 134), (136, 272)]
  else if t = ctGroup then [(128, 137), (144, 208)]
  else [(136, 152)]

/-- Whether a reserved byte of the body is not 0. -/
def bodyReserved (t : Nat) (x : List Byte) : Bool :=
  (List.range 320).any (fun i => !(bodyFields t).any (fun f => decide (f.1 ≤ 128 + i ∧ 128 + i < f.2)) && byteAt x (128 + i) != 0)

/-- Whether the fields of a body are out of range (R249, R309). -/
def bodyBad (c : Nat) (x : List Byte) : Bool :=
  let t := cType x
  bodyReserved t x ||
  (if t = ctMacsecTx ∨ t = ctMacsecRx then
    ! [0, 30, 50].contains (byteAt x 137) || decide (3 < byteAt x 136) || (t == ctMacsecRx && byteAt x 136 != c % 4)
  else if t = ctEspOut then decide (96 < byteAt x 134)
  else if t = ctEspIn then !decide (6 ≤ byteAt x 133 ∧ byteAt x 133 ≤ 10)
  else if t = ctGroup then !decide (1 ≤ byteAt x 136 ∧ byteAt x 136 ≤ 4)
  else false)

/-- Whether CTYPE, CIPHER and CFLAGS are not legal for a CTX_ID (R306 to R308). -/
def kindBad (c : Nat) (x : List Byte) : Bool :=
  let t := cType x
  !decide (1 ≤ t ∧ t ≤ 6) || (t == ctGroup) != decide (0x100000 ≤ c) || byteAt x 19 != 0 || byteAt x 21 != 0 ||
  (if t = ctGroup then cCipher x != 0
  else if t = ctMacsecTx ∨ t = ctMacsecRx then cCipher x != 1
  else !(cCipher x == 1 || cCipher x == 2))

/-- Whether an image sets what the device sets, or a reserved byte of the common fields (R315, R306). -/
def imageSets (x : List Byte) : Bool :=
  !allZero (x.take 16) || cState x != csEmpty || cPinned x || !allZero (slice x 22 10) || !allZero (slice x 48 80) ||
  !allZero (x.drop 448) || (cType x == ctGroup && !allZero (slice x 176 32))

/-- Whether an image to install breaks R306 to R309. -/
def imageBad (c : Nat) (x : List Byte) : Bool := imageSets x || kindBad c x || bodyBad c x

/-- The bytes of KEY_DATA that a KTYPE uses (R250); none for a reserved KTYPE. -/
def ktypeLen (k : Nat) : Option Nat := [none, some 12, some 8, some 9, some 21, some 13, some 8, some 37, some 32, some 21, some 2].getD k none

/-- Whether a flow entry breaks R249 or R250. -/
def feBad (e : List Byte) : Bool :=
  match ktypeLen (feKtype e) with
  | none => true
  | some n =>
    !allZero (slice e (2 + n) (38 - n)) || decide (16 ≤ feInPort e) || decide (4 < feAction e) || decide (16 ≤ feEgress e) ||
    feEgress e / 8 == feInPort e / 8 || bits (byteAt e 47) 3 4 != 0 || !ctxIdInRange (feCtx e) ||
    ([2, 3, 4, 9].contains (feKtype e) && feInPort e / 8 == 0) || (feKtype e == 2 && feCtx e != none32 && feCtx e % 4 != 0)

/-- The flow entries of an input. -/
def entriesOf : Nat → List Byte → List (List Byte)
  | 0, _ => []
  | n + 1, b => b.take 64 :: entriesOf n (b.drop 64)

/-- An entry as the device stores it: FOWNER and LAST_SEEN are the device's (R249, R319). -/
def storedEntry (owner now : Nat) (e : List Byte) : List Byte :=
  setLE (setFeFlags e (feFlags e % 2 + (if feStrip e then 4 else 0) + owner * 8)) 52 4 (now / 1000000)

/-! ### Endings of a context job -/

/-- A context job that commits nothing. -/
def State.ctxRefuse (s : State) (j : Job) (e : Err) : State := s.failJob j e

/-- A context job that fails a check of stages 2 to 5 of R95, which the Context Arbiter makes when it has read the input
(R316): ENGINE is that of a failure at stages 1 to 6 (R102). -/
def State.ctxReject (s : State) (j : Job) (e : Err) : State := s.finishJob j (failed engJqm e.1 e.2)

/-- CONTEXT_STALE with the current version (R49, R108). -/
def State.ctxStale (s : State) (j : Job) (c : Nat) : State :=
  (s.inc (R.CTS_CNT 8)).failJob j (stStale, cVersion (s.ctx c) % 2 ^ 32)

/-- CONTEXT_BUSY (R49). -/
def State.ctxBusy (s : State) (j : Job) : State := (s.inc (R.CTS_CNT 9)).failJob j (stBusy, 0)

/-- EXP_VERSION names another version (R313). -/
def State.ctxMoved (s : State) (j : Job) (c : Nat) : Bool :=
  leAt j.desc 64 8 != 0 && leAt j.desc 64 8 != cVersion (s.ctx c)

/-- A context job is done; its commit is visible (R323). -/
def State.ctxDone (s : State) (j : Job) (x : JobIn) : State := s.finishJob j (okResult j.engine 0 0 x.excess)

/-! ### Keys of a context (R315, R384) -/

/-- The ALG that fits a context's CIPHER or MAC_ALG. -/
def ctxAlg (x : List Byte) : Nat :=
  if cType x = ctGroup then (if byteAt x 136 = 3 then 0xB01 else 0xA01)
  else if cCipher x = 2 then 0xC01 else 0xB01

/-- The usages that a context's key may have. -/
def ctxUsages (x : List Byte) : List Nat :=
  if cType x = ctGroup then [usSign, usVerify]
  else if cType x = ctMacsecRx ∨ cType x = ctEspIn then [usDecrypt] else [usEncrypt]

/-- The key lengths that fit a context (R316). -/
def ctxKeyLens (x : List Byte) : List Nat :=
  let t := cType x
  if t = ctMacsecTx ∨ t = ctMacsecRx then [if cWide x then 44 else 32]
  else if t = ctEspOut ∨ t = ctEspIn then [36]
  else if t = ctSession then [32, 36] else [32]

/-- The error of a slot that is to fill a context's key, if any. -/
def State.ctxKeyErr (s : State) (group h idx : Nat) (x : List Byte) : Option Err :=
  match s.keyErr group ⟨h, idx, some (ctxUsages x), fun a => a == ctxAlg x⟩ with
  | some e => some e
  | none =>
    if (ctxKeyLens x).contains (s.slot (hSlot h)).keyLen then none else some (malformed (if idx = 0 then 44 else 52))

/-! ### CTX_INSTALL -/

def inFlags (d : List Byte) : Nat := byteAt d 72
def inPin (d : List Byte) : Bool := bit (inFlags d) 1
def inSwitch (d : List Byte) : Nat := bits (inFlags d) 2 2
def inPred (d : List Byte) : Nat := leAt d 76 4

/-- The checks of an image, its entries and its keys (R316, rows Stage). -/
def State.installCheck (s : State) (j : Job) (img : List Byte) (es : List (List Byte)) : Option Err :=
  let d := j.desc
  let c := dCtxId d
  if imageBad c img || es.any (fun e => feBad e || feCtx e != flowCtxOf c (cType img)) then some (malformed 16)
  else if dAuxHandle d ≠ none32 ∧ cType img ≠ ctGroup then some (malformed 52)
  else match (if bit (inFlags d) 0 then none else s.ctxKeyErr j.group (dKeyHandle d) 0 img) with
    | some e => some e
    | none => if dAuxHandle d = none32 then none else s.ctxKeyErr j.group (dAuxHandle d) 1 img

/-- Whether a target may be installed now (R314, R315): EMPTY, or RESERVED for this group with its key in place. -/
def State.installable (s : State) (j : Job) (c : Nat) : Bool :=
  let x := s.ctx c
  if bit (inFlags j.desc) 0 then cState x == csReserved && cOwner x == j.group
  else cState x == csEmpty || (s.poisoned (ctxAddr c / 64) && !s.cts.cache.contains c)

/-- Whether a predecessor may not get a successor (R316, Commit 3). -/
def State.predBad (s : State) (p t : Nat) : Bool :=
  let x := s.ctx p
  cState x != csActive || cType x != t || cHasSucc x || s.isSuccessor p

/-- Whether the entries of this install go into the pinned flow section: with PIN, and for a MACSEC_RX context while
another of its quadruple is pinned (R326). -/
def State.installPins (s : State) (d img : List Byte) : Bool :=
  inPin d || (cType img == ctMacsecRx && s.quadPinned (dCtxId d))

/-- The table entries that the first pin of a context moves into the pinned section. -/
def State.tableEntries (s : State) (c : Nat) : Nat := (s.cts.flows.filter (fun e => feCtx e.2 == c)).length

/-- No pin, or no room in the pinned section (R316, Commit 4). -/
def State.pinBad (s : State) (d img : List Byte) (es : List (List Byte)) : Bool :=
  let p := inPred d
  (inPin d && decide (4096 ≤ s.pinnedCtxs.length)) || (!inPin d && p != none32 && cPinned (s.ctx p)) ||
  (s.installPins d img &&
    decide (4096 < s.cts.pinFlows.length + es.length + s.tableEntries (flowCtxOf (dCtxId d) (cType img))))

/-- Whether a flow key duplicates an entry, or another of the same install (R253). -/
def State.flowDup (s : State) (es : List (List Byte)) : Bool :=
  es.any (fun e => (s.findFlow (feKey e)).isSome) || !((es.map feKey).eraseDups.length == es.length)

/-- The flow entries of an install go in, pinned or not, with the move that a first pin makes; none where a bucket is
full. -/
def State.installFlows (s : State) (d img : List Byte) (es : List (List Byte)) : Option State :=
  let pin := s.installPins d img
  match (if inPin d then s.pinEntries (flowCtxOf (dCtxId d) (cType img)) else some s) with
  | some s => s.insertFlows pin es
  | none => none

/-- The offset of the security counter that starts at 1 (R316); none for the types without one. -/
def ctrStart (t : Nat) : Option Nat :=
  if t = ctMacsecTx ∨ t = ctMacsecRx then some 144 else if t = ctEspOut ∨ t = ctSession then some 136 else none

/-- The context that an install makes of its image: key fields, EPOCH, OWNER_GROUP, links, pin and counters. -/
def newCtx (img key next : List Byte) (epoch group : Nat) (pin : Bool) (pred state : Nat) : List Byte :=
  let x := setLE (setLE (setLE (setLE img 17 1 state) 22 1 group) 24 4 none32) 28 4 pred
  let x := setPinned (setLE x 44 4 epoch) pin
  let x := patch (patch x 64 (key.take 32)) 96 (key.drop 32)
  let x := if next.isEmpty then x else patch x 176 (next.take 32)
  match ctrStart (cType img) with
  | some o => setLE x o 8 1
  | none => x

/-- The install commit (R316, R328 step 1): the context, its entries, its pin and its predecessor's link; the switch too
where SWITCH asks for it now (R329). -/
def State.installCommit (s : State) (j : Job) (x : JobIn) (img key next : List Byte) (epoch : Nat) : State :=
  let d := j.desc
  let c := dCtxId d
  let p := inPred d
  let now := p != none32 && (inSwitch d == 0 || (inSwitch d == 1 && decide (cSwitchAt img ≤ s.time)))
  let st := if p = none32 ∨ now then csActive else csStandby
  let s := s.commitBegin
  let s := if s.poisoned (ctxAddr c / 64) then s.mpeWriteN (ctxAddr c / 64) 8 else s
  let s := (s.commitCtx c true (newCtx img key next epoch j.group (inPin d) p st)).setSwitch c
    (if st = csStandby then inSwitch d else 0)
  let s := { s with cts := { s.cts with
    salted := if cType img = ctSession ∧ (key.length = 36 ∨ (bit (inFlags d) 0 ∧ s.cts.salted.contains c)) then
      setIns c s.cts.salted else setDel c s.cts.salted } }
  let s := if p = none32 then s
    else
      let y := setLE (s.ctx p) 24 4 c
      if now then (s.commitCtx p true (setLE y 17 1 csDraining)).startDrain p y else s.commitCtx p true y
  s.ctxDone j x

/-- The commit checks of an install, in the order of R316, and the commit. -/
def State.installRun (s : State) (j : Job) (x : JobIn) (img : List Byte) (es : List (List Byte)) (key next : List Byte)
    (epoch : Nat) : State :=
  let d := j.desc
  let c := dCtxId d
  let p := inPred d
  let es := es.map (storedEntry 0 s.time)
  if !s.installable j c then s.ctxRefuse j (malformed 80)
  else if s.ctxMoved j c then s.ctxStale j c
  else if p ≠ none32 ∧ s.predBad p (cType img) then s.ctxBusy j
  else if s.pinBad d img es then s.ctxRefuse j (malformed 72)
  else if s.flowDup es then s.ctxRefuse j (malformed 73)
  else match s.installFlows d img es with
    | none => s.flowRejected.ctxRefuse j (malformed 73)
    | some s => s.installCommit j x img key next epoch

/-- Take the next key of a GROUP context, where AUX_HANDLE names one. -/
def State.withNextKey (s : State) (j : Job) (k : List Byte → State) : State :=
  if dAuxHandle j.desc = none32 then k [] else s.withSlot j (dAuxHandle j.desc) 1 (fun y => k y.key)

/-- A key refused to a job is counted (R408). -/
def State.noteDenied (s : State) (e : Err) : State := if e.1 = stKeyDenied then s.inc (R.KEEP_CNT 6) else s

/-- An install with a context image. -/
def State.runInstallCtx (s : State) (j : Job) (x : JobIn) : State :=
  let d := j.desc
  let c := dCtxId d
  let img := x.data.take 512
  let es := entriesOf (byteAt d 73) (x.data.drop 512)
  match s.installCheck j img es with
  | some e => (s.noteDenied e).ctxReject j e
  | none => s.withNextKey j fun next =>
    if bit (inFlags d) 0 then
      let y := s.ctx c
      s.installRun j x img es (cKey y ++ cSalt y) next (leAt y 44 4)
    else s.withSlot j (dKeyHandle d) 0 fun y => s.installRun j x img es y.key next y.epoch

/-- Whether an entry of a flow-only install breaks R250, or R319 by its CTX_ID and ACTION. -/
def onlyBad (e : List Byte) : Bool :=
  let c := feCtx e
  let a := feAction e
  feBad e || (if c = none32 then !(a == 0 || a == 3 || a == 4) else !(decide (0x100000 ≤ c) && (a == 1 || a == 2)))

/-- Whether the group context that an entry names is another group's (R319). -/
def State.onlyForeign (s : State) (group : Nat) (e : List Byte) : Bool :=
  let c := feCtx e
  c != none32 && !(cState (s.ctx c) == csEmpty || cOwner (s.ctx c) == group)

/-- A flow-only install (R319). -/
def State.runInstallOnly (s : State) (j : Job) (x : JobIn) : State :=
  let d := j.desc
  let es := entriesOf (byteAt d 73) x.data
  if es.any onlyBad then s.ctxReject j (malformed 16)
  else if es.any (s.onlyForeign j.group) then s.ctxRefuse j (malformed 16)
  else
    let es := es.map (storedEntry j.group s.time)
    if inPin d && decide (4096 < s.cts.pinFlows.length + es.length) then s.ctxRefuse j (malformed 72)
    else if s.flowDup es then s.ctxRefuse j (malformed 73)
    else match s.insertFlows (inPin d) es with
      | none => s.flowRejected.ctxRefuse j (malformed 73)
      | some s =>
        ({ s with cts := { s.cts with flowOnly := s.cts.flowOnly ++ es.map feKey } }.commitBegin).ctxDone j x

/-- A CTX_INSTALL job. -/
def State.runInstall (s : State) (j : Job) : State :=
  s.withInput j fun x =>
    let c := dCtxId j.desc
    if !s.ctsOpen || (c != none32 && inPred j.desc != none32 && !s.ctxReach (inPred j.desc)) then s.failJob j (stFault, s.ctsDetail)
    else if c = none32 then s.runInstallOnly j x else s.runInstallCtx j x

/-! ### CTX_UPDATE -/

/-- Whether the mask selects a byte. -/
def masked (m : List Byte) (i : Nat) : Bool := bit (byteAt m (i / 8)) (i % 8)

/-- The merge of R48. -/
def merged (m img cur : List Byte) : List Byte :=
  (List.range 512).map (fun i => if masked m i then img.getD i 0 else cur.getD i 0)

/-- The bytes that no mask may select (R317): common fields, key fields and identity fields. -/
def maskForbids (t i : Nat) : Bool :=
  (decide (i < 32) && i != 17 && i != 18) || decide (64 ≤ i ∧ i < 128) || decide (448 ≤ i) ||
  (if t = ctMacsecTx ∨ t = ctMacsecRx then decide (128 ≤ i ∧ i ≤ 136) || decide (140 ≤ i ∧ i < 144)
  else if t = ctEspOut ∨ t = ctEspIn then decide (128 ≤ i ∧ i < 132)
  else if t = ctGroup then decide (128 ≤ i ∧ i < 132) || i == 136 || decide (176 ≤ i ∧ i < 208)
  else false)

/-- Whether the mask or the flags of an update are refused with DETAIL 56. -/
def State.maskBad (s : State) (c : Nat) (m img cur : List Byte) : Bool :=
  (List.range 512).any (fun i => masked m i && maskForbids (cType cur) i) ||
  (masked m 18 && ((byteAt img 18 ^^^ byteAt cur 18) &&& 0xB7) != 0) ||
  (masked m 17 && !(byteAt img 17 == csActive && cState cur == csStandby && s.switchOf c == 3))

/-- The ESP_IN window of an update keeps every mark of the current one that lies in it (R48). -/
def windowKept (cur new : List Byte) : Bool :=
  let t0 := leAt cur 136 8
  let t1 := leAt new 136 8
  let b0 := leAt cur 144 128
  let b1 := leAt new 144 128
  let w0 := 2 ^ byteAt cur 133
  let w1 := 2 ^ byteAt new 133
  (List.range w0).all (fun i => !bit b0 i || !decide (t1 - t0 + i < w1) || bit b1 (t1 - t0 + i))

/-- Whether an update lowers security or replay state (R48). -/
def rolledBack (cur new : List Byte) : Bool :=
  let t := cType cur
  (t != ctGroup && decide (cCtr new < cCtr cur)) || (t == ctEspIn && !windowKept cur new)

/-- What differs beyond "up" fields (R47, R309): such a commit raises VERSION. -/
def beyondUp (cur new : List Byte) : Bool :=
  let blank := fun (x : List Byte) =>
    let x := if cType cur = ctGroup then x else setLE x (cCtrOff (cType cur)) 8 0
    if cType cur = ctEspIn then patch x 144 (zeros 128) else x
  blank cur != blank new

/-- The pin of an update: PIN_SET and PIN_CLR move the flow entries (R326); the DETAIL where it is refused. -/
def State.updatePin (s : State) (d cur : List Byte) : Except Nat State :=
  let c := dCtxId d
  let base := flowCtxOf c (cType cur)
  if bit (byteAt d 72) 0 ∧ !cPinned cur then
    if 4096 ≤ s.pinnedCtxs.length then .error 72
    else match s.pinEntries base with
      | some s => .ok s
      | none => .error 72
  else if bit (byteAt d 72) 1 ∧ cPinned cur then
    if cType cur = ctMacsecRx ∧ s.quadPinned c then .ok s
    else match s.unpinEntries base with
      | some s => .ok s
      | none => .error 73
  else .ok s

/-- The update commit (R317, R326, R329): the merged image with its pin; byte 17 performs the switch. -/
def State.updateCommit (s : State) (j : Job) (x : JobIn) (cur new : List Byte) (sw : Bool) : State :=
  let d := j.desc
  let c := dCtxId d
  match s.updatePin d cur with
  | .error o => (if o = 73 then s.flowRejected else s).ctxRefuse j (malformed o)
  | .ok s =>
    let pin := (cPinned cur || bit (byteAt d 72) 0) && !bit (byteAt d 72) 1
    let new := setPinned new pin
    let s := s.commitBegin.commitCtx c (beyondUp cur new && !sw) new
    let s := if cPinned cur && !pin then s.mpeWriteN (ctxAddr c / 64) 8 else s
    let s := match sw, s.waitingPair c with
      | true, some p => s.switchPair p c
      | _, _ => s
    s.ctxDone j x

/-- The checks at the commit and the commit. -/
def State.updateRun (s : State) (j : Job) (x : JobIn) (m next : List Byte) : State :=
  let d := j.desc
  let c := dCtxId d
  let cur := s.ctx c
  let new := merged m x.data cur
  let sw := masked m 17
  if s.ctxMoved j c then s.ctxStale j c
  else if s.rollBusy c then s.ctxBusy j
  else if s.maskBad c m x.data cur then s.ctxRefuse j (malformed 56)
  else
    let new := setLE new 17 1 (cState cur)
    if rolledBack cur new || (cState cur != csEmpty && cType cur != 0 && bodyBad c new) || !allZero (slice new 48 16) then
      s.ctxRefuse j (malformed 16)
    else s.updateCommit j x cur (if next.isEmpty then new else patch new 176 (next.take 32)) sw

/-- A CTX_UPDATE job. -/
def State.runUpdate (s : State) (j : Job) : State :=
  let d := j.desc
  s.withInput j fun x =>
    if !s.ctxReach (dCtxId d) then s.failJob j (stFault, s.ctsDetail)
    else s.withNextKey j fun next =>
      if dAuxAddr d = 0 then s.updateRun j x (zeros 64) next
      else s.withBytes j (dAuxAddr d) 64 2 fun m => s.updateRun j x m next

/-! ### CTX_RETIRE -/

/-- The flow-only retire (R319): every selected entry goes, or none. -/
def State.runRetireOnly (s : State) (j : Job) (x : JobIn) : State :=
  let ks := (entriesOf (x.data.length / 64) x.data).map feKey
  let ok := ks.all (fun k => s.cts.flowOnly.contains k && match s.findFlow k with
    | some r => feOwner (s.flowGet r) == j.group
    | none => false)
  if !ok then s.ctxRefuse j (malformed 16)
  else
    let s := ks.foldl (fun s k => match s.findFlow k with
      | some r => s.dropFlow r
      | none => s) s
    s.commitBegin.ctxDone j x

/-- The retire of a context (R318). -/
def State.runRetireCtx (s : State) (j : Job) (x : JobIn) : State :=
  let c := dCtxId j.desc
  let cur := s.ctx c
  if s.ctxMoved j c then s.ctxStale j c
  else if s.rollBusy c then s.ctxBusy j
  else match s.releaseFlows c cur with
    | none => s.flowRejected.ctxRefuse j (malformed 73)
    | some t =>
      let t := t.commitBegin
      let t := match s.waitingPair c with
        | some p => t.commitCtx p true (setLE (t.ctx p) 24 4 none32)
        | none => t
      (t.emptyCtx c).ctxDone j x

/-- A CTX_RETIRE job. -/
def State.runRetire (s : State) (j : Job) : State :=
  s.withInput j fun x =>
    let c := dCtxId j.desc
    if c = none32 then (if s.ctsOpen then s.runRetireOnly j x else s.failJob j (stFault, s.ctsDetail))
    else if s.ctxReach c then s.runRetireCtx j x else s.failJob j (stFault, s.ctsDetail)

/-! ### CTX_SNAPSHOT -/

/-- The copy that CTX_SNAPSHOT returns: the key fields zeroed (R310, R320). -/
def snapshotOf (x : List Byte) : List Byte :=
  let x := patch x 64 (zeros 44)
  if cType x = ctGroup then patch x 176 (zeros 32) else x

/-- A CTX_SNAPSHOT job. -/
def State.runSnapshot (s : State) (j : Job) : State :=
  s.withInput j fun x =>
    let c := dCtxId j.desc
    if !s.ctxReach c then s.failJob j (stFault, s.ctsDetail)
    else if s.ctxMoved j c then s.ctxStale j c
    else (s.touch c).finishOut j x (snapshotOf (s.ctx c)) 0

/-! ### The commands -/

def execCtxInstall (j : Nat) (s : State) : Out := .next (s.atUnit j opCtxInstall State.runInstall)

def execCtxUpdate (j : Nat) (s : State) : Out := .next (s.atUnit j opCtxUpdate State.runUpdate)

def execCtxRetire (j : Nat) (s : State) : Out := .next (s.atUnit j opCtxRetire State.runRetire)

def execCtxSnapshot (j : Nat) (s : State) : Out := .next (s.atUnit j opCtxSnapshot State.runSnapshot)

end Sys2Proof.Machine
end

