-- ==== Sys2Proof/Machine/EngineCmds.lean ====
section
/-! DEFINITION. Engines as units (03, 04, 05): availability and self-test (R158 to R162), withdrawal on a fault (R159),
detected violations (R26, R27) and what happens at an engine-instruction boundary (R42, R221). -/

namespace Sys2Proof.Machine

/-! ### Violations -/

/-- An engine withdraws itself (R159): EN and FAULTED, and every job in its contexts ends with the same KIND. -/
def State.withdrawEngine (s : State) (e kind : Nat) : State :=
  if isAea e then ((s.clr (F.AEA_CTL_EN e)).set (F.AEA_STAT_FAULTED e)).faultJobs kind (fun j => j.at e) else s

/-- What a violation does to the operation whose token it hit (R26); an internal operation of a DKE channel in a message is
that message (R427). -/
def State.endVictim (s : State) (kind src : Nat) : Victim → State
  | .job id => match s.job? id with
    | some j => s.faultJob kind j
    | none => s
  | .frame id => match s.frame? id with
    | some f => s.dropFrame f drFault
    | none => s
  | .internal _ =>
    if 0x60 ≤ src ∧ src < 0x64 ∧ (s.dkeCh (src - 0x60)).inMessage then s.dkeLost (src - 0x60) stFault kind else s
  | .nothing => s

/-- A dual-rail violation or a handshake stall at a SOURCE (R26, R27, R149, R159). ADDR is 0, as the worked example of
R514 has it. -/
def State.violation (s : State) (kind src : Nat) (v : Victim) : State :=
  ((s.report src kind 0 0).endVictim kind src v).withdrawEngine src kind

/-! ### Registers of an engine -/

/-- Whether an engine's contexts hold no job. -/
def State.engEmpty (s : State) (e : Nat) : Bool := (s.jobsAt e).isEmpty

/-- DRAINED (R163). -/
def State.drained (s : State) (e : Nat) : Bool := !s.on (F.AEA_CTL_EN e) && s.engEmpty e

/-- A write of AEA_CTL (R161, R162). -/
def State.aeaCtlWrite (s : State) (e : Nat) (v : Word) : State :=
  let ready := s.drained e
  let s := s.putB (F.AEA_CTL_EN e) (bit v.toNat 0)
  if !bit v.toNat 8 then s
  else if ready then s.set (F.AEA_CTL_SELFTEST e) else s.set (F.AEA_STAT_ST_REJECT e)

/-- A self-test ends (R162). -/
def State.selftestEnd (s : State) (e : Nat) (pass : Bool) : State :=
  if !s.on (F.AEA_CTL_SELFTEST e) then s
  else
    let s := (s.clr (F.AEA_CTL_SELFTEST e)).settleFilter
    let s := (s.putB (F.AEA_STAT_ST_PASS e) pass).putB (F.AEA_STAT_ST_FAIL e) (!pass)
    if pass then s.clr (F.AEA_STAT_FAULTED e) else s

/-- A read of AEA_MAXINSN clears it (R160). -/
def State.maxinsnRead (s : State) (e : Nat) : State :=
  { s with busOut := (s.rd (R.AEA_MAXINSN e)).setWidth 64 }.wr (R.AEA_MAXINSN e) 0

/-- Whether TEST_VEC_EN may be 1: MANUFACTURE or ANALYSIS (R166). -/
def State.testVecState (s : State) : Bool := s.get F.LCS_STATE_STATE == 1 || s.get F.LCS_STATE_STATE == 4

/-- A write of AEA_LT_CFG (R166): a 1 to TEST_VEC_EN is ignored outside MANUFACTURE and ANALYSIS. -/
def State.ltCfgWrite (s : State) (v : Word) : State :=
  let v := if bit v.toNat 2 && !s.testVecState then fieldSet 2 1 v (s.get F.AEA_LT_CFG_TEST_VEC_EN) else v
  s.wrGeneric R.AEA_LT_CFG v

/-! ### Engine-instruction boundaries -/

/-- MAXINSN keeps the longest instruction of an AEA engine since its last read (R160). -/
def State.noteInsn (s : State) (e ns : Nat) : State :=
  if isAea e then s.put (F.AEA_MAXINSN_NS e) (max (s.get (F.AEA_MAXINSN_NS e)) ns) else s

/-- A boundary of a pooled core (R115, R175): its job is saved when work of a higher class waits for a core of its
kind. -/
def State.preemptPool (s : State) (r : Job) : State :=
  match bestJob (s.jqm.jobs.filter (fun j => j.res == r.res && (j.phase == .waiting || j.phase == .preempted))) with
  | some j => if j.cls < r.cls then (s.putJob { r with phase := .preempted }).grantPool r.res else s
  | none => s

/-- The higher-class work that a boundary lets in (R42, R119, R283). -/
def State.boundaryNext (s : State) (e : Nat) (r : Job) : State :=
  if isCtxRes r.res then s.preemptAt e
  else match r.res with
    | .keccak | .sha2 => s.preemptPool r
    | _ => s

/-- The boundary of one running job (R220, R221): a pending abort, then higher-class work. -/
def State.boundaryOf (s : State) (e : Nat) (j : Job) : State :=
  if j.wait ≠ .none then s
  else
    let s := s.putJob { j with spire := { j.spire with asyncPend := false, atBnd := true, sinceBnd := 0 } }
    match j.abort with
    | .tamper n => s.tamperJob j n
    | .flush => if j.spire.committed then s.boundaryNext e j else s.failJob j (stFlushed, 2)
    | .none => s.boundaryNext e j

/-- ENGINE_INSTRUCTION_BOUNDARY at an engine, whose instruction took `ns`. -/
def State.boundary (s : State) (e ns : Nat) : State :=
  let s := if (s.running e).isSome then s.noteInsn e ns else s
  s.eachJob (fun s j => s.boundaryOf e j)
    (s.jobIds (fun j => j.at e && j.phase == .running && (e != engArb)))

/-! ### The commands -/

def execCodeViolation (src : Fin 0x126) (victim : Victim) (s : State) : Out := .next (s.violation 0x04 src victim)

def execHandshakeStall (src : Fin 0x126) (victim : Victim) (s : State) : Out := .next (s.violation 0x06 src victim)

def execEngineInstructionBoundary (e : Fin 256) (ns : BitVec 16) (s : State) : Out := .next (s.boundary e ns.toNat)

def execLtEnWrite (r : Req) (e : Fin 48) (v : Word) (s : State) : Out :=
  .next (s.gateW r (R.AEA_CTL e) (·.aeaCtlWrite e v))

def execAeaSelftest (r : Req) (e : Fin 48) (v : Word) (s : State) : Out :=
  .next (s.gateW r (R.AEA_CTL e) (·.aeaCtlWrite e (v ||| 0x100)))

def execAeaSelftestEnd (e : Fin 48) (pass : Bool) (s : State) : Out := .next (s.selftestEnd e pass)

def execMaxinsnRead (r : Req) (e : Fin 48) (s : State) : Out :=
  .next (s.gateR r (R.AEA_MAXINSN e) (·.maxinsnRead e))

def execLtCfgLock (r : Req) (v : Word) (s : State) : Out :=
  .next (s.gateW r R.AEA_LT_CFG (·.ltCfgWrite (v ||| 0x80000000)))

def execXcfgLock (r : Req) (v : Word) (s : State) : Out :=
  .next (s.gateW r R.AEA_XCFG (·.wrGeneric R.AEA_XCFG (v ||| 0x80000000)))

end Sys2Proof.Machine
end

