-- ==== Sys2Proof/Machine/Spire.lean ====
section
/-! DEFINITION. Spire sequencers (05): the words of the control store (R207, R209, R216), the nanoword that a microword
issues (R217, R218), conditions and next addresses (R210 to R214), assertions (R215) and boundaries (R220, R223). -/

namespace Sys2Proof.Machine

/-! ### Control-store words -/

def noWord (_ : Nat) : Nat := 0

/-- The microword at an address of an engine's quadrant: ROM below 0x3000, else patch RAM; address 0 is null (R207). -/
def State.microAt (s : State) (e a : Nat) : Nat :=
  if a = 0 then 0
  else if a < 0x3000 then Config.romMicro (romQuad e) a % 2 ^ 40
  else sget noWord (s.quad (quadOf e)).micro (a - 0x3000)

/-- The nanoword at an address of an engine's quadrant. -/
def State.nanoAt (s : State) (e a : Nat) : Nat :=
  if a = 0 then 0
  else if a < 0x600 then Config.romNano (romQuad e) a % 2 ^ 128
  else sget noWord (s.quad (quadOf e)).nano (a - 0x600)

/-! Fields of a microword (R209). -/

def mwNano (w : Nat) : Nat := bits w 0 11
def mwTarget (w : Nat) : Nat := bits w 11 14
def mwSeq (w : Nat) : Nat := bits w 25 4
def mwCond (w : Nat) : Nat := bits w 29 6
def mwPol (w : Nat) : Bool := bit w 35
def mwBnd (w : Nat) : Bool := bit w 36

abbrev sqNext : Nat := 0
abbrev sqBr : Nat := 1
abbrev sqCall : Nat := 2
abbrev sqRet : Nat := 3
abbrev sqDisp : Nat := 4
abbrev sqLoop : Nat := 5
abbrev sqWait : Nat := 6
abbrev sqDone : Nat := 7
abbrev sqAssert : Nat := 8

/-! Fields of a nanoword (R216). -/

def nwUnit (n : Nat) : Nat := bits n 0 4
def nwOp (n : Nat) : Nat := bits n 4 8
def nwLen (n : Nat) : Nat := bits n 60 12
def nwMod (n : Nat) : Nat := bits n 72 2
def nwShares (n : Nat) : Nat := bits n 74 2
def nwLcSel (n : Nat) : Nat := bits n 76 2
def nwLcVal (n : Nat) : Nat := bits n 78 16
def nwLcLd (n : Nat) : Bool := bit n 94
def nwAsync (n : Nat) : Bool := bit n 95
def nwCstat (n : Nat) : Nat := bits n 96 8
def nwDsel (n : Nat) : Nat := bits n 104 8

/-- The kind code of an engine (R206). -/
def kindOf (e : Nat) : Nat := if e < 0x20 then 0 else if e < 0x28 then 1 else 2

/-- The number of OP codes of a UNIT of a kind, from 0x01 up (R217). -/
def unitOps (kind unit : Nat) : Nat :=
  match unit with
  | 1 => if kind = 0 then 7 else 3
  | 2 => if kind = 1 then 3 else 5
  | 3 => if kind = 0 then 6 else 2
  | 4 => if kind = 2 then 3 else 4
  | 5 => 3
  | 6 => 3
  | 7 => 2
  | 8 => 4
  | 9 => 3
  | 10 => 5
  | _ => 0

/-- Whether UNIT and OP have a code; UNIT 0 performs no operation (R216, R217). -/
def unitOk (kind n : Nat) : Bool := nwUnit n == 0 || decide (1 ≤ nwOp n ∧ nwOp n ≤ unitOps kind (nwUnit n))

/-- The boundary cap of an engine kind (R223). -/
def bndCap (kind : Nat) : Nat := if kind = 0 then 2048 else if kind = 1 then 65536 else 16384

/-! ### Sequencer state -/

/-- A loop counter. -/
def Spire.lc (p : Spire) (k : Nat) : Nat :=
  if k = 0 then p.lc0 else if k = 1 then p.lc1 else if k = 2 then p.lc2 else p.lc3

def Spire.setLc (p : Spire) (k v : Nat) : Spire :=
  if k = 0 then { p with lc0 := v } else if k = 1 then { p with lc1 := v } else if k = 2 then { p with lc2 := v }
  else { p with lc3 := v }

/-- The address that the hook table of a quadrant makes of a next address: once, and not again for REPL (R211). -/
def Quadrant.hooked (x : Quadrant) (a : Nat) : Nat :=
  match x.hooks.find? (fun h => bit h.2 31 && bits h.2 0 14 == a) with
  | some h => bits h.2 16 14
  | none => a

/-- Whether a Spire has a request to act on at the boundary where it stands (R221). -/
def State.requestAt (s : State) (e : Nat) (j : Job) : Bool :=
  (match j.abort with
   | .tamper _ => true
   | .flush => !j.spire.committed
   | .none => false) ||
  (s.jobsAt e).any (fun k => k.phase != .running && decide (k.cls < j.cls))

/-- The Spire of an engine with a running job that may execute its next microword: it does not stand at a boundary with
a request or an unfinished ASYNC operation, its job waits for nothing, and its boundary cap is not reached. -/
def State.spireJob (s : State) (e : Nat) : Option Job :=
  match s.running e with
  | some j =>
    if j.engine = e ∧ j.wait = .none ∧ !(j.spire.atBnd && (j.spire.asyncPend || s.requestAt e j)) ∧
        j.spire.sinceBnd < bndCap (kindOf e) then some j else none
  | none => none

/-- Run a row of SEQ `q` on the Spire of an engine: the microword at uPC must name it. -/
def State.atSpire (s : State) (e q : Nat) (waiting : Bool) (k : Job → Nat → State) : State :=
  match s.spireJob e with
  | some j =>
    let w := s.microAt e j.spire.upc
    if mwSeq w = q ∧ j.spire.waiting = waiting then k j w else s
  | none => s

/-- A Spire asserts (R215). -/
def State.spireAssertion (s : State) (j : Job) (cause : Nat) : State := s.assertJob j j.spire.upc cause

/-! ### The nanoword (R216 to R218) -/

/-- Free flags after a datapath operation: Z, C, N of the last public result, and the secret flags (R212). -/
def State.freeFlags (s : State) (p : Spire) : Spire × State :=
  let (n, s) := s.freeNat
  ({ p with z := bit n 0, c := bit n 1, n := bit n 2, secret := n / 8 % 16 }, s)

/-- A DMA read of the job's input: within its length, and without fault. -/
def State.microRead (s : State) (j : Job) (n : Nat) : Option Err :=
  match inBufs s j.owner j.desc with
  | .error e => some e
  | .ok bs => if bufsLen bs < n ∨ (readBufs s j.owner bs n).isNone then some (stAddrFault, 0) else none

/-- A DMA write of the job's output: LEN free bytes at a free place within it. -/
def State.microWrite (s : State) (j : Job) (n : Nat) : State × Option Err :=
  match outBufs s j.owner j.desc with
  | .error e => (s, some e)
  | .ok bs =>
    if bufsLen bs < n then (s, some (stAddrFault, 1))
    else
      let (o, s) := s.freeNat
      let (v, s) := s.freeBytes n
      match readBufs s j.owner bs (bufsLen bs) with
      | none => (s, some (stAddrFault, 1))
      | some cur => match writeBufs s j.owner bs (patch cur (o % (bufsLen bs - n + 1)) v) with
        | (s, true) => (s, none)
        | (s, false) => (s, some (stAddrFault, 1))

/-- A DMA operation (R217, R218): OP 1 reads IN, 2 writes OUT, 3 reads AUX_ADDR, 4 reads CTX_ADDR or PK_ADDR. -/
def State.microDma (s : State) (j : Job) (op n : Nat) : State × Option Err :=
  match op with
  | 1 => (s, s.microRead j n)
  | 2 => s.microWrite j n
  | 3 => (s, if s.dmaFaults j.owner (dAuxAddr j.desc) n false then some (stAddrFault, 2) else none)
  | _ =>
    let a := if sgCtxLen j.desc = 0 then sgPkAddr j.desc else sgCtxAddr j.desc
    (s, if s.dmaFaults j.owner a n false then some (stAddrFault, 5) else none)

/-- The action of a nanoword by its UNIT, on the sequencer that its LCLD has made; the rest follows with the sequencer
after it. -/
def State.unitAct (s : State) (j : Job) (p : Spire) (n : Nat) (k : State → Spire → State) : State :=
  let op := nwOp n
  match nwUnit n with
  | 0 => k s p
  | 5 => if 32 < nwLen n then s.spireAssertion j 5 else k s p
  | 6 =>
    if op = 1 then
      if dKeyHandle j.desc = none32 then k s p else s.withSlot j (dKeyHandle j.desc) 0 (fun _ => k s p)
    else if op = 2 then
      k (s.putJob { j with slotWritten := !j.targets.isEmpty, spire := { j.spire with committed := true } })
        { p with committed := true }
    else k ((s.releaseTargets j.targets).putJob { j with targets := [], slotWritten := false }) p
  | 7 => s.needRng j fun s =>
    if op = 1 then k (s.draw (drbgOf j.engine) (nwLen n)).2 p else k (s.drawMasks j.engine) p
  | 8 => match s.microDma j op (nwLen n) with
    | (s, some e) => s.failJob j e
    | (s, none) => k s p
  | 9 => if !s.ctsOpen then s.failJob j (stFault, s.ctsDetail) else k s (if op = 3 then { p with committed := true } else p)
  | 10 =>
    if op = 4 then
      let (b, s) := s.freeBool
      k s { p with acceptPub := b }
    else if op = 1 ∨ op = 3 then
      let (x, s) := s.freeNat
      k s { p with secret := x % 16 }
    else k s p
  | _ =>
    let (p, s) := s.freeFlags p
    k s p

/-- Issue the nanoword of a microword (R210 steps 1 and 2). The rest gets the job as it then stands, with the sequencer
not yet stored. -/
def State.issue (s : State) (j : Job) (w : Nat) (k : State → Job → Spire → State) : State :=
  let n := s.nanoAt j.engine (mwNano w)
  if !unitOk (kindOf j.engine) n then s.spireAssertion j 2
  else
    let p := if nwLcLd n then j.spire.setLc (nwLcSel n) (nwLcVal n) else j.spire
    s.unitAct j p n fun s p =>
      let p := { p with asyncPend := p.asyncPend || (nwAsync n && decide (5 ≤ nwUnit n ∧ nwUnit n ≤ 9)) }
      match s.job? j.id with
      | some j => k s j p
      | none => s

/-! ### Conditions (R212, R213) -/

/-- The value of a condition; none for a reserved code, and for a secret condition, on which no sequencing operation may
act. `ext` is what the ports and the sampler show. -/
def condValue (j : Job) (p : Spire) (c : Nat) (ext : Bool) : Option Bool :=
  if c = 0 then some true
  else if c = 1 then some p.z
  else if c = 2 then some p.c
  else if c = 3 then some p.n
  else if c < 8 then some (p.lc (c - 4) == 0)
  else if c < 0x0D then some (ext || !p.asyncPend)
  else if c = 0x0D then some ext
  else if c = 0x0E then some p.acceptPub
  else if c = 0x0F then none
  else if c < 0x20 then some (bit (leAt j.desc 64 2) (c - 0x10))
  else none

/-- Whether the operation is taken: the condition equals POL. -/
def taken (j : Job) (p : Spire) (w : Nat) (ext : Bool) : Option Bool :=
  (condValue j p (mwCond w) ext).map (· == mwPol w)

/-! ### The next address (R210, R211) -/

/-- The microword is counted (R223), the next address taken through the hook table, and a boundary reached where BND asks
for one and no ASYNC operation is unfinished (R220). -/
def State.advance (s : State) (j : Job) (p : Spire) (w next : Nat) : State :=
  let done := mwBnd w && !p.asyncPend
  s.putJob { j with spire := { p with
    upc := (s.quad (quadOf j.engine)).hooked (next % 2 ^ 14)
    waiting := false
    atBnd := mwBnd w
    sinceBnd := if done then 0 else p.sinceBnd + 1 } }

/-- The address after the present one. -/
def Spire.succ (p : Spire) : Nat := p.upc + 1

/-- NEXT. -/
def State.seqNext (s : State) (e : Nat) : State :=
  s.atSpire e sqNext false fun j w => s.issue j w fun s j p => s.advance j p w p.succ

/-- A row that evaluates a condition, after its nanoword; a reserved or secret code asserts. -/
def State.seqCond (s : State) (e q : Nat) (ext : Bool) (k : State → Job → Spire → Nat → Bool → State) : State :=
  s.atSpire e q false fun j w => s.issue j w fun s j p =>
    match taken j p w ext with
    | none => s.spireAssertion j 2
    | some t => k s j p w t

/-- BR. -/
def State.seqBr (s : State) (e : Nat) (ext : Bool) : State :=
  s.seqCond e sqBr ext fun s j p w t => s.advance j p w (if t then mwTarget w else p.succ)

/-- CALL; with 8 entries on the stack it asserts. -/
def State.seqCall (s : State) (e : Nat) (ext : Bool) : State :=
  s.seqCond e sqCall ext fun s j p w t =>
    if !t then s.advance j p w p.succ
    else if 8 ≤ p.stack.length then s.spireAssertion j 1
    else s.advance j { p with stack := p.succ % 2 ^ 14 :: p.stack } w (mwTarget w)

/-- RET; with an empty stack it asserts. -/
def State.seqRet (s : State) (e : Nat) (ext : Bool) : State :=
  s.seqCond e sqRet ext fun s j p w t =>
    if !t then s.advance j p w p.succ
    else match p.stack with
      | [] => s.spireAssertion j 1
      | a :: r => s.advance j { p with stack := r } w a

/-- The dispatch key of a DISP (R214). -/
def dispKey (d : List Byte) (c : Nat) : Option Nat :=
  match c with
  | 0 => some (bits (dAlg d) 0 4)
  | 1 => some (bits (dAlg d) 4 4)
  | 2 => some (bits (dOpcode d) 0 4)
  | 3 => some (bits (dOpcode d) 4 4)
  | 4 => some (bits (byteAt d 64) 0 4)
  | 5 => some (bits (byteAt d 64) 1 2)
  | _ => none

/-- DISP. -/
def State.seqDisp (s : State) (e : Nat) : State :=
  s.atSpire e sqDisp false fun j w => s.issue j w fun s j p =>
    match dispKey j.desc (mwCond w) with
    | none => s.spireAssertion j 2
    | some k => s.advance j p w (mwTarget w + k)

/-- LOOP. -/
def State.seqLoop (s : State) (e : Nat) : State :=
  s.atSpire e sqLoop false fun j w => s.issue j w fun s j p =>
    let k := mwCond w % 4
    if p.lc k = 0 then s.advance j p w p.succ else s.advance j (p.setLc k (p.lc k - 1)) w (mwTarget w)

/-- WAIT: it stays, without issuing its nanoword again, until taken. -/
def State.seqWait (s : State) (e : Nat) (ext : Bool) : State :=
  s.seqCond e sqWait ext fun s j p w t =>
    if t then s.advance j p w p.succ else s.putJob { j with spire := { p with waiting := true, atBnd := false } }

/-- Whether a waiting microword is taken now: the ports and the sampler may show either value. -/
def waitTaken (j : Job) (w : Nat) : Bool :=
  taken j j.spire w true == some true || taken j j.spire w false == some true

/-- WAIT_TAKEN: the condition of a waiting microword equals POL. -/
def State.seqWaitTaken (s : State) (e : Nat) : State :=
  s.atSpire e sqWait true fun j w => if waitTaken j w then s.advance j j.spire w j.spire.succ else s

/-- ASSERT. -/
def State.seqAssert (s : State) (e : Nat) (ext : Bool) : State :=
  s.seqCond e sqAssert ext fun s j p w t => if t then s.spireAssertion j 3 else s.advance j p w p.succ

/-- BOUNDARY_CAP (R223). -/
def State.capReached (s : State) (e : Nat) : State :=
  match s.running e with
  | some j => if j.engine = e ∧ bndCap (kindOf e) ≤ j.spire.sinceBnd then s.spireAssertion j 4 else s
  | none => s

/-! ### DONE -/

/-- The slot that microcode fills over the key bus: its key is free, its descriptor that of the job's opcode. -/
def State.microSlot (s : State) (j : Job) (t : Nat) : Slot × State :=
  let d := j.desc
  let fl := leAt d 64 2
  let (k, s) := s.freeBytes (s.slot t).keyLen
  (if dOpcode d = opKeygen then
    newSlot (privUsage (dAlg d)) (if bit fl 1 then orImported else orGenerated) (bit fl 2) (dAlg d) j.group (leAt d 72 4) k
  else newSlot usDerive orDerived false (leAt d 66 2) j.group (leAt d 72 4) k, s)

/-- The target slots of a job that ends by microcode: filled where a granule was written, else released. -/
def State.microTargets (s : State) (j : Job) : State :=
  match j.slotWritten, j.targets with
  | true, t :: ts =>
    let (x, s) := s.microSlot j t
    (s.fillSlot t x).releaseTargets ts
  | _, ts => s.releaseTargets ts

/-- The DETAIL that DSEL names (R216): zero, the new handle, the iteration count, the leaf index, the redraw count. -/
def State.microDetail (s : State) (j : Job) (dsel : Nat) : Nat × State :=
  match dsel with
  | 1 => (match j.slotWritten, j.targets with
    | true, t :: _ => s.handleOf t
    | _, _ => 0, s)
  | 2 => let (n, s) := s.freeNat; (n % 2 ^ 32, s)
  | 3 => (j.leaf.getD 0, s)
  | 4 => let (n, s) := s.freeNat; (n % 2 ^ 32, s)
  | _ => (0, s)

/-- The job ends with the status and DETAIL that the nanoword names; the octets that it produced are open. -/
def State.microDone (s : State) (j : Job) (n : Nat) : State :=
  match j.kind with
  | .treeBuild i => s.treeBuilt j i
  | .queue =>
    let st := nwCstat n
    let (dt, s) := s.microDetail j (nwDsel n)
    if 0x10 ≤ st then s.failJob j (st, dt)
    else
      let (len, s) := s.freeNat
      (s.microTargets j).finishJob j ⟨st, dt, len % 2 ^ 32, j.engine, st == stTrunc⟩

/-- DONE: a pending abort is taken at the boundary that it ends with (R220, R221). -/
def State.seqDone (s : State) (e : Nat) : State :=
  s.atSpire e sqDone false fun j w => s.issue j w fun s j p =>
    let j := { j with spire := p }
    s.takeAbort j (s.microDone j (s.nanoAt e (mwNano w)))

/-! ### The commands -/

def execSpireNext (e : Fin 48) (s : State) : Out := .next (s.seqNext e)

def execSpireBr (e : Fin 48) (ext : Bool) (s : State) : Out := .next (s.seqBr e ext)

def execSpireCall (e : Fin 48) (ext : Bool) (s : State) : Out := .next (s.seqCall e ext)

def execSpireRet (e : Fin 48) (ext : Bool) (s : State) : Out := .next (s.seqRet e ext)

def execSpireDisp (e : Fin 48) (s : State) : Out := .next (s.seqDisp e)

def execSpireLoop (e : Fin 48) (s : State) : Out := .next (s.seqLoop e)

def execSpireWait (e : Fin 48) (ext : Bool) (s : State) : Out := .next (s.seqWait e ext)

def execSpireWaitTaken (e : Fin 48) (s : State) : Out := .next (s.seqWaitTaken e)

def execSpireDone (e : Fin 48) (s : State) : Out := .next (s.seqDone e)

def execSpireAssert (e : Fin 48) (ext : Bool) (s : State) : Out := .next (s.seqAssert e ext)

def execBoundaryCap (e : Fin 48) (s : State) : Out := .next (s.capReached e)

end Sys2Proof.Machine
end

