-- ==== Sys2Proof/Machine/Ucs.lean ====
section
/-! DEFINITION. The control store's patch RAM (05): loading words with their checks (R230, R231), arming, clearing and
digesting a quadrant (R232 to R239), and errors of its words (R225). -/

namespace Sys2Proof.Machine

/-! ### The checks of R231 -/

/-- Reason 1 for a microword: a reserved SEQ or field, or COND or POL against R210. -/
def microReserved (w : Nat) : Bool :=
  decide (8 < mwSeq w) || bits w 37 3 != 0 ||
  (mwSeq w == sqNext && (mwCond w != 0 || mwPol w)) || (mwSeq w == sqLoop && (decide (4 ≤ mwCond w) || mwPol w))

/-- The sequencing operations that evaluate a condition. -/
def seqHasCond (q : Nat) : Bool := [sqBr, sqCall, sqRet, sqWait, sqAssert].contains q

/-- Whether an address lies in patch RAM beyond the microwords stored so far. -/
def State.beyond (s : State) (q a : Nat) : Bool := decide (0x3000 + s.get (F.UCODE_Q_USED_MICRO q) ≤ a)

/-- The reason to refuse a microword, 0 for none. -/
def State.microReason (s : State) (q w : Nat) : Nat :=
  if microReserved w then 1
  else if seqHasCond (mwSeq w) && decide (0x20 ≤ mwCond w) then 2
  else if [sqBr, sqCall, sqLoop, sqDisp].contains (mwSeq w) && s.beyond q (mwTarget w) then 3
  else if mwSeq w == sqDisp && mwTarget w % 16 != 0 then 3
  else 0

/-- The reason to refuse a nanoword: a reserved UNIT, a reserved code of MOD or SHARES, or a reserved field. -/
def nanoReason (n : Nat) : Nat :=
  if 10 < nwUnit n ∨ nwMod n = 3 ∨ nwShares n = 3 ∨ bits n 112 16 ≠ 0 then 1 else 0

/-- The reason to refuse a hook entry for an index. -/
def State.hookReason (s : State) (q i h : Nat) : Nat :=
  if bits h 14 2 ≠ 0 ∨ bit h 30 then 1
  else if 0x3000 ≤ bits h 0 14 ∨ bits h 16 14 < 0x3000 ∨ s.beyond q (bits h 16 14) then 3
  else if (s.quad q).hooks.any (fun e => e.1 != i && bits e.2 0 14 == bits h 0 14) then 4
  else 0

/-- The kind of a quadrant (R206). -/
def quadKind (q : Nat) : Nat := if q < 2 then 0 else q - 1

/-- Whether an ALG fits a kind (R229); one of 0x0E00 to 0x0EFF may be declared in one kind only. -/
def State.algFits (s : State) (q alg : Nat) : Bool :=
  let h := algHigh alg
  if h = 0x0E then
    !(List.range 4).any (fun p => quadKind p != quadKind q && (s.quad p).disp.any (fun e => dispAlg e.2 == alg))
  else if quadKind q = 0 then (decide (1 ≤ h ∧ h ≤ 4) || h == 8)
  else if quadKind q = 1 then h == 5 || h == 6
  else h == 7

/-- The reason to refuse a dispatch entry for an index. -/
def State.dispReason (s : State) (q i e : Nat) : Nat :=
  if bits e 46 2 ≠ 0 ∨ 4 ≤ dispFlags e then 1
  else if (s.quad q).disp.any (fun x => x.1 != i && dispOpcode x.2 == dispOpcode e && dispAlg x.2 == dispAlg e) then 4
  else if !s.algFits q (dispAlg e) then 5
  else 0

/-! ### Loading (R230, R231, R239) -/

/-- The entries of a space (R207). -/
def spaceSize (sp : Nat) : Nat := if sp = 0 then 4096 else if sp = 1 then 512 else if sp = 2 then 64 else 256

/-- The word in the data registers, as wide as its space has it (R236). -/
def State.loadWord (s : State) (q sp : Nat) : Nat :=
  let d := fun i => (s.rd (R.UCODE_Q_DATA q i)).toNat
  if sp = 0 then d 0 + d 1 % 256 * 2 ^ 32
  else if sp = 1 then d 0 + d 1 * 2 ^ 32 + d 2 * 2 ^ 64 + d 3 * 2 ^ 96
  else if sp = 2 then d 0
  else d 0 + d 1 * 2 ^ 32

/-- The reason to refuse a word of a space at an index, 0 for none; an armed quadrant comes first. -/
def State.loadReason (s : State) (q sp i w : Nat) : Nat :=
  if s.on (F.UCODE_Q_STAT_ARMED q) then 6
  else if spaceSize sp ≤ i then 7
  else if sp = 0 then s.microReason q w
  else if sp = 1 then nanoReason w
  else if sp = 2 then s.hookReason q i w
  else s.dispReason q i w

/-- Store a word at an index of its space. -/
def Quadrant.store (x : Quadrant) (sp i w : Nat) : Quadrant :=
  if sp = 0 then { x with micro := sput noWord x.micro i w }
  else if sp = 1 then { x with nano := sput noWord x.nano i w }
  else if sp = 2 then { x with hooks := sput noWord x.hooks i w }
  else { x with disp := sput noWord x.disp i w }

/-- The field that counts the words stored in a space. -/
def usedField (q sp : Nat) : Fld :=
  if sp = 0 then F.UCODE_Q_USED_MICRO q else if sp = 1 then F.UCODE_Q_USED_NANO q
  else if sp = 2 then F.UCODE_Q_TBL_HOOKS q else F.UCODE_Q_TBL_DISP q

/-- A write of UCODE_Q_WR: the word is checked and stored, or refused. -/
def State.ucodeWrite (s : State) (q : Nat) : State :=
  let sp := s.get (F.UCODE_Q_ADDR_SPACE q)
  let i := s.get (F.UCODE_Q_ADDR_INDEX q)
  let w := s.loadWord q sp
  let reason := s.loadReason q sp i w
  if reason = 0 then
    let s := s.putQuad q ((s.quad q).store sp i w)
    let s := s.put (usedField q sp) (max (s.get (usedField q sp)) (i + 1))
    s.put (F.UCODE_Q_ADDR_INDEX q) (i + 1)
  else
    let s := s.set (F.UCODE_Q_STAT_LOAD_REJECT q)
    ((s.put (F.UCODE_Q_REJ_SPACE q) sp).put (F.UCODE_Q_REJ_INDEX q) i).put (F.UCODE_Q_REJ_REASON q) reason

/-! ### Arming, clearing, digest (R232, R234, R237, R238) -/

/-- Whether a quadrant holds a RAM record. -/
def State.hasRecords (s : State) (q : Nat) : Bool := s.rd (R.UCODE_Q_USED q) != 0 || s.rd (R.UCODE_Q_TBL q) != 0

/-- ARM. -/
def State.armQuad (s : State) (q : Nat) : State :=
  ((s.set (F.UCODE_Q_CTL_ARM q)).set (F.UCODE_Q_STAT_ARMED q)).putB (F.UCODE_Q_STAT_PATCHED q) (s.hasRecords q)

/-- RAM and tables return to null. -/
def State.clearQuad (s : State) (q : Nat) : State :=
  let s := ((s.putQuad q Quadrant.null).wr (R.UCODE_Q_USED q) 0).wr (R.UCODE_Q_TBL q) 0
  s.clr (F.UCODE_Q_CTL_CLEAR q)

/-- A write of UCODE_Q_CTL (R237): each bit acts where it is 1. -/
def State.ucodeCtlWrite (s : State) (q : Nat) (v : Word) : State :=
  let n := v.toNat
  let s := if bit n 1 && !s.on (F.UCODE_Q_STAT_ARMED q) then s.set (F.UCODE_Q_CTL_CLEAR q) else s
  let s := if bit n 2 then
      ((s.set (F.UCODE_Q_CTL_DIGEST_START q)).set (F.UCODE_Q_STAT_DIGEST_BUSY q)).clr (F.UCODE_Q_STAT_DIGEST_VALID q) else s
  if bit n 0 then s.armQuad q else s

/-- The records of one space in stored order, each of `len` bytes. -/
def recordBytesOf (m : List (Nat × Nat)) (len n : Nat) : List Byte :=
  (List.range n).flatMap (fun i => natLE len (sget noWord m i))

/-- The stored records of a quadrant in the order of R227. -/
def State.quadRecords (s : State) (q : Nat) : List Byte :=
  let x := s.quad q
  recordBytesOf x.micro 8 (s.get (F.UCODE_Q_USED_MICRO q)) ++ recordBytesOf x.nano 16 (s.get (F.UCODE_Q_USED_NANO q)) ++
  recordBytesOf x.hooks 4 (s.get (F.UCODE_Q_TBL_HOOKS q)) ++ recordBytesOf x.disp 8 (s.get (F.UCODE_Q_TBL_DISP q))

/-- SHA-384. -/
def sha384 (b : List Byte) : List Byte := fit 48 (Config.hash 0x0903 48 b)

/-- Store twelve words of a digest. -/
def State.putDigest (s : State) (q : Nat) (b : List Byte) : State :=
  (List.range 12).foldl (fun s i => s.wr (R.UCODE_Q_DIGEST q i) (BitVec.ofNat 32 (leAt b (4 * i) 4))) s

/-- The digest completes. -/
def State.digestDone (s : State) (q : Nat) : State :=
  if !s.on (F.UCODE_Q_STAT_DIGEST_BUSY q) then s
  else
    let s := (s.putDigest q (sha384 (s.quadRecords q))).clr (F.UCODE_Q_CTL_DIGEST_START q)
    (s.clr (F.UCODE_Q_STAT_DIGEST_BUSY q)).set (F.UCODE_Q_STAT_DIGEST_VALID q)

/-- Cupola firmware abandons a bundle (R233): every quadrant not yet armed is cleared and armed with ROM content only, and
an Almanac entry of ETYPE 4 is written. -/
def State.abandonBundle (s : State) : State :=
  let s := (List.range 4).foldl (fun s q =>
    if s.on (F.UCODE_Q_STAT_ARMED q) then s else (s.clearQuad q).armQuad q) s
  (s.set F.CUP_BOOT_STAT_UC_ABANDONED).almanac 4 0 0

/-! ### Errors of control-store words (R222, R225) -/

/-- A control-store fetch of an engine's Spire finds an ECC error. ADDR holds the Spire index and the store address. -/
def State.storeError (s : State) (e : Nat) (uncorr : Bool) (addr : Nat) : State :=
  let a := spireIndex e + addr / 64 * 64
  if uncorr then (s.report 0x105 0x02 0 a).withdrawEngine e 0x02 else s.report 0x105 0x01 0 a

/-! ### The commands -/

def execUcodeQWr (r : Req) (q : Fin 4) (_v : Word) (s : State) : Out :=
  .next (s.gateW r (R.UCODE_Q_WR q) (·.ucodeWrite q))

def execUcodeArm (r : Req) (q : Fin 4) (v : Word) (s : State) : Out :=
  .next (s.gateW r (R.UCODE_Q_CTL q) (·.ucodeCtlWrite q (v ||| 1)))

def execUcodeQClear (r : Req) (q : Fin 4) (v : Word) (s : State) : Out :=
  .next (s.gateW r (R.UCODE_Q_CTL q) (·.ucodeCtlWrite q (v ||| 2)))

def execUcodeQClearDone (q : Fin 4) (s : State) : Out :=
  .next (if s.on (F.UCODE_Q_CTL_CLEAR q) then s.clearQuad q else s)

def execDigestStart (r : Req) (q : Fin 4) (v : Word) (s : State) : Out :=
  .next (s.gateW r (R.UCODE_Q_CTL q) (·.ucodeCtlWrite q (v ||| 4)))

def execDigestComplete (q : Fin 4) (s : State) : Out := .next (s.digestDone q)

def execBundleAbandon (s : State) : Out := .next (if s.power.cupUp then s.abandonBundle else s)

def execControlStoreEccError (e : Fin 48) (uncorr : Bool) (addr : BitVec 40) (s : State) : Out :=
  .next (if isAea e then s.storeError e uncorr addr.toNat else s)

def execUcsScrub (q : Fin 4) (s : State) : Out :=
  .next (if s.on (F.UCODE_Q_STAT_ARMED q) then s.putQuad q (s.quad q) else s)

end Sys2Proof.Machine
end

