-- ==== Sys2Proof/Machine/Images.lean ====
section
/-! DEFINITION. Images (08, 16): their signatures (R577, R578), the checks of BOOT copies and configuration images (R354,
R583, R584), the choice between copies (R355), and the records of a configuration image (R341 to R353). -/

namespace Sys2Proof.Machine

/-! ### Signatures (R577 to R579) -/

/-- The length of the signature block. -/
def sigBlock : Nat := 7428

/-- A signature in MODE 00 of the composite 0x0812 with a context string. -/
def compositeOk (ctx pk msg sig : List Byte) : Bool := verifyOf 0x812 { SigParams.pure with ctx := ctx } pk msg sig

/-- The owner key slots that are usable (R579). -/
def State.usableKeys (s : State) : List (Nat × CfgKey) :=
  s.cup.keys.filter (fun e => e.2.done == 0xA55A && !e.2.revoked)

/-- Whether a key signs an image of a TARGET in the present life-cycle state (R578): TARGET 1 BOOT or a patch bundle, 2
CONFIG. -/
def State.keyAccepted (s : State) (target cls idx : Nat) (digest : List Byte) : Bool :=
  let st := s.get F.LCS_STATE_STATE
  let yeliton := cls == 0 && idx == 0 && digest == Config.yelitonDigest
  if target = 1 then yeliton
  else if st = 0 ∨ st = 1 ∨ st = 4 then yeliton
  else if st = 2 ∨ st = 3 then
    (cls == 1 && s.usableKeys.any (fun e => e.1 == idx && e.2.digest == digest)) || (s.usableKeys.isEmpty && yeliton)
  else false

/-- The signature check of bytes that end with their signature block (R577). -/
def State.signedOk (s : State) (target total : Nat) (ctx : List Byte) (b : List Byte) : Bool :=
  let g := slice b total sigBlock
  let pk := slice g 16 2689
  g.length == sigBlock && g.take 4 == [0x53, 0x49, 0x47, 0x42] && leAt g 6 2 == 0 && leAt g 12 4 == 0 &&
  leAt g 8 4 == total && s.keyAccepted target (byteAt g 4) (byteAt g 5) (sha384 pk) &&
  compositeOk ctx pk (b.take total ++ g.take 16) (slice g 2705 4723)

/-! ### Copies (R340, R354, R583) -/

def imgGen (b : List Byte) : Nat := leAt b 8 4
def imgSvn (b : List Byte) : Nat := leAt b 12 2
def imgTotal (b : List Byte) : Nat := leAt b 16 4

/-- The header's length by TARGET. -/
def imgHdr (target : Nat) : Nat := if target = 1 then 144 else 96

/-- The components of a BOOT copy: Cupola firmware, SVC firmware, patch bundle (R583). -/
def bootParts (b : List Byte) : List (Nat × Nat) :=
  ([(leAt b 24 4, leAt b 28 4), (leAt b 32 4, leAt b 36 4), (leAt b 40 4, leAt b 44 4)]).filter (·.2 != 0)

/-- The limits of R583. -/
def bootLimits (b : List Byte) : Bool :=
  let ps := bootParts b
  decide (leAt b 28 4 ≤ 0x80000) && decide (leAt b 36 4 ≤ 0x800000) &&
  ps.all (fun p => p.1 % 64 == 0 && decide (144 ≤ p.1 ∧ p.1 + p.2 ≤ imgTotal b)) &&
  ps.all (fun p => ps.all (fun q => p == q || decide (p.1 + p.2 ≤ q.1) || decide (q.1 + q.2 ≤ p.1)))

/-- Check 1 of R354. -/
def headerOk (target : Nat) (b : List Byte) : Bool :=
  b.take 4 == (if target = 1 then [0x42, 0x4F, 0x4F, 0x54] else [0x43, 0x4F, 0x4E, 0x46]) && leAt b 4 2 == 1 &&
  leAt b 6 2 == imgHdr target && imgGen b != 0 && imgGen b != 0xFFFFFFFF &&
  decide (imgHdr target ≤ imgTotal b ∧ imgTotal b + sigBlock ≤ copySize target) && (target != 1 || bootLimits b)

/-- IMAGE_DIGEST (check 5). -/
def digestOk (target : Nat) (b : List Byte) : Bool :=
  slice b (imgHdr target - 48) 48 == sha384 (slice b (imgHdr target) (imgTotal b - imgHdr target))

/-- The context strings of R577. -/
def imgContext (target : Nat) : List Byte := ascii (if target = 1 then "YLT-BOOT" else "YLT-CONFIG")

/-- Whether an SVN passes its anti-rollback counter (R581). -/
def svnOk (svn counter : Nat) : Bool := decide (counter ≤ svn ∧ svn ≤ 127)

/-- Checks 1 to 5 (R354, R584): the first that fails, 0 for an intact copy. -/
def State.copyCheck (s : State) (target : Nat) (b : List Byte) : Nat :=
  if !headerOk target b then 1
  else if !s.signedOk target (imgTotal b) (imgContext target) b then 2
  else if !svnOk (imgSvn b) (if target = 1 then s.cup.arbFw else s.cup.arbCfg) then 3
  else if !bit (leAt b 14 2) 1 then 4
  else if !digestOk target b then 5
  else 0

/-- A copy in flash, as long as its header says. -/
def State.readCopy (s : State) (target c : Nat) : List Byte :=
  let n := leNat (s.flashRead (copyBase target c + 16) 4)
  s.flashRead (copyBase target c) (min (n + sigBlock) (copySize target))

/-- The choice between two copies by their failed checks (R355): copy 0 or 1, or the RECOVERY reason. -/
def chooseCopy (a b : List Byte) (ea eb : Nat) : Except Nat Nat :=
  if ea ≠ 0 ∧ eb ≠ 0 then .error 1
  else if eb ≠ 0 then .ok 0
  else if ea ≠ 0 then .ok 1
  else if imgGen a > imgGen b then .ok 0
  else if imgGen a < imgGen b then .ok 1
  else if a.take (imgTotal a) = b.take (imgTotal b) then .ok 0
  else .error 2

/-! ### Records (R341, R342) -/

/-- A record of a configuration image. -/
structure Rec where
  typ : Nat
  crit : Bool
  body : List Byte

/-- The record types with their maxima. -/
def recMax : List (Nat × Nat) :=
  [(0x01, 1), (0x02, 16), (0x03, 64), (0x10, 16), (0x11, 1), (0x12, 4), (0x13, 16), (0x14, 16), (0x15, 64), (0x20, 256),
   (0x21, 4096), (0x22, 16384), (0x30, 4096), (0x31, 4096), (0x40, 1024)]

/-- `n` records that fill the bytes exactly; none where the framing fails. -/
def parseRecs : Nat → List Byte → Option (List Rec)
  | 0, [] => some []
  | 0, _ => none
  | n + 1, b =>
    let len := leAt b 4 4
    let size := 8 + (len + 7) / 8 * 8
    if b.length < 8 ∨ b.length < size then none
    else match parseRecs n (b.drop size) with
      | some rs => some (⟨leAt b 0 2 % 0x8000, bit (leAt b 0 2) 15, slice b 8 len⟩ :: rs)
      | none => none

/-- The records of an image. -/
def recsOf (img : List Byte) : Option (List Rec) := parseRecs (leAt img 20 4) (slice img 96 (imgTotal img - 96))

/-- The bodies of the records of a type, in order. -/
def bodies (rs : List Rec) (t : Nat) : List (List Byte) := (rs.filter (·.typ == t)).map (·.body)

/-- Check 6: framing and counts. -/
def framingOk (img : List Byte) : Bool :=
  match recsOf img with
  | none => false
  | some rs => recMax.all (fun e => decide ((bodies rs e.1).length ≤ e.2))

/-! ### Lane modes (R240, R241, R343) -/

/-- The mode of a quad: 1 4 × 100G, 2 2 × 200G, 3 1 × 400G, 0 none. -/
def quadMode (rs : List Rec) (lineMode q : Nat) : Nat :=
  let m := match bodies rs 1 with
    | b :: _ => byteAt b q
    | [] => 0
  if m ≠ 0 then m else if lineMode = 3 then 0 else lineMode + 1

/-- RATE and LANES of a port in its quad's mode (R240, R291). -/
def portMode (m i : Nat) : Nat × Nat :=
  if m = 1 then (1, 1) else if m = 2 ∧ i % 2 = 0 then (2, 2) else if m = 3 ∧ i = 0 then (3, 4) else (0, 0)

/-- RATE and LANES of port `p` (0 to 7 CP, 8 to 15 PP). -/
def portLanes (rs : List Rec) (lineMode p : Nat) : Nat × Nat := portMode (quadMode rs lineMode (p / 4)) (p % 4)

/-! ### Contents (check 7) -/

/-- The entries of KEEP_BLOB records in order: (blob index, target slot). -/
def blobEntries (rs : List Rec) : List (Nat × Nat) :=
  (bodies rs 0x15).flatMap (fun b => (List.range (b.length / 112)).map (fun i => (leAt b (112 * i) 4, leAt b (112 * i + 4) 4)))

/-- CTX_POOL: SA_BASE, SA_COUNT, GRP_BASE, GRP_COUNT, PIN_QUOTA. -/
structure Pool where
  saBase : Nat
  saCount : Nat
  grpBase : Nat
  grpCount : Nat
  quota : Nat
  deriving DecidableEq, Repr

/-- The pool of an image; empty without a record. -/
def poolOf (rs : List Rec) : Pool :=
  match bodies rs 0x11 with
  | b :: _ => ⟨leAt b 0 4, leAt b 4 4, leAt b 8 4, leAt b 12 4, leAt b 16 2⟩
  | [] => ⟨0, 0, 0, 0, 0⟩

/-- Whether a CTX_ID lies in the GRP range. -/
def Pool.hasGroup (p : Pool) (c : Nat) : Bool := decide (p.grpBase ≤ c ∧ c < p.grpBase + p.grpCount)

/-- The policy of an ID. -/
def policyOf (rs : List Rec) (id : Nat) : Option (List Byte) := (bodies rs 0x20).find? (fun b => leAt b 0 2 == id)

/-- The peer of an index. -/
def peerOf (rs : List Rec) (i : Nat) : Option (List Byte) := (bodies rs 0x21).find? (fun b => leAt b 0 2 == i)

/-- Static flow entries, 64 bytes each. -/
def flowsOf (rs : List Rec) : List (List Byte) := (bodies rs 0x40).flatMap (fun b => entriesOf (b.length / 64) b)

/-- Whether a number lies in a range. -/
def within (lo hi n : Nat) : Bool := decide (lo ≤ n ∧ n ≤ hi)

/-- The targets of REG records (R345). -/
def regTarget (o : Nat) : Bool :=
  !reservedAt o &&
  match locate o with
  | some (.ipp, _, _) => ! [R.IPP_CTL, R.IPP_PTP_CTL, R.IPP_PTP_ADJ, R.IPP_PTP_STEP].contains o
  | some (.rng, _, _) | some (.evc, _, _) => true
  | some (.glb, _, loc) => decide (0x200 ≤ loc ∧ loc < 0x27C)
  | some (.fcr, _, loc) => loc == 8 || decide (0x80 ≤ loc ∧ loc < 0x100)
  | _ => [R.CTS_CFG, R.CTS_THERM, R.AEA_LT_CFG, R.AEA_XCFG].contains o

/-- Whether every masked bit lies in a field of access RW or RWL. -/
def maskWritable (o mask : Nat) : Bool :=
  match specAt o with
  | some (r, _) => (List.range 32).all (fun i => !bit mask i ||
      r.fields.any (fun f => (f.acc == .rw || f.acc == .rwl) && decide (f.lo ≤ i ∧ i < f.lo + f.width)))
  | none => false

/-- The entries of REG records: (offset, value, mask). -/
def regEntries (rs : List Rec) : List (Nat × Nat × Nat) :=
  (bodies rs 3).flatMap (fun b => (List.range (b.length / 12)).map
    (fun i => (leAt b (12 * i) 4, leAt b (12 * i + 4) 4, leAt b (12 * i + 8) 4)))

/-- Whether IKE_POLICY holds (R349). -/
def policyOk (rs : List Rec) (b : List Byte) : Bool :=
  b.length == 48 && decide (byteAt b 2 < 4 ∧ byteAt b 3 < 8 ∧ byteAt b 4 < 16 ∧ byteAt b 5 < 4 ∧ byteAt b 6 < 64 ∧ byteAt b 7 < 4) &&
  within 60 604800 (leAt b 8 4) && within 60 86400 (leAt b 12 4) && within 50 95 (byteAt b 16) &&
  (byteAt b 17 == 0 || within 6 10 (byteAt b 17)) && decide (leAt b 24 2 < (bodies rs 0x12).length) &&
  within 10 10000 (leAt b 26 2) && allZero (b.drop 28) && !(bit (byteAt b 6) 0 && byteAt b 5 == 0)

/-- Whether CHILD holds (R351). Its flow entries are judged with the CTX_ID, ACTION and EGRESS that SVC will give them. -/
def childOk (rs : List Rec) (b : List Byte) : Bool :=
  let es := (entriesOf (byteAt b 6) (b.drop 48)).map (fun e => setLE (setLE (setLE e 40 4 0) 44 1 1) 46 1 (byteAt b 4))
  within 1 4 (byteAt b 6) && b.length == 48 + 64 * byteAt b 6 && (peerOf rs (leAt b 0 2)).isSome &&
  within 1 2 (byteAt b 2) && decide (byteAt b 3 < 32) && within 8 15 (byteAt b 4) && [0, 30, 50].contains (byteAt b 5) &&
  allZero (slice b 25 23) && es.all (fun e => !feBad e && decide (feInPort e < 8)) &&
  (byteAt b 2 != 1 || es.all (fun e => within 5 8 (feKtype e)))

/-- Whether GDOI_GROUP holds (R352). -/
def groupOk (rs : List Rec) (b : List Byte) : Bool :=
  b.length == 40 && within 1 2 (byteAt b 4) && within 1 4 (byteAt b 5) && decide (byteAt b 6 < 4) &&
  decide (byteAt b 7 < (bodies rs 0x10).length) && (poolOf rs).hasGroup (leAt b 8 4) && within 60 2592000 (leAt b 12 4) &&
  (byteAt b 4 != 1 || decide (10 ≤ leAt b 16 4)) && (policyOf rs (leAt b 36 2)).isSome && leAt b 38 2 == 0

/-- Whether a FLOW entry may be installed (R353). -/
def staticOk (rs : List Rec) (e : List Byte) : Bool :=
  !feBad e && (if feCtx e = none32 then [0, 3, 4].contains (feAction e)
    else (poolOf rs).hasGroup (feCtx e) && within 1 2 (feAction e))

/-- Whether a record's body holds (R341, R343 to R353), with the strapped lane mode. -/
def recOk (rs : List Rec) (lineMode : Nat) (r : Rec) : Bool :=
  let b := r.body
  match r.typ with
  | 0x01 => b.length == 8 && (List.range 4).all (fun q => decide (byteAt b q ≤ 3) && (lineMode != 3 || byteAt b q != 0)) &&
      byteAt b 4 &&& 0x78 == 0 && allZero (b.drop 5)
  | 0x02 => b.length == 32 && decide (byteAt b 0 < 16) && allZero (slice b 1 3) && (portLanes rs lineMode (byteAt b 0)).1 != 0
  | 0x03 => b.length % 12 == 0 && (regEntries [r]).all (fun e => regTarget e.1 && maskWritable e.1 e.2.2)
  | 0x10 => b.length == 48 && decide (byteAt b 0 < 16 ∧ byteAt b 1 < 8 ∧ byteAt b 20 ≤ 32 ∧ byteAt b 21 ≤ 128) &&
      allZero (slice b 22 2) && allZero (b.drop 40)
  | 0x11 => b.length == 20 && leAt b 0 4 % 4 == 0 && decide (leAt b 0 4 + leAt b 4 4 ≤ 0x100000 ∧ leAt b 16 2 ≤ 4096) &&
      (leAt b 12 4 == 0 || decide (0x100000 ≤ leAt b 8 4 ∧ leAt b 8 4 + leAt b 12 4 ≤ 0x110000)) && allZero (b.drop 18)
  | 0x12 => decide (leAt b 0 4 < (blobEntries rs).length) && [2, 7].contains (algHigh (leAt b 4 2)) &&
      [1, 2, 5, 9].contains (byteAt b 6) && byteAt b 7 == 0 && within 1 4 (leAt b 10 2) &&
      b.length == 16 + leAt b 8 2 + leAt b 12 4
  | 0x13 => !b.isEmpty
  | 0x14 => b.length % 56 == 0 && (List.range (b.length / 56)).all (fun i => within 1 20 (byteAt b (56 * i + 32)) &&
      allZero (slice b (56 * i + 53) 3))
  | 0x15 => b.length != 0 && b.length % 112 == 0 && (List.range (b.length / 112)).all (fun i => allZero (slice b (112 * i + 8) 104))
  | 0x20 => policyOk rs b
  | 0x21 => b.length == 32 + leAt b 26 2 && (policyOf rs (leAt b 2 2)).isSome && (byteAt b 4 == 4 || byteAt b 4 == 6) &&
      decide (byteAt b 5 < (bodies rs 0x10).length) && allZero (slice b 6 2) && byteAt b 25 == 0 && allZero (slice b 28 4)
  | 0x22 => childOk rs b
  | 0x30 => groupOk rs b
  | 0x31 => b.length % 32 == 8 && allZero (slice b 4 4) && (bodies rs 0x30).any (fun g => leAt g 0 4 == leAt b 0 4 && byteAt g 4 == 1)
  | 0x40 => !b.isEmpty && b.length % 64 == 0 && (entriesOf (b.length / 64) b).all (staticOk rs)
  | _ => !r.crit

/-- The pins that the CLASS0 children of an image need (R354, R331). -/
def pinsNeeded (rs : List Rec) : Nat :=
  let cs := (bodies rs 0x22).filter (fun b => bit (byteAt b 3) 0)
  2 * cs.length + ((cs.map (fun b => byteAt b 4)).eraseDups).length

/-- Check 7. -/
def contentOk (img : List Byte) (lineMode : Nat) : Bool :=
  match recsOf img with
  | none => false
  | some rs => rs.all (recOk rs lineMode) && decide (pinsNeeded rs ≤ (poolOf rs).quota) &&
      ((flowsOf rs).map feKey).eraseDups.length == (flowsOf rs).length

/-- Checks 6 and 7: the first that fails. -/
def State.contentCheck (s : State) (img : List Byte) : Nat :=
  if !framingOk img then 6 else if !contentOk img (s.get F.GLB_STRAP_LINE_MODE) then 7 else 0

/-- The records of the running configuration image. -/
def State.cfgRecs (s : State) : List Rec := (recsOf s.cup.cfg).getD []

end Sys2Proof.Machine
end

