-- ==== Sys2Proof/Machine/SvcNet.lean ====
section
/-! DEFINITION. The interfaces of SVC (R346) and the answers to ARP requests and IPv6 Neighbour Solicitations for its own
addresses (R359); the forms are those of RFC 826 and RFC 4861. -/

namespace Sys2Proof.Machine

/-- Whether SVC's cores run: out of reset, its clock not held (R549), not halted under debug (R500). -/
def State.svcRuns (s : State) : Bool := s.power.svcUp && !s.cpm.svcHold && !s.lcs.svcHalted

/-- The VID of an interface as a flow key holds it. -/
def netVid (b : List Byte) : Nat := if bit (byteAt b 1) 2 then leAt b 2 2 else 0xFFFF

/-- The SVC_NET record of the interface at a port and outer VID. -/
def State.svcNet (s : State) (port vid : Nat) : Option (List Byte) :=
  (bodies s.cfgRecs 0x10).find? (fun b => byteAt b 0 == port && netVid b == vid)

/-- The Ethernet header of the frames that SVC sends on an interface: NH_MAC, SVC_MAC and the tag (R346). -/
def netHead (b : List Byte) (etype : Nat) : List Byte :=
  slice b 10 6 ++ slice b 4 6 ++ (if bit (byteAt b 1) 2 then natBE 2 0x8100 ++ natBE 2 (leAt b 2 2) else []) ++ natBE 2 etype

/-- The answer to an ARP request for the interface's IPv4 address, whose packet starts at an offset. -/
def arpReply (b bs : List Byte) (o : Nat) : Option (List Byte) :=
  if bit (byteAt b 1) 0 ∧ slice bs o 8 = [0, 1, 8, 0, 6, 4, 0, 1] ∧ slice bs (o + 24) 4 = slice b 16 4 then
    some (netHead b 0x0806 ++ [0, 1, 8, 0, 6, 4, 0, 2] ++ slice b 4 6 ++ slice b 16 4 ++ slice bs (o + 8) 10)
  else none

/-- The answer to a Neighbour Solicitation for the interface's IPv6 address: solicited, or to all nodes where the question
came from the unspecified address. -/
def ndReply (b bs : List Byte) (p : Parsed) : Option (List Byte) :=
  let me := slice b 24 16
  if bit (byteAt b 1) 1 ∧ byteAt bs p.l4 = 135 ∧ byteAt bs (p.off + 7) = 255 ∧ slice bs (p.l4 + 8) 16 = me then
    let dad := allZero p.src
    let dst := if dad then [0xFF, 2, 0, 0, 0, 0, 0, 0, 0, 0, 0, 0, 0, 0, 0, 1] else p.src
    let m := [136, 0, 0, 0, if dad then 0x20 else 0x60, 0, 0, 0] ++ me ++ [2, 1] ++ slice b 4 6
    let c := checksum (me ++ dst ++ natBE 4 32 ++ natBE 4 58 ++ m)
    some (netHead b 0x86DD ++ natBE 4 0x60000000 ++ natBE 2 32 ++ [58, 255] ++ me ++ dst ++ patch m 2 (natBE 2 c))
  else none

/-- What SVC answers to an ARP or ND frame. -/
def State.svcReply (s : State) (port : Nat) (bs : List Byte) : Option (List Byte) :=
  match parseFrame bs with
  | none => none
  | some p => match s.svcNet port p.vid with
    | none => none
    | some b => if p.etype = 0x0806 then arpReply b bs p.off else ndReply b bs p

end Sys2Proof.Machine
end

