-- ==== Sys2Proof/Machine/IppCmds.lean ====
section
/-! DEFINITION. In-line protection from the commit on (06): the Context Arbiter's data-path advances (R258 to R272, R322 to
R329), egress with its queues and the transparent clock (R244 to R246, R273, R286), PTP control (R275, R292), aging (R255),
and the commands of IPP. -/

namespace Sys2Proof.Machine

/-! ### Egress queues -/

/-- The shared part of the packet buffer (R246): 32 MiB less 64 KiB for each active port. -/
def State.sharedBuffer (s : State) : Nat := 2 ^ 25 - 2 ^ 16 * ((List.range 16).filter s.portActive).length

/-- The class-2 bytes in the egress queues, of all ports or of one. -/
def State.queuedBytes (s : State) (p : Nat → Bool) : Nat :=
  ((s.ipp.frames.filter (fun f => f.phase == .egress && f.cls != 0 && p f.egress)).map (fun f => f.bytes.length + 4)).sum

/-- What SVC does with a frame that is delivered to it (R359): IKE and GDOI are queued, ARP and Neighbour Discovery may
be answered, everything else is discarded. -/
def svcTakes (bs : List Byte) : Option Bool :=
  match parseFrame bs with
  | none => none
  | some p =>
    let d := p.dport bs
    let ike := d == 500 || (d == 4500 && beAt bs (p.l4 + 8) 4 == 0) || d == 848
    if p.ip ≠ 0 ∧ p.proto = 17 ∧ !p.frag ∧ ike then some true
    else if p.etype = 0x0806 ∨ (p.ip = 6 ∧ p.proto = 58 ∧ (byteAt bs p.l4 = 135 ∨ byteAt bs p.l4 = 136)) then some false
    else none

/-- Frames that SVC took in the present second. -/
def State.svcTaken (s : State) : Nat × Nat :=
  if s.ipp.svcRate.2 + 1000000000 ≤ s.time then (0, s.time) else s.ipp.svcRate

/-- A transformed frame goes to the queue of its egress port: TOO_BIG, EGRESS_DOWN and QUEUE_FULL drop it (R244 to R246). -/
def State.enqueuePort (s : State) (f : FrameSt) (bs : List Byte) : State :=
  let f := { f with bytes := bs, phase := .egress }
  if s.get (F.LIF_MAXFRM_BYTES f.egress) < bs.length + 4 then s.dropFrame f drTooBig
  else if !s.portUp f.egress then s.dropFrame f drEgressDown
  else if f.cls ≠ 0 ∧ (s.sharedBuffer < s.queuedBytes (fun _ => true) + bs.length + 4 ∨
      s.get (F.LIF_QMAX_BYTES f.egress) < s.queuedBytes (· == f.egress) + bs.length + 4) then s.dropFrame f drQueueFull
  else s.putFrame f

/-- SVC sends a frame (R360): class 2, untransformed. -/
def State.svcSend (s : State) (p : Nat) (bs : List Byte) : State :=
  if !s.svcRuns then s
  else
    let f := { s.newFrame 16 bs with egress := p }
    (s.addFrame f).enqueuePort f bs

/-- Deliver a frame to SVC: at most 200,000 a second, at most 4,096 in its queue (R359). ARP and Neighbour Discovery are
answered or discarded at once. -/
def State.deliverSvc (s : State) (f : FrameSt) : State :=
  let t := s.svcTaken
  let k := svcTakes f.bytes
  if !s.power.svcUp ∨ 200000 ≤ t.1 ∨ (k = some true ∧ 4096 ≤ s.ipp.svcRx.length) then s.dropFrame f drQueueFull
  else
    let s := s.removeFrame f.id
    let s := { s with ipp := { s.ipp with svcRate := (t.1 + 1, t.2) } }
    if k = some true then { s with ipp := { s.ipp with svcRx := s.ipp.svcRx ++ [(f.port, f.bytes)] } }
    else match (if k = none then none else s.svcReply f.port f.bytes) with
      | some r => s.svcSend f.port r
      | none => { s with ipp := { s.ipp with svcDiscards := s.ipp.svcDiscards + 1 } }

/-- A frame that leaves IPP goes to SVC or to its egress queue. -/
def State.enqueue (s : State) (f : FrameSt) (bs : List Byte) : State :=
  if f.egress = 16 then s.deliverSvc { f with bytes := bs, phase := .egress } else s.enqueuePort f bs

/-- Enqueue a frame of the device as it now stands. -/
def State.sendOn (s : State) (id : Nat) (bs : List Byte) : State :=
  match s.frame? id with
  | some f => s.enqueue f bs
  | none => s

/-! ### The transmit commit (R262, R265, R324, R329) -/

/-- The last usable value of a transmit counter, and its warning threshold. -/
def ctrLast (x : List Byte) : Nat := if cWide x then 2 ^ 64 - 1 else 2 ^ 32 - 1

def State.ctrWarn (s : State) (x : List Byte) : Nat :=
  if cWide x then (s.rd R.IPP_XPN_WARN_LO).toNat + (s.rd R.IPP_XPN_WARN_HI).toNat * 2 ^ 32 else (s.rd R.IPP_PN_WARN).toNat

/-- The context whose counter a transmit commit takes: of a DRAINING or FORWARD context, its successor (R324). -/
def State.txCtx (s : State) (c : Nat) : Nat :=
  let x := s.ctx c
  if cState x = csDraining ∨ cState x = csForward then cSucc x else c

/-- The successor that a commit of a predecessor switches to when its counter asks for it (R329, SWITCH 10). -/
def State.counterSwitch (s : State) (c : Nat) : Option Nat :=
  let x := s.ctx c
  if cHasSucc x ∧ s.waitingPair (cSucc x) = some c ∧ s.switchOf (cSucc x) = 2 then some (cSucc x) else none

/-- Commit the advance of a transmit counter standing at `n`. -/
def State.advanceTx (s : State) (c n len : Nat) : State :=
  let x := s.ctx c
  let warn := decide (s.ctrWarn x ≤ n + 1)
  let y := ctxUse (setLE x (cCtrOff (cType x)) 8 (min (n + 1) (2 ^ 64 - 1))) len s.time
  let sw := if warn || n == ctrLast x then s.counterSwitch c else none
  let s := s.commitBegin
  let s := match sw with
    | some d => (s.commitCtx c false y).switchPair c d
    | none =>
      if n = ctrLast x then (s.commitCtx c true (setLE y 17 1 csExhausted)).saEvent c 2 else s.commitCtx c false y
  if warn then s.saEvent c 1 else s

/-- The bytes that leave under a transmit context at a counter value. -/
def protectedBytes (x : List Byte) (n ts : Nat) (p : Parsed) (bs : List Byte) : List Byte :=
  if cType x = ctMacsecTx then macsecProtect x n bs
  else if cType x = ctEspOut then espProtect x n p bs
  else if isGoose p.etype then goosePro x ts bs
  else spduPro x p bs

/-- The commit of a PROTECT frame, and its encryption. -/
def State.commitTx (s : State) (f : FrameSt) (p : Parsed) : State :=
  let c := s.txCtx f.ctx
  let x := s.ctx c
  let n := cCtr x
  if !s.ctxReach f.ctx then s.dropFrame f drFault
  else if c = none32 ∨ !suitsTx x p f.bytes ∨ !suitsTx (s.ctx f.ctx) p f.bytes then s.dropFrame f drNoSa
  else if !s.ctxReach c then s.dropFrame f drFault
  else if cState x = csExhausted then (s.noteCtx c 5).dropFrame f drCounter
  else if cState x ≠ csActive then s.dropFrame f drNoSa
  else if s.isDuplicate f then s.dropFrame f drDuplicate
  else
    let s := if cType x = ctGroup then s.commit1 c false (ctxUse x f.len s.time) else s.advanceTx c n f.len
    (s.recordFrame f).sendOn f.id (protectedBytes x n f.ptp p f.bytes)

/-! ### The receive commit (R261, R265, R268, R329) -/

/-- What a receive commit makes of a context, or the reason that it refuses the frame. -/
def rxAdvance (x : List Byte) (pn : Nat) : Except Nat (List Byte) :=
  if cType x = ctMacsecRx then
    if cReplayEn x ∧ pn < lowestPn x then .error drReplay
    else .ok (setLE x 144 8 (min (max (cCtr x) (pn + 1)) (2 ^ 64 - 1)))
  else if espReplay x pn then .error drReplay
  else .ok (espMark x pn)

/-- The duplicate decision after a receive commit: the state stays committed (R272). -/
def State.finishRx (s : State) (f : FrameSt) : State :=
  if s.isDuplicate f then s.dropFrame f drDuplicate else (s.recordFrame f).sendOn f.id f.bytes

/-- The commit of a verified MACsec or ESP frame; the first under a STANDBY successor with SWITCH 10 switches. -/
def State.commitRx (s : State) (f : FrameSt) : State :=
  let x := s.ctx f.ctx
  match rxAdvance x f.pn with
  | .error c => s.dropIn f c 2
  | .ok y =>
    let s := s.commitBegin.commitCtx f.ctx false (ctxUse y f.len s.time)
    let s := match s.waitingPair f.ctx with
      | some q => if s.switchOf f.ctx = 2 then s.switchPair q f.ctx else s
      | none => s
    s.finishRx f

/-- The commit of a verified group frame: the order test again, and the new STREAM_STATE (R268). -/
def State.commitGroup (s : State) (f : FrameSt) (order : Nat) : State :=
  let goose := match parseFrame f.bytes with
    | some p => isGoose p.etype
    | none => false
  match f.entry.bind s.findFlow, s.streamState f goose with
  | some r, some old =>
    if order ≤ old then s.dropIn f drStale 4
    else
      let e := s.flowGet r
      let s := s.flowPut r (if goose then setLE e 56 8 order else setLE e 56 4 order)
      (s.commit1 f.ctx false (ctxUse (s.ctx f.ctx) f.len s.time)).finishRx f
  | _, _ => s.dropFrame f drNoSa

/-- Whether a receive context is still the one that verified the frame. -/
def rxSuits (x : List Byte) (f : FrameSt) : Bool :=
  if f.fresh.isSome then cType x == ctGroup && cState x == csActive
  else rxOpen x && (cType x == ctMacsecRx || cType x == ctEspIn)

/-- The commit of an UNPROTECT frame. -/
def State.commitUnprotect (s : State) (f : FrameSt) : State :=
  if !s.ctxReach f.ctx then s.dropFrame f drFault
  else if !rxSuits (s.ctx f.ctx) f then s.dropFrame f drNoSa
  else match f.fresh with
    | some o => s.commitGroup f o
    | none => s.commitRx f

/-- The duplicate decision of a frame that is not transformed. -/
def State.commitPlain (s : State) (f : FrameSt) : State :=
  if s.isDuplicate f then s.dropFrame f drDuplicate
  else
    let s := if f.ident.isSome then s.commitBegin else s
    (s.recordFrame f).sendOn f.id f.bytes

/-- The commit of a frame and what follows it up to its egress queue. -/
def State.commitFrame (s : State) (f : FrameSt) : State :=
  if f.action = 1 then
    match parseFrame f.bytes with
    | some p => s.commitTx f p
    | none => s.dropFrame f drParse
  else if f.action = 2 then s.commitUnprotect f
  else s.commitPlain f

/-- The frame to which the arbiter grants the next commit: of the lowest class, the first (R322). -/
def State.nextCommit (s : State) : Option FrameSt :=
  let l := s.ipp.frames.filter (fun f => f.phase == .commit)
  match l.find? (fun f => f.cls == 0) with
  | some f => some f
  | none => l.head?

/-- DATA_PATH_ADVANCE of a frame. -/
def State.dataPath (s : State) (id : Nat) : State :=
  match s.nextCommit with
  | some f => if f.id = id then s.commitFrame f else s
  | none => s

/-! ### The transparent clock (R273) -/

/-- The correction that a frame of port `p` takes at egress by port `q`, in units of 2^-16 ns: residence time with the
compensations, and meanLinkDelay. -/
def State.residence (s : State) (f : FrameSt) : Int :=
  ((s.ipp.ptpNs : Int) - f.ptp) * 65536 +
  ((s.rd (R.LIF_PTP_TXCOMP f.egress)).toInt - (s.rd (R.LIF_PTP_RXCOMP f.port)).toInt +
    (s.rd (R.LIF_PTP_MLD f.port)).toNat) * 256

/-- Add to the correctionField of a PTP message at an offset. -/
def addCorrection (bs : List Byte) (off : Nat) (d : Int) : List Byte :=
  patch bs (off + 8) (natBE 8 ((((beAt bs (off + 8) 8 : Nat) : Int) + d) % (2 ^ 64 : Int)).toNat)

/-- The identity of a Sync and its Follow_Up: source port identity and sequence number. -/
def ptpIdent (bs : List Byte) (off : Nat) : Nat := beAt bs (off + 20) 10 * 65536 + beAt bs (off + 30) 2

/-- Correct a Sync or Follow_Up that passes the transparent clock: the bytes that leave. -/
def State.correct (s : State) (f : FrameSt) : List Byte × State :=
  match parseFrame f.bytes with
  | none => (f.bytes, s)
  | some p =>
    let o := p.off
    let id := ptpIdent f.bytes o
    let mine := s.ipp.twoStep.filter (fun e => e.1 == f.port)
    let t := ptpType p f.bytes
    if t = some 0 ∧ !bit (byteAt f.bytes (o + 6)) 1 then
      (addCorrection f.bytes o (s.residence f), s.inc (R.LIF_CNT f.port 9))
    else if t = some 0 then
      (f.bytes, if 64 ≤ mine.length then s
        else { s with ipp := { s.ipp with twoStep := s.ipp.twoStep ++ [(f.port, (id, s.residence f))] } })
    else if t = some 8 then
      match mine.find? (fun e => e.2.1 == id) with
      | some e =>
        (addCorrection f.bytes o e.2.2,
          { s with ipp := { s.ipp with twoStep := s.ipp.twoStep.erase e } }.inc (R.LIF_CNT f.port 9))
      | none => (f.bytes, s)
    else (f.bytes, s)

/-! ### Transmission (R248, R286) -/

/-- Whether no earlier frame of the same flow and port is still in the device. -/
def State.isFirst (s : State) (f : FrameSt) : Bool :=
  s.ipp.frames.all (fun g => decide (f.id ≤ g.id) || g.port != f.port || g.entry != f.entry)

/-- The SOURCE of a port (R512): CP[n] 0x110 + n, PP[n] 0x118 + n. -/
def portSource (p : Nat) : Nat := 0x110 + p

/-- A frame starts transmission: its last FIC verified, its correction applied, its new FCS sent. On a port in loopback it
is received again. -/
def State.depart (s : State) (f : FrameSt) : State :=
  let (bs, s) := if f.tc then s.correct f else (f.bytes, s)
  let s := s.removeFrame f.id
  if s.on (F.LIF_PCTL_LOOPBACK f.egress) then s.receive f.egress (padFrame bs) ⟨true, 0, 0, none⟩
  else s.transmit f.egress bs

/-- FRAME_EGRESS of a frame, with the outcome of its last check (R54). -/
def State.frameOut (s : State) (id : Nat) (chk : Check) : State :=
  match s.frame? id with
  | none => s
  | some f =>
    if f.phase ≠ .egress ∨ !s.isFirst f then s
    else if !s.portUp f.egress then s.dropFrame f drEgressDown
    else match chk with
      | none => s.depart f
      | some k =>
        let (a, s) := s.freeNat
        let s := s.report (portSource f.egress) k.toNat 0 (if k = 1 ∨ k = 2 then a else 0)
        if k = 1 then s.depart f else s.dropFrame f drFault

/-! ### Time (R275, R292) -/

/-- PTP_LOCKED and PTP_HOLDOVER take values; event source 81 follows a change. -/
def State.setTimeState (s : State) (locked hold : Bool) : State :=
  if s.on F.IPP_STAT_PTP_LOCKED = locked ∧ s.on F.IPP_STAT_PTP_HOLDOVER = hold then s
  else ((s.putB F.IPP_STAT_PTP_LOCKED locked).putB F.IPP_STAT_PTP_HOLDOVER hold).raise 81

/-- LOCK_SET takes a value. -/
def State.setLock (s : State) (b : Bool) : State :=
  let was := s.on F.IPP_PTP_CTL_LOCK_SET
  let s := s.putB F.IPP_PTP_CTL_LOCK_SET b
  if b = was then s
  else if b then { s with ipp := { s.ipp with lockLost := none } }.setTimeState true false
  else { s with ipp := { s.ipp with lockLost := some s.time } }.setTimeState false (s.get F.IPP_FRESH_HOLDOVER_S != 0)

/-- HOLDOVER_S seconds after the loss of lock. -/
def State.holdoverEnd (s : State) : State :=
  match s.ipp.lockLost with
  | some t =>
    if s.on F.IPP_STAT_PTP_HOLDOVER ∧ t + s.get F.IPP_FRESH_HOLDOVER_S * 1000000000 ≤ s.time then s.setTimeState false false
    else s
  | none => s

/-- SNAP: the time base is captured. -/
def State.ptpCapture (s : State) : State :=
  let sec := s.ipp.ptpNs / 1000000000
  ((s.put F.IPP_PTP_SEC_HI_SECONDS (sec / 2 ^ 32)).wr R.IPP_PTP_SEC_LO (BitVec.ofNat 32 sec)).put F.IPP_PTP_NS_NS
    (s.ipp.ptpNs % 1000000000)

/-- STEP: IPP_PTP_STEP is applied to the time base. -/
def State.ptpApply (s : State) : State :=
  { s with ipp := { s.ipp with ptpNs := ((s.ipp.ptpNs : Int) + (s.rd R.IPP_PTP_STEP).toInt).toNat } }

/-- A write of IPP_PTP_CTL (R275, R292): only Cupola firmware may change LOCK_SET. -/
def State.ptpCtlWrite (s : State) (r : Req) (v : Word) : State :=
  let n := v.toNat
  if r ≠ .cupola ∧ bit n 2 ≠ s.on F.IPP_PTP_CTL_LOCK_SET then s.denied r R.IPP_PTP_CTL true
  else
    let s := if bit n 0 then s.ptpCapture else s
    let s := if bit n 1 then s.ptpApply else s
    s.setLock (bit n 2)

/-- A write of IPP_PTP_ADJ, limited to ±500 ppm in units of 2^-16 ppb, or of IPP_PTP_STEP: Cupola firmware only. -/
def State.ptpAdjWrite (s : State) (r : Req) (v : Word) : State :=
  let top : Int := 500000 * 65536
  if r ≠ .cupola then s.denied r R.IPP_PTP_ADJ true
  else s.wr R.IPP_PTP_ADJ (BitVec.ofInt 32 (max (-top) (min top v.toInt)))

def State.ptpStepWrite (s : State) (r : Req) (v : Word) : State :=
  if r ≠ .cupola then s.denied r R.IPP_PTP_STEP true else s.wr R.IPP_PTP_STEP v

/-- A write of IPP_FRESH (R292): a field out of range keeps its value. -/
def State.freshWrite (s : State) (v : Word) : State :=
  let n := v.toNat
  let v := if 1 ≤ bits n 0 16 ∧ bits n 0 16 ≤ 60000 then v else fieldSet 0 16 v (s.get F.IPP_FRESH_T_MS)
  let v := if bits n 16 16 ≤ 3600 then v else fieldSet 16 16 v (s.get F.IPP_FRESH_HOLDOVER_S)
  s.wrGeneric R.IPP_FRESH v

/-- A write of IPP_RG[g]: a change of MEMBERS, MODE or EN forgets the group's records. -/
def State.rgWrite (s : State) (g : Nat) (v : Word) : State :=
  let old := s.rd (R.IPP_RG g)
  let s := s.wrGeneric (R.IPP_RG g) v
  if (old ^^^ s.rd (R.IPP_RG g)) &&& 0x6FF = 0 then s else s.putRecords g []

/-- A read of IPP_SAEVT takes the oldest event. -/
def State.saevtTake (s : State) : State :=
  match s.ipp.saevt with
  | [] => { s with busOut := 0 }
  | e :: l => { s with busOut := e.setWidth 64, ipp := { s.ipp with saevt := l } }.level 80 (!l.isEmpty)

/-! ### Aging and forgetting -/

/-- The aging job finds an entry of the CTS table idle (R255). -/
def State.ageFlow (s : State) (i : Nat) : State :=
  let e := s.flowAt i
  let idle := (s.time / 1000000 + 2 ^ 32 - feLast e) % 2 ^ 32
  if e.isEmpty ∨ feIdle e = 0 ∨ idle ≤ feIdle e ∨ !s.ctsOpen then s
  else (s.dropFlow (.tab i)).pushSaevt (feCtx e) 3

/-- A duplicate record is forgotten (R271). -/
def State.forget (s : State) (g k : Nat) : State :=
  match (s.recordsOf g)[k]? with
  | some r => if r.2 + s.forgetNs g ≤ s.time then s.putRecords g ((s.recordsOf g).eraseIdx k) else s
  | none => s

/-! ### The commands -/

def execFrameIngress (p : Fin 16) (bytes : List Byte) (rx : RxInfo) (s : State) : Out := .next (s.ingress p bytes rx)

def execDataPathAdvance (f : Nat) (s : State) : Out := .next (s.dataPath f)

def execFrameEgress (f : Nat) (chk : Check) (s : State) : Out := .next (s.frameOut f chk)

def execPtpHoldTimeout (f : Nat) (s : State) : Out :=
  .next (match s.frame? f with
    | some x => if x.phase = .held ∧ x.time + 50000000 ≤ s.time then s.dropUnlocked x else s
    | none => s)

def execTimeAvailable (s : State) : Out := .next s.releaseHeld

def execFlowAging (k : Nat) (s : State) : Out := .next (s.ageFlow k)

def execRecordForget (g : Fin 8) (k : Nat) (s : State) : Out := .next (s.forget g k)

def execRgWrite (r : Req) (g : Fin 8) (v : Word) (s : State) : Out := .next (s.gateW r (R.IPP_RG g) (·.rgWrite g v))

def execSaevtRead (r : Req) (s : State) : Out := .next (s.gateR r R.IPP_SAEVT State.saevtTake)

def execPtpSnap (r : Req) (v : Word) (s : State) : Out := .next (s.gateW r R.IPP_PTP_CTL (·.ptpCtlWrite r (v ||| 1)))

def execPtpStep (r : Req) (v : Word) (s : State) : Out := .next (s.gateW r R.IPP_PTP_CTL (·.ptpCtlWrite r (v ||| 2)))

def execLockSet (r : Req) (set : Bool) (s : State) : Out :=
  .next (s.gateW r R.IPP_PTP_CTL (·.ptpCtlWrite r (if set then 4 else 0)))

def execHoldoverExpiry (s : State) : Out := .next s.holdoverEnd

def execSvcFrameTx (p : Fin 16) (bytes : List Byte) (s : State) : Out := .next (s.svcSend p bytes)

end Sys2Proof.Machine
end

