-- ==== Sys2Proof/Machine/Cpm.lean ====
section
/-! DEFINITION. CPM (15): clock sources and switches (R547 to R552), the Pace governor (R555 to R559), temperature (R560)
and Boost (R561 to R563). -/

namespace Sys2Proof.Machine

/-- CPM's SOURCE (R512). -/
abbrev srcCpm : Nat := 0x101

/-- Whether CPM is out of reset and THERMTRIP_N is not asserted (R560). -/
def State.cpmUp (s : State) : Bool := s.power.pwrOk && !s.power.sysHeld && !s.cpm.tripped

/-! ### Clock sources -/

/-- Whether a clock source is READY (R547), by its bit of CKG_SRC_STAT; IROSC always is (R568). -/
def State.clockReady (s : State) (c : Nat) : Bool := c == 5 || s.cpm.ready.contains c

/-- The external sources that the device uses: PCIE_REFCLK only with HOST_EN (R539). -/
def State.usedClocks (s : State) : List Nat := if s.on F.GLB_STRAP_HOST_EN then [0, 1, 2, 3, 4] else [0, 1, 2, 4]

/-- Whether some used source has failed. -/
def State.clockLive (s : State) : State := s.setLive srcCpm 0x11 (!s.usedClocks.all s.clockReady)

/-- What the failure of a source does besides clearing READY (R549). -/
def State.clockLost (s : State) (c : Nat) : State :=
  match c with
  | 0 => { s.set F.CKG_SEL_MGMT_SRC with cpm := { s.cpm with svcHold := true } }
  | 1 =>
    let s := (List.range 8).foldl (fun s p => s.setLink p false) s
    let s := if s.on F.CKG_SEL_PTP_AUTO && s.clockReady 2 then s.set F.CKG_SEL_PTP_SRC else s
    s.setLock false
  | 2 => (List.range 8).foldl (fun s p => s.setLink (8 + p) false) s
  | 3 => if s.power.hostUp then (s.resetHost.disconnect 0x070).linkDown else s
  | 4 => s.clr F.CTS_STAT_READY
  | _ => s

/-- A clock failure (R548, R549). -/
def State.clockFailure (s : State) (c : Nat) : State :=
  if !s.cpmUp || c == 5 || !s.clockReady c then s
  else
    let s := { s with cpm := { s.cpm with ready := setDel c s.cpm.ready } }
    let s := (s.put ⟨R.CKG_STAT, 8 + c, 1⟩ 1).inc (R.PWR_CNT 4)
    (((s.clockLost c).report srcCpm 0x11 0 0).clockLive).raise 220

/-- A source becomes READY again (R548). Memory is reachable again when HBM_REFCLK does and no stack has failed. -/
def State.clockBack (s : State) (c : Nat) : State :=
  if !s.cpmUp || s.clockReady c then s
  else
    let s := { s with cpm := { s.cpm with ready := setIns c s.cpm.ready } }
    let s := if c = 4 ∧ s.mpe.key.isSome ∧ s.get F.CTS_STAT_STACK_FAULT = 0 then s.set F.CTS_STAT_READY else s
    s.clockLive

/-- A loss of HBM_REFCLK of more than 10 ms: the stacks fail, and Cupola firmware applies a system reset (R549). -/
def State.hbmLost (s : State) : State :=
  if !s.cpmUp || s.clockReady 4 then s
  else
    let s := s.put F.CTS_STAT_STACK_FAULT 15
    if s.power.cupUp then s.systemReset 2 else s

/-- A write of CKG_SEL (R550, R569): a field that selects a source that is not READY keeps its value. -/
def State.ckgSelWrite (s : State) (v : Word) : State :=
  let n := v.toNat
  let src := fun (lo : Nat) => match lo, bit n lo with
    | 0, false => 0
    | 0, true => 5
    | _, false => 1
    | _, true => 2
  let ok := fun lo => s.clockReady (src lo)
  let take := fun (s : State) (lo : Nat) => if ok lo then s.put ⟨R.CKG_SEL, lo, 1⟩ (bits n lo 1) else s
  let old := bits (s.rd R.CKG_SEL).toNat 0 3
  let s := (take (take (take s 0) 1) 2).putB F.CKG_SEL_PTP_AUTO (bit n 3)
  let s := if [0, 1, 2].all ok then s else s.set F.CKG_STAT_SEL_REJECT
  let s := if !bit n 0 && ok 0 then { s with cpm := { s.cpm with svcHold := false } } else s
  if bits (s.rd R.CKG_SEL).toNat 0 3 = old then s else s.raise 220

/-- A write of CKG_CBUS (R568): a MUL out of range keeps its value. -/
def State.ckgCbusWrite (s : State) (v : Word) : State :=
  let m := bits v.toNat 0 6
  s.wrGeneric R.CKG_CBUS (if 8 ≤ m ∧ m ≤ 32 then v else fieldSet 0 6 v (s.get F.CKG_CBUS_MUL))

/-! ### Registers with limits -/

/-- A write of PWR_CFG: BOOST_MIN_S takes 1 to 120. -/
def State.pwrCfgWrite (s : State) (v : Word) : State :=
  let m := bits v.toNat 8 7
  s.wrGeneric R.PWR_CFG (if 1 ≤ m ∧ m ≤ 120 then v else fieldSet 8 7 v (s.get F.PWR_CFG_BOOST_MIN_S))

/-- A write of PWR_PACE_TGT: 256 to 384. -/
def State.paceTgtWrite (s : State) (v : Word) : State :=
  let m := bits v.toNat 0 10
  if 256 ≤ m ∧ m ≤ 384 then s.wrGeneric R.PWR_PACE_TGT v else s

/-- A write of PWR_THERM: each threshold within its range. -/
def State.thermWrite (s : State) (v : Word) : State :=
  let f := fun (v : Word) (lo least top old : Nat) =>
    if least ≤ bits v.toNat lo 8 ∧ bits v.toNat lo 8 ≤ top then v else fieldSet lo 8 v old
  let v := f v 0 90 103 (s.get F.PWR_THERM_TJ_BOOST)
  let v := f v 8 90 105 (s.get F.PWR_THERM_TJ_LIMIT)
  s.wrGeneric R.PWR_THERM (f v 16 100 110 (s.get F.PWR_THERM_TJ_CRIT))

/-! ### Pace governor -/

/-- Whether a Vigil transition is in progress or the device is in Vigil. -/
def State.vigilAny (s : State) : Bool := s.on F.PWR_STAT_VIGIL || s.on F.PWR_STAT_VIGIL_TRANS

/-- The governor starts again (R556): 0.80 V until it has samples. -/
def State.restartGovernor (s : State) : State :=
  let s := { s with cpm := { s.cpm with vcore := 800, govMv := 800, paceValid := false } }
  (s.clr F.PWR_STAT_GOV_RUN).clr F.PWR_STAT_PACE_LOW

/-- 10 ms of Pace samples exist (R556). -/
def State.paceReady (s : State) (idx mon : Nat) : State :=
  if !s.power.coreUp || !s.cpmUp || s.cpm.paceValid || s.inVigil then s
  else
    let s := { s with cpm := { s.cpm with paceValid := true, pace := idx, paceMon := mon } }
    s.putB F.PWR_STAT_GOV_RUN (!s.on F.PWR_STAT_AVS_FAIL && !s.boosting)

/-- The target of the governor (R557, R560). -/
def State.paceTarget (s : State) : Nat := if s.on F.PWR_STAT_TLIMIT then 256 else s.get F.PWR_PACE_TGT_TARGET

/-- A step of the governor (R557): at most 5 mV toward the target; how much is open. In Boost and while AVS_FAIL it only
reads the monitors. -/
def State.governorStep (s : State) (idx mon : Nat) : State :=
  if !s.power.coreUp || !s.cpmUp || !s.cpm.paceValid || s.inVigil then s
  else
    let s := { s with cpm := { s.cpm with pace := idx, paceMon := mon } }
    let s := if 256 ≤ idx then s.clr F.PWR_STAT_PACE_LOW else s
    if s.boosting || s.on F.PWR_STAT_AVS_FAIL then s
    else
      let (n, s) := s.freeNat
      let (a, s) := s.freeNat
      let d := n % 6
      let v := s.cpm.govMv
      let v := if idx < s.paceTarget then min 850 (v + d) else if s.paceTarget < idx then max 700 (v - d) else v
      { s with cpm := { s.cpm with vcore := v, govMv := v, avsMv := v, amps := a } }

/-- The lowest index has stayed below 256 for 1 ms at 0.85 V (R558). -/
def State.paceLow (s : State) : State :=
  if !s.cpmUp || !s.cpm.paceValid || s.boosting || s.vigilAny || s.cpm.vcore != 850 || decide (256 ≤ s.cpm.pace) ||
    s.on F.PWR_STAT_PACE_LOW then s
  else ((s.set F.PWR_STAT_PACE_LOW).raise 218).boostExit 5

/-- An AVSBus command has failed three times in a row (R559). -/
def State.avsFail (s : State) : State :=
  if !s.cpmUp || s.on F.PWR_STAT_AVS_FAIL then s
  else
    let s := (s.set F.PWR_STAT_AVS_FAIL).clr F.PWR_STAT_GOV_RUN
    let s := ((s.report srcCpm 0x14 0 0).inc (R.PWR_CNT 6)).raise 221
    s.boostExit 5

/-- 1,000 good commands in a row (R559). -/
def State.avsRecover (s : State) : State :=
  if !s.cpmUp || !s.on F.PWR_STAT_AVS_FAIL then s
  else
    let s := s.clr F.PWR_STAT_AVS_FAIL
    s.putB F.PWR_STAT_GOV_RUN (s.cpm.paceValid && !s.boosting && !s.inVigil)

/-! ### Temperature (R560) -/

/-- The lower limit of the grade in °C (R3): I −40, C 0. -/
def gradeLow : Int := if Config.gradeCode % 16 = 1 then -40 else 0

/-- TJ_PRED, or TJ_MAX while no prediction exists. -/
def State.tjEffective (s : State) : Int := if s.cpm.predValid then s.cpm.tjPred.toInt else s.cpm.tjMax.toInt

/-- A Boost at TJ_BOOST or more ends (R560). -/
def State.boostThermal (s : State) : State :=
  if s.boosting && decide ((s.get F.PWR_THERM_TJ_BOOST : Int) ≤ s.tjEffective) then s.boostExit 3 else s

/-- TLIMIT follows TJ_MAX, with 5 °C of hysteresis. -/
def State.tlimit (s : State) : State :=
  let t := s.cpm.tjMax.toInt
  let lim : Int := s.get F.PWR_THERM_TJ_LIMIT
  if !s.on F.PWR_STAT_TLIMIT && decide (lim ≤ t) then (s.set F.PWR_STAT_TLIMIT).raise 217
  else if s.on F.PWR_STAT_TLIMIT && decide (t < lim - 5) then (s.clr F.PWR_STAT_TLIMIT).raise 217
  else s

/-- Which limit of KIND 0x13 the junction is beyond, with 3 °C of hysteresis. -/
def critOf (old : Nat) (hi lo t : Int) : Nat :=
  if hi ≤ t ∨ (old = 1 ∧ hi - 3 < t) then 1 else if t < lo ∨ (old = 2 ∧ t < lo + 3) then 2 else 0

/-- KIND 0x13, once per crossing. -/
def State.tjCrit (s : State) : State :=
  let c := critOf s.cpm.crit (s.get F.PWR_THERM_TJ_CRIT) gradeLow s.cpm.tjMax.toInt
  let s' := ({ s with cpm := { s.cpm with crit := c } }).setLive srcCpm 0x13 (c != 0)
  if c ≠ 0 ∧ c ≠ s.cpm.crit then s'.report srcCpm 0x13 0 0 else s'

/-- THERMTRIP_N: every block is held in reset until PWR_OK falls. -/
def State.thermTrip (s : State) : State :=
  let s := ((s.endUpdate true).resetRegs sysKinds (fun _ => true)).clearCore
  { s with cpm := { s.cpm with tripped := true } }

/-- A reading of the junction sensors. -/
def State.tempSample (s : State) (tj pred : BitVec 8) (pv : Bool) : State :=
  if !s.cpmUp then s
  else
    let s := { s with cpm := { s.cpm with tjMax := tj, tjPred := pred, predValid := pv } }
    let s := s.boostThermal.tlimit.tjCrit
    if 125 ≤ tj.toInt then s.thermTrip else s

/-! ### Boost (R561) -/

/-- Whether a Boost request is accepted. -/
def State.boostOk (s : State) : Bool :=
  s.on F.PWR_CFG_BOOST_EN && s.cpm.paceValid && s.cpm.predValid && !s.on F.PWR_STAT_TLIMIT && !s.on F.PWR_STAT_AVS_FAIL &&
  !s.on F.PWR_STAT_PACE_LOW && !s.vigilAny && decide (s.get F.PWR_CFG_BOOST_MIN_S * 1000 ≤ s.boostCredit)

/-- A write of 1 to BOOST_REQ. A request during Boost changes nothing. -/
def State.boostReq (s : State) : State :=
  if s.boosting then s
  else if !s.boostOk then (s.set F.PWR_STAT_BOOST_REJECT).inc (R.PWR_CNT 2)
  else
    let s := { s with cpm := { s.cpm with boostFrom := some s.time, vcore := 900 } }
    (((s.set F.PWR_STAT_RAMP).clr F.PWR_STAT_GOV_RUN).inc (R.PWR_CNT 0)).boostThermal

/-- VDD_CORE has reached 0.90 V. -/
def State.boostUp (s : State) : State :=
  if s.boosting && s.on F.PWR_STAT_RAMP then ((s.set F.PWR_STAT_BOOST).clr F.PWR_STAT_RAMP).raise 216 else s

/-- BOOST_CREDIT has reached 0 (R563). -/
def State.boostSpent (s : State) : State := if s.boosting && s.boostCredit == 0 then s.boostExit 2 else s

/-! ### The commands -/

def execClockFailure (c : Fin 6) (s : State) : Out := .next (s.clockFailure c)

def execHbmRefclkLongLoss (s : State) : Out := .next s.hbmLost

def execCkgSelWrite (r : Req) (v : Word) (s : State) : Out := .next (s.gateW r R.CKG_SEL (·.ckgSelWrite v))

def execPwrCfgLock (r : Req) (v : Word) (s : State) : Out :=
  .next (s.gateW r R.PWR_CFG (·.pwrCfgWrite (v ||| 0x80000000)))

def execPaceValid (idx : BitVec 10) (mon : Fin 32) (s : State) : Out := .next (s.paceReady idx.toNat mon)

def execGovernorStep (idx : BitVec 10) (mon : Fin 32) (s : State) : Out := .next (s.governorStep idx.toNat mon)

def execPaceLow (s : State) : Out := .next s.paceLow

def execAvsFail (s : State) : Out := .next s.avsFail

def execAvsRecover (s : State) : Out := .next s.avsRecover

def execTempSample (tj pred : BitVec 8) (pv : Bool) (s : State) : Out := .next (s.tempSample tj pred pv)

def execBoostRampDone (s : State) : Out := .next s.boostUp

def execBoostCreditExhausted (s : State) : Out := .next s.boostSpent

/-- A rail leaves its range while PWR_OK is high (R540). -/
def execSupplyOutOfRange (_rail : Fin 8) (s : State) : Out :=
  .next (if s.cpmUp then (s.setLive srcCpm 0x14 true).report srcCpm 0x14 0 0 else s)

end Sys2Proof.Machine
end

