-- ==== Sys2Proof/Machine/Lcs.lean ====
section
/-! DEFINITION. LCS (13): the OTP words and their decoding (R491 to R495), transitions (R496 to R499), the challenge and debug
tokens (R501 to R503), sessions (R504 to R506). -/

namespace Sys2Proof.Machine

/-- LCS's SOURCE (R512). -/
abbrev srcLcs : Nat := 0x102

/-! ### OTP words (R491, R492) -/

/-- The INTENT pattern of LCS_W[w]; the DONE pattern is its complement. -/
def lcsIntent (w : Nat) : Nat := [0, 0x6B2D, 0x5A63, 0x3C96, 0x7E18, 0x0FF0].getD w 0

def lcsDone (w : Nat) : Nat := 0xFFFF - lcsIntent w

/-- What a half holds (R492). -/
inductive Half where
  | blank | full | part | bad
  deriving DecidableEq, Repr

/-- The class of a half against its pattern. -/
def halfOf (p v : Nat) : Half :=
  if v = 0 then .blank else if v = p then .full else if v &&& p = v then .part else .bad

/-- The two halves of a word as read. -/
def intentOf (w v : Nat) : Half := halfOf (lcsIntent w) (v / 65536 % 65536)

def doneOf (w v : Nat) : Half := halfOf (lcsDone w) (v % 65536)

/-- INTENT counts as set when its programming was interrupted (R492). -/
def intentSet (w v : Nat) : Bool := intentOf w v == .full || intentOf w v == .part

def doneSet (w v : Nat) : Bool := doneOf w v == .full

def wordBad (w v : Nat) : Bool := intentOf w v == .bad || doneOf w v == .bad

/-- A word whose INTENT is set and DONE is not: a transition in progress (R494). -/
def inProgress (w v : Nat) : Bool := intentSet w v && !doneSet w v

/-- The result of a decode: the state, INVALID_WORD, and whether a transition is in progress. -/
structure LcsRead where
  state : Nat
  bad : Nat
  rolling : Bool
  deriving DecidableEq, Repr

/-- Whether a word that is not blank stands without the words before it (R494 rule 4). -/
def outOfOrder (ws : Nat → Nat) (w : Nat) : Bool :=
  ws w != 0 && (match w with
    | 1 => false
    | 2 => ws 1 == 0
    | 3 | 4 => ws 1 == 0 || ws 2 == 0
    | _ => true)

/-- The decode of R494: the first rule that applies decides. -/
def lcsDecode (ws : Nat → Nat) : LcsRead :=
  let all := [1, 2, 3, 4, 5]
  let top := (all.filter (fun w => ws w != 0)).getLastD 0
  let open_ := all.filter (fun w => inProgress w (ws w))
  if intentSet 5 (ws 5) && !wordBad 5 (ws 5) then ⟨5, 0, inProgress 5 (ws 5)⟩
  else match all.find? (fun w => wordBad w (ws w)) with
    | some w => ⟨15, w, false⟩
    | none => match all.find? (fun w => doneSet w (ws w) && intentOf w (ws w) == .blank) with
      | some w => ⟨15, w, false⟩
      | none => match all.find? (outOfOrder ws) with
        | some w => ⟨15, w, false⟩
        | none => match open_ with
          | [] => ⟨top, 0, false⟩
          | w :: l => if !l.isEmpty || w != top then ⟨15, w, false⟩ else ⟨top, 0, true⟩

/-- The OR of both copies of a word. -/
def State.lcsWord (s : State) (w : Nat) : Nat := sget (fun _ => 0) s.otp.lcsA w ||| sget (fun _ => 0) s.otp.lcsB w

/-- Show a word in LCS_W_RAW. -/
def State.showWord (s : State) (w v : Nat) : State := s.wr (R.LCS_W_RAW (w - 1)) (BitVec.ofNat 32 v)

/-- Program bits of a word, copy A and then copy B (R492). -/
def State.burnWord (s : State) (w v : Nat) : State :=
  let f := fun l => sput (fun _ => 0) l w (sget (fun _ => 0) l w ||| v)
  let s := { s with otp := { s.otp with lcsA := f s.otp.lcsA, lcsB := f s.otp.lcsB } }
  s.showWord w (s.lcsWord w)

/-- A read of OTP whose reads of a copy differ (R493): word 1 to 5 (0: none), and the bits that some reads show. -/
def State.lcsNoise (s : State) (u : OtpNoise) (w : Nat) : Nat :=
  s.lcsWord w ||| if u.word.toNat = w then u.bits.toNat else 0

/-- LCS reads OTP and decodes the state (R493 to R495, R498). -/
def State.lcsRead (s : State) (u : OtpNoise) : State :=
  let ws := s.lcsNoise u
  let s := [1, 2, 3, 4, 5].foldl (fun s w => s.showWord w (ws w)) s
  let s := if 1 ≤ u.word.toNat ∧ u.word.toNat ≤ 5 ∧ ws u.word.toNat ≠ s.lcsWord u.word.toNat then
      ((s.report srcLcs 0x0C 0 0).set F.LCS_STAT_OTP_UNSTABLE).inc (R.LCS_CNT 4) else s
  let d := lcsDecode ws
  let s := (s.put F.LCS_STATE_STATE d.state).put F.LCS_STAT_INVALID_WORD d.bad
  let s := ((s.set F.LCS_STAT_READY).putB F.LCS_STAT_IN_TRANSITION d.rolling).putB F.LCS_STAT_ROLL_FWD d.rolling
  let s := if d.rolling then s.put F.LCS_STAT_TARGET d.state else s
  let s := s.clr F.LCS_STAT_WIPE_WAIT
  let s := if d.state = 15 then s.almanac 3 (ws 1 + ws 2 * 2 ^ 32) (ws 3 + ws 4 * 2 ^ 32 + ws 5 * 2 ^ 64) else s
  if d.rolling ∨ d.state = 15 then s.raise 210 else s

/-- The owner digest as OTP holds it, shown in LCS_OWN_DIG (R501, R510). -/
def State.showOwner (s : State) : State :=
  match s.otp.ownerDigest with
  | none => s
  | some d => (List.range 12).foldl (fun s i => s.wr (R.LCS_OWN_DIG i) (BitVec.ofNat 32 (leAt d (4 * i) 4)))
      (s.set F.LCS_STAT_OWNER_SET)

/-- The session that opens by itself in BLANK (R500, R506). -/
def State.blankSession (s : State) : State :=
  if s.get F.LCS_STATE_STATE = 0 then (s.wr R.LCS_DBG_STAT 0x3F05).raise 211 else s

/-! ### Transitions (R496 to R499) -/

/-- The paths of R496. -/
def pathOk (st t : Nat) : Bool :=
  (st == 0 && t == 1) || (st == 1 && t == 2) || (st == 2 && (t == 3 || t == 4)) || (st == 3 && t == 4) || t == 5

/-- The cause of a refusal, 0 for none: a reserved code, a transition in progress, the present state, the path. -/
def State.transitionCause (s : State) (t : Nat) : Nat :=
  let st := s.get F.LCS_STATE_STATE
  if 6 ≤ t then 4 else if s.on F.LCS_STAT_IN_TRANSITION then 2 else if t = st then 3 else if pathOk st t then 0 else 1

/-- No challenge is outstanding any more (R503). -/
def State.dropChallenge (s : State) : State :=
  (List.range 8).foldl (fun s i => s.wr (R.LCS_CHAL i) 0) (s.clr F.LCS_STAT_CHAL_VALID)

/-- Every session ends at the first bit of a transition, a BLANK session too (R506). -/
def State.forceEnd (s : State) : State := (s.clr F.LCS_DBG_STAT_BLANK_OPEN).endSession

/-- What the new state forbids is withdrawn (R497 step 2; R166, R460, R469). -/
def State.restrict (s : State) (t : Nat) : State :=
  let test := t == 1 || t == 4
  let s := if test then s else (s.clr F.AEA_LT_CFG_TEST_VEC_EN).rawEnd
  (List.range 14).foldl (fun s n => s.clr (F.BLF_SRC_CFG_POLICY n)) s

/-- SCRAP releases neither JQM nor IPP nor SVC (R490). -/
def State.holdService (s : State) : State :=
  let s := ((s.resetQueues (fun _ => true) false).resetIpp).resetSvc
  { s with power := { s.power with jqmUp := false, ippUp := false } }

/-- ANALYSIS: the rotation of step 5, with the wait of step 6. -/
def State.wipe (s : State) : State := s.rotate.set F.LCS_STAT_WIPE_WAIT

/-- A write of LCS_TRANSITION. -/
def State.transitionWrite (s : State) (v : Word) : State :=
  let t := bits v.toNat 0 4
  let c := s.transitionCause t
  if c ≠ 0 then
    (((s.set F.LCS_STAT_REJECT).put F.LCS_STAT_REJECT_CAUSE c).inc (R.LCS_CNT 1)).raise 209
  else
    let s := ((s.set F.LCS_STAT_IN_TRANSITION).clr F.LCS_STAT_ROLL_FWD).put F.LCS_STAT_TARGET t
    let s := (s.burnWord t (lcsIntent t * 65536)).put F.LCS_STATE_STATE t
    let s := ((s.forceEnd).dropChallenge.restrict t).eraseAllSlots
    if t = 4 then s.wipe else if t = 5 then s.holdService else s

/-- 256 bits of one seed from the reservoir. -/
def State.takeSeed (s : State) : List Byte × State :=
  match s.rng.reservoir with
  | x :: l => (fit 32 x, { s with rng := { s.rng with reservoir := l } })
  | [] => s.freeBytes 32

/-- Step 4: the device secret is programmed, once RNG is RUNNING. -/
def State.dsProgram (s : State) : State :=
  if s.on F.LCS_STAT_IN_TRANSITION && s.get F.LCS_STAT_TARGET == 1 && s.otp.ds.isNone && s.rngState == rngRunning then
    let (d, s) := s.takeSeed
    ({ s with otp := { s.otp with ds := some d } }).set F.KEEP_STAT_DS_OK
  else s

/-- WIPE_DONE: the two partitions stand erased (step 6). -/
def State.wipeDone (s : State) : State :=
  if s.on F.LCS_STAT_WIPE_WAIT then
    ((s.flashErase 0x2810000 0x400000).flashErase 0x3C10000 (2 ^ 32)).clr F.LCS_STAT_WIPE_WAIT
  else s

/-- Whether steps 3 to 6 have ended (R497 step 7). -/
def State.transitionReady (s : State) : Bool :=
  s.on F.LCS_STAT_IN_TRANSITION &&
  (s.get F.LCS_STAT_TARGET != 1 || s.otp.ds.isSome) &&
  (s.get F.LCS_STAT_TARGET != 4 || (!s.on F.LCS_STAT_WIPE_WAIT && !s.on F.CTS_STAT_FILLING && s.mpe.fillDone))

/-- Step 7: DONE is programmed and the transition ends. -/
def State.transitionEnd (s : State) : State :=
  let t := s.get F.LCS_STAT_TARGET
  let s := (s.burnWord t (lcsDone t)).clr F.LCS_STAT_IN_TRANSITION
  ((s.inc (R.LCS_CNT 0)).raise 208).almanac 3 t 0

/-! ### Challenge and tokens (R501 to R503) -/

/-- CHAL_REQ, or the TAP instruction LCS_CHAL. -/
def State.chalReq (s : State) : State :=
  let s := s.dropChallenge
  if s.rngState ≠ rngRunning then s.set F.LCS_STAT_CHAL_REJECT
  else
    let (c, s) := s.takeSeed
    let s := (List.range 8).foldl (fun s i => s.wr (R.LCS_CHAL i) (BitVec.ofNat 32 (leAt c (4 * i) 4))) s
    ({ s with lcs := { s.lcs with chalAt := s.time } }).set F.LCS_STAT_CHAL_VALID

/-- The outstanding challenge. -/
def State.challenge (s : State) : List Byte :=
  (List.range 8).flatMap (fun i => natLE 4 (s.rd (R.LCS_CHAL i)).toNat)

/-- 600 s after it was drawn, the challenge lapses. -/
def State.chalExpire (s : State) : State :=
  if s.on F.LCS_STAT_CHAL_VALID && decide (s.lcs.chalAt + 600000000000 ≤ s.time) then s.dropChallenge else s

def tokenLen : Nat := 7540

/-- A token is presented; a second one waits for no check. -/
def State.tokenStart (s : State) (t : List Byte) : State :=
  if s.on F.LCS_TOK_RES_BUSY then s
  else ({ s with lcs := { s.lcs with token := some t } }).set F.LCS_TOK_RES_BUSY

/-- TOK_START: the token lies in Cupola's SRAM. -/
def State.tokenFromSram (s : State) : State :=
  let n := (s.rd R.LCS_TOK_LEN).toNat
  s.tokenStart (if n = tokenLen then memRead s.cupMem (s.rd R.LCS_TOK_ADDR).toNat n else [])

/-- The scopes that a state permits an authority (R500). -/
def scopesOf (st auth : Nat) : Nat :=
  if st = 1 ∨ st = 4 then (if auth = 0 then 0x3F else 0)
  else if st = 2 ∨ st = 3 then (if auth = 0 then 0x0F else 0x07)
  else 0

/-- Whether a state accepts an authority. -/
def State.authorityOk (s : State) (st auth : Nat) : Bool :=
  (auth == 0 && within 1 4 st) || (auth == 1 && within 2 3 st && s.otp.ownerDigest.isSome)

/-- Whether AEA has a tile and a classical engine for the check (code 10 of R502). -/
def State.verifierReady (s : State) : Bool :=
  (List.range 32).any (fun e => s.on (F.AEA_CTL_EN e)) && (List.range 8).any (fun e => s.on (F.AEA_CTL_EN (0x28 + e)))

/-- The outcome of R502: the first check that fails, 0 where the token is accepted. -/
def State.tokenCode (s : State) (t : List Byte) : Nat :=
  let st := s.get F.LCS_STATE_STATE
  let auth := byteAt t 25
  let pk := slice t 128 2689
  let scope := leAt t 28 4
  if !s.on F.LCS_STAT_CHAL_VALID then 1
  else if t.length ≠ tokenLen ∨ t.take 4 ≠ [0x44, 0x54, 0x4F, 0x4B] ∨ leAt t 4 2 ≠ 1 ∨ leAt t 6 2 ≠ 128 ∨
    !(allZero (slice t 26 2) && allZero (slice t 36 4) && allZero (slice t 72 56)) then 2
  else if slice t 8 16 ≠ s.otp.devId then 3
  else if byteAt t 24 ≠ st ∨ s.on F.LCS_STAT_IN_TRANSITION then 4
  else if slice t 40 32 ≠ s.challenge then 5
  else if !s.authorityOk st auth then 6
  else if sha384 pk ≠ (if auth = 0 then Config.yelitonDigest else s.otp.ownerDigest.getD []) then 7
  else if scope &&& scopesOf st auth ≠ scope ∨ !within 1 86400 (leAt t 32 4) then 8
  else if !s.verifierReady then 10
  else if !compositeOk (ascii "YLT-DEBUG") pk (t.take 2817) (slice t 2817 4723) then 9
  else 0

/-- The check ends. -/
def State.tokenDone (s : State) : State :=
  match s.lcs.token with
  | none => s
  | some t =>
    let c := s.tokenCode t
    let s := ({ s with lcs := { s.lcs with token := none } }).dropChallenge
    let s := s.wr R.LCS_TOK_RES (BitVec.ofNat 32 c)
    if c ≠ 0 then (s.inc (R.LCS_CNT 3)).raise 212
    else
      let s := s.inc (R.LCS_CNT 2)
      let g : Grant := ⟨byteAt t 25, leAt t 28 4, leAt t 32 4⟩
      let st := s.get F.LCS_STATE_STATE
      if (st = 2 ∨ st = 3) ∧ g.scopes &&& 0x0E ≠ 0 then
        ({ s with lcs := { s.lcs with opening := some g } }).reactErase
      else s.openSession g

/-- OWNER_PGM (R501). -/
def State.ownerPgm (s : State) : State :=
  if s.get F.LCS_STATE_STATE = 2 ∧ s.otp.ownerDigest.isNone then
    let d := (List.range 12).flatMap (fun i => natLE 4 (s.rd (R.LCS_OWN_DIG i)).toNat)
    ({ s with otp := { s.otp with ownerDigest := some d } }).set F.LCS_STAT_OWNER_SET
  else (s.set F.LCS_STAT_REJECT).put F.LCS_STAT_REJECT_CAUSE 1

/-- A write of LCS_OWN_DIG; read only once OWNER_SET. -/
def State.ownDigWrite (s : State) (o : Nat) (v : Word) : State := if s.on F.LCS_STAT_OWNER_SET then s else s.wr o v

/-- A write of LCS_CTL; the host PF may write END_DEBUG only (R510). -/
def State.lcsCtlWrite (s : State) (r : Req) (v : Word) : State :=
  let n := v.toNat
  if r ≠ .cupola ∧ v ≠ 8 then s.denied r R.LCS_CTL true
  else
    let s := if bit n 0 then s.wipeDone else s
    let s := if bit n 1 then s.chalReq else s
    let s := if bit n 2 then s.tokenFromSram else s
    let s := if bit n 3 then s.endSession else s
    let s := if bit n 4 then s.ownerPgm else s
    if bit n 8 then s.cntClearN (R.LCS_CNT 0) 5 else s

/-! ### The commands -/

def execLcsTransition (r : Req) (v : Word) (s : State) : Out := .next (s.gateW r R.LCS_TRANSITION (·.transitionWrite v))

def execDsProgram (s : State) : Out := .next (if s.alive then s.dsProgram else s)

def execWipeDone (r : Req) (v : Word) (s : State) : Out := .next (s.gateW r R.LCS_CTL (·.lcsCtlWrite r (v ||| 1)))

def execChalReq (r : Req) (v : Word) (s : State) : Out := .next (s.gateW r R.LCS_CTL (·.lcsCtlWrite r (v ||| 2)))

def execChallengeExpiry (s : State) : Out := .next s.chalExpire

def execTokStart (r : Req) (v : Word) (s : State) : Out := .next (s.gateW r R.LCS_CTL (·.lcsCtlWrite r (v ||| 4)))

def execTokenCheckDone (s : State) : Out := .next s.tokenDone

/-- LCS_DBG_REMAIN reaches 0 (R506). -/
def execSessionExpiry (s : State) : Out := .next (if s.lcs.sessionEnd ≤ s.time then s.endSession else s)

def execEndDebug (r : Req) (v : Word) (s : State) : Out := .next (s.gateW r R.LCS_CTL (·.lcsCtlWrite r (v ||| 8)))

def execOwnerPgm (r : Req) (v : Word) (s : State) : Out := .next (s.gateW r R.LCS_CTL (·.lcsCtlWrite r (v ||| 16)))

def execLcsCntClr (r : Req) (v : Word) (s : State) : Out := .next (s.gateW r R.LCS_CTL (·.lcsCtlWrite r (v ||| 0x100)))

end Sys2Proof.Machine
end

