-- ==== Sys2Proof/Machine/Vigil.lean ====
section
/-! DEFINITION. Vigil (R564 to R567): entry, the start of an exit, alarms in Vigil (R480 to R482), and the commands of
PWR_CTL (R568). How an exit completes stands in Svc.lean, since it starts SVC again. -/

namespace Sys2Proof.Machine

/-! ### Ports -/

/-- The Vigil port pair (R277). -/
def State.vigilPair (s : State) : List Nat := [s.get F.GLB_STRAP_VIGIL_EFF, 8 + s.get F.GLB_STRAP_VIGIL_EFF]

/-- Take a port down. -/
def State.portDown (s : State) (p : Nat) : State := (s.setLink p false).clr (F.LIF_PCTL_EN p)

/-- Step 4 of an entry: the Vigil pair retrains to 10GBASE-R, every other port goes down. -/
def State.vigilPorts (s : State) : State :=
  (List.range 16).foldl (fun s p =>
    if s.vigilPair.contains p then ((s.setLink p false).set (F.LIF_PSTAT_VIGIL p)).set (F.LIF_PCTL_EN p) else s.portDown p) s

/-! ### Entry (R565) -/

/-- The steps of an entry that act at once: Boost ends, SVC stops, the queues are flushed, the ports change. -/
def State.vigilEnter (s : State) : State :=
  let s := ((s.boostExit 4).set F.PWR_STAT_VIGIL_TRANS).resetSvc
  let qs := (s.queuesIn (fun g => decide (g < 31))).filter (fun q => s.on (F.Q_CTL_EN q))
  let s := qs.foldl (fun s q => s.queueFlush q) s
  (s.dropFrames drFlushed (fun _ => true)).vigilPorts

/-- A Vigil request. In Vigil or during an entry it changes nothing; during an exit it waits (R567). -/
def State.vigilReq (s : State) : State :=
  if s.on F.PWR_STAT_VIGIL then
    if s.on F.PWR_STAT_VIGIL_TRANS then { s with cpm := { s.cpm with entryWaits := true } } else s
  else if s.on F.PWR_STAT_VIGIL_TRANS then s
  else if decide (s.get F.CUP_BOOT_STAT_MILESTONE < 7) || s.on F.LCS_STAT_IN_TRANSITION then s.set F.PWR_STAT_VIGIL_REJECT
  else s.vigilEnter

/-- Everything that the gated core loses: records not written, jobs, the state of AEA, DKE and RNG. -/
def State.gateCore (s : State) : State :=
  let s := s.resetQueues (fun _ => true) true
  let s := ((((s.dkeHolderReset 1).resetMsix).resetAea).resetHea).resetDke
  let s := if (s.cup.upd.map (·.holder)) = some 1 then s.endUpdate true else s
  { s.rngStop with power := { s.power with jqmUp := false, hostUp := false, svcUp := false } }

/-- A request to leave Vigil (R566). During an entry it waits (R567). -/
def State.vigilLeave (s : State) : State :=
  if !s.on F.PWR_STAT_VIGIL then
    if s.on F.PWR_STAT_VIGIL_TRANS then { s with cpm := { s.cpm with exitWaits := true } } else s
  else if s.on F.PWR_STAT_VIGIL_TRANS then s
  else (s.set F.PWR_STAT_VIGIL_TRANS).restartGovernor.rngBegin

/-- Step 7 of an entry. -/
def State.vigilDone (s : State) : State :=
  if !s.on F.PWR_STAT_VIGIL_TRANS || s.on F.PWR_STAT_VIGIL then s
  else
    let s := s.gateCore.restartGovernor
    let s := { s with cpm := { s.cpm with vcore := 700, govMv := 700 } }
    let s := (((s.set F.PWR_STAT_VIGIL).clr F.PWR_STAT_VIGIL_TRANS).inc (R.PWR_CNT 3)).raise 219
    if s.cpm.exitWaits then ({ s with cpm := { s.cpm with exitWaits := false } }).vigilLeave else s

/-! ### Alarms in Vigil (R481, R482) -/

/-- Level 4 and above: the memory key, the root, the context cache and the pinned flow section are zeroed. -/
def State.zeroMemoryKey (s : State) : State :=
  let s := s.loseSaves.wipeStore.loseObjects
  let s := { s with mpe := { s.mpe with key := none, root := [] } }
  ((s.set F.CTS_STAT_NO_KEY).clr F.CTS_STAT_READY).clr F.CTS_STAT_FILLING

/-- The Vigil pair forwards no more. -/
def State.stopPair (s : State) : State :=
  s.vigilPair.foldl State.portDown (s.dropFrames drFlushed (fun _ => true))

/-- Store an alarm, at most sixteen. -/
def State.storeAlarm (s : State) (a : StoredAlarm) : State :=
  let l := s.blf.stored
  if l.any (·.source == a.source) then
    { s with blf := { s.blf with
        stored := l.map (fun b => if b.source == a.source then { b with level := max b.level a.level } else b) } }
  else if l.length < 16 then { s with blf := { s.blf with stored := l ++ [a] } }
  else
    let b := l.getLastD a
    { s with blf := { s.blf with stored := l.dropLast ++ [{ b with level := max b.level a.level }], extra := s.blf.extra + 1 } }

/-- The steps that the Vigil domain takes for an alarm of a level. -/
def State.vigilAct (s : State) (a : StoredAlarm) : State :=
  let s := if 4 ≤ a.level then s.zeroMemoryKey else s
  let s := if 5 ≤ a.level then s.eraseAllSlots else s
  let s := if a.level = 6 then s.bbkDestroy else s
  let s := (if 2 ≤ a.level then s.stopPair else s).storeAlarm a
  if 1 ≤ a.level then s.vigilLeave else s

/-- A detector alarms during an entry or in Vigil. -/
def State.vigilAlarm (s : State) (n d : Nat) : State :=
  if !s.vigilBelfry then s
  else s.detAlarm n d (fun s dets w => s.alarmLimit n (fun s =>
    s.vigilAct ⟨n, blfAddr n dets w true false, s.get (F.BLF_SRC_CFG_LEVEL n)⟩))

/-- The stored alarms reach FCR after the exit (step 4 of R481). -/
def State.deliverAlarms (s : State) : State :=
  s.blf.stored.foldl (fun s a => s.alarmOut a.source a.level a.addr) { s with blf := { s.blf with stored := [], extra := 0 } }

/-! ### PWR_CTL (R568) -/

/-- A write of PWR_CTL: its bits act in ascending order. -/
def State.pwrCtlWrite (s : State) (v : Word) : State :=
  let n := v.toNat
  let s := if bit n 0 then s.boostReq else s
  let s := if bit n 1 then s.boostExit 1 else s
  let s := if bit n 2 then s.vigilReq else s
  let s := if bit n 3 then s.vigilLeave else s
  let s := if bit n 8 then s.cntClearN (R.PWR_CNT 0) 7 else s
  if bit n 4 then s.systemReset 2 else s

/-! ### The commands -/

def execSysReset (r : Req) (v : Word) (s : State) : Out := .next (s.gateW r R.PWR_CTL (·.pwrCtlWrite (v ||| 0x10)))

def execPwrCntClr (r : Req) (v : Word) (s : State) : Out := .next (s.gateW r R.PWR_CTL (·.pwrCtlWrite (v ||| 0x100)))

def execBoostReq (r : Req) (v : Word) (s : State) : Out := .next (s.gateW r R.PWR_CTL (·.pwrCtlWrite (v ||| 1)))

def execBoostEnd (r : Req) (v : Word) (s : State) : Out := .next (s.gateW r R.PWR_CTL (·.pwrCtlWrite (v ||| 2)))

def execVigilReq (r : Req) (v : Word) (s : State) : Out := .next (s.gateW r R.PWR_CTL (·.pwrCtlWrite (v ||| 4)))

def execVigilExit (r : Req) (v : Word) (s : State) : Out := .next (s.gateW r R.PWR_CTL (·.pwrCtlWrite (v ||| 8)))

/-- VIGIL_REQ_N low for 1 ms, while the pin is enabled. -/
def execVigilPinRequest (s : State) : Out := .next (if s.cpmUp && s.on F.PWR_CFG_VIGIL_PIN_EN then s.vigilReq else s)

/-- VIGIL_REQ_N high for 10 ms, while the pin is enabled. -/
def execVigilPinExit (s : State) : Out := .next (if s.cpmUp && s.on F.PWR_CFG_VIGIL_PIN_EN then s.vigilLeave else s)

def execVigilEntryDone (s : State) : Out := .next s.vigilDone

def execVigilAlarm (n : Fin 14) (d : Det) (s : State) : Out := .next (s.vigilAlarm n (detNum d))

end Sys2Proof.Machine
end

