-- ==== Sys2Proof/Machine/Mbx.lean ====
section
/-! DEFINITION. The Cupola mailbox (R587 to R592): the two register windows and the SMBus window, their frames, and how a
command is answered. -/

namespace Sys2Proof.Machine

/-! ### Frames (R588, R590) -/

abbrev mbOk : Nat := 0
abbrev mbNotFound : Nat := 1
abbrev mbInProgress : Nat := 2
abbrev mbBadFrame : Nat := 3
abbrev mbUnknown : Nat := 4
abbrev mbDenied : Nat := 5
abbrev mbBusy : Nat := 6
abbrev mbCheckFailed : Nat := 8
abbrev mbOutOfOrder : Nat := 9

/-- The register window of a window; none for the SMBus window, which has no address. -/
def winNo : MbxWin → Option Nat
  | .host => some 0
  | .svc => some 1
  | .smbus => none

/-- BUSY of a window. -/
def State.winBusy (s : State) (w : MbxWin) : Bool :=
  match winNo w with
  | some n => s.on (F.MBX_STAT_BUSY n)
  | none => s.cup.smb.busy

/-- The bytes of `n` registers from offset `o` on. -/
def State.regBytes (s : State) (o : Nat) : Nat → List Byte
  | 0 => []
  | n + 1 => natLE 4 (s.rd o).toNat ++ s.regBytes (o + 4) n

/-- The request frame of a window: header and payload. -/
def State.winReq (s : State) (w : MbxWin) : List Byte :=
  match winNo w with
  | some n =>
    let len := (s.rd (R.MBX_REQ n 2)).toNat
    (s.regBytes (R.MBX_REQ n 0) (4 + (min len 4080 + 3) / 4)).take (16 + min len 4080)
  | none => s.cup.smb.req

/-- SERVICE, COMMAND and LEN of a frame, and its payload. -/
def fService (f : List Byte) : Nat := byteAt f 0
def fCommand (f : List Byte) : Nat := byteAt f 1
def fLen (f : List Byte) : Nat := leAt f 8 4
def fPayload (f : List Byte) : List Byte := f.drop 16

/-- Write bytes into registers from offset `o` on, a word at a time. -/
def State.wrBytes (s : State) (o : Nat) : Nat → List Byte → State
  | 0, _ => s
  | n + 1, bs => (s.wr o (BitVec.ofNat 32 (leAt bs 0 4))).wrBytes (o + 4) n (bs.drop 4)

/-- The interrupt line of SVC's controller that DONE of window 1 drives (R589); it is no EVC source. -/
abbrev irqMailbox : Nat := 256

/-- The response of a window (R588, R589): the frame is written, BUSY clears, DONE is set and signalled. -/
def State.respond (s : State) (w : MbxWin) (status detail : Nat) (payload : List Byte) : State :=
  let f := s.winReq w
  let bs := natLE 1 (fService f) ++ natLE 1 (fCommand f) ++ natLE 1 status ++ [0] ++ fit 4 (slice f 4 4) ++
    natLE 4 payload.length ++ natLE 4 detail ++ payload
  let s := if status ≤ mbInProgress then s else s.inc (R.CUP_CNT 1)
  match winNo w with
  | some n =>
    let s := s.wrBytes (R.MBX_RSP n 0) ((bs.length + 3) / 4) bs
    let s := (s.clr (F.MBX_STAT_BUSY n)).set (F.MBX_STAT_DONE n)
    if n = 0 then s.raise 224 else s.irqSvc irqMailbox
  | none => { s with cup := { s.cup with smb := { s.cup.smb with req := [], rsp := bs, pos := 0, busy := false, done := true } } }

/-! ### Who may issue what (R361, R591) -/

/-- The payload that a command takes: its least and greatest length; none for an unknown command. -/
def cmdLen (svc cmd : Nat) : Option (Nat × Nat) :=
  if svc = 0 then
    match cmd with
    | 0x01 | 0x02 | 0x04 | 0x12 | 0x13 | 0x14 | 0x15 | 0x16 => some (0, 0)
    | 0x03 => some (9, 9)
    | 0x10 => some (8, 8)
    | 0x11 => some (4, 4080)
    | 0x20 => some (52, 52)
    | 0x21 => some (1, 1)
    | _ => none
  else if svc = 1 then
    match cmd with
    | 0x01 => some (0, 0)
    | 0x02 | 0x03 | 0x04 | 0x06 => some (2, 2)
    | 0x05 => some (4, 4)
    | _ => none
  else none

/-- The commands of R591 that SVC may issue. -/
def svcMay (svc cmd : Nat) : Bool := svc == 0 && [0x01, 0x02, 0x04, 0x13].contains cmd

/-- The commands that the SMBus may issue. -/
def State.smbMay (s : State) (svc cmd : Nat) : Bool :=
  if svc = 1 then s.on F.CUP_CFG_SMB_SVC_EN
  else [0x01, 0x02, 0x03, 0x04, 0x13].contains cmd || s.on F.CUP_CFG_SMB_UPDATE_EN

/-- Whether the requester of the command that waits in a window may issue it. -/
def State.mayCommand (s : State) (w : MbxWin) (svc cmd : Nat) : Bool :=
  match w with
  | .host => s.cup.goBy.1 == 0 || s.cup.goBy.1 == 3
  | .svc => s.cup.goBy.2 == 3 || svcMay svc cmd
  | .smbus => s.smbMay svc cmd

/-- In ROM recovery and while images are pushed, only BOOT_STATUS and the update commands are served (R586). -/
def romServes (svc cmd : Nat) : Bool :=
  svc == 0 && ([0x01, 0x10, 0x11, 0x12, 0x13, 0x14].contains cmd)

/-- Whether the boot ROM, and not Cupola firmware, runs (R584). -/
def State.romRuns (s : State) : Bool :=
  s.get F.CUP_BOOT_STAT_MODE == 3 || decide (s.get F.CUP_BOOT_STAT_MILESTONE < 2)

/-- Whether Cupola serves the mailbox: its firmware runs, or the boot ROM waits for an image (R586). -/
def State.mbxServes (s : State) : Bool :=
  s.power.cupUp && !s.lcs.cupHalted &&
  (!s.romRuns || s.get F.CUP_BOOT_STAT_MODE == 3 || s.get F.GLB_STRAP_BOOT_SRC == 1 || s.get F.GLB_STRAP_BOOT_SRC == 2)

/-- The refusal of a frame before its command starts: UNKNOWN_COMMAND, BAD_FRAME or DENIED; none where it starts. -/
def State.verdict (s : State) (w : MbxWin) : Option Nat :=
  let f := s.winReq w
  let svc := fService f
  let cmd := fCommand f
  match cmdLen svc cmd with
  | none => some mbUnknown
  | some (lo, hi) =>
    if s.romRuns && !romServes svc cmd then some mbUnknown
    else if f.length ≠ 16 + fLen f ∨ 4080 < fLen f ∨ fLen f < lo ∨ hi < fLen f then some mbBadFrame
    else if s.mayCommand w svc cmd then none
    else some mbDenied

/-- A frame that does not start is answered; another waits for its command. -/
def State.mbxScreen (s : State) (w : MbxWin) : State :=
  if s.winBusy w && s.mbxServes then
    match s.verdict w with
    | some c => s.respond w c 0 []
    | none => s
  else s

/-- The holder code of an update session that a window's requester holds (R598). -/
def winHolder : MbxWin → Nat
  | .host => 1
  | .svc => 0
  | .smbus => 2

/-- A command from the holder of the update session restarts its 60 s (R593). -/
def State.updTouch (s : State) (w : MbxWin) : State :=
  match s.cup.upd with
  | some u => if u.holder = winHolder w then { s with cup := { s.cup with upd := some { u with last := s.time } } } else s
  | none => s

/-- Run the command that waits in a window, where it is the one named: `k` gets its payload. -/
def State.mbxRun (s : State) (w : MbxWin) (svc cmd : Nat) (k : State → List Byte → State) : State :=
  if s.winBusy w && s.mbxServes then
    let f := s.winReq w
    match s.verdict w with
    | some c => s.respond w c 0 []
    | none => if fService f = svc ∧ fCommand f = cmd then k (s.updTouch w) (fPayload f) else s
  else s

/-! ### GO, ABORT and the registers (R587, R589) -/

/-- GO of a register window. -/
def State.mbxGo (s : State) (n : Nat) (r : Req) : State :=
  if s.on (F.MBX_STAT_BUSY n) then s.set (F.MBX_STAT_GO_REJECT n)
  else
    let g := s.cup.goBy
    let s := { s with cup := { s.cup with goBy := if n = 0 then (reqCode r, g.2) else (g.1, reqCode r) } }
    ((s.set (F.MBX_STAT_BUSY n)).inc (R.CUP_CNT 0)).mbxScreen (if n = 0 then .host else .svc)

/-- A write of MBX_CTL: ABORT withdraws a command that has not started. -/
def State.mbxCtlWrite (s : State) (n : Nat) (r : Req) (v : Word) : State :=
  let s := if bit v.toNat 1 then s.clr (F.MBX_STAT_BUSY n) else s
  if bit v.toNat 0 then s.mbxGo n r else s

/-- A write of MBX_REQ. -/
def State.mbxReqWrite (s : State) (n o : Nat) (v : Word) : State := if s.on (F.MBX_STAT_BUSY n) then s else s.wr o v

/-! ### SMBus (R592) -/

/-- A block write; one with a bad PEC drops the frame under construction. -/
def State.smbWrite (s : State) (bs : List Byte) (pec : Bool) : State :=
  let m := s.cup.smb
  if !s.power.cupUp then s
  else if !pec then { s with cup := { s.cup with smb := { m with req := if m.busy then m.req else [], reject := true } } }
  else if m.busy then s
  else { s with cup := { s.cup with smb := { m with req := m.req ++ bs } } }

/-- GO by a send byte. -/
def State.smbGo (s : State) : State :=
  let m := s.cup.smb
  if !s.power.cupUp then s
  else if m.busy then { s with cup := { s.cup with smb := { m with reject := true } } }
  else
    let s := { s with cup := { s.cup with smb := { m with busy := true, done := false } } }
    (s.inc (R.CUP_CNT 0)).mbxScreen .smbus

/-- A block read of the response, advancing. -/
def State.smbRead (s : State) (n : Nat) : State :=
  let m := s.cup.smb
  if !s.power.cupUp then s
  else
    let bs := slice m.rsp m.pos n
    { s with cup := { s.cup with smb := { m with pos := m.pos + bs.length, out := bs } } }

/-- MBX_STAT [3:0]; GO_REJECT and RESTARTED are shown once. -/
def State.smbStatus (s : State) : State :=
  let m := s.cup.smb
  if !s.power.cupUp then s
  else
    let v := (if m.busy then 1 else 0) + (if m.done then 2 else 0) + (if m.reject then 4 else 0) + if m.restarted then 8 else 0
    { s with cup := { s.cup with smb := { m with out := natLE 1 v, reject := false, restarted := false } } }

/-! ### The commands -/

def execMbxGo (w : MbxWin) (r : Req) (s : State) : Out :=
  .next (match winNo w with
    | some n => s.gateW r (R.MBX_CTL n) (·.mbxCtlWrite n r 1)
    | none => s.smbGo)

def execMbxAbort (w : MbxWin) (r : Req) (s : State) : Out :=
  .next (match winNo w with
    | some n => s.gateW r (R.MBX_CTL n) (·.mbxCtlWrite n r 2)
    | none => s)

def execMbxWrite (bytes : List Byte) (pec : Bool) (s : State) : Out :=
  if 255 < bytes.length then .fault .badLength else .next (s.smbWrite bytes pec)

def execMbxRead (n : BitVec 8) (s : State) : Out := .next (s.smbRead n.toNat)

def execMbxStatus (s : State) : Out := .next s.smbStatus

end Sys2Proof.Machine
end

