-- ==== Sys2Proof/Machine/Bus.lean ====
section
/-! DEFINITION. Register accesses (R11, R12, R15, R18, R55 to R58): what a read of any register returns and does, what a
write of any register does, and the capture of the counters. -/

namespace Sys2Proof.Machine

/-! ### Live fields -/

/-- A number whose bit `i` says whether the `i`-th of `n` holds. -/
def maskOf (n : Nat) (p : Nat → Bool) : Nat := (List.range n).foldl (fun m i => if p i then m + 2 ^ i else m) 0

/-- A bit at a place. -/
def bitAt (b : Bool) (k : Nat) : Nat := if b then 2 ^ k else 0

/-- A signed byte as it is read. -/
def byteOf (b : BitVec 8) : Nat := b.toNat

/-- CPM's registers of live state (R568). -/
def State.viewCpm (s : State) (loc v : Nat) : Nat :=
  if loc = 0x0 then maskOf 6 s.clockReady
  else if loc = 0x10C then s.cpm.vcore % 1024 + s.cpm.avsMv % 1024 * 65536
  else if loc = 0x110 then s.cpm.pace % 1024 + s.cpm.paceMon % 32 * 65536 + bitAt s.cpm.paceValid 31
  else if loc = 0x118 then min 0x1FFFF s.boostCredit
  else if loc = 0x11C then byteOf s.cpm.tjMax + byteOf s.cpm.tjPred * 256 + bitAt s.cpm.predValid 31
  else v

/-- LCS_DBG_REMAIN (R504): whole seconds left. -/
def State.viewLcs (s : State) (loc v : Nat) : Nat :=
  if loc = 0x28 then
    if s.on F.LCS_DBG_STAT_SESSION && !s.on F.LCS_DBG_STAT_BLANK_OPEN then (s.lcs.sessionEnd - s.time + 999999999) / 1000000000
    else 0
  else v

/-- FCR's registers of live state (R536, R537). FLT_MSG1 to FLT_MSG3 show the latched entry, or like
FLT_MSG0 the oldest. -/
def State.viewFcr (s : State) (loc v : Nat) : Nat :=
  let e := fun (f : HistEntry → Nat) => (s.msgShown.map f).getD 0
  if loc = 0x4 then v % 16 + bitAt s.inWindow 4 + bits v 5 3 * 32 + bitAt s.faultLow 8
  else if loc = 0x30 then s.srcLive
  else if loc = 0x40 then ((s.fcr.history.head?).map (fun e => e.msg.toNat % 2 ^ 32)).getD 0
  else if loc = 0x44 then e (fun e => e.msg.toNat / 2 ^ 32)
  else if loc = 0x48 then e HistEntry.info
  else if loc = 0x4C then e (fun e => e.timeUs % 2 ^ 32)
  else if loc = 0x50 then s.fcr.history.length
  else v

/-- Belfry's registers of live state (R487 to R489). -/
def State.viewBlf (s : State) (loc v : Nat) : Nat :=
  if loc = 0x4 then v % 4 + bitAt s.filtering 2 + bits v 3 3 * 8 + bitAt ((List.range 14).any (fun n => s.liveDets n == 1)) 6
  else if loc = 0x10 then maskOf 14 (fun n => s.inAlarm (2 * n) || s.inAlarm (2 * n + 1))
  else if loc = 0x20 then s.otp.fuses
  else if loc = 0x80 then v + bitAt s.blf.backup 18
  else v

/-- RNG's registers of live state, as a reader sees them (R459, R463, R464). -/
def State.viewRng (s : State) (r : Req) (loc v : Nat) : Nat :=
  if loc = 0x4 then
    bits v 0 3 + bitAt (s.rngValid r) 3 +
      bitAt (((rngReader r).map s.rng.emptyRead.contains).getD false) 4 + v / 32 * 32
  else if loc = 0x20 then
    if s.rngValid r then (match rngReader r with
      | some i => leNat ((s.rngBuf i).take 4)
      | none => 0) else 0
  else v

/-- A slot's descriptor as KEEP_QINFO shows it (R378, R408). -/
def Slot.qinfo (x : Slot) (k : Nat) : Nat :=
  match k with
  | 0 => (match x.st with
      | .empty => 0
      | .reserved => 1
      | .live => 2) + bitAt x.leaf.isSome 2 + bitAt x.lobj 3 + x.usage % 8 * 16 + x.origin % 4 * 128 +
      bitAt x.exportable 9 + x.group % 32 * 1024 + x.gen % 256 * 65536 + x.granules % 128 * 2 ^ 24
  | 1 => x.alg % 65536 + (x.cell.getD 0) % 64 * 65536
  | 2 => x.epoch % 2 ^ 32
  | _ => x.keyLen % 2 ^ 21

/-- KEEP's registers of live state (R408). -/
def State.viewKeep (s : State) (loc v : Nat) : Nat :=
  if loc = 0x10 then s.slotsUsed + s.freeGranules * 65536
  else if loc = 0x14 then s.freeExtents
  else if loc = 0x18 then s.freeCells.length
  else if loc = 0x1C then ((s.keep.sfevt.head?).map (·.toNat)).getD 0
  else if 0x20 ≤ loc ∧ loc < 0x30 then leAt s.otp.devId (loc - 0x20) 4
  else if loc = 0x34 then s.keep.bbkGen
  else if 0x3C ≤ loc ∧ loc ≤ 0x48 then (s.slot (s.get F.KEEP_QSEL_SLOT)).qinfo ((loc - 0x3C) / 4)
  else v

/-- The code of a channel's state (R420). -/
def dkeCode : DkeState → Nat
  | .free => 0
  | .owned => 1
  | .keying => 2
  | .absorb => 3
  | .finish => 4
  | .done => 5
  | .error => 6

/-- A DKE channel's registers of live state (R440, R441). -/
def State.viewDke (s : State) (r : Req) (c loc v : Nat) : Nat :=
  let x := s.dkeCh c
  let mine := x.holder != 0 && x.holder == dkeHolder r
  if loc = 0 then bitAt mine 8 + bitAt (x.holder != 0 && !mine) 9 + bitAt (x.takePend != 0) 10 + x.holder % 4 * 4096
  else if loc = 8 then (if (s.running (0x60 + c)).isSome then 7 else dkeCode x.st) + v / 256 * 256
  else v

/-- DKE_GSTAT (R442). -/
def State.viewDkeCom (s : State) (loc v : Nat) : Nat :=
  if loc = 4 then maskOf 4 (fun c => (s.dkeCh c).holder != 0) + maskOf 4 (fun c => (s.running (0x60 + c)).isSome) * 16 else v

/-- A lane's registers of live state (R443, R444). -/
def State.viewSfi (s : State) (c loc v : Nat) : Nat :=
  let x := s.dkeCh c
  if loc = 0x24 then x.level % 8192 + bitAt x.openPkt.isSome 16 + bitAt x.dropping 17 + v / 2 ^ 24 * 2 ^ 24
  else if loc = 0x28 then 4096 - x.level
  else v

/-- CTS's registers of live state (R334, R336). -/
def State.viewCts (s : State) (loc v : Nat) : Nat :=
  if loc = 0x4 then
    v % 16 + bitAt (!s.mpe.hotRefresh.isEmpty) 4 + bitAt (!s.mpe.hotThrottle.isEmpty) 5 + v / 64 * 64
  else if loc = 0x10 then if s.mpe.fillDone then 8388608 else s.mpe.filled.length
  else if loc = 0x1C then s.pinnedCtxs.length + s.cts.pinFlows.length * 65536
  else if loc = 0x20 then s.cts.csn % 2 ^ 32
  else if loc = 0x24 then s.cts.csn / 2 ^ 32 % 2 ^ 32
  else if loc = 0x30 then s.mpe.poison.length
  else v

/-- The classes whose context of an engine holds a job (R163). -/
def State.heldClasses (s : State) (e : Nat) : Nat := maskOf 3 (fun k => !s.ctxFree e (k + 1))

/-- An engine's registers of live state (R163, R164). -/
def State.viewAea (s : State) (e loc v : Nat) : Nat :=
  if loc = 0x4 then
    let w := match s.running e with
      | some j => j.wait == .rng
      | none => false
    s.heldClasses e + s.runClass e % 4 * 8 + bitAt w 5 + bitAt (!s.on (F.AEA_CTL_EN e) && s.heldClasses e == 0) 6 + v / 128 * 128
  else if loc = 0x8 then
    match s.running e with
    | some j => j.q % 4096 + j.cls % 4 * 4096 + dAlg j.desc % 65536 * 65536
    | none => 0
  else v

/-- The available engines (R165, R204). -/
def State.viewAeaCom (s : State) (loc v : Nat) : Nat :=
  if loc = 0 then maskOf 32 s.engAvail
  else if loc = 0x40 then maskOf 4 (fun i => s.engAvail (0x20 + i))
  else if loc = 0x44 then maskOf 8 (fun i => s.engAvail (0x28 + i))
  else v

/-- IPP's registers of live state (R292). -/
def State.viewIpp (s : State) (loc v : Nat) : Nat :=
  if loc = 0x4 then bitAt (s.on F.IPP_CTL_EN && !s.on F.FLT_STAT_QUIESCED) 0 + v / 2 * 2
  else if loc = 0x18 then ((s.ipp.saevt.head?).map (·.toNat)).getD 0
  else if loc = 0x1C then s.ipp.saevt.length
  else if loc = 0x20 then s.cts.flows.length
  else if loc = 0x24 then s.cts.pinFlows.length
  else v

/-- EVC's registers of live state (R538). -/
def State.viewEvc (s : State) (loc v : Nat) : Nat :=
  if loc = 0x4 then bitAt s.intLow 0
  else if 0x10 ≤ loc ∧ loc < 0x30 then maskOf 32 (fun i => s.evc.raw.contains ((loc - 0x10) * 8 + i))
  else if 0x70 ≤ loc ∧ loc < 0x90 then maskOf 32 (fun i => s.evcNonMask ((loc - 0x70) * 8 + i))
  else v

/-- An owner key slot is usable (R579). -/
def CfgKey.usable (k : CfgKey) : Bool := k.done == 0xA55A && !k.revoked

/-- Cupola's registers of live state (R581, R598). -/
def State.viewCup (s : State) (loc v : Nat) : Nat :=
  let c := s.cup
  if loc = 0x14 then
    c.arbFw % 128 + c.arbUc % 128 * 256 + c.arbCfg % 128 * 65536 + bitAt (c.arbFw == 127) 24 + bitAt (c.arbUc == 127) 25 +
      bitAt (c.arbCfg == 127) 26
  else if loc = 0x28 then
    maskOf 4 (fun i => c.keys.any (fun e => e.1 == i && e.2.usable)) +
      maskOf 4 (fun i => c.keys.any (fun e => e.1 == i && e.2.revoked)) * 16
  else v

/-- A queue's registers of live state (R67, R69, R72). -/
def State.viewQ (s : State) (q loc v : Nat) : Nat :=
  if loc = 0x4 then bitAt (s.qActive q) 0 + bits v 1 7 * 2 + s.inflight q % 128 * 256 + v / 65536 * 65536
  else if loc = 0xC then groupOf q + q % 128 * 256 + s.qOwner q % 64 * 65536
  else if loc = 0x3C then (s.qst q).held.length
  else v

/-- The quadrants (R207, R236): kind, first Spire, number of Spires. -/
def quadInfo (q : Nat) : Nat :=
  if q = 0 then 0 + 0 * 256 + 16 * 65536
  else if q = 1 then 0 + 16 * 256 + 16 * 65536
  else if q = 2 then 1 + 32 * 256 + 4 * 65536
  else 2 + 36 * 256 + 8 * 65536

/-- What a register shows to a requester, without the counters and the registers whose value is open. -/
def State.view (s : State) (r : Req) (o : Nat) : Nat :=
  let v := match specAt o with
    | some (x, _) => x.fields.foldl (fun (w : Word) (f : FieldSpec) => if f.acc = Acc.wo then fieldSet f.lo f.width w 0 else w) (s.rd o)
    | none => 0
  let n := v.toNat
  match locate o with
  | some (.glb, _, loc) => if loc = 0 then glbId.toNat else if loc = 0x280 then 8192 - s.sharedUsed else n
  | some (.cpm, _, loc) => s.viewCpm loc n
  | some (.lcs, _, loc) => s.viewLcs loc n
  | some (.fcr, _, loc) => s.viewFcr loc n
  | some (.blf, _, loc) => s.viewBlf loc n
  | some (.rng, _, loc) => s.viewRng r loc n
  | some (.keep, _, loc) => s.viewKeep loc n
  | some (.dkeCh, c, loc) => s.viewDke r c loc n
  | some (.dkeCom, _, loc) => s.viewDkeCom loc n
  | some (.sfi, c, loc) => s.viewSfi c loc n
  | some (.ucsCom, _, _) => n
  | some (.ucsQ, q, loc) => if loc = 8 then quadInfo q else n
  | some (.cts, _, loc) => s.viewCts loc n
  | some (.aea, e, loc) => s.viewAea e loc n
  | some (.aeaCom, _, loc) => s.viewAeaCom loc n
  | some (.ipp, _, loc) => s.viewIpp loc n
  | some (.lif, _, _) => n
  | some (.evc, _, loc) => s.viewEvc loc n
  | some (.mbx, _, _) => n
  | some (.cup, _, loc) => s.viewCup loc n
  | some (.q, q, loc) => s.viewQ q loc n
  | none => 0

/-! ### Counters (R15, R16) -/

/-- The counter whose low or high word lies at an offset: the offset of its low word. -/
def counterAt (o : Nat) : Option Nat :=
  match locate o, specAt o with
  | some (_, _, loc), some (x, i) => if x.counter.isSome then some (o - loc + x.off + x.stride * i) else none
  | _, _ => none

/-- The free-running time counters, which are read live: AEA_BUSY. -/
def isTime (o : Nat) : Bool :=
  match locate o with
  | some (.aea, _, loc) => loc == 0x30
  | _ => false

/-- What a 64-bit counter shows: a statistics counter its readable copy, with the SAT bit that IPP_FT_REJ holds in itself. -/
def State.cntShown (s : State) (o : Nat) : Nat :=
  if isTime o then s.cntGet o
  else sget (fun _ => 0) s.cntCopy o + if o = R.IPP_FT_REJ then bitAt ((s.rd (o + 4)).getLsbD 31) 63 else 0

/-- A read of a counter's word (R15): a 32-bit read of the low word latches the high word for the next read of it; a
64-bit read returns both halves. -/
def State.cntRead (s : State) (lo o : Nat) (wide : Bool) : State :=
  let n := s.cntShown lo
  let out := fun (v : Nat) => { s with busOut := BitVec.ofNat 64 v }
  if wide then out n
  else if o = lo then { out (n % 2 ^ 32) with hiLatch := sput (fun _ => 0) s.hiLatch lo (n / 2 ^ 32 + 1) }
  else
    let h := sget (fun _ => 0) s.hiLatch lo
    if h = 0 then out (n / 2 ^ 32) else { out (h - 1) with hiLatch := serase s.hiLatch lo }

/-! ### Reads -/

/-- A read of one register: its value on the bus, and its effect where it has one. -/
def State.readReg (s : State) (r : Req) (o : Nat) (wide : Bool) : State :=
  match counterAt o with
  | some lo => s.cntRead lo o wide
  | none =>
    if o = R.RNG_DATA then s.rngRead r wide
    else if o = R.RNG_RAW then s.rngRawRead
    else if o = R.KEEP_SFEVT then s.sfevtTake
    else if o = R.IPP_SAEVT then s.saevtTake
    else if o = R.FLT_MSG0 then s.msgLatch
    else if o = R.FLT_MSG3 then s.msgPop
    else if o = R.CKG_SYSCNT ∨ o = R.BLF_BAT_TEMP then
      let (n, s) := s.freeNat
      { s with busOut := BitVec.ofNat 64 (n % if o = R.CKG_SYSCNT then 65536 else 256) }
    else match locate o with
      | some (.aea, e, 0x38) => s.maxinsnRead e
      | some (.dkeCh, c, loc) =>
        if loc = 0x14 then s.dkeResRead c 16
        else if 0x80 ≤ loc ∧ loc < 0xC0 then s.dkeResRead c ((loc - 0x80) / 4)
        else { s with busOut := BitVec.ofNat 64 (s.view r o) }
      | _ => { s with busOut := BitVec.ofNat 64 (s.view r o) }

/-- A read of 8 or 16 bits returns the addressed bytes and takes nothing (R11): `k` is the byte in the word. -/
def State.readPart (s : State) (r : Req) (o k n : Nat) : State :=
  let v := match counterAt o with
    | some lo => if o = lo then s.cntShown lo else s.cntShown lo / 2 ^ 32
    | none => s.view r o
  { s with busOut := BitVec.ofNat 64 (v / 2 ^ (8 * k) % 2 ^ (8 * n)) }

/-- A read of a register by a requester that may have no right to it. -/
def State.busRead (s : State) (r : Req) (o : Nat) (k : State → State) : State := s.gateR r o k

/-! ### Capture of the counters (R15, R18) -/

/-- A write of GLB_SNAP. -/
def State.snapStart (s : State) : State :=
  if s.on F.GLB_STAT_SNAP_BUSY then s.set F.GLB_STAT_SNAP_REJECT
  else ({ s with cntSnap := s.cnt }).set F.GLB_STAT_SNAP_BUSY

/-- The readable copies are loaded. -/
def State.snapEnd (s : State) : State :=
  if s.on F.GLB_STAT_SNAP_BUSY then ({ s with cntCopy := s.cntSnap, cntSnap := [] }).clr F.GLB_STAT_SNAP_BUSY else s

/-! ### Writes -/

def State.writeGlb (s : State) (loc o : Nat) (v : Word) : State :=
  if loc = 8 then s.snapStart
  else if 0x200 ≤ loc ∧ loc < 0x280 then s.qgrpWrite ((loc - 0x200) / 4) v
  else s.wrGeneric o v

def State.writeCpm (s : State) (loc o : Nat) (v : Word) : State :=
  if loc = 0x4 then s.ckgSelWrite v
  else if loc = 0xC then s.ckgCbusWrite v
  else if loc = 0x100 then s.pwrCtlWrite v
  else if loc = 0x108 then s.pwrCfgWrite v
  else if loc = 0x114 then s.paceTgtWrite v
  else if loc = 0x120 then s.thermWrite v
  else if loc = 0x124 then s.blockResets v.toNat
  else s.wrGeneric o v

def State.writeLcs (s : State) (r : Req) (loc o : Nat) (v : Word) : State :=
  if loc = 0x8 then s.transitionWrite v
  else if loc = 0xC then s.lcsCtlWrite r v
  else if 0x60 ≤ loc ∧ loc < 0x90 then s.ownDigWrite o v
  else s.wrGeneric o v

def State.writeFcr (s : State) (r : Req) (loc o : Nat) (v : Word) : State :=
  if loc = 0x0 then s.fltCtlWrite r v
  else if loc = 0x4 then s.fltStatWrite v
  else if loc = 0x8 then s.fltCfgWrite v
  else if loc = 0x18 then s.firstClear v
  else if loc = 0x2C then s.stickyClear v
  else if 0x80 ≤ loc ∧ loc < 0x100 then s.fltMapWrite ((loc - 0x80) / 4) v
  else s.wrGeneric o v

def State.writeBlf (s : State) (loc o : Nat) (v : Word) : State :=
  if loc = 0x0 then s.blfCtlWrite v
  else if loc = 0x1C then s.declareFaulty v.toNat
  else if loc = 0x24 then s.filtWrite v
  else if loc = 0x28 then s.fuseWrite v
  else if 0x40 ≤ loc ∧ loc < 0x78 then s.srcCfgWrite ((loc - 0x40) / 4) v
  else if loc = 0x84 then s.batCtlWrite v
  else if loc = 0x88 then s.tlimWrite v
  else s.wrGeneric o v

def State.writeRng (s : State) (r : Req) (loc o : Nat) (v : Word) : State :=
  if loc = 0x0 then s.rngCtlWrite r v
  else if loc = 0x4 then s.rngStatWrite r v
  else if loc = 0x8 then s.rngMinWrite v
  else if loc = 0xC then s.rngWaitWrite v
  else if loc = 0x10 then s.rngReseedWrite v
  else if loc = 0x28 then s.rawselWrite v
  else s.wrGeneric o v

def State.writeKeep (s : State) (loc o : Nat) (v : Word) : State :=
  if loc = 0x0 then s.keepCtlWrite 0 v
  else if loc = 0x30 then s.bbkCtlWrite v
  else if loc = 0x58 then s.blCmdWrite v
  else if loc = 0x84 then s.jrCmdWrite v
  else s.wrGeneric o v

def State.writeDke (s : State) (r : Req) (c loc o : Nat) (v : Word) : State :=
  if loc = 0x0 then s.dkeLockWrite r c v
  else if loc = 0x4 then s.dkeCtlWrite c v
  else if loc = 0xC ∨ loc = 0x10 ∨ (0x40 ≤ loc ∧ loc < 0x80) then s.dkeSetup c o v
  else s.wrGeneric o v

def State.writeDkeCom (s : State) (loc o : Nat) (v : Word) : State :=
  if loc = 0x0 then s.dkeCfgWrite v else if loc = 0x54 then s.dkeGctlWrite v else s.wrGeneric o v

def State.writeSfi (s : State) (c loc o : Nat) (v : Word) : State :=
  if loc = 0x0 then s.sfiWord c v 4 false
  else if 0x10 ≤ loc ∧ loc < 0x20 then s.sfiWord c v ((loc - 0x10) / 4 + 1) true
  else if loc = 0x20 then s.sfiCtlWrite c v
  else if loc = 0x2C then s.sfiCfgWrite c v
  else s.wrGeneric o v

def State.writeUcs (s : State) (q loc o : Nat) (v : Word) : State :=
  if loc = 0x0 then s.ucodeCtlWrite q v
  else if 0x10 ≤ loc ∧ loc < 0x20 then s.wr o v
  else if loc = 0x20 then s.ucodeWrite q
  else s.wrGeneric o v

def State.writeCts (s : State) (r : Req) (loc o : Nat) (v : Word) : State :=
  if loc = 0x0 then s.ctsCtlWrite r v
  else if loc = 0x8 then s.ctsCfgWrite v
  else if loc = 0x18 then s.ctsThermWrite v
  else s.wrGeneric o v

def State.writeIpp (s : State) (r : Req) (loc o : Nat) (v : Word) : State :=
  if loc = 0x8 then s.freshWrite v
  else if 0x40 ≤ loc ∧ loc < 0x60 then s.rgWrite ((loc - 0x40) / 4) v
  else if loc = 0x80 then s.ptpCtlWrite r v
  else if loc = 0x90 then s.ptpAdjWrite r v
  else if loc = 0x94 then s.ptpStepWrite r v
  else s.wrGeneric o v

def State.writeLif (s : State) (p loc o : Nat) (v : Word) : State :=
  if loc = 0x0 then s.pctlWrite p v
  else if loc = 0x4 ∨ loc = 0x28 then s.lifEventWrite p o v
  else if loc = 0x8 then s.pcfgWrite p v
  else if loc = 0x10 then s.maxfrmWrite p v
  else if loc = 0x14 then s.qmaxWrite p v
  else s.wrGeneric o v

def State.writeEvc (s : State) (loc o : Nat) (v : Word) : State :=
  if loc = 0x0 then s.evcCtlWrite v
  else if 0x30 ≤ loc ∧ loc < 0x50 then s.pendClear ((loc - 0x30) / 4) v
  else if 0x50 ≤ loc ∧ loc < 0x70 then s.maskWrite ((loc - 0x50) / 4) v
  else if 0x400 ≤ loc then s.routeWrite o v
  else s.wrGeneric o v

def State.writeMbx (s : State) (n : Nat) (r : Req) (loc o : Nat) (v : Word) : State :=
  if loc = 0x0 then s.mbxCtlWrite n r v
  else if 0x1000 ≤ loc ∧ loc < 0x2000 then s.mbxReqWrite n o v
  else s.wrGeneric o v

/-- A write of CUP_SVC_HB is SVC's heartbeat (R363). -/
def State.svcBeat (s : State) : State := { s with svc := { s.svc with hbAt := s.time } }

def State.writeCup (s : State) (loc o : Nat) (v : Word) : State :=
  if loc = 0x1C then s.svcBeat else s.wrGeneric o v

def State.writeQ (s : State) (q loc o : Nat) (v : Word) : State :=
  if loc = 0x0 then s.qCtlWrite q v
  else if loc = 0x4 ∨ loc = 0x40 ∨ loc = 0x44 then s.qEventWrite q o v
  else if loc = 0x8 then s.qPrioWrite q v
  else if loc = 0x10 then s.qCfgWrite q .sqStartLo v
  else if loc = 0x14 then s.qCfgWrite q .sqStartHi v
  else if loc = 0x18 then s.kick q
  else if loc = 0x28 then s.qCfgWrite q .cqBaseLo v
  else if loc = 0x2C then s.qCfgWrite q .cqBaseHi v
  else if loc = 0x30 then s.qCfgWrite q .cqSize v
  else if loc = 0x38 then s.cqHeadWrite q v
  else s.wrGeneric o v

/-- The effect of a permitted 32-bit write of the register at an offset. -/
def State.writeReg (s : State) (r : Req) (o : Nat) (v : Word) : State :=
  match locate o with
  | some (.glb, _, loc) => s.writeGlb loc o v
  | some (.cpm, _, loc) => s.writeCpm loc o v
  | some (.lcs, _, loc) => s.writeLcs r loc o v
  | some (.fcr, _, loc) => s.writeFcr r loc o v
  | some (.blf, _, loc) => s.writeBlf loc o v
  | some (.rng, _, loc) => s.writeRng r loc o v
  | some (.keep, _, loc) => s.writeKeep loc o v
  | some (.dkeCh, c, loc) => s.writeDke r c loc o v
  | some (.dkeCom, _, loc) => s.writeDkeCom loc o v
  | some (.sfi, c, loc) => s.writeSfi c loc o v
  | some (.ucsCom, _, _) => s.wrGeneric o v
  | some (.ucsQ, q, loc) => s.writeUcs q loc o v
  | some (.cts, _, loc) => s.writeCts r loc o v
  | some (.aea, e, loc) => if loc = 0 then s.aeaCtlWrite e v else s.wrGeneric o v
  | some (.aeaCom, _, loc) => if loc = 4 then s.ltCfgWrite v else s.wrGeneric o v
  | some (.ipp, _, loc) => s.writeIpp r loc o v
  | some (.lif, p, loc) => s.writeLif p loc o v
  | some (.evc, _, loc) => s.writeEvc loc o v
  | some (.mbx, n, loc) => s.writeMbx n r loc o v
  | some (.cup, _, loc) => s.writeCup loc o v
  | some (.q, q, loc) => s.writeQ q loc o v
  | none => s

/-- A 32-bit write by a requester. -/
def State.busWrite (s : State) (r : Req) (o : Nat) (v : Word) : State := s.gateW r o (·.writeReg r o v)

/-- Whether a 64-bit write falls on the end marks of a lane (R433). -/
def onEop (o : Nat) : Option Nat :=
  match locate o with
  | some (.sfi, c, loc) => if loc = 0x10 ∨ loc = 0x18 then some c else none
  | _ => none

/-- A 64-bit write counts as two 32-bit writes, the lower address first; on the end marks of a lane it is discarded whole
and its two words are counted (R433). -/
def State.busWrite64 (s : State) (r : Req) (o : Nat) (v : DWord) : State :=
  match onEop o with
  | some c => s.gateW r o (fun s => s.count (R.SFI_CNT c 3) 2)
  | none => (s.busWrite r o (v.setWidth 32)).busWrite r (o + 4) ((v >>> 32).setWidth 32)

/-! ### The commands -/

/-- Accesses of a requester in its own map, aligned to `n` bytes. -/
def atBus (r : Req) (addr : Word) (n : Nat) (k : Nat → Out) : Out :=
  match busOffset r addr.toNat with
  | some o => if o % n = 0 then k o else .fault .badAddress
  | none => .fault .badAddress

def execRegisterWrite (r : Req) (addr : Word) (wide : Bool) (v : DWord) (s : State) : Out :=
  atBus r addr (if wide then 8 else 4) fun o =>
    .next (if wide then s.busWrite64 r o v else s.busWrite r o (v.setWidth 32))

/-- A write of 8 or 16 bits (R11, R58). -/
def execSubwordWrite (r : Req) (addr : Word) (half : Bool) (_v : BitVec 16) (s : State) : Out :=
  atBus r addr (if half then 2 else 1) fun o =>
    let w := o / 4 * 4
    .next (if !s.reqUp r then s
      else
        let s := s.set F.GLB_STAT_SUBWORD_WR
        if s.grants r w true then s else s.denied r w true)

/-- An access that may be refused (R58); where it is permitted it is an ordinary one. -/
def execDeniedAccess (r : Req) (addr : Word) (acc : Access) (s : State) : Out :=
  match acc with
  | .read8 => atBus r addr 1 fun o => .next (s.busRead r (o / 4 * 4) (fun s => s.readPart r (o / 4 * 4) (o % 4) 1))
  | .read16 => atBus r addr 2 fun o => .next (s.busRead r (o / 4 * 4) (fun s => s.readPart r (o / 4 * 4) (o % 4) 2))
  | .read32 => atBus r addr 4 fun o => .next (s.busRead r o (fun s => s.readReg r o false))
  | .write32 v => atBus r addr 4 fun o => .next (s.busWrite r o v)

def execCounterLowRead (r : Req) (addr : Word) (wide : Bool) (s : State) : Out :=
  atBus r addr (if wide then 8 else 4) fun o => .next (s.busRead r o (fun s => s.readReg r o wide))

def execGlbSnap (r : Req) (v : Word) (s : State) : Out := .next (s.busWrite r R.GLB_SNAP v)

def execSnapComplete (s : State) : Out := .next s.snapEnd

/-- SVC's heartbeat. -/
def execSvcHb (v : Word) (s : State) : Out := .next (s.busWrite .svc R.CUP_SVC_HB v)

def execCupCfgLock (r : Req) (v : Word) (s : State) : Out := .next (s.busWrite r R.CUP_CFG (v ||| 0x80000000))

end Sys2Proof.Machine
end

