-- ==== Sys2Proof/Machine/Boot.lean ====
section
/-! DEFINITION. From power to service (R232, R233, R354 to R357, R543 to R545, R583 to R586): the boot as far as it can go
with what the device has, RECOVERY and ROM recovery, pushed images, and what lets a waiting boot go on. -/

namespace Sys2Proof.Machine

/-! ### The boot status (R599) -/

/-- SOURCE of Cupola (R512). -/
abbrev srcCup : Nat := 0x10A

def State.milestone (s : State) : Nat := s.get F.CUP_BOOT_STAT_MILESTONE
def State.bootMode (s : State) : Nat := s.get F.CUP_BOOT_STAT_MODE
def State.reach (s : State) (k : Nat) : State := s.put F.CUP_BOOT_STAT_MILESTONE k

/-- Whether images are pushed (R586): BOOT_SRC 01 or 10. -/
def State.pushed (s : State) : Bool := s.get F.GLB_STRAP_BOOT_SRC == 1 || s.get F.GLB_STRAP_BOOT_SRC == 2

/-- An Almanac entry of the boot: mode, reason and copy as SUBJECT, the failed checks of both copies as DATA (R355). -/
def State.bootLog (s : State) : State :=
  s.almanac 4 (s.rd R.CUP_BOOT_STAT).toNat (s.cup.cfgFail.1 + s.cup.cfgFail.2 * 256)

/-- A split reports KIND 0x0B (R355, R584). -/
def State.splitReport (s : State) (reason : Nat) : State := if reason = 2 then s.report srcCup 0x0B 0 0 else s

/-- RECOVERY (R356) for a reason: 1 NONE, 2 SPLIT, 3 CONTENT. -/
def State.enterRecovery (s : State) (reason : Nat) : State :=
  ((((s.put F.CUP_BOOT_STAT_MODE 2).put F.CUP_BOOT_STAT_RECOVERY_REASON reason).splitReport reason).bootLog).raise 225

/-- ROM recovery (R584). -/
def State.romRecovery (s : State) (reason : Nat) : State :=
  (((s.put F.CUP_BOOT_STAT_MODE 3).put F.CUP_BOOT_STAT_RECOVERY_REASON reason).splitReport reason).raise 225

/-! ### The boot ROM (R575, R584) -/

/-- Step 1: the clocks, where SYSCLK is READY. -/
def State.romClocks (s : State) : State :=
  if s.clockReady 0 then ((s.put F.CKG_CBUS_MUL 32).put F.CKG_CBUS_PBUS_DIV 0).put F.CKG_CBUS_XSPI_DIV 4 else s

/-- What Cupola firmware finds at a power-up: a LOCKDOWN record (R526) and battery events (R484). -/
def State.powerUpLog (s : State) : State :=
  if s.rd R.PWR_RST_CAUSE ≠ 1 then s
  else
    let m := (s.rd R.FLT_LOCKDOWN_LO).toNat + (s.rd R.FLT_LOCKDOWN_HI).toNat * 2 ^ 32
    let s := if m = 0 then s else ((s.almanac 6 m 0).wr R.FLT_LOCKDOWN_LO 0).wr R.FLT_LOCKDOWN_HI 0
    if s.get F.BLF_BAT_STAT_EVT = 0 then s
    else s.almanac 6 0 (s.get F.BLF_BAT_STAT_EVT + s.get F.BLF_BAT_STAT_BAT_TCNT * 256)

/-- The firmware of a BOOT copy starts: milestone 2. -/
def State.startFirmware (s : State) (img : List Byte) : State :=
  let s := { s with cup := { s.cup with boot := img } }
  let s := (s.wr R.CUP_FW_VER (BitVec.ofNat 32 (leAt img 20 4))).wr R.CUP_BOOT_GEN (BitVec.ofNat 32 (imgGen img))
  ((s.put F.CUP_SVN_FW (imgSvn img)).reach 2).powerUpLog

/-- Steps 1 to 3 from flash. -/
def State.bootRom (s : State) : State :=
  if s.bootMode ≠ 0 ∨ s.milestone ≠ 1 ∨ s.pushed then s
  else
    let a := s.readCopy 1 0
    let b := s.readCopy 1 1
    let ea := s.copyCheck 1 a
    let eb := s.copyCheck 1 b
    let s := { s with cup := { s.cup with bootFail := (ea, eb) } }
    match chooseCopy a b ea eb with
    | .error e => s.romRecovery e
    | .ok c => (s.put F.CUP_BOOT_STAT_BOOT_COPY c).startFirmware (if c = 0 then a else b)

/-! ### The patch bundle (R226, R227, R232, R233) -/

/-- A section of a bundle. -/
structure Sec where
  mask : Nat
  kind : Nat
  micro : Nat
  nano : Nat
  hook : Nat
  disp : Nat
  claim : Nat
  digest : List Byte
  recs : List Byte

/-- The sections that fill the bytes exactly. -/
def parseSecs : Nat → List Byte → Option (List Sec)
  | 0, [] => some []
  | 0, _ => none
  | n + 1, b =>
    let x : Sec := ⟨byteAt b 0, byteAt b 1, leAt b 4 2, leAt b 6 2, leAt b 8 2, leAt b 10 2, leAt b 12 4, slice b 32 48, []⟩
    let len := 8 * x.micro + 16 * x.nano + 4 * x.hook + 8 * x.disp
    if b.length < 80 + len then none
    else match parseSecs n (b.drop (80 + len)) with
      | some l => some ({ x with recs := slice b 80 len } :: l)
      | none => none

/-- The counts of R227 and the claim of R224. -/
def secOk (x : Sec) : Bool :=
  decide (x.kind ≤ 2) && x.mask == [3, 4, 8].getD x.kind 0 &&
  decide (x.micro ≤ 4096 ∧ x.nano ≤ 512 ∧ x.hook ≤ 64 ∧ x.disp ≤ 256) &&
  decide (x.claim ≤ [1400, 30000, 9000].getD x.kind 0)

/-- The bundle within a BOOT copy, with its signature block. -/
def bundleOf (boot : List Byte) : List Byte := slice boot (leAt boot 40 4) (leAt boot 44 4)

/-- The sections of a bundle. -/
def bundleSecs (b : List Byte) : Option (List Sec) := parseSecs (byteAt b 28) (slice b 80 (leAt b 24 4 - 80))

/-- Step 1 of R232. -/
def State.bundleStep1 (s : State) (b : List Byte) : Bool :=
  let rom := s.get F.UCODE_ROM_VER_MAJOR
  b.take 4 == [0x53, 0x50, 0x49, 0x52] && leAt b 4 2 == 1 && leAt b 6 2 == 80 && bit (leAt b 18 2) 1 &&
  decide (leAt b 20 2 ≤ rom ∧ rom ≤ leAt b 22 2) && within 1 3 (byteAt b 28) &&
  slice b 32 48 == sha384 (slice b 80 (leAt b 24 4 - 80)) &&
  (match bundleSecs b with
   | none => false
   | some l => l.all secOk && (l.map (·.kind)).eraseDups.length == l.length)

/-- The signature of a bundle (R577). -/
def State.bundleSigned (s : State) (b : List Byte) : Bool := s.signedOk 1 (leAt b 24 4) (ascii "YLT-UCODE") b

/-- Signature, SVN and step 1 of R232. -/
def State.bundleOk (s : State) (b : List Byte) : Bool :=
  s.bundleSigned b && svnOk (leAt b 16 2) s.cup.arbUc && s.bundleStep1 b

/-- Whether a quadrant has refused a word. -/
def State.loadRejected (s : State) : Bool := (List.range 4).any (fun q => s.on (F.UCODE_Q_STAT_LOAD_REJECT q))

/-- Load one word (R230). -/
def State.loadRec (s : State) (q sp i w : Nat) : State :=
  if s.loadRejected then s
  else
    let s := (s.put (F.UCODE_Q_ADDR_SPACE q) sp).put (F.UCODE_Q_ADDR_INDEX q) i
    let s := (List.range 4).foldl (fun (s : State) k => s.wr (R.UCODE_Q_DATA q k) (BitVec.ofNat 32 (w / 2 ^ (32 * k)))) s
    s.ucodeWrite q

/-- Load the words of one space: `n` records of `len` bytes from `off` on. -/
def State.loadSpace (s : State) (q sp : Nat) (b : List Byte) (off len n : Nat) : State :=
  (List.range n).foldl (fun (s : State) i => s.loadRec q sp i (leAt b (off + len * i) len)) s

/-- Steps 2 to 4 for a section and a quadrant. -/
def State.loadSec (s : State) (x : Sec) (q : Nat) : State :=
  let o1 := 8 * x.micro
  let o2 := o1 + 16 * x.nano
  let o3 := o2 + 4 * x.hook
  let s := ((s.loadSpace q 0 x.recs 0 8 x.micro).loadSpace q 1 x.recs o1 16 x.nano).loadSpace q 2 x.recs o2 4 x.hook
  ((s.loadSpace q 3 x.recs o3 8 x.disp).ucodeCtlWrite q 4).digestDone q

/-- The quadrants of a section. -/
def secQuads (x : Sec) : List Nat := (List.range 4).filter (bit x.mask)

/-- Step 5: the digest that the quadrant computed is the section's. -/
def State.secLoaded (s : State) (x : Sec) (q : Nat) : Bool :=
  (List.range 12).flatMap (fun i => natLE 4 (s.rd (R.UCODE_Q_DIGEST q i)).toNat) == x.digest

/-- Step 6. -/
def State.recordBundle (s : State) (b : List Byte) : State :=
  let s := (s.wr R.UCODE_BUNDLE_ID (BitVec.ofNat 32 (leAt b 8 4))).wr R.UCODE_PATCH_VER (BitVec.ofNat 32 (leAt b 12 4))
  let s := (s.put F.UCODE_PATCH_SVN_SVN (leAt b 16 2)).put F.CUP_SVN_UCODE (leAt b 16 2)
  ((List.range 4).foldl (fun (s : State) q => s.armQuad q) s).set F.CUP_BOOT_STAT_UC_PATCHED

/-- A bundle is loaded whole, or abandoned. -/
def State.loadBundle (s : State) (b : List Byte) : State :=
  if !s.bundleOk b then s.abandonBundle
  else
    let l := (bundleSecs b).getD []
    let t := l.foldl (fun (s : State) x => (secQuads x).foldl (fun (s : State) q => s.loadSec x q) s) s
    if t.loadRejected || !l.all (fun x => (secQuads x).all (t.secLoaded x)) then t.abandonBundle else t.recordBundle b

/-- The life-cycle states in which no image but the BOOT copy is read (R490, R578). -/
def State.dead (s : State) : Bool := s.get F.LCS_STATE_STATE == 5 || s.get F.LCS_STATE_STATE == 15

/-- Milestone 3: the bundle is loaded, where there is one, and every quadrant is armed. -/
def State.bootStores (s : State) : State :=
  if s.milestone ≠ 2 ∨ s.bootMode ≠ 0 then s
  else
    let b := bundleOf s.cup.boot
    let s := if b.isEmpty || s.dead then (List.range 4).foldl (fun (s : State) q => s.armQuad q) s else s.loadBundle b
    s.reach 3

/-! ### The configuration image (R354, R355) -/

/-- The image that runs: milestone 4. -/
def State.takeImage (s : State) (img : List Byte) : State :=
  let s := { s with cup := { s.cup with cfg := img } }
  ((s.wr R.CUP_CFG_GEN (BitVec.ofNat 32 (imgGen img))).put F.CUP_SVN_CFG (imgSvn img)).reach 4

/-- The failed check of a copy by its checks 1 to 5, or the check 6 or 7 that it has failed in this boot. -/
def State.cfgCheck (s : State) (old : Nat) (b : List Byte) : Nat := if 6 ≤ old then old else s.copyCheck 2 b

/-- Checks 6 and 7 of a copy, where it has not failed one in this boot. -/
def State.fullCheck (s : State) (e : Nat) (b : List Byte) : Nat := if e ≠ 0 then e else s.contentCheck b

/-- Whether a copy is intact. -/
def intact (e : Nat) : Nat := if 6 ≤ e then 0 else e

/-- Milestone 4 from flash. -/
def State.bootConfig (s : State) : State :=
  if s.milestone ≠ 3 ∨ s.bootMode ≠ 0 ∨ s.pushed ∨ s.dead then s
  else if s.get F.GLB_STRAP_BOOT_SRC = 3 then s.enterRecovery 1
  else
    let a := s.readCopy 2 0
    let b := s.readCopy 2 1
    let ea := s.cfgCheck s.cup.cfgFail.1 a
    let eb := s.cfgCheck s.cup.cfgFail.2 b
    let note := fun (s : State) (x y : Nat) => { s with cup := { s.cup with cfgFail := (x, y) } }
    match chooseCopy a b (intact ea) (intact eb) with
    | .error e => (note s ea eb).enterRecovery e
    | .ok c =>
      let e := s.fullCheck (if c = 0 then ea else eb) (if c = 0 then a else b)
      if e = 0 then ((note s ea eb).put F.CUP_BOOT_STAT_CFG_COPY c).takeImage (if c = 0 then a else b)
      else
        let o := s.fullCheck (if c = 0 then eb else ea) (if c = 0 then b else a)
        let s := if c = 0 then note s e o else note s o e
        let s := s.put F.CUP_BOOT_STAT_CFG_COPY (1 - c)
        if o = 0 then (s.takeImage (if c = 0 then b else a)).bootLog else (s.put F.CUP_BOOT_STAT_CFG_COPY c).enterRecovery 3

/-- The running image proves invalid after milestone 4 (R345, R348): the boot goes back to the choice of a copy, and what
the image had set up is undone. -/
def State.contentFail (s : State) : State :=
  let s := ((List.range 16).foldl State.portDown s).eraseAllSlots
  let s := { s with cts := { s.cts with flows := [], flowOnly := [] } }
  if s.pushed then s.enterRecovery 3
  else
    let f := s.cup.cfgFail
    let f := if s.get F.CUP_BOOT_STAT_CFG_COPY = 0 then (7, f.2) else (f.1, 7)
    ({ s with cup := { s.cup with cfgFail := f } }).reach 3

/-! ### Memory and blobs -/

/-- The rotation that every power-on brings, once memory is trained and RNG runs (R305, R481 step 5). -/
def State.bootRotate (s : State) : State :=
  if s.mpe.key.isNone && s.clockReady 4 && s.get F.CTS_STAT_STACK_FAULT == 0 && s.rngState == rngRunning && s.power.coreUp then
    s.rotate
  else s

/-- Milestone 5. -/
def State.bootMemory (s : State) : State :=
  if s.milestone = 4 ∧ s.bootMode = 0 ∧ s.on F.CTS_STAT_READY then s.reach 5 else s

/-- Where Cupola firmware puts a blob in its SRAM: above the firmware's own 512 KiB. -/
def blobSram : Nat := 0x80000

/-- A journal seek that waits is answered from the journals in flash (R186, R412). -/
def State.answerSeek (s : State) : State :=
  match s.keep.jr with
  | some r => match r.kind with
    | .seek _ => match Config.journalRecord s.cup.flash r.uid with
      | some b =>
        let s := s.setJrWindow b
        if s.jrValid r.uid then s.jrPresent else s.jrNone
      | none => s.jrNone
    | _ => s
  | none => s

/-- The load of one KEEP_BLOB entry (R411). -/
def State.bootBlob (s : State) (e : Nat × Nat) : State :=
  let p := Config.blobPlace e.1
  let b := s.flashRead (0x2810000 + p.1) p.2
  let s := { s with cupMem := memWrite s.cupMem blobSram b }
  let s := (s.wr R.KEEP_BL_ADDR (BitVec.ofNat 32 blobSram)).wr R.KEEP_BL_LEN (BitVec.ofNat 32 p.2)
  let t := if e.2 = none32 then 2 ^ 14 else e.2 % 2 ^ 14
  (s.writeReg .cupola R.KEEP_BL_CMD (BitVec.ofNat 32 (0x80000000 + t))).answerSeek

/-- The entries in record order. One whose battery-backed key is lost is skipped (R348); another that fails makes the copy
invalid. -/
def State.bootBlobs (s : State) : List (Nat × Nat) → State × Bool
  | [] => (s, true)
  | e :: l =>
    let s := s.bootBlob e
    if s.rd R.KEEP_BL_RES = 0 || !s.keep.bbkValid then s.bootBlobs l else (s, false)

/-- Milestone 6: the wipe of a roll-forward to ANALYSIS (R498), the blobs, the first seed. -/
def State.bootKeys (s : State) : State :=
  if s.milestone ≠ 5 ∨ s.bootMode ≠ 0 ∨ s.rngState ≠ rngRunning then s
  else
    let s := s.wipeDone
    if s.get F.LCS_STATE_STATE = 0 then s.reach 6
    else match s.bootBlobs (blobEntries s.cfgRecs) with
      | (s, true) => s.reach 6
      | (s, false) => s.contentFail

/-! ### Records (R343 to R346, R353) -/

/-- The lane modes of the ports. -/
def State.setModes (s : State) (rs : List Rec) : State :=
  (List.range 16).foldl (fun (s : State) p =>
    let m := portLanes rs (s.get F.GLB_STRAP_LINE_MODE) p
    let s := (s.put (F.LIF_PMODE_RATE p) m.1).put (F.LIF_PMODE_LANES p) m.2
    (s.put (F.LIF_PMODE_FIRST_LANE p) p).putB (F.LIF_PMODE_VIGIL_10G p) (p % 8 == s.get F.GLB_STRAP_VIGIL_EFF)) s

/-- LINE (R343). -/
def State.applyLine (s : State) (rs : List Rec) (b : List Byte) : State :=
  let s := if bit (byteAt b 4) 7 then (s.put F.GLB_STRAP_VIGIL_EFF (byteAt b 4 % 8)).set F.GLB_STRAP_VIGIL_OVR else s
  let s := if s.get F.GLB_STRAP_LINE_MODE ≠ 3 ∧ !allZero (b.take 4) then s.set F.GLB_STRAP_LINE_OVR else s
  s.setModes rs

/-- PORT (R344). -/
def State.applyPort (s : State) (b : List Byte) : State :=
  let p := byteAt b 0 % 16
  let w := fun (s : State) (o i : Nat) => s.writeReg .cupola o (BitVec.ofNat 32 (leAt b i 4))
  let s := w (w (w (w s (R.LIF_PCFG p) 4) (R.LIF_MAXFRM p) 8) (R.LIF_QMAX p) 12) (R.LIF_CL0_POL p) 16
  let s := w (w (w s (R.LIF_PTP_RXCOMP p) 20) (R.LIF_PTP_TXCOMP p) 24) (R.LIF_EVT_EN p) 28
  s.writeReg .cupola (R.LIF_PCTL p) 1

/-- One entry of REG: read, replace, write, read back (R345). -/
def State.applyReg (s : State) (e : Nat × Nat × Nat) : State × Bool :=
  let m := BitVec.ofNat 32 e.2.2
  let v := BitVec.ofNat 32 (s.view .cupola e.1) &&& ~~~ m ||| BitVec.ofNat 32 e.2.1 &&& m
  let s := s.writeReg .cupola e.1 v
  (s, (BitVec.ofNat 32 (s.view .cupola e.1) ^^^ v) &&& m == 0)

/-- The entries of REG in order. -/
def State.applyRegs (s : State) : List (Nat × Nat × Nat) → State × Bool
  | [] => (s, true)
  | e :: l => match s.applyReg e with
    | (s, true) => s.applyRegs l
    | x => x

/-- A flow-only install by Cupola firmware through Q[4095] (R319, R346). -/
def State.fwInstall (s : State) (es : List (List Byte)) : State × Bool :=
  let es := es.map (storedEntry 31 s.time)
  if s.flowDup es then (s, false)
  else match s.insertFlows false es with
    | none => (s.flowRejected, false)
    | some s => (({ s with cts := { s.cts with flowOnly := s.cts.flowOnly ++ es.map feKey } }).commitBegin, true)

/-- An L2 entry TO_SVC of an interface. -/
def svcEntry (port : Nat) (mac vid : List Byte) (etype : List Byte) : List Byte :=
  fit 40 ([1, BitVec.ofNat 8 port] ++ mac ++ vid ++ etype) ++ natLE 4 none32 ++ [4, 0] ++ natLE 1 (port ^^^ 8) ++ zeros 17

/-- The entries of an SVC_NET record (R346). -/
def netEntries (b : List Byte) : List (List Byte) :=
  let f := byteAt b 1
  let vid := if bit f 2 then natBE 2 (leAt b 2 2) else [0xFF, 0xFF]
  let mac := slice b 4 6
  let e := svcEntry (byteAt b 0)
  (if bit f 0 then [e mac vid [8, 0], e mac vid [8, 6], e [0xFF, 0xFF, 0xFF, 0xFF, 0xFF, 0xFF] vid [8, 6]] else []) ++
  if bit f 1 then [e mac vid [0x86, 0xDD], e ([0x33, 0x33, 0xFF] ++ slice b 37 3) vid [0x86, 0xDD]] else []

/-- The types that R342 names. -/
def knownRec (t : Nat) : Bool := recMax.any (·.1 == t)

/-- One record. -/
def State.applyRec (s : State) (rs : List Rec) (r : Rec) : State × Bool :=
  match r.typ with
  | 0x01 => (s.applyLine rs r.body, true)
  | 0x02 => (s.applyPort r.body, true)
  | 0x03 => s.applyRegs (regEntries [r])
  | 0x10 => s.fwInstall (netEntries r.body)
  | 0x40 => s.fwInstall (entriesOf (r.body.length / 64) r.body)
  | t => (if knownRec t then s else s.almanac 4 t 0, true)

/-- The records in order, up to one that fails. -/
def State.applyRecs (s : State) (rs : List Rec) : List Rec → State × Bool
  | [] => (s, true)
  | r :: l => match s.applyRec rs r with
    | (s, true) => s.applyRecs rs l
    | x => x

/-- Whether JQM, IPP and SVC may be released (R490, R498). -/
def State.mayRelease (s : State) : Bool := !s.dead && s.get F.LCS_STATE_STATE != 0 && !s.on F.LCS_STAT_IN_TRANSITION

/-- The SVC firmware of a BOOT copy has its digest (R585). -/
def svcImageOk (boot : List Byte) : Bool := slice boot 48 48 == sha384 (slice boot (leAt boot 32 4) (leAt boot 36 4))

/-- SVC starts, with nothing of an earlier run. -/
def State.startSvc (s : State) : State :=
  let s := s.clearSvc
  { s with power := { s.power with svcUp := true } }

/-- Milestone 7. -/
def State.bootService (s : State) : State :=
  if s.milestone ≠ 6 ∨ s.bootMode ≠ 0 ∨ !s.mayRelease then s
  else if !svcImageOk s.cup.boot then s.systemReset 2
  else match s.applyRecs s.cfgRecs s.cfgRecs with
    | (s, false) => s.contentFail
    | (s, true) =>
      let s := { s with power := { s.power with jqmUp := true, ippUp := true }, cup := { s.cup with ms7At := some s.time } }
      let s := (s.startSvc.set F.IPP_CTL_EN).put F.CUP_BOOT_STAT_MODE (if s.pushed then 4 else 1)
      s.reach 7

/-- The boot as far as it goes now. -/
def State.bootPass (s : State) : State := s.bootRom.bootStores.bootConfig.bootMemory.bootKeys.bootService

/-- A boot that waits goes on; a copy that proves invalid makes it start again, at most once for each copy. -/
def State.bootGo (s : State) : State :=
  if s.power.cupUp && !s.lcs.cupHalted then s.bootPass.bootPass.bootPass else s

/-! ### Release (R543, R544) -/

/-- The OTP contents that Cupola's registers show (R598). -/
def State.showOtp (s : State) : State :=
  let a := fun (s : State) (f c : Fld) (n : Nat) => (s.put f n).putB c (n == 127)
  let s := a (a (a s F.CUP_ARB_FW F.CUP_ARB_FW_CEIL s.cup.arbFw) F.CUP_ARB_UCODE F.CUP_ARB_UC_CEIL s.cup.arbUc)
    F.CUP_ARB_CFG F.CUP_ARB_CFG_CEIL s.cup.arbCfg
  let m := fun (l : List (Nat × CfgKey)) => (l.map (fun e => 2 ^ e.1)).sum
  (s.put F.CUP_KEYS_USABLE (m s.usableKeys)).put F.CUP_KEYS_REVOKED (m (s.cup.keys.filter (·.2.revoked)))

/-- The device leaves its reset: milestone 1, and the boot begins. -/
def State.release (s : State) (u : OtpNoise) : State :=
  let s := { s with power := { s.power with sysHeld := false, coreUp := true, cupUp := true } }
  let s := { s with blf := { s.blf with startAt := s.time } }
  let s := s.lcsRead u
  let s := s.putB F.LCS_STAT_WIPE_WAIT (s.on F.LCS_STAT_ROLL_FWD && s.get F.LCS_STATE_STATE == 4)
  let s := ((((s.showOwner.showOtp.blankSession.set F.KEEP_STAT_READY).putB F.KEEP_STAT_DS_OK s.otp.ds.isSome).syncBattery).set
    F.BLF_STAT_READY).set F.BLF_STAT_START_WINDOW
  let s := ((s.rngRelease.setModes []).restartGovernor).reach 1
  let s := if s.clockReady 0 then s else { s.set F.CKG_SEL_MGMT_SRC with cpm := { s.cpm with svcHold := true } }
  s.romClocks.bootGo

/-- The straps are sampled (R541, R542). -/
def State.sampleStraps (s : State) (x : Straps) : State :=
  let bad := x.bootSrc == 1 && !x.hostEn
  let s := ((s.put F.GLB_STRAP_BOOT_SRC (if bad then 2 else x.bootSrc.toNat)).putB F.GLB_STRAP_HOST_EN x.hostEn).putB
    F.GLB_STRAP_NV_IO x.nvIo
  let s := ((s.put F.GLB_STRAP_LINE_MODE x.lineMode.toNat).put F.GLB_STRAP_SMB_ADDR x.smbAddr.toNat).put
    F.GLB_STRAP_VIGIL_PORT x.vigilPort.toNat
  (s.put F.GLB_STRAP_VIGIL_EFF x.vigilPort.toNat).putB F.GLB_STRAP_CONFLICT bad

/-- PWR_OK rises (R543): the battery domain is on main power, the clocks of R539 step 6 run. -/
def State.powerOn (s : State) (x : Straps) (u : OtpNoise) : State :=
  if s.power.pwrOk then s
  else
    let s := { s with
      power := { s.power with pwrOk := true }
      blf := { s.blf with backup := false }
      alm := { s.alm with boots := s.alm.boots + 1 }
      cpm := { s.cpm with ready := if x.hostEn then [0, 1, 2, 3, 4] else [0, 1, 2, 4], powerOn := s.time } }
    let s := s.sampleStraps x
    let s := if s.get F.BLF_BAT_STAT_EVT = 0 then s else (s.raise 18).set F.KEEP_STAT_BBK_LOST
    let s := if !s.keep.bbkValid && s.keep.bbkGen != 0 then s.bbkLost else s
    if s.power.sysrstLow then s else s.release u

/-- SYSRST_N is high and 100 µs have passed (R544). -/
def State.sysRelease (s : State) (u : OtpNoise) : State :=
  let s := { s with power := { s.power with sysrstLow := false } }
  if s.power.pwrOk && s.power.sysHeld && !s.fcr.lockdown && !s.cpm.tripped && !s.lcs.tapHold then s.release u else s

/-! ### Images delivered (R356, R586) -/

/-- Write an image to both copies of a TARGET, A first. -/
def State.writeBoth (s : State) (target : Nat) (img : List Byte) : State :=
  [0, 1].foldl (fun (s : State) c =>
    (s.flashErase (copyBase target c) ((img.length + sectorSize - 1) / sectorSize * sectorSize)).flashWrite
      (copyBase target c) img) s

/-- A BOOT copy delivered in ROM recovery, or pushed. -/
def State.bootImage (s : State) (img : List Byte) : State :=
  let push := s.pushed && s.milestone == 1 && s.bootMode == 0 && s.on F.CTS_STAT_READY
  if !s.power.cupUp || !(s.bootMode == 3 || push) then s
  else
    let e := s.copyCheck 1 img
    let s := { s with cup := { s.cup with bootFail := (e, e) } }
    if e ≠ 0 then s
    else if push then (s.startFirmware img).bootGo
    else
      let s := (s.writeBoth 1 img).put F.CUP_BOOT_STAT_MODE 0
      ((s.put F.CUP_BOOT_STAT_RECOVERY_REASON 0).reach 1).bootGo

/-- A configuration image delivered in RECOVERY, or pushed. -/
def State.configImage (s : State) (img : List Byte) : State :=
  let push := s.pushed && s.milestone == 3 && s.bootMode == 0 && s.on F.CTS_STAT_READY
  if !s.power.cupUp || s.dead || !(s.bootMode == 2 || push) then s
  else
    let e := s.fullCheck (s.copyCheck 2 img) img
    let s := { s with cup := { s.cup with cfgFail := (e, e) } }
    if e ≠ 0 then s
    else
      let s := if s.pushed then s else (s.writeBoth 2 img).put F.CUP_BOOT_STAT_CFG_COPY 0
      let s := (s.put F.CUP_BOOT_STAT_MODE 0).put F.CUP_BOOT_STAT_RECOVERY_REASON 0
      (s.takeImage img).bootGo

/-! ### Cupola (R572, R574) -/

/-- The boot ROM restarts Cupola. -/
def State.warmRestart (s : State) : State :=
  if !s.power.pwrOk || s.power.sysHeld || s.power.cupUp || s.cpm.tripped then s
  else if 4 ≤ (s.cup.restarts.filter (fun t => decide (s.time < t + 60000000000))).length then s.systemReset 2
  else
    let up := { s with power := { s.power with cupUp := true } }
    if s.milestone < 2 then up.bootGo
    else
      let img := if s.pushed then s.cup.boot else s.readCopy 1 (s.get F.CUP_BOOT_STAT_BOOT_COPY)
      if s.copyCheck 1 img ≠ 0 then s.systemReset 2
      else
        let s := up.put F.CUP_RESTARTS_COUNT (min 255 (s.get F.CUP_RESTARTS_COUNT + 1))
        (s.raise 228).bootGo

/-! ### What else lets a boot go on -/

/-- The first seed (R447): RNG runs, a BBK draw that was held goes on, memory is rotated where it has no key, the boot goes
on. -/
def State.firstSeed (s : State) : State :=
  if s.alive && s.rngState == rngSeeding then
    let s := s.rngRun
    (if s.on F.KEEP_BBK_CTL_GEN then s.bbkGenerate else s).bootRotate.bootGo
  else s

/-- A clock source is READY again. -/
def State.clockReturns (s : State) (c : Nat) : State :=
  let s := s.clockBack c
  if c = 4 then s.bootRotate.bootGo else s

/-- The steps of a transition have ended (R497 steps 7 and 8). -/
def State.transitionDone (s : State) : State :=
  if !s.alive || !s.transitionReady then s
  else
    let t := s.get F.LCS_STAT_TARGET
    let s := s.transitionEnd
    if t = 5 then s.systemReset 4 else s.bootGo

/-- The protected port of the first peer that SVC is to initiate to (R357). -/
def State.firstPeerPort (s : State) : Option Nat :=
  let rs := s.cfgRecs
  let ini := fun (b : List Byte) => match policyOf rs (leAt b 2 2) with
    | some p => bit (byteAt p 6) 4
    | none => false
  ((bodies rs 0x21).find? ini).map (fun b => byteAt ((bodies rs 0x10).getD (byteAt b 5) []) 0)

/-- Milestone 8: the link of that interface is up. -/
def State.noteLink (s : State) (p : Nat) : State :=
  if s.milestone = 7 ∧ s.firstPeerPort = some p ∧ s.on (F.LIF_PSTAT_LINK_UP p) then s.reach 8 else s

/-! ### The commands -/

def execPowerOnReset (straps : Straps) (u : OtpNoise) (s : State) : Out := .next (s.powerOn straps u)

def execSysrstNRelease (u : OtpNoise) (s : State) : Out := .next (s.sysRelease u)

def execFirstSeed (s : State) : Out := .next s.firstSeed

def execClockReady (c : Fin 6) (s : State) : Out := .next (s.clockReturns c)

def execTransitionComplete (s : State) : Out := .next s.transitionDone

def execRomRecoveryImage (img : List Byte) (s : State) : Out := .next (s.bootImage img)

def execRecoveryImage (img : List Byte) (s : State) : Out := .next (s.configImage img)

def execWarmRestart (s : State) : Out := .next s.warmRestart

/-- The checker of the two cores withholds an output (R572). -/
def execLockstepMismatch (s : State) : Out :=
  .next (if s.power.cupUp then (s.report srcCup 0x05 0 0).inc (R.CUP_CNT 2) else s)

/-- The PCIe link comes up (R622). -/
def execPcieLinkUp (s : State) : Out :=
  .next (if s.power.coreUp && s.on F.GLB_STRAP_HOST_EN && s.clockReady 3 && !s.inReset 11 && !s.inVigil && !s.cpm.tripped then
    { s with power := { s.power with hostUp := true } }
  else s)

end Sys2Proof.Machine
end

