-- ==== Sys2Proof/Machine/SvcBase.lean ====
section
/-! DEFINITION. SVC's part in the pipeline (08): what its configuration says of a peer (R349 to R352), its jobs (R358), the
CTX_IDs that it takes (R347), and the contexts and flow entries of a child SA (R368, R369). -/

namespace Sys2Proof.Machine

/-! ### Configuration -/

/-- The policy of a peer (R350); empty where the image has none. -/
def State.peerPolicy (s : State) (i : Nat) : List Byte :=
  match peerOf s.cfgRecs i with
  | some q => (policyOf s.cfgRecs (leAt q 2 2)).getD []
  | none => []

/-- Whether a peer is configured and its policy active: a lost key keeps a policy inactive (R348). -/
def State.peerActive (s : State) (i : Nat) : Bool := !(s.peerPolicy i).isEmpty && !s.on F.KEEP_STAT_BBK_LOST

/-- The interface of an SVC_NET index. -/
def State.netRec (s : State) (i : Nat) : List Byte := (bodies s.cfgRecs 0x10).getD i []

/-- The interface of a peer. -/
def State.peerNet (s : State) (i : Nat) : List Byte :=
  match peerOf s.cfgRecs i with
  | some q => s.netRec (byteAt q 5)
  | none => []

/-- The CHILD records, and those of a peer by their index. -/
def State.childRecs (s : State) : List (List Byte) := bodies s.cfgRecs 0x22
def State.childrenOf (s : State) (i : Nat) : List Nat :=
  (List.range s.childRecs.length).filter (fun k => leAt (s.childRecs.getD k []) 0 2 == i)

def pEncr (p : List Byte) : Nat := byteAt p 7
def pAddKe (p : List Byte) : Bool := byteAt p 5 != 0
def pPqRequired (p : List Byte) : Bool := bit (byteAt p 6) 0
def pChildPfs (p : List Byte) : Bool := bit (byteAt p 6) 1
def pWide (p : List Byte) : Bool := bit (byteAt p 6) 2
def pInitiator (p : List Byte) : Bool := bit (byteAt p 6) 4

/-- The time in ns at which a lifetime of `life` seconds that began at `born` asks for a rekey (R349). -/
def softAt (p : List Byte) (born life : Nat) : Nat := born + life * 10000000 * byteAt p 16

def rMacsec (r : List Byte) : Bool := byteAt r 2 == 2
def rClass0 (r : List Byte) : Bool := bit (byteAt r 3) 0
def rPort (r : List Byte) : Nat := byteAt r 4

/-- The clear-side flow entries of a CHILD record. -/
def rFlows (r : List Byte) : List (List Byte) := entriesOf (byteAt r 6) (r.drop 48)

/-- The port at which a CHILD record's frames enter on the clear side. -/
def rClearPort (r : List Byte) : Nat := feInPort (r.drop 48)

/-! ### What SVC sends and sees -/

/-- Whether SVC can act: its cores run, and JQM dispatches its jobs (R37, R514). -/
def State.svcActs (s : State) : Bool := s.svcRuns && s.power.jqmUp && !s.on F.FLT_STAT_QUIESCED

def State.svcSay (s : State) (dest : Nat) (m : SvcMsg) : State := { s with svc := { s.svc with sent := s.svc.sent ++ [(dest, m)] } }

/-- The state and last failure of a peer. -/
def State.setPeer (s : State) (i up failure : Nat) : State :=
  { s with svc := { s.svc with peers := sput (fun _ => (0, 0)) s.svc.peers i (up, failure) } }

/-! ### Jobs (R358) -/

/-- The descriptor of a context job of SVC. -/
def svcDesc (op c pred flags nflow : Nat) : List Byte :=
  let d := setLE (setLE (zeros 128) 4 2 op) 48 4 c
  let d := setLE (setLE d 44 4 none32) 52 4 none32
  setLE (setLE (setLE d 72 1 flags) 73 1 nflow) 76 4 pred

/-- A job of SVC's that `f` performs, with its status and DETAIL. -/
def State.svcJob (s : State) (d : List Byte) (f : State → Job → State) : State × Err :=
  let id := s.jqm.nextId
  let j : Job :=
    { id := id, kind := .queue, q := 3968, owner := 0x3F, addr := 0, desc := d, cls := 1, res := .arbiter, engine := engArb,
      engine2 := 256, phase := .running, wait := .none, abort := .none, hold := .own, spire := Spire.entry 0, targets := [],
      slotWritten := false, newHandle := 0, iters := 0, leaf := none, inp := none, key := [], rnd := [], discard := false,
      doneAt := 0, result := none }
  let s := f { s with jqm := { s.jqm with jobs := s.jqm.jobs ++ [j], nextId := id + 1 } } j
  let r := match s.job? id with
    | some k => k.result
    | none => none
  (s.dropJob id, match r with
    | some r => (r.status, r.detail)
    | none => (stFault, 0))

/-- CTX_INSTALL of a RESERVED context, with its key in place. -/
def State.svcInstall (s : State) (c pred switch : Nat) (pin : Bool) (img : List Byte) (es : List (List Byte)) : State × Err :=
  s.svcJob (svcDesc opCtxInstall c pred (1 + (if pin then 2 else 0) + 4 * switch) es.length)
    (fun s j => s.runInstallCtx j ⟨img ++ es.flatMap id, 0, []⟩)

/-- CTX_RETIRE; one that completes CONTEXT_BUSY leaves the context. -/
def State.svcRetire (s : State) (c : Nat) : State :=
  if cState (s.ctx c) = csEmpty ∨ !s.ctxReach c then s
  else (s.svcJob (svcDesc opCtxRetire c none32 0 0) (fun s j => s.runRetireCtx j ⟨[], 0, []⟩)).1

def State.svcRetireAll (s : State) (cs : List Nat) : State := cs.foldl State.svcRetire s

/-- CTX_UPDATE that writes ACTIVE to a STANDBY successor (R317, R372). -/
def State.svcActivate (s : State) (c : Nat) : State :=
  if cState (s.ctx c) ≠ csStandby ∨ !s.ctxReach c then s
  else (s.svcJob (svcDesc opCtxUpdate c none32 0 0)
    (fun s j => s.updateRun j ⟨setLE (zeros 512) 17 1 csActive, 0, []⟩ (setLE (zeros 64) 2 1 2) [])).1

/-- DERIVE of keys into EMPTY contexts, which become RESERVED (R366): (CTX_ID, key bytes). The derived bytes are free. -/
def State.svcDerive (s : State) (cs : List (Nat × Nat)) : State :=
  let r := cs.foldl (fun (r : State × List (Dest × List Byte)) c =>
    let (k, s) := r.1.freeBytes c.2
    (s, r.2 ++ [(⟨2, 0, c.2, c.1, 0, 0, 0, 0⟩, k)])) (s, [])
  (r.1.commitBegin.deriveContexts 31 r.2).inc (R.KEEP_CNT 1)

/-- A key that KEEP makes for SVC, in an EMPTY slot: its handle, or none without room. -/
def State.svcSlot (s : State) (x : List Byte → Slot) (key : List Byte) : State × Option Nat :=
  match s.findTarget none32 key.length false with
  | none => (s, none)
  | some i =>
    let s := s.fillSlot i (x key)
    (s, some (s.handleOf i))

/-- Erase the slots of handles that are still live. -/
def State.svcErase (s : State) (xs : List Nat) : State :=
  xs.foldl (fun (s : State) h => if (s.liveSlot h).isSome then s.eraseSlot (hSlot h) else s) s

/-! ### CTX_IDs (R347) -/

/-- The first of `n` numbers from `c` on that a test takes. -/
def firstFrom (p : Nat → Bool) : Nat → Nat → Option Nat
  | 0, _ => none
  | n + 1, c => if p c then some c else firstFrom p n (c + 1)

/-- Whether a child SA holds a context, or held it in a rollover not yet settled. -/
def ChildSa.holds (k : ChildSa) (c : Nat) : Bool :=
  k.rx == c || k.tx == c || (match k.succ with
    | some (a, b) => a == c || b == c
    | none => false)

/-- An EMPTY context that SVC can reach and that no child SA names. -/
def State.svcFree (s : State) (c : Nat) : Bool :=
  cState (s.ctx c) == csEmpty && s.ctxReach c && s.svc.childs.all (fun k => !k.holds c)

/-- The four contexts of a quadruple. -/
def quadOf4 (q : Nat) : List Nat := (List.range 4).map (q * 4 + ·)

/-- The lowest EMPTY CTX_ID of the SA range outside the quadruples in use, apart from those skipped. -/
def State.allocOne (s : State) (skip : Nat → Bool) : Option Nat :=
  let p := poolOf s.cfgRecs
  firstFrom (fun c => !skip c && s.svcFree c && (quadOf4 (c / 4)).all (fun i => cType (s.ctx i) != ctMacsecRx)) p.saCount
    p.saBase

/-- The base of the lowest quadruple of the SA range that is EMPTY as a whole. -/
def State.allocQuad (s : State) : Option Nat :=
  let p := poolOf s.cfgRecs
  (firstFrom (fun q => (quadOf4 q).all s.svcFree) (p.saCount / 4) (p.saBase / 4)).map (· * 4)

/-- The pins that SVC holds. -/
def State.svcPins (s : State) : Nat := (s.pinnedCtxs.filter (fun c => cOwner (s.ctx c) == 31)).length

/-! ### Images and entries of a child SA -/

/-- What a child SA is installed with: the policy, the interface, the peer's record, the CHILD record, the AN, whether
UDP encapsulation applies, and both SPIs, SVC's own first. -/
structure ChildIn where
  pol : List Byte
  net : List Byte
  peer : List Byte
  rc : List Byte
  an : Nat
  udp : Bool
  spiIn : Nat
  spiOut : Nat

/-- The common fields of an image (R306). -/
def imageOf (t flags cipher drain : Nat) : List Byte := setLE (setLE (setLE (setLE (zeros 512) 16 1 t) 18 2 flags) 20 1 cipher) 40 4 drain

/-- A flag of CFLAGS. -/
def flagIf (b : Bool) (i : Nat) : Nat := if b then 2 ^ i else 0

/-- The cipher of a child SA: the lowest that the policy accepts, for MACsec AES-GCM (R349, R369). -/
def ChildIn.cipher (i : ChildIn) : Nat := if rMacsec i.rc || bit (pEncr i.pol) 0 then 1 else 2

def ChildIn.drain (i : ChildIn) : Nat := leAt i.pol 20 4

/-- The outer headers of an ESP_OUT context (R264, R309): Ethernet header, IP header, UDP header. -/
def ChildIn.template (i : ChildIn) : List Byte :=
  let v6 := byteAt i.peer 4 == 6
  let ip := if v6 then natBE 4 0x60000000 ++ zeros 4 ++ slice i.net 24 16 ++ slice i.peer 8 16
    else [0x45] ++ zeros 11 ++ slice i.net 16 4 ++ slice i.peer 8 4
  netHead i.net (if v6 then 0x86DD else 0x0800) ++ ip ++ if i.udp then natBE 2 4500 ++ natBE 2 4500 ++ zeros 4 else []

/-- The MACsec fields that both directions share. -/
def ChildIn.macsec (i : ChildIn) (x : List Byte) (sciAt ssci : Nat) : List Byte :=
  let x := setLE (setLE (patch x 128 (slice i.rc sciAt 8)) 136 1 i.an) 137 1 (byteAt i.rc 5)
  if pWide i.pol then setLE x 140 4 ssci else x

/-- The transmit image. -/
def ChildIn.txImage (i : ChildIn) : List Byte :=
  let f := byteAt i.rc 3
  let wide := flagIf (pWide i.pol) 2
  if rMacsec i.rc then
    i.macsec (imageOf ctMacsecTx (flagIf (bit f 1) 1 + wide + flagIf (bit f 2) 7) 1 i.drain) 8 i.spiOut
  else
    let x := imageOf ctEspOut (wide + flagIf i.udp 4 + flagIf (bit f 3) 5 + flagIf (bit f 4) 6) i.cipher i.drain
    let x := setLE (setLE (setLE x 128 4 i.spiOut) 132 1 (byteAt i.rc 24)) 133 1 (byteAt i.rc 7)
    patch (setLE x 134 1 i.template.length) 144 i.template

/-- The receive image. -/
def ChildIn.rxImage (i : ChildIn) : List Byte :=
  let f := byteAt i.rc 3
  let log := byteAt i.pol 17
  let common := flagIf (pWide i.pol) 2 + flagIf (log != 0) 3
  if rMacsec i.rc then
    setLE (i.macsec (imageOf ctMacsecRx (common + flagIf (bit f 2) 7) 1 i.drain) 16 i.spiIn) 152 4 (if log = 0 then 0 else 2 ^ log)
  else
    let x := imageOf ctEspIn (common + flagIf i.udp 4 + flagIf (bit f 3) 5) i.cipher i.drain
    setLE (setLE x 128 4 i.spiIn) 133 1 (max 6 log)

/-- The key bytes of a child SA's contexts (R316): with a salt for ESP and for XPN. -/
def ChildIn.keyLen (i : ChildIn) : Nat := if !rMacsec i.rc then 36 else if pWide i.pol then 44 else 32

/-- The CHILD flow entries as the transmit install carries them (R351, R368). -/
def ChildIn.txFlows (i : ChildIn) (c : Nat) : List (List Byte) :=
  (rFlows i.rc).map (fun e =>
    let e := setLE (setLE (setLE e 40 4 c) 44 1 1) 46 1 (rPort i.rc)
    setFeFlags e (feFlags e / 2 * 2 + flagIf (rClass0 i.rc) 0))

/-- The protected-side entry of the receive install (R368, R370). -/
def ChildIn.rxFlow (i : ChildIn) (c : Nat) : List Byte :=
  let key := if rMacsec i.rc then mkKey 2 (rPort i.rc) (slice i.rc 16 8)
    else
      let v6 := byteAt i.peer 4 == 6
      mkKey (if v6 then 4 else 3) (rPort i.rc)
        ((if v6 then slice i.net 24 16 else slice i.net 16 4) ++ natBE 4 i.spiIn ++ natBE 1 (flagIf i.udp 0))
  key ++ natLE 4 (if rMacsec i.rc then c / 4 * 4 else c) ++ [2] ++ natLE 1 (flagIf (rClass0 i.rc) 0) ++ natLE 1 (rClearPort i.rc) ++
    zeros 17

/-! ### Installing a child SA (R368, R372) -/

/-- A pinned install beyond PIN_QUOTA is not tried; it counts as refused with DETAIL 72. -/
def State.childInstall (s : State) (i : ChildIn) (c pred switch : Nat) (img : List Byte) (es : List (List Byte)) : State × Err :=
  if rClass0 i.rc ∧ (poolOf s.cfgRecs).quota ≤ s.svcPins then (s, malformed 72)
  else s.svcInstall c pred switch (rClass0 i.rc) img es

/-- The notification for a refused install. -/
def State.refusal (s : State) (e : Err) : State × SvcMsg :=
  if e = malformed 72 then (s.raise 236, .temporaryFailure)
  else if e = malformed 73 then (s, .tsUnacceptable)
  else (s, .temporaryFailure)

/-- Install the contexts of a child SA, receive before transmit, as successors where predecessors are named; on a refusal
whatever was installed is retired. -/
def State.childInstalls (s : State) (i : ChildIn) (rx tx : Nat) (rxPred txPred : Option Nat) : State × Option SvcMsg :=
  let s := s.svcDerive [(rx, i.keyLen), (tx, i.keyLen)]
  let sw := fun (p : Option Nat) (k : Nat) => if p.isSome then k else 0
  let rxFlows := if rMacsec i.rc && rxPred.isSome then [] else [i.rxFlow rx]
  let txFlows := if txPred.isSome then [] else i.txFlows tx
  match s.childInstall i rx (rxPred.getD none32) (sw rxPred 2) i.rxImage rxFlows with
  | (s, e) =>
    if e.1 ≠ stOk then
      let (s, m) := (s.svcRetireAll [rx, tx]).refusal e
      (s, some m)
    else match s.childInstall i tx (txPred.getD none32) (sw txPred 3) i.txImage txFlows with
      | (s, e) =>
        if e.1 ≠ stOk then
          let (s, m) := (s.svcRetireAll [rx, tx]).refusal e
          (s, some m)
        else (s, none)

/-- The inputs of a child SA of a peer: SPIs, and UDP encapsulation where it is not forced but a NAT may be found, are
free. -/
def State.childIn (s : State) (peer record an : Nat) : ChildIn × State :=
  let p := s.peerPolicy peer
  let (a, s) := s.freeNat
  let (b, s) := s.freeNat
  let (nat_, s) := s.freeBool
  let f := byteAt p 6
  (⟨p, s.peerNet peer, (peerOf s.cfgRecs peer).getD [], s.childRecs.getD record [], an % 4, bit f 5 || (bit f 3 && nat_),
    256 + a % (2 ^ 32 - 256), 256 + b % (2 ^ 32 - 256)⟩, s)

/-- The receive context of a new child SA: a quadruple's first for MACsec, its next for a successor (R369). -/
def State.allocRx (s : State) (macsec : Bool) (rxPred : Option Nat) (an : Nat) : Option Nat :=
  if !macsec then s.allocOne (fun _ => false)
  else match rxPred with
    | some p => if s.svcFree (p / 4 * 4 + an % 4) then some (p / 4 * 4 + an % 4) else none
    | none => s.allocQuad.map (· + an % 4)

/-- Choose contexts for a child SA and install them: the contexts, or the notification with which SVC refuses it. -/
def State.childUp (s : State) (peer record an : Nat) (rxPred txPred : Option Nat) : State × Except SvcMsg (Nat × Nat) :=
  let (i, s) := s.childIn peer record an
  let m := rMacsec i.rc
  if (if m then !bit (pEncr i.pol) 0 else pEncr i.pol == 0) then (s, .error .noProposal)
  else match s.allocRx m rxPred an with
    | none => (s.raise 237, .error .noAdditionalSas)
    | some rx => match s.allocOne (fun c => if m then c / 4 == rx / 4 else c == rx) with
      | none => (s.raise 237, .error .noAdditionalSas)
      | some tx => match s.childInstalls i rx tx rxPred txPred with
        | (s, some e) => (s, .error e)
        | (s, none) => (s, .ok (rx, tx))

/-! ### Predecessors after a restart (R363) -/

/-- An ACTIVE context of SVC's that no child SA names. -/
def State.orphan (s : State) (c : Nat) : Bool :=
  c != none32 && cState (s.ctx c) == csActive && cOwner (s.ctx c) == 31 && s.svc.childs.all (fun k => !k.holds c)

/-- The flow entry of a key. -/
def State.entryOfKey (s : State) (k : List Byte) : List Byte :=
  match s.findFlow k with
  | some r => s.flowGet r
  | none => []

/-- The transmit context that serves a CHILD record's first flow. -/
def State.orphanTx (s : State) (r : List Byte) : Option Nat :=
  let e := s.entryOfKey (feKey (r.drop 48))
  if !e.isEmpty && s.orphan (feCtx e) then some (feCtx e) else none

/-- Every protected-side ESP entry between the ports of a CHILD record. -/
def State.espEntries (s : State) (r : List Byte) : List (List Byte) :=
  (s.cts.pinFlows ++ s.cts.flows.map (·.2)).filter (fun e =>
    (feKtype e == 3 || feKtype e == 4) && feInPort e == rPort r && feEgress e == rClearPort r)

/-- The receive context that such a record replaces: of the SCI's quadruple, or the lowest that no child SA of SVC's
holds. -/
def State.orphanRx (s : State) (r : List Byte) : Option Nat :=
  if rMacsec r then
    let e := s.entryOfKey (mkKey 2 (rPort r) (slice r 16 8))
    if e.isEmpty then none else (quadOf4 (feCtx e / 4)).find? s.orphan
  else
    let cs := ((s.espEntries r).map feCtx).filter s.orphan
    cs.foldl (fun (a : Option Nat) c => match a with
      | some b => some (min b c)
      | none => some c) none

/-- The AN of a new child SA: 0, or the next after its predecessor's (R369). -/
def State.nextAn (s : State) (pred : Option Nat) : Nat :=
  match pred with
  | some c => (byteAt (s.ctx c) 136 + 1) % 4
  | none => 0

end Sys2Proof.Machine
end

