-- ==== Sys2Proof/Machine/Gdoi.lean ====
section
/-! DEFINITION. GDOI group keys in SVC (R373 to R376): the KDC's keys and pushes, registrations, and the TEKs that a member
receives. -/

namespace Sys2Proof.Machine

/-! ### Groups (R352) -/

def noGroup (_ : Nat) : GroupSt := ⟨[], false, 0, 0⟩

def State.groupSt (s : State) (g : Nat) : GroupSt := sget noGroup s.svc.groups g

def State.putGroup (s : State) (g : Nat) (x : GroupSt) : State :=
  { s with svc := { s.svc with groups := sput noGroup s.svc.groups g x } }

/-- The GDOI_GROUP records. -/
def State.groupRecs (s : State) : List (List Byte) := bodies s.cfgRecs 0x30
def State.groupRec (s : State) (g : Nat) : List Byte := s.groupRecs.getD g []

/-- The record of a GROUP_ID. -/
def State.groupOfId (s : State) (id : Nat) : Option Nat := s.groupRecs.findIdx? (fun b => leAt b 0 4 == id)

def gKdc (b : List Byte) : Bool := byteAt b 4 == 1
def gMember (b : List Byte) : Bool := byteAt b 4 == 2
def gCtx (b : List Byte) : Nat := leAt b 8 4
def gLife (b : List Byte) : Nat := leAt b 12 4
def gLead (b : List Byte) : Nat := leAt b 16 4

/-- The digests that may register with a group (R352). -/
def State.groupAcl (s : State) (id : Nat) : List (List Byte) :=
  ((bodies s.cfgRecs 0x31).filter (fun b => leAt b 0 4 == id)).flatMap
    (fun b => (List.range ((b.length - 8) / 32)).map (fun i => slice b (8 + 32 * i) 32))

/-- PTP time in seconds. -/
def State.ptpSec (s : State) : Nat := s.ipp.ptpNs / 1000000000

/-! ### The group context -/

/-- The image of a group context with its current key ID and period (R309). -/
def groupImage (b : List Byte) (keyId from_ to_ : Nat) : List Byte :=
  let x := setLE (imageOf ctGroup (flagIf (bit (byteAt b 6) 0) 7) 0 0) 128 4 keyId
  setLE (setLE (setLE x 136 1 (byteAt b 5)) 144 8 from_) 152 8 to_

/-- Install a group context with its first key. -/
def State.groupInstall (s : State) (b key : List Byte) (keyId from_ to_ : Nat) : State × Bool :=
  let img := groupImage b keyId from_ to_
  let (s, e) := s.svcJob (svcDesc opCtxInstall (gCtx b) none32 0 0) (fun s j => s.installRun j ⟨img, 0, []⟩ img [] key [] 0)
  (s, e.1 == stOk)

/-- Give a group context its next key by CTX_UPDATE with NEXT_KEY (R317, R375). -/
def State.groupNext (s : State) (b key : List Byte) (keyId from_ to_ : Nat) : State × Bool :=
  let img := setLE (setLE (setLE (zeros 512) 132 4 keyId) 160 8 from_) 168 8 to_
  let mask := patch (setLE (zeros 64) 16 1 0xF0) 20 [0xFF, 0xFF]
  let (s, e) := s.svcJob (svcDesc opCtxUpdate (gCtx b) none32 0 0) (fun s j => s.updateRun j ⟨img, 0, []⟩ mask key)
  (s, e.1 == stOk)

/-- Put a key into a group context: its current key where it is EMPTY, else its next one. -/
def State.groupKey (s : State) (b key : List Byte) (keyId from_ to_ : Nat) : State × Bool :=
  if !s.ctxReach (gCtx b) then (s, false)
  else if cState (s.ctx (gCtx b)) = csEmpty then s.groupInstall b key keyId from_ to_
  else s.groupNext b key keyId from_ to_

/-! ### The KDC (R374, R375) -/

/-- The slot that holds the key of a group. -/
def State.putGroupKey (s : State) (g h : Nat) : State :=
  { s with svc := { s.svc with groupKeys := sput (fun _ => 0) s.svc.groupKeys g h } }

/-- KEEP generates the key of a group in a slot of OWNER_GROUP 31 that may be exported (R375); the slot of the group's last
key is erased. -/
def State.groupSlot (s : State) (g : Nat) (key : List Byte) : State × Bool :=
  let alg := ctxAlg (groupImage (s.groupRec g) 0 0 0)
  match s.svcSlot (newSlot usSign orGenerated true alg 31 0) key with
  | (s, none) => (s, false)
  | (s, some h) =>
    let s := s.svcErase [sget (fun _ => 0) s.svc.groupKeys g]
    (s.putGroupKey g h, true)

/-- A new group key: its ID is free; the first is valid now, the next from REKEY_LEAD_S / 2 before the current one expires.
Its slot and its place in the context, and its ID; none where either is not to be had. -/
def State.groupFresh (s : State) (g : Nat) : State × Option Nat :=
  let b := s.groupRec g
  let x := s.ctx (gCtx b)
  let (u, s) := s.freeNat
  let id := u % 2 ^ 32
  let f := if cState x = csEmpty then s.ptpSec else leAt x 152 8 - gLead b / 2
  let (key, s) := s.freeBytes 32
  match s.groupSlot g key with
  | (s, false) => (s, none)
  | (s, true) => match s.groupKey b key id f (f + gLife b) with
    | (s, false) => (s, none)
    | (s, true) => (s, some id)

/-- The push of a new group key goes once to the multicast address, or to each member. -/
def State.groupPush (s : State) (g : Nat) : State :=
  match s.groupFresh g with
  | (s, none) => s
  | (s, some id) =>
    let b := s.groupRec g
    let st := s.groupSt g
    let s := s.putGroup g { st with seq := st.seq + 1, keyId := id }
    let s := if bit (byteAt b 6) 1 then s.svcSay g .push else st.members.foldl (fun (s : State) _ => s.svcSay g .push) s
    s.raise 235

/-- Whether the next push of a group is due (R375): no key yet, or REKEY_LEAD_S before the current one expires with no next
key in place. -/
def State.pushDue (s : State) (b : List Byte) : Bool :=
  let x := s.ctx (gCtx b)
  cState x == csEmpty || (leAt x 160 8 == 0 && decide (leAt x 152 8 ≤ s.ptpSec + gLead b))

/-- The registrations of every group together (R374). -/
def State.registrations (s : State) : Nat := (s.svc.groups.map (fun e => e.2.members.length)).sum

/-- A registration: the member's digest must be in the GDOI_ACL of the group. -/
def State.register (s : State) (id : Nat) (digest : List Byte) : State :=
  match s.groupOfId id with
  | none => s
  | some g =>
    let st := s.groupSt g
    if !gKdc (s.groupRec g) then s
    else if !(s.groupAcl id).contains digest then s.svcSay g .authFailed
    else if st.members.contains digest then s.svcSay g .registration
    else if 65536 ≤ s.registrations then s.svcSay g .temporaryFailure
    else (s.putGroup g { st with members := st.members ++ [digest] }).svcSay g .registration

/-! ### The member (R376) -/

/-- A TEK: discarded where it repeats the current key or its sequence number is not new; a validity that has begun counts
from now. -/
def State.tekReceived (s : State) (id : Nat) (push ok : Bool) (keyId seq from_ to_ : Nat) : State :=
  match s.groupOfId id with
  | none => s
  | some g =>
    let b := s.groupRec g
    let st := s.groupSt g
    let x := s.ctx (gCtx b)
    let empty := cState x == csEmpty
    if !gMember b ∨ !ok ∨ (!empty ∧ leAt x 128 4 = keyId) ∨ seq + 1 ≤ st.seq then s
    else
      let (key, s) := s.freeBytes 32
      match s.groupKey b key keyId (if empty then from_ else max from_ s.ptpSec) to_ with
      | (s, false) => s
      | (s, true) => s.putGroup g { st with registered := st.registered || !push, seq := seq + 1, keyId := keyId }

/-- A member asks to register. -/
def State.groupJoin (s : State) (g : Nat) : State :=
  (s.putGroup g { s.groupSt g with registered := false }).svcSay g .gsaAuth

/-- Whether the current key of a member has expired with no next one in place. -/
def State.joinDue (s : State) (b : List Byte) : Bool :=
  let x := s.ctx (gCtx b)
  cState x == csEmpty || (leAt x 160 8 == 0 && decide (leAt x 152 8 ≤ s.ptpSec))

/-- Whether SVC serves a group of a record. -/
def State.groupActive (s : State) (g : Nat) : Bool := s.svcActs && decide (g < s.groupRecs.length)

def State.onGdoi (s : State) : GdoiMsg → State
  | .register id d => s.register id.toNat d
  | .tek id push ok keyId seq f t => s.tekReceived id.toNat push ok keyId.toNat seq.toNat f.toNat t.toNat

/-! ### The commands -/

def execGdoiMessage (m : GdoiMsg) (s : State) : Out :=
  .next (if s.svcActs then
    { s with ipp := { s.ipp with svcRx := s.ipp.svcRx.drop 1 } }.onGdoi m
  else s)

def execGroupkeyPush (g : BitVec 16) (s : State) : Out :=
  let b := s.groupRec g.toNat
  .next (if s.groupActive g.toNat && gKdc b && s.pushDue b then s.groupPush g.toNat else s)

def execGroupReregister (g : BitVec 16) (s : State) : Out :=
  let b := s.groupRec g.toNat
  .next (if s.groupActive g.toNat && gMember b && s.joinDue b then s.groupJoin g.toNat else s)

end Sys2Proof.Machine
end

