-- ==== Sys2Proof/Machine/MbxCmds.lean ====
section
/-! DEFINITION. The SERVICE 0 commands of the Cupola mailbox (R591 to R597): status, sensors and log, updates, commits,
activation and owner keys; with the sampling of the rails. -/

namespace Sys2Proof.Machine

/-! ### Status (R591, R597) -/

/-- GENERATION of a copy in flash. -/
def State.copyGen (s : State) (target c : Nat) : List Byte := s.flashRead (copyBase target c + 8) 4

/-- The failed check of a copy, 0 for the one that runs. -/
def failedOf (fails : Nat × Nat) (c : Nat) : Byte := BitVec.ofNat 8 (if c = 0 then fails.1 else fails.2)

/-- The payload of BOOT_STATUS. -/
def State.bootStatusBytes (s : State) : List Byte :=
  natLE 4 (s.rd R.CUP_BOOT_STAT).toNat ++ s.copyGen 1 0 ++ s.copyGen 1 1 ++ s.copyGen 2 0 ++ s.copyGen 2 1 ++
  [failedOf s.cup.bootFail 0, failedOf s.cup.bootFail 1, failedOf s.cup.cfgFail 0, failedOf s.cup.cfgFail 1]

/-- The eight rails; free before the first sample. -/
def State.railBytes (s : State) : List Byte × State :=
  if s.cup.rails.length = 8 then (s.cup.rails.flatMap (natLE 2), s) else s.freeBytes 16

/-- The 32 bytes of SENSORS (R597). The battery domain's temperature is open. -/
def State.sensorBytes (s : State) : List Byte × State :=
  let c := s.cpm
  let (bt, s) := s.freeBytes 1
  let (rails, s) := s.railBytes
  ([c.tjMax, c.tjPred, if c.predValid then 1 else 0] ++ bt ++ natLE 4 (s.rd R.CTS_TEMP).toNat ++ natLE 2 c.vcore ++
    natLE 2 c.avsMv ++ natLE 2 c.amps ++ natLE 2 s.blf.vbat ++ rails, s)

/-- The entries of the Almanac, the queued ones with the numbers that await them. -/
def State.almEntries (s : State) : List AlmEntry :=
  s.alm.written ++ (s.alm.buffer.zipIdx).map (fun e => { e.1.2 with aseq := s.alm.nextSeq + e.2 })

/-- ALMANAC_READ: at most `n` entries from ASEQ `first` on. -/
def State.almRead (s : State) (w : MbxWin) (p : List Byte) : State :=
  let n := byteAt p 8
  let s := s.almDrain
  let es := (s.almEntries.filter (fun e => decide (leAt p 0 8 ≤ e.aseq))).take n
  if !within 1 63 n then s.respond w mbBadFrame 0 []
  else if es.isEmpty then s.respond w mbNotFound 0 []
  else s.respond w mbOk es.length (es.flatMap AlmEntry.bytes)

/-- The payload of VERSIONS: CUP_FW_VER to CUP_KEYS, and the three UCS registers. -/
def State.versionBytes (s : State) : List Byte :=
  (List.range 10).flatMap (fun i => natLE 4 (s.view .cupola (R.CUP_FW_VER + 4 * i))) ++
  ([R.UCODE_ROM_VER, R.UCODE_BUNDLE_ID, R.UCODE_PATCH_VER].flatMap (fun o => natLE 4 (s.view .cupola o)))

/-! ### Updates (R593, R594) -/

/-- Show a session in CUP_UPD_STAT. -/
def State.showUpdate (s : State) (u : UpdSt) (phase : Nat) : State :=
  ((s.put F.CUP_UPD_STAT_PHASE phase).put F.CUP_UPD_STAT_TARGET u.target).put F.CUP_UPD_STAT_HOLDER u.holder

/-- Whether an image of a TARGET is pushed and awaited (R586). -/
def State.awaits (s : State) (target : Nat) : Bool :=
  s.pushed && s.bootMode == 0 && s.milestone == (if target = 1 then 1 else 3)

/-- Whether a session for a TARGET may open: ROM recovery takes BOOT only (R586), a boot that waits takes the image it
waits for, and BOOT_SRC 11 takes a configuration over SMBus only (R541). -/
def State.mayBegin (s : State) (w : MbxWin) (target : Nat) : Bool :=
  winHolder w != 0 && (s.bootMode != 3 || target == 1) && (!s.pushed || s.bootMode != 0 || s.awaits target) &&
  !(s.bootMode == 2 && target == 2 && s.get F.GLB_STRAP_BOOT_SRC == 3 && w == .host)

/-- UPDATE_BEGIN. -/
def State.updBegin (s : State) (w : MbxWin) (p : List Byte) : State :=
  let t := byteAt p 0
  let n := leAt p 4 4
  if s.cup.upd.isSome then s.respond w mbBusy 0 []
  else if !within 1 2 t || decide (copySize t < n) then s.respond w mbBadFrame 0 []
  else if !s.mayBegin w t then s.respond w mbDenied 0 []
  else
    let u : UpdSt := ⟨winHolder w, t, n, 0, s.time, if s.awaits t then some [] else none⟩
    let s := if u.stage.isSome then s else s.eraseCopies t n
    (({ s with cup := { s.cup with upd := some u } }).showUpdate u 1).respond w mbInProgress 0 []

/-- The erase completes. -/
def State.updErased (s : State) : State :=
  match s.cup.upd with
  | some u => if s.get F.CUP_UPD_STAT_PHASE = 1 then s.showUpdate u 2 else s
  | none => s

/-- Run a command of the session's holder; another answers by its own rule. -/
def State.withUpdate (s : State) (w : MbxWin) (k : UpdSt → State) : State :=
  match s.cup.upd with
  | none => s.respond w mbOutOfOrder 0 []
  | some u => if u.holder = winHolder w then k u else s.respond w mbDenied 0 []

/-- Store the data of an UPDATE_DATA. -/
def State.updStore (s : State) (u : UpdSt) (bs : List Byte) : State :=
  let u' := { u with next := u.next + bs.length, stage := u.stage.map (· ++ bs) }
  let s := if u.stage.isSome then s
    else (s.updCopies u.target).foldl (fun (s : State) c => s.flashWrite (copyBase u.target c + u.next) bs) s
  { s with cup := { s.cup with upd := some u' } }

/-- UPDATE_DATA. A pushed image is taken only once CTS is READY (R586). -/
def State.updData (s : State) (w : MbxWin) (p : List Byte) : State :=
  s.withUpdate w fun u =>
    let bs := p.drop 4
    if s.get F.CUP_UPD_STAT_PHASE ≠ 2 ∨ (u.stage.isSome ∧ !s.on F.CTS_STAT_READY) then s.respond w mbBusy 0 []
    else if leAt p 0 4 ≠ u.next then s.respond w mbOutOfOrder 0 []
    else if u.length < u.next + bs.length then s.respond w mbBadFrame 0 []
    else (s.updStore u bs).respond w mbOk 0 []

/-- The image as read back. -/
def State.updImage (s : State) (u : UpdSt) : List Byte :=
  match u.stage with
  | some b => b
  | none => s.flashRead (copyBase u.target ((s.updCopies u.target).headD 0)) u.length

/-- The checks of a BOOT copy with its bundle: 2 stands for the bundle's signature, 1 for step 1 of R232. -/
def State.bootFullCheck (s : State) (b : List Byte) : Nat :=
  let e := s.copyCheck 1 b
  let u := bundleOf b
  if e ≠ 0 ∨ u.isEmpty then e else if !s.bundleSigned u then 2 else if !s.bundleStep1 u then 1 else 0

/-- Check 8: a higher GENERATION than the running copy's, or the same bytes. -/
def genOk (run b : List Byte) : Bool :=
  run.isEmpty || decide (imgGen run < imgGen b) || run.take (imgTotal run) == b.take (imgTotal b)

/-- The failed check of an update, 0 where it passes. -/
def State.updCheck (s : State) (u : UpdSt) : Nat :=
  let b := s.updImage u
  let e := if u.target = 1 then s.bootFullCheck b else s.fullCheck (s.copyCheck 2 b) b
  let run := if u.target = 1 then s.cup.boot else s.cup.cfg
  if e ≠ 0 then e else if genOk run b then 0 else 8

/-- A boot that waited for the image of an update goes on with it (R356, R586). -/
def State.updResume (s : State) (u : UpdSt) (img : List Byte) (mode : Nat) : State :=
  let fresh := fun (s : State) => (s.put F.CUP_BOOT_STAT_MODE 0).put F.CUP_BOOT_STAT_RECOVERY_REASON 0
  match u.stage with
  | some b => (if u.target = 1 then s.startFirmware b else s.takeImage b).bootGo
  | none =>
    if u.target = 1 ∧ mode = 3 then ((fresh s).reach 1).bootGo
    else if u.target = 2 ∧ mode = 2 then
      let s := { s with cup := { s.cup with cfgFail := (0, 0) } }
      (((fresh s).put F.CUP_BOOT_STAT_CFG_COPY 0).takeImage img).bootGo
    else s

/-- UPDATE_END. -/
def State.updEnd (s : State) (w : MbxWin) : State :=
  s.withUpdate w fun u =>
    if s.get F.CUP_UPD_STAT_PHASE ≠ 2 then s.respond w mbBusy 0 []
    else if u.next ≠ u.length then s.respond w mbOutOfOrder 0 []
    else
      let e := s.updCheck u
      let img := s.updImage u
      let mode := s.bootMode
      if e ≠ 0 then
        let s := ((s.endUpdate false).put F.CUP_UPD_STAT_FAILED_CHECK e).inc (R.CUP_CNT 5)
        (s.respond w mbCheckFailed e []).raise 226
      else
        let s := { s with cup := { s.cup with upd := none } }
        let s := (((s.put F.CUP_UPD_STAT_PHASE 0).put F.CUP_UPD_STAT_HOLDER 0).put F.CUP_UPD_STAT_TARGET 0).inc (R.CUP_CNT 4)
        let s := ((s.almanac 8 (u.target + imgGen img * 2 ^ 32) 0).respond w mbOk 0 []).raise 226
        s.updResume u img mode

/-- UPDATE_CANCEL. -/
def State.updCancel (s : State) (w : MbxWin) : State :=
  s.withUpdate w fun _ => (s.endUpdate false).respond w mbOk 0 []

/-- 60 s without a command from the holder. -/
def State.updTimeout (s : State) : State :=
  match s.cup.upd with
  | some u => if u.last + 60000000000 ≤ s.time then s.endUpdate true else s
  | none => s

/-! ### Commits (R580 to R582) -/

/-- Each raise of a counter: event source 227 and an Almanac entry; both again where it first reaches 120. -/
def State.arbRaise (s : State) (kind old new : Nat) : State :=
  if new ≤ old then s
  else
    let s := (s.raise 227).almanac 8 kind new
    if old < 120 ∧ 120 ≤ new then (s.raise 227).almanac 8 kind new else s

/-- A commit raises each counter to the SVN of the running image of its kind. -/
def State.commitArb (s : State) : State :=
  let c := s.cup
  let f := s.get F.CUP_SVN_FW
  let u := s.get F.CUP_SVN_UCODE
  let g := s.get F.CUP_SVN_CFG
  let s := { s with cup := { c with arbFw := max c.arbFw f, arbUc := max c.arbUc u, arbCfg := max c.arbCfg g } }
  (((s.arbRaise 0 c.arbFw f).arbRaise 1 c.arbUc u).arbRaise 2 c.arbCfg g).showOtp.inc (R.CUP_CNT 6)

/-- COMMIT, after milestone 7. -/
def State.commitCmd (s : State) (w : MbxWin) : State :=
  if s.milestone < 7 then s.respond w mbDenied 0 [] else s.commitArb.respond w mbOk 0 []

/-- The commit that AUTO_COMMIT makes once, 600 s after milestone 7. -/
def State.autoCommitNow (s : State) : State :=
  match s.cup.ms7At with
  | some t =>
    if s.power.cupUp && s.on F.CUP_CFG_AUTO_COMMIT && s.cup.calm && decide (t + 600000000000 ≤ s.time) then
      ({ s with cup := { s.cup with ms7At := none } }).commitArb
    else s
  | none => s

/-! ### Owner keys (R579) -/

/-- CFGKEY_PROGRAM. -/
def State.keyProgram (s : State) (w : MbxWin) (p : List Byte) : State :=
  let i := byteAt p 0
  if 4 ≤ i ∨ !allZero (slice p 1 3) then s.respond w mbBadFrame 0 []
  else if s.get F.LCS_STATE_STATE ≠ 2 ∨ s.cup.keys.any (·.1 == i) then s.respond w mbDenied 0 []
  else
    let k : CfgKey := ⟨slice p 4 48, 0xA55A, false⟩
    ({ s with cup := { s.cup with keys := s.cup.keys ++ [(i, k)] } }).showOtp.respond w mbOk 0 []

/-- CFGKEY_REVOKE. -/
def State.keyRevoke (s : State) (w : MbxWin) (p : List Byte) : State :=
  let i := byteAt p 0
  let rest := s.usableKeys.filter (·.1 != i)
  if 4 ≤ i then s.respond w mbBadFrame 0 []
  else if !within 2 3 (s.get F.LCS_STATE_STATE) || (rest.isEmpty && s.cup.keys.any (fun e => e.2.done == 0xA55A)) then
    s.respond w mbDenied 0 []
  else
    let ks := if s.cup.keys.any (·.1 == i) then
        s.cup.keys.map (fun e => if e.1 = i then (i, { e.2 with revoked := true }) else e)
      else s.cup.keys ++ [(i, (⟨[], 0, true⟩ : CfgKey))]
    ({ s with cup := { s.cup with keys := ks } }).showOtp.respond w mbOk 0 []

/-! ### Rails (R596, R610) -/

/-- Nominal voltage in mV and tolerance in percent of the eight rails. -/
def railRange : List (Nat × Nat) :=
  [(800, 3), (800, 3), (1800, 5), (750, 3), (1200, 3), (400, 3), (1100, 3), (1800, 3)]

/-- Whether a rail stands within its range. -/
def railIn (v : Nat) (r : Nat × Nat) : Bool := decide (r.1 * (100 - r.2) ≤ v * 100 ∧ v * 100 ≤ r.1 * (100 + r.2))

/-- A sample of the rails: while all are in range, the condition of R540 is over. -/
def State.sampleRails (s : State) (v : Rails) : State :=
  if !s.power.cupUp then s
  else
    let l := [v.sram, v.vgl, v.io, v.sdL, v.sdH, v.hbmQ, v.hbm, v.vpp].map BitVec.toNat
    let s := { s with cup := { s.cup with rails := l } }
    if (l.zip railRange).all (fun e => railIn e.1 e.2) then s.setLive srcCpm 0x14 false else s

/-! ### The commands -/

def execBootStatus (w : MbxWin) (s : State) : Out :=
  .next (s.mbxRun w 0 0x01 fun s _ => s.respond w mbOk 0 s.bootStatusBytes)

def execMbxSensors (w : MbxWin) (s : State) : Out :=
  .next (s.mbxRun w 0 0x02 fun s _ => let (b, s) := s.sensorBytes; s.respond w mbOk 0 b)

def execAlmanacRead (w : MbxWin) (s : State) : Out := .next (s.mbxRun w 0 0x03 fun s p => s.almRead w p)

def execMbxVersions (w : MbxWin) (s : State) : Out :=
  .next (s.mbxRun w 0 0x04 fun s _ => s.respond w mbOk 0 s.versionBytes)

def execUpdateBegin (w : MbxWin) (s : State) : Out := .next (s.mbxRun w 0 0x10 fun s p => s.updBegin w p)

def execUpdateEraseDone (s : State) : Out := .next (if s.power.cupUp then s.updErased else s)

def execUpdateData (w : MbxWin) (s : State) : Out := .next (s.mbxRun w 0 0x11 fun s p => s.updData w p)

def execUpdateEnd (w : MbxWin) (s : State) : Out := .next (s.mbxRun w 0 0x12 fun s _ => s.updEnd w)

def execUpdateCancel (w : MbxWin) (s : State) : Out := .next (s.mbxRun w 0 0x14 fun s _ => s.updCancel w)

def execUpdateTimeout (s : State) : Out := .next (if s.power.cupUp then s.updTimeout else s)

def execUpdateStatus (w : MbxWin) (s : State) : Out :=
  .next (s.mbxRun w 0 0x13 fun s _ => s.respond w mbOk 0 (natLE 4 (s.rd R.CUP_UPD_STAT).toNat))

def execArbCommit (w : MbxWin) (s : State) : Out := .next (s.mbxRun w 0 0x15 fun s _ => s.commitCmd w)

def execAutoCommit (s : State) : Out := .next s.autoCommitNow

/-- The system reset follows 1 ms after the response. -/
def execMbxActivate (w : MbxWin) (s : State) : Out :=
  .next (s.mbxRun w 0 0x16 fun s _ =>
    ({ s with cup := { s.cup with activateAt := some (s.time + 1000000) } }).respond w mbOk 0 [])

def execCfgkeyProgram (w : MbxWin) (s : State) : Out := .next (s.mbxRun w 0 0x20 fun s p => s.keyProgram w p)

def execCfgkeyRevoke (w : MbxWin) (s : State) : Out := .next (s.mbxRun w 0 0x21 fun s p => s.keyRevoke w p)

def execRailSample (v : Rails) (s : State) : Out := .next (s.sampleRails v)

end Sys2Proof.Machine
end

