-- ==== Sys2Proof/Machine/Svc.lean ====
section
/-! DEFINITION. IKEv2 in SVC (R364 to R372): the exchanges, child SAs and their rekeys, liveness, and the limits of R365. -/

namespace Sys2Proof.Machine

/-! ### Tables of SAs -/

def State.ike? (s : State) (id : Nat) : Option IkeSa := s.svc.ikes.find? (fun k => k.id == id)

def State.putIke (s : State) (k : IkeSa) : State :=
  { s with svc := { s.svc with ikes := s.svc.ikes.map (fun x => if x.id == k.id then k else x) } }

def State.addIke (s : State) (k : IkeSa) : State := { s with svc := { s.svc with ikes := s.svc.ikes ++ [k] } }

def State.dropIke (s : State) (id : Nat) : State := { s with svc := { s.svc with ikes := s.svc.ikes.filter (fun x => x.id != id) } }

def State.child? (s : State) (id : Nat) : Option ChildSa := s.svc.childs.find? (fun k => k.id == id)

def State.putChild (s : State) (k : ChildSa) : State :=
  { s with svc := { s.svc with childs := s.svc.childs.map (fun x => if x.id == k.id then k else x) } }

def State.dropChild (s : State) (id : Nat) : State :=
  { s with svc := { s.svc with childs := s.svc.childs.filter (fun x => x.id != id) } }

/-- The number of a new SA. -/
def State.newSa (s : State) : Nat × State := (s.svc.nextId, { s with svc := { s.svc with nextId := s.svc.nextId + 1 } })

/-- The child SAs of an IKE SA. -/
def State.childsOf (s : State) (ike : Nat) : List ChildSa := s.svc.childs.filter (fun k => k.ike == ike)

/-- The peer of a child SA, by its CHILD record. -/
def State.peerOfChild (s : State) (k : ChildSa) : Nat := leAt (s.childRecs.getD k.record []) 0 2

/-- Why a peer's last exchange failed, as PEER_LIST shows it. -/
abbrev pfNoProposal : Nat := 1
abbrev pfAuth : Nat := 2
abbrev pfDead : Nat := 3
abbrev pfResource : Nat := 4
abbrev pfDeleted : Nat := 5

/-! ### IKE SAs -/

/-- The three SESSION contexts of an IKE SA (R367), derived and installed; none where the SA range is exhausted or an
install is refused. -/
def State.sessions (s : State) (p : List Byte) : State × Option (List Nat) :=
  match s.allocOne (fun _ => false) with
  | none => (s.raise 237, none)
  | some a => match s.allocOne (· == a) with
    | none => (s.raise 237, none)
    | some b => match s.allocOne (fun c => c == a || c == b) with
      | none => (s.raise 237, none)
      | some c =>
        let s := s.svcDerive [(a, 36), (b, 36), (c, 36)]
        let (lim, s) := s.freeNat
        let img := setLE (imageOf ctSession 0 (if bit (byteAt p 2) 0 then 1 else 2) (leAt p 20 4)) 144 8 (lim % 2 ^ 64)
        let r := [a, b, c].foldl (fun (r : State × Bool) x =>
          let (s, e) := r.1.svcInstall x none32 0 false img []
          (s, r.2 && e.1 == stOk)) (s, true)
        if r.2 then (r.1, some [a, b, c]) else (r.1.svcRetireAll [a, b, c], none)

/-- The ALG and the length of the key of the lowest PRF that a policy accepts (R349, R383). -/
def pPrf (p : List Byte) : Nat × Nat :=
  if bit (byteAt p 3) 0 then (0xA01, 32) else if bit (byteAt p 3) 1 then (0xA02, 48) else (0xA03, 64)

/-- The slots of SK_pi and SK_pr that the context of SK_d holds. -/
def State.putAuth (s : State) (c : Nat) (xs : List Nat) : State :=
  { s with svc := { s.svc with auth := sput (fun _ => []) s.svc.auth c xs } }

/-- SK_pi and SK_pr (R367): two slots, held by the context of SK_d; without room for both, the contexts are retired. -/
def State.authKeys (s : State) (p : List Byte) (cs : List Nat) : State × Option (List Nat) :=
  let x := newSlot usSign orDerived false (pPrf p).1 31 0
  let (ki, s) := s.freeBytes (pPrf p).2
  let (kr, s) := s.freeBytes (pPrf p).2
  match s.svcSlot x ki with
  | (s, none) => (s.svcRetireAll cs, none)
  | (s, some i) => match s.svcSlot x kr with
    | (s, none) => ((s.svcErase [i]).svcRetireAll cs, none)
    | (s, some j) => (s.putAuth (cs.headD 0) [i, j], some cs)

/-- The contexts and slots of a handshake (R365 to R367). -/
def State.handshake (s : State) (p : List Byte) : State × Option (List Nat) :=
  match s.sessions p with
  | (s, none) => (s, none)
  | (s, some cs) => s.authKeys p cs

/-- SK_pi and SK_pr are erased (R367). -/
def State.dropAuth (s : State) (k : IkeSa) : State :=
  let c := k.ctxs.headD 0
  (s.svcErase (sget (fun _ => []) s.svc.auth c)).putAuth c []

/-- An IKE SA's keys change (RFC 9370): its contexts are retired and derived again, and before IKE_AUTH its slots. -/
def State.rekeySessions (s : State) (k : IkeSa) : State × Bool :=
  let s := (s.dropAuth k).svcRetireAll k.ctxs
  match (if k.st = .inter then s.handshake (s.peerPolicy k.peer) else s.sessions (s.peerPolicy k.peer)) with
  | (s, some cs) => (s.putIke { k with ctxs := cs }, true)
  | (s, none) => (s.putIke { k with ctxs := [] }, false)

/-- A child SA leaves the pipeline; contexts busy with a rollover stay until it ends (R372). -/
def State.childDown (s : State) (k : ChildSa) : State :=
  let cs := [k.rx, k.tx] ++ (match k.succ with
    | some (a, b) => [a, b]
    | none => [])
  let s := s.svcRetireAll ((cs.filter (fun c => cState (s.ctx c) == csStandby)) ++ cs)
  if cs.all (fun c => cState (s.ctx c) == csEmpty) then s.dropChild k.id else s.putChild { k with deleting := true }

/-- An IKE SA goes down with its child SAs. -/
def State.ikeDown (s : State) (k : IkeSa) (failure : Nat) : State :=
  let s := (s.childsOf k.id).foldl State.childDown s
  (((s.dropAuth k).svcRetireAll k.ctxs).dropIke k.id).setPeer k.peer 0 failure |>.raise 233

/-- Whether a peer has an IKE SA. -/
def State.hasIke (s : State) (peer : Nat) : Bool := s.svc.ikes.any (fun k => k.peer == peer)

/-- SVC initiates an IKE SA. -/
def State.ikeStart (s : State) (peer : Nat) : State :=
  if s.hasIke peer ∨ !s.peerActive peer ∨ 65536 ≤ s.svc.ikes.length then s
  else
    let (id, s) := s.newSa
    (s.addIke ⟨id, peer, true, .initiated, [], s.time⟩).svcSay peer .initReq

/-- The half-open IKE SAs, and those whose handshake holds transient KEEP slots (R365). -/
def State.halfOpen (s : State) : Nat := (s.svc.ikes.filter (fun k => k.st != .up)).length
def State.handshakes (s : State) : Nat := (s.svc.ikes.filter (fun k => k.st == .inter)).length

/-- An IKE_SA_INIT request (R365, R366). -/
def State.onInitReq (s : State) (peer : Nat) (fits addKe cookie : Bool) : State :=
  let p := s.peerPolicy peer
  if 16384 ≤ s.halfOpen then s
  else if 4096 ≤ s.halfOpen ∧ !cookie then s.svcSay peer .cookie
  else if 2048 ≤ s.handshakes ∨ 65536 ≤ s.svc.ikes.length then s.svcSay peer .temporaryFailure
  else if !s.peerActive peer ∨ !fits ∨ (pPqRequired p && !addKe) then (s.setPeer peer 0 pfNoProposal).svcSay peer .noProposal
  else match s.handshake p with
    | (s, none) => s.svcSay peer .temporaryFailure
    | (s, some cs) =>
      let (id, s) := s.newSa
      (s.addIke ⟨id, peer, false, .inter, cs, s.time⟩).svcSay peer .initResp

/-- An IKE_SA_INIT response: IKE_INTERMEDIATE follows where the policy names an additional exchange, else IKE_AUTH. -/
def State.onInitResp (s : State) (k : IkeSa) (fits : Bool) : State :=
  let p := s.peerPolicy k.peer
  if !k.initiator ∨ k.st ≠ .initiated then s
  else if !fits then s.ikeDown k pfNoProposal
  else match s.handshake p with
    | (s, none) => s.ikeDown k pfResource
    | (s, some cs) => (s.putIke { k with st := .inter, ctxs := cs }).svcSay k.peer (if pAddKe p then .interReq else .authReq)

/-- IKE_INTERMEDIATE: the request of the peer, or the response to SVC's. -/
def State.onInter (s : State) (k : IkeSa) (response : Bool) : State :=
  if k.st ≠ .inter ∨ k.initiator ≠ response then s
  else match s.rekeySessions k with
    | (s, true) => s.svcSay k.peer (if response then .authReq else .interResp)
    | (s, false) => s.ikeDown { k with ctxs := [] } pfResource

/-! ### Child SAs -/

/-- A child SA of a CHILD record comes up under an IKE SA, in place of what a restart left of it; none, or the refusal. -/
def State.childOpen (s : State) (k : IkeSa) (record : Nat) (initiator : Bool) : State × Option SvcMsg :=
  if 64 ≤ (s.childsOf k.id).length then (s, some .noAdditionalSas)
  else
    let r := s.childRecs.getD record []
    let rxPred := s.orphanRx r
    let txPred := s.orphanTx r
    let an := s.nextAn (if rxPred.isSome then rxPred else txPred)
    match s.childUp k.peer record an rxPred txPred with
    | (s, .error m) => (s, some m)
    | (s, .ok (rx, tx)) =>
      let (id, s) := s.newSa
      let c : ChildSa := ⟨id, k.id, record, rxPred.getD rx, txPred.getD tx, an, s.time,
        if rxPred.isSome ∨ txPred.isSome then some (rx, tx) else none, initiator, s.time, true⟩
      let c := if c.succ.isNone then { c with initiated := false, deleting := false } else c
      let s := { s with svc := { s.svc with childs := s.svc.childs ++ [c] } }
      (if initiator && txPred.isSome then s.svcActivate tx else s, none)

/-- Whether a CHILD record is a peer's, and has no SA under the IKE SA. -/
def State.mayOpen (s : State) (k : IkeSa) (record : Nat) : Bool :=
  (s.childrenOf k.peer).contains record && (s.childsOf k.id).all (fun c => c.record != record)

/-- Whether IKE SA `k` is with the peer that R357 names. -/
def State.isFirstPeer (s : State) (k : IkeSa) : Bool :=
  let rs := s.cfgRecs
  ((bodies rs 0x21).find? (fun b => pInitiator (s.peerPolicy (leAt b 0 2)))).map (fun b => leAt b 0 2) == some k.peer

/-- Milestones 9 and 10 (R357): IKE_AUTH with the first INITIATOR peer, and its child SAs. -/
def State.noteFirstPeer (s : State) (k : IkeSa) (child : Bool) : State :=
  let s := if s.isFirstPeer k && s.milestone == 8 then s.reach 9 else s
  if child && s.isFirstPeer k && s.milestone == 9 then (s.reach 10).raise 225 else s

/-- An IKE SA is up, and SK_pi and SK_pr are gone; its first CHILD comes up with it. As initiator, SVC asks for the
others. -/
def State.ikeUp (s : State) (k : IkeSa) : State :=
  let s := ((((s.dropAuth k).putIke { k with st := .up, born := s.time }).setPeer k.peer 1 0).raise 232)
  let s := if k.initiator then s else s.svcSay k.peer .authResp
  match s.childrenOf k.peer with
  | [] => s.noteFirstPeer k false
  | c :: cs =>
    let (s, e) := s.childOpen k c k.initiator
    let s := match e with
      | some m => s.svcSay k.peer m
      | none => s
    let s := s.noteFirstPeer k e.isNone
    if k.initiator then cs.foldl (fun (s : State) c => s.svcSay k.peer (.childReq c)) s else s

/-- IKE_AUTH: the request of the peer, or the response to SVC's. -/
def State.onAuth (s : State) (k : IkeSa) (response ok : Bool) : State :=
  if k.st ≠ .inter ∨ k.initiator ≠ response then s
  else if ok then s.ikeUp k
  else
    let s := s.ikeDown k pfAuth
    if response then s else s.svcSay k.peer .authFailed

/-- CREATE_CHILD_SA without the additional exchange that the policy requires (R366). -/
def State.pfsRefused (s : State) (k : IkeSa) (addKe : Bool) : Bool :=
  let p := s.peerPolicy k.peer
  pPqRequired p && pChildPfs p && !addKe

/-- A CREATE_CHILD_SA request for a new child SA (R351, R366). -/
def State.onChildReq (s : State) (k : IkeSa) (record : Nat) (addKe : Bool) : State :=
  if k.st ≠ .up then s
  else if s.pfsRefused k addKe then s.svcSay k.peer .noProposal
  else if !s.mayOpen k record then s.svcSay k.peer .tsUnacceptable
  else match s.childOpen k record false with
    | (s, some m) => s.svcSay k.peer m
    | (s, none) => s.svcSay k.peer .childResp

/-- The response to SVC's request. -/
def State.onChildResp (s : State) (k : IkeSa) (record : Nat) (ok : Bool) : State :=
  if k.st = .up ∧ ok ∧ s.mayOpen k record then
    match s.childOpen k record true with
    | (s, some _) => s.setPeer k.peer 1 pfResource
    | (s, none) => s
  else s

/-! ### Rekeys (R372) -/

/-- Both successors of a child SA, from the first CTX_ID to the last. -/
def State.rekeyInstall (s : State) (k : ChildSa) (peer : Nat) : State × Except SvcMsg (Nat × Nat) :=
  s.childUp peer k.record (k.an + 1) (some k.rx) (some k.tx)

/-- SVC asks for a rekey of a child SA. -/
def State.rekeyStart (s : State) (k : ChildSa) : State :=
  if k.succ.isSome ∨ k.initiated ∨ k.deleting then s
  else (s.putChild { k with initiated := true }).svcSay (s.peerOfChild k) (.rekeyReq k.id)

/-- The peer asks for a rekey: both successors are installed before the response. -/
def State.onRekeyReq (s : State) (k : IkeSa) (sa : Nat) (addKe : Bool) : State :=
  match s.child? sa with
  | none => s
  | some c =>
    if k.st ≠ .up ∨ c.ike ≠ k.id then s
    else if s.pfsRefused k addKe then s.svcSay k.peer .noProposal
    else if c.succ.isSome ∨ c.deleting then s.svcSay k.peer .temporaryFailure
    else match s.rekeyInstall c k.peer with
      | (s, .error m) => (s.raise 234).svcSay k.peer m
      | (s, .ok n) => (s.putChild { c with succ := some n, initiated := false, respAt := s.time }).svcSay k.peer .childResp

/-- The response to SVC's request: both successors, then ACTIVE for the transmit one. -/
def State.onRekeyResp (s : State) (k : IkeSa) (sa : Nat) (ok : Bool) : State :=
  match s.child? sa with
  | none => s
  | some c =>
    if k.st ≠ .up ∨ c.ike ≠ k.id ∨ !c.initiated ∨ c.succ.isSome ∨ c.deleting then s
    else if !ok then (s.putChild { c with initiated := false }).raise 234
    else match s.rekeyInstall c k.peer with
      | (s, .error _) => (s.putChild { c with initiated := false }).raise 234
      | (s, .ok n) => (s.putChild { c with succ := some n, respAt := s.time }).svcActivate n.2

/-- Whether the transmit successor of a child SA is to become ACTIVE: SWITCH_MS after the response, when the receive
successor has switched, or when the predecessor is EXHAUSTED. -/
def State.switchDue (s : State) (k : ChildSa) (n : Nat × Nat) : Bool :=
  let ms := leAt (s.peerPolicy (s.peerOfChild k)) 26 2
  decide (k.respAt + ms * 1000000 ≤ s.time) || cState (s.ctx n.1) == csActive || cState (s.ctx k.tx) == csExhausted

def State.switchExpiry (s : State) (id : Nat) : State :=
  match s.child? id with
  | some k => match k.succ with
    | some n => if s.svcActs && s.switchDue k n then s.svcActivate n.2 else s
    | none => s
  | none => s

/-- Whether a predecessor `c` of `n` is still in the rollover: its drain has not ended. -/
def State.draining (s : State) (c n : Nat) : Bool :=
  c != n && [csActive, csDraining, csExhausted].contains (cState (s.ctx c))

/-- The AN of a child SA's transmit successor; 0 where it has none. -/
def State.nextAnOf (s : State) (k : ChildSa) : Nat :=
  match k.succ with
  | some (_, b) => byteAt (s.ctx b) 136 % 4
  | none => k.an

/-- The drains of a rollover have ended (R372): the successors take the child SA's place and, unless the peer has already
deleted the old SA, SVC as initiator deletes it. What a child SA whose IKE SA is gone has left is retired. -/
def State.settleChild (s : State) (k : ChildSa) : State :=
  let gone := (s.ike? k.ike).isNone
  if gone then s.childDown k
  else match k.succ with
    | some (a, b) =>
      if s.draining k.rx a || s.draining k.tx b then s
      else
        let s := s.putChild ⟨k.id, k.ike, k.record, a, b, s.nextAnOf k, k.respAt, none, false, 0, false⟩
        if k.initiated && !k.deleting then s.svcSay (s.peerOfChild k) (.deleteChild k.id) else s
    | none => if k.deleting then s.childDown k else s

/-- After a step of a rollover. -/
def State.svcSweep (s : State) : State := if s.svcActs then s.svc.childs.foldl State.settleChild s else s

/-- A Delete of a child SA from the peer: at once, or in a rollover after the drain. -/
def State.onDeleteChild (s : State) (k : IkeSa) (sa : Nat) : State :=
  match s.child? sa with
  | none => s
  | some c =>
    if c.ike ≠ k.id then s
    else if c.succ.isSome then (s.putChild { c with deleting := true }).svcSay k.peer .infoResp
    else (s.childDown c).svcSay k.peer .infoResp

/-- The IKE SA's own rekey: fresh SESSION contexts. -/
def State.ikeRekeyed (s : State) (k : IkeSa) : State × Bool :=
  match s.rekeySessions { k with born := s.time } with
  | (s, true) => (s, true)
  | (s, false) => (s.ikeDown { k with ctxs := [] } pfResource, false)

/-! ### Messages -/

/-- SVC takes the frame in front of its receive queue. -/
def State.svcTake (s : State) : State := { s with ipp := { s.ipp with svcRx := s.ipp.svcRx.drop 1 } }

/-- A message on an IKE SA. -/
def State.onIke (s : State) (k : IkeSa) : IkeKind → State
  | .initReq _ _ _ => s
  | .initResp fits => s.onInitResp k fits
  | .interReq => s.onInter k false
  | .interResp => s.onInter k true
  | .authReq ok => s.onAuth k false ok
  | .authResp ok => s.onAuth k true ok
  | .childReq c addKe => s.onChildReq k c.toNat addKe
  | .childResp c ok => s.onChildResp k c.toNat ok
  | .rekeyReq sa addKe => s.onRekeyReq k sa addKe
  | .rekeyResp sa ok => s.onRekeyResp k sa ok
  | .ikeRekeyReq =>
    if k.st ≠ .up then s
    else match s.ikeRekeyed k with
      | (s, true) => s.svcSay k.peer .ikeRekeyResp
      | (s, false) => s.svcSay k.peer .temporaryFailure
  | .ikeRekeyResp ok => if k.st = .up ∧ ok then (s.ikeRekeyed k).1 else s
  | .deleteChild sa => s.onDeleteChild k sa
  | .deleteIke => (s.svcSay k.peer .infoResp).ikeDown k pfDeleted
  | .info => s.svcSay k.peer .infoResp

/-- An IKEv2 message of a configured peer. -/
def State.onMessage (s : State) (m : IkeMsg) : State :=
  if !s.svcActs then s
  else
    let s := s.svcTake
    let peer := m.peer.toNat
    if (s.peerPolicy peer).isEmpty then s
    else match m.kind with
      | .initReq fits addKe cookie => s.onInitReq peer fits addKe cookie
      | kind => match s.ike? m.ike with
        | some k => if k.peer = peer then s.onIke k kind else s
        | none => s

/-! ### Timers -/

/-- Take the SA event of kind 1 for a context out of IPP_SAEVT, of which SVC is the reader (R371). -/
def State.takeSaevt (s : State) (c : Nat) : Option State :=
  let e := BitVec.ofNat 32 (c % 2 ^ 21 + 2 ^ 24 + 2 ^ 31)
  if s.ipp.saevt.contains e then
    let l := s.ipp.saevt.filter (· != e)
    some ({ s with ipp := { s.ipp with saevt := l } }.level 80 (!l.isEmpty))
  else none

/-- The rekey of a child SA falls due: SOFT_PCT of CHILD_LIFE_S, or an SA event for its transmit context. -/
def State.childRekey (s : State) (id : Nat) : State :=
  match s.child? id with
  | none => s
  | some k =>
    if !s.svcActs then s
    else
      let p := s.peerPolicy (s.peerOfChild k)
      if softAt p k.born (leAt p 12 4) ≤ s.time then s.rekeyStart k
      else match s.takeSaevt k.tx with
        | some s => s.rekeyStart k
        | none => s

/-- The hard lifetime (R372): the SA is retired; one in a rollover switches at once and is retired after its drain. -/
def State.hardLife (s : State) (id : Nat) : State :=
  match s.child? id with
  | none => s
  | some k =>
    let p := s.peerPolicy (s.peerOfChild k)
    if !s.svcActs || decide (s.time < k.born + leAt p 12 4 * 1000000000) then s
    else match k.succ with
      | some n => ((s.svcActivate n.2).svcRetireAll [k.rx, k.tx]).svcSay (s.peerOfChild k) (.deleteChild id) |>.putChild
          { k with deleting := true }
      | none => (s.childDown k).svcSay (s.peerOfChild k) (.deleteChild id)

/-- A liveness check: sent, and where the peer does not answer the IKE SA goes down. -/
def State.liveness (s : State) (id : Nat) (ok : Bool) : State :=
  match s.ike? id with
  | none => s
  | some k =>
    if !s.svcActs || leAt (s.peerPolicy k.peer) 18 2 == 0 || k.st != .up then s
    else
      let s := s.svcSay k.peer .liveness
      if ok then s else s.ikeDown k pfDead

/-- SOFT_PCT of IKE_LIFE_S. -/
def State.ikeRekey (s : State) (id : Nat) : State :=
  match s.ike? id with
  | none => s
  | some k =>
    let p := s.peerPolicy k.peer
    if !s.svcActs || k.st != .up || decide (s.time < softAt p k.born (leAt p 8 4)) then s else s.svcSay k.peer .ikeRekeyReq

/-! ### The commands -/

def execIkeMessage (m : IkeMsg) (s : State) : Out := .next (s.onMessage m)

def execChildRekey (k : Nat) (s : State) : Out := .next (s.childRekey k)

def execSwitchMsExpiry (k : Nat) (s : State) : Out := .next (s.switchExpiry k)

def execHardLifetime (k : Nat) (s : State) : Out := .next (s.hardLife k)

def execIkeDpd (k : Nat) (ok : Bool) (s : State) : Out := .next (s.liveness k ok)

def execIkeSaRekey (k : Nat) (s : State) : Out := .next (s.ikeRekey k)

/-- The drain of a predecessor ends (R328 step 3); SVC deletes the SA that drained (R372). -/
def execDrainEnd (c : Fin 0x110000) (s : State) : Out := .next (s.endDrain c).svcSweep

/-- A relink scan ends (R330); SVC retires what waited for it. -/
def execRelinkScanEnd (s : State) : Out := .next s.endScan.svcSweep

end Sys2Proof.Machine
end

