-- ==== Sys2Proof/Machine/SvcCmds.lean ====
section
/-! DEFINITION. SVC from outside (08): its mailbox commands (R361), its restart (R363), what it does when a link comes up
(R357), the reconnection of blocks (R554) and the end of a Vigil exit (R566). -/

namespace Sys2Proof.Machine

/-! ### Starting (R357, R363) -/

/-- The INITIATOR peers whose interface lies on a port that a test takes. -/
def State.initiatorPeers (s : State) (onPort : Nat → Bool) : List Nat :=
  ((bodies s.cfgRecs 0x21).map (fun b => leAt b 0 2)).filter
    (fun i => pInitiator (s.peerPolicy i) && onPort (byteAt (s.peerNet i) 0))

def State.startPeers (s : State) (onPort : Nat → Bool) : State := (s.initiatorPeers onPort).foldl State.ikeStart s

/-- The groups of a role, by record. -/
def State.groupsOf (s : State) (p : List Byte → Bool) : List Nat :=
  (List.range s.groupRecs.length).filter (fun g => p (s.groupRec g))

/-- Members without a key join when the link of their interface is up. -/
def State.joinGroups (s : State) (p : Nat) : State :=
  (s.groupsOf (fun b => gMember b && byteAt (s.netRec (byteAt b 7)) 0 == p && s.joinDue b)).foldl State.groupJoin s

/-- What SVC does when the link of a port is up. -/
def State.svcLinkUp (s : State) (p : Nat) : State :=
  if s.svcActs && s.portUp p then (s.startPeers (· == p)).joinGroups p else s

/-- The STANDBY contexts of SVC's queues. -/
def State.standbys (s : State) : List Nat :=
  (s.cts.ctxs.filter (fun e => cState e.2 == csStandby && cOwner e.2 == 31)).map (·.1)

/-- After a restart (R363): STANDBY contexts are retired, INITIATOR peers called again, every group of a KDC rekeyed. -/
def State.svcRecover (s : State) : State :=
  if !s.svcActs then s
  else ((s.svcRetireAll s.standbys).startPeers s.portUp |> fun t => (t.groupsOf gKdc).foldl State.groupPush t)

/-- Cupola firmware starts SVC again. -/
def State.svcRestart (s : State) : State :=
  if s.power.cupUp && decide (7 ≤ s.milestone) && s.mayRelease && !s.power.svcUp then (s.startSvc.raise 238).svcRecover else s

/-! ### The mailbox (R361) -/

/-- The payload of STATUS. -/
def State.svcStatusBytes (s : State) : List Byte :=
  let up := fun (i : Nat) => (sget (fun _ => (0, 0)) s.svc.peers i).1 == 1
  let ps := (bodies s.cfgRecs 0x21).map (fun b => leAt b 0 2)
  ([(ps.filter up).length, (ps.filter (fun i => !up i)).length, s.svc.ikes.length, s.svc.childs.length, s.groupRecs.length,
    s.svcPins, (s.cts.ctxs.filter (fun e => cState e.2 != csEmpty && cOwner e.2 == 31)).length, s.ipp.svcDiscards]).flatMap (natLE 4)

/-- One page of PEER_LIST: index, state and last failure of each peer. -/
def State.peerPage (s : State) (n : Nat) : List Byte :=
  (((bodies s.cfgRecs 0x21).drop (64 * n)).take 64).flatMap (fun b =>
    let i := leAt b 0 2
    let x := sget (fun _ => (0, 0)) s.svc.peers i
    natLE 2 i ++ natLE 1 x.1 ++ natLE 1 x.2)

/-- A SERVICE 1 command that waits in a window; one that SVC cannot serve now is answered BUSY. -/
def State.svcCommand (s : State) (w : MbxWin) (cmd : Nat) (k : State → List Byte → State × Nat × List Byte) : State :=
  s.mbxRun w 1 cmd (fun s p =>
    if !s.svcActs then s.respond w mbBusy 0 []
    else
      let (s, st, out) := k s p
      s.respond w st 0 out)

/-- A command for a peer; an unknown one answers NOT_FOUND. -/
def State.peerCommand (s : State) (w : MbxWin) (cmd : Nat) (k : State → Nat → State) : State :=
  s.svcCommand w cmd (fun s p =>
    let i := leAt p 0 2
    if (peerOf s.cfgRecs i).isSome then (k s i, mbOk, []) else (s, mbNotFound, []))

/-- PEER_DOWN: Delete to the peer, and everything of its IKE SAs is retired. -/
def State.peerDown (s : State) (i : Nat) : State :=
  (s.svc.ikes.filter (fun k => k.peer == i)).foldl (fun (s : State) k => (s.svcSay i .deleteIke).ikeDown k pfDeleted) s

/-- REKEY: every child SA of the peer. -/
def State.peerRekey (s : State) (i : Nat) : State :=
  (s.svc.childs.filter (fun k => s.peerOfChild k == i)).foldl State.rekeyStart s

/-- GROUP_REKEY for a GROUP_ID of a KDC. -/
def State.groupRekey (s : State) (id : Nat) : State × Nat × List Byte :=
  match s.groupOfId id with
  | some g => if gKdc (s.groupRec g) then (s.groupPush g, mbOk, []) else (s, mbNotFound, [])
  | none => (s, mbNotFound, [])

/-! ### Vigil (R566) -/

/-- Step 4 of an exit: the Vigil pair returns to its configured mode, the ports of the image are enabled. -/
def State.vigilPortsBack (s : State) : State :=
  let s := s.vigilPair.foldl (fun (s : State) p => ((s.setLink p false).clr (F.LIF_PSTAT_VIGIL p)).clr (F.LIF_PCTL_EN p)) s
  (bodies s.cfgRecs 2).foldl (fun (s : State) b => s.set (F.LIF_PCTL_EN (byteAt b 0))) s

/-- The exit completes: the core is back, SVC starts again, the alarms that Vigil stored are delivered. -/
def State.vigilOut (s : State) : State :=
  if !s.on F.PWR_STAT_VIGIL || !s.on F.PWR_STAT_VIGIL_TRANS then s
  else
    let up := s.mayRelease
    let s := { s with power := { s.power with jqmUp := up, ippUp := up } }
    let s := ((s.vigilPortsBack.clr F.PWR_STAT_VIGIL).clr F.PWR_STAT_VIGIL_TRANS).raise 219
    let s := s.svcRestart.deliverAlarms
    if s.cpm.entryWaits then ({ s with cpm := { s.cpm with entryWaits := false } }).vigilReq else s

/-! ### The commands -/

def execSvcStatus (w : MbxWin) (s : State) : Out := .next (s.svcCommand w 1 (fun s _ => (s, mbOk, s.svcStatusBytes)))

def execPeerUp (w : MbxWin) (s : State) : Out := .next (s.peerCommand w 2 State.ikeStart)

def execPeerDown (w : MbxWin) (s : State) : Out := .next (s.peerCommand w 3 State.peerDown)

def execSvcRekey (w : MbxWin) (s : State) : Out := .next (s.peerCommand w 4 State.peerRekey)

def execGroupRekey (w : MbxWin) (s : State) : Out := .next (s.svcCommand w 5 (fun s p => s.groupRekey (leAt p 0 4)))

def execPeerList (w : MbxWin) (s : State) : Out := .next (s.svcCommand w 6 (fun s p => (s, mbOk, s.peerPage (leAt p 0 2))))

/-- SVC's heartbeat has been absent for 1 s (R363): Cupola firmware resets SVC. -/
def execSvcHeartbeatTimeout (s : State) : Out :=
  .next (if s.power.svcUp && s.power.cupUp && !s.lcs.cupHalted && decide (s.svc.hbAt + 1000000000 ≤ s.time) then s.blockReset 12 else s)

/-- A block reconnects (R554); Cupola firmware then starts SVC again where it was SVC (R363). -/
def execConnect (x : Fin 64) (s : State) : Out :=
  .next (if s.inReset x.val && x.val == 12 then (s.reconnect 12).svcRestart else s.reconnect x)

def execLinkChange (p : Fin 16) (up aui : Bool) (s : State) : Out := .next (((s.linkChange p up aui).noteLink p).svcLinkUp p)

def execVigilExitDone (s : State) : Out := .next s.vigilOut

end Sys2Proof.Machine
end

