-- ==== Sys2Proof/Machine/Tap.lean ====
section
/-! DEFINITION. The test access port (R500, R507, R508): its instructions, each selected and shifted once by its command. -/

namespace Sys2Proof.Machine

/-- Select an instruction; what is shifted out. -/
def State.tapSelect (s : State) (code : Nat) (out : List Byte) : State :=
  { s with lcs := { s.lcs with tapInsn := code, tapOut := out } }

/-- BYPASS: one stage, which captures 0. -/
def State.tapBypassed (s : State) : State := s.tapSelect 0xFF [0]

/-- An instruction of a code: nothing happens without power. -/
def State.tapRun (s : State) (code : Nat) (k : State → State) : State :=
  if !s.power.pwrOk then s else k (s.tapSelect code [])

/-- An instruction that needs scope `b`; without it, it acts as BYPASS (R500). -/
def State.tapScoped (s : State) (b code : Nat) (k : State → State) : State :=
  if !s.power.pwrOk then s else if s.scope b then k (s.tapSelect code []) else s.tapBypassed

/-- What the data register shifts out. -/
def State.tapShift (s : State) (out : List Byte) : State := { s with lcs := { s.lcs with tapOut := out } }

/-- The data register shifts out `n` bytes that the spec leaves open. -/
def State.tapFree (s : State) (n : Nat) : State :=
  let (b, s) := s.freeBytes n
  s.tapShift b

/-- The IDCODE word: the stepping letter and the part of GLB_ID, Yeliton's identity, and 1. -/
def idcode : Nat := 1 * 2 ^ 28 + 0x4B39 * 2 ^ 12 + Config.tapManufacturer % 2048 * 2 + 1

/-- An instruction that takes the balls from the device holds it in a system reset (R508). -/
def State.tapHolds (s : State) : State :=
  let s := s.systemReset 5
  { s with lcs := { s.lcs with tapHold := true } }

/-- Test-Logic-Reset selects IDCODE and ends the hold. -/
def State.tapLogicReset (s : State) : State := { s with lcs := { s.lcs with tapInsn := 1, tapHold := false } }

/-- Debug access to a memory of `size` bytes: a read, or the write of a word; beyond the memory a read is open. -/
def State.dbgRead (s : State) (m : List Host.Cell) (size a : Nat) : State :=
  if a + 4 ≤ size then s.tapShift (memRead m a 4) else s.tapFree 4

/-- Debug of Cupola: its memory is its SRAM. -/
def State.dbgCup (s : State) : DbgOp → State
  | .halt => { s with lcs := { s.lcs with cupHalted := s.power.cupUp } }
  | .resume => { s with lcs := { s.lcs with cupHalted := false } }
  | .step => s
  | .read a => s.dbgRead s.cupMem 0x100000 a.toNat
  | .write a v => if a.toNat + 4 ≤ 0x100000 then { s with cupMem := memWrite s.cupMem a.toNat (natLE 4 v.toNat) } else s

/-- Debug of SVC: its memory is the 128 MiB that Cupola firmware reserves for it (R358). -/
def State.dbgSvc (s : State) : DbgOp → State
  | .halt => { s with lcs := { s.lcs with svcHalted := s.power.svcUp } }
  | .resume => { s with lcs := { s.lcs with svcHalted := false } }
  | .step => s
  | .read a => s.dbgRead s.svcMem 0x8000000 a.toNat
  | .write a v => if a.toNat + 4 ≤ 0x8000000 then { s with svcMem := memWrite s.svcMem a.toNat (natLE 4 v.toNat) } else s

/-- A boot that a halted Cupola held goes on when it is released. -/
def State.dbgGo (s : State) (op : DbgOp) : State := if op = .resume then s.bootGo else s

/-- REG_READ: a read of the address map as the TAP. -/
def State.tapRead (s : State) (o : Nat) : State :=
  let s := s.busRead .tap o (fun s => s.readReg .tap o false)
  s.tapShift (natLE 4 s.busOut.toNat)

/-! ### The commands -/

def execTapIdcode (s : State) : Out := .next (s.tapRun 0x01 (·.tapShift (natLE 4 idcode)))

/-- The values preloaded, and those sampled at the balls, which are open. -/
def execSamplePreload (v : List Byte) (s : State) : Out :=
  .next (s.tapRun 0x02 fun s => { s with lcs := { s.lcs with cells := v } }.tapFree v.length)

def execExtest (s : State) : Out := .next (s.tapRun 0x03 State.tapHolds)

def execExtestPulse (s : State) : Out := .next (s.tapRun 0x04 State.tapHolds)

def execExtestTrain (s : State) : Out := .next (s.tapRun 0x05 State.tapHolds)

def execClamp (s : State) : Out := .next (s.tapRun 0x06 State.tapHolds)

def execHighz (s : State) : Out := .next (s.tapRun 0x07 State.tapHolds)

def execTapReset (s : State) : Out := .next (if s.power.pwrOk then s.tapLogicReset else s)

def execLcsStatus (s : State) : Out :=
  .next (s.tapRun 0x10 fun s => s.tapShift (natLE 4 (s.rd R.LCS_STATE).toNat ++ natLE 4 (s.view .tap R.LCS_DBG_STAT)))

def execLcsChal (s : State) : Out :=
  .next (s.tapRun 0x11 fun s => let s := if s.alive then s.chalReq else s; s.tapShift s.challenge)

def execTokenLoad (tok : List Byte) (s : State) : Out :=
  .next (s.tapRun 0x12 fun s => if s.alive then s.tokenStart tok else s)

def execCupDbg (op : DbgOp) (s : State) : Out := .next (s.tapScoped 1 0x20 fun s => (s.dbgCup op).dbgGo op)

def execSvcDbg (op : DbgOp) (s : State) : Out := .next (s.tapScoped 2 0x21 fun s => s.dbgSvc op)

def execRegRead (addr : Word) (s : State) : Out := atBus .tap addr 4 fun o => .next (s.tapScoped 0 0x22 (·.tapRead o))

def execProdTest (_v : Word) (s : State) : Out := .next (s.tapScoped 3 0x30 (·.tapFree 4))

def execTapScan (_v : Word) (s : State) : Out := .next (s.tapScoped 4 0x31 (·.tapFree 4))

def execAsyncDft (_v : Word) (s : State) : Out := .next (s.tapScoped 5 0x32 (·.tapFree 4))

def execTapBypass (_b : Bool) (s : State) : Out := .next (s.tapRun 0xFF State.tapBypassed)

end Sys2Proof.Machine
end

