-- ==== Sys2Proof/Machine/Dispatch.lean ====
section
/-! DEFINITION. The meaning of every command: one arm per row of the table of operations and events. -/

namespace Sys2Proof.Machine

/-- A command's effect on everything but the queue of waiting commands. -/
def exec (i : Instr) (s : State) : Host.Outcome State Fault Refusal :=
  match i with
  | .registerWrite r addr wide v => Sys2Proof.Machine.execRegisterWrite r addr wide v s
  | .subwordWrite r addr half v => Sys2Proof.Machine.execSubwordWrite r addr half v s
  | .deniedAccess r addr acc => Sys2Proof.Machine.execDeniedAccess r addr acc s
  | .counterLowRead r addr wide => Sys2Proof.Machine.execCounterLowRead r addr wide s
  | .glbSnap r v => Sys2Proof.Machine.execGlbSnap r v s
  | .snapComplete => Sys2Proof.Machine.execSnapComplete s
  | .codeViolation src victim => Sys2Proof.Machine.execCodeViolation src victim s
  | .handshakeStall src victim => Sys2Proof.Machine.execHandshakeStall src victim s
  | .connect x => Sys2Proof.Machine.execConnect x s
  | .qgrpOwnerWrite r g v => Sys2Proof.Machine.execQgrpOwnerWrite r g v s
  | .vfFlr vf => Sys2Proof.Machine.execVfFlr vf s
  | .hostReset c => Sys2Proof.Machine.execHostReset c s
  | .svcReset => Sys2Proof.Machine.execSvcReset s
  | .queueEnable r q v => Sys2Proof.Machine.execQueueEnable r q v s
  | .queueDisable r q v => Sys2Proof.Machine.execQueueDisable r q v s
  | .queuePause r q v => Sys2Proof.Machine.execQueuePause r q v s
  | .pauseClear r q v => Sys2Proof.Machine.execPauseClear r q v s
  | .queueFlush r q v => Sys2Proof.Machine.execQueueFlush r q v s
  | .flushComplete q => Sys2Proof.Machine.execFlushComplete q s
  | .cntSnap r q v => Sys2Proof.Machine.execCntSnap r q v s
  | .qCntClr r q v => Sys2Proof.Machine.execQCntClr r q v s
  | .queuePrioWrite r q v => Sys2Proof.Machine.execQueuePrioWrite r q v s
  | .queueCfgWrite r q k v => Sys2Proof.Machine.execQueueCfgWrite r q k v s
  | .sqKick r q v => Sys2Proof.Machine.execSqKick r q v s
  | .descFetchComplete q => Sys2Proof.Machine.execDescFetchComplete q s
  | .rereadComplete q => Sys2Proof.Machine.execRereadComplete q s
  | .jobDispatch p => Sys2Proof.Machine.execJobDispatch p s
  | .fenceRelease q => Sys2Proof.Machine.execFenceRelease q s
  | .jobComplete j chk => Sys2Proof.Machine.execJobComplete j chk s
  | .cqHeadWrite r q v => Sys2Proof.Machine.execCqHeadWrite r q v s
  | .heldRecordTransfer q => Sys2Proof.Machine.execHeldRecordTransfer q s
  | .rngWaitTimeout j => Sys2Proof.Machine.execRngWaitTimeout j s
  | .keygen j => Sys2Proof.Machine.execKeygen j s
  | .encaps j => Sys2Proof.Machine.execEncaps j s
  | .decaps j => Sys2Proof.Machine.execDecaps j s
  | .sign j => Sys2Proof.Machine.execSign j s
  | .verify j => Sys2Proof.Machine.execVerify j s
  | .exchange j => Sys2Proof.Machine.execExchange j s
  | .hash j => Sys2Proof.Machine.execHash j s
  | .mac j => Sys2Proof.Machine.execMac j s
  | .macCompare j => Sys2Proof.Machine.execMacCompare j s
  | .encrypt j => Sys2Proof.Machine.execEncrypt j s
  | .decrypt j => Sys2Proof.Machine.execDecrypt j s
  | .wrap j => Sys2Proof.Machine.execWrap j s
  | .unwrap j => Sys2Proof.Machine.execUnwrap j s
  | .derive j => Sys2Proof.Machine.execDerive j s
  | .attest j => Sys2Proof.Machine.execAttest j s
  | .ctxInstall j => Sys2Proof.Machine.execCtxInstall j s
  | .ctxUpdate j => Sys2Proof.Machine.execCtxUpdate j s
  | .ctxRetire j => Sys2Proof.Machine.execCtxRetire j s
  | .ctxSnapshot j => Sys2Proof.Machine.execCtxSnapshot j s
  | .keepLoad j => Sys2Proof.Machine.execKeepLoad j s
  | .keepErase j bad => Sys2Proof.Machine.execKeepErase j bad s
  | .fence q => Sys2Proof.Machine.execFence q s
  | .engineInstructionBoundary e ns => Sys2Proof.Machine.execEngineInstructionBoundary e ns s
  | .ltEnWrite r e v => Sys2Proof.Machine.execLtEnWrite r e v s
  | .aeaSelftest r e v => Sys2Proof.Machine.execAeaSelftest r e v s
  | .aeaSelftestEnd e pass => Sys2Proof.Machine.execAeaSelftestEnd e pass s
  | .maxinsnRead r e => Sys2Proof.Machine.execMaxinsnRead r e s
  | .ltCfgLock r v => Sys2Proof.Machine.execLtCfgLock r v s
  | .xcfgLock r v => Sys2Proof.Machine.execXcfgLock r v s
  | .leafWaitTimeout j => Sys2Proof.Machine.execLeafWaitTimeout j s
  | .treeBuildComplete j => Sys2Proof.Machine.execTreeBuildComplete j s
  | .jrAck r v => Sys2Proof.Machine.execJrAck r v s
  | .jrFail r v => Sys2Proof.Machine.execJrFail r v s
  | .jrPresent r v => Sys2Proof.Machine.execJrPresent r v s
  | .jrNoneLeft r v => Sys2Proof.Machine.execJrNoneLeft r v s
  | .seekTimeout => Sys2Proof.Machine.execSeekTimeout s
  | .spireNext e => Sys2Proof.Machine.execSpireNext e s
  | .spireBr e ext => Sys2Proof.Machine.execSpireBr e ext s
  | .spireCall e ext => Sys2Proof.Machine.execSpireCall e ext s
  | .spireRet e ext => Sys2Proof.Machine.execSpireRet e ext s
  | .spireDisp e => Sys2Proof.Machine.execSpireDisp e s
  | .spireLoop e => Sys2Proof.Machine.execSpireLoop e s
  | .spireWait e ext => Sys2Proof.Machine.execSpireWait e ext s
  | .spireWaitTaken e => Sys2Proof.Machine.execSpireWaitTaken e s
  | .spireDone e => Sys2Proof.Machine.execSpireDone e s
  | .spireAssert e ext => Sys2Proof.Machine.execSpireAssert e ext s
  | .boundaryCap e => Sys2Proof.Machine.execBoundaryCap e s
  | .controlStoreEccError e uncorr addr => Sys2Proof.Machine.execControlStoreEccError e uncorr addr s
  | .ucsScrub q => Sys2Proof.Machine.execUcsScrub q s
  | .ucodeQWr r q v => Sys2Proof.Machine.execUcodeQWr r q v s
  | .ucodeArm r q v => Sys2Proof.Machine.execUcodeArm r q v s
  | .ucodeQClear r q v => Sys2Proof.Machine.execUcodeQClear r q v s
  | .ucodeQClearDone q => Sys2Proof.Machine.execUcodeQClearDone q s
  | .digestStart r q v => Sys2Proof.Machine.execDigestStart r q v s
  | .digestComplete q => Sys2Proof.Machine.execDigestComplete q s
  | .bundleAbandon => Sys2Proof.Machine.execBundleAbandon s
  | .linkChange p up aui => Sys2Proof.Machine.execLinkChange p up aui s
  | .preemptVerify p ok => Sys2Proof.Machine.execPreemptVerify p ok s
  | .restartAn r p v => Sys2Proof.Machine.execRestartAn r p v s
  | .lifCntClr r p v => Sys2Proof.Machine.execLifCntClr r p v s
  | .frameIngress p bytes rx => Sys2Proof.Machine.execFrameIngress p bytes rx s
  | .dataPathAdvance f => Sys2Proof.Machine.execDataPathAdvance f s
  | .frameEgress f chk => Sys2Proof.Machine.execFrameEgress f chk s
  | .ptpHoldTimeout f => Sys2Proof.Machine.execPtpHoldTimeout f s
  | .timeAvailable => Sys2Proof.Machine.execTimeAvailable s
  | .flowAging k => Sys2Proof.Machine.execFlowAging k s
  | .recordForget g k => Sys2Proof.Machine.execRecordForget g k s
  | .rgWrite r g v => Sys2Proof.Machine.execRgWrite r g v s
  | .saevtRead r => Sys2Proof.Machine.execSaevtRead r s
  | .ptpSnap r v => Sys2Proof.Machine.execPtpSnap r v s
  | .ptpStep r v => Sys2Proof.Machine.execPtpStep r v s
  | .lockSet r set => Sys2Proof.Machine.execLockSet r set s
  | .holdoverExpiry => Sys2Proof.Machine.execHoldoverExpiry s
  | .svcFrameTx p bytes => Sys2Proof.Machine.execSvcFrameTx p bytes s
  | .rotate r v => Sys2Proof.Machine.execRotate r v s
  | .fillComplete => Sys2Proof.Machine.execFillComplete s
  | .scrubPass find => Sys2Proof.Machine.execScrubPass find s
  | .promotion c => Sys2Proof.Machine.execPromotion c s
  | .switchAtReached c => Sys2Proof.Machine.execSwitchAtReached c s
  | .drainEnd c => Sys2Proof.Machine.execDrainEnd c s
  | .relinkNow r v => Sys2Proof.Machine.execRelinkNow r v s
  | .relinkScanEnd => Sys2Proof.Machine.execRelinkScanEnd s
  | .stackTempSample t => Sys2Proof.Machine.execStackTempSample t s
  | .ctsCntClr r v => Sys2Proof.Machine.execCtsCntClr r v s
  | .ctsCfgLock r v => Sys2Proof.Machine.execCtsCfgLock r v s
  | .recoveryImage img => Sys2Proof.Machine.execRecoveryImage img s
  | .svcStatus w => Sys2Proof.Machine.execSvcStatus w s
  | .peerUp w => Sys2Proof.Machine.execPeerUp w s
  | .peerDown w => Sys2Proof.Machine.execPeerDown w s
  | .svcRekey w => Sys2Proof.Machine.execSvcRekey w s
  | .groupRekey w => Sys2Proof.Machine.execGroupRekey w s
  | .peerList w => Sys2Proof.Machine.execPeerList w s
  | .svcHb v => Sys2Proof.Machine.execSvcHb v s
  | .svcHeartbeatTimeout => Sys2Proof.Machine.execSvcHeartbeatTimeout s
  | .ikeMessage m => Sys2Proof.Machine.execIkeMessage m s
  | .childRekey k => Sys2Proof.Machine.execChildRekey k s
  | .switchMsExpiry k => Sys2Proof.Machine.execSwitchMsExpiry k s
  | .hardLifetime k => Sys2Proof.Machine.execHardLifetime k s
  | .ikeDpd k ok => Sys2Proof.Machine.execIkeDpd k ok s
  | .gdoiMessage m => Sys2Proof.Machine.execGdoiMessage m s
  | .groupkeyPush g => Sys2Proof.Machine.execGroupkeyPush g s
  | .groupReregister g => Sys2Proof.Machine.execGroupReregister g s
  | .blobLoad r v => Sys2Proof.Machine.execBlobLoad r v s
  | .bbkGen r v => Sys2Proof.Machine.execBbkGen r v s
  | .eraseAll r v bad => Sys2Proof.Machine.execEraseAll r v bad s
  | .keepCntClr r v => Sys2Proof.Machine.execKeepCntClr r v s
  | .keepCfgLock r v => Sys2Proof.Machine.execKeepCfgLock r v s
  | .sfevtRead r => Sys2Proof.Machine.execSfevtRead r s
  | .dkeTake r c => Sys2Proof.Machine.execDkeTake r c s
  | .dkeRelease r c => Sys2Proof.Machine.execDkeRelease r c s
  | .dkeForce r c => Sys2Proof.Machine.execDkeForce r c s
  | .dkeBlockBoundary c => Sys2Proof.Machine.execDkeBlockBoundary c s
  | .dkeStart r c => Sys2Proof.Machine.execDkeStart r c s
  | .dkeAbort r c => Sys2Proof.Machine.execDkeAbort r c s
  | .dkeClear r c => Sys2Proof.Machine.execDkeClear r c s
  | .keyingDone c => Sys2Proof.Machine.execKeyingDone c s
  | .beatAbsorbed c chk => Sys2Proof.Machine.execBeatAbsorbed c chk s
  | .finishDone c disagree chk => Sys2Proof.Machine.execFinishDone c disagree chk s
  | .resultRead r c k => Sys2Proof.Machine.execResultRead r c k s
  | .dkeCntClr r v => Sys2Proof.Machine.execDkeCntClr r v s
  | .dkeCfgLock r v => Sys2Proof.Machine.execDkeCfgLock r v s
  | .sfiData r c v => Sys2Proof.Machine.execSfiData r c v s
  | .sfiEop r c n v => Sys2Proof.Machine.execSfiEop r c n v s
  | .sfiFlush r c => Sys2Proof.Machine.execSfiFlush r c s
  | .abortPkt r c => Sys2Proof.Machine.execAbortPkt r c s
  | .underrun c => Sys2Proof.Machine.execUnderrun c s
  | .startupTestEnd rep prop silent shakeOk drbgOk => Sys2Proof.Machine.execStartupTestEnd rep prop silent shakeOk drbgOk s
  | .firstSeed => Sys2Proof.Machine.execFirstSeed s
  | .healthTestFail n cause => Sys2Proof.Machine.execHealthTestFail n cause s
  | .sourceRetest n pass => Sys2Proof.Machine.execSourceRetest n pass s
  | .seedProduced => Sys2Proof.Machine.execSeedProduced s
  | .reseed d => Sys2Proof.Machine.execReseed d s
  | .rngRestart r v => Sys2Proof.Machine.execRngRestart r v s
  | .rngDataRead r wide => Sys2Proof.Machine.execRngDataRead r wide s
  | .rngRawsel r v => Sys2Proof.Machine.execRngRawsel r v s
  | .rngMinSrcWrite r v => Sys2Proof.Machine.execRngMinSrcWrite r v s
  | .rngCntClr r v => Sys2Proof.Machine.execRngCntClr r v s
  | .rngLock r v => Sys2Proof.Machine.execRngLock r v s
  | .detectorAlarm n d => Sys2Proof.Machine.execDetectorAlarm n d s
  | .disagreement n d => Sys2Proof.Machine.execDisagreement n d s
  | .blfSelftest r v => Sys2Proof.Machine.execBlfSelftest r v s
  | .periodicSelftest => Sys2Proof.Machine.execPeriodicSelftest s
  | .selftestResult n d pass => Sys2Proof.Machine.execSelftestResult n d pass s
  | .blfFaultyDeclare r v => Sys2Proof.Machine.execBlfFaultyDeclare r v s
  | .fusePgm r v => Sys2Proof.Machine.execFusePgm r v s
  | .startWindowEnd => Sys2Proof.Machine.execStartWindowEnd s
  | .heartbeatTimeout d => Sys2Proof.Machine.execHeartbeatTimeout d s
  | .vigilAlarm n d => Sys2Proof.Machine.execVigilAlarm n d s
  | .backupAlarm n hot => Sys2Proof.Machine.execBackupAlarm n hot s
  | .vbatCheck mv => Sys2Proof.Machine.execVbatCheck mv s
  | .vbatBrownout mv => Sys2Proof.Machine.execVbatBrownout mv s
  | .vbatFirstApply => Sys2Proof.Machine.execVbatFirstApply s
  | .clrEvt r v => Sys2Proof.Machine.execClrEvt r v s
  | .clrFresh r v => Sys2Proof.Machine.execClrFresh r v s
  | .blfCntClr r v => Sys2Proof.Machine.execBlfCntClr r v s
  | .blfLock r v => Sys2Proof.Machine.execBlfLock r v s
  | .lcsTransition r v => Sys2Proof.Machine.execLcsTransition r v s
  | .dsProgram => Sys2Proof.Machine.execDsProgram s
  | .wipeDone r v => Sys2Proof.Machine.execWipeDone r v s
  | .transitionComplete => Sys2Proof.Machine.execTransitionComplete s
  | .chalReq r v => Sys2Proof.Machine.execChalReq r v s
  | .challengeExpiry => Sys2Proof.Machine.execChallengeExpiry s
  | .tokStart r v => Sys2Proof.Machine.execTokStart r v s
  | .tokenCheckDone => Sys2Proof.Machine.execTokenCheckDone s
  | .sessionExpiry => Sys2Proof.Machine.execSessionExpiry s
  | .endDebug r v => Sys2Proof.Machine.execEndDebug r v s
  | .ownerPgm r v => Sys2Proof.Machine.execOwnerPgm r v s
  | .lcsCntClr r v => Sys2Proof.Machine.execLcsCntClr r v s
  | .tapIdcode => Sys2Proof.Machine.execTapIdcode s
  | .samplePreload v => Sys2Proof.Machine.execSamplePreload v s
  | .extest => Sys2Proof.Machine.execExtest s
  | .extestPulse => Sys2Proof.Machine.execExtestPulse s
  | .extestTrain => Sys2Proof.Machine.execExtestTrain s
  | .clamp => Sys2Proof.Machine.execClamp s
  | .highz => Sys2Proof.Machine.execHighz s
  | .tapReset => Sys2Proof.Machine.execTapReset s
  | .lcsStatus => Sys2Proof.Machine.execLcsStatus s
  | .lcsChal => Sys2Proof.Machine.execLcsChal s
  | .tokenLoad tok => Sys2Proof.Machine.execTokenLoad tok s
  | .cupDbg op => Sys2Proof.Machine.execCupDbg op s
  | .svcDbg op => Sys2Proof.Machine.execSvcDbg op s
  | .regRead addr => Sys2Proof.Machine.execRegRead addr s
  | .prodTest v => Sys2Proof.Machine.execProdTest v s
  | .tapScan v => Sys2Proof.Machine.execTapScan v s
  | .asyncDft v => Sys2Proof.Machine.execAsyncDft v s
  | .tapBypass b => Sys2Proof.Machine.execTapBypass b s
  | .faultMessage m => Sys2Proof.Machine.execFaultMessage m s
  | .reactionEnd => Sys2Proof.Machine.execReactionEnd s
  | .fltResume r => Sys2Proof.Machine.execFltResume r s
  | .ldClr r => Sys2Proof.Machine.execLdClr r s
  | .fltCntClr r => Sys2Proof.Machine.execFltCntClr r s
  | .fltCfgLock r v => Sys2Proof.Machine.execFltCfgLock r v s
  | .firstClear r => Sys2Proof.Machine.execFirstClear r s
  | .stickyClear r v => Sys2Proof.Machine.execStickyClear r v s
  | .fltMapWrite r k v => Sys2Proof.Machine.execFltMapWrite r k v s
  | .msgLatch r => Sys2Proof.Machine.execMsgLatch r s
  | .msgPop r => Sys2Proof.Machine.execMsgPop r s
  | .eventRise src => Sys2Proof.Machine.execEventRise src s
  | .evcPendClear r w v => Sys2Proof.Machine.execEvcPendClear r w v s
  | .evcMaskWrite r w v => Sys2Proof.Machine.execEvcMaskWrite r w v s
  | .evcCntClr r v => Sys2Proof.Machine.execEvcCntClr r v s
  | .almanacWrite e bad => Sys2Proof.Machine.execAlmanacWrite e bad s
  | .powerOnReset straps u => Sys2Proof.Machine.execPowerOnReset straps u s
  | .pwrOkFall => Sys2Proof.Machine.execPwrOkFall s
  | .systemReset => Sys2Proof.Machine.execSystemReset s
  | .sysReset r v => Sys2Proof.Machine.execSysReset r v s
  | .blockReset r v => Sys2Proof.Machine.execBlockReset r v s
  | .pwrCntClr r v => Sys2Proof.Machine.execPwrCntClr r v s
  | .pwrCfgLock r v => Sys2Proof.Machine.execPwrCfgLock r v s
  | .clockFailure c => Sys2Proof.Machine.execClockFailure c s
  | .clockReady c => Sys2Proof.Machine.execClockReady c s
  | .ckgSelWrite r v => Sys2Proof.Machine.execCkgSelWrite r v s
  | .paceValid idx mon => Sys2Proof.Machine.execPaceValid idx mon s
  | .governorStep idx mon => Sys2Proof.Machine.execGovernorStep idx mon s
  | .paceLow => Sys2Proof.Machine.execPaceLow s
  | .avsFail => Sys2Proof.Machine.execAvsFail s
  | .avsRecover => Sys2Proof.Machine.execAvsRecover s
  | .tempSample tj pred pv => Sys2Proof.Machine.execTempSample tj pred pv s
  | .boostReq r v => Sys2Proof.Machine.execBoostReq r v s
  | .boostRampDone => Sys2Proof.Machine.execBoostRampDone s
  | .boostEnd r v => Sys2Proof.Machine.execBoostEnd r v s
  | .boostCreditExhausted => Sys2Proof.Machine.execBoostCreditExhausted s
  | .vigilReq r v => Sys2Proof.Machine.execVigilReq r v s
  | .vigilPinRequest => Sys2Proof.Machine.execVigilPinRequest s
  | .vigilEntryDone => Sys2Proof.Machine.execVigilEntryDone s
  | .vigilExit r v => Sys2Proof.Machine.execVigilExit r v s
  | .vigilPinExit => Sys2Proof.Machine.execVigilPinExit s
  | .vigilExitDone => Sys2Proof.Machine.execVigilExitDone s
  | .lockstepMismatch => Sys2Proof.Machine.execLockstepMismatch s
  | .warmRestart => Sys2Proof.Machine.execWarmRestart s
  | .romRecoveryImage img => Sys2Proof.Machine.execRomRecoveryImage img s
  | .mbxGo w r => Sys2Proof.Machine.execMbxGo w r s
  | .mbxAbort w r => Sys2Proof.Machine.execMbxAbort w r s
  | .mbxWrite bytes pec => Sys2Proof.Machine.execMbxWrite bytes pec s
  | .mbxRead n => Sys2Proof.Machine.execMbxRead n s
  | .mbxStatus => Sys2Proof.Machine.execMbxStatus s
  | .bootStatus w => Sys2Proof.Machine.execBootStatus w s
  | .mbxSensors w => Sys2Proof.Machine.execMbxSensors w s
  | .almanacRead w => Sys2Proof.Machine.execAlmanacRead w s
  | .mbxVersions w => Sys2Proof.Machine.execMbxVersions w s
  | .updateBegin w => Sys2Proof.Machine.execUpdateBegin w s
  | .updateEraseDone => Sys2Proof.Machine.execUpdateEraseDone s
  | .updateData w => Sys2Proof.Machine.execUpdateData w s
  | .updateEnd w => Sys2Proof.Machine.execUpdateEnd w s
  | .updateCancel w => Sys2Proof.Machine.execUpdateCancel w s
  | .updateTimeout => Sys2Proof.Machine.execUpdateTimeout s
  | .updateStatus w => Sys2Proof.Machine.execUpdateStatus w s
  | .arbCommit w => Sys2Proof.Machine.execArbCommit w s
  | .autoCommit => Sys2Proof.Machine.execAutoCommit s
  | .mbxActivate w => Sys2Proof.Machine.execMbxActivate w s
  | .cfgkeyProgram w => Sys2Proof.Machine.execCfgkeyProgram w s
  | .cfgkeyRevoke w => Sys2Proof.Machine.execCfgkeyRevoke w s
  | .cupCfgLock r v => Sys2Proof.Machine.execCupCfgLock r v s
  | .railSample v => Sys2Proof.Machine.execRailSample v s
  | .sysrstNRelease u => Sys2Proof.Machine.execSysrstNRelease u s
  | .pcieLinkUp => Sys2Proof.Machine.execPcieLinkUp s
  | .supplyOutOfRange rail => Sys2Proof.Machine.execSupplyOutOfRange rail s
  | .backupPower on => Sys2Proof.Machine.execBackupPower on s
  | .hbmRefclkLongLoss => Sys2Proof.Machine.execHbmRefclkLongLoss s
  | .ikeSaRekey k => Sys2Proof.Machine.execIkeSaRekey k s
  | .rngRawRead r => Sys2Proof.Machine.execRngRawRead r s
  | .msixUnmask fn v => Sys2Proof.Machine.execMsixUnmask fn v s

end Sys2Proof.Machine
end

