-- ==== Sys2Proof/Machine/Tick.lean ====
section
/-! DEFINITION. What one nanosecond of device time changes when no command waits: device time, the PTP time base (R274,
R275), the time that engines have been running (R160), and the system reset that ACTIVATE has put off (R594). Everything
else that time brings about is a command of its own. -/

namespace Sys2Proof.Machine

/-- One step of the PTP time base: 1 ns, and a further one, or none, whenever the adjustment of IPP_PTP_ADJ, in units of
2^-16 ppb, has added up to 1 ns. -/
def State.ptpTick (s : State) : State :=
  let whole : Int := 65536 * 1000000000
  let a := s.ipp.ptpAcc + (s.rd R.IPP_PTP_ADJ).toInt
  { s with ipp := { s.ipp with ptpNs := ((s.ipp.ptpNs : Int) + 1 + a / whole).toNat, ptpAcc := a % whole } }

/-- The AEA engines that run a job. -/
def State.busyEngines (s : State) : List Nat :=
  (((s.jqm.jobs.filter (fun j => j.phase == .running)).flatMap (fun j => [j.engine, j.engine2])).filter isAea).eraseDups

/-- AEA_BUSY of each of them. -/
def State.busyTick (s : State) : State := s.busyEngines.foldl (fun (s : State) e => s.countTime (R.AEA_BUSY e) 1) s

/-- The system reset of ACTIVATE, 1 ms after its response. -/
def State.activateTick (s : State) : State :=
  match s.cup.activateAt with
  | some t => if t ≤ s.time then s.systemReset 2 else s
  | none => s

/-- One nanosecond. -/
def State.tick (s : State) : State :=
  let s := { s with time := s.time + 1 }
  if s.power.coreUp then s.ptpTick.busyTick.activateTick else s

end Sys2Proof.Machine
end

