-- ==== Sys2Proof/WellFormed.lean ====
section
/-! DEFINITION. Which commands are well formed: their addresses lie in the requester's own map and are aligned to the access
(R11, R55, R56, R59), and byte strings and numbers that the spec bounds keep their bounds. -/

namespace Sys2Proof

/-- The address and size of the register access that a command makes at an address of its own: requester, address, bytes. -/
def Instr.access? : Instr → Option (Req × Word × Nat)
  | .registerWrite r a wide _ => some (r, a, if wide then 8 else 4)
  | .subwordWrite r a half _ => some (r, a, if half then 2 else 1)
  | .deniedAccess r a acc => some (r, a, match acc with
    | .read8 => 1
    | .read16 => 2
    | .read32 | .write32 _ => 4)
  | .counterLowRead r a wide => some (r, a, if wide then 8 else 4)
  | .regRead a => some (.tap, a, 4)
  | _ => none

/-- Whether an address lies in a requester's map and is aligned. -/
def addrOk (r : Req) (a : Word) (n : Nat) : Bool :=
  match Machine.busOffset r a.toNat with
  | some o => o % n == 0
  | none => false

/-- The bounds of the other operands: a byte write carries one byte (R11), an SMBus block at most 255 (R592), a token 7,540
(R501), an IKE ID digest 32 (R352); the noisy word of an OTP read is one of five (R493). -/
def Instr.boundsOk : Instr → Bool
  | .subwordWrite _ _ half v => half || decide (v.toNat < 256)
  | .mbxWrite bs _ => decide (bs.length ≤ 255)
  | .tokenLoad t => t.length == 7540
  | .gdoiMessage (.register _ d) => d.length == 32
  | .powerOnReset _ u => decide (u.word.toNat ≤ 5)
  | .sysrstNRelease u => decide (u.word.toNat ≤ 5)
  | _ => true

/-- A well-formed command. -/
def Instr.wf (i : Instr) : Bool :=
  (match i.access? with
  | some (r, a, n) => addrOk r a n
  | none => true) && i.boundsOk

end Sys2Proof
end

