-- ==== Sys2Proof/Safety.lean ====
section
/-! DEFINITION. What counts as a safe step, what holds of every state that the block reaches, and the frames that the
statements use. -/

namespace Sys2Proof

/-- The commands that store nothing: no byte of a memory and no bit of OTP changes, whatever the state. The others may write
host memory, SVC's memory, Cupola's SRAM, the flash or OTP. -/
def Instr.storesNothing : Instr → Bool
  | .subwordWrite _ _ _ _ | .counterLowRead _ _ _ | .snapComplete | .qgrpOwnerWrite _ _ _ | .flushComplete _ |
    .queuePrioWrite _ _ _ | .queueCfgWrite _ _ _ _ | .sqKick _ _ _ | .rereadComplete _ | .jobDispatch _ |
    .cqHeadWrite _ _ _ | .ltEnWrite _ _ _ | .aeaSelftest _ _ _ | .aeaSelftestEnd _ _ | .maxinsnRead _ _ |
    .ltCfgLock _ _ | .xcfgLock _ _ | .treeBuildComplete _ | .spireWaitTaken _ | .ucsScrub _ | .ucodeQWr _ _ _ |
    .ucodeArm _ _ _ | .ucodeQClear _ _ _ | .ucodeQClearDone _ | .digestStart _ _ _ | .digestComplete _ |
    .bundleAbandon | .linkChange _ _ _ | .preemptVerify _ _ | .restartAn _ _ _ | .lifCntClr _ _ _ |
    .frameIngress _ _ _ | .dataPathAdvance _ | .frameEgress _ _ | .ptpHoldTimeout _ | .timeAvailable | .flowAging _ |
    .recordForget _ _ | .rgWrite _ _ _ | .saevtRead _ | .ptpSnap _ _ | .ptpStep _ _ | .lockSet _ _ |
    .holdoverExpiry | .svcFrameTx _ _ | .fillComplete | .scrubPass _ | .promotion _ | .switchAtReached _ |
    .stackTempSample _ | .ctsCfgLock _ _ | .svcStatus _ | .peerUp _ | .svcRekey _ | .peerList _ | .childRekey _ |
    .groupReregister _ | .blobLoad _ _ | .bbkGen _ _ | .eraseAll _ _ _ | .keepCntClr _ _ | .keepCfgLock _ _ |
    .sfevtRead _ | .dkeTake _ _ | .dkeRelease _ _ | .dkeForce _ _ | .dkeStart _ _ | .dkeAbort _ _ | .dkeClear _ _ |
    .keyingDone _ | .beatAbsorbed _ _ | .finishDone _ _ _ | .resultRead _ _ _ | .dkeCntClr _ _ | .dkeCfgLock _ _ |
    .sfiData _ _ _ | .sfiEop _ _ _ _ | .sfiFlush _ _ | .abortPkt _ _ | .underrun _ | .sourceRetest _ _ |
    .seedProduced | .reseed _ | .rngRestart _ _ | .rngDataRead _ _ | .rngRawsel _ _ | .rngMinSrcWrite _ _ |
    .rngCntClr _ _ | .rngLock _ _ | .detectorAlarm _ _ | .disagreement _ _ | .blfSelftest _ _ | .periodicSelftest |
    .selftestResult _ _ _ | .blfFaultyDeclare _ _ | .startWindowEnd | .heartbeatTimeout _ | .backupAlarm _ _ |
    .vbatCheck _ | .vbatBrownout _ | .vbatFirstApply | .clrEvt _ _ | .clrFresh _ _ | .blfCntClr _ _ | .blfLock _ _ |
    .challengeExpiry | .tapIdcode | .samplePreload _ | .tapReset | .lcsStatus | .lcsChal | .tokenLoad _ |
    .regRead _ | .prodTest _ | .tapScan _ | .asyncDft _ | .tapBypass _ | .fltResume _ | .ldClr _ | .fltCntClr _ |
    .fltCfgLock _ _ | .firstClear _ | .stickyClear _ _ | .fltMapWrite _ _ _ | .msgLatch _ | .msgPop _ |
    .eventRise _ | .evcPendClear _ _ _ | .evcMaskWrite _ _ _ | .evcCntClr _ _ | .almanacWrite _ _ | .pwrCfgLock _ _ |
    .ckgSelWrite _ _ | .paceValid _ _ | .governorStep _ _ | .paceLow | .avsFail | .avsRecover | .boostRampDone |
    .boostCreditExhausted | .vigilPinExit | .lockstepMismatch | .mbxGo _ _ | .mbxAbort _ _ | .mbxWrite _ _ |
    .mbxRead _ | .mbxStatus | .bootStatus _ | .mbxSensors _ | .almanacRead _ | .mbxVersions _ | .updateEraseDone |
    .updateStatus _ | .arbCommit _ | .autoCommit | .mbxActivate _ | .cfgkeyProgram _ | .cfgkeyRevoke _ |
    .railSample _ | .pcieLinkUp | .supplyOutOfRange _ | .backupPower _ | .ikeSaRekey _ | .rngRawRead _ |
    .msixUnmask _ _ => true
  | .registerWrite _ _ _ _ | .deniedAccess _ _ _ | .glbSnap _ _ | .codeViolation _ _ | .handshakeStall _ _ |
    .connect _ | .vfFlr _ | .hostReset _ | .svcReset | .queueEnable _ _ _ | .queueDisable _ _ _ | .queuePause _ _ _ |
    .pauseClear _ _ _ | .queueFlush _ _ _ | .cntSnap _ _ _ | .qCntClr _ _ _ | .descFetchComplete _ |
    .fenceRelease _ | .jobComplete _ _ | .heldRecordTransfer _ | .rngWaitTimeout _ | .keygen _ | .encaps _ |
    .decaps _ | .sign _ | .verify _ | .exchange _ | .hash _ | .mac _ | .macCompare _ | .encrypt _ | .decrypt _ |
    .wrap _ | .unwrap _ | .derive _ | .attest _ | .ctxInstall _ | .ctxUpdate _ | .ctxRetire _ | .ctxSnapshot _ |
    .keepLoad _ | .keepErase _ _ | .fence _ | .engineInstructionBoundary _ _ | .leafWaitTimeout _ | .jrAck _ _ |
    .jrFail _ _ | .jrPresent _ _ | .jrNoneLeft _ _ | .seekTimeout | .spireNext _ | .spireBr _ _ | .spireCall _ _ |
    .spireRet _ _ | .spireDisp _ | .spireLoop _ | .spireWait _ _ | .spireDone _ | .spireAssert _ _ | .boundaryCap _ |
    .controlStoreEccError _ _ _ | .rotate _ _ | .drainEnd _ | .relinkNow _ _ | .relinkScanEnd | .ctsCntClr _ _ |
    .recoveryImage _ | .peerDown _ | .groupRekey _ | .svcHb _ | .svcHeartbeatTimeout | .ikeMessage _ |
    .switchMsExpiry _ | .hardLifetime _ | .ikeDpd _ _ | .gdoiMessage _ | .groupkeyPush _ | .dkeBlockBoundary _ |
    .startupTestEnd _ _ _ _ _ | .firstSeed | .healthTestFail _ _ | .fusePgm _ _ | .vigilAlarm _ _ |
    .lcsTransition _ _ | .dsProgram | .wipeDone _ _ | .transitionComplete | .chalReq _ _ | .tokStart _ _ |
    .tokenCheckDone | .sessionExpiry | .endDebug _ _ | .ownerPgm _ _ | .lcsCntClr _ _ | .extest | .extestPulse |
    .extestTrain | .clamp | .highz | .cupDbg _ | .svcDbg _ | .faultMessage _ | .reactionEnd | .powerOnReset _ _ |
    .pwrOkFall | .systemReset | .sysReset _ _ | .blockReset _ _ | .pwrCntClr _ _ | .clockFailure _ | .clockReady _ |
    .tempSample _ _ _ | .boostReq _ _ | .boostEnd _ _ | .vigilReq _ _ | .vigilPinRequest | .vigilEntryDone |
    .vigilExit _ _ | .vigilExitDone | .warmRestart | .romRecoveryImage _ | .updateBegin _ | .updateData _ |
    .updateEnd _ | .updateCancel _ | .updateTimeout | .cupCfgLock _ _ | .sysrstNRelease _ |
    .hbmRefclkLongLoss => false

end Sys2Proof

namespace Sys2Proof.Machine

/-- A step that goes on: neither a fault nor a refusal. -/
def Goes (o : Out) : Prop := ∃ t, o = .next t

/-- Whether every command that waits is well formed. -/
def State.queueWf (s : State) : Bool := s.pending.all (·.wf)

/-- The byte memories are in their canonical form: host memory, SVC's memory, Cupola's SRAM, and the flash, whose erased
bytes read 0xFF. -/
def State.memWf (s : State) : Bool :=
  Memory.wf s.hostMem && Memory.wf s.svcMem && Memory.wf s.cupMem && swf flashDefault s.cup.flash

/-- The register file is in its canonical form: offsets rising, no register listed at its reset value. -/
def State.regsWf (s : State) : Bool := swf regReset s.regs

/-- The serial numbers of the dispatched jobs differ, and the next one is free. -/
abbrev JqmSt.idsOk (x : JqmSt) : Prop := (x.jobs.map (·.id)).Nodup ∧ ∀ j ∈ x.jobs, j.id < x.nextId

/-- The same of the device. -/
def State.jobsOk (s : State) : Prop := s.jqm.idsOk

/-- One-time programmable memory from `a` to `b`: no programmed bit falls, and a value once written stays (R478, R491,
R492, R501). -/
structure OtpGrows (a b : OtpSt) : Prop where
  ds : a.ds.isSome = true → b.ds = a.ds
  devId : b.devId = a.devId
  lcsA : ∀ w i, (sget (fun _ => 0) a.lcsA w).testBit i = true → (sget (fun _ => 0) b.lcsA w).testBit i = true
  lcsB : ∀ w i, (sget (fun _ => 0) a.lcsB w).testBit i = true → (sget (fun _ => 0) b.lcsB w).testBit i = true
  ownerDigest : a.ownerDigest.isSome = true → b.ownerDigest = a.ownerDigest
  fuses : ∀ i, a.fuses.testBit i = true → b.fuses.testBit i = true

/-- Every byte of host memory, SVC's memory, Cupola's SRAM and the flash reads as before, and OTP is as before. -/
structure SameMemory (s t : State) : Prop where
  host : ∀ a, memByte t.hostMem a = memByte s.hostMem a
  svc : ∀ a, memByte t.svcMem a = memByte s.svcMem a
  cup : ∀ a, memByte t.cupMem a = memByte s.cupMem a
  flash : ∀ a, sget flashDefault t.cup.flash a = sget flashDefault s.cup.flash a
  otp : t.otp = s.otp

/-- Every register but those at the listed offsets reads as before. -/
def SameRegsBut (os : List Nat) (s t : State) : Prop := ∀ o, o ∉ os → t.rd o = s.rd o

/-- Everything but the register file is as before. -/
def OnlyRegs (s t : State) : Prop := t = { s with regs := t.regs }

/-- Everything but the register file, the live counts and their readable copies is as before. -/
def OnlyCounters (s t : State) : Prop := t = { s with regs := t.regs, cnt := t.cnt, cntCopy := t.cntCopy }

/-- Every counter but those at the listed offsets is as before, live and in its readable copy. -/
def SameCountsBut (os : List Nat) (s t : State) : Prop :=
  ∀ o, o ∉ os → t.cntGet o = s.cntGet o ∧ sget (fun _ => 0) t.cntCopy o = sget (fun _ => 0) s.cntCopy o

/-- The offsets of `n` counters from `o` on. -/
def countersAt (o n : Nat) : List Nat := (List.range n).map (fun k => o + 8 * k)

/-- The counters at the listed offsets read 0, live and in their readable copies, with no bit that shows their saturation
(those lie in the registers `sat`), and nothing else has changed. -/
def Zeroes (os sat : List Nat) (s t : State) : Prop :=
  (∀ o ∈ os, t.cntGet o = 0 ∧ sget (fun _ => 0) t.cntCopy o = 0 ∧ ∀ f, satOf o = some f → t.on f = false) ∧
    SameCountsBut os s t ∧ SameRegsBut sat s t ∧ OnlyCounters s t

/-- A requester that is out of reset and has the right to write the register at an offset, which is itself reachable. -/
def State.mayWrite (s : State) (r : Req) (o : Nat) : Prop := s.reqUp r = true ∧ s.grants r o true = true

/-- The same for a read. -/
def State.mayRead (s : State) (r : Req) (o : Nat) : Prop := s.reqUp r = true ∧ s.grants r o false = true

/-- The registers that the rise of an event source touches (R528, R16). -/
def eventRegs : List Nat := R.EVC_SAT :: (List.range 8).map R.EVC_PEND

/-- Every byte of memory reads as before, but for `n` bytes from `a` on in the memory behind the requester ID `owner`. -/
structure OnlyStores (owner a n : Nat) (s t : State) : Prop where
  host : ∀ x, owner = 0x3F ∨ x < a ∨ a + n ≤ x → memByte t.hostMem x = memByte s.hostMem x
  svc : ∀ x, owner ≠ 0x3F ∨ x < a ∨ a + n ≤ x → memByte t.svcMem x = memByte s.svcMem x
  cup : ∀ x, memByte t.cupMem x = memByte s.cupMem x
  flash : ∀ x, sget flashDefault t.cup.flash x = sget flashDefault s.cup.flash x
  otp : t.otp = s.otp

/-- The address of the ring slot at a queue's tail (R99). -/
def State.ringSlot (s : State) (q : Nat) : Nat := s.cqBase q + 32 * s.get (F.CQ_TAIL_INDEX q)

/-- A queue's ring can take a record now: its size is one of R67, no record is held, a slot is free, and the DMA write does
not fault. -/
def State.ringReady (s : State) (q : Nat) : Prop :=
  q < 4096 ∧ cqSizeOk (s.cqSize q) = true ∧ (s.qst q).held = [] ∧ s.ringFree q = true ∧
    s.dmaFaults (s.qOwner q) (s.ringSlot q) 32 true = false

/-- A record has been written at the tail of a queue's ring and nowhere else, and the tail, its phase and the queue's two
counters have followed (R76, R99, R100). -/
structure RecordWritten (q : Nat) (r : Record) (s t : State) : Prop where
  bytes : memRead (t.memOf (s.qOwner q)) (s.ringSlot q) 32 = recordBytes r (s.get (F.CQ_TAIL_TAIL_PHASE q))
  rest : OnlyStores (s.qOwner q) (s.ringSlot q) 32 s t
  tail : t.get (F.CQ_TAIL_INDEX q) = (s.get (F.CQ_TAIL_INDEX q) + 1) % s.cqSize q
  phase : t.get (F.CQ_TAIL_TAIL_PHASE q) = if (s.get (F.CQ_TAIL_INDEX q) + 1) % s.cqSize q = 0 then
    1 - s.get (F.CQ_TAIL_TAIL_PHASE q) else s.get (F.CQ_TAIL_TAIL_PHASE q)
  done : t.cntGet (R.Q_JOBS_DONE q) = min (s.cntGet (R.Q_JOBS_DONE q) + 1) (cntMax (R.Q_JOBS_DONE q))
  err : t.cntGet (R.Q_JOBS_ERR q) = if r.result.status < 0x10 then s.cntGet (R.Q_JOBS_ERR q)
    else min (s.cntGet (R.Q_JOBS_ERR q) + 1) (cntMax (R.Q_JOBS_ERR q))

/-- The job of a number has ended with a result, which waits for its record. -/
def JobEnded (i : Nat) (r : JobResult) (t : State) : Prop :=
  ∃ k, t.job? i = some k ∧ k.phase = .done ∧ k.result = some r ∧ k.doneAt = t.time

/-- The nanoword that a job's engine issues with a microword performs no operation and loads no loop counter. -/
def State.quietWord (s : State) (j : Job) (w : Nat) : Prop :=
  nwUnit (s.nanoAt j.engine (mwNano w)) = 0 ∧ nwLcLd (s.nanoAt j.engine (mwNano w)) = false

/-- The Spire of a job has gone on to an address, taken through the hook table, with the sequencer state `p`; it counts its
microwords since the last boundary, and nothing else has changed (R210, R211, R220, R223). -/
def MovesTo (s t : State) (j : Job) (p : Spire) (w next : Nat) : Prop :=
  t.job? j.id = some { j with spire := { p with
    upc := (s.quad (quadOf j.engine)).hooked (next % 2 ^ 14)
    waiting := false
    atBnd := mwBnd w
    sinceBnd := if mwBnd w && !p.asyncPend then 0 else p.sinceBnd + 1 } } ∧
  (∀ i, i ≠ j.id → t.job? i = s.job? i) ∧ t = { s with jqm := { s.jqm with jobs := t.jqm.jobs } }

/-- The unit of a queue job of an opcode works on it: it waits for nothing, no abort is pending, and its ALG is no patched
one. -/
def State.worksOn (s : State) (i op : Nat) (j : Job) : Prop :=
  s.jobsOk ∧ s.job? i = some j ∧ j.kind = .queue ∧ j.wait = .none ∧ dOpcode j.desc = op ∧ s.mayMove j = true ∧
    isPatchAlg j.desc = false ∧ j.abort = .none

/-- The same, with a scatter list that is large enough and the input that stages 7 and 8 of R95 found. -/
def State.worksWith (s : State) (i op : Nat) (j : Job) (x : JobIn) : Prop :=
  s.worksOn i op j ∧ s.scatterSmall j.owner j.desc = false ∧
    stage78 s j.owner j.desc (s.moreBufs j.owner j.desc) = .ok x

/-- The output fits the one buffer at `a`, and the DMA write of it does not fault. -/
def State.outputFits (s : State) (j : Job) (x : JobIn) (a : Nat) (out : List Byte) : Prop :=
  (∃ n, x.outs = [(a, n)] ∧ out.length ≤ n) ∧ s.dmaFaults j.owner a out.length true = false

/-- A job has ended OK (or OK_TRUNCATED) with an output that stands in its buffer, and no other byte of memory has changed. -/
def JobWrote (j : Job) (x : JobIn) (a : Nat) (out : List Byte) (detail : Nat) (s t : State) : Prop :=
  memRead (t.memOf j.owner) a out.length = out ∧ OnlyStores j.owner a out.length s t ∧
    JobEnded j.id (okResult j.engine detail out.length x.excess) t

/-- A frame of the device has been dropped with a reason: it is gone, and counted at its ingress port (R285). -/
def FrameDropped (f : FrameSt) (code : Nat) (s t : State) : Prop :=
  t.frame? f.id = none ∧ (∀ i, i ≠ f.id → t.frame? i = s.frame? i) ∧
    t.cntGet (R.LIF_DROP f.port code) = min (s.cntGet (R.LIF_DROP f.port code) + 1) (cntMax (R.LIF_DROP f.port code)) ∧
    SameMemory s t

/-- A frame that arrives with a good or a bad FCS, and nothing else to report, is counted at its port as received and as
dropped with a reason, and changes nothing else (R285, R290). -/
def FrameRefused (s : State) (p : Fin 16) (bs : List Byte) (ok : Bool) (code : Nat) : Prop :=
  ∃ t, exec (.frameIngress p bs ⟨ok, 0, 0, none⟩) s = .next t ∧
    t.cntGet (R.LIF_CNT p 0) = min (s.cntGet (R.LIF_CNT p 0) + 1) (cntMax (R.LIF_CNT p 0)) ∧
    t.cntGet (R.LIF_CNT p 1) = min (s.cntGet (R.LIF_CNT p 1) + (bs.length + 4)) (cntMax (R.LIF_CNT p 1)) ∧
    t.cntGet (R.LIF_DROP p code) = min (s.cntGet (R.LIF_DROP p code) + 1) (cntMax (R.LIF_DROP p code)) ∧
    OnlyCounters s t

/-- The egress queue of a port takes a frame of a class and a length without FCS: the port is up, the frame not too big,
and for class 2 the buffer has room (R244 to R246). -/
def State.egressTakes (s : State) (p cls n : Nat) : Prop :=
  n + 4 ≤ s.get (F.LIF_MAXFRM_BYTES p) ∧ s.portUp p = true ∧ (cls = 0 ∨
    (s.queuedBytes (fun _ => true) + n + 4 ≤ s.sharedBuffer ∧ s.queuedBytes (· == p) + n + 4 ≤ s.get (F.LIF_QMAX_BYTES p)))

/-- A command of a service waits in a mailbox window with its payload, and Cupola serves it (R588, R589). -/
def State.serves (s : State) (w : MbxWin) (svc cmd : Nat) (p : List Byte) : Prop :=
  s.winBusy w = true ∧ s.mbxServes = true ∧ s.verdict w = none ∧ fService (s.winReq w) = svc ∧ fCommand (s.winReq w) = cmd ∧
    fPayload (s.winReq w) = p

/-- The bytes of a window's response area. -/
def State.winRsp (s : State) (w : MbxWin) : List Byte :=
  match winNo w with
  | some n => s.regBytes (R.MBX_RSP n 0) 1024
  | none => s.cup.smb.rsp

/-- DONE of a window. -/
def State.winDone (s : State) (w : MbxWin) : Bool :=
  match winNo w with
  | some n => s.on (F.MBX_STAT_DONE n)
  | none => s.cup.smb.done

/-- The command of a window has been answered: BUSY is 0 and DONE 1, and the response repeats SERVICE, COMMAND and the tag
of the request, with a status, LEN, a detail and a payload (R588, R589). -/
structure Answered (w : MbxWin) (status detail : Nat) (payload : List Byte) (s t : State) : Prop where
  busy : t.winBusy w = false
  done : t.winDone w = true
  service : byteAt (t.winRsp w) 0 = fService (s.winReq w)
  command : byteAt (t.winRsp w) 1 = fCommand (s.winReq w)
  status : byteAt (t.winRsp w) 2 = status
  tag : slice (t.winRsp w) 4 4 = fit 4 (slice (s.winReq w) 4 4)
  len : leAt (t.winRsp w) 8 4 = payload.length
  detail : leAt (t.winRsp w) 12 4 = detail
  payload : slice (t.winRsp w) 16 payload.length = payload

/-- A new key for a group has room in KEEP and goes into the group's context (R375). -/
def State.pushes (s : State) (g : Nat) : Prop := (s.groupFresh g).2.isSome = true

/-- What a counter reads once it has counted `n` more: it saturates (R16). -/
def State.plus (s : State) (o n : Nat) : Nat := min (s.cntGet o + n) (cntMax o)

/-- The pending bit of an event source (R528). -/
def State.isPending (s : State) (n : Nat) : Bool := s.on (evcBit (R.EVC_PEND 0) n)

/-- One more fault message is on its way to FCR, the next of its SOURCE (R512, R513). -/
def Reports (source kind sev addr : Nat) (s t : State) : Prop :=
  t.fcr.transit = s.fcr.transit ++ [faultMsg source kind sev (sget (fun _ => 0) s.fcr.seqTx source) addr]

/-- A detector alarms that can make its source alarm (R466, R469, R471): Belfry is out of reset, the detector is live and not
under test, no detector of the source is in alarm, LOGIC's counts are reached, and the source issued no alarm within 10 µs. -/
structure State.alarms (s : State) (n : Fin 14) (d : Det) : Prop where
  up : s.blfUp = true
  live : s.detLive n (detNum d) = true
  free : s.underTest (2 * n.val + detNum d) = false
  counts : n.val = 12 → s.logicFires (detNum d) = true
  quiet : s.inAlarm (2 * n.val) = false ∧ s.inAlarm (2 * n.val + 1) = false
  last : sget (fun _ => 0) s.blf.last n = 0 ∨ sget (fun _ => 0) s.blf.last n - 1 + 10000 ≤ s.time

/-- A lone alarm of a detector is an alarm of its source: POLICY is ANY, or its partner is not live (R469). -/
def State.aloneCounts (s : State) (n : Fin 14) (d : Det) : Prop :=
  s.on (F.BLF_SRC_CFG_POLICY n) = false ∨ s.detLive n (1 - detNum d) = false

/-- The registers of Belfry that an alarm touches, and those of its event. -/
def alarmRegs : List Nat := R.BLF_LATCH :: R.BLF_SAT0 :: eventRegs

end Sys2Proof.Machine
end

