-- ==== Sys2Proof/Certificates/Slice0/Obligations.lean ====
section
/-! DEFINITION. What is to be proved of the model. -/

open Sys2Proof Sys2Proof.Machine

/-- O1. A step runs the command in front. With command c at the front of the queue of waiting commands, a step is c's
effect on the state with the queue's rest. -/
def Obligations.StepRunsFrontCommand : Prop :=
  ∀ (c : Instr) (cs : List Instr) (s : State), step { s with pending := c :: cs } = exec c { s with pending := cs }

/-- O2. With no command waiting a step lets one nanosecond pass. The model's choice (assumption 1): on an empty queue
a step answers a next state, device time is one nanosecond later and the queue stays empty; with the core in reset
nothing else changes. -/
def Obligations.IdleStepPassesTime : Prop :=
  ∀ s : State, s.pending = [] →
    ∃ t, step s = .next t ∧ t.time = s.time + 1 ∧ t.pending = [] ∧
      (s.power.coreUp = false → t = { s with time := s.time + 1 })

/-- O3. Registers and queue after reset. After reset no command waits and every register reads its reset value; among
them those the register tables give: queue group 31 belongs to SVC (OWNER 0x3F), every other group to the host PF,
every queue has WEIGHT 1 and class 2, class 1 in group 31, RNG stands in RESET, MGMT_SRC selects SYSCLK and PTP_AUTO
is 1. -/
def Obligations.ResetRegisterValues : Prop :=
  State.reset.pending = [] ∧
  (∀ o, State.reset.rd o = regReset o) ∧
  (∀ g : Fin 32, State.reset.get (F.GLB_QGRP_OWNER g) = if g.val = 31 then 0x3F else 0) ∧
  (∀ q : Fin 4096, State.reset.get (F.Q_PRIO_WEIGHT q) = 1 ∧
    State.reset.get (F.Q_PRIO_CLASS q) = if q.val / 128 = 31 then 1 else 2) ∧
  State.reset.get F.RNG_STAT_STATE = 0 ∧ State.reset.get F.CKG_SEL_MGMT_SRC = 0 ∧
  State.reset.get F.CKG_SEL_PTP_AUTO = 1

/-- O4. The forms hold after reset. After reset every waiting command is well formed, and the memories and the
register file are in canonical form. -/
def Obligations.ResetIsWellFormed : Prop :=
  State.reset.queueWf = true ∧ State.reset.memWf = true ∧ State.reset.regsWf = true

/-- O5. Every step keeps the canonical forms. From every state whose waiting commands are well formed and whose
memories, flash and register file are in canonical form, a step that answers a next state answers one of which the
same holds: host memory, SVC's memory, Cupola's SRAM, the flash and the register file stay sorted, with no entry equal
to what an unlisted address reads as. -/
def Obligations.EveryStepKeepsForms : Prop :=
  ∀ s t : State, s.queueWf = true → s.memWf = true → s.regsWf = true → step s = .next t →
    t.queueWf = true ∧ t.memWf = true ∧ t.regsWf = true

/-- O6. No step takes a programmed OTP bit back. One-time programmable memory: after any step every bit of the life-
cycle words (both copies) and of the silicon fuses that was programmed is still programmed, the device ID is the same,
and a device secret or owner digest once programmed never changes. -/
def Obligations.OtpOnlyGrows : Prop :=
  ∀ s t : State, step s = .next t → OtpGrows s.otp t.otp

/-- O7. A command changes neither device time nor the queue, and a quiet one no memory. Whatever the command, when it
answers a next state device time is as before, so are the commands that wait, and the model's counter of free values
has not gone back. The frame of the commands that storesNothing lists: every byte of host memory, SVC's memory,
Cupola's SRAM and the flash reads as before, and OTP is as before. -/
def Obligations.CommandFrames : Prop :=
  (∀ (c : Instr) (s t : State), exec c s = .next t → t.time = s.time ∧ t.pending = s.pending ∧ s.free ≤ t.free) ∧
  (∀ (c : Instr) (s t : State), c.storesNothing = true → exec c s = .next t → SameMemory s t)

/-- O8. A well-formed command always completes, and what stops the block. A command whose operands keep their bounds
never ends in a fault or a refusal, in any state. No command is ever refused. The fault badAddress is raised exactly
by the register accesses with an address of their own whose address lies outside the requester's map or is not
aligned; badLength exactly by an SMBus write of more than 255 bytes. Cupola and SVC see the block at BAR0 offset X at
0x4000_0000 + X, from 0x4000_0000 to 0x40FF_FFFF, and nothing elsewhere. -/
def Obligations.WellFormedCommandsGoOn : Prop :=
  (∀ (c : Instr) (s : State), c.wf = true → Goes (exec c s)) ∧
  (∀ (c : Instr) (s : State),
    (∀ r, exec c s ≠ .refused r) ∧
    (exec c s = .fault .badAddress ↔ ∃ r a n, c.access? = some (r, a, n) ∧ addrOk r a n = false) ∧
    (exec c s = .fault .badLength ↔ ∃ bs pec, c = .mbxWrite bs pec ∧ 255 < bs.length) ∧
    (∀ r ∈ [Req.cupola, .svc], ∀ x y : Nat, busOffset r y = some x ↔ x ≤ 0xFFFFFF ∧ y = 0x40000000 + x))

/-- O9. A refused access is counted and changes nothing else; a permitted write takes effect. A 32-bit access by a
requester that is out of reset, without the right to the register or to an offset that holds none or whose block is
held in reset: a read returns 0, a write has no effect; DENIED_ACC is set, GLB_DENIED counts one, and GLB_DENIED_ADDR
takes the offset, the requester and the direction if DENIED_ACC was 0 and else keeps its value. No other register
changes but DKE's saturation bits, no memory, nothing else but counters. A permitted 32-bit write of the read-write
register KEEP_BL_ADDR stores the word and changes nothing else; a 64-bit write at KEEP_BL_ADDR is two 32-bit writes,
the lower address first, and stores both words; a write of a read-only register, here GLB_STRAP, changes nothing. A
write of 8 or 16 bits to a register that its requester may write only sets SUBWORD_WR; to another offset it also
counts as refused. -/
def Obligations.RegisterAccess : Prop :=
  (∀ (s : State) (r : Req) (a : Word) (o : Nat), busOffset r a.toNat = some o → o % 4 = 0 → s.reqUp r = true →
    (s.grants r o true = false → ∀ v w : Word, ∀ c ∈ [Instr.deniedAccess r a (.write32 v),
        Instr.registerWrite r a false (v ++ w)],
      ∃ t, exec c s = .next t ∧ t.on F.GLB_STAT_DENIED_ACC = true ∧
        t.cntGet R.GLB_DENIED = min (s.cntGet R.GLB_DENIED + 1) (cntMax R.GLB_DENIED) ∧
        t.rd R.GLB_DENIED_ADDR = (if s.on F.GLB_STAT_DENIED_ACC then s.rd R.GLB_DENIED_ADDR
          else BitVec.ofNat 32 (o % 2 ^ 24 + reqCode r * 2 ^ 24 + 2 ^ 31)) ∧
        SameRegsBut [R.GLB_STAT, R.GLB_DENIED_ADDR, R.DKE_SAT] s t ∧ SameMemory s t) ∧
    (s.grants r o false = false →
      ∃ t, exec (.deniedAccess r a .read32) s = .next t ∧ t.busOut = 0 ∧ t.on F.GLB_STAT_DENIED_ACC = true ∧
        t.cntGet R.GLB_DENIED = min (s.cntGet R.GLB_DENIED + 1) (cntMax R.GLB_DENIED) ∧
        t.rd R.GLB_DENIED_ADDR = (if s.on F.GLB_STAT_DENIED_ACC then s.rd R.GLB_DENIED_ADDR
          else BitVec.ofNat 32 (o % 2 ^ 24 + reqCode r * 2 ^ 24)) ∧
        SameRegsBut [R.GLB_STAT, R.GLB_DENIED_ADDR, R.DKE_SAT] s t ∧ SameMemory s t)) ∧
  (∀ (s : State) (r : Req) (a : Word),
    (∀ v : DWord, busOffset r a.toNat = some R.KEEP_BL_ADDR → s.mayWrite r R.KEEP_BL_ADDR →
      exec (.registerWrite r a false v) s = .next (s.wr R.KEEP_BL_ADDR (v.setWidth 32))) ∧
    (∀ v : DWord, busOffset r a.toNat = some R.KEEP_BL_ADDR → s.mayWrite r R.KEEP_BL_ADDR → s.mayWrite r R.KEEP_BL_LEN →
      ∃ t, exec (.registerWrite r a true v) s = .next t ∧ t.rd R.KEEP_BL_ADDR = v.setWidth 32 ∧
        t.rd R.KEEP_BL_LEN = (v >>> 32).setWidth 32 ∧ SameRegsBut [R.KEEP_BL_ADDR, R.KEEP_BL_LEN] s t ∧ OnlyRegs s t) ∧
    (∀ v : DWord, busOffset r a.toNat = some R.GLB_STRAP → s.mayWrite r R.GLB_STRAP →
      ∃ t, exec (.registerWrite r a false v) s = .next t ∧ SameRegsBut [] s t ∧ OnlyRegs s t) ∧
    (∀ (half : Bool) (v : BitVec 16) (o : Nat), busOffset r a.toNat = some o → o % (if half then 2 else 1) = 0 →
      s.reqUp r = true → ∃ t, exec (.subwordWrite r a half v) s = .next t ∧ t.on F.GLB_STAT_SUBWORD_WR = true ∧
        (s.grants r (o / 4 * 4) true = true → SameRegsBut [R.GLB_STAT] s t ∧ OnlyRegs s t) ∧
        (s.grants r (o / 4 * 4) true = false → t = (s.set F.GLB_STAT_SUBWORD_WR).denied r (o / 4 * 4) true)))

/-- O10. A 64-bit counter is read at one instant, and GLB_SNAP captures every counter at one. A permitted 32-bit read
of a counter's low word returns its low 32 bits and latches the high word: the next read of the high word returns the
latched value, whatever has been counted since. A single 64-bit read returns both halves. Either changes only the data
returned and the latch. A permitted write of GLB_SNAP, with none in progress, captures every live count and sets
SNAP_BUSY; while SNAP_BUSY is 1 it only sets SNAP_REJECT. When the load ends, the readable copy of every counter is
what the capture took, whatever was counted meanwhile, and SNAP_BUSY is 0. -/
def Obligations.CountersAreReadWhole : Prop :=
  (∀ (s : State) (r : Req) (a b : Word) (o : Nat), busOffset r a.toNat = some o → busOffset r b.toNat = some (o + 4) →
    o % 8 = 0 → counterAt o = some o → counterAt (o + 4) = some o → s.mayRead r o →
    (∃ t, exec (.counterLowRead r a false) s = .next t ∧ t.busOut = BitVec.ofNat 64 (s.cntShown o % 2 ^ 32) ∧
      t = { s with busOut := t.busOut, hiLatch := t.hiLatch } ∧
      (∀ x : State, x.hiLatch = t.hiLatch → x.mayRead r (o + 4) → ∃ u, exec (.counterLowRead r b false) x = .next u ∧
        u.busOut = BitVec.ofNat 64 (s.cntShown o / 2 ^ 32) ∧ u = { x with busOut := u.busOut, hiLatch := u.hiLatch })) ∧
    (∃ t, exec (.counterLowRead r a true) s = .next t ∧ t.busOut = BitVec.ofNat 64 (s.cntShown o) ∧
      t = { s with busOut := t.busOut })) ∧
  (∀ (s : State) (r : Req) (v : Word),
    (s.mayWrite r R.GLB_SNAP → s.on F.GLB_STAT_SNAP_BUSY = false →
      ∃ t, exec (.glbSnap r v) s = .next t ∧ t.cntSnap = s.cnt ∧ t.on F.GLB_STAT_SNAP_BUSY = true ∧ t.cntCopy = s.cntCopy ∧
        SameRegsBut [R.GLB_STAT] s t ∧ t = { s with regs := t.regs, cntSnap := t.cntSnap }) ∧
    (s.mayWrite r R.GLB_SNAP → s.on F.GLB_STAT_SNAP_BUSY = true →
      exec (.glbSnap r v) s = .next (s.set F.GLB_STAT_SNAP_REJECT)) ∧
    (s.on F.GLB_STAT_SNAP_BUSY = true →
      ∃ t, exec .snapComplete s = .next t ∧ t.cntCopy = s.cntSnap ∧ t.on F.GLB_STAT_SNAP_BUSY = false ∧
        SameRegsBut [R.GLB_STAT] s t ∧ t = { s with regs := t.regs, cntCopy := t.cntCopy, cntSnap := [] }))

/-- O11. The CNT_CLR and CNT_SNAP bits, and the LOCK bits. A permitted write of 1 to CNT_CLR zeroes every counter of
its block, live count, readable copy and saturation bit, and changes nothing else beyond the bits that the same word
assigns (here SCRUB_EN of CTS, EN and LOOPBACK of an enabled LIF port, and the four configuration bits of a queue),
where the word asks for no other operation. CNT_SNAP of a queue loads its two readable copies from the live counts. A
permitted write with LOCK = 1 of AEA_LT_CFG, AEA_XCFG, CTS_CFG, KEEP_CFG, DKE_CFG, FLT_CFG, PWR_CFG or CUP_CFG sets
LOCK and touches no other register and nothing else; where LOCK was 1 already the whole register keeps its value,
whatever was written. LOCK of RNG_CTL and of BLF_CTL, written alone, only sets that bit. -/
def Obligations.CounterClearsAndLocks : Prop :=
  (∀ (s : State) (r : Req) (v : Word),
    (s.mayWrite r R.EVC_CTL → ∃ t, exec (.evcCntClr r v) s = .next t ∧ Zeroes (countersAt (R.EVC_CNT 0) 3) [R.EVC_SAT] s t) ∧
    (s.mayWrite r R.KEEP_CTL → v.getLsbD 0 = false →
      ∃ t, exec (.keepCntClr r v) s = .next t ∧ Zeroes (countersAt (R.KEEP_CNT 0) 9) [R.KEEP_SAT] s t) ∧
    (s.mayWrite r R.FLT_CTL → ∃ t, exec (.fltCntClr r) s = .next t ∧ Zeroes (countersAt (R.FLT_KCNT 0) 32) [R.FLT_KSAT] s t) ∧
    (s.mayWrite .cupola R.LCS_CTL → v &&& 0x1F = 0 →
      ∃ t, exec (.lcsCntClr .cupola v) s = .next t ∧ Zeroes (countersAt (R.LCS_CNT 0) 5) [R.LCS_SAT] s t) ∧
    (s.mayWrite r R.PWR_CTL → v &&& 0x1F = 0 →
      ∃ t, exec (.pwrCntClr r v) s = .next t ∧ Zeroes (countersAt (R.PWR_CNT 0) 7) [R.PWR_SAT] s t) ∧
    (s.mayWrite r R.RNG_CTL → v &&& 0x80000001 = 0 →
      ∃ t, exec (.rngCntClr r v) s = .next t ∧ Zeroes (countersAt (R.RNG_CNT 0) 8) [R.RNG_SAT] s t) ∧
    (s.mayWrite r R.BLF_CTL → v &&& 0x80000001 = 0 →
      ∃ t, exec (.blfCntClr r v) s = .next t ∧
        Zeroes (countersAt (R.BLF_ALM_CNT 0) 14 ++ countersAt (R.BLF_DIS_CNT 0) 14 ++ countersAt (R.BLF_FILTC 0) 14)
          [R.BLF_SAT0, R.BLF_SAT1, R.BLF_SAT2] s t) ∧
    (s.mayWrite r R.CTS_CTL → v &&& 5 = 0 →
      ∃ t, exec (.ctsCntClr r v) s = .next t ∧ t.on F.CTS_CTL_SCRUB_EN = v.getLsbD 1 ∧
        Zeroes (countersAt (R.CTS_CNT 0) 11) [R.CTS_CTL, R.CTS_SAT] s t) ∧
    (s.mayWrite r R.DKE_GCTL →
      ∃ t, exec (.dkeCntClr r v) s = .next t ∧
        Zeroes (countersAt (R.DKE_CNT 0) 8 ++ (List.range 4).flatMap (fun c => countersAt (R.SFI_CNT c 0) 4))
          [R.DKE_SAT, R.SFI_SAT 0, R.SFI_SAT 1, R.SFI_SAT 2, R.SFI_SAT 3] s t) ∧
    (∀ p : Fin 16, s.mayWrite r (R.LIF_PCTL p) → s.portActive p = true → v &&& 0x101 = 1 →
      ∃ t, exec (.lifCntClr r p v) s = .next t ∧ t.on (F.LIF_PCTL_EN p) = true ∧
        t.on (F.LIF_PCTL_LOOPBACK p) = v.getLsbD 1 ∧
        Zeroes (countersAt (R.LIF_CNT p 0) 10 ++ countersAt (R.LIF_DROP p 0) 32)
          [R.LIF_PCTL p, R.LIF_SAT0 p, R.LIF_SAT1 p] s t) ∧
    (∀ q : Fin 4096, s.mayWrite r (R.Q_CTL q) → v.getLsbD 0 = s.on (F.Q_CTL_EN q) → v.getLsbD 2 = s.on (F.Q_CTL_PAUSE q) →
      v.getLsbD 8 = false → v.getLsbD 9 = false →
      ∃ t, exec (.qCntClr r q v) s = .next t ∧ Zeroes [R.Q_JOBS_DONE q, R.Q_JOBS_ERR q] [R.Q_CTL q, R.Q_STAT q] s t) ∧
    (∀ q : Fin 4096, s.mayWrite r (R.Q_CTL q) → v.getLsbD 0 = s.on (F.Q_CTL_EN q) → v.getLsbD 2 = s.on (F.Q_CTL_PAUSE q) →
      v.getLsbD 8 = false → v.getLsbD 10 = false →
      ∃ t, exec (.cntSnap r q v) s = .next t ∧
        (∀ o ∈ [R.Q_JOBS_DONE q.val, R.Q_JOBS_ERR q.val], sget (fun _ => 0) t.cntCopy o = s.cntGet o) ∧
        t.cnt = s.cnt ∧ SameRegsBut [R.Q_CTL q] s t ∧ OnlyCounters s t)) ∧
  ((∀ c ∈ [(Instr.ltCfgLock, R.AEA_LT_CFG, F.AEA_LT_CFG_LOCK), (Instr.xcfgLock, R.AEA_XCFG, F.AEA_XCFG_LOCK),
      (Instr.ctsCfgLock, R.CTS_CFG, F.CTS_CFG_LOCK), (Instr.keepCfgLock, R.KEEP_CFG, F.KEEP_CFG_LOCK),
      (Instr.dkeCfgLock, R.DKE_CFG, F.DKE_CFG_LOCK), (Instr.fltCfgLock, R.FLT_CFG, F.FLT_CFG_LOCK),
      (Instr.pwrCfgLock, R.PWR_CFG, F.PWR_CFG_LOCK), (Instr.cupCfgLock, R.CUP_CFG, F.CUP_CFG_LOCK)],
    ∀ (s : State) (r : Req) (v : Word), s.mayWrite r c.2.1 →
      ∃ t, exec (c.1 r v) s = .next t ∧ t.on c.2.2 = true ∧ SameRegsBut [c.2.1] s t ∧ OnlyRegs s t ∧
        (s.on c.2.2 = true → t.rd c.2.1 = s.rd c.2.1)) ∧
  (∀ (s : State) (r : Req) (v : Word), s.mayWrite r R.RNG_CTL → v &&& 0x101 = 0 →
    exec (.rngLock r v) s = .next (s.set F.RNG_CTL_LOCK)) ∧
  (∀ (s : State) (r : Req) (v : Word), s.mayWrite r R.BLF_CTL → v &&& 0x101 = 0 →
    exec (.blfLock r v) s = .next (s.set F.BLF_CTL_LOCK)))

/-- O12. EN and PAUSE of a queue. A permitted write that sets EN of an idle queue with aligned SQ_START and CQ_BASE
and no stopping cause in Q_ERR enables it: SQ_CUR takes SQ_START, CQ_TAIL and CQ_HEAD are 0, TAIL_PHASE is 1,
AWAIT_FIRST is 1, and CHAIN_IDLE, CQ_STALL, KICK_PEND and ERR_STOP are 0; where one of these conditions fails EN stays
0 and CFG_REJECT and ERR_PEND are set. A write that clears EN of a queue with no descriptor in hand ends fetching: EN
and FENCE_WAIT are 0, and no read is wanted. PAUSE is set, and cleared, as written. (The queue's other bits are
written as they stand; FLUSH, CNT_SNAP and CNT_CLR are 0.) -/
def Obligations.QueueControlWrites : Prop :=
  ∀ (s : State) (r : Req) (q : Fin 4096) (v : Word), s.mayWrite r (R.Q_CTL q) → v &&& 0x700 = 0 →
    (v.getLsbD 2 = false → s.on (F.Q_CTL_EN q) = false → s.on (F.Q_CTL_PAUSE q) = false →
      (s.sqStart q % 128 = 0 → s.cqBase q % 4096 = 0 → s.qErrStops q = false → s.qActive q = false →
        ∃ t, exec (.queueEnable r q v) s = .next t ∧ t.on (F.Q_CTL_EN q) = true ∧ t.sqCur q = s.sqStart q ∧
          t.get (F.CQ_TAIL_INDEX q) = 0 ∧ t.get (F.CQ_HEAD_INDEX q) = 0 ∧ t.on (F.CQ_TAIL_TAIL_PHASE q) = true ∧
          t.on (F.Q_STAT_AWAIT_FIRST q) = true ∧ t.on (F.Q_STAT_CHAIN_IDLE q) = false ∧
          t.on (F.Q_STAT_CQ_STALL q) = false ∧ t.on (F.Q_STAT_KICK_PEND q) = false ∧
          t.on (F.Q_STAT_ERR_STOP q) = false ∧ t.qst q = .idle ∧
          SameRegsBut [R.Q_CTL q, R.Q_STAT q, R.SQ_CUR_LO q, R.SQ_CUR_HI q, R.CQ_TAIL q, R.CQ_HEAD q] s t) ∧
      (s.sqStart q % 128 ≠ 0 ∨ s.cqBase q % 4096 ≠ 0 →
        ∃ t, exec (.queueEnable r q v) s = .next t ∧ t.on (F.Q_CTL_EN q) = false ∧ t.on (F.Q_ERR_CFG_REJECT q) = true ∧
          t.on (F.Q_STAT_ERR_PEND q) = true)) ∧
    (v.getLsbD 2 = false → s.on (F.Q_CTL_EN q) = true → s.on (F.Q_CTL_PAUSE q) = false → (s.qst q).hand = none →
      ∃ t, exec (.queueDisable r q v) s = .next t ∧ t.on (F.Q_CTL_EN q) = false ∧ (t.qst q).fetch = none ∧
        t.on (F.Q_STAT_FENCE_WAIT q) = false ∧ SameRegsBut [R.Q_CTL q, R.Q_STAT q] s t) ∧
    (v.getLsbD 0 = s.on (F.Q_CTL_EN q) →
      ∃ t, exec (.queuePause r q v) s = .next t ∧ t.on (F.Q_CTL_PAUSE q) = true ∧ SameRegsBut [R.Q_CTL q] s t ∧
        OnlyRegs s t) ∧
    (v.getLsbD 0 = s.on (F.Q_CTL_EN q) → s.on (F.Q_CTL_PAUSE q) = true → s.on (F.Q_STAT_KICK_PEND q) = false →
      (s.qst q).fetch = none →
      ∃ t, exec (.pauseClear r q v) s = .next t ∧ t.on (F.Q_CTL_PAUSE q) = false ∧ SameRegsBut [R.Q_CTL q] s t ∧
        OnlyRegs s t)

/-- O13. SQ_START, CQ_BASE, CQ_SIZE, Q_PRIO, CQ_HEAD and GLB_QGRP. A permitted write of SQ_START, CQ_BASE or CQ_SIZE
of a queue with EN = 0 and ACTIVE = 0 stores the word, a CQ_SIZE only if it is a power of two from 16 to 65,536; in
every other case the register keeps its value and CFG_REJECT is set. Q_PRIO takes its class (not in group 31) and its
weight unless WEIGHT is 0 or, outside group 31, CLASS is 0: then PRIO_REJECT. CQ_HEAD takes an index from the old
CQ_HEAD to CQ_TAIL, else HEAD_INVALID. OWNER of a group of idle queues takes a code of a host function, in group 31
only that of SVC; else REJECT. -/
def Obligations.QueueConfigurationWrites : Prop :=
  ∀ (s : State) (r : Req) (q : Fin 4096) (v : Word),
    (∀ k : QCfgReg, s.mayWrite r (qCfgOff q k) →
      (s.on (F.Q_CTL_EN q) = false → s.qActive q = false → (k = .cqSize → cqSizeOk v.toNat = true) →
        exec (.queueCfgWrite r q k v) s = .next (s.wr (qCfgOff q k) v)) ∧
      (s.on (F.Q_CTL_EN q) = true ∨ s.qActive q = true ∨ (k = .cqSize ∧ cqSizeOk v.toNat = false) →
        ∃ t, exec (.queueCfgWrite r q k v) s = .next t ∧ t.rd (qCfgOff q k) = s.rd (qCfgOff q k) ∧
          t.on (F.Q_ERR_CFG_REJECT q) = true ∧ t.on (F.Q_STAT_ERR_PEND q) = true)) ∧
    (s.mayWrite r (R.Q_PRIO q) →
      (bits v.toNat 8 4 ≠ 0 → (groupOf q = 31 ∨ bits v.toNat 0 2 ≠ 0) →
        ∃ t, exec (.queuePrioWrite r q v) s = .next t ∧ t.get (F.Q_PRIO_WEIGHT q) = bits v.toNat 8 4 ∧
          t.get (F.Q_PRIO_CLASS q) = (if groupOf q = 31 then s.get (F.Q_PRIO_CLASS q) else bits v.toNat 0 2) ∧
          SameRegsBut [R.Q_PRIO q] s t ∧ OnlyRegs s t) ∧
      (bits v.toNat 8 4 = 0 ∨ (groupOf q ≠ 31 ∧ bits v.toNat 0 2 = 0) →
        ∃ t, exec (.queuePrioWrite r q v) s = .next t ∧ t.rd (R.Q_PRIO q) = s.rd (R.Q_PRIO q) ∧
          t.on (F.Q_ERR_PRIO_REJECT q) = true)) ∧
    (s.mayWrite r (R.CQ_HEAD q) → v.toNat < s.cqSize q → v.toNat < 65536 →
      ((v.toNat + s.cqSize q - s.get (F.CQ_HEAD_INDEX q)) % s.cqSize q ≤
          (s.get (F.CQ_TAIL_INDEX q) + s.cqSize q - s.get (F.CQ_HEAD_INDEX q)) % s.cqSize q →
        ∃ t, exec (.cqHeadWrite r q v) s = .next t ∧ t.get (F.CQ_HEAD_INDEX q) = v.toNat ∧
          SameRegsBut [R.CQ_HEAD q] s t ∧ OnlyRegs s t) ∧
      ((s.get (F.CQ_TAIL_INDEX q) + s.cqSize q - s.get (F.CQ_HEAD_INDEX q)) % s.cqSize q <
          (v.toNat + s.cqSize q - s.get (F.CQ_HEAD_INDEX q)) % s.cqSize q →
        ∃ t, exec (.cqHeadWrite r q v) s = .next t ∧ t.rd (R.CQ_HEAD q) = s.rd (R.CQ_HEAD q) ∧
          t.on (F.Q_ERR_HEAD_INVALID q) = true)) ∧
    (∀ g : Fin 32, s.mayWrite r (R.GLB_QGRP g) → v.getLsbD 16 = false →
      ((∀ i < 128, s.qActive (g * 128 + i) = false) → (bits v.toNat 0 6 = 0x3F ∧ g.val = 31 ∨ bits v.toNat 0 6 ≤ 0x1F ∧ g.val ≠ 31) →
        exec (.qgrpOwnerWrite r g v) s = .next (s.put (F.GLB_QGRP_OWNER g) (bits v.toNat 0 6))) ∧
      ((∃ i < 128, s.qActive (g * 128 + i) = true) →
        exec (.qgrpOwnerWrite r g v) s = .next (s.set (F.GLB_QGRP_REJECT g))))

/-- O14. Every step keeps the serial numbers of jobs distinct. The jobs that JQM has dispatched carry different serial
numbers, all below the next one: true after reset, and kept by every step. (The serial numbers are the model's own way
of naming a job in the commands that act on one.) -/
def Obligations.JobNumbersStayDistinct : Prop :=
  State.reset.jobsOk ∧ ∀ s t : State, s.jobsOk → step s = .next t → t.jobsOk

/-- O15. A doorbell acts by the first case that applies. A permitted write of SQ_KICK: with EN = 0 or ERR_STOP = 1 it
sets KICK_IGNORED and ERR_PEND and nothing of the queue changes else; else with PAUSE, QUIESCED or FLUSHING it sets
KICK_PEND and nothing more, and a clear of PAUSE acts on it; else, with no read wanted, a parked queue re-reads the
descriptor at SQ_CUR, and a queue that awaits its first descriptor and has none in hand reads it at SQ_CUR, where a
fault sets SQ_FAULT; with such a read wanted but not yet issued the kick counts as one with the earlier; in any other
case it sets KICK_PEND. -/
def Obligations.DoorbellRule : Prop :=
  ∀ (s : State) (r : Req) (q : Fin 4096) (v : Word), s.mayWrite r (R.SQ_KICK q) →
    (s.on (F.Q_CTL_EN q) = false ∨ s.on (F.Q_STAT_ERR_STOP q) = true →
      ∃ t, exec (.sqKick r q v) s = .next t ∧ t.on (F.Q_ERR_KICK_IGNORED q) = true ∧ t.on (F.Q_STAT_ERR_PEND q) = true ∧
        t.jqm = s.jqm ∧ SameRegsBut (R.Q_ERR q :: R.Q_STAT q :: eventRegs) s t ∧ SameMemory s t) ∧
    (s.on (F.Q_CTL_EN q) = true → s.on (F.Q_STAT_ERR_STOP q) = false →
      (s.on (F.Q_CTL_PAUSE q) = true ∨ s.on F.FLT_STAT_QUIESCED = true ∨ s.on (F.Q_STAT_FLUSHING q) = true →
        exec (.sqKick r q v) s = .next (s.set (F.Q_STAT_KICK_PEND q))) ∧
      (s.on (F.Q_CTL_PAUSE q) = false → s.on F.FLT_STAT_QUIESCED = false → s.on (F.Q_STAT_FLUSHING q) = false →
        (s.qst q).fetch = none →
        ((s.qst q).parked = true →
          ∃ t, exec (.sqKick r q v) s = .next t ∧ (t.qst q).fetch = some ⟨.reread, s.sqCur q, s.fetchOpen q⟩ ∧
            SameRegsBut [] s t ∧ t = { s with jqm := t.jqm }) ∧
        ((s.qst q).parked = false → s.on (F.Q_STAT_AWAIT_FIRST q) = true → (s.qst q).hand = none →
          ∃ t, exec (.sqKick r q v) s = .next t ∧ (t.qst q).fetch = some ⟨.first, s.sqCur q, s.fetchOpen q⟩ ∧
            t.sqCur q = s.sqCur q ∧ SameRegsBut [] s t ∧ t = { s with jqm := t.jqm, regs := t.regs }) ∧
        ((s.qst q).parked = false → s.on (F.Q_STAT_AWAIT_FIRST q) = false ∨ (s.qst q).hand ≠ none →
          exec (.sqKick r q v) s = .next (s.set (F.Q_STAT_KICK_PEND q)))) ∧
      (s.on (F.Q_CTL_PAUSE q) = false → s.on F.FLT_STAT_QUIESCED = false → s.on (F.Q_STAT_FLUSHING q) = false →
        ∀ f, (s.qst q).fetch = some f → exec (.sqKick r q v) s =
          .next (if f.issued = true ∨ f.kind = .next then s.set (F.Q_STAT_KICK_PEND q) else s))) ∧
    (∀ f, (s.qst q).fetch = some f → f.issued = true → f.kind = .first → s.dmaRead (s.qOwner q) f.addr 128 = none →
      ∃ t, exec (.descFetchComplete q) s = .next t ∧ t.on (F.Q_ERR_SQ_FAULT q) = true ∧
        SameRegsBut (R.Q_ERR q :: R.Q_STAT q :: eventRegs) s t ∧ SameMemory s t) ∧
    (∀ w : Word, s.mayWrite r (R.Q_CTL q) → w &&& 0x701 = 1 → s.on (F.Q_CTL_EN q) = true → s.on (F.Q_CTL_PAUSE q) = true →
      s.on (F.Q_STAT_KICK_PEND q) = true → (s.qst q).fetch = none → (s.qst q).hand = none →
      s.on (F.Q_STAT_AWAIT_FIRST q) = true ∨ (s.qst q).parked = true →
      ∃ t b, exec (.pauseClear r q w) s = .next t ∧ t.on (F.Q_STAT_KICK_PEND q) = false ∧ (t.qst q).fetch =
        some ⟨if s.on (F.Q_STAT_AWAIT_FIRST q) = true then .first else .reread, s.sqCur q, b⟩ ∧
        SameRegsBut [R.Q_CTL q, R.Q_STAT q] s t ∧ SameMemory s t)

/-- O16. A descriptor arrives, or a re-read ends. The wanted read of a queue completes. A DMA fault sets SQ_FAULT on
the first fetch and NEXT_BAD on a later one, with ERR_STOP and ERR_PEND. A FENCE descriptor without fault of its own
comes into the hand and waits with FENCE_WAIT; any other that needs no fence and passes every check before dispatch
waits in the hand, checked. A re-read that sees END = 1 parks the queue, idle, or with KICK_PEND = 1 clears it and re-
reads at once; one that sees END = 0 ends CHAIN_IDLE and wants the read of NEXT, or sets NEXT_BAD; one that faults
sets NEXT_BAD and ERR_STOP, and SQ_CUR stays. -/
def Obligations.DescriptorReads : Prop :=
  ∀ (s : State) (q : Fin 4096) (f : Fetch), (s.qst q).fetch = some f → f.issued = true →
    (f.kind ≠ .reread →
      (s.dmaRead (s.qOwner q) f.addr 128 = none →
        ∃ t, exec (.descFetchComplete q) s = .next t ∧
          t.on (if f.kind = .first then F.Q_ERR_SQ_FAULT q else F.Q_ERR_NEXT_BAD q) = true ∧
          t.on (F.Q_STAT_ERR_STOP q) = true ∧ t.on (F.Q_STAT_ERR_PEND q) = true ∧ (t.qst q).fetch = none ∧
          SameRegsBut (R.Q_ERR q :: R.Q_STAT q :: eventRegs) s t ∧ SameMemory s t) ∧
      (∀ (d : List Byte) (u0 : State), s.dmaRead (s.qOwner q) f.addr 128 = some d →
        u0 = (s.qput q { s.qst q with fetch := none, parked := false, hand := some ⟨f.addr, d, false, [], none⟩ }).clr
          (F.Q_STAT_AWAIT_FIRST q) → stage1 (u0.on (F.Q_CTL_DCHK_EN q)) d = none → u0.stage23 d = none →
        (dOpcode d = opFence →
          ∃ t, exec (.descFetchComplete q) s = .next t ∧ (t.qst q).hand = some ⟨f.addr, d, false, [], none⟩ ∧
            (t.qst q).fetch = none ∧ t.on (F.Q_STAT_FENCE_WAIT q) = true ∧ t.on (F.Q_STAT_AWAIT_FIRST q) = false ∧
            SameRegsBut [R.Q_STAT q] s t ∧ SameMemory s t) ∧
        (dOpcode d ≠ opFence → dOpcode d ≠ opDerive → (dFence d = false ∨ s.inflight q = 0) → ∀ is u, u0.stage456 q d = .ok (is, u) →
          ∃ t, exec (.descFetchComplete q) s = .next t ∧ (t.qst q).hand = some ⟨f.addr, d, true, is, none⟩ ∧
            (t.qst q).fetch = none ∧ t.on (F.Q_STAT_AWAIT_FIRST q) = false ∧
            SameRegsBut [R.Q_STAT q] s t ∧ SameMemory s t))) ∧
    (f.kind = .reread →
      (s.dmaRead (s.qOwner q) (f.addr + 8) 4 = none ∨ s.dmaRead (s.qOwner q) (f.addr + 112) 8 = none →
        ∃ t, exec (.rereadComplete q) s = .next t ∧ t.on (F.Q_ERR_NEXT_BAD q) = true ∧ t.on (F.Q_STAT_ERR_STOP q) = true ∧
          t.sqCur q = s.sqCur q ∧ (t.qst q).fetch = none ∧ SameRegsBut (R.Q_ERR q :: R.Q_STAT q :: eventRegs) s t ∧
          SameMemory s t) ∧
      ∀ fl nx, s.dmaRead (s.qOwner q) (f.addr + 8) 4 = some fl → s.dmaRead (s.qOwner q) (f.addr + 112) 8 = some nx →
      (bit (leNat fl) 0 = true → s.on (F.Q_STAT_KICK_PEND q) = false →
        ∃ t, exec (.rereadComplete q) s = .next t ∧ (t.qst q).parked = true ∧ (t.qst q).fetch = none ∧
          (t.qst q).hand = (s.qst q).hand ∧ t.on (F.Q_STAT_CHAIN_IDLE q) = true ∧
          t.on (F.Q_STAT_IDLE_PEND q) = (s.on (F.Q_STAT_IDLE_PEND q) || !s.on (F.Q_STAT_CHAIN_IDLE q)) ∧
          SameRegsBut (R.Q_STAT q :: eventRegs) s t ∧ SameMemory s t) ∧
      (bit (leNat fl) 0 = true → s.on (F.Q_STAT_KICK_PEND q) = true →
        ∃ t, exec (.rereadComplete q) s = .next t ∧ (t.qst q).parked = true ∧ (t.qst q).hand = (s.qst q).hand ∧
          (t.qst q).fetch = some ⟨.reread, s.sqCur q, s.fetchOpen q⟩ ∧ t.on (F.Q_STAT_KICK_PEND q) = false ∧
          t.on (F.Q_STAT_CHAIN_IDLE q) = s.on (F.Q_STAT_CHAIN_IDLE q) ∧ SameRegsBut [R.Q_STAT q] s t ∧ SameMemory s t) ∧
      (bit (leNat fl) 0 = false → leNat nx ≠ 0 → leNat nx % 128 = 0 → leNat nx < 2 ^ 64 →
        ∃ t, exec (.rereadComplete q) s = .next t ∧ (t.qst q).fetch = some ⟨.next, leNat nx, s.fetchOpen q⟩ ∧
          (t.qst q).parked = false ∧ (t.qst q).hand = (s.qst q).hand ∧ t.on (F.Q_STAT_CHAIN_IDLE q) = false ∧
          t.sqCur q = (if s.fetchOpen q = true then leNat nx else s.sqCur q) ∧
          SameRegsBut [R.Q_STAT q, R.SQ_CUR_LO q, R.SQ_CUR_HI q] s t ∧ SameMemory s t) ∧
      (bit (leNat fl) 0 = false → leNat nx = 0 ∨ leNat nx % 128 ≠ 0 →
        ∃ t, exec (.rereadComplete q) s = .next t ∧ t.on (F.Q_ERR_NEXT_BAD q) = true ∧ t.on (F.Q_STAT_CHAIN_IDLE q) = false ∧
          t.on (F.Q_STAT_ERR_STOP q) = true ∧ SameRegsBut (R.Q_ERR q :: R.Q_STAT q :: eventRegs) s t ∧ SameMemory s t))

/-- O17. FLUSH and fences. A permitted write of 1 to FLUSH of a queue that holds no descriptor and no job sets FLUSH
and FLUSHING, and no read is wanted; while FLUSHING is 1 it changes nothing. FLUSH_COMPLETE with no job in flight
clears EN, and FLUSH and FLUSHING where no record is held. A fence is released when no job of its queue is in flight:
a FENCE descriptor completes OK with its record, any other that passes the checks goes on with FENCE_WAIT = 0. -/
def Obligations.FlushAndFences : Prop :=
  (∀ (s : State) (r : Req) (q : Fin 4096) (v : Word), s.mayWrite r (R.Q_CTL q) →
    v.getLsbD 0 = s.on (F.Q_CTL_EN q) → v.getLsbD 2 = s.on (F.Q_CTL_PAUSE q) → s.on (F.Q_CTL_PAUSE q) = false →
    v.getLsbD 9 = false → v.getLsbD 10 = false →
    (s.on (F.Q_STAT_FLUSHING q) = false → (s.qst q).hand = none → s.jobsOf q = [] →
      ∃ t, exec (.queueFlush r q v) s = .next t ∧ t.on (F.Q_CTL_FLUSH q) = true ∧ t.on (F.Q_STAT_FLUSHING q) = true ∧
        t.on (F.Q_STAT_FENCE_WAIT q) = false ∧ (t.qst q).fetch = none ∧ SameRegsBut [R.Q_CTL q, R.Q_STAT q] s t ∧
        SameMemory s t) ∧
    (s.on (F.Q_STAT_FLUSHING q) = true →
      ∃ t, exec (.queueFlush r q v) s = .next t ∧ SameRegsBut [R.Q_CTL q] s t ∧ OnlyRegs s t)) ∧
  (∀ (s : State) (q : Fin 4096), s.on (F.Q_STAT_FLUSHING q) = true → s.inflight q = 0 →
    ∃ t, exec (.flushComplete q) s = .next t ∧ t.on (F.Q_CTL_EN q) = false ∧
      ((s.qst q).held = [] → t.on (F.Q_CTL_FLUSH q) = false ∧ t.on (F.Q_STAT_FLUSHING q) = false) ∧
      SameRegsBut [R.Q_CTL q, R.Q_STAT q] s t ∧ OnlyRegs s t) ∧
  (∀ (s : State) (q : Fin 4096) (h : Hand), s.on (F.Q_STAT_FENCE_WAIT q) = true → s.inflight q = 0 →
    (s.qst q).hand = some h →
    (dOpcode h.desc = opFence → h.targets = [] → s.holdUsed q .own < 2 → s.ringReady q →
      ∃ t, exec (.fence q) s = .next t ∧ (t.qst q).hand = none ∧ t.on (F.Q_STAT_FENCE_WAIT q) = false ∧
        RecordWritten q (mkRecord h.addr h.desc ⟨stOk, 0, 0, engJqm, false⟩ s.time) s t) ∧
    (dOpcode h.desc ≠ opFence → dOpcode h.desc ≠ opDerive → ∀ is u,
      (s.clr (F.Q_STAT_FENCE_WAIT q)).stage456 q h.desc = .ok (is, u) →
      ∃ t, exec (.fenceRelease q) s = .next t ∧ (t.qst q).hand = some { h with checked := true, targets := is } ∧
        t.on (F.Q_STAT_FENCE_WAIT q) = false ∧ SameRegsBut [R.Q_STAT q] s t ∧ SameMemory s t))

/-- O18. Dispatch of a job, and its completion record. At a dispatch point that is neither quiesced nor in reset, the
one queue with a ready job gets the grant: its descriptor leaves the hand and becomes the newest job, with the next
serial number, and the job starts where its resource allows, after which the chain goes on. A finished queue job whose
ring can take a record, with none held and no other descriptor waiting for a hold record, completes: its 32-byte
record stands at the tail of the ring, no other byte of memory changes, the tail and counters follow, and the job is
gone. A held record moves into the ring in the same way when a slot is free. -/
def Obligations.DispatchAndCompletion : Prop :=
  (∀ (s : State) (p : Res) (q c : Nat) (h : Hand) (es : Nat × Nat) (k : Hold), s.on F.FLT_STAT_QUIESCED = false →
    s.inReset 4 = false → s.inReset (resBit p) = false → p ≠ .dke → c < 4 → s.readyQueues p = [(q, c)] →
    s.waitingAt p q = some h → s.place p c = some es → s.reserveHold q = some k →
    ∃ (u : State) (j : Job), exec (.jobDispatch p) s = .next (((u.tryStart p es.1).tryStart p es.2).proceed q h.desc) ∧
      u.jqm.jobs = s.jqm.jobs ++ [j] ∧ j.id = s.jqm.nextId ∧ u.jqm.nextId = s.jqm.nextId + 1 ∧ j.kind = .queue ∧
      j.q = q ∧ j.cls = c ∧ j.res = p ∧ j.engine = es.1 ∧ j.engine2 = es.2 ∧ j.phase = .waiting ∧ j.addr = h.addr ∧
      j.desc = h.desc ∧ j.hold = k ∧ j.targets = h.targets ∧ (u.qst q).hand = none ∧ u = { s with jqm := u.jqm }) ∧
  (∀ (s : State) (i : Nat) (j : Job) (r : JobResult), s.job? i = some j → j.kind = .queue → j.result = some r →
    j.discard = false → s.ringReady j.q → s.waitingHands = [] →
    ∃ t, exec (.jobComplete i none) s = .next t ∧ t.job? i = none ∧ (∀ n, n ≠ i → t.job? n = s.job? n) ∧
      RecordWritten j.q (mkRecord j.addr j.desc r j.doneAt) s t) ∧
  (∀ (s : State) (q : Fin 4096) (k : Hold) (r : Record) (rest : List (Hold × Record)), (s.qst q).held = (k, r) :: rest →
    cqSizeOk (s.cqSize q) = true → s.ringFree q = true → s.dmaFaults (s.qOwner q) (s.ringSlot q) 32 true = false →
    s.waitingHands = [] →
    ∃ t, exec (.heldRecordTransfer q) s = .next t ∧ (t.qst q).held = rest ∧ RecordWritten q r s t ∧
      (rest = [] → t.on (F.Q_STAT_CQ_STALL q) = false))

/-- O19. Resets of host functions and of SVC. An FLR of a VF, a host reset, or a reset of SVC, with no job of its
queues at an engine and none of any queue's hands waiting for a hold record: every queue of its groups (those of the
VF; 0 to 30; 31) is idle, holds no descriptor and no record, and its registers have their BLK reset values; for an FLR
of a VF every other queue and the memories are untouched. After a host reset MSI-X is disabled and the link is down
unless it was an FLR of the PF; after a reset of SVC it is held, bit 12 of PWR_BLKRST is 1 and CPM has counted a
disconnect. -/
def Obligations.FunctionResets : Prop :=
  ∀ s : State, s.regsWf = true → s.waitingHands = [] →
    (∀ vf : Fin 31, (∀ j ∈ s.jqm.jobs, j.kind = .queue → s.groupOwner (groupOf j.q) ≠ vf.val + 1) →
      ∃ t, exec (.vfFlr vf) s = .next t ∧
        (∀ q : Fin 4096, s.qOwner q = vf.val + 1 → t.qst q = .idle ∧
          ∀ o n, locate o = some (.q, q.val, n) → t.rd o = resetWord blkKinds o (s.rd o)) ∧
        (∀ q : Fin 4096, s.qOwner q ≠ vf.val + 1 → t.qst q = s.qst q ∧
          ∀ o n, locate o = some (.q, q.val, n) → t.rd o = s.rd o) ∧ SameMemory s t) ∧
    (∀ c : HostReset, s.power.hostUp = true → (s.cup.upd.map (·.holder)) ≠ some 1 →
      (∀ j ∈ s.jqm.jobs, j.kind = .queue → groupOf j.q = 31) →
      ∃ t, exec (.hostReset c) s = .next t ∧ t.power.hostUp = decide (c = .pfFlr) ∧ t.evc.msixEnabled = [] ∧
        t.evc.pba = [] ∧ (∀ q : Fin 4096, groupOf q ≠ 31 → t.qst q = .idle) ∧ SameMemory s t) ∧
    (s.power.svcUp = true → s.inReset 12 = false → (∀ j ∈ s.jqm.jobs, j.kind = .queue → groupOf j.q ≠ 31) →
      ∃ t, exec .svcReset s = .next t ∧ t.power.svcUp = false ∧ t.inReset 12 = true ∧ t.svc.ikes = [] ∧ t.svc.childs = [] ∧
        t.cntGet (R.PWR_CNT 5) = min (s.cntGet (R.PWR_CNT 5) + 1) (cntMax (R.PWR_CNT 5)) ∧
        (∀ q : Fin 4096, groupOf q = 31 → t.qst q = .idle) ∧ SameMemory s t)

/-- O20. A block reset holds the block until it reconnects. A permitted write of PWR_BLKRST. The bit of a block
already held changes nothing. Bit 3 (UCS) and bit 8 (RNG) hold the block, send one message of KIND 0x07 and count one
disconnect; every register of UCS has its BLK reset value and nothing of another block's registers changes; RNG stands
in RESET and its DRBG instances and seeds are gone. CONNECT of a held block clears its bit and nothing else, but for
RNG, which enters STARTUP, or stays FAILED where FINAL is set, and SVC. -/
def Obligations.BlockResetAndConnect : Prop :=
  ∀ (s : State) (r : Req), s.regsWf = true →
    (∀ b : Fin 13, s.mayWrite r R.PWR_BLKRST → s.inReset b = true →
      exec (.blockReset r (BitVec.ofNat 32 (2 ^ b.val))) s = .next s) ∧
    (s.mayWrite r R.PWR_BLKRST → s.inReset 3 = false →
      ∃ t, exec (.blockReset r 8) s = .next t ∧ t.inReset 3 = true ∧
        t.fcr.transit = s.fcr.transit ++ [faultMsg (liveSide 3) 0x07 0 (sget (fun _ => 0) s.fcr.seqTx (liveSide 3)) 0] ∧
        t.cntGet (R.PWR_CNT 5) = min (s.cntGet (R.PWR_CNT 5) + 1) (cntMax (R.PWR_CNT 5)) ∧
        (∀ o, inBlock .ucsCom o = true ∨ inBlock .ucsQ o = true → t.rd o = resetWord blkKinds o (s.rd o)) ∧
        (∀ o, inBlock .ucsCom o = false → inBlock .ucsQ o = false → o ≠ R.PWR_BLKRST → o ≠ R.PWR_SAT → t.rd o = s.rd o) ∧
        SameMemory s t) ∧
    (s.mayWrite r R.PWR_BLKRST → s.inReset 8 = false →
      ∃ t, exec (.blockReset r 0x100) s = .next t ∧ t.inReset 8 = true ∧ t.get F.RNG_STAT_STATE = 0 ∧
        t.rng.drbgs = [] ∧ t.rng.reservoir = [] ∧ t.rng.bufs = [] ∧ SameMemory s t) ∧
    (∀ b : Fin 64, b.val ≠ 8 → b.val ≠ 12 → s.inReset b = true →
      exec (.connect b) s = .next (s.put ⟨R.PWR_BLKRST, b.val, 1⟩ 0)) ∧
    (s.inReset 8 = true →
      ∃ t, exec (.connect 8) s = .next t ∧ t.inReset 8 = false ∧
        t.get F.RNG_STAT_STATE = (if s.on F.RNG_STAT_FINAL then rngFailed else rngStartup) ∧ SameMemory s t)

/-- O21. System reset, power-on reset and power-up. With no update session open: SYSRST_N low and SYS_RESET of PWR_CTL
reset the device: every register but PWR_RST_CAUSE takes its SYS and BLK reset values and keeps the rest,
PWR_RST_CAUSE names the one cause, no job and no queue state is left, every block and requester is held, and OTP,
flash and host memory stay. PWR_OK falling also resets the PO fields and clears every counter and the device's RAM. On
power-up with SYSRST_N low the straps are sampled and the device stays held; the release of SYSRST_N then, or the
power-up itself with SYSRST_N high, takes a device whose images are pushed (BOOT_SRC 01 or 10) to milestone 1. In
LOCKDOWN and after a thermal trip the release changes SYSRST_N only. -/
def Obligations.SystemResets : Prop :=
  (∀ (s : State) (c : Instr) (k : Nat), s.regsWf = true → s.cup.upd = none → s.power.pwrOk = true →
    ((c = .systemReset ∧ k = 1) ∨
      ∃ r v, c = .sysReset r v ∧ s.mayWrite r R.PWR_CTL ∧ v &&& 0x10F = 0 ∧ k = 2) →
    ∃ t, exec c s = .next t ∧ t.rd R.PWR_RST_CAUSE = BitVec.ofNat 32 (2 ^ k) ∧
      (∀ o, o ≠ R.PWR_RST_CAUSE → t.rd o = resetWord sysKinds o (s.rd o)) ∧ t.jqm.jobs = [] ∧ t.jqm.queues = [] ∧
      t.power.sysHeld = true ∧ t.power.coreUp = false ∧ t.power.jqmUp = false ∧ t.power.ippUp = false ∧
      t.power.cupUp = false ∧ t.power.svcUp = false ∧ t.power.hostUp = false ∧ t.keep.slots = [] ∧ t.rng.drbgs = [] ∧
      t.otp = s.otp ∧ t.cup.flash = s.cup.flash ∧ t.hostMem = s.hostMem ∧ t.keep.bbk = s.keep.bbk) ∧
  (∀ s : State, s.regsWf = true → s.power.pwrOk = true →
    ∃ t, exec .pwrOkFall s = .next t ∧ (∀ o, t.rd o = resetWord poKinds o (s.rd o)) ∧ t.cnt = [] ∧ t.cntCopy = [] ∧
      t.svcMem = [] ∧ t.cupMem = [] ∧ t.power = { State.reset.power with sysrstLow := s.power.sysrstLow } ∧
      t.jqm.jobs = [] ∧ t.otp = s.otp ∧ t.cup.flash = s.cup.flash ∧ t.hostMem = s.hostMem ∧ t.keep.bbk = s.keep.bbk) ∧
  (∀ (s : State) (x : Straps) (u : OtpNoise), s.power.pwrOk = false → s.power.sysrstLow = true →
    ∃ t, exec (.powerOnReset x u) s = .next t ∧ t.power = { s.power with pwrOk := true } ∧
      t.get F.GLB_STRAP_BOOT_SRC = (if x.bootSrc == 1 && !x.hostEn then 2 else x.bootSrc.toNat) ∧
      t.on F.GLB_STRAP_HOST_EN = x.hostEn ∧ t.get F.GLB_STRAP_LINE_MODE = x.lineMode.toNat ∧
      t.get F.GLB_STRAP_VIGIL_EFF = x.vigilPort.toNat ∧
      t.on F.GLB_STRAP_CONFLICT = (x.bootSrc == 1 && !x.hostEn) ∧ SameMemory s t) ∧
  (∀ (s : State) (u : OtpNoise), s.power.pwrOk = true → s.power.sysHeld = true → s.fcr.lockdown = false →
    s.cpm.tripped = false → s.lcs.tapHold = false → s.pushed = true →
    ∃ t, exec (.sysrstNRelease u) s = .next t ∧ t.power.sysHeld = false ∧ t.power.sysrstLow = false ∧
      t.power.coreUp = true ∧ t.power.cupUp = true ∧ t.milestone = 1 ∧ t.on F.BLF_STAT_START_WINDOW = true) ∧
  (∀ (s : State) (u : OtpNoise), s.fcr.lockdown = true ∨ s.cpm.tripped = true →
    exec (.sysrstNRelease u) s = .next { s with power := { s.power with sysrstLow := false } }) ∧
  (∀ (s : State) (x : Straps) (u : OtpNoise), s.power.pwrOk = false → s.power.sysrstLow = false →
    x.bootSrc = 1 ∨ x.bootSrc = 2 →
    ∃ t, exec (.powerOnReset x u) s = .next t ∧ t.power.pwrOk = true ∧ t.power.coreUp = true ∧ t.power.cupUp = true ∧
      t.milestone = 1)

/-- O22. A detected violation ends its operation and withdraws its engine. CODE_VIOLATION (KIND 0x04) and
HANDSHAKE_STALL (KIND 0x06) at a SOURCE that is no AEA engine send the message of that KIND with ADDR 0; without a
victim they change nothing else, and a victim job that is not done ends FAULT_ABORT with the KIND. At an AEA engine
without jobs EN is cleared and FAULTED set. A control-store ECC error is reported by SOURCE 0x105 with the Spire index
and the store address: KIND 0x01 when corrected, KIND 0x02 else, and then the engine is withdrawn. -/
def Obligations.ViolationsAreReported : Prop :=
  (∀ (s : State) (src : Fin 0x126) (v : Victim), ∀ c ∈ [(Instr.codeViolation src v, 0x04), (Instr.handshakeStall src v, 0x06)],
    (isAea src = false → v = .nothing →
      ∃ t, exec c.1 s = .next t ∧
        t.fcr.transit = s.fcr.transit ++ [faultMsg src c.2 0 (sget (fun _ => 0) s.fcr.seqTx src.val) 0] ∧
        t = { s with fcr := t.fcr }) ∧
    (∀ (i : Nat) (j : Job), isAea src = false → v = .job i → s.jobsOk → s.job? i = some j → j.kind = .queue → j.phase ≠ .done →
      ∃ t, exec c.1 s = .next t ∧ JobEnded i (failed j.ranOn stFault c.2) t) ∧
    (isAea src = true → v = .nothing → s.jobsAt src = [] →
      ∃ t, exec c.1 s = .next t ∧ t.on (F.AEA_CTL_EN src) = false ∧ t.on (F.AEA_STAT_FAULTED src) = true ∧
        t.fcr.transit = s.fcr.transit ++ [faultMsg src c.2 0 (sget (fun _ => 0) s.fcr.seqTx src.val) 0] ∧
        SameRegsBut [R.AEA_CTL src, R.AEA_STAT src] s t ∧ t = { s with fcr := t.fcr, regs := t.regs })) ∧
  (∀ (s : State) (e : Fin 48) (addr : BitVec 40), isAea e = true →
    (∃ t, exec (.controlStoreEccError e false addr) s = .next t ∧
      t.fcr.transit = s.fcr.transit ++ [faultMsg 0x105 0x01 0 (sget (fun _ => 0) s.fcr.seqTx 0x105)
        (spireIndex e + addr.toNat / 64 * 64)] ∧ t = { s with fcr := t.fcr }) ∧
    (s.jobsAt e = [] → ∃ t, exec (.controlStoreEccError e true addr) s = .next t ∧ t.on (F.AEA_CTL_EN e) = false ∧
      t.on (F.AEA_STAT_FAULTED e) = true ∧ SameRegsBut [R.AEA_CTL e, R.AEA_STAT e] s t))

/-- O23. The registers of an AEA engine. For an AEA engine: a permitted write of AEA_CTL with SELFTEST = 0 stores EN.
A write of 1 to SELFTEST sets it when the engine is drained (EN = 0 and no job), else sets ST_REJECT. A self-test that
ends clears SELFTEST and sets ST_PASS or ST_FAIL alone; a pass clears FAULTED. A permitted read of AEA_MAXINSN returns
the value and clears it. An instruction boundary of an engine with one running job, no abort and no other job counts
the longest instruction and begins a new count of microwords; a Belfry abort ends the job TAMPER_ABORT with the source
there; a waiting job of a higher class takes the engine, and the job is held, counted in AEA_PREEMPT. -/
def Obligations.EngineRegisters : Prop :=
  (∀ (s : State) (r : Req) (e : Fin 48) (v : Word), isAea e = true → s.mayWrite r (R.AEA_CTL e) →
    (v.getLsbD 8 = false → ∃ t, exec (.ltEnWrite r e v) s = .next t ∧ t.on (F.AEA_CTL_EN e) = v.getLsbD 0 ∧
      SameRegsBut [R.AEA_CTL e] s t ∧ OnlyRegs s t) ∧
    ∃ t, exec (.aeaSelftest r e v) s = .next t ∧
      t.on (F.AEA_CTL_SELFTEST e) = (s.drained e || s.on (F.AEA_CTL_SELFTEST e)) ∧
      t.on (F.AEA_STAT_ST_REJECT e) = (!s.drained e || s.on (F.AEA_STAT_ST_REJECT e)) ∧
      SameRegsBut [R.AEA_CTL e, R.AEA_STAT e] s t ∧ OnlyRegs s t) ∧
  (∀ (s : State) (e : Fin 48) (pass : Bool), isAea e = true → s.on (F.AEA_CTL_SELFTEST e) = true →
    ∃ t, exec (.aeaSelftestEnd e pass) s = .next t ∧ t.on (F.AEA_CTL_SELFTEST e) = false ∧
      t.on (F.AEA_STAT_ST_PASS e) = pass ∧ t.on (F.AEA_STAT_ST_FAIL e) = !pass ∧
      t.on (F.AEA_STAT_FAULTED e) = (s.on (F.AEA_STAT_FAULTED e) && !pass) ∧
      SameRegsBut [R.AEA_CTL e, R.AEA_STAT e] s t) ∧
  (∀ (s : State) (r : Req) (e : Fin 48), isAea e = true → s.mayRead r (R.AEA_MAXINSN e) →
    ∃ t, exec (.maxinsnRead r e) s = .next t ∧ t.busOut = (s.rd (R.AEA_MAXINSN e)).setWidth 64 ∧
      t.rd (R.AEA_MAXINSN e) = 0 ∧ SameRegsBut [R.AEA_MAXINSN e] s t ∧ t = { s with busOut := t.busOut, regs := t.regs }) ∧
  (∀ (s : State) (e : Fin 256) (ns : BitVec 16) (j : Job), isAea e = true → s.jobsOk → s.jobsAt e = [j] → j.phase = .running →
    j.wait = .none → isCtxRes j.res = true → j.kind = .queue →
    (j.abort = .none → ∃ t, exec (.engineInstructionBoundary e ns) s = .next t ∧
      t.job? j.id = some { j with spire := { j.spire with asyncPend := false, atBnd := true, sinceBnd := 0 } } ∧
      t.get (F.AEA_MAXINSN_NS e) = max (s.get (F.AEA_MAXINSN_NS e)) ns.toNat ∧ SameRegsBut [R.AEA_MAXINSN e] s t ∧
      SameMemory s t) ∧
    (∀ n, j.abort = .tamper n → ∃ t, exec (.engineInstructionBoundary e ns) s = .next t ∧
      JobEnded j.id (failed j.engine stTamper n) t)) ∧
  (∀ (s : State) (e : Fin 256) (ns : BitVec 16) (j k : Job), isAea e = true → s.jobsOk → s.jobsAt e = [j, k] →
    j.phase = .running → j.wait = .none → j.abort = .none → j.res = .lt → j.engine = e → j.engine2 = e → k.phase = .waiting →
    k.engine = e → k.engine2 = e → k.cls < j.cls → k.cls < 4 →
    ∃ t x y, exec (.engineInstructionBoundary e ns) s = .next t ∧ t.job? j.id = some x ∧ x.phase = .preempted ∧
      t.job? k.id = some y ∧ y.phase = .running ∧
      t.cntGet (R.AEA_PREEMPT e) = min (s.cntGet (R.AEA_PREEMPT e) + 1) (cntMax (R.AEA_PREEMPT e)))

/-- O24. Next addresses of Spire microwords. The Spire of an engine that may execute its next microword, whose
nanoword performs no operation. NEXT goes to the next address. BR goes to TARGET when its condition equals POL, else
on. CALL pushes the next address, RET pops it. DISP adds its key to TARGET. LOOP decrements its counter and goes to
TARGET while the counter is not 0. WAIT goes on when taken, else it stays; a waiting microword goes on once it is
taken. Every next address passes the hook table, and nothing else of the device changes. -/
def Obligations.SequencingOperations : Prop :=
  ∀ (s : State) (e : Fin 48) (j : Job) (w : Nat), s.jobsOk → s.spireJob e = some j → w = s.microAt e j.spire.upc →
    (j.spire.waiting = false → s.quietWord j w →
      (mwSeq w = sqNext → ∃ t, exec (.spireNext e) s = .next t ∧ MovesTo s t j j.spire w (j.spire.upc + 1)) ∧
      (∀ (ext b : Bool), taken j j.spire w ext = some b →
        (mwSeq w = sqBr → ∃ t, exec (.spireBr e ext) s = .next t ∧
          MovesTo s t j j.spire w (if b then mwTarget w else j.spire.upc + 1)) ∧
        (mwSeq w = sqCall → (b = false → ∃ t, exec (.spireCall e ext) s = .next t ∧
            MovesTo s t j j.spire w (j.spire.upc + 1)) ∧
          (b = true → j.spire.stack.length < 8 → ∃ t, exec (.spireCall e ext) s = .next t ∧
            MovesTo s t j { j.spire with stack := (j.spire.upc + 1) % 2 ^ 14 :: j.spire.stack } w (mwTarget w))) ∧
        (mwSeq w = sqRet → (b = false → ∃ t, exec (.spireRet e ext) s = .next t ∧
            MovesTo s t j j.spire w (j.spire.upc + 1)) ∧
          (∀ a rest, b = true → j.spire.stack = a :: rest → ∃ t, exec (.spireRet e ext) s = .next t ∧
            MovesTo s t j { j.spire with stack := rest } w a)) ∧
        (mwSeq w = sqWait → (b = true → ∃ t, exec (.spireWait e ext) s = .next t ∧
            MovesTo s t j j.spire w (j.spire.upc + 1)) ∧
          (b = false → ∃ t, exec (.spireWait e ext) s = .next t ∧
            t.job? j.id = some { j with spire := { j.spire with waiting := true, atBnd := false } }))) ∧
      (∀ k, mwSeq w = sqDisp → dispKey j.desc (mwCond w) = some k → ∃ t, exec (.spireDisp e) s = .next t ∧
        MovesTo s t j j.spire w (mwTarget w + k)) ∧
      (mwSeq w = sqLoop →
        (j.spire.lc (mwCond w % 4) = 0 → ∃ t, exec (.spireLoop e) s = .next t ∧ MovesTo s t j j.spire w (j.spire.upc + 1)) ∧
        (j.spire.lc (mwCond w % 4) ≠ 0 → ∃ t, exec (.spireLoop e) s = .next t ∧
          MovesTo s t j (j.spire.setLc (mwCond w % 4) (j.spire.lc (mwCond w % 4) - 1)) w (mwTarget w)))) ∧
    (j.spire.waiting = true → mwSeq w = sqWait → waitTaken j w = true →
      ∃ t, exec (.spireWaitTaken e) s = .next t ∧ MovesTo s t j j.spire w (j.spire.upc + 1))

/-- O25. ASSERT, the boundary cap, and DONE. An ASSERT that is taken, and a running job that reaches its engine's
boundary cap, end the job FAULT_ABORT 0x08: CAUSE 3 and 4, with the message of KIND 0x08 and, where UCODE_ASSERT holds
none, the Spire index, uPC and CAUSE recorded there. DONE ends a queue job without pending abort with the status and
the engine of its nanoword: DETAIL 0 where DSEL is 0 and the status is an error; a job that succeeds and reserved no
slot ends with that status and no TRUNC flag but for OK_TRUNCATED. -/
def Obligations.AssertionsAndDone : Prop :=
  ∀ (s : State) (e : Fin 48) (j : Job), isAea e = true → s.jobsOk → j.kind = .queue →
    (∀ (w : Nat) (ext : Bool), s.spireJob e = some j → w = s.microAt e j.spire.upc → j.spire.waiting = false → s.quietWord j w →
      (mwSeq w = sqAssert → taken j j.spire w ext = some true →
        ∃ t, exec (.spireAssert e ext) s = .next t ∧ JobEnded j.id (failed e stFault 0x08) t ∧
          (s.on F.UCODE_ASSERT_VALID = false → j.spire.upc < 2 ^ 14 → t.on F.UCODE_ASSERT_VALID = true ∧
            t.get F.UCODE_ASSERT_SPIRE = spireIndex e ∧ t.get F.UCODE_ASSERT_UPC = j.spire.upc ∧
            t.get F.UCODE_ASSERT_CAUSE = 3)) ∧
      (mwSeq w = sqDone → j.abort = .none →
        (0x10 ≤ nwCstat (s.nanoAt e (mwNano w)) → nwDsel (s.nanoAt e (mwNano w)) = 0 →
          ∃ t, exec (.spireDone e) s = .next t ∧ JobEnded j.id (failed e (nwCstat (s.nanoAt e (mwNano w))) 0) t) ∧
        (nwCstat (s.nanoAt e (mwNano w)) < 0x10 → nwDsel (s.nanoAt e (mwNano w)) = 0 → j.targets = [] →
          ∃ t n, exec (.spireDone e) s = .next t ∧ JobEnded j.id ⟨nwCstat (s.nanoAt e (mwNano w)), 0, n, e,
            nwCstat (s.nanoAt e (mwNano w)) == stTrunc⟩ t))) ∧
    (s.running e = some j → j.engine = e → bndCap (kindOf e) ≤ j.spire.sinceBnd →
      ∃ t, exec (.boundaryCap e) s = .next t ∧ JobEnded j.id (failed e stFault 0x08) t ∧
        (s.on F.UCODE_ASSERT_VALID = false → t.on F.UCODE_ASSERT_VALID = true ∧ t.get F.UCODE_ASSERT_CAUSE = 4))

/-- O26. Loading, arming, clearing and digesting a quadrant. A permitted write of UCODE_Q_WR stores the word in the
data registers at the space and index of UCODE_Q_ADDR, raises the count of that space to index + 1 and INDEX by one
when no check of R231 fails; else it stores nothing and records LOAD_REJECT with space, index and reason. ARM sets
ARMED, and PATCHED when a record is held. CLEAR of an armed quadrant is ignored; of another it is set, and when it
ends the RAM and tables are null and both counts 0. A digest over the stored records stands in UCODE_Q_DIGEST when
DIGEST_VALID is set. Abandoning a bundle clears and arms every quadrant not armed and sets UC_ABANDONED. Scrubbing
changes no word. -/
def Obligations.ControlStoreCommands : Prop :=
  (∀ (s : State) (r : Req) (q : Fin 4) (v : Word), s.mayWrite r (R.UCODE_Q_WR q) → ∀ sp i w : Nat,
    sp = s.get (F.UCODE_Q_ADDR_SPACE q) → i = s.get (F.UCODE_Q_ADDR_INDEX q) → w = s.loadWord q sp →
    (s.loadReason q sp i w = 0 → ∃ t, exec (.ucodeQWr r q v) s = .next t ∧ t.quad q = (s.quad q).store sp i w ∧
      t.get (F.UCODE_Q_ADDR_INDEX q) = i + 1 ∧ i < spaceSize sp ∧
      SameRegsBut [R.UCODE_Q_USED q, R.UCODE_Q_TBL q, R.UCODE_Q_ADDR q] s t ∧ t = { s with regs := t.regs, ucs := t.ucs }) ∧
    (s.loadReason q sp i w ≠ 0 → ∃ t, exec (.ucodeQWr r q v) s = .next t ∧ t.on (F.UCODE_Q_STAT_LOAD_REJECT q) = true ∧
      t.get (F.UCODE_Q_REJ_SPACE q) = sp ∧ t.get (F.UCODE_Q_REJ_INDEX q) = i ∧
      t.get (F.UCODE_Q_REJ_REASON q) = s.loadReason q sp i w ∧ SameRegsBut [R.UCODE_Q_STAT q, R.UCODE_Q_REJ q] s t ∧
      OnlyRegs s t)) ∧
  (∀ (s : State) (r : Req) (q : Fin 4), s.mayWrite r (R.UCODE_Q_CTL q) →
    (∃ t, exec (.ucodeArm r q 0) s = .next t ∧ t.on (F.UCODE_Q_STAT_ARMED q) = true ∧
      t.on (F.UCODE_Q_STAT_PATCHED q) = s.hasRecords q ∧ SameRegsBut [R.UCODE_Q_CTL q, R.UCODE_Q_STAT q] s t ∧
      OnlyRegs s t) ∧
    (s.on (F.UCODE_Q_STAT_ARMED q) = true → exec (.ucodeQClear r q 0) s = .next s) ∧
    (s.on (F.UCODE_Q_STAT_ARMED q) = false → exec (.ucodeQClear r q 0) s = .next (s.set (F.UCODE_Q_CTL_CLEAR q))) ∧
    ∃ t, exec (.digestStart r q 0) s = .next t ∧ t.on (F.UCODE_Q_STAT_DIGEST_BUSY q) = true ∧
      t.on (F.UCODE_Q_STAT_DIGEST_VALID q) = false ∧ SameRegsBut [R.UCODE_Q_CTL q, R.UCODE_Q_STAT q] s t ∧ OnlyRegs s t) ∧
  (∀ (s : State) (q : Fin 4),
    (s.on (F.UCODE_Q_CTL_CLEAR q) = true → ∃ t, exec (.ucodeQClearDone q) s = .next t ∧ t.quad q = Quadrant.null ∧
      t.rd (R.UCODE_Q_USED q) = 0 ∧ t.rd (R.UCODE_Q_TBL q) = 0 ∧ t.on (F.UCODE_Q_CTL_CLEAR q) = false ∧
      (∀ p : Fin 4, p ≠ q → t.quad p = s.quad p) ∧
      SameRegsBut [R.UCODE_Q_CTL q, R.UCODE_Q_USED q, R.UCODE_Q_TBL q] s t) ∧
    (s.on (F.UCODE_Q_STAT_DIGEST_BUSY q) = true → ∃ t, exec (.digestComplete q) s = .next t ∧
      (∀ i : Fin 12, t.rd (R.UCODE_Q_DIGEST q i) = BitVec.ofNat 32 (leAt (sha384 (s.quadRecords q)) (4 * i) 4)) ∧
      t.on (F.UCODE_Q_STAT_DIGEST_BUSY q) = false ∧ t.on (F.UCODE_Q_STAT_DIGEST_VALID q) = true) ∧
    (s.on (F.UCODE_Q_STAT_ARMED q) = true → ∃ t, exec (.ucsScrub q) s = .next t ∧ (∀ p, t.quad p = s.quad p) ∧
      SameRegsBut [] s t)) ∧
  (∀ s : State, s.power.cupUp = true → ∃ t, exec .bundleAbandon s = .next t ∧ t.on F.CUP_BOOT_STAT_UC_ABANDONED = true ∧
    ∀ q : Fin 4, t.on (F.UCODE_Q_STAT_ARMED q) = true ∧
      (s.on (F.UCODE_Q_STAT_ARMED q) = false → t.quad q = Quadrant.null))

/-- O27. KEYGEN, ENCAPS, DECAPS, SIGN, VERIFY and EXCHANGE. What a job of the asymmetric engines does, with RNG
RUNNING where it needs it and one output buffer in memory that the output fits. KEYGEN of an ALG with a plain key
pair, with the seed in memory and both keys to memory, writes public key and private key. ENCAPS of ML-KEM with the
message in memory writes ciphertext and secret of a public key that passes its check, and else completes VERIFY_FAIL
with no output. DECAPS with an intact key writes the secret. A deterministic ML-DSA SIGN without context writes the
signature, with the iterations as DETAIL. VERIFY completes OK or VERIFY_FAIL. EXCHANGE writes the shared secret of the
slot's key and the peer's. -/
def Obligations.AsymmetricJobs : Prop :=
  ∀ (s : State) (i : Nat) (j : Job) (x : JobIn) (a : Nat),
    (∀ (seed : List Byte), s.worksWith i opKeygen j x → s.rngState = rngRunning → leAt j.desc 64 2 = 3 →
      isMlKem (dAlg j.desc) = true ∨ isMlDsa (dAlg j.desc) = true ∨ isSlhDsa (dAlg j.desc) = true ∨ isHqc (dAlg j.desc) = true →
      s.dmaRead j.owner (dAuxAddr j.desc) (kgSeedLen j.desc) = some seed → ∀ out,
      out = (keyPair (dAlg j.desc) (kgParam j.desc) seed).1 ++ (keyPair (dAlg j.desc) (kgParam j.desc) seed).2 →
      s.outputFits j x a out → ∃ t, exec (.keygen i) s = .next t ∧ JobWrote j x a out 0 s t) ∧
    (s.worksWith i opEncaps j x → s.rngState = rngRunning → isMlKem (dAlg j.desc) = true → dKeyHandle j.desc = none32 →
      bit (leAt j.desc 64 2) 0 = false → bit (leAt j.desc 64 2) 1 = true →
      (encapsKeyOk (dAlg j.desc) x.data = false → ∃ t, exec (.encaps i) s = .next t ∧ SameMemory s t ∧
        JobEnded j.id (failed j.engine stVerifyFail 0) t) ∧
      (∀ m ct ss, encapsKeyOk (dAlg j.desc) x.data = true →
        s.dmaRead j.owner (dAuxAddr j.desc) (mLen (dAlg j.desc)) = some m →
        encapsOf (dAlg j.desc) (bit (leAt j.desc 64 2) 2) x.data m = some (ct, ss) → s.outputFits j x a (ct ++ ss) →
        ∃ t, exec (.encaps i) s = .next t ∧ JobWrote j x a (ct ++ ss) 0 s t)) ∧
    (∀ y ss, s.worksWith i opDecaps j x → s.rngState = rngRunning → s.liveSlot (dKeyHandle j.desc) = some y →
      bit (leAt j.desc 64 2) 0 = false → storedKeyOk (dAlg j.desc) y.key = true →
      decapsOf (dAlg j.desc) (bit (leAt j.desc 64 2) 2) y.key x.data = some ss → s.outputFits j x a ss →
      ∃ t, exec (.decaps i) s = .next t ∧ JobWrote j x a ss 0 s t) ∧
    (∀ y n out, s.worksWith i opSign j x → s.rngState = rngRunning → isMlDsa (dAlg j.desc) = true → j.inp = none →
      s.liveSlot (dKeyHandle j.desc) = some y → sgDet j.desc = true → sgCtxLen j.desc = 0 →
      bit (leAt j.desc 64 2) 3 = false → ∀ p, p = SigParams.mk (sgMode j.desc) (sgPh j.desc) (byteAt j.desc 69) (byteAt j.desc 70) [] →
      n = itersOf (dAlg j.desc) p y.key (zeros 32) x.data → n ≤ 1024 →
      out = signOf (dAlg j.desc) (sigLen (dAlg j.desc) (rsaOfSk y.keyLen)) p y.key (zeros 32) x.data →
      s.outputFits j x a out → ∃ t, exec (.sign i) s = .next t ∧ JobWrote j x a out (max n 1) s t) ∧
    (∀ y sig, s.worksWith i opVerify j x → dKeyHandle j.desc ≠ none32 → s.liveSlot (dKeyHandle j.desc) = some y →
      sgCtxLen j.desc = 0 → s.dmaRead j.owner (dAuxAddr j.desc) (verifySigLen j.desc y.key.length) = some sig →
      ∀ p, p = SigParams.mk (sgMode j.desc) (sgPh j.desc) (byteAt j.desc 69) (byteAt j.desc 70) [] →
      ∃ t, exec (.verify i) s = .next t ∧ JobEnded j.id (if verifyOf (dAlg j.desc) p y.key x.data sig then
        okResult j.engine 0 0 x.excess else failed j.engine stVerifyFail 0) t) ∧
    (∀ y ss, s.worksWith i opExchange j x → s.rngState = rngRunning → s.liveSlot (dKeyHandle j.desc) = some y →
      bit (leAt j.desc 64 2) 0 = false → bit (leAt j.desc 64 2) 2 = false →
      Config.exchange (dAlg j.desc) (byteAt j.desc 76) y.key x.data = some ss → ∀ out,
      out = fit (exchLen (dAlg j.desc) (byteAt j.desc 76)) ss → s.outputFits j x a out →
      ∃ t, exec (.exchange i) s = .next t ∧ JobWrote j x a out 0 s t)

/-- O28. HASH, MAC, MAC_COMPARE, ENCRYPT and DECRYPT. With one output buffer that the output fits: HASH writes the
digest, of OUT_LEN bytes for an XOF. MAC without customisation string, under a slot's key (with RNG RUNNING unless it
is GMAC), writes the tag; MAC_COMPARE with the same operands completes OK where the tag equals the bytes at AUX_ADDR
and VERIFY_FAIL where it does not. ENCRYPT under a slot's key writes the ciphertext with its tag. DECRYPT under a
slot's key writes the plaintext where the tag verifies, else it completes VERIFY_FAIL. -/
def Obligations.HashMacAndCipherJobs : Prop :=
  ∀ (s : State) (i : Nat) (j : Job) (x : JobIn) (a : Nat) (out : List Byte),
    (s.worksWith i opHash j x → s.outputFits j x a out →
      out = hashOf (dAlg j.desc) (if dAlg j.desc = 0x921 ∨ dAlg j.desc = 0x922 then leAt j.desc 64 4 else hashLen (dAlg j.desc))
        x.data → ∃ t, exec (.hash i) s = .next t ∧ JobWrote j x a out 0 s t) ∧
    (∀ y, s.liveSlot (dKeyHandle j.desc) = some y →
      (dAlg j.desc = 0xB01 ∨ (s.rngState = rngRunning ∧ byteAt j.desc 68 = 0) →
        (s.worksWith i opMac j x → out = jobMac j.desc y.key [] x.data → s.outputFits j x a out →
          ∃ t, exec (.mac i) s = .next t ∧ JobWrote j x a out 0 s t) ∧
        (∀ e, s.worksWith i opMacCompare j x → s.dmaRead j.owner (dAuxAddr j.desc) (macLen j.desc) = some e →
          ∃ t, exec (.macCompare i) s = .next t ∧ JobEnded j.id (if jobMac j.desc y.key [] x.data = e then
            okResult j.engine 0 0 x.excess else failed j.engine stVerifyFail 0) t)) ∧
      (dKeyHandle j.desc ≠ none32 →
        (s.worksWith i opEncrypt j x → out = bcEncrypt j.desc y.key (bcIv j.desc) x.data → s.outputFits j x a out →
          ∃ t, exec (.encrypt i) s = .next t ∧ JobWrote j x a out 0 s t) ∧
        (s.worksWith i opDecrypt j x →
          (bcDecrypt j.desc y.key (bcIv j.desc) x.data = some out → s.outputFits j x a out →
            ∃ t, exec (.decrypt i) s = .next t ∧ JobWrote j x a out 0 s t) ∧
          (bcDecrypt j.desc y.key (bcIv j.desc) x.data = none →
            ∃ t, exec (.decrypt i) s = .next t ∧ JobEnded j.id (failed j.engine stVerifyFail 0) t))))

/-- O29. DECRYPT undoes ENCRYPT. For AES-GCM, AES-CTR and ChaCha20-Poly1305 the input AAD ‖ ciphertext ‖ tag, made by
ENCRYPT under a key and an IV of a descriptor without AAD fault (its AAD length within the data), opens under the same
key and IV to the plaintext, for the DECRYPT descriptor with the same ALG, AAD length and tag length whose DECL_LEN is
the length of that input. -/
def Obligations.DecryptUndoesEncrypt : Prop :=
  ∀ (d e key iv data : List Byte), dAlg d = dAlg e → bcAad d = bcAad e → bcTag d = bcTag e → bcAad d ≤ data.length →
    (dAlg d = 0xB01 ∨ dAlg d = 0xC01 → dDeclLen e = data.length + bcTag d →
      bcDecrypt e key iv (data.take (bcAad d) ++ bcEncrypt d key iv data) = some (data.drop (bcAad d))) ∧
    (dAlg d = 0xB02 → bcDecrypt e key iv (bcEncrypt d key iv data) = some data)

/-- O30. Jobs of KEEP and of the Context Arbiter. KEEP_LOAD of an imported key fills the reserved slot and counts it.
KEEP_ERASE of one slot without leaves empties it with the next generation. DERIVE from a slot's key to one memory
destination writes the derived bytes; WRAP and UNWRAP by RFC 3394 wrap a slot's key to memory, and fill a slot or
complete VERIFY_FAIL; ATTEST for the key writes the attestation key. CTX_INSTALL of an image that passes every check
makes the context ACTIVE; CTX_UPDATE stores the selected bytes and no other; CTX_RETIRE zeroes the context; each is
one commit. CTX_SNAPSHOT writes the context with its keys zeroed. -/
def Obligations.KeepAndContextJobs : Prop :=
  ∀ (s : State) (i : Nat) (j : Job) (x : JobIn) (a g : Nat) (out : List Byte),
    (s.worksWith i opKeepLoad j x → byteAt j.desc 64 = 0 → j.targets = [g] →
      ∃ t, exec (.keepLoad i) s = .next t ∧ JobEnded j.id (okResult j.engine (s.handleOf g) 0 x.excess) t ∧
        (t.slot g).st = .live ∧ (t.slot g).key = x.data ∧ (t.slot g).usage = byteAt j.desc 65 ∧ (t.slot g).origin = orImported ∧
        (t.slot g).alg = dAlg j.desc ∧ (t.slot g).group = j.group ∧ (t.slot g).gen = (s.slot g).gen ∧ SameMemory s t) ∧
    (s.worksOn i opKeepErase j → byteAt j.desc 64 = 0 → s.liveSlot (dKeyHandle j.desc) ≠ none →
      (s.slot (hSlot (dKeyHandle j.desc))).leaf = none →
      ∃ t, exec (.keepErase i 0) s = .next t ∧ JobEnded j.id ⟨stOk, 1, 0, j.engine, false⟩ t ∧
        (t.slot (hSlot (dKeyHandle j.desc))).st = .empty ∧ (t.slot (hSlot (dKeyHandle j.desc))).key = [] ∧
        (t.slot (hSlot (dKeyHandle j.desc))).gen = (if hGen (dKeyHandle j.desc) = 255 then 1 else hGen (dKeyHandle j.desc) + 1)) ∧
    (∀ y e, s.worksWith i opDerive j x → bit (leAt j.desc 64 2) 1 = false → s.liveSlot (dKeyHandle j.desc) = some y →
      dAuxHandle j.desc = none32 → destEntries (byteAt j.desc 66) (j.desc.drop 128) = [e] → e.dtype = 3 → j.targets = [] →
      out = kdf (dAlg j.desc) (bit (leAt j.desc 64 2) 0) (byteAt j.desc 67) y.key [] x.data e.len → s.outputFits j x a out →
      ∃ t, exec (.derive i) s = .next t ∧ JobWrote j x a out 0 s t) ∧
    (∀ y k, s.worksWith i opWrap j x → wFormat j.desc = 1 → s.liveSlot (dAuxHandle j.desc) = some y →
      s.liveSlot (dKeyHandle j.desc) = some k →
      out = fit ((y.keyLen + 7) / 8 * 8 + 8) (Config.kwWrap (dAlg j.desc) (k.key.take 32) y.key) → s.outputFits j x a out →
      ∃ t, exec (.wrap i) s = .next t ∧ JobWrote j x a out 0 s t) ∧
    (∀ k, s.worksWith i opUnwrap j x → wFormat j.desc = 1 → s.liveSlot (dKeyHandle j.desc) = some k →
      (Config.kwUnwrap (dAlg j.desc) (k.key.take 32) x.data = none →
        ∃ t, exec (.unwrap i) s = .next t ∧ JobEnded j.id (failed j.engine stVerifyFail 0) t) ∧
      (Config.kwUnwrap (dAlg j.desc) (k.key.take 32) x.data = some out → unwrappedOk (leAt j.desc 78 2) out.length = true →
        j.targets = [g] → ∃ t, exec (.unwrap i) s = .next t ∧
          JobEnded j.id (okResult j.engine (s.handleOf g) 0 x.excess) t ∧ (t.slot g).st = .live ∧ (t.slot g).key = out)) ∧
    (s.worksWith i opAttest j x → s.rngState = rngRunning → byteAt j.desc 64 = 2 → out = s.attestKey.1 →
      s.outputFits j x a out → ∃ t, exec (.attest i) s = .next t ∧ JobWrote j x a out 0 s t) ∧
    (∀ y c, s.worksWith i opCtxInstall j x → j.q < 4096 → s.ctsOpen = true → c = dCtxId j.desc → c ≠ none32 → inPred j.desc = none32 →
      inFlags j.desc = 0 → byteAt j.desc 73 = 0 → dAuxHandle j.desc = none32 → s.liveSlot (dKeyHandle j.desc) = some y →
      x.data.length = 512 → s.installCheck j x.data [] = none → s.installable j c = true → s.ctxMoved j c = false →
      s.pinBad j.desc x.data [] = false → s.poisoned (ctxAddr c / 64) = false →
      ∃ t, exec (.ctxInstall i) s = .next t ∧ JobEnded j.id (okResult j.engine 0 0 x.excess) t ∧
        cState (t.ctx c) = csActive ∧ cType (t.ctx c) = cType x.data ∧ cOwner (t.ctx c) = j.group ∧
        t.cts.csn = s.cts.csn + 1 ∧ (∀ k, k ≠ c → t.ctx k = s.ctx k)) ∧
    (∀ c m, s.worksWith i opCtxUpdate j x → c = dCtxId j.desc → s.ctxReach c = true → dAuxHandle j.desc = none32 →
      dAuxAddr j.desc ≠ 0 → s.dmaRead j.owner (dAuxAddr j.desc) 64 = some m → byteAt j.desc 72 = 0 →
      s.ctxMoved j c = false → s.rollBusy c = false → s.maskBad c m x.data (s.ctx c) = false → masked m 17 = false →
      masked m 18 = false → rolledBack (s.ctx c) (merged m x.data (s.ctx c)) = false →
      bodyBad c (merged m x.data (s.ctx c)) = false → allZero (slice (merged m x.data (s.ctx c)) 48 16) = true →
      ∃ t, exec (.ctxUpdate i) s = .next t ∧ JobEnded j.id (okResult j.engine 0 0 x.excess) t ∧
        t.cts.csn = s.cts.csn + 1 ∧ (∀ k, k ≠ c → t.ctx k = s.ctx k) ∧
        ∀ b, 19 ≤ b → b < 512 → byteAt (t.ctx c) b = byteAt (if masked m b then x.data else s.ctx c) b) ∧
    (∀ c u, s.worksWith i opCtxRetire j x → c = dCtxId j.desc → c ≠ none32 → s.ctxReach c = true → s.ctxMoved j c = false →
      s.rollBusy c = false → s.releaseFlows c (s.ctx c) = some u → s.waitingPair c = none →
      ∃ t, exec (.ctxRetire i) s = .next t ∧ JobEnded j.id (okResult j.engine 0 0 x.excess) t ∧
        t.cts.csn = s.cts.csn + 1 ∧ (∀ b, 16 ≤ b → byteAt (t.ctx c) b = 0)) ∧
    (∀ c, s.worksWith i opCtxSnapshot j x → c = dCtxId j.desc → s.ctxReach c = true → s.ctxMoved j c = false →
      out = snapshotOf (s.ctx c) → s.outputFits j x a out →
      ∃ t, exec (.ctxSnapshot i) s = .next t ∧ JobWrote j x a out 0 s t)

/-- O31. Jobs that wait too long, tree builds, and the leaf journal. A job that has waited 10 s for randomness, and
whose buffers pass the checks of a job's start, fails RNG_NOT_READY 0 and is counted; one that has waited for a leaf
fails STATE_EXHAUSTED 0. A tree build that ends extends the leaves that are built and leaves its engine. With nothing
queued behind the request that KEEP has made, ACK of a reservation stores the new end and raises JSEQ by one; FAIL
blocks the key. A load of a blob seeks its record: PRESENT of a valid record whose JSEQ is the cell's or one above
makes the key NORMAL from the record's end of reservation, and no record blocks it; either way the slot is LIVE and
KEEP_BL_RES 0. -/
def Obligations.WaitsAndLeafJournal : Prop :=
  (∀ (s : State) (i : Nat) (j : Job), s.jobsOk → s.job? i = some j → j.kind = .queue → j.phase ≠ .done →
    (∀ x, j.wait = .rng → s.scatterSmall j.owner j.desc = false → stage78 s j.owner j.desc (s.moreBufs j.owner j.desc) = .ok x →
      ∃ t, exec (.rngWaitTimeout i) s = .next t ∧ JobEnded i (failed j.ranOn stRngNotReady 0) t ∧
        t.cntGet (R.RNG_CNT 6) = min (s.cntGet (R.RNG_CNT 6) + 1) (cntMax (R.RNG_CNT 6))) ∧
    (j.wait = .leaf → ∃ t, exec (.leafWaitTimeout i) s = .next t ∧ JobEnded i (failed j.ranOn stStateExh 0) t)) ∧
  (∀ (s : State) (i n : Nat) (j : Job) (l : LeafState), s.jobsOk → s.job? i = some j → j.kind = .treeBuild n →
    j.phase = .running → (s.slot n).leaf = some l → ∃ t m, exec (.treeBuildComplete i) s = .next t ∧ t.job? i = none ∧
      (t.slot n).leaf = some m ∧ m.builtEnd = min (l.builtEnd + l.treeLeaves) l.limit ∧ SameMemory s t) ∧
  (∀ (s : State) (r : Req) (x : JrReq) (l : LeafState), s.mayWrite r R.KEEP_JR_CMD → s.keep.jr = some x →
    s.keep.jrQueue = [] → (s.slot x.slot).leaf = some l → l.uid = x.uid →
    (∀ e n, x.kind = .reserve e → s.cell x.cell = (x.uid, n) → s.leafWaiters x.slot = [] →
      (∃ t, exec (.jrAck r 0) s = .next t ∧ (t.slot x.slot).leaf = some { l with resEnd := e } ∧
        t.cell x.cell = (x.uid, (n + 1) % 2 ^ 32) ∧ (∀ k, k ≠ x.slot → t.slot k = s.slot k) ∧ SameMemory s t) ∧
      ∃ t, exec (.jrFail r 0) s = .next t ∧ (t.slot x.slot).leaf = some { l with mode := .blocked } ∧ t.keep.jr = none ∧
        (∀ k, k ≠ x.slot → t.slot k = s.slot k) ∧ SameMemory s t) ∧
    (x.kind = .seek none →
      (∀ n e lim, s.cell x.cell = (x.uid, n) → s.jrValid x.uid = true → leAt s.jrWindow 4 4 = n ∨ leAt s.jrWindow 4 4 = n + 1 →
        e = leAt s.jrWindow 16 8 → lim = leAt s.jrWindow 24 8 → e < lim →
        ∃ t m, exec (.jrPresent r 0) s = .next t ∧ (t.slot x.slot).leaf = some m ∧ m.mode = .normal ∧ m.next = e ∧
          m.resEnd = e ∧ m.limit = lim ∧ (t.slot x.slot).st = .live ∧ t.rd R.KEEP_BL_RES = 0 ∧ SameMemory s t) ∧
      ∀ c ∈ [Instr.jrNoneLeft r 0, .seekTimeout], ∃ t m, exec c s = .next t ∧ (t.slot x.slot).leaf = some m ∧
        m.mode = .blocked ∧ (t.slot x.slot).st = .live ∧ t.rd R.KEEP_BL_RES = 0 ∧ SameMemory s t))

/-- O32. The link and preemption state of a port. On an active, enabled port a change of the link sets LINK_UP and
AM_LOCK to it. On a port that is up with PREEMPT_EN = 1 a verification sets PREEMPT_ACTIVE to its outcome. RESTART_AN
written with EN = 1 takes the link down where the port runs auto-negotiation. No other port's registers change but
those of events, and no memory. -/
def Obligations.LineState : Prop :=
  (∀ (s : State) (p : Fin 16) (up aui : Bool), s.portActive p = true → s.on (F.LIF_PCTL_EN p) = true → s.svcActs = false →
    s.milestone ≠ 7 → ∃ t, exec (.linkChange p up aui) s = .next t ∧ t.on (F.LIF_PSTAT_LINK_UP p) = up ∧
      t.on (F.LIF_PSTAT_AM_LOCK p) = up ∧ SameRegsBut (R.LIF_PSTAT p :: eventRegs) s t ∧ SameMemory s t) ∧
  (∀ (s : State) (p : Fin 16) (ok : Bool), s.portUp p = true → s.on (F.LIF_PCFG_PREEMPT_EN p) = true →
    ∃ t, exec (.preemptVerify p ok) s = .next t ∧ t.on (F.LIF_PSTAT_PREEMPT_ACTIVE p) = ok ∧
      SameRegsBut (R.LIF_PSTAT p :: eventRegs) s t ∧ SameMemory s t) ∧
  (∀ (s : State) (r : Req) (p : Fin 16), s.mayWrite r (R.LIF_PCTL p) → s.portActive p = true →
    s.ipp.aui.contains p.val = false → ∃ t, exec (.restartAn r p 1) s = .next t ∧ t.on (F.LIF_PCTL_EN p) = true ∧
      t.on (F.LIF_PSTAT_LINK_UP p) = false ∧ SameRegsBut (R.LIF_PCTL p :: R.LIF_PSTAT p :: eventRegs) s t ∧ SameMemory s t)

/-- O33. A frame that arrives is dropped with its reason, or enters the device. On a port that is up and not in
loopback, with no codeword error and no failed check. While IPP forwards nothing a frame is dropped FLUSHED; else FCS,
then LENGTH, then MAC_CONTROL, then PARSE. A frame that parses and matches no entry is dropped NO_FLOW, or where
DEFAULT_ACTION is BYPASS enters for the port of the other side. It is counted at its port as received, with its length
with FCS; a dropped one is counted under its reason and leaves everything else alone. -/
def Obligations.FrameReception : Prop :=
  ∀ (s : State) (p : Fin 16) (bs : List Byte) (ok : Bool), s.portUp p = true → s.on (F.LIF_PCTL_LOOPBACK p) = false →
    ∀ fwd, fwd = (s.power.ippUp && s.on F.IPP_CTL_EN && !s.on F.FLT_STAT_QUIESCED) →
    (fwd = false → FrameRefused s p bs ok drFlushed) ∧
    (fwd = true → ok = false → FrameRefused s p bs ok drFcs) ∧
    (fwd = true → ok = true →
      (bs.length + 4 < 64 ∨ s.get (F.LIF_MAXFRM_BYTES p) < bs.length + 4 → FrameRefused s p bs ok drLength) ∧
      (64 ≤ bs.length + 4 → bs.length + 4 ≤ s.get (F.LIF_MAXFRM_BYTES p) →
        (beAt bs 12 2 = 0x8808 → FrameRefused s p bs ok drMacControl) ∧
        (beAt bs 12 2 ≠ 0x8808 → parseFrame bs = none → FrameRefused s p bs ok drParse) ∧
        ∀ x, beAt bs 12 2 ≠ 0x8808 → parseFrame bs = some x → (x.etype = 0x88E5 → p.val < 8) → ptpType x bs = none →
          firstMatch s.findPin (flowKeys x p bs) = none → s.on F.PWR_STAT_VIGIL = false → s.ctsOpen = true →
          firstMatch s.findTab (flowKeys x p bs) = none →
          (s.get (F.LIF_PCFG_DEFAULT_ACTION p) ≠ 1 → FrameRefused s p bs ok drNoFlow) ∧
          (s.get (F.LIF_PCFG_DEFAULT_ACTION p) = 1 → s.frame? s.ipp.nextId = none →
            ∃ t, exec (.frameIngress p bs ⟨ok, 0, 0, none⟩) s = .next t ∧ t.ipp.frames = s.ipp.frames ++
              [{ s.newFrame p bs with
                  action := 3, egress := (1 - p.val / 8) * 8 + s.get (F.LIF_PCFG_PAIR p) }] ∧ SameMemory s t)))

/-- O34. Commit, egress, the hold for time, and frames of SVC. A frame that is not transformed and is next at the
arbiter goes to its egress queue unchanged, or is dropped TOO_BIG or EGRESS_DOWN. A MACsec frame takes the counter of
its ACTIVE context, raises it by one and goes to egress protected under it. A frame at egress that is first of its
flow leaves by its port padded, and is counted with its FCS. A frame held 50 ms for time is dropped PTP_UNLOCKED; with
time available a held group frame goes to the arbiter. A frame of SVC goes to the queue of its port. -/
def Obligations.FrameTransmission : Prop :=
  (∀ (s : State) (k : Nat) (f : FrameSt), s.nextCommit = some f → s.frame? k = some f → f.id = k → f.ident = none →
    f.egress < 16 →
    (f.action = 3 → f.port < 16 → s.get (F.LIF_MAXFRM_BYTES f.egress) < f.bytes.length + 4 →
      ∃ t, exec (.dataPathAdvance k) s = .next t ∧ FrameDropped f drTooBig s t) ∧
    (f.action = 3 → f.port < 16 → f.bytes.length + 4 ≤ s.get (F.LIF_MAXFRM_BYTES f.egress) → s.portUp f.egress = false →
      ∃ t, exec (.dataPathAdvance k) s = .next t ∧ FrameDropped f drEgressDown s t) ∧
    (f.action = 3 → s.egressTakes f.egress f.cls f.bytes.length → ∃ t, exec (.dataPathAdvance k) s = .next t ∧
      t.frame? k = some { f with phase := .egress } ∧ (∀ i, i ≠ k → t.frame? i = s.frame? i) ∧
      t = { s with ipp := { s.ipp with frames := t.ipp.frames } }) ∧
    (∀ c x n p out, f.action = 1 → c = f.ctx → x = s.ctx c → x.length = 512 → n = cCtr x → parseFrame f.bytes = some p →
      cType x = ctMacsecTx → cState x = csActive → s.ctxReach c = true → c ≠ none32 → n + 1 < s.ctrWarn x →
      n + 1 < ctrLast x → out = macsecProtect x n f.bytes → s.egressTakes f.egress f.cls out.length →
      ∃ t, exec (.dataPathAdvance k) s = .next t ∧ cCtr (t.ctx c) = n + 1 ∧
        t.frame? k = some { f with bytes := out, phase := .egress } ∧ SameMemory s t)) ∧
  (∀ (s : State) (k : Nat) (f : FrameSt), s.frame? k = some f → f.id = k → f.phase = .egress → s.isFirst f = true → f.egress < 16 →
    s.portUp f.egress = true → f.tc = false → s.on (F.LIF_PCTL_LOOPBACK f.egress) = false →
    ∃ t, exec (.frameEgress k none) s = .next t ∧ t.ipp.txLog = s.ipp.txLog ++ [(f.egress, padFrame f.bytes)] ∧
      t.frame? k = none ∧ t.cntGet (R.LIF_CNT f.egress 2) =
        min (s.cntGet (R.LIF_CNT f.egress 2) + 1) (cntMax (R.LIF_CNT f.egress 2)) ∧
      t.cntGet (R.LIF_CNT f.egress 3) =
        min (s.cntGet (R.LIF_CNT f.egress 3) + ((padFrame f.bytes).length + 4)) (cntMax (R.LIF_CNT f.egress 3)) ∧
      SameMemory s t) ∧
  (∀ (s : State) (k : Nat) (f : FrameSt), s.frame? k = some f → f.id = k → f.phase = .held → f.port < 16 →
    (f.time + 50000000 ≤ s.time → ∃ t, exec (.ptpHoldTimeout k) s = .next t ∧ FrameDropped f drPtp s t) ∧
    (∀ p, s.timeAvail = true → s.ipp.frames.filter (fun f => f.phase == .held) = [f] → f.action = 1 → f.port < 8 →
      s.ctxReach f.ctx = true → parseFrame f.bytes = some p → cType (s.ctx f.ctx) = ctGroup →
      suitsTx (s.ctx f.ctx) p f.bytes = true → txOpen (s.ctx f.ctx) = true →
      keyExpired (leAt (s.ctx f.ctx) 152 8) f.ptp = false →
      ∃ t g, exec .timeAvailable s = .next t ∧ t.frame? k = some g ∧ g.phase = .commit ∧ g.bytes = f.bytes ∧
        t.ipp.unlockedSeen = false ∧ SameMemory s t)) ∧
  (∀ (s : State) (p : Fin 16) (bs : List Byte), s.svcRuns = true → s.frame? s.ipp.nextId = none → s.egressTakes p 2 bs.length →
    ∃ t, exec (.svcFrameTx p bs) s = .next t ∧ t.frame? s.ipp.nextId =
      some { s.newFrame 16 bs with egress := p.val, phase := .egress } ∧
      t = { s with ipp := { s.ipp with frames := t.ipp.frames, nextId := s.ipp.nextId + 1 } })

/-- O35. Aging of flow entries, duplicate records, and SA events. An entry of the CTS flow table that has been idle
for more than its IDLE leaves the table, with an SA event of kind 3 for its context. A duplicate record FORGET_MS old
is forgotten. A permitted write of IPP_RG[g] stores MEMBERS, SIDE, MODE, EN and FORGET_MS, and forgets the records of
the group where MEMBERS, MODE or EN changes. A permitted read of IPP_SAEVT returns and takes the oldest event, or 0
when there is none. -/
def Obligations.FlowAgingAndRecords : Prop :=
  (∀ (s : State) (k : Nat) (e : List Byte), e = s.flowAt k → e ≠ [] → feIdle e ≠ 0 →
    feIdle e < (s.time / 1000000 + 2 ^ 32 - feLast e) % 2 ^ 32 → s.ctsOpen = true → s.ipp.saevt.length < 1024 →
    ∃ t, exec (.flowAging k) s = .next t ∧ t.flowAt k = [] ∧ (∀ i, i ≠ k → t.flowAt i = s.flowAt i) ∧
      t.cts.ctxs = s.cts.ctxs ∧
      t.ipp.saevt = s.ipp.saevt ++ [BitVec.ofNat 32 (feCtx e % 2 ^ 21 + 3 * 2 ^ 24 + 2 ^ 31)] ∧ SameMemory s t) ∧
  (∀ (s : State) (g : Fin 8) (k : Nat) (x : Nat × Nat), (s.recordsOf g)[k]? = some x → x.2 + s.forgetNs g ≤ s.time →
    ∃ t, exec (.recordForget g k) s = .next t ∧ t.recordsOf g = (s.recordsOf g).eraseIdx k ∧
      (∀ i, i ≠ g.val → t.recordsOf i = s.recordsOf i) ∧ t = { s with ipp := { s.ipp with records := t.ipp.records } }) ∧
  (∀ (s : State) (r : Req) (g : Fin 8) (v : Word), s.mayWrite r (R.IPP_RG g) →
    ∃ t, exec (.rgWrite r g v) s = .next t ∧ t.get (F.IPP_RG_MEMBERS g) = bits v.toNat 0 8 ∧
      t.on (F.IPP_RG_SIDE g) = v.getLsbD 8 ∧ t.on (F.IPP_RG_MODE g) = v.getLsbD 9 ∧ t.on (F.IPP_RG_EN g) = v.getLsbD 10 ∧
      t.get (F.IPP_RG_FORGET_MS g) = bits v.toNat 16 16 ∧
      t.recordsOf g = (if t.get (F.IPP_RG_MEMBERS g) = s.get (F.IPP_RG_MEMBERS g) ∧
        t.on (F.IPP_RG_MODE g) = s.on (F.IPP_RG_MODE g) ∧ t.on (F.IPP_RG_EN g) = s.on (F.IPP_RG_EN g)
        then s.recordsOf g else []) ∧ SameRegsBut [R.IPP_RG g] s t ∧
      t = { s with regs := t.regs, ipp := { s.ipp with records := t.ipp.records } }) ∧
  (∀ (s : State) (r : Req), s.mayRead r R.IPP_SAEVT →
    (s.ipp.saevt = [] → exec (.saevtRead r) s = .next { s with busOut := 0 }) ∧
    ∀ e l, s.ipp.saevt = e :: l → ∃ t, exec (.saevtRead r) s = .next t ∧ t.busOut = e.setWidth 64 ∧ t.ipp.saevt = l ∧
      SameRegsBut eventRegs s t ∧ SameMemory s t)

/-- O36. The PTP time base and its lock. A permitted write of IPP_PTP_CTL that leaves LOCK_SET as it is: SNAP stores
the seconds and nanoseconds of the time base in its registers, and STEP adds IPP_PTP_STEP to the time base. Cupola
firmware that changes LOCK_SET sets PTP_LOCKED to it, and PTP_HOLDOVER when lock is lost and HOLDOVER_S is not 0; from
another requester the change is refused and the register unchanged. HOLDOVER_S seconds after the loss both are 0. -/
def Obligations.TimeBase : Prop :=
  ∀ (s : State) (r : Req),
    (∀ v : Word, s.mayWrite r R.IPP_PTP_CTL → v.getLsbD 2 = s.on F.IPP_PTP_CTL_LOCK_SET →
      (v.getLsbD 1 = false → ∃ t, exec (.ptpSnap r v) s = .next t ∧
        t.get F.IPP_PTP_SEC_HI_SECONDS = s.ipp.ptpNs / 1000000000 / 2 ^ 32 % 2 ^ 16 ∧
        (t.rd R.IPP_PTP_SEC_LO).toNat = s.ipp.ptpNs / 1000000000 % 2 ^ 32 ∧
        t.get F.IPP_PTP_NS_NS = s.ipp.ptpNs % 1000000000 ∧
        SameRegsBut [R.IPP_PTP_SEC_HI, R.IPP_PTP_SEC_LO, R.IPP_PTP_NS] s t ∧ OnlyRegs s t) ∧
      (v.getLsbD 0 = false → ∃ t, exec (.ptpStep r v) s = .next t ∧
        t.ipp = { s.ipp with ptpNs := ((s.ipp.ptpNs : Int) + (s.rd R.IPP_PTP_STEP).toInt).toNat } ∧
        SameRegsBut [] s t ∧ t = { s with regs := t.regs, ipp := t.ipp })) ∧
    (∀ b, s.mayWrite r R.IPP_PTP_CTL → s.on F.IPP_PTP_CTL_LOCK_SET = !b →
      (r = .cupola → ∃ t, exec (.lockSet r b) s = .next t ∧ t.on F.IPP_PTP_CTL_LOCK_SET = b ∧
        t.on F.IPP_STAT_PTP_LOCKED = b ∧ t.on F.IPP_STAT_PTP_HOLDOVER = (!b && s.get F.IPP_FRESH_HOLDOVER_S != 0) ∧
        t.ipp.lockLost = (if b then none else some s.time) ∧
        SameRegsBut (R.IPP_PTP_CTL :: R.IPP_STAT :: eventRegs) s t ∧ SameMemory s t) ∧
      (r ≠ .cupola → ∃ t, exec (.lockSet r b) s = .next t ∧ t.rd R.IPP_PTP_CTL = s.rd R.IPP_PTP_CTL ∧
        t.rd R.IPP_STAT = s.rd R.IPP_STAT ∧ t.ipp = s.ipp)) ∧
    (∀ l, s.ipp.lockLost = some l → s.on F.IPP_STAT_PTP_HOLDOVER = true →
      l + s.get F.IPP_FRESH_HOLDOVER_S * 1000000000 ≤ s.time → ∃ t, exec .holdoverExpiry s = .next t ∧
        t.on F.IPP_STAT_PTP_LOCKED = false ∧ t.on F.IPP_STAT_PTP_HOLDOVER = false ∧
        SameRegsBut (R.IPP_STAT :: eventRegs) s t ∧ SameMemory s t)

/-- O37. Rotation of the memory key, zero fill, scrub and stack temperatures. ROTATE by Cupola firmware empties every
context and both flow sections and raises the key generation by one; with RNG RUNNING a new key stands and NO_KEY is
0, else there is none and NO_KEY is 1. The fill that completes clears FILLING. A scrub pass, with SCRUB_EN = 1 and CTS
open, counts every line; a corrected error is counted and reported with KIND 0x01 by its stack, an uncorrectable one
with KIND 0x02. A sample of the stacks stands in CTS_TEMP. -/
def Obligations.MemoryKeyRotation : Prop :=
  (∀ (s : State) (v : Word), s.mayWrite .cupola R.CTS_CTL → v.getLsbD 2 = false → v.getLsbD 8 = false →
    ∃ t, exec (.rotate .cupola v) s = .next t ∧ t.cts.ctxs = [] ∧ t.cts.flows = [] ∧ t.cts.pinFlows = [] ∧ t.mpe.poison = [] ∧
      t.mpe.fillDone = false ∧ t.get F.CTS_KEY_GEN_GEN = (s.get F.CTS_KEY_GEN_GEN + 1) % 2 ^ 16 ∧
      t.mpe.key.isSome = decide (s.rngState = rngRunning) ∧ t.on F.CTS_STAT_NO_KEY = decide (s.rngState ≠ rngRunning) ∧
      t.on F.CTS_CTL_SCRUB_EN = v.getLsbD 1) ∧
  (∀ s : State, s.mpe.key.isSome = true → s.mpe.fillDone = false → ∃ t, exec .fillComplete s = .next t ∧
    t.mpe = { s.mpe with fillDone := true, filled := [] } ∧ t.on F.CTS_STAT_FILLING = false ∧ SameRegsBut [R.CTS_STAT] s t ∧
    t = { s with mpe := t.mpe, regs := t.regs }) ∧
  (∀ s : State, s.on F.CTS_CTL_SCRUB_EN = true → s.ctsOpen = true → ∀ n, n = s.cntGet (R.CTS_CNT 6) + 36 * 2 ^ 26 →
    (∃ t, exec (.scrubPass .clean) s = .next t ∧ t.cntGet (R.CTS_CNT 6) = min n (cntMax (R.CTS_CNT 6)) ∧ OnlyCounters s t) ∧
    ∀ a : BitVec 37, (∃ t, exec (.scrubPass (.corrected a)) s = .next t ∧
      t.cntGet (R.CTS_CNT 6) = min n (cntMax (R.CTS_CNT 6)) ∧
      t.cntGet (R.CTS_CNT 7) = min (s.cntGet (R.CTS_CNT 7) + 1) (cntMax (R.CTS_CNT 7)) ∧ t.fcr.transit = s.fcr.transit ++
        [faultMsg (stackSource a.toNat) 0x01 0 (sget (fun _ => 0) s.fcr.seqTx (stackSource a.toNat)) a.toNat] ∧ t.mpe = s.mpe) ∧
    ∃ t, exec (.scrubPass (.uncorrectable a)) s = .next t ∧ t.cntGet (R.CTS_CNT 6) = min n (cntMax (R.CTS_CNT 6)) ∧
      t.fcr.transit = s.fcr.transit ++
        [faultMsg (stackSource a.toNat) 0x02 0 (sget (fun _ => 0) s.fcr.seqTx (stackSource a.toNat)) a.toNat] ∧ t.mpe = s.mpe) ∧
  (∀ (s : State) (x : Temps4), s.power.coreUp = true → ∃ t, exec (.stackTempSample x) s = .next t ∧
    t.rd R.CTS_TEMP = x.t3 ++ x.t2 ++ x.t1 ++ x.t0 ∧ SameRegsBut [R.CTS_TEMP] s t ∧
    t = { s with regs := t.regs, mpe := t.mpe, fcr := t.fcr })

/-- O38. Promotion, the timed switch, the drain end and the relink scan. A GROUP context whose NEXT_VALID_FROM has
come takes the next key and its period and zeroes the next fields. A STANDBY successor with SWITCH 01 whose SWITCH_AT
has come becomes ACTIVE and its predecessor DRAINING, to end DRAIN_MS later. A context at its drain end becomes
FORWARD with its keys zeroed. RELINK_NOW starts a scan over the FORWARD contexts, or lets the one that runs be
followed by another. A scan that ends leaves the contexts it served EMPTY and clears RELINK_BUSY. Contexts outside the
rollover keep their bytes. -/
def Obligations.RolloverSteps : Prop :=
  (∀ (s : State) (c : Fin 0x110000) (x : List Byte), x = s.ctx c → x.length = 512 →
    (s.promotionDue x = true → ∃ t, exec (.promotion c) s = .next t ∧ slice (t.ctx c) 64 32 = slice x 176 32 ∧
      leAt (t.ctx c) 144 8 = leAt x 160 8 ∧ leAt (t.ctx c) 152 8 = leAt x 168 8 ∧ leAt (t.ctx c) 160 8 = 0 ∧
      slice (t.ctx c) 176 32 = zeros 32 ∧ (∀ d, d ≠ c.val → t.ctx d = s.ctx d) ∧ SameMemory s t) ∧
    (∀ p, s.waitingPair c = some p → s.switchOf c = 1 → cSwitchAt x ≤ s.time → (s.ctx p).length = 512 → p ≠ c.val →
      ∃ t, exec (.switchAtReached c) s = .next t ∧ cState (t.ctx c) = csActive ∧ cState (t.ctx p) = csDraining ∧
        t.drainEndOf p = s.time + s.drainMs (s.ctx p) * 1000000 ∧ (∀ d, d ≠ c.val → d ≠ p → t.ctx d = s.ctx d) ∧ SameMemory s t) ∧
    (cState x = csDraining → s.drainEndOf c ≤ s.time → ∃ t, exec (.drainEnd c) s = .next t ∧
      cState (t.ctx c) = csForward ∧ slice (t.ctx c) 64 384 = zeros 384 ∧ SameMemory s t)) ∧
  (∀ (s : State) (r : Req) (v : Word), s.mayWrite r R.CTS_CTL → v.getLsbD 0 = false → v.getLsbD 8 = false →
    ∃ t, exec (.relinkNow r v) s = .next t ∧ t.on F.CTS_CTL_RELINK_NOW = true ∧ t.on F.CTS_CTL_SCRUB_EN = v.getLsbD 1 ∧
      (s.cts.scan = none → t.cts = { s.cts with scan := some s.forwards } ∧ t.on F.CTS_STAT_RELINK_BUSY = true) ∧
      (s.cts.scan ≠ none → t.cts = { s.cts with scanAgain := true }) ∧ SameRegsBut [R.CTS_CTL, R.CTS_STAT] s t ∧
      t = { s with regs := t.regs, cts := t.cts }) ∧
  (∀ (s : State) (c : Nat), s.cts.scan = some [c] → s.cts.scanAgain = false → cState (s.ctx c) = csForward →
    ∃ t, exec .relinkScanEnd s = .next t ∧ cState (t.ctx c) = csEmpty ∧ t.cts.scan = none ∧
      t.on F.CTS_STAT_RELINK_BUSY = false ∧ t.on F.CTS_CTL_RELINK_NOW = false ∧ (∀ d, d ≠ c → t.ctx d = s.ctx d) ∧
      SameMemory s t)

/-- O39. Start-up, health tests and isolation of the noise sources. Start-up tests that every source passes make all
eight LIVE and RNG SEEDING; a failed SHAKE or DRBG self-test makes it FAILED with FAIL_CAUSE 3 or 4. The first seed of
a device in service makes it RUNNING, raises event 192 and lets every job that waits for randomness go on. A failed
continuous test isolates its source, counted; where fewer than MIN stay live RNG becomes FAILED with cause 2. A fresh
test that passes makes an isolated source LIVE again; one that fails marks it. RESTART leaves FAILED for STARTUP at
most three times, and else sets RESTART_REJECT. -/
def Obligations.NoiseSources : Prop :=
  (∀ s : State, s.rngState = rngStartup → s.get F.RNG_SRC_STAT_PERMANENT = 0 → s.get F.RNG_MIN_SRC_MIN ≤ 8 →
    (∃ t, exec (.startupTestEnd 0 0 0 true true) s = .next t ∧ t.get F.RNG_SRC_STAT_LIVE = 0xFF ∧
      t.get F.RNG_SRC_STAT_ISOLATED = 0 ∧ t.get F.RNG_SRC_STAT_STARTUP_FAIL = 0 ∧ t.rngState = rngSeeding ∧
      SameRegsBut [R.RNG_STAT, R.RNG_SRC_STAT] s t ∧ OnlyRegs s t) ∧
    ∀ d, s.jobIds (fun j => j.wait == .rng && j.phase != .done) = [] →
      ∃ t, exec (.startupTestEnd 0 0 0 (!d) d) s = .next t ∧ t.rngState = rngFailed ∧
        t.get F.RNG_STAT_FAIL_CAUSE = (if d then 3 else 4) ∧
        t.fcr.transit = s.fcr.transit ++ [faultMsg 0x104 0x12 0 (sget (fun _ => 0) s.fcr.seqTx 0x104) 0]) ∧
  (∀ s : State, s.alive = true → s.rngState = rngSeeding → s.mpe.key.isSome = true → s.on F.KEEP_BBK_CTL_GEN = false →
    7 ≤ s.milestone → ∃ t, exec .firstSeed s = .next t ∧ t.rngState = rngRunning ∧ t.on (evcBit (R.EVC_PEND 0) 192) = true ∧
      (∀ j ∈ t.jqm.jobs, j.wait ≠ .rng) ∧ SameMemory s t) ∧
  (∀ (s : State) (n : Fin 8) (c : NsuCause), s.rngState = rngRunning ∨ s.rngState = rngSeeding →
    bit (s.get F.RNG_SRC_STAT_LIVE) n = true → ∀ l, l = maskSet (s.get F.RNG_SRC_STAT_LIVE) n false →
    ∃ t, exec (.healthTestFail n c) s = .next t ∧ t.get F.RNG_SRC_STAT_LIVE = l ∧
      bit (t.get F.RNG_SRC_STAT_ISOLATED) n = true ∧
      t.cntGet (R.RNG_CNT 4) = min (s.cntGet (R.RNG_CNT 4) + 1) (cntMax (R.RNG_CNT 4)) ∧
      (s.get F.RNG_MIN_SRC_MIN ≤ popCount8 l → t.rngState = s.rngState ∧ SameMemory s t) ∧
      (popCount8 l < s.get F.RNG_MIN_SRC_MIN → t.rngState = rngFailed ∧ t.get F.RNG_STAT_FAIL_CAUSE = 2)) ∧
  (∀ (s : State) (n : Fin 8) (ok : Bool), s.rngState = rngRunning → bit (s.get F.RNG_SRC_STAT_ISOLATED) n = true →
    bit (s.get F.RNG_SRC_STAT_PERMANENT) n = false → s.on F.RNG_RAWSEL_EN = false → sget (fun _ => []) s.rng.isoTimes n = [] →
    ∃ t, exec (.sourceRetest n ok) s = .next t ∧ bit (t.get F.RNG_SRC_STAT_STARTUP_FAIL) n = !ok ∧
      bit (t.get F.RNG_SRC_STAT_ISOLATED) n = !ok ∧
      bit (t.get F.RNG_SRC_STAT_LIVE) n = (ok || bit (s.get F.RNG_SRC_STAT_LIVE) n) ∧
      SameRegsBut (R.RNG_SRC_STAT :: eventRegs) s t ∧ SameMemory s t) ∧
  (∀ (s : State) (r : Req), s.mayWrite r R.RNG_CTL →
    (s.rngState = rngFailed → s.get F.RNG_STAT_RESTARTS < 3 → r = .cupola ∨ r = .pf →
      ∃ t, exec (.rngRestart r 0) s = .next t ∧ t.rngState = rngStartup ∧
        t.get F.RNG_STAT_RESTARTS = s.get F.RNG_STAT_RESTARTS + 1 ∧ t.get F.RNG_SRC_STAT_LIVE = 0 ∧
        SameRegsBut [R.RNG_STAT, R.RNG_SRC_STAT] s t ∧ SameMemory s t) ∧
    (s.rngState ≠ rngFailed → ∃ t, exec (.rngRestart r 0) s = .next t ∧ t.on F.RNG_STAT_RESTART_REJECT = true ∧
      t.rngState = s.rngState ∧ SameRegsBut [R.RNG_STAT] s t ∧ OnlyRegs s t))

/-- O40. Seeds, reseeding, and the reads of random bytes. RUNNING with fewer than 16 seeds, a new seed is kept and
counted. An instance that is due takes the oldest seed and starts its requests anew. A permitted read of RNG_DATA by
PF, SVC or Cupola takes the first 4 or 8 bytes of that reader's buffer while VALID, and else returns 0 and is counted
with the reader's EMPTY_READ. RNG_RAW reads 0 without raw access. RNG_RAWSEL with EN = 0 ends raw access and stores
SOURCE; with EN = 1 it needs life-cycle state 1 or 4 and enough other sources, or sets CFG_REJECT. RNG_MIN_SRC takes 4
to 8 while as many are live. -/
def Obligations.SeedsAndRandomBytes : Prop :=
  (∀ s : State, s.rngState = rngRunning → s.rng.reservoir.length < 16 → ∃ t b, exec .seedProduced s = .next t ∧
    t.rng = { s.rng with reservoir := s.rng.reservoir ++ [b] } ∧ b.length = 48 ∧
    t.cntGet (R.RNG_CNT 0) = min (s.cntGet (R.RNG_CNT 0) + 1) (cntMax (R.RNG_CNT 0)) ∧ SameMemory s t) ∧
  (∀ (s : State) (d : Fin 16) (b : List Byte) (l : List (List Byte)), s.rngState = rngRunning → (s.drbg d).inst = true →
    s.reseedDue d = true → s.rng.reservoir = b :: l → ∃ t, exec (.reseed d) s = .next t ∧ t.rng.reservoir = l ∧
      t.drbg d = ⟨true, 0, s.time, true⟩ ∧ (∀ i, i ≠ d.val → t.drbg i = s.drbg i) ∧
      t.cntGet (R.RNG_CNT 1) = min (s.cntGet (R.RNG_CNT 1) + 1) (cntMax (R.RNG_CNT 1)) ∧ SameMemory s t) ∧
  (∀ (s : State) (r : Req) (i n : Nat) (wide : Bool), s.mayRead r R.RNG_DATA → rngReader r = some i →
    n = (if wide then 8 else 4) →
    (s.rngValid r = true → n + 8 ≤ (s.rngBuf i).length → ∃ t, exec (.rngDataRead r wide) s = .next t ∧
      t.busOut.toNat = leNat ((s.rngBuf i).take n) ∧ t.rngBuf i = (s.rngBuf i).drop n ∧
      (∀ k, k ≠ i → t.rngBuf k = s.rngBuf k) ∧ t = { s with busOut := t.busOut, rng := t.rng }) ∧
    (s.rngValid r = false → ∃ t, exec (.rngDataRead r wide) s = .next t ∧ t.busOut = 0 ∧ t.rng.emptyRead.contains i = true ∧
      t.rng.bufs = s.rng.bufs ∧ t.cntGet (R.RNG_CNT 5) = min (s.cntGet (R.RNG_CNT 5) + 1) (cntMax (R.RNG_CNT 5)))) ∧
  (∀ (s : State) (r : Req), s.mayRead r R.RNG_RAW → ∃ t, exec (.rngRawRead r) s = .next t ∧
    (s.on F.RNG_RAWSEL_EN = false → t = { s with busOut := 0 }) ∧ t.busOut.toNat < 2 ^ 32 ∧
    t = { s with busOut := t.busOut, free := t.free }) ∧
  (∀ (s : State) (r : Req) (v : Word) (n : Nat), s.mayWrite r R.RNG_RAWSEL → s.locked R.RNG_RAWSEL = false →
    n = bits v.toNat 0 3 →
    (v.getLsbD 31 = false → ∃ t, exec (.rngRawsel r v) s = .next t ∧ t.on F.RNG_RAWSEL_EN = false ∧
      t.get F.RNG_RAWSEL_SOURCE = n ∧ SameRegsBut [R.RNG_RAWSEL] s t ∧ OnlyRegs s t) ∧
    (v.getLsbD 31 = true → s.get F.LCS_STATE_STATE ≠ 1 → s.get F.LCS_STATE_STATE ≠ 4 →
      exec (.rngRawsel r v) s = .next (s.set F.RNG_STAT_CFG_REJECT)) ∧
    (v.getLsbD 31 = true → s.get F.LCS_STATE_STATE = 1 ∨ s.get F.LCS_STATE_STATE = 4 → s.on F.RNG_RAWSEL_EN = false →
      s.get F.RNG_MIN_SRC_MIN ≤ popCount8 (maskSet (s.get F.RNG_SRC_STAT_LIVE) n false) →
      ∃ t, exec (.rngRawsel r v) s = .next t ∧ t.on F.RNG_RAWSEL_EN = true ∧ t.get F.RNG_RAWSEL_SOURCE = n ∧
        t.get F.RNG_SRC_STAT_LIVE = maskSet (s.get F.RNG_SRC_STAT_LIVE) n false ∧
        SameRegsBut (R.RNG_RAWSEL :: R.RNG_SRC_STAT :: R.RNG_SRC_CAUSE :: R.RNG_SAT :: eventRegs) s t ∧ SameMemory s t)) ∧
  (∀ (s : State) (r : Req) (v : Word) (n : Nat), s.mayWrite r R.RNG_MIN_SRC → n = bits v.toNat 0 4 →
    (s.locked R.RNG_MIN_SRC = true ∨ n < 4 ∨ 8 < n → exec (.rngMinSrcWrite r v) s = .next s) ∧
    (s.locked R.RNG_MIN_SRC = false → 4 ≤ n → n ≤ 8 → s.rngLive < n →
      exec (.rngMinSrcWrite r v) s = .next (s.set F.RNG_STAT_CFG_REJECT)) ∧
    (s.locked R.RNG_MIN_SRC = false → 4 ≤ n → n ≤ 8 → n ≤ s.rngLive →
      exec (.rngMinSrcWrite r v) s = .next (s.put F.RNG_MIN_SRC_MIN n)))

/-- O41. The mailbox commands of SVC. A command of SERVICE 1 that waits in a window and that SVC cannot serve now is
answered BUSY. STATUS returns SVC's counts, PEER_LIST a page of peers. PEER_UP, PEER_DOWN and REKEY of an unknown peer
answer NOT_FOUND. PEER_UP of an active peer without IKE SA starts one and sends its first request; PEER_DOWN of a peer
with one half-open IKE SA deletes it; REKEY asks the peer for the rekey of its child SA. GROUP_REKEY of a GROUP_ID of
a KDC pushes a new key. SVC's heartbeat notes its time, and 1 s without it resets SVC. -/
def Obligations.ServiceMailbox : Prop :=
  (∀ (s : State) (w : MbxWin) (p : List Byte),
    (∀ c ∈ [(Instr.svcStatus w, 1), (.peerUp w, 2), (.peerDown w, 3), (.svcRekey w, 4), (.groupRekey w, 5), (.peerList w, 6)],
      s.serves w 1 c.2 p → s.svcActs = false →
        ∃ t, exec c.1 s = .next t ∧ Answered w mbBusy 0 [] s t ∧ t.svc = s.svc ∧ SameMemory s t) ∧
    (s.svcActs = true →
      (s.serves w 1 1 p → ∃ t, exec (.svcStatus w) s = .next t ∧ Answered w mbOk 0 s.svcStatusBytes s t ∧ t.svc = s.svc ∧
        SameMemory s t) ∧
      (s.serves w 1 6 p → ∃ t, exec (.peerList w) s = .next t ∧ Answered w mbOk 0 (s.peerPage (leAt p 0 2)) s t ∧
        t.svc = s.svc ∧ SameMemory s t) ∧
      (∀ c ∈ [(Instr.peerUp w, 2), (.peerDown w, 3), (.svcRekey w, 4)], s.serves w 1 c.2 p →
        peerOf s.cfgRecs (leAt p 0 2) = none →
        ∃ t, exec c.1 s = .next t ∧ Answered w mbNotFound 0 [] s t ∧ t.svc = s.svc ∧ SameMemory s t) ∧
      (∀ i, i = leAt p 0 2 → (peerOf s.cfgRecs i).isSome = true →
        (s.serves w 1 2 p → s.hasIke i = false → s.peerActive i = true → s.svc.ikes.length < 65536 →
          ∃ t, exec (.peerUp w) s = .next t ∧ Answered w mbOk 0 [] s t ∧ SameMemory s t ∧
            t.svc = { s.svc with
              ikes := s.svc.ikes ++ [⟨s.svc.nextId, i, true, .initiated, [], s.time⟩]
              nextId := s.svc.nextId + 1
              sent := s.svc.sent ++ [(i, .initReq)] }) ∧
        (∀ k, s.serves w 1 3 p → s.svc.ikes.filter (fun k => k.peer == i) = [k] → s.childsOf k.id = [] → k.ctxs = [] →
          ∃ t, exec (.peerDown w) s = .next t ∧ Answered w mbOk 0 [] s t ∧ t.hasIke i = false ∧
            t.svc.sent = s.svc.sent ++ [(i, .deleteIke)] ∧ t.svc.childs = s.svc.childs ∧ SameMemory s t) ∧
        (∀ k, s.serves w 1 4 p → s.svc.childs.filter (fun k => s.peerOfChild k == i) = [k] → k.succ = none →
          k.initiated = false → k.deleting = false → s.child? k.id = some k →
          ∃ t, exec (.svcRekey w) s = .next t ∧ Answered w mbOk 0 [] s t ∧ t.child? k.id = some { k with initiated := true } ∧
            t.svc.sent = s.svc.sent ++ [(i, .rekeyReq k.id)] ∧ SameMemory s t)) ∧
      (s.serves w 1 5 p →
        (s.groupOfId (leAt p 0 4) = none → ∃ t, exec (.groupRekey w) s = .next t ∧ Answered w mbNotFound 0 [] s t ∧
          t.svc = s.svc ∧ SameMemory s t) ∧
        ∀ g, s.groupOfId (leAt p 0 4) = some g → gKdc (s.groupRec g) = true → bit (byteAt (s.groupRec g) 6) 1 = true →
          (s.updTouch w).pushes g → ∃ t, exec (.groupRekey w) s = .next t ∧
            (t.groupSt g).seq = (s.groupSt g).seq + 1 ∧ t.svc.sent = s.svc.sent ++ [(g, .push)]))) ∧
  (∀ (s : State) (v : Word), s.mayWrite .svc R.CUP_SVC_HB →
    exec (.svcHb v) s = .next { s with svc := { s.svc with hbAt := s.time } }) ∧
  (∀ s : State, s.power.svcUp = true → s.power.cupUp = true → s.lcs.cupHalted = false → s.svc.hbAt + 1000000000 ≤ s.time →
    s.inReset 12 = false → ∃ t, exec .svcHeartbeatTimeout s = .next t ∧ t.power.svcUp = false ∧ t.inReset 12 = true ∧
      t.svc.ikes = [] ∧ t.svc.childs = [] ∧ SameMemory s t)

/-- O42. IKEv2 and GDOI in SVC: messages, timers, pushes and registrations. While SVC acts. An IKE_SA_INIT request
that fits no proposal is refused; one that fits, with contexts to be had, makes an IKE SA. An INFORMATIONAL is
answered; a Delete of an IKE SA without child SAs removes it. A child SA that is due asks for its rekey; a STANDBY
transmit successor whose switch is due becomes ACTIVE and its predecessor DRAINING; a child SA at its hard lifetime
whose contexts are EMPTY is gone and its peer told. A liveness check is sent. The rekey of an IKE SA that is due is
asked for. A KDC registers a member of its ACL and pushes keys that are due, and a member whose key has expired
registers anew. -/
def Obligations.KeyExchangeMessages : Prop :=
  ∀ s : State, s.svcActs = true →
    (∀ (m : IkeMsg) (i : Nat), m.peer.toNat = i → (s.peerPolicy i).isEmpty = false →
      (∀ fits ke ck, m.kind = .initReq fits ke ck → s.halfOpen < 4096 → s.handshakes < 2048 → s.svc.ikes.length < 65536 →
        (fits = false → ∃ t, exec (.ikeMessage m) s = .next t ∧ t.svc.sent = s.svc.sent ++ [(i, .noProposal)] ∧
          t.svc.ikes = s.svc.ikes ∧ SameMemory s t) ∧
        (∀ cs, fits = true → s.peerActive i = true → (pPqRequired (s.peerPolicy i) = true → ke = true) →
          (s.svcTake.handshake (s.peerPolicy i)).2 = some cs → ∃ t n, exec (.ikeMessage m) s = .next t ∧
            t.svc.sent = s.svc.sent ++ [(i, .initResp)] ∧ t.svc.ikes = s.svc.ikes ++ [⟨n, i, false, .inter, cs, s.time⟩])) ∧
      (∀ k, s.ike? m.ike = some k → k.peer = i →
        (m.kind = .info → exec (.ikeMessage m) s = .next { s with
          svc := { s.svc with sent := s.svc.sent ++ [(i, .infoResp)] }
          ipp := { s.ipp with svcRx := s.ipp.svcRx.drop 1 } }) ∧
        (m.kind = .deleteIke → s.childsOf k.id = [] → k.ctxs = [] → ∃ t, exec (.ikeMessage m) s = .next t ∧
          t.ike? k.id = none ∧ t.svc.sent = s.svc.sent ++ [(i, .infoResp)] ∧ t.svc.childs = s.svc.childs ∧ SameMemory s t))) ∧
    (∀ (n : Nat) (k : ChildSa), s.child? n = some k → ∀ p, p = s.peerPolicy (s.peerOfChild k) →
      (k.succ = none → k.initiated = false → k.deleting = false → softAt p k.born (leAt p 12 4) ≤ s.time →
        ∃ t, exec (.childRekey n) s = .next t ∧ t.child? n = some { k with initiated := true } ∧
          t.svc.sent = s.svc.sent ++ [(s.peerOfChild k, .rekeyReq n)] ∧ t = { s with svc := t.svc }) ∧
      (∀ a b x, k.succ = some (a, b) → s.switchDue k (a, b) = true → s.waitingPair b = some k.tx → b ≠ k.tx → s.switchOf b = 3 →
        x = s.ctx b → x.length = 512 → (s.ctx k.tx).length = 512 → cState x = csStandby → cType x = ctMacsecTx →
        bodyBad b x = false → allZero (slice x 48 16) = true → s.ctxReach b = true → s.jobsOk →
        ∃ t, exec (.switchMsExpiry n) s = .next t ∧ cState (t.ctx b) = csActive ∧ cState (t.ctx k.tx) = csDraining ∧
          SameMemory s t) ∧
      (k.succ = none → k.born + leAt p 12 4 * 1000000000 ≤ s.time → cState (s.ctx k.rx) = csEmpty → cState (s.ctx k.tx) = csEmpty →
        ∃ t, exec (.hardLifetime n) s = .next t ∧ t.child? n = none ∧
          t.svc.sent = s.svc.sent ++ [(s.peerOfChild k, .deleteChild n)] ∧ SameMemory s t)) ∧
    (∀ (n : Nat) (k : IkeSa), s.ike? n = some k → k.st = .up →
      (leAt (s.peerPolicy k.peer) 18 2 ≠ 0 → exec (.ikeDpd n true) s = .next (s.svcSay k.peer .liveness)) ∧
      (softAt (s.peerPolicy k.peer) k.born (leAt (s.peerPolicy k.peer) 8 4) ≤ s.time →
        exec (.ikeSaRekey n) s = .next (s.svcSay k.peer .ikeRekeyReq))) ∧
    (∀ (id : Word) (d : List Byte) (g : Nat), s.groupOfId id.toNat = some g → gKdc (s.groupRec g) = true →
      ((s.groupAcl id.toNat).contains d = false → ∃ t, exec (.gdoiMessage (.register id d)) s = .next t ∧
        t.svc = { s.svc with sent := s.svc.sent ++ [(g, .authFailed)] }) ∧
      ((s.groupAcl id.toNat).contains d = true → (s.groupSt g).members.contains d = false → s.registrations < 65536 →
        ∃ t, exec (.gdoiMessage (.register id d)) s = .next t ∧ (t.groupSt g).members = (s.groupSt g).members ++ [d] ∧
          t.svc.sent = s.svc.sent ++ [(g, .registration)])) ∧
    (∀ g : BitVec 16, s.groupActive g.toNat = true →
      (gKdc (s.groupRec g.toNat) = true → bit (byteAt (s.groupRec g.toNat) 6) 1 = true → s.pushDue (s.groupRec g.toNat) = true →
        s.pushes g.toNat → ∃ t, exec (.groupkeyPush g) s = .next t ∧
          (t.groupSt g.toNat).seq = (s.groupSt g.toNat).seq + 1 ∧ t.svc.sent = s.svc.sent ++ [(g.toNat, .push)]) ∧
      (gMember (s.groupRec g.toNat) = true → s.joinDue (s.groupRec g.toNat) = true →
        ∃ t, exec (.groupReregister g) s = .next t ∧ (t.groupSt g.toNat).registered = false ∧
          t.svc.sent = s.svc.sent ++ [(g.toNat, .gsaAuth)] ∧ t = { s with svc := t.svc }))

/-- O43. Blobs, the battery-backed key, ERASE_ALL and stateful events. With no load running: a blob in Cupola's SRAM
that passes its checks and opens, of a key without leaf state, fills the slot that KEEP_BL_CMD names; KEEP_BL_RES is
0, KEEP_BL_HANDLE the new handle, START 0. GEN of KEEP_BBK_CTL with RNG RUNNING, in a life-cycle state other than
BLANK, SCRAP and INVALID, makes a new key valid, raises its generation by one, empties every journal cell and clears
BBK_LOST. ERASE_ALL leaves every slot EMPTY. A read of KEEP_SFEVT returns and takes the oldest event, or 0. -/
def Obligations.KeepCommands : Prop :=
  (∀ (s : State) (r : Req) (v : Word) (b : List Byte) (y : Slot) (i : Nat), s.mayWrite r R.KEEP_BL_CMD →
    s.on ⟨R.KEEP_BL_CMD, 31, 1⟩ = false → s.blobFits = true →
    b = memRead s.cupMem (s.rd R.KEEP_BL_ADDR).toNat (s.rd R.KEEP_BL_LEN).toNat → s.keep.bbkValid = true →
    s.blobErr b none = none → s.openBlob b = some y → y.leaf = none →
    s.findTarget (if v.getLsbD 14 then none32 else bits v.toNat 0 14) y.keyLen false = some i →
    ∃ t, exec (.blobLoad r v) s = .next t ∧ (t.slot i).st = .live ∧ (t.slot i).key = y.key ∧ (t.slot i).gen = (s.slot i).gen ∧
      (∀ k, k ≠ i → t.slot k = s.slot k) ∧ t.rd R.KEEP_BL_RES = 0 ∧
      t.rd R.KEEP_BL_HANDLE = BitVec.ofNat 32 (s.handleOf i) ∧ t.on ⟨R.KEEP_BL_CMD, 31, 1⟩ = false ∧ SameMemory s t) ∧
  (∀ (s : State) (r : Req), s.mayWrite r R.KEEP_BBK_CTL → s.rngState = rngRunning → s.get F.LCS_STATE_STATE ≠ 0 →
    s.get F.LCS_STATE_STATE ≠ 5 → s.get F.LCS_STATE_STATE ≠ 15 → ∃ t, exec (.bbkGen r 0) s = .next t ∧
      t.keep.bbkValid = true ∧ t.keep.bbk.length = 32 ∧ t.keep.bbkGen = (s.keep.bbkGen + 1) % 2 ^ 32 ∧ t.keep.cells = [] ∧
      t.keep.slots = s.keep.slots ∧ t.on F.KEEP_STAT_BBK_LOST = false ∧ t.on F.KEEP_STAT_BBK_VALID = true ∧
      t.rd R.KEEP_BBK_GEN = BitVec.ofNat 32 t.keep.bbkGen ∧ SameMemory s t) ∧
  (∀ (s : State) (r : Req), s.mayWrite r R.KEEP_CTL → ∃ t, exec (.eraseAll r 0 0) s = .next t ∧
    (∀ i, (t.slot i).st = .empty) ∧ (∀ i, (s.slot i).st ≠ .empty → (t.slot i).key = []) ∧
    t.keep.bbk = s.keep.bbk ∧ t.keep.cells = s.keep.cells ∧ SameMemory s t) ∧
  (∀ (s : State) (r : Req), s.mayRead r R.KEEP_SFEVT →
    (s.keep.sfevt = [] → exec (.sfevtRead r) s = .next { s with busOut := 0 }) ∧
    ∀ e l, s.keep.sfevt = e :: l → ∃ t, exec (.sfevtRead r) s = .next t ∧ t.busOut = e.setWidth 64 ∧
      t.keep = { s.keep with sfevt := l } ∧ SameRegsBut eventRegs s t ∧ SameMemory s t)

/-- O44. Taking, releasing, starting, aborting and clearing a DKE channel. By a permitted write. TAKE of a FREE
channel below MAX_LOCKS makes it OWNED by PF, SVC or Cupola, or waits for a queue job that runs on it. RELEASE by the
holder and FORCE by Cupola firmware make a held channel FREE with an empty lane. START that R421 accepts enters KEYING
or ABSORB, else sets CTL_REJECT. ABORT in a message waits for a block boundary, at which the channel is OWNED again
with BYTES 0; a queue job there gives way to a TAKE that waits. CLEAR in DONE or ERROR makes the channel OWNED, with
result, expected value, comparison and error zero. -/
def Obligations.DigestChannelControl : Prop :=
  ∀ (s : State) (r : Req) (c : Fin 4) (x : DkeCh), x = s.dkeCh c →
    (s.mayWrite r (R.DKE_CH_LOCK c) →
      (dkeHolder r ≠ 0 → x.holder = 0 → x.takePend = 0 → s.dkeHeld < s.get F.DKE_CFG_MAX_LOCKS →
        exec (.dkeTake r c) s = .next (if (s.running (0x60 + c)).isSome then s.putDke c { x with takePend := dkeHolder r }
          else s.putDke c { x with holder := dkeHolder r, st := .owned })) ∧
      (∀ k ∈ [Instr.dkeRelease r c, .dkeForce r c], x.holder ≠ 0 → (k = .dkeRelease r c → x.holder = dkeHolder r) →
        (k = .dkeForce r c → r = .cupola) → ∃ t, exec k s = .next t ∧
          t.dkeCh c = { DkeCh.idle with takePend := x.takePend } ∧ (∀ d, d ≠ c.val → t.dkeCh d = s.dkeCh d) ∧
          t.cntGet (R.SFI_CNT c 2) = min (s.cntGet (R.SFI_CNT c 2) + x.packets.length) (cntMax (R.SFI_CNT c 2)) ∧
          t = { s with dke := t.dke, regs := t.regs, cnt := t.cnt, cntCopy := t.cntCopy })) ∧
    (s.mayWrite r (R.DKE_CTL c) →
      (s.dkeStartOk c = true → exec (.dkeStart r c) s = .next (s.putDke c { x with
        st := if dkeKeyed (s.get (F.DKE_MODE_FUNC c)) then .keying else .absorb, msg := [], key := [] })) ∧
      (s.dkeStartOk c = false → exec (.dkeStart r c) s = .next (s.set (F.DKE_STAT_CTL_REJECT c))) ∧
      (x.inMessage = true → exec (.dkeAbort r c) s = .next (s.putDke c { x with abortPend := true })) ∧
      (x.st = .done ∨ x.st = .error → ∃ t, exec (.dkeClear r c) s = .next t ∧
        t.dkeCh c = { x with st := .owned, msg := [], key := [] } ∧ (∀ d, d ≠ c.val → t.dkeCh d = s.dkeCh d) ∧
        (∀ i : Fin 16, t.rd (R.DKE_RES c i) = 0 ∧ t.rd (R.DKE_EXP c i) = 0) ∧ t.rd (R.DKE_CMP c) = 0 ∧
        t.rd (R.DKE_BYTES_LO c) = 0 ∧ t.rd (R.DKE_BYTES_HI c) = 0 ∧ t.get (F.DKE_STAT_ERR c) = 0 ∧
        (∀ o, inInst .dkeCh c o = false → t.rd o = s.rd o) ∧ t = { s with dke := t.dke, regs := t.regs })) ∧
    (s.running (0x60 + c) = none → x.inMessage = true →
      (x.tamperPend = false → x.abortPend = true → ∃ t, exec (.dkeBlockBoundary c) s = .next t ∧ (t.dkeCh c).st = .owned ∧
        (t.dkeCh c).msg = [] ∧ (t.dkeCh c).key = [] ∧ t.rd (R.DKE_BYTES_LO c) = 0 ∧ t.rd (R.DKE_BYTES_HI c) = 0 ∧
        (∀ d, d ≠ c.val → t.dkeCh d = s.dkeCh d) ∧ SameMemory s t) ∧
      (x.tamperPend = true → ∃ t, exec (.dkeBlockBoundary c) s = .next t ∧ (t.dkeCh c).st = .error ∧
        (t.dkeCh c).key = [] ∧ t.get (F.DKE_STAT_ERR c) = stTamper ∧ (∀ i : Fin 16, t.rd (R.DKE_RES c i) = 0) ∧
        SameMemory s t)) ∧
    (∀ j, s.jobsOk → s.jobsAt (0x60 + c) = [j] → j.phase = .running → j.wait = .none → j.abort = .none → x.takePend ≠ 0 →
      ∃ t, exec (.dkeBlockBoundary c) s = .next t ∧
        t.job? j.id = some { j with phase := .preempted } ∧
        t.dkeCh c = { x with holder := x.takePend, takePend := 0, st := .owned } ∧ SameMemory s t)

/-- O45. A message of a DKE channel from its key to its result. With nothing pending at the channel. KEYING that ends
with a slot that R422 admits and RNG RUNNING enters ABSORB with its key; else ERROR with the first failed check. A
beat is appended to the message; its end of packet enters FINISH on a whole block, and ERROR MALFORMED else. The end
of FINISH stores the digest in DKE_RES and enters DONE; with COMPARE, DKE_CMP is 0x9696 where the first CMP_LEN bytes
are those of DKE_EXP, else 0x6969. A permitted read in DONE returns the result, or 0 with RES_DENIED for a keyed
result under a VERIFY key; before DONE it returns 0 with EARLY_READ. -/
def Obligations.DigestMessages : Prop :=
  ∀ (s : State) (c : Fin 4) (x : DkeCh), x = s.dkeCh c →
    (x.st = .keying → s.dkePending c = none →
      (∀ y, s.dkeSlot c = .ok y → s.rngState = rngRunning → ∃ t, exec (.keyingDone c) s = .next t ∧
        t.dkeCh c = { x with st := .absorb, key := y.key, keyVerify := y.usage == usVerify } ∧
        (∀ d, d ≠ c.val → t.dkeCh d = s.dkeCh d) ∧ SameMemory s t) ∧
      (∀ e n, s.dkeSlot c = .error (e, n) → ∃ t, exec (.keyingDone c) s = .next t ∧ (t.dkeCh c).st = .error ∧
        t.get (F.DKE_STAT_ERR c) = e % 2 ^ 8 ∧ SameMemory s t)) ∧
    (∀ bs eop m, x.st = .absorb → s.dkePending c = none → x.beat = some (bs, eop) → m = x.msg ++ bs →
      (eop = false → ∃ t, exec (.beatAbsorbed c none) s = .next t ∧ t.dkeCh c = { x.tail with msg := m } ∧
        (t.rd (R.DKE_BYTES_LO c)).toNat = m.length % 2 ^ 32 ∧ (∀ d, d ≠ c.val → t.dkeCh d = s.dkeCh d) ∧ SameMemory s t) ∧
      (eop = true → m.length % dkeBlock (s.get (F.DKE_MODE_FUNC c)) = 0 → ∃ t, exec (.beatAbsorbed c none) s = .next t ∧
        t.dkeCh c = { x.tail with msg := m, st := .finish } ∧ (∀ d, d ≠ c.val → t.dkeCh d = s.dkeCh d) ∧ SameMemory s t) ∧
      (eop = true → m.length % dkeBlock (s.get (F.DKE_MODE_FUNC c)) ≠ 0 → ∃ t, exec (.beatAbsorbed c none) s = .next t ∧
        (t.dkeCh c).st = .error ∧ t.get (F.DKE_STAT_ERR c) = stMalformed ∧ SameMemory s t)) ∧
    (∀ d n, x.st = .finish → s.dkePending c = none → d = dkeResult (s.get (F.DKE_MODE_FUNC c)) x.key x.msg →
      n = s.get (F.DKE_MODE_CMP_LEN c) → ∃ t, exec (.finishDone c false none) s = .next t ∧
        t.dkeCh c = { x with st := .done, msg := [], key := [] } ∧
        (∀ i : Fin 16, t.rd (R.DKE_RES c i) = (resWords d).getD i 0) ∧
        t.rd (R.DKE_CMP c) = (if s.on (F.DKE_MODE_COMPARE c) then (if d.take n = (s.dkeExp c).take n then 0x9696 else 0x6969)
          else s.rd (R.DKE_CMP c)) ∧ (∀ d, d ≠ c.val → t.dkeCh d = s.dkeCh d) ∧ SameMemory s t) ∧
    (∀ (r : Req) (k : Fin 17) (o : Nat), o = (if k.val = 16 then R.DKE_CMP c else R.DKE_RES c k) → s.mayRead r o →
      (x.st ≠ .done → ∃ t, exec (.resultRead r c k) s = .next t ∧ t.busOut = 0 ∧ t.on (F.DKE_STAT_EARLY_READ c) = true ∧
        t.cntGet (R.DKE_CNT 5) = min (s.cntGet (R.DKE_CNT 5) + 1) (cntMax (R.DKE_CNT 5)) ∧ t.dke = s.dke) ∧
      (x.st = .done → k.val = 16 ∨ dkeKeyed (s.get (F.DKE_MODE_FUNC c)) = false ∨ x.keyVerify = false →
        exec (.resultRead r c k) s = .next { s with busOut := (s.rd o).setWidth 64 }) ∧
      (x.st = .done → k.val ≠ 16 → dkeKeyed (s.get (F.DKE_MODE_FUNC c)) = true → x.keyVerify = true →
        exec (.resultRead r c k) s = .next { s.set (F.DKE_STAT_RES_DENIED c) with busOut := 0 }))

/-- O46. The lanes of the Stream FIFO Interface. By a permitted write, while the lane drops no packet and has room. A
word of SFI_DATA appends its four bytes to the open packet, or opens one; a word of SFI_EOPn appends its first n bytes
and closes it; both are counted. FLUSH discards every packet of the lane and counts them. ABORT_PKT drops the open
packet, and the rest of it that follows; a channel that was absorbing it moves to ERROR 0x15. An underrun sets
UNDERRUN and drops the open packet, or ends the message that waits for its first byte in ERROR 0x15. -/
def Obligations.StreamLanes : Prop :=
  ∀ (s : State) (c : Fin 4) (x : DkeCh), x = s.dkeCh c →
    (∀ (r : Req) (v : Word), x.dropping = false →
      (s.mayWrite r (R.SFI_DATA c) → x.level + 4 ≤ 4096 → ∃ t, exec (.sfiData r c v) s = .next t ∧
        t.dkeCh c = x.append (natLE 4 v.toNat) false ∧
        t.cntGet (R.SFI_CNT c 1) = min (s.cntGet (R.SFI_CNT c 1) + 4) (cntMax (R.SFI_CNT c 1)) ∧
        (∀ d, d ≠ c.val → t.dkeCh d = s.dkeCh d) ∧ t = { s with dke := t.dke, regs := t.regs, cnt := t.cnt }) ∧
      (∀ n : Fin 4, s.mayWrite r (R.SFI_EOP c n) → x.level + n.val + 1 ≤ 4096 → ∃ t, exec (.sfiEop r c n v) s = .next t ∧
        t.dkeCh c = x.append ((natLE 4 v.toNat).take (n.val + 1)) true ∧
        t.cntGet (R.SFI_CNT c 1) = min (s.cntGet (R.SFI_CNT c 1) + (n.val + 1)) (cntMax (R.SFI_CNT c 1)) ∧
        t.cntGet (R.SFI_CNT c 0) = min (s.cntGet (R.SFI_CNT c 0) + 1) (cntMax (R.SFI_CNT c 0)) ∧
        (∀ d, d ≠ c.val → t.dkeCh d = s.dkeCh d) ∧ t = { s with dke := t.dke, regs := t.regs, cnt := t.cnt })) ∧
    (∀ r : Req, s.mayWrite r (R.SFI_CTL c) →
      (∃ t, exec (.sfiFlush r c) s = .next t ∧ t.dkeCh c = { x with packets := [], dropping := false } ∧
        t.cntGet (R.SFI_CNT c 2) = min (s.cntGet (R.SFI_CNT c 2) + x.packets.length) (cntMax (R.SFI_CNT c 2)) ∧
        (∀ d, d ≠ c.val → t.dkeCh d = s.dkeCh d) ∧ t = { s with dke := t.dke, regs := t.regs, cnt := t.cnt }) ∧
      (x.openPkt.isSome = true → ∃ t, exec (.abortPkt r c) s = .next t ∧ (t.dkeCh c).packets = x.packets.filter (·.closed) ∧
        (t.dkeCh c).dropping = true ∧ (x.absorbsOpen = false → (t.dkeCh c).st = x.st) ∧
        (x.absorbsOpen = true → (t.dkeCh c).st = .error ∧ t.get (F.DKE_STAT_ERR c) = stLenShort) ∧
        t.cntGet (R.SFI_CNT c 2) = min (s.cntGet (R.SFI_CNT c 2) + 1) (cntMax (R.SFI_CNT c 2)) ∧
        (∀ d, d ≠ c.val → t.dkeCh d = s.dkeCh d) ∧ SameMemory s t)) ∧
    (x.openPkt.isSome = true → ∃ t, exec (.underrun c) s = .next t ∧ t.on (F.SFI_STAT_UNDERRUN c) = true ∧
      (t.dkeCh c).packets = x.packets.filter (·.closed) ∧ (∀ d, d ≠ c.val → t.dkeCh d = s.dkeCh d) ∧ SameMemory s t) ∧
    (x.packets = [] → x.st = .absorb ∨ x.st = .keying → ∃ t, exec (.underrun c) s = .next t ∧
      t.on (F.SFI_STAT_UNDERRUN c) = true ∧ (t.dkeCh c).st = .error ∧ t.get (F.DKE_STAT_ERR c) = stLenShort ∧
      (∀ d, d ≠ c.val → t.dkeCh d = s.dkeCh d) ∧ SameMemory s t)

/-- O47. Alarms, disagreements and filtered events of Belfry. An alarm of a live detector under ANY goes out at once,
as KIND 0x10 with the source, the detector and the configured level; it sets BLF_LATCH, counts in BLF_ALM_CNT and
raises the source's event, and nothing else changes in the registers. Under BOTH, with both live, it sends, counts and
sets nothing. An alarm not matched within 10 µs sets BLF_DISAGREE, counts in BLF_DIS_CNT and raises event source 16.
In a filter period, an event of a filtered source before the Nth within W counts in BLF_FILTC and raises 19; the Nth
alarms with WINDOWED. In Vigil an alarm of level 0 is stored with VIGIL set; one of level 4 or above zeroes the memory
key as well. (How long an alarm condition lasts is the model's choice, assumption 41.) -/
def Obligations.BelfryAlarms : Prop :=
  ∀ (s : State) (n : Fin 14) (d : Det),
    (∀ c : Instr, c = .detectorAlarm n d ∨ (n.val = 13 ∧ c = .heartbeatTimeout d) → s.alarms n d → s.vigilBelfry = false →
      (s.aloneCounts n d → (s.filtering && filtered n) = false → ∃ t, exec c s = .next t ∧
        Reports 0x100 0x10 (s.get (F.BLF_SRC_CFG_LEVEL n)) (n.val + 256 * 2 ^ detNum d) s t ∧
        t.on ⟨R.BLF_LATCH, n, 1⟩ = true ∧ t.cntGet (R.BLF_ALM_CNT n) = s.plus (R.BLF_ALM_CNT n) 1 ∧
        t.isPending n = true ∧ (s.detLive n (1 - detNum d) = true → (2 * n.val + detNum d, s.time) ∈ t.blf.lone) ∧
        SameRegsBut alarmRegs s t ∧ SameMemory s t) ∧
      (¬ s.aloneCounts n d → ∃ t, exec c s = .next t ∧ t = { s with blf := t.blf } ∧
        t.blf.lone = s.blf.lone.filter (fun e => e.1 != 2 * n.val + detNum d) ++ [(2 * n.val + detNum d, s.time)]) ∧
      (s.aloneCounts n d → s.filtering = true → filtered n = true → ∀ k,
        k = ((sget (fun _ => []) s.blf.events n).filter (fun x => decide (s.time ≤ x + s.get F.BLF_FILT_W * 1000))).length + 1 →
        (k < s.get F.BLF_FILT_N → ∃ t, exec c s = .next t ∧ t.fcr = s.fcr ∧ t.isPending 19 = true ∧
          t.cntGet (R.BLF_FILTC n) = s.plus (R.BLF_FILTC n) 1 ∧ SameRegsBut (R.BLF_SAT2 :: eventRegs) s t ∧ SameMemory s t) ∧
        (s.get F.BLF_FILT_N ≤ k → ∃ t, exec c s = .next t ∧
          Reports 0x100 0x10 (s.get (F.BLF_SRC_CFG_LEVEL n)) (n.val + 256 * 2 ^ detNum d + 2 ^ 16) s t ∧
          t.on ⟨R.BLF_LATCH, n, 1⟩ = true ∧ SameRegsBut alarmRegs s t ∧ SameMemory s t))) ∧
    (∀ m ∈ s.blf.lone, s.blfUp = true → s.fuseDisabled n = false → m.1 = 2 * n.val + detNum d → m.2 + 10000 ≤ s.time → ∃ t, exec (.disagreement n d) s = .next t ∧
      t.on ⟨R.BLF_DISAGREE, n, 1⟩ = true ∧ t.cntGet (R.BLF_DIS_CNT n) = s.plus (R.BLF_DIS_CNT n) 1 ∧ t.isPending 16 = true ∧
      t.blf = { s.blf with lone := s.blf.lone.filter (fun e => e.1 != 2 * n.val + detNum d) } ∧
      SameRegsBut (R.BLF_DISAGREE :: R.BLF_SAT1 :: eventRegs) s t ∧ SameMemory s t) ∧
    (s.alarms n d → s.vigilBelfry = true → s.aloneCounts n d → (s.filtering && filtered n) = false → s.blf.stored = [] →
      ∃ t, exec (.vigilAlarm n d) s = .next t ∧
        t.blf.stored = [⟨n, n.val + 256 * 2 ^ detNum d + 2 ^ 17, s.get (F.BLF_SRC_CFG_LEVEL n)⟩] ∧
        (s.get (F.BLF_SRC_CFG_LEVEL n) = 0 → t = { s with blf := t.blf }) ∧
        (4 ≤ s.get (F.BLF_SRC_CFG_LEVEL n) → t.mpe.key = none ∧ t.on F.CTS_STAT_NO_KEY = true))

/-- O48. Self-stimulus tests, faulty detectors and the start window. SELFTEST with no test running tests the selected
detectors that are not fused off, in order; with one running it sets CFG_REJECT. The periodic test adds the only live
detector of each source. A detector that fails sets its bit in BLF_ST_RES and BLF_FAULTY and ST_FAIL, an Almanac entry
is queued, and event 17 is raised if it was not faulty; one that passes an on-demand test is no longer faulty.
Firmware adds to BLF_FAULTY; event 17. The start window ends 50 ms after its release. -/
def Obligations.BelfryTests : Prop :=
  ∀ s : State,
    (∀ r : Req, s.mayWrite r R.BLF_CTL →
      (s.blf.tests = [] → ∃ t, exec (.blfSelftest r 0) s = .next t ∧
        t.blf.tests = (s.testList (s.get F.BLF_ST_SEL_SOURCES) (s.on F.BLF_ST_SEL_DET_A) (s.on F.BLF_ST_SEL_DET_B)).map (·, true) ∧
        t.on F.BLF_STAT_ST_BUSY = !t.blf.tests.isEmpty ∧ t.on F.BLF_CTL_SELFTEST = !t.blf.tests.isEmpty ∧
        SameRegsBut [R.BLF_STAT, R.BLF_CTL] s t ∧ SameMemory s t) ∧
      (s.blf.tests ≠ [] → exec (.blfSelftest r 0) s = .next (s.set F.BLF_STAT_CFG_REJECT))) ∧
    (s.blfUp = true → ∃ t, exec .periodicSelftest s = .next t ∧
      t.blf.tests = s.blf.tests ++ ((List.range 28).filter (fun k => s.detLive (k / 2) (k % 2) &&
        !s.detLive (k / 2) (1 - k % 2))).map (·, false) ∧
      t.on F.BLF_STAT_ST_BUSY = !t.blf.tests.isEmpty ∧ SameRegsBut [R.BLF_STAT, R.BLF_CTL] s t ∧ SameMemory s t) ∧
    (∀ (n : Fin 14) (d : Det) (dem : Bool) (l : List (Nat × Bool)) (m : Word), s.blfUp = true →
      s.blf.tests = (2 * n.val + detNum d, dem) :: l → m = BitVec.ofNat 32 (2 ^ detBit n (detNum d)) →
      (∃ t, exec (.selftestResult n d false) s = .next t ∧ t.blf.tests = l ∧ t.rd R.BLF_ST_RES = s.rd R.BLF_ST_RES ||| m ∧
        t.rd R.BLF_FAULTY = s.rd R.BLF_FAULTY ||| m ∧ t.on F.BLF_STAT_ST_FAIL = true ∧
        (s.rd R.BLF_FAULTY &&& m = 0 → t.isPending 17 = true) ∧ SameMemory s t) ∧
      (∃ t, exec (.selftestResult n d true) s = .next t ∧ t.blf.tests = l ∧ t.rd R.BLF_ST_RES = s.rd R.BLF_ST_RES &&& ~~~m ∧
        t.rd R.BLF_FAULTY = (if dem then s.rd R.BLF_FAULTY &&& ~~~m else s.rd R.BLF_FAULTY) ∧ SameMemory s t)) ∧
    (∀ (r : Req) (v : Word), s.mayWrite r R.BLF_FAULTY → ∃ t, exec (.blfFaultyDeclare r v) s = .next t ∧
      t.rd R.BLF_FAULTY = s.rd R.BLF_FAULTY ||| (v &&& 0x3FFF3FFF) ∧
      (v &&& 0x3FFF3FFF &&& ~~~s.rd R.BLF_FAULTY ≠ 0 → t.isPending 17 = true) ∧ SameMemory s t) ∧
    (s.blfUp = true → s.on F.BLF_STAT_START_WINDOW = true → s.blf.startAt + 50000000 ≤ s.time →
      ∃ t, exec .startWindowEnd s = .next t ∧ t.on F.BLF_STAT_START_WINDOW = false ∧
        SameRegsBut [R.BLF_STAT] s t ∧ SameMemory s t)

/-- O49. Silicon fuses, and the battery domain on main and on backup power. BLF_FUSE_PGM blows the selected fuses of a
source 1 to 11 in MANUFACTURE and PROVISION, and BLF_FUSED shows it; any other request blows nothing and sets
CFG_REJECT. A fused detector is not live, and a fuse-disabled source issues no alarm or disagreement. On backup power
an alarm of source 0, 1, 2 or 8 destroys the battery-backed key and the journal cells, sets its bit of BAT_EVT and
counts in BAT_TCNT, and nothing else; of another source nothing happens. On main power VBAT below 2.5 V sets VBAT_LOW
and raises event 20. A brownout of VBAT on backup power, and a first application, zero the battery domain and set
VBAT_FRESH. CLR_EVT and CLR_FRESH clear what they name. -/
def Obligations.FusesAndBattery : Prop :=
  ∀ s : State,
    (∀ (r : Req) (v : Word) (n : Nat), s.mayWrite r R.BLF_FUSE_PGM → n = v.toNat % 16 →
      ((1 ≤ n ∧ n ≤ 11) → (s.get F.LCS_STATE_STATE = 1 ∨ s.get F.LCS_STATE_STATE = 2) →
        ∃ t, exec (.fusePgm r v) s = .next t ∧ t.view .cupola R.BLF_FUSED = t.otp.fuses ∧ t.otp = { s.otp with
          fuses := s.otp.fuses ||| ((if v.getLsbD 8 then 2 ^ n else 0) ||| if v.getLsbD 9 then 2 ^ (16 + n) else 0) } ∧
          t.hostMem = s.hostMem ∧ t.svcMem = s.svcMem ∧ t.cupMem = s.cupMem ∧ t.cup = s.cup) ∧
      (n = 0 ∨ 12 ≤ n ∨ (s.get F.LCS_STATE_STATE ≠ 1 ∧ s.get F.LCS_STATE_STATE ≠ 2) → ∃ t, exec (.fusePgm r v) s = .next t ∧
        t.on F.BLF_STAT_CFG_REJECT = true ∧ SameRegsBut [R.BLF_FUSE_PGM, R.BLF_STAT] s t ∧ OnlyRegs s t)) ∧
    (∀ (n : Fin 14) (d : Det), (s.fused n (detNum d) = true → exec (.detectorAlarm n d) s = .next s) ∧
      (s.fuseDisabled n = true → exec (.disagreement n d) s = .next s)) ∧
    (∀ (n : Fin 14) (hot : Bool), s.blf.backup = true →
      (n.val ∈ [0, 1, 2, 8] → s.fuseDisabled n = false → ∃ t, exec (.backupAlarm n hot) s = .next t ∧
        t.keep = { s.keep with bbk := zeros s.keep.bbk.length, bbkValid := false, cells := [] } ∧
        t.on ⟨R.BLF_BAT_STAT, if n.val = 8 then (if hot then 4 else 3) else n.val, 1⟩ = true ∧
        t.get F.BLF_BAT_STAT_BAT_TCNT = min 15 (s.get F.BLF_BAT_STAT_BAT_TCNT + 1) ∧
        SameRegsBut [R.BLF_BAT_STAT, R.KEEP_STAT, R.KEEP_BBK_GEN] s t ∧ t = { s with regs := t.regs, keep := t.keep }) ∧
      (n.val ∉ [0, 1, 2, 8] → exec (.backupAlarm n hot) s = .next s)) ∧
    (∀ mv : BitVec 16, (s.blfUp = true → s.blf.backup = false → ∃ t, exec (.vbatCheck mv) s = .next t ∧
        t.on F.BLF_BAT_STAT_VBAT_LOW = decide (mv.toNat < 2500) ∧ (mv.toNat < 2500 → t.isPending 20 = true) ∧
        t.blf = { s.blf with vbat := mv.toNat } ∧ SameRegsBut (R.BLF_BAT_STAT :: eventRegs) s t ∧ SameMemory s t) ∧
      (∀ c : Instr, (c = .vbatBrownout mv ∧ s.blf.backup = true ∧ mv.toNat < 2200) ∨ (c = .vbatFirstApply ∧ s.power.pwrOk = false) →
        ∃ t, exec c s = .next t ∧
          t.keep = { s.keep with bbk := [], bbkValid := false, bbkGen := 0, uidCount := 0, cells := [] } ∧
          t.on F.BLF_BAT_STAT_VBAT_FRESH = true ∧ t.get F.BLF_BAT_STAT_EVT = 0 ∧ t.get F.BLF_BAT_STAT_BAT_TCNT = 0 ∧
          SameMemory s t)) ∧
    (∀ b : Bool, exec (.backupPower b) s =
      .next (if s.power.pwrOk then s else { s with blf := { s.blf with backup := b } })) ∧
    (∀ r : Req, s.mayWrite r R.BLF_BAT_CTL →
      (∃ t, exec (.clrEvt r 0) s = .next t ∧ t.get F.BLF_BAT_STAT_EVT = 0 ∧ t.get F.BLF_BAT_STAT_BAT_TCNT = 0 ∧
        SameRegsBut [R.BLF_BAT_STAT] s t ∧ OnlyRegs s t) ∧
      (∃ t, exec (.clrFresh r 0) s = .next t ∧ t.on F.BLF_BAT_STAT_VBAT_FRESH = false ∧
        SameRegsBut [R.BLF_BAT_STAT] s t ∧ OnlyRegs s t))

/-- O50. Which life-cycle transitions are accepted, and what they do. Only Cupola firmware can write LCS_TRANSITION.
The write is accepted exactly for BLANK to MANUFACTURE, MANUFACTURE to PROVISION, PROVISION to FIELD, PROVISION or
FIELD to ANALYSIS and any other state to SCRAP, with no transition in progress; any other write sets REJECT and the
cause, raises event 209, counts in LCS_CNT[1] and changes nothing else. An accepted one programs INTENT in both copies
of the word, takes the new state, empties every KEEP slot and sets every POLICY to ANY. DS_PROGRAM programs the device
secret from a seed; WIPE_DONE finds the two flash partitions erased; the end programs DONE, counts and raises event
208. -/
def Obligations.LifeCycleTransitions : Prop :=
  ∀ s : State,
    (∀ (r : Req) (v : Word), s.mayWrite r R.LCS_TRANSITION → r = .cupola ∧ ∀ x c, x = v.toNat % 16 →
      c = s.get F.LCS_STATE_STATE →
      (c ≠ x → s.on F.LCS_STAT_IN_TRANSITION = false → (c, x) ∈ [(0, 1), (1, 2), (2, 3), (2, 4), (3, 4)] ∨ x = 5 →
        ∃ t, exec (.lcsTransition r v) s = .next t ∧ t.get F.LCS_STATE_STATE = x ∧ t.on F.LCS_STAT_IN_TRANSITION = true ∧
          t.get F.LCS_STAT_TARGET = x ∧ (∀ l m, (l, m) ∈ [(t.otp.lcsA, s.otp.lcsA), (t.otp.lcsB, s.otp.lcsB)] →
            ∀ w, sget (fun _ => 0) l w = if w = x then sget (fun _ => 0) m w ||| lcsIntent x * 65536 else sget (fun _ => 0) m w) ∧
          (∀ i, (t.slot i).st = .empty) ∧ ∀ n : Fin 14, t.on (F.BLF_SRC_CFG_POLICY n) = false) ∧
      (∀ k : Fin 5, k.val = (if 6 ≤ x then 4 else if s.on F.LCS_STAT_IN_TRANSITION = true then 2 else if x = c then 3 else
          if (c, x) ∈ [(0, 1), (1, 2), (2, 3), (2, 4), (3, 4)] ∨ x = 5 then 0 else 1) → k ≠ 0 →
        ∃ t, exec (.lcsTransition r v) s = .next t ∧ t.on F.LCS_STAT_REJECT = true ∧ t.get F.LCS_STAT_REJECT_CAUSE = k ∧
          t.cntGet (R.LCS_CNT 1) = s.plus (R.LCS_CNT 1) 1 ∧ t.isPending 209 = true ∧
          (∀ f, f.off = R.LCS_STAT → (f.lo + f.width ≤ 4 ∨ 8 ≤ f.lo) → t.get f = s.get f) ∧
          SameRegsBut (R.LCS_STAT :: R.LCS_SAT :: eventRegs) s t ∧ t = { s with regs := t.regs, cnt := t.cnt, evc := t.evc })) ∧
    (∀ x l, s.alive = true → s.on F.LCS_STAT_IN_TRANSITION = true → s.get F.LCS_STAT_TARGET = 1 → s.otp.ds = none →
      s.rngState = rngRunning → s.rng.reservoir = x :: l → ∃ t, exec .dsProgram s = .next t ∧
        t.otp = { s.otp with ds := some (fit 32 x) } ∧ t.rng.reservoir = l ∧ t.on F.KEEP_STAT_DS_OK = true ∧
        SameRegsBut [R.KEEP_STAT] s t) ∧
    (s.mayWrite .cupola R.LCS_CTL → s.on F.LCS_STAT_WIPE_WAIT = true → ∃ t, exec (.wipeDone .cupola 0) s = .next t ∧
      t.on F.LCS_STAT_WIPE_WAIT = false ∧ SameRegsBut [R.LCS_STAT] s t ∧ t.hostMem = s.hostMem ∧ t.svcMem = s.svcMem ∧
      t.cupMem = s.cupMem ∧ t.otp = s.otp ∧ ∀ a < 2 ^ 32, sget flashDefault t.cup.flash a =
        if (0x2810000 ≤ a ∧ a < 0x2C10000) ∨ 0x3C10000 ≤ a then 0xFF else sget flashDefault s.cup.flash a) ∧
    (∀ x, s.alive = true → s.transitionReady = true → 7 ≤ s.milestone → s.get F.LCS_STAT_TARGET = x → x ∈ [1, 2, 3, 4] →
      ∃ t, exec .transitionComplete s = .next t ∧ t.on F.LCS_STAT_IN_TRANSITION = false ∧
        t.lcsWord x = s.lcsWord x ||| lcsDone x ∧ (∀ w, w ≠ x → t.lcsWord w = s.lcsWord w) ∧
        t.get F.LCS_STATE_STATE = s.get F.LCS_STATE_STATE ∧ t.cntGet (R.LCS_CNT 0) = s.plus (R.LCS_CNT 0) 1 ∧
        t.isPending 208 = true)

/-- O51. Challenges, debug tokens, sessions and the owner digest. CHAL_REQ by Cupola firmware takes one seed of the
reservoir as the new challenge with RNG RUNNING, and else sets CHAL_REJECT and leaves none; after 600 s it lapses.
TOK_START takes the 7,540 bytes from SRAM. The end of a check shows the first check of R502 that fails, lets the
challenge lapse, counts in LCS_CNT[3] and raises event 212; a token that passes opens its session, at once where no
reaction has to come first. A session ends at its last second and by END_DEBUG of Cupola firmware or the host: no
scope, event 211. OWNER_PGM programs the owner digest once, in PROVISION only; else REJECT with cause 1. The TAP reads
the state and asks for a challenge. -/
def Obligations.ChallengesTokensSessions : Prop :=
  ∀ s : State,
    (s.mayWrite .cupola R.LCS_CTL →
      (∀ x l, s.rngState = rngRunning → s.rng.reservoir = x :: l → ∃ t, exec (.chalReq .cupola 0) s = .next t ∧
        t.challenge = fit 32 x ∧ t.on F.LCS_STAT_CHAL_VALID = true ∧ t.lcs = { s.lcs with chalAt := s.time } ∧
        t.rng = { s.rng with reservoir := l } ∧ SameRegsBut (R.LCS_STAT :: (List.range 8).map R.LCS_CHAL) s t ∧ SameMemory s t) ∧
      (s.rngState ≠ rngRunning → ∃ t, exec (.chalReq .cupola 0) s = .next t ∧ t.on F.LCS_STAT_CHAL_REJECT = true ∧
        t.on F.LCS_STAT_CHAL_VALID = false ∧ SameRegsBut (R.LCS_STAT :: (List.range 8).map R.LCS_CHAL) s t ∧ OnlyRegs s t) ∧
      (s.on F.LCS_TOK_RES_BUSY = false → (s.rd R.LCS_TOK_LEN).toNat = 7540 → ∃ t, exec (.tokStart .cupola 0) s = .next t ∧
        t.lcs = { s.lcs with token := some (memRead s.cupMem (s.rd R.LCS_TOK_ADDR).toNat 7540) } ∧
        t.on F.LCS_TOK_RES_BUSY = true ∧ SameRegsBut [R.LCS_TOK_RES] s t ∧ SameMemory s t) ∧
      (s.get F.LCS_STATE_STATE = 2 ∧ s.otp.ownerDigest = none → ∃ t, exec (.ownerPgm .cupola 0) s = .next t ∧
        t.otp = { s.otp with ownerDigest := some ((List.range 12).flatMap (fun i => natLE 4 (s.rd (R.LCS_OWN_DIG i)).toNat)) } ∧
        t.on F.LCS_STAT_OWNER_SET = true ∧ SameRegsBut [R.LCS_STAT] s t) ∧
      (s.get F.LCS_STATE_STATE ≠ 2 ∨ s.otp.ownerDigest ≠ none → ∃ t, exec (.ownerPgm .cupola 0) s = .next t ∧
        t.on F.LCS_STAT_REJECT = true ∧ t.get F.LCS_STAT_REJECT_CAUSE = 1 ∧ SameRegsBut [R.LCS_STAT] s t ∧ OnlyRegs s t)) ∧
    (s.on F.LCS_STAT_CHAL_VALID = true → s.lcs.chalAt + 600000000000 ≤ s.time → ∃ t, exec .challengeExpiry s = .next t ∧
      t.on F.LCS_STAT_CHAL_VALID = false ∧ t.challenge = zeros 32 ∧ OnlyRegs s t) ∧
    (∀ tok, s.lcs.token = some tok → (s.tokenCode tok ≠ 0 → ∃ t, exec .tokenCheckDone s = .next t ∧
        t.rd R.LCS_TOK_RES = BitVec.ofNat 32 (s.tokenCode tok) ∧ t.lcs = { s.lcs with token := none } ∧
        t.on F.LCS_STAT_CHAL_VALID = false ∧ t.cntGet (R.LCS_CNT 3) = s.plus (R.LCS_CNT 3) 1 ∧ t.isPending 212 = true ∧
        t.rd R.LCS_DBG_STAT = s.rd R.LCS_DBG_STAT ∧ SameMemory s t) ∧
      (s.tokenCode tok = 0 → leAt tok 28 4 &&& 0x0E = 0 → ∃ t, exec .tokenCheckDone s = .next t ∧
        t.on F.LCS_DBG_STAT_SESSION = true ∧ t.get F.LCS_DBG_STAT_SCOPES = leAt tok 28 4 % 256 ∧
        t.lcs.sessionEnd = s.time + leAt tok 32 4 * 1000000000 ∧ t.on F.LCS_STAT_CHAL_VALID = false ∧
        t.rd R.LCS_TOK_RES = 0 ∧ t.cntGet (R.LCS_CNT 2) = s.plus (R.LCS_CNT 2) 1)) ∧
    (∀ c : Instr, (c = .sessionExpiry ∧ s.lcs.sessionEnd ≤ s.time) ∨
      (∃ r, (r = .cupola ∨ r = .pf) ∧ s.mayWrite r R.LCS_CTL ∧ c = .endDebug r 0) → s.on F.LCS_DBG_STAT_SESSION = true →
      s.on F.LCS_DBG_STAT_BLANK_OPEN = false → ∃ t, exec c s = .next t ∧ t.rd R.LCS_DBG_STAT = 0 ∧ t.isPending 211 = true ∧
        (bit (s.get F.LCS_DBG_STAT_SCOPES) 1 = true → t.power.cupUp = false)) ∧
    (s.power.pwrOk = true → (∃ t, exec .lcsStatus s = .next t ∧ t.lcs = { s.lcs with
        tapInsn := 0x10, tapOut := natLE 4 (s.rd R.LCS_STATE).toNat ++ natLE 4 (s.view .tap R.LCS_DBG_STAT) } ∧ t = { s with lcs := t.lcs }) ∧
      ∀ x l, s.alive = true → s.rngState = rngRunning → s.rng.reservoir = x :: l → ∃ t, exec .lcsChal s = .next t ∧
        t.challenge = fit 32 x ∧ t.lcs.tapOut = fit 32 x ∧ t.on F.LCS_STAT_CHAL_VALID = true ∧
        t.rng = { s.rng with reservoir := l } ∧ SameMemory s t)

/-- O52. The instructions of the test access port. With power. IDCODE, BYPASS and SAMPLE/PRELOAD shift and change
nothing else. EXTEST to HIGHZ assert a system reset (every KEEP slot is empty) in which SYSRST_N releases nothing
until Test-Logic-Reset ends the hold, and Belfry's sources 0, 1, 2 and 11 alone still alarm, at their reset levels.
TOKEN_LOAD hands its bytes to the check. An instruction whose scope has not been granted acts as BYPASS; with the
scope, CUP_DBG and SVC_DBG halt, resume, read and write memory, REG_READ reads a register with the rights of the TAP,
and the test instructions shift out bytes that the spec leaves open. -/
def Obligations.TapInstructions : Prop :=
  ∀ s : State, s.power.pwrOk = true →
    (exec .tapIdcode s = .next { s with lcs := { s.lcs with tapInsn := 1, tapOut := natLE 4 idcode } }) ∧
    (∀ b, exec (.tapBypass b) s = .next { s with lcs := { s.lcs with tapInsn := 0xFF, tapOut := [0] } }) ∧
    (∀ v, ∃ t, exec (.samplePreload v) s = .next t ∧ t.lcs.cells = v ∧ t.lcs.tapInsn = 2 ∧ t.lcs.tapOut.length = v.length ∧
      t = { s with lcs := t.lcs, free := t.free }) ∧
    (∀ e : Instr × Nat, e ∈ [(.extest, 3), (.extestPulse, 4), (.extestTrain, 5), (.clamp, 6), (.highz, 7)] →
      ∃ t, exec e.1 s = .next t ∧ t.power.sysHeld = true ∧ t.power.coreUp = false ∧ t.power.cupUp = false ∧ t.lcs.tapInsn = e.2 ∧
        (∀ i, (t.slot i).st = .empty) ∧ t.rd R.PWR_RST_CAUSE = 32 ∧
        (∀ n : Fin 14, t.get (F.BLF_SRC_CFG_LEVEL n) = bits (regReset (R.BLF_SRC_CFG n)).toNat 0 3) ∧
        (∀ u, exec (.sysrstNRelease u) t = .next { t with power := { t.power with sysrstLow := false } }) ∧
        (∃ u, exec .tapReset t = .next u ∧ u = { t with lcs := { t.lcs with tapInsn := 1, tapHold := false } }) ∧
        ∀ (n : Fin 14) (d : Det), (n.val ∉ [0, 1, 2, 11] → exec (.detectorAlarm n d) t = .next t) ∧
          (n.val ∈ [0, 1, 2, 11] → t.detLive n (detNum d) = true → t.aloneCounts n d → t.inAlarm (2 * n.val) = false →
            t.inAlarm (2 * n.val + 1) = false → t.vigilBelfry = false → t.filtering = false → ∃ u, exec (.detectorAlarm n d) t = .next u ∧
            Reports 0x100 0x10 (t.get (F.BLF_SRC_CFG_LEVEL n)) (n.val + 256 * 2 ^ detNum d) t u)) ∧
    (∀ tok, s.alive = true → s.on F.LCS_TOK_RES_BUSY = false → ∃ t, exec (.tokenLoad tok) s = .next t ∧
      t.lcs.token = some tok ∧ t.on F.LCS_TOK_RES_BUSY = true ∧ SameRegsBut [R.LCS_TOK_RES] s t ∧ SameMemory s t) ∧
    (∀ (op : DbgOp) (v : Word), ∀ e ∈ [(Instr.cupDbg op, 1), (.svcDbg op, 2), (.prodTest v, 3), (.tapScan v, 4), (.asyncDft v, 5)],
      s.scope e.2 = false → exec e.1 s = .next { s with lcs := { s.lcs with tapInsn := 0xFF, tapOut := [0] } }) ∧
    (∀ v : Word, ∀ e ∈ [(Instr.prodTest v, 3, 0x30), (.tapScan v, 4, 0x31), (.asyncDft v, 5, 0x32)], s.scope e.2.1 = true →
      ∃ t, exec e.1 s = .next t ∧ t.lcs.tapInsn = e.2.2 ∧ t.lcs.tapOut.length = 4 ∧ t = { s with lcs := t.lcs, free := t.free }) ∧
    (∀ a : Word, s.scope 1 = true → 7 ≤ s.milestone →
      (∃ t, exec (.cupDbg .halt) s = .next t ∧ t = { s with lcs := t.lcs } ∧ t.lcs.cupHalted = s.power.cupUp) ∧
      (∃ t, exec (.cupDbg .resume) s = .next t ∧ t = { s with lcs := t.lcs } ∧ t.lcs.cupHalted = false) ∧
      (∃ t, exec (.cupDbg .step) s = .next t ∧ t = { s with lcs := t.lcs } ∧ t.lcs.cupHalted = s.lcs.cupHalted) ∧
      (a.toNat + 4 ≤ 0x100000 → (∃ t, exec (.cupDbg (.read a)) s = .next t ∧ t = { s with lcs := t.lcs } ∧
          t.lcs.tapOut = memRead s.cupMem a.toNat 4) ∧
        ∀ v, ∃ t, exec (.cupDbg (.write a v)) s = .next t ∧ t = { s with lcs := t.lcs, cupMem := t.cupMem } ∧
          memRead t.cupMem a.toNat 4 = natLE 4 v.toNat ∧
          ∀ b, b < a.toNat ∨ a.toNat + 4 ≤ b → memByte t.cupMem b = memByte s.cupMem b)) ∧
    (∀ a : Word, s.scope 2 = true →
      (∃ t, exec (.svcDbg .halt) s = .next t ∧ t = { s with lcs := t.lcs } ∧ t.lcs.svcHalted = s.power.svcUp) ∧
      (∃ t, exec (.svcDbg .resume) s = .next t ∧ t = { s with lcs := t.lcs } ∧ t.lcs.svcHalted = false) ∧
      (a.toNat + 4 ≤ 0x8000000 → (∃ t, exec (.svcDbg (.read a)) s = .next t ∧ t = { s with lcs := t.lcs } ∧
          t.lcs.tapOut = memRead s.svcMem a.toNat 4) ∧
        ∀ v, ∃ t, exec (.svcDbg (.write a v)) s = .next t ∧ t = { s with lcs := t.lcs, svcMem := t.svcMem } ∧
          memRead t.svcMem a.toNat 4 = natLE 4 v.toNat ∧
          ∀ b, b < a.toNat ∨ a.toNat + 4 ≤ b → memByte t.svcMem b = memByte s.svcMem b)) ∧
    (∀ (a : Word) (o : Nat), a.toNat = 0x40000000 + o → o < 0x1000000 → o % 4 = 0 →
      (s.scope 0 = false → exec (.regRead a) s = .next { s with lcs := { s.lcs with tapInsn := 0xFF, tapOut := [0] } }) ∧
      (s.scope 0 = true → s.grants .tap o false = true → ∀ u, u = (s.tapSelect 0x22 []).readReg .tap o false →
        exec (.regRead a) s = .next (u.tapShift (natLE 4 u.busOut.toNat))) ∧
      (s.scope 0 = true → s.grants .tap o false = false → ∃ t, exec (.regRead a) s = .next t ∧ t.lcs.tapOut = natLE 4 0 ∧
        t.cntGet R.GLB_DENIED = s.plus R.GLB_DENIED 1 ∧ t.on F.GLB_STAT_DENIED_ACC = true ∧ SameMemory s t))

/-- O53. What FCR does with a fault message. A message of a SOURCE that R512 lists, in order, with room in the
history. With no reaction in progress and a level below 2 it is entered and counted by KIND; at level 1 or above its
event is raised; at or above PIN_LEVEL its group's bit of FLT_STICKY is set, and it is the first record, or counts in
FLT_COUNT. Level 2 starts a reaction: the next RTAG, REACT_BUSY, QUIESCED, event 53, an entry with CAUSE. In the
window of a reaction a message that raises no level and is consequential is entered with CONSEQ and latches nothing. A
reaction ends, with event 54, after its window, with no block in reset and Cupola running; QUIESCED stays. -/
def Obligations.FaultMessages : Prop :=
  ∀ (s : State) (m : DWord) (k l : Nat), k = msgKind m → l = s.msgLevel m →
    (knownSource (msgSource m) = true → s.alive = true → isBelfry m = false → 1 ≤ s.get F.FLT_CFG_PIN_LEVEL →
      sget (fun _ => 0) s.fcr.seqRx (msgSource m) ∈ [0, msgSeq m + 1] → s.fcr.history.length < 256 → k < 32 →
      (s.reacting = false → l < 2 → ∃ t, exec (.faultMessage m) s = .next t ∧
        t.fcr.history = s.fcr.history ++ [⟨m, 0, false, false, l, s.time / 1000 % 2 ^ 32⟩] ∧
        t.fcr.transit = s.fcr.transit.erase m ∧ t.cntGet (R.FLT_KCNT k) = s.plus (R.FLT_KCNT k) 1 ∧ t.reacting = false ∧
        (l = 1 → 1 ≤ k → k ≤ 0x14 → t.isPending (32 + k) = true) ∧
        (l < s.get F.FLT_CFG_PIN_LEVEL → ∀ o ∈ [R.FLT_FIRST_LO, R.FLT_FIRST_HI, R.FLT_FIRST_INFO, R.FLT_COUNT, R.FLT_STICKY],
          t.rd o = s.rd o) ∧
        (s.get F.FLT_CFG_PIN_LEVEL ≤ l → t.on ⟨R.FLT_STICKY, sourceGroup (msgSource m), 1⟩ = true ∧
          (s.on F.FLT_FIRST_INFO_VALID = false → t.rd R.FLT_FIRST_LO = m.setWidth 32 ∧
            t.rd R.FLT_FIRST_HI = BitVec.ofNat 32 (m.toNat / 2 ^ 32) ∧ t.get F.FLT_FIRST_INFO_LEVEL = l ∧
            t.on F.FLT_FIRST_INFO_VALID = true ∧ t.isPending 32 = (s.isPending 32 || !s.evc.raw.contains 32)) ∧
          (s.on F.FLT_FIRST_INFO_VALID = true → t.rd R.FLT_FIRST_LO = s.rd R.FLT_FIRST_LO ∧
            t.get F.FLT_COUNT_COUNT = min 0xFFFF (s.get F.FLT_COUNT_COUNT + 1) ∧ t.on F.FLT_STAT_OVERFLOW = true)) ∧
        SameMemory s t) ∧
      (s.reacting = false → l = 2 → ∃ t, exec (.faultMessage m) s = .next t ∧ t.reacting = true ∧
        t.get F.FLT_REACT_LEVEL = 2 ∧ t.get F.FLT_REACT_RTAG = (s.get F.FLT_REACT_RTAG + 1) % 2 ^ 16 ∧
        t.on F.FLT_STAT_QUIESCED = true ∧ t.isPending 53 = true ∧ t.fcr.windowEnd = s.time + 5000 ∧
        t.fcr.history = s.fcr.history ++
          [⟨m, (s.get F.FLT_REACT_RTAG + 1) % 2 ^ 16, true, false, 2, s.time / 1000 % 2 ^ 32⟩] ∧ SameMemory s t) ∧
      (s.inWindow = true → l ≤ s.get F.FLT_REACT_LEVEL → consequential (s.get F.FLT_REACT_LEVEL) k = true → k ≠ 3 → k ≠ 4 →
        ∃ t, exec (.faultMessage m) s = .next t ∧ t.fcr.history = s.fcr.history ++
          [⟨m, s.get F.FLT_REACT_RTAG, false, true, l, s.time / 1000 % 2 ^ 32⟩] ∧
        t.cntGet (R.FLT_KCNT k) = s.plus (R.FLT_KCNT k) 1 ∧ SameRegsBut [R.FLT_KSAT] s t ∧
        t = { s with fcr := t.fcr, cnt := t.cnt, regs := t.regs })) ∧
    (s.reacting = true → s.fcr.windowEnd ≤ s.time → s.rd R.PWR_BLKRST = 0 → s.power.cupUp = true → s.lcs.opening = none →
      ∃ t, exec .reactionEnd s = .next t ∧ t.reacting = false ∧ t.on F.FLT_REACT_BUSY = false ∧ t.isPending 54 = true ∧
        t.on F.FLT_STAT_QUIESCED = s.on F.FLT_STAT_QUIESCED ∧ t.get F.FLT_REACT_RTAG = s.get F.FLT_REACT_RTAG ∧
        SameRegsBut (R.FLT_STAT :: R.FLT_REACT :: eventRegs) s t ∧ SameMemory s t)

/-- O54. FAULT_N, the first record, the sticky bits, the map, RESUME and the history. FAULT_N is high only when VALID
and FLT_STICKY are 0, whatever FLT_SRC_LIVE shows; a write of 1 to VALID clears FLT_FIRST, FLT_FIRST_INFO,
FLT_FIRST_TIME and FLT_COUNT as one step. A cleared sticky bit whose condition is live is set again. FLT_MAP only
rises, to 6 at most; another write sets MAP_REJECT, and of a KIND that no fault has it changes nothing. RESUME by
Cupola firmware clears QUIESCED unless a reaction is in progress; LD_CLR zeroes FLT_LOCKDOWN; another requester is
refused. FLT_MSG0 returns and latches the oldest entry, FLT_MSG3 pops it. An Almanac entry is queued in the buffer; a
failed sector is retired with event 240. -/
def Obligations.FaultRegisters : Prop :=
  ∀ (s : State) (r : Req),
    (s.faultLow = false ↔ s.on F.FLT_FIRST_INFO_VALID = false ∧ s.rd R.FLT_STICKY = 0) ∧
    (s.mayWrite r R.FLT_FIRST_INFO → ∃ t, exec (.firstClear r) s = .next t ∧
      (∀ o ∈ [R.FLT_FIRST_LO, R.FLT_FIRST_HI, R.FLT_FIRST_INFO, R.FLT_FIRST_TIME_LO, R.FLT_FIRST_TIME_HI, R.FLT_COUNT],
        t.rd o = 0) ∧ t.on F.FLT_STAT_FIRST_VALID = false ∧ SameRegsBut [R.FLT_FIRST_LO, R.FLT_FIRST_HI, R.FLT_FIRST_INFO,
        R.FLT_FIRST_TIME_LO, R.FLT_FIRST_TIME_HI, R.FLT_COUNT, R.FLT_STAT] s t ∧ SameMemory s t) ∧
    (∀ v, s.mayWrite r R.FLT_STICKY → ∃ t, exec (.stickyClear r v) s = .next t ∧ (∀ i < 32, t.on ⟨R.FLT_STICKY, i, 1⟩ =
      (s.on ⟨R.FLT_STICKY, i, 1⟩ && (!v.getLsbD i || bit s.srcLive i))) ∧ SameRegsBut [R.FLT_STICKY] s t ∧ OnlyRegs s t) ∧
    (∀ (k : Fin 32) (v : Word) (l : Nat), s.mayWrite r (R.FLT_MAP k) → l = v.toNat % 8 →
      (faultKind k = true → s.get (F.FLT_MAP_LEVEL k) < l → l ≤ 6 → ∃ t, exec (.fltMapWrite r k v) s = .next t ∧
        t.get (F.FLT_MAP_LEVEL k) = l ∧ SameRegsBut [R.FLT_MAP k] s t ∧ OnlyRegs s t) ∧
      (faultKind k = false → exec (.fltMapWrite r k v) s = .next s) ∧
      (faultKind k = true → l ≤ s.get (F.FLT_MAP_LEVEL k) ∨ l = 7 → ∃ t, exec (.fltMapWrite r k v) s = .next t ∧
        t.on F.FLT_STAT_MAP_REJECT = true ∧ SameRegsBut [R.FLT_STAT] s t ∧ OnlyRegs s t)) ∧
    (s.mayWrite r R.FLT_CTL → (r ≠ .cupola → ∀ c : Instr, c = .fltResume r ∨ c = .ldClr r → ∃ t, exec c s = .next t ∧
        t.cntGet R.GLB_DENIED = s.plus R.GLB_DENIED 1 ∧ t.on F.GLB_STAT_DENIED_ACC = true ∧
        SameRegsBut [R.GLB_STAT, R.GLB_DENIED_ADDR] s t ∧ SameMemory s t) ∧
      (r = .cupola → (s.reacting = true → exec (.fltResume r) s = .next s) ∧
        (s.reacting = false → s.on F.FLT_STAT_QUIESCED = true → ∃ t, exec (.fltResume r) s = .next t ∧
          t.on F.FLT_STAT_QUIESCED = false) ∧
        ∃ t, exec (.ldClr r) s = .next t ∧ t.rd R.FLT_LOCKDOWN_LO = 0 ∧ t.rd R.FLT_LOCKDOWN_HI = 0 ∧
          SameRegsBut [R.FLT_LOCKDOWN_LO, R.FLT_LOCKDOWN_HI] s t ∧ OnlyRegs s t)) ∧
    (s.mayRead r R.FLT_MSG0 → (∀ e l, s.fcr.history = e :: l → exec (.msgLatch r) s = .next { s with
        fcr := { s.fcr with latched := some e }, busOut := BitVec.ofNat 64 (e.msg.toNat % 2 ^ 32) }) ∧
      (s.fcr.history = [] → ∃ t, exec (.msgLatch r) s = .next t ∧ t.busOut = 0 ∧ t.fcr.latched = none)) ∧
    (s.mayRead r R.FLT_MSG3 → ∀ e, s.fcr.latched = some e → exec (.msgPop r) s = .next { s with
        fcr := { s.fcr with latched := none, history := s.fcr.history.drop 1 }, busOut := BitVec.ofNat 64 (e.timeUs % 2 ^ 32) }) ∧
    (∀ (e : AlmReq) (bad : Bool), s.power.cupUp = true → s.alm.buffer = [] → s.alm.summary = [] → s.alm.lost = 0 →
      ∃ t, exec (.almanacWrite e bad) s = .next t ∧ t.alm.buffer = [(s.time, ⟨0, s.alm.boots, e.time.toNat, e.etype.toNat,
        e.level.toNat, e.rtag.toNat, e.eflags.toNat % 4, e.subject.toNat, e.data.toNat, 1⟩)] ∧
        t.alm.retired = (if bad then min 255 (s.alm.retired + 1) else s.alm.retired) ∧ (bad = true → t.isPending 240 = true) ∧
        t.alm.written = s.alm.written ∧ SameRegsBut eventRegs s t ∧ SameMemory s t)

/-- O55. Pending bits, masks and MSI-X. The rise of a source sets its pending bit; a bit that is set already stays so
and delivers nothing; a masked source that may be masked delivers nothing either, and an unmasked one routed to Cupola
reaches its interrupt controller. A write of EVC_PEND clears exactly the bits written with 1 whose source is not still
asserted. A write of EVC_MASK stores the mask; a bit pending that it unmasks is delivered to Cupola where routed.
Enabling MSI-X in a function, or unmasking a vector, sends the messages that the PBA holds for it, once. -/
def Obligations.EventDelivery : Prop :=
  ∀ s : State,
    (∀ n : Fin 256, s.alive = true →
      (s.isPending n = true → exec (.eventRise n) s = .next s) ∧
      (s.isPending n = false → ∃ t, exec (.eventRise n) s = .next t ∧ (∀ m < 256, t.isPending m = (s.isPending m || m == n.val)) ∧
        (s.on (evcBit (R.EVC_MASK 0) n) = true → s.evcNonMask n = false → t.evc = s.evc) ∧
        (s.on (evcBit (R.EVC_MASK 0) n) = false → s.on (F.EVC_ROUTE_CUPOLA n) = true → n.val ∈ t.evc.cupIrq) ∧
        SameRegsBut [R.EVC_SAT, R.EVC_PEND (n.val / 32)] s t ∧ t = { s with regs := t.regs, evc := t.evc, cnt := t.cnt })) ∧
    (∀ (r : Req) (w : Fin 8) (v : Word), s.mayWrite r (R.EVC_PEND w) → ∃ t, exec (.evcPendClear r w v) s = .next t ∧
      (∀ i < 32, t.isPending (32 * w.val + i) = (s.isPending (32 * w.val + i) &&
        (!v.getLsbD i || s.evc.raw.contains (32 * w.val + i)))) ∧ SameRegsBut [R.EVC_SAT, R.EVC_PEND w] s t ∧
      t = { s with regs := t.regs, evc := t.evc, cnt := t.cnt }) ∧
    (∀ (r : Req) (w : Fin 8) (v : Word), s.mayWrite r (R.EVC_MASK w) → ∃ t, exec (.evcMaskWrite r w v) s = .next t ∧
      t.rd (R.EVC_MASK w) = v ∧ (∀ i < 32, v.getLsbD i = false → s.on (evcBit (R.EVC_MASK 0) (32 * w.val + i)) = true →
        s.isPending (32 * w.val + i) = true → s.evcNonMask (32 * w.val + i) = false →
        s.on (F.EVC_ROUTE_CUPOLA (32 * w.val + i)) = true → 32 * w.val + i ∈ t.evc.cupIrq) ∧
      SameRegsBut [R.EVC_SAT, R.EVC_MASK w] s t ∧ t = { s with regs := t.regs, evc := t.evc, cnt := t.cnt }) ∧
    (∀ f : Fin 32, s.power.hostUp = true →
      (∃ t, exec (.msixUnmask f .enable) s = .next t ∧ f.val ∈ t.evc.msixEnabled ∧
        t.evc.msixLog = s.evc.msixLog ++ s.evc.pba.filter (fun p => t.evc.msixEnabled.contains p.1 && s.evc.msixUnmasked.contains p) ∧
        t.evc.pba = s.evc.pba.filter (fun p => !(t.evc.msixEnabled.contains p.1 && s.evc.msixUnmasked.contains p)) ∧
        SameMemory s t) ∧
      ∀ n : Fin 64, n.val < msixVectors f → (f.val, n.val) ∉ s.evc.msixUnmasked → ∃ t, exec (.msixUnmask f (.vector n)) s = .next t ∧
        t.evc.msixUnmasked = s.evc.msixUnmasked ++ [(f.val, n.val)] ∧ t.evc.msixEnabled = s.evc.msixEnabled ∧
        t.evc.msixLog = s.evc.msixLog ++ s.evc.pba.filter (fun p => s.evc.msixEnabled.contains p.1 && t.evc.msixUnmasked.contains p) ∧
        SameMemory s t)

/-- O56. Clock sources, the switchable clocks, rails and the PCIe link. With CPM out of reset. A failure clears READY
of its source alone, is kept in CKG_STAT, counted, reported as KIND 0x11 and raises event 220; SYSCLK also moves the
management domain to IROSC and holds SVC's clock; SDREFCLK_A and B take their eight ports down, A moves the PTP time
base; HBM_REFCLK clears CTS READY, and gone for over 10 ms it leads to a system reset. A source that is READY again is
shown so; memory is then READY. A field of CKG_SEL that selects a source that is not READY keeps its value and
SEL_REJECT is set. A rail out of range is reported as KIND 0x14; a sample with all rails in range ends that condition.
The PCIe link brings the host up. -/
def Obligations.ClocksAndSupplies : Prop :=
  ∀ s : State,
    (∀ c : Fin 6, s.cpmUp = true → c.val ≠ 5 → s.clockReady c = true → ∃ t, exec (.clockFailure c) s = .next t ∧
      t.clockReady c = false ∧ (∀ d, d ≠ c.val → t.clockReady d = s.clockReady d) ∧ t.on ⟨R.CKG_STAT, 8 + c.val, 1⟩ = true ∧
      t.cntGet (R.PWR_CNT 4) = s.plus (R.PWR_CNT 4) 1 ∧ t.isPending 220 = true ∧ (∃ n, faultMsg 0x101 0x11 0 n 0 ∈ t.fcr.transit) ∧
      (c.val = 0 → t.on F.CKG_SEL_MGMT_SRC = true ∧ t.cpm.svcHold = true) ∧
      (c.val = 1 → (∀ p < 8, t.on (F.LIF_PSTAT_LINK_UP p) = false) ∧
        (s.on F.CKG_SEL_PTP_AUTO = true → s.clockReady 2 = true → t.on F.CKG_SEL_PTP_SRC = true)) ∧
      (c.val = 2 → ∀ p < 8, t.on (F.LIF_PSTAT_LINK_UP (8 + p)) = false) ∧ (c.val = 4 → t.on F.CTS_STAT_READY = false)) ∧
    (∀ c : Fin 6, s.cpmUp = true → s.clockReady c = false →
      (c.val ≠ 4 → ∃ t, exec (.clockReady c) s = .next t ∧ t.clockReady c = true ∧
        (∀ d, d ≠ c.val → t.clockReady d = s.clockReady d) ∧ t = { s with cpm := t.cpm, fcr := t.fcr }) ∧
      (c.val = 4 → s.mpe.key.isSome = true → s.get F.CTS_STAT_STACK_FAULT = 0 → 7 ≤ s.milestone →
        ∃ t, exec (.clockReady c) s = .next t ∧ t.clockReady 4 = true ∧ t.on F.CTS_STAT_READY = true ∧
          SameRegsBut [R.CTS_STAT] s t ∧ SameMemory s t)) ∧
    (∀ (r : Req) (v : Word), s.mayWrite r R.CKG_SEL → ∃ t, exec (.ckgSelWrite r v) s = .next t ∧
      (∀ e ∈ [(0, if v.getLsbD 0 then 5 else 0), (1, if v.getLsbD 1 then 2 else 1), (2, if v.getLsbD 2 then 2 else 1)],
        t.on ⟨R.CKG_SEL, e.1, 1⟩ = (if s.clockReady e.2 then v.getLsbD e.1 else s.on ⟨R.CKG_SEL, e.1, 1⟩) ∧
        (s.clockReady e.2 = false → t.on F.CKG_STAT_SEL_REJECT = true)) ∧
      t.on F.CKG_SEL_PTP_AUTO = v.getLsbD 3 ∧ SameRegsBut (R.CKG_SEL :: R.CKG_STAT :: eventRegs) s t ∧ SameMemory s t) ∧
    (s.cpmUp = true → s.clockReady 4 = false → s.power.cupUp = true → ∃ t, exec .hbmRefclkLongLoss s = .next t ∧
      t.power.sysHeld = true ∧ t.power.cupUp = false ∧ t.rd R.PWR_RST_CAUSE = 4) ∧
    (∀ rail, s.cpmUp = true → ∃ t, exec (.supplyOutOfRange rail) s = .next t ∧ Reports 0x101 0x14 0 0 s t ∧
      sget (fun _ => 0) t.fcr.live (0x101 * 64 + 0x14) = 1 ∧ t = { s with fcr := t.fcr }) ∧
    (∀ v : Rails, s.power.cupUp = true → ∃ t, exec (.railSample v) s = .next t ∧
      t.cup.rails = [v.sram, v.vgl, v.io, v.sdL, v.sdH, v.hbmQ, v.hbm, v.vpp].map BitVec.toNat ∧
      ((t.cup.rails.zip railRange).all (fun e => railIn e.1 e.2) = true → sget (fun _ => 0) t.fcr.live (0x101 * 64 + 0x14) = 0) ∧
      t = { s with cup := { s.cup with rails := t.cup.rails }, fcr := t.fcr }) ∧
    (s.power.coreUp = true → s.on F.GLB_STRAP_HOST_EN = true → s.clockReady 3 = true → s.inReset 11 = false → s.inVigil = false →
      s.cpm.tripped = false → exec .pcieLinkUp s = .next { s with power := { s.power with hostUp := true } })

/-- O57. The Pace governor, the thermal limits and Boost. BOOST_REQ outside Boost is accepted exactly when BOOST_EN,
PWR_PACE.VALID and PRED_VALID are 1, TLIMIT, AVS_FAIL and PACE_LOW are 0, no Vigil, and the credit is at least
BOOST_MIN_S: VDD_CORE goes to 0.90 V and the governor stops; else BOOST_REJECT is set (and counted) and nothing
changes. BOOST is set at 0.90 V. BOOST_END, an empty credit, the thermal rule and AVS_FAIL end it with their cause, at
the governor's voltage, with event 216. A governor step moves VDD_CORE toward the target by at most 5 mV within 0.70
to 0.85 V. PACE_LOW, AVS_FAIL and its end, TLIMIT with its 5 °C, KIND 0x13 at TJ_CRIT and THERMTRIP at 125 °C are as
R556 to R560 say. -/
def Obligations.GovernorAndBoost : Prop :=
  ∀ s : State,
    (∀ r : Req, s.mayWrite r R.PWR_CTL → s.boosting = false →
      ((s.on F.PWR_CFG_BOOST_EN = true ∧ s.cpm.paceValid = true ∧ s.cpm.predValid = true ∧ s.on F.PWR_STAT_TLIMIT = false ∧
          s.on F.PWR_STAT_AVS_FAIL = false ∧ s.on F.PWR_STAT_PACE_LOW = false ∧ s.on F.PWR_STAT_VIGIL = false ∧
          s.on F.PWR_STAT_VIGIL_TRANS = false ∧ s.get F.PWR_CFG_BOOST_MIN_S * 1000 ≤ s.boostCredit ↔ s.boostOk = true) ∧
        (s.boostOk = true → s.tjEffective < s.get F.PWR_THERM_TJ_BOOST → ∃ t, exec (.boostReq r 0) s = .next t ∧
          t.boosting = true ∧ t.cpm = { s.cpm with boostFrom := some s.time, vcore := 900 } ∧ t.on F.PWR_STAT_RAMP = true ∧
          t.on F.PWR_STAT_GOV_RUN = false ∧ t.cntGet (R.PWR_CNT 0) = s.plus (R.PWR_CNT 0) 1 ∧
          SameRegsBut [R.PWR_STAT, R.PWR_SAT] s t ∧ SameMemory s t) ∧
        (s.boostOk = false → ∃ t, exec (.boostReq r 0) s = .next t ∧ t.on F.PWR_STAT_BOOST_REJECT = true ∧
          t.cntGet (R.PWR_CNT 2) = s.plus (R.PWR_CNT 2) 1 ∧ SameRegsBut [R.PWR_STAT, R.PWR_SAT] s t ∧
          t = { s with regs := t.regs, cnt := t.cnt }))) ∧
    (s.boosting = true → s.on F.PWR_STAT_RAMP = true → ∃ t, exec .boostRampDone s = .next t ∧ t.on F.PWR_STAT_BOOST = true ∧
      t.on F.PWR_STAT_RAMP = false ∧ t.isPending 216 = true ∧ t.cpm = s.cpm ∧ SameRegsBut (R.PWR_STAT :: eventRegs) s t) ∧
    (∀ (r : Req) (tj pred : BitVec 8) (e : Instr × Nat), (e = (.boostEnd r 0, 1) ∧ s.mayWrite r R.PWR_CTL) ∨
      (e = (.boostCreditExhausted, 2) ∧ s.boostCredit = 0) ∨ (e = (.avsFail, 5) ∧ s.cpmUp = true ∧ s.on F.PWR_STAT_AVS_FAIL = false) ∨
      (e = (.tempSample tj pred true, 3) ∧ s.cpmUp = true ∧ tj.toInt < 125 ∧ (s.get F.PWR_THERM_TJ_BOOST : Int) ≤ pred.toInt) →
      s.boosting = true → ∃ t, exec e.1 s = .next t ∧ t.boosting = false ∧ t.get F.PWR_STAT_EXIT_CAUSE = e.2 ∧
        t.on F.PWR_STAT_BOOST = false ∧ t.on F.PWR_STAT_RAMP = false ∧ t.cpm.vcore = s.cpm.govMv ∧ t.isPending 216 = true) ∧
    (∀ (idx : BitVec 10) (mon : Fin 32), s.power.coreUp = true → s.cpmUp = true → s.inVigil = false →
      (s.cpm.paceValid = false → ∃ t, exec (.paceValid idx mon) s = .next t ∧
        t.cpm = { s.cpm with paceValid := true, pace := idx.toNat, paceMon := mon } ∧
        t.on F.PWR_STAT_GOV_RUN = (!s.on F.PWR_STAT_AVS_FAIL && !s.boosting) ∧ SameRegsBut [R.PWR_STAT] s t ∧ SameMemory s t) ∧
      (s.cpm.paceValid = true → ∃ t, exec (.governorStep idx mon) s = .next t ∧ t.cpm.pace = idx.toNat ∧
        SameRegsBut [R.PWR_STAT] s t ∧ SameMemory s t ∧
        (s.boosting = true ∨ s.on F.PWR_STAT_AVS_FAIL = true → t.cpm.vcore = s.cpm.vcore) ∧
        (s.boosting = false → s.on F.PWR_STAT_AVS_FAIL = false → 700 ≤ s.cpm.govMv → s.cpm.govMv ≤ 850 →
          t.cpm.vcore = t.cpm.govMv ∧ 700 ≤ t.cpm.govMv ∧ t.cpm.govMv ≤ 850 ∧
          (idx.toNat < s.paceTarget → s.cpm.govMv ≤ t.cpm.govMv ∧ t.cpm.govMv ≤ s.cpm.govMv + 5) ∧
          (s.paceTarget < idx.toNat → t.cpm.govMv ≤ s.cpm.govMv ∧ s.cpm.govMv ≤ t.cpm.govMv + 5)))) ∧
    (s.cpmUp = true → s.cpm.paceValid = true → s.boosting = false → s.vigilAny = false → s.cpm.vcore = 850 → s.cpm.pace < 256 →
      s.on F.PWR_STAT_PACE_LOW = false → ∃ t, exec .paceLow s = .next t ∧ t.on F.PWR_STAT_PACE_LOW = true ∧
        t.isPending 218 = true ∧ SameRegsBut (R.PWR_STAT :: eventRegs) s t ∧ SameMemory s t) ∧
    (s.cpmUp = true → s.on F.PWR_STAT_AVS_FAIL = false → ∃ t, exec .avsFail s = .next t ∧ t.on F.PWR_STAT_AVS_FAIL = true ∧
      t.on F.PWR_STAT_GOV_RUN = false ∧ Reports 0x101 0x14 0 0 s t ∧ t.isPending 221 = true ∧ SameMemory s t) ∧
    (s.cpmUp = true → s.on F.PWR_STAT_AVS_FAIL = true → ∃ t, exec .avsRecover s = .next t ∧ t.on F.PWR_STAT_AVS_FAIL = false ∧
      t.on F.PWR_STAT_GOV_RUN = (s.cpm.paceValid && !s.boosting && !s.inVigil) ∧ SameRegsBut [R.PWR_STAT] s t ∧ OnlyRegs s t) ∧
    (∀ (tj pred : BitVec 8) (pv : Bool), s.cpmUp = true → (tj.toInt < 125 → ∃ t, exec (.tempSample tj pred pv) s = .next t ∧
        t.cpm.tjMax = tj ∧ t.cpm.tjPred = pred ∧ t.cpm.predValid = pv ∧
        t.on F.PWR_STAT_TLIMIT = (if (s.get F.PWR_THERM_TJ_LIMIT : Int) ≤ tj.toInt then true
          else if tj.toInt < (s.get F.PWR_THERM_TJ_LIMIT : Int) - 5 then false else s.on F.PWR_STAT_TLIMIT) ∧
        (s.on F.PWR_STAT_TLIMIT ≠ t.on F.PWR_STAT_TLIMIT → t.isPending 217 = true) ∧
        ((s.get F.PWR_THERM_TJ_CRIT : Int) ≤ tj.toInt → (s.cpm.crit ≠ 1 → Reports 0x101 0x13 0 0 s t) ∧
          (s.cpm.crit = 1 → t.fcr.transit = s.fcr.transit)) ∧ SameMemory s t) ∧
      (125 ≤ tj.toInt → ∃ t, exec (.tempSample tj pred pv) s = .next t ∧ t.cpm.tripped = true ∧ t.power.sysHeld = true ∧
        t.power.cupUp = false ∧ t.cpmUp = false))

/-- O58. Entry into Vigil and exit from it, warm restarts, and images delivered to a waiting boot. A Vigil request by
PWR_CTL or the enabled pin before milestone 7 or in a life-cycle transition only sets VIGIL_REJECT; one that is
accepted ends Boost, stops SVC, drops every frame, takes down every port but the Vigil pair. During an exit it waits;
in Vigil or an entry it changes nothing. The end of an entry gates JQM, the host and SVC at 0.70 V, keeps the memory
key, counts and raises 219. An exit request restarts the governor at 0.80 V; during an entry it waits. Its end clears
VIGIL. A warm restart reloads checked firmware, counts and raises 228; the fourth Cupola reset in 60 s, or a bad copy,
resets the system. An image that passes its checks is written to both copies and the boot goes on from it. A lockstep
mismatch reports KIND 0x05. -/
def Obligations.VigilAndRestarts : Prop :=
  ∀ s : State,
    (∀ (c : Instr) (r : Req), (c = .vigilReq r 0 ∧ s.mayWrite r R.PWR_CTL) ∨
        (c = .vigilPinRequest ∧ s.cpmUp = true ∧ s.on F.PWR_CFG_VIGIL_PIN_EN = true) →
      (s.on F.PWR_STAT_VIGIL = true → s.on F.PWR_STAT_VIGIL_TRANS = true →
        exec c s = .next { s with cpm := { s.cpm with entryWaits := true } }) ∧
      (s.on F.PWR_STAT_VIGIL ≠ s.on F.PWR_STAT_VIGIL_TRANS → exec c s = .next s) ∧
      (s.on F.PWR_STAT_VIGIL = false → s.on F.PWR_STAT_VIGIL_TRANS = false →
        (s.milestone < 7 ∨ s.on F.LCS_STAT_IN_TRANSITION = true → exec c s = .next (s.set F.PWR_STAT_VIGIL_REJECT)) ∧
        (7 ≤ s.milestone → s.on F.LCS_STAT_IN_TRANSITION = false → ∃ t, exec c s = .next t ∧
          t.on F.PWR_STAT_VIGIL_TRANS = true ∧ t.on F.PWR_STAT_VIGIL = false ∧ t.boosting = false ∧ t.power.svcUp = false ∧
          (∀ i, t.frame? i = none) ∧ (∀ p < 16, p ∉ s.vigilPair → t.on (F.LIF_PCTL_EN p) = false ∧ t.on (F.LIF_PSTAT_LINK_UP p) = false) ∧
          ∀ p ∈ s.vigilPair, t.on (F.LIF_PCTL_EN p) = true ∧ t.on (F.LIF_PSTAT_VIGIL p) = true))) ∧
    (∀ (c : Instr) (r : Req), (c = .vigilExit r 0 ∧ s.mayWrite r R.PWR_CTL) ∨
        (c = .vigilPinExit ∧ s.cpmUp = true ∧ s.on F.PWR_CFG_VIGIL_PIN_EN = true) →
      (s.on F.PWR_STAT_VIGIL = false → s.on F.PWR_STAT_VIGIL_TRANS = true →
        exec c s = .next { s with cpm := { s.cpm with exitWaits := true } }) ∧
      (s.on F.PWR_STAT_VIGIL = s.on F.PWR_STAT_VIGIL_TRANS → exec c s = .next s) ∧
      (s.on F.PWR_STAT_VIGIL = true → s.on F.PWR_STAT_VIGIL_TRANS = false → ∃ t, exec c s = .next t ∧
        t.on F.PWR_STAT_VIGIL = true ∧ t.on F.PWR_STAT_VIGIL_TRANS = true ∧ t.cpm.vcore = 800 ∧ t.cpm.paceValid = false ∧
        t.mpe = s.mpe ∧ SameMemory s t)) ∧
    (s.on F.PWR_STAT_VIGIL = false → s.on F.PWR_STAT_VIGIL_TRANS = true → s.cpm.exitWaits = false →
      ∃ t, exec .vigilEntryDone s = .next t ∧ t.on F.PWR_STAT_VIGIL = true ∧ t.on F.PWR_STAT_VIGIL_TRANS = false ∧
        t.cpm.vcore = 700 ∧ t.power.jqmUp = false ∧ t.power.hostUp = false ∧ t.power.svcUp = false ∧ t.mpe.key = s.mpe.key ∧
        t.cntGet (R.PWR_CNT 3) = s.plus (R.PWR_CNT 3) 1 ∧ t.isPending 219 = true) ∧
    (s.on F.PWR_STAT_VIGIL = true → s.on F.PWR_STAT_VIGIL_TRANS = true → s.cpm.entryWaits = false → s.blf.stored = [] →
      ∃ t, exec .vigilExitDone s = .next t ∧ t.on F.PWR_STAT_VIGIL = false ∧ t.on F.PWR_STAT_VIGIL_TRANS = false ∧
        t.power.jqmUp = s.mayRelease ∧ t.power.ippUp = s.mayRelease ∧ t.isPending 219 = true) ∧
    (∀ img n, s.power.pwrOk = true → s.power.sysHeld = false → s.power.cupUp = false → s.cpm.tripped = false → 7 ≤ s.milestone →
      img = (if s.pushed then s.cup.boot else s.readCopy 1 (s.get F.CUP_BOOT_STAT_BOOT_COPY)) →
      n = (s.cup.restarts.filter (fun t => decide (s.time < t + 60000000000))).length →
      (n < 4 → s.copyCheck 1 img = 0 → ∃ t, exec .warmRestart s = .next t ∧ t.power = { s.power with cupUp := true } ∧
        t.get F.CUP_RESTARTS_COUNT = min 255 (s.get F.CUP_RESTARTS_COUNT + 1) ∧ t.isPending 228 = true ∧ t.cup = s.cup ∧
        SameRegsBut (R.CUP_RESTARTS :: eventRegs) s t ∧ SameMemory s t) ∧
      (4 ≤ n ∨ s.copyCheck 1 img ≠ 0 → ∃ t, exec .warmRestart s = .next t ∧ t.power.sysHeld = true ∧ t.rd R.PWR_RST_CAUSE = 4)) ∧
    (∀ img : List Byte, s.power.cupUp = true → s.pushed = false → img.length ≤ 0x800000 →
      (s.bootMode = 3 → (s.copyCheck 1 img ≠ 0 → exec (.romRecoveryImage img) s =
          .next { s with cup := { s.cup with bootFail := (s.copyCheck 1 img, s.copyCheck 1 img) } }) ∧
        (s.copyCheck 1 img = 0 → ∃ u : State, exec (.romRecoveryImage img) s = .next u.bootGo ∧ u.bootMode = 0 ∧ u.milestone = 1 ∧
          ∀ i < img.length, ∀ b ∈ [0x10000, 0xC10000], sget flashDefault u.cup.flash (b + i) = img.getD i 0)) ∧
      (s.bootMode = 2 → s.dead = false → s.fullCheck (s.copyCheck 2 img) img = 0 → ∃ u : State,
        exec (.recoveryImage img) s = .next u.bootGo ∧ u.bootMode = 0 ∧ u.milestone = 4 ∧ u.cup.cfg = img ∧
          ∀ i < img.length, ∀ b ∈ [0x1810000, 0x2010000], sget flashDefault u.cup.flash (b + i) = img.getD i 0)) ∧
    (s.power.cupUp = true → ∃ t, exec .lockstepMismatch s = .next t ∧ Reports 0x10A 0x05 0 0 s t ∧
      t.cntGet (R.CUP_CNT 2) = s.plus (R.CUP_CNT 2) 1 ∧ SameRegsBut [R.CUP_SAT] s t ∧ SameMemory s t)

/-- O59. GO, ABORT, the SMBus window and the status commands. GO while BUSY only sets GO_REJECT; else BUSY is set and
counted, and a frame that is refused is answered at once, without its command. ABORT clears BUSY. On the SMBus,
MBX_WRITE appends to the request, MBX_READ returns response bytes and advances, MBX_STATUS reads the four flags; a
block with a bad PEC is discarded, the frame under construction dropped, and the next MBX_STATUS reads GO_REJECT.
BOOT_STATUS, VERSIONS, SENSORS and ALMANAC_READ answer OK with their bytes, an empty range NOT_FOUND. -/
def Obligations.MailboxWindows : Prop :=
  (∀ (s u : State) (r : Req) (n : Fin 2) (w : MbxWin), winNo w = some n.val → s.mayWrite r (R.MBX_CTL n) →
    (s.on (F.MBX_STAT_BUSY n) = true → exec (.mbxGo w r) s = .next (s.set (F.MBX_STAT_GO_REJECT n))) ∧
    (s.on (F.MBX_STAT_BUSY n) = false → u = { s with cup := { s.cup with
        goBy := if n = 0 then (reqCode r, s.cup.goBy.2) else (s.cup.goBy.1, reqCode r) } } →
      (u.mbxServes = false ∨ u.verdict w = none → ∃ t, exec (.mbxGo w r) s = .next t ∧ t.on (F.MBX_STAT_BUSY n) = true ∧
        t.cntGet (R.CUP_CNT 0) = s.plus (R.CUP_CNT 0) 1 ∧ SameRegsBut [R.MBX_STAT n, R.CUP_SAT] s t ∧
        t = { u with regs := t.regs, cnt := t.cnt }) ∧
      (∀ c, u.mbxServes = true → u.verdict w = some c → ∃ t, exec (.mbxGo w r) s = .next t ∧ Answered w c 0 [] s t ∧
        SameMemory s t)) ∧
    (∃ t, exec (.mbxAbort w r) s = .next t ∧ t.on (F.MBX_STAT_BUSY n) = false ∧ SameRegsBut [R.MBX_STAT n] s t ∧ OnlyRegs s t)) ∧
  (∀ (s : State) (m : SmbSt), m = s.cup.smb → s.power.cupUp = true →
    (∀ r, m.busy = true → exec (.mbxGo .smbus r) s = .next { s with cup := { s.cup with smb := { m with reject := true } } }) ∧
    (∀ r, m.busy = false → s.mbxServes = false ∨ s.verdict .smbus = none → ∃ t, exec (.mbxGo .smbus r) s = .next t ∧
      t.cup = { s.cup with smb := { m with busy := true, done := false } } ∧ t.cntGet (R.CUP_CNT 0) = s.plus (R.CUP_CNT 0) 1) ∧
    (∀ bs : List Byte, bs.length ≤ 255 → m.busy = false →
      exec (.mbxWrite bs true) s = .next { s with cup := { s.cup with smb := { m with req := m.req ++ bs } } } ∧
      exec (.mbxWrite bs false) s = .next { s with cup := { s.cup with smb := { m with req := [], reject := true } } }) ∧
    (∀ n : BitVec 8, ∃ bs, bs = slice m.rsp m.pos n.toNat ∧
      exec (.mbxRead n) s = .next { s with cup := { s.cup with smb := { m with pos := m.pos + bs.length, out := bs } } }) ∧
    (∃ t b, exec .mbxStatus s = .next t ∧ t.cup = { s.cup with smb := { m with out := [b], reject := false, restarted := false } } ∧
      t = { s with cup := t.cup } ∧ b.getLsbD 0 = m.busy ∧ b.getLsbD 1 = m.done ∧ b.getLsbD 2 = m.reject ∧ b.getLsbD 3 = m.restarted ∧
      b.toNat < 16)) ∧
  (∀ (s : State) (w : MbxWin) (p : List Byte),
    (s.serves w 0 0x01 p → ∃ t, exec (.bootStatus w) s = .next t ∧ Answered w mbOk 0 s.bootStatusBytes s t ∧ SameMemory s t) ∧
    (s.serves w 0 0x02 p → ∃ t b, exec (.mbxSensors w) s = .next t ∧ b.length = 32 ∧ Answered w mbOk 0 b s t ∧
      b.take 2 = [s.cpm.tjMax, s.cpm.tjPred] ∧ SameMemory s t) ∧
    (s.serves w 0 0x04 p → ∃ t, exec (.mbxVersions w) s = .next t ∧ Answered w mbOk 0 s.versionBytes s t ∧ SameMemory s t) ∧
    (∀ es, s.serves w 0 0x03 p → 1 ≤ byteAt p 8 → byteAt p 8 ≤ 63 → s.alm.buffer = [] → s.alm.summary = [] → s.alm.lost = 0 →
      es = (s.alm.written.filter (fun e => decide (leAt p 0 8 ≤ e.aseq))).take (byteAt p 8) → ∃ t, exec (.almanacRead w) s = .next t ∧
        (es ≠ [] → Answered w mbOk es.length (es.flatMap AlmEntry.bytes) s t) ∧ (es = [] → Answered w mbNotFound 0 [] s t) ∧
        t.alm.written = s.alm.written ∧ SameMemory s t))

/-- O60. Update sessions, commits, activation and owner keys. UPDATE_BEGIN opens the one session and erases the
sectors that cover its length; another answers BUSY. UPDATE_DATA in order is stored in the copies being written; out
of order it changes nothing. UPDATE_END of an image that fails a check answers CHECK_FAILED with its number, erases
the first sector; of a good one OK, counted, leaving what runs; both raise event 226. CANCEL and 60 s without a
command end the session with the first sector erased. A commit after milestone 7, or AUTO_COMMIT 600 s later, raises
each counter to the SVN that runs and lowers none. ACTIVATE resets the system 1 ms later. CFGKEY_PROGRAM programs a
blank slot in PROVISION; CFGKEY_REVOKE revokes one unless no usable slot would be left. -/
def Obligations.UpdatesCommitsKeys : Prop :=
  ∀ (s : State) (w : MbxWin) (p : List Byte),
    (∀ x n, s.serves w 0 0x10 p → x = byteAt p 0 → n = leAt p 4 4 →
      (s.cup.upd ≠ none → ∃ t, exec (.updateBegin w) s = .next t ∧ Answered w mbBusy 0 [] s t ∧ SameMemory s t) ∧
      (s.cup.upd = none → x = 1 ∨ x = 2 → n ≤ copySize x → s.mayBegin w x = true → s.awaits x = false →
        ∃ t, exec (.updateBegin w) s = .next t ∧ Answered w mbInProgress 0 [] s t ∧
          t.cup.upd = some ⟨winHolder w, x, n, 0, s.time, none⟩ ∧ t.get F.CUP_UPD_STAT_PHASE = 1 ∧
          (∀ c ∈ s.updCopies x, ∀ i < n, sget flashDefault t.cup.flash (copyBase x c + i) = 0xFF))) ∧
    (∀ u : UpdSt, s.cup.upd = some u →
      (s.power.cupUp = true → s.get F.CUP_UPD_STAT_PHASE = 1 → ∃ t, exec .updateEraseDone s = .next t ∧
        t.get F.CUP_UPD_STAT_PHASE = 2 ∧ SameRegsBut [R.CUP_UPD_STAT] s t ∧ OnlyRegs s t) ∧
      (s.power.cupUp = true → u.last + 60000000000 ≤ s.time → ∃ t, exec .updateTimeout s = .next t ∧ t.cup.upd = none ∧
        t.get F.CUP_UPD_STAT_ABNORMAL = min 0xFFFF (s.get F.CUP_UPD_STAT_ABNORMAL + 1)) ∧
      (u.holder = winHolder w → u.stage = none → u.target = 1 ∨ u.target = 2 → u.length ≤ copySize u.target →
        (s.get F.CUP_UPD_STAT_PHASE = 2 →
          (∀ bs, s.serves w 0 0x11 p → bs = p.drop 4 → leAt p 0 4 = u.next → u.next + bs.length ≤ u.length →
            ∃ t, exec (.updateData w) s = .next t ∧ Answered w mbOk 0 [] s t ∧
              t.cup.upd = some { u with next := u.next + bs.length, last := s.time } ∧
              ∀ c ∈ s.updCopies u.target, ∀ i < bs.length,
                sget flashDefault t.cup.flash (copyBase u.target c + u.next + i) = bs.getD i 0) ∧
          (s.serves w 0 0x11 p → leAt p 0 4 ≠ u.next → ∃ t, exec (.updateData w) s = .next t ∧
            Answered w mbOutOfOrder 0 [] s t ∧ t.cup.upd = some { u with last := s.time } ∧ SameMemory s t) ∧
          (s.serves w 0 0x12 p → u.next = u.length → s.updCheck u ≠ 0 → ∃ t, exec (.updateEnd w) s = .next t ∧
            Answered w mbCheckFailed (s.updCheck u) [] s t ∧ t.cup.upd = none ∧ t.isPending 226 = true ∧
            t.cntGet (R.CUP_CNT 5) = s.plus (R.CUP_CNT 5) 1 ∧
            ∀ c ∈ s.updCopies u.target, ∀ i < sectorSize, sget flashDefault t.cup.flash (copyBase u.target c + i) = 0xFF) ∧
          (s.serves w 0 0x12 p → u.next = u.length → s.updCheck u = 0 → s.bootMode ≠ 2 → s.bootMode ≠ 3 → ∃ t, exec (.updateEnd w) s = .next t ∧
            Answered w mbOk 0 [] s t ∧ t.cup.upd = none ∧ t.isPending 226 = true ∧ t.cntGet (R.CUP_CNT 4) = s.plus (R.CUP_CNT 4) 1 ∧
            t.cup.boot = s.cup.boot ∧ t.cup.cfg = s.cup.cfg ∧ SameMemory s t)) ∧
        (s.serves w 0 0x14 p → ∃ t, exec (.updateCancel w) s = .next t ∧ Answered w mbOk 0 [] s t ∧ t.cup.upd = none ∧
          ∀ c ∈ s.updCopies u.target, ∀ i < sectorSize, sget flashDefault t.cup.flash (copyBase u.target c + i) = 0xFF))) ∧
    (s.serves w 0 0x13 p → ∃ t, exec (.updateStatus w) s = .next t ∧
      Answered w mbOk 0 (natLE 4 (s.rd R.CUP_UPD_STAT).toNat) s t ∧ SameMemory s t) ∧
    (∀ c : Instr, (c = .arbCommit w ∧ s.serves w 0 0x15 p ∧ 7 ≤ s.milestone) ∨ (∃ x, c = .autoCommit ∧ s.power.cupUp = true ∧
        s.on F.CUP_CFG_AUTO_COMMIT = true ∧ s.cup.calm = true ∧ s.cup.ms7At = some x ∧ x + 600000000000 ≤ s.time) →
      ∃ t, exec c s = .next t ∧ t.cup.arbFw = max s.cup.arbFw (s.get F.CUP_SVN_FW) ∧
        t.cup.arbUc = max s.cup.arbUc (s.get F.CUP_SVN_UCODE) ∧ t.cup.arbCfg = max s.cup.arbCfg (s.get F.CUP_SVN_CFG) ∧
        (t.cup.arbFw ≠ s.cup.arbFw ∨ t.cup.arbUc ≠ s.cup.arbUc ∨ t.cup.arbCfg ≠ s.cup.arbCfg → t.isPending 227 = true) ∧
        (c = .arbCommit w → Answered w mbOk 0 [] s t) ∧ SameMemory s t) ∧
    (s.serves w 0 0x15 p → s.milestone < 7 → ∃ t, exec (.arbCommit w) s = .next t ∧ Answered w mbDenied 0 [] s t ∧ SameMemory s t) ∧
    (s.serves w 0 0x16 p → ∃ t, exec (.mbxActivate w) s = .next t ∧ Answered w mbOk 0 [] s t ∧
      t.cup.activateAt = some (s.time + 1000000) ∧ SameMemory s t) ∧
    (∀ i, s.serves w 0 0x20 p → i = byteAt p 0 → i < 4 → allZero (slice p 1 3) = true →
      (s.get F.LCS_STATE_STATE = 2 → (∀ e ∈ s.cup.keys, e.1 ≠ i) → ∃ t, exec (.cfgkeyProgram w) s = .next t ∧
        Answered w mbOk 0 [] s t ∧ t.cup.keys = s.cup.keys ++ [(i, ⟨slice p 4 48, 0xA55A, false⟩)] ∧ SameMemory s t) ∧
      (s.get F.LCS_STATE_STATE ≠ 2 ∨ (∃ e ∈ s.cup.keys, e.1 = i) → ∃ t, exec (.cfgkeyProgram w) s = .next t ∧
        Answered w mbDenied 0 [] s t ∧ t.cup.keys = s.cup.keys ∧ SameMemory s t)) ∧
    (∀ i, s.serves w 0 0x21 p → i = byteAt p 0 → i < 4 → s.get F.LCS_STATE_STATE = 2 ∨ s.get F.LCS_STATE_STATE = 3 →
      (∃ e ∈ s.cup.keys, e.1 = i) →
      ((∃ e ∈ s.usableKeys, e.1 ≠ i) → ∃ t, exec (.cfgkeyRevoke w) s = .next t ∧ Answered w mbOk 0 [] s t ∧
        t.cup.keys = s.cup.keys.map (fun e => if e.1 = i then (i, { e.2 with revoked := true }) else e) ∧ SameMemory s t) ∧
      ((∀ e ∈ s.usableKeys, e.1 = i) → (∃ e ∈ s.cup.keys, e.2.done = 0xA55A) → ∃ t, exec (.cfgkeyRevoke w) s = .next t ∧
        Answered w mbDenied 0 [] s t ∧ t.cup.keys = s.cup.keys ∧ SameMemory s t))
end

