-- ==== Sys2Proof/Laws/Sparse.lean ====
section
/-! SUPPORT. Laws of sparse maps: read after write, and that every operation keeps the canonical form. -/

namespace Sys2Proof.Machine

variable {α : Type}

/-- Every key of a list is above a bound. -/
def above (k : Nat) (m : List (Nat × α)) : Prop := ∀ e ∈ m, k < e.1

theorem sorted_cons (a : Nat × α) (m : List (Nat × α)) : sorted (a :: m) = true ↔ above a.1 m ∧ sorted m = true := by
  induction m generalizing a with
  | nil => simp [sorted, above]
  | cons b m ih =>
    rw [sorted, Bool.and_eq_true, decide_eq_true_eq, ih b]
    constructor
    · rintro ⟨h, hb, hs⟩
      refine ⟨?_, hb, hs⟩
      intro e he
      rcases List.mem_cons.1 he with rfl | he
      · exact h
      · exact lt_trans h (hb e he)
    · rintro ⟨h, hb, hs⟩
      exact ⟨h b (List.mem_cons_self ..), hb, hs⟩

theorem sorted_filter (p : Nat × α → Bool) (m : List (Nat × α)) (h : sorted m = true) : sorted (m.filter p) = true := by
  induction m with
  | nil => rfl
  | cons a m ih =>
    obtain ⟨ha, hs⟩ := (sorted_cons a m).1 h
    by_cases hp : p a = true
    · rw [List.filter_cons_of_pos hp]
      exact (sorted_cons _ _).2 ⟨fun e he => ha e (List.mem_of_mem_filter he), ih hs⟩
    · rw [List.filter_cons_of_neg hp]
      exact ih hs

theorem mem_sins (k : Nat) (v : α) (m : List (Nat × α)) (e : Nat × α) : e ∈ sins k v m ↔ e = (k, v) ∨ e ∈ m := by
  induction m with
  | nil => simp [sins]
  | cons a m ih =>
    unfold sins
    split
    · simp
    · simp only [List.mem_cons, ih]
      tauto

theorem sorted_sins (k : Nat) (v : α) (m : List (Nat × α)) (h : sorted m = true) (hk : ∀ e ∈ m, e.1 ≠ k) :
    sorted (sins k v m) = true := by
  induction m with
  | nil => rfl
  | cons a m ih =>
    obtain ⟨ha, hs⟩ := (sorted_cons a m).1 h
    unfold sins
    split
    · rename_i hlt
      refine (sorted_cons _ _).2 ⟨?_, h⟩
      intro e he
      rcases List.mem_cons.1 he with rfl | he
      · exact hlt
      · exact lt_trans hlt (ha e he)
    · rename_i hlt
      have hne : a.1 ≠ k := hk a (List.mem_cons_self ..)
      refine (sorted_cons _ _).2 ⟨?_, ih hs (fun e he => hk e (List.mem_cons_of_mem _ he))⟩
      intro e he
      rcases (mem_sins k v m e).1 he with rfl | he
      · show a.1 < k
        omega
      · exact ha e he

theorem serase_ne (m : List (Nat × α)) (k : Nat) : ∀ e ∈ serase m k, e.1 ≠ k := by
  intro e he
  have := (List.mem_filter.1 he).2
  simpa using this

section wf
variable [DecidableEq α] (d : Nat → α)

theorem swf_iff (m : List (Nat × α)) : swf d m = true ↔ sorted m = true ∧ ∀ e ∈ m, e.2 ≠ d e.1 := by
  simp [swf]

@[simp] theorem swf_nil : swf d ([] : List (Nat × α)) = true := rfl

theorem swf_filter (p : Nat × α → Bool) (m : List (Nat × α)) (h : swf d m = true) : swf d (m.filter p) = true := by
  rw [swf_iff] at h ⊢
  exact ⟨sorted_filter p m h.1, fun e he => h.2 e (List.mem_of_mem_filter he)⟩

theorem swf_serase (m : List (Nat × α)) (k : Nat) (h : swf d m = true) : swf d (serase m k) = true :=
  swf_filter d _ m h

/-- A write keeps the canonical form. -/
theorem swf_sput (m : List (Nat × α)) (k : Nat) (v : α) (h : swf d m = true) : swf d (sput d m k v) = true := by
  unfold sput
  split
  · exact swf_serase d m k h
  · rename_i hv
    have he := swf_serase d m k h
    rw [swf_iff] at he ⊢
    refine ⟨sorted_sins k v _ he.1 (serase_ne m k), ?_⟩
    intro e hmem
    rcases (mem_sins k v _ e).1 hmem with rfl | hmem
    · exact hv
    · exact he.2 e hmem

omit [DecidableEq α] in
theorem sorted_map_keys (f : Nat → α → α) (m : List (Nat × α)) (h : sorted m = true) :
    sorted (m.map (fun e => (e.1, f e.1 e.2))) = true := by
  induction m with
  | nil => rfl
  | cons a m ih =>
    obtain ⟨ha, hs⟩ := (sorted_cons a m).1 h
    rw [List.map_cons]
    refine (sorted_cons _ _).2 ⟨?_, ih hs⟩
    intro e he
    obtain ⟨b, hb, rfl⟩ := List.mem_map.1 he
    exact ha b hb

theorem swf_smap (f : Nat → α → α) (m : List (Nat × α)) (h : swf d m = true) : swf d (smap d f m) = true := by
  rw [swf_iff] at h ⊢
  refine ⟨sorted_filter _ _ (sorted_map_keys f m h.1), ?_⟩
  intro e he
  simpa using (List.mem_filter.1 he).2

/-! ### Reads -/

omit [DecidableEq α] in
theorem find_serase_self (m : List (Nat × α)) (k : Nat) : (serase m k).find? (fun e => e.1 == k) = none := by
  rw [List.find?_eq_none]
  intro e he
  simpa using serase_ne m k e he

omit [DecidableEq α] in
theorem find_serase_of_ne (m : List (Nat × α)) (k j : Nat) (h : j ≠ k) :
    (serase m k).find? (fun e => e.1 == j) = m.find? (fun e => e.1 == j) := by
  induction m with
  | nil => rfl
  | cons a m ih =>
    unfold serase at ih ⊢
    rw [List.filter_cons]
    by_cases hak : a.1 = k
    · have hj : (a.1 == j) = false := by simpa [hak] using fun h' => h h'.symm
      simp [hak, ih, show (k == j) = false by simpa using fun h' => h h'.symm]
    · simp only [bne_iff_ne, ne_eq, hak, not_false_eq_true, if_true, List.find?_cons, ih]

omit [DecidableEq α] in
theorem find_sins_self (k : Nat) (v : α) (m : List (Nat × α)) (hk : ∀ e ∈ m, e.1 ≠ k) :
    (sins k v m).find? (fun e => e.1 == k) = some (k, v) := by
  induction m with
  | nil => simp [sins]
  | cons a m ih =>
    unfold sins
    split
    · simp
    · have ha : (a.1 == k) = false := by simpa using hk a (List.mem_cons_self ..)
      rw [List.find?_cons, ha]
      exact ih (fun e he => hk e (List.mem_cons_of_mem _ he))

omit [DecidableEq α] in
theorem find_sins_of_ne (k j : Nat) (v : α) (m : List (Nat × α)) (h : j ≠ k) :
    (sins k v m).find? (fun e => e.1 == j) = m.find? (fun e => e.1 == j) := by
  have hkj : (k == j) = false := by simpa using fun h' => h h'.symm
  induction m with
  | nil => simp [sins, hkj]
  | cons a m ih =>
    unfold sins
    split
    · rw [List.find?_cons]
      simp [hkj]
    · rw [List.find?_cons, List.find?_cons, ih]

/-- A read of the key just written gives the value written. -/
@[simp] theorem sget_sput_self (m : List (Nat × α)) (k : Nat) (v : α) : sget d (sput d m k v) k = v := by
  unfold sput sget
  by_cases hv : v = d k
  · rw [if_pos hv, find_serase_self]
    exact hv.symm
  · rw [if_neg hv, find_sins_self k v _ (serase_ne m k)]

/-- A write leaves every other key alone. -/
theorem sget_sput_of_ne (m : List (Nat × α)) (k j : Nat) (v : α) (h : j ≠ k) : sget d (sput d m k v) j = sget d m j := by
  unfold sput sget
  by_cases hv : v = d k
  · rw [if_pos hv, find_serase_of_ne m k j h]
  · rw [if_neg hv, find_sins_of_ne k j v _ h, find_serase_of_ne m k j h]

theorem sget_sput (m : List (Nat × α)) (k j : Nat) (v : α) :
    sget d (sput d m k v) j = if j = k then v else sget d m j := by
  split
  · rename_i h
    rw [h, sget_sput_self]
  · rename_i h
    exact sget_sput_of_ne d m k j v h

omit [DecidableEq α] in
@[simp] theorem sget_nil (k : Nat) : sget d ([] : List (Nat × α)) k = d k := rfl

end wf

end Sys2Proof.Machine
end

