-- ==== Sys2Proof/Laws/Memory.lean ====
section
/-! SUPPORT. Laws of the byte memories: read after write, what a write leaves alone, and the canonical form. -/

namespace Sys2Proof.Machine

theorem memByte_memWrite_outside (bs : List Byte) (m : List Host.Cell) (a b : Nat) (h : b < a ∨ a + bs.length ≤ b) :
    memByte (memWrite m a bs) b = memByte m b := by
  induction bs generalizing m a with
  | nil => rfl
  | cons x xs ih =>
    have hl : (x :: xs).length = xs.length + 1 := rfl
    rw [memWrite, ih _ (a + 1) (by omega)]
    exact sget_sput_of_ne memDefault m a b x (by omega)

theorem memByte_memWrite_inside (bs : List Byte) (m : List Host.Cell) (a i : Nat) (h : i < bs.length) :
    memByte (memWrite m a bs) (a + i) = bs.getD i 0 := by
  induction bs generalizing m a i with
  | nil => exact absurd h (Nat.not_lt_zero i)
  | cons x xs ih =>
    have hl : (x :: xs).length = xs.length + 1 := rfl
    cases i with
    | zero =>
      rw [memWrite, memByte_memWrite_outside xs _ (a + 1) (a + 0) (by omega)]
      exact sget_sput_self memDefault m a x
    | succ i =>
      have : a + (i + 1) = a + 1 + i := by omega
      rw [memWrite, this, ih _ (a + 1) i (by omega)]
      rfl

/-- Every memory write keeps the canonical form. -/
theorem Memory.wf_memWrite (bs : List Byte) (m : List Host.Cell) (a : Nat) (h : Memory.wf m = true) :
    Memory.wf (memWrite m a bs) = true := by
  induction bs generalizing m a with
  | nil => exact h
  | cons x xs ih => exact ih _ _ (swf_sput memDefault m a x h)

theorem memRead_length (m : List Host.Cell) (a n : Nat) : (memRead m a n).length = n := by
  induction n generalizing a with
  | zero => rfl
  | succ n ih => simp [memRead, ih]

theorem memRead_getD (m : List Host.Cell) (a n i : Nat) (h : i < n) : (memRead m a n).getD i 0 = memByte m (a + i) := by
  induction n generalizing a i with
  | zero => exact absurd h (Nat.not_lt_zero i)
  | succ n ih =>
    cases i with
    | zero => rfl
    | succ i =>
      have : a + (i + 1) = a + 1 + i := by omega
      rw [memRead, this, ← ih (a + 1) i (by omega)]
      rfl

/-- What is read back is what was written. -/
theorem memRead_memWrite (bs : List Byte) (m : List Host.Cell) (a : Nat) :
    memRead (memWrite m a bs) a bs.length = bs := by
  apply List.ext_getElem (by rw [memRead_length])
  intro i h1 h2
  have h := memRead_getD (memWrite m a bs) a bs.length i h2
  rw [memByte_memWrite_inside bs m a i h2] at h
  simpa [List.getD_eq_getElem?_getD, h1, h2] using h

/-! ### Flash -/

theorem swf_flashPut (bs : List Byte) (m : List Host.Cell) (a : Nat) (h : swf flashDefault m = true) :
    swf flashDefault (flashPut m a bs) = true := by
  induction bs generalizing m a with
  | nil => exact h
  | cons x xs ih => exact ih _ _ (swf_sput flashDefault m a x h)

theorem flashWrite_wf (s : State) (a : Nat) (bs : List Byte) (h : swf flashDefault s.cup.flash = true) :
    swf flashDefault (s.flashWrite a bs).cup.flash = true :=
  swf_flashPut bs s.cup.flash a h

theorem flashErase_wf (s : State) (a n : Nat) (h : swf flashDefault s.cup.flash = true) :
    swf flashDefault (s.flashErase a n).cup.flash = true :=
  swf_filter flashDefault _ s.cup.flash h

end Sys2Proof.Machine
end

