-- ==== Sys2Proof/Laws/Regs.lean ====
section
/-! SUPPORT. Laws of the register file: read after write of a register and of a field, and the canonical form. -/

namespace Sys2Proof.Machine

/-! ### Fields of a word -/

theorem bits_testBit (v lo w i : Nat) : (bits v lo w).testBit i = (decide (i < w) && v.testBit (lo + i)) := by
  unfold bits
  rw [Nat.testBit_mod_two_pow, Nat.testBit_shiftRight]

theorem fieldMask_testBit (lo w i : Nat) (hi : i < 32) :
    (fieldMask lo w).toNat.testBit i = decide (lo ≤ i ∧ i < lo + w) := by
  unfold fieldMask
  rw [BitVec.toNat_ofNat, Nat.testBit_mod_two_pow, Nat.testBit_mul_two_pow, Nat.testBit_two_pow_sub_one]
  by_cases h1 : lo ≤ i
  · by_cases h2 : i < lo + w
    · have : i - lo < w := by omega
      simp [hi, h1, h2, this]
    · have : ¬ i - lo < w := by omega
      simp [hi, h1, h2, this]
  · simp [h1]

theorem fieldSet_testBit (lo w : Nat) (v : Word) (x i : Nat) (hi : i < 32) :
    (fieldSet lo w v x).toNat.testBit i = if lo ≤ i ∧ i < lo + w then x.testBit (i - lo) else v.toNat.testBit i := by
  have hm := fieldMask_testBit lo w i hi
  have hx : (BitVec.ofNat 32 (x % 2 ^ w * 2 ^ lo)).toNat.testBit i = (decide (lo ≤ i ∧ i < lo + w) && x.testBit (i - lo)) := by
    rw [BitVec.toNat_ofNat, Nat.testBit_mod_two_pow, Nat.testBit_mul_two_pow, Nat.testBit_mod_two_pow]
    by_cases h1 : lo ≤ i
    · by_cases h2 : i < lo + w
      · have : i - lo < w := by omega
        simp [hi, h1, h2, this]
      · have : ¬ i - lo < w := by omega
        simp [h2, this]
    · simp [h1]
  rw [BitVec.testBit_toNat] at hm hx ⊢
  unfold fieldSet
  rw [BitVec.getLsbD_or, BitVec.getLsbD_and, BitVec.getLsbD_not, hm, hx]
  by_cases h : lo ≤ i ∧ i < lo + w
  · simp [h, hi]
  · simp [h, hi, BitVec.testBit_toNat]

/-- A field reads as written. -/
theorem fieldGet_fieldSet_self (lo w : Nat) (v : Word) (x : Nat) (h : lo + w ≤ 32) :
    fieldGet lo w (fieldSet lo w v x) = x % 2 ^ w := by
  apply Nat.eq_of_testBit_eq
  intro i
  unfold fieldGet
  rw [bits_testBit, Nat.testBit_mod_two_pow]
  by_cases hi : i < w
  · rw [fieldSet_testBit lo w v x _ (by omega)]
    have : lo ≤ lo + i ∧ lo + i < lo + w := by omega
    simp [hi]
  · simp [hi]

/-- A field that does not overlap the one written keeps its value. -/
theorem fieldGet_fieldSet_apart (lo w lo' w' : Nat) (v : Word) (x : Nat) (h : lo + w ≤ lo' ∨ lo' + w' ≤ lo) :
    fieldGet lo' w' (fieldSet lo w v x) = fieldGet lo' w' v := by
  apply Nat.eq_of_testBit_eq
  intro i
  unfold fieldGet
  rw [bits_testBit, bits_testBit]
  by_cases hi : i < w'
  · by_cases h32 : lo' + i < 32
    · rw [fieldSet_testBit lo w v x _ h32]
      have : ¬ (lo ≤ lo' + i ∧ lo' + i < lo + w) := by omega
      simp [this]
    · have a := Nat.testBit_lt_two_pow (x := (fieldSet lo w v x).toNat) (i := lo' + i)
        (lt_of_lt_of_le (fieldSet lo w v x).isLt (Nat.pow_le_pow_right (by omega) (by omega)))
      have b := Nat.testBit_lt_two_pow (x := v.toNat) (i := lo' + i)
        (lt_of_lt_of_le v.isLt (Nat.pow_le_pow_right (by omega) (by omega)))
      rw [a, b]
  · simp [hi]

/-! ### Registers and fields of the state -/

theorem State.rd_wr (s : State) (o p : Nat) (v : Word) : (s.wr o v).rd p = if p = o then v else s.rd p := by
  unfold State.rd State.wr
  exact sget_sput regReset s.regs o p v

@[simp] theorem State.rd_wr_self (s : State) (o : Nat) (v : Word) : (s.wr o v).rd o = v := by
  rw [State.rd_wr, if_pos rfl]

theorem State.rd_wr_of_ne (s : State) (o p : Nat) (v : Word) (h : p ≠ o) : (s.wr o v).rd p = s.rd p := by
  rw [State.rd_wr, if_neg h]

theorem State.rd_put_of_ne (s : State) (f : Fld) (x p : Nat) (h : p ≠ f.off) : (s.put f x).rd p = s.rd p :=
  State.rd_wr_of_ne s f.off p _ h

/-- Two fields that share no bit. -/
def Fld.apart (f g : Fld) : Prop := g.off ≠ f.off ∨ f.lo + f.width ≤ g.lo ∨ g.lo + g.width ≤ f.lo

/-- A field reads as written. -/
theorem State.get_put_self (s : State) (f : Fld) (x : Nat) (h : f.lo + f.width ≤ 32) :
    (s.put f x).get f = x % 2 ^ f.width := by
  unfold State.get State.put
  rw [State.rd_wr_self]
  exact fieldGet_fieldSet_self f.lo f.width _ x h

/-- A write of a field leaves the others. -/
theorem State.get_put_apart (s : State) (f g : Fld) (x : Nat) (h : f.apart g) : (s.put f x).get g = s.get g := by
  unfold State.get
  by_cases ho : g.off = f.off
  · unfold State.put
    rw [ho, State.rd_wr_self]
    refine fieldGet_fieldSet_apart f.lo f.width g.lo g.width _ x ?_
    rcases h with h | h
    · exact absurd ho h
    · exact h
  · rw [State.rd_put_of_ne s f x g.off ho]

theorem State.on_set_self (s : State) (f : Fld) (h : f.lo + f.width ≤ 32) (hw : f.width = 1) : (s.set f).on f = true := by
  unfold State.on State.set
  rw [State.get_put_self s f 1 h, hw]
  rfl

theorem State.on_clr_self (s : State) (f : Fld) (h : f.lo + f.width ≤ 32) : (s.clr f).on f = false := by
  unfold State.on State.clr
  rw [State.get_put_self s f 0 h, Nat.zero_mod]
  rfl

theorem State.on_put_apart (s : State) (f g : Fld) (x : Nat) (h : f.apart g) : (s.put f x).on g = s.on g := by
  unfold State.on
  rw [State.get_put_apart s f g x h]

/-! ### The canonical form -/

theorem State.wr_regs_wf (s : State) (o : Nat) (v : Word) (h : swf regReset s.regs = true) :
    swf regReset (s.wr o v).regs = true :=
  swf_sput regReset s.regs o v h

theorem State.resetRegs_regs_wf (s : State) (ks : List RstKind) (sel : Nat → Bool) (h : swf regReset s.regs = true) :
    swf regReset (s.resetRegs ks sel).regs = true := by
  unfold State.resetRegs
  exact swf_smap regReset (fun o v => if sel o then resetWord ks o v else v) s.regs h

end Sys2Proof.Machine
end

