-- ==== Sys2Proof/Laws/Keeps.lean ====
section
/-! SUPPORT. What every operation keeps: device time, the queue of waiting commands, the canonical forms of the register
file and of the memories, the serial numbers of the jobs, what OTP holds, and, for the operations that store nothing, the memories themselves. The lemmas
of the other `Keeps` files say it of every operation of the machine, so that a fact about every step is read off them. -/

namespace Sys2Proof.Machine

/-- What holds between a state and a later one within one command. `quiet`: nothing was stored in a memory or in OTP. -/
structure Keeps (quiet : Bool) (s t : State) : Prop where
  time : t.time = s.time
  pending : t.pending = s.pending
  free : s.free ≤ t.free
  regs : s.regsWf = true → t.regsWf = true
  mem : s.memWf = true → t.memWf = true
  jobs : s.jqm.idsOk → t.jqm.idsOk
  otp : OtpGrows s.otp t.otp
  same : quiet = true → t.hostMem = s.hostMem ∧ t.svcMem = s.svcMem ∧ t.cupMem = s.cupMem ∧
    t.cup.flash = s.cup.flash ∧ t.otp = s.otp

theorem OtpGrows.refl (a : OtpSt) : OtpGrows a a := ⟨fun _ => rfl, rfl, fun _ _ h => h, fun _ _ h => h, fun _ => rfl, fun _ h => h⟩

theorem OtpGrows.trans {a b c : OtpSt} (h : OtpGrows a b) (k : OtpGrows b c) : OtpGrows a c where
  ds := fun e => by
    have hb := h.ds e
    rw [k.ds (by rw [hb]; exact e), hb]
  devId := k.devId.trans h.devId
  lcsA := fun w i e => k.lcsA w i (h.lcsA w i e)
  lcsB := fun w i e => k.lcsB w i (h.lcsB w i e)
  ownerDigest := fun e => by
    have hb := h.ownerDigest e
    rw [k.ownerDigest (by rw [hb]; exact e), hb]
  fuses := fun i e => k.fuses i (h.fuses i e)

theorem Keeps.refl (q : Bool) (s : State) : Keeps q s s :=
  ⟨rfl, rfl, Nat.le_refl _, id, id, id, OtpGrows.refl _, fun _ => ⟨rfl, rfl, rfl, rfl, rfl⟩⟩

theorem Keeps.trans {q : Bool} {s t u : State} (h : Keeps q s t) (k : Keeps q t u) : Keeps q s u where
  time := k.time.trans h.time
  pending := k.pending.trans h.pending
  free := Nat.le_trans h.free k.free
  regs := fun e => k.regs (h.regs e)
  mem := fun e => k.mem (h.mem e)
  jobs := fun e => k.jobs (h.jobs e)
  otp := h.otp.trans k.otp
  same := fun e => by
    obtain ⟨a1, a2, a3, a4, a5⟩ := h.same e
    obtain ⟨b1, b2, b3, b4, b5⟩ := k.same e
    exact ⟨b1.trans a1, b2.trans a2, b3.trans a3, b4.trans a4, b5.trans a5⟩

theorem Keeps.loud {q : Bool} {s t : State} (h : Keeps q s t) : Keeps false s t :=
  ⟨h.time, h.pending, h.free, h.regs, h.mem, h.jobs, h.otp, fun e => Bool.noConfusion e⟩

section
variable {q : Bool} {s0 s : State}

/-- An update of fields that no frame speaks of. -/
theorem keeps_upd (h : Keeps q s0 s)
    {x_cnt : List (Nat × Nat)}
    {x_cntCopy : List (Nat × Nat)}
    {x_cntSnap : List (Nat × Nat)}
    {x_hiLatch : List (Nat × Nat)}
    {x_busOut : DWord}
    {x_faults : List FaultRange}
    {x_jqm : JqmSt}
    {x_ucs : List (Nat × Quadrant)}
    {x_fcr : FcrSt}
    {x_evc : EvcSt}
    {x_power : PowerSt}
    {x_ipp : IppSt}
    {x_cts : CtsSt}
    {x_mpe : MpeSt}
    {x_keep : KeepSt}
    {x_dke : List (Nat × DkeCh)}
    {x_rng : RngSt}
    {x_alm : AlmSt}
    {x_cpm : CpmSt}
    {x_blf : BlfSt}
    {x_lcs : LcsSt}
    {x_svc : SvcSt} {x_cup : CupSt}
    (e : x_cup.flash = s.cup.flash) (e2 : s.jqm.idsOk → x_jqm.idsOk) :
    Keeps q s0 { s with cnt := x_cnt, cntCopy := x_cntCopy, cntSnap := x_cntSnap, hiLatch := x_hiLatch, busOut := x_busOut, faults := x_faults, jqm := x_jqm, ucs := x_ucs, fcr := x_fcr, evc := x_evc, power := x_power, ipp := x_ipp, cts := x_cts, mpe := x_mpe, keep := x_keep, dke := x_dke, rng := x_rng, alm := x_alm, cpm := x_cpm, blf := x_blf, lcs := x_lcs, svc := x_svc, cup := x_cup } where
  time := h.time
  pending := h.pending
  free := h.free
  regs := h.regs
  mem := fun m => by
    have := h.mem m
    simpa only [State.memWf, e] using this
  jobs := fun m => e2 (h.jobs m)
  otp := h.otp
  same := fun m => by
    obtain ⟨a1, a2, a3, a4, a5⟩ := h.same m
    exact ⟨a1, a2, a3, e.trans a4, a5⟩

/-- New states of the jobs, each under its own number. -/
theorem keeps_jobs_map (h : Keeps q s0 s) {f : Job → Job} (k : ∀ j, (f j).id = j.id) :
    Keeps q s0 { s with jqm := { s.jqm with jobs := s.jqm.jobs.map f } } := by
  refine keeps_upd h rfl (fun m => ⟨?_, ?_⟩)
  · have : (s.jqm.jobs.map f).map (·.id) = s.jqm.jobs.map (·.id) := by
      rw [List.map_map]
      exact List.map_congr_left (fun j _ => k j)
    show ((s.jqm.jobs.map f).map (·.id)).Nodup
    rw [this]
    exact m.1
  · intro j hj
    obtain ⟨i, hi, rfl⟩ := List.mem_map.mp hj
    rw [k i]
    exact m.2 i hi

/-- Some jobs leave. -/
theorem keeps_jobs_filter (h : Keeps q s0 s) (p : Job → Bool) :
    Keeps q s0 { s with jqm := { s.jqm with jobs := s.jqm.jobs.filter p } } :=
  keeps_upd h rfl (fun m => ⟨m.1.sublist (List.filter_sublist.map _), fun j hj => m.2 j (List.mem_filter.mp hj).1⟩)

/-- A job with the next number joins. -/
theorem keeps_jobs_add (h : Keeps q s0 s) {j : Job} (e : j.id = s.jqm.nextId) :
    Keeps q s0 { s with jqm := { s.jqm with jobs := s.jqm.jobs ++ [j], nextId := s.jqm.nextId + 1 } } := by
  refine keeps_upd h rfl (fun m => ⟨?_, ?_⟩)
  · show ((s.jqm.jobs ++ [j]).map (·.id)).Nodup
    rw [List.map_append, List.nodup_append]
    refine ⟨m.1, by simp, ?_⟩
    intro a ha b hb
    obtain ⟨i, hi, rfl⟩ := List.mem_map.mp ha
    have := m.2 i hi
    simp only [List.map_cons, List.map_nil, List.mem_singleton] at hb
    omega
  · intro i hi
    show i.id < s.jqm.nextId + 1
    rcases List.mem_append.mp hi with hi | hi
    · have := m.2 i hi
      omega
    · rw [List.mem_singleton.mp hi]
      omega

theorem keeps_ite {c : Prop} [Decidable c] {a b : State} (ha : Keeps q s0 a) (hb : Keeps q s0 b) :
    Keeps q s0 (if c then a else b) := by
  split
  · exact ha
  · exact hb

theorem keeps_foldl {α : Type} {f : State → α → State} {l : List α} (hf : ∀ x a, Keeps q s0 x → Keeps q s0 (f x a))
    (h : Keeps q s0 s) : Keeps q s0 (l.foldl f s) := by
  induction l generalizing s with
  | nil => exact h
  | cons a l ih => exact ih (hf s a h)

theorem keeps_foldl_fst {α β : Type} {f : State × β → α → State × β} {l : List α} {b : β}
    (hf : ∀ x a, Keeps q s0 x.1 → Keeps q s0 (f x a).1) (h : Keeps q s0 s) : Keeps q s0 (l.foldl f (s, b)).1 := by
  induction l generalizing s b with
  | nil => exact h
  | cons a l ih => exact ih (hf (s, b) a h)

theorem keeps_free {n : Nat} (h : Keeps q s0 s) : Keeps q s0 { s with free := s.free + n } :=
  ⟨h.time, h.pending, Nat.le_trans h.free (Nat.le_add_right _ _), h.regs, h.mem, h.jobs, h.otp, h.same⟩

theorem keeps_of_regs (h : Keeps q s0 s) {r : List (Nat × Word)} (k : s.regsWf = true → swf regReset r = true) :
    Keeps q s0 { s with regs := r } :=
  ⟨h.time, h.pending, h.free, fun e => k (h.regs e), h.mem, h.jobs, h.otp, h.same⟩

theorem keeps_of_mem {a b c : List Host.Cell} (h : Keeps false s0 s)
    (ka : Memory.wf s.hostMem = true → Memory.wf a = true) (kb : Memory.wf s.svcMem = true → Memory.wf b = true)
    (kc : Memory.wf s.cupMem = true → Memory.wf c = true) :
    Keeps false s0 { s with hostMem := a, svcMem := b, cupMem := c } where
  time := h.time
  pending := h.pending
  free := h.free
  regs := h.regs
  mem := fun m => by
    have := h.mem m
    simp only [State.memWf, Bool.and_eq_true] at this ⊢
    exact ⟨⟨⟨ka this.1.1.1, kb this.1.1.2⟩, kc this.1.2⟩, this.2⟩
  jobs := h.jobs
  otp := h.otp
  same := fun m => Bool.noConfusion m

theorem keeps_of_flash (h : Keeps false s0 s) {x : CupSt}
    (k : swf flashDefault s.cup.flash = true → swf flashDefault x.flash = true) : Keeps false s0 { s with cup := x } where
  time := h.time
  pending := h.pending
  free := h.free
  regs := h.regs
  mem := fun m => by
    have := h.mem m
    simp only [State.memWf, Bool.and_eq_true] at this ⊢
    exact ⟨this.1, k this.2⟩
  jobs := h.jobs
  otp := h.otp
  same := fun m => Bool.noConfusion m

theorem keeps_of_otp (h : Keeps false s0 s) {x : OtpSt} (k : OtpGrows s.otp x) : Keeps false s0 { s with otp := x } :=
  ⟨h.time, h.pending, h.free, h.regs, h.mem, h.jobs, h.otp.trans k, fun m => Bool.noConfusion m⟩

theorem keeps_cupWrite (h : Keeps false s0 s) (a : Nat) (bs : List Byte) :
    Keeps false s0 { s with cupMem := memWrite s.cupMem a bs } := keeps_of_mem h id id (Memory.wf_memWrite bs s.cupMem a)

theorem keeps_svcWrite (h : Keeps false s0 s) (a : Nat) (bs : List Byte) :
    Keeps false s0 { s with svcMem := memWrite s.svcMem a bs } := keeps_of_mem h id (Memory.wf_memWrite bs s.svcMem a) id

theorem keeps_fuses (h : Keeps false s0 s) (m : Nat) :
    Keeps false s0 { s with otp := { s.otp with fuses := s.otp.fuses ||| m } } :=
  keeps_of_otp h ⟨fun _ => rfl, rfl, fun _ _ e => e, fun _ _ e => e, fun _ => rfl, fun i e => by
    rw [Nat.testBit_or, e]
    rfl⟩

theorem keeps_burn (h : Keeps false s0 s) (w v : Nat) :
    Keeps false s0 { s with otp := { s.otp with
      lcsA := sput (fun _ => 0) s.otp.lcsA w (sget (fun _ => 0) s.otp.lcsA w ||| v)
      lcsB := sput (fun _ => 0) s.otp.lcsB w (sget (fun _ => 0) s.otp.lcsB w ||| v) } } := by
  have grow : ∀ (l : List (Nat × Nat)) (u i : Nat), (sget (fun _ => 0) l u).testBit i = true →
      (sget (fun _ => 0) (sput (fun _ => 0) l w (sget (fun _ => 0) l w ||| v)) u).testBit i = true := by
    intro l u i e
    rw [sget_sput]
    split
    · next k =>
      subst k
      rw [Nat.testBit_or, e]
      rfl
    · exact e
  exact keeps_of_otp h ⟨fun _ => rfl, rfl, grow s.otp.lcsA, grow s.otp.lcsB, fun _ => rfl, fun _ e => e⟩

theorem keeps_secret (h : Keeps false s0 s) (e : s.otp.ds = none) {d : Option (List Byte)} :
    Keeps false s0 { s with otp := { s.otp with ds := d } } :=
  keeps_of_otp h ⟨fun k => by simp [e] at k, rfl, fun _ _ e => e, fun _ _ e => e, fun _ => rfl, fun _ e => e⟩

theorem keeps_owner (h : Keeps false s0 s) (e : s.otp.ownerDigest = none) {d : Option (List Byte)} :
    Keeps false s0 { s with otp := { s.otp with ownerDigest := d } } :=
  keeps_of_otp h ⟨fun _ => rfl, rfl, fun _ _ e => e, fun _ _ e => e, fun k => by simp [e] at k, fun _ e => e⟩

end

/-- A state that may be absent. -/
def KeepsOpt (q : Bool) (s : State) (o : Option State) : Prop := ∀ t, o = some t → Keeps q s t

/-- A state or an error. -/
def KeepsExc {ε : Type} (q : Bool) (s : State) (o : Except ε State) : Prop := ∀ t, o = .ok t → Keeps q s t

/-- A value beside a state, which may be absent. -/
def KeepsOptSnd {α : Type} (q : Bool) (s : State) (o : Option (α × State)) : Prop := ∀ x t, o = some (x, t) → Keeps q s t

/-- A value beside a state, or an error beside one. -/
def KeepsTry {ε α : Type} (f : ε → State) (q : Bool) (s : State) (o : Except ε (α × State)) : Prop :=
  match o with
  | .ok p => Keeps q s p.2
  | .error e => Keeps q s (f e)

/-- A value beside a state, or an error. -/
def KeepsExcSnd {ε α : Type} (q : Bool) (s : State) (o : Except ε (α × State)) : Prop :=
  ∀ x t, o = .ok (x, t) → Keeps q s t

section
variable {q : Bool} {s0 s : State} {α ε : Type}

theorem KeepsOpt.none : KeepsOpt q s0 none := fun _ h => Option.noConfusion rfl (heq_of_eq h)
theorem KeepsOpt.some (h : Keeps q s0 s) : KeepsOpt q s0 (some s) := fun _ e => Option.some.inj e ▸ h
theorem KeepsOpt.get {o : Option State} {t : State} (e : o = .some t) (h : KeepsOpt q s0 o) : Keeps q s0 t := h t e
theorem KeepsOpt.map {o : Option α} {f : α → State} (h : ∀ a, Keeps q s0 (f a)) : KeepsOpt q s0 (o.map f) := fun t e => by
  cases o with
  | none => exact nomatch e
  | some a => exact Option.some.inj e ▸ h a
theorem KeepsOpt.bind {o : Option α} {f : α → Option State} (h : ∀ a, KeepsOpt q s0 (f a)) : KeepsOpt q s0 (o.bind f) :=
  fun t e => by
    cases o with
    | none => exact nomatch e
    | some a => exact h a t e
theorem KeepsOpt.getD {o : Option State} (h : KeepsOpt q s0 o) (hs : Keeps q s0 s) : Keeps q s0 (o.getD s) := by
  cases o with
  | none => exact hs
  | some a => exact h a rfl
theorem KeepsExc.error {e : ε} : KeepsExc q s0 (Except.error e : Except ε State) := fun _ h => nomatch h
theorem KeepsExc.ok (h : Keeps q s0 s) : KeepsExc q s0 (Except.ok s : Except ε State) := fun _ e => Except.ok.inj e ▸ h
theorem KeepsExc.get {o : Except ε State} {t : State} (e : o = .ok t) (h : KeepsExc q s0 o) : Keeps q s0 t := h t e
theorem KeepsOptSnd.none : KeepsOptSnd q s0 (none : Option (α × State)) := fun _ _ h => nomatch h
theorem KeepsOptSnd.some {x : α} (h : Keeps q s0 s) : KeepsOptSnd q s0 (some (x, s)) := fun _ _ e => by
  cases e
  exact h
theorem KeepsOptSnd.get {o : Option (α × State)} {x : α} {t : State} (e : o = .some (x, t)) (h : KeepsOptSnd q s0 o) :
    Keeps q s0 t := h x t e
theorem KeepsExcSnd.error {e : ε} : KeepsExcSnd q s0 (Except.error e : Except ε (α × State)) := fun _ _ h => nomatch h
theorem KeepsExcSnd.ok {x : α} (h : Keeps q s0 s) : KeepsExcSnd q s0 (Except.ok (x, s) : Except ε (α × State)) :=
  fun _ _ e => by
    cases e
    exact h
theorem KeepsExcSnd.get {o : Except ε (α × State)} {x : α} {t : State} (e : o = .ok (x, t)) (h : KeepsExcSnd q s0 o) :
    Keeps q s0 t := h x t e
theorem KeepsTry.get {f : ε → State} {o : Except ε (α × State)} {x : α} {t : State} (e : o = .ok (x, t))
    (h : KeepsTry f q s0 o) : Keeps q s0 t := by
  subst e
  exact h
theorem KeepsTry.err {f : ε → State} {o : Except ε (α × State)} {x : ε} (e : o = .error x) (h : KeepsTry f q s0 o) :
    Keeps q s0 (f x) := by
  subst e
  exact h
theorem KeepsFst.get {p : State × α} {x : α} {t : State} (e : p = (t, x)) (h : Keeps q s0 p.1) : Keeps q s0 t := by
  subst e
  exact h
theorem KeepsSnd.get {p : α × State} {x : α} {t : State} (e : p = (x, t)) (h : Keeps q s0 p.2) : Keeps q s0 t := by
  subst e
  exact h

theorem KeepsOpt.ite {c : Prop} [Decidable c] {a b : Option State} (ha : KeepsOpt q s0 a) (hb : KeepsOpt q s0 b) :
    KeepsOpt q s0 (if c then a else b) := by
  split
  · exact ha
  · exact hb
theorem KeepsExc.ite {c : Prop} [Decidable c] {a b : Except ε State} (ha : KeepsExc q s0 a) (hb : KeepsExc q s0 b) :
    KeepsExc q s0 (if c then a else b) := by
  split
  · exact ha
  · exact hb
theorem KeepsOptSnd.ite {c : Prop} [Decidable c] {a b : Option (α × State)} (ha : KeepsOptSnd q s0 a)
    (hb : KeepsOptSnd q s0 b) : KeepsOptSnd q s0 (if c then a else b) := by
  split
  · exact ha
  · exact hb
theorem KeepsExcSnd.ite {c : Prop} [Decidable c] {a b : Except ε (α × State)} (ha : KeepsExcSnd q s0 a)
    (hb : KeepsExcSnd q s0 b) : KeepsExcSnd q s0 (if c then a else b) := by
  split
  · exact ha
  · exact hb
theorem KeepsFst.ite {c : Prop} [Decidable c] {a b : State × α} (ha : Keeps q s0 a.1) (hb : Keeps q s0 b.1) :
    Keeps q s0 (if c then a else b).1 := by
  split
  · exact ha
  · exact hb
theorem KeepsSnd.ite {c : Prop} [Decidable c] {a b : α × State} (ha : Keeps q s0 a.2) (hb : Keeps q s0 b.2) :
    Keeps q s0 (if c then a else b).2 := by
  split
  · exact ha
  · exact hb

end

end Sys2Proof.Machine
end

