-- ==== Sys2Proof/Laws/KeepsOps.lean ====
section
/-! SUPPORT. What the operations of the register file, the shared operations and register access keep. -/

namespace Sys2Proof.Machine

set_option linter.unusedTactic false
set_option linter.unreachableTactic false
set_option linter.unusedVariables false

theorem State.wr_keeps {q : Bool} {s0 s : State} (o : Nat) (v : Word) (hs : Keeps q s0 s) :
    Keeps q s0 (State.wr s o v) := keeps_of_regs hs (fun e => swf_sput regReset s.regs o v e)

theorem State.put_keeps {qt : Bool} {z0 s : State} (f : Fld) (x : Nat) (hs : Keeps qt z0 s) :
    Keeps qt z0 (State.put s f x) := by
  unfold State.put
  with_reducible repeat' first
    | assumption | intro _ | apply State.wr_keeps | split

theorem State.set_keeps {qt : Bool} {z0 s : State} (f : Fld) (hs : Keeps qt z0 s) :
    Keeps qt z0 (State.set s f) := by
  unfold State.set
  with_reducible repeat' first
    | assumption | intro _ | apply State.put_keeps | split

theorem State.clr_keeps {qt : Bool} {z0 s : State} (f : Fld) (hs : Keeps qt z0 s) :
    Keeps qt z0 (State.clr s f) := by
  unfold State.clr
  with_reducible repeat' first
    | assumption | intro _ | apply State.put_keeps | split

theorem State.putB_keeps {qt : Bool} {z0 s : State} (f : Fld) (b : Bool) (hs : Keeps qt z0 s) :
    Keeps qt z0 (State.putB s f b) := by
  unfold State.putB
  with_reducible repeat' first
    | assumption | intro _ | apply keeps_ite | apply State.put_keeps | split

theorem State.wrGeneric_keeps {qt : Bool} {z0 s : State} (o : Nat) (v : Word) (hs : Keeps qt z0 s) :
    Keeps qt z0 (State.wrGeneric s o v) := by
  unfold State.wrGeneric
  try dsimp only
  with_reducible repeat' first
    | assumption | intro _ | apply State.wr_keeps | split

theorem State.resetRegs_keeps {q : Bool} {s0 s : State} (ks : List RstKind) (sel : Nat → Bool) (hs : Keeps q s0 s) :
    Keeps q s0 (State.resetRegs s ks sel) := by
  have h := keeps_of_regs hs (r := smap regReset (fun o v => if sel o then resetWord ks o v else v) s.regs)
    (fun e => swf_smap regReset _ s.regs e)
  exact ⟨h.time, h.pending, h.free, h.regs, h.mem, h.jobs, h.otp, h.same⟩

theorem State.count_keeps {qt : Bool} {z0 s : State} (o : Nat) (n : Nat) (hs : Keeps qt z0 s) :
    Keeps qt z0 (State.count s o n) := by
  unfold State.count
  try dsimp only
  with_reducible repeat' first
    | assumption | intro _ | apply keeps_ite | apply State.set_keeps | split | refine keeps_upd ?_ rfl (fun m => m)

theorem State.inc_keeps {qt : Bool} {z0 s : State} (o : Nat) (hs : Keeps qt z0 s) :
    Keeps qt z0 (State.inc s o) := by
  unfold State.inc
  with_reducible repeat' first
    | assumption | intro _ | apply State.count_keeps | split

theorem State.countTime_keeps {qt : Bool} {z0 s : State} (o : Nat) (n : Nat) (hs : Keeps qt z0 s) :
    Keeps qt z0 (State.countTime s o n) := by
  unfold State.countTime
  try dsimp only
  with_reducible repeat' first
    | assumption | intro _ | refine keeps_upd ?_ rfl (fun m => m) | split

theorem State.cntClear_keeps {qt : Bool} {z0 s : State} (o : Nat) (hs : Keeps qt z0 s) :
    Keeps qt z0 (State.cntClear s o) := by
  unfold State.cntClear
  try dsimp only
  with_reducible repeat' first
    | assumption | intro _ | apply State.clr_keeps | split | refine keeps_upd ?_ rfl (fun m => m)

theorem State.cntClearN_keeps {qt : Bool} {z0 s : State} (o : Nat) (x0 : Nat) (hs : Keeps qt z0 s) :
    Keeps qt z0 (State.cntClearN s o x0) := by
  induction x0 generalizing s o with
  | zero =>
    unfold State.cntClearN
    with_reducible repeat' first
      | assumption | intro _ | apply State.cntClear_keeps | split
  | succ m ih =>
    unfold State.cntClearN
    with_reducible repeat' first
      | apply ih | assumption | intro _ | apply State.cntClear_keeps | split

theorem State.cntLoad_keeps {qt : Bool} {z0 s : State} (o : Nat) (hs : Keeps qt z0 s) :
    Keeps qt z0 (State.cntLoad s o) := by
  unfold State.cntLoad
  try dsimp only
  with_reducible repeat' first
    | assumption | intro _ | refine keeps_upd ?_ rfl (fun m => m) | split

theorem State.freeNat_keeps {q : Bool} {s0 s : State} (hs : Keeps q s0 s) :
    Keeps q s0 (State.freeNat s).2 := keeps_free hs

theorem State.freeBytes_keeps {q : Bool} {s0 s : State} (n : Nat) (hs : Keeps q s0 s) :
    Keeps q s0 (State.freeBytes s n).2 := keeps_free hs

theorem State.freeBool_keeps {q : Bool} {s0 s : State} (hs : Keeps q s0 s) :
    Keeps q s0 (State.freeBool s).2 := keeps_free hs

theorem State.dmaStore_keeps {s0 s : State} (owner a : Nat) (bs : List Byte) (hs : Keeps false s0 s) :
    Keeps false s0 (State.dmaStore s owner a bs) := by
  unfold State.dmaStore
  split
  · exact keeps_of_mem hs id (Memory.wf_memWrite bs s.svcMem a) id
  · exact keeps_of_mem hs (Memory.wf_memWrite bs s.hostMem a) id id

theorem State.dmaWrite_keeps {z0 s : State} (owner : Nat) (a : Nat) (bs : List Byte) (hs : Keeps false z0 s) :
    KeepsOpt false z0 (State.dmaWrite s owner a bs) := by
  unfold State.dmaWrite
  with_reducible repeat' first
    | assumption | intro _ | apply keeps_ite | apply State.dmaStore_keeps | exact KeepsOpt.none | apply KeepsOpt.some
    | apply KeepsOpt.ite | apply KeepsOpt.map | apply KeepsOpt.bind | split

theorem State.msix_keeps {qt : Bool} {z0 s : State} (fn : Nat) (vec : Nat) (hs : Keeps qt z0 s) :
    Keeps qt z0 (State.msix s fn vec) := by
  unfold State.msix
  try dsimp only
  with_reducible repeat' first
    | assumption | intro _ | apply keeps_ite | apply State.inc_keeps | refine keeps_upd ?_ rfl (fun m => m) | split

theorem State.irqCup_keeps {qt : Bool} {z0 s : State} (n : Nat) (hs : Keeps qt z0 s) :
    Keeps qt z0 (State.irqCup s n) := by
  unfold State.irqCup
  try dsimp only
  with_reducible repeat' first
    | assumption | intro _ | refine keeps_upd ?_ rfl (fun m => m) | split

theorem State.irqSvc_keeps {qt : Bool} {z0 s : State} (n : Nat) (hs : Keeps qt z0 s) :
    Keeps qt z0 (State.irqSvc s n) := by
  unfold State.irqSvc
  try dsimp only
  with_reducible repeat' first
    | assumption | intro _ | refine keeps_upd ?_ rfl (fun m => m) | split

theorem State.evcDeliver_keeps {qt : Bool} {z0 s : State} (n : Nat) (hs : Keeps qt z0 s) :
    Keeps qt z0 (State.evcDeliver s n) := by
  unfold State.evcDeliver
  try dsimp only
  with_reducible repeat' first
    | assumption | intro _ | apply keeps_ite | apply State.msix_keeps | apply State.irqCup_keeps
    | apply State.irqSvc_keeps | split

theorem countIntn_keeps {q : Bool} {s0 t s : State} (hs : Keeps q s0 s) :
    Keeps q s0 (countIntn t s) := by
  unfold countIntn
  exact keeps_ite (State.inc_keeps _ hs) hs

theorem State.raise_keeps {qt : Bool} {z0 s : State} (n : Nat) (hs : Keeps qt z0 s) :
    Keeps qt z0 (State.raise s n) := by
  unfold State.raise
  with_reducible repeat' first
    | assumption | intro _ | apply keeps_ite | apply State.set_keeps | apply State.evcDeliver_keeps
    | apply countIntn_keeps | split

theorem State.raiseAll_keeps {qt : Bool} {z0 s : State} (x0 : List Nat) (hs : Keeps qt z0 s) :
    Keeps qt z0 (State.raiseAll s x0) := by
  induction x0 generalizing s with
  | nil =>
    unfold State.raiseAll
    with_reducible repeat' first
      | assumption | intro _ | apply State.raise_keeps | split
  | cons a l ih =>
    unfold State.raiseAll
    with_reducible repeat' first
      | apply ih | assumption | intro _ | apply State.raise_keeps | split

theorem State.level_keeps {qt : Bool} {z0 s : State} (n : Nat) (b : Bool) (hs : Keeps qt z0 s) :
    Keeps qt z0 (State.level s n b) := by
  unfold State.level
  try dsimp only
  with_reducible repeat' first
    | assumption | intro _ | apply keeps_ite | apply State.raise_keeps | refine keeps_upd ?_ rfl (fun m => m) | split

theorem State.settleFilter_keeps {qt : Bool} {z0 s : State} (hs : Keeps qt z0 s) :
    Keeps qt z0 (State.settleFilter s) := by
  unfold State.settleFilter
  try dsimp only
  with_reducible repeat' first
    | assumption | intro _ | apply keeps_ite | refine keeps_upd ?_ rfl (fun m => m) | split

theorem State.report_keeps {qt : Bool} {z0 s : State} (source : Nat) (kind : Nat) (sev : Nat) (addr : Nat) (hs : Keeps qt z0 s) :
    Keeps qt z0 (State.report s source kind sev addr) := by
  unfold State.report
  try dsimp only
  with_reducible repeat' first
    | assumption | intro _ | refine keeps_upd ?_ rfl (fun m => m) | split

theorem State.setLive_keeps {qt : Bool} {z0 s : State} (source : Nat) (kind : Nat) (b : Bool) (hs : Keeps qt z0 s) :
    Keeps qt z0 (State.setLive s source kind b) := by
  unfold State.setLive
  try dsimp only
  with_reducible repeat' first
    | assumption | intro _ | apply keeps_ite | refine keeps_upd ?_ rfl (fun m => m) | split

theorem State.putDke_keeps {qt : Bool} {z0 s : State} (c : Nat) (x : DkeCh) (hs : Keeps qt z0 s) :
    Keeps qt z0 (State.putDke s c x) := by
  unfold State.putDke
  try dsimp only
  with_reducible repeat' first
    | assumption | intro _ | refine keeps_upd ?_ rfl (fun m => m) | split

theorem State.denied_keeps {qt : Bool} {z0 s : State} (r : Req) (o : Nat) (wr : Bool) (hs : Keeps qt z0 s) :
    Keeps qt z0 (State.denied s r o wr) := by
  unfold State.denied
  try dsimp only
  with_reducible repeat' first
    | assumption | intro _ | apply keeps_ite | apply State.wr_keeps | apply State.set_keeps | apply State.inc_keeps
    | split

theorem State.gateW_keeps {qt : Bool} {z0 s : State} (r : Req) (o : Nat) (k : State → State) (h_k : ∀ (a0 : State), Keeps qt z0 a0 → Keeps qt z0 (k a0)) (hs : Keeps qt z0 s) :
    Keeps qt z0 (State.gateW s r o k) := by
  unfold State.gateW
  with_reducible repeat' first
    | assumption | intro _ | apply h_k | apply keeps_ite | apply State.denied_keeps | split

theorem State.gateR_keeps {qt : Bool} {z0 s : State} (r : Req) (o : Nat) (k : State → State) (h_k : ∀ (a0 : State), Keeps qt z0 a0 → Keeps qt z0 (k a0)) (hs : Keeps qt z0 s) :
    Keeps qt z0 (State.gateR s r o k) := by
  unfold State.gateR
  try dsimp only
  with_reducible repeat' first
    | assumption | intro _ | apply h_k | apply keeps_ite | apply State.denied_keeps
    | refine keeps_upd ?_ rfl (fun m => m) | split

theorem State.almStore_keeps {qt : Bool} {z0 s : State} (e : AlmEntry) (hs : Keeps qt z0 s) :
    Keeps qt z0 (State.almStore s e) := by
  unfold State.almStore
  try dsimp only
  with_reducible repeat' first
    | assumption | intro _ | refine keeps_upd ?_ rfl (fun m => m) | split

theorem State.almFill_keeps {qt : Bool} {z0 s : State} (hs : Keeps qt z0 s) :
    Keeps qt z0 (State.almFill s) := by
  unfold State.almFill
  try dsimp only
  with_reducible repeat' first
    | assumption | intro _ | apply keeps_ite | refine keeps_upd ?_ rfl (fun m => m) | split

theorem State.almSummaries_keeps {qt : Bool} {z0 s : State} (hs : Keeps qt z0 s) :
    Keeps qt z0 (State.almSummaries s) := by
  unfold State.almSummaries
  try dsimp only
  with_reducible repeat' first
    | assumption | intro _ | apply State.almStore_keeps | apply keeps_foldl | apply keeps_foldl_fst
    | refine keeps_upd ?_ rfl (fun m => m) | split

theorem State.almSummarise_keeps {qt : Bool} {z0 s : State} (e : AlmEntry) (hs : Keeps qt z0 s) :
    Keeps qt z0 (State.almSummarise s e) := by
  unfold State.almSummarise
  try dsimp only
  with_reducible repeat' first
    | assumption | intro _ | apply State.count_keeps | apply State.raise_keeps | refine keeps_upd ?_ rfl (fun m => m)
    | split

theorem State.almLeave_keeps {qt : Bool} {z0 s : State} (e : AlmEntry) (hs : Keeps qt z0 s) :
    Keeps qt z0 (State.almLeave s e) := by
  unfold State.almLeave
  try dsimp only
  with_reducible repeat' first
    | assumption | intro _ | apply keeps_ite | apply State.almStore_keeps | apply State.almSummarise_keeps
    | refine keeps_upd ?_ rfl (fun m => m) | split

theorem State.almDrain_keeps {qt : Bool} {z0 s : State} (hs : Keeps qt z0 s) :
    Keeps qt z0 (State.almDrain s) := by
  unfold State.almDrain
  try dsimp only
  with_reducible repeat' first
    | assumption | intro _ | apply keeps_ite | apply State.almFill_keeps | apply State.almSummaries_keeps
    | apply State.almLeave_keeps | apply keeps_foldl | apply keeps_foldl_fst | refine keeps_upd ?_ rfl (fun m => m)
    | split

theorem State.almQueue_keeps {qt : Bool} {z0 s : State} (e : AlmEntry) (hs : Keeps qt z0 s) :
    Keeps qt z0 (State.almQueue s e) := by
  unfold State.almQueue
  try dsimp only
  with_reducible repeat' first
    | assumption | intro _ | apply keeps_ite | apply State.raise_keeps | apply State.almLeave_keeps
    | apply State.almDrain_keeps | split | refine keeps_upd ?_ rfl (fun m => m)

theorem State.almanac_keeps {qt : Bool} {z0 s : State} (etype : Nat) (subject : Nat) (data : Nat) (hs : Keeps qt z0 s) :
    Keeps qt z0 (State.almanac s etype subject data) := by
  unfold State.almanac
  with_reducible repeat' first
    | assumption | intro _ | apply State.almQueue_keeps | split

theorem State.almRetire_keeps {qt : Bool} {z0 s : State} (hs : Keeps qt z0 s) :
    Keeps qt z0 (State.almRetire s) := by
  unfold State.almRetire
  try dsimp only
  with_reducible repeat' first
    | assumption | intro _ | apply State.raise_keeps | refine keeps_upd ?_ rfl (fun m => m) | split

theorem execAlmanacWrite_keeps {qt : Bool} (e : AlmReq) (bad : Bool) {s : State} {sn : State} (he : execAlmanacWrite e bad s = .next sn) : Keeps qt s sn := by
  unfold execAlmanacWrite at he
  injection he with he
  subst he
  have h0 := Keeps.refl qt s
  try dsimp only
  with_reducible repeat' first
    | assumption | intro _ | apply keeps_ite | apply State.level_keeps | apply State.almQueue_keeps
    | apply State.almRetire_keeps | split

theorem writeBufs_keeps {z0 s : State} (owner : Nat) (x0 : List Buf) (x1 : List Byte) (hs : Keeps false z0 s) :
    Keeps false z0 (writeBufs s owner x0 x1).1 := by
  induction x0 generalizing s owner x1 with
  | nil =>
    unfold writeBufs
    try dsimp only
    with_reducible repeat' first
      | assumption | intro _ | apply keeps_ite | apply State.freeBytes_keeps | apply State.dmaStore_keeps
      | apply State.dmaWrite_keeps | apply KeepsFst.ite | split | refine KeepsSnd.get ‹_› ?_
      | refine KeepsFst.get ‹_› ?_ | refine KeepsOpt.get ‹_› ?_
  | cons a l ih =>
    unfold writeBufs
    try dsimp only
    with_reducible repeat' first
      | apply ih | assumption | intro _ | apply keeps_ite | apply State.freeBytes_keeps | apply State.dmaStore_keeps
      | apply State.dmaWrite_keeps | apply KeepsFst.ite | split | refine KeepsSnd.get ‹_› ?_
      | refine KeepsFst.get ‹_› ?_ | refine KeepsOpt.get ‹_› ?_

theorem zeroBufs_keeps {z0 s : State} (owner : Nat) (x0 : List Buf) (hs : Keeps false z0 s) :
    Keeps false z0 (zeroBufs s owner x0) := by
  induction x0 generalizing s owner with
  | nil =>
    unfold zeroBufs
    with_reducible repeat' first
      | assumption | intro _ | apply writeBufs_keeps | split | refine KeepsFst.get ‹_› ?_
  | cons a l ih =>
    unfold zeroBufs
    with_reducible repeat' first
      | apply ih | assumption | intro _ | apply writeBufs_keeps | split | refine KeepsFst.get ‹_› ?_

theorem zeroOutput_keeps {z0 s : State} (owner : Nat) (d : List Byte) (hs : Keeps false z0 s) :
    Keeps false z0 (zeroOutput s owner d) := by
  unfold zeroOutput
  try dsimp only
  with_reducible repeat' first
    | assumption | intro _ | apply zeroBufs_keeps | split

end Sys2Proof.Machine
end

