-- ==== Sys2Proof/Laws/KeepsQueues.lean ====
section
/-! SUPPORT. What the operations of slots, queues, engines, contexts and the checks of a descriptor keep. -/

namespace Sys2Proof.Machine

set_option linter.unusedTactic false
set_option linter.unreachableTactic false
set_option linter.unusedVariables false

theorem buildJob_id (a b : Nat) : (buildJob a b).id = a := rfl

theorem State.putSlot_keeps {qt : Bool} {z0 s : State} (i : Nat) (x : Slot) (hs : Keeps qt z0 s) :
    Keeps qt z0 (State.putSlot s i x) := by
  unfold State.putSlot
  try dsimp only
  with_reducible repeat' first
    | assumption | intro _ | refine keeps_upd ?_ rfl (fun m => m) | split

theorem State.putCell_keeps {qt : Bool} {z0 s : State} (c : Nat) (v : Nat × Nat) (hs : Keeps qt z0 s) :
    Keeps qt z0 (State.putCell s c v) := by
  unfold State.putCell
  try dsimp only
  with_reducible repeat' first
    | assumption | intro _ | refine keeps_upd ?_ rfl (fun m => m) | split

theorem State.reserveSlot_keeps {qt : Bool} {z0 s : State} (i : Nat) (len : Nat) (lobj : Bool) (hs : Keeps qt z0 s) :
    Keeps qt z0 (State.reserveSlot s i len lobj) := by
  unfold State.reserveSlot
  try dsimp only
  with_reducible repeat' first
    | assumption | intro _ | apply State.putSlot_keeps | refine keeps_upd ?_ rfl (fun m => m) | split

theorem State.emptySlot_keeps {qt : Bool} {z0 s : State} (i : Nat) (hs : Keeps qt z0 s) :
    Keeps qt z0 (State.emptySlot s i) := by
  unfold State.emptySlot
  try dsimp only
  with_reducible repeat' first
    | assumption | intro _ | apply keeps_ite | apply State.putSlot_keeps | refine keeps_upd ?_ rfl (fun m => m)
    | split

theorem State.releaseTargets_keeps {qt : Bool} {z0 s : State} (x0 : List Nat) (hs : Keeps qt z0 s) :
    Keeps qt z0 (State.releaseTargets s x0) := by
  induction x0 generalizing s with
  | nil =>
    unfold State.releaseTargets
    with_reducible repeat' first
      | assumption | intro _ | apply keeps_ite | apply State.emptySlot_keeps | split
  | cons a l ih =>
    unfold State.releaseTargets
    with_reducible repeat' first
      | apply ih | assumption | intro _ | apply keeps_ite | apply State.emptySlot_keeps | split

theorem State.fillSlot_keeps {qt : Bool} {z0 s : State} (i : Nat) (x : Slot) (hs : Keeps qt z0 s) :
    Keeps qt z0 (State.fillSlot s i x) := by
  unfold State.fillSlot
  try dsimp only
  with_reducible repeat' first
    | assumption | intro _ | apply State.putSlot_keeps | refine keeps_upd ?_ rfl (fun m => m) | split

theorem State.dropTarget_keeps {q : Bool} {s0 s : State} (i : Nat) (hs : Keeps q s0 s) :
    Keeps q s0 (State.dropTarget s i) := by
  have h := keeps_jobs_map hs (f := fun j => if j.phase = .done then j else { j with targets := j.targets.filter (· != i) })
    (fun j => by split <;> rfl)
  exact keeps_upd h rfl id

theorem State.eraseSlot_keeps {qt : Bool} {z0 s : State} (i : Nat) (hs : Keeps qt z0 s) :
    Keeps qt z0 (State.eraseSlot s i) := by
  unfold State.eraseSlot
  try dsimp only
  with_reducible repeat' first
    | assumption | intro _ | apply State.inc_keeps | apply State.emptySlot_keeps | apply State.dropTarget_keeps
    | split

theorem State.eraseSlots_keeps {qt : Bool} {z0 s : State} (x0 : List Nat) (hs : Keeps qt z0 s) :
    Keeps qt z0 (State.eraseSlots s x0) := by
  induction x0 generalizing s with
  | nil =>
    unfold State.eraseSlots
    with_reducible repeat' first
      | assumption | intro _ | apply State.eraseSlot_keeps | split
  | cons a l ih =>
    unfold State.eraseSlots
    with_reducible repeat' first
      | apply ih | assumption | intro _ | apply State.eraseSlot_keeps | split

theorem State.syncSfevt_keeps {qt : Bool} {z0 s : State} (hs : Keeps qt z0 s) :
    Keeps qt z0 (State.syncSfevt s) := by
  unfold State.syncSfevt
  with_reducible repeat' first
    | assumption | intro _ | apply State.level_keeps | split

theorem State.sfEvent_keeps {qt : Bool} {z0 s : State} (slot : Nat) (kind : Nat) (hs : Keeps qt z0 s) :
    Keeps qt z0 (State.sfEvent s slot kind) := by
  unfold State.sfEvent
  try dsimp only
  with_reducible repeat' first
    | assumption | intro _ | apply keeps_ite | apply State.set_keeps | apply State.syncSfevt_keeps
    | refine keeps_upd ?_ rfl (fun m => m) | split

theorem State.qput_keeps {qt : Bool} {z0 s : State} (q : Nat) (x : QueueSt) (hs : Keeps qt z0 s) :
    Keeps qt z0 (State.qput s q x) := by
  unfold State.qput
  try dsimp only
  with_reducible repeat' first
    | assumption | intro _ | refine keeps_upd ?_ rfl (fun m => m) | split

theorem State.setJobs_keeps {q : Bool} {s0 s : State} {f : Job → Job} (hs : Keeps q s0 s) (k : ∀ j, (f j).id = j.id) :
    Keeps q s0 (s.setJobs (s.jqm.jobs.map f)) := keeps_jobs_map hs k

theorem State.wr64_keeps {qt : Bool} {z0 s : State} (lo : Nat) (hi : Nat) (v : Nat) (hs : Keeps qt z0 s) :
    Keeps qt z0 (State.wr64 s lo hi v) := by
  unfold State.wr64
  with_reducible repeat' first
    | assumption | intro _ | apply State.wr_keeps | split

theorem State.syncGroup_keeps {qt : Bool} {z0 s : State} (g : Nat) (hs : Keeps qt z0 s) :
    Keeps qt z0 (State.syncGroup s g) := by
  unfold State.syncGroup
  with_reducible repeat' first
    | assumption | intro _ | apply State.level_keeps | split

theorem State.syncQ_keeps {qt : Bool} {z0 s : State} (q : Nat) (hs : Keeps qt z0 s) :
    Keeps qt z0 (State.syncQ s q) := by
  unfold State.syncQ
  with_reducible repeat' first
    | assumption | intro _ | apply State.syncGroup_keeps | split

theorem State.qError_keeps {qt : Bool} {z0 s : State} (q : Nat) (f : Fld) (hs : Keeps qt z0 s) :
    Keeps qt z0 (State.qError s q f) := by
  unfold State.qError
  try dsimp only
  with_reducible repeat' first
    | assumption | intro _ | apply keeps_ite | apply State.set_keeps | apply State.qput_keeps
    | apply State.syncQ_keeps | refine keeps_upd ?_ rfl (fun m => m) | split

theorem State.wantFetch_keeps {qt : Bool} {z0 s : State} (q : Nat) (k : FetchKind) (a : Nat) (hs : Keeps qt z0 s) :
    Keeps qt z0 (State.wantFetch s q k a) := by
  unfold State.wantFetch
  try dsimp only
  with_reducible repeat' first
    | assumption | intro _ | apply keeps_ite | apply State.qput_keeps | apply State.wr64_keeps
    | refine keeps_upd ?_ rfl (fun m => m) | split

theorem State.park_keeps {qt : Bool} {z0 s : State} (q : Nat) (hs : Keeps qt z0 s) :
    Keeps qt z0 (State.park s q) := by
  unfold State.park
  try dsimp only
  with_reducible repeat' first
    | assumption | intro _ | apply keeps_ite | apply State.set_keeps | apply State.clr_keeps | apply State.qput_keeps
    | apply State.syncQ_keeps | apply State.wantFetch_keeps | refine keeps_upd ?_ rfl (fun m => m) | split

theorem State.followNext_keeps {qt : Bool} {z0 s : State} (q : Nat) (next : Nat) (hs : Keeps qt z0 s) :
    Keeps qt z0 (State.followNext s q next) := by
  unfold State.followNext
  with_reducible repeat' first
    | assumption | intro _ | apply keeps_ite | apply State.qError_keeps | apply State.wantFetch_keeps | split

theorem State.proceed_keeps {qt : Bool} {z0 s : State} (q : Nat) (d : List Byte) (hs : Keeps qt z0 s) :
    Keeps qt z0 (State.proceed s q d) := by
  unfold State.proceed
  with_reducible repeat' first
    | assumption | intro _ | apply keeps_ite | apply State.park_keeps | apply State.followNext_keeps | split

theorem State.kick_keeps {qt : Bool} {z0 s : State} (q : Nat) (hs : Keeps qt z0 s) :
    Keeps qt z0 (State.kick s q) := by
  unfold State.kick
  try dsimp only
  with_reducible repeat' first
    | assumption | intro _ | apply keeps_ite | apply State.set_keeps | apply State.qError_keeps
    | apply State.wantFetch_keeps | split

theorem State.resumeKick_keeps {qt : Bool} {z0 s : State} (q : Nat) (hs : Keeps qt z0 s) :
    Keeps qt z0 (State.resumeKick s q) := by
  unfold State.resumeKick
  with_reducible repeat' first
    | assumption | intro _ | apply keeps_ite | apply State.clr_keeps | apply State.wantFetch_keeps | split

theorem State.cqFault_keeps {q : Bool} {s0 s : State} (n : Nat) (hs : Keeps q s0 s) :
    Keeps q s0 (State.cqFault s n) := by
  unfold State.cqFault
  refine keeps_jobs_map (State.inc_keeps _ (State.qError_keeps _ _ hs)) (fun k => ?_)
  split <;> rfl

theorem State.ringWrite_keeps {z0 s : State} (q : Nat) (r : Record) (hs : Keeps false z0 s) :
    Keeps false z0 (State.ringWrite s q r) := by
  unfold State.ringWrite
  try dsimp only
  with_reducible repeat' first
    | assumption | intro _ | apply keeps_ite | apply State.put_keeps | apply State.set_keeps | apply State.inc_keeps
    | apply State.dmaWrite_keeps | apply State.syncQ_keeps | apply State.cqFault_keeps | split
    | refine KeepsOpt.get ‹_› ?_

theorem State.deliverRecord_keeps {z0 s : State} (q : Nat) (h : Hold) (r : Record) (hs : Keeps false z0 s) :
    Keeps false z0 (State.deliverRecord s q h r) := by
  unfold State.deliverRecord
  try dsimp only
  with_reducible repeat' first
    | assumption | intro _ | apply keeps_ite | apply State.set_keeps | apply State.qput_keeps
    | apply State.syncQ_keeps | apply State.ringWrite_keeps | refine keeps_upd ?_ rfl (fun m => m) | split

theorem State.completeHand_keeps {z0 s : State} (q : Nat) (r : JobResult) (hs : Keeps false z0 s) :
    Keeps false z0 (State.completeHand s q r) := by
  unfold State.completeHand
  try dsimp only
  with_reducible repeat' first
    | assumption | intro _ | apply State.clr_keeps | apply State.releaseTargets_keeps | apply State.qput_keeps
    | apply State.proceed_keeps | apply State.deliverRecord_keeps | split | refine keeps_upd ?_ rfl (fun m => m)

theorem State.settleHands_keeps {z0 s : State} (hs : Keeps false z0 s) :
    Keeps false z0 (State.settleHands s) := by
  unfold State.settleHands
  try dsimp only
  with_reducible repeat' first
    | assumption | intro _ | apply State.completeHand_keeps | apply keeps_foldl | apply keeps_foldl_fst | split

theorem State.issueWanted_keeps {qt : Bool} {z0 s : State} (q : Nat) (hs : Keeps qt z0 s) :
    Keeps qt z0 (State.issueWanted s q) := by
  unfold State.issueWanted
  try dsimp only
  with_reducible repeat' first
    | assumption | intro _ | apply keeps_ite | apply State.qput_keeps | apply State.wr64_keeps | split
    | refine keeps_upd ?_ rfl (fun m => m)

theorem State.putJob_keeps {q : Bool} {s0 s : State} (j : Job) (hs : Keeps q s0 s) :
    Keeps q s0 (State.putJob s j) := by
  refine keeps_jobs_map hs (fun k => ?_)
  split
  · next e => exact (beq_iff_eq.mp e).symm
  · rfl

theorem State.dropJob_keeps {q : Bool} {s0 s : State} (id : Nat) (hs : Keeps q s0 s) :
    Keeps q s0 (State.dropJob s id) := keeps_jobs_filter hs _

theorem State.flushHand_keeps {z0 s : State} (q : Nat) (hs : Keeps false z0 s) :
    Keeps false z0 (State.flushHand s q) := by
  unfold State.flushHand
  with_reducible repeat' first
    | assumption | intro _ | apply State.completeHand_keeps | split

theorem State.stopFetch_keeps {qt : Bool} {z0 s : State} (q : Nat) (hs : Keeps qt z0 s) :
    Keeps qt z0 (State.stopFetch s q) := by
  unfold State.stopFetch
  try dsimp only
  with_reducible repeat' first
    | assumption | intro _ | apply State.clr_keeps | apply State.qput_keeps | refine keeps_upd ?_ rfl (fun m => m)
    | split

theorem State.resetQueue_keeps {qt : Bool} {z0 s : State} (q : Nat) (hs : Keeps qt z0 s) :
    Keeps qt z0 (State.resetQueue s q) := by
  unfold State.resetQueue
  try dsimp only
  with_reducible repeat' first
    | assumption | intro _ | apply State.resetRegs_keeps | apply State.qput_keeps | split

theorem State.putQuad_keeps {qt : Bool} {z0 s : State} (n : Nat) (x : Quadrant) (hs : Keeps qt z0 s) :
    Keeps qt z0 (State.putQuad s n x) := by
  unfold State.putQuad
  try dsimp only
  with_reducible repeat' first
    | assumption | intro _ | refine keeps_upd ?_ rfl (fun m => m) | split

theorem State.startJob_keeps {qt : Bool} {z0 s : State} (j : Job) (hs : Keeps qt z0 s) :
    Keeps qt z0 (State.startJob s j) := by
  unfold State.startJob
  try dsimp only
  with_reducible repeat' first
    | assumption | intro _ | apply keeps_ite | apply State.putJob_keeps | refine keeps_upd ?_ rfl (fun m => m)
    | split

theorem State.giveEngine_keeps {qt : Bool} {z0 s : State} (j : Job) (hs : Keeps qt z0 s) :
    Keeps qt z0 (State.giveEngine s j) := by
  unfold State.giveEngine
  try dsimp only
  with_reducible repeat' first
    | assumption | intro _ | apply keeps_ite | apply State.putJob_keeps | apply State.startJob_keeps
    | refine keeps_upd ?_ rfl (fun m => m) | split

theorem State.schedule_keeps {qt : Bool} {z0 s : State} (e : Nat) (hs : Keeps qt z0 s) :
    Keeps qt z0 (State.schedule s e) := by
  unfold State.schedule
  try dsimp only
  with_reducible repeat' first
    | assumption | intro _ | apply keeps_ite | apply State.giveEngine_keeps | split

theorem State.grantPool_keeps {qt : Bool} {z0 s : State} (p : Res) (hs : Keeps qt z0 s) :
    Keeps qt z0 (State.grantPool s p) := by
  unfold State.grantPool
  try dsimp only
  with_reducible repeat' first
    | assumption | intro _ | apply State.giveEngine_keeps | split | refine keeps_upd ?_ rfl (fun m => m)

theorem State.dkeGrant_keeps {qt : Bool} {z0 s : State} (e : Nat) (hs : Keeps qt z0 s) :
    Keeps qt z0 (State.dkeGrant s e) := by
  unfold State.dkeGrant
  try dsimp only
  with_reducible repeat' first
    | assumption | intro _ | apply keeps_ite | apply State.putDke_keeps | refine keeps_upd ?_ rfl (fun m => m)
    | split

theorem State.refill_keeps {qt : Bool} {z0 s : State} (p : Res) (e : Nat) (e2 : Nat) (hs : Keeps qt z0 s) :
    Keeps qt z0 (State.refill s p e e2) := by
  unfold State.refill
  try dsimp only
  with_reducible repeat' first
    | assumption | intro _ | apply keeps_ite | apply State.schedule_keeps | apply State.grantPool_keeps
    | apply State.dkeGrant_keeps | split

theorem State.preemptAt_keeps {qt : Bool} {z0 s : State} (e : Nat) (hs : Keeps qt z0 s) :
    Keeps qt z0 (State.preemptAt s e) := by
  unfold State.preemptAt
  try dsimp only
  with_reducible repeat' first
    | assumption | intro _ | apply keeps_ite | apply State.inc_keeps | apply State.putJob_keeps
    | apply State.schedule_keeps | split | refine keeps_upd ?_ rfl (fun m => m)

theorem State.countEnd_keeps {qt : Bool} {z0 s : State} (e : Nat) (status : Nat) (hs : Keeps qt z0 s) :
    Keeps qt z0 (State.countEnd s e status) := by
  unfold State.countEnd
  with_reducible repeat' first
    | assumption | intro _ | apply keeps_ite | apply State.inc_keeps | split

theorem State.setBuilding_keeps {qt : Bool} {z0 s : State} (i : Nat) (b : Bool) (hs : Keeps qt z0 s) :
    Keeps qt z0 (State.setBuilding s i b) := by
  unfold State.setBuilding
  try dsimp only
  with_reducible repeat' first
    | assumption | intro _ | apply State.putSlot_keeps | split | refine keeps_upd ?_ rfl (fun m => m)

theorem State.finishJob_keeps {qt : Bool} {z0 s : State} (j : Job) (r : JobResult) (hs : Keeps qt z0 s) :
    Keeps qt z0 (State.finishJob s j r) := by
  unfold State.finishJob
  try dsimp only
  with_reducible repeat' first
    | assumption | intro _ | apply keeps_ite | apply State.releaseTargets_keeps | apply State.putJob_keeps
    | apply State.dropJob_keeps | apply State.refill_keeps | apply State.countEnd_keeps
    | apply State.setBuilding_keeps | split | refine keeps_upd ?_ rfl (fun m => m)

theorem State.failJob_keeps {z0 s : State} (j : Job) (e : Err) (hs : Keeps false z0 s) :
    Keeps false z0 (State.failJob s j e) := by
  unfold State.failJob
  try dsimp only
  with_reducible repeat' first
    | assumption | intro _ | apply keeps_ite | apply zeroOutput_keeps | apply State.finishJob_keeps | split

theorem State.tamperJob_keeps {z0 s : State} (j : Job) (source : Nat) (hs : Keeps false z0 s) :
    Keeps false z0 (State.tamperJob s j source) := by
  unfold State.tamperJob
  try dsimp only
  with_reducible repeat' first
    | assumption | intro _ | apply keeps_ite | apply State.eraseSlots_keeps | apply State.failJob_keeps | split

theorem State.withdrawJob_keeps {qt : Bool} {z0 s : State} (j : Job) (hs : Keeps qt z0 s) :
    Keeps qt z0 (State.withdrawJob s j) := by
  unfold State.withdrawJob
  with_reducible repeat' first
    | assumption | intro _ | apply State.finishJob_keeps | split

theorem State.flushJob_keeps {z0 s : State} (j : Job) (hs : Keeps false z0 s) :
    Keeps false z0 (State.flushJob s j) := by
  unfold State.flushJob
  try dsimp only
  with_reducible repeat' first
    | assumption | intro _ | apply keeps_ite | apply State.putJob_keeps | apply State.failJob_keeps
    | apply State.withdrawJob_keeps | split | refine keeps_upd ?_ rfl (fun m => m)

theorem State.tamperOne_keeps {z0 s : State} (n : Nat) (j : Job) (hs : Keeps false z0 s) :
    Keeps false z0 (State.tamperOne s n j) := by
  unfold State.tamperOne
  try dsimp only
  with_reducible repeat' first
    | assumption | intro _ | apply keeps_ite | apply State.putJob_keeps | apply State.tamperJob_keeps
    | refine keeps_upd ?_ rfl (fun m => m) | split

theorem State.eachJob_keeps {qt : Bool} {z0 s : State} (f : State → Job → State) (x0 : List Nat) (h_f : ∀ (a0 : State) (a1 : Job), Keeps qt z0 a0 → Keeps qt z0 (f a0 a1)) (hs : Keeps qt z0 s) :
    Keeps qt z0 (State.eachJob s f x0) := by
  induction x0 generalizing s with
  | nil =>
    unfold State.eachJob
    try dsimp only
    with_reducible repeat' first
      | assumption | intro _ | apply h_f | split
  | cons a l ih =>
    unfold State.eachJob
    try dsimp only
    with_reducible repeat' first
      | apply ih | assumption | intro _ | apply h_f | split

theorem State.flushJobs_keeps {z0 s : State} (q : Nat) (hs : Keeps false z0 s) :
    Keeps false z0 (State.flushJobs s q) := by
  unfold State.flushJobs
  try dsimp only
  with_reducible repeat' first
    | assumption | intro _ | apply State.flushJob_keeps | apply State.eachJob_keeps | split

theorem State.tamperJobs_keeps {z0 s : State} (n : Nat) (hs : Keeps false z0 s) :
    Keeps false z0 (State.tamperJobs s n) := by
  unfold State.tamperJobs
  try dsimp only
  with_reducible repeat' first
    | assumption | intro _ | apply State.tamperOne_keeps | apply State.eachJob_keeps | split

theorem State.faultJob_keeps {z0 s : State} (kind : Nat) (j : Job) (hs : Keeps false z0 s) :
    Keeps false z0 (State.faultJob s kind j) := by
  unfold State.faultJob
  with_reducible repeat' first
    | assumption | intro _ | apply keeps_ite | apply State.failJob_keeps | split

theorem State.faultJobs_keeps {z0 s : State} (kind : Nat) (p : Job → Bool) (hs : Keeps false z0 s) :
    Keeps false z0 (State.faultJobs s kind p) := by
  unfold State.faultJobs
  with_reducible repeat' first
    | assumption | intro _ | apply State.eachJob_keeps | apply State.faultJob_keeps | split

theorem State.putCtx_keeps {qt : Bool} {z0 s : State} (c : Nat) (x : List Byte) (hs : Keeps qt z0 s) :
    Keeps qt z0 (State.putCtx s c x) := by
  unfold State.putCtx
  try dsimp only
  with_reducible repeat' first
    | assumption | intro _ | refine keeps_upd ?_ rfl (fun m => m) | split

theorem State.mpeWrite_keeps {qt : Bool} {z0 s : State} (line : Nat) (hs : Keeps qt z0 s) :
    Keeps qt z0 (State.mpeWrite s line) := by
  unfold State.mpeWrite
  try dsimp only
  with_reducible repeat' first
    | assumption | intro _ | apply keeps_ite | apply State.inc_keeps | refine keeps_upd ?_ rfl (fun m => m) | split

theorem State.mpeWriteN_keeps {qt : Bool} {z0 s : State} (line : Nat) (x0 : Nat) (hs : Keeps qt z0 s) :
    Keeps qt z0 (State.mpeWriteN s line x0) := by
  induction x0 generalizing s line with
  | zero =>
    unfold State.mpeWriteN
    with_reducible repeat' first
      | assumption | intro _ | apply State.mpeWrite_keeps | split
  | succ m ih =>
    unfold State.mpeWriteN
    with_reducible repeat' first
      | apply ih | assumption | intro _ | apply State.mpeWrite_keeps | split

theorem State.macFail_keeps {qt : Bool} {z0 s : State} (lvl : Nat) (addr : Nat) (hs : Keeps qt z0 s) :
    Keeps qt z0 (State.macFail s lvl addr) := by
  unfold State.macFail
  try dsimp only
  with_reducible repeat' first
    | assumption | intro _ | apply keeps_ite | apply State.wr_keeps | apply State.set_keeps | apply State.inc_keeps
    | apply State.report_keeps | refine keeps_upd ?_ rfl (fun m => m) | split

theorem State.touch_keeps {qt : Bool} {z0 s : State} (c : Nat) (hs : Keeps qt z0 s) :
    Keeps qt z0 (State.touch s c) := by
  unfold State.touch
  try dsimp only
  with_reducible repeat' first
    | assumption | intro _ | apply keeps_ite | apply State.inc_keeps | apply State.mpeWriteN_keeps
    | refine keeps_upd ?_ rfl (fun m => m) | split

theorem State.commitBegin_keeps {qt : Bool} {z0 s : State} (hs : Keeps qt z0 s) :
    Keeps qt z0 (State.commitBegin s) := by
  unfold State.commitBegin
  try dsimp only
  with_reducible repeat' first
    | assumption | intro _ | apply State.inc_keeps | refine keeps_upd ?_ rfl (fun m => m) | split

theorem State.commitCtx_keeps {qt : Bool} {z0 s : State} (c : Nat) (versioned : Bool) (x : List Byte) (hs : Keeps qt z0 s) :
    Keeps qt z0 (State.commitCtx s c versioned x) := by
  unfold State.commitCtx
  try dsimp only
  with_reducible repeat' first
    | assumption | intro _ | apply keeps_ite | apply State.putCtx_keeps | apply State.touch_keeps | split

theorem State.commit1_keeps {qt : Bool} {z0 s : State} (c : Nat) (versioned : Bool) (x : List Byte) (hs : Keeps qt z0 s) :
    Keeps qt z0 (State.commit1 s c versioned x) := by
  unfold State.commit1
  with_reducible repeat' first
    | assumption | intro _ | apply State.commitBegin_keeps | apply State.commitCtx_keeps | split

theorem State.flowPut_keeps {qt : Bool} {z0 s : State} (r : FlowRef) (e : List Byte) (hs : Keeps qt z0 s) :
    Keeps qt z0 (State.flowPut s r e) := by
  unfold State.flowPut
  try dsimp only
  with_reducible repeat' first
    | assumption | intro _ | apply keeps_ite | apply State.set_keeps | apply State.mpeWrite_keeps | split
    | refine keeps_upd ?_ rfl (fun m => m)

theorem State.insertTab_keeps {qt : Bool} {z0 s : State} (e : List Byte) (hs : Keeps qt z0 s) :
    KeepsOpt qt z0 (State.insertTab s e) := by
  unfold State.insertTab
  try dsimp only
  with_reducible repeat' first
    | assumption | intro _ | apply State.flowPut_keeps | exact KeepsOpt.none | apply KeepsOpt.some
    | apply KeepsOpt.ite | apply KeepsOpt.map | apply KeepsOpt.bind | split

theorem State.insertPin_keeps {qt : Bool} {z0 s : State} (e : List Byte) (hs : Keeps qt z0 s) :
    KeepsOpt qt z0 (State.insertPin s e) := by
  unfold State.insertPin
  try dsimp only
  with_reducible repeat' first
    | assumption | intro _ | apply keeps_ite | exact KeepsOpt.none | apply KeepsOpt.some | apply KeepsOpt.ite
    | apply KeepsOpt.map | apply KeepsOpt.bind | refine keeps_upd ?_ rfl (fun m => m) | split

theorem State.insertFlows_keeps {qt : Bool} {z0 s : State} (pin : Bool) (x0 : List (List Byte)) (hs : Keeps qt z0 s) :
    KeepsOpt qt z0 (State.insertFlows s pin x0) := by
  induction x0 generalizing s pin with
  | nil =>
    unfold State.insertFlows
    try dsimp only
    with_reducible repeat' first
      | assumption | intro _ | apply keeps_ite | apply State.insertTab_keeps | apply State.insertPin_keeps
      | exact KeepsOpt.none | apply KeepsOpt.some | apply KeepsOpt.ite | apply KeepsOpt.map | apply KeepsOpt.bind
      | split | refine KeepsOpt.get ‹_› ?_
  | cons a l ih =>
    unfold State.insertFlows
    try dsimp only
    with_reducible repeat' first
      | apply ih | assumption | intro _ | apply keeps_ite | apply State.insertTab_keeps | apply State.insertPin_keeps
      | exact KeepsOpt.none | apply KeepsOpt.some | apply KeepsOpt.ite | apply KeepsOpt.map | apply KeepsOpt.bind
      | split | refine KeepsOpt.get ‹_› ?_

theorem State.pinEntries_keeps {qt : Bool} {z0 s : State} (c : Nat) (hs : Keeps qt z0 s) :
    KeepsOpt qt z0 (State.pinEntries s c) := by
  unfold State.pinEntries
  try dsimp only
  with_reducible repeat' first
    | assumption | intro _ | apply State.flowPut_keeps | apply State.insertFlows_keeps | apply keeps_foldl
    | apply keeps_foldl_fst | exact KeepsOpt.none | apply KeepsOpt.some | apply KeepsOpt.ite | apply KeepsOpt.map
    | apply KeepsOpt.bind | split | refine KeepsOpt.get ‹_› ?_

theorem State.unpinEntries_keeps {qt : Bool} {z0 s : State} (c : Nat) (hs : Keeps qt z0 s) :
    KeepsOpt qt z0 (State.unpinEntries s c) := by
  unfold State.unpinEntries
  try dsimp only
  with_reducible repeat' first
    | assumption | intro _ | apply State.insertFlows_keeps | exact KeepsOpt.none | apply KeepsOpt.some
    | apply KeepsOpt.ite | apply KeepsOpt.map | apply KeepsOpt.bind | refine keeps_upd ?_ rfl (fun m => m) | split
    | refine KeepsOpt.get ‹_› ?_

theorem State.flowRejected_keeps {qt : Bool} {z0 s : State} (hs : Keeps qt z0 s) :
    Keeps qt z0 (State.flowRejected s) := by
  unfold State.flowRejected
  with_reducible repeat' first
    | assumption | intro _ | apply State.inc_keeps | apply State.raise_keeps | split

theorem State.reserveAll_keeps {q : Bool} {z0 s : State} (l : List (Nat × Nat × Bool)) (hs : Keeps q z0 s) :
    KeepsTry id q z0 (State.reserveAll s l) := by
  induction l generalizing s with
  | nil => exact hs
  | cons a l ih =>
    unfold State.reserveAll
    split
    · exact hs
    · next i _ =>
      have h := ih (State.reserveSlot_keeps i a.2.1 a.2.2 hs)
      split
      · next e =>
        rw [e] at h
        exact h
      · next e =>
        rw [e] at h
        exact State.releaseTargets_keeps _ h

theorem State.stage456_keeps {q : Bool} {z0 s : State} (n : Nat) (d : List Byte) (hs : Keeps q z0 s) :
    KeepsTry Prod.snd q z0 (State.stage456 s n d) := by
  unfold State.stage456
  dsimp only
  repeat' split
  all_goals first
    | exact hs
    | skip
  · exact KeepsTry.err (f := id) ‹_› (State.reserveAll_keeps _ hs)
  · exact State.releaseTargets_keeps _ (KeepsTry.get ‹_› (State.reserveAll_keeps _ hs))
  · exact KeepsTry.get ‹_› (State.reserveAll_keeps _ hs)

theorem State.withInput_keeps {z0 s : State} (j : Job) (k : JobIn → State) (h_k : ∀ (a0 : JobIn), Keeps false z0 (k a0)) (hs : Keeps false z0 s) :
    Keeps false z0 (State.withInput s j k) := by
  unfold State.withInput
  try dsimp only
  with_reducible repeat' first
    | assumption | intro _ | apply h_k | apply keeps_ite | apply State.finishJob_keeps | apply State.failJob_keeps
    | split

theorem State.queueEnable_keeps {qt : Bool} {z0 s : State} (q : Nat) (hs : Keeps qt z0 s) :
    Keeps qt z0 (State.queueEnable s q) := by
  unfold State.queueEnable
  try dsimp only
  with_reducible repeat' first
    | assumption | intro _ | apply keeps_ite | apply State.wr_keeps | apply State.set_keeps | apply State.clr_keeps
    | apply State.qput_keeps | apply State.wr64_keeps | apply State.qError_keeps | split

theorem State.queueDisable_keeps {z0 s : State} (q : Nat) (hs : Keeps false z0 s) :
    Keeps false z0 (State.queueDisable s q) := by
  unfold State.queueDisable
  with_reducible repeat' first
    | assumption | intro _ | apply State.clr_keeps | apply State.flushHand_keeps | apply State.stopFetch_keeps
    | split

theorem State.queuePause_keeps {qt : Bool} {z0 s : State} (q : Nat) (p : Bool) (hs : Keeps qt z0 s) :
    Keeps qt z0 (State.queuePause s q p) := by
  unfold State.queuePause
  with_reducible repeat' first
    | assumption | intro _ | apply keeps_ite | apply State.set_keeps | apply State.clr_keeps
    | apply State.resumeKick_keeps | apply State.issueWanted_keeps | split

theorem State.queueFlush_keeps {z0 s : State} (q : Nat) (hs : Keeps false z0 s) :
    Keeps false z0 (State.queueFlush s q) := by
  unfold State.queueFlush
  try dsimp only
  with_reducible repeat' first
    | assumption | intro _ | apply keeps_ite | apply State.set_keeps | apply State.flushHand_keeps
    | apply State.stopFetch_keeps | apply State.flushJobs_keeps | split

theorem State.queueSnap_keeps {qt : Bool} {z0 s : State} (q : Nat) (hs : Keeps qt z0 s) :
    Keeps qt z0 (State.queueSnap s q) := by
  unfold State.queueSnap
  with_reducible repeat' first
    | assumption | intro _ | apply State.cntLoad_keeps | split

theorem State.queueCntClr_keeps {qt : Bool} {z0 s : State} (q : Nat) (hs : Keeps qt z0 s) :
    Keeps qt z0 (State.queueCntClr s q) := by
  unfold State.queueCntClr
  with_reducible repeat' first
    | assumption | intro _ | apply State.cntClear_keeps | split

theorem State.qCtlWrite_keeps {z0 s : State} (q : Nat) (v : Word) (hs : Keeps false z0 s) :
    Keeps false z0 (State.qCtlWrite s q v) := by
  unfold State.qCtlWrite
  try dsimp only
  with_reducible repeat' first
    | assumption | intro _ | apply keeps_ite | apply State.putB_keeps | apply State.queueEnable_keeps
    | apply State.queueDisable_keeps | apply State.queuePause_keeps | apply State.queueFlush_keeps
    | apply State.queueSnap_keeps | apply State.queueCntClr_keeps | split

theorem State.qPrioWrite_keeps {qt : Bool} {z0 s : State} (q : Nat) (v : Word) (hs : Keeps qt z0 s) :
    Keeps qt z0 (State.qPrioWrite s q v) := by
  unfold State.qPrioWrite
  try dsimp only
  with_reducible repeat' first
    | assumption | intro _ | apply keeps_ite | apply State.put_keeps | apply State.qError_keeps | split

theorem State.qCfgWrite_keeps {qt : Bool} {z0 s : State} (q : Nat) (k : QCfgReg) (v : Word) (hs : Keeps qt z0 s) :
    Keeps qt z0 (State.qCfgWrite s q k v) := by
  unfold State.qCfgWrite
  with_reducible repeat' first
    | assumption | intro _ | apply keeps_ite | apply State.wr_keeps | apply State.qError_keeps | split

theorem State.cqHeadWrite_keeps {qt : Bool} {z0 s : State} (q : Nat) (v : Word) (hs : Keeps qt z0 s) :
    Keeps qt z0 (State.cqHeadWrite s q v) := by
  unfold State.cqHeadWrite
  try dsimp only
  with_reducible repeat' first
    | assumption | intro _ | apply keeps_ite | apply State.put_keeps | apply State.qError_keeps | split

theorem State.qEventWrite_keeps {qt : Bool} {z0 s : State} (q : Nat) (o : Nat) (v : Word) (hs : Keeps qt z0 s) :
    Keeps qt z0 (State.qEventWrite s q o v) := by
  unfold State.qEventWrite
  with_reducible repeat' first
    | assumption | intro _ | apply State.wrGeneric_keeps | apply State.syncQ_keeps | split

theorem State.qgrpWrite_keeps {qt : Bool} {z0 s : State} (g : Nat) (v : Word) (hs : Keeps qt z0 s) :
    Keeps qt z0 (State.qgrpWrite s g v) := by
  unfold State.qgrpWrite
  try dsimp only
  with_reducible repeat' first
    | assumption | intro _ | apply keeps_ite | apply State.put_keeps | apply State.set_keeps | apply State.clr_keeps
    | split

theorem State.noteRefusal_keeps {qt : Bool} {z0 s : State} (d : List Byte) (r : JobResult) (hs : Keeps qt z0 s) :
    Keeps qt z0 (State.noteRefusal s d r) := by
  unfold State.noteRefusal
  try dsimp only
  with_reducible repeat' first
    | assumption | intro _ | apply keeps_ite | apply State.set_keeps | apply State.inc_keeps
    | apply State.raise_keeps | split

theorem State.enlist_keeps {z0 s : State} (q : Nat) (hs : Keeps false z0 s) :
    Keeps false z0 (State.enlist s q) := by
  unfold State.enlist
  split
  · exact hs
  · next k _ =>
    have h := State.stage456_keeps q k.desc hs
    split
    · exact State.completeHand_keeps _ _ (State.noteRefusal_keeps _ _ (KeepsTry.err ‹_› h))
    · exact State.qput_keeps _ _ (KeepsTry.get ‹_› h)

theorem State.fetched_keeps {z0 s : State} (q : Nat) (addr : Nat) (d : List Byte) (hs : Keeps false z0 s) :
    Keeps false z0 (State.fetched s q addr d) := by
  unfold State.fetched
  try dsimp only
  with_reducible repeat' first
    | assumption | intro _ | apply keeps_ite | apply State.set_keeps | apply State.clr_keeps | apply State.qput_keeps
    | apply State.completeHand_keeps | apply State.enlist_keeps | split | refine keeps_upd ?_ rfl (fun m => m)

theorem State.fetchArrive_keeps {z0 s : State} (q : Nat) (hs : Keeps false z0 s) :
    Keeps false z0 (State.fetchArrive s q) := by
  unfold State.fetchArrive
  try dsimp only
  with_reducible repeat' first
    | assumption | intro _ | apply keeps_ite | apply State.qError_keeps | apply State.fetched_keeps | split

theorem State.rereadArrive_keeps {qt : Bool} {z0 s : State} (q : Nat) (hs : Keeps qt z0 s) :
    Keeps qt z0 (State.rereadArrive s q) := by
  unfold State.rereadArrive
  try dsimp only
  with_reducible repeat' first
    | assumption | intro _ | apply keeps_ite | apply State.clr_keeps | apply State.qput_keeps
    | apply State.qError_keeps | apply State.park_keeps | apply State.followNext_keeps | split
    | refine keeps_upd ?_ rfl (fun m => m)

theorem State.noteGrant_keeps {qt : Bool} {z0 s : State} (key : Nat) (q : Nat) (hs : Keeps qt z0 s) :
    Keeps qt z0 (State.noteGrant s key q) := by
  unfold State.noteGrant
  try dsimp only
  with_reducible repeat' first
    | assumption | intro _ | apply keeps_ite | refine keeps_upd ?_ rfl (fun m => m) | split

theorem State.tryStart_keeps {qt : Bool} {z0 s : State} (p : Res) (e : Nat) (hs : Keeps qt z0 s) :
    Keeps qt z0 (State.tryStart s p e) := by
  unfold State.tryStart
  try dsimp only
  with_reducible repeat' first
    | assumption | intro _ | apply keeps_ite | apply State.schedule_keeps | apply State.grantPool_keeps
    | apply State.preemptAt_keeps | split

theorem State.placeBuilds_keeps {qt : Bool} {z0 s : State} (hs : Keeps qt z0 s) :
    Keeps qt z0 (State.placeBuilds s) := by
  unfold State.placeBuilds
  try dsimp only
  with_reducible repeat' first
    | assumption | intro _ | apply State.putJob_keeps | apply State.eachJob_keeps | apply State.tryStart_keeps
    | split | refine keeps_upd ?_ rfl (fun m => m)

theorem State.startBuilds_keeps {qt : Bool} {z0 s : State} (hs : Keeps qt z0 s) :
    Keeps qt z0 (State.startBuilds s) := by
  unfold State.startBuilds
  try dsimp only
  with_reducible repeat' first
    | assumption | intro _ | apply State.setBuilding_keeps | apply State.placeBuilds_keeps | apply keeps_jobs_add
    | apply buildJob_id | apply keeps_foldl | apply keeps_foldl_fst | refine keeps_upd ?_ rfl (fun m => m) | split

theorem State.dispatch_keeps {qt : Bool} {z0 s : State} (p : Res) (q : Nat) (c : Nat) (h : Hand) (hold : Hold) (es : Nat × Nat) (hs : Keeps qt z0 s) :
    Keeps qt z0 (State.dispatch s p q c h hold es) := by
  unfold State.dispatch
  try dsimp only
  with_reducible repeat' first
    | assumption | intro _ | apply State.qput_keeps | apply State.proceed_keeps | apply State.noteGrant_keeps
    | apply State.tryStart_keeps | apply keeps_jobs_add | apply rfl | refine keeps_upd ?_ rfl (fun m => m) | split

theorem State.dispatchReady_keeps {qt : Bool} {z0 s : State} (p : Res) (rs : List (Nat × Nat)) (c : Nat) (hs : Keeps qt z0 s) :
    Keeps qt z0 (State.dispatchReady s p rs c) := by
  unfold State.dispatchReady
  try dsimp only
  with_reducible repeat' first
    | assumption | intro _ | apply State.dispatch_keeps | split

theorem State.dispatchAt_keeps {qt : Bool} {z0 s : State} (p : Res) (hs : Keeps qt z0 s) :
    Keeps qt z0 (State.dispatchAt s p) := by
  unfold State.dispatchAt
  try dsimp only
  with_reducible repeat' first
    | assumption | intro _ | apply keeps_ite | apply State.giveEngine_keeps | apply State.startBuilds_keeps
    | apply State.dispatchReady_keeps | split | refine keeps_upd ?_ rfl (fun m => m)

theorem State.afterRecord_keeps {z0 s : State} (q : Nat) (hs : Keeps false z0 s) :
    Keeps false z0 (State.afterRecord s q) := by
  unfold State.afterRecord
  with_reducible repeat' first
    | assumption | intro _ | apply State.syncQ_keeps | apply State.settleHands_keeps | apply State.issueWanted_keeps
    | split

theorem State.jobRecord_keeps {z0 s : State} (j : Job) (r : JobResult) (hs : Keeps false z0 s) :
    Keeps false z0 (State.jobRecord s j r) := by
  unfold State.jobRecord
  try dsimp only
  with_reducible repeat' first
    | assumption | intro _ | apply keeps_ite | apply State.inc_keeps | apply State.deliverRecord_keeps
    | apply State.dropJob_keeps | apply State.afterRecord_keeps | split

theorem State.reportCheck_keeps {qt : Bool} {z0 s : State} (j : Job) (k : Nat) (hs : Keeps qt z0 s) :
    Keeps qt z0 (State.reportCheck s j k) := by
  unfold State.reportCheck
  try dsimp only
  with_reducible repeat' first
    | assumption | intro _ | apply keeps_ite | apply State.freeNat_keeps | apply State.report_keeps
    | apply State.macFail_keeps | split | refine KeepsSnd.get ‹_› ?_

theorem State.checkedResult_keeps {z0 s : State} (j : Job) (r : JobResult) (x0 : Check) (hs : Keeps false z0 s) :
    Keeps false z0 (State.checkedResult s j r x0).1 := by
  unfold State.checkedResult
  try dsimp only
  with_reducible repeat' first
    | assumption | intro _ | apply keeps_ite | apply zeroOutput_keeps | apply State.eraseSlots_keeps
    | apply State.reportCheck_keeps | apply KeepsFst.ite | split

theorem State.heldTransfer_keeps {z0 s : State} (q : Nat) (hs : Keeps false z0 s) :
    Keeps false z0 (State.heldTransfer s q) := by
  unfold State.heldTransfer
  try dsimp only
  with_reducible repeat' first
    | assumption | intro _ | apply keeps_ite | apply State.clr_keeps | apply State.qput_keeps
    | apply State.ringWrite_keeps | apply State.afterRecord_keeps | split | refine keeps_upd ?_ rfl (fun m => m)

theorem State.flushDone_keeps {qt : Bool} {z0 s : State} (q : Nat) (hs : Keeps qt z0 s) :
    Keeps qt z0 (State.flushDone s q) := by
  unfold State.flushDone
  try dsimp only
  with_reducible repeat' first
    | assumption | intro _ | apply keeps_ite | apply State.clr_keeps | split

theorem State.loseJob_keeps {qt : Bool} {z0 s : State} (j : Job) (hs : Keeps qt z0 s) :
    Keeps qt z0 (State.loseJob s j) := by
  unfold State.loseJob
  try dsimp only
  with_reducible repeat' first
    | assumption | intro _ | apply keeps_ite | apply State.dropJob_keeps | apply State.finishJob_keeps | split

theorem State.resetQueues_keeps {z0 s : State} (g : Nat → Bool) (keepErr : Bool) (hs : Keeps false z0 s) :
    Keeps false z0 (State.resetQueues s g keepErr) := by
  unfold State.resetQueues
  try dsimp only
  with_reducible repeat' first
    | assumption | intro _ | apply keeps_ite | apply State.resetRegs_keeps | apply State.count_keeps
    | apply State.releaseTargets_keeps | apply State.syncGroup_keeps | apply State.settleHands_keeps
    | apply State.eachJob_keeps | apply State.loseJob_keeps | apply keeps_foldl | apply keeps_foldl_fst | split
    | refine keeps_upd ?_ rfl (fun m => m)

theorem execQgrpOwnerWrite_keeps {qt : Bool} (r : Req) (g : Fin 32) (v : Word) {s : State} {sn : State} (he : execQgrpOwnerWrite r g v s = .next sn) : Keeps qt s sn := by
  unfold execQgrpOwnerWrite at he
  injection he with he
  subst he
  have h0 := Keeps.refl qt s
  with_reducible repeat' first
    | assumption | intro _ | apply State.gateW_keeps | apply State.qgrpWrite_keeps | split

theorem execQueueEnable_keeps (r : Req) (q : Fin 4096) (v : Word) {s : State} {sn : State} (he : execQueueEnable r q v s = .next sn) : Keeps false s sn := by
  unfold execQueueEnable at he
  injection he with he
  subst he
  have h0 := Keeps.refl false s
  with_reducible repeat' first
    | assumption | intro _ | apply State.gateW_keeps | apply State.qCtlWrite_keeps | split

theorem execQueueDisable_keeps (r : Req) (q : Fin 4096) (v : Word) {s : State} {sn : State} (he : execQueueDisable r q v s = .next sn) : Keeps false s sn := by
  unfold execQueueDisable at he
  injection he with he
  subst he
  have h0 := Keeps.refl false s
  with_reducible repeat' first
    | assumption | intro _ | apply State.gateW_keeps | apply State.qCtlWrite_keeps | split

theorem execQueuePause_keeps (r : Req) (q : Fin 4096) (v : Word) {s : State} {sn : State} (he : execQueuePause r q v s = .next sn) : Keeps false s sn := by
  unfold execQueuePause at he
  injection he with he
  subst he
  have h0 := Keeps.refl false s
  with_reducible repeat' first
    | assumption | intro _ | apply State.gateW_keeps | apply State.qCtlWrite_keeps | split

theorem execPauseClear_keeps (r : Req) (q : Fin 4096) (v : Word) {s : State} {sn : State} (he : execPauseClear r q v s = .next sn) : Keeps false s sn := by
  unfold execPauseClear at he
  injection he with he
  subst he
  have h0 := Keeps.refl false s
  with_reducible repeat' first
    | assumption | intro _ | apply State.gateW_keeps | apply State.qCtlWrite_keeps | split

theorem execQueueFlush_keeps (r : Req) (q : Fin 4096) (v : Word) {s : State} {sn : State} (he : execQueueFlush r q v s = .next sn) : Keeps false s sn := by
  unfold execQueueFlush at he
  injection he with he
  subst he
  have h0 := Keeps.refl false s
  with_reducible repeat' first
    | assumption | intro _ | apply State.gateW_keeps | apply State.qCtlWrite_keeps | split

theorem execFlushComplete_keeps {qt : Bool} (q : Fin 4096) {s : State} {sn : State} (he : execFlushComplete q s = .next sn) : Keeps qt s sn := by
  unfold execFlushComplete at he
  injection he with he
  subst he
  have h0 := Keeps.refl qt s
  with_reducible repeat' first
    | assumption | intro _ | apply State.flushDone_keeps | split

theorem execCntSnap_keeps (r : Req) (q : Fin 4096) (v : Word) {s : State} {sn : State} (he : execCntSnap r q v s = .next sn) : Keeps false s sn := by
  unfold execCntSnap at he
  injection he with he
  subst he
  have h0 := Keeps.refl false s
  with_reducible repeat' first
    | assumption | intro _ | apply State.gateW_keeps | apply State.qCtlWrite_keeps | split

theorem execQCntClr_keeps (r : Req) (q : Fin 4096) (v : Word) {s : State} {sn : State} (he : execQCntClr r q v s = .next sn) : Keeps false s sn := by
  unfold execQCntClr at he
  injection he with he
  subst he
  have h0 := Keeps.refl false s
  with_reducible repeat' first
    | assumption | intro _ | apply State.gateW_keeps | apply State.qCtlWrite_keeps | split

theorem execQueuePrioWrite_keeps {qt : Bool} (r : Req) (q : Fin 4096) (v : Word) {s : State} {sn : State} (he : execQueuePrioWrite r q v s = .next sn) : Keeps qt s sn := by
  unfold execQueuePrioWrite at he
  injection he with he
  subst he
  have h0 := Keeps.refl qt s
  with_reducible repeat' first
    | assumption | intro _ | apply State.gateW_keeps | apply State.qPrioWrite_keeps | split

theorem execQueueCfgWrite_keeps {qt : Bool} (r : Req) (q : Fin 4096) (k : QCfgReg) (v : Word) {s : State} {sn : State} (he : execQueueCfgWrite r q k v s = .next sn) : Keeps qt s sn := by
  unfold execQueueCfgWrite at he
  injection he with he
  subst he
  have h0 := Keeps.refl qt s
  with_reducible repeat' first
    | assumption | intro _ | apply State.gateW_keeps | apply State.qCfgWrite_keeps | split

theorem execSqKick_keeps {qt : Bool} (r : Req) (q : Fin 4096) (_v : Word) {s : State} {sn : State} (he : execSqKick r q _v s = .next sn) : Keeps qt s sn := by
  unfold execSqKick at he
  injection he with he
  subst he
  have h0 := Keeps.refl qt s
  with_reducible repeat' first
    | assumption | intro _ | apply State.gateW_keeps | apply State.kick_keeps | split

theorem execDescFetchComplete_keeps (q : Fin 4096) {s : State} {sn : State} (he : execDescFetchComplete q s = .next sn) : Keeps false s sn := by
  unfold execDescFetchComplete at he
  injection he with he
  subst he
  have h0 := Keeps.refl false s
  with_reducible repeat' first
    | assumption | intro _ | apply State.fetchArrive_keeps | split

theorem execRereadComplete_keeps {qt : Bool} (q : Fin 4096) {s : State} {sn : State} (he : execRereadComplete q s = .next sn) : Keeps qt s sn := by
  unfold execRereadComplete at he
  injection he with he
  subst he
  have h0 := Keeps.refl qt s
  with_reducible repeat' first
    | assumption | intro _ | apply State.rereadArrive_keeps | split

theorem execJobDispatch_keeps {qt : Bool} (p : Res) {s : State} {sn : State} (he : execJobDispatch p s = .next sn) : Keeps qt s sn := by
  unfold execJobDispatch at he
  injection he with he
  subst he
  have h0 := Keeps.refl qt s
  with_reducible repeat' first
    | assumption | intro _ | apply State.dispatchAt_keeps | split

theorem execFenceRelease_keeps (q : Fin 4096) {s : State} {sn : State} (he : execFenceRelease q s = .next sn) : Keeps false s sn := by
  unfold execFenceRelease at he
  injection he with he
  subst he
  have h0 := Keeps.refl false s
  try dsimp only
  with_reducible repeat' first
    | assumption | intro _ | apply keeps_ite | apply State.clr_keeps | apply State.enlist_keeps | split

theorem execFence_keeps (q : Fin 4096) {s : State} {sn : State} (he : execFence q s = .next sn) : Keeps false s sn := by
  unfold execFence at he
  injection he with he
  subst he
  have h0 := Keeps.refl false s
  try dsimp only
  with_reducible repeat' first
    | assumption | intro _ | apply keeps_ite | apply State.completeHand_keeps | split

theorem execJobComplete_keeps (j : Nat) (chk : Check) {s : State} {sn : State} (he : execJobComplete j chk s = .next sn) : Keeps false s sn := by
  unfold execJobComplete at he
  injection he with he
  subst he
  have h0 := Keeps.refl false s
  try dsimp only
  with_reducible repeat' first
    | assumption | intro _ | apply State.jobRecord_keeps | apply State.checkedResult_keeps | split
    | refine KeepsFst.get ‹_› ?_

theorem execCqHeadWrite_keeps {qt : Bool} (r : Req) (q : Fin 4096) (v : Word) {s : State} {sn : State} (he : execCqHeadWrite r q v s = .next sn) : Keeps qt s sn := by
  unfold execCqHeadWrite at he
  injection he with he
  subst he
  have h0 := Keeps.refl qt s
  with_reducible repeat' first
    | assumption | intro _ | apply State.gateW_keeps | apply State.cqHeadWrite_keeps | split

theorem execHeldRecordTransfer_keeps (q : Fin 4096) {s : State} {sn : State} (he : execHeldRecordTransfer q s = .next sn) : Keeps false s sn := by
  unfold execHeldRecordTransfer at he
  injection he with he
  subst he
  have h0 := Keeps.refl false s
  with_reducible repeat' first
    | assumption | intro _ | apply State.heldTransfer_keeps | split

theorem execRngWaitTimeout_keeps (j : Nat) {s : State} {sn : State} (he : execRngWaitTimeout j s = .next sn) : Keeps false s sn := by
  unfold execRngWaitTimeout at he
  injection he with he
  subst he
  have h0 := Keeps.refl false s
  try dsimp only
  with_reducible repeat' first
    | assumption | intro _ | apply keeps_ite | apply State.inc_keeps | apply State.failJob_keeps
    | apply State.withInput_keeps | split

theorem execVfFlr_keeps (vf : Fin 31) {s : State} {sn : State} (he : execVfFlr vf s = .next sn) : Keeps false s sn := by
  unfold execVfFlr at he
  injection he with he
  subst he
  have h0 := Keeps.refl false s
  try dsimp only
  with_reducible repeat' first
    | assumption | intro _ | apply State.resetQueues_keeps | split

end Sys2Proof.Machine
end

