-- ==== Sys2Proof/Laws/KeepsJobs.lean ====
section
/-! SUPPORT. What the operations of the jobs of every engine keep. -/

namespace Sys2Proof.Machine

set_option linter.unusedTactic false
set_option linter.unreachableTactic false
set_option linter.unusedVariables false

theorem State.putDrbg_keeps {qt : Bool} {z0 s : State} (i : Nat) (x : Drbg) (hs : Keeps qt z0 s) :
    Keeps qt z0 (State.putDrbg s i x) := by
  unfold State.putDrbg
  try dsimp only
  with_reducible repeat' first
    | assumption | intro _ | refine keeps_upd ?_ rfl (fun m => m) | split

theorem State.putRngBuf_keeps {qt : Bool} {z0 s : State} (r : Nat) (b : List Byte) (hs : Keeps qt z0 s) :
    Keeps qt z0 (State.putRngBuf s r b) := by
  unfold State.putRngBuf
  try dsimp only
  with_reducible repeat' first
    | assumption | intro _ | refine keeps_upd ?_ rfl (fun m => m) | split

theorem State.draw_keeps {qt : Bool} {z0 s : State} (i : Nat) (n : Nat) (hs : Keeps qt z0 s) :
    Keeps qt z0 (State.draw s i n).2 := by
  unfold State.draw
  try dsimp only
  with_reducible repeat' first
    | assumption | intro _ | apply State.count_keeps | apply State.freeBytes_keeps | apply State.putDrbg_keeps
    | apply KeepsSnd.ite | split | refine KeepsSnd.get ‹_› ?_ | refine keeps_upd ?_ rfl (fun m => m)

theorem State.drawMasks_keeps {qt : Bool} {z0 s : State} (e : Nat) (hs : Keeps qt z0 s) :
    Keeps qt z0 (State.drawMasks s e) := by
  unfold State.drawMasks
  try dsimp only
  with_reducible repeat' first
    | assumption | intro _ | apply State.count_keeps | apply State.freeNat_keeps | apply State.putDrbg_keeps | split
    | refine KeepsSnd.get ‹_› ?_ | refine keeps_upd ?_ rfl (fun m => m)

theorem State.releaseRngWaits_keeps {qt : Bool} {z0 s : State} (hs : Keeps qt z0 s) :
    Keeps qt z0 (State.releaseRngWaits s) := by
  unfold State.releaseRngWaits
  try dsimp only
  with_reducible repeat' first
    | assumption | intro _ | apply keeps_ite | apply State.setJobs_keeps | apply rfl
    | refine keeps_upd ?_ rfl (fun m => m) | split

theorem State.instantiate_keeps {qt : Bool} {z0 s : State} (hs : Keeps qt z0 s) :
    Keeps qt z0 (State.instantiate s) := by
  unfold State.instantiate
  try dsimp only
  with_reducible repeat' first
    | assumption | intro _ | apply State.put_keeps | apply State.putRngBuf_keeps | apply State.draw_keeps
    | apply keeps_foldl | apply keeps_foldl_fst | split | refine KeepsSnd.get ‹_› ?_
    | refine keeps_upd ?_ rfl (fun m => m)

theorem State.uninstantiate_keeps {qt : Bool} {z0 s : State} (hs : Keeps qt z0 s) :
    Keeps qt z0 (State.uninstantiate s) := by
  unfold State.uninstantiate
  try dsimp only
  with_reducible repeat' first
    | assumption | intro _ | apply State.wr_keeps | refine keeps_upd ?_ rfl (fun m => m) | split

theorem State.rngFail_keeps {z0 s : State} (cause : Nat) (hs : Keeps false z0 s) :
    Keeps false z0 (State.rngFail s cause) := by
  unfold State.rngFail
  try dsimp only
  with_reducible repeat' first
    | assumption | intro _ | apply keeps_ite | apply State.put_keeps | apply State.set_keeps | apply State.inc_keeps
    | apply State.raise_keeps | apply State.report_keeps | apply State.failJob_keeps | apply State.eachJob_keeps
    | apply State.withInput_keeps | apply State.uninstantiate_keeps | split

theorem State.rngBegin_keeps {qt : Bool} {z0 s : State} (hs : Keeps qt z0 s) :
    Keeps qt z0 (State.rngBegin s) := by
  unfold State.rngBegin
  with_reducible repeat' first
    | assumption | intro _ | apply State.put_keeps | split

theorem State.rngRelease_keeps {qt : Bool} {z0 s : State} (hs : Keeps qt z0 s) :
    Keeps qt z0 (State.rngRelease s) := by
  unfold State.rngRelease
  try dsimp only
  with_reducible repeat' first
    | assumption | intro _ | apply keeps_ite | apply State.put_keeps | apply State.uninstantiate_keeps
    | apply State.rngBegin_keeps | split

theorem State.rngRun_keeps {qt : Bool} {z0 s : State} (hs : Keeps qt z0 s) :
    Keeps qt z0 (State.rngRun s) := by
  unfold State.rngRun
  try dsimp only
  with_reducible repeat' first
    | assumption | intro _ | apply State.put_keeps | apply State.raise_keeps | apply State.releaseRngWaits_keeps
    | apply State.instantiate_keeps | split

theorem State.rngReinstantiate_keeps {qt : Bool} {z0 s : State} (hs : Keeps qt z0 s) :
    Keeps qt z0 (State.rngReinstantiate s) := by
  unfold State.rngReinstantiate
  with_reducible repeat' first
    | assumption | intro _ | apply keeps_ite | apply State.instantiate_keeps | apply State.uninstantiate_keeps
    | split

theorem State.rngStop_keeps {qt : Bool} {z0 s : State} (hs : Keeps qt z0 s) :
    Keeps qt z0 (State.rngStop s) := by
  unfold State.rngStop
  with_reducible repeat' first
    | assumption | intro _ | apply State.put_keeps | apply State.uninstantiate_keeps | split

theorem State.srcCause_keeps {qt : Bool} {z0 s : State} (n : Nat) (c : Nat) (hs : Keeps qt z0 s) :
    Keeps qt z0 (State.srcCause s n c) := by
  unfold State.srcCause
  with_reducible repeat' first
    | assumption | intro _ | apply State.wr_keeps | split

theorem State.isolate_keeps {qt : Bool} {z0 s : State} (n : Nat) (c : Nat) (hs : Keeps qt z0 s) :
    Keeps qt z0 (State.isolate s n c) := by
  unfold State.isolate
  try dsimp only
  with_reducible repeat' first
    | assumption | intro _ | apply State.put_keeps | apply State.inc_keeps | apply State.srcCause_keeps | split

theorem State.noteIsolation_keeps {qt : Bool} {z0 s : State} (n : Nat) (hs : Keeps qt z0 s) :
    Keeps qt z0 (State.noteIsolation s n) := by
  unfold State.noteIsolation
  try dsimp only
  with_reducible repeat' first
    | assumption | intro _ | apply keeps_ite | apply State.put_keeps | refine keeps_upd ?_ rfl (fun m => m) | split

theorem State.startupSource_keeps {qt : Bool} {z0 s : State} (rep : Nat) (prop : Nat) (silent : Nat) (n : Nat) (hs : Keeps qt z0 s) :
    Keeps qt z0 (State.startupSource s rep prop silent n) := by
  unfold State.startupSource
  try dsimp only
  with_reducible repeat' first
    | assumption | intro _ | apply keeps_ite | apply State.put_keeps | apply State.raise_keeps
    | apply State.isolate_keeps | split

theorem State.startupEnd_keeps {z0 s : State} (rep : Nat) (prop : Nat) (silent : Nat) (shakeOk : Bool) (drbgOk : Bool) (hs : Keeps false z0 s) :
    Keeps false z0 (State.startupEnd s rep prop silent shakeOk drbgOk) := by
  unfold State.startupEnd
  try dsimp only
  with_reducible repeat' first
    | assumption | intro _ | apply keeps_ite | apply State.put_keeps | apply State.rngFail_keeps
    | apply State.startupSource_keeps | apply keeps_foldl | apply keeps_foldl_fst | split

theorem State.healthFail_keeps {z0 s : State} (n : Nat) (cause : NsuCause) (hs : Keeps false z0 s) :
    Keeps false z0 (State.healthFail s n cause) := by
  unfold State.healthFail
  try dsimp only
  with_reducible repeat' first
    | assumption | intro _ | apply keeps_ite | apply State.count_keeps | apply State.freeNat_keeps
    | apply State.raise_keeps | apply State.rngFail_keeps | apply State.isolate_keeps
    | apply State.noteIsolation_keeps | split | refine KeepsSnd.get ‹_› ?_

theorem State.retest_keeps {qt : Bool} {z0 s : State} (n : Nat) (pass : Bool) (hs : Keeps qt z0 s) :
    Keeps qt z0 (State.retest s n pass) := by
  unfold State.retest
  try dsimp only
  with_reducible repeat' first
    | assumption | intro _ | apply keeps_ite | apply State.put_keeps | apply State.raise_keeps | apply KeepsOpt.getD
    | split

theorem State.reseedInst_keeps {qt : Bool} {z0 s : State} (d : Nat) (hs : Keeps qt z0 s) :
    Keeps qt z0 (State.reseedInst s d) := by
  unfold State.reseedInst
  try dsimp only
  with_reducible repeat' first
    | assumption | intro _ | apply keeps_ite | apply State.put_keeps | apply State.inc_keeps
    | apply State.putDrbg_keeps | split | refine keeps_upd ?_ rfl (fun m => m)

theorem State.rngRead_keeps {qt : Bool} {z0 s : State} (r : Req) (wide : Bool) (hs : Keeps qt z0 s) :
    Keeps qt z0 (State.rngRead s r wide) := by
  unfold State.rngRead
  try dsimp only
  with_reducible repeat' first
    | assumption | intro _ | apply keeps_ite | apply State.inc_keeps | apply State.putRngBuf_keeps
    | apply State.draw_keeps | split | refine KeepsSnd.get ‹_› ?_ | refine keeps_upd ?_ rfl (fun m => m)

theorem State.rngRawRead_keeps {qt : Bool} {z0 s : State} (hs : Keeps qt z0 s) :
    Keeps qt z0 (State.rngRawRead s) := by
  unfold State.rngRawRead
  try dsimp only
  with_reducible repeat' first
    | assumption | intro _ | apply keeps_ite | apply State.freeNat_keeps | split | refine KeepsSnd.get ‹_› ?_
    | refine keeps_upd ?_ rfl (fun m => m)

theorem State.rngCtlWrite_keeps {qt : Bool} {z0 s : State} (r : Req) (v : Word) (hs : Keeps qt z0 s) :
    Keeps qt z0 (State.rngCtlWrite s r v) := by
  unfold State.rngCtlWrite
  try dsimp only
  with_reducible repeat' first
    | assumption | intro _ | apply keeps_ite | apply State.put_keeps | apply State.set_keeps
    | apply State.cntClearN_keeps | apply State.raise_keeps | apply State.rngBegin_keeps
    | refine keeps_upd ?_ rfl (fun m => m) | split

theorem State.rngStatWrite_keeps {qt : Bool} {z0 s : State} (r : Req) (v : Word) (hs : Keeps qt z0 s) :
    Keeps qt z0 (State.rngStatWrite s r v) := by
  unfold State.rngStatWrite
  try dsimp only
  with_reducible repeat' first
    | assumption | intro _ | apply keeps_ite | apply State.wrGeneric_keeps | split
    | refine keeps_upd ?_ rfl (fun m => m)

theorem State.rngMinWrite_keeps {qt : Bool} {z0 s : State} (v : Word) (hs : Keeps qt z0 s) :
    Keeps qt z0 (State.rngMinWrite s v) := by
  unfold State.rngMinWrite
  try dsimp only
  with_reducible repeat' first
    | assumption | intro _ | apply keeps_ite | apply State.put_keeps | apply State.set_keeps | split

theorem State.rngWaitWrite_keeps {qt : Bool} {z0 s : State} (v : Word) (hs : Keeps qt z0 s) :
    Keeps qt z0 (State.rngWaitWrite s v) := by
  unfold State.rngWaitWrite
  try dsimp only
  with_reducible repeat' first
    | assumption | intro _ | apply keeps_ite | apply State.put_keeps | split

theorem State.rngReseedWrite_keeps {qt : Bool} {z0 s : State} (v : Word) (hs : Keeps qt z0 s) :
    Keeps qt z0 (State.rngReseedWrite s v) := by
  unfold State.rngReseedWrite
  try dsimp only
  with_reducible repeat' first
    | assumption | intro _ | apply keeps_ite | apply State.put_keeps | split

theorem State.rawEnd_keeps {qt : Bool} {z0 s : State} (hs : Keeps qt z0 s) :
    Keeps qt z0 (State.rawEnd s) := by
  unfold State.rawEnd
  with_reducible repeat' first
    | assumption | intro _ | apply State.clr_keeps | split

theorem State.rawselWrite_keeps {qt : Bool} {z0 s : State} (v : Word) (hs : Keeps qt z0 s) :
    Keeps qt z0 (State.rawselWrite s v) := by
  unfold State.rawselWrite
  try dsimp only
  with_reducible repeat' first
    | assumption | intro _ | apply keeps_ite | apply State.put_keeps | apply State.set_keeps
    | apply State.raise_keeps | apply State.isolate_keeps | apply State.rawEnd_keeps | split

theorem execStartupTestEnd_keeps (rep : BitVec 8) (prop : BitVec 8) (silent : BitVec 8) (shakeOk : Bool) (drbgOk : Bool) {s : State} {sn : State} (he : execStartupTestEnd rep prop silent shakeOk drbgOk s = .next sn) : Keeps false s sn := by
  unfold execStartupTestEnd at he
  injection he with he
  subst he
  have h0 := Keeps.refl false s
  with_reducible repeat' first
    | assumption | intro _ | apply keeps_ite | apply State.startupEnd_keeps | split

theorem execHealthTestFail_keeps (n : Fin 8) (cause : NsuCause) {s : State} {sn : State} (he : execHealthTestFail n cause s = .next sn) : Keeps false s sn := by
  unfold execHealthTestFail at he
  injection he with he
  subst he
  have h0 := Keeps.refl false s
  with_reducible repeat' first
    | assumption | intro _ | apply keeps_ite | apply State.healthFail_keeps | split

theorem execSourceRetest_keeps {qt : Bool} (n : Fin 8) (pass : Bool) {s : State} {sn : State} (he : execSourceRetest n pass s = .next sn) : Keeps qt s sn := by
  unfold execSourceRetest at he
  injection he with he
  subst he
  have h0 := Keeps.refl qt s
  with_reducible repeat' first
    | assumption | intro _ | apply State.retest_keeps | split

theorem execSeedProduced_keeps {qt : Bool} {s : State} {sn : State} (he : execSeedProduced s = .next sn) : Keeps qt s sn := by
  unfold execSeedProduced at he
  injection he with he
  subst he
  have h0 := Keeps.refl qt s
  try dsimp only
  with_reducible repeat' first
    | assumption | intro _ | apply keeps_ite | apply State.inc_keeps | apply State.freeBytes_keeps | split
    | refine KeepsSnd.get ‹_› ?_ | refine keeps_upd ?_ rfl (fun m => m)

theorem execReseed_keeps {qt : Bool} (d : Fin 16) {s : State} {sn : State} (he : execReseed d s = .next sn) : Keeps qt s sn := by
  unfold execReseed at he
  injection he with he
  subst he
  have h0 := Keeps.refl qt s
  with_reducible repeat' first
    | assumption | intro _ | apply State.reseedInst_keeps | split

theorem execRngRestart_keeps {qt : Bool} (r : Req) (v : Word) {s : State} {sn : State} (he : execRngRestart r v s = .next sn) : Keeps qt s sn := by
  unfold execRngRestart at he
  injection he with he
  subst he
  have h0 := Keeps.refl qt s
  with_reducible repeat' first
    | assumption | intro _ | apply State.gateW_keeps | apply State.rngCtlWrite_keeps | split

theorem execRngDataRead_keeps {qt : Bool} (r : Req) (wide : Bool) {s : State} {sn : State} (he : execRngDataRead r wide s = .next sn) : Keeps qt s sn := by
  unfold execRngDataRead at he
  injection he with he
  subst he
  have h0 := Keeps.refl qt s
  with_reducible repeat' first
    | assumption | intro _ | apply State.gateR_keeps | apply State.rngRead_keeps | split

theorem execRngRawRead_keeps {qt : Bool} (r : Req) {s : State} {sn : State} (he : execRngRawRead r s = .next sn) : Keeps qt s sn := by
  unfold execRngRawRead at he
  injection he with he
  subst he
  have h0 := Keeps.refl qt s
  with_reducible repeat' first
    | assumption | intro _ | apply State.gateR_keeps | apply State.rngRawRead_keeps | split

theorem execRngRawsel_keeps {qt : Bool} (r : Req) (v : Word) {s : State} {sn : State} (he : execRngRawsel r v s = .next sn) : Keeps qt s sn := by
  unfold execRngRawsel at he
  injection he with he
  subst he
  have h0 := Keeps.refl qt s
  with_reducible repeat' first
    | assumption | intro _ | apply State.gateW_keeps | apply State.rawselWrite_keeps | split

theorem execRngMinSrcWrite_keeps {qt : Bool} (r : Req) (v : Word) {s : State} {sn : State} (he : execRngMinSrcWrite r v s = .next sn) : Keeps qt s sn := by
  unfold execRngMinSrcWrite at he
  injection he with he
  subst he
  have h0 := Keeps.refl qt s
  with_reducible repeat' first
    | assumption | intro _ | apply State.gateW_keeps | apply State.rngMinWrite_keeps | split

theorem execRngCntClr_keeps {qt : Bool} (r : Req) (v : Word) {s : State} {sn : State} (he : execRngCntClr r v s = .next sn) : Keeps qt s sn := by
  unfold execRngCntClr at he
  injection he with he
  subst he
  have h0 := Keeps.refl qt s
  with_reducible repeat' first
    | assumption | intro _ | apply State.gateW_keeps | apply State.rngCtlWrite_keeps | split

theorem execRngLock_keeps {qt : Bool} (r : Req) (v : Word) {s : State} {sn : State} (he : execRngLock r v s = .next sn) : Keeps qt s sn := by
  unfold execRngLock at he
  injection he with he
  subst he
  have h0 := Keeps.refl qt s
  with_reducible repeat' first
    | assumption | intro _ | apply State.gateW_keeps | apply State.rngCtlWrite_keeps | split

theorem State.setJrWindow_keeps {qt : Bool} {z0 s : State} (b : List Byte) (hs : Keeps qt z0 s) :
    Keeps qt z0 (State.setJrWindow s b) := by
  unfold State.setJrWindow
  try dsimp only
  with_reducible repeat' first
    | assumption | intro _ | apply State.wr_keeps | apply keeps_foldl | apply keeps_foldl_fst | split

theorem State.jrServe_keeps {qt : Bool} {z0 s : State} (r : JrReq) (hs : Keeps qt z0 s) :
    Keeps qt z0 (State.jrServe s r) := by
  unfold State.jrServe
  try dsimp only
  with_reducible repeat' first
    | assumption | intro _ | apply State.put_keeps | apply State.set_keeps | apply State.raise_keeps
    | apply State.setJrWindow_keeps | split | refine keeps_upd ?_ rfl (fun m => m)

theorem State.jrRequest_keeps {qt : Bool} {z0 s : State} (r : JrReq) (hs : Keeps qt z0 s) :
    Keeps qt z0 (State.jrRequest s r) := by
  unfold State.jrRequest
  try dsimp only
  with_reducible repeat' first
    | assumption | intro _ | apply State.jrServe_keeps | split | refine keeps_upd ?_ rfl (fun m => m)

theorem State.jrEnd_keeps {qt : Bool} {z0 s : State} (hs : Keeps qt z0 s) :
    Keeps qt z0 (State.jrEnd s) := by
  unfold State.jrEnd
  try dsimp only
  with_reducible repeat' first
    | assumption | intro _ | apply State.clr_keeps | apply State.jrServe_keeps | split
    | refine keeps_upd ?_ rfl (fun m => m)

theorem State.putLeaf_keeps {qt : Bool} {z0 s : State} (i : Nat) (l : LeafState) (hs : Keeps qt z0 s) :
    Keeps qt z0 (State.putLeaf s i l) := by
  unfold State.putLeaf
  try dsimp only
  with_reducible repeat' first
    | assumption | intro _ | apply State.putSlot_keeps | refine keeps_upd ?_ rfl (fun m => m) | split

theorem State.reserveCheck_keeps {qt : Bool} {z0 s : State} (i : Nat) (hs : Keeps qt z0 s) :
    Keeps qt z0 (State.reserveCheck s i) := by
  unfold State.reserveCheck
  try dsimp only
  with_reducible repeat' first
    | assumption | intro _ | apply keeps_ite | apply State.jrRequest_keeps | split

theorem State.setLeafMode_keeps {qt : Bool} {z0 s : State} (i : Nat) (m : LeafMode) (hs : Keeps qt z0 s) :
    Keeps qt z0 (State.setLeafMode s i m) := by
  unfold State.setLeafMode
  try dsimp only
  with_reducible repeat' first
    | assumption | intro _ | apply keeps_ite | apply State.sfEvent_keeps | apply State.putLeaf_keeps | split
    | refine keeps_upd ?_ rfl (fun m => m)

theorem State.handOut_keeps {qt : Bool} {z0 s : State} (i : Nat) (l : LeafState) (hs : Keeps qt z0 s) :
    Keeps qt z0 (State.handOut s i l) := by
  unfold State.handOut
  try dsimp only
  with_reducible repeat' first
    | assumption | intro _ | apply keeps_ite | apply State.sfEvent_keeps | apply State.startBuilds_keeps
    | apply State.putLeaf_keeps | apply State.reserveCheck_keeps | apply State.setLeafMode_keeps
    | refine keeps_upd ?_ rfl (fun m => m) | split

theorem State.leafStep_keeps {z0 s : State} (j : Job) (i : Nat) (hs : Keeps false z0 s) :
    Keeps false z0 (State.leafStep s j i) := by
  unfold State.leafStep
  try dsimp only
  with_reducible repeat' first
    | assumption | intro _ | apply keeps_ite | apply State.putJob_keeps | apply State.failJob_keeps
    | apply State.handOut_keeps | split | refine keeps_upd ?_ rfl (fun m => m)

theorem State.releaseLeafWaits_keeps {z0 s : State} (i : Nat) (hs : Keeps false z0 s) :
    Keeps false z0 (State.releaseLeafWaits s i) := by
  unfold State.releaseLeafWaits
  try dsimp only
  with_reducible repeat' first
    | assumption | intro _ | apply State.eachJob_keeps | apply State.leafStep_keeps | split

theorem State.treeBuilt_keeps {qt : Bool} {z0 s : State} (j : Job) (i : Nat) (hs : Keeps qt z0 s) :
    Keeps qt z0 (State.treeBuilt s j i) := by
  unfold State.treeBuilt
  try dsimp only
  with_reducible repeat' first
    | assumption | intro _ | apply keeps_ite | apply State.setJobs_keeps | apply State.dropJob_keeps
    | apply State.refill_keeps | apply State.setBuilding_keeps | apply State.startBuilds_keeps
    | apply State.putLeaf_keeps | apply rfl | apply KeepsOpt.getD | split | refine keeps_upd ?_ rfl (fun m => m)

theorem State.freeCell_keeps {qt : Bool} {z0 s : State} (c : Nat) (uid : Nat) (hs : Keeps qt z0 s) :
    Keeps qt z0 (State.freeCell s c uid) := by
  unfold State.freeCell
  with_reducible repeat' first
    | assumption | intro _ | apply keeps_ite | apply State.putCell_keeps | split

theorem State.eraseStateful_keeps {qt : Bool} {z0 s : State} (r : JrReq) (hs : Keeps qt z0 s) :
    Keeps qt z0 (State.eraseStateful s r) := by
  unfold State.eraseStateful
  try dsimp only
  with_reducible repeat' first
    | assumption | intro _ | apply keeps_ite | apply State.eraseSlot_keeps | apply State.freeCell_keeps | split

theorem State.eraseEnd_keeps {qt : Bool} {z0 s : State} (r : JrReq) (id : Nat) (hs : Keeps qt z0 s) :
    Keeps qt z0 (State.eraseEnd s r id) := by
  unfold State.eraseEnd
  try dsimp only
  with_reducible repeat' first
    | assumption | intro _ | apply keeps_ite | apply State.finishJob_keeps | apply State.jrEnd_keeps
    | apply State.eraseStateful_keeps | split

theorem State.loadLeaf_keeps {qt : Bool} {z0 s : State} (r : JrReq) (rec : Option (List Byte)) (hs : Keeps qt z0 s) :
    Keeps qt z0 (State.loadLeaf s r rec) := by
  unfold State.loadLeaf
  try dsimp only
  with_reducible repeat' first
    | assumption | intro _ | apply keeps_ite | apply State.freeBool_keeps | apply State.putCell_keeps
    | apply State.putLeaf_keeps | apply State.reserveCheck_keeps | apply State.setLeafMode_keeps | split
    | refine KeepsSnd.get ‹_› ?_ | refine keeps_upd ?_ rfl (fun m => m)

theorem State.loadEnd_keeps {z0 s : State} (r : JrReq) (job : Option Nat) (hs : Keeps false z0 s) :
    Keeps false z0 (State.loadEnd s r job) := by
  unfold State.loadEnd
  try dsimp only
  with_reducible repeat' first
    | assumption | intro _ | apply keeps_ite | apply State.wr_keeps | apply State.clr_keeps | apply State.inc_keeps
    | apply State.putSlot_keeps | apply State.finishJob_keeps | apply State.failJob_keeps
    | apply State.startBuilds_keeps | split | refine keeps_upd ?_ rfl (fun m => m)

theorem State.seekEnd_keeps {z0 s : State} (r : JrReq) (job : Option Nat) (rec : Option (List Byte)) (hs : Keeps false z0 s) :
    Keeps false z0 (State.seekEnd s r job rec) := by
  unfold State.seekEnd
  with_reducible repeat' first
    | assumption | intro _ | apply State.jrEnd_keeps | apply State.loadLeaf_keeps | apply State.loadEnd_keeps | split

theorem State.jrAck_keeps {z0 s : State} (hs : Keeps false z0 s) :
    Keeps false z0 (State.jrAck s) := by
  unfold State.jrAck
  try dsimp only
  with_reducible repeat' first
    | assumption | intro _ | apply keeps_ite | apply State.putCell_keeps | apply State.jrEnd_keeps
    | apply State.putLeaf_keeps | apply State.reserveCheck_keeps | apply State.releaseLeafWaits_keeps
    | apply State.eraseEnd_keeps | split | refine keeps_upd ?_ rfl (fun m => m)

theorem State.jrFail_keeps {z0 s : State} (hs : Keeps false z0 s) :
    Keeps false z0 (State.jrFail s) := by
  unfold State.jrFail
  try dsimp only
  with_reducible repeat' first
    | assumption | intro _ | apply keeps_ite | apply State.almanac_keeps | apply State.jrEnd_keeps
    | apply State.setLeafMode_keeps | apply State.releaseLeafWaits_keeps | apply State.eraseEnd_keeps | split

theorem State.jrPresent_keeps {z0 s : State} (hs : Keeps false z0 s) :
    Keeps false z0 (State.jrPresent s) := by
  unfold State.jrPresent
  try dsimp only
  with_reducible repeat' first
    | assumption | intro _ | apply keeps_ite | apply State.seekEnd_keeps | split

theorem State.jrNone_keeps {z0 s : State} (hs : Keeps false z0 s) :
    Keeps false z0 (State.jrNone s) := by
  unfold State.jrNone
  try dsimp only
  with_reducible repeat' first
    | assumption | intro _ | apply State.seekEnd_keeps | split

theorem State.jrCmdWrite_keeps {z0 s : State} (v : Word) (hs : Keeps false z0 s) :
    Keeps false z0 (State.jrCmdWrite s v) := by
  unfold State.jrCmdWrite
  try dsimp only
  with_reducible repeat' first
    | assumption | intro _ | apply keeps_ite | apply State.jrAck_keeps | apply State.jrFail_keeps
    | apply State.jrPresent_keeps | apply State.jrNone_keeps | split

theorem State.syncBattery_keeps {qt : Bool} {z0 s : State} (hs : Keeps qt z0 s) :
    Keeps qt z0 (State.syncBattery s) := by
  unfold State.syncBattery
  with_reducible repeat' first
    | assumption | intro _ | apply State.wr_keeps | apply State.putB_keeps | split

theorem State.bbkLost_keeps {qt : Bool} {z0 s : State} (hs : Keeps qt z0 s) :
    Keeps qt z0 (State.bbkLost s) := by
  unfold State.bbkLost
  with_reducible repeat' first
    | assumption | intro _ | apply State.set_keeps | apply State.raise_keeps | apply State.almanac_keeps | split

theorem State.bbkGenerate_keeps {qt : Bool} {z0 s : State} (hs : Keeps qt z0 s) :
    Keeps qt z0 (State.bbkGenerate s) := by
  unfold State.bbkGenerate
  try dsimp only
  with_reducible repeat' first
    | assumption | intro _ | apply keeps_ite | apply State.set_keeps | apply State.clr_keeps | apply State.draw_keeps
    | apply State.syncBattery_keeps | split | refine KeepsSnd.get ‹_› ?_ | refine keeps_upd ?_ rfl (fun m => m)

theorem State.bbkDestroy_keeps {qt : Bool} {z0 s : State} (hs : Keeps qt z0 s) :
    Keeps qt z0 (State.bbkDestroy s) := by
  unfold State.bbkDestroy
  try dsimp only
  with_reducible repeat' first
    | assumption | intro _ | apply State.syncBattery_keeps | refine keeps_upd ?_ rfl (fun m => m) | split

theorem execJrAck_keeps (r : Req) (v : Word) {s : State} {sn : State} (he : execJrAck r v s = .next sn) : Keeps false s sn := by
  unfold execJrAck at he
  injection he with he
  subst he
  have h0 := Keeps.refl false s
  with_reducible repeat' first
    | assumption | intro _ | apply State.gateW_keeps | apply State.jrCmdWrite_keeps | split

theorem execJrFail_keeps (r : Req) (v : Word) {s : State} {sn : State} (he : execJrFail r v s = .next sn) : Keeps false s sn := by
  unfold execJrFail at he
  injection he with he
  subst he
  have h0 := Keeps.refl false s
  with_reducible repeat' first
    | assumption | intro _ | apply State.gateW_keeps | apply State.jrCmdWrite_keeps | split

theorem execJrPresent_keeps (r : Req) (v : Word) {s : State} {sn : State} (he : execJrPresent r v s = .next sn) : Keeps false s sn := by
  unfold execJrPresent at he
  injection he with he
  subst he
  have h0 := Keeps.refl false s
  with_reducible repeat' first
    | assumption | intro _ | apply State.gateW_keeps | apply State.jrCmdWrite_keeps | split

theorem execJrNoneLeft_keeps (r : Req) (v : Word) {s : State} {sn : State} (he : execJrNoneLeft r v s = .next sn) : Keeps false s sn := by
  unfold execJrNoneLeft at he
  injection he with he
  subst he
  have h0 := Keeps.refl false s
  with_reducible repeat' first
    | assumption | intro _ | apply State.gateW_keeps | apply State.jrCmdWrite_keeps | split

theorem execSeekTimeout_keeps {s : State} {sn : State} (he : execSeekTimeout s = .next sn) : Keeps false s sn := by
  unfold execSeekTimeout at he
  injection he with he
  subst he
  have h0 := Keeps.refl false s
  with_reducible repeat' first
    | assumption | intro _ | apply State.jrNone_keeps | split

theorem execLeafWaitTimeout_keeps (j : Nat) {s : State} {sn : State} (he : execLeafWaitTimeout j s = .next sn) : Keeps false s sn := by
  unfold execLeafWaitTimeout at he
  injection he with he
  subst he
  have h0 := Keeps.refl false s
  try dsimp only
  with_reducible repeat' first
    | assumption | intro _ | apply keeps_ite | apply State.failJob_keeps | split

theorem execTreeBuildComplete_keeps {qt : Bool} (j : Nat) {s : State} {sn : State} (he : execTreeBuildComplete j s = .next sn) : Keeps qt s sn := by
  unfold execTreeBuildComplete at he
  injection he with he
  subst he
  have h0 := Keeps.refl qt s
  try dsimp only
  with_reducible repeat' first
    | assumption | intro _ | apply keeps_ite | apply State.treeBuilt_keeps | split

theorem State.takeAbort_keeps {z0 s : State} (j : Job) (k : State) (h_k : Keeps false z0 (k )) (hs : Keeps false z0 s) :
    Keeps false z0 (State.takeAbort s j k) := by
  unfold State.takeAbort
  try dsimp only
  with_reducible repeat' first
    | assumption | intro _ | apply h_k | apply keeps_ite | apply State.failJob_keeps | apply State.tamperJob_keeps
    | split

theorem State.atUnit_keeps {z0 s : State} (id : Nat) (op : Nat) (f : State → Job → State) (h_f : ∀ (a0 : State) (a1 : Job), Keeps false z0 a0 → Keeps false z0 (f a0 a1)) (hs : Keeps false z0 s) :
    Keeps false z0 (State.atUnit s id op f) := by
  unfold State.atUnit
  try dsimp only
  with_reducible repeat' first
    | assumption | intro _ | apply h_f | apply keeps_ite | apply State.withInput_keeps | apply State.takeAbort_keeps
    | split

theorem State.needRng_keeps {z0 s : State} (j : Job) (k : State → State) (h_k : ∀ (a0 : State), Keeps false z0 a0 → Keeps false z0 (k a0)) (hs : Keeps false z0 s) :
    Keeps false z0 (State.needRng s j k) := by
  unfold State.needRng
  try dsimp only
  with_reducible repeat' first
    | assumption | intro _ | apply h_k | apply keeps_ite | apply State.putJob_keeps | apply State.failJob_keeps
    | refine keeps_upd ?_ rfl (fun m => m) | split

theorem State.withBytes_keeps {z0 s : State} (j : Job) (a : Nat) (n : Nat) (code : Nat) (k : List Byte → State) (h_k : ∀ (a0 : List Byte), Keeps false z0 (k a0)) (hs : Keeps false z0 s) :
    Keeps false z0 (State.withBytes s j a n code k) := by
  unfold State.withBytes
  try dsimp only
  with_reducible repeat' first
    | assumption | intro _ | apply h_k | apply State.failJob_keeps | split

theorem State.withSlot_keeps {z0 s : State} (j : Job) (h : Nat) (idx : Nat) (k : Slot → State) (h_k : ∀ (a0 : Slot), Keeps false z0 (k a0)) (hs : Keeps false z0 s) :
    Keeps false z0 (State.withSlot s j h idx k) := by
  unfold State.withSlot
  try dsimp only
  with_reducible repeat' first
    | assumption | intro _ | apply h_k | apply State.failJob_keeps | split

theorem State.failQuiet_keeps {qt : Bool} {z0 s : State} (j : Job) (e : Err) (hs : Keeps qt z0 s) :
    Keeps qt z0 (State.failQuiet s j e) := by
  unfold State.failQuiet
  with_reducible repeat' first
    | assumption | intro _ | apply State.finishJob_keeps | split

theorem State.finishOut_keeps {z0 s : State} (j : Job) (x : JobIn) (out : List Byte) (detail : Nat) (hs : Keeps false z0 s) :
    Keeps false z0 (State.finishOut s j x out detail) := by
  unfold State.finishOut
  try dsimp only
  with_reducible repeat' first
    | assumption | intro _ | apply writeBufs_keeps | apply State.finishJob_keeps | apply State.failJob_keeps | split
    | refine KeepsFst.get ‹_› ?_

theorem State.fillAll_keeps {qt : Bool} {z0 s : State} (x0 : List (Nat × Slot)) (hs : Keeps qt z0 s) :
    Keeps qt z0 (State.fillAll s x0) := by
  induction x0 generalizing s with
  | nil =>
    unfold State.fillAll
    with_reducible repeat' first
      | assumption | intro _ | apply State.fillSlot_keeps | split
  | cons a l ih =>
    unfold State.fillAll
    with_reducible repeat' first
      | apply ih | assumption | intro _ | apply State.fillSlot_keeps | split

theorem State.finishSlots_keeps {z0 s : State} (j : Job) (x : JobIn) (out : List Byte) (ks : List Slot) (hs : Keeps false z0 s) :
    Keeps false z0 (State.finishSlots s j x out ks) := by
  unfold State.finishSlots
  try dsimp only
  with_reducible repeat' first
    | assumption | intro _ | apply keeps_ite | apply writeBufs_keeps | apply State.finishJob_keeps
    | apply State.failJob_keeps | apply State.fillAll_keeps | split | refine KeepsFst.get ‹_› ?_

theorem State.noteAssert_keeps {qt : Bool} {z0 s : State} (e : Nat) (upc : Nat) (cause : Nat) (addr : Nat) (hs : Keeps qt z0 s) :
    Keeps qt z0 (State.noteAssert s e upc cause addr) := by
  unfold State.noteAssert
  try dsimp only
  with_reducible repeat' first
    | assumption | intro _ | apply keeps_ite | apply State.wr_keeps | apply State.inc_keeps
    | apply State.report_keeps | split

theorem State.assertJob_keeps {z0 s : State} (j : Job) (upc : Nat) (cause : Nat) (hs : Keeps false z0 s) :
    Keeps false z0 (State.assertJob s j upc cause) := by
  unfold State.assertJob
  with_reducible repeat' first
    | assumption | intro _ | apply State.failJob_keeps | apply State.noteAssert_keeps | split

theorem State.romAssert_keeps {z0 s : State} (j : Job) (hs : Keeps false z0 s) :
    Keeps false z0 (State.romAssert s j) := by
  unfold State.romAssert
  try dsimp only
  with_reducible repeat' first
    | assumption | intro _ | apply State.freeNat_keeps | apply State.assertJob_keeps | split
    | refine KeepsSnd.get ‹_› ?_

theorem State.kgSeed_keeps {z0 s : State} (j : Job) (k : List Byte → State → State) (h_k : ∀ (a0 : List Byte) (a1 : State), Keeps false z0 a1 → Keeps false z0 (k a0 a1)) (hs : Keeps false z0 s) :
    Keeps false z0 (State.kgSeed s j k) := by
  unfold State.kgSeed
  try dsimp only
  with_reducible repeat' first
    | assumption | intro _ | apply h_k | apply keeps_ite | apply State.draw_keeps | apply State.withBytes_keeps
    | split | refine KeepsSnd.get ‹_› ?_

theorem State.rsaCandidates_keeps {qt : Bool} {z0 s : State} (j : Job) (hs : Keeps qt z0 s) :
    Keeps qt z0 (State.rsaCandidates s j) := by
  unfold State.rsaCandidates
  try dsimp only
  with_reducible repeat' first
    | assumption | intro _ | apply keeps_ite | apply State.count_keeps | apply State.freeNat_keeps
    | apply State.draw_keeps | split | refine KeepsSnd.get ‹_› ?_

theorem State.kgEnd_keeps {z0 s : State} (j : Job) (x : JobIn) (pk : List Byte) (sk : List Byte) (hs : Keeps false z0 s) :
    Keeps false z0 (State.kgEnd s j x pk sk) := by
  unfold State.kgEnd
  try dsimp only
  with_reducible repeat' first
    | assumption | intro _ | apply keeps_ite | apply State.finishOut_keeps | apply State.finishSlots_keeps
    | apply State.romAssert_keeps | refine keeps_upd ?_ rfl (fun m => m) | split

theorem State.kgStateful_keeps {z0 s : State} (j : Job) (x : JobIn) (seed : List Byte) (hs : Keeps false z0 s) :
    Keeps false z0 (State.kgStateful s j x seed) := by
  unfold State.kgStateful
  try dsimp only
  with_reducible repeat' first
    | assumption | intro _ | apply keeps_ite | apply writeBufs_keeps | apply State.putCell_keeps
    | apply State.fillSlot_keeps | apply State.finishJob_keeps | apply State.failJob_keeps
    | apply State.reserveCheck_keeps | split | refine KeepsFst.get ‹_› ?_ | refine keeps_upd ?_ rfl (fun m => m)

theorem State.runKeygen_keeps {z0 s : State} (j : Job) (hs : Keeps false z0 s) :
    Keeps false z0 (State.runKeygen s j) := by
  unfold State.runKeygen
  try dsimp only
  with_reducible repeat' first
    | assumption | intro _ | apply keeps_ite | apply State.count_keeps | apply State.withInput_keeps
    | apply State.drawMasks_keeps | apply State.needRng_keeps | apply State.romAssert_keeps
    | apply State.kgSeed_keeps | apply State.rsaCandidates_keeps | apply State.kgEnd_keeps
    | apply State.kgStateful_keeps | split

theorem State.finishSecret_keeps {z0 s : State} (j : Job) (x : JobIn) (pre : List Byte) (ss : List Byte) (hs : Keeps false z0 s) :
    Keeps false z0 (State.finishSecret s j x pre ss) := by
  unfold State.finishSecret
  try dsimp only
  with_reducible repeat' first
    | assumption | intro _ | apply keeps_ite | apply State.finishOut_keeps | apply State.finishSlots_keeps | split

theorem State.encapsDraws_keeps {qt : Bool} {z0 s : State} (j : Job) (hs : Keeps qt z0 s) :
    Keeps qt z0 (State.encapsDraws s j).2 := by
  unfold State.encapsDraws
  try dsimp only
  with_reducible repeat' first
    | assumption | intro _ | apply keeps_ite | apply State.freeNat_keeps | apply State.draw_keeps
    | apply KeepsSnd.ite | split | refine KeepsSnd.get ‹_› ?_

theorem State.encapsMessage_keeps {z0 s : State} (j : Job) (k : List Byte → State → State) (h_k : ∀ (a0 : List Byte) (a1 : State), Keeps false z0 a1 → Keeps false z0 (k a0 a1)) (hs : Keeps false z0 s) :
    Keeps false z0 (State.encapsMessage s j k) := by
  unfold State.encapsMessage
  try dsimp only
  with_reducible repeat' first
    | assumption | intro _ | apply h_k | apply keeps_ite | apply State.withBytes_keeps
    | apply State.encapsDraws_keeps | split | refine KeepsSnd.get ‹_› ?_

theorem State.encapsKey_keeps {z0 s : State} (j : Job) (x : JobIn) (k : List Byte → State) (h_k : ∀ (a0 : List Byte), Keeps false z0 (k a0)) (hs : Keeps false z0 s) :
    Keeps false z0 (State.encapsKey s j x k) := by
  unfold State.encapsKey
  try dsimp only
  with_reducible repeat' first
    | assumption | intro _ | apply h_k | apply keeps_ite | apply State.withSlot_keeps | split

theorem State.runEncaps_keeps {z0 s : State} (j : Job) (hs : Keeps false z0 s) :
    Keeps false z0 (State.runEncaps s j) := by
  unfold State.runEncaps
  try dsimp only
  with_reducible repeat' first
    | assumption | intro _ | apply keeps_ite | apply State.withInput_keeps | apply State.drawMasks_keeps
    | apply State.needRng_keeps | apply State.failQuiet_keeps | apply State.finishSecret_keeps
    | apply State.encapsMessage_keeps | apply State.encapsKey_keeps | split

theorem State.runDecaps_keeps {z0 s : State} (j : Job) (hs : Keeps false z0 s) :
    Keeps false z0 (State.runDecaps s j) := by
  unfold State.runDecaps
  try dsimp only
  with_reducible repeat' first
    | assumption | intro _ | apply keeps_ite | apply State.withInput_keeps | apply State.drawMasks_keeps
    | apply State.needRng_keeps | apply State.withSlot_keeps | apply State.failQuiet_keeps
    | apply State.romAssert_keeps | apply State.finishSecret_keeps | split

theorem State.withContext_keeps {z0 s : State} (j : Job) (k : SigParams → State) (h_k : ∀ (a0 : SigParams), Keeps false z0 (k a0)) (hs : Keeps false z0 s) :
    Keeps false z0 (State.withContext s j k) := by
  unfold State.withContext
  try dsimp only
  with_reducible repeat' first
    | assumption | intro _ | apply h_k | apply keeps_ite | apply State.withBytes_keeps | split

theorem State.signRnd_keeps {qt : Bool} {z0 s : State} (j : Job) (y : Slot) (hs : Keeps qt z0 s) :
    Keeps qt z0 (State.signRnd s j y).2 := by
  unfold State.signRnd
  try dsimp only
  with_reducible repeat' first
    | assumption | intro _ | apply keeps_ite | apply State.draw_keeps | apply KeepsSnd.ite | split
    | refine KeepsSnd.get ‹_› ?_

theorem State.signCounts_keeps {qt : Bool} {z0 s : State} (j : Job) (n : Nat) (hs : Keeps qt z0 s) :
    Keeps qt z0 (State.signCounts s j n).2 := by
  unfold State.signCounts
  try dsimp only
  with_reducible repeat' first
    | assumption | intro _ | apply keeps_ite | apply State.count_keeps | apply State.draw_keeps | apply KeepsSnd.ite
    | split | refine KeepsSnd.get ‹_› ?_

theorem State.signEnd_keeps {z0 s : State} (j : Job) (x : JobIn) (p : SigParams) (y : Slot) (rnd : List Byte) (hs : Keeps false z0 s) :
    Keeps false z0 (State.signEnd s j x p y rnd) := by
  unfold State.signEnd
  try dsimp only
  with_reducible repeat' first
    | assumption | intro _ | apply keeps_ite | apply State.count_keeps | apply State.finishOut_keeps
    | apply State.romAssert_keeps | apply State.signCounts_keeps | split | refine KeepsSnd.get ‹_› ?_

theorem State.signLeaf_keeps {z0 s : State} (j : Job) (x : JobIn) (q : Nat) (hs : Keeps false z0 s) :
    Keeps false z0 (State.signLeaf s j x q) := by
  unfold State.signLeaf
  try dsimp only
  with_reducible repeat' first
    | assumption | intro _ | apply keeps_ite | apply State.failJob_keeps | apply State.finishOut_keeps
    | apply State.romAssert_keeps | apply KeepsOpt.getD | split

theorem State.treeDraw_keeps {qt : Bool} {z0 s : State} (j : Job) (y : Slot) (hs : Keeps qt z0 s) :
    Keeps qt z0 (State.treeDraw s j y) := by
  unfold State.treeDraw
  try dsimp only
  with_reducible repeat' first
    | assumption | intro _ | apply keeps_ite | apply State.draw_keeps | split | refine KeepsSnd.get ‹_› ?_

theorem State.signResume_keeps {z0 s : State} (id : Nat) (hs : Keeps false z0 s) :
    Keeps false z0 (State.signResume s id) := by
  unfold State.signResume
  try dsimp only
  with_reducible repeat' first
    | assumption | intro _ | apply keeps_ite | apply State.signLeaf_keeps | split

theorem State.runSign_keeps {z0 s : State} (j : Job) (hs : Keeps false z0 s) :
    Keeps false z0 (State.runSign s j) := by
  unfold State.runSign
  try dsimp only
  with_reducible repeat' first
    | assumption | intro _ | apply keeps_ite | apply State.putJob_keeps | apply State.withInput_keeps
    | apply State.drawMasks_keeps | apply State.leafStep_keeps | apply State.needRng_keeps
    | apply State.withSlot_keeps | apply State.withContext_keeps | apply State.signRnd_keeps
    | apply State.signEnd_keeps | apply State.treeDraw_keeps | apply State.signResume_keeps | split
    | refine KeepsSnd.get ‹_› ?_ | refine keeps_upd ?_ rfl (fun m => m)

theorem State.withPublic_keeps {z0 s : State} (j : Job) (k : List Byte → State) (h_k : ∀ (a0 : List Byte), Keeps false z0 (k a0)) (hs : Keeps false z0 s) :
    Keeps false z0 (State.withPublic s j k) := by
  unfold State.withPublic
  try dsimp only
  with_reducible repeat' first
    | assumption | intro _ | apply h_k | apply keeps_ite | apply State.withBytes_keeps | apply State.withSlot_keeps
    | split

theorem State.runVerify_keeps {z0 s : State} (j : Job) (hs : Keeps false z0 s) :
    Keeps false z0 (State.runVerify s j) := by
  unfold State.runVerify
  try dsimp only
  with_reducible repeat' first
    | assumption | intro _ | apply keeps_ite | apply State.finishJob_keeps | apply State.failJob_keeps
    | apply State.withInput_keeps | apply State.withBytes_keeps | apply State.withContext_keeps
    | apply State.withPublic_keeps | split

theorem State.exchangeKey_keeps {z0 s : State} (j : Job) (k : List Byte → List Byte → State → State) (h_k : ∀ (a0 : List Byte) (a1 : List Byte) (a2 : State), Keeps false z0 a2 → Keeps false z0 (k a0 a1 a2)) (hs : Keeps false z0 s) :
    Keeps false z0 (State.exchangeKey s j k) := by
  unfold State.exchangeKey
  try dsimp only
  with_reducible repeat' first
    | assumption | intro _ | apply h_k | apply keeps_ite | apply State.draw_keeps | apply State.withSlot_keeps
    | split | refine KeepsSnd.get ‹_› ?_

theorem State.runExchange_keeps {z0 s : State} (j : Job) (hs : Keeps false z0 s) :
    Keeps false z0 (State.runExchange s j) := by
  unfold State.runExchange
  try dsimp only
  with_reducible repeat' first
    | assumption | intro _ | apply State.withInput_keeps | apply State.drawMasks_keeps | apply State.needRng_keeps
    | apply State.failQuiet_keeps | apply State.finishSecret_keeps | apply State.exchangeKey_keeps | split

theorem execKeygen_keeps (j : Nat) {s : State} {sn : State} (he : execKeygen j s = .next sn) : Keeps false s sn := by
  unfold execKeygen at he
  injection he with he
  subst he
  have h0 := Keeps.refl false s
  with_reducible repeat' first
    | assumption | intro _ | apply State.atUnit_keeps | apply State.runKeygen_keeps | split

theorem execEncaps_keeps (j : Nat) {s : State} {sn : State} (he : execEncaps j s = .next sn) : Keeps false s sn := by
  unfold execEncaps at he
  injection he with he
  subst he
  have h0 := Keeps.refl false s
  with_reducible repeat' first
    | assumption | intro _ | apply State.atUnit_keeps | apply State.runEncaps_keeps | split

theorem execDecaps_keeps (j : Nat) {s : State} {sn : State} (he : execDecaps j s = .next sn) : Keeps false s sn := by
  unfold execDecaps at he
  injection he with he
  subst he
  have h0 := Keeps.refl false s
  with_reducible repeat' first
    | assumption | intro _ | apply State.atUnit_keeps | apply State.runDecaps_keeps | split

theorem execSign_keeps (j : Nat) {s : State} {sn : State} (he : execSign j s = .next sn) : Keeps false s sn := by
  unfold execSign at he
  injection he with he
  subst he
  have h0 := Keeps.refl false s
  with_reducible repeat' first
    | assumption | intro _ | apply State.atUnit_keeps | apply State.runSign_keeps | split

theorem execVerify_keeps (j : Nat) {s : State} {sn : State} (he : execVerify j s = .next sn) : Keeps false s sn := by
  unfold execVerify at he
  injection he with he
  subst he
  have h0 := Keeps.refl false s
  with_reducible repeat' first
    | assumption | intro _ | apply State.atUnit_keeps | apply State.runVerify_keeps | split

theorem execExchange_keeps (j : Nat) {s : State} {sn : State} (he : execExchange j s = .next sn) : Keeps false s sn := by
  unfold execExchange at he
  injection he with he
  subst he
  have h0 := Keeps.refl false s
  with_reducible repeat' first
    | assumption | intro _ | apply State.atUnit_keeps | apply State.runExchange_keeps | split

theorem State.setSwitch_keeps {qt : Bool} {z0 s : State} (c : Nat) (v : Nat) (hs : Keeps qt z0 s) :
    Keeps qt z0 (State.setSwitch s c v) := by
  unfold State.setSwitch
  try dsimp only
  with_reducible repeat' first
    | assumption | intro _ | refine keeps_upd ?_ rfl (fun m => m) | split

theorem State.startDrain_keeps {qt : Bool} {z0 s : State} (p : Nat) (x : List Byte) (hs : Keeps qt z0 s) :
    Keeps qt z0 (State.startDrain s p x) := by
  unfold State.startDrain
  try dsimp only
  with_reducible repeat' first
    | assumption | intro _ | refine keeps_upd ?_ rfl (fun m => m) | split

theorem State.switchPair_keeps {qt : Bool} {z0 s : State} (p : Nat) (n : Nat) (hs : Keeps qt z0 s) :
    Keeps qt z0 (State.switchPair s p n) := by
  unfold State.switchPair
  try dsimp only
  with_reducible repeat' first
    | assumption | intro _ | apply State.commitCtx_keeps | apply State.setSwitch_keeps | apply State.startDrain_keeps
    | split

theorem State.dropFlow_keeps {qt : Bool} {z0 s : State} (r : FlowRef) (hs : Keeps qt z0 s) :
    Keeps qt z0 (State.dropFlow s r) := by
  unfold State.dropFlow
  try dsimp only
  with_reducible repeat' first
    | assumption | intro _ | apply State.flowPut_keeps | refine keeps_upd ?_ rfl (fun m => m) | split

theorem State.dropPinned_keeps {qt : Bool} {z0 s : State} (c : Nat) (hs : Keeps qt z0 s) :
    Keeps qt z0 (State.dropPinned s c) := by
  unfold State.dropPinned
  try dsimp only
  with_reducible repeat' first
    | assumption | intro _ | refine keeps_upd ?_ rfl (fun m => m) | split

theorem State.releaseFlows_keeps {qt : Bool} {z0 s : State} (c : Nat) (x : List Byte) (hs : Keeps qt z0 s) :
    KeepsOpt qt z0 (State.releaseFlows s c x) := by
  unfold State.releaseFlows
  with_reducible repeat' first
    | assumption | intro _ | apply keeps_ite | apply State.unpinEntries_keeps | apply State.dropPinned_keeps
    | exact KeepsOpt.none | apply KeepsOpt.some | apply KeepsOpt.ite | apply KeepsOpt.map | apply KeepsOpt.bind
    | split | refine KeepsOpt.get ‹_› ?_

theorem State.emptyCtx_keeps {qt : Bool} {z0 s : State} (c : Nat) (hs : Keeps qt z0 s) :
    Keeps qt z0 (State.emptyCtx s c) := by
  unfold State.emptyCtx
  try dsimp only
  with_reducible repeat' first
    | assumption | intro _ | apply State.commitCtx_keeps | apply State.setSwitch_keeps
    | refine keeps_upd ?_ rfl (fun m => m) | split

theorem State.startScan_keeps {qt : Bool} {z0 s : State} (hs : Keeps qt z0 s) :
    Keeps qt z0 (State.startScan s) := by
  unfold State.startScan
  try dsimp only
  with_reducible repeat' first
    | assumption | intro _ | apply State.set_keeps | split | refine keeps_upd ?_ rfl (fun m => m)

theorem State.relinkOne_keeps {qt : Bool} {z0 s : State} (ts : List Nat) (r : FlowRef) (hs : Keeps qt z0 s) :
    Keeps qt z0 (State.relinkOne s ts r) := by
  unfold State.relinkOne
  try dsimp only
  with_reducible repeat' first
    | assumption | intro _ | apply keeps_ite | apply State.inc_keeps | apply State.commitBegin_keeps
    | apply State.flowPut_keeps | apply State.dropFlow_keeps | split

theorem State.relinkKeys_keeps {qt : Bool} {z0 s : State} (ts : List Nat) (x0 : List (List Byte)) (hs : Keeps qt z0 s) :
    Keeps qt z0 (State.relinkKeys s ts x0) := by
  induction x0 generalizing s ts with
  | nil =>
    unfold State.relinkKeys
    try dsimp only
    with_reducible repeat' first
      | assumption | intro _ | apply State.relinkOne_keeps | split
  | cons a l ih =>
    unfold State.relinkKeys
    try dsimp only
    with_reducible repeat' first
      | apply ih | assumption | intro _ | apply State.relinkOne_keeps | split

theorem State.endForward_keeps {qt : Bool} {z0 s : State} (c : Nat) (hs : Keeps qt z0 s) :
    Keeps qt z0 (State.endForward s c) := by
  unfold State.endForward
  try dsimp only
  with_reducible repeat' first
    | assumption | intro _ | apply keeps_ite | apply State.commitBegin_keeps | apply State.dropPinned_keeps
    | apply State.releaseFlows_keeps | apply State.emptyCtx_keeps | split | refine KeepsOpt.get ‹_› ?_

theorem State.endScan_keeps {qt : Bool} {z0 s : State} (hs : Keeps qt z0 s) :
    Keeps qt z0 (State.endScan s) := by
  unfold State.endScan
  try dsimp only
  with_reducible repeat' first
    | assumption | intro _ | apply keeps_ite | apply State.clr_keeps | apply State.startScan_keeps
    | apply State.relinkKeys_keeps | apply State.endForward_keeps | apply keeps_foldl | apply keeps_foldl_fst | split
    | refine keeps_upd ?_ rfl (fun m => m)

theorem State.endDrain_keeps {qt : Bool} {z0 s : State} (c : Nat) (hs : Keeps qt z0 s) :
    Keeps qt z0 (State.endDrain s c) := by
  unfold State.endDrain
  try dsimp only
  with_reducible repeat' first
    | assumption | intro _ | apply keeps_ite | apply State.commitBegin_keeps | apply State.commitCtx_keeps
    | apply State.startScan_keeps | refine keeps_upd ?_ rfl (fun m => m) | split

theorem State.timedSwitch_keeps {qt : Bool} {z0 s : State} (n : Nat) (hs : Keeps qt z0 s) :
    Keeps qt z0 (State.timedSwitch s n) := by
  unfold State.timedSwitch
  try dsimp only
  with_reducible repeat' first
    | assumption | intro _ | apply keeps_ite | apply State.commitBegin_keeps | apply State.switchPair_keeps | split

theorem State.promote_keeps {qt : Bool} {z0 s : State} (c : Nat) (hs : Keeps qt z0 s) :
    Keeps qt z0 (State.promote s c) := by
  unfold State.promote
  try dsimp only
  with_reducible repeat' first
    | assumption | intro _ | apply keeps_ite | apply State.commitBegin_keeps | apply State.commitCtx_keeps | split

theorem State.loseObjects_keeps {qt : Bool} {z0 s : State} (hs : Keeps qt z0 s) :
    Keeps qt z0 (State.loseObjects s) := by
  unfold State.loseObjects
  try dsimp only
  with_reducible repeat' first
    | assumption | intro _ | apply keeps_ite | apply State.set_keeps | apply State.raise_keeps
    | apply State.eraseSlots_keeps | refine keeps_upd ?_ rfl (fun m => m) | split

theorem State.wipeStore_keeps {qt : Bool} {z0 s : State} (hs : Keeps qt z0 s) :
    Keeps qt z0 (State.wipeStore s) := by
  unfold State.wipeStore
  try dsimp only
  with_reducible repeat' first
    | assumption | intro _ | apply State.clr_keeps | refine keeps_upd ?_ rfl (fun m => m) | split

theorem State.loseSaves_keeps {z0 s : State} (hs : Keeps false z0 s) :
    Keeps false z0 (State.loseSaves s) := by
  unfold State.loseSaves
  try dsimp only
  with_reducible repeat' first
    | assumption | intro _ | apply State.faultJobs_keeps | split

theorem State.rotate_keeps {z0 s : State} (hs : Keeps false z0 s) :
    Keeps false z0 (State.rotate s) := by
  unfold State.rotate
  try dsimp only
  with_reducible repeat' first
    | assumption | intro _ | apply keeps_ite | apply State.put_keeps | apply State.clr_keeps | apply State.putB_keeps
    | apply State.startBuilds_keeps | apply State.draw_keeps | apply State.loseObjects_keeps
    | apply State.wipeStore_keeps | apply State.loseSaves_keeps | split | refine KeepsSnd.get ‹_› ?_
    | refine keeps_upd ?_ rfl (fun m => m)

theorem State.ctsCtlWrite_keeps {z0 s : State} (r : Req) (v : Word) (hs : Keeps false z0 s) :
    Keeps false z0 (State.ctsCtlWrite s r v) := by
  unfold State.ctsCtlWrite
  try dsimp only
  with_reducible repeat' first
    | assumption | intro _ | apply keeps_ite | apply State.set_keeps | apply State.putB_keeps
    | apply State.cntClearN_keeps | apply State.denied_keeps | apply State.startScan_keeps | apply State.rotate_keeps
    | split

theorem State.ctsCfgWrite_keeps {qt : Bool} {z0 s : State} (v : Word) (hs : Keeps qt z0 s) :
    Keeps qt z0 (State.ctsCfgWrite s v) := by
  unfold State.ctsCfgWrite
  try dsimp only
  with_reducible repeat' first
    | assumption | intro _ | apply keeps_ite | apply State.wrGeneric_keeps | split

theorem State.ctsThermWrite_keeps {qt : Bool} {z0 s : State} (v : Word) (hs : Keeps qt z0 s) :
    Keeps qt z0 (State.ctsThermWrite s v) := by
  unfold State.ctsThermWrite
  try dsimp only
  with_reducible repeat' first
    | assumption | intro _ | apply keeps_ite | apply State.wrGeneric_keeps | split

theorem State.fillComplete_keeps {qt : Bool} {z0 s : State} (hs : Keeps qt z0 s) :
    Keeps qt z0 (State.fillComplete s) := by
  unfold State.fillComplete
  try dsimp only
  with_reducible repeat' first
    | assumption | intro _ | apply keeps_ite | apply State.clr_keeps | refine keeps_upd ?_ rfl (fun m => m) | split

theorem State.scrubPass_keeps {qt : Bool} {z0 s : State} (f : ScrubFind) (hs : Keeps qt z0 s) :
    Keeps qt z0 (State.scrubPass s f) := by
  unfold State.scrubPass
  try dsimp only
  with_reducible repeat' first
    | assumption | intro _ | apply keeps_ite | apply State.count_keeps | apply State.inc_keeps
    | apply State.report_keeps | apply State.macFail_keeps | split

theorem State.stackTemps_keeps {qt : Bool} {z0 s : State} (t : Temps4) (hs : Keeps qt z0 s) :
    Keeps qt z0 (State.stackTemps s t) := by
  unfold State.stackTemps
  try dsimp only
  with_reducible repeat' first
    | assumption | intro _ | apply State.wr_keeps | apply State.report_keeps | apply State.setLive_keeps
    | apply keeps_foldl | apply keeps_foldl_fst | refine keeps_upd ?_ rfl (fun m => m) | split

theorem execRotate_keeps (r : Req) (v : Word) {s : State} {sn : State} (he : execRotate r v s = .next sn) : Keeps false s sn := by
  unfold execRotate at he
  injection he with he
  subst he
  have h0 := Keeps.refl false s
  with_reducible repeat' first
    | assumption | intro _ | apply State.gateW_keeps | apply State.ctsCtlWrite_keeps | split

theorem execFillComplete_keeps {qt : Bool} {s : State} {sn : State} (he : execFillComplete s = .next sn) : Keeps qt s sn := by
  unfold execFillComplete at he
  injection he with he
  subst he
  have h0 := Keeps.refl qt s
  with_reducible repeat' first
    | assumption | intro _ | apply State.fillComplete_keeps | split

theorem execScrubPass_keeps {qt : Bool} (find : ScrubFind) {s : State} {sn : State} (he : execScrubPass find s = .next sn) : Keeps qt s sn := by
  unfold execScrubPass at he
  injection he with he
  subst he
  have h0 := Keeps.refl qt s
  with_reducible repeat' first
    | assumption | intro _ | apply State.scrubPass_keeps | split

theorem execPromotion_keeps {qt : Bool} (c : Fin 0x110000) {s : State} {sn : State} (he : execPromotion c s = .next sn) : Keeps qt s sn := by
  unfold execPromotion at he
  injection he with he
  subst he
  have h0 := Keeps.refl qt s
  with_reducible repeat' first
    | assumption | intro _ | apply State.promote_keeps | split

theorem execSwitchAtReached_keeps {qt : Bool} (c : Fin 0x110000) {s : State} {sn : State} (he : execSwitchAtReached c s = .next sn) : Keeps qt s sn := by
  unfold execSwitchAtReached at he
  injection he with he
  subst he
  have h0 := Keeps.refl qt s
  with_reducible repeat' first
    | assumption | intro _ | apply State.timedSwitch_keeps | split

theorem execRelinkNow_keeps (r : Req) (v : Word) {s : State} {sn : State} (he : execRelinkNow r v s = .next sn) : Keeps false s sn := by
  unfold execRelinkNow at he
  injection he with he
  subst he
  have h0 := Keeps.refl false s
  with_reducible repeat' first
    | assumption | intro _ | apply State.gateW_keeps | apply State.ctsCtlWrite_keeps | split

theorem execStackTempSample_keeps {qt : Bool} (t : Temps4) {s : State} {sn : State} (he : execStackTempSample t s = .next sn) : Keeps qt s sn := by
  unfold execStackTempSample at he
  injection he with he
  subst he
  have h0 := Keeps.refl qt s
  with_reducible repeat' first
    | assumption | intro _ | apply keeps_ite | apply State.stackTemps_keeps | split

theorem execCtsCntClr_keeps (r : Req) (v : Word) {s : State} {sn : State} (he : execCtsCntClr r v s = .next sn) : Keeps false s sn := by
  unfold execCtsCntClr at he
  injection he with he
  subst he
  have h0 := Keeps.refl false s
  with_reducible repeat' first
    | assumption | intro _ | apply State.gateW_keeps | apply State.ctsCtlWrite_keeps | split

theorem execCtsCfgLock_keeps {qt : Bool} (r : Req) (v : Word) {s : State} {sn : State} (he : execCtsCfgLock r v s = .next sn) : Keeps qt s sn := by
  unfold execCtsCfgLock at he
  injection he with he
  subst he
  have h0 := Keeps.refl qt s
  with_reducible repeat' first
    | assumption | intro _ | apply State.gateW_keeps | apply State.ctsCfgWrite_keeps | split

theorem State.runHash_keeps {z0 s : State} (j : Job) (hs : Keeps false z0 s) :
    Keeps false z0 (State.runHash s j) := by
  unfold State.runHash
  try dsimp only
  with_reducible repeat' first
    | assumption | intro _ | apply keeps_ite | apply State.withInput_keeps | apply State.finishOut_keeps | split

theorem State.withCust_keeps {z0 s : State} (j : Job) (k : List Byte → State) (h_k : ∀ (a0 : List Byte), Keeps false z0 (k a0)) (hs : Keeps false z0 s) :
    Keeps false z0 (State.withCust s j k) := by
  unfold State.withCust
  try dsimp only
  with_reducible repeat' first
    | assumption | intro _ | apply h_k | apply keeps_ite | apply State.withBytes_keeps | split

theorem State.macMasks_keeps {z0 s : State} (j : Job) (k : State → State) (h_k : ∀ (a0 : State), Keeps false z0 a0 → Keeps false z0 (k a0)) (hs : Keeps false z0 s) :
    Keeps false z0 (State.macMasks s j k) := by
  unfold State.macMasks
  try dsimp only
  with_reducible repeat' first
    | assumption | intro _ | apply h_k | apply keeps_ite | apply State.drawMasks_keeps | apply State.needRng_keeps
    | split

theorem State.dkeCounts_keeps {qt : Bool} {z0 s : State} (j : Job) (hs : Keeps qt z0 s) :
    Keeps qt z0 (State.dkeCounts s j) := by
  unfold State.dkeCounts
  try dsimp only
  with_reducible repeat' first
    | assumption | intro _ | apply keeps_ite | apply State.count_keeps | apply State.inc_keeps
    | apply State.freeNat_keeps | split | refine KeepsSnd.get ‹_› ?_

theorem State.runMac_keeps {z0 s : State} (j : Job) (hs : Keeps false z0 s) :
    Keeps false z0 (State.runMac s j) := by
  unfold State.runMac
  try dsimp only
  with_reducible repeat' first
    | assumption | intro _ | apply State.withInput_keeps | apply State.withSlot_keeps | apply State.finishOut_keeps
    | apply State.withCust_keeps | apply State.macMasks_keeps | apply State.dkeCounts_keeps | split

theorem State.runMacCompare_keeps {z0 s : State} (j : Job) (hs : Keeps false z0 s) :
    Keeps false z0 (State.runMacCompare s j) := by
  unfold State.runMacCompare
  try dsimp only
  with_reducible repeat' first
    | assumption | intro _ | apply keeps_ite | apply State.inc_keeps | apply State.finishJob_keeps
    | apply State.failJob_keeps | apply State.withInput_keeps | apply State.withBytes_keeps
    | apply State.withSlot_keeps | apply State.withCust_keeps | apply State.macMasks_keeps
    | apply State.dkeCounts_keeps | split

theorem State.withSession_keeps {z0 s : State} (j : Job) (k : List Byte → State) (h_k : ∀ (a0 : List Byte), Keeps false z0 (k a0)) (hs : Keeps false z0 s) :
    Keeps false z0 (State.withSession s j k) := by
  unfold State.withSession
  try dsimp only
  with_reducible repeat' first
    | assumption | intro _ | apply h_k | apply keeps_ite | apply State.failJob_keeps | split

theorem State.sessionEncrypt_keeps {z0 s : State} (j : Job) (x : JobIn) (hs : Keeps false z0 s) :
    Keeps false z0 (State.sessionEncrypt s j x) := by
  unfold State.sessionEncrypt
  try dsimp only
  with_reducible repeat' first
    | assumption | intro _ | apply keeps_ite | apply State.failJob_keeps | apply State.commit1_keeps
    | apply State.finishOut_keeps | apply State.withSession_keeps | split

theorem State.runEncrypt_keeps {z0 s : State} (j : Job) (hs : Keeps false z0 s) :
    Keeps false z0 (State.runEncrypt s j) := by
  unfold State.runEncrypt
  try dsimp only
  with_reducible repeat' first
    | assumption | intro _ | apply keeps_ite | apply State.withInput_keeps | apply State.withSlot_keeps
    | apply State.finishOut_keeps | apply State.sessionEncrypt_keeps | split

theorem State.sessionDecrypt_keeps {z0 s : State} (j : Job) (x : JobIn) (hs : Keeps false z0 s) :
    Keeps false z0 (State.sessionDecrypt s j x) := by
  unfold State.sessionDecrypt
  try dsimp only
  with_reducible repeat' first
    | assumption | intro _ | apply State.failJob_keeps | apply State.commit1_keeps | apply State.finishOut_keeps
    | apply State.withSession_keeps | split

theorem State.runDecrypt_keeps {z0 s : State} (j : Job) (hs : Keeps false z0 s) :
    Keeps false z0 (State.runDecrypt s j) := by
  unfold State.runDecrypt
  try dsimp only
  with_reducible repeat' first
    | assumption | intro _ | apply keeps_ite | apply State.failJob_keeps | apply State.withInput_keeps
    | apply State.withSlot_keeps | apply State.finishOut_keeps | apply State.sessionDecrypt_keeps | split

theorem execHash_keeps (j : Nat) {s : State} {sn : State} (he : execHash j s = .next sn) : Keeps false s sn := by
  unfold execHash at he
  injection he with he
  subst he
  have h0 := Keeps.refl false s
  with_reducible repeat' first
    | assumption | intro _ | apply State.atUnit_keeps | apply State.runHash_keeps | split

theorem execMac_keeps (j : Nat) {s : State} {sn : State} (he : execMac j s = .next sn) : Keeps false s sn := by
  unfold execMac at he
  injection he with he
  subst he
  have h0 := Keeps.refl false s
  with_reducible repeat' first
    | assumption | intro _ | apply State.atUnit_keeps | apply State.runMac_keeps | split

theorem execMacCompare_keeps (j : Nat) {s : State} {sn : State} (he : execMacCompare j s = .next sn) : Keeps false s sn := by
  unfold execMacCompare at he
  injection he with he
  subst he
  have h0 := Keeps.refl false s
  with_reducible repeat' first
    | assumption | intro _ | apply State.atUnit_keeps | apply State.runMacCompare_keeps | split

theorem execEncrypt_keeps (j : Nat) {s : State} {sn : State} (he : execEncrypt j s = .next sn) : Keeps false s sn := by
  unfold execEncrypt at he
  injection he with he
  subst he
  have h0 := Keeps.refl false s
  with_reducible repeat' first
    | assumption | intro _ | apply State.atUnit_keeps | apply State.runEncrypt_keeps | split

theorem execDecrypt_keeps (j : Nat) {s : State} {sn : State} (he : execDecrypt j s = .next sn) : Keeps false s sn := by
  unfold execDecrypt at he
  injection he with he
  subst he
  have h0 := Keeps.refl false s
  with_reducible repeat' first
    | assumption | intro _ | apply State.atUnit_keeps | apply State.runDecrypt_keeps | split

theorem State.sfiFlush_keeps {qt : Bool} {z0 s : State} (c : Nat) (hs : Keeps qt z0 s) :
    Keeps qt z0 (State.sfiFlush s c) := by
  unfold State.sfiFlush
  try dsimp only
  with_reducible repeat' first
    | assumption | intro _ | apply State.count_keeps | apply State.putDke_keeps
    | refine keeps_upd ?_ rfl (fun m => m) | split

theorem State.dkeError_keeps {qt : Bool} {z0 s : State} (c : Nat) (err : Nat) (info : Nat) (hs : Keeps qt z0 s) :
    Keeps qt z0 (State.dkeError s c err info) := by
  unfold State.dkeError
  try dsimp only
  with_reducible repeat' first
    | assumption | intro _ | apply State.put_keeps | apply State.inc_keeps | apply State.putDke_keeps
    | refine keeps_upd ?_ rfl (fun m => m) | split

theorem State.sfiDrop_keeps {qt : Bool} {z0 s : State} (c : Nat) (ended : Bool) (hs : Keeps qt z0 s) :
    Keeps qt z0 (State.sfiDrop s c ended) := by
  unfold State.sfiDrop
  try dsimp only
  with_reducible repeat' first
    | assumption | intro _ | apply keeps_ite | apply State.inc_keeps | apply State.putDke_keeps
    | apply State.dkeError_keeps | refine keeps_upd ?_ rfl (fun m => m) | split

theorem State.sfiWord_keeps {qt : Bool} {z0 s : State} (c : Nat) (v : Word) (n : Nat) (last : Bool) (hs : Keeps qt z0 s) :
    Keeps qt z0 (State.sfiWord s c v n last) := by
  unfold State.sfiWord
  try dsimp only
  with_reducible repeat' first
    | assumption | intro _ | apply keeps_ite | apply State.set_keeps | apply State.count_keeps
    | apply State.inc_keeps | apply State.level_keeps | apply State.putDke_keeps | apply State.sfiDrop_keeps
    | refine keeps_upd ?_ rfl (fun m => m) | split

theorem State.sfiCtlWrite_keeps {qt : Bool} {z0 s : State} (c : Nat) (v : Word) (hs : Keeps qt z0 s) :
    Keeps qt z0 (State.sfiCtlWrite s c v) := by
  unfold State.sfiCtlWrite
  try dsimp only
  with_reducible repeat' first
    | assumption | intro _ | apply keeps_ite | apply State.sfiFlush_keeps | apply State.sfiDrop_keeps | split

theorem State.sfiCfgWrite_keeps {qt : Bool} {z0 s : State} (c : Nat) (v : Word) (hs : Keeps qt z0 s) :
    Keeps qt z0 (State.sfiCfgWrite s c v) := by
  unfold State.sfiCfgWrite
  with_reducible repeat' first
    | assumption | intro _ | apply keeps_ite | apply State.put_keeps | split

theorem State.sfiUnderrun_keeps {qt : Bool} {z0 s : State} (c : Nat) (hs : Keeps qt z0 s) :
    Keeps qt z0 (State.sfiUnderrun s c) := by
  unfold State.sfiUnderrun
  try dsimp only
  with_reducible repeat' first
    | assumption | intro _ | apply keeps_ite | apply State.set_keeps | apply State.dkeError_keeps
    | apply State.sfiDrop_keeps | split

theorem State.dkeTake_keeps {qt : Bool} {z0 s : State} (r : Req) (c : Nat) (hs : Keeps qt z0 s) :
    Keeps qt z0 (State.dkeTake s r c) := by
  unfold State.dkeTake
  try dsimp only
  with_reducible repeat' first
    | assumption | intro _ | apply keeps_ite | apply State.putDke_keeps | refine keeps_upd ?_ rfl (fun m => m)
    | split

theorem State.dkeRelease_keeps {qt : Bool} {z0 s : State} (c : Nat) (hs : Keeps qt z0 s) :
    Keeps qt z0 (State.dkeRelease s c) := by
  unfold State.dkeRelease
  try dsimp only
  with_reducible repeat' first
    | assumption | intro _ | apply State.resetRegs_keeps | apply State.putDke_keeps | apply State.sfiFlush_keeps
    | refine keeps_upd ?_ rfl (fun m => m) | split

theorem State.dkeHolderReset_keeps {qt : Bool} {z0 s : State} (h : Nat) (hs : Keeps qt z0 s) :
    Keeps qt z0 (State.dkeHolderReset s h) := by
  unfold State.dkeHolderReset
  try dsimp only
  with_reducible repeat' first
    | assumption | intro _ | apply keeps_ite | apply State.putDke_keeps | apply State.dkeRelease_keeps
    | apply keeps_foldl | apply keeps_foldl_fst | refine keeps_upd ?_ rfl (fun m => m) | split

theorem State.dkeLockWrite_keeps {qt : Bool} {z0 s : State} (r : Req) (c : Nat) (v : Word) (hs : Keeps qt z0 s) :
    Keeps qt z0 (State.dkeLockWrite s r c v) := by
  unfold State.dkeLockWrite
  try dsimp only
  with_reducible repeat' first
    | assumption | intro _ | apply keeps_ite | apply State.denied_keeps | apply State.dkeTake_keeps
    | apply State.dkeRelease_keeps | split

theorem State.wrWords_keeps {qt : Bool} {z0 s : State} (o : Nat) (x0 : List Word) (hs : Keeps qt z0 s) :
    Keeps qt z0 (State.wrWords s o x0) := by
  induction x0 generalizing s o with
  | nil =>
    unfold State.wrWords
    with_reducible repeat' first
      | assumption | intro _ | apply State.wr_keeps | split
  | cons a l ih =>
    unfold State.wrWords
    with_reducible repeat' first
      | apply ih | assumption | intro _ | apply State.wr_keeps | split

theorem State.dkeZeroRes_keeps {qt : Bool} {z0 s : State} (c : Nat) (hs : Keeps qt z0 s) :
    Keeps qt z0 (State.dkeZeroRes s c) := by
  unfold State.dkeZeroRes
  with_reducible repeat' first
    | assumption | intro _ | apply State.wrWords_keeps | split

theorem State.dkeStart_keeps {qt : Bool} {z0 s : State} (c : Nat) (hs : Keeps qt z0 s) :
    Keeps qt z0 (State.dkeStart s c) := by
  unfold State.dkeStart
  try dsimp only
  with_reducible repeat' first
    | assumption | intro _ | apply keeps_ite | apply State.set_keeps | apply State.putDke_keeps
    | refine keeps_upd ?_ rfl (fun m => m) | split

theorem State.dkeClear_keeps {qt : Bool} {z0 s : State} (c : Nat) (hs : Keeps qt z0 s) :
    Keeps qt z0 (State.dkeClear s c) := by
  unfold State.dkeClear
  try dsimp only
  with_reducible repeat' first
    | assumption | intro _ | apply keeps_ite | apply State.wr_keeps | apply State.put_keeps
    | apply State.putDke_keeps | apply State.wr64_keeps | apply State.dkeZeroRes_keeps
    | refine keeps_upd ?_ rfl (fun m => m) | split

theorem State.dkeAbort_keeps {qt : Bool} {z0 s : State} (c : Nat) (hs : Keeps qt z0 s) :
    Keeps qt z0 (State.dkeAbort s c) := by
  unfold State.dkeAbort
  try dsimp only
  with_reducible repeat' first
    | assumption | intro _ | apply keeps_ite | apply State.putDke_keeps | refine keeps_upd ?_ rfl (fun m => m)
    | split

theorem State.dkeCtlWrite_keeps {qt : Bool} {z0 s : State} (c : Nat) (v : Word) (hs : Keeps qt z0 s) :
    Keeps qt z0 (State.dkeCtlWrite s c v) := by
  unfold State.dkeCtlWrite
  try dsimp only
  with_reducible repeat' first
    | assumption | intro _ | apply keeps_ite | apply State.dkeStart_keeps | apply State.dkeClear_keeps
    | apply State.dkeAbort_keeps | split

theorem State.dkeSetup_keeps {qt : Bool} {z0 s : State} (c : Nat) (o : Nat) (v : Word) (hs : Keeps qt z0 s) :
    Keeps qt z0 (State.dkeSetup s c o v) := by
  unfold State.dkeSetup
  with_reducible repeat' first
    | assumption | intro _ | apply keeps_ite | apply State.wr_keeps | apply State.set_keeps
    | apply State.wrGeneric_keeps | split

theorem State.dkeAborted_keeps {qt : Bool} {z0 s : State} (c : Nat) (hs : Keeps qt z0 s) :
    Keeps qt z0 (State.dkeAborted s c) := by
  unfold State.dkeAborted
  try dsimp only
  with_reducible repeat' first
    | assumption | intro _ | apply keeps_ite | apply State.count_keeps | apply State.putDke_keeps
    | apply State.wr64_keeps | refine keeps_upd ?_ rfl (fun m => m) | split

theorem State.dkeLost_keeps {qt : Bool} {z0 s : State} (c : Nat) (err : Nat) (info : Nat) (hs : Keeps qt z0 s) :
    Keeps qt z0 (State.dkeLost s c err info) := by
  unfold State.dkeLost
  with_reducible repeat' first
    | assumption | intro _ | apply State.sfiFlush_keeps | apply State.dkeError_keeps | apply State.dkeZeroRes_keeps
    | split

theorem State.dkePending_keeps {qt : Bool} {z0 s : State} (c : Nat) (hs : Keeps qt z0 s) :
    KeepsOpt qt z0 (State.dkePending s c) := by
  unfold State.dkePending
  try dsimp only
  with_reducible repeat' first
    | assumption | intro _ | apply keeps_ite | apply State.dkeAborted_keeps | apply State.dkeLost_keeps
    | exact KeepsOpt.none | apply KeepsOpt.some | apply KeepsOpt.ite | apply KeepsOpt.map | apply KeepsOpt.bind
    | split

theorem State.dkeFault_keeps {qt : Bool} {z0 s : State} (c : Nat) (k : Nat) (hs : Keeps qt z0 s) :
    Keeps qt z0 (State.dkeFault s c k) := by
  unfold State.dkeFault
  with_reducible repeat' first
    | assumption | intro _ | apply State.report_keeps | apply State.dkeLost_keeps | split

theorem State.dkeStep_keeps {qt : Bool} {z0 s : State} (c : Nat) (st : DkeState) (chk : Check) (k : State → State) (h_k : ∀ (a0 : State), Keeps qt z0 a0 → Keeps qt z0 (k a0)) (hs : Keeps qt z0 s) :
    Keeps qt z0 (State.dkeStep s c st chk k) := by
  unfold State.dkeStep
  try dsimp only
  with_reducible repeat' first
    | assumption | intro _ | apply h_k | apply keeps_ite | apply State.dkePending_keeps | apply State.dkeFault_keeps
    | split | refine KeepsOpt.get ‹_› ?_

theorem State.dkeKeyingDone_keeps {qt : Bool} {z0 s : State} (c : Nat) (hs : Keeps qt z0 s) :
    Keeps qt z0 (State.dkeKeyingDone s c) := by
  unfold State.dkeKeyingDone
  try dsimp only
  with_reducible repeat' first
    | assumption | intro _ | apply keeps_ite | apply State.putDke_keeps | apply State.drawMasks_keeps
    | apply State.dkeError_keeps | apply State.dkeStep_keeps | split | refine keeps_upd ?_ rfl (fun m => m)

theorem State.dkeBeat_keeps {qt : Bool} {z0 s : State} (c : Nat) (chk : Check) (hs : Keeps qt z0 s) :
    Keeps qt z0 (State.dkeBeat s c chk) := by
  unfold State.dkeBeat
  try dsimp only
  with_reducible repeat' first
    | assumption | intro _ | apply keeps_ite | apply State.count_keeps | apply State.putDke_keeps
    | apply State.wr64_keeps | apply State.dkeError_keeps | apply State.dkeStep_keeps | split
    | refine keeps_upd ?_ rfl (fun m => m)

theorem State.dkeFinish_keeps {qt : Bool} {z0 s : State} (c : Nat) (disagree : Bool) (chk : Check) (hs : Keeps qt z0 s) :
    Keeps qt z0 (State.dkeFinish s c disagree chk) := by
  unfold State.dkeFinish
  try dsimp only
  with_reducible repeat' first
    | assumption | intro _ | apply keeps_ite | apply State.wr_keeps | apply State.set_keeps | apply State.inc_keeps
    | apply State.report_keeps | apply State.putDke_keeps | apply State.wrWords_keeps | apply State.dkeStep_keeps
    | refine keeps_upd ?_ rfl (fun m => m) | split

theorem State.dkeResRead_keeps {qt : Bool} {z0 s : State} (c : Nat) (k : Nat) (hs : Keeps qt z0 s) :
    Keeps qt z0 (State.dkeResRead s c k) := by
  unfold State.dkeResRead
  try dsimp only
  with_reducible repeat' first
    | assumption | intro _ | apply keeps_ite | apply State.set_keeps | apply State.inc_keeps
    | refine keeps_upd ?_ rfl (fun m => m) | split

theorem State.tamperDke_keeps {qt : Bool} {z0 s : State} (hs : Keeps qt z0 s) :
    Keeps qt z0 (State.tamperDke s) := by
  unfold State.tamperDke
  try dsimp only
  with_reducible repeat' first
    | assumption | intro _ | apply keeps_ite | apply State.putDke_keeps | apply keeps_foldl | apply keeps_foldl_fst
    | refine keeps_upd ?_ rfl (fun m => m) | split

theorem State.dkePreempt_keeps {qt : Bool} {z0 s : State} (c : Nat) (j : Job) (hs : Keeps qt z0 s) :
    Keeps qt z0 (State.dkePreempt s c j) := by
  unfold State.dkePreempt
  try dsimp only
  with_reducible repeat' first
    | assumption | intro _ | apply State.inc_keeps | apply State.putJob_keeps | apply State.dkeGrant_keeps
    | refine keeps_upd ?_ rfl (fun m => m) | split

theorem State.dkeBoundary_keeps {z0 s : State} (c : Nat) (hs : Keeps false z0 s) :
    Keeps false z0 (State.dkeBoundary s c) := by
  unfold State.dkeBoundary
  try dsimp only
  with_reducible repeat' first
    | assumption | intro _ | apply keeps_ite | apply State.failJob_keeps | apply State.tamperJob_keeps
    | apply State.dkePending_keeps | apply State.dkePreempt_keeps | apply KeepsOpt.getD | split
    | refine KeepsOpt.get ‹_› ?_

theorem State.dkeCfgWrite_keeps {qt : Bool} {z0 s : State} (v : Word) (hs : Keeps qt z0 s) :
    Keeps qt z0 (State.dkeCfgWrite s v) := by
  unfold State.dkeCfgWrite
  try dsimp only
  with_reducible repeat' first
    | assumption | intro _ | apply keeps_ite | apply State.wrGeneric_keeps | split

theorem State.dkeGctlWrite_keeps {qt : Bool} {z0 s : State} (v : Word) (hs : Keeps qt z0 s) :
    Keeps qt z0 (State.dkeGctlWrite s v) := by
  unfold State.dkeGctlWrite
  try dsimp only
  with_reducible repeat' first
    | assumption | intro _ | apply keeps_ite | apply State.cntClearN_keeps | apply keeps_foldl
    | apply keeps_foldl_fst | split

theorem execDkeTake_keeps {qt : Bool} (r : Req) (c : Fin 4) {s : State} {sn : State} (he : execDkeTake r c s = .next sn) : Keeps qt s sn := by
  unfold execDkeTake at he
  injection he with he
  subst he
  have h0 := Keeps.refl qt s
  with_reducible repeat' first
    | assumption | intro _ | apply State.gateW_keeps | apply State.dkeLockWrite_keeps | split

theorem execDkeRelease_keeps {qt : Bool} (r : Req) (c : Fin 4) {s : State} {sn : State} (he : execDkeRelease r c s = .next sn) : Keeps qt s sn := by
  unfold execDkeRelease at he
  injection he with he
  subst he
  have h0 := Keeps.refl qt s
  with_reducible repeat' first
    | assumption | intro _ | apply State.gateW_keeps | apply State.dkeLockWrite_keeps | split

theorem execDkeForce_keeps {qt : Bool} (r : Req) (c : Fin 4) {s : State} {sn : State} (he : execDkeForce r c s = .next sn) : Keeps qt s sn := by
  unfold execDkeForce at he
  injection he with he
  subst he
  have h0 := Keeps.refl qt s
  with_reducible repeat' first
    | assumption | intro _ | apply State.gateW_keeps | apply State.dkeLockWrite_keeps | split

theorem execDkeBlockBoundary_keeps (c : Fin 4) {s : State} {sn : State} (he : execDkeBlockBoundary c s = .next sn) : Keeps false s sn := by
  unfold execDkeBlockBoundary at he
  injection he with he
  subst he
  have h0 := Keeps.refl false s
  with_reducible repeat' first
    | assumption | intro _ | apply State.dkeBoundary_keeps | split

theorem execDkeStart_keeps {qt : Bool} (r : Req) (c : Fin 4) {s : State} {sn : State} (he : execDkeStart r c s = .next sn) : Keeps qt s sn := by
  unfold execDkeStart at he
  injection he with he
  subst he
  have h0 := Keeps.refl qt s
  with_reducible repeat' first
    | assumption | intro _ | apply State.gateW_keeps | apply State.dkeCtlWrite_keeps | split

theorem execDkeAbort_keeps {qt : Bool} (r : Req) (c : Fin 4) {s : State} {sn : State} (he : execDkeAbort r c s = .next sn) : Keeps qt s sn := by
  unfold execDkeAbort at he
  injection he with he
  subst he
  have h0 := Keeps.refl qt s
  with_reducible repeat' first
    | assumption | intro _ | apply State.gateW_keeps | apply State.dkeCtlWrite_keeps | split

theorem execDkeClear_keeps {qt : Bool} (r : Req) (c : Fin 4) {s : State} {sn : State} (he : execDkeClear r c s = .next sn) : Keeps qt s sn := by
  unfold execDkeClear at he
  injection he with he
  subst he
  have h0 := Keeps.refl qt s
  with_reducible repeat' first
    | assumption | intro _ | apply State.gateW_keeps | apply State.dkeCtlWrite_keeps | split

theorem execKeyingDone_keeps {qt : Bool} (c : Fin 4) {s : State} {sn : State} (he : execKeyingDone c s = .next sn) : Keeps qt s sn := by
  unfold execKeyingDone at he
  injection he with he
  subst he
  have h0 := Keeps.refl qt s
  with_reducible repeat' first
    | assumption | intro _ | apply State.dkeKeyingDone_keeps | split

theorem execBeatAbsorbed_keeps {qt : Bool} (c : Fin 4) (chk : Check) {s : State} {sn : State} (he : execBeatAbsorbed c chk s = .next sn) : Keeps qt s sn := by
  unfold execBeatAbsorbed at he
  injection he with he
  subst he
  have h0 := Keeps.refl qt s
  with_reducible repeat' first
    | assumption | intro _ | apply State.dkeBeat_keeps | split

theorem execFinishDone_keeps {qt : Bool} (c : Fin 4) (disagree : Bool) (chk : Check) {s : State} {sn : State} (he : execFinishDone c disagree chk s = .next sn) : Keeps qt s sn := by
  unfold execFinishDone at he
  injection he with he
  subst he
  have h0 := Keeps.refl qt s
  with_reducible repeat' first
    | assumption | intro _ | apply State.dkeFinish_keeps | split

theorem execResultRead_keeps {qt : Bool} (r : Req) (c : Fin 4) (k : Fin 17) {s : State} {sn : State} (he : execResultRead r c k s = .next sn) : Keeps qt s sn := by
  unfold execResultRead at he
  injection he with he
  subst he
  have h0 := Keeps.refl qt s
  with_reducible repeat' first
    | assumption | intro _ | apply keeps_ite | apply State.gateR_keeps | apply State.dkeResRead_keeps | split

theorem execDkeCntClr_keeps {qt : Bool} (r : Req) (v : Word) {s : State} {sn : State} (he : execDkeCntClr r v s = .next sn) : Keeps qt s sn := by
  unfold execDkeCntClr at he
  injection he with he
  subst he
  have h0 := Keeps.refl qt s
  with_reducible repeat' first
    | assumption | intro _ | apply State.gateW_keeps | apply State.dkeGctlWrite_keeps | split

theorem execDkeCfgLock_keeps {qt : Bool} (r : Req) (v : Word) {s : State} {sn : State} (he : execDkeCfgLock r v s = .next sn) : Keeps qt s sn := by
  unfold execDkeCfgLock at he
  injection he with he
  subst he
  have h0 := Keeps.refl qt s
  with_reducible repeat' first
    | assumption | intro _ | apply State.gateW_keeps | apply State.dkeCfgWrite_keeps | split

theorem execSfiData_keeps {qt : Bool} (r : Req) (c : Fin 4) (v : Word) {s : State} {sn : State} (he : execSfiData r c v s = .next sn) : Keeps qt s sn := by
  unfold execSfiData at he
  injection he with he
  subst he
  have h0 := Keeps.refl qt s
  with_reducible repeat' first
    | assumption | intro _ | apply State.gateW_keeps | apply State.sfiWord_keeps | split

theorem execSfiEop_keeps {qt : Bool} (r : Req) (c : Fin 4) (n : Fin 4) (v : Word) {s : State} {sn : State} (he : execSfiEop r c n v s = .next sn) : Keeps qt s sn := by
  unfold execSfiEop at he
  injection he with he
  subst he
  have h0 := Keeps.refl qt s
  with_reducible repeat' first
    | assumption | intro _ | apply State.gateW_keeps | apply State.sfiWord_keeps | split

theorem execSfiFlush_keeps {qt : Bool} (r : Req) (c : Fin 4) {s : State} {sn : State} (he : execSfiFlush r c s = .next sn) : Keeps qt s sn := by
  unfold execSfiFlush at he
  injection he with he
  subst he
  have h0 := Keeps.refl qt s
  with_reducible repeat' first
    | assumption | intro _ | apply State.gateW_keeps | apply State.sfiCtlWrite_keeps | split

theorem execAbortPkt_keeps {qt : Bool} (r : Req) (c : Fin 4) {s : State} {sn : State} (he : execAbortPkt r c s = .next sn) : Keeps qt s sn := by
  unfold execAbortPkt at he
  injection he with he
  subst he
  have h0 := Keeps.refl qt s
  with_reducible repeat' first
    | assumption | intro _ | apply State.gateW_keeps | apply State.sfiCtlWrite_keeps | split

theorem execUnderrun_keeps {qt : Bool} (c : Fin 4) {s : State} {sn : State} (he : execUnderrun c s = .next sn) : Keeps qt s sn := by
  unfold execUnderrun at he
  injection he with he
  subst he
  have h0 := Keeps.refl qt s
  with_reducible repeat' first
    | assumption | intro _ | apply State.sfiUnderrun_keeps | split

theorem State.flashWrite_keeps {s0 s : State} (a : Nat) (bs : List Byte) (hs : Keeps false s0 s) :
    Keeps false s0 (State.flashWrite s a bs) := keeps_of_flash hs (flashWrite_wf s a bs)

theorem State.flashErase_keeps {s0 s : State} (a n : Nat) (hs : Keeps false s0 s) :
    Keeps false s0 (State.flashErase s a n) := keeps_of_flash hs (flashErase_wf s a n)

theorem State.eraseCopies_keeps {z0 s : State} (target : Nat) (n : Nat) (hs : Keeps false z0 s) :
    Keeps false z0 (State.eraseCopies s target n) := by
  unfold State.eraseCopies
  try dsimp only
  with_reducible repeat' first
    | assumption | intro _ | apply State.flashErase_keeps | apply keeps_foldl | apply keeps_foldl_fst | split

theorem State.endUpdate_keeps {z0 s : State} (count : Bool) (hs : Keeps false z0 s) :
    Keeps false z0 (State.endUpdate s count) := by
  unfold State.endUpdate
  try dsimp only
  with_reducible repeat' first
    | assumption | intro _ | apply keeps_ite | apply State.put_keeps | apply State.eraseCopies_keeps | split
    | refine keeps_upd ?_ rfl (fun m => m)

theorem State.zeroFail_keeps {qt : Bool} {z0 s : State} (n : Nat) (hs : Keeps qt z0 s) :
    Keeps qt z0 (State.zeroFail s n) := by
  unfold State.zeroFail
  try dsimp only
  with_reducible repeat' first
    | assumption | intro _ | apply keeps_ite | apply State.set_keeps | apply State.count_keeps
    | apply State.report_keeps | refine keeps_upd ?_ rfl (fun m => m) | split

theorem State.eraseOne_keeps {qt : Bool} {z0 s : State} (id : Nat) (i : Nat) (hs : Keeps qt z0 s) :
    Keeps qt z0 (State.eraseOne s id i) := by
  unfold State.eraseOne
  try dsimp only
  with_reducible repeat' first
    | assumption | intro _ | apply State.eraseSlot_keeps | apply State.jrRequest_keeps | split

theorem State.runKeepErase_keeps {z0 s : State} (bad : Nat) (j : Job) (hs : Keeps false z0 s) :
    Keeps false z0 (State.runKeepErase s bad j) := by
  unfold State.runKeepErase
  try dsimp only
  with_reducible repeat' first
    | assumption | intro _ | apply keeps_ite | apply State.putJob_keeps | apply State.finishJob_keeps
    | apply State.failJob_keeps | apply State.zeroFail_keeps | apply State.eraseOne_keeps | apply keeps_foldl
    | apply keeps_foldl_fst | refine keeps_upd ?_ rfl (fun m => m) | split

theorem State.eraseAllSlots_keeps {qt : Bool} {z0 s : State} (hs : Keeps qt z0 s) :
    Keeps qt z0 (State.eraseAllSlots s) := by
  unfold State.eraseAllSlots
  try dsimp only
  with_reducible repeat' first
    | assumption | intro _ | apply State.eraseSlots_keeps | split

theorem State.clearSlots_keeps {qt : Bool} {z0 s : State} (hs : Keeps qt z0 s) :
    Keeps qt z0 (State.clearSlots s) := by
  unfold State.clearSlots
  try dsimp only
  with_reducible repeat' first
    | assumption | intro _ | refine keeps_upd ?_ rfl (fun m => m) | split

theorem State.runKeepLoad_keeps {z0 s : State} (j : Job) (hs : Keeps false z0 s) :
    Keeps false z0 (State.runKeepLoad s j) := by
  unfold State.runKeepLoad
  try dsimp only
  with_reducible repeat' first
    | assumption | intro _ | apply keeps_ite | apply State.inc_keeps | apply State.failJob_keeps
    | apply State.withInput_keeps | apply State.draw_keeps | apply State.needRng_keeps | apply State.failQuiet_keeps
    | apply State.finishSlots_keeps | split | refine KeepsSnd.get ‹_› ?_ | refine keeps_upd ?_ rfl (fun m => m)

theorem State.deriveContexts_keeps {qt : Bool} {z0 s : State} (group : Nat) (ps : List (Dest × List Byte)) (hs : Keeps qt z0 s) :
    Keeps qt z0 (State.deriveContexts s group ps) := by
  unfold State.deriveContexts
  try dsimp only
  with_reducible repeat' first
    | assumption | intro _ | apply keeps_ite | apply State.commitCtx_keeps | apply keeps_foldl
    | apply keeps_foldl_fst | refine keeps_upd ?_ rfl (fun m => m) | split

theorem State.deriveK1_keeps {z0 s : State} (j : Job) (k : List Byte → State) (h_k : ∀ (a0 : List Byte), Keeps false z0 (k a0)) (hs : Keeps false z0 s) :
    Keeps false z0 (State.deriveK1 s j k) := by
  unfold State.deriveK1
  try dsimp only
  with_reducible repeat' first
    | assumption | intro _ | apply h_k | apply keeps_ite | apply State.failJob_keeps | apply State.withSlot_keeps
    | split

theorem State.deriveK2_keeps {z0 s : State} (j : Job) (k : List Byte → State) (h_k : ∀ (a0 : List Byte), Keeps false z0 (k a0)) (hs : Keeps false z0 s) :
    Keeps false z0 (State.deriveK2 s j k) := by
  unfold State.deriveK2
  try dsimp only
  with_reducible repeat' first
    | assumption | intro _ | apply h_k | apply keeps_ite | apply State.withSlot_keeps | split

theorem State.runDerive_keeps {z0 s : State} (j : Job) (hs : Keeps false z0 s) :
    Keeps false z0 (State.runDerive s j) := by
  unfold State.runDerive
  try dsimp only
  with_reducible repeat' first
    | assumption | intro _ | apply keeps_ite | apply State.inc_keeps | apply writeBufs_keeps
    | apply State.finishJob_keeps | apply State.failJob_keeps | apply State.commitBegin_keeps
    | apply State.withInput_keeps | apply State.fillAll_keeps | apply State.deriveContexts_keeps
    | apply State.deriveK1_keeps | apply State.deriveK2_keeps | split | refine KeepsFst.get ‹_› ?_

theorem State.runWrap_keeps {z0 s : State} (j : Job) (hs : Keeps false z0 s) :
    Keeps false z0 (State.runWrap s j) := by
  unfold State.runWrap
  try dsimp only
  with_reducible repeat' first
    | assumption | intro _ | apply keeps_ite | apply State.inc_keeps | apply State.failJob_keeps
    | apply State.withInput_keeps | apply State.draw_keeps | apply State.needRng_keeps | apply State.withSlot_keeps
    | apply State.finishOut_keeps | split | refine KeepsSnd.get ‹_› ?_

theorem State.seekLoad_keeps {qt : Bool} {z0 s : State} (t : Nat) (x : Slot) (job : Option Nat) (hs : Keeps qt z0 s) :
    Keeps qt z0 (State.seekLoad s t x job) := by
  unfold State.seekLoad
  try dsimp only
  with_reducible repeat' first
    | assumption | intro _ | apply State.putSlot_keeps | apply State.jrRequest_keeps | split
    | refine keeps_upd ?_ rfl (fun m => m)

theorem State.unwrapBlob_keeps {z0 s : State} (j : Job) (x : JobIn) (hs : Keeps false z0 s) :
    Keeps false z0 (State.unwrapBlob s j x) := by
  unfold State.unwrapBlob
  try dsimp only
  with_reducible repeat' first
    | assumption | intro _ | apply keeps_ite | apply State.inc_keeps | apply State.putJob_keeps
    | apply State.failJob_keeps | apply State.finishSlots_keeps | apply State.seekLoad_keeps | split
    | refine keeps_upd ?_ rfl (fun m => m)

theorem State.runUnwrap_keeps {z0 s : State} (j : Job) (hs : Keeps false z0 s) :
    Keeps false z0 (State.runUnwrap s j) := by
  unfold State.runUnwrap
  try dsimp only
  with_reducible repeat' first
    | assumption | intro _ | apply keeps_ite | apply State.inc_keeps | apply State.failJob_keeps
    | apply State.withInput_keeps | apply State.withSlot_keeps | apply State.finishSlots_keeps
    | apply State.unwrapBlob_keeps | split

theorem State.runAttest_keeps {z0 s : State} (j : Job) (hs : Keeps false z0 s) :
    Keeps false z0 (State.runAttest s j) := by
  unfold State.runAttest
  try dsimp only
  with_reducible repeat' first
    | assumption | intro _ | apply keeps_ite | apply State.inc_keeps | apply State.withInput_keeps
    | apply State.draw_keeps | apply State.drawMasks_keeps | apply State.needRng_keeps | apply State.withSlot_keeps
    | apply State.finishOut_keeps | split | refine KeepsSnd.get ‹_› ?_ | refine keeps_upd ?_ rfl (fun m => m)

theorem State.blAnswer_keeps {qt : Bool} {z0 s : State} (e : Err) (h : Nat) (hs : Keeps qt z0 s) :
    Keeps qt z0 (State.blAnswer s e h) := by
  unfold State.blAnswer
  try dsimp only
  with_reducible repeat' first
    | assumption | intro _ | apply keeps_ite | apply State.wr_keeps | apply State.clr_keeps | split

theorem State.blobLoad_keeps {qt : Bool} {z0 s : State} (hs : Keeps qt z0 s) :
    Keeps qt z0 (State.blobLoad s) := by
  unfold State.blobLoad
  try dsimp only
  with_reducible repeat' first
    | assumption | intro _ | apply keeps_ite | apply State.inc_keeps | apply State.reserveSlot_keeps
    | apply State.fillSlot_keeps | apply State.bbkLost_keeps | apply State.seekLoad_keeps
    | apply State.blAnswer_keeps | split

theorem State.blCmdWrite_keeps {qt : Bool} {z0 s : State} (v : Word) (hs : Keeps qt z0 s) :
    Keeps qt z0 (State.blCmdWrite s v) := by
  unfold State.blCmdWrite
  try dsimp only
  with_reducible repeat' first
    | assumption | intro _ | apply keeps_ite | apply State.put_keeps | apply State.set_keeps | apply State.putB_keeps
    | apply State.blAnswer_keeps | apply State.blobLoad_keeps | split

theorem State.keepCtlWrite_keeps {qt : Bool} {z0 s : State} (bad : Nat) (v : Word) (hs : Keeps qt z0 s) :
    Keeps qt z0 (State.keepCtlWrite s bad v) := by
  unfold State.keepCtlWrite
  try dsimp only
  with_reducible repeat' first
    | assumption | intro _ | apply keeps_ite | apply State.cntClearN_keeps | apply State.zeroFail_keeps
    | apply State.eraseAllSlots_keeps | split

theorem State.sfevtTake_keeps {qt : Bool} {z0 s : State} (hs : Keeps qt z0 s) :
    Keeps qt z0 (State.sfevtTake s) := by
  unfold State.sfevtTake
  try dsimp only
  with_reducible repeat' first
    | assumption | intro _ | apply State.syncSfevt_keeps | split | refine keeps_upd ?_ rfl (fun m => m)

theorem State.bbkCtlWrite_keeps {qt : Bool} {z0 s : State} (v : Word) (hs : Keeps qt z0 s) :
    Keeps qt z0 (State.bbkCtlWrite s v) := by
  unfold State.bbkCtlWrite
  with_reducible repeat' first
    | assumption | intro _ | apply keeps_ite | apply State.bbkGenerate_keeps | split

theorem execKeepErase_keeps (j : Nat) (bad : Nat) {s : State} {sn : State} (he : execKeepErase j bad s = .next sn) : Keeps false s sn := by
  unfold execKeepErase at he
  injection he with he
  subst he
  have h0 := Keeps.refl false s
  try dsimp only
  with_reducible repeat' first
    | assumption | intro _ | apply State.atUnit_keeps | apply State.runKeepErase_keeps | split

theorem execKeepLoad_keeps (j : Nat) {s : State} {sn : State} (he : execKeepLoad j s = .next sn) : Keeps false s sn := by
  unfold execKeepLoad at he
  injection he with he
  subst he
  have h0 := Keeps.refl false s
  with_reducible repeat' first
    | assumption | intro _ | apply State.atUnit_keeps | apply State.runKeepLoad_keeps | split

theorem execDerive_keeps (j : Nat) {s : State} {sn : State} (he : execDerive j s = .next sn) : Keeps false s sn := by
  unfold execDerive at he
  injection he with he
  subst he
  have h0 := Keeps.refl false s
  with_reducible repeat' first
    | assumption | intro _ | apply State.atUnit_keeps | apply State.runDerive_keeps | split

theorem execWrap_keeps (j : Nat) {s : State} {sn : State} (he : execWrap j s = .next sn) : Keeps false s sn := by
  unfold execWrap at he
  injection he with he
  subst he
  have h0 := Keeps.refl false s
  with_reducible repeat' first
    | assumption | intro _ | apply State.atUnit_keeps | apply State.runWrap_keeps | split

theorem execUnwrap_keeps (j : Nat) {s : State} {sn : State} (he : execUnwrap j s = .next sn) : Keeps false s sn := by
  unfold execUnwrap at he
  injection he with he
  subst he
  have h0 := Keeps.refl false s
  with_reducible repeat' first
    | assumption | intro _ | apply State.atUnit_keeps | apply State.runUnwrap_keeps | split

theorem execAttest_keeps (j : Nat) {s : State} {sn : State} (he : execAttest j s = .next sn) : Keeps false s sn := by
  unfold execAttest at he
  injection he with he
  subst he
  have h0 := Keeps.refl false s
  with_reducible repeat' first
    | assumption | intro _ | apply State.atUnit_keeps | apply State.runAttest_keeps | split

theorem execBlobLoad_keeps {qt : Bool} (r : Req) (v : Word) {s : State} {sn : State} (he : execBlobLoad r v s = .next sn) : Keeps qt s sn := by
  unfold execBlobLoad at he
  injection he with he
  subst he
  have h0 := Keeps.refl qt s
  with_reducible repeat' first
    | assumption | intro _ | apply State.gateW_keeps | apply State.blCmdWrite_keeps | split

theorem execBbkGen_keeps {qt : Bool} (r : Req) (v : Word) {s : State} {sn : State} (he : execBbkGen r v s = .next sn) : Keeps qt s sn := by
  unfold execBbkGen at he
  injection he with he
  subst he
  have h0 := Keeps.refl qt s
  with_reducible repeat' first
    | assumption | intro _ | apply State.gateW_keeps | apply State.bbkCtlWrite_keeps | split

theorem execEraseAll_keeps {qt : Bool} (r : Req) (v : Word) (bad : Nat) {s : State} {sn : State} (he : execEraseAll r v bad s = .next sn) : Keeps qt s sn := by
  unfold execEraseAll at he
  injection he with he
  subst he
  have h0 := Keeps.refl qt s
  with_reducible repeat' first
    | assumption | intro _ | apply State.gateW_keeps | apply State.keepCtlWrite_keeps | split

theorem execKeepCntClr_keeps {qt : Bool} (r : Req) (v : Word) {s : State} {sn : State} (he : execKeepCntClr r v s = .next sn) : Keeps qt s sn := by
  unfold execKeepCntClr at he
  injection he with he
  subst he
  have h0 := Keeps.refl qt s
  with_reducible repeat' first
    | assumption | intro _ | apply State.gateW_keeps | apply State.keepCtlWrite_keeps | split

theorem execKeepCfgLock_keeps {qt : Bool} (r : Req) (v : Word) {s : State} {sn : State} (he : execKeepCfgLock r v s = .next sn) : Keeps qt s sn := by
  unfold execKeepCfgLock at he
  injection he with he
  subst he
  have h0 := Keeps.refl qt s
  with_reducible repeat' first
    | assumption | intro _ | apply State.wrGeneric_keeps | apply State.gateW_keeps | split

theorem execSfevtRead_keeps {qt : Bool} (r : Req) {s : State} {sn : State} (he : execSfevtRead r s = .next sn) : Keeps qt s sn := by
  unfold execSfevtRead at he
  injection he with he
  subst he
  have h0 := Keeps.refl qt s
  with_reducible repeat' first
    | assumption | intro _ | apply State.gateR_keeps | apply State.sfevtTake_keeps | split

end Sys2Proof.Machine
end

