-- ==== Sys2Proof/Laws/KeepsFrames.lean ====
section
/-! SUPPORT. What the operations of frames, fault reaction, Belfry, contexts, microcode and packet processing keep. -/

namespace Sys2Proof.Machine

set_option linter.unusedTactic false
set_option linter.unreachableTactic false
set_option linter.unusedVariables false

theorem State.countDrop_keeps {qt : Bool} {z0 s : State} (port : Nat) (code : Nat) (hs : Keeps qt z0 s) :
    Keeps qt z0 (State.countDrop s port code) := by
  unfold State.countDrop
  with_reducible repeat' first
    | assumption | intro _ | apply keeps_ite | apply State.inc_keeps | split

theorem State.removeFrame_keeps {qt : Bool} {z0 s : State} (id : Nat) (hs : Keeps qt z0 s) :
    Keeps qt z0 (State.removeFrame s id) := by
  unfold State.removeFrame
  try dsimp only
  with_reducible repeat' first
    | assumption | intro _ | refine keeps_upd ?_ rfl (fun m => m) | split

theorem State.putFrame_keeps {qt : Bool} {z0 s : State} (f : FrameSt) (hs : Keeps qt z0 s) :
    Keeps qt z0 (State.putFrame s f) := by
  unfold State.putFrame
  try dsimp only
  with_reducible repeat' first
    | assumption | intro _ | apply keeps_ite | refine keeps_upd ?_ rfl (fun m => m) | split

theorem State.putRecords_keeps {qt : Bool} {z0 s : State} (g : Nat) (l : List (Nat × Nat)) (hs : Keeps qt z0 s) :
    Keeps qt z0 (State.putRecords s g l) := by
  unfold State.putRecords
  try dsimp only
  with_reducible repeat' first
    | assumption | intro _ | refine keeps_upd ?_ rfl (fun m => m) | split

theorem State.withdrawRecord_keeps {qt : Bool} {z0 s : State} (f : FrameSt) (hs : Keeps qt z0 s) :
    Keeps qt z0 (State.withdrawRecord s f) := by
  unfold State.withdrawRecord
  try dsimp only
  with_reducible repeat' first
    | assumption | intro _ | apply State.putRecords_keeps | split

theorem State.dropFrame_keeps {qt : Bool} {z0 s : State} (f : FrameSt) (code : Nat) (hs : Keeps qt z0 s) :
    Keeps qt z0 (State.dropFrame s f code) := by
  unfold State.dropFrame
  with_reducible repeat' first
    | assumption | intro _ | apply State.countDrop_keeps | apply State.removeFrame_keeps
    | apply State.withdrawRecord_keeps | split

theorem State.dropFrames_keeps {qt : Bool} {z0 s : State} (code : Nat) (p : FrameSt → Bool) (hs : Keeps qt z0 s) :
    Keeps qt z0 (State.dropFrames s code p) := by
  unfold State.dropFrames
  try dsimp only
  with_reducible repeat' first
    | assumption | intro _ | apply State.dropFrame_keeps | apply keeps_foldl | apply keeps_foldl_fst | split

theorem State.syncLif_keeps {qt : Bool} {z0 s : State} (p : Nat) (hs : Keeps qt z0 s) :
    Keeps qt z0 (State.syncLif s p) := by
  unfold State.syncLif
  with_reducible repeat' first
    | assumption | intro _ | apply State.level_keeps | split

theorem State.lifPend_keeps {qt : Bool} {z0 s : State} (p : Nat) (f : Fld) (hs : Keeps qt z0 s) :
    Keeps qt z0 (State.lifPend s p f) := by
  unfold State.lifPend
  with_reducible repeat' first
    | assumption | intro _ | apply keeps_ite | apply State.set_keeps | apply State.syncLif_keeps | split

theorem State.setPreempt_keeps {qt : Bool} {z0 s : State} (p : Nat) (b : Bool) (hs : Keeps qt z0 s) :
    Keeps qt z0 (State.setPreempt s p b) := by
  unfold State.setPreempt
  with_reducible repeat' first
    | assumption | intro _ | apply keeps_ite | apply State.putB_keeps | apply State.lifPend_keeps | split

theorem State.setLink_keeps {qt : Bool} {z0 s : State} (p : Nat) (b : Bool) (hs : Keeps qt z0 s) :
    Keeps qt z0 (State.setLink s p b) := by
  unfold State.setLink
  try dsimp only
  with_reducible repeat' first
    | assumption | intro _ | apply keeps_ite | apply State.putB_keeps | apply State.lifPend_keeps
    | apply State.setPreempt_keeps | split

theorem State.linkChange_keeps {qt : Bool} {z0 s : State} (p : Nat) (up : Bool) (aui : Bool) (hs : Keeps qt z0 s) :
    Keeps qt z0 (State.linkChange s p up aui) := by
  unfold State.linkChange
  try dsimp only
  with_reducible repeat' first
    | assumption | intro _ | apply keeps_ite | apply State.setLink_keeps | refine keeps_upd ?_ rfl (fun m => m)
    | split

theorem State.preemptVerified_keeps {qt : Bool} {z0 s : State} (p : Nat) (ok : Bool) (hs : Keeps qt z0 s) :
    Keeps qt z0 (State.preemptVerified s p ok) := by
  unfold State.preemptVerified
  with_reducible repeat' first
    | assumption | intro _ | apply keeps_ite | apply State.setPreempt_keeps | split

theorem State.lifCntClr_keeps {qt : Bool} {z0 s : State} (p : Nat) (hs : Keeps qt z0 s) :
    Keeps qt z0 (State.lifCntClr s p) := by
  unfold State.lifCntClr
  with_reducible repeat' first
    | assumption | intro _ | apply State.cntClearN_keeps | split

theorem State.pctlWrite_keeps {qt : Bool} {z0 s : State} (p : Nat) (v : Word) (hs : Keeps qt z0 s) :
    Keeps qt z0 (State.pctlWrite s p v) := by
  unfold State.pctlWrite
  try dsimp only
  with_reducible repeat' first
    | assumption | intro _ | apply keeps_ite | apply State.putB_keeps | apply State.setLink_keeps
    | apply State.lifCntClr_keeps | split

theorem State.pcfgWrite_keeps {qt : Bool} {z0 s : State} (p : Nat) (v : Word) (hs : Keeps qt z0 s) :
    Keeps qt z0 (State.pcfgWrite s p v) := by
  unfold State.pcfgWrite
  try dsimp only
  with_reducible repeat' first
    | assumption | intro _ | apply keeps_ite | apply State.wrGeneric_keeps | apply State.setPreempt_keeps | split

theorem State.maxfrmWrite_keeps {qt : Bool} {z0 s : State} (p : Nat) (v : Word) (hs : Keeps qt z0 s) :
    Keeps qt z0 (State.maxfrmWrite s p v) := by
  unfold State.maxfrmWrite
  with_reducible repeat' first
    | assumption | intro _ | apply keeps_ite | apply State.wrGeneric_keeps | split

theorem State.qmaxWrite_keeps {qt : Bool} {z0 s : State} (p : Nat) (v : Word) (hs : Keeps qt z0 s) :
    Keeps qt z0 (State.qmaxWrite s p v) := by
  unfold State.qmaxWrite
  with_reducible repeat' first
    | assumption | intro _ | apply keeps_ite | apply State.wrGeneric_keeps | split

theorem State.lifEventWrite_keeps {qt : Bool} {z0 s : State} (p : Nat) (o : Nat) (v : Word) (hs : Keeps qt z0 s) :
    Keeps qt z0 (State.lifEventWrite s p o v) := by
  unfold State.lifEventWrite
  with_reducible repeat' first
    | assumption | intro _ | apply keeps_ite | apply State.wrGeneric_keeps | apply State.syncLif_keeps | split

theorem State.transmit_keeps {qt : Bool} {z0 s : State} (p : Nat) (bs : List Byte) (hs : Keeps qt z0 s) :
    Keeps qt z0 (State.transmit s p bs) := by
  unfold State.transmit
  try dsimp only
  with_reducible repeat' first
    | assumption | intro _ | apply State.count_keeps | apply State.inc_keeps | refine keeps_upd ?_ rfl (fun m => m)
    | split

theorem execPreemptVerify_keeps {qt : Bool} (p : Fin 16) (ok : Bool) {s : State} {sn : State} (he : execPreemptVerify p ok s = .next sn) : Keeps qt s sn := by
  unfold execPreemptVerify at he
  injection he with he
  subst he
  have h0 := Keeps.refl qt s
  with_reducible repeat' first
    | assumption | intro _ | apply State.preemptVerified_keeps | split

theorem execRestartAn_keeps {qt : Bool} (r : Req) (p : Fin 16) (v : Word) {s : State} {sn : State} (he : execRestartAn r p v s = .next sn) : Keeps qt s sn := by
  unfold execRestartAn at he
  injection he with he
  subst he
  have h0 := Keeps.refl qt s
  with_reducible repeat' first
    | assumption | intro _ | apply State.gateW_keeps | apply State.pctlWrite_keeps | split

theorem execLifCntClr_keeps {qt : Bool} (r : Req) (p : Fin 16) (v : Word) {s : State} {sn : State} (he : execLifCntClr r p v s = .next sn) : Keeps qt s sn := by
  unfold execLifCntClr at he
  injection he with he
  subst he
  have h0 := Keeps.refl qt s
  with_reducible repeat' first
    | assumption | intro _ | apply State.gateW_keeps | apply State.pctlWrite_keeps | split

theorem State.disconnect_keeps {qt : Bool} {z0 s : State} (source : Nat) (hs : Keeps qt z0 s) :
    Keeps qt z0 (State.disconnect s source) := by
  unfold State.disconnect
  with_reducible repeat' first
    | assumption | intro _ | apply State.inc_keeps | apply State.report_keeps | split

theorem State.resetBlk_keeps {qt : Bool} {z0 s : State} (b : Blk) (hs : Keeps qt z0 s) :
    Keeps qt z0 (State.resetBlk s b) := by
  unfold State.resetBlk
  with_reducible repeat' first
    | assumption | intro _ | apply State.resetRegs_keeps | split

theorem State.keepFaulted_keeps {qt : Bool} {z0 s : State} (x0 : List Nat) (hs : Keeps qt z0 s) :
    Keeps qt z0 (State.keepFaulted s x0) := by
  induction x0 generalizing s with
  | nil =>
    unfold State.keepFaulted
    with_reducible repeat' first
      | assumption | intro _ | apply keeps_ite | apply State.clr_keeps | split
  | cons a l ih =>
    unfold State.keepFaulted
    with_reducible repeat' first
      | apply ih | assumption | intro _ | apply keeps_ite | apply State.clr_keeps | split

theorem State.resetAea_keeps {z0 s : State} (hs : Keeps false z0 s) :
    Keeps false z0 (State.resetAea s) := by
  unfold State.resetAea
  try dsimp only
  with_reducible repeat' first
    | assumption | intro _ | apply State.faultJobs_keeps | apply State.resetBlk_keeps | apply State.keepFaulted_keeps
    | split

theorem State.resetEngine_keeps {z0 s : State} (e : Nat) (hs : Keeps false z0 s) :
    Keeps false z0 (State.resetEngine s e) := by
  unfold State.resetEngine
  try dsimp only
  with_reducible repeat' first
    | assumption | intro _ | apply State.resetRegs_keeps | apply State.faultJobs_keeps
    | apply State.keepFaulted_keeps | split

theorem State.resetBce_keeps {z0 s : State} (hs : Keeps false z0 s) :
    Keeps false z0 (State.resetBce s) := by
  unfold State.resetBce
  try dsimp only
  with_reducible repeat' first
    | assumption | intro _ | apply State.faultJobs_keeps | split

theorem State.resetHea_keeps {z0 s : State} (hs : Keeps false z0 s) :
    Keeps false z0 (State.resetHea s) := by
  unfold State.resetHea
  try dsimp only
  with_reducible repeat' first
    | assumption | intro _ | apply State.faultJobs_keeps | split

theorem State.resetCts_keeps {z0 s : State} (hs : Keeps false z0 s) :
    Keeps false z0 (State.resetCts s) := by
  unfold State.resetCts
  try dsimp only
  with_reducible repeat' first
    | assumption | intro _ | apply State.faultJobs_keeps | apply State.rotate_keeps | apply State.dropFrames_keeps
    | apply State.resetBlk_keeps | split

theorem State.resetKeep_keeps {z0 s : State} (hs : Keeps false z0 s) :
    Keeps false z0 (State.resetKeep s) := by
  unfold State.resetKeep
  try dsimp only
  with_reducible repeat' first
    | assumption | intro _ | apply State.faultJobs_keeps | apply State.clearSlots_keeps | apply State.resetBlk_keeps
    | split

theorem State.resetDke_keeps {z0 s : State} (hs : Keeps false z0 s) :
    Keeps false z0 (State.resetDke s) := by
  unfold State.resetDke
  try dsimp only
  with_reducible repeat' first
    | assumption | intro _ | apply State.faultJobs_keeps | apply State.resetBlk_keeps
    | refine keeps_upd ?_ rfl (fun m => m) | split

theorem State.resetDkeCh_keeps {z0 s : State} (c : Nat) (hs : Keeps false z0 s) :
    Keeps false z0 (State.resetDkeCh s c) := by
  unfold State.resetDkeCh
  try dsimp only
  with_reducible repeat' first
    | assumption | intro _ | apply State.resetRegs_keeps | apply State.putDke_keeps | apply State.faultJobs_keeps
    | split

theorem State.resetRng_keeps {qt : Bool} {z0 s : State} (hs : Keeps qt z0 s) :
    Keeps qt z0 (State.resetRng s) := by
  unfold State.resetRng
  try dsimp only
  with_reducible repeat' first
    | assumption | intro _ | apply State.put_keeps | apply State.uninstantiate_keeps | apply State.resetBlk_keeps
    | refine keeps_upd ?_ rfl (fun m => m) | split

theorem State.resetIpp_keeps {qt : Bool} {z0 s : State} (hs : Keeps qt z0 s) :
    Keeps qt z0 (State.resetIpp s) := by
  unfold State.resetIpp
  try dsimp only
  with_reducible repeat' first
    | assumption | intro _ | apply State.dropFrames_keeps | apply State.resetBlk_keeps
    | refine keeps_upd ?_ rfl (fun m => m) | split

theorem State.resetLif_keeps {qt : Bool} {z0 s : State} (hs : Keeps qt z0 s) :
    Keeps qt z0 (State.resetLif s) := by
  unfold State.resetLif
  try dsimp only
  with_reducible repeat' first
    | assumption | intro _ | apply State.dropFrames_keeps | apply State.resetBlk_keeps
    | refine keeps_upd ?_ rfl (fun m => m) | split

theorem State.resetPort_keeps {qt : Bool} {z0 s : State} (p : Nat) (hs : Keeps qt z0 s) :
    Keeps qt z0 (State.resetPort s p) := by
  unfold State.resetPort
  try dsimp only
  with_reducible repeat' first
    | assumption | intro _ | apply keeps_ite | apply State.resetRegs_keeps | apply State.dropFrames_keeps
    | refine keeps_upd ?_ rfl (fun m => m) | split

theorem State.resetMsix_keeps {qt : Bool} {z0 s : State} (hs : Keeps qt z0 s) :
    Keeps qt z0 (State.resetMsix s) := by
  unfold State.resetMsix
  try dsimp only
  with_reducible repeat' first
    | assumption | intro _ | refine keeps_upd ?_ rfl (fun m => m) | split

theorem State.resetHost_keeps {z0 s : State} (hs : Keeps false z0 s) :
    Keeps false z0 (State.resetHost s) := by
  unfold State.resetHost
  try dsimp only
  with_reducible repeat' first
    | assumption | intro _ | apply keeps_ite | apply State.resetQueues_keeps | apply State.dkeHolderReset_keeps
    | apply State.endUpdate_keeps | apply State.resetMsix_keeps | split

theorem State.linkDown_keeps {qt : Bool} {z0 s : State} (hs : Keeps qt z0 s) :
    Keeps qt z0 (State.linkDown s) := by
  unfold State.linkDown
  try dsimp only
  with_reducible repeat' first
    | assumption | intro _ | refine keeps_upd ?_ rfl (fun m => m) | split

theorem State.clearSvc_keeps {qt : Bool} {z0 s : State} (hs : Keeps qt z0 s) :
    Keeps qt z0 (State.clearSvc s) := by
  unfold State.clearSvc
  try dsimp only
  with_reducible repeat' first
    | assumption | intro _ | refine keeps_upd ?_ rfl (fun m => m) | split

theorem State.resetSvc_keeps {z0 s : State} (hs : Keeps false z0 s) :
    Keeps false z0 (State.resetSvc s) := by
  unfold State.resetSvc
  try dsimp only
  with_reducible repeat' first
    | assumption | intro _ | apply State.resetQueues_keeps | apply State.dkeHolderReset_keeps
    | apply State.clearSvc_keeps | refine keeps_upd ?_ rfl (fun m => m) | split

theorem State.loseBlock_keeps {z0 s : State} (b : Nat) (hs : Keeps false z0 s) :
    Keeps false z0 (State.loseBlock s b) := by
  unfold State.loseBlock
  try dsimp only
  with_reducible repeat' first
    | assumption | intro _ | apply State.resetQueues_keeps | apply State.resetBlk_keeps | apply State.resetAea_keeps
    | apply State.resetBce_keeps | apply State.resetHea_keeps | apply State.resetCts_keeps
    | apply State.resetKeep_keeps | apply State.resetDke_keeps | apply State.resetRng_keeps
    | apply State.resetIpp_keeps | apply State.resetLif_keeps | apply State.resetHost_keeps
    | apply State.linkDown_keeps | apply State.resetSvc_keeps | split

theorem State.blockReset_keeps {z0 s : State} (b : Nat) (hs : Keeps false z0 s) :
    Keeps false z0 (State.blockReset s b) := by
  unfold State.blockReset
  with_reducible repeat' first
    | assumption | intro _ | apply keeps_ite | apply State.put_keeps | apply State.disconnect_keeps
    | apply State.loseBlock_keeps | split

theorem State.blockResets_keeps {z0 s : State} (m : Nat) (hs : Keeps false z0 s) :
    Keeps false z0 (State.blockResets s m) := by
  unfold State.blockResets
  try dsimp only
  with_reducible repeat' first
    | assumption | intro _ | apply keeps_ite | apply State.blockReset_keeps | apply keeps_foldl
    | apply keeps_foldl_fst | split

theorem State.reconnect_keeps {qt : Bool} {z0 s : State} (b : Nat) (hs : Keeps qt z0 s) :
    Keeps qt z0 (State.reconnect s b) := by
  unfold State.reconnect
  try dsimp only
  with_reducible repeat' first
    | assumption | intro _ | apply keeps_ite | apply State.put_keeps | apply State.rngRelease_keeps | split

theorem State.mbxRestart_keeps {qt : Bool} {z0 s : State} (n : Nat) (hs : Keeps qt z0 s) :
    Keeps qt z0 (State.mbxRestart s n) := by
  unfold State.mbxRestart
  try dsimp only
  with_reducible repeat' first
    | assumption | intro _ | apply keeps_ite | apply State.wr_keeps | apply State.set_keeps | apply State.clr_keeps
    | apply State.inc_keeps | split

theorem State.smbRestart_keeps {qt : Bool} {z0 s : State} (hs : Keeps qt z0 s) :
    Keeps qt z0 (State.smbRestart s) := by
  unfold State.smbRestart
  try dsimp only
  with_reducible repeat' first
    | assumption | intro _ | apply keeps_ite | refine keeps_upd ?_ rfl (fun m => m) | split

theorem State.resetCupola_keeps {z0 s : State} (hs : Keeps false z0 s) :
    Keeps false z0 (State.resetCupola s) := by
  unfold State.resetCupola
  try dsimp only
  with_reducible repeat' first
    | assumption | intro _ | apply State.dkeHolderReset_keeps | apply State.endUpdate_keeps
    | apply State.mbxRestart_keeps | apply State.smbRestart_keeps | refine keeps_upd ?_ rfl (fun m => m) | split

theorem State.clearCore_keeps {q : Bool} {s0 s : State} (hs : Keeps q s0 s) : Keeps q s0 (State.clearCore s) :=
  keeps_upd hs rfl (fun _ => ⟨List.nodup_nil, fun _ h => nomatch h⟩)

theorem State.systemReset_keeps {z0 s : State} (cause : Nat) (hs : Keeps false z0 s) :
    Keeps false z0 (State.systemReset s cause) := by
  unfold State.systemReset
  try dsimp only
  with_reducible repeat' first
    | assumption | intro _ | apply keeps_ite | apply State.wr_keeps | apply State.resetRegs_keeps
    | apply State.endUpdate_keeps | apply State.clearCore_keeps | split

theorem State.powerOff_keeps {z0 s : State} (hs : Keeps false z0 s) : Keeps false z0 (State.powerOff s) := by
  have h := State.clearCore_keeps (State.resetRegs_keeps poKinds (fun _ => true) hs)
  have h2 := keeps_of_mem h id (b := []) (c := []) (fun _ => rfl) (fun _ => rfl)
  exact keeps_upd h2 rfl (fun _ => ⟨List.nodup_nil, fun _ h => nomatch h⟩)

theorem execBlockReset_keeps (r : Req) (v : Word) {s : State} {sn : State} (he : execBlockReset r v s = .next sn) : Keeps false s sn := by
  unfold execBlockReset at he
  injection he with he
  subst he
  have h0 := Keeps.refl false s
  with_reducible repeat' first
    | assumption | intro _ | apply State.gateW_keeps | apply State.blockResets_keeps | split

theorem execHostReset_keeps (c : HostReset) {s : State} {sn : State} (he : execHostReset c s = .next sn) : Keeps false s sn := by
  unfold execHostReset at he
  injection he with he
  subst he
  have h0 := Keeps.refl false s
  with_reducible repeat' first
    | assumption | intro _ | apply keeps_ite | apply State.disconnect_keeps | apply State.resetHost_keeps
    | apply State.linkDown_keeps | split

theorem execSvcReset_keeps {s : State} {sn : State} (he : execSvcReset s = .next sn) : Keeps false s sn := by
  unfold execSvcReset at he
  injection he with he
  subst he
  have h0 := Keeps.refl false s
  with_reducible repeat' first
    | assumption | intro _ | apply keeps_ite | apply State.blockReset_keeps | split

theorem execSystemReset_keeps {s : State} {sn : State} (he : execSystemReset s = .next sn) : Keeps false s sn := by
  unfold execSystemReset at he
  injection he with he
  subst he
  have h0 := Keeps.refl false s
  try dsimp only
  with_reducible repeat' first
    | assumption | intro _ | apply keeps_ite | apply State.systemReset_keeps | refine keeps_upd ?_ rfl (fun m => m)
    | split

theorem execPwrOkFall_keeps {s : State} {sn : State} (he : execPwrOkFall s = .next sn) : Keeps false s sn := by
  unfold execPwrOkFall at he
  injection he with he
  subst he
  have h0 := Keeps.refl false s
  with_reducible repeat' first
    | assumption | intro _ | apply keeps_ite | apply State.powerOff_keeps | split

theorem State.boostExit_keeps {qt : Bool} {z0 s : State} (cause : Nat) (hs : Keeps qt z0 s) :
    Keeps qt z0 (State.boostExit s cause) := by
  unfold State.boostExit
  try dsimp only
  with_reducible repeat' first
    | assumption | intro _ | apply keeps_ite | apply State.put_keeps | apply State.clr_keeps | apply State.putB_keeps
    | apply State.count_keeps | apply State.raise_keeps | split | refine keeps_upd ?_ rfl (fun m => m)

theorem State.undebug_keeps {z0 s : State} (withdrawn : Nat) (hs : Keeps false z0 s) :
    Keeps false z0 (State.undebug s withdrawn) := by
  unfold State.undebug
  try dsimp only
  with_reducible repeat' first
    | assumption | intro _ | apply keeps_ite | apply State.blockReset_keeps | apply State.resetCupola_keeps | split

theorem State.endSession_keeps {z0 s : State} (hs : Keeps false z0 s) :
    Keeps false z0 (State.endSession s) := by
  unfold State.endSession
  try dsimp only
  with_reducible repeat' first
    | assumption | intro _ | apply keeps_ite | apply State.wr_keeps | apply State.raise_keeps
    | apply State.undebug_keeps | split

theorem State.openSession_keeps {z0 s : State} (g : Grant) (hs : Keeps false z0 s) :
    Keeps false z0 (State.openSession s g) := by
  unfold State.openSession
  try dsimp only
  with_reducible repeat' first
    | assumption | intro _ | apply keeps_ite | apply State.wr_keeps | apply State.raise_keeps
    | apply State.undebug_keeps | refine keeps_upd ?_ rfl (fun m => m) | split

theorem State.takeMsg_keeps {qt : Bool} {z0 s : State} (m : DWord) (hs : Keeps qt z0 s) :
    Keeps qt z0 (State.takeMsg s m) := by
  unfold State.takeMsg
  try dsimp only
  with_reducible repeat' first
    | assumption | intro _ | apply keeps_ite | apply State.set_keeps | apply State.level_keeps
    | refine keeps_upd ?_ rfl (fun m => m) | split

theorem State.enter_keeps {qt : Bool} {z0 s : State} (m : DWord) (rtag : Nat) (cause : Bool) (conseq : Bool) (level : Nat) (hs : Keeps qt z0 s) :
    Keeps qt z0 (State.enter s m rtag cause conseq level) := by
  unfold State.enter
  try dsimp only
  with_reducible repeat' first
    | assumption | intro _ | apply keeps_ite | apply State.set_keeps | apply State.inc_keeps
    | apply State.level_keeps | refine keeps_upd ?_ rfl (fun m => m) | split

theorem State.latch_keeps {qt : Bool} {z0 s : State} (m : DWord) (rtag : Nat) (level : Nat) (hs : Keeps qt z0 s) :
    Keeps qt z0 (State.latch s m rtag level) := by
  unfold State.latch
  try dsimp only
  with_reducible repeat' first
    | assumption | intro _ | apply keeps_ite | apply State.wr_keeps | apply State.put_keeps | apply State.set_keeps
    | apply State.level_keeps | apply State.wr64_keeps | split

theorem State.kindEvent_keeps {qt : Bool} {z0 s : State} (kind : Nat) (level : Nat) (hs : Keeps qt z0 s) :
    Keeps qt z0 (State.kindEvent s kind level) := by
  unfold State.kindEvent
  with_reducible repeat' first
    | assumption | intro _ | apply keeps_ite | apply State.raise_keeps | split

theorem State.quiesce_keeps {qt : Bool} {z0 s : State} (hs : Keeps qt z0 s) :
    Keeps qt z0 (State.quiesce s) := by
  unfold State.quiesce
  with_reducible repeat' first
    | assumption | intro _ | apply State.set_keeps | split

theorem State.resetSource_keeps {z0 s : State} (n : Nat) (hs : Keeps false z0 s) :
    Keeps false z0 (State.resetSource s n) := by
  unfold State.resetSource
  try dsimp only
  with_reducible repeat' first
    | assumption | intro _ | apply keeps_ite | apply State.faultJobs_keeps | apply State.disconnect_keeps
    | apply State.resetEngine_keeps | apply State.resetDkeCh_keeps | apply State.resetPort_keeps
    | apply State.blockReset_keeps | apply State.resetCupola_keeps | apply State.systemReset_keeps | split

theorem State.eraseEverything_keeps {qt : Bool} {z0 s : State} (slots : Bool) (hs : Keeps qt z0 s) :
    Keeps qt z0 (State.eraseEverything s slots) := by
  unfold State.eraseEverything
  with_reducible repeat' first
    | assumption | intro _ | apply keeps_ite | apply State.rngReinstantiate_keeps | apply State.eraseAllSlots_keeps
    | split

theorem State.lockDown_keeps {z0 s : State} (m : DWord) (hs : Keeps false z0 s) :
    Keeps false z0 (State.lockDown s m) := by
  unfold State.lockDown
  try dsimp only
  with_reducible repeat' first
    | assumption | intro _ | apply State.wr_keeps | apply State.systemReset_keeps
    | refine keeps_upd ?_ rfl (fun m => m) | split

theorem State.act_keeps {z0 s : State} (l0 : Nat) (l : Nat) (m : DWord) (vigil : Bool) (hs : Keeps false z0 s) :
    Keeps false z0 (State.act s l0 l m vigil) := by
  unfold State.act
  try dsimp only
  with_reducible repeat' first
    | assumption | intro _ | apply keeps_ite | apply State.bbkDestroy_keeps | apply State.rotate_keeps
    | apply State.boostExit_keeps | apply State.endSession_keeps | apply State.quiesce_keeps
    | apply State.resetSource_keeps | apply State.eraseEverything_keeps | apply State.lockDown_keeps
    | refine keeps_upd ?_ rfl (fun m => m) | split

theorem State.openWindow_keeps {qt : Bool} {z0 s : State} (hs : Keeps qt z0 s) :
    Keeps qt z0 (State.openWindow s) := by
  unfold State.openWindow
  try dsimp only
  with_reducible repeat' first
    | assumption | intro _ | refine keeps_upd ?_ rfl (fun m => m) | split

theorem State.belfryReaction_keeps {z0 s : State} (n : Nat) (hs : Keeps false z0 s) :
    Keeps false z0 (State.belfryReaction s n) := by
  unfold State.belfryReaction
  try dsimp only
  with_reducible repeat' first
    | assumption | intro _ | apply State.tamperJobs_keeps | apply State.tamperDke_keeps
    | apply State.dropFrames_keeps | split

theorem State.belfryPart_keeps {z0 s : State} (m : DWord) (level : Nat) (hs : Keeps false z0 s) :
    Keeps false z0 (State.belfryPart s m level) := by
  unfold State.belfryPart
  with_reducible repeat' first
    | assumption | intro _ | apply keeps_ite | apply State.belfryReaction_keeps | split

theorem State.beginReaction_keeps {qt : Bool} {z0 s : State} (level : Nat) (hs : Keeps qt z0 s) :
    Keeps qt z0 (State.beginReaction s level) := by
  unfold State.beginReaction
  try dsimp only
  with_reducible repeat' first
    | assumption | intro _ | apply State.put_keeps | apply State.set_keeps | apply State.openWindow_keeps | split

theorem State.faultReceived_keeps {z0 s : State} (m : DWord) (hs : Keeps false z0 s) :
    Keeps false z0 (State.faultReceived s m) := by
  unfold State.faultReceived
  try dsimp only
  with_reducible repeat' first
    | assumption | intro _ | apply keeps_ite | apply State.put_keeps | apply State.raise_keeps
    | apply State.takeMsg_keeps | apply State.enter_keeps | apply State.latch_keeps | apply State.kindEvent_keeps
    | apply State.act_keeps | apply State.openWindow_keeps | apply State.belfryPart_keeps
    | apply State.beginReaction_keeps | refine keeps_upd ?_ rfl (fun m => m) | split

theorem State.reactErase_keeps {z0 s : State} (hs : Keeps false z0 s) :
    Keeps false z0 (State.reactErase s) := by
  unfold State.reactErase
  try dsimp only
  with_reducible repeat' first
    | assumption | intro _ | apply keeps_ite | apply State.put_keeps | apply State.raise_keeps
    | apply State.act_keeps | apply State.openWindow_keeps | apply State.beginReaction_keeps | split

theorem State.reactionEnd_keeps {z0 s : State} (hs : Keeps false z0 s) :
    Keeps false z0 (State.reactionEnd s) := by
  unfold State.reactionEnd
  try dsimp only
  with_reducible repeat' first
    | assumption | intro _ | apply keeps_ite | apply State.clr_keeps | apply State.raise_keeps
    | apply State.openSession_keeps | split

theorem State.resumeQueues_keeps {qt : Bool} {z0 s : State} (hs : Keeps qt z0 s) :
    Keeps qt z0 (State.resumeQueues s) := by
  unfold State.resumeQueues
  try dsimp only
  with_reducible repeat' first
    | assumption | intro _ | apply State.resumeKick_keeps | apply State.issueWanted_keeps | apply keeps_foldl
    | apply keeps_foldl_fst | split

theorem State.fltCtlWrite_keeps {qt : Bool} {z0 s : State} (r : Req) (v : Word) (hs : Keeps qt z0 s) :
    Keeps qt z0 (State.fltCtlWrite s r v) := by
  unfold State.fltCtlWrite
  try dsimp only
  with_reducible repeat' first
    | assumption | intro _ | apply keeps_ite | apply State.wr_keeps | apply State.clr_keeps
    | apply State.cntClearN_keeps | apply State.denied_keeps | apply State.resumeQueues_keeps | split

theorem State.fltStatWrite_keeps {qt : Bool} {z0 s : State} (v : Word) (hs : Keeps qt z0 s) :
    Keeps qt z0 (State.fltStatWrite s v) := by
  unfold State.fltStatWrite
  try dsimp only
  with_reducible repeat' first
    | assumption | intro _ | apply State.wrGeneric_keeps | apply State.level_keeps | split

theorem State.fltCfgWrite_keeps {qt : Bool} {z0 s : State} (v : Word) (hs : Keeps qt z0 s) :
    Keeps qt z0 (State.fltCfgWrite s v) := by
  unfold State.fltCfgWrite
  try dsimp only
  with_reducible repeat' first
    | assumption | intro _ | apply keeps_ite | apply State.wrGeneric_keeps | split

theorem State.firstClear_keeps {qt : Bool} {z0 s : State} (v : Word) (hs : Keeps qt z0 s) :
    Keeps qt z0 (State.firstClear s v) := by
  unfold State.firstClear
  try dsimp only
  with_reducible repeat' first
    | assumption | intro _ | apply keeps_ite | apply State.wr_keeps | apply State.clr_keeps | apply State.level_keeps
    | split

theorem State.stickyClear_keeps {qt : Bool} {z0 s : State} (v : Word) (hs : Keeps qt z0 s) :
    Keeps qt z0 (State.stickyClear s v) := by
  unfold State.stickyClear
  try dsimp only
  with_reducible repeat' first
    | assumption | intro _ | apply State.wr_keeps | split

theorem State.fltMapWrite_keeps {qt : Bool} {z0 s : State} (k : Nat) (v : Word) (hs : Keeps qt z0 s) :
    Keeps qt z0 (State.fltMapWrite s k v) := by
  unfold State.fltMapWrite
  try dsimp only
  with_reducible repeat' first
    | assumption | intro _ | apply keeps_ite | apply State.put_keeps | apply State.set_keeps | split

theorem State.msgLatch_keeps {qt : Bool} {z0 s : State} (hs : Keeps qt z0 s) :
    Keeps qt z0 (State.msgLatch s) := by
  unfold State.msgLatch
  try dsimp only
  with_reducible repeat' first
    | assumption | intro _ | split | refine keeps_upd ?_ rfl (fun m => m)

theorem State.msgPop_keeps {qt : Bool} {z0 s : State} (hs : Keeps qt z0 s) :
    Keeps qt z0 (State.msgPop s) := by
  unfold State.msgPop
  try dsimp only
  with_reducible repeat' first
    | assumption | intro _ | split | refine keeps_upd ?_ rfl (fun m => m)

theorem State.reRaise_keeps {qt : Bool} {z0 s : State} (x0 : List Nat) (hs : Keeps qt z0 s) :
    Keeps qt z0 (State.reRaise s x0) := by
  induction x0 generalizing s with
  | nil =>
    unfold State.reRaise
    with_reducible repeat' first
      | assumption | intro _ | apply keeps_ite | apply State.raise_keeps | split
  | cons a l ih =>
    unfold State.reRaise
    with_reducible repeat' first
      | apply ih | assumption | intro _ | apply keeps_ite | apply State.raise_keeps | split

theorem State.pendClear_keeps {qt : Bool} {z0 s : State} (w : Nat) (v : Word) (hs : Keeps qt z0 s) :
    Keeps qt z0 (State.pendClear s w v) := by
  unfold State.pendClear
  try dsimp only
  with_reducible repeat' first
    | assumption | intro _ | apply State.wr_keeps | apply State.reRaise_keeps | split

theorem State.maskWrite_keeps {qt : Bool} {z0 s : State} (w : Nat) (v : Word) (hs : Keeps qt z0 s) :
    Keeps qt z0 (State.maskWrite s w v) := by
  unfold State.maskWrite
  try dsimp only
  with_reducible repeat' first
    | assumption | intro _ | apply State.wr_keeps | apply State.evcDeliver_keeps | apply countIntn_keeps
    | apply keeps_foldl | apply keeps_foldl_fst | split

theorem State.routeWrite_keeps {qt : Bool} {z0 s : State} (o : Nat) (v : Word) (hs : Keeps qt z0 s) :
    Keeps qt z0 (State.routeWrite s o v) := by
  unfold State.routeWrite
  with_reducible repeat' first
    | assumption | intro _ | apply State.wrGeneric_keeps | apply countIntn_keeps | split

theorem State.evcCtlWrite_keeps {qt : Bool} {z0 s : State} (v : Word) (hs : Keeps qt z0 s) :
    Keeps qt z0 (State.evcCtlWrite s v) := by
  unfold State.evcCtlWrite
  with_reducible repeat' first
    | assumption | intro _ | apply keeps_ite | apply State.cntClearN_keeps | split

theorem State.sendHeld_keeps {qt : Bool} {z0 s : State} (hs : Keeps qt z0 s) :
    Keeps qt z0 (State.sendHeld s) := by
  unfold State.sendHeld
  try dsimp only
  with_reducible repeat' first
    | assumption | intro _ | apply State.count_keeps | refine keeps_upd ?_ rfl (fun m => m) | split

theorem State.msixUnmask_keeps {qt : Bool} {z0 s : State} (fn : Nat) (v : MsixUnmask) (hs : Keeps qt z0 s) :
    Keeps qt z0 (State.msixUnmask s fn v) := by
  unfold State.msixUnmask
  try dsimp only
  with_reducible repeat' first
    | assumption | intro _ | apply keeps_ite | apply State.sendHeld_keeps | split
    | refine keeps_upd ?_ rfl (fun m => m)

theorem execFaultMessage_keeps (m : DWord) {s : State} {sn : State} (he : execFaultMessage m s = .next sn) : Keeps false s sn := by
  unfold execFaultMessage at he
  injection he with he
  subst he
  have h0 := Keeps.refl false s
  with_reducible repeat' first
    | assumption | intro _ | apply keeps_ite | apply State.faultReceived_keeps | split

theorem execReactionEnd_keeps {s : State} {sn : State} (he : execReactionEnd s = .next sn) : Keeps false s sn := by
  unfold execReactionEnd at he
  injection he with he
  subst he
  have h0 := Keeps.refl false s
  with_reducible repeat' first
    | assumption | intro _ | apply State.reactionEnd_keeps | split

theorem execFltResume_keeps {qt : Bool} (r : Req) {s : State} {sn : State} (he : execFltResume r s = .next sn) : Keeps qt s sn := by
  unfold execFltResume at he
  injection he with he
  subst he
  have h0 := Keeps.refl qt s
  with_reducible repeat' first
    | assumption | intro _ | apply State.gateW_keeps | apply State.fltCtlWrite_keeps | split

theorem execLdClr_keeps {qt : Bool} (r : Req) {s : State} {sn : State} (he : execLdClr r s = .next sn) : Keeps qt s sn := by
  unfold execLdClr at he
  injection he with he
  subst he
  have h0 := Keeps.refl qt s
  with_reducible repeat' first
    | assumption | intro _ | apply State.gateW_keeps | apply State.fltCtlWrite_keeps | split

theorem execFltCntClr_keeps {qt : Bool} (r : Req) {s : State} {sn : State} (he : execFltCntClr r s = .next sn) : Keeps qt s sn := by
  unfold execFltCntClr at he
  injection he with he
  subst he
  have h0 := Keeps.refl qt s
  with_reducible repeat' first
    | assumption | intro _ | apply State.gateW_keeps | apply State.fltCtlWrite_keeps | split

theorem execFltCfgLock_keeps {qt : Bool} (r : Req) (v : Word) {s : State} {sn : State} (he : execFltCfgLock r v s = .next sn) : Keeps qt s sn := by
  unfold execFltCfgLock at he
  injection he with he
  subst he
  have h0 := Keeps.refl qt s
  with_reducible repeat' first
    | assumption | intro _ | apply State.gateW_keeps | apply State.fltCfgWrite_keeps | split

theorem execFirstClear_keeps {qt : Bool} (r : Req) {s : State} {sn : State} (he : execFirstClear r s = .next sn) : Keeps qt s sn := by
  unfold execFirstClear at he
  injection he with he
  subst he
  have h0 := Keeps.refl qt s
  with_reducible repeat' first
    | assumption | intro _ | apply State.gateW_keeps | apply State.firstClear_keeps | split

theorem execStickyClear_keeps {qt : Bool} (r : Req) (v : Word) {s : State} {sn : State} (he : execStickyClear r v s = .next sn) : Keeps qt s sn := by
  unfold execStickyClear at he
  injection he with he
  subst he
  have h0 := Keeps.refl qt s
  with_reducible repeat' first
    | assumption | intro _ | apply State.gateW_keeps | apply State.stickyClear_keeps | split

theorem execFltMapWrite_keeps {qt : Bool} (r : Req) (k : Fin 32) (v : Word) {s : State} {sn : State} (he : execFltMapWrite r k v s = .next sn) : Keeps qt s sn := by
  unfold execFltMapWrite at he
  injection he with he
  subst he
  have h0 := Keeps.refl qt s
  with_reducible repeat' first
    | assumption | intro _ | apply State.gateW_keeps | apply State.fltMapWrite_keeps | split

theorem execMsgLatch_keeps {qt : Bool} (r : Req) {s : State} {sn : State} (he : execMsgLatch r s = .next sn) : Keeps qt s sn := by
  unfold execMsgLatch at he
  injection he with he
  subst he
  have h0 := Keeps.refl qt s
  with_reducible repeat' first
    | assumption | intro _ | apply State.gateR_keeps | apply State.msgLatch_keeps | split

theorem execMsgPop_keeps {qt : Bool} (r : Req) {s : State} {sn : State} (he : execMsgPop r s = .next sn) : Keeps qt s sn := by
  unfold execMsgPop at he
  injection he with he
  subst he
  have h0 := Keeps.refl qt s
  with_reducible repeat' first
    | assumption | intro _ | apply State.gateR_keeps | apply State.msgPop_keeps | split

theorem execEventRise_keeps {qt : Bool} (n : Fin 256) {s : State} {sn : State} (he : execEventRise n s = .next sn) : Keeps qt s sn := by
  unfold execEventRise at he
  injection he with he
  subst he
  have h0 := Keeps.refl qt s
  with_reducible repeat' first
    | assumption | intro _ | apply keeps_ite | apply State.raise_keeps | split

theorem execEvcPendClear_keeps {qt : Bool} (r : Req) (w : Fin 8) (v : Word) {s : State} {sn : State} (he : execEvcPendClear r w v s = .next sn) : Keeps qt s sn := by
  unfold execEvcPendClear at he
  injection he with he
  subst he
  have h0 := Keeps.refl qt s
  with_reducible repeat' first
    | assumption | intro _ | apply State.gateW_keeps | apply State.pendClear_keeps | split

theorem execEvcMaskWrite_keeps {qt : Bool} (r : Req) (w : Fin 8) (v : Word) {s : State} {sn : State} (he : execEvcMaskWrite r w v s = .next sn) : Keeps qt s sn := by
  unfold execEvcMaskWrite at he
  injection he with he
  subst he
  have h0 := Keeps.refl qt s
  with_reducible repeat' first
    | assumption | intro _ | apply State.gateW_keeps | apply State.maskWrite_keeps | split

theorem execEvcCntClr_keeps {qt : Bool} (r : Req) (v : Word) {s : State} {sn : State} (he : execEvcCntClr r v s = .next sn) : Keeps qt s sn := by
  unfold execEvcCntClr at he
  injection he with he
  subst he
  have h0 := Keeps.refl qt s
  with_reducible repeat' first
    | assumption | intro _ | apply State.gateW_keeps | apply State.evcCtlWrite_keeps | split

theorem execMsixUnmask_keeps {qt : Bool} (fn : Fin 32) (v : MsixUnmask) {s : State} {sn : State} (he : execMsixUnmask fn v s = .next sn) : Keeps qt s sn := by
  unfold execMsixUnmask at he
  injection he with he
  subst he
  have h0 := Keeps.refl qt s
  with_reducible repeat' first
    | assumption | intro _ | apply State.msixUnmask_keeps | split

theorem State.alarmOut_keeps {qt : Bool} {z0 s : State} (n : Nat) (level : Nat) (addr : Nat) (hs : Keeps qt z0 s) :
    Keeps qt z0 (State.alarmOut s n level addr) := by
  unfold State.alarmOut
  try dsimp only
  with_reducible repeat' first
    | assumption | intro _ | apply State.put_keeps | apply State.inc_keeps | apply State.raise_keeps
    | apply State.report_keeps | split

theorem State.alarmLimit_keeps {qt : Bool} {z0 s : State} (n : Nat) (k : State → State) (h_k : ∀ (a0 : State), Keeps qt z0 a0 → Keeps qt z0 (k a0)) (hs : Keeps qt z0 s) :
    Keeps qt z0 (State.alarmLimit s n k) := by
  unfold State.alarmLimit
  try dsimp only
  with_reducible repeat' first
    | assumption | intro _ | apply h_k | apply keeps_ite | refine keeps_upd ?_ rfl (fun m => m) | split

theorem State.alarmOnce_keeps {qt : Bool} {z0 s : State} (n : Nat) (dets : Nat) (windowed : Bool) (noLive : Bool) (hs : Keeps qt z0 s) :
    Keeps qt z0 (State.alarmOnce s n dets windowed noLive) := by
  unfold State.alarmOnce
  try dsimp only
  with_reducible repeat' first
    | assumption | intro _ | apply State.alarmOut_keeps | apply State.alarmLimit_keeps | split

theorem State.filterEvent_keeps {qt : Bool} {z0 s : State} (n : Nat) (k : State → State) (h_k : ∀ (a0 : State), Keeps qt z0 a0 → Keeps qt z0 (k a0)) (hs : Keeps qt z0 s) :
    Keeps qt z0 (State.filterEvent s n k) := by
  unfold State.filterEvent
  try dsimp only
  with_reducible repeat' first
    | assumption | intro _ | apply h_k | apply keeps_ite | apply State.inc_keeps | apply State.raise_keeps
    | refine keeps_upd ?_ rfl (fun m => m) | split

theorem State.sourceEvent_keeps {qt : Bool} {z0 s : State} (n : Nat) (k : Bool → State → State) (h_k : ∀ (a0 : Bool) (a1 : State), Keeps qt z0 a1 → Keeps qt z0 (k a0 a1)) (hs : Keeps qt z0 s) :
    Keeps qt z0 (State.sourceEvent s n k) := by
  unfold State.sourceEvent
  with_reducible repeat' first
    | assumption | intro _ | apply h_k | apply keeps_ite | apply State.filterEvent_keeps | split

theorem State.noteAlarm_keeps {qt : Bool} {z0 s : State} (n : Nat) (d : Nat) (hs : Keeps qt z0 s) :
    Keeps qt z0 (State.noteAlarm s n d).1 := by
  unfold State.noteAlarm
  try dsimp only
  with_reducible repeat' first
    | assumption | intro _ | apply keeps_ite | apply KeepsFst.ite | refine keeps_upd ?_ rfl (fun m => m) | split

theorem State.detAlarm_keeps {qt : Bool} {z0 s : State} (n : Nat) (d : Nat) (k : State → Nat → Bool → State) (h_k : ∀ (a0 : State) (a1 : Nat) (a2 : Bool), Keeps qt z0 a0 → Keeps qt z0 (k a0 a1 a2)) (hs : Keeps qt z0 s) :
    Keeps qt z0 (State.detAlarm s n d k) := by
  unfold State.detAlarm
  try dsimp only
  with_reducible repeat' first
    | assumption | intro _ | apply h_k | apply keeps_ite | apply State.sourceEvent_keeps
    | apply State.noteAlarm_keeps | split | refine KeepsFst.get ‹_› ?_

theorem State.detectorAlarm_keeps {qt : Bool} {z0 s : State} (n : Nat) (d : Nat) (hs : Keeps qt z0 s) :
    Keeps qt z0 (State.detectorAlarm s n d) := by
  unfold State.detectorAlarm
  try dsimp only
  with_reducible repeat' first
    | assumption | intro _ | apply State.alarmOnce_keeps | apply State.detAlarm_keeps | split

theorem State.disagree_keeps {qt : Bool} {z0 s : State} (n : Nat) (d : Nat) (hs : Keeps qt z0 s) :
    Keeps qt z0 (State.disagree s n d) := by
  unfold State.disagree
  try dsimp only
  with_reducible repeat' first
    | assumption | intro _ | apply keeps_ite | apply State.put_keeps | apply State.inc_keeps
    | apply State.raise_keeps | refine keeps_upd ?_ rfl (fun m => m) | split

theorem State.liveChanged_keeps {qt : Bool} {z0 s : State} (n0 : Nat → Nat) (hs : Keeps qt z0 s) :
    Keeps qt z0 (State.liveChanged s n0) := by
  unfold State.liveChanged
  try dsimp only
  with_reducible repeat' first
    | assumption | intro _ | apply keeps_ite | apply State.raise_keeps | apply State.alarmOnce_keeps
    | apply keeps_foldl | apply keeps_foldl_fst | refine keeps_upd ?_ rfl (fun m => m) | split

theorem State.declareFaulty_keeps {qt : Bool} {z0 s : State} (m : Nat) (hs : Keeps qt z0 s) :
    Keeps qt z0 (State.declareFaulty s m) := by
  unfold State.declareFaulty
  try dsimp only
  with_reducible repeat' first
    | assumption | intro _ | apply keeps_ite | apply State.wr_keeps | apply State.raise_keeps
    | apply State.liveChanged_keeps | split

theorem State.syncTests_keeps {qt : Bool} {z0 s : State} (hs : Keeps qt z0 s) :
    Keeps qt z0 (State.syncTests s) := by
  unfold State.syncTests
  try dsimp only
  with_reducible repeat' first
    | assumption | intro _ | apply State.putB_keeps | apply State.settleFilter_keeps | split

theorem State.testResult_keeps {qt : Bool} {z0 s : State} (n : Nat) (d : Nat) (pass : Bool) (hs : Keeps qt z0 s) :
    Keeps qt z0 (State.testResult s n d pass) := by
  unfold State.testResult
  try dsimp only
  with_reducible repeat' first
    | assumption | intro _ | apply keeps_ite | apply State.put_keeps | apply State.set_keeps
    | apply State.almanac_keeps | apply State.liveChanged_keeps | apply State.declareFaulty_keeps
    | apply State.syncTests_keeps | split | refine keeps_upd ?_ rfl (fun m => m)

theorem State.selftestReq_keeps {qt : Bool} {z0 s : State} (hs : Keeps qt z0 s) :
    Keeps qt z0 (State.selftestReq s) := by
  unfold State.selftestReq
  try dsimp only
  with_reducible repeat' first
    | assumption | intro _ | apply keeps_ite | apply State.set_keeps | apply State.syncTests_keeps
    | refine keeps_upd ?_ rfl (fun m => m) | split

theorem State.periodicTest_keeps {qt : Bool} {z0 s : State} (hs : Keeps qt z0 s) :
    Keeps qt z0 (State.periodicTest s) := by
  unfold State.periodicTest
  try dsimp only
  with_reducible repeat' first
    | assumption | intro _ | apply keeps_ite | apply State.syncTests_keeps | refine keeps_upd ?_ rfl (fun m => m)
    | split

theorem State.startWindowEnd_keeps {qt : Bool} {z0 s : State} (hs : Keeps qt z0 s) :
    Keeps qt z0 (State.startWindowEnd s) := by
  unfold State.startWindowEnd
  with_reducible repeat' first
    | assumption | intro _ | apply keeps_ite | apply State.clr_keeps | apply State.settleFilter_keeps | split

theorem State.blfCtlWrite_keeps {qt : Bool} {z0 s : State} (v : Word) (hs : Keeps qt z0 s) :
    Keeps qt z0 (State.blfCtlWrite s v) := by
  unfold State.blfCtlWrite
  try dsimp only
  with_reducible repeat' first
    | assumption | intro _ | apply keeps_ite | apply State.set_keeps | apply State.cntClearN_keeps
    | apply State.selftestReq_keeps | split

theorem State.srcCfgWrite_keeps {qt : Bool} {z0 s : State} (n : Nat) (v : Word) (hs : Keeps qt z0 s) :
    Keeps qt z0 (State.srcCfgWrite s n v) := by
  unfold State.srcCfgWrite
  try dsimp only
  with_reducible repeat' first
    | assumption | intro _ | apply keeps_ite | apply State.put_keeps | apply State.set_keeps | apply State.putB_keeps
    | split

theorem State.filtWrite_keeps {qt : Bool} {z0 s : State} (v : Word) (hs : Keeps qt z0 s) :
    Keeps qt z0 (State.filtWrite s v) := by
  unfold State.filtWrite
  try dsimp only
  with_reducible repeat' first
    | assumption | intro _ | apply keeps_ite | apply State.wrGeneric_keeps | split

theorem State.tlimWrite_keeps {qt : Bool} {z0 s : State} (v : Word) (hs : Keeps qt z0 s) :
    Keeps qt z0 (State.tlimWrite s v) := by
  unfold State.tlimWrite
  try dsimp only
  with_reducible repeat' first
    | assumption | intro _ | apply keeps_ite | apply State.wrGeneric_keeps | split

theorem State.dropTests_keeps {qt : Bool} {z0 s : State} (hs : Keeps qt z0 s) :
    Keeps qt z0 (State.dropTests s) := by
  unfold State.dropTests
  try dsimp only
  with_reducible repeat' first
    | assumption | intro _ | apply keeps_ite | apply State.syncTests_keeps | refine keeps_upd ?_ rfl (fun m => m)
    | split

theorem State.fuseWrite_keeps {z0 s : State} (v : Word) (hs : Keeps false z0 s) :
    Keeps false z0 (State.fuseWrite s v) := by
  unfold State.fuseWrite
  try dsimp only
  with_reducible repeat' first
    | assumption | intro _ | apply keeps_ite | apply State.wr_keeps | apply State.set_keeps
    | apply State.liveChanged_keeps | apply State.dropTests_keeps | apply keeps_fuses
    | refine keeps_upd ?_ rfl (fun m => m) | split

theorem State.batCtlWrite_keeps {qt : Bool} {z0 s : State} (v : Word) (hs : Keeps qt z0 s) :
    Keeps qt z0 (State.batCtlWrite s v) := by
  unfold State.batCtlWrite
  try dsimp only
  with_reducible repeat' first
    | assumption | intro _ | apply keeps_ite | apply State.put_keeps | apply State.clr_keeps | split

theorem State.backupAlarm_keeps {qt : Bool} {z0 s : State} (n : Nat) (hot : Bool) (hs : Keeps qt z0 s) :
    Keeps qt z0 (State.backupAlarm s n hot) := by
  unfold State.backupAlarm
  try dsimp only
  with_reducible repeat' first
    | assumption | intro _ | apply keeps_ite | apply State.put_keeps | apply State.bbkDestroy_keeps | split

theorem State.vbatCheck_keeps {qt : Bool} {z0 s : State} (mv : Nat) (hs : Keeps qt z0 s) :
    Keeps qt z0 (State.vbatCheck s mv) := by
  unfold State.vbatCheck
  try dsimp only
  with_reducible repeat' first
    | assumption | intro _ | apply keeps_ite | apply State.set_keeps | apply State.clr_keeps
    | apply State.raise_keeps | refine keeps_upd ?_ rfl (fun m => m) | split

theorem State.batteryLost_keeps {qt : Bool} {z0 s : State} (hs : Keeps qt z0 s) :
    Keeps qt z0 (State.batteryLost s) := by
  unfold State.batteryLost
  try dsimp only
  with_reducible repeat' first
    | assumption | intro _ | apply State.put_keeps | apply State.syncBattery_keeps
    | refine keeps_upd ?_ rfl (fun m => m) | split

theorem State.vbatBrownout_keeps {qt : Bool} {z0 s : State} (mv : Nat) (hs : Keeps qt z0 s) :
    Keeps qt z0 (State.vbatBrownout s mv) := by
  unfold State.vbatBrownout
  try dsimp only
  with_reducible repeat' first
    | assumption | intro _ | apply keeps_ite | apply State.set_keeps | apply State.batteryLost_keeps
    | refine keeps_upd ?_ rfl (fun m => m) | split

theorem State.vbatFirst_keeps {qt : Bool} {z0 s : State} (hs : Keeps qt z0 s) :
    Keeps qt z0 (State.vbatFirst s) := by
  unfold State.vbatFirst
  try dsimp only
  with_reducible repeat' first
    | assumption | intro _ | apply keeps_ite | apply State.set_keeps | apply State.resetRegs_keeps
    | apply State.batteryLost_keeps | split

theorem execDetectorAlarm_keeps {qt : Bool} (n : Fin 14) (d : Det) {s : State} {sn : State} (he : execDetectorAlarm n d s = .next sn) : Keeps qt s sn := by
  unfold execDetectorAlarm at he
  injection he with he
  subst he
  have h0 := Keeps.refl qt s
  with_reducible repeat' first
    | assumption | intro _ | apply keeps_ite | apply State.detectorAlarm_keeps | split

theorem execDisagreement_keeps {qt : Bool} (n : Fin 14) (d : Det) {s : State} {sn : State} (he : execDisagreement n d s = .next sn) : Keeps qt s sn := by
  unfold execDisagreement at he
  injection he with he
  subst he
  have h0 := Keeps.refl qt s
  with_reducible repeat' first
    | assumption | intro _ | apply State.disagree_keeps | split

theorem execBlfSelftest_keeps {qt : Bool} (r : Req) (v : Word) {s : State} {sn : State} (he : execBlfSelftest r v s = .next sn) : Keeps qt s sn := by
  unfold execBlfSelftest at he
  injection he with he
  subst he
  have h0 := Keeps.refl qt s
  with_reducible repeat' first
    | assumption | intro _ | apply State.gateW_keeps | apply State.blfCtlWrite_keeps | split

theorem execPeriodicSelftest_keeps {qt : Bool} {s : State} {sn : State} (he : execPeriodicSelftest s = .next sn) : Keeps qt s sn := by
  unfold execPeriodicSelftest at he
  injection he with he
  subst he
  have h0 := Keeps.refl qt s
  with_reducible repeat' first
    | assumption | intro _ | apply State.periodicTest_keeps | split

theorem execSelftestResult_keeps {qt : Bool} (n : Fin 14) (d : Det) (pass : Bool) {s : State} {sn : State} (he : execSelftestResult n d pass s = .next sn) : Keeps qt s sn := by
  unfold execSelftestResult at he
  injection he with he
  subst he
  have h0 := Keeps.refl qt s
  with_reducible repeat' first
    | assumption | intro _ | apply State.testResult_keeps | split

theorem execBlfFaultyDeclare_keeps {qt : Bool} (r : Req) (v : Word) {s : State} {sn : State} (he : execBlfFaultyDeclare r v s = .next sn) : Keeps qt s sn := by
  unfold execBlfFaultyDeclare at he
  injection he with he
  subst he
  have h0 := Keeps.refl qt s
  with_reducible repeat' first
    | assumption | intro _ | apply State.gateW_keeps | apply State.declareFaulty_keeps | split

theorem execFusePgm_keeps (r : Req) (v : Word) {s : State} {sn : State} (he : execFusePgm r v s = .next sn) : Keeps false s sn := by
  unfold execFusePgm at he
  injection he with he
  subst he
  have h0 := Keeps.refl false s
  with_reducible repeat' first
    | assumption | intro _ | apply State.gateW_keeps | apply State.fuseWrite_keeps | split

theorem execStartWindowEnd_keeps {qt : Bool} {s : State} {sn : State} (he : execStartWindowEnd s = .next sn) : Keeps qt s sn := by
  unfold execStartWindowEnd at he
  injection he with he
  subst he
  have h0 := Keeps.refl qt s
  with_reducible repeat' first
    | assumption | intro _ | apply State.startWindowEnd_keeps | split

theorem execHeartbeatTimeout_keeps {qt : Bool} (d : Det) {s : State} {sn : State} (he : execHeartbeatTimeout d s = .next sn) : Keeps qt s sn := by
  unfold execHeartbeatTimeout at he
  injection he with he
  subst he
  have h0 := Keeps.refl qt s
  with_reducible repeat' first
    | assumption | intro _ | apply keeps_ite | apply State.detectorAlarm_keeps | split

theorem execBackupAlarm_keeps {qt : Bool} (n : Fin 14) (hot : Bool) {s : State} {sn : State} (he : execBackupAlarm n hot s = .next sn) : Keeps qt s sn := by
  unfold execBackupAlarm at he
  injection he with he
  subst he
  have h0 := Keeps.refl qt s
  with_reducible repeat' first
    | assumption | intro _ | apply State.backupAlarm_keeps | split

theorem execVbatCheck_keeps {qt : Bool} (mv : BitVec 16) {s : State} {sn : State} (he : execVbatCheck mv s = .next sn) : Keeps qt s sn := by
  unfold execVbatCheck at he
  injection he with he
  subst he
  have h0 := Keeps.refl qt s
  with_reducible repeat' first
    | assumption | intro _ | apply State.vbatCheck_keeps | split

theorem execVbatBrownout_keeps {qt : Bool} (mv : BitVec 16) {s : State} {sn : State} (he : execVbatBrownout mv s = .next sn) : Keeps qt s sn := by
  unfold execVbatBrownout at he
  injection he with he
  subst he
  have h0 := Keeps.refl qt s
  with_reducible repeat' first
    | assumption | intro _ | apply State.vbatBrownout_keeps | split

theorem execVbatFirstApply_keeps {qt : Bool} {s : State} {sn : State} (he : execVbatFirstApply s = .next sn) : Keeps qt s sn := by
  unfold execVbatFirstApply at he
  injection he with he
  subst he
  have h0 := Keeps.refl qt s
  with_reducible repeat' first
    | assumption | intro _ | apply State.vbatFirst_keeps | split

theorem execBackupPower_keeps {qt : Bool} (on : Bool) {s : State} {sn : State} (he : execBackupPower on s = .next sn) : Keeps qt s sn := by
  unfold execBackupPower at he
  injection he with he
  subst he
  have h0 := Keeps.refl qt s
  try dsimp only
  with_reducible repeat' first
    | assumption | intro _ | apply keeps_ite | refine keeps_upd ?_ rfl (fun m => m) | split

theorem execClrEvt_keeps {qt : Bool} (r : Req) (v : Word) {s : State} {sn : State} (he : execClrEvt r v s = .next sn) : Keeps qt s sn := by
  unfold execClrEvt at he
  injection he with he
  subst he
  have h0 := Keeps.refl qt s
  with_reducible repeat' first
    | assumption | intro _ | apply State.gateW_keeps | apply State.batCtlWrite_keeps | split

theorem execClrFresh_keeps {qt : Bool} (r : Req) (v : Word) {s : State} {sn : State} (he : execClrFresh r v s = .next sn) : Keeps qt s sn := by
  unfold execClrFresh at he
  injection he with he
  subst he
  have h0 := Keeps.refl qt s
  with_reducible repeat' first
    | assumption | intro _ | apply State.gateW_keeps | apply State.batCtlWrite_keeps | split

theorem execBlfCntClr_keeps {qt : Bool} (r : Req) (v : Word) {s : State} {sn : State} (he : execBlfCntClr r v s = .next sn) : Keeps qt s sn := by
  unfold execBlfCntClr at he
  injection he with he
  subst he
  have h0 := Keeps.refl qt s
  with_reducible repeat' first
    | assumption | intro _ | apply State.gateW_keeps | apply State.blfCtlWrite_keeps | split

theorem execBlfLock_keeps {qt : Bool} (r : Req) (v : Word) {s : State} {sn : State} (he : execBlfLock r v s = .next sn) : Keeps qt s sn := by
  unfold execBlfLock at he
  injection he with he
  subst he
  have h0 := Keeps.refl qt s
  with_reducible repeat' first
    | assumption | intro _ | apply State.gateW_keeps | apply State.blfCtlWrite_keeps | split

theorem State.dropUnlocked_keeps {qt : Bool} {z0 s : State} (f : FrameSt) (hs : Keeps qt z0 s) :
    Keeps qt z0 (State.dropUnlocked s f) := by
  unfold State.dropUnlocked
  try dsimp only
  with_reducible repeat' first
    | assumption | intro _ | apply keeps_ite | apply State.raise_keeps | apply State.dropFrame_keeps
    | refine keeps_upd ?_ rfl (fun m => m) | split

theorem State.holdFrame_keeps {qt : Bool} {z0 s : State} (f : FrameSt) (hs : Keeps qt z0 s) :
    Keeps qt z0 (State.holdFrame s f) := by
  unfold State.holdFrame
  try dsimp only
  with_reducible repeat' first
    | assumption | intro _ | apply keeps_ite | apply State.putFrame_keeps | apply State.dropUnlocked_keeps
    | refine keeps_upd ?_ rfl (fun m => m) | split

theorem State.pushSaevt_keeps {qt : Bool} {z0 s : State} (c : Nat) (kind : Nat) (hs : Keeps qt z0 s) :
    Keeps qt z0 (State.pushSaevt s c kind) := by
  unfold State.pushSaevt
  try dsimp only
  with_reducible repeat' first
    | assumption | intro _ | apply keeps_ite | apply State.set_keeps | apply State.level_keeps
    | refine keeps_upd ?_ rfl (fun m => m) | split

theorem State.saEvent_keeps {qt : Bool} {z0 s : State} (c : Nat) (kind : Nat) (hs : Keeps qt z0 s) :
    Keeps qt z0 (State.saEvent s c kind) := by
  unfold State.saEvent
  try dsimp only
  with_reducible repeat' first
    | assumption | intro _ | apply keeps_ite | apply State.pushSaevt_keeps | refine keeps_upd ?_ rfl (fun m => m)
    | split

theorem State.recordFrame_keeps {qt : Bool} {z0 s : State} (f : FrameSt) (hs : Keeps qt z0 s) :
    Keeps qt z0 (State.recordFrame s f) := by
  unfold State.recordFrame
  try dsimp only
  with_reducible repeat' first
    | assumption | intro _ | apply State.putFrame_keeps | apply State.putRecords_keeps | split
    | refine keeps_upd ?_ rfl (fun m => m)

theorem State.noteCtx_keeps {qt : Bool} {z0 s : State} (c : Nat) (i : Nat) (hs : Keeps qt z0 s) :
    Keeps qt z0 (State.noteCtx s c i) := by
  unfold State.noteCtx
  with_reducible repeat' first
    | assumption | intro _ | apply State.putCtx_keeps | split

theorem State.dropIn_keeps {qt : Bool} {z0 s : State} (f : FrameSt) (code : Nat) (i : Nat) (hs : Keeps qt z0 s) :
    Keeps qt z0 (State.dropIn s f code i) := by
  unfold State.dropIn
  with_reducible repeat' first
    | assumption | intro _ | apply State.dropFrame_keeps | apply State.noteCtx_keeps | split

theorem State.enterCommit_keeps {qt : Bool} {z0 s : State} (f : FrameSt) (bs : List Byte) (hs : Keeps qt z0 s) :
    Keeps qt z0 (State.enterCommit s f bs) := by
  unfold State.enterCommit
  try dsimp only
  with_reducible repeat' first
    | assumption | intro _ | apply State.putFrame_keeps | refine keeps_upd ?_ rfl (fun m => m) | split

theorem State.preProtect_keeps {qt : Bool} {z0 s : State} (f : FrameSt) (p : Parsed) (hs : Keeps qt z0 s) :
    Keeps qt z0 (State.preProtect s f p) := by
  unfold State.preProtect
  try dsimp only
  with_reducible repeat' first
    | assumption | intro _ | apply keeps_ite | apply State.dropFrame_keeps | apply State.holdFrame_keeps
    | apply State.dropIn_keeps | apply State.enterCommit_keeps | split

theorem State.preMacsec_keeps {qt : Bool} {z0 s : State} (f : FrameSt) (p : Parsed) (x : List Byte) (hs : Keeps qt z0 s) :
    Keeps qt z0 (State.preMacsec s f p x) := by
  unfold State.preMacsec
  try dsimp only
  with_reducible repeat' first
    | assumption | intro _ | apply keeps_ite | apply State.dropIn_keeps | apply State.enterCommit_keeps | split
    | refine keeps_upd ?_ rfl (fun m => m)

theorem State.preEsp_keeps {qt : Bool} {z0 s : State} (f : FrameSt) (p : Parsed) (x : List Byte) (hs : Keeps qt z0 s) :
    Keeps qt z0 (State.preEsp s f p x) := by
  unfold State.preEsp
  try dsimp only
  with_reducible repeat' first
    | assumption | intro _ | apply keeps_ite | apply State.dropIn_keeps | apply State.enterCommit_keeps | split
    | refine keeps_upd ?_ rfl (fun m => m)

theorem State.preGroup_keeps {qt : Bool} {z0 s : State} (f : FrameSt) (p : Parsed) (x : List Byte) (hs : Keeps qt z0 s) :
    Keeps qt z0 (State.preGroup s f p x) := by
  unfold State.preGroup
  try dsimp only
  with_reducible repeat' first
    | assumption | intro _ | apply keeps_ite | apply State.holdFrame_keeps | apply State.dropIn_keeps
    | apply State.enterCommit_keeps | apply KeepsOpt.getD | split | refine keeps_upd ?_ rfl (fun m => m)

theorem State.preUnprotect_keeps {qt : Bool} {z0 s : State} (f : FrameSt) (p : Parsed) (hs : Keeps qt z0 s) :
    Keeps qt z0 (State.preUnprotect s f p) := by
  unfold State.preUnprotect
  try dsimp only
  with_reducible repeat' first
    | assumption | intro _ | apply keeps_ite | apply State.dropFrame_keeps | apply State.preMacsec_keeps
    | apply State.preEsp_keeps | apply State.preGroup_keeps | split

theorem State.preCommit_keeps {qt : Bool} {z0 s : State} (f : FrameSt) (hs : Keeps qt z0 s) :
    Keeps qt z0 (State.preCommit s f) := by
  unfold State.preCommit
  try dsimp only
  with_reducible repeat' first
    | assumption | intro _ | apply keeps_ite | apply State.touch_keeps | apply State.dropFrame_keeps
    | apply State.enterCommit_keeps | apply State.preProtect_keeps | apply State.preUnprotect_keeps | split

theorem State.police_keeps {qt : Bool} {z0 s : State} (p : Nat) (len : Nat) (hs : Keeps qt z0 s) :
    Keeps qt z0 (State.police s p len).2 := by
  unfold State.police
  try dsimp only
  with_reducible repeat' first
    | assumption | intro _ | apply keeps_ite | apply KeepsSnd.ite | refine keeps_upd ?_ rfl (fun m => m) | split

theorem State.classify_keeps {qt : Bool} {z0 s : State} (f : FrameSt) (e : List Byte) (hs : Keeps qt z0 s) :
    Keeps qt z0 (State.classify s f e).2 := by
  unfold State.classify
  try dsimp only
  with_reducible repeat' first
    | assumption | intro _ | apply keeps_ite | apply State.inc_keeps | apply State.lifPend_keeps
    | apply State.police_keeps | apply KeepsSnd.ite | split | refine KeepsSnd.get ‹_› ?_

theorem State.refreshSeen_keeps {qt : Bool} {z0 s : State} (r : FlowRef) (hs : Keeps qt z0 s) :
    Keeps qt z0 (State.refreshSeen s r) := by
  unfold State.refreshSeen
  try dsimp only
  with_reducible repeat' first
    | assumption | intro _ | apply keeps_ite | apply State.flowPut_keeps | split

theorem State.addFrame_keeps {qt : Bool} {z0 s : State} (f : FrameSt) (hs : Keeps qt z0 s) :
    Keeps qt z0 (State.addFrame s f) := by
  unfold State.addFrame
  try dsimp only
  with_reducible repeat' first
    | assumption | intro _ | refine keeps_upd ?_ rfl (fun m => m) | split

theorem State.matched_keeps {qt : Bool} {z0 s : State} (f : FrameSt) (p : Parsed) (r : FlowRef) (hs : Keeps qt z0 s) :
    Keeps qt z0 (State.matched s f p r) := by
  unfold State.matched
  try dsimp only
  with_reducible repeat' first
    | assumption | intro _ | apply keeps_ite | apply State.dropFrame_keeps | apply State.preCommit_keeps
    | apply State.classify_keeps | apply State.refreshSeen_keeps | apply State.addFrame_keeps | split
    | refine KeepsSnd.get ‹_› ?_ | refine keeps_upd ?_ rfl (fun m => m)

theorem State.unmatched_keeps {qt : Bool} {z0 s : State} (f : FrameSt) (hs : Keeps qt z0 s) :
    Keeps qt z0 (State.unmatched s f) := by
  unfold State.unmatched
  try dsimp only
  with_reducible repeat' first
    | assumption | intro _ | apply keeps_ite | apply State.countDrop_keeps | apply State.preCommit_keeps
    | apply State.addFrame_keeps | refine keeps_upd ?_ rfl (fun m => m) | split

theorem State.lookup_keeps {qt : Bool} {z0 s : State} (f : FrameSt) (p : Parsed) (hs : Keeps qt z0 s) :
    Keeps qt z0 (State.lookup s f p) := by
  unfold State.lookup
  try dsimp only
  with_reducible repeat' first
    | assumption | intro _ | apply keeps_ite | apply State.countDrop_keeps | apply State.matched_keeps
    | apply State.unmatched_keeps | split

theorem State.peerDelay_keeps {qt : Bool} {z0 s : State} (f : FrameSt) (t : Nat) (hs : Keeps qt z0 s) :
    Keeps qt z0 (State.peerDelay s f t) := by
  unfold State.peerDelay
  try dsimp only
  with_reducible repeat' first
    | assumption | intro _ | apply keeps_ite | apply State.wr_keeps | apply State.freeNat_keeps
    | apply State.transmit_keeps | apply keeps_foldl | apply keeps_foldl_fst | split | refine KeepsSnd.get ‹_› ?_

theorem State.parseStep_keeps {qt : Bool} {z0 s : State} (f : FrameSt) (hs : Keeps qt z0 s) :
    Keeps qt z0 (State.parseStep s f) := by
  unfold State.parseStep
  try dsimp only
  with_reducible repeat' first
    | assumption | intro _ | apply keeps_ite | apply State.countDrop_keeps | apply State.lookup_keeps
    | apply State.peerDelay_keeps | split

theorem State.rxCheck_keeps {qt : Bool} {z0 s : State} (x0 : Check) (hs : Keeps qt z0 s) :
    Keeps qt z0 (State.rxCheck s x0).2 := by
  unfold State.rxCheck
  try dsimp only
  with_reducible repeat' first
    | assumption | intro _ | apply keeps_ite | apply State.freeNat_keeps | apply State.report_keeps
    | apply State.macFail_keeps | apply KeepsSnd.ite | split | refine KeepsSnd.get ‹_› ?_

theorem State.receive_keeps {qt : Bool} {z0 s : State} (p : Nat) (bs : List Byte) (rx : RxInfo) (hs : Keeps qt z0 s) :
    Keeps qt z0 (State.receive s p bs rx) := by
  unfold State.receive
  try dsimp only
  with_reducible repeat' first
    | assumption | intro _ | apply keeps_ite | apply State.count_keeps | apply State.inc_keeps
    | apply State.countDrop_keeps | apply State.parseStep_keeps | apply State.rxCheck_keeps | split
    | refine KeepsSnd.get ‹_› ?_

theorem State.fecNote_keeps {qt : Bool} {z0 s : State} (p : Nat) (rx : RxInfo) (hs : Keeps qt z0 s) :
    Keeps qt z0 (State.fecNote s p rx) := by
  unfold State.fecNote
  try dsimp only
  with_reducible repeat' first
    | assumption | intro _ | apply keeps_ite | apply State.count_keeps | apply State.lifPend_keeps | split

theorem State.ingress_keeps {qt : Bool} {z0 s : State} (p : Nat) (bs : List Byte) (rx : RxInfo) (hs : Keeps qt z0 s) :
    Keeps qt z0 (State.ingress s p bs rx) := by
  unfold State.ingress
  with_reducible repeat' first
    | assumption | intro _ | apply keeps_ite | apply State.receive_keeps | apply State.fecNote_keeps | split

theorem State.releaseHeld_keeps {qt : Bool} {z0 s : State} (hs : Keeps qt z0 s) :
    Keeps qt z0 (State.releaseHeld s) := by
  unfold State.releaseHeld
  try dsimp only
  with_reducible repeat' first
    | assumption | intro _ | apply keeps_ite | apply State.preCommit_keeps | apply keeps_foldl
    | apply keeps_foldl_fst | refine keeps_upd ?_ rfl (fun m => m) | split

theorem State.ctxRefuse_keeps {z0 s : State} (j : Job) (e : Err) (hs : Keeps false z0 s) :
    Keeps false z0 (State.ctxRefuse s j e) := by
  unfold State.ctxRefuse
  with_reducible repeat' first
    | assumption | intro _ | apply State.failJob_keeps | split

theorem State.ctxReject_keeps {qt : Bool} {z0 s : State} (j : Job) (e : Err) (hs : Keeps qt z0 s) :
    Keeps qt z0 (State.ctxReject s j e) := by
  unfold State.ctxReject
  with_reducible repeat' first
    | assumption | intro _ | apply State.finishJob_keeps | split

theorem State.ctxStale_keeps {z0 s : State} (j : Job) (c : Nat) (hs : Keeps false z0 s) :
    Keeps false z0 (State.ctxStale s j c) := by
  unfold State.ctxStale
  with_reducible repeat' first
    | assumption | intro _ | apply State.inc_keeps | apply State.failJob_keeps | split

theorem State.ctxBusy_keeps {z0 s : State} (j : Job) (hs : Keeps false z0 s) :
    Keeps false z0 (State.ctxBusy s j) := by
  unfold State.ctxBusy
  with_reducible repeat' first
    | assumption | intro _ | apply State.inc_keeps | apply State.failJob_keeps | split

theorem State.ctxDone_keeps {qt : Bool} {z0 s : State} (j : Job) (x : JobIn) (hs : Keeps qt z0 s) :
    Keeps qt z0 (State.ctxDone s j x) := by
  unfold State.ctxDone
  with_reducible repeat' first
    | assumption | intro _ | apply State.finishJob_keeps | split

theorem State.installFlows_keeps {qt : Bool} {z0 s : State} (d : List Byte) (img : List Byte) (es : List (List Byte)) (hs : Keeps qt z0 s) :
    KeepsOpt qt z0 (State.installFlows s d img es) := by
  unfold State.installFlows
  try dsimp only
  with_reducible repeat' first
    | assumption | intro _ | apply keeps_ite | apply State.insertFlows_keeps | apply State.pinEntries_keeps
    | exact KeepsOpt.none | apply KeepsOpt.some | apply KeepsOpt.ite | apply KeepsOpt.map | apply KeepsOpt.bind
    | split | refine KeepsOpt.get ‹_› ?_

theorem State.installCommit_keeps {qt : Bool} {z0 s : State} (j : Job) (x : JobIn) (img : List Byte) (key : List Byte) (next : List Byte) (epoch : Nat) (hs : Keeps qt z0 s) :
    Keeps qt z0 (State.installCommit s j x img key next epoch) := by
  unfold State.installCommit
  try dsimp only
  with_reducible repeat' first
    | assumption | intro _ | apply keeps_ite | apply State.mpeWriteN_keeps | apply State.commitBegin_keeps
    | apply State.commitCtx_keeps | apply State.setSwitch_keeps | apply State.startDrain_keeps
    | apply State.ctxDone_keeps | refine keeps_upd ?_ rfl (fun m => m) | split

theorem State.installRun_keeps {z0 s : State} (j : Job) (x : JobIn) (img : List Byte) (es : List (List Byte)) (key : List Byte) (next : List Byte) (epoch : Nat) (hs : Keeps false z0 s) :
    Keeps false z0 (State.installRun s j x img es key next epoch) := by
  unfold State.installRun
  try dsimp only
  with_reducible repeat' first
    | assumption | intro _ | apply keeps_ite | apply State.flowRejected_keeps | apply State.ctxRefuse_keeps
    | apply State.ctxStale_keeps | apply State.ctxBusy_keeps | apply State.installFlows_keeps
    | apply State.installCommit_keeps | split | refine KeepsOpt.get ‹_› ?_

theorem State.withNextKey_keeps {z0 s : State} (j : Job) (k : List Byte → State) (h_k : ∀ (a0 : List Byte), Keeps false z0 (k a0)) (hs : Keeps false z0 s) :
    Keeps false z0 (State.withNextKey s j k) := by
  unfold State.withNextKey
  try dsimp only
  with_reducible repeat' first
    | assumption | intro _ | apply h_k | apply keeps_ite | apply State.withSlot_keeps | split

theorem State.noteDenied_keeps {qt : Bool} {z0 s : State} (e : Err) (hs : Keeps qt z0 s) :
    Keeps qt z0 (State.noteDenied s e) := by
  unfold State.noteDenied
  with_reducible repeat' first
    | assumption | intro _ | apply keeps_ite | apply State.inc_keeps | split

theorem State.runInstallCtx_keeps {z0 s : State} (j : Job) (x : JobIn) (hs : Keeps false z0 s) :
    Keeps false z0 (State.runInstallCtx s j x) := by
  unfold State.runInstallCtx
  try dsimp only
  with_reducible repeat' first
    | assumption | intro _ | apply keeps_ite | apply State.withSlot_keeps | apply State.ctxReject_keeps
    | apply State.installRun_keeps | apply State.withNextKey_keeps | apply State.noteDenied_keeps | split

theorem State.runInstallOnly_keeps {z0 s : State} (j : Job) (x : JobIn) (hs : Keeps false z0 s) :
    Keeps false z0 (State.runInstallOnly s j x) := by
  unfold State.runInstallOnly
  try dsimp only
  with_reducible repeat' first
    | assumption | intro _ | apply keeps_ite | apply State.commitBegin_keeps | apply State.insertFlows_keeps
    | apply State.flowRejected_keeps | apply State.ctxRefuse_keeps | apply State.ctxReject_keeps
    | apply State.ctxDone_keeps | split | refine KeepsOpt.get ‹_› ?_ | refine keeps_upd ?_ rfl (fun m => m)

theorem State.runInstall_keeps {z0 s : State} (j : Job) (hs : Keeps false z0 s) :
    Keeps false z0 (State.runInstall s j) := by
  unfold State.runInstall
  try dsimp only
  with_reducible repeat' first
    | assumption | intro _ | apply keeps_ite | apply State.failJob_keeps | apply State.withInput_keeps
    | apply State.runInstallCtx_keeps | apply State.runInstallOnly_keeps | split

theorem State.updatePin_keeps {qt : Bool} {z0 s : State} (d : List Byte) (cur : List Byte) (hs : Keeps qt z0 s) :
    KeepsExc qt z0 (State.updatePin s d cur) := by
  unfold State.updatePin
  try dsimp only
  with_reducible repeat' first
    | assumption | intro _ | apply keeps_ite | apply State.pinEntries_keeps | apply State.unpinEntries_keeps
    | exact KeepsExc.error | apply KeepsExc.ok | apply KeepsExc.ite | split | refine KeepsOpt.get ‹_› ?_

theorem State.updateCommit_keeps {z0 s : State} (j : Job) (x : JobIn) (cur : List Byte) (new : List Byte) (sw : Bool) (hs : Keeps false z0 s) :
    Keeps false z0 (State.updateCommit s j x cur new sw) := by
  unfold State.updateCommit
  try dsimp only
  with_reducible repeat' first
    | assumption | intro _ | apply keeps_ite | apply State.mpeWriteN_keeps | apply State.commitBegin_keeps
    | apply State.commitCtx_keeps | apply State.flowRejected_keeps | apply State.switchPair_keeps
    | apply State.ctxRefuse_keeps | apply State.ctxDone_keeps | apply State.updatePin_keeps | split
    | refine KeepsExc.get ‹_› ?_

theorem State.updateRun_keeps {z0 s : State} (j : Job) (x : JobIn) (m : List Byte) (next : List Byte) (hs : Keeps false z0 s) :
    Keeps false z0 (State.updateRun s j x m next) := by
  unfold State.updateRun
  try dsimp only
  with_reducible repeat' first
    | assumption | intro _ | apply keeps_ite | apply State.ctxRefuse_keeps | apply State.ctxStale_keeps
    | apply State.ctxBusy_keeps | apply State.updateCommit_keeps | split

theorem State.runUpdate_keeps {z0 s : State} (j : Job) (hs : Keeps false z0 s) :
    Keeps false z0 (State.runUpdate s j) := by
  unfold State.runUpdate
  try dsimp only
  with_reducible repeat' first
    | assumption | intro _ | apply keeps_ite | apply State.failJob_keeps | apply State.withInput_keeps
    | apply State.withBytes_keeps | apply State.withNextKey_keeps | apply State.updateRun_keeps | split

theorem State.runRetireOnly_keeps {z0 s : State} (j : Job) (x : JobIn) (hs : Keeps false z0 s) :
    Keeps false z0 (State.runRetireOnly s j x) := by
  unfold State.runRetireOnly
  try dsimp only
  with_reducible repeat' first
    | assumption | intro _ | apply keeps_ite | apply State.commitBegin_keeps | apply State.dropFlow_keeps
    | apply State.ctxRefuse_keeps | apply State.ctxDone_keeps | apply keeps_foldl | apply keeps_foldl_fst | split

theorem State.runRetireCtx_keeps {z0 s : State} (j : Job) (x : JobIn) (hs : Keeps false z0 s) :
    Keeps false z0 (State.runRetireCtx s j x) := by
  unfold State.runRetireCtx
  try dsimp only
  with_reducible repeat' first
    | assumption | intro _ | apply keeps_ite | apply State.commitBegin_keeps | apply State.commitCtx_keeps
    | apply State.flowRejected_keeps | apply State.releaseFlows_keeps | apply State.emptyCtx_keeps
    | apply State.ctxRefuse_keeps | apply State.ctxStale_keeps | apply State.ctxBusy_keeps
    | apply State.ctxDone_keeps | split | refine KeepsOpt.get ‹_› ?_

theorem State.runRetire_keeps {z0 s : State} (j : Job) (hs : Keeps false z0 s) :
    Keeps false z0 (State.runRetire s j) := by
  unfold State.runRetire
  try dsimp only
  with_reducible repeat' first
    | assumption | intro _ | apply keeps_ite | apply State.failJob_keeps | apply State.withInput_keeps
    | apply State.runRetireOnly_keeps | apply State.runRetireCtx_keeps | split

theorem State.runSnapshot_keeps {z0 s : State} (j : Job) (hs : Keeps false z0 s) :
    Keeps false z0 (State.runSnapshot s j) := by
  unfold State.runSnapshot
  try dsimp only
  with_reducible repeat' first
    | assumption | intro _ | apply keeps_ite | apply State.failJob_keeps | apply State.touch_keeps
    | apply State.withInput_keeps | apply State.finishOut_keeps | apply State.ctxStale_keeps | split

theorem execCtxInstall_keeps (j : Nat) {s : State} {sn : State} (he : execCtxInstall j s = .next sn) : Keeps false s sn := by
  unfold execCtxInstall at he
  injection he with he
  subst he
  have h0 := Keeps.refl false s
  with_reducible repeat' first
    | assumption | intro _ | apply State.atUnit_keeps | apply State.runInstall_keeps | split

theorem execCtxUpdate_keeps (j : Nat) {s : State} {sn : State} (he : execCtxUpdate j s = .next sn) : Keeps false s sn := by
  unfold execCtxUpdate at he
  injection he with he
  subst he
  have h0 := Keeps.refl false s
  with_reducible repeat' first
    | assumption | intro _ | apply State.atUnit_keeps | apply State.runUpdate_keeps | split

theorem execCtxRetire_keeps (j : Nat) {s : State} {sn : State} (he : execCtxRetire j s = .next sn) : Keeps false s sn := by
  unfold execCtxRetire at he
  injection he with he
  subst he
  have h0 := Keeps.refl false s
  with_reducible repeat' first
    | assumption | intro _ | apply State.atUnit_keeps | apply State.runRetire_keeps | split

theorem execCtxSnapshot_keeps (j : Nat) {s : State} {sn : State} (he : execCtxSnapshot j s = .next sn) : Keeps false s sn := by
  unfold execCtxSnapshot at he
  injection he with he
  subst he
  have h0 := Keeps.refl false s
  with_reducible repeat' first
    | assumption | intro _ | apply State.atUnit_keeps | apply State.runSnapshot_keeps | split

theorem State.withdrawEngine_keeps {z0 s : State} (e : Nat) (kind : Nat) (hs : Keeps false z0 s) :
    Keeps false z0 (State.withdrawEngine s e kind) := by
  unfold State.withdrawEngine
  try dsimp only
  with_reducible repeat' first
    | assumption | intro _ | apply keeps_ite | apply State.set_keeps | apply State.clr_keeps
    | apply State.faultJobs_keeps | split

theorem State.endVictim_keeps {z0 s : State} (kind : Nat) (src : Nat) (x0 : Victim) (hs : Keeps false z0 s) :
    Keeps false z0 (State.endVictim s kind src x0) := by
  unfold State.endVictim
  try dsimp only
  with_reducible repeat' first
    | assumption | intro _ | apply keeps_ite | apply State.faultJob_keeps | apply State.dkeLost_keeps
    | apply State.dropFrame_keeps | split

theorem State.violation_keeps {z0 s : State} (kind : Nat) (src : Nat) (v : Victim) (hs : Keeps false z0 s) :
    Keeps false z0 (State.violation s kind src v) := by
  unfold State.violation
  with_reducible repeat' first
    | assumption | intro _ | apply State.report_keeps | apply State.withdrawEngine_keeps
    | apply State.endVictim_keeps | split

theorem State.aeaCtlWrite_keeps {qt : Bool} {z0 s : State} (e : Nat) (v : Word) (hs : Keeps qt z0 s) :
    Keeps qt z0 (State.aeaCtlWrite s e v) := by
  unfold State.aeaCtlWrite
  try dsimp only
  with_reducible repeat' first
    | assumption | intro _ | apply keeps_ite | apply State.set_keeps | apply State.putB_keeps | split

theorem State.selftestEnd_keeps {qt : Bool} {z0 s : State} (e : Nat) (pass : Bool) (hs : Keeps qt z0 s) :
    Keeps qt z0 (State.selftestEnd s e pass) := by
  unfold State.selftestEnd
  try dsimp only
  with_reducible repeat' first
    | assumption | intro _ | apply keeps_ite | apply State.clr_keeps | apply State.putB_keeps
    | apply State.settleFilter_keeps | split

theorem State.maxinsnRead_keeps {qt : Bool} {z0 s : State} (e : Nat) (hs : Keeps qt z0 s) :
    Keeps qt z0 (State.maxinsnRead s e) := by
  unfold State.maxinsnRead
  try dsimp only
  with_reducible repeat' first
    | assumption | intro _ | apply State.wr_keeps | refine keeps_upd ?_ rfl (fun m => m) | split

theorem State.ltCfgWrite_keeps {qt : Bool} {z0 s : State} (v : Word) (hs : Keeps qt z0 s) :
    Keeps qt z0 (State.ltCfgWrite s v) := by
  unfold State.ltCfgWrite
  try dsimp only
  with_reducible repeat' first
    | assumption | intro _ | apply keeps_ite | apply State.wrGeneric_keeps | split

theorem State.noteInsn_keeps {qt : Bool} {z0 s : State} (e : Nat) (ns : Nat) (hs : Keeps qt z0 s) :
    Keeps qt z0 (State.noteInsn s e ns) := by
  unfold State.noteInsn
  with_reducible repeat' first
    | assumption | intro _ | apply keeps_ite | apply State.put_keeps | split

theorem State.preemptPool_keeps {qt : Bool} {z0 s : State} (r : Job) (hs : Keeps qt z0 s) :
    Keeps qt z0 (State.preemptPool s r) := by
  unfold State.preemptPool
  try dsimp only
  with_reducible repeat' first
    | assumption | intro _ | apply keeps_ite | apply State.putJob_keeps | apply State.grantPool_keeps | split
    | refine keeps_upd ?_ rfl (fun m => m)

theorem State.boundaryNext_keeps {qt : Bool} {z0 s : State} (e : Nat) (r : Job) (hs : Keeps qt z0 s) :
    Keeps qt z0 (State.boundaryNext s e r) := by
  unfold State.boundaryNext
  try dsimp only
  with_reducible repeat' first
    | assumption | intro _ | apply keeps_ite | apply State.preemptAt_keeps | apply State.preemptPool_keeps | split

theorem State.boundaryOf_keeps {z0 s : State} (e : Nat) (j : Job) (hs : Keeps false z0 s) :
    Keeps false z0 (State.boundaryOf s e j) := by
  unfold State.boundaryOf
  try dsimp only
  with_reducible repeat' first
    | assumption | intro _ | apply keeps_ite | apply State.putJob_keeps | apply State.failJob_keeps
    | apply State.tamperJob_keeps | apply State.boundaryNext_keeps | split | refine keeps_upd ?_ rfl (fun m => m)

theorem State.boundary_keeps {z0 s : State} (e : Nat) (ns : Nat) (hs : Keeps false z0 s) :
    Keeps false z0 (State.boundary s e ns) := by
  unfold State.boundary
  try dsimp only
  with_reducible repeat' first
    | assumption | intro _ | apply keeps_ite | apply State.eachJob_keeps | apply State.noteInsn_keeps
    | apply State.boundaryOf_keeps | split

theorem execCodeViolation_keeps (src : Fin 0x126) (victim : Victim) {s : State} {sn : State} (he : execCodeViolation src victim s = .next sn) : Keeps false s sn := by
  unfold execCodeViolation at he
  injection he with he
  subst he
  have h0 := Keeps.refl false s
  with_reducible repeat' first
    | assumption | intro _ | apply State.violation_keeps | split

theorem execHandshakeStall_keeps (src : Fin 0x126) (victim : Victim) {s : State} {sn : State} (he : execHandshakeStall src victim s = .next sn) : Keeps false s sn := by
  unfold execHandshakeStall at he
  injection he with he
  subst he
  have h0 := Keeps.refl false s
  with_reducible repeat' first
    | assumption | intro _ | apply State.violation_keeps | split

theorem execEngineInstructionBoundary_keeps (e : Fin 256) (ns : BitVec 16) {s : State} {sn : State} (he : execEngineInstructionBoundary e ns s = .next sn) : Keeps false s sn := by
  unfold execEngineInstructionBoundary at he
  injection he with he
  subst he
  have h0 := Keeps.refl false s
  with_reducible repeat' first
    | assumption | intro _ | apply State.boundary_keeps | split

theorem execLtEnWrite_keeps {qt : Bool} (r : Req) (e : Fin 48) (v : Word) {s : State} {sn : State} (he : execLtEnWrite r e v s = .next sn) : Keeps qt s sn := by
  unfold execLtEnWrite at he
  injection he with he
  subst he
  have h0 := Keeps.refl qt s
  with_reducible repeat' first
    | assumption | intro _ | apply State.gateW_keeps | apply State.aeaCtlWrite_keeps | split

theorem execAeaSelftest_keeps {qt : Bool} (r : Req) (e : Fin 48) (v : Word) {s : State} {sn : State} (he : execAeaSelftest r e v s = .next sn) : Keeps qt s sn := by
  unfold execAeaSelftest at he
  injection he with he
  subst he
  have h0 := Keeps.refl qt s
  with_reducible repeat' first
    | assumption | intro _ | apply State.gateW_keeps | apply State.aeaCtlWrite_keeps | split

theorem execAeaSelftestEnd_keeps {qt : Bool} (e : Fin 48) (pass : Bool) {s : State} {sn : State} (he : execAeaSelftestEnd e pass s = .next sn) : Keeps qt s sn := by
  unfold execAeaSelftestEnd at he
  injection he with he
  subst he
  have h0 := Keeps.refl qt s
  with_reducible repeat' first
    | assumption | intro _ | apply State.selftestEnd_keeps | split

theorem execMaxinsnRead_keeps {qt : Bool} (r : Req) (e : Fin 48) {s : State} {sn : State} (he : execMaxinsnRead r e s = .next sn) : Keeps qt s sn := by
  unfold execMaxinsnRead at he
  injection he with he
  subst he
  have h0 := Keeps.refl qt s
  with_reducible repeat' first
    | assumption | intro _ | apply State.gateR_keeps | apply State.maxinsnRead_keeps | split

theorem execLtCfgLock_keeps {qt : Bool} (r : Req) (v : Word) {s : State} {sn : State} (he : execLtCfgLock r v s = .next sn) : Keeps qt s sn := by
  unfold execLtCfgLock at he
  injection he with he
  subst he
  have h0 := Keeps.refl qt s
  with_reducible repeat' first
    | assumption | intro _ | apply State.gateW_keeps | apply State.ltCfgWrite_keeps | split

theorem execXcfgLock_keeps {qt : Bool} (r : Req) (v : Word) {s : State} {sn : State} (he : execXcfgLock r v s = .next sn) : Keeps qt s sn := by
  unfold execXcfgLock at he
  injection he with he
  subst he
  have h0 := Keeps.refl qt s
  with_reducible repeat' first
    | assumption | intro _ | apply State.wrGeneric_keeps | apply State.gateW_keeps | split

theorem State.atSpire_keeps {qt : Bool} {z0 s : State} (e : Nat) (q : Nat) (waiting : Bool) (k : Job → Nat → State) (h_k : ∀ (a0 : Job) (a1 : Nat), Keeps qt z0 (k a0 a1)) (hs : Keeps qt z0 s) :
    Keeps qt z0 (State.atSpire s e q waiting k) := by
  unfold State.atSpire
  try dsimp only
  with_reducible repeat' first
    | assumption | intro _ | apply h_k | apply keeps_ite | split

theorem State.spireAssertion_keeps {z0 s : State} (j : Job) (cause : Nat) (hs : Keeps false z0 s) :
    Keeps false z0 (State.spireAssertion s j cause) := by
  unfold State.spireAssertion
  with_reducible repeat' first
    | assumption | intro _ | apply State.assertJob_keeps | split

theorem State.freeFlags_keeps {qt : Bool} {z0 s : State} (p : Spire) (hs : Keeps qt z0 s) :
    Keeps qt z0 (State.freeFlags s p).2 := by
  unfold State.freeFlags
  try dsimp only
  with_reducible repeat' first
    | assumption | intro _ | apply State.freeNat_keeps | apply KeepsSnd.ite | split | refine KeepsSnd.get ‹_› ?_
    | refine keeps_upd ?_ rfl (fun m => m)

theorem State.microWrite_keeps {z0 s : State} (j : Job) (n : Nat) (hs : Keeps false z0 s) :
    Keeps false z0 (State.microWrite s j n).1 := by
  unfold State.microWrite
  try dsimp only
  with_reducible repeat' first
    | assumption | intro _ | apply keeps_ite | apply State.freeNat_keeps | apply State.freeBytes_keeps
    | apply writeBufs_keeps | apply KeepsFst.ite | split | refine KeepsSnd.get ‹_› ?_ | refine KeepsFst.get ‹_› ?_

theorem State.microDma_keeps {z0 s : State} (j : Job) (op : Nat) (n : Nat) (hs : Keeps false z0 s) :
    Keeps false z0 (State.microDma s j op n).1 := by
  unfold State.microDma
  try dsimp only
  with_reducible repeat' first
    | assumption | intro _ | apply keeps_ite | apply State.microWrite_keeps | apply KeepsFst.ite | split
    | refine KeepsFst.get ‹_› ?_

theorem State.unitAct_keeps {z0 s : State} (j : Job) (p : Spire) (n : Nat) (k : State → Spire → State) (h_k : ∀ (a0 : State) (a1 : Spire), Keeps false z0 a0 → Keeps false z0 (k a0 a1)) (hs : Keeps false z0 s) :
    Keeps false z0 (State.unitAct s j p n k) := by
  unfold State.unitAct
  try dsimp only
  with_reducible repeat' first
    | assumption | intro _ | apply h_k | apply keeps_ite | apply State.freeNat_keeps | apply State.freeBool_keeps
    | apply State.releaseTargets_keeps | apply State.putJob_keeps | apply State.failJob_keeps
    | apply State.draw_keeps | apply State.drawMasks_keeps | apply State.needRng_keeps | apply State.withSlot_keeps
    | apply State.spireAssertion_keeps | apply State.freeFlags_keeps | apply State.microDma_keeps | split
    | refine KeepsSnd.get ‹_› ?_ | refine KeepsFst.get ‹_› ?_ | refine keeps_upd ?_ rfl (fun m => m)

theorem State.issue_keeps {z0 s : State} (j : Job) (w : Nat) (k : State → Job → Spire → State) (h_k : ∀ (a0 : State) (a1 : Job) (a2 : Spire), Keeps false z0 a0 → Keeps false z0 (k a0 a1 a2)) (hs : Keeps false z0 s) :
    Keeps false z0 (State.issue s j w k) := by
  unfold State.issue
  try dsimp only
  with_reducible repeat' first
    | assumption | intro _ | apply h_k | apply keeps_ite | apply State.spireAssertion_keeps
    | apply State.unitAct_keeps | split | refine keeps_upd ?_ rfl (fun m => m)

theorem State.advance_keeps {qt : Bool} {z0 s : State} (j : Job) (p : Spire) (w : Nat) (next : Nat) (hs : Keeps qt z0 s) :
    Keeps qt z0 (State.advance s j p w next) := by
  unfold State.advance
  try dsimp only
  with_reducible repeat' first
    | assumption | intro _ | apply keeps_ite | apply State.putJob_keeps | refine keeps_upd ?_ rfl (fun m => m)
    | split

theorem State.seqNext_keeps {z0 s : State} (e : Nat) (hs : Keeps false z0 s) :
    Keeps false z0 (State.seqNext s e) := by
  unfold State.seqNext
  try dsimp only
  with_reducible repeat' first
    | assumption | intro _ | apply State.atSpire_keeps | apply State.issue_keeps | apply State.advance_keeps | split

theorem State.seqCond_keeps {z0 s : State} (e : Nat) (q : Nat) (ext : Bool) (k : State → Job → Spire → Nat → Bool → State) (h_k : ∀ (a0 : State) (a1 : Job) (a2 : Spire) (a3 : Nat) (a4 : Bool), Keeps false z0 a0 → Keeps false z0 (k a0 a1 a2 a3 a4)) (hs : Keeps false z0 s) :
    Keeps false z0 (State.seqCond s e q ext k) := by
  unfold State.seqCond
  try dsimp only
  with_reducible repeat' first
    | assumption | intro _ | apply h_k | apply State.atSpire_keeps | apply State.spireAssertion_keeps
    | apply State.issue_keeps | split

theorem State.seqBr_keeps {z0 s : State} (e : Nat) (ext : Bool) (hs : Keeps false z0 s) :
    Keeps false z0 (State.seqBr s e ext) := by
  unfold State.seqBr
  try dsimp only
  with_reducible repeat' first
    | assumption | intro _ | apply keeps_ite | apply State.advance_keeps | apply State.seqCond_keeps | split

theorem State.seqCall_keeps {z0 s : State} (e : Nat) (ext : Bool) (hs : Keeps false z0 s) :
    Keeps false z0 (State.seqCall s e ext) := by
  unfold State.seqCall
  try dsimp only
  with_reducible repeat' first
    | assumption | intro _ | apply keeps_ite | apply State.spireAssertion_keeps | apply State.advance_keeps
    | apply State.seqCond_keeps | refine keeps_upd ?_ rfl (fun m => m) | split

theorem State.seqRet_keeps {z0 s : State} (e : Nat) (ext : Bool) (hs : Keeps false z0 s) :
    Keeps false z0 (State.seqRet s e ext) := by
  unfold State.seqRet
  try dsimp only
  with_reducible repeat' first
    | assumption | intro _ | apply keeps_ite | apply State.spireAssertion_keeps | apply State.advance_keeps
    | apply State.seqCond_keeps | split | refine keeps_upd ?_ rfl (fun m => m)

theorem State.seqDisp_keeps {z0 s : State} (e : Nat) (hs : Keeps false z0 s) :
    Keeps false z0 (State.seqDisp s e) := by
  unfold State.seqDisp
  try dsimp only
  with_reducible repeat' first
    | assumption | intro _ | apply State.atSpire_keeps | apply State.spireAssertion_keeps | apply State.issue_keeps
    | apply State.advance_keeps | split

theorem State.seqLoop_keeps {z0 s : State} (e : Nat) (hs : Keeps false z0 s) :
    Keeps false z0 (State.seqLoop s e) := by
  unfold State.seqLoop
  try dsimp only
  with_reducible repeat' first
    | assumption | intro _ | apply keeps_ite | apply State.atSpire_keeps | apply State.issue_keeps
    | apply State.advance_keeps | split

theorem State.seqWait_keeps {z0 s : State} (e : Nat) (ext : Bool) (hs : Keeps false z0 s) :
    Keeps false z0 (State.seqWait s e ext) := by
  unfold State.seqWait
  try dsimp only
  with_reducible repeat' first
    | assumption | intro _ | apply keeps_ite | apply State.putJob_keeps | apply State.advance_keeps
    | apply State.seqCond_keeps | refine keeps_upd ?_ rfl (fun m => m) | split

theorem State.seqWaitTaken_keeps {qt : Bool} {z0 s : State} (e : Nat) (hs : Keeps qt z0 s) :
    Keeps qt z0 (State.seqWaitTaken s e) := by
  unfold State.seqWaitTaken
  try dsimp only
  with_reducible repeat' first
    | assumption | intro _ | apply keeps_ite | apply State.atSpire_keeps | apply State.advance_keeps | split

theorem State.seqAssert_keeps {z0 s : State} (e : Nat) (ext : Bool) (hs : Keeps false z0 s) :
    Keeps false z0 (State.seqAssert s e ext) := by
  unfold State.seqAssert
  try dsimp only
  with_reducible repeat' first
    | assumption | intro _ | apply keeps_ite | apply State.spireAssertion_keeps | apply State.advance_keeps
    | apply State.seqCond_keeps | split

theorem State.capReached_keeps {z0 s : State} (e : Nat) (hs : Keeps false z0 s) :
    Keeps false z0 (State.capReached s e) := by
  unfold State.capReached
  try dsimp only
  with_reducible repeat' first
    | assumption | intro _ | apply keeps_ite | apply State.spireAssertion_keeps | split

theorem State.microSlot_keeps {qt : Bool} {z0 s : State} (j : Job) (t : Nat) (hs : Keeps qt z0 s) :
    Keeps qt z0 (State.microSlot s j t).2 := by
  unfold State.microSlot
  try dsimp only
  with_reducible repeat' first
    | assumption | intro _ | apply keeps_ite | apply State.freeBytes_keeps | apply KeepsSnd.ite | split
    | refine KeepsSnd.get ‹_› ?_

theorem State.microTargets_keeps {qt : Bool} {z0 s : State} (j : Job) (hs : Keeps qt z0 s) :
    Keeps qt z0 (State.microTargets s j) := by
  unfold State.microTargets
  try dsimp only
  with_reducible repeat' first
    | assumption | intro _ | apply State.releaseTargets_keeps | apply State.fillSlot_keeps
    | apply State.microSlot_keeps | split | refine KeepsSnd.get ‹_› ?_

theorem State.microDetail_keeps {qt : Bool} {z0 s : State} (j : Job) (dsel : Nat) (hs : Keeps qt z0 s) :
    Keeps qt z0 (State.microDetail s j dsel).2 := by
  unfold State.microDetail
  try dsimp only
  with_reducible repeat' first
    | assumption | intro _ | apply State.freeNat_keeps | apply KeepsOpt.getD | apply KeepsSnd.ite | split
    | refine KeepsSnd.get ‹_› ?_

theorem State.microDone_keeps {z0 s : State} (j : Job) (n : Nat) (hs : Keeps false z0 s) :
    Keeps false z0 (State.microDone s j n) := by
  unfold State.microDone
  try dsimp only
  with_reducible repeat' first
    | assumption | intro _ | apply keeps_ite | apply State.freeNat_keeps | apply State.finishJob_keeps
    | apply State.failJob_keeps | apply State.treeBuilt_keeps | apply State.microTargets_keeps
    | apply State.microDetail_keeps | split | refine KeepsSnd.get ‹_› ?_

theorem State.seqDone_keeps {z0 s : State} (e : Nat) (hs : Keeps false z0 s) :
    Keeps false z0 (State.seqDone s e) := by
  unfold State.seqDone
  try dsimp only
  with_reducible repeat' first
    | assumption | intro _ | apply State.takeAbort_keeps | apply State.atSpire_keeps | apply State.issue_keeps
    | apply State.microDone_keeps | refine keeps_upd ?_ rfl (fun m => m) | split

theorem execSpireNext_keeps (e : Fin 48) {s : State} {sn : State} (he : execSpireNext e s = .next sn) : Keeps false s sn := by
  unfold execSpireNext at he
  injection he with he
  subst he
  have h0 := Keeps.refl false s
  with_reducible repeat' first
    | assumption | intro _ | apply State.seqNext_keeps | split

theorem execSpireBr_keeps (e : Fin 48) (ext : Bool) {s : State} {sn : State} (he : execSpireBr e ext s = .next sn) : Keeps false s sn := by
  unfold execSpireBr at he
  injection he with he
  subst he
  have h0 := Keeps.refl false s
  with_reducible repeat' first
    | assumption | intro _ | apply State.seqBr_keeps | split

theorem execSpireCall_keeps (e : Fin 48) (ext : Bool) {s : State} {sn : State} (he : execSpireCall e ext s = .next sn) : Keeps false s sn := by
  unfold execSpireCall at he
  injection he with he
  subst he
  have h0 := Keeps.refl false s
  with_reducible repeat' first
    | assumption | intro _ | apply State.seqCall_keeps | split

theorem execSpireRet_keeps (e : Fin 48) (ext : Bool) {s : State} {sn : State} (he : execSpireRet e ext s = .next sn) : Keeps false s sn := by
  unfold execSpireRet at he
  injection he with he
  subst he
  have h0 := Keeps.refl false s
  with_reducible repeat' first
    | assumption | intro _ | apply State.seqRet_keeps | split

theorem execSpireDisp_keeps (e : Fin 48) {s : State} {sn : State} (he : execSpireDisp e s = .next sn) : Keeps false s sn := by
  unfold execSpireDisp at he
  injection he with he
  subst he
  have h0 := Keeps.refl false s
  with_reducible repeat' first
    | assumption | intro _ | apply State.seqDisp_keeps | split

theorem execSpireLoop_keeps (e : Fin 48) {s : State} {sn : State} (he : execSpireLoop e s = .next sn) : Keeps false s sn := by
  unfold execSpireLoop at he
  injection he with he
  subst he
  have h0 := Keeps.refl false s
  with_reducible repeat' first
    | assumption | intro _ | apply State.seqLoop_keeps | split

theorem execSpireWait_keeps (e : Fin 48) (ext : Bool) {s : State} {sn : State} (he : execSpireWait e ext s = .next sn) : Keeps false s sn := by
  unfold execSpireWait at he
  injection he with he
  subst he
  have h0 := Keeps.refl false s
  with_reducible repeat' first
    | assumption | intro _ | apply State.seqWait_keeps | split

theorem execSpireWaitTaken_keeps {qt : Bool} (e : Fin 48) {s : State} {sn : State} (he : execSpireWaitTaken e s = .next sn) : Keeps qt s sn := by
  unfold execSpireWaitTaken at he
  injection he with he
  subst he
  have h0 := Keeps.refl qt s
  with_reducible repeat' first
    | assumption | intro _ | apply State.seqWaitTaken_keeps | split

theorem execSpireDone_keeps (e : Fin 48) {s : State} {sn : State} (he : execSpireDone e s = .next sn) : Keeps false s sn := by
  unfold execSpireDone at he
  injection he with he
  subst he
  have h0 := Keeps.refl false s
  with_reducible repeat' first
    | assumption | intro _ | apply State.seqDone_keeps | split

theorem execSpireAssert_keeps (e : Fin 48) (ext : Bool) {s : State} {sn : State} (he : execSpireAssert e ext s = .next sn) : Keeps false s sn := by
  unfold execSpireAssert at he
  injection he with he
  subst he
  have h0 := Keeps.refl false s
  with_reducible repeat' first
    | assumption | intro _ | apply State.seqAssert_keeps | split

theorem execBoundaryCap_keeps (e : Fin 48) {s : State} {sn : State} (he : execBoundaryCap e s = .next sn) : Keeps false s sn := by
  unfold execBoundaryCap at he
  injection he with he
  subst he
  have h0 := Keeps.refl false s
  with_reducible repeat' first
    | assumption | intro _ | apply State.capReached_keeps | split

theorem State.ucodeWrite_keeps {qt : Bool} {z0 s : State} (q : Nat) (hs : Keeps qt z0 s) :
    Keeps qt z0 (State.ucodeWrite s q) := by
  unfold State.ucodeWrite
  try dsimp only
  with_reducible repeat' first
    | assumption | intro _ | apply keeps_ite | apply State.put_keeps | apply State.set_keeps
    | apply State.putQuad_keeps | split

theorem State.armQuad_keeps {qt : Bool} {z0 s : State} (q : Nat) (hs : Keeps qt z0 s) :
    Keeps qt z0 (State.armQuad s q) := by
  unfold State.armQuad
  with_reducible repeat' first
    | assumption | intro _ | apply State.set_keeps | apply State.putB_keeps | split

theorem State.clearQuad_keeps {qt : Bool} {z0 s : State} (q : Nat) (hs : Keeps qt z0 s) :
    Keeps qt z0 (State.clearQuad s q) := by
  unfold State.clearQuad
  try dsimp only
  with_reducible repeat' first
    | assumption | intro _ | apply State.wr_keeps | apply State.clr_keeps | apply State.putQuad_keeps | split

theorem State.ucodeCtlWrite_keeps {qt : Bool} {z0 s : State} (q : Nat) (v : Word) (hs : Keeps qt z0 s) :
    Keeps qt z0 (State.ucodeCtlWrite s q v) := by
  unfold State.ucodeCtlWrite
  try dsimp only
  with_reducible repeat' first
    | assumption | intro _ | apply keeps_ite | apply State.set_keeps | apply State.clr_keeps
    | apply State.armQuad_keeps | split

theorem State.putDigest_keeps {qt : Bool} {z0 s : State} (q : Nat) (b : List Byte) (hs : Keeps qt z0 s) :
    Keeps qt z0 (State.putDigest s q b) := by
  unfold State.putDigest
  try dsimp only
  with_reducible repeat' first
    | assumption | intro _ | apply State.wr_keeps | apply keeps_foldl | apply keeps_foldl_fst | split

theorem State.digestDone_keeps {qt : Bool} {z0 s : State} (q : Nat) (hs : Keeps qt z0 s) :
    Keeps qt z0 (State.digestDone s q) := by
  unfold State.digestDone
  try dsimp only
  with_reducible repeat' first
    | assumption | intro _ | apply keeps_ite | apply State.set_keeps | apply State.clr_keeps
    | apply State.putDigest_keeps | split

theorem State.abandonBundle_keeps {qt : Bool} {z0 s : State} (hs : Keeps qt z0 s) :
    Keeps qt z0 (State.abandonBundle s) := by
  unfold State.abandonBundle
  try dsimp only
  with_reducible repeat' first
    | assumption | intro _ | apply keeps_ite | apply State.set_keeps | apply State.almanac_keeps
    | apply State.armQuad_keeps | apply State.clearQuad_keeps | apply keeps_foldl | apply keeps_foldl_fst | split

theorem State.storeError_keeps {z0 s : State} (e : Nat) (uncorr : Bool) (addr : Nat) (hs : Keeps false z0 s) :
    Keeps false z0 (State.storeError s e uncorr addr) := by
  unfold State.storeError
  try dsimp only
  with_reducible repeat' first
    | assumption | intro _ | apply keeps_ite | apply State.report_keeps | apply State.withdrawEngine_keeps | split

theorem execUcodeQWr_keeps {qt : Bool} (r : Req) (q : Fin 4) (_v : Word) {s : State} {sn : State} (he : execUcodeQWr r q _v s = .next sn) : Keeps qt s sn := by
  unfold execUcodeQWr at he
  injection he with he
  subst he
  have h0 := Keeps.refl qt s
  with_reducible repeat' first
    | assumption | intro _ | apply State.gateW_keeps | apply State.ucodeWrite_keeps | split

theorem execUcodeArm_keeps {qt : Bool} (r : Req) (q : Fin 4) (v : Word) {s : State} {sn : State} (he : execUcodeArm r q v s = .next sn) : Keeps qt s sn := by
  unfold execUcodeArm at he
  injection he with he
  subst he
  have h0 := Keeps.refl qt s
  with_reducible repeat' first
    | assumption | intro _ | apply State.gateW_keeps | apply State.ucodeCtlWrite_keeps | split

theorem execUcodeQClear_keeps {qt : Bool} (r : Req) (q : Fin 4) (v : Word) {s : State} {sn : State} (he : execUcodeQClear r q v s = .next sn) : Keeps qt s sn := by
  unfold execUcodeQClear at he
  injection he with he
  subst he
  have h0 := Keeps.refl qt s
  with_reducible repeat' first
    | assumption | intro _ | apply State.gateW_keeps | apply State.ucodeCtlWrite_keeps | split

theorem execUcodeQClearDone_keeps {qt : Bool} (q : Fin 4) {s : State} {sn : State} (he : execUcodeQClearDone q s = .next sn) : Keeps qt s sn := by
  unfold execUcodeQClearDone at he
  injection he with he
  subst he
  have h0 := Keeps.refl qt s
  with_reducible repeat' first
    | assumption | intro _ | apply keeps_ite | apply State.clearQuad_keeps | split

theorem execDigestStart_keeps {qt : Bool} (r : Req) (q : Fin 4) (v : Word) {s : State} {sn : State} (he : execDigestStart r q v s = .next sn) : Keeps qt s sn := by
  unfold execDigestStart at he
  injection he with he
  subst he
  have h0 := Keeps.refl qt s
  with_reducible repeat' first
    | assumption | intro _ | apply State.gateW_keeps | apply State.ucodeCtlWrite_keeps | split

theorem execDigestComplete_keeps {qt : Bool} (q : Fin 4) {s : State} {sn : State} (he : execDigestComplete q s = .next sn) : Keeps qt s sn := by
  unfold execDigestComplete at he
  injection he with he
  subst he
  have h0 := Keeps.refl qt s
  with_reducible repeat' first
    | assumption | intro _ | apply State.digestDone_keeps | split

theorem execBundleAbandon_keeps {qt : Bool} {s : State} {sn : State} (he : execBundleAbandon s = .next sn) : Keeps qt s sn := by
  unfold execBundleAbandon at he
  injection he with he
  subst he
  have h0 := Keeps.refl qt s
  with_reducible repeat' first
    | assumption | intro _ | apply keeps_ite | apply State.abandonBundle_keeps | split

theorem execControlStoreEccError_keeps (e : Fin 48) (uncorr : Bool) (addr : BitVec 40) {s : State} {sn : State} (he : execControlStoreEccError e uncorr addr s = .next sn) : Keeps false s sn := by
  unfold execControlStoreEccError at he
  injection he with he
  subst he
  have h0 := Keeps.refl false s
  with_reducible repeat' first
    | assumption | intro _ | apply keeps_ite | apply State.storeError_keeps | split

theorem execUcsScrub_keeps {qt : Bool} (q : Fin 4) {s : State} {sn : State} (he : execUcsScrub q s = .next sn) : Keeps qt s sn := by
  unfold execUcsScrub at he
  injection he with he
  subst he
  have h0 := Keeps.refl qt s
  with_reducible repeat' first
    | assumption | intro _ | apply keeps_ite | apply State.putQuad_keeps | split

theorem State.enqueuePort_keeps {qt : Bool} {z0 s : State} (f : FrameSt) (bs : List Byte) (hs : Keeps qt z0 s) :
    Keeps qt z0 (State.enqueuePort s f bs) := by
  unfold State.enqueuePort
  try dsimp only
  with_reducible repeat' first
    | assumption | intro _ | apply keeps_ite | apply State.putFrame_keeps | apply State.dropFrame_keeps
    | refine keeps_upd ?_ rfl (fun m => m) | split

theorem State.svcSend_keeps {qt : Bool} {z0 s : State} (p : Nat) (bs : List Byte) (hs : Keeps qt z0 s) :
    Keeps qt z0 (State.svcSend s p bs) := by
  unfold State.svcSend
  try dsimp only
  with_reducible repeat' first
    | assumption | intro _ | apply keeps_ite | apply State.addFrame_keeps | apply State.enqueuePort_keeps
    | refine keeps_upd ?_ rfl (fun m => m) | split

theorem State.deliverSvc_keeps {qt : Bool} {z0 s : State} (f : FrameSt) (hs : Keeps qt z0 s) :
    Keeps qt z0 (State.deliverSvc s f) := by
  unfold State.deliverSvc
  try dsimp only
  with_reducible repeat' first
    | assumption | intro _ | apply keeps_ite | apply State.removeFrame_keeps | apply State.dropFrame_keeps
    | apply State.svcSend_keeps | split | refine keeps_upd ?_ rfl (fun m => m)

theorem State.enqueue_keeps {qt : Bool} {z0 s : State} (f : FrameSt) (bs : List Byte) (hs : Keeps qt z0 s) :
    Keeps qt z0 (State.enqueue s f bs) := by
  unfold State.enqueue
  try dsimp only
  with_reducible repeat' first
    | assumption | intro _ | apply keeps_ite | apply State.enqueuePort_keeps | apply State.deliverSvc_keeps
    | refine keeps_upd ?_ rfl (fun m => m) | split

theorem State.sendOn_keeps {qt : Bool} {z0 s : State} (id : Nat) (bs : List Byte) (hs : Keeps qt z0 s) :
    Keeps qt z0 (State.sendOn s id bs) := by
  unfold State.sendOn
  try dsimp only
  with_reducible repeat' first
    | assumption | intro _ | apply State.enqueue_keeps | split

theorem State.advanceTx_keeps {qt : Bool} {z0 s : State} (c : Nat) (n : Nat) (len : Nat) (hs : Keeps qt z0 s) :
    Keeps qt z0 (State.advanceTx s c n len) := by
  unfold State.advanceTx
  try dsimp only
  with_reducible repeat' first
    | assumption | intro _ | apply keeps_ite | apply State.commitBegin_keeps | apply State.commitCtx_keeps
    | apply State.switchPair_keeps | apply State.saEvent_keeps | split

theorem State.commitTx_keeps {qt : Bool} {z0 s : State} (f : FrameSt) (p : Parsed) (hs : Keeps qt z0 s) :
    Keeps qt z0 (State.commitTx s f p) := by
  unfold State.commitTx
  try dsimp only
  with_reducible repeat' first
    | assumption | intro _ | apply keeps_ite | apply State.commit1_keeps | apply State.dropFrame_keeps
    | apply State.recordFrame_keeps | apply State.noteCtx_keeps | apply State.sendOn_keeps
    | apply State.advanceTx_keeps | split

theorem State.finishRx_keeps {qt : Bool} {z0 s : State} (f : FrameSt) (hs : Keeps qt z0 s) :
    Keeps qt z0 (State.finishRx s f) := by
  unfold State.finishRx
  with_reducible repeat' first
    | assumption | intro _ | apply keeps_ite | apply State.dropFrame_keeps | apply State.recordFrame_keeps
    | apply State.sendOn_keeps | split

theorem State.commitRx_keeps {qt : Bool} {z0 s : State} (f : FrameSt) (hs : Keeps qt z0 s) :
    Keeps qt z0 (State.commitRx s f) := by
  unfold State.commitRx
  try dsimp only
  with_reducible repeat' first
    | assumption | intro _ | apply keeps_ite | apply State.commitBegin_keeps | apply State.commitCtx_keeps
    | apply State.switchPair_keeps | apply State.dropIn_keeps | apply State.finishRx_keeps | split

theorem State.commitGroup_keeps {qt : Bool} {z0 s : State} (f : FrameSt) (order : Nat) (hs : Keeps qt z0 s) :
    Keeps qt z0 (State.commitGroup s f order) := by
  unfold State.commitGroup
  try dsimp only
  with_reducible repeat' first
    | assumption | intro _ | apply keeps_ite | apply State.commit1_keeps | apply State.flowPut_keeps
    | apply State.dropFrame_keeps | apply State.dropIn_keeps | apply State.finishRx_keeps | split

theorem State.commitUnprotect_keeps {qt : Bool} {z0 s : State} (f : FrameSt) (hs : Keeps qt z0 s) :
    Keeps qt z0 (State.commitUnprotect s f) := by
  unfold State.commitUnprotect
  try dsimp only
  with_reducible repeat' first
    | assumption | intro _ | apply keeps_ite | apply State.dropFrame_keeps | apply State.commitRx_keeps
    | apply State.commitGroup_keeps | split

theorem State.commitPlain_keeps {qt : Bool} {z0 s : State} (f : FrameSt) (hs : Keeps qt z0 s) :
    Keeps qt z0 (State.commitPlain s f) := by
  unfold State.commitPlain
  try dsimp only
  with_reducible repeat' first
    | assumption | intro _ | apply keeps_ite | apply State.commitBegin_keeps | apply State.dropFrame_keeps
    | apply State.recordFrame_keeps | apply State.sendOn_keeps | split

theorem State.commitFrame_keeps {qt : Bool} {z0 s : State} (f : FrameSt) (hs : Keeps qt z0 s) :
    Keeps qt z0 (State.commitFrame s f) := by
  unfold State.commitFrame
  try dsimp only
  with_reducible repeat' first
    | assumption | intro _ | apply keeps_ite | apply State.dropFrame_keeps | apply State.commitTx_keeps
    | apply State.commitUnprotect_keeps | apply State.commitPlain_keeps | split

theorem State.dataPath_keeps {qt : Bool} {z0 s : State} (id : Nat) (hs : Keeps qt z0 s) :
    Keeps qt z0 (State.dataPath s id) := by
  unfold State.dataPath
  try dsimp only
  with_reducible repeat' first
    | assumption | intro _ | apply keeps_ite | apply State.commitFrame_keeps | split

theorem State.correct_keeps {qt : Bool} {z0 s : State} (f : FrameSt) (hs : Keeps qt z0 s) :
    Keeps qt z0 (State.correct s f).2 := by
  unfold State.correct
  try dsimp only
  with_reducible repeat' first
    | assumption | intro _ | apply keeps_ite | apply State.inc_keeps | apply KeepsSnd.ite | split
    | refine keeps_upd ?_ rfl (fun m => m)

theorem State.depart_keeps {qt : Bool} {z0 s : State} (f : FrameSt) (hs : Keeps qt z0 s) :
    Keeps qt z0 (State.depart s f) := by
  unfold State.depart
  try dsimp only
  with_reducible repeat' first
    | assumption | intro _ | apply keeps_ite | apply State.removeFrame_keeps | apply State.transmit_keeps
    | apply State.receive_keeps | apply State.correct_keeps | split | refine KeepsSnd.get ‹_› ?_

theorem State.frameOut_keeps {qt : Bool} {z0 s : State} (id : Nat) (chk : Check) (hs : Keeps qt z0 s) :
    Keeps qt z0 (State.frameOut s id chk) := by
  unfold State.frameOut
  try dsimp only
  with_reducible repeat' first
    | assumption | intro _ | apply keeps_ite | apply State.freeNat_keeps | apply State.report_keeps
    | apply State.dropFrame_keeps | apply State.depart_keeps | split | refine KeepsSnd.get ‹_› ?_

theorem State.setTimeState_keeps {qt : Bool} {z0 s : State} (locked : Bool) (hold : Bool) (hs : Keeps qt z0 s) :
    Keeps qt z0 (State.setTimeState s locked hold) := by
  unfold State.setTimeState
  with_reducible repeat' first
    | assumption | intro _ | apply keeps_ite | apply State.putB_keeps | apply State.raise_keeps | split

theorem State.setLock_keeps {qt : Bool} {z0 s : State} (b : Bool) (hs : Keeps qt z0 s) :
    Keeps qt z0 (State.setLock s b) := by
  unfold State.setLock
  try dsimp only
  with_reducible repeat' first
    | assumption | intro _ | apply keeps_ite | apply State.putB_keeps | apply State.setTimeState_keeps
    | refine keeps_upd ?_ rfl (fun m => m) | split

theorem State.holdoverEnd_keeps {qt : Bool} {z0 s : State} (hs : Keeps qt z0 s) :
    Keeps qt z0 (State.holdoverEnd s) := by
  unfold State.holdoverEnd
  try dsimp only
  with_reducible repeat' first
    | assumption | intro _ | apply keeps_ite | apply State.setTimeState_keeps | split

theorem State.ptpCapture_keeps {qt : Bool} {z0 s : State} (hs : Keeps qt z0 s) :
    Keeps qt z0 (State.ptpCapture s) := by
  unfold State.ptpCapture
  try dsimp only
  with_reducible repeat' first
    | assumption | intro _ | apply State.wr_keeps | apply State.put_keeps | split

theorem State.ptpApply_keeps {qt : Bool} {z0 s : State} (hs : Keeps qt z0 s) :
    Keeps qt z0 (State.ptpApply s) := by
  unfold State.ptpApply
  try dsimp only
  with_reducible repeat' first
    | assumption | intro _ | refine keeps_upd ?_ rfl (fun m => m) | split

theorem State.ptpCtlWrite_keeps {qt : Bool} {z0 s : State} (r : Req) (v : Word) (hs : Keeps qt z0 s) :
    Keeps qt z0 (State.ptpCtlWrite s r v) := by
  unfold State.ptpCtlWrite
  try dsimp only
  with_reducible repeat' first
    | assumption | intro _ | apply keeps_ite | apply State.denied_keeps | apply State.setLock_keeps
    | apply State.ptpCapture_keeps | apply State.ptpApply_keeps | split

theorem State.ptpAdjWrite_keeps {qt : Bool} {z0 s : State} (r : Req) (v : Word) (hs : Keeps qt z0 s) :
    Keeps qt z0 (State.ptpAdjWrite s r v) := by
  unfold State.ptpAdjWrite
  try dsimp only
  with_reducible repeat' first
    | assumption | intro _ | apply keeps_ite | apply State.wr_keeps | apply State.denied_keeps | split

theorem State.ptpStepWrite_keeps {qt : Bool} {z0 s : State} (r : Req) (v : Word) (hs : Keeps qt z0 s) :
    Keeps qt z0 (State.ptpStepWrite s r v) := by
  unfold State.ptpStepWrite
  with_reducible repeat' first
    | assumption | intro _ | apply keeps_ite | apply State.wr_keeps | apply State.denied_keeps | split

theorem State.freshWrite_keeps {qt : Bool} {z0 s : State} (v : Word) (hs : Keeps qt z0 s) :
    Keeps qt z0 (State.freshWrite s v) := by
  unfold State.freshWrite
  try dsimp only
  with_reducible repeat' first
    | assumption | intro _ | apply keeps_ite | apply State.wrGeneric_keeps | split

theorem State.rgWrite_keeps {qt : Bool} {z0 s : State} (g : Nat) (v : Word) (hs : Keeps qt z0 s) :
    Keeps qt z0 (State.rgWrite s g v) := by
  unfold State.rgWrite
  try dsimp only
  with_reducible repeat' first
    | assumption | intro _ | apply keeps_ite | apply State.wrGeneric_keeps | apply State.putRecords_keeps | split

theorem State.saevtTake_keeps {qt : Bool} {z0 s : State} (hs : Keeps qt z0 s) :
    Keeps qt z0 (State.saevtTake s) := by
  unfold State.saevtTake
  try dsimp only
  with_reducible repeat' first
    | assumption | intro _ | apply State.level_keeps | split | refine keeps_upd ?_ rfl (fun m => m)

theorem State.ageFlow_keeps {qt : Bool} {z0 s : State} (i : Nat) (hs : Keeps qt z0 s) :
    Keeps qt z0 (State.ageFlow s i) := by
  unfold State.ageFlow
  try dsimp only
  with_reducible repeat' first
    | assumption | intro _ | apply keeps_ite | apply State.dropFlow_keeps | apply State.pushSaevt_keeps | split

theorem State.forget_keeps {qt : Bool} {z0 s : State} (g : Nat) (k : Nat) (hs : Keeps qt z0 s) :
    Keeps qt z0 (State.forget s g k) := by
  unfold State.forget
  try dsimp only
  with_reducible repeat' first
    | assumption | intro _ | apply keeps_ite | apply State.putRecords_keeps | split

theorem execFrameIngress_keeps {qt : Bool} (p : Fin 16) (bytes : List Byte) (rx : RxInfo) {s : State} {sn : State} (he : execFrameIngress p bytes rx s = .next sn) : Keeps qt s sn := by
  unfold execFrameIngress at he
  injection he with he
  subst he
  have h0 := Keeps.refl qt s
  with_reducible repeat' first
    | assumption | intro _ | apply State.ingress_keeps | split

theorem execDataPathAdvance_keeps {qt : Bool} (f : Nat) {s : State} {sn : State} (he : execDataPathAdvance f s = .next sn) : Keeps qt s sn := by
  unfold execDataPathAdvance at he
  injection he with he
  subst he
  have h0 := Keeps.refl qt s
  with_reducible repeat' first
    | assumption | intro _ | apply State.dataPath_keeps | split

theorem execFrameEgress_keeps {qt : Bool} (f : Nat) (chk : Check) {s : State} {sn : State} (he : execFrameEgress f chk s = .next sn) : Keeps qt s sn := by
  unfold execFrameEgress at he
  injection he with he
  subst he
  have h0 := Keeps.refl qt s
  with_reducible repeat' first
    | assumption | intro _ | apply State.frameOut_keeps | split

theorem execPtpHoldTimeout_keeps {qt : Bool} (f : Nat) {s : State} {sn : State} (he : execPtpHoldTimeout f s = .next sn) : Keeps qt s sn := by
  unfold execPtpHoldTimeout at he
  injection he with he
  subst he
  have h0 := Keeps.refl qt s
  try dsimp only
  with_reducible repeat' first
    | assumption | intro _ | apply keeps_ite | apply State.dropUnlocked_keeps | split

theorem execTimeAvailable_keeps {qt : Bool} {s : State} {sn : State} (he : execTimeAvailable s = .next sn) : Keeps qt s sn := by
  unfold execTimeAvailable at he
  injection he with he
  subst he
  have h0 := Keeps.refl qt s
  with_reducible repeat' first
    | assumption | intro _ | apply State.releaseHeld_keeps | split

theorem execFlowAging_keeps {qt : Bool} (k : Nat) {s : State} {sn : State} (he : execFlowAging k s = .next sn) : Keeps qt s sn := by
  unfold execFlowAging at he
  injection he with he
  subst he
  have h0 := Keeps.refl qt s
  with_reducible repeat' first
    | assumption | intro _ | apply State.ageFlow_keeps | split

theorem execRecordForget_keeps {qt : Bool} (g : Fin 8) (k : Nat) {s : State} {sn : State} (he : execRecordForget g k s = .next sn) : Keeps qt s sn := by
  unfold execRecordForget at he
  injection he with he
  subst he
  have h0 := Keeps.refl qt s
  with_reducible repeat' first
    | assumption | intro _ | apply State.forget_keeps | split

theorem execRgWrite_keeps {qt : Bool} (r : Req) (g : Fin 8) (v : Word) {s : State} {sn : State} (he : execRgWrite r g v s = .next sn) : Keeps qt s sn := by
  unfold execRgWrite at he
  injection he with he
  subst he
  have h0 := Keeps.refl qt s
  with_reducible repeat' first
    | assumption | intro _ | apply State.gateW_keeps | apply State.rgWrite_keeps | split

theorem execSaevtRead_keeps {qt : Bool} (r : Req) {s : State} {sn : State} (he : execSaevtRead r s = .next sn) : Keeps qt s sn := by
  unfold execSaevtRead at he
  injection he with he
  subst he
  have h0 := Keeps.refl qt s
  with_reducible repeat' first
    | assumption | intro _ | apply State.gateR_keeps | apply State.saevtTake_keeps | split

theorem execPtpSnap_keeps {qt : Bool} (r : Req) (v : Word) {s : State} {sn : State} (he : execPtpSnap r v s = .next sn) : Keeps qt s sn := by
  unfold execPtpSnap at he
  injection he with he
  subst he
  have h0 := Keeps.refl qt s
  with_reducible repeat' first
    | assumption | intro _ | apply State.gateW_keeps | apply State.ptpCtlWrite_keeps | split

theorem execPtpStep_keeps {qt : Bool} (r : Req) (v : Word) {s : State} {sn : State} (he : execPtpStep r v s = .next sn) : Keeps qt s sn := by
  unfold execPtpStep at he
  injection he with he
  subst he
  have h0 := Keeps.refl qt s
  with_reducible repeat' first
    | assumption | intro _ | apply State.gateW_keeps | apply State.ptpCtlWrite_keeps | split

theorem execLockSet_keeps {qt : Bool} (r : Req) (set : Bool) {s : State} {sn : State} (he : execLockSet r set s = .next sn) : Keeps qt s sn := by
  unfold execLockSet at he
  injection he with he
  subst he
  have h0 := Keeps.refl qt s
  with_reducible repeat' first
    | assumption | intro _ | apply keeps_ite | apply State.gateW_keeps | apply State.ptpCtlWrite_keeps | split

theorem execHoldoverExpiry_keeps {qt : Bool} {s : State} {sn : State} (he : execHoldoverExpiry s = .next sn) : Keeps qt s sn := by
  unfold execHoldoverExpiry at he
  injection he with he
  subst he
  have h0 := Keeps.refl qt s
  with_reducible repeat' first
    | assumption | intro _ | apply State.holdoverEnd_keeps | split

theorem execSvcFrameTx_keeps {qt : Bool} (p : Fin 16) (bytes : List Byte) {s : State} {sn : State} (he : execSvcFrameTx p bytes s = .next sn) : Keeps qt s sn := by
  unfold execSvcFrameTx at he
  injection he with he
  subst he
  have h0 := Keeps.refl qt s
  with_reducible repeat' first
    | assumption | intro _ | apply State.svcSend_keeps | split

end Sys2Proof.Machine
end

