-- ==== Sys2Proof/Laws/KeepsControl.lean ====
section
/-! SUPPORT. What the operations of clocks and power, life cycle, Vigil, mailboxes, register accesses and boot keep. -/

namespace Sys2Proof.Machine

set_option linter.unusedTactic false
set_option linter.unreachableTactic false
set_option linter.unusedVariables false

theorem State.clockLive_keeps {qt : Bool} {z0 s : State} (hs : Keeps qt z0 s) :
    Keeps qt z0 (State.clockLive s) := by
  unfold State.clockLive
  with_reducible repeat' first
    | assumption | intro _ | apply State.setLive_keeps | split

theorem State.clockLost_keeps {z0 s : State} (c : Nat) (hs : Keeps false z0 s) :
    Keeps false z0 (State.clockLost s c) := by
  unfold State.clockLost
  try dsimp only
  with_reducible repeat' first
    | assumption | intro _ | apply keeps_ite | apply State.set_keeps | apply State.clr_keeps
    | apply State.setLink_keeps | apply State.disconnect_keeps | apply State.resetHost_keeps
    | apply State.linkDown_keeps | apply State.setLock_keeps | apply keeps_foldl | apply keeps_foldl_fst | split
    | refine keeps_upd ?_ rfl (fun m => m)

theorem State.clockFailure_keeps {z0 s : State} (c : Nat) (hs : Keeps false z0 s) :
    Keeps false z0 (State.clockFailure s c) := by
  unfold State.clockFailure
  try dsimp only
  with_reducible repeat' first
    | assumption | intro _ | apply keeps_ite | apply State.put_keeps | apply State.inc_keeps
    | apply State.raise_keeps | apply State.report_keeps | apply State.clockLive_keeps | apply State.clockLost_keeps
    | refine keeps_upd ?_ rfl (fun m => m) | split

theorem State.clockBack_keeps {qt : Bool} {z0 s : State} (c : Nat) (hs : Keeps qt z0 s) :
    Keeps qt z0 (State.clockBack s c) := by
  unfold State.clockBack
  try dsimp only
  with_reducible repeat' first
    | assumption | intro _ | apply keeps_ite | apply State.set_keeps | apply State.clockLive_keeps
    | refine keeps_upd ?_ rfl (fun m => m) | split

theorem State.hbmLost_keeps {z0 s : State} (hs : Keeps false z0 s) :
    Keeps false z0 (State.hbmLost s) := by
  unfold State.hbmLost
  try dsimp only
  with_reducible repeat' first
    | assumption | intro _ | apply keeps_ite | apply State.put_keeps | apply State.systemReset_keeps | split

theorem State.ckgSelWrite_keeps {qt : Bool} {z0 s : State} (v : Word) (hs : Keeps qt z0 s) :
    Keeps qt z0 (State.ckgSelWrite s v) := by
  unfold State.ckgSelWrite
  try dsimp only
  with_reducible repeat' first
    | assumption | intro _ | apply keeps_ite | apply State.put_keeps | apply State.set_keeps | apply State.putB_keeps
    | apply State.raise_keeps | split | refine keeps_upd ?_ rfl (fun m => m)

theorem State.ckgCbusWrite_keeps {qt : Bool} {z0 s : State} (v : Word) (hs : Keeps qt z0 s) :
    Keeps qt z0 (State.ckgCbusWrite s v) := by
  unfold State.ckgCbusWrite
  try dsimp only
  with_reducible repeat' first
    | assumption | intro _ | apply keeps_ite | apply State.wrGeneric_keeps | split

theorem State.pwrCfgWrite_keeps {qt : Bool} {z0 s : State} (v : Word) (hs : Keeps qt z0 s) :
    Keeps qt z0 (State.pwrCfgWrite s v) := by
  unfold State.pwrCfgWrite
  try dsimp only
  with_reducible repeat' first
    | assumption | intro _ | apply keeps_ite | apply State.wrGeneric_keeps | split

theorem State.paceTgtWrite_keeps {qt : Bool} {z0 s : State} (v : Word) (hs : Keeps qt z0 s) :
    Keeps qt z0 (State.paceTgtWrite s v) := by
  unfold State.paceTgtWrite
  try dsimp only
  with_reducible repeat' first
    | assumption | intro _ | apply keeps_ite | apply State.wrGeneric_keeps | split

theorem State.thermWrite_keeps {qt : Bool} {z0 s : State} (v : Word) (hs : Keeps qt z0 s) :
    Keeps qt z0 (State.thermWrite s v) := by
  unfold State.thermWrite
  try dsimp only
  with_reducible repeat' first
    | assumption | intro _ | apply keeps_ite | apply State.wrGeneric_keeps | split

theorem State.restartGovernor_keeps {qt : Bool} {z0 s : State} (hs : Keeps qt z0 s) :
    Keeps qt z0 (State.restartGovernor s) := by
  unfold State.restartGovernor
  try dsimp only
  with_reducible repeat' first
    | assumption | intro _ | apply State.clr_keeps | refine keeps_upd ?_ rfl (fun m => m) | split

theorem State.paceReady_keeps {qt : Bool} {z0 s : State} (idx : Nat) (mon : Nat) (hs : Keeps qt z0 s) :
    Keeps qt z0 (State.paceReady s idx mon) := by
  unfold State.paceReady
  try dsimp only
  with_reducible repeat' first
    | assumption | intro _ | apply keeps_ite | apply State.putB_keeps | refine keeps_upd ?_ rfl (fun m => m) | split

theorem State.governorStep_keeps {qt : Bool} {z0 s : State} (idx : Nat) (mon : Nat) (hs : Keeps qt z0 s) :
    Keeps qt z0 (State.governorStep s idx mon) := by
  unfold State.governorStep
  try dsimp only
  with_reducible repeat' first
    | assumption | intro _ | apply keeps_ite | apply State.clr_keeps | apply State.freeNat_keeps | split
    | refine KeepsSnd.get ‹_› ?_ | refine keeps_upd ?_ rfl (fun m => m)

theorem State.paceLow_keeps {qt : Bool} {z0 s : State} (hs : Keeps qt z0 s) :
    Keeps qt z0 (State.paceLow s) := by
  unfold State.paceLow
  with_reducible repeat' first
    | assumption | intro _ | apply keeps_ite | apply State.set_keeps | apply State.raise_keeps
    | apply State.boostExit_keeps | split

theorem State.avsFail_keeps {qt : Bool} {z0 s : State} (hs : Keeps qt z0 s) :
    Keeps qt z0 (State.avsFail s) := by
  unfold State.avsFail
  try dsimp only
  with_reducible repeat' first
    | assumption | intro _ | apply keeps_ite | apply State.set_keeps | apply State.clr_keeps | apply State.inc_keeps
    | apply State.raise_keeps | apply State.report_keeps | apply State.boostExit_keeps | split

theorem State.avsRecover_keeps {qt : Bool} {z0 s : State} (hs : Keeps qt z0 s) :
    Keeps qt z0 (State.avsRecover s) := by
  unfold State.avsRecover
  try dsimp only
  with_reducible repeat' first
    | assumption | intro _ | apply keeps_ite | apply State.clr_keeps | apply State.putB_keeps | split

theorem State.boostThermal_keeps {qt : Bool} {z0 s : State} (hs : Keeps qt z0 s) :
    Keeps qt z0 (State.boostThermal s) := by
  unfold State.boostThermal
  with_reducible repeat' first
    | assumption | intro _ | apply keeps_ite | apply State.boostExit_keeps | split

theorem State.tlimit_keeps {qt : Bool} {z0 s : State} (hs : Keeps qt z0 s) :
    Keeps qt z0 (State.tlimit s) := by
  unfold State.tlimit
  try dsimp only
  with_reducible repeat' first
    | assumption | intro _ | apply keeps_ite | apply State.set_keeps | apply State.clr_keeps
    | apply State.raise_keeps | split

theorem State.tjCrit_keeps {qt : Bool} {z0 s : State} (hs : Keeps qt z0 s) :
    Keeps qt z0 (State.tjCrit s) := by
  unfold State.tjCrit
  try dsimp only
  with_reducible repeat' first
    | assumption | intro _ | apply keeps_ite | apply State.report_keeps | apply State.setLive_keeps
    | refine keeps_upd ?_ rfl (fun m => m) | split

theorem State.thermTrip_keeps {z0 s : State} (hs : Keeps false z0 s) :
    Keeps false z0 (State.thermTrip s) := by
  unfold State.thermTrip
  try dsimp only
  with_reducible repeat' first
    | assumption | intro _ | apply State.resetRegs_keeps | apply State.endUpdate_keeps | apply State.clearCore_keeps
    | refine keeps_upd ?_ rfl (fun m => m) | split

theorem State.tempSample_keeps {z0 s : State} (tj : BitVec 8) (pred : BitVec 8) (pv : Bool) (hs : Keeps false z0 s) :
    Keeps false z0 (State.tempSample s tj pred pv) := by
  unfold State.tempSample
  try dsimp only
  with_reducible repeat' first
    | assumption | intro _ | apply keeps_ite | apply State.boostThermal_keeps | apply State.tlimit_keeps
    | apply State.tjCrit_keeps | apply State.thermTrip_keeps | refine keeps_upd ?_ rfl (fun m => m) | split

theorem State.boostReq_keeps {qt : Bool} {z0 s : State} (hs : Keeps qt z0 s) :
    Keeps qt z0 (State.boostReq s) := by
  unfold State.boostReq
  try dsimp only
  with_reducible repeat' first
    | assumption | intro _ | apply keeps_ite | apply State.set_keeps | apply State.clr_keeps | apply State.inc_keeps
    | apply State.boostThermal_keeps | refine keeps_upd ?_ rfl (fun m => m) | split

theorem State.boostUp_keeps {qt : Bool} {z0 s : State} (hs : Keeps qt z0 s) :
    Keeps qt z0 (State.boostUp s) := by
  unfold State.boostUp
  with_reducible repeat' first
    | assumption | intro _ | apply keeps_ite | apply State.set_keeps | apply State.clr_keeps
    | apply State.raise_keeps | split

theorem State.boostSpent_keeps {qt : Bool} {z0 s : State} (hs : Keeps qt z0 s) :
    Keeps qt z0 (State.boostSpent s) := by
  unfold State.boostSpent
  with_reducible repeat' first
    | assumption | intro _ | apply keeps_ite | apply State.boostExit_keeps | split

theorem execClockFailure_keeps (c : Fin 6) {s : State} {sn : State} (he : execClockFailure c s = .next sn) : Keeps false s sn := by
  unfold execClockFailure at he
  injection he with he
  subst he
  have h0 := Keeps.refl false s
  with_reducible repeat' first
    | assumption | intro _ | apply State.clockFailure_keeps | split

theorem execHbmRefclkLongLoss_keeps {s : State} {sn : State} (he : execHbmRefclkLongLoss s = .next sn) : Keeps false s sn := by
  unfold execHbmRefclkLongLoss at he
  injection he with he
  subst he
  have h0 := Keeps.refl false s
  with_reducible repeat' first
    | assumption | intro _ | apply State.hbmLost_keeps | split

theorem execCkgSelWrite_keeps {qt : Bool} (r : Req) (v : Word) {s : State} {sn : State} (he : execCkgSelWrite r v s = .next sn) : Keeps qt s sn := by
  unfold execCkgSelWrite at he
  injection he with he
  subst he
  have h0 := Keeps.refl qt s
  with_reducible repeat' first
    | assumption | intro _ | apply State.gateW_keeps | apply State.ckgSelWrite_keeps | split

theorem execPwrCfgLock_keeps {qt : Bool} (r : Req) (v : Word) {s : State} {sn : State} (he : execPwrCfgLock r v s = .next sn) : Keeps qt s sn := by
  unfold execPwrCfgLock at he
  injection he with he
  subst he
  have h0 := Keeps.refl qt s
  with_reducible repeat' first
    | assumption | intro _ | apply State.gateW_keeps | apply State.pwrCfgWrite_keeps | split

theorem execPaceValid_keeps {qt : Bool} (idx : BitVec 10) (mon : Fin 32) {s : State} {sn : State} (he : execPaceValid idx mon s = .next sn) : Keeps qt s sn := by
  unfold execPaceValid at he
  injection he with he
  subst he
  have h0 := Keeps.refl qt s
  with_reducible repeat' first
    | assumption | intro _ | apply State.paceReady_keeps | split

theorem execGovernorStep_keeps {qt : Bool} (idx : BitVec 10) (mon : Fin 32) {s : State} {sn : State} (he : execGovernorStep idx mon s = .next sn) : Keeps qt s sn := by
  unfold execGovernorStep at he
  injection he with he
  subst he
  have h0 := Keeps.refl qt s
  with_reducible repeat' first
    | assumption | intro _ | apply State.governorStep_keeps | split

theorem execPaceLow_keeps {qt : Bool} {s : State} {sn : State} (he : execPaceLow s = .next sn) : Keeps qt s sn := by
  unfold execPaceLow at he
  injection he with he
  subst he
  have h0 := Keeps.refl qt s
  with_reducible repeat' first
    | assumption | intro _ | apply State.paceLow_keeps | split

theorem execAvsFail_keeps {qt : Bool} {s : State} {sn : State} (he : execAvsFail s = .next sn) : Keeps qt s sn := by
  unfold execAvsFail at he
  injection he with he
  subst he
  have h0 := Keeps.refl qt s
  with_reducible repeat' first
    | assumption | intro _ | apply State.avsFail_keeps | split

theorem execAvsRecover_keeps {qt : Bool} {s : State} {sn : State} (he : execAvsRecover s = .next sn) : Keeps qt s sn := by
  unfold execAvsRecover at he
  injection he with he
  subst he
  have h0 := Keeps.refl qt s
  with_reducible repeat' first
    | assumption | intro _ | apply State.avsRecover_keeps | split

theorem execTempSample_keeps (tj : BitVec 8) (pred : BitVec 8) (pv : Bool) {s : State} {sn : State} (he : execTempSample tj pred pv s = .next sn) : Keeps false s sn := by
  unfold execTempSample at he
  injection he with he
  subst he
  have h0 := Keeps.refl false s
  with_reducible repeat' first
    | assumption | intro _ | apply State.tempSample_keeps | split

theorem execBoostRampDone_keeps {qt : Bool} {s : State} {sn : State} (he : execBoostRampDone s = .next sn) : Keeps qt s sn := by
  unfold execBoostRampDone at he
  injection he with he
  subst he
  have h0 := Keeps.refl qt s
  with_reducible repeat' first
    | assumption | intro _ | apply State.boostUp_keeps | split

theorem execBoostCreditExhausted_keeps {qt : Bool} {s : State} {sn : State} (he : execBoostCreditExhausted s = .next sn) : Keeps qt s sn := by
  unfold execBoostCreditExhausted at he
  injection he with he
  subst he
  have h0 := Keeps.refl qt s
  with_reducible repeat' first
    | assumption | intro _ | apply State.boostSpent_keeps | split

theorem execSupplyOutOfRange_keeps {qt : Bool} (_rail : Fin 8) {s : State} {sn : State} (he : execSupplyOutOfRange _rail s = .next sn) : Keeps qt s sn := by
  unfold execSupplyOutOfRange at he
  injection he with he
  subst he
  have h0 := Keeps.refl qt s
  with_reducible repeat' first
    | assumption | intro _ | apply keeps_ite | apply State.report_keeps | apply State.setLive_keeps | split

theorem State.showWord_keeps {qt : Bool} {z0 s : State} (w : Nat) (v : Nat) (hs : Keeps qt z0 s) :
    Keeps qt z0 (State.showWord s w v) := by
  unfold State.showWord
  with_reducible repeat' first
    | assumption | intro _ | apply State.wr_keeps | split

theorem State.burnWord_keeps {z0 s : State} (w : Nat) (v : Nat) (hs : Keeps false z0 s) :
    Keeps false z0 (State.burnWord s w v) := by
  unfold State.burnWord
  try dsimp only
  with_reducible repeat' first
    | assumption | intro _ | apply State.showWord_keeps | apply keeps_burn | refine keeps_upd ?_ rfl (fun m => m)
    | split

theorem State.lcsRead_keeps {qt : Bool} {z0 s : State} (u : OtpNoise) (hs : Keeps qt z0 s) :
    Keeps qt z0 (State.lcsRead s u) := by
  unfold State.lcsRead
  try dsimp only
  with_reducible repeat' first
    | assumption | intro _ | apply keeps_ite | apply State.put_keeps | apply State.set_keeps | apply State.clr_keeps
    | apply State.putB_keeps | apply State.inc_keeps | apply State.raise_keeps | apply State.report_keeps
    | apply State.almanac_keeps | apply State.showWord_keeps | apply keeps_foldl | apply keeps_foldl_fst | split

theorem State.showOwner_keeps {qt : Bool} {z0 s : State} (hs : Keeps qt z0 s) :
    Keeps qt z0 (State.showOwner s) := by
  unfold State.showOwner
  try dsimp only
  with_reducible repeat' first
    | assumption | intro _ | apply State.wr_keeps | apply State.set_keeps | apply keeps_foldl | apply keeps_foldl_fst
    | split

theorem State.blankSession_keeps {qt : Bool} {z0 s : State} (hs : Keeps qt z0 s) :
    Keeps qt z0 (State.blankSession s) := by
  unfold State.blankSession
  with_reducible repeat' first
    | assumption | intro _ | apply keeps_ite | apply State.wr_keeps | apply State.raise_keeps | split

theorem State.dropChallenge_keeps {qt : Bool} {z0 s : State} (hs : Keeps qt z0 s) :
    Keeps qt z0 (State.dropChallenge s) := by
  unfold State.dropChallenge
  try dsimp only
  with_reducible repeat' first
    | assumption | intro _ | apply State.wr_keeps | apply State.clr_keeps | apply keeps_foldl | apply keeps_foldl_fst
    | split

theorem State.forceEnd_keeps {z0 s : State} (hs : Keeps false z0 s) :
    Keeps false z0 (State.forceEnd s) := by
  unfold State.forceEnd
  with_reducible repeat' first
    | assumption | intro _ | apply State.clr_keeps | apply State.endSession_keeps | split

theorem State.restrict_keeps {qt : Bool} {z0 s : State} (t : Nat) (hs : Keeps qt z0 s) :
    Keeps qt z0 (State.restrict s t) := by
  unfold State.restrict
  try dsimp only
  with_reducible repeat' first
    | assumption | intro _ | apply keeps_ite | apply State.clr_keeps | apply State.rawEnd_keeps | apply keeps_foldl
    | apply keeps_foldl_fst | split

theorem State.holdService_keeps {z0 s : State} (hs : Keeps false z0 s) :
    Keeps false z0 (State.holdService s) := by
  unfold State.holdService
  try dsimp only
  with_reducible repeat' first
    | assumption | intro _ | apply State.resetQueues_keeps | apply State.resetIpp_keeps | apply State.resetSvc_keeps
    | refine keeps_upd ?_ rfl (fun m => m) | split

theorem State.wipe_keeps {z0 s : State} (hs : Keeps false z0 s) :
    Keeps false z0 (State.wipe s) := by
  unfold State.wipe
  with_reducible repeat' first
    | assumption | intro _ | apply State.set_keeps | apply State.rotate_keeps | split

theorem State.transitionWrite_keeps {z0 s : State} (v : Word) (hs : Keeps false z0 s) :
    Keeps false z0 (State.transitionWrite s v) := by
  unfold State.transitionWrite
  try dsimp only
  with_reducible repeat' first
    | assumption | intro _ | apply keeps_ite | apply State.put_keeps | apply State.set_keeps | apply State.clr_keeps
    | apply State.inc_keeps | apply State.raise_keeps | apply State.eraseAllSlots_keeps | apply State.burnWord_keeps
    | apply State.dropChallenge_keeps | apply State.forceEnd_keeps | apply State.restrict_keeps
    | apply State.holdService_keeps | apply State.wipe_keeps | split

theorem State.takeSeed_keeps {qt : Bool} {z0 s : State} (hs : Keeps qt z0 s) :
    Keeps qt z0 (State.takeSeed s).2 := by
  unfold State.takeSeed
  try dsimp only
  with_reducible repeat' first
    | assumption | intro _ | apply State.freeBytes_keeps | apply KeepsSnd.ite | split | refine KeepsSnd.get ‹_› ?_
    | refine keeps_upd ?_ rfl (fun m => m)

theorem State.dsProgram_keeps {z0 s : State} (hs : Keeps false z0 s) : Keeps false z0 (State.dsProgram s) := by
  unfold State.dsProgram
  split
  · next c =>
    have e : s.otp.ds = none := by
      simp only [Bool.and_eq_true, Option.isNone_iff_eq_none] at c
      exact c.1.2
    have h := State.takeSeed_keeps hs
    have k : s.takeSeed.2.otp.ds = none := by
      unfold State.takeSeed
      split <;> exact e
    exact State.set_keeps _ (keeps_secret h k)
  · exact hs

theorem State.wipeDone_keeps {z0 s : State} (hs : Keeps false z0 s) :
    Keeps false z0 (State.wipeDone s) := by
  unfold State.wipeDone
  with_reducible repeat' first
    | assumption | intro _ | apply keeps_ite | apply State.clr_keeps | apply State.flashErase_keeps | split

theorem State.transitionEnd_keeps {z0 s : State} (hs : Keeps false z0 s) :
    Keeps false z0 (State.transitionEnd s) := by
  unfold State.transitionEnd
  try dsimp only
  with_reducible repeat' first
    | assumption | intro _ | apply State.clr_keeps | apply State.inc_keeps | apply State.raise_keeps
    | apply State.almanac_keeps | apply State.burnWord_keeps | split

theorem State.chalReq_keeps {qt : Bool} {z0 s : State} (hs : Keeps qt z0 s) :
    Keeps qt z0 (State.chalReq s) := by
  unfold State.chalReq
  try dsimp only
  with_reducible repeat' first
    | assumption | intro _ | apply keeps_ite | apply State.wr_keeps | apply State.set_keeps
    | apply State.dropChallenge_keeps | apply State.takeSeed_keeps | apply keeps_foldl | apply keeps_foldl_fst
    | split | refine KeepsSnd.get ‹_› ?_ | refine keeps_upd ?_ rfl (fun m => m)

theorem State.chalExpire_keeps {qt : Bool} {z0 s : State} (hs : Keeps qt z0 s) :
    Keeps qt z0 (State.chalExpire s) := by
  unfold State.chalExpire
  with_reducible repeat' first
    | assumption | intro _ | apply keeps_ite | apply State.dropChallenge_keeps | split

theorem State.tokenStart_keeps {qt : Bool} {z0 s : State} (t : List Byte) (hs : Keeps qt z0 s) :
    Keeps qt z0 (State.tokenStart s t) := by
  unfold State.tokenStart
  try dsimp only
  with_reducible repeat' first
    | assumption | intro _ | apply keeps_ite | apply State.set_keeps | refine keeps_upd ?_ rfl (fun m => m) | split

theorem State.tokenFromSram_keeps {qt : Bool} {z0 s : State} (hs : Keeps qt z0 s) :
    Keeps qt z0 (State.tokenFromSram s) := by
  unfold State.tokenFromSram
  try dsimp only
  with_reducible repeat' first
    | assumption | intro _ | apply keeps_ite | apply State.tokenStart_keeps | split

theorem State.tokenDone_keeps {z0 s : State} (hs : Keeps false z0 s) :
    Keeps false z0 (State.tokenDone s) := by
  unfold State.tokenDone
  try dsimp only
  with_reducible repeat' first
    | assumption | intro _ | apply keeps_ite | apply State.wr_keeps | apply State.inc_keeps | apply State.raise_keeps
    | apply State.openSession_keeps | apply State.reactErase_keeps | apply State.dropChallenge_keeps | split
    | refine keeps_upd ?_ rfl (fun m => m)

theorem State.ownerPgm_keeps {z0 s : State} (hs : Keeps false z0 s) : Keeps false z0 (State.ownerPgm s) := by
  unfold State.ownerPgm
  split
  · next c => exact State.set_keeps _ (keeps_owner hs (Option.isNone_iff_eq_none.mp c.2))
  · exact State.put_keeps _ _ (State.set_keeps _ hs)

theorem State.ownDigWrite_keeps {qt : Bool} {z0 s : State} (o : Nat) (v : Word) (hs : Keeps qt z0 s) :
    Keeps qt z0 (State.ownDigWrite s o v) := by
  unfold State.ownDigWrite
  with_reducible repeat' first
    | assumption | intro _ | apply keeps_ite | apply State.wr_keeps | split

theorem State.lcsCtlWrite_keeps {z0 s : State} (r : Req) (v : Word) (hs : Keeps false z0 s) :
    Keeps false z0 (State.lcsCtlWrite s r v) := by
  unfold State.lcsCtlWrite
  try dsimp only
  with_reducible repeat' first
    | assumption | intro _ | apply keeps_ite | apply State.cntClearN_keeps | apply State.denied_keeps
    | apply State.endSession_keeps | apply State.wipeDone_keeps | apply State.chalReq_keeps
    | apply State.tokenFromSram_keeps | apply State.ownerPgm_keeps | split

theorem execLcsTransition_keeps (r : Req) (v : Word) {s : State} {sn : State} (he : execLcsTransition r v s = .next sn) : Keeps false s sn := by
  unfold execLcsTransition at he
  injection he with he
  subst he
  have h0 := Keeps.refl false s
  with_reducible repeat' first
    | assumption | intro _ | apply State.gateW_keeps | apply State.transitionWrite_keeps | split

theorem execDsProgram_keeps {s : State} {sn : State} (he : execDsProgram s = .next sn) : Keeps false s sn := by
  unfold execDsProgram at he
  injection he with he
  subst he
  have h0 := Keeps.refl false s
  with_reducible repeat' first
    | assumption | intro _ | apply keeps_ite | apply State.dsProgram_keeps | split

theorem execWipeDone_keeps (r : Req) (v : Word) {s : State} {sn : State} (he : execWipeDone r v s = .next sn) : Keeps false s sn := by
  unfold execWipeDone at he
  injection he with he
  subst he
  have h0 := Keeps.refl false s
  with_reducible repeat' first
    | assumption | intro _ | apply State.gateW_keeps | apply State.lcsCtlWrite_keeps | split

theorem execChalReq_keeps (r : Req) (v : Word) {s : State} {sn : State} (he : execChalReq r v s = .next sn) : Keeps false s sn := by
  unfold execChalReq at he
  injection he with he
  subst he
  have h0 := Keeps.refl false s
  with_reducible repeat' first
    | assumption | intro _ | apply State.gateW_keeps | apply State.lcsCtlWrite_keeps | split

theorem execChallengeExpiry_keeps {qt : Bool} {s : State} {sn : State} (he : execChallengeExpiry s = .next sn) : Keeps qt s sn := by
  unfold execChallengeExpiry at he
  injection he with he
  subst he
  have h0 := Keeps.refl qt s
  with_reducible repeat' first
    | assumption | intro _ | apply State.chalExpire_keeps | split

theorem execTokStart_keeps (r : Req) (v : Word) {s : State} {sn : State} (he : execTokStart r v s = .next sn) : Keeps false s sn := by
  unfold execTokStart at he
  injection he with he
  subst he
  have h0 := Keeps.refl false s
  with_reducible repeat' first
    | assumption | intro _ | apply State.gateW_keeps | apply State.lcsCtlWrite_keeps | split

theorem execTokenCheckDone_keeps {s : State} {sn : State} (he : execTokenCheckDone s = .next sn) : Keeps false s sn := by
  unfold execTokenCheckDone at he
  injection he with he
  subst he
  have h0 := Keeps.refl false s
  with_reducible repeat' first
    | assumption | intro _ | apply State.tokenDone_keeps | split

theorem execSessionExpiry_keeps {s : State} {sn : State} (he : execSessionExpiry s = .next sn) : Keeps false s sn := by
  unfold execSessionExpiry at he
  injection he with he
  subst he
  have h0 := Keeps.refl false s
  with_reducible repeat' first
    | assumption | intro _ | apply keeps_ite | apply State.endSession_keeps | split

theorem execEndDebug_keeps (r : Req) (v : Word) {s : State} {sn : State} (he : execEndDebug r v s = .next sn) : Keeps false s sn := by
  unfold execEndDebug at he
  injection he with he
  subst he
  have h0 := Keeps.refl false s
  with_reducible repeat' first
    | assumption | intro _ | apply State.gateW_keeps | apply State.lcsCtlWrite_keeps | split

theorem execOwnerPgm_keeps (r : Req) (v : Word) {s : State} {sn : State} (he : execOwnerPgm r v s = .next sn) : Keeps false s sn := by
  unfold execOwnerPgm at he
  injection he with he
  subst he
  have h0 := Keeps.refl false s
  with_reducible repeat' first
    | assumption | intro _ | apply State.gateW_keeps | apply State.lcsCtlWrite_keeps | split

theorem execLcsCntClr_keeps (r : Req) (v : Word) {s : State} {sn : State} (he : execLcsCntClr r v s = .next sn) : Keeps false s sn := by
  unfold execLcsCntClr at he
  injection he with he
  subst he
  have h0 := Keeps.refl false s
  with_reducible repeat' first
    | assumption | intro _ | apply State.gateW_keeps | apply State.lcsCtlWrite_keeps | split

theorem State.portDown_keeps {qt : Bool} {z0 s : State} (p : Nat) (hs : Keeps qt z0 s) :
    Keeps qt z0 (State.portDown s p) := by
  unfold State.portDown
  with_reducible repeat' first
    | assumption | intro _ | apply State.clr_keeps | apply State.setLink_keeps | split

theorem State.vigilPorts_keeps {qt : Bool} {z0 s : State} (hs : Keeps qt z0 s) :
    Keeps qt z0 (State.vigilPorts s) := by
  unfold State.vigilPorts
  try dsimp only
  with_reducible repeat' first
    | assumption | intro _ | apply keeps_ite | apply State.set_keeps | apply State.setLink_keeps
    | apply State.portDown_keeps | apply keeps_foldl | apply keeps_foldl_fst | split

theorem State.vigilEnter_keeps {z0 s : State} (hs : Keeps false z0 s) :
    Keeps false z0 (State.vigilEnter s) := by
  unfold State.vigilEnter
  try dsimp only
  with_reducible repeat' first
    | assumption | intro _ | apply State.set_keeps | apply State.queueFlush_keeps | apply State.dropFrames_keeps
    | apply State.resetSvc_keeps | apply State.boostExit_keeps | apply State.vigilPorts_keeps | apply keeps_foldl
    | apply keeps_foldl_fst | split

theorem State.vigilReq_keeps {z0 s : State} (hs : Keeps false z0 s) :
    Keeps false z0 (State.vigilReq s) := by
  unfold State.vigilReq
  try dsimp only
  with_reducible repeat' first
    | assumption | intro _ | apply keeps_ite | apply State.set_keeps | apply State.vigilEnter_keeps
    | refine keeps_upd ?_ rfl (fun m => m) | split

theorem State.gateCore_keeps {z0 s : State} (hs : Keeps false z0 s) :
    Keeps false z0 (State.gateCore s) := by
  unfold State.gateCore
  try dsimp only
  with_reducible repeat' first
    | assumption | intro _ | apply keeps_ite | apply State.resetQueues_keeps | apply State.rngStop_keeps
    | apply State.dkeHolderReset_keeps | apply State.endUpdate_keeps | apply State.resetAea_keeps
    | apply State.resetHea_keeps | apply State.resetDke_keeps | apply State.resetMsix_keeps
    | refine keeps_upd ?_ rfl (fun m => m) | split

theorem State.vigilLeave_keeps {qt : Bool} {z0 s : State} (hs : Keeps qt z0 s) :
    Keeps qt z0 (State.vigilLeave s) := by
  unfold State.vigilLeave
  try dsimp only
  with_reducible repeat' first
    | assumption | intro _ | apply keeps_ite | apply State.set_keeps | apply State.rngBegin_keeps
    | apply State.restartGovernor_keeps | refine keeps_upd ?_ rfl (fun m => m) | split

theorem State.vigilDone_keeps {z0 s : State} (hs : Keeps false z0 s) :
    Keeps false z0 (State.vigilDone s) := by
  unfold State.vigilDone
  try dsimp only
  with_reducible repeat' first
    | assumption | intro _ | apply keeps_ite | apply State.set_keeps | apply State.clr_keeps | apply State.inc_keeps
    | apply State.raise_keeps | apply State.restartGovernor_keeps | apply State.gateCore_keeps
    | apply State.vigilLeave_keeps | refine keeps_upd ?_ rfl (fun m => m) | split

theorem State.zeroMemoryKey_keeps {z0 s : State} (hs : Keeps false z0 s) :
    Keeps false z0 (State.zeroMemoryKey s) := by
  unfold State.zeroMemoryKey
  try dsimp only
  with_reducible repeat' first
    | assumption | intro _ | apply State.set_keeps | apply State.clr_keeps | apply State.loseObjects_keeps
    | apply State.wipeStore_keeps | apply State.loseSaves_keeps | refine keeps_upd ?_ rfl (fun m => m) | split

theorem State.stopPair_keeps {qt : Bool} {z0 s : State} (hs : Keeps qt z0 s) :
    Keeps qt z0 (State.stopPair s) := by
  unfold State.stopPair
  try dsimp only
  with_reducible repeat' first
    | assumption | intro _ | apply State.dropFrames_keeps | apply State.portDown_keeps | apply keeps_foldl
    | apply keeps_foldl_fst | split

theorem State.storeAlarm_keeps {qt : Bool} {z0 s : State} (a : StoredAlarm) (hs : Keeps qt z0 s) :
    Keeps qt z0 (State.storeAlarm s a) := by
  unfold State.storeAlarm
  try dsimp only
  with_reducible repeat' first
    | assumption | intro _ | apply keeps_ite | apply State.level_keeps | refine keeps_upd ?_ rfl (fun m => m) | split

theorem State.vigilAct_keeps {z0 s : State} (a : StoredAlarm) (hs : Keeps false z0 s) :
    Keeps false z0 (State.vigilAct s a) := by
  unfold State.vigilAct
  try dsimp only
  with_reducible repeat' first
    | assumption | intro _ | apply keeps_ite | apply State.level_keeps | apply State.bbkDestroy_keeps
    | apply State.eraseAllSlots_keeps | apply State.vigilLeave_keeps | apply State.zeroMemoryKey_keeps
    | apply State.stopPair_keeps | apply State.storeAlarm_keeps | split

theorem State.vigilAlarm_keeps {z0 s : State} (n : Nat) (d : Nat) (hs : Keeps false z0 s) :
    Keeps false z0 (State.vigilAlarm s n d) := by
  unfold State.vigilAlarm
  try dsimp only
  with_reducible repeat' first
    | assumption | intro _ | apply keeps_ite | apply State.alarmLimit_keeps | apply State.detAlarm_keeps
    | apply State.vigilAct_keeps | split

theorem State.deliverAlarms_keeps {qt : Bool} {z0 s : State} (hs : Keeps qt z0 s) :
    Keeps qt z0 (State.deliverAlarms s) := by
  unfold State.deliverAlarms
  try dsimp only
  with_reducible repeat' first
    | assumption | intro _ | apply State.level_keeps | apply State.alarmOut_keeps | apply keeps_foldl
    | apply keeps_foldl_fst | refine keeps_upd ?_ rfl (fun m => m) | split

theorem State.pwrCtlWrite_keeps {z0 s : State} (v : Word) (hs : Keeps false z0 s) :
    Keeps false z0 (State.pwrCtlWrite s v) := by
  unfold State.pwrCtlWrite
  try dsimp only
  with_reducible repeat' first
    | assumption | intro _ | apply keeps_ite | apply State.cntClearN_keeps | apply State.systemReset_keeps
    | apply State.boostExit_keeps | apply State.boostReq_keeps | apply State.vigilReq_keeps
    | apply State.vigilLeave_keeps | split

theorem execSysReset_keeps (r : Req) (v : Word) {s : State} {sn : State} (he : execSysReset r v s = .next sn) : Keeps false s sn := by
  unfold execSysReset at he
  injection he with he
  subst he
  have h0 := Keeps.refl false s
  with_reducible repeat' first
    | assumption | intro _ | apply State.gateW_keeps | apply State.pwrCtlWrite_keeps | split

theorem execPwrCntClr_keeps (r : Req) (v : Word) {s : State} {sn : State} (he : execPwrCntClr r v s = .next sn) : Keeps false s sn := by
  unfold execPwrCntClr at he
  injection he with he
  subst he
  have h0 := Keeps.refl false s
  with_reducible repeat' first
    | assumption | intro _ | apply State.gateW_keeps | apply State.pwrCtlWrite_keeps | split

theorem execBoostReq_keeps (r : Req) (v : Word) {s : State} {sn : State} (he : execBoostReq r v s = .next sn) : Keeps false s sn := by
  unfold execBoostReq at he
  injection he with he
  subst he
  have h0 := Keeps.refl false s
  with_reducible repeat' first
    | assumption | intro _ | apply State.gateW_keeps | apply State.pwrCtlWrite_keeps | split

theorem execBoostEnd_keeps (r : Req) (v : Word) {s : State} {sn : State} (he : execBoostEnd r v s = .next sn) : Keeps false s sn := by
  unfold execBoostEnd at he
  injection he with he
  subst he
  have h0 := Keeps.refl false s
  with_reducible repeat' first
    | assumption | intro _ | apply State.gateW_keeps | apply State.pwrCtlWrite_keeps | split

theorem execVigilReq_keeps (r : Req) (v : Word) {s : State} {sn : State} (he : execVigilReq r v s = .next sn) : Keeps false s sn := by
  unfold execVigilReq at he
  injection he with he
  subst he
  have h0 := Keeps.refl false s
  with_reducible repeat' first
    | assumption | intro _ | apply State.gateW_keeps | apply State.pwrCtlWrite_keeps | split

theorem execVigilExit_keeps (r : Req) (v : Word) {s : State} {sn : State} (he : execVigilExit r v s = .next sn) : Keeps false s sn := by
  unfold execVigilExit at he
  injection he with he
  subst he
  have h0 := Keeps.refl false s
  with_reducible repeat' first
    | assumption | intro _ | apply State.gateW_keeps | apply State.pwrCtlWrite_keeps | split

theorem execVigilPinRequest_keeps {s : State} {sn : State} (he : execVigilPinRequest s = .next sn) : Keeps false s sn := by
  unfold execVigilPinRequest at he
  injection he with he
  subst he
  have h0 := Keeps.refl false s
  with_reducible repeat' first
    | assumption | intro _ | apply keeps_ite | apply State.vigilReq_keeps | split

theorem execVigilPinExit_keeps {qt : Bool} {s : State} {sn : State} (he : execVigilPinExit s = .next sn) : Keeps qt s sn := by
  unfold execVigilPinExit at he
  injection he with he
  subst he
  have h0 := Keeps.refl qt s
  with_reducible repeat' first
    | assumption | intro _ | apply keeps_ite | apply State.vigilLeave_keeps | split

theorem execVigilEntryDone_keeps {s : State} {sn : State} (he : execVigilEntryDone s = .next sn) : Keeps false s sn := by
  unfold execVigilEntryDone at he
  injection he with he
  subst he
  have h0 := Keeps.refl false s
  with_reducible repeat' first
    | assumption | intro _ | apply State.vigilDone_keeps | split

theorem execVigilAlarm_keeps (n : Fin 14) (d : Det) {s : State} {sn : State} (he : execVigilAlarm n d s = .next sn) : Keeps false s sn := by
  unfold execVigilAlarm at he
  injection he with he
  subst he
  have h0 := Keeps.refl false s
  with_reducible repeat' first
    | assumption | intro _ | apply State.vigilAlarm_keeps | split

theorem State.wrBytes_keeps {qt : Bool} {z0 s : State} (o : Nat) (x0 : Nat) (x1 : List Byte) (hs : Keeps qt z0 s) :
    Keeps qt z0 (State.wrBytes s o x0 x1) := by
  induction x0 generalizing s o x1 with
  | zero =>
    unfold State.wrBytes
    with_reducible repeat' first
      | assumption | intro _ | apply State.wr_keeps | split
  | succ m ih =>
    unfold State.wrBytes
    with_reducible repeat' first
      | apply ih | assumption | intro _ | apply State.wr_keeps | split

theorem State.respond_keeps {qt : Bool} {z0 s : State} (w : MbxWin) (status : Nat) (detail : Nat) (payload : List Byte) (hs : Keeps qt z0 s) :
    Keeps qt z0 (State.respond s w status detail payload) := by
  unfold State.respond
  try dsimp only
  with_reducible repeat' first
    | assumption | intro _ | apply keeps_ite | apply State.set_keeps | apply State.clr_keeps | apply State.inc_keeps
    | apply State.irqSvc_keeps | apply State.raise_keeps | apply State.wrBytes_keeps | split
    | refine keeps_upd ?_ rfl (fun m => m)

theorem State.mbxScreen_keeps {qt : Bool} {z0 s : State} (w : MbxWin) (hs : Keeps qt z0 s) :
    Keeps qt z0 (State.mbxScreen s w) := by
  unfold State.mbxScreen
  try dsimp only
  with_reducible repeat' first
    | assumption | intro _ | apply keeps_ite | apply State.respond_keeps | split

theorem State.updTouch_keeps {qt : Bool} {z0 s : State} (w : MbxWin) (hs : Keeps qt z0 s) :
    Keeps qt z0 (State.updTouch s w) := by
  unfold State.updTouch
  try dsimp only
  with_reducible repeat' first
    | assumption | intro _ | apply keeps_ite | split | refine keeps_upd ?_ rfl (fun m => m)

theorem State.mbxRun_keeps {qt : Bool} {z0 s : State} (w : MbxWin) (svc : Nat) (cmd : Nat) (k : State → List Byte → State) (h_k : ∀ (a0 : State) (a1 : List Byte), Keeps qt z0 a0 → Keeps qt z0 (k a0 a1)) (hs : Keeps qt z0 s) :
    Keeps qt z0 (State.mbxRun s w svc cmd k) := by
  unfold State.mbxRun
  try dsimp only
  with_reducible repeat' first
    | assumption | intro _ | apply h_k | apply keeps_ite | apply State.respond_keeps | apply State.updTouch_keeps
    | split

theorem State.mbxGo_keeps {qt : Bool} {z0 s : State} (n : Nat) (r : Req) (hs : Keeps qt z0 s) :
    Keeps qt z0 (State.mbxGo s n r) := by
  unfold State.mbxGo
  try dsimp only
  with_reducible repeat' first
    | assumption | intro _ | apply keeps_ite | apply State.set_keeps | apply State.inc_keeps
    | apply State.mbxScreen_keeps | refine keeps_upd ?_ rfl (fun m => m) | split

theorem State.mbxCtlWrite_keeps {qt : Bool} {z0 s : State} (n : Nat) (r : Req) (v : Word) (hs : Keeps qt z0 s) :
    Keeps qt z0 (State.mbxCtlWrite s n r v) := by
  unfold State.mbxCtlWrite
  try dsimp only
  with_reducible repeat' first
    | assumption | intro _ | apply keeps_ite | apply State.clr_keeps | apply State.mbxGo_keeps | split

theorem State.mbxReqWrite_keeps {qt : Bool} {z0 s : State} (n : Nat) (o : Nat) (v : Word) (hs : Keeps qt z0 s) :
    Keeps qt z0 (State.mbxReqWrite s n o v) := by
  unfold State.mbxReqWrite
  with_reducible repeat' first
    | assumption | intro _ | apply keeps_ite | apply State.wr_keeps | split

theorem State.smbWrite_keeps {qt : Bool} {z0 s : State} (bs : List Byte) (pec : Bool) (hs : Keeps qt z0 s) :
    Keeps qt z0 (State.smbWrite s bs pec) := by
  unfold State.smbWrite
  try dsimp only
  with_reducible repeat' first
    | assumption | intro _ | apply keeps_ite | refine keeps_upd ?_ rfl (fun m => m) | split

theorem State.smbGo_keeps {qt : Bool} {z0 s : State} (hs : Keeps qt z0 s) :
    Keeps qt z0 (State.smbGo s) := by
  unfold State.smbGo
  try dsimp only
  with_reducible repeat' first
    | assumption | intro _ | apply keeps_ite | apply State.inc_keeps | apply State.mbxScreen_keeps
    | refine keeps_upd ?_ rfl (fun m => m) | split

theorem State.smbRead_keeps {qt : Bool} {z0 s : State} (n : Nat) (hs : Keeps qt z0 s) :
    Keeps qt z0 (State.smbRead s n) := by
  unfold State.smbRead
  try dsimp only
  with_reducible repeat' first
    | assumption | intro _ | apply keeps_ite | refine keeps_upd ?_ rfl (fun m => m) | split

theorem State.smbStatus_keeps {qt : Bool} {z0 s : State} (hs : Keeps qt z0 s) :
    Keeps qt z0 (State.smbStatus s) := by
  unfold State.smbStatus
  try dsimp only
  with_reducible repeat' first
    | assumption | intro _ | apply keeps_ite | refine keeps_upd ?_ rfl (fun m => m) | split

theorem execMbxGo_keeps {qt : Bool} (w : MbxWin) (r : Req) {s : State} {sn : State} (he : execMbxGo w r s = .next sn) : Keeps qt s sn := by
  unfold execMbxGo at he
  injection he with he
  subst he
  have h0 := Keeps.refl qt s
  try dsimp only
  with_reducible repeat' first
    | assumption | intro _ | apply State.gateW_keeps | apply State.mbxCtlWrite_keeps | apply State.smbGo_keeps
    | split

theorem execMbxAbort_keeps {qt : Bool} (w : MbxWin) (r : Req) {s : State} {sn : State} (he : execMbxAbort w r s = .next sn) : Keeps qt s sn := by
  unfold execMbxAbort at he
  injection he with he
  subst he
  have h0 := Keeps.refl qt s
  try dsimp only
  with_reducible repeat' first
    | assumption | intro _ | apply State.gateW_keeps | apply State.mbxCtlWrite_keeps | split

theorem execMbxWrite_keeps {q : Bool} (bytes : List Byte) (pec : Bool) {s sn : State}
    (he : execMbxWrite bytes pec s = .next sn) : Keeps q s sn := by
  unfold execMbxWrite at he
  split at he
  · exact nomatch he
  · injection he with he
    exact he ▸ State.smbWrite_keeps _ _ (Keeps.refl q s)

theorem execMbxRead_keeps {qt : Bool} (n : BitVec 8) {s : State} {sn : State} (he : execMbxRead n s = .next sn) : Keeps qt s sn := by
  unfold execMbxRead at he
  injection he with he
  subst he
  have h0 := Keeps.refl qt s
  with_reducible repeat' first
    | assumption | intro _ | apply State.smbRead_keeps | split

theorem execMbxStatus_keeps {qt : Bool} {s : State} {sn : State} (he : execMbxStatus s = .next sn) : Keeps qt s sn := by
  unfold execMbxStatus at he
  injection he with he
  subst he
  have h0 := Keeps.refl qt s
  with_reducible repeat' first
    | assumption | intro _ | apply State.smbStatus_keeps | split

theorem State.cntRead_keeps {qt : Bool} {z0 s : State} (lo : Nat) (o : Nat) (wide : Bool) (hs : Keeps qt z0 s) :
    Keeps qt z0 (State.cntRead s lo o wide) := by
  unfold State.cntRead
  try dsimp only
  with_reducible repeat' first
    | assumption | intro _ | apply keeps_ite | refine keeps_upd ?_ rfl (fun m => m) | split

theorem State.readReg_keeps {qt : Bool} {z0 s : State} (r : Req) (o : Nat) (wide : Bool) (hs : Keeps qt z0 s) :
    Keeps qt z0 (State.readReg s r o wide) := by
  unfold State.readReg
  try dsimp only
  with_reducible repeat' first
    | assumption | intro _ | apply keeps_ite | apply State.freeNat_keeps | apply State.rngRead_keeps
    | apply State.rngRawRead_keeps | apply State.dkeResRead_keeps | apply State.sfevtTake_keeps
    | apply State.msgLatch_keeps | apply State.msgPop_keeps | apply State.maxinsnRead_keeps
    | apply State.saevtTake_keeps | apply State.cntRead_keeps | split | refine KeepsSnd.get ‹_› ?_
    | refine keeps_upd ?_ rfl (fun m => m)

theorem State.readPart_keeps {qt : Bool} {z0 s : State} (r : Req) (o : Nat) (k : Nat) (n : Nat) (hs : Keeps qt z0 s) :
    Keeps qt z0 (State.readPart s r o k n) := by
  unfold State.readPart
  try dsimp only
  with_reducible repeat' first
    | assumption | intro _ | apply keeps_ite | split | refine keeps_upd ?_ rfl (fun m => m)

theorem State.busRead_keeps {qt : Bool} {z0 s : State} (r : Req) (o : Nat) (k : State → State) (h_k : ∀ (a0 : State), Keeps qt z0 a0 → Keeps qt z0 (k a0)) (hs : Keeps qt z0 s) :
    Keeps qt z0 (State.busRead s r o k) := by
  unfold State.busRead
  with_reducible repeat' first
    | assumption | intro _ | apply h_k | apply State.gateR_keeps | split

theorem State.snapStart_keeps {qt : Bool} {z0 s : State} (hs : Keeps qt z0 s) :
    Keeps qt z0 (State.snapStart s) := by
  unfold State.snapStart
  try dsimp only
  with_reducible repeat' first
    | assumption | intro _ | apply keeps_ite | apply State.set_keeps | refine keeps_upd ?_ rfl (fun m => m) | split

theorem State.snapEnd_keeps {qt : Bool} {z0 s : State} (hs : Keeps qt z0 s) :
    Keeps qt z0 (State.snapEnd s) := by
  unfold State.snapEnd
  try dsimp only
  with_reducible repeat' first
    | assumption | intro _ | apply keeps_ite | apply State.clr_keeps | refine keeps_upd ?_ rfl (fun m => m) | split

theorem State.writeGlb_keeps {qt : Bool} {z0 s : State} (loc : Nat) (o : Nat) (v : Word) (hs : Keeps qt z0 s) :
    Keeps qt z0 (State.writeGlb s loc o v) := by
  unfold State.writeGlb
  with_reducible repeat' first
    | assumption | intro _ | apply keeps_ite | apply State.wrGeneric_keeps | apply State.qgrpWrite_keeps
    | apply State.snapStart_keeps | split

theorem State.writeCpm_keeps {z0 s : State} (loc : Nat) (o : Nat) (v : Word) (hs : Keeps false z0 s) :
    Keeps false z0 (State.writeCpm s loc o v) := by
  unfold State.writeCpm
  with_reducible repeat' first
    | assumption | intro _ | apply keeps_ite | apply State.wrGeneric_keeps | apply State.blockResets_keeps
    | apply State.ckgSelWrite_keeps | apply State.ckgCbusWrite_keeps | apply State.pwrCfgWrite_keeps
    | apply State.paceTgtWrite_keeps | apply State.thermWrite_keeps | apply State.pwrCtlWrite_keeps | split

theorem State.writeLcs_keeps {z0 s : State} (r : Req) (loc : Nat) (o : Nat) (v : Word) (hs : Keeps false z0 s) :
    Keeps false z0 (State.writeLcs s r loc o v) := by
  unfold State.writeLcs
  with_reducible repeat' first
    | assumption | intro _ | apply keeps_ite | apply State.wrGeneric_keeps | apply State.transitionWrite_keeps
    | apply State.ownDigWrite_keeps | apply State.lcsCtlWrite_keeps | split

theorem State.writeFcr_keeps {qt : Bool} {z0 s : State} (r : Req) (loc : Nat) (o : Nat) (v : Word) (hs : Keeps qt z0 s) :
    Keeps qt z0 (State.writeFcr s r loc o v) := by
  unfold State.writeFcr
  with_reducible repeat' first
    | assumption | intro _ | apply keeps_ite | apply State.wrGeneric_keeps | apply State.fltCtlWrite_keeps
    | apply State.fltStatWrite_keeps | apply State.fltCfgWrite_keeps | apply State.firstClear_keeps
    | apply State.stickyClear_keeps | apply State.fltMapWrite_keeps | split

theorem State.writeBlf_keeps {z0 s : State} (loc : Nat) (o : Nat) (v : Word) (hs : Keeps false z0 s) :
    Keeps false z0 (State.writeBlf s loc o v) := by
  unfold State.writeBlf
  with_reducible repeat' first
    | assumption | intro _ | apply keeps_ite | apply State.wrGeneric_keeps | apply State.declareFaulty_keeps
    | apply State.blfCtlWrite_keeps | apply State.srcCfgWrite_keeps | apply State.filtWrite_keeps
    | apply State.tlimWrite_keeps | apply State.fuseWrite_keeps | apply State.batCtlWrite_keeps | split

theorem State.writeRng_keeps {qt : Bool} {z0 s : State} (r : Req) (loc : Nat) (o : Nat) (v : Word) (hs : Keeps qt z0 s) :
    Keeps qt z0 (State.writeRng s r loc o v) := by
  unfold State.writeRng
  with_reducible repeat' first
    | assumption | intro _ | apply keeps_ite | apply State.wrGeneric_keeps | apply State.rngCtlWrite_keeps
    | apply State.rngStatWrite_keeps | apply State.rngMinWrite_keeps | apply State.rngWaitWrite_keeps
    | apply State.rngReseedWrite_keeps | apply State.rawselWrite_keeps | split

theorem State.writeKeep_keeps {z0 s : State} (loc : Nat) (o : Nat) (v : Word) (hs : Keeps false z0 s) :
    Keeps false z0 (State.writeKeep s loc o v) := by
  unfold State.writeKeep
  with_reducible repeat' first
    | assumption | intro _ | apply keeps_ite | apply State.wrGeneric_keeps | apply State.jrCmdWrite_keeps
    | apply State.blCmdWrite_keeps | apply State.keepCtlWrite_keeps | apply State.bbkCtlWrite_keeps | split

theorem State.writeDke_keeps {qt : Bool} {z0 s : State} (r : Req) (c : Nat) (loc : Nat) (o : Nat) (v : Word) (hs : Keeps qt z0 s) :
    Keeps qt z0 (State.writeDke s r c loc o v) := by
  unfold State.writeDke
  with_reducible repeat' first
    | assumption | intro _ | apply keeps_ite | apply State.wrGeneric_keeps | apply State.dkeLockWrite_keeps
    | apply State.dkeCtlWrite_keeps | apply State.dkeSetup_keeps | split

theorem State.writeDkeCom_keeps {qt : Bool} {z0 s : State} (loc : Nat) (o : Nat) (v : Word) (hs : Keeps qt z0 s) :
    Keeps qt z0 (State.writeDkeCom s loc o v) := by
  unfold State.writeDkeCom
  with_reducible repeat' first
    | assumption | intro _ | apply keeps_ite | apply State.wrGeneric_keeps | apply State.dkeCfgWrite_keeps
    | apply State.dkeGctlWrite_keeps | split

theorem State.writeSfi_keeps {qt : Bool} {z0 s : State} (c : Nat) (loc : Nat) (o : Nat) (v : Word) (hs : Keeps qt z0 s) :
    Keeps qt z0 (State.writeSfi s c loc o v) := by
  unfold State.writeSfi
  with_reducible repeat' first
    | assumption | intro _ | apply keeps_ite | apply State.wrGeneric_keeps | apply State.sfiWord_keeps
    | apply State.sfiCtlWrite_keeps | apply State.sfiCfgWrite_keeps | split

theorem State.writeUcs_keeps {qt : Bool} {z0 s : State} (q : Nat) (loc : Nat) (o : Nat) (v : Word) (hs : Keeps qt z0 s) :
    Keeps qt z0 (State.writeUcs s q loc o v) := by
  unfold State.writeUcs
  with_reducible repeat' first
    | assumption | intro _ | apply keeps_ite | apply State.wr_keeps | apply State.wrGeneric_keeps
    | apply State.ucodeWrite_keeps | apply State.ucodeCtlWrite_keeps | split

theorem State.writeCts_keeps {z0 s : State} (r : Req) (loc : Nat) (o : Nat) (v : Word) (hs : Keeps false z0 s) :
    Keeps false z0 (State.writeCts s r loc o v) := by
  unfold State.writeCts
  with_reducible repeat' first
    | assumption | intro _ | apply keeps_ite | apply State.wrGeneric_keeps | apply State.ctsCtlWrite_keeps
    | apply State.ctsCfgWrite_keeps | apply State.ctsThermWrite_keeps | split

theorem State.writeIpp_keeps {qt : Bool} {z0 s : State} (r : Req) (loc : Nat) (o : Nat) (v : Word) (hs : Keeps qt z0 s) :
    Keeps qt z0 (State.writeIpp s r loc o v) := by
  unfold State.writeIpp
  with_reducible repeat' first
    | assumption | intro _ | apply keeps_ite | apply State.wrGeneric_keeps | apply State.ptpCtlWrite_keeps
    | apply State.ptpAdjWrite_keeps | apply State.ptpStepWrite_keeps | apply State.freshWrite_keeps
    | apply State.rgWrite_keeps | split

theorem State.writeLif_keeps {qt : Bool} {z0 s : State} (p : Nat) (loc : Nat) (o : Nat) (v : Word) (hs : Keeps qt z0 s) :
    Keeps qt z0 (State.writeLif s p loc o v) := by
  unfold State.writeLif
  with_reducible repeat' first
    | assumption | intro _ | apply keeps_ite | apply State.wrGeneric_keeps | apply State.pctlWrite_keeps
    | apply State.pcfgWrite_keeps | apply State.maxfrmWrite_keeps | apply State.qmaxWrite_keeps
    | apply State.lifEventWrite_keeps | split

theorem State.writeEvc_keeps {qt : Bool} {z0 s : State} (loc : Nat) (o : Nat) (v : Word) (hs : Keeps qt z0 s) :
    Keeps qt z0 (State.writeEvc s loc o v) := by
  unfold State.writeEvc
  with_reducible repeat' first
    | assumption | intro _ | apply keeps_ite | apply State.wrGeneric_keeps | apply State.pendClear_keeps
    | apply State.maskWrite_keeps | apply State.routeWrite_keeps | apply State.evcCtlWrite_keeps | split

theorem State.writeMbx_keeps {qt : Bool} {z0 s : State} (n : Nat) (r : Req) (loc : Nat) (o : Nat) (v : Word) (hs : Keeps qt z0 s) :
    Keeps qt z0 (State.writeMbx s n r loc o v) := by
  unfold State.writeMbx
  with_reducible repeat' first
    | assumption | intro _ | apply keeps_ite | apply State.wrGeneric_keeps | apply State.mbxCtlWrite_keeps
    | apply State.mbxReqWrite_keeps | split

theorem State.svcBeat_keeps {qt : Bool} {z0 s : State} (hs : Keeps qt z0 s) :
    Keeps qt z0 (State.svcBeat s) := by
  unfold State.svcBeat
  try dsimp only
  with_reducible repeat' first
    | assumption | intro _ | refine keeps_upd ?_ rfl (fun m => m) | split

theorem State.writeCup_keeps {qt : Bool} {z0 s : State} (loc : Nat) (o : Nat) (v : Word) (hs : Keeps qt z0 s) :
    Keeps qt z0 (State.writeCup s loc o v) := by
  unfold State.writeCup
  with_reducible repeat' first
    | assumption | intro _ | apply keeps_ite | apply State.wrGeneric_keeps | apply State.svcBeat_keeps | split

theorem State.writeQ_keeps {z0 s : State} (q : Nat) (loc : Nat) (o : Nat) (v : Word) (hs : Keeps false z0 s) :
    Keeps false z0 (State.writeQ s q loc o v) := by
  unfold State.writeQ
  with_reducible repeat' first
    | assumption | intro _ | apply keeps_ite | apply State.wrGeneric_keeps | apply State.kick_keeps
    | apply State.qCtlWrite_keeps | apply State.qPrioWrite_keeps | apply State.qCfgWrite_keeps
    | apply State.cqHeadWrite_keeps | apply State.qEventWrite_keeps | split

theorem State.writeReg_keeps {z0 s : State} (r : Req) (o : Nat) (v : Word) (hs : Keeps false z0 s) :
    Keeps false z0 (State.writeReg s r o v) := by
  unfold State.writeReg
  try dsimp only
  with_reducible repeat' first
    | assumption | intro _ | apply keeps_ite | apply State.wrGeneric_keeps | apply State.aeaCtlWrite_keeps
    | apply State.ltCfgWrite_keeps | apply State.writeGlb_keeps | apply State.writeCpm_keeps
    | apply State.writeLcs_keeps | apply State.writeFcr_keeps | apply State.writeBlf_keeps
    | apply State.writeRng_keeps | apply State.writeKeep_keeps | apply State.writeDke_keeps
    | apply State.writeDkeCom_keeps | apply State.writeSfi_keeps | apply State.writeUcs_keeps
    | apply State.writeCts_keeps | apply State.writeIpp_keeps | apply State.writeLif_keeps
    | apply State.writeEvc_keeps | apply State.writeMbx_keeps | apply State.writeCup_keeps | apply State.writeQ_keeps
    | split

theorem State.busWrite_keeps {z0 s : State} (r : Req) (o : Nat) (v : Word) (hs : Keeps false z0 s) :
    Keeps false z0 (State.busWrite s r o v) := by
  unfold State.busWrite
  with_reducible repeat' first
    | assumption | intro _ | apply State.gateW_keeps | apply State.writeReg_keeps | split

theorem State.busWrite64_keeps {z0 s : State} (r : Req) (o : Nat) (v : DWord) (hs : Keeps false z0 s) :
    Keeps false z0 (State.busWrite64 s r o v) := by
  unfold State.busWrite64
  try dsimp only
  with_reducible repeat' first
    | assumption | intro _ | apply State.count_keeps | apply State.gateW_keeps | apply State.busWrite_keeps | split

theorem atBus_keeps {q : Bool} {s t : State} (r : Req) (addr : Word) (n : Nat) (k : Nat → State)
    (hk : ∀ o, Keeps q s (k o)) (e : (atBus r addr n fun o => .next (k o)) = .next t) : Keeps q s t := by
  unfold atBus at e
  split at e
  · split at e
    · injection e with e
      exact e ▸ hk _
    · exact nomatch e
  · exact nomatch e

theorem execRegisterWrite_keeps (r : Req) (addr : Word) (wide : Bool) (v : DWord) {s t : State} (e : execRegisterWrite r addr wide v s = .next t) : Keeps false s t := by
  unfold execRegisterWrite at e
  have h0 := Keeps.refl false s
  refine atBus_keeps r addr _ _ ?_ e
  repeat' first
    | with_reducible assumption
    | with_reducible intro _
    | with_reducible apply keeps_ite
    | with_reducible apply State.busWrite64_keeps
    | with_reducible apply State.busWrite_keeps
    | with_reducible apply State.busRead_keeps
    | with_reducible apply State.readReg_keeps
    | with_reducible apply State.readPart_keeps
    | with_reducible apply State.denied_keeps
    | with_reducible apply State.set_keeps

theorem execSubwordWrite_keeps {qt : Bool} (r : Req) (addr : Word) (half : Bool) (v : BitVec 16) {s t : State} (e : execSubwordWrite r addr half v s = .next t) : Keeps qt s t := by
  unfold execSubwordWrite at e
  have h0 := Keeps.refl qt s
  refine atBus_keeps r addr _ _ ?_ e
  repeat' first
    | with_reducible assumption
    | with_reducible intro _
    | with_reducible apply keeps_ite
    | with_reducible apply State.busWrite64_keeps
    | with_reducible apply State.busWrite_keeps
    | with_reducible apply State.busRead_keeps
    | with_reducible apply State.readReg_keeps
    | with_reducible apply State.readPart_keeps
    | with_reducible apply State.denied_keeps
    | with_reducible apply State.set_keeps

theorem execDeniedAccess_keeps (r : Req) (addr : Word) (acc : Access) {s t : State} (e : execDeniedAccess r addr acc s = .next t) : Keeps false s t := by
  unfold execDeniedAccess at e
  have h0 := Keeps.refl false s
  split at e <;> refine atBus_keeps r addr _ _ ?_ e
  repeat' first
    | with_reducible assumption
    | with_reducible intro _
    | with_reducible apply keeps_ite
    | with_reducible apply State.busWrite64_keeps
    | with_reducible apply State.busWrite_keeps
    | with_reducible apply State.busRead_keeps
    | with_reducible apply State.readReg_keeps
    | with_reducible apply State.readPart_keeps
    | with_reducible apply State.denied_keeps
    | with_reducible apply State.set_keeps

theorem execCounterLowRead_keeps {qt : Bool} (r : Req) (addr : Word) (wide : Bool) {s t : State} (e : execCounterLowRead r addr wide s = .next t) : Keeps qt s t := by
  unfold execCounterLowRead at e
  have h0 := Keeps.refl qt s
  refine atBus_keeps r addr _ _ ?_ e
  repeat' first
    | with_reducible assumption
    | with_reducible intro _
    | with_reducible apply keeps_ite
    | with_reducible apply State.busWrite64_keeps
    | with_reducible apply State.busWrite_keeps
    | with_reducible apply State.busRead_keeps
    | with_reducible apply State.readReg_keeps
    | with_reducible apply State.readPart_keeps
    | with_reducible apply State.denied_keeps
    | with_reducible apply State.set_keeps

theorem execGlbSnap_keeps (r : Req) (v : Word) {s : State} {sn : State} (he : execGlbSnap r v s = .next sn) : Keeps false s sn := by
  unfold execGlbSnap at he
  injection he with he
  subst he
  have h0 := Keeps.refl false s
  with_reducible repeat' first
    | assumption | intro _ | apply State.busWrite_keeps | split

theorem execSnapComplete_keeps {qt : Bool} {s : State} {sn : State} (he : execSnapComplete s = .next sn) : Keeps qt s sn := by
  unfold execSnapComplete at he
  injection he with he
  subst he
  have h0 := Keeps.refl qt s
  with_reducible repeat' first
    | assumption | intro _ | apply State.snapEnd_keeps | split

theorem execSvcHb_keeps (v : Word) {s : State} {sn : State} (he : execSvcHb v s = .next sn) : Keeps false s sn := by
  unfold execSvcHb at he
  injection he with he
  subst he
  have h0 := Keeps.refl false s
  with_reducible repeat' first
    | assumption | intro _ | apply State.busWrite_keeps | split

theorem execCupCfgLock_keeps (r : Req) (v : Word) {s : State} {sn : State} (he : execCupCfgLock r v s = .next sn) : Keeps false s sn := by
  unfold execCupCfgLock at he
  injection he with he
  subst he
  have h0 := Keeps.refl false s
  with_reducible repeat' first
    | assumption | intro _ | apply State.busWrite_keeps | split

theorem State.reach_keeps {qt : Bool} {z0 s : State} (k : Nat) (hs : Keeps qt z0 s) :
    Keeps qt z0 (State.reach s k) := by
  unfold State.reach
  with_reducible repeat' first
    | assumption | intro _ | apply State.put_keeps | split

theorem State.bootLog_keeps {qt : Bool} {z0 s : State} (hs : Keeps qt z0 s) :
    Keeps qt z0 (State.bootLog s) := by
  unfold State.bootLog
  with_reducible repeat' first
    | assumption | intro _ | apply State.almanac_keeps | split

theorem State.splitReport_keeps {qt : Bool} {z0 s : State} (reason : Nat) (hs : Keeps qt z0 s) :
    Keeps qt z0 (State.splitReport s reason) := by
  unfold State.splitReport
  with_reducible repeat' first
    | assumption | intro _ | apply keeps_ite | apply State.report_keeps | split

theorem State.enterRecovery_keeps {qt : Bool} {z0 s : State} (reason : Nat) (hs : Keeps qt z0 s) :
    Keeps qt z0 (State.enterRecovery s reason) := by
  unfold State.enterRecovery
  with_reducible repeat' first
    | assumption | intro _ | apply State.put_keeps | apply State.raise_keeps | apply State.bootLog_keeps
    | apply State.splitReport_keeps | split

theorem State.romRecovery_keeps {qt : Bool} {z0 s : State} (reason : Nat) (hs : Keeps qt z0 s) :
    Keeps qt z0 (State.romRecovery s reason) := by
  unfold State.romRecovery
  with_reducible repeat' first
    | assumption | intro _ | apply State.put_keeps | apply State.raise_keeps | apply State.splitReport_keeps | split

theorem State.romClocks_keeps {qt : Bool} {z0 s : State} (hs : Keeps qt z0 s) :
    Keeps qt z0 (State.romClocks s) := by
  unfold State.romClocks
  with_reducible repeat' first
    | assumption | intro _ | apply keeps_ite | apply State.put_keeps | split

theorem State.powerUpLog_keeps {qt : Bool} {z0 s : State} (hs : Keeps qt z0 s) :
    Keeps qt z0 (State.powerUpLog s) := by
  unfold State.powerUpLog
  try dsimp only
  with_reducible repeat' first
    | assumption | intro _ | apply keeps_ite | apply State.wr_keeps | apply State.almanac_keeps | split

theorem State.startFirmware_keeps {qt : Bool} {z0 s : State} (img : List Byte) (hs : Keeps qt z0 s) :
    Keeps qt z0 (State.startFirmware s img) := by
  unfold State.startFirmware
  try dsimp only
  with_reducible repeat' first
    | assumption | intro _ | apply State.wr_keeps | apply State.put_keeps | apply State.reach_keeps
    | apply State.powerUpLog_keeps | refine keeps_upd ?_ rfl (fun m => m) | split

theorem State.bootRom_keeps {qt : Bool} {z0 s : State} (hs : Keeps qt z0 s) :
    Keeps qt z0 (State.bootRom s) := by
  unfold State.bootRom
  try dsimp only
  with_reducible repeat' first
    | assumption | intro _ | apply keeps_ite | apply State.put_keeps | apply State.romRecovery_keeps
    | apply State.startFirmware_keeps | split | refine keeps_upd ?_ rfl (fun m => m)

theorem State.loadRec_keeps {qt : Bool} {z0 s : State} (q : Nat) (sp : Nat) (i : Nat) (w : Nat) (hs : Keeps qt z0 s) :
    Keeps qt z0 (State.loadRec s q sp i w) := by
  unfold State.loadRec
  try dsimp only
  with_reducible repeat' first
    | assumption | intro _ | apply keeps_ite | apply State.wr_keeps | apply State.put_keeps
    | apply State.ucodeWrite_keeps | apply keeps_foldl | apply keeps_foldl_fst | split

theorem State.loadSpace_keeps {qt : Bool} {z0 s : State} (q : Nat) (sp : Nat) (b : List Byte) (off : Nat) (len : Nat) (n : Nat) (hs : Keeps qt z0 s) :
    Keeps qt z0 (State.loadSpace s q sp b off len n) := by
  unfold State.loadSpace
  try dsimp only
  with_reducible repeat' first
    | assumption | intro _ | apply State.loadRec_keeps | apply keeps_foldl | apply keeps_foldl_fst | split

theorem State.loadSec_keeps {qt : Bool} {z0 s : State} (x : Sec) (q : Nat) (hs : Keeps qt z0 s) :
    Keeps qt z0 (State.loadSec s x q) := by
  unfold State.loadSec
  try dsimp only
  with_reducible repeat' first
    | assumption | intro _ | apply State.ucodeCtlWrite_keeps | apply State.digestDone_keeps
    | apply State.loadSpace_keeps | split

theorem State.recordBundle_keeps {qt : Bool} {z0 s : State} (b : List Byte) (hs : Keeps qt z0 s) :
    Keeps qt z0 (State.recordBundle s b) := by
  unfold State.recordBundle
  try dsimp only
  with_reducible repeat' first
    | assumption | intro _ | apply State.wr_keeps | apply State.put_keeps | apply State.set_keeps
    | apply State.armQuad_keeps | apply keeps_foldl | apply keeps_foldl_fst | split

theorem State.loadBundle_keeps {qt : Bool} {z0 s : State} (b : List Byte) (hs : Keeps qt z0 s) :
    Keeps qt z0 (State.loadBundle s b) := by
  unfold State.loadBundle
  try dsimp only
  with_reducible repeat' first
    | assumption | intro _ | apply keeps_ite | apply State.abandonBundle_keeps | apply State.loadSec_keeps
    | apply State.recordBundle_keeps | apply KeepsOpt.getD | apply keeps_foldl | apply keeps_foldl_fst | split

theorem State.bootStores_keeps {qt : Bool} {z0 s : State} (hs : Keeps qt z0 s) :
    Keeps qt z0 (State.bootStores s) := by
  unfold State.bootStores
  try dsimp only
  with_reducible repeat' first
    | assumption | intro _ | apply keeps_ite | apply State.armQuad_keeps | apply State.reach_keeps
    | apply State.loadBundle_keeps | apply keeps_foldl | apply keeps_foldl_fst | split

theorem State.takeImage_keeps {qt : Bool} {z0 s : State} (img : List Byte) (hs : Keeps qt z0 s) :
    Keeps qt z0 (State.takeImage s img) := by
  unfold State.takeImage
  try dsimp only
  with_reducible repeat' first
    | assumption | intro _ | apply State.wr_keeps | apply State.put_keeps | apply State.reach_keeps
    | refine keeps_upd ?_ rfl (fun m => m) | split

theorem State.bootConfig_keeps {qt : Bool} {z0 s : State} (hs : Keeps qt z0 s) :
    Keeps qt z0 (State.bootConfig s) := by
  unfold State.bootConfig
  try dsimp only
  with_reducible repeat' first
    | assumption | intro _ | apply keeps_ite | apply State.put_keeps | apply State.bootLog_keeps
    | apply State.enterRecovery_keeps | apply State.takeImage_keeps | split | refine keeps_upd ?_ rfl (fun m => m)

theorem State.contentFail_keeps {qt : Bool} {z0 s : State} (hs : Keeps qt z0 s) :
    Keeps qt z0 (State.contentFail s) := by
  unfold State.contentFail
  try dsimp only
  with_reducible repeat' first
    | assumption | intro _ | apply keeps_ite | apply State.eraseAllSlots_keeps | apply State.portDown_keeps
    | apply State.reach_keeps | apply State.enterRecovery_keeps | apply keeps_foldl | apply keeps_foldl_fst
    | refine keeps_upd ?_ rfl (fun m => m) | split

theorem State.bootRotate_keeps {z0 s : State} (hs : Keeps false z0 s) :
    Keeps false z0 (State.bootRotate s) := by
  unfold State.bootRotate
  with_reducible repeat' first
    | assumption | intro _ | apply keeps_ite | apply State.rotate_keeps | split

theorem State.bootMemory_keeps {qt : Bool} {z0 s : State} (hs : Keeps qt z0 s) :
    Keeps qt z0 (State.bootMemory s) := by
  unfold State.bootMemory
  with_reducible repeat' first
    | assumption | intro _ | apply keeps_ite | apply State.reach_keeps | split

theorem State.answerSeek_keeps {z0 s : State} (hs : Keeps false z0 s) :
    Keeps false z0 (State.answerSeek s) := by
  unfold State.answerSeek
  try dsimp only
  with_reducible repeat' first
    | assumption | intro _ | apply keeps_ite | apply State.setJrWindow_keeps | apply State.jrPresent_keeps
    | apply State.jrNone_keeps | split

theorem State.bootBlob_keeps {z0 s : State} (e : Nat × Nat) (hs : Keeps false z0 s) :
    Keeps false z0 (State.bootBlob s e) := by
  unfold State.bootBlob
  try dsimp only
  with_reducible repeat' first
    | assumption | intro _ | apply keeps_ite | apply State.wr_keeps | apply State.writeReg_keeps
    | apply State.answerSeek_keeps | apply keeps_cupWrite | refine keeps_upd ?_ rfl (fun m => m) | split

theorem State.bootBlobs_keeps {z0 s : State} (x0 : List (Nat × Nat)) (hs : Keeps false z0 s) :
    Keeps false z0 (State.bootBlobs s x0).1 := by
  induction x0 generalizing s with
  | nil =>
    unfold State.bootBlobs
    try dsimp only
    with_reducible repeat' first
      | assumption | intro _ | apply keeps_ite | apply State.bootBlob_keeps | apply KeepsFst.ite | split
      | refine KeepsFst.get ‹_› ?_
  | cons a l ih =>
    unfold State.bootBlobs
    try dsimp only
    with_reducible repeat' first
      | apply ih | assumption | intro _ | apply keeps_ite | apply State.bootBlob_keeps | apply KeepsFst.ite | split
      | refine KeepsFst.get ‹_› ?_

theorem State.bootKeys_keeps {z0 s : State} (hs : Keeps false z0 s) :
    Keeps false z0 (State.bootKeys s) := by
  unfold State.bootKeys
  try dsimp only
  with_reducible repeat' first
    | assumption | intro _ | apply keeps_ite | apply State.wipeDone_keeps | apply State.reach_keeps
    | apply State.contentFail_keeps | apply State.bootBlobs_keeps | split | refine KeepsFst.get ‹_› ?_

theorem State.setModes_keeps {qt : Bool} {z0 s : State} (rs : List Rec) (hs : Keeps qt z0 s) :
    Keeps qt z0 (State.setModes s rs) := by
  unfold State.setModes
  try dsimp only
  with_reducible repeat' first
    | assumption | intro _ | apply State.put_keeps | apply State.putB_keeps | apply keeps_foldl
    | apply keeps_foldl_fst | split

theorem State.applyLine_keeps {qt : Bool} {z0 s : State} (rs : List Rec) (b : List Byte) (hs : Keeps qt z0 s) :
    Keeps qt z0 (State.applyLine s rs b) := by
  unfold State.applyLine
  try dsimp only
  with_reducible repeat' first
    | assumption | intro _ | apply keeps_ite | apply State.put_keeps | apply State.set_keeps
    | apply State.setModes_keeps | split

theorem State.applyPort_keeps {z0 s : State} (b : List Byte) (hs : Keeps false z0 s) :
    Keeps false z0 (State.applyPort s b) := by
  unfold State.applyPort
  try dsimp only
  with_reducible repeat' first
    | assumption | intro _ | apply State.writeReg_keeps | split

theorem State.applyReg_keeps {z0 s : State} (e : Nat × Nat × Nat) (hs : Keeps false z0 s) :
    Keeps false z0 (State.applyReg s e).1 := by
  unfold State.applyReg
  try dsimp only
  with_reducible repeat' first
    | assumption | intro _ | apply State.writeReg_keeps | apply KeepsFst.ite | split

theorem State.applyRegs_keeps {z0 s : State} (x0 : List (Nat × Nat × Nat)) (hs : Keeps false z0 s) :
    Keeps false z0 (State.applyRegs s x0).1 := by
  induction x0 generalizing s with
  | nil =>
    unfold State.applyRegs
    try dsimp only
    with_reducible repeat' first
      | assumption | intro _ | apply State.applyReg_keeps | apply KeepsFst.ite | split | refine KeepsFst.get ‹_› ?_
  | cons a l ih =>
    unfold State.applyRegs
    try dsimp only
    with_reducible repeat' first
      | apply ih | assumption | intro _ | apply State.applyReg_keeps | apply KeepsFst.ite | split
      | refine KeepsFst.get ‹_› ?_

theorem State.fwInstall_keeps {qt : Bool} {z0 s : State} (es : List (List Byte)) (hs : Keeps qt z0 s) :
    Keeps qt z0 (State.fwInstall s es).1 := by
  unfold State.fwInstall
  try dsimp only
  with_reducible repeat' first
    | assumption | intro _ | apply keeps_ite | apply State.commitBegin_keeps | apply State.insertFlows_keeps
    | apply State.flowRejected_keeps | apply KeepsFst.ite | split | refine KeepsOpt.get ‹_› ?_
    | refine keeps_upd ?_ rfl (fun m => m)

theorem State.applyRec_keeps {z0 s : State} (rs : List Rec) (r : Rec) (hs : Keeps false z0 s) :
    Keeps false z0 (State.applyRec s rs r).1 := by
  unfold State.applyRec
  try dsimp only
  with_reducible repeat' first
    | assumption | intro _ | apply keeps_ite | apply State.almanac_keeps | apply State.applyLine_keeps
    | apply State.applyPort_keeps | apply State.applyRegs_keeps | apply State.fwInstall_keeps | apply KeepsFst.ite
    | split | refine KeepsFst.get ‹_› ?_

theorem State.applyRecs_keeps {z0 s : State} (rs : List Rec) (x0 : List Rec) (hs : Keeps false z0 s) :
    Keeps false z0 (State.applyRecs s rs x0).1 := by
  induction x0 generalizing s rs with
  | nil =>
    unfold State.applyRecs
    try dsimp only
    with_reducible repeat' first
      | assumption | intro _ | apply State.applyRec_keeps | apply KeepsFst.ite | split | refine KeepsFst.get ‹_› ?_
  | cons a l ih =>
    unfold State.applyRecs
    try dsimp only
    with_reducible repeat' first
      | apply ih | assumption | intro _ | apply State.applyRec_keeps | apply KeepsFst.ite | split
      | refine KeepsFst.get ‹_› ?_

theorem State.startSvc_keeps {qt : Bool} {z0 s : State} (hs : Keeps qt z0 s) :
    Keeps qt z0 (State.startSvc s) := by
  unfold State.startSvc
  try dsimp only
  with_reducible repeat' first
    | assumption | intro _ | apply State.clearSvc_keeps | refine keeps_upd ?_ rfl (fun m => m) | split

theorem State.bootService_keeps {z0 s : State} (hs : Keeps false z0 s) :
    Keeps false z0 (State.bootService s) := by
  unfold State.bootService
  try dsimp only
  with_reducible repeat' first
    | assumption | intro _ | apply keeps_ite | apply State.put_keeps | apply State.set_keeps
    | apply State.systemReset_keeps | apply State.reach_keeps | apply State.contentFail_keeps
    | apply State.applyRecs_keeps | apply State.startSvc_keeps | split | refine KeepsFst.get ‹_› ?_
    | refine keeps_upd ?_ rfl (fun m => m)

theorem State.bootPass_keeps {z0 s : State} (hs : Keeps false z0 s) :
    Keeps false z0 (State.bootPass s) := by
  unfold State.bootPass
  with_reducible repeat' first
    | assumption | intro _ | apply State.bootRom_keeps | apply State.bootStores_keeps | apply State.bootConfig_keeps
    | apply State.bootMemory_keeps | apply State.bootKeys_keeps | apply State.bootService_keeps | split

theorem State.bootGo_keeps {z0 s : State} (hs : Keeps false z0 s) :
    Keeps false z0 (State.bootGo s) := by
  unfold State.bootGo
  with_reducible repeat' first
    | assumption | intro _ | apply keeps_ite | apply State.bootPass_keeps | split

theorem State.showOtp_keeps {qt : Bool} {z0 s : State} (hs : Keeps qt z0 s) :
    Keeps qt z0 (State.showOtp s) := by
  unfold State.showOtp
  try dsimp only
  with_reducible repeat' first
    | assumption | intro _ | apply State.put_keeps | apply State.putB_keeps | split

theorem State.release_keeps {z0 s : State} (u : OtpNoise) (hs : Keeps false z0 s) :
    Keeps false z0 (State.release s u) := by
  unfold State.release
  try dsimp only
  with_reducible repeat' first
    | assumption | intro _ | apply keeps_ite | apply State.set_keeps | apply State.putB_keeps
    | apply State.rngRelease_keeps | apply State.syncBattery_keeps | apply State.restartGovernor_keeps
    | apply State.lcsRead_keeps | apply State.showOwner_keeps | apply State.blankSession_keeps
    | apply State.reach_keeps | apply State.romClocks_keeps | apply State.setModes_keeps | apply State.bootGo_keeps
    | apply State.showOtp_keeps | refine keeps_upd ?_ rfl (fun m => m) | split

theorem State.sampleStraps_keeps {qt : Bool} {z0 s : State} (x : Straps) (hs : Keeps qt z0 s) :
    Keeps qt z0 (State.sampleStraps s x) := by
  unfold State.sampleStraps
  try dsimp only
  with_reducible repeat' first
    | assumption | intro _ | apply keeps_ite | apply State.put_keeps | apply State.putB_keeps | split

theorem State.powerOn_keeps {z0 s : State} (x : Straps) (u : OtpNoise) (hs : Keeps false z0 s) :
    Keeps false z0 (State.powerOn s x u) := by
  unfold State.powerOn
  try dsimp only
  with_reducible repeat' first
    | assumption | intro _ | apply keeps_ite | apply State.set_keeps | apply State.raise_keeps
    | apply State.bbkLost_keeps | apply State.release_keeps | apply State.sampleStraps_keeps
    | refine keeps_upd ?_ rfl (fun m => m) | split

theorem State.sysRelease_keeps {z0 s : State} (u : OtpNoise) (hs : Keeps false z0 s) :
    Keeps false z0 (State.sysRelease s u) := by
  unfold State.sysRelease
  try dsimp only
  with_reducible repeat' first
    | assumption | intro _ | apply keeps_ite | apply State.release_keeps | refine keeps_upd ?_ rfl (fun m => m)
    | split

theorem State.writeBoth_keeps {z0 s : State} (target : Nat) (img : List Byte) (hs : Keeps false z0 s) :
    Keeps false z0 (State.writeBoth s target img) := by
  unfold State.writeBoth
  try dsimp only
  with_reducible repeat' first
    | assumption | intro _ | apply State.flashWrite_keeps | apply State.flashErase_keeps | apply keeps_foldl
    | apply keeps_foldl_fst | split

theorem State.bootImage_keeps {z0 s : State} (img : List Byte) (hs : Keeps false z0 s) :
    Keeps false z0 (State.bootImage s img) := by
  unfold State.bootImage
  try dsimp only
  with_reducible repeat' first
    | assumption | intro _ | apply keeps_ite | apply State.put_keeps | apply State.reach_keeps
    | apply State.startFirmware_keeps | apply State.bootGo_keeps | apply State.writeBoth_keeps
    | refine keeps_upd ?_ rfl (fun m => m) | split

theorem State.configImage_keeps {z0 s : State} (img : List Byte) (hs : Keeps false z0 s) :
    Keeps false z0 (State.configImage s img) := by
  unfold State.configImage
  try dsimp only
  with_reducible repeat' first
    | assumption | intro _ | apply keeps_ite | apply State.put_keeps | apply State.takeImage_keeps
    | apply State.bootGo_keeps | apply State.writeBoth_keeps | refine keeps_upd ?_ rfl (fun m => m) | split

theorem State.warmRestart_keeps {z0 s : State} (hs : Keeps false z0 s) :
    Keeps false z0 (State.warmRestart s) := by
  unfold State.warmRestart
  try dsimp only
  with_reducible repeat' first
    | assumption | intro _ | apply keeps_ite | apply State.put_keeps | apply State.raise_keeps
    | apply State.systemReset_keeps | apply State.bootGo_keeps | refine keeps_upd ?_ rfl (fun m => m) | split

theorem State.firstSeed_keeps {z0 s : State} (hs : Keeps false z0 s) :
    Keeps false z0 (State.firstSeed s) := by
  unfold State.firstSeed
  try dsimp only
  with_reducible repeat' first
    | assumption | intro _ | apply keeps_ite | apply State.rngRun_keeps | apply State.bbkGenerate_keeps
    | apply State.bootRotate_keeps | apply State.bootGo_keeps | split

theorem State.clockReturns_keeps {z0 s : State} (c : Nat) (hs : Keeps false z0 s) :
    Keeps false z0 (State.clockReturns s c) := by
  unfold State.clockReturns
  try dsimp only
  with_reducible repeat' first
    | assumption | intro _ | apply keeps_ite | apply State.clockBack_keeps | apply State.bootRotate_keeps
    | apply State.bootGo_keeps | split

theorem State.transitionDone_keeps {z0 s : State} (hs : Keeps false z0 s) :
    Keeps false z0 (State.transitionDone s) := by
  unfold State.transitionDone
  try dsimp only
  with_reducible repeat' first
    | assumption | intro _ | apply keeps_ite | apply State.systemReset_keeps | apply State.transitionEnd_keeps
    | apply State.bootGo_keeps | split

theorem State.noteLink_keeps {qt : Bool} {z0 s : State} (p : Nat) (hs : Keeps qt z0 s) :
    Keeps qt z0 (State.noteLink s p) := by
  unfold State.noteLink
  with_reducible repeat' first
    | assumption | intro _ | apply keeps_ite | apply State.reach_keeps | split

theorem execPowerOnReset_keeps (straps : Straps) (u : OtpNoise) {s : State} {sn : State} (he : execPowerOnReset straps u s = .next sn) : Keeps false s sn := by
  unfold execPowerOnReset at he
  injection he with he
  subst he
  have h0 := Keeps.refl false s
  with_reducible repeat' first
    | assumption | intro _ | apply State.powerOn_keeps | split

theorem execSysrstNRelease_keeps (u : OtpNoise) {s : State} {sn : State} (he : execSysrstNRelease u s = .next sn) : Keeps false s sn := by
  unfold execSysrstNRelease at he
  injection he with he
  subst he
  have h0 := Keeps.refl false s
  with_reducible repeat' first
    | assumption | intro _ | apply State.sysRelease_keeps | split

theorem execFirstSeed_keeps {s : State} {sn : State} (he : execFirstSeed s = .next sn) : Keeps false s sn := by
  unfold execFirstSeed at he
  injection he with he
  subst he
  have h0 := Keeps.refl false s
  with_reducible repeat' first
    | assumption | intro _ | apply State.firstSeed_keeps | split

theorem execClockReady_keeps (c : Fin 6) {s : State} {sn : State} (he : execClockReady c s = .next sn) : Keeps false s sn := by
  unfold execClockReady at he
  injection he with he
  subst he
  have h0 := Keeps.refl false s
  with_reducible repeat' first
    | assumption | intro _ | apply State.clockReturns_keeps | split

theorem execTransitionComplete_keeps {s : State} {sn : State} (he : execTransitionComplete s = .next sn) : Keeps false s sn := by
  unfold execTransitionComplete at he
  injection he with he
  subst he
  have h0 := Keeps.refl false s
  with_reducible repeat' first
    | assumption | intro _ | apply State.transitionDone_keeps | split

theorem execRomRecoveryImage_keeps (img : List Byte) {s : State} {sn : State} (he : execRomRecoveryImage img s = .next sn) : Keeps false s sn := by
  unfold execRomRecoveryImage at he
  injection he with he
  subst he
  have h0 := Keeps.refl false s
  with_reducible repeat' first
    | assumption | intro _ | apply State.bootImage_keeps | split

theorem execRecoveryImage_keeps (img : List Byte) {s : State} {sn : State} (he : execRecoveryImage img s = .next sn) : Keeps false s sn := by
  unfold execRecoveryImage at he
  injection he with he
  subst he
  have h0 := Keeps.refl false s
  with_reducible repeat' first
    | assumption | intro _ | apply State.configImage_keeps | split

theorem execWarmRestart_keeps {s : State} {sn : State} (he : execWarmRestart s = .next sn) : Keeps false s sn := by
  unfold execWarmRestart at he
  injection he with he
  subst he
  have h0 := Keeps.refl false s
  with_reducible repeat' first
    | assumption | intro _ | apply State.warmRestart_keeps | split

theorem execLockstepMismatch_keeps {qt : Bool} {s : State} {sn : State} (he : execLockstepMismatch s = .next sn) : Keeps qt s sn := by
  unfold execLockstepMismatch at he
  injection he with he
  subst he
  have h0 := Keeps.refl qt s
  with_reducible repeat' first
    | assumption | intro _ | apply keeps_ite | apply State.inc_keeps | apply State.report_keeps | split

theorem execPcieLinkUp_keeps {qt : Bool} {s : State} {sn : State} (he : execPcieLinkUp s = .next sn) : Keeps qt s sn := by
  unfold execPcieLinkUp at he
  injection he with he
  subst he
  have h0 := Keeps.refl qt s
  try dsimp only
  with_reducible repeat' first
    | assumption | intro _ | apply keeps_ite | refine keeps_upd ?_ rfl (fun m => m) | split

end Sys2Proof.Machine
end

