-- ==== Sys2Proof/Laws/KeepsService.lean ====
section
/-! SUPPORT. What the operations of SVC, the mailbox commands, the TAP and the passing of time keep. -/

namespace Sys2Proof.Machine

set_option linter.unusedTactic false
set_option linter.unreachableTactic false
set_option linter.unusedVariables false

theorem State.svcSay_keeps {qt : Bool} {z0 s : State} (dest : Nat) (m : SvcMsg) (hs : Keeps qt z0 s) :
    Keeps qt z0 (State.svcSay s dest m) := by
  unfold State.svcSay
  try dsimp only
  with_reducible repeat' first
    | assumption | intro _ | refine keeps_upd ?_ rfl (fun m => m) | split

theorem State.setPeer_keeps {qt : Bool} {z0 s : State} (i : Nat) (up : Nat) (failure : Nat) (hs : Keeps qt z0 s) :
    Keeps qt z0 (State.setPeer s i up failure) := by
  unfold State.setPeer
  try dsimp only
  with_reducible repeat' first
    | assumption | intro _ | refine keeps_upd ?_ rfl (fun m => m) | split

theorem State.svcJob_keeps {qt : Bool} {z0 s : State} (d : List Byte) (f : State → Job → State) (h_f : ∀ (a0 : State) (a1 : Job), Keeps qt z0 a0 → Keeps qt z0 (f a0 a1)) (hs : Keeps qt z0 s) :
    Keeps qt z0 (State.svcJob s d f).1 := by
  unfold State.svcJob
  try dsimp only
  with_reducible repeat' first
    | assumption | intro _ | apply h_f | apply State.dropJob_keeps | apply keeps_jobs_add | apply rfl
    | apply KeepsFst.ite | split | refine keeps_upd ?_ rfl (fun m => m)

theorem State.svcInstall_keeps {z0 s : State} (c : Nat) (pred : Nat) (switch : Nat) (pin : Bool) (img : List Byte) (es : List (List Byte)) (hs : Keeps false z0 s) :
    Keeps false z0 (State.svcInstall s c pred switch pin img es).1 := by
  unfold State.svcInstall
  try dsimp only
  with_reducible repeat' first
    | assumption | intro _ | apply keeps_ite | apply State.runInstallCtx_keeps | apply State.svcJob_keeps
    | apply KeepsFst.ite | split | refine KeepsFst.get ‹_› ?_

theorem State.svcRetire_keeps {z0 s : State} (c : Nat) (hs : Keeps false z0 s) :
    Keeps false z0 (State.svcRetire s c) := by
  unfold State.svcRetire
  try dsimp only
  with_reducible repeat' first
    | assumption | intro _ | apply keeps_ite | apply State.runRetireCtx_keeps | apply State.svcJob_keeps | split
    | refine KeepsFst.get ‹_› ?_

theorem State.svcRetireAll_keeps {z0 s : State} (cs : List Nat) (hs : Keeps false z0 s) :
    Keeps false z0 (State.svcRetireAll s cs) := by
  unfold State.svcRetireAll
  with_reducible repeat' first
    | assumption | intro _ | apply State.svcRetire_keeps | apply keeps_foldl | apply keeps_foldl_fst | split

theorem State.svcActivate_keeps {z0 s : State} (c : Nat) (hs : Keeps false z0 s) :
    Keeps false z0 (State.svcActivate s c) := by
  unfold State.svcActivate
  try dsimp only
  with_reducible repeat' first
    | assumption | intro _ | apply keeps_ite | apply State.updateRun_keeps | apply State.svcJob_keeps | split
    | refine KeepsFst.get ‹_› ?_

theorem State.svcDerive_keeps {qt : Bool} {z0 s : State} (cs : List (Nat × Nat)) (hs : Keeps qt z0 s) :
    Keeps qt z0 (State.svcDerive s cs) := by
  unfold State.svcDerive
  try dsimp only
  with_reducible repeat' first
    | assumption | intro _ | apply State.inc_keeps | apply State.freeBytes_keeps | apply State.commitBegin_keeps
    | apply State.deriveContexts_keeps | apply keeps_foldl | apply keeps_foldl_fst | split
    | refine KeepsSnd.get ‹_› ?_

theorem State.svcSlot_keeps {qt : Bool} {z0 s : State} (x : List Byte → Slot) (key : List Byte) (hs : Keeps qt z0 s) :
    Keeps qt z0 (State.svcSlot s x key).1 := by
  unfold State.svcSlot
  try dsimp only
  with_reducible repeat' first
    | assumption | intro _ | apply State.fillSlot_keeps | apply KeepsFst.ite | split

theorem State.svcErase_keeps {qt : Bool} {z0 s : State} (xs : List Nat) (hs : Keeps qt z0 s) :
    Keeps qt z0 (State.svcErase s xs) := by
  unfold State.svcErase
  try dsimp only
  with_reducible repeat' first
    | assumption | intro _ | apply keeps_ite | apply State.eraseSlot_keeps | apply keeps_foldl
    | apply keeps_foldl_fst | split

theorem State.childInstall_keeps {z0 s : State} (i : ChildIn) (c : Nat) (pred : Nat) (switch : Nat) (img : List Byte) (es : List (List Byte)) (hs : Keeps false z0 s) :
    Keeps false z0 (State.childInstall s i c pred switch img es).1 := by
  unfold State.childInstall
  with_reducible repeat' first
    | assumption | intro _ | apply keeps_ite | apply State.svcInstall_keeps | apply KeepsFst.ite | split
    | refine KeepsFst.get ‹_› ?_

theorem State.refusal_keeps {qt : Bool} {z0 s : State} (e : Err) (hs : Keeps qt z0 s) :
    Keeps qt z0 (State.refusal s e).1 := by
  unfold State.refusal
  with_reducible repeat' first
    | assumption | intro _ | apply keeps_ite | apply State.raise_keeps | apply KeepsFst.ite | split

theorem State.childInstalls_keeps {z0 s : State} (i : ChildIn) (rx : Nat) (tx : Nat) (rxPred : Option Nat) (txPred : Option Nat) (hs : Keeps false z0 s) :
    Keeps false z0 (State.childInstalls s i rx tx rxPred txPred).1 := by
  unfold State.childInstalls
  try dsimp only
  with_reducible repeat' first
    | assumption | intro _ | apply keeps_ite | apply State.svcRetireAll_keeps | apply State.svcDerive_keeps
    | apply State.childInstall_keeps | apply State.refusal_keeps | apply KeepsOpt.getD | apply KeepsFst.ite | split
    | refine KeepsFst.get ‹_› ?_

theorem State.childIn_keeps {qt : Bool} {z0 s : State} (peer : Nat) (record : Nat) (an : Nat) (hs : Keeps qt z0 s) :
    Keeps qt z0 (State.childIn s peer record an).2 := by
  unfold State.childIn
  try dsimp only
  with_reducible repeat' first
    | assumption | intro _ | apply State.freeNat_keeps | apply State.freeBool_keeps | apply KeepsOpt.getD
    | apply KeepsSnd.ite | split | refine KeepsSnd.get ‹_› ?_

theorem State.childUp_keeps {z0 s : State} (peer : Nat) (record : Nat) (an : Nat) (rxPred : Option Nat) (txPred : Option Nat) (hs : Keeps false z0 s) :
    Keeps false z0 (State.childUp s peer record an rxPred txPred).1 := by
  unfold State.childUp
  try dsimp only
  with_reducible repeat' first
    | assumption | intro _ | apply keeps_ite | apply State.raise_keeps | apply State.childInstalls_keeps
    | apply State.childIn_keeps | apply KeepsFst.ite | split | refine KeepsSnd.get ‹_› ?_
    | refine KeepsFst.get ‹_› ?_

theorem State.putGroup_keeps {qt : Bool} {z0 s : State} (g : Nat) (x : GroupSt) (hs : Keeps qt z0 s) :
    Keeps qt z0 (State.putGroup s g x) := by
  unfold State.putGroup
  try dsimp only
  with_reducible repeat' first
    | assumption | intro _ | refine keeps_upd ?_ rfl (fun m => m) | split

theorem State.groupInstall_keeps {z0 s : State} (b : List Byte) (key : List Byte) (keyId : Nat) (from_ : Nat) (to_ : Nat) (hs : Keeps false z0 s) :
    Keeps false z0 (State.groupInstall s b key keyId from_ to_).1 := by
  unfold State.groupInstall
  try dsimp only
  with_reducible repeat' first
    | assumption | intro _ | apply State.installRun_keeps | apply State.svcJob_keeps | apply KeepsFst.ite | split
    | refine KeepsFst.get ‹_› ?_

theorem State.groupNext_keeps {z0 s : State} (b : List Byte) (key : List Byte) (keyId : Nat) (from_ : Nat) (to_ : Nat) (hs : Keeps false z0 s) :
    Keeps false z0 (State.groupNext s b key keyId from_ to_).1 := by
  unfold State.groupNext
  try dsimp only
  with_reducible repeat' first
    | assumption | intro _ | apply State.updateRun_keeps | apply State.svcJob_keeps | apply KeepsFst.ite | split
    | refine KeepsFst.get ‹_› ?_

theorem State.groupKey_keeps {z0 s : State} (b : List Byte) (key : List Byte) (keyId : Nat) (from_ : Nat) (to_ : Nat) (hs : Keeps false z0 s) :
    Keeps false z0 (State.groupKey s b key keyId from_ to_).1 := by
  unfold State.groupKey
  with_reducible repeat' first
    | assumption | intro _ | apply keeps_ite | apply State.groupInstall_keeps | apply State.groupNext_keeps
    | apply KeepsFst.ite | split | refine KeepsFst.get ‹_› ?_

theorem State.putGroupKey_keeps {qt : Bool} {z0 s : State} (g : Nat) (h : Nat) (hs : Keeps qt z0 s) :
    Keeps qt z0 (State.putGroupKey s g h) := by
  unfold State.putGroupKey
  try dsimp only
  with_reducible repeat' first
    | assumption | intro _ | refine keeps_upd ?_ rfl (fun m => m) | split

theorem State.groupSlot_keeps {qt : Bool} {z0 s : State} (g : Nat) (key : List Byte) (hs : Keeps qt z0 s) :
    Keeps qt z0 (State.groupSlot s g key).1 := by
  unfold State.groupSlot
  try dsimp only
  with_reducible repeat' first
    | assumption | intro _ | apply State.svcSlot_keeps | apply State.svcErase_keeps | apply State.putGroupKey_keeps
    | apply KeepsFst.ite | split | refine KeepsFst.get ‹_› ?_

theorem State.groupFresh_keeps {z0 s : State} (g : Nat) (hs : Keeps false z0 s) :
    Keeps false z0 (State.groupFresh s g).1 := by
  unfold State.groupFresh
  try dsimp only
  with_reducible repeat' first
    | assumption | intro _ | apply keeps_ite | apply State.freeNat_keeps | apply State.freeBytes_keeps
    | apply State.groupKey_keeps | apply State.groupSlot_keeps | apply KeepsFst.ite | split
    | refine KeepsSnd.get ‹_› ?_ | refine KeepsFst.get ‹_› ?_

theorem State.groupPush_keeps {z0 s : State} (g : Nat) (hs : Keeps false z0 s) :
    Keeps false z0 (State.groupPush s g) := by
  unfold State.groupPush
  try dsimp only
  with_reducible repeat' first
    | assumption | intro _ | apply keeps_ite | apply State.raise_keeps | apply State.svcSay_keeps
    | apply State.putGroup_keeps | apply State.groupFresh_keeps | apply keeps_foldl | apply keeps_foldl_fst | split
    | refine KeepsFst.get ‹_› ?_ | refine keeps_upd ?_ rfl (fun m => m)

theorem State.register_keeps {qt : Bool} {z0 s : State} (id : Nat) (digest : List Byte) (hs : Keeps qt z0 s) :
    Keeps qt z0 (State.register s id digest) := by
  unfold State.register
  try dsimp only
  with_reducible repeat' first
    | assumption | intro _ | apply keeps_ite | apply State.svcSay_keeps | apply State.putGroup_keeps | split
    | refine keeps_upd ?_ rfl (fun m => m)

theorem State.tekReceived_keeps {z0 s : State} (id : Nat) (push : Bool) (ok : Bool) (keyId : Nat) (seq : Nat) (from_ : Nat) (to_ : Nat) (hs : Keeps false z0 s) :
    Keeps false z0 (State.tekReceived s id push ok keyId seq from_ to_) := by
  unfold State.tekReceived
  try dsimp only
  with_reducible repeat' first
    | assumption | intro _ | apply keeps_ite | apply State.freeBytes_keeps | apply State.putGroup_keeps
    | apply State.groupKey_keeps | split | refine KeepsSnd.get ‹_› ?_ | refine KeepsFst.get ‹_› ?_
    | refine keeps_upd ?_ rfl (fun m => m)

theorem State.groupJoin_keeps {qt : Bool} {z0 s : State} (g : Nat) (hs : Keeps qt z0 s) :
    Keeps qt z0 (State.groupJoin s g) := by
  unfold State.groupJoin
  try dsimp only
  with_reducible repeat' first
    | assumption | intro _ | apply State.svcSay_keeps | apply State.putGroup_keeps
    | refine keeps_upd ?_ rfl (fun m => m) | split

theorem State.onGdoi_keeps {z0 s : State} (x0 : GdoiMsg) (hs : Keeps false z0 s) :
    Keeps false z0 (State.onGdoi s x0) := by
  unfold State.onGdoi
  with_reducible repeat' first
    | assumption | intro _ | apply State.register_keeps | apply State.tekReceived_keeps | split

theorem execGdoiMessage_keeps (m : GdoiMsg) {s : State} {sn : State} (he : execGdoiMessage m s = .next sn) : Keeps false s sn := by
  unfold execGdoiMessage at he
  injection he with he
  subst he
  have h0 := Keeps.refl false s
  try dsimp only
  with_reducible repeat' first
    | assumption | intro _ | apply keeps_ite | apply State.onGdoi_keeps | refine keeps_upd ?_ rfl (fun m => m)
    | split

theorem execGroupkeyPush_keeps (g : BitVec 16) {s : State} {sn : State} (he : execGroupkeyPush g s = .next sn) : Keeps false s sn := by
  unfold execGroupkeyPush at he
  injection he with he
  subst he
  have h0 := Keeps.refl false s
  try dsimp only
  with_reducible repeat' first
    | assumption | intro _ | apply keeps_ite | apply State.groupPush_keeps | split

theorem execGroupReregister_keeps {qt : Bool} (g : BitVec 16) {s : State} {sn : State} (he : execGroupReregister g s = .next sn) : Keeps qt s sn := by
  unfold execGroupReregister at he
  injection he with he
  subst he
  have h0 := Keeps.refl qt s
  try dsimp only
  with_reducible repeat' first
    | assumption | intro _ | apply keeps_ite | apply State.groupJoin_keeps | split

theorem State.railBytes_keeps {qt : Bool} {z0 s : State} (hs : Keeps qt z0 s) :
    Keeps qt z0 (State.railBytes s).2 := by
  unfold State.railBytes
  with_reducible repeat' first
    | assumption | intro _ | apply keeps_ite | apply State.freeBytes_keeps | apply KeepsSnd.ite | split
    | refine KeepsSnd.get ‹_› ?_

theorem State.sensorBytes_keeps {qt : Bool} {z0 s : State} (hs : Keeps qt z0 s) :
    Keeps qt z0 (State.sensorBytes s).2 := by
  unfold State.sensorBytes
  try dsimp only
  with_reducible repeat' first
    | assumption | intro _ | apply keeps_ite | apply State.freeBytes_keeps | apply State.railBytes_keeps
    | apply KeepsSnd.ite | split | refine KeepsSnd.get ‹_› ?_

theorem State.almRead_keeps {qt : Bool} {z0 s : State} (w : MbxWin) (p : List Byte) (hs : Keeps qt z0 s) :
    Keeps qt z0 (State.almRead s w p) := by
  unfold State.almRead
  try dsimp only
  with_reducible repeat' first
    | assumption | intro _ | apply keeps_ite | apply State.almDrain_keeps | apply State.respond_keeps | split

theorem State.showUpdate_keeps {qt : Bool} {z0 s : State} (u : UpdSt) (phase : Nat) (hs : Keeps qt z0 s) :
    Keeps qt z0 (State.showUpdate s u phase) := by
  unfold State.showUpdate
  with_reducible repeat' first
    | assumption | intro _ | apply State.put_keeps | split

theorem State.updBegin_keeps {z0 s : State} (w : MbxWin) (p : List Byte) (hs : Keeps false z0 s) :
    Keeps false z0 (State.updBegin s w p) := by
  unfold State.updBegin
  try dsimp only
  with_reducible repeat' first
    | assumption | intro _ | apply keeps_ite | apply State.eraseCopies_keeps | apply State.respond_keeps
    | apply State.showUpdate_keeps | refine keeps_upd ?_ rfl (fun m => m) | split

theorem State.updErased_keeps {qt : Bool} {z0 s : State} (hs : Keeps qt z0 s) :
    Keeps qt z0 (State.updErased s) := by
  unfold State.updErased
  try dsimp only
  with_reducible repeat' first
    | assumption | intro _ | apply keeps_ite | apply State.showUpdate_keeps | split

theorem State.withUpdate_keeps {qt : Bool} {z0 s : State} (w : MbxWin) (k : UpdSt → State) (h_k : ∀ (a0 : UpdSt), Keeps qt z0 (k a0)) (hs : Keeps qt z0 s) :
    Keeps qt z0 (State.withUpdate s w k) := by
  unfold State.withUpdate
  try dsimp only
  with_reducible repeat' first
    | assumption | intro _ | apply h_k | apply keeps_ite | apply State.respond_keeps | split

theorem State.updStore_keeps {z0 s : State} (u : UpdSt) (bs : List Byte) (hs : Keeps false z0 s) :
    Keeps false z0 (State.updStore s u bs) := by
  unfold State.updStore
  try dsimp only
  with_reducible repeat' first
    | assumption | intro _ | apply keeps_ite | apply State.flashWrite_keeps | apply keeps_foldl
    | apply keeps_foldl_fst | refine keeps_upd ?_ rfl (fun m => m) | split

theorem State.updData_keeps {z0 s : State} (w : MbxWin) (p : List Byte) (hs : Keeps false z0 s) :
    Keeps false z0 (State.updData s w p) := by
  unfold State.updData
  try dsimp only
  with_reducible repeat' first
    | assumption | intro _ | apply keeps_ite | apply State.respond_keeps | apply State.withUpdate_keeps
    | apply State.updStore_keeps | split

theorem State.updResume_keeps {z0 s : State} (u : UpdSt) (img : List Byte) (mode : Nat) (hs : Keeps false z0 s) :
    Keeps false z0 (State.updResume s u img mode) := by
  unfold State.updResume
  try dsimp only
  with_reducible repeat' first
    | assumption | intro _ | apply keeps_ite | apply State.put_keeps | apply State.reach_keeps
    | apply State.startFirmware_keeps | apply State.takeImage_keeps | apply State.bootGo_keeps | split
    | refine keeps_upd ?_ rfl (fun m => m)

theorem State.updEnd_keeps {z0 s : State} (w : MbxWin) (hs : Keeps false z0 s) :
    Keeps false z0 (State.updEnd s w) := by
  unfold State.updEnd
  try dsimp only
  with_reducible repeat' first
    | assumption | intro _ | apply keeps_ite | apply State.put_keeps | apply State.inc_keeps
    | apply State.raise_keeps | apply State.almanac_keeps | apply State.endUpdate_keeps | apply State.respond_keeps
    | apply State.withUpdate_keeps | apply State.updResume_keeps | refine keeps_upd ?_ rfl (fun m => m) | split

theorem State.updCancel_keeps {z0 s : State} (w : MbxWin) (hs : Keeps false z0 s) :
    Keeps false z0 (State.updCancel s w) := by
  unfold State.updCancel
  try dsimp only
  with_reducible repeat' first
    | assumption | intro _ | apply State.endUpdate_keeps | apply State.respond_keeps | apply State.withUpdate_keeps
    | split

theorem State.updTimeout_keeps {z0 s : State} (hs : Keeps false z0 s) :
    Keeps false z0 (State.updTimeout s) := by
  unfold State.updTimeout
  try dsimp only
  with_reducible repeat' first
    | assumption | intro _ | apply keeps_ite | apply State.endUpdate_keeps | split

theorem State.arbRaise_keeps {qt : Bool} {z0 s : State} (kind : Nat) (old : Nat) (new : Nat) (hs : Keeps qt z0 s) :
    Keeps qt z0 (State.arbRaise s kind old new) := by
  unfold State.arbRaise
  try dsimp only
  with_reducible repeat' first
    | assumption | intro _ | apply keeps_ite | apply State.raise_keeps | apply State.almanac_keeps | split

theorem State.commitArb_keeps {qt : Bool} {z0 s : State} (hs : Keeps qt z0 s) :
    Keeps qt z0 (State.commitArb s) := by
  unfold State.commitArb
  try dsimp only
  with_reducible repeat' first
    | assumption | intro _ | apply State.inc_keeps | apply State.showOtp_keeps | apply State.arbRaise_keeps
    | refine keeps_upd ?_ rfl (fun m => m) | split

theorem State.commitCmd_keeps {qt : Bool} {z0 s : State} (w : MbxWin) (hs : Keeps qt z0 s) :
    Keeps qt z0 (State.commitCmd s w) := by
  unfold State.commitCmd
  with_reducible repeat' first
    | assumption | intro _ | apply keeps_ite | apply State.respond_keeps | apply State.commitArb_keeps | split

theorem State.autoCommitNow_keeps {qt : Bool} {z0 s : State} (hs : Keeps qt z0 s) :
    Keeps qt z0 (State.autoCommitNow s) := by
  unfold State.autoCommitNow
  try dsimp only
  with_reducible repeat' first
    | assumption | intro _ | apply keeps_ite | apply State.commitArb_keeps | split
    | refine keeps_upd ?_ rfl (fun m => m)

theorem State.keyProgram_keeps {qt : Bool} {z0 s : State} (w : MbxWin) (p : List Byte) (hs : Keeps qt z0 s) :
    Keeps qt z0 (State.keyProgram s w p) := by
  unfold State.keyProgram
  try dsimp only
  with_reducible repeat' first
    | assumption | intro _ | apply keeps_ite | apply State.respond_keeps | apply State.showOtp_keeps
    | refine keeps_upd ?_ rfl (fun m => m) | split

theorem State.keyRevoke_keeps {qt : Bool} {z0 s : State} (w : MbxWin) (p : List Byte) (hs : Keeps qt z0 s) :
    Keeps qt z0 (State.keyRevoke s w p) := by
  unfold State.keyRevoke
  try dsimp only
  with_reducible repeat' first
    | assumption | intro _ | apply keeps_ite | apply State.respond_keeps | apply State.showOtp_keeps
    | refine keeps_upd ?_ rfl (fun m => m) | split

theorem State.sampleRails_keeps {qt : Bool} {z0 s : State} (v : Rails) (hs : Keeps qt z0 s) :
    Keeps qt z0 (State.sampleRails s v) := by
  unfold State.sampleRails
  try dsimp only
  with_reducible repeat' first
    | assumption | intro _ | apply keeps_ite | apply State.setLive_keeps | refine keeps_upd ?_ rfl (fun m => m)
    | split

theorem execBootStatus_keeps {qt : Bool} (w : MbxWin) {s : State} {sn : State} (he : execBootStatus w s = .next sn) : Keeps qt s sn := by
  unfold execBootStatus at he
  injection he with he
  subst he
  have h0 := Keeps.refl qt s
  try dsimp only
  with_reducible repeat' first
    | assumption | intro _ | apply State.respond_keeps | apply State.mbxRun_keeps | split

theorem execMbxSensors_keeps {qt : Bool} (w : MbxWin) {s : State} {sn : State} (he : execMbxSensors w s = .next sn) : Keeps qt s sn := by
  unfold execMbxSensors at he
  injection he with he
  subst he
  have h0 := Keeps.refl qt s
  try dsimp only
  with_reducible repeat' first
    | assumption | intro _ | apply State.respond_keeps | apply State.mbxRun_keeps | apply State.sensorBytes_keeps
    | split | refine KeepsSnd.get ‹_› ?_

theorem execAlmanacRead_keeps {qt : Bool} (w : MbxWin) {s : State} {sn : State} (he : execAlmanacRead w s = .next sn) : Keeps qt s sn := by
  unfold execAlmanacRead at he
  injection he with he
  subst he
  have h0 := Keeps.refl qt s
  try dsimp only
  with_reducible repeat' first
    | assumption | intro _ | apply State.mbxRun_keeps | apply State.almRead_keeps | split

theorem execMbxVersions_keeps {qt : Bool} (w : MbxWin) {s : State} {sn : State} (he : execMbxVersions w s = .next sn) : Keeps qt s sn := by
  unfold execMbxVersions at he
  injection he with he
  subst he
  have h0 := Keeps.refl qt s
  try dsimp only
  with_reducible repeat' first
    | assumption | intro _ | apply State.respond_keeps | apply State.mbxRun_keeps | split

theorem execUpdateBegin_keeps (w : MbxWin) {s : State} {sn : State} (he : execUpdateBegin w s = .next sn) : Keeps false s sn := by
  unfold execUpdateBegin at he
  injection he with he
  subst he
  have h0 := Keeps.refl false s
  try dsimp only
  with_reducible repeat' first
    | assumption | intro _ | apply State.mbxRun_keeps | apply State.updBegin_keeps | split

theorem execUpdateEraseDone_keeps {qt : Bool} {s : State} {sn : State} (he : execUpdateEraseDone s = .next sn) : Keeps qt s sn := by
  unfold execUpdateEraseDone at he
  injection he with he
  subst he
  have h0 := Keeps.refl qt s
  with_reducible repeat' first
    | assumption | intro _ | apply keeps_ite | apply State.updErased_keeps | split

theorem execUpdateData_keeps (w : MbxWin) {s : State} {sn : State} (he : execUpdateData w s = .next sn) : Keeps false s sn := by
  unfold execUpdateData at he
  injection he with he
  subst he
  have h0 := Keeps.refl false s
  try dsimp only
  with_reducible repeat' first
    | assumption | intro _ | apply State.mbxRun_keeps | apply State.updData_keeps | split

theorem execUpdateEnd_keeps (w : MbxWin) {s : State} {sn : State} (he : execUpdateEnd w s = .next sn) : Keeps false s sn := by
  unfold execUpdateEnd at he
  injection he with he
  subst he
  have h0 := Keeps.refl false s
  try dsimp only
  with_reducible repeat' first
    | assumption | intro _ | apply State.mbxRun_keeps | apply State.updEnd_keeps | split

theorem execUpdateCancel_keeps (w : MbxWin) {s : State} {sn : State} (he : execUpdateCancel w s = .next sn) : Keeps false s sn := by
  unfold execUpdateCancel at he
  injection he with he
  subst he
  have h0 := Keeps.refl false s
  try dsimp only
  with_reducible repeat' first
    | assumption | intro _ | apply State.mbxRun_keeps | apply State.updCancel_keeps | split

theorem execUpdateTimeout_keeps {s : State} {sn : State} (he : execUpdateTimeout s = .next sn) : Keeps false s sn := by
  unfold execUpdateTimeout at he
  injection he with he
  subst he
  have h0 := Keeps.refl false s
  with_reducible repeat' first
    | assumption | intro _ | apply keeps_ite | apply State.updTimeout_keeps | split

theorem execUpdateStatus_keeps {qt : Bool} (w : MbxWin) {s : State} {sn : State} (he : execUpdateStatus w s = .next sn) : Keeps qt s sn := by
  unfold execUpdateStatus at he
  injection he with he
  subst he
  have h0 := Keeps.refl qt s
  try dsimp only
  with_reducible repeat' first
    | assumption | intro _ | apply State.respond_keeps | apply State.mbxRun_keeps | split

theorem execArbCommit_keeps {qt : Bool} (w : MbxWin) {s : State} {sn : State} (he : execArbCommit w s = .next sn) : Keeps qt s sn := by
  unfold execArbCommit at he
  injection he with he
  subst he
  have h0 := Keeps.refl qt s
  try dsimp only
  with_reducible repeat' first
    | assumption | intro _ | apply State.mbxRun_keeps | apply State.commitCmd_keeps | split

theorem execAutoCommit_keeps {qt : Bool} {s : State} {sn : State} (he : execAutoCommit s = .next sn) : Keeps qt s sn := by
  unfold execAutoCommit at he
  injection he with he
  subst he
  have h0 := Keeps.refl qt s
  with_reducible repeat' first
    | assumption | intro _ | apply State.autoCommitNow_keeps | split

theorem execMbxActivate_keeps {qt : Bool} (w : MbxWin) {s : State} {sn : State} (he : execMbxActivate w s = .next sn) : Keeps qt s sn := by
  unfold execMbxActivate at he
  injection he with he
  subst he
  have h0 := Keeps.refl qt s
  try dsimp only
  with_reducible repeat' first
    | assumption | intro _ | apply State.respond_keeps | apply State.mbxRun_keeps
    | refine keeps_upd ?_ rfl (fun m => m) | split

theorem execCfgkeyProgram_keeps {qt : Bool} (w : MbxWin) {s : State} {sn : State} (he : execCfgkeyProgram w s = .next sn) : Keeps qt s sn := by
  unfold execCfgkeyProgram at he
  injection he with he
  subst he
  have h0 := Keeps.refl qt s
  try dsimp only
  with_reducible repeat' first
    | assumption | intro _ | apply State.mbxRun_keeps | apply State.keyProgram_keeps | split

theorem execCfgkeyRevoke_keeps {qt : Bool} (w : MbxWin) {s : State} {sn : State} (he : execCfgkeyRevoke w s = .next sn) : Keeps qt s sn := by
  unfold execCfgkeyRevoke at he
  injection he with he
  subst he
  have h0 := Keeps.refl qt s
  try dsimp only
  with_reducible repeat' first
    | assumption | intro _ | apply State.mbxRun_keeps | apply State.keyRevoke_keeps | split

theorem execRailSample_keeps {qt : Bool} (v : Rails) {s : State} {sn : State} (he : execRailSample v s = .next sn) : Keeps qt s sn := by
  unfold execRailSample at he
  injection he with he
  subst he
  have h0 := Keeps.refl qt s
  with_reducible repeat' first
    | assumption | intro _ | apply State.sampleRails_keeps | split

theorem State.putIke_keeps {qt : Bool} {z0 s : State} (k : IkeSa) (hs : Keeps qt z0 s) :
    Keeps qt z0 (State.putIke s k) := by
  unfold State.putIke
  try dsimp only
  with_reducible repeat' first
    | assumption | intro _ | apply keeps_ite | refine keeps_upd ?_ rfl (fun m => m) | split

theorem State.addIke_keeps {qt : Bool} {z0 s : State} (k : IkeSa) (hs : Keeps qt z0 s) :
    Keeps qt z0 (State.addIke s k) := by
  unfold State.addIke
  try dsimp only
  with_reducible repeat' first
    | assumption | intro _ | refine keeps_upd ?_ rfl (fun m => m) | split

theorem State.dropIke_keeps {qt : Bool} {z0 s : State} (id : Nat) (hs : Keeps qt z0 s) :
    Keeps qt z0 (State.dropIke s id) := by
  unfold State.dropIke
  try dsimp only
  with_reducible repeat' first
    | assumption | intro _ | refine keeps_upd ?_ rfl (fun m => m) | split

theorem State.putChild_keeps {qt : Bool} {z0 s : State} (k : ChildSa) (hs : Keeps qt z0 s) :
    Keeps qt z0 (State.putChild s k) := by
  unfold State.putChild
  try dsimp only
  with_reducible repeat' first
    | assumption | intro _ | apply keeps_ite | refine keeps_upd ?_ rfl (fun m => m) | split

theorem State.dropChild_keeps {qt : Bool} {z0 s : State} (id : Nat) (hs : Keeps qt z0 s) :
    Keeps qt z0 (State.dropChild s id) := by
  unfold State.dropChild
  try dsimp only
  with_reducible repeat' first
    | assumption | intro _ | refine keeps_upd ?_ rfl (fun m => m) | split

theorem State.newSa_keeps {qt : Bool} {z0 s : State} (hs : Keeps qt z0 s) :
    Keeps qt z0 (State.newSa s).2 := by
  unfold State.newSa
  try dsimp only
  with_reducible repeat' first
    | assumption | intro _ | apply KeepsSnd.ite | refine keeps_upd ?_ rfl (fun m => m) | split

theorem State.sessions_keeps {z0 s : State} (p : List Byte) (hs : Keeps false z0 s) :
    Keeps false z0 (State.sessions s p).1 := by
  unfold State.sessions
  try dsimp only
  with_reducible repeat' first
    | assumption | intro _ | apply keeps_ite | apply State.freeNat_keeps | apply State.raise_keeps
    | apply State.svcInstall_keeps | apply State.svcRetireAll_keeps | apply State.svcDerive_keeps | apply keeps_foldl
    | apply keeps_foldl_fst | apply KeepsFst.ite | split | refine KeepsSnd.get ‹_› ?_ | refine KeepsFst.get ‹_› ?_

theorem State.putAuth_keeps {qt : Bool} {z0 s : State} (c : Nat) (xs : List Nat) (hs : Keeps qt z0 s) :
    Keeps qt z0 (State.putAuth s c xs) := by
  unfold State.putAuth
  try dsimp only
  with_reducible repeat' first
    | assumption | intro _ | refine keeps_upd ?_ rfl (fun m => m) | split

theorem State.authKeys_keeps {z0 s : State} (p : List Byte) (cs : List Nat) (hs : Keeps false z0 s) :
    Keeps false z0 (State.authKeys s p cs).1 := by
  unfold State.authKeys
  try dsimp only
  with_reducible repeat' first
    | assumption | intro _ | apply State.freeBytes_keeps | apply State.svcRetireAll_keeps | apply State.svcSlot_keeps
    | apply State.svcErase_keeps | apply State.putAuth_keeps | apply KeepsFst.ite | split
    | refine KeepsSnd.get ‹_› ?_ | refine KeepsFst.get ‹_› ?_

theorem State.handshake_keeps {z0 s : State} (p : List Byte) (hs : Keeps false z0 s) :
    Keeps false z0 (State.handshake s p).1 := by
  unfold State.handshake
  try dsimp only
  with_reducible repeat' first
    | assumption | intro _ | apply State.sessions_keeps | apply State.authKeys_keeps | apply KeepsFst.ite | split
    | refine KeepsFst.get ‹_› ?_

theorem State.dropAuth_keeps {qt : Bool} {z0 s : State} (k : IkeSa) (hs : Keeps qt z0 s) :
    Keeps qt z0 (State.dropAuth s k) := by
  unfold State.dropAuth
  try dsimp only
  with_reducible repeat' first
    | assumption | intro _ | apply State.svcErase_keeps | apply State.putAuth_keeps | split

theorem State.rekeySessions_keeps {z0 s : State} (k : IkeSa) (hs : Keeps false z0 s) :
    Keeps false z0 (State.rekeySessions s k).1 := by
  unfold State.rekeySessions
  try dsimp only
  with_reducible repeat' first
    | assumption | intro _ | apply keeps_ite | apply State.svcRetireAll_keeps | apply State.putIke_keeps
    | apply State.sessions_keeps | apply State.handshake_keeps | apply State.dropAuth_keeps | apply KeepsFst.ite
    | split | refine KeepsFst.get ‹_› ?_ | refine keeps_upd ?_ rfl (fun m => m)

theorem State.childDown_keeps {z0 s : State} (k : ChildSa) (hs : Keeps false z0 s) :
    Keeps false z0 (State.childDown s k) := by
  unfold State.childDown
  try dsimp only
  with_reducible repeat' first
    | assumption | intro _ | apply keeps_ite | apply State.svcRetireAll_keeps | apply State.putChild_keeps
    | apply State.dropChild_keeps | split | refine keeps_upd ?_ rfl (fun m => m)

theorem State.ikeDown_keeps {z0 s : State} (k : IkeSa) (failure : Nat) (hs : Keeps false z0 s) :
    Keeps false z0 (State.ikeDown s k failure) := by
  unfold State.ikeDown
  try dsimp only
  with_reducible repeat' first
    | assumption | intro _ | apply State.raise_keeps | apply State.setPeer_keeps | apply State.svcRetireAll_keeps
    | apply State.dropIke_keeps | apply State.dropAuth_keeps | apply State.childDown_keeps | apply keeps_foldl
    | apply keeps_foldl_fst | split

theorem State.ikeStart_keeps {qt : Bool} {z0 s : State} (peer : Nat) (hs : Keeps qt z0 s) :
    Keeps qt z0 (State.ikeStart s peer) := by
  unfold State.ikeStart
  try dsimp only
  with_reducible repeat' first
    | assumption | intro _ | apply keeps_ite | apply State.svcSay_keeps | apply State.addIke_keeps
    | apply State.newSa_keeps | split | refine KeepsSnd.get ‹_› ?_

theorem State.onInitReq_keeps {z0 s : State} (peer : Nat) (fits : Bool) (addKe : Bool) (cookie : Bool) (hs : Keeps false z0 s) :
    Keeps false z0 (State.onInitReq s peer fits addKe cookie) := by
  unfold State.onInitReq
  try dsimp only
  with_reducible repeat' first
    | assumption | intro _ | apply keeps_ite | apply State.svcSay_keeps | apply State.setPeer_keeps
    | apply State.addIke_keeps | apply State.newSa_keeps | apply State.handshake_keeps | split
    | refine KeepsSnd.get ‹_› ?_ | refine KeepsFst.get ‹_› ?_

theorem State.onInitResp_keeps {z0 s : State} (k : IkeSa) (fits : Bool) (hs : Keeps false z0 s) :
    Keeps false z0 (State.onInitResp s k fits) := by
  unfold State.onInitResp
  try dsimp only
  with_reducible repeat' first
    | assumption | intro _ | apply keeps_ite | apply State.svcSay_keeps | apply State.putIke_keeps
    | apply State.handshake_keeps | apply State.ikeDown_keeps | split | refine KeepsFst.get ‹_› ?_
    | refine keeps_upd ?_ rfl (fun m => m)

theorem State.onInter_keeps {z0 s : State} (k : IkeSa) (response : Bool) (hs : Keeps false z0 s) :
    Keeps false z0 (State.onInter s k response) := by
  unfold State.onInter
  try dsimp only
  with_reducible repeat' first
    | assumption | intro _ | apply keeps_ite | apply State.svcSay_keeps | apply State.rekeySessions_keeps
    | apply State.ikeDown_keeps | split | refine KeepsFst.get ‹_› ?_ | refine keeps_upd ?_ rfl (fun m => m)

theorem State.childOpen_keeps {z0 s : State} (k : IkeSa) (record : Nat) (initiator : Bool) (hs : Keeps false z0 s) :
    Keeps false z0 (State.childOpen s k record initiator).1 := by
  unfold State.childOpen
  try dsimp only
  with_reducible repeat' first
    | assumption | intro _ | apply keeps_ite | apply State.svcActivate_keeps | apply State.childUp_keeps
    | apply State.newSa_keeps | apply KeepsOpt.getD | apply KeepsFst.ite | split | refine KeepsSnd.get ‹_› ?_
    | refine KeepsFst.get ‹_› ?_ | refine keeps_upd ?_ rfl (fun m => m)

theorem State.noteFirstPeer_keeps {qt : Bool} {z0 s : State} (k : IkeSa) (child : Bool) (hs : Keeps qt z0 s) :
    Keeps qt z0 (State.noteFirstPeer s k child) := by
  unfold State.noteFirstPeer
  try dsimp only
  with_reducible repeat' first
    | assumption | intro _ | apply keeps_ite | apply State.raise_keeps | apply State.reach_keeps | split

theorem State.ikeUp_keeps {z0 s : State} (k : IkeSa) (hs : Keeps false z0 s) :
    Keeps false z0 (State.ikeUp s k) := by
  unfold State.ikeUp
  try dsimp only
  with_reducible repeat' first
    | assumption | intro _ | apply keeps_ite | apply State.raise_keeps | apply State.svcSay_keeps
    | apply State.setPeer_keeps | apply State.putIke_keeps | apply State.dropAuth_keeps | apply State.childOpen_keeps
    | apply State.noteFirstPeer_keeps | apply keeps_foldl | apply keeps_foldl_fst | split
    | refine KeepsFst.get ‹_› ?_ | refine keeps_upd ?_ rfl (fun m => m)

theorem State.onAuth_keeps {z0 s : State} (k : IkeSa) (response : Bool) (ok : Bool) (hs : Keeps false z0 s) :
    Keeps false z0 (State.onAuth s k response ok) := by
  unfold State.onAuth
  try dsimp only
  with_reducible repeat' first
    | assumption | intro _ | apply keeps_ite | apply State.svcSay_keeps | apply State.ikeDown_keeps
    | apply State.ikeUp_keeps | split

theorem State.onChildReq_keeps {z0 s : State} (k : IkeSa) (record : Nat) (addKe : Bool) (hs : Keeps false z0 s) :
    Keeps false z0 (State.onChildReq s k record addKe) := by
  unfold State.onChildReq
  try dsimp only
  with_reducible repeat' first
    | assumption | intro _ | apply keeps_ite | apply State.svcSay_keeps | apply State.childOpen_keeps | split
    | refine KeepsFst.get ‹_› ?_

theorem State.onChildResp_keeps {z0 s : State} (k : IkeSa) (record : Nat) (ok : Bool) (hs : Keeps false z0 s) :
    Keeps false z0 (State.onChildResp s k record ok) := by
  unfold State.onChildResp
  try dsimp only
  with_reducible repeat' first
    | assumption | intro _ | apply keeps_ite | apply State.setPeer_keeps | apply State.childOpen_keeps | split
    | refine KeepsFst.get ‹_› ?_

theorem State.rekeyInstall_keeps {z0 s : State} (k : ChildSa) (peer : Nat) (hs : Keeps false z0 s) :
    Keeps false z0 (State.rekeyInstall s k peer).1 := by
  unfold State.rekeyInstall
  with_reducible repeat' first
    | assumption | intro _ | apply State.childUp_keeps | apply KeepsFst.ite | split | refine KeepsFst.get ‹_› ?_

theorem State.rekeyStart_keeps {qt : Bool} {z0 s : State} (k : ChildSa) (hs : Keeps qt z0 s) :
    Keeps qt z0 (State.rekeyStart s k) := by
  unfold State.rekeyStart
  try dsimp only
  with_reducible repeat' first
    | assumption | intro _ | apply keeps_ite | apply State.svcSay_keeps | apply State.putChild_keeps
    | refine keeps_upd ?_ rfl (fun m => m) | split

theorem State.onRekeyReq_keeps {z0 s : State} (k : IkeSa) (sa : Nat) (addKe : Bool) (hs : Keeps false z0 s) :
    Keeps false z0 (State.onRekeyReq s k sa addKe) := by
  unfold State.onRekeyReq
  try dsimp only
  with_reducible repeat' first
    | assumption | intro _ | apply keeps_ite | apply State.raise_keeps | apply State.svcSay_keeps
    | apply State.putChild_keeps | apply State.rekeyInstall_keeps | split | refine KeepsFst.get ‹_› ?_
    | refine keeps_upd ?_ rfl (fun m => m)

theorem State.onRekeyResp_keeps {z0 s : State} (k : IkeSa) (sa : Nat) (ok : Bool) (hs : Keeps false z0 s) :
    Keeps false z0 (State.onRekeyResp s k sa ok) := by
  unfold State.onRekeyResp
  try dsimp only
  with_reducible repeat' first
    | assumption | intro _ | apply keeps_ite | apply State.raise_keeps | apply State.svcActivate_keeps
    | apply State.putChild_keeps | apply State.rekeyInstall_keeps | split | refine KeepsFst.get ‹_› ?_
    | refine keeps_upd ?_ rfl (fun m => m)

theorem State.switchExpiry_keeps {z0 s : State} (id : Nat) (hs : Keeps false z0 s) :
    Keeps false z0 (State.switchExpiry s id) := by
  unfold State.switchExpiry
  try dsimp only
  with_reducible repeat' first
    | assumption | intro _ | apply keeps_ite | apply State.svcActivate_keeps | split

theorem State.settleChild_keeps {z0 s : State} (k : ChildSa) (hs : Keeps false z0 s) :
    Keeps false z0 (State.settleChild s k) := by
  unfold State.settleChild
  try dsimp only
  with_reducible repeat' first
    | assumption | intro _ | apply keeps_ite | apply State.svcSay_keeps | apply State.putChild_keeps
    | apply State.childDown_keeps | split

theorem State.svcSweep_keeps {z0 s : State} (hs : Keeps false z0 s) :
    Keeps false z0 (State.svcSweep s) := by
  unfold State.svcSweep
  with_reducible repeat' first
    | assumption | intro _ | apply keeps_ite | apply State.settleChild_keeps | apply keeps_foldl
    | apply keeps_foldl_fst | split

theorem State.onDeleteChild_keeps {z0 s : State} (k : IkeSa) (sa : Nat) (hs : Keeps false z0 s) :
    Keeps false z0 (State.onDeleteChild s k sa) := by
  unfold State.onDeleteChild
  try dsimp only
  with_reducible repeat' first
    | assumption | intro _ | apply keeps_ite | apply State.svcSay_keeps | apply State.putChild_keeps
    | apply State.childDown_keeps | split | refine keeps_upd ?_ rfl (fun m => m)

theorem State.ikeRekeyed_keeps {z0 s : State} (k : IkeSa) (hs : Keeps false z0 s) :
    Keeps false z0 (State.ikeRekeyed s k).1 := by
  unfold State.ikeRekeyed
  try dsimp only
  with_reducible repeat' first
    | assumption | intro _ | apply State.rekeySessions_keeps | apply State.ikeDown_keeps | apply KeepsFst.ite | split
    | refine KeepsFst.get ‹_› ?_ | refine keeps_upd ?_ rfl (fun m => m)

theorem State.svcTake_keeps {qt : Bool} {z0 s : State} (hs : Keeps qt z0 s) :
    Keeps qt z0 (State.svcTake s) := by
  unfold State.svcTake
  try dsimp only
  with_reducible repeat' first
    | assumption | intro _ | refine keeps_upd ?_ rfl (fun m => m) | split

theorem State.onIke_keeps {z0 s : State} (k : IkeSa) (x0 : IkeKind) (hs : Keeps false z0 s) :
    Keeps false z0 (State.onIke s k x0) := by
  unfold State.onIke
  try dsimp only
  with_reducible repeat' first
    | assumption | intro _ | apply keeps_ite | apply State.svcSay_keeps | apply State.ikeDown_keeps
    | apply State.onInitResp_keeps | apply State.onInter_keeps | apply State.onAuth_keeps
    | apply State.onChildReq_keeps | apply State.onChildResp_keeps | apply State.onRekeyReq_keeps
    | apply State.onRekeyResp_keeps | apply State.onDeleteChild_keeps | apply State.ikeRekeyed_keeps | split
    | refine KeepsFst.get ‹_› ?_

theorem State.onMessage_keeps {z0 s : State} (m : IkeMsg) (hs : Keeps false z0 s) :
    Keeps false z0 (State.onMessage s m) := by
  unfold State.onMessage
  try dsimp only
  with_reducible repeat' first
    | assumption | intro _ | apply keeps_ite | apply State.onInitReq_keeps | apply State.svcTake_keeps
    | apply State.onIke_keeps | split

theorem State.takeSaevt_keeps {qt : Bool} {z0 s : State} (c : Nat) (hs : Keeps qt z0 s) :
    KeepsOpt qt z0 (State.takeSaevt s c) := by
  unfold State.takeSaevt
  try dsimp only
  with_reducible repeat' first
    | assumption | intro _ | apply keeps_ite | apply State.level_keeps | exact KeepsOpt.none | apply KeepsOpt.some
    | apply KeepsOpt.ite | apply KeepsOpt.map | apply KeepsOpt.bind | refine keeps_upd ?_ rfl (fun m => m) | split

theorem State.childRekey_keeps {qt : Bool} {z0 s : State} (id : Nat) (hs : Keeps qt z0 s) :
    Keeps qt z0 (State.childRekey s id) := by
  unfold State.childRekey
  try dsimp only
  with_reducible repeat' first
    | assumption | intro _ | apply keeps_ite | apply State.rekeyStart_keeps | apply State.takeSaevt_keeps | split
    | refine KeepsOpt.get ‹_› ?_

theorem State.hardLife_keeps {z0 s : State} (id : Nat) (hs : Keeps false z0 s) :
    Keeps false z0 (State.hardLife s id) := by
  unfold State.hardLife
  try dsimp only
  with_reducible repeat' first
    | assumption | intro _ | apply keeps_ite | apply State.svcSay_keeps | apply State.svcRetireAll_keeps
    | apply State.svcActivate_keeps | apply State.putChild_keeps | apply State.childDown_keeps | split
    | refine keeps_upd ?_ rfl (fun m => m)

theorem State.liveness_keeps {z0 s : State} (id : Nat) (ok : Bool) (hs : Keeps false z0 s) :
    Keeps false z0 (State.liveness s id ok) := by
  unfold State.liveness
  try dsimp only
  with_reducible repeat' first
    | assumption | intro _ | apply keeps_ite | apply State.svcSay_keeps | apply State.ikeDown_keeps | split

theorem State.ikeRekey_keeps {qt : Bool} {z0 s : State} (id : Nat) (hs : Keeps qt z0 s) :
    Keeps qt z0 (State.ikeRekey s id) := by
  unfold State.ikeRekey
  try dsimp only
  with_reducible repeat' first
    | assumption | intro _ | apply keeps_ite | apply State.svcSay_keeps | split

theorem execIkeMessage_keeps (m : IkeMsg) {s : State} {sn : State} (he : execIkeMessage m s = .next sn) : Keeps false s sn := by
  unfold execIkeMessage at he
  injection he with he
  subst he
  have h0 := Keeps.refl false s
  with_reducible repeat' first
    | assumption | intro _ | apply State.onMessage_keeps | split

theorem execChildRekey_keeps {qt : Bool} (k : Nat) {s : State} {sn : State} (he : execChildRekey k s = .next sn) : Keeps qt s sn := by
  unfold execChildRekey at he
  injection he with he
  subst he
  have h0 := Keeps.refl qt s
  with_reducible repeat' first
    | assumption | intro _ | apply State.childRekey_keeps | split

theorem execSwitchMsExpiry_keeps (k : Nat) {s : State} {sn : State} (he : execSwitchMsExpiry k s = .next sn) : Keeps false s sn := by
  unfold execSwitchMsExpiry at he
  injection he with he
  subst he
  have h0 := Keeps.refl false s
  with_reducible repeat' first
    | assumption | intro _ | apply State.switchExpiry_keeps | split

theorem execHardLifetime_keeps (k : Nat) {s : State} {sn : State} (he : execHardLifetime k s = .next sn) : Keeps false s sn := by
  unfold execHardLifetime at he
  injection he with he
  subst he
  have h0 := Keeps.refl false s
  with_reducible repeat' first
    | assumption | intro _ | apply State.hardLife_keeps | split

theorem execIkeDpd_keeps (k : Nat) (ok : Bool) {s : State} {sn : State} (he : execIkeDpd k ok s = .next sn) : Keeps false s sn := by
  unfold execIkeDpd at he
  injection he with he
  subst he
  have h0 := Keeps.refl false s
  with_reducible repeat' first
    | assumption | intro _ | apply State.liveness_keeps | split

theorem execIkeSaRekey_keeps {qt : Bool} (k : Nat) {s : State} {sn : State} (he : execIkeSaRekey k s = .next sn) : Keeps qt s sn := by
  unfold execIkeSaRekey at he
  injection he with he
  subst he
  have h0 := Keeps.refl qt s
  with_reducible repeat' first
    | assumption | intro _ | apply State.ikeRekey_keeps | split

theorem execDrainEnd_keeps (c : Fin 0x110000) {s : State} {sn : State} (he : execDrainEnd c s = .next sn) : Keeps false s sn := by
  unfold execDrainEnd at he
  injection he with he
  subst he
  have h0 := Keeps.refl false s
  with_reducible repeat' first
    | assumption | intro _ | apply State.endDrain_keeps | apply State.svcSweep_keeps | split

theorem execRelinkScanEnd_keeps {s : State} {sn : State} (he : execRelinkScanEnd s = .next sn) : Keeps false s sn := by
  unfold execRelinkScanEnd at he
  injection he with he
  subst he
  have h0 := Keeps.refl false s
  with_reducible repeat' first
    | assumption | intro _ | apply State.endScan_keeps | apply State.svcSweep_keeps | split

theorem State.startPeers_keeps {qt : Bool} {z0 s : State} (onPort : Nat → Bool) (hs : Keeps qt z0 s) :
    Keeps qt z0 (State.startPeers s onPort) := by
  unfold State.startPeers
  with_reducible repeat' first
    | assumption | intro _ | apply State.ikeStart_keeps | apply keeps_foldl | apply keeps_foldl_fst | split

theorem State.joinGroups_keeps {qt : Bool} {z0 s : State} (p : Nat) (hs : Keeps qt z0 s) :
    Keeps qt z0 (State.joinGroups s p) := by
  unfold State.joinGroups
  try dsimp only
  with_reducible repeat' first
    | assumption | intro _ | apply State.groupJoin_keeps | apply keeps_foldl | apply keeps_foldl_fst | split

theorem State.svcLinkUp_keeps {qt : Bool} {z0 s : State} (p : Nat) (hs : Keeps qt z0 s) :
    Keeps qt z0 (State.svcLinkUp s p) := by
  unfold State.svcLinkUp
  with_reducible repeat' first
    | assumption | intro _ | apply keeps_ite | apply State.startPeers_keeps | apply State.joinGroups_keeps | split

theorem State.svcRecover_keeps {z0 s : State} (hs : Keeps false z0 s) :
    Keeps false z0 (State.svcRecover s) := by
  unfold State.svcRecover
  try dsimp only
  with_reducible repeat' first
    | assumption | intro _ | apply keeps_ite | apply State.svcRetireAll_keeps | apply State.groupPush_keeps
    | apply State.startPeers_keeps | apply keeps_foldl | apply keeps_foldl_fst | split

theorem State.svcRestart_keeps {z0 s : State} (hs : Keeps false z0 s) :
    Keeps false z0 (State.svcRestart s) := by
  unfold State.svcRestart
  with_reducible repeat' first
    | assumption | intro _ | apply keeps_ite | apply State.raise_keeps | apply State.startSvc_keeps
    | apply State.svcRecover_keeps | split

theorem State.svcCommand_keeps {qt : Bool} {z0 s : State} (w : MbxWin) (cmd : Nat) (k : State → List Byte → State × Nat × List Byte) (h_k : ∀ (a0 : State) (a1 : List Byte), Keeps qt z0 a0 → Keeps qt z0 (k a0 a1).1) (hs : Keeps qt z0 s) :
    Keeps qt z0 (State.svcCommand s w cmd k) := by
  unfold State.svcCommand
  try dsimp only
  with_reducible repeat' first
    | assumption | intro _ | apply h_k | apply keeps_ite | apply State.respond_keeps | apply State.mbxRun_keeps
    | split

theorem State.peerCommand_keeps {qt : Bool} {z0 s : State} (w : MbxWin) (cmd : Nat) (k : State → Nat → State) (h_k : ∀ (a0 : State) (a1 : Nat), Keeps qt z0 a0 → Keeps qt z0 (k a0 a1)) (hs : Keeps qt z0 s) :
    Keeps qt z0 (State.peerCommand s w cmd k) := by
  unfold State.peerCommand
  try dsimp only
  with_reducible repeat' first
    | assumption | intro _ | apply h_k | apply keeps_ite | apply State.svcCommand_keeps | split

theorem State.peerDown_keeps {z0 s : State} (i : Nat) (hs : Keeps false z0 s) :
    Keeps false z0 (State.peerDown s i) := by
  unfold State.peerDown
  try dsimp only
  with_reducible repeat' first
    | assumption | intro _ | apply State.svcSay_keeps | apply State.ikeDown_keeps | apply keeps_foldl
    | apply keeps_foldl_fst | split

theorem State.peerRekey_keeps {qt : Bool} {z0 s : State} (i : Nat) (hs : Keeps qt z0 s) :
    Keeps qt z0 (State.peerRekey s i) := by
  unfold State.peerRekey
  try dsimp only
  with_reducible repeat' first
    | assumption | intro _ | apply State.rekeyStart_keeps | apply keeps_foldl | apply keeps_foldl_fst | split

theorem State.groupRekey_keeps {z0 s : State} (id : Nat) (hs : Keeps false z0 s) :
    Keeps false z0 (State.groupRekey s id).1 := by
  unfold State.groupRekey
  try dsimp only
  with_reducible repeat' first
    | assumption | intro _ | apply keeps_ite | apply State.groupPush_keeps | apply KeepsFst.ite | split

theorem State.vigilPortsBack_keeps {qt : Bool} {z0 s : State} (hs : Keeps qt z0 s) :
    Keeps qt z0 (State.vigilPortsBack s) := by
  unfold State.vigilPortsBack
  try dsimp only
  with_reducible repeat' first
    | assumption | intro _ | apply State.set_keeps | apply State.clr_keeps | apply State.setLink_keeps
    | apply keeps_foldl | apply keeps_foldl_fst | split

theorem State.vigilOut_keeps {z0 s : State} (hs : Keeps false z0 s) :
    Keeps false z0 (State.vigilOut s) := by
  unfold State.vigilOut
  try dsimp only
  with_reducible repeat' first
    | assumption | intro _ | apply keeps_ite | apply State.clr_keeps | apply State.raise_keeps
    | apply State.vigilReq_keeps | apply State.deliverAlarms_keeps | apply State.svcRestart_keeps
    | apply State.vigilPortsBack_keeps | refine keeps_upd ?_ rfl (fun m => m) | split

theorem execSvcStatus_keeps {qt : Bool} (w : MbxWin) {s : State} {sn : State} (he : execSvcStatus w s = .next sn) : Keeps qt s sn := by
  unfold execSvcStatus at he
  injection he with he
  subst he
  have h0 := Keeps.refl qt s
  try dsimp only
  with_reducible repeat' first
    | assumption | intro _ | apply State.svcCommand_keeps | split

theorem execPeerUp_keeps {qt : Bool} (w : MbxWin) {s : State} {sn : State} (he : execPeerUp w s = .next sn) : Keeps qt s sn := by
  unfold execPeerUp at he
  injection he with he
  subst he
  have h0 := Keeps.refl qt s
  with_reducible repeat' first
    | assumption | intro _ | apply State.ikeStart_keeps | apply State.peerCommand_keeps | split

theorem execPeerDown_keeps (w : MbxWin) {s : State} {sn : State} (he : execPeerDown w s = .next sn) : Keeps false s sn := by
  unfold execPeerDown at he
  injection he with he
  subst he
  have h0 := Keeps.refl false s
  with_reducible repeat' first
    | assumption | intro _ | apply State.peerCommand_keeps | apply State.peerDown_keeps | split

theorem execSvcRekey_keeps {qt : Bool} (w : MbxWin) {s : State} {sn : State} (he : execSvcRekey w s = .next sn) : Keeps qt s sn := by
  unfold execSvcRekey at he
  injection he with he
  subst he
  have h0 := Keeps.refl qt s
  with_reducible repeat' first
    | assumption | intro _ | apply State.peerCommand_keeps | apply State.peerRekey_keeps | split

theorem execGroupRekey_keeps (w : MbxWin) {s : State} {sn : State} (he : execGroupRekey w s = .next sn) : Keeps false s sn := by
  unfold execGroupRekey at he
  injection he with he
  subst he
  have h0 := Keeps.refl false s
  try dsimp only
  with_reducible repeat' first
    | assumption | intro _ | apply State.svcCommand_keeps | apply State.groupRekey_keeps | split
    | refine KeepsFst.get ‹_› ?_

theorem execPeerList_keeps {qt : Bool} (w : MbxWin) {s : State} {sn : State} (he : execPeerList w s = .next sn) : Keeps qt s sn := by
  unfold execPeerList at he
  injection he with he
  subst he
  have h0 := Keeps.refl qt s
  try dsimp only
  with_reducible repeat' first
    | assumption | intro _ | apply State.svcCommand_keeps | split

theorem execSvcHeartbeatTimeout_keeps {s : State} {sn : State} (he : execSvcHeartbeatTimeout s = .next sn) : Keeps false s sn := by
  unfold execSvcHeartbeatTimeout at he
  injection he with he
  subst he
  have h0 := Keeps.refl false s
  with_reducible repeat' first
    | assumption | intro _ | apply keeps_ite | apply State.blockReset_keeps | split

theorem execConnect_keeps (x : Fin 64) {s : State} {sn : State} (he : execConnect x s = .next sn) : Keeps false s sn := by
  unfold execConnect at he
  injection he with he
  subst he
  have h0 := Keeps.refl false s
  with_reducible repeat' first
    | assumption | intro _ | apply keeps_ite | apply State.reconnect_keeps | apply State.svcRestart_keeps | split

theorem execLinkChange_keeps {qt : Bool} (p : Fin 16) (up : Bool) (aui : Bool) {s : State} {sn : State} (he : execLinkChange p up aui s = .next sn) : Keeps qt s sn := by
  unfold execLinkChange at he
  injection he with he
  subst he
  have h0 := Keeps.refl qt s
  with_reducible repeat' first
    | assumption | intro _ | apply State.linkChange_keeps | apply State.noteLink_keeps | apply State.svcLinkUp_keeps
    | split

theorem execVigilExitDone_keeps {s : State} {sn : State} (he : execVigilExitDone s = .next sn) : Keeps false s sn := by
  unfold execVigilExitDone at he
  injection he with he
  subst he
  have h0 := Keeps.refl false s
  with_reducible repeat' first
    | assumption | intro _ | apply State.vigilOut_keeps | split

theorem State.tapSelect_keeps {qt : Bool} {z0 s : State} (code : Nat) (out : List Byte) (hs : Keeps qt z0 s) :
    Keeps qt z0 (State.tapSelect s code out) := by
  unfold State.tapSelect
  try dsimp only
  with_reducible repeat' first
    | assumption | intro _ | refine keeps_upd ?_ rfl (fun m => m) | split

theorem State.tapBypassed_keeps {qt : Bool} {z0 s : State} (hs : Keeps qt z0 s) :
    Keeps qt z0 (State.tapBypassed s) := by
  unfold State.tapBypassed
  with_reducible repeat' first
    | assumption | intro _ | apply State.tapSelect_keeps | split

theorem State.tapRun_keeps {qt : Bool} {z0 s : State} (code : Nat) (k : State → State) (h_k : ∀ (a0 : State), Keeps qt z0 a0 → Keeps qt z0 (k a0)) (hs : Keeps qt z0 s) :
    Keeps qt z0 (State.tapRun s code k) := by
  unfold State.tapRun
  with_reducible repeat' first
    | assumption | intro _ | apply h_k | apply keeps_ite | apply State.tapSelect_keeps | split

theorem State.tapScoped_keeps {qt : Bool} {z0 s : State} (b : Nat) (code : Nat) (k : State → State) (h_k : ∀ (a0 : State), Keeps qt z0 a0 → Keeps qt z0 (k a0)) (hs : Keeps qt z0 s) :
    Keeps qt z0 (State.tapScoped s b code k) := by
  unfold State.tapScoped
  with_reducible repeat' first
    | assumption | intro _ | apply h_k | apply keeps_ite | apply State.tapSelect_keeps
    | apply State.tapBypassed_keeps | split

theorem State.tapShift_keeps {qt : Bool} {z0 s : State} (out : List Byte) (hs : Keeps qt z0 s) :
    Keeps qt z0 (State.tapShift s out) := by
  unfold State.tapShift
  try dsimp only
  with_reducible repeat' first
    | assumption | intro _ | refine keeps_upd ?_ rfl (fun m => m) | split

theorem State.tapFree_keeps {qt : Bool} {z0 s : State} (n : Nat) (hs : Keeps qt z0 s) :
    Keeps qt z0 (State.tapFree s n) := by
  unfold State.tapFree
  try dsimp only
  with_reducible repeat' first
    | assumption | intro _ | apply State.freeBytes_keeps | apply State.tapShift_keeps | split
    | refine KeepsSnd.get ‹_› ?_

theorem State.tapHolds_keeps {z0 s : State} (hs : Keeps false z0 s) :
    Keeps false z0 (State.tapHolds s) := by
  unfold State.tapHolds
  try dsimp only
  with_reducible repeat' first
    | assumption | intro _ | apply State.systemReset_keeps | refine keeps_upd ?_ rfl (fun m => m) | split

theorem State.tapLogicReset_keeps {qt : Bool} {z0 s : State} (hs : Keeps qt z0 s) :
    Keeps qt z0 (State.tapLogicReset s) := by
  unfold State.tapLogicReset
  try dsimp only
  with_reducible repeat' first
    | assumption | intro _ | refine keeps_upd ?_ rfl (fun m => m) | split

theorem State.dbgRead_keeps {qt : Bool} {z0 s : State} (m : List Host.Cell) (size : Nat) (a : Nat) (hs : Keeps qt z0 s) :
    Keeps qt z0 (State.dbgRead s m size a) := by
  unfold State.dbgRead
  with_reducible repeat' first
    | assumption | intro _ | apply keeps_ite | apply State.tapShift_keeps | apply State.tapFree_keeps | split

theorem State.dbgCup_keeps {z0 s : State} (x0 : DbgOp) (hs : Keeps false z0 s) :
    Keeps false z0 (State.dbgCup s x0) := by
  unfold State.dbgCup
  try dsimp only
  with_reducible repeat' first
    | assumption | intro _ | apply keeps_ite | apply State.dbgRead_keeps | apply keeps_cupWrite | split
    | refine keeps_upd ?_ rfl (fun m => m)

theorem State.dbgSvc_keeps {z0 s : State} (x0 : DbgOp) (hs : Keeps false z0 s) :
    Keeps false z0 (State.dbgSvc s x0) := by
  unfold State.dbgSvc
  try dsimp only
  with_reducible repeat' first
    | assumption | intro _ | apply keeps_ite | apply State.dbgRead_keeps | apply keeps_svcWrite | split
    | refine keeps_upd ?_ rfl (fun m => m)

theorem State.dbgGo_keeps {z0 s : State} (op : DbgOp) (hs : Keeps false z0 s) :
    Keeps false z0 (State.dbgGo s op) := by
  unfold State.dbgGo
  with_reducible repeat' first
    | assumption | intro _ | apply keeps_ite | apply State.bootGo_keeps | split

theorem State.tapRead_keeps {qt : Bool} {z0 s : State} (o : Nat) (hs : Keeps qt z0 s) :
    Keeps qt z0 (State.tapRead s o) := by
  unfold State.tapRead
  try dsimp only
  with_reducible repeat' first
    | assumption | intro _ | apply State.readReg_keeps | apply State.busRead_keeps | apply State.tapShift_keeps
    | split

theorem execTapIdcode_keeps {qt : Bool} {s : State} {sn : State} (he : execTapIdcode s = .next sn) : Keeps qt s sn := by
  unfold execTapIdcode at he
  injection he with he
  subst he
  have h0 := Keeps.refl qt s
  with_reducible repeat' first
    | assumption | intro _ | apply State.tapRun_keeps | apply State.tapShift_keeps | split

theorem execSamplePreload_keeps {qt : Bool} (v : List Byte) {s : State} {sn : State} (he : execSamplePreload v s = .next sn) : Keeps qt s sn := by
  unfold execSamplePreload at he
  injection he with he
  subst he
  have h0 := Keeps.refl qt s
  try dsimp only
  with_reducible repeat' first
    | assumption | intro _ | apply State.tapRun_keeps | apply State.tapFree_keeps
    | refine keeps_upd ?_ rfl (fun m => m) | split

theorem execExtest_keeps {s : State} {sn : State} (he : execExtest s = .next sn) : Keeps false s sn := by
  unfold execExtest at he
  injection he with he
  subst he
  have h0 := Keeps.refl false s
  with_reducible repeat' first
    | assumption | intro _ | apply State.tapRun_keeps | apply State.tapHolds_keeps | split

theorem execExtestPulse_keeps {s : State} {sn : State} (he : execExtestPulse s = .next sn) : Keeps false s sn := by
  unfold execExtestPulse at he
  injection he with he
  subst he
  have h0 := Keeps.refl false s
  with_reducible repeat' first
    | assumption | intro _ | apply State.tapRun_keeps | apply State.tapHolds_keeps | split

theorem execExtestTrain_keeps {s : State} {sn : State} (he : execExtestTrain s = .next sn) : Keeps false s sn := by
  unfold execExtestTrain at he
  injection he with he
  subst he
  have h0 := Keeps.refl false s
  with_reducible repeat' first
    | assumption | intro _ | apply State.tapRun_keeps | apply State.tapHolds_keeps | split

theorem execClamp_keeps {s : State} {sn : State} (he : execClamp s = .next sn) : Keeps false s sn := by
  unfold execClamp at he
  injection he with he
  subst he
  have h0 := Keeps.refl false s
  with_reducible repeat' first
    | assumption | intro _ | apply State.tapRun_keeps | apply State.tapHolds_keeps | split

theorem execHighz_keeps {s : State} {sn : State} (he : execHighz s = .next sn) : Keeps false s sn := by
  unfold execHighz at he
  injection he with he
  subst he
  have h0 := Keeps.refl false s
  with_reducible repeat' first
    | assumption | intro _ | apply State.tapRun_keeps | apply State.tapHolds_keeps | split

theorem execTapReset_keeps {qt : Bool} {s : State} {sn : State} (he : execTapReset s = .next sn) : Keeps qt s sn := by
  unfold execTapReset at he
  injection he with he
  subst he
  have h0 := Keeps.refl qt s
  with_reducible repeat' first
    | assumption | intro _ | apply keeps_ite | apply State.tapLogicReset_keeps | split

theorem execLcsStatus_keeps {qt : Bool} {s : State} {sn : State} (he : execLcsStatus s = .next sn) : Keeps qt s sn := by
  unfold execLcsStatus at he
  injection he with he
  subst he
  have h0 := Keeps.refl qt s
  try dsimp only
  with_reducible repeat' first
    | assumption | intro _ | apply State.tapRun_keeps | apply State.tapShift_keeps | split

theorem execLcsChal_keeps {qt : Bool} {s : State} {sn : State} (he : execLcsChal s = .next sn) : Keeps qt s sn := by
  unfold execLcsChal at he
  injection he with he
  subst he
  have h0 := Keeps.refl qt s
  try dsimp only
  with_reducible repeat' first
    | assumption | intro _ | apply keeps_ite | apply State.chalReq_keeps | apply State.tapRun_keeps
    | apply State.tapShift_keeps | split

theorem execTokenLoad_keeps {qt : Bool} (tok : List Byte) {s : State} {sn : State} (he : execTokenLoad tok s = .next sn) : Keeps qt s sn := by
  unfold execTokenLoad at he
  injection he with he
  subst he
  have h0 := Keeps.refl qt s
  try dsimp only
  with_reducible repeat' first
    | assumption | intro _ | apply keeps_ite | apply State.tokenStart_keeps | apply State.tapRun_keeps | split

theorem execCupDbg_keeps (op : DbgOp) {s : State} {sn : State} (he : execCupDbg op s = .next sn) : Keeps false s sn := by
  unfold execCupDbg at he
  injection he with he
  subst he
  have h0 := Keeps.refl false s
  try dsimp only
  with_reducible repeat' first
    | assumption | intro _ | apply State.tapScoped_keeps | apply State.dbgCup_keeps | apply State.dbgGo_keeps | split

theorem execSvcDbg_keeps (op : DbgOp) {s : State} {sn : State} (he : execSvcDbg op s = .next sn) : Keeps false s sn := by
  unfold execSvcDbg at he
  injection he with he
  subst he
  have h0 := Keeps.refl false s
  try dsimp only
  with_reducible repeat' first
    | assumption | intro _ | apply State.tapScoped_keeps | apply State.dbgSvc_keeps | split

theorem execRegRead_keeps {q : Bool} (addr : Word) {s sn : State} (he : execRegRead addr s = .next sn) : Keeps q s sn := by
  unfold execRegRead at he
  refine atBus_keeps _ addr _ _ (fun o => ?_) he
  exact State.tapScoped_keeps _ _ _ (fun x h => State.tapRead_keeps o h) (Keeps.refl q s)

theorem execProdTest_keeps {qt : Bool} (_v : Word) {s : State} {sn : State} (he : execProdTest _v s = .next sn) : Keeps qt s sn := by
  unfold execProdTest at he
  injection he with he
  subst he
  have h0 := Keeps.refl qt s
  with_reducible repeat' first
    | assumption | intro _ | apply State.tapScoped_keeps | apply State.tapFree_keeps | split

theorem execTapScan_keeps {qt : Bool} (_v : Word) {s : State} {sn : State} (he : execTapScan _v s = .next sn) : Keeps qt s sn := by
  unfold execTapScan at he
  injection he with he
  subst he
  have h0 := Keeps.refl qt s
  with_reducible repeat' first
    | assumption | intro _ | apply State.tapScoped_keeps | apply State.tapFree_keeps | split

theorem execAsyncDft_keeps {qt : Bool} (_v : Word) {s : State} {sn : State} (he : execAsyncDft _v s = .next sn) : Keeps qt s sn := by
  unfold execAsyncDft at he
  injection he with he
  subst he
  have h0 := Keeps.refl qt s
  with_reducible repeat' first
    | assumption | intro _ | apply State.tapScoped_keeps | apply State.tapFree_keeps | split

theorem execTapBypass_keeps {qt : Bool} (_b : Bool) {s : State} {sn : State} (he : execTapBypass _b s = .next sn) : Keeps qt s sn := by
  unfold execTapBypass at he
  injection he with he
  subst he
  have h0 := Keeps.refl qt s
  with_reducible repeat' first
    | assumption | intro _ | apply State.tapBypassed_keeps | apply State.tapRun_keeps | split

theorem State.ptpTick_keeps {qt : Bool} {z0 s : State} (hs : Keeps qt z0 s) :
    Keeps qt z0 (State.ptpTick s) := by
  unfold State.ptpTick
  try dsimp only
  with_reducible repeat' first
    | assumption | intro _ | refine keeps_upd ?_ rfl (fun m => m) | split

theorem State.busyTick_keeps {qt : Bool} {z0 s : State} (hs : Keeps qt z0 s) :
    Keeps qt z0 (State.busyTick s) := by
  unfold State.busyTick
  try dsimp only
  with_reducible repeat' first
    | assumption | intro _ | apply State.countTime_keeps | apply keeps_foldl | apply keeps_foldl_fst | split

theorem State.activateTick_keeps {z0 s : State} (hs : Keeps false z0 s) :
    Keeps false z0 (State.activateTick s) := by
  unfold State.activateTick
  try dsimp only
  with_reducible repeat' first
    | assumption | intro _ | apply keeps_ite | apply State.systemReset_keeps | split

end Sys2Proof.Machine
end

