-- ==== Sys2Proof/Laws/Ops.lean ====
section
/-! SUPPORT. What the shared operations do: counters, events, fault messages, free values and the gate of a register access,
each said once so that no later proof unfolds them. -/

namespace Sys2Proof.Machine

/-! ### The data a read returns -/

@[simp] theorem State.rd_busOut (s : State) (x : DWord) (p : Nat) : ({ s with busOut := x } : State).rd p = s.rd p := rfl
@[simp] theorem State.get_busOut (s : State) (x : DWord) (f : Fld) : ({ s with busOut := x } : State).get f = s.get f := rfl
@[simp] theorem State.on_busOut (s : State) (x : DWord) (f : Fld) : ({ s with busOut := x } : State).on f = s.on f := rfl
@[simp] theorem State.cntGet_busOut (s : State) (x : DWord) (p : Nat) :
    ({ s with busOut := x } : State).cntGet p = s.cntGet p := rfl

/-! ### Counters -/

@[simp] theorem State.cntGet_wr (s : State) (o : Nat) (v : Word) (p : Nat) : (s.wr o v).cntGet p = s.cntGet p := rfl
@[simp] theorem State.cntGet_put (s : State) (f : Fld) (x p : Nat) : (s.put f x).cntGet p = s.cntGet p := rfl
@[simp] theorem State.cntGet_set (s : State) (f : Fld) (p : Nat) : (s.set f).cntGet p = s.cntGet p := rfl
@[simp] theorem State.cntGet_clr (s : State) (f : Fld) (p : Nat) : (s.clr f).cntGet p = s.cntGet p := rfl

theorem State.rd_count (s : State) (o n p : Nat) (h : ∀ f, satOf o = some f → p ≠ f.off) :
    (s.count o n).rd p = s.rd p := by
  unfold State.count
  dsimp only
  split
  · rfl
  · split
    · next f e => exact State.rd_put_of_ne _ f 1 p (h f e)
    · rfl

theorem State.rd_inc (s : State) (o p : Nat) (h : ∀ f, satOf o = some f → p ≠ f.off) : (s.inc o).rd p = s.rd p :=
  State.rd_count s o 1 p h

theorem State.cntGet_count (s : State) (o n : Nat) : (s.count o n).cntGet o = min (s.cntGet o + n) (cntMax o) := by
  unfold State.count
  dsimp only
  split
  · next h => simp only [State.cntGet, sget_sput_self]; exact (Nat.min_eq_left (Nat.le_of_lt h)).symm
  · next h =>
    have k : cntMax o ≤ s.cntGet o + n := Nat.le_of_not_lt h
    split <;>
      simp only [State.cntGet, State.set, State.put, State.wr, sget_sput_self] <;> exact (Nat.min_eq_right k).symm

theorem State.cntGet_count_of_ne (s : State) (o n p : Nat) (h : p ≠ o) : (s.count o n).cntGet p = s.cntGet p := by
  unfold State.count
  dsimp only
  split
  · simp only [State.cntGet, sget_sput_of_ne _ _ _ _ _ h]
  · split <;> simp only [State.cntGet, State.set, State.put, State.wr, sget_sput_of_ne _ _ _ _ _ h]

theorem State.cntGet_inc (s : State) (o : Nat) : (s.inc o).cntGet o = min (s.cntGet o + 1) (cntMax o) :=
  State.cntGet_count s o 1

theorem State.cntGet_inc_of_ne (s : State) (o p : Nat) (h : p ≠ o) : (s.inc o).cntGet p = s.cntGet p :=
  State.cntGet_count_of_ne s o 1 p h

theorem sget_serase_self {α : Type} (d : Nat → α) (m : List (Nat × α)) (k : Nat) : sget d (serase m k) k = d k := by
  unfold sget
  rw [find_serase_self]

theorem sget_serase_of_ne {α : Type} (d : Nat → α) (m : List (Nat × α)) (k j : Nat) (h : j ≠ k) :
    sget d (serase m k) j = sget d m j := by
  unfold sget
  rw [find_serase_of_ne m k j h]

theorem State.cntClear_cnt (s : State) (o : Nat) : (s.cntClear o).cnt = serase s.cnt o := by
  unfold State.cntClear
  dsimp only
  split <;> rfl

theorem State.cntClear_cntCopy (s : State) (o : Nat) : (s.cntClear o).cntCopy = serase s.cntCopy o := by
  unfold State.cntClear
  dsimp only
  split <;> rfl

theorem State.rd_cntClear (s : State) (o p : Nat) (h : ∀ f, satOf o = some f → p ≠ f.off) :
    (s.cntClear o).rd p = s.rd p := by
  unfold State.cntClear
  dsimp only
  split
  · next f e => exact State.rd_put_of_ne _ f 0 p (h f e)
  · rfl

theorem State.cntGet_cntClear (s : State) (o p : Nat) :
    (s.cntClear o).cntGet p = if p = o then 0 else s.cntGet p := by
  unfold State.cntGet
  rw [State.cntClear_cnt]
  split
  · next h =>
    subst h
    exact sget_serase_self _ _ _
  · next h => exact sget_serase_of_ne _ _ _ _ h

theorem State.copy_cntClear (s : State) (o p : Nat) :
    sget (fun _ => 0) (s.cntClear o).cntCopy p = if p = o then 0 else sget (fun _ => 0) s.cntCopy p := by
  rw [State.cntClear_cntCopy]
  split
  · next h =>
    subst h
    exact sget_serase_self _ _ _
  · next h => exact sget_serase_of_ne _ _ _ _ h

/-! ### Fault messages and free values -/

@[simp] theorem State.rd_report (s : State) (a b c d p : Nat) : (s.report a b c d).rd p = s.rd p := rfl
@[simp] theorem State.cntGet_report (s : State) (a b c d p : Nat) : (s.report a b c d).cntGet p = s.cntGet p := rfl
@[simp] theorem State.rd_setLive (s : State) (a b p : Nat) (x : Bool) : (s.setLive a b x).rd p = s.rd p := rfl
@[simp] theorem State.rd_freeNat (s : State) (p : Nat) : s.freeNat.2.rd p = s.rd p := rfl
@[simp] theorem State.rd_freeBytes (s : State) (n p : Nat) : (s.freeBytes n).2.rd p = s.rd p := rfl
@[simp] theorem State.rd_freeBool (s : State) (p : Nat) : s.freeBool.2.rd p = s.rd p := rfl

/-- A message joins the end of what is on its way to FCR. -/
theorem State.transit_report (s : State) (a b c d : Nat) :
    (s.report a b c d).fcr.transit = s.fcr.transit ++ [faultMsg a b c (sget (fun _ => 0) s.fcr.seqTx a) d] := rfl

/-! ### Events -/

theorem satOf_evc (k : Nat) (h : k < 3) : satOf (R.EVC_CNT k) = some ⟨R.EVC_SAT, k, 1⟩ := by
  have : k = 0 ∨ k = 1 ∨ k = 2 := by omega
  rcases this with rfl | rfl | rfl <;> decide

theorem State.rd_inc_evc (s : State) (k p : Nat) (hk : k < 3) (h : p ≠ R.EVC_SAT) : (s.inc (R.EVC_CNT k)).rd p = s.rd p :=
  State.rd_inc s _ p (fun f e => by
    rw [satOf_evc k hk] at e
    cases e
    exact h)

theorem State.rd_msix (s : State) (fn vec p : Nat) (h : p ≠ R.EVC_SAT) : (s.msix fn vec).rd p = s.rd p := by
  unfold State.msix
  split
  · exact State.rd_inc_evc _ 0 p (by decide) h
  · exact State.rd_inc_evc _ 2 p (by decide) h

theorem State.rd_evcDeliver (s : State) (n p : Nat) (h : p ≠ R.EVC_SAT) : (s.evcDeliver n).rd p = s.rd p := by
  have key : ∀ x : State, (∀ b : Bool, (if b = true then x.irqCup n else x).rd p = x.rd p) := by
    intro x b
    split <;> rfl
  unfold State.evcDeliver
  split
  · rfl
  · dsimp only
    rw [key]
    split
    · split
      · exact State.rd_msix _ _ _ _ h
      · rfl
    · rfl
    · exact State.rd_msix _ _ _ _ h
    · split
      · exact State.rd_msix _ _ _ _ h
      · rfl

theorem State.rd_countIntn (a b : State) (p : Nat) (h : p ≠ R.EVC_SAT) : (countIntn a b).rd p = b.rd p := by
  unfold countIntn
  split
  · exact State.rd_inc_evc _ 1 p (by decide) h
  · rfl

/-- A source that rises touches its word of pending bits and, when a counter saturates, EVC_SAT. -/
theorem State.rd_raise (s : State) (n p : Nat) (h : p ≠ R.EVC_PEND 0 + n / 32 * 4) (k : p ≠ R.EVC_SAT) :
    (s.raise n).rd p = s.rd p := by
  unfold State.raise
  split
  · rfl
  · rw [State.rd_countIntn _ _ _ k, State.rd_evcDeliver _ _ _ k]
    exact State.rd_put_of_ne _ _ _ _ h

/-- Its pending bit is set afterwards. -/
theorem State.raise_pend (s : State) (n : Nat) (h : n < 256) : (s.raise n).on (evcBit (R.EVC_PEND 0) n) = true := by
  unfold State.raise
  split
  · assumption
  · have ne : (evcBit (R.EVC_PEND 0) n).off ≠ R.EVC_SAT := by
      unfold evcBit
      show R.EVC_PEND 0 + n / 32 * 4 ≠ R.EVC_SAT
      intro e
      have : n / 32 < 8 := by omega
      have e1 : R.EVC_PEND 0 = 0xd0030 := rfl
      have e2 : R.EVC_SAT = 0xd0118 := rfl
      omega
    unfold State.on State.get
    rw [State.rd_countIntn _ _ _ ne, State.rd_evcDeliver _ _ _ ne]
    have := State.on_set_self s (evcBit (R.EVC_PEND 0) n) (by show n % 32 + 1 ≤ 32; omega) rfl
    unfold State.on State.get at this
    exact this

/-- The registers of a source that changes level: as `raise`. -/
theorem State.rd_level (s : State) (n p : Nat) (b : Bool) (h : p ≠ R.EVC_PEND 0 + n / 32 * 4) (k : p ≠ R.EVC_SAT) :
    (s.level n b).rd p = s.rd p := by
  unfold State.level
  split
  · split
    · rfl
    · exact State.rd_raise _ n p h k
  · rfl

/-- The registers of a queue's error: Q_ERR, Q_STAT, and the event registers. -/
theorem State.get_raise (s : State) (n : Nat) (f : Fld) (h : f.off ≠ R.EVC_PEND 0 + n / 32 * 4) (k : f.off ≠ R.EVC_SAT) :
    (s.raise n).get f = s.get f := by
  unfold State.get
  rw [State.rd_raise s n f.off h k]

theorem State.on_raise (s : State) (n : Nat) (f : Fld) (h : f.off ≠ R.EVC_PEND 0 + n / 32 * 4) (k : f.off ≠ R.EVC_SAT) :
    (s.raise n).on f = s.on f := by
  unfold State.on
  rw [State.get_raise s n f h k]

theorem State.get_inc (s : State) (o : Nat) (f : Fld) (h : ∀ g, satOf o = some g → f.apart g) : (s.inc o).get f = s.get f := by
  unfold State.inc State.count
  dsimp only
  split
  · rfl
  · split
    · next g e =>
      refine State.get_put_apart _ g f 1 ?_
      have := h g e
      unfold Fld.apart at this ⊢
      omega
    · rfl

theorem State.on_inc (s : State) (o : Nat) (f : Fld) (h : ∀ g, satOf o = some g → f.apart g) : (s.inc o).on f = s.on f := by
  unfold State.on
  rw [State.get_inc s o f h]

/-! ### The gate -/

/-- A requester in reset issues nothing (R622). -/
theorem State.gateW_down (s : State) (r : Req) (o : Nat) (k : State → State) (h : s.reqUp r = false) : s.gateW r o k = s := by
  unfold State.gateW
  rw [h]
  rfl

/-- A permitted write has the register's effect. -/
theorem State.gateW_granted (s : State) (r : Req) (o : Nat) (k : State → State) (h : s.mayWrite r o) : s.gateW r o k = k s := by
  unfold State.gateW
  rw [h.1, h.2]
  rfl

/-- A refused write has the effects of R58. -/
theorem State.gateW_denied (s : State) (r : Req) (o : Nat) (k : State → State) (h : s.reqUp r = true)
    (g : s.grants r o true = false) : s.gateW r o k = s.denied r o true := by
  unfold State.gateW
  rw [h, g]
  rfl

theorem State.gateR_granted (s : State) (r : Req) (o : Nat) (k : State → State) (h : s.mayRead r o) : s.gateR r o k = k s := by
  unfold State.gateR
  rw [h.1, h.2]
  rfl

theorem State.gateR_denied (s : State) (r : Req) (o : Nat) (k : State → State) (h : s.reqUp r = true)
    (g : s.grants r o false = false) : s.gateR r o k = { s.denied r o false with busOut := 0 } := by
  unfold State.gateR
  rw [h, g]
  rfl

/-- The registers of a refused access: GLB_STAT, GLB_DENIED_ADDR, and the saturation bits of DKE. -/
theorem State.rd_denied (s : State) (r : Req) (o p : Nat) (wr : Bool) (h1 : p ≠ R.GLB_STAT) (h2 : p ≠ R.GLB_DENIED_ADDR)
    (h3 : p ≠ R.DKE_SAT) : (s.denied r o wr).rd p = s.rd p := by
  have key : ∀ x : State, x.rd p = s.rd p → ((x.set F.GLB_STAT_DENIED_ACC).inc R.GLB_DENIED).rd p = s.rd p := by
    intro x hx
    rw [State.rd_inc _ _ _ (fun f e => ?_), ← hx]
    · exact State.rd_put_of_ne _ _ _ _ h1
    · rw [show satOf R.GLB_DENIED = some ⟨4, 31, 1⟩ from by decide] at e
      cases e
      exact h1
  unfold State.denied
  dsimp only
  have base : ∀ c : Bool, (if c = true then s else s.wr R.GLB_DENIED_ADDR
      (BitVec.ofNat 32 (o % 2 ^ 24 + reqCode r * 2 ^ 24 + if wr then 2 ^ 31 else 0))).rd p = s.rd p := by
    intro c
    split
    · rfl
    · exact State.rd_wr_of_ne _ _ _ _ h2
  split
  · rw [State.rd_inc _ _ _ (fun f e => ?_)]
    · exact key _ (base _)
    · rw [show satOf (R.DKE_CNT 7) = some ⟨R.DKE_SAT, 7, 1⟩ from by decide] at e
      cases e
      exact h3
  · exact key _ (base _)

end Sys2Proof.Machine
end

