-- ==== Sys2Proof/Laws/PerInstr.lean ====
section
/-! SUPPORT. A fact for every command, one lemma per constructor: a well-formed command that names an address names one in
its requester's own map, aligned to the size of the access. -/

namespace Sys2Proof.Laws.WellFormedShape

/-- The statement about one command. -/
def Statement (i : Instr) : Prop :=
  i.wf = true → ∀ r a n, i.access? = some (r, a, n) → ∃ o, Machine.busOffset r a.toNat = some o ∧ o % n = 0

theorem of_wf (i : Instr) : Statement i := by
  intro h r a n ha
  unfold Instr.wf at h
  rw [ha] at h
  simp only [Bool.and_eq_true] at h
  obtain ⟨h, -⟩ := h
  unfold addrOk at h
  split at h
  · rename_i o ho
    exact ⟨o, ho, by simpa using h⟩
  · cases h

theorem registerWrite (r : Req) (addr : Word) (wide : Bool) (v : DWord) : Statement (.registerWrite r addr wide v) := of_wf _

theorem subwordWrite (r : Req) (addr : Word) (half : Bool) (v : BitVec 16) : Statement (.subwordWrite r addr half v) := of_wf _

theorem deniedAccess (r : Req) (addr : Word) (acc : Access) : Statement (.deniedAccess r addr acc) := of_wf _

theorem counterLowRead (r : Req) (addr : Word) (wide : Bool) : Statement (.counterLowRead r addr wide) := of_wf _

theorem glbSnap (r : Req) (v : Word) : Statement (.glbSnap r v) := of_wf _

theorem snapComplete : Statement (.snapComplete) := of_wf _

theorem codeViolation (src : Fin 0x126) (victim : Victim) : Statement (.codeViolation src victim) := of_wf _

theorem handshakeStall (src : Fin 0x126) (victim : Victim) : Statement (.handshakeStall src victim) := of_wf _

theorem connect (x : Fin 64) : Statement (.connect x) := of_wf _

theorem qgrpOwnerWrite (r : Req) (g : Fin 32) (v : Word) : Statement (.qgrpOwnerWrite r g v) := of_wf _

theorem vfFlr (vf : Fin 31) : Statement (.vfFlr vf) := of_wf _

theorem hostReset (c : HostReset) : Statement (.hostReset c) := of_wf _

theorem svcReset : Statement (.svcReset) := of_wf _

theorem queueEnable (r : Req) (q : Fin 4096) (v : Word) : Statement (.queueEnable r q v) := of_wf _

theorem queueDisable (r : Req) (q : Fin 4096) (v : Word) : Statement (.queueDisable r q v) := of_wf _

theorem queuePause (r : Req) (q : Fin 4096) (v : Word) : Statement (.queuePause r q v) := of_wf _

theorem pauseClear (r : Req) (q : Fin 4096) (v : Word) : Statement (.pauseClear r q v) := of_wf _

theorem queueFlush (r : Req) (q : Fin 4096) (v : Word) : Statement (.queueFlush r q v) := of_wf _

theorem flushComplete (q : Fin 4096) : Statement (.flushComplete q) := of_wf _

theorem cntSnap (r : Req) (q : Fin 4096) (v : Word) : Statement (.cntSnap r q v) := of_wf _

theorem qCntClr (r : Req) (q : Fin 4096) (v : Word) : Statement (.qCntClr r q v) := of_wf _

theorem queuePrioWrite (r : Req) (q : Fin 4096) (v : Word) : Statement (.queuePrioWrite r q v) := of_wf _

theorem queueCfgWrite (r : Req) (q : Fin 4096) (k : QCfgReg) (v : Word) : Statement (.queueCfgWrite r q k v) := of_wf _

theorem sqKick (r : Req) (q : Fin 4096) (v : Word) : Statement (.sqKick r q v) := of_wf _

theorem descFetchComplete (q : Fin 4096) : Statement (.descFetchComplete q) := of_wf _

theorem rereadComplete (q : Fin 4096) : Statement (.rereadComplete q) := of_wf _

theorem jobDispatch (p : Res) : Statement (.jobDispatch p) := of_wf _

theorem fenceRelease (q : Fin 4096) : Statement (.fenceRelease q) := of_wf _

theorem jobComplete (j : Nat) (chk : Check) : Statement (.jobComplete j chk) := of_wf _

theorem cqHeadWrite (r : Req) (q : Fin 4096) (v : Word) : Statement (.cqHeadWrite r q v) := of_wf _

theorem heldRecordTransfer (q : Fin 4096) : Statement (.heldRecordTransfer q) := of_wf _

theorem rngWaitTimeout (j : Nat) : Statement (.rngWaitTimeout j) := of_wf _

theorem keygen (j : Nat) : Statement (.keygen j) := of_wf _

theorem encaps (j : Nat) : Statement (.encaps j) := of_wf _

theorem decaps (j : Nat) : Statement (.decaps j) := of_wf _

theorem sign (j : Nat) : Statement (.sign j) := of_wf _

theorem verify (j : Nat) : Statement (.verify j) := of_wf _

theorem exchange (j : Nat) : Statement (.exchange j) := of_wf _

theorem hash (j : Nat) : Statement (.hash j) := of_wf _

theorem mac (j : Nat) : Statement (.mac j) := of_wf _

theorem macCompare (j : Nat) : Statement (.macCompare j) := of_wf _

theorem encrypt (j : Nat) : Statement (.encrypt j) := of_wf _

theorem decrypt (j : Nat) : Statement (.decrypt j) := of_wf _

theorem wrap (j : Nat) : Statement (.wrap j) := of_wf _

theorem unwrap (j : Nat) : Statement (.unwrap j) := of_wf _

theorem derive (j : Nat) : Statement (.derive j) := of_wf _

theorem attest (j : Nat) : Statement (.attest j) := of_wf _

theorem ctxInstall (j : Nat) : Statement (.ctxInstall j) := of_wf _

theorem ctxUpdate (j : Nat) : Statement (.ctxUpdate j) := of_wf _

theorem ctxRetire (j : Nat) : Statement (.ctxRetire j) := of_wf _

theorem ctxSnapshot (j : Nat) : Statement (.ctxSnapshot j) := of_wf _

theorem keepLoad (j : Nat) : Statement (.keepLoad j) := of_wf _

theorem keepErase (j : Nat) (bad : Nat) : Statement (.keepErase j bad) := of_wf _

theorem fence (q : Fin 4096) : Statement (.fence q) := of_wf _

theorem engineInstructionBoundary (e : Fin 256) (ns : BitVec 16) : Statement (.engineInstructionBoundary e ns) := of_wf _

theorem ltEnWrite (r : Req) (e : Fin 48) (v : Word) : Statement (.ltEnWrite r e v) := of_wf _

theorem aeaSelftest (r : Req) (e : Fin 48) (v : Word) : Statement (.aeaSelftest r e v) := of_wf _

theorem aeaSelftestEnd (e : Fin 48) (pass : Bool) : Statement (.aeaSelftestEnd e pass) := of_wf _

theorem maxinsnRead (r : Req) (e : Fin 48) : Statement (.maxinsnRead r e) := of_wf _

theorem ltCfgLock (r : Req) (v : Word) : Statement (.ltCfgLock r v) := of_wf _

theorem xcfgLock (r : Req) (v : Word) : Statement (.xcfgLock r v) := of_wf _

theorem leafWaitTimeout (j : Nat) : Statement (.leafWaitTimeout j) := of_wf _

theorem treeBuildComplete (j : Nat) : Statement (.treeBuildComplete j) := of_wf _

theorem jrAck (r : Req) (v : Word) : Statement (.jrAck r v) := of_wf _

theorem jrFail (r : Req) (v : Word) : Statement (.jrFail r v) := of_wf _

theorem jrPresent (r : Req) (v : Word) : Statement (.jrPresent r v) := of_wf _

theorem jrNoneLeft (r : Req) (v : Word) : Statement (.jrNoneLeft r v) := of_wf _

theorem seekTimeout : Statement (.seekTimeout) := of_wf _

theorem spireNext (e : Fin 48) : Statement (.spireNext e) := of_wf _

theorem spireBr (e : Fin 48) (ext : Bool) : Statement (.spireBr e ext) := of_wf _

theorem spireCall (e : Fin 48) (ext : Bool) : Statement (.spireCall e ext) := of_wf _

theorem spireRet (e : Fin 48) (ext : Bool) : Statement (.spireRet e ext) := of_wf _

theorem spireDisp (e : Fin 48) : Statement (.spireDisp e) := of_wf _

theorem spireLoop (e : Fin 48) : Statement (.spireLoop e) := of_wf _

theorem spireWait (e : Fin 48) (ext : Bool) : Statement (.spireWait e ext) := of_wf _

theorem spireWaitTaken (e : Fin 48) : Statement (.spireWaitTaken e) := of_wf _

theorem spireDone (e : Fin 48) : Statement (.spireDone e) := of_wf _

theorem spireAssert (e : Fin 48) (ext : Bool) : Statement (.spireAssert e ext) := of_wf _

theorem boundaryCap (e : Fin 48) : Statement (.boundaryCap e) := of_wf _

theorem controlStoreEccError (e : Fin 48) (uncorr : Bool) (addr : BitVec 40) : Statement (.controlStoreEccError e uncorr addr) := of_wf _

theorem ucsScrub (q : Fin 4) : Statement (.ucsScrub q) := of_wf _

theorem ucodeQWr (r : Req) (q : Fin 4) (v : Word) : Statement (.ucodeQWr r q v) := of_wf _

theorem ucodeArm (r : Req) (q : Fin 4) (v : Word) : Statement (.ucodeArm r q v) := of_wf _

theorem ucodeQClear (r : Req) (q : Fin 4) (v : Word) : Statement (.ucodeQClear r q v) := of_wf _

theorem ucodeQClearDone (q : Fin 4) : Statement (.ucodeQClearDone q) := of_wf _

theorem digestStart (r : Req) (q : Fin 4) (v : Word) : Statement (.digestStart r q v) := of_wf _

theorem digestComplete (q : Fin 4) : Statement (.digestComplete q) := of_wf _

theorem bundleAbandon : Statement (.bundleAbandon) := of_wf _

theorem linkChange (p : Fin 16) (up : Bool) (aui : Bool) : Statement (.linkChange p up aui) := of_wf _

theorem preemptVerify (p : Fin 16) (ok : Bool) : Statement (.preemptVerify p ok) := of_wf _

theorem restartAn (r : Req) (p : Fin 16) (v : Word) : Statement (.restartAn r p v) := of_wf _

theorem lifCntClr (r : Req) (p : Fin 16) (v : Word) : Statement (.lifCntClr r p v) := of_wf _

theorem frameIngress (p : Fin 16) (bytes : List Byte) (rx : RxInfo) : Statement (.frameIngress p bytes rx) := of_wf _

theorem dataPathAdvance (f : Nat) : Statement (.dataPathAdvance f) := of_wf _

theorem frameEgress (f : Nat) (chk : Check) : Statement (.frameEgress f chk) := of_wf _

theorem ptpHoldTimeout (f : Nat) : Statement (.ptpHoldTimeout f) := of_wf _

theorem timeAvailable : Statement (.timeAvailable) := of_wf _

theorem flowAging (k : Nat) : Statement (.flowAging k) := of_wf _

theorem recordForget (g : Fin 8) (k : Nat) : Statement (.recordForget g k) := of_wf _

theorem rgWrite (r : Req) (g : Fin 8) (v : Word) : Statement (.rgWrite r g v) := of_wf _

theorem saevtRead (r : Req) : Statement (.saevtRead r) := of_wf _

theorem ptpSnap (r : Req) (v : Word) : Statement (.ptpSnap r v) := of_wf _

theorem ptpStep (r : Req) (v : Word) : Statement (.ptpStep r v) := of_wf _

theorem lockSet (r : Req) (set : Bool) : Statement (.lockSet r set) := of_wf _

theorem holdoverExpiry : Statement (.holdoverExpiry) := of_wf _

theorem svcFrameTx (p : Fin 16) (bytes : List Byte) : Statement (.svcFrameTx p bytes) := of_wf _

theorem rotate (r : Req) (v : Word) : Statement (.rotate r v) := of_wf _

theorem fillComplete : Statement (.fillComplete) := of_wf _

theorem scrubPass (find : ScrubFind) : Statement (.scrubPass find) := of_wf _

theorem promotion (c : Fin 0x110000) : Statement (.promotion c) := of_wf _

theorem switchAtReached (c : Fin 0x110000) : Statement (.switchAtReached c) := of_wf _

theorem drainEnd (c : Fin 0x110000) : Statement (.drainEnd c) := of_wf _

theorem relinkNow (r : Req) (v : Word) : Statement (.relinkNow r v) := of_wf _

theorem relinkScanEnd : Statement (.relinkScanEnd) := of_wf _

theorem stackTempSample (t : Temps4) : Statement (.stackTempSample t) := of_wf _

theorem ctsCntClr (r : Req) (v : Word) : Statement (.ctsCntClr r v) := of_wf _

theorem ctsCfgLock (r : Req) (v : Word) : Statement (.ctsCfgLock r v) := of_wf _

theorem recoveryImage (img : List Byte) : Statement (.recoveryImage img) := of_wf _

theorem svcStatus (w : MbxWin) : Statement (.svcStatus w) := of_wf _

theorem peerUp (w : MbxWin) : Statement (.peerUp w) := of_wf _

theorem peerDown (w : MbxWin) : Statement (.peerDown w) := of_wf _

theorem svcRekey (w : MbxWin) : Statement (.svcRekey w) := of_wf _

theorem groupRekey (w : MbxWin) : Statement (.groupRekey w) := of_wf _

theorem peerList (w : MbxWin) : Statement (.peerList w) := of_wf _

theorem svcHb (v : Word) : Statement (.svcHb v) := of_wf _

theorem svcHeartbeatTimeout : Statement (.svcHeartbeatTimeout) := of_wf _

theorem ikeMessage (m : IkeMsg) : Statement (.ikeMessage m) := of_wf _

theorem childRekey (k : Nat) : Statement (.childRekey k) := of_wf _

theorem switchMsExpiry (k : Nat) : Statement (.switchMsExpiry k) := of_wf _

theorem hardLifetime (k : Nat) : Statement (.hardLifetime k) := of_wf _

theorem ikeDpd (k : Nat) (ok : Bool) : Statement (.ikeDpd k ok) := of_wf _

theorem gdoiMessage (m : GdoiMsg) : Statement (.gdoiMessage m) := of_wf _

theorem groupkeyPush (g : BitVec 16) : Statement (.groupkeyPush g) := of_wf _

theorem groupReregister (g : BitVec 16) : Statement (.groupReregister g) := of_wf _

theorem blobLoad (r : Req) (v : Word) : Statement (.blobLoad r v) := of_wf _

theorem bbkGen (r : Req) (v : Word) : Statement (.bbkGen r v) := of_wf _

theorem eraseAll (r : Req) (v : Word) (bad : Nat) : Statement (.eraseAll r v bad) := of_wf _

theorem keepCntClr (r : Req) (v : Word) : Statement (.keepCntClr r v) := of_wf _

theorem keepCfgLock (r : Req) (v : Word) : Statement (.keepCfgLock r v) := of_wf _

theorem sfevtRead (r : Req) : Statement (.sfevtRead r) := of_wf _

theorem dkeTake (r : Req) (c : Fin 4) : Statement (.dkeTake r c) := of_wf _

theorem dkeRelease (r : Req) (c : Fin 4) : Statement (.dkeRelease r c) := of_wf _

theorem dkeForce (r : Req) (c : Fin 4) : Statement (.dkeForce r c) := of_wf _

theorem dkeBlockBoundary (c : Fin 4) : Statement (.dkeBlockBoundary c) := of_wf _

theorem dkeStart (r : Req) (c : Fin 4) : Statement (.dkeStart r c) := of_wf _

theorem dkeAbort (r : Req) (c : Fin 4) : Statement (.dkeAbort r c) := of_wf _

theorem dkeClear (r : Req) (c : Fin 4) : Statement (.dkeClear r c) := of_wf _

theorem keyingDone (c : Fin 4) : Statement (.keyingDone c) := of_wf _

theorem beatAbsorbed (c : Fin 4) (chk : Check) : Statement (.beatAbsorbed c chk) := of_wf _

theorem finishDone (c : Fin 4) (disagree : Bool) (chk : Check) : Statement (.finishDone c disagree chk) := of_wf _

theorem resultRead (r : Req) (c : Fin 4) (k : Fin 17) : Statement (.resultRead r c k) := of_wf _

theorem dkeCntClr (r : Req) (v : Word) : Statement (.dkeCntClr r v) := of_wf _

theorem dkeCfgLock (r : Req) (v : Word) : Statement (.dkeCfgLock r v) := of_wf _

theorem sfiData (r : Req) (c : Fin 4) (v : Word) : Statement (.sfiData r c v) := of_wf _

theorem sfiEop (r : Req) (c : Fin 4) (n : Fin 4) (v : Word) : Statement (.sfiEop r c n v) := of_wf _

theorem sfiFlush (r : Req) (c : Fin 4) : Statement (.sfiFlush r c) := of_wf _

theorem abortPkt (r : Req) (c : Fin 4) : Statement (.abortPkt r c) := of_wf _

theorem underrun (c : Fin 4) : Statement (.underrun c) := of_wf _

theorem startupTestEnd (rep : BitVec 8) (prop : BitVec 8) (silent : BitVec 8) (shakeOk : Bool) (drbgOk : Bool) : Statement (.startupTestEnd rep prop silent shakeOk drbgOk) := of_wf _

theorem firstSeed : Statement (.firstSeed) := of_wf _

theorem healthTestFail (n : Fin 8) (cause : NsuCause) : Statement (.healthTestFail n cause) := of_wf _

theorem sourceRetest (n : Fin 8) (pass : Bool) : Statement (.sourceRetest n pass) := of_wf _

theorem seedProduced : Statement (.seedProduced) := of_wf _

theorem reseed (d : Fin 16) : Statement (.reseed d) := of_wf _

theorem rngRestart (r : Req) (v : Word) : Statement (.rngRestart r v) := of_wf _

theorem rngDataRead (r : Req) (wide : Bool) : Statement (.rngDataRead r wide) := of_wf _

theorem rngRawsel (r : Req) (v : Word) : Statement (.rngRawsel r v) := of_wf _

theorem rngMinSrcWrite (r : Req) (v : Word) : Statement (.rngMinSrcWrite r v) := of_wf _

theorem rngCntClr (r : Req) (v : Word) : Statement (.rngCntClr r v) := of_wf _

theorem rngLock (r : Req) (v : Word) : Statement (.rngLock r v) := of_wf _

theorem detectorAlarm (n : Fin 14) (d : Det) : Statement (.detectorAlarm n d) := of_wf _

theorem disagreement (n : Fin 14) (d : Det) : Statement (.disagreement n d) := of_wf _

theorem blfSelftest (r : Req) (v : Word) : Statement (.blfSelftest r v) := of_wf _

theorem periodicSelftest : Statement (.periodicSelftest) := of_wf _

theorem selftestResult (n : Fin 14) (d : Det) (pass : Bool) : Statement (.selftestResult n d pass) := of_wf _

theorem blfFaultyDeclare (r : Req) (v : Word) : Statement (.blfFaultyDeclare r v) := of_wf _

theorem fusePgm (r : Req) (v : Word) : Statement (.fusePgm r v) := of_wf _

theorem startWindowEnd : Statement (.startWindowEnd) := of_wf _

theorem heartbeatTimeout (d : Det) : Statement (.heartbeatTimeout d) := of_wf _

theorem vigilAlarm (n : Fin 14) (d : Det) : Statement (.vigilAlarm n d) := of_wf _

theorem backupAlarm (n : Fin 14) (hot : Bool) : Statement (.backupAlarm n hot) := of_wf _

theorem vbatCheck (mv : BitVec 16) : Statement (.vbatCheck mv) := of_wf _

theorem vbatBrownout (mv : BitVec 16) : Statement (.vbatBrownout mv) := of_wf _

theorem vbatFirstApply : Statement (.vbatFirstApply) := of_wf _

theorem clrEvt (r : Req) (v : Word) : Statement (.clrEvt r v) := of_wf _

theorem clrFresh (r : Req) (v : Word) : Statement (.clrFresh r v) := of_wf _

theorem blfCntClr (r : Req) (v : Word) : Statement (.blfCntClr r v) := of_wf _

theorem blfLock (r : Req) (v : Word) : Statement (.blfLock r v) := of_wf _

theorem lcsTransition (r : Req) (v : Word) : Statement (.lcsTransition r v) := of_wf _

theorem dsProgram : Statement (.dsProgram) := of_wf _

theorem wipeDone (r : Req) (v : Word) : Statement (.wipeDone r v) := of_wf _

theorem transitionComplete : Statement (.transitionComplete) := of_wf _

theorem chalReq (r : Req) (v : Word) : Statement (.chalReq r v) := of_wf _

theorem challengeExpiry : Statement (.challengeExpiry) := of_wf _

theorem tokStart (r : Req) (v : Word) : Statement (.tokStart r v) := of_wf _

theorem tokenCheckDone : Statement (.tokenCheckDone) := of_wf _

theorem sessionExpiry : Statement (.sessionExpiry) := of_wf _

theorem endDebug (r : Req) (v : Word) : Statement (.endDebug r v) := of_wf _

theorem ownerPgm (r : Req) (v : Word) : Statement (.ownerPgm r v) := of_wf _

theorem lcsCntClr (r : Req) (v : Word) : Statement (.lcsCntClr r v) := of_wf _

theorem tapIdcode : Statement (.tapIdcode) := of_wf _

theorem samplePreload (v : List Byte) : Statement (.samplePreload v) := of_wf _

theorem extest : Statement (.extest) := of_wf _

theorem extestPulse : Statement (.extestPulse) := of_wf _

theorem extestTrain : Statement (.extestTrain) := of_wf _

theorem clamp : Statement (.clamp) := of_wf _

theorem highz : Statement (.highz) := of_wf _

theorem tapReset : Statement (.tapReset) := of_wf _

theorem lcsStatus : Statement (.lcsStatus) := of_wf _

theorem lcsChal : Statement (.lcsChal) := of_wf _

theorem tokenLoad (tok : List Byte) : Statement (.tokenLoad tok) := of_wf _

theorem cupDbg (op : DbgOp) : Statement (.cupDbg op) := of_wf _

theorem svcDbg (op : DbgOp) : Statement (.svcDbg op) := of_wf _

theorem regRead (addr : Word) : Statement (.regRead addr) := of_wf _

theorem prodTest (v : Word) : Statement (.prodTest v) := of_wf _

theorem tapScan (v : Word) : Statement (.tapScan v) := of_wf _

theorem asyncDft (v : Word) : Statement (.asyncDft v) := of_wf _

theorem tapBypass (b : Bool) : Statement (.tapBypass b) := of_wf _

theorem faultMessage (m : DWord) : Statement (.faultMessage m) := of_wf _

theorem reactionEnd : Statement (.reactionEnd) := of_wf _

theorem fltResume (r : Req) : Statement (.fltResume r) := of_wf _

theorem ldClr (r : Req) : Statement (.ldClr r) := of_wf _

theorem fltCntClr (r : Req) : Statement (.fltCntClr r) := of_wf _

theorem fltCfgLock (r : Req) (v : Word) : Statement (.fltCfgLock r v) := of_wf _

theorem firstClear (r : Req) : Statement (.firstClear r) := of_wf _

theorem stickyClear (r : Req) (v : Word) : Statement (.stickyClear r v) := of_wf _

theorem fltMapWrite (r : Req) (k : Fin 32) (v : Word) : Statement (.fltMapWrite r k v) := of_wf _

theorem msgLatch (r : Req) : Statement (.msgLatch r) := of_wf _

theorem msgPop (r : Req) : Statement (.msgPop r) := of_wf _

theorem eventRise (s : Fin 256) : Statement (.eventRise s) := of_wf _

theorem evcPendClear (r : Req) (w : Fin 8) (v : Word) : Statement (.evcPendClear r w v) := of_wf _

theorem evcMaskWrite (r : Req) (w : Fin 8) (v : Word) : Statement (.evcMaskWrite r w v) := of_wf _

theorem evcCntClr (r : Req) (v : Word) : Statement (.evcCntClr r v) := of_wf _

theorem almanacWrite (e : AlmReq) (bad : Bool) : Statement (.almanacWrite e bad) := of_wf _

theorem powerOnReset (straps : Straps) (u : OtpNoise) : Statement (.powerOnReset straps u) := of_wf _

theorem pwrOkFall : Statement (.pwrOkFall) := of_wf _

theorem systemReset : Statement (.systemReset) := of_wf _

theorem sysReset (r : Req) (v : Word) : Statement (.sysReset r v) := of_wf _

theorem blockReset (r : Req) (v : Word) : Statement (.blockReset r v) := of_wf _

theorem pwrCntClr (r : Req) (v : Word) : Statement (.pwrCntClr r v) := of_wf _

theorem pwrCfgLock (r : Req) (v : Word) : Statement (.pwrCfgLock r v) := of_wf _

theorem clockFailure (c : Fin 6) : Statement (.clockFailure c) := of_wf _

theorem clockReady (c : Fin 6) : Statement (.clockReady c) := of_wf _

theorem ckgSelWrite (r : Req) (v : Word) : Statement (.ckgSelWrite r v) := of_wf _

theorem paceValid (idx : BitVec 10) (mon : Fin 32) : Statement (.paceValid idx mon) := of_wf _

theorem governorStep (idx : BitVec 10) (mon : Fin 32) : Statement (.governorStep idx mon) := of_wf _

theorem paceLow : Statement (.paceLow) := of_wf _

theorem avsFail : Statement (.avsFail) := of_wf _

theorem avsRecover : Statement (.avsRecover) := of_wf _

theorem tempSample (tj : BitVec 8) (pred : BitVec 8) (pv : Bool) : Statement (.tempSample tj pred pv) := of_wf _

theorem boostReq (r : Req) (v : Word) : Statement (.boostReq r v) := of_wf _

theorem boostRampDone : Statement (.boostRampDone) := of_wf _

theorem boostEnd (r : Req) (v : Word) : Statement (.boostEnd r v) := of_wf _

theorem boostCreditExhausted : Statement (.boostCreditExhausted) := of_wf _

theorem vigilReq (r : Req) (v : Word) : Statement (.vigilReq r v) := of_wf _

theorem vigilPinRequest : Statement (.vigilPinRequest) := of_wf _

theorem vigilEntryDone : Statement (.vigilEntryDone) := of_wf _

theorem vigilExit (r : Req) (v : Word) : Statement (.vigilExit r v) := of_wf _

theorem vigilPinExit : Statement (.vigilPinExit) := of_wf _

theorem vigilExitDone : Statement (.vigilExitDone) := of_wf _

theorem lockstepMismatch : Statement (.lockstepMismatch) := of_wf _

theorem warmRestart : Statement (.warmRestart) := of_wf _

theorem romRecoveryImage (img : List Byte) : Statement (.romRecoveryImage img) := of_wf _

theorem mbxGo (w : MbxWin) (r : Req) : Statement (.mbxGo w r) := of_wf _

theorem mbxAbort (w : MbxWin) (r : Req) : Statement (.mbxAbort w r) := of_wf _

theorem mbxWrite (bytes : List Byte) (pec : Bool) : Statement (.mbxWrite bytes pec) := of_wf _

theorem mbxRead (n : BitVec 8) : Statement (.mbxRead n) := of_wf _

theorem mbxStatus : Statement (.mbxStatus) := of_wf _

theorem bootStatus (w : MbxWin) : Statement (.bootStatus w) := of_wf _

theorem mbxSensors (w : MbxWin) : Statement (.mbxSensors w) := of_wf _

theorem almanacRead (w : MbxWin) : Statement (.almanacRead w) := of_wf _

theorem mbxVersions (w : MbxWin) : Statement (.mbxVersions w) := of_wf _

theorem updateBegin (w : MbxWin) : Statement (.updateBegin w) := of_wf _

theorem updateEraseDone : Statement (.updateEraseDone) := of_wf _

theorem updateData (w : MbxWin) : Statement (.updateData w) := of_wf _

theorem updateEnd (w : MbxWin) : Statement (.updateEnd w) := of_wf _

theorem updateCancel (w : MbxWin) : Statement (.updateCancel w) := of_wf _

theorem updateTimeout : Statement (.updateTimeout) := of_wf _

theorem updateStatus (w : MbxWin) : Statement (.updateStatus w) := of_wf _

theorem arbCommit (w : MbxWin) : Statement (.arbCommit w) := of_wf _

theorem autoCommit : Statement (.autoCommit) := of_wf _

theorem mbxActivate (w : MbxWin) : Statement (.mbxActivate w) := of_wf _

theorem cfgkeyProgram (w : MbxWin) : Statement (.cfgkeyProgram w) := of_wf _

theorem cfgkeyRevoke (w : MbxWin) : Statement (.cfgkeyRevoke w) := of_wf _

theorem cupCfgLock (r : Req) (v : Word) : Statement (.cupCfgLock r v) := of_wf _

theorem railSample (v : Rails) : Statement (.railSample v) := of_wf _

theorem sysrstNRelease (u : OtpNoise) : Statement (.sysrstNRelease u) := of_wf _

theorem pcieLinkUp : Statement (.pcieLinkUp) := of_wf _

theorem supplyOutOfRange (rail : Fin 8) : Statement (.supplyOutOfRange rail) := of_wf _

theorem backupPower (on : Bool) : Statement (.backupPower on) := of_wf _

theorem hbmRefclkLongLoss : Statement (.hbmRefclkLongLoss) := of_wf _

theorem ikeSaRekey (k : Nat) : Statement (.ikeSaRekey k) := of_wf _

theorem rngRawRead (r : Req) : Statement (.rngRawRead r) := of_wf _

theorem msixUnmask (fn : Fin 32) (v : MsixUnmask) : Statement (.msixUnmask fn v) := of_wf _

end Sys2Proof.Laws.WellFormedShape
end

