-- ==== Sys2Proof/Laws/State.lean ====
section
/-! SUPPORT. What the named updates of one field of the state leave alone: every other field, one lemma each. -/

namespace Sys2Proof.Machine

variable (s : State)

/-! ### wr -/

section wr
variable (o : Nat) (v : Word)

@[simp] theorem State.wr_pending : (s.wr o v).pending = s.pending := by simp only [State.wr]
@[simp] theorem State.wr_cnt : (s.wr o v).cnt = s.cnt := by simp only [State.wr]
@[simp] theorem State.wr_cntCopy : (s.wr o v).cntCopy = s.cntCopy := by simp only [State.wr]
@[simp] theorem State.wr_cntSnap : (s.wr o v).cntSnap = s.cntSnap := by simp only [State.wr]
@[simp] theorem State.wr_hiLatch : (s.wr o v).hiLatch = s.hiLatch := by simp only [State.wr]
@[simp] theorem State.wr_busOut : (s.wr o v).busOut = s.busOut := by simp only [State.wr]
@[simp] theorem State.wr_hostMem : (s.wr o v).hostMem = s.hostMem := by simp only [State.wr]
@[simp] theorem State.wr_svcMem : (s.wr o v).svcMem = s.svcMem := by simp only [State.wr]
@[simp] theorem State.wr_cupMem : (s.wr o v).cupMem = s.cupMem := by simp only [State.wr]
@[simp] theorem State.wr_faults : (s.wr o v).faults = s.faults := by simp only [State.wr]
@[simp] theorem State.wr_time : (s.wr o v).time = s.time := by simp only [State.wr]
@[simp] theorem State.wr_free : (s.wr o v).free = s.free := by simp only [State.wr]
@[simp] theorem State.wr_jqm : (s.wr o v).jqm = s.jqm := by simp only [State.wr]
@[simp] theorem State.wr_ucs : (s.wr o v).ucs = s.ucs := by simp only [State.wr]
@[simp] theorem State.wr_fcr : (s.wr o v).fcr = s.fcr := by simp only [State.wr]
@[simp] theorem State.wr_evc : (s.wr o v).evc = s.evc := by simp only [State.wr]
@[simp] theorem State.wr_power : (s.wr o v).power = s.power := by simp only [State.wr]
@[simp] theorem State.wr_ipp : (s.wr o v).ipp = s.ipp := by simp only [State.wr]
@[simp] theorem State.wr_cts : (s.wr o v).cts = s.cts := by simp only [State.wr]
@[simp] theorem State.wr_mpe : (s.wr o v).mpe = s.mpe := by simp only [State.wr]
@[simp] theorem State.wr_keep : (s.wr o v).keep = s.keep := by simp only [State.wr]
@[simp] theorem State.wr_otp : (s.wr o v).otp = s.otp := by simp only [State.wr]
@[simp] theorem State.wr_dke : (s.wr o v).dke = s.dke := by simp only [State.wr]
@[simp] theorem State.wr_rng : (s.wr o v).rng = s.rng := by simp only [State.wr]
@[simp] theorem State.wr_alm : (s.wr o v).alm = s.alm := by simp only [State.wr]
@[simp] theorem State.wr_cpm : (s.wr o v).cpm = s.cpm := by simp only [State.wr]
@[simp] theorem State.wr_blf : (s.wr o v).blf = s.blf := by simp only [State.wr]
@[simp] theorem State.wr_lcs : (s.wr o v).lcs = s.lcs := by simp only [State.wr]
@[simp] theorem State.wr_cup : (s.wr o v).cup = s.cup := by simp only [State.wr]
@[simp] theorem State.wr_svc : (s.wr o v).svc = s.svc := by simp only [State.wr]

end wr

/-! ### put -/

section put
variable (f : Fld) (x : Nat)

@[simp] theorem State.put_pending : (s.put f x).pending = s.pending := by simp only [State.put, State.wr_pending]
@[simp] theorem State.put_cnt : (s.put f x).cnt = s.cnt := by simp only [State.put, State.wr_cnt]
@[simp] theorem State.put_cntCopy : (s.put f x).cntCopy = s.cntCopy := by simp only [State.put, State.wr_cntCopy]
@[simp] theorem State.put_cntSnap : (s.put f x).cntSnap = s.cntSnap := by simp only [State.put, State.wr_cntSnap]
@[simp] theorem State.put_hiLatch : (s.put f x).hiLatch = s.hiLatch := by simp only [State.put, State.wr_hiLatch]
@[simp] theorem State.put_busOut : (s.put f x).busOut = s.busOut := by simp only [State.put, State.wr_busOut]
@[simp] theorem State.put_hostMem : (s.put f x).hostMem = s.hostMem := by simp only [State.put, State.wr_hostMem]
@[simp] theorem State.put_svcMem : (s.put f x).svcMem = s.svcMem := by simp only [State.put, State.wr_svcMem]
@[simp] theorem State.put_cupMem : (s.put f x).cupMem = s.cupMem := by simp only [State.put, State.wr_cupMem]
@[simp] theorem State.put_faults : (s.put f x).faults = s.faults := by simp only [State.put, State.wr_faults]
@[simp] theorem State.put_time : (s.put f x).time = s.time := by simp only [State.put, State.wr_time]
@[simp] theorem State.put_free : (s.put f x).free = s.free := by simp only [State.put, State.wr_free]
@[simp] theorem State.put_jqm : (s.put f x).jqm = s.jqm := by simp only [State.put, State.wr_jqm]
@[simp] theorem State.put_ucs : (s.put f x).ucs = s.ucs := by simp only [State.put, State.wr_ucs]
@[simp] theorem State.put_fcr : (s.put f x).fcr = s.fcr := by simp only [State.put, State.wr_fcr]
@[simp] theorem State.put_evc : (s.put f x).evc = s.evc := by simp only [State.put, State.wr_evc]
@[simp] theorem State.put_power : (s.put f x).power = s.power := by simp only [State.put, State.wr_power]
@[simp] theorem State.put_ipp : (s.put f x).ipp = s.ipp := by simp only [State.put, State.wr_ipp]
@[simp] theorem State.put_cts : (s.put f x).cts = s.cts := by simp only [State.put, State.wr_cts]
@[simp] theorem State.put_mpe : (s.put f x).mpe = s.mpe := by simp only [State.put, State.wr_mpe]
@[simp] theorem State.put_keep : (s.put f x).keep = s.keep := by simp only [State.put, State.wr_keep]
@[simp] theorem State.put_otp : (s.put f x).otp = s.otp := by simp only [State.put, State.wr_otp]
@[simp] theorem State.put_dke : (s.put f x).dke = s.dke := by simp only [State.put, State.wr_dke]
@[simp] theorem State.put_rng : (s.put f x).rng = s.rng := by simp only [State.put, State.wr_rng]
@[simp] theorem State.put_alm : (s.put f x).alm = s.alm := by simp only [State.put, State.wr_alm]
@[simp] theorem State.put_cpm : (s.put f x).cpm = s.cpm := by simp only [State.put, State.wr_cpm]
@[simp] theorem State.put_blf : (s.put f x).blf = s.blf := by simp only [State.put, State.wr_blf]
@[simp] theorem State.put_lcs : (s.put f x).lcs = s.lcs := by simp only [State.put, State.wr_lcs]
@[simp] theorem State.put_cup : (s.put f x).cup = s.cup := by simp only [State.put, State.wr_cup]
@[simp] theorem State.put_svc : (s.put f x).svc = s.svc := by simp only [State.put, State.wr_svc]

end put

/-! ### set -/

section set
variable (f : Fld)

@[simp] theorem State.set_pending : (s.set f).pending = s.pending := by simp only [State.set, State.put_pending]
@[simp] theorem State.set_cnt : (s.set f).cnt = s.cnt := by simp only [State.set, State.put_cnt]
@[simp] theorem State.set_cntCopy : (s.set f).cntCopy = s.cntCopy := by simp only [State.set, State.put_cntCopy]
@[simp] theorem State.set_cntSnap : (s.set f).cntSnap = s.cntSnap := by simp only [State.set, State.put_cntSnap]
@[simp] theorem State.set_hiLatch : (s.set f).hiLatch = s.hiLatch := by simp only [State.set, State.put_hiLatch]
@[simp] theorem State.set_busOut : (s.set f).busOut = s.busOut := by simp only [State.set, State.put_busOut]
@[simp] theorem State.set_hostMem : (s.set f).hostMem = s.hostMem := by simp only [State.set, State.put_hostMem]
@[simp] theorem State.set_svcMem : (s.set f).svcMem = s.svcMem := by simp only [State.set, State.put_svcMem]
@[simp] theorem State.set_cupMem : (s.set f).cupMem = s.cupMem := by simp only [State.set, State.put_cupMem]
@[simp] theorem State.set_faults : (s.set f).faults = s.faults := by simp only [State.set, State.put_faults]
@[simp] theorem State.set_time : (s.set f).time = s.time := by simp only [State.set, State.put_time]
@[simp] theorem State.set_free : (s.set f).free = s.free := by simp only [State.set, State.put_free]
@[simp] theorem State.set_jqm : (s.set f).jqm = s.jqm := by simp only [State.set, State.put_jqm]
@[simp] theorem State.set_ucs : (s.set f).ucs = s.ucs := by simp only [State.set, State.put_ucs]
@[simp] theorem State.set_fcr : (s.set f).fcr = s.fcr := by simp only [State.set, State.put_fcr]
@[simp] theorem State.set_evc : (s.set f).evc = s.evc := by simp only [State.set, State.put_evc]
@[simp] theorem State.set_power : (s.set f).power = s.power := by simp only [State.set, State.put_power]
@[simp] theorem State.set_ipp : (s.set f).ipp = s.ipp := by simp only [State.set, State.put_ipp]
@[simp] theorem State.set_cts : (s.set f).cts = s.cts := by simp only [State.set, State.put_cts]
@[simp] theorem State.set_mpe : (s.set f).mpe = s.mpe := by simp only [State.set, State.put_mpe]
@[simp] theorem State.set_keep : (s.set f).keep = s.keep := by simp only [State.set, State.put_keep]
@[simp] theorem State.set_otp : (s.set f).otp = s.otp := by simp only [State.set, State.put_otp]
@[simp] theorem State.set_dke : (s.set f).dke = s.dke := by simp only [State.set, State.put_dke]
@[simp] theorem State.set_rng : (s.set f).rng = s.rng := by simp only [State.set, State.put_rng]
@[simp] theorem State.set_alm : (s.set f).alm = s.alm := by simp only [State.set, State.put_alm]
@[simp] theorem State.set_cpm : (s.set f).cpm = s.cpm := by simp only [State.set, State.put_cpm]
@[simp] theorem State.set_blf : (s.set f).blf = s.blf := by simp only [State.set, State.put_blf]
@[simp] theorem State.set_lcs : (s.set f).lcs = s.lcs := by simp only [State.set, State.put_lcs]
@[simp] theorem State.set_cup : (s.set f).cup = s.cup := by simp only [State.set, State.put_cup]
@[simp] theorem State.set_svc : (s.set f).svc = s.svc := by simp only [State.set, State.put_svc]

end set

/-! ### clr -/

section clr
variable (f : Fld)

@[simp] theorem State.clr_pending : (s.clr f).pending = s.pending := by simp only [State.clr, State.put_pending]
@[simp] theorem State.clr_cnt : (s.clr f).cnt = s.cnt := by simp only [State.clr, State.put_cnt]
@[simp] theorem State.clr_cntCopy : (s.clr f).cntCopy = s.cntCopy := by simp only [State.clr, State.put_cntCopy]
@[simp] theorem State.clr_cntSnap : (s.clr f).cntSnap = s.cntSnap := by simp only [State.clr, State.put_cntSnap]
@[simp] theorem State.clr_hiLatch : (s.clr f).hiLatch = s.hiLatch := by simp only [State.clr, State.put_hiLatch]
@[simp] theorem State.clr_busOut : (s.clr f).busOut = s.busOut := by simp only [State.clr, State.put_busOut]
@[simp] theorem State.clr_hostMem : (s.clr f).hostMem = s.hostMem := by simp only [State.clr, State.put_hostMem]
@[simp] theorem State.clr_svcMem : (s.clr f).svcMem = s.svcMem := by simp only [State.clr, State.put_svcMem]
@[simp] theorem State.clr_cupMem : (s.clr f).cupMem = s.cupMem := by simp only [State.clr, State.put_cupMem]
@[simp] theorem State.clr_faults : (s.clr f).faults = s.faults := by simp only [State.clr, State.put_faults]
@[simp] theorem State.clr_time : (s.clr f).time = s.time := by simp only [State.clr, State.put_time]
@[simp] theorem State.clr_free : (s.clr f).free = s.free := by simp only [State.clr, State.put_free]
@[simp] theorem State.clr_jqm : (s.clr f).jqm = s.jqm := by simp only [State.clr, State.put_jqm]
@[simp] theorem State.clr_ucs : (s.clr f).ucs = s.ucs := by simp only [State.clr, State.put_ucs]
@[simp] theorem State.clr_fcr : (s.clr f).fcr = s.fcr := by simp only [State.clr, State.put_fcr]
@[simp] theorem State.clr_evc : (s.clr f).evc = s.evc := by simp only [State.clr, State.put_evc]
@[simp] theorem State.clr_power : (s.clr f).power = s.power := by simp only [State.clr, State.put_power]
@[simp] theorem State.clr_ipp : (s.clr f).ipp = s.ipp := by simp only [State.clr, State.put_ipp]
@[simp] theorem State.clr_cts : (s.clr f).cts = s.cts := by simp only [State.clr, State.put_cts]
@[simp] theorem State.clr_mpe : (s.clr f).mpe = s.mpe := by simp only [State.clr, State.put_mpe]
@[simp] theorem State.clr_keep : (s.clr f).keep = s.keep := by simp only [State.clr, State.put_keep]
@[simp] theorem State.clr_otp : (s.clr f).otp = s.otp := by simp only [State.clr, State.put_otp]
@[simp] theorem State.clr_dke : (s.clr f).dke = s.dke := by simp only [State.clr, State.put_dke]
@[simp] theorem State.clr_rng : (s.clr f).rng = s.rng := by simp only [State.clr, State.put_rng]
@[simp] theorem State.clr_alm : (s.clr f).alm = s.alm := by simp only [State.clr, State.put_alm]
@[simp] theorem State.clr_cpm : (s.clr f).cpm = s.cpm := by simp only [State.clr, State.put_cpm]
@[simp] theorem State.clr_blf : (s.clr f).blf = s.blf := by simp only [State.clr, State.put_blf]
@[simp] theorem State.clr_lcs : (s.clr f).lcs = s.lcs := by simp only [State.clr, State.put_lcs]
@[simp] theorem State.clr_cup : (s.clr f).cup = s.cup := by simp only [State.clr, State.put_cup]
@[simp] theorem State.clr_svc : (s.clr f).svc = s.svc := by simp only [State.clr, State.put_svc]

end clr

/-! ### putB -/

section putB
variable (f : Fld) (b : Bool)

@[simp] theorem State.putB_pending : (s.putB f b).pending = s.pending := by simp only [State.putB, State.put_pending]
@[simp] theorem State.putB_cnt : (s.putB f b).cnt = s.cnt := by simp only [State.putB, State.put_cnt]
@[simp] theorem State.putB_cntCopy : (s.putB f b).cntCopy = s.cntCopy := by simp only [State.putB, State.put_cntCopy]
@[simp] theorem State.putB_cntSnap : (s.putB f b).cntSnap = s.cntSnap := by simp only [State.putB, State.put_cntSnap]
@[simp] theorem State.putB_hiLatch : (s.putB f b).hiLatch = s.hiLatch := by simp only [State.putB, State.put_hiLatch]
@[simp] theorem State.putB_busOut : (s.putB f b).busOut = s.busOut := by simp only [State.putB, State.put_busOut]
@[simp] theorem State.putB_hostMem : (s.putB f b).hostMem = s.hostMem := by simp only [State.putB, State.put_hostMem]
@[simp] theorem State.putB_svcMem : (s.putB f b).svcMem = s.svcMem := by simp only [State.putB, State.put_svcMem]
@[simp] theorem State.putB_cupMem : (s.putB f b).cupMem = s.cupMem := by simp only [State.putB, State.put_cupMem]
@[simp] theorem State.putB_faults : (s.putB f b).faults = s.faults := by simp only [State.putB, State.put_faults]
@[simp] theorem State.putB_time : (s.putB f b).time = s.time := by simp only [State.putB, State.put_time]
@[simp] theorem State.putB_free : (s.putB f b).free = s.free := by simp only [State.putB, State.put_free]
@[simp] theorem State.putB_jqm : (s.putB f b).jqm = s.jqm := by simp only [State.putB, State.put_jqm]
@[simp] theorem State.putB_ucs : (s.putB f b).ucs = s.ucs := by simp only [State.putB, State.put_ucs]
@[simp] theorem State.putB_fcr : (s.putB f b).fcr = s.fcr := by simp only [State.putB, State.put_fcr]
@[simp] theorem State.putB_evc : (s.putB f b).evc = s.evc := by simp only [State.putB, State.put_evc]
@[simp] theorem State.putB_power : (s.putB f b).power = s.power := by simp only [State.putB, State.put_power]
@[simp] theorem State.putB_ipp : (s.putB f b).ipp = s.ipp := by simp only [State.putB, State.put_ipp]
@[simp] theorem State.putB_cts : (s.putB f b).cts = s.cts := by simp only [State.putB, State.put_cts]
@[simp] theorem State.putB_mpe : (s.putB f b).mpe = s.mpe := by simp only [State.putB, State.put_mpe]
@[simp] theorem State.putB_keep : (s.putB f b).keep = s.keep := by simp only [State.putB, State.put_keep]
@[simp] theorem State.putB_otp : (s.putB f b).otp = s.otp := by simp only [State.putB, State.put_otp]
@[simp] theorem State.putB_dke : (s.putB f b).dke = s.dke := by simp only [State.putB, State.put_dke]
@[simp] theorem State.putB_rng : (s.putB f b).rng = s.rng := by simp only [State.putB, State.put_rng]
@[simp] theorem State.putB_alm : (s.putB f b).alm = s.alm := by simp only [State.putB, State.put_alm]
@[simp] theorem State.putB_cpm : (s.putB f b).cpm = s.cpm := by simp only [State.putB, State.put_cpm]
@[simp] theorem State.putB_blf : (s.putB f b).blf = s.blf := by simp only [State.putB, State.put_blf]
@[simp] theorem State.putB_lcs : (s.putB f b).lcs = s.lcs := by simp only [State.putB, State.put_lcs]
@[simp] theorem State.putB_cup : (s.putB f b).cup = s.cup := by simp only [State.putB, State.put_cup]
@[simp] theorem State.putB_svc : (s.putB f b).svc = s.svc := by simp only [State.putB, State.put_svc]

end putB

/-! ### countTime -/

section countTime
variable (o n : Nat)

@[simp] theorem State.countTime_pending : (s.countTime o n).pending = s.pending := by simp only [State.countTime]
@[simp] theorem State.countTime_regs : (s.countTime o n).regs = s.regs := by simp only [State.countTime]
@[simp] theorem State.countTime_cntCopy : (s.countTime o n).cntCopy = s.cntCopy := by simp only [State.countTime]
@[simp] theorem State.countTime_cntSnap : (s.countTime o n).cntSnap = s.cntSnap := by simp only [State.countTime]
@[simp] theorem State.countTime_hiLatch : (s.countTime o n).hiLatch = s.hiLatch := by simp only [State.countTime]
@[simp] theorem State.countTime_busOut : (s.countTime o n).busOut = s.busOut := by simp only [State.countTime]
@[simp] theorem State.countTime_hostMem : (s.countTime o n).hostMem = s.hostMem := by simp only [State.countTime]
@[simp] theorem State.countTime_svcMem : (s.countTime o n).svcMem = s.svcMem := by simp only [State.countTime]
@[simp] theorem State.countTime_cupMem : (s.countTime o n).cupMem = s.cupMem := by simp only [State.countTime]
@[simp] theorem State.countTime_faults : (s.countTime o n).faults = s.faults := by simp only [State.countTime]
@[simp] theorem State.countTime_time : (s.countTime o n).time = s.time := by simp only [State.countTime]
@[simp] theorem State.countTime_free : (s.countTime o n).free = s.free := by simp only [State.countTime]
@[simp] theorem State.countTime_jqm : (s.countTime o n).jqm = s.jqm := by simp only [State.countTime]
@[simp] theorem State.countTime_ucs : (s.countTime o n).ucs = s.ucs := by simp only [State.countTime]
@[simp] theorem State.countTime_fcr : (s.countTime o n).fcr = s.fcr := by simp only [State.countTime]
@[simp] theorem State.countTime_evc : (s.countTime o n).evc = s.evc := by simp only [State.countTime]
@[simp] theorem State.countTime_power : (s.countTime o n).power = s.power := by simp only [State.countTime]
@[simp] theorem State.countTime_ipp : (s.countTime o n).ipp = s.ipp := by simp only [State.countTime]
@[simp] theorem State.countTime_cts : (s.countTime o n).cts = s.cts := by simp only [State.countTime]
@[simp] theorem State.countTime_mpe : (s.countTime o n).mpe = s.mpe := by simp only [State.countTime]
@[simp] theorem State.countTime_keep : (s.countTime o n).keep = s.keep := by simp only [State.countTime]
@[simp] theorem State.countTime_otp : (s.countTime o n).otp = s.otp := by simp only [State.countTime]
@[simp] theorem State.countTime_dke : (s.countTime o n).dke = s.dke := by simp only [State.countTime]
@[simp] theorem State.countTime_rng : (s.countTime o n).rng = s.rng := by simp only [State.countTime]
@[simp] theorem State.countTime_alm : (s.countTime o n).alm = s.alm := by simp only [State.countTime]
@[simp] theorem State.countTime_cpm : (s.countTime o n).cpm = s.cpm := by simp only [State.countTime]
@[simp] theorem State.countTime_blf : (s.countTime o n).blf = s.blf := by simp only [State.countTime]
@[simp] theorem State.countTime_lcs : (s.countTime o n).lcs = s.lcs := by simp only [State.countTime]
@[simp] theorem State.countTime_cup : (s.countTime o n).cup = s.cup := by simp only [State.countTime]
@[simp] theorem State.countTime_svc : (s.countTime o n).svc = s.svc := by simp only [State.countTime]

end countTime

/-! ### putCtx -/

section putCtx
variable (c : Nat) (x : List Byte)

@[simp] theorem State.putCtx_pending : (s.putCtx c x).pending = s.pending := by simp only [State.putCtx]
@[simp] theorem State.putCtx_regs : (s.putCtx c x).regs = s.regs := by simp only [State.putCtx]
@[simp] theorem State.putCtx_cnt : (s.putCtx c x).cnt = s.cnt := by simp only [State.putCtx]
@[simp] theorem State.putCtx_cntCopy : (s.putCtx c x).cntCopy = s.cntCopy := by simp only [State.putCtx]
@[simp] theorem State.putCtx_cntSnap : (s.putCtx c x).cntSnap = s.cntSnap := by simp only [State.putCtx]
@[simp] theorem State.putCtx_hiLatch : (s.putCtx c x).hiLatch = s.hiLatch := by simp only [State.putCtx]
@[simp] theorem State.putCtx_busOut : (s.putCtx c x).busOut = s.busOut := by simp only [State.putCtx]
@[simp] theorem State.putCtx_hostMem : (s.putCtx c x).hostMem = s.hostMem := by simp only [State.putCtx]
@[simp] theorem State.putCtx_svcMem : (s.putCtx c x).svcMem = s.svcMem := by simp only [State.putCtx]
@[simp] theorem State.putCtx_cupMem : (s.putCtx c x).cupMem = s.cupMem := by simp only [State.putCtx]
@[simp] theorem State.putCtx_faults : (s.putCtx c x).faults = s.faults := by simp only [State.putCtx]
@[simp] theorem State.putCtx_time : (s.putCtx c x).time = s.time := by simp only [State.putCtx]
@[simp] theorem State.putCtx_free : (s.putCtx c x).free = s.free := by simp only [State.putCtx]
@[simp] theorem State.putCtx_jqm : (s.putCtx c x).jqm = s.jqm := by simp only [State.putCtx]
@[simp] theorem State.putCtx_ucs : (s.putCtx c x).ucs = s.ucs := by simp only [State.putCtx]
@[simp] theorem State.putCtx_fcr : (s.putCtx c x).fcr = s.fcr := by simp only [State.putCtx]
@[simp] theorem State.putCtx_evc : (s.putCtx c x).evc = s.evc := by simp only [State.putCtx]
@[simp] theorem State.putCtx_power : (s.putCtx c x).power = s.power := by simp only [State.putCtx]
@[simp] theorem State.putCtx_ipp : (s.putCtx c x).ipp = s.ipp := by simp only [State.putCtx]
@[simp] theorem State.putCtx_mpe : (s.putCtx c x).mpe = s.mpe := by simp only [State.putCtx]
@[simp] theorem State.putCtx_keep : (s.putCtx c x).keep = s.keep := by simp only [State.putCtx]
@[simp] theorem State.putCtx_otp : (s.putCtx c x).otp = s.otp := by simp only [State.putCtx]
@[simp] theorem State.putCtx_dke : (s.putCtx c x).dke = s.dke := by simp only [State.putCtx]
@[simp] theorem State.putCtx_rng : (s.putCtx c x).rng = s.rng := by simp only [State.putCtx]
@[simp] theorem State.putCtx_alm : (s.putCtx c x).alm = s.alm := by simp only [State.putCtx]
@[simp] theorem State.putCtx_cpm : (s.putCtx c x).cpm = s.cpm := by simp only [State.putCtx]
@[simp] theorem State.putCtx_blf : (s.putCtx c x).blf = s.blf := by simp only [State.putCtx]
@[simp] theorem State.putCtx_lcs : (s.putCtx c x).lcs = s.lcs := by simp only [State.putCtx]
@[simp] theorem State.putCtx_cup : (s.putCtx c x).cup = s.cup := by simp only [State.putCtx]
@[simp] theorem State.putCtx_svc : (s.putCtx c x).svc = s.svc := by simp only [State.putCtx]

end putCtx

/-! ### setSwitch -/

section setSwitch
variable (c v : Nat)

@[simp] theorem State.setSwitch_pending : (s.setSwitch c v).pending = s.pending := by simp only [State.setSwitch]
@[simp] theorem State.setSwitch_regs : (s.setSwitch c v).regs = s.regs := by simp only [State.setSwitch]
@[simp] theorem State.setSwitch_cnt : (s.setSwitch c v).cnt = s.cnt := by simp only [State.setSwitch]
@[simp] theorem State.setSwitch_cntCopy : (s.setSwitch c v).cntCopy = s.cntCopy := by simp only [State.setSwitch]
@[simp] theorem State.setSwitch_cntSnap : (s.setSwitch c v).cntSnap = s.cntSnap := by simp only [State.setSwitch]
@[simp] theorem State.setSwitch_hiLatch : (s.setSwitch c v).hiLatch = s.hiLatch := by simp only [State.setSwitch]
@[simp] theorem State.setSwitch_busOut : (s.setSwitch c v).busOut = s.busOut := by simp only [State.setSwitch]
@[simp] theorem State.setSwitch_hostMem : (s.setSwitch c v).hostMem = s.hostMem := by simp only [State.setSwitch]
@[simp] theorem State.setSwitch_svcMem : (s.setSwitch c v).svcMem = s.svcMem := by simp only [State.setSwitch]
@[simp] theorem State.setSwitch_cupMem : (s.setSwitch c v).cupMem = s.cupMem := by simp only [State.setSwitch]
@[simp] theorem State.setSwitch_faults : (s.setSwitch c v).faults = s.faults := by simp only [State.setSwitch]
@[simp] theorem State.setSwitch_time : (s.setSwitch c v).time = s.time := by simp only [State.setSwitch]
@[simp] theorem State.setSwitch_free : (s.setSwitch c v).free = s.free := by simp only [State.setSwitch]
@[simp] theorem State.setSwitch_jqm : (s.setSwitch c v).jqm = s.jqm := by simp only [State.setSwitch]
@[simp] theorem State.setSwitch_ucs : (s.setSwitch c v).ucs = s.ucs := by simp only [State.setSwitch]
@[simp] theorem State.setSwitch_fcr : (s.setSwitch c v).fcr = s.fcr := by simp only [State.setSwitch]
@[simp] theorem State.setSwitch_evc : (s.setSwitch c v).evc = s.evc := by simp only [State.setSwitch]
@[simp] theorem State.setSwitch_power : (s.setSwitch c v).power = s.power := by simp only [State.setSwitch]
@[simp] theorem State.setSwitch_ipp : (s.setSwitch c v).ipp = s.ipp := by simp only [State.setSwitch]
@[simp] theorem State.setSwitch_mpe : (s.setSwitch c v).mpe = s.mpe := by simp only [State.setSwitch]
@[simp] theorem State.setSwitch_keep : (s.setSwitch c v).keep = s.keep := by simp only [State.setSwitch]
@[simp] theorem State.setSwitch_otp : (s.setSwitch c v).otp = s.otp := by simp only [State.setSwitch]
@[simp] theorem State.setSwitch_dke : (s.setSwitch c v).dke = s.dke := by simp only [State.setSwitch]
@[simp] theorem State.setSwitch_rng : (s.setSwitch c v).rng = s.rng := by simp only [State.setSwitch]
@[simp] theorem State.setSwitch_alm : (s.setSwitch c v).alm = s.alm := by simp only [State.setSwitch]
@[simp] theorem State.setSwitch_cpm : (s.setSwitch c v).cpm = s.cpm := by simp only [State.setSwitch]
@[simp] theorem State.setSwitch_blf : (s.setSwitch c v).blf = s.blf := by simp only [State.setSwitch]
@[simp] theorem State.setSwitch_lcs : (s.setSwitch c v).lcs = s.lcs := by simp only [State.setSwitch]
@[simp] theorem State.setSwitch_cup : (s.setSwitch c v).cup = s.cup := by simp only [State.setSwitch]
@[simp] theorem State.setSwitch_svc : (s.setSwitch c v).svc = s.svc := by simp only [State.setSwitch]

end setSwitch

/-! ### setJobs -/

section setJobs
variable (js : List Job)

@[simp] theorem State.setJobs_pending : (s.setJobs js).pending = s.pending := by simp only [State.setJobs]
@[simp] theorem State.setJobs_regs : (s.setJobs js).regs = s.regs := by simp only [State.setJobs]
@[simp] theorem State.setJobs_cnt : (s.setJobs js).cnt = s.cnt := by simp only [State.setJobs]
@[simp] theorem State.setJobs_cntCopy : (s.setJobs js).cntCopy = s.cntCopy := by simp only [State.setJobs]
@[simp] theorem State.setJobs_cntSnap : (s.setJobs js).cntSnap = s.cntSnap := by simp only [State.setJobs]
@[simp] theorem State.setJobs_hiLatch : (s.setJobs js).hiLatch = s.hiLatch := by simp only [State.setJobs]
@[simp] theorem State.setJobs_busOut : (s.setJobs js).busOut = s.busOut := by simp only [State.setJobs]
@[simp] theorem State.setJobs_hostMem : (s.setJobs js).hostMem = s.hostMem := by simp only [State.setJobs]
@[simp] theorem State.setJobs_svcMem : (s.setJobs js).svcMem = s.svcMem := by simp only [State.setJobs]
@[simp] theorem State.setJobs_cupMem : (s.setJobs js).cupMem = s.cupMem := by simp only [State.setJobs]
@[simp] theorem State.setJobs_faults : (s.setJobs js).faults = s.faults := by simp only [State.setJobs]
@[simp] theorem State.setJobs_time : (s.setJobs js).time = s.time := by simp only [State.setJobs]
@[simp] theorem State.setJobs_free : (s.setJobs js).free = s.free := by simp only [State.setJobs]
@[simp] theorem State.setJobs_ucs : (s.setJobs js).ucs = s.ucs := by simp only [State.setJobs]
@[simp] theorem State.setJobs_fcr : (s.setJobs js).fcr = s.fcr := by simp only [State.setJobs]
@[simp] theorem State.setJobs_evc : (s.setJobs js).evc = s.evc := by simp only [State.setJobs]
@[simp] theorem State.setJobs_power : (s.setJobs js).power = s.power := by simp only [State.setJobs]
@[simp] theorem State.setJobs_ipp : (s.setJobs js).ipp = s.ipp := by simp only [State.setJobs]
@[simp] theorem State.setJobs_cts : (s.setJobs js).cts = s.cts := by simp only [State.setJobs]
@[simp] theorem State.setJobs_mpe : (s.setJobs js).mpe = s.mpe := by simp only [State.setJobs]
@[simp] theorem State.setJobs_keep : (s.setJobs js).keep = s.keep := by simp only [State.setJobs]
@[simp] theorem State.setJobs_otp : (s.setJobs js).otp = s.otp := by simp only [State.setJobs]
@[simp] theorem State.setJobs_dke : (s.setJobs js).dke = s.dke := by simp only [State.setJobs]
@[simp] theorem State.setJobs_rng : (s.setJobs js).rng = s.rng := by simp only [State.setJobs]
@[simp] theorem State.setJobs_alm : (s.setJobs js).alm = s.alm := by simp only [State.setJobs]
@[simp] theorem State.setJobs_cpm : (s.setJobs js).cpm = s.cpm := by simp only [State.setJobs]
@[simp] theorem State.setJobs_blf : (s.setJobs js).blf = s.blf := by simp only [State.setJobs]
@[simp] theorem State.setJobs_lcs : (s.setJobs js).lcs = s.lcs := by simp only [State.setJobs]
@[simp] theorem State.setJobs_cup : (s.setJobs js).cup = s.cup := by simp only [State.setJobs]
@[simp] theorem State.setJobs_svc : (s.setJobs js).svc = s.svc := by simp only [State.setJobs]

end setJobs

/-! ### putJob -/

section putJob
variable (j : Job)

@[simp] theorem State.putJob_pending : (s.putJob j).pending = s.pending := by simp only [State.putJob, State.setJobs_pending]
@[simp] theorem State.putJob_regs : (s.putJob j).regs = s.regs := by simp only [State.putJob, State.setJobs_regs]
@[simp] theorem State.putJob_cnt : (s.putJob j).cnt = s.cnt := by simp only [State.putJob, State.setJobs_cnt]
@[simp] theorem State.putJob_cntCopy : (s.putJob j).cntCopy = s.cntCopy := by simp only [State.putJob, State.setJobs_cntCopy]
@[simp] theorem State.putJob_cntSnap : (s.putJob j).cntSnap = s.cntSnap := by simp only [State.putJob, State.setJobs_cntSnap]
@[simp] theorem State.putJob_hiLatch : (s.putJob j).hiLatch = s.hiLatch := by simp only [State.putJob, State.setJobs_hiLatch]
@[simp] theorem State.putJob_busOut : (s.putJob j).busOut = s.busOut := by simp only [State.putJob, State.setJobs_busOut]
@[simp] theorem State.putJob_hostMem : (s.putJob j).hostMem = s.hostMem := by simp only [State.putJob, State.setJobs_hostMem]
@[simp] theorem State.putJob_svcMem : (s.putJob j).svcMem = s.svcMem := by simp only [State.putJob, State.setJobs_svcMem]
@[simp] theorem State.putJob_cupMem : (s.putJob j).cupMem = s.cupMem := by simp only [State.putJob, State.setJobs_cupMem]
@[simp] theorem State.putJob_faults : (s.putJob j).faults = s.faults := by simp only [State.putJob, State.setJobs_faults]
@[simp] theorem State.putJob_time : (s.putJob j).time = s.time := by simp only [State.putJob, State.setJobs_time]
@[simp] theorem State.putJob_free : (s.putJob j).free = s.free := by simp only [State.putJob, State.setJobs_free]
@[simp] theorem State.putJob_ucs : (s.putJob j).ucs = s.ucs := by simp only [State.putJob, State.setJobs_ucs]
@[simp] theorem State.putJob_fcr : (s.putJob j).fcr = s.fcr := by simp only [State.putJob, State.setJobs_fcr]
@[simp] theorem State.putJob_evc : (s.putJob j).evc = s.evc := by simp only [State.putJob, State.setJobs_evc]
@[simp] theorem State.putJob_power : (s.putJob j).power = s.power := by simp only [State.putJob, State.setJobs_power]
@[simp] theorem State.putJob_ipp : (s.putJob j).ipp = s.ipp := by simp only [State.putJob, State.setJobs_ipp]
@[simp] theorem State.putJob_cts : (s.putJob j).cts = s.cts := by simp only [State.putJob, State.setJobs_cts]
@[simp] theorem State.putJob_mpe : (s.putJob j).mpe = s.mpe := by simp only [State.putJob, State.setJobs_mpe]
@[simp] theorem State.putJob_keep : (s.putJob j).keep = s.keep := by simp only [State.putJob, State.setJobs_keep]
@[simp] theorem State.putJob_otp : (s.putJob j).otp = s.otp := by simp only [State.putJob, State.setJobs_otp]
@[simp] theorem State.putJob_dke : (s.putJob j).dke = s.dke := by simp only [State.putJob, State.setJobs_dke]
@[simp] theorem State.putJob_rng : (s.putJob j).rng = s.rng := by simp only [State.putJob, State.setJobs_rng]
@[simp] theorem State.putJob_alm : (s.putJob j).alm = s.alm := by simp only [State.putJob, State.setJobs_alm]
@[simp] theorem State.putJob_cpm : (s.putJob j).cpm = s.cpm := by simp only [State.putJob, State.setJobs_cpm]
@[simp] theorem State.putJob_blf : (s.putJob j).blf = s.blf := by simp only [State.putJob, State.setJobs_blf]
@[simp] theorem State.putJob_lcs : (s.putJob j).lcs = s.lcs := by simp only [State.putJob, State.setJobs_lcs]
@[simp] theorem State.putJob_cup : (s.putJob j).cup = s.cup := by simp only [State.putJob, State.setJobs_cup]
@[simp] theorem State.putJob_svc : (s.putJob j).svc = s.svc := by simp only [State.putJob, State.setJobs_svc]

end putJob

/-! ### dropJob -/

section dropJob
variable (id : Nat)

@[simp] theorem State.dropJob_pending : (s.dropJob id).pending = s.pending := by simp only [State.dropJob, State.setJobs_pending]
@[simp] theorem State.dropJob_regs : (s.dropJob id).regs = s.regs := by simp only [State.dropJob, State.setJobs_regs]
@[simp] theorem State.dropJob_cnt : (s.dropJob id).cnt = s.cnt := by simp only [State.dropJob, State.setJobs_cnt]
@[simp] theorem State.dropJob_cntCopy : (s.dropJob id).cntCopy = s.cntCopy := by simp only [State.dropJob, State.setJobs_cntCopy]
@[simp] theorem State.dropJob_cntSnap : (s.dropJob id).cntSnap = s.cntSnap := by simp only [State.dropJob, State.setJobs_cntSnap]
@[simp] theorem State.dropJob_hiLatch : (s.dropJob id).hiLatch = s.hiLatch := by simp only [State.dropJob, State.setJobs_hiLatch]
@[simp] theorem State.dropJob_busOut : (s.dropJob id).busOut = s.busOut := by simp only [State.dropJob, State.setJobs_busOut]
@[simp] theorem State.dropJob_hostMem : (s.dropJob id).hostMem = s.hostMem := by simp only [State.dropJob, State.setJobs_hostMem]
@[simp] theorem State.dropJob_svcMem : (s.dropJob id).svcMem = s.svcMem := by simp only [State.dropJob, State.setJobs_svcMem]
@[simp] theorem State.dropJob_cupMem : (s.dropJob id).cupMem = s.cupMem := by simp only [State.dropJob, State.setJobs_cupMem]
@[simp] theorem State.dropJob_faults : (s.dropJob id).faults = s.faults := by simp only [State.dropJob, State.setJobs_faults]
@[simp] theorem State.dropJob_time : (s.dropJob id).time = s.time := by simp only [State.dropJob, State.setJobs_time]
@[simp] theorem State.dropJob_free : (s.dropJob id).free = s.free := by simp only [State.dropJob, State.setJobs_free]
@[simp] theorem State.dropJob_ucs : (s.dropJob id).ucs = s.ucs := by simp only [State.dropJob, State.setJobs_ucs]
@[simp] theorem State.dropJob_fcr : (s.dropJob id).fcr = s.fcr := by simp only [State.dropJob, State.setJobs_fcr]
@[simp] theorem State.dropJob_evc : (s.dropJob id).evc = s.evc := by simp only [State.dropJob, State.setJobs_evc]
@[simp] theorem State.dropJob_power : (s.dropJob id).power = s.power := by simp only [State.dropJob, State.setJobs_power]
@[simp] theorem State.dropJob_ipp : (s.dropJob id).ipp = s.ipp := by simp only [State.dropJob, State.setJobs_ipp]
@[simp] theorem State.dropJob_cts : (s.dropJob id).cts = s.cts := by simp only [State.dropJob, State.setJobs_cts]
@[simp] theorem State.dropJob_mpe : (s.dropJob id).mpe = s.mpe := by simp only [State.dropJob, State.setJobs_mpe]
@[simp] theorem State.dropJob_keep : (s.dropJob id).keep = s.keep := by simp only [State.dropJob, State.setJobs_keep]
@[simp] theorem State.dropJob_otp : (s.dropJob id).otp = s.otp := by simp only [State.dropJob, State.setJobs_otp]
@[simp] theorem State.dropJob_dke : (s.dropJob id).dke = s.dke := by simp only [State.dropJob, State.setJobs_dke]
@[simp] theorem State.dropJob_rng : (s.dropJob id).rng = s.rng := by simp only [State.dropJob, State.setJobs_rng]
@[simp] theorem State.dropJob_alm : (s.dropJob id).alm = s.alm := by simp only [State.dropJob, State.setJobs_alm]
@[simp] theorem State.dropJob_cpm : (s.dropJob id).cpm = s.cpm := by simp only [State.dropJob, State.setJobs_cpm]
@[simp] theorem State.dropJob_blf : (s.dropJob id).blf = s.blf := by simp only [State.dropJob, State.setJobs_blf]
@[simp] theorem State.dropJob_lcs : (s.dropJob id).lcs = s.lcs := by simp only [State.dropJob, State.setJobs_lcs]
@[simp] theorem State.dropJob_cup : (s.dropJob id).cup = s.cup := by simp only [State.dropJob, State.setJobs_cup]
@[simp] theorem State.dropJob_svc : (s.dropJob id).svc = s.svc := by simp only [State.dropJob, State.setJobs_svc]

end dropJob

/-! ### qput -/

section qput
variable (q : Nat) (x : QueueSt)

@[simp] theorem State.qput_pending : (s.qput q x).pending = s.pending := by simp only [State.qput]
@[simp] theorem State.qput_regs : (s.qput q x).regs = s.regs := by simp only [State.qput]
@[simp] theorem State.qput_cnt : (s.qput q x).cnt = s.cnt := by simp only [State.qput]
@[simp] theorem State.qput_cntCopy : (s.qput q x).cntCopy = s.cntCopy := by simp only [State.qput]
@[simp] theorem State.qput_cntSnap : (s.qput q x).cntSnap = s.cntSnap := by simp only [State.qput]
@[simp] theorem State.qput_hiLatch : (s.qput q x).hiLatch = s.hiLatch := by simp only [State.qput]
@[simp] theorem State.qput_busOut : (s.qput q x).busOut = s.busOut := by simp only [State.qput]
@[simp] theorem State.qput_hostMem : (s.qput q x).hostMem = s.hostMem := by simp only [State.qput]
@[simp] theorem State.qput_svcMem : (s.qput q x).svcMem = s.svcMem := by simp only [State.qput]
@[simp] theorem State.qput_cupMem : (s.qput q x).cupMem = s.cupMem := by simp only [State.qput]
@[simp] theorem State.qput_faults : (s.qput q x).faults = s.faults := by simp only [State.qput]
@[simp] theorem State.qput_time : (s.qput q x).time = s.time := by simp only [State.qput]
@[simp] theorem State.qput_free : (s.qput q x).free = s.free := by simp only [State.qput]
@[simp] theorem State.qput_ucs : (s.qput q x).ucs = s.ucs := by simp only [State.qput]
@[simp] theorem State.qput_fcr : (s.qput q x).fcr = s.fcr := by simp only [State.qput]
@[simp] theorem State.qput_evc : (s.qput q x).evc = s.evc := by simp only [State.qput]
@[simp] theorem State.qput_power : (s.qput q x).power = s.power := by simp only [State.qput]
@[simp] theorem State.qput_ipp : (s.qput q x).ipp = s.ipp := by simp only [State.qput]
@[simp] theorem State.qput_cts : (s.qput q x).cts = s.cts := by simp only [State.qput]
@[simp] theorem State.qput_mpe : (s.qput q x).mpe = s.mpe := by simp only [State.qput]
@[simp] theorem State.qput_keep : (s.qput q x).keep = s.keep := by simp only [State.qput]
@[simp] theorem State.qput_otp : (s.qput q x).otp = s.otp := by simp only [State.qput]
@[simp] theorem State.qput_dke : (s.qput q x).dke = s.dke := by simp only [State.qput]
@[simp] theorem State.qput_rng : (s.qput q x).rng = s.rng := by simp only [State.qput]
@[simp] theorem State.qput_alm : (s.qput q x).alm = s.alm := by simp only [State.qput]
@[simp] theorem State.qput_cpm : (s.qput q x).cpm = s.cpm := by simp only [State.qput]
@[simp] theorem State.qput_blf : (s.qput q x).blf = s.blf := by simp only [State.qput]
@[simp] theorem State.qput_lcs : (s.qput q x).lcs = s.lcs := by simp only [State.qput]
@[simp] theorem State.qput_cup : (s.qput q x).cup = s.cup := by simp only [State.qput]
@[simp] theorem State.qput_svc : (s.qput q x).svc = s.svc := by simp only [State.qput]

end qput

/-! ### putFrame -/

section putFrame
variable (f : FrameSt)

@[simp] theorem State.putFrame_pending : (s.putFrame f).pending = s.pending := by simp only [State.putFrame]
@[simp] theorem State.putFrame_regs : (s.putFrame f).regs = s.regs := by simp only [State.putFrame]
@[simp] theorem State.putFrame_cnt : (s.putFrame f).cnt = s.cnt := by simp only [State.putFrame]
@[simp] theorem State.putFrame_cntCopy : (s.putFrame f).cntCopy = s.cntCopy := by simp only [State.putFrame]
@[simp] theorem State.putFrame_cntSnap : (s.putFrame f).cntSnap = s.cntSnap := by simp only [State.putFrame]
@[simp] theorem State.putFrame_hiLatch : (s.putFrame f).hiLatch = s.hiLatch := by simp only [State.putFrame]
@[simp] theorem State.putFrame_busOut : (s.putFrame f).busOut = s.busOut := by simp only [State.putFrame]
@[simp] theorem State.putFrame_hostMem : (s.putFrame f).hostMem = s.hostMem := by simp only [State.putFrame]
@[simp] theorem State.putFrame_svcMem : (s.putFrame f).svcMem = s.svcMem := by simp only [State.putFrame]
@[simp] theorem State.putFrame_cupMem : (s.putFrame f).cupMem = s.cupMem := by simp only [State.putFrame]
@[simp] theorem State.putFrame_faults : (s.putFrame f).faults = s.faults := by simp only [State.putFrame]
@[simp] theorem State.putFrame_time : (s.putFrame f).time = s.time := by simp only [State.putFrame]
@[simp] theorem State.putFrame_free : (s.putFrame f).free = s.free := by simp only [State.putFrame]
@[simp] theorem State.putFrame_jqm : (s.putFrame f).jqm = s.jqm := by simp only [State.putFrame]
@[simp] theorem State.putFrame_ucs : (s.putFrame f).ucs = s.ucs := by simp only [State.putFrame]
@[simp] theorem State.putFrame_fcr : (s.putFrame f).fcr = s.fcr := by simp only [State.putFrame]
@[simp] theorem State.putFrame_evc : (s.putFrame f).evc = s.evc := by simp only [State.putFrame]
@[simp] theorem State.putFrame_power : (s.putFrame f).power = s.power := by simp only [State.putFrame]
@[simp] theorem State.putFrame_cts : (s.putFrame f).cts = s.cts := by simp only [State.putFrame]
@[simp] theorem State.putFrame_mpe : (s.putFrame f).mpe = s.mpe := by simp only [State.putFrame]
@[simp] theorem State.putFrame_keep : (s.putFrame f).keep = s.keep := by simp only [State.putFrame]
@[simp] theorem State.putFrame_otp : (s.putFrame f).otp = s.otp := by simp only [State.putFrame]
@[simp] theorem State.putFrame_dke : (s.putFrame f).dke = s.dke := by simp only [State.putFrame]
@[simp] theorem State.putFrame_rng : (s.putFrame f).rng = s.rng := by simp only [State.putFrame]
@[simp] theorem State.putFrame_alm : (s.putFrame f).alm = s.alm := by simp only [State.putFrame]
@[simp] theorem State.putFrame_cpm : (s.putFrame f).cpm = s.cpm := by simp only [State.putFrame]
@[simp] theorem State.putFrame_blf : (s.putFrame f).blf = s.blf := by simp only [State.putFrame]
@[simp] theorem State.putFrame_lcs : (s.putFrame f).lcs = s.lcs := by simp only [State.putFrame]
@[simp] theorem State.putFrame_cup : (s.putFrame f).cup = s.cup := by simp only [State.putFrame]
@[simp] theorem State.putFrame_svc : (s.putFrame f).svc = s.svc := by simp only [State.putFrame]

end putFrame

/-! ### removeFrame -/

section removeFrame
variable (id : Nat)

@[simp] theorem State.removeFrame_pending : (s.removeFrame id).pending = s.pending := by simp only [State.removeFrame]
@[simp] theorem State.removeFrame_regs : (s.removeFrame id).regs = s.regs := by simp only [State.removeFrame]
@[simp] theorem State.removeFrame_cnt : (s.removeFrame id).cnt = s.cnt := by simp only [State.removeFrame]
@[simp] theorem State.removeFrame_cntCopy : (s.removeFrame id).cntCopy = s.cntCopy := by simp only [State.removeFrame]
@[simp] theorem State.removeFrame_cntSnap : (s.removeFrame id).cntSnap = s.cntSnap := by simp only [State.removeFrame]
@[simp] theorem State.removeFrame_hiLatch : (s.removeFrame id).hiLatch = s.hiLatch := by simp only [State.removeFrame]
@[simp] theorem State.removeFrame_busOut : (s.removeFrame id).busOut = s.busOut := by simp only [State.removeFrame]
@[simp] theorem State.removeFrame_hostMem : (s.removeFrame id).hostMem = s.hostMem := by simp only [State.removeFrame]
@[simp] theorem State.removeFrame_svcMem : (s.removeFrame id).svcMem = s.svcMem := by simp only [State.removeFrame]
@[simp] theorem State.removeFrame_cupMem : (s.removeFrame id).cupMem = s.cupMem := by simp only [State.removeFrame]
@[simp] theorem State.removeFrame_faults : (s.removeFrame id).faults = s.faults := by simp only [State.removeFrame]
@[simp] theorem State.removeFrame_time : (s.removeFrame id).time = s.time := by simp only [State.removeFrame]
@[simp] theorem State.removeFrame_free : (s.removeFrame id).free = s.free := by simp only [State.removeFrame]
@[simp] theorem State.removeFrame_jqm : (s.removeFrame id).jqm = s.jqm := by simp only [State.removeFrame]
@[simp] theorem State.removeFrame_ucs : (s.removeFrame id).ucs = s.ucs := by simp only [State.removeFrame]
@[simp] theorem State.removeFrame_fcr : (s.removeFrame id).fcr = s.fcr := by simp only [State.removeFrame]
@[simp] theorem State.removeFrame_evc : (s.removeFrame id).evc = s.evc := by simp only [State.removeFrame]
@[simp] theorem State.removeFrame_power : (s.removeFrame id).power = s.power := by simp only [State.removeFrame]
@[simp] theorem State.removeFrame_cts : (s.removeFrame id).cts = s.cts := by simp only [State.removeFrame]
@[simp] theorem State.removeFrame_mpe : (s.removeFrame id).mpe = s.mpe := by simp only [State.removeFrame]
@[simp] theorem State.removeFrame_keep : (s.removeFrame id).keep = s.keep := by simp only [State.removeFrame]
@[simp] theorem State.removeFrame_otp : (s.removeFrame id).otp = s.otp := by simp only [State.removeFrame]
@[simp] theorem State.removeFrame_dke : (s.removeFrame id).dke = s.dke := by simp only [State.removeFrame]
@[simp] theorem State.removeFrame_rng : (s.removeFrame id).rng = s.rng := by simp only [State.removeFrame]
@[simp] theorem State.removeFrame_alm : (s.removeFrame id).alm = s.alm := by simp only [State.removeFrame]
@[simp] theorem State.removeFrame_cpm : (s.removeFrame id).cpm = s.cpm := by simp only [State.removeFrame]
@[simp] theorem State.removeFrame_blf : (s.removeFrame id).blf = s.blf := by simp only [State.removeFrame]
@[simp] theorem State.removeFrame_lcs : (s.removeFrame id).lcs = s.lcs := by simp only [State.removeFrame]
@[simp] theorem State.removeFrame_cup : (s.removeFrame id).cup = s.cup := by simp only [State.removeFrame]
@[simp] theorem State.removeFrame_svc : (s.removeFrame id).svc = s.svc := by simp only [State.removeFrame]

end removeFrame

/-! ### putRecords -/

section putRecords
variable (g : Nat) (l : List (Nat × Nat))

@[simp] theorem State.putRecords_pending : (s.putRecords g l).pending = s.pending := by simp only [State.putRecords]
@[simp] theorem State.putRecords_regs : (s.putRecords g l).regs = s.regs := by simp only [State.putRecords]
@[simp] theorem State.putRecords_cnt : (s.putRecords g l).cnt = s.cnt := by simp only [State.putRecords]
@[simp] theorem State.putRecords_cntCopy : (s.putRecords g l).cntCopy = s.cntCopy := by simp only [State.putRecords]
@[simp] theorem State.putRecords_cntSnap : (s.putRecords g l).cntSnap = s.cntSnap := by simp only [State.putRecords]
@[simp] theorem State.putRecords_hiLatch : (s.putRecords g l).hiLatch = s.hiLatch := by simp only [State.putRecords]
@[simp] theorem State.putRecords_busOut : (s.putRecords g l).busOut = s.busOut := by simp only [State.putRecords]
@[simp] theorem State.putRecords_hostMem : (s.putRecords g l).hostMem = s.hostMem := by simp only [State.putRecords]
@[simp] theorem State.putRecords_svcMem : (s.putRecords g l).svcMem = s.svcMem := by simp only [State.putRecords]
@[simp] theorem State.putRecords_cupMem : (s.putRecords g l).cupMem = s.cupMem := by simp only [State.putRecords]
@[simp] theorem State.putRecords_faults : (s.putRecords g l).faults = s.faults := by simp only [State.putRecords]
@[simp] theorem State.putRecords_time : (s.putRecords g l).time = s.time := by simp only [State.putRecords]
@[simp] theorem State.putRecords_free : (s.putRecords g l).free = s.free := by simp only [State.putRecords]
@[simp] theorem State.putRecords_jqm : (s.putRecords g l).jqm = s.jqm := by simp only [State.putRecords]
@[simp] theorem State.putRecords_ucs : (s.putRecords g l).ucs = s.ucs := by simp only [State.putRecords]
@[simp] theorem State.putRecords_fcr : (s.putRecords g l).fcr = s.fcr := by simp only [State.putRecords]
@[simp] theorem State.putRecords_evc : (s.putRecords g l).evc = s.evc := by simp only [State.putRecords]
@[simp] theorem State.putRecords_power : (s.putRecords g l).power = s.power := by simp only [State.putRecords]
@[simp] theorem State.putRecords_cts : (s.putRecords g l).cts = s.cts := by simp only [State.putRecords]
@[simp] theorem State.putRecords_mpe : (s.putRecords g l).mpe = s.mpe := by simp only [State.putRecords]
@[simp] theorem State.putRecords_keep : (s.putRecords g l).keep = s.keep := by simp only [State.putRecords]
@[simp] theorem State.putRecords_otp : (s.putRecords g l).otp = s.otp := by simp only [State.putRecords]
@[simp] theorem State.putRecords_dke : (s.putRecords g l).dke = s.dke := by simp only [State.putRecords]
@[simp] theorem State.putRecords_rng : (s.putRecords g l).rng = s.rng := by simp only [State.putRecords]
@[simp] theorem State.putRecords_alm : (s.putRecords g l).alm = s.alm := by simp only [State.putRecords]
@[simp] theorem State.putRecords_cpm : (s.putRecords g l).cpm = s.cpm := by simp only [State.putRecords]
@[simp] theorem State.putRecords_blf : (s.putRecords g l).blf = s.blf := by simp only [State.putRecords]
@[simp] theorem State.putRecords_lcs : (s.putRecords g l).lcs = s.lcs := by simp only [State.putRecords]
@[simp] theorem State.putRecords_cup : (s.putRecords g l).cup = s.cup := by simp only [State.putRecords]
@[simp] theorem State.putRecords_svc : (s.putRecords g l).svc = s.svc := by simp only [State.putRecords]

end putRecords

/-! ### putDke -/

section putDke
variable (c : Nat) (x : DkeCh)

@[simp] theorem State.putDke_pending : (s.putDke c x).pending = s.pending := by simp only [State.putDke]
@[simp] theorem State.putDke_regs : (s.putDke c x).regs = s.regs := by simp only [State.putDke]
@[simp] theorem State.putDke_cnt : (s.putDke c x).cnt = s.cnt := by simp only [State.putDke]
@[simp] theorem State.putDke_cntCopy : (s.putDke c x).cntCopy = s.cntCopy := by simp only [State.putDke]
@[simp] theorem State.putDke_cntSnap : (s.putDke c x).cntSnap = s.cntSnap := by simp only [State.putDke]
@[simp] theorem State.putDke_hiLatch : (s.putDke c x).hiLatch = s.hiLatch := by simp only [State.putDke]
@[simp] theorem State.putDke_busOut : (s.putDke c x).busOut = s.busOut := by simp only [State.putDke]
@[simp] theorem State.putDke_hostMem : (s.putDke c x).hostMem = s.hostMem := by simp only [State.putDke]
@[simp] theorem State.putDke_svcMem : (s.putDke c x).svcMem = s.svcMem := by simp only [State.putDke]
@[simp] theorem State.putDke_cupMem : (s.putDke c x).cupMem = s.cupMem := by simp only [State.putDke]
@[simp] theorem State.putDke_faults : (s.putDke c x).faults = s.faults := by simp only [State.putDke]
@[simp] theorem State.putDke_time : (s.putDke c x).time = s.time := by simp only [State.putDke]
@[simp] theorem State.putDke_free : (s.putDke c x).free = s.free := by simp only [State.putDke]
@[simp] theorem State.putDke_jqm : (s.putDke c x).jqm = s.jqm := by simp only [State.putDke]
@[simp] theorem State.putDke_ucs : (s.putDke c x).ucs = s.ucs := by simp only [State.putDke]
@[simp] theorem State.putDke_fcr : (s.putDke c x).fcr = s.fcr := by simp only [State.putDke]
@[simp] theorem State.putDke_evc : (s.putDke c x).evc = s.evc := by simp only [State.putDke]
@[simp] theorem State.putDke_power : (s.putDke c x).power = s.power := by simp only [State.putDke]
@[simp] theorem State.putDke_ipp : (s.putDke c x).ipp = s.ipp := by simp only [State.putDke]
@[simp] theorem State.putDke_cts : (s.putDke c x).cts = s.cts := by simp only [State.putDke]
@[simp] theorem State.putDke_mpe : (s.putDke c x).mpe = s.mpe := by simp only [State.putDke]
@[simp] theorem State.putDke_keep : (s.putDke c x).keep = s.keep := by simp only [State.putDke]
@[simp] theorem State.putDke_otp : (s.putDke c x).otp = s.otp := by simp only [State.putDke]
@[simp] theorem State.putDke_rng : (s.putDke c x).rng = s.rng := by simp only [State.putDke]
@[simp] theorem State.putDke_alm : (s.putDke c x).alm = s.alm := by simp only [State.putDke]
@[simp] theorem State.putDke_cpm : (s.putDke c x).cpm = s.cpm := by simp only [State.putDke]
@[simp] theorem State.putDke_blf : (s.putDke c x).blf = s.blf := by simp only [State.putDke]
@[simp] theorem State.putDke_lcs : (s.putDke c x).lcs = s.lcs := by simp only [State.putDke]
@[simp] theorem State.putDke_cup : (s.putDke c x).cup = s.cup := by simp only [State.putDke]
@[simp] theorem State.putDke_svc : (s.putDke c x).svc = s.svc := by simp only [State.putDke]

end putDke

/-! ### svcSay -/

section svcSay
variable (dest : Nat) (m : SvcMsg)

@[simp] theorem State.svcSay_pending : (s.svcSay dest m).pending = s.pending := by simp only [State.svcSay]
@[simp] theorem State.svcSay_regs : (s.svcSay dest m).regs = s.regs := by simp only [State.svcSay]
@[simp] theorem State.svcSay_cnt : (s.svcSay dest m).cnt = s.cnt := by simp only [State.svcSay]
@[simp] theorem State.svcSay_cntCopy : (s.svcSay dest m).cntCopy = s.cntCopy := by simp only [State.svcSay]
@[simp] theorem State.svcSay_cntSnap : (s.svcSay dest m).cntSnap = s.cntSnap := by simp only [State.svcSay]
@[simp] theorem State.svcSay_hiLatch : (s.svcSay dest m).hiLatch = s.hiLatch := by simp only [State.svcSay]
@[simp] theorem State.svcSay_busOut : (s.svcSay dest m).busOut = s.busOut := by simp only [State.svcSay]
@[simp] theorem State.svcSay_hostMem : (s.svcSay dest m).hostMem = s.hostMem := by simp only [State.svcSay]
@[simp] theorem State.svcSay_svcMem : (s.svcSay dest m).svcMem = s.svcMem := by simp only [State.svcSay]
@[simp] theorem State.svcSay_cupMem : (s.svcSay dest m).cupMem = s.cupMem := by simp only [State.svcSay]
@[simp] theorem State.svcSay_faults : (s.svcSay dest m).faults = s.faults := by simp only [State.svcSay]
@[simp] theorem State.svcSay_time : (s.svcSay dest m).time = s.time := by simp only [State.svcSay]
@[simp] theorem State.svcSay_free : (s.svcSay dest m).free = s.free := by simp only [State.svcSay]
@[simp] theorem State.svcSay_jqm : (s.svcSay dest m).jqm = s.jqm := by simp only [State.svcSay]
@[simp] theorem State.svcSay_ucs : (s.svcSay dest m).ucs = s.ucs := by simp only [State.svcSay]
@[simp] theorem State.svcSay_fcr : (s.svcSay dest m).fcr = s.fcr := by simp only [State.svcSay]
@[simp] theorem State.svcSay_evc : (s.svcSay dest m).evc = s.evc := by simp only [State.svcSay]
@[simp] theorem State.svcSay_power : (s.svcSay dest m).power = s.power := by simp only [State.svcSay]
@[simp] theorem State.svcSay_ipp : (s.svcSay dest m).ipp = s.ipp := by simp only [State.svcSay]
@[simp] theorem State.svcSay_cts : (s.svcSay dest m).cts = s.cts := by simp only [State.svcSay]
@[simp] theorem State.svcSay_mpe : (s.svcSay dest m).mpe = s.mpe := by simp only [State.svcSay]
@[simp] theorem State.svcSay_keep : (s.svcSay dest m).keep = s.keep := by simp only [State.svcSay]
@[simp] theorem State.svcSay_otp : (s.svcSay dest m).otp = s.otp := by simp only [State.svcSay]
@[simp] theorem State.svcSay_dke : (s.svcSay dest m).dke = s.dke := by simp only [State.svcSay]
@[simp] theorem State.svcSay_rng : (s.svcSay dest m).rng = s.rng := by simp only [State.svcSay]
@[simp] theorem State.svcSay_alm : (s.svcSay dest m).alm = s.alm := by simp only [State.svcSay]
@[simp] theorem State.svcSay_cpm : (s.svcSay dest m).cpm = s.cpm := by simp only [State.svcSay]
@[simp] theorem State.svcSay_blf : (s.svcSay dest m).blf = s.blf := by simp only [State.svcSay]
@[simp] theorem State.svcSay_lcs : (s.svcSay dest m).lcs = s.lcs := by simp only [State.svcSay]
@[simp] theorem State.svcSay_cup : (s.svcSay dest m).cup = s.cup := by simp only [State.svcSay]

end svcSay

/-! ### setPeer -/

section setPeer
variable (i up failure : Nat)

@[simp] theorem State.setPeer_pending : (s.setPeer i up failure).pending = s.pending := by simp only [State.setPeer]
@[simp] theorem State.setPeer_regs : (s.setPeer i up failure).regs = s.regs := by simp only [State.setPeer]
@[simp] theorem State.setPeer_cnt : (s.setPeer i up failure).cnt = s.cnt := by simp only [State.setPeer]
@[simp] theorem State.setPeer_cntCopy : (s.setPeer i up failure).cntCopy = s.cntCopy := by simp only [State.setPeer]
@[simp] theorem State.setPeer_cntSnap : (s.setPeer i up failure).cntSnap = s.cntSnap := by simp only [State.setPeer]
@[simp] theorem State.setPeer_hiLatch : (s.setPeer i up failure).hiLatch = s.hiLatch := by simp only [State.setPeer]
@[simp] theorem State.setPeer_busOut : (s.setPeer i up failure).busOut = s.busOut := by simp only [State.setPeer]
@[simp] theorem State.setPeer_hostMem : (s.setPeer i up failure).hostMem = s.hostMem := by simp only [State.setPeer]
@[simp] theorem State.setPeer_svcMem : (s.setPeer i up failure).svcMem = s.svcMem := by simp only [State.setPeer]
@[simp] theorem State.setPeer_cupMem : (s.setPeer i up failure).cupMem = s.cupMem := by simp only [State.setPeer]
@[simp] theorem State.setPeer_faults : (s.setPeer i up failure).faults = s.faults := by simp only [State.setPeer]
@[simp] theorem State.setPeer_time : (s.setPeer i up failure).time = s.time := by simp only [State.setPeer]
@[simp] theorem State.setPeer_free : (s.setPeer i up failure).free = s.free := by simp only [State.setPeer]
@[simp] theorem State.setPeer_jqm : (s.setPeer i up failure).jqm = s.jqm := by simp only [State.setPeer]
@[simp] theorem State.setPeer_ucs : (s.setPeer i up failure).ucs = s.ucs := by simp only [State.setPeer]
@[simp] theorem State.setPeer_fcr : (s.setPeer i up failure).fcr = s.fcr := by simp only [State.setPeer]
@[simp] theorem State.setPeer_evc : (s.setPeer i up failure).evc = s.evc := by simp only [State.setPeer]
@[simp] theorem State.setPeer_power : (s.setPeer i up failure).power = s.power := by simp only [State.setPeer]
@[simp] theorem State.setPeer_ipp : (s.setPeer i up failure).ipp = s.ipp := by simp only [State.setPeer]
@[simp] theorem State.setPeer_cts : (s.setPeer i up failure).cts = s.cts := by simp only [State.setPeer]
@[simp] theorem State.setPeer_mpe : (s.setPeer i up failure).mpe = s.mpe := by simp only [State.setPeer]
@[simp] theorem State.setPeer_keep : (s.setPeer i up failure).keep = s.keep := by simp only [State.setPeer]
@[simp] theorem State.setPeer_otp : (s.setPeer i up failure).otp = s.otp := by simp only [State.setPeer]
@[simp] theorem State.setPeer_dke : (s.setPeer i up failure).dke = s.dke := by simp only [State.setPeer]
@[simp] theorem State.setPeer_rng : (s.setPeer i up failure).rng = s.rng := by simp only [State.setPeer]
@[simp] theorem State.setPeer_alm : (s.setPeer i up failure).alm = s.alm := by simp only [State.setPeer]
@[simp] theorem State.setPeer_cpm : (s.setPeer i up failure).cpm = s.cpm := by simp only [State.setPeer]
@[simp] theorem State.setPeer_blf : (s.setPeer i up failure).blf = s.blf := by simp only [State.setPeer]
@[simp] theorem State.setPeer_lcs : (s.setPeer i up failure).lcs = s.lcs := by simp only [State.setPeer]
@[simp] theorem State.setPeer_cup : (s.setPeer i up failure).cup = s.cup := by simp only [State.setPeer]

end setPeer

/-! ### putIke -/

section putIke
variable (k : IkeSa)

@[simp] theorem State.putIke_pending : (s.putIke k).pending = s.pending := by simp only [State.putIke]
@[simp] theorem State.putIke_regs : (s.putIke k).regs = s.regs := by simp only [State.putIke]
@[simp] theorem State.putIke_cnt : (s.putIke k).cnt = s.cnt := by simp only [State.putIke]
@[simp] theorem State.putIke_cntCopy : (s.putIke k).cntCopy = s.cntCopy := by simp only [State.putIke]
@[simp] theorem State.putIke_cntSnap : (s.putIke k).cntSnap = s.cntSnap := by simp only [State.putIke]
@[simp] theorem State.putIke_hiLatch : (s.putIke k).hiLatch = s.hiLatch := by simp only [State.putIke]
@[simp] theorem State.putIke_busOut : (s.putIke k).busOut = s.busOut := by simp only [State.putIke]
@[simp] theorem State.putIke_hostMem : (s.putIke k).hostMem = s.hostMem := by simp only [State.putIke]
@[simp] theorem State.putIke_svcMem : (s.putIke k).svcMem = s.svcMem := by simp only [State.putIke]
@[simp] theorem State.putIke_cupMem : (s.putIke k).cupMem = s.cupMem := by simp only [State.putIke]
@[simp] theorem State.putIke_faults : (s.putIke k).faults = s.faults := by simp only [State.putIke]
@[simp] theorem State.putIke_time : (s.putIke k).time = s.time := by simp only [State.putIke]
@[simp] theorem State.putIke_free : (s.putIke k).free = s.free := by simp only [State.putIke]
@[simp] theorem State.putIke_jqm : (s.putIke k).jqm = s.jqm := by simp only [State.putIke]
@[simp] theorem State.putIke_ucs : (s.putIke k).ucs = s.ucs := by simp only [State.putIke]
@[simp] theorem State.putIke_fcr : (s.putIke k).fcr = s.fcr := by simp only [State.putIke]
@[simp] theorem State.putIke_evc : (s.putIke k).evc = s.evc := by simp only [State.putIke]
@[simp] theorem State.putIke_power : (s.putIke k).power = s.power := by simp only [State.putIke]
@[simp] theorem State.putIke_ipp : (s.putIke k).ipp = s.ipp := by simp only [State.putIke]
@[simp] theorem State.putIke_cts : (s.putIke k).cts = s.cts := by simp only [State.putIke]
@[simp] theorem State.putIke_mpe : (s.putIke k).mpe = s.mpe := by simp only [State.putIke]
@[simp] theorem State.putIke_keep : (s.putIke k).keep = s.keep := by simp only [State.putIke]
@[simp] theorem State.putIke_otp : (s.putIke k).otp = s.otp := by simp only [State.putIke]
@[simp] theorem State.putIke_dke : (s.putIke k).dke = s.dke := by simp only [State.putIke]
@[simp] theorem State.putIke_rng : (s.putIke k).rng = s.rng := by simp only [State.putIke]
@[simp] theorem State.putIke_alm : (s.putIke k).alm = s.alm := by simp only [State.putIke]
@[simp] theorem State.putIke_cpm : (s.putIke k).cpm = s.cpm := by simp only [State.putIke]
@[simp] theorem State.putIke_blf : (s.putIke k).blf = s.blf := by simp only [State.putIke]
@[simp] theorem State.putIke_lcs : (s.putIke k).lcs = s.lcs := by simp only [State.putIke]
@[simp] theorem State.putIke_cup : (s.putIke k).cup = s.cup := by simp only [State.putIke]

end putIke

/-! ### addIke -/

section addIke
variable (k : IkeSa)

@[simp] theorem State.addIke_pending : (s.addIke k).pending = s.pending := by simp only [State.addIke]
@[simp] theorem State.addIke_regs : (s.addIke k).regs = s.regs := by simp only [State.addIke]
@[simp] theorem State.addIke_cnt : (s.addIke k).cnt = s.cnt := by simp only [State.addIke]
@[simp] theorem State.addIke_cntCopy : (s.addIke k).cntCopy = s.cntCopy := by simp only [State.addIke]
@[simp] theorem State.addIke_cntSnap : (s.addIke k).cntSnap = s.cntSnap := by simp only [State.addIke]
@[simp] theorem State.addIke_hiLatch : (s.addIke k).hiLatch = s.hiLatch := by simp only [State.addIke]
@[simp] theorem State.addIke_busOut : (s.addIke k).busOut = s.busOut := by simp only [State.addIke]
@[simp] theorem State.addIke_hostMem : (s.addIke k).hostMem = s.hostMem := by simp only [State.addIke]
@[simp] theorem State.addIke_svcMem : (s.addIke k).svcMem = s.svcMem := by simp only [State.addIke]
@[simp] theorem State.addIke_cupMem : (s.addIke k).cupMem = s.cupMem := by simp only [State.addIke]
@[simp] theorem State.addIke_faults : (s.addIke k).faults = s.faults := by simp only [State.addIke]
@[simp] theorem State.addIke_time : (s.addIke k).time = s.time := by simp only [State.addIke]
@[simp] theorem State.addIke_free : (s.addIke k).free = s.free := by simp only [State.addIke]
@[simp] theorem State.addIke_jqm : (s.addIke k).jqm = s.jqm := by simp only [State.addIke]
@[simp] theorem State.addIke_ucs : (s.addIke k).ucs = s.ucs := by simp only [State.addIke]
@[simp] theorem State.addIke_fcr : (s.addIke k).fcr = s.fcr := by simp only [State.addIke]
@[simp] theorem State.addIke_evc : (s.addIke k).evc = s.evc := by simp only [State.addIke]
@[simp] theorem State.addIke_power : (s.addIke k).power = s.power := by simp only [State.addIke]
@[simp] theorem State.addIke_ipp : (s.addIke k).ipp = s.ipp := by simp only [State.addIke]
@[simp] theorem State.addIke_cts : (s.addIke k).cts = s.cts := by simp only [State.addIke]
@[simp] theorem State.addIke_mpe : (s.addIke k).mpe = s.mpe := by simp only [State.addIke]
@[simp] theorem State.addIke_keep : (s.addIke k).keep = s.keep := by simp only [State.addIke]
@[simp] theorem State.addIke_otp : (s.addIke k).otp = s.otp := by simp only [State.addIke]
@[simp] theorem State.addIke_dke : (s.addIke k).dke = s.dke := by simp only [State.addIke]
@[simp] theorem State.addIke_rng : (s.addIke k).rng = s.rng := by simp only [State.addIke]
@[simp] theorem State.addIke_alm : (s.addIke k).alm = s.alm := by simp only [State.addIke]
@[simp] theorem State.addIke_cpm : (s.addIke k).cpm = s.cpm := by simp only [State.addIke]
@[simp] theorem State.addIke_blf : (s.addIke k).blf = s.blf := by simp only [State.addIke]
@[simp] theorem State.addIke_lcs : (s.addIke k).lcs = s.lcs := by simp only [State.addIke]
@[simp] theorem State.addIke_cup : (s.addIke k).cup = s.cup := by simp only [State.addIke]

end addIke

/-! ### dropIke -/

section dropIke
variable (id : Nat)

@[simp] theorem State.dropIke_pending : (s.dropIke id).pending = s.pending := by simp only [State.dropIke]
@[simp] theorem State.dropIke_regs : (s.dropIke id).regs = s.regs := by simp only [State.dropIke]
@[simp] theorem State.dropIke_cnt : (s.dropIke id).cnt = s.cnt := by simp only [State.dropIke]
@[simp] theorem State.dropIke_cntCopy : (s.dropIke id).cntCopy = s.cntCopy := by simp only [State.dropIke]
@[simp] theorem State.dropIke_cntSnap : (s.dropIke id).cntSnap = s.cntSnap := by simp only [State.dropIke]
@[simp] theorem State.dropIke_hiLatch : (s.dropIke id).hiLatch = s.hiLatch := by simp only [State.dropIke]
@[simp] theorem State.dropIke_busOut : (s.dropIke id).busOut = s.busOut := by simp only [State.dropIke]
@[simp] theorem State.dropIke_hostMem : (s.dropIke id).hostMem = s.hostMem := by simp only [State.dropIke]
@[simp] theorem State.dropIke_svcMem : (s.dropIke id).svcMem = s.svcMem := by simp only [State.dropIke]
@[simp] theorem State.dropIke_cupMem : (s.dropIke id).cupMem = s.cupMem := by simp only [State.dropIke]
@[simp] theorem State.dropIke_faults : (s.dropIke id).faults = s.faults := by simp only [State.dropIke]
@[simp] theorem State.dropIke_time : (s.dropIke id).time = s.time := by simp only [State.dropIke]
@[simp] theorem State.dropIke_free : (s.dropIke id).free = s.free := by simp only [State.dropIke]
@[simp] theorem State.dropIke_jqm : (s.dropIke id).jqm = s.jqm := by simp only [State.dropIke]
@[simp] theorem State.dropIke_ucs : (s.dropIke id).ucs = s.ucs := by simp only [State.dropIke]
@[simp] theorem State.dropIke_fcr : (s.dropIke id).fcr = s.fcr := by simp only [State.dropIke]
@[simp] theorem State.dropIke_evc : (s.dropIke id).evc = s.evc := by simp only [State.dropIke]
@[simp] theorem State.dropIke_power : (s.dropIke id).power = s.power := by simp only [State.dropIke]
@[simp] theorem State.dropIke_ipp : (s.dropIke id).ipp = s.ipp := by simp only [State.dropIke]
@[simp] theorem State.dropIke_cts : (s.dropIke id).cts = s.cts := by simp only [State.dropIke]
@[simp] theorem State.dropIke_mpe : (s.dropIke id).mpe = s.mpe := by simp only [State.dropIke]
@[simp] theorem State.dropIke_keep : (s.dropIke id).keep = s.keep := by simp only [State.dropIke]
@[simp] theorem State.dropIke_otp : (s.dropIke id).otp = s.otp := by simp only [State.dropIke]
@[simp] theorem State.dropIke_dke : (s.dropIke id).dke = s.dke := by simp only [State.dropIke]
@[simp] theorem State.dropIke_rng : (s.dropIke id).rng = s.rng := by simp only [State.dropIke]
@[simp] theorem State.dropIke_alm : (s.dropIke id).alm = s.alm := by simp only [State.dropIke]
@[simp] theorem State.dropIke_cpm : (s.dropIke id).cpm = s.cpm := by simp only [State.dropIke]
@[simp] theorem State.dropIke_blf : (s.dropIke id).blf = s.blf := by simp only [State.dropIke]
@[simp] theorem State.dropIke_lcs : (s.dropIke id).lcs = s.lcs := by simp only [State.dropIke]
@[simp] theorem State.dropIke_cup : (s.dropIke id).cup = s.cup := by simp only [State.dropIke]

end dropIke

/-! ### putChild -/

section putChild
variable (k : ChildSa)

@[simp] theorem State.putChild_pending : (s.putChild k).pending = s.pending := by simp only [State.putChild]
@[simp] theorem State.putChild_regs : (s.putChild k).regs = s.regs := by simp only [State.putChild]
@[simp] theorem State.putChild_cnt : (s.putChild k).cnt = s.cnt := by simp only [State.putChild]
@[simp] theorem State.putChild_cntCopy : (s.putChild k).cntCopy = s.cntCopy := by simp only [State.putChild]
@[simp] theorem State.putChild_cntSnap : (s.putChild k).cntSnap = s.cntSnap := by simp only [State.putChild]
@[simp] theorem State.putChild_hiLatch : (s.putChild k).hiLatch = s.hiLatch := by simp only [State.putChild]
@[simp] theorem State.putChild_busOut : (s.putChild k).busOut = s.busOut := by simp only [State.putChild]
@[simp] theorem State.putChild_hostMem : (s.putChild k).hostMem = s.hostMem := by simp only [State.putChild]
@[simp] theorem State.putChild_svcMem : (s.putChild k).svcMem = s.svcMem := by simp only [State.putChild]
@[simp] theorem State.putChild_cupMem : (s.putChild k).cupMem = s.cupMem := by simp only [State.putChild]
@[simp] theorem State.putChild_faults : (s.putChild k).faults = s.faults := by simp only [State.putChild]
@[simp] theorem State.putChild_time : (s.putChild k).time = s.time := by simp only [State.putChild]
@[simp] theorem State.putChild_free : (s.putChild k).free = s.free := by simp only [State.putChild]
@[simp] theorem State.putChild_jqm : (s.putChild k).jqm = s.jqm := by simp only [State.putChild]
@[simp] theorem State.putChild_ucs : (s.putChild k).ucs = s.ucs := by simp only [State.putChild]
@[simp] theorem State.putChild_fcr : (s.putChild k).fcr = s.fcr := by simp only [State.putChild]
@[simp] theorem State.putChild_evc : (s.putChild k).evc = s.evc := by simp only [State.putChild]
@[simp] theorem State.putChild_power : (s.putChild k).power = s.power := by simp only [State.putChild]
@[simp] theorem State.putChild_ipp : (s.putChild k).ipp = s.ipp := by simp only [State.putChild]
@[simp] theorem State.putChild_cts : (s.putChild k).cts = s.cts := by simp only [State.putChild]
@[simp] theorem State.putChild_mpe : (s.putChild k).mpe = s.mpe := by simp only [State.putChild]
@[simp] theorem State.putChild_keep : (s.putChild k).keep = s.keep := by simp only [State.putChild]
@[simp] theorem State.putChild_otp : (s.putChild k).otp = s.otp := by simp only [State.putChild]
@[simp] theorem State.putChild_dke : (s.putChild k).dke = s.dke := by simp only [State.putChild]
@[simp] theorem State.putChild_rng : (s.putChild k).rng = s.rng := by simp only [State.putChild]
@[simp] theorem State.putChild_alm : (s.putChild k).alm = s.alm := by simp only [State.putChild]
@[simp] theorem State.putChild_cpm : (s.putChild k).cpm = s.cpm := by simp only [State.putChild]
@[simp] theorem State.putChild_blf : (s.putChild k).blf = s.blf := by simp only [State.putChild]
@[simp] theorem State.putChild_lcs : (s.putChild k).lcs = s.lcs := by simp only [State.putChild]
@[simp] theorem State.putChild_cup : (s.putChild k).cup = s.cup := by simp only [State.putChild]

end putChild

/-! ### dropChild -/

section dropChild
variable (id : Nat)

@[simp] theorem State.dropChild_pending : (s.dropChild id).pending = s.pending := by simp only [State.dropChild]
@[simp] theorem State.dropChild_regs : (s.dropChild id).regs = s.regs := by simp only [State.dropChild]
@[simp] theorem State.dropChild_cnt : (s.dropChild id).cnt = s.cnt := by simp only [State.dropChild]
@[simp] theorem State.dropChild_cntCopy : (s.dropChild id).cntCopy = s.cntCopy := by simp only [State.dropChild]
@[simp] theorem State.dropChild_cntSnap : (s.dropChild id).cntSnap = s.cntSnap := by simp only [State.dropChild]
@[simp] theorem State.dropChild_hiLatch : (s.dropChild id).hiLatch = s.hiLatch := by simp only [State.dropChild]
@[simp] theorem State.dropChild_busOut : (s.dropChild id).busOut = s.busOut := by simp only [State.dropChild]
@[simp] theorem State.dropChild_hostMem : (s.dropChild id).hostMem = s.hostMem := by simp only [State.dropChild]
@[simp] theorem State.dropChild_svcMem : (s.dropChild id).svcMem = s.svcMem := by simp only [State.dropChild]
@[simp] theorem State.dropChild_cupMem : (s.dropChild id).cupMem = s.cupMem := by simp only [State.dropChild]
@[simp] theorem State.dropChild_faults : (s.dropChild id).faults = s.faults := by simp only [State.dropChild]
@[simp] theorem State.dropChild_time : (s.dropChild id).time = s.time := by simp only [State.dropChild]
@[simp] theorem State.dropChild_free : (s.dropChild id).free = s.free := by simp only [State.dropChild]
@[simp] theorem State.dropChild_jqm : (s.dropChild id).jqm = s.jqm := by simp only [State.dropChild]
@[simp] theorem State.dropChild_ucs : (s.dropChild id).ucs = s.ucs := by simp only [State.dropChild]
@[simp] theorem State.dropChild_fcr : (s.dropChild id).fcr = s.fcr := by simp only [State.dropChild]
@[simp] theorem State.dropChild_evc : (s.dropChild id).evc = s.evc := by simp only [State.dropChild]
@[simp] theorem State.dropChild_power : (s.dropChild id).power = s.power := by simp only [State.dropChild]
@[simp] theorem State.dropChild_ipp : (s.dropChild id).ipp = s.ipp := by simp only [State.dropChild]
@[simp] theorem State.dropChild_cts : (s.dropChild id).cts = s.cts := by simp only [State.dropChild]
@[simp] theorem State.dropChild_mpe : (s.dropChild id).mpe = s.mpe := by simp only [State.dropChild]
@[simp] theorem State.dropChild_keep : (s.dropChild id).keep = s.keep := by simp only [State.dropChild]
@[simp] theorem State.dropChild_otp : (s.dropChild id).otp = s.otp := by simp only [State.dropChild]
@[simp] theorem State.dropChild_dke : (s.dropChild id).dke = s.dke := by simp only [State.dropChild]
@[simp] theorem State.dropChild_rng : (s.dropChild id).rng = s.rng := by simp only [State.dropChild]
@[simp] theorem State.dropChild_alm : (s.dropChild id).alm = s.alm := by simp only [State.dropChild]
@[simp] theorem State.dropChild_cpm : (s.dropChild id).cpm = s.cpm := by simp only [State.dropChild]
@[simp] theorem State.dropChild_blf : (s.dropChild id).blf = s.blf := by simp only [State.dropChild]
@[simp] theorem State.dropChild_lcs : (s.dropChild id).lcs = s.lcs := by simp only [State.dropChild]
@[simp] theorem State.dropChild_cup : (s.dropChild id).cup = s.cup := by simp only [State.dropChild]

end dropChild

/-! ### putGroup -/

section putGroup
variable (g : Nat) (x : GroupSt)

@[simp] theorem State.putGroup_pending : (s.putGroup g x).pending = s.pending := by simp only [State.putGroup]
@[simp] theorem State.putGroup_regs : (s.putGroup g x).regs = s.regs := by simp only [State.putGroup]
@[simp] theorem State.putGroup_cnt : (s.putGroup g x).cnt = s.cnt := by simp only [State.putGroup]
@[simp] theorem State.putGroup_cntCopy : (s.putGroup g x).cntCopy = s.cntCopy := by simp only [State.putGroup]
@[simp] theorem State.putGroup_cntSnap : (s.putGroup g x).cntSnap = s.cntSnap := by simp only [State.putGroup]
@[simp] theorem State.putGroup_hiLatch : (s.putGroup g x).hiLatch = s.hiLatch := by simp only [State.putGroup]
@[simp] theorem State.putGroup_busOut : (s.putGroup g x).busOut = s.busOut := by simp only [State.putGroup]
@[simp] theorem State.putGroup_hostMem : (s.putGroup g x).hostMem = s.hostMem := by simp only [State.putGroup]
@[simp] theorem State.putGroup_svcMem : (s.putGroup g x).svcMem = s.svcMem := by simp only [State.putGroup]
@[simp] theorem State.putGroup_cupMem : (s.putGroup g x).cupMem = s.cupMem := by simp only [State.putGroup]
@[simp] theorem State.putGroup_faults : (s.putGroup g x).faults = s.faults := by simp only [State.putGroup]
@[simp] theorem State.putGroup_time : (s.putGroup g x).time = s.time := by simp only [State.putGroup]
@[simp] theorem State.putGroup_free : (s.putGroup g x).free = s.free := by simp only [State.putGroup]
@[simp] theorem State.putGroup_jqm : (s.putGroup g x).jqm = s.jqm := by simp only [State.putGroup]
@[simp] theorem State.putGroup_ucs : (s.putGroup g x).ucs = s.ucs := by simp only [State.putGroup]
@[simp] theorem State.putGroup_fcr : (s.putGroup g x).fcr = s.fcr := by simp only [State.putGroup]
@[simp] theorem State.putGroup_evc : (s.putGroup g x).evc = s.evc := by simp only [State.putGroup]
@[simp] theorem State.putGroup_power : (s.putGroup g x).power = s.power := by simp only [State.putGroup]
@[simp] theorem State.putGroup_ipp : (s.putGroup g x).ipp = s.ipp := by simp only [State.putGroup]
@[simp] theorem State.putGroup_cts : (s.putGroup g x).cts = s.cts := by simp only [State.putGroup]
@[simp] theorem State.putGroup_mpe : (s.putGroup g x).mpe = s.mpe := by simp only [State.putGroup]
@[simp] theorem State.putGroup_keep : (s.putGroup g x).keep = s.keep := by simp only [State.putGroup]
@[simp] theorem State.putGroup_otp : (s.putGroup g x).otp = s.otp := by simp only [State.putGroup]
@[simp] theorem State.putGroup_dke : (s.putGroup g x).dke = s.dke := by simp only [State.putGroup]
@[simp] theorem State.putGroup_rng : (s.putGroup g x).rng = s.rng := by simp only [State.putGroup]
@[simp] theorem State.putGroup_alm : (s.putGroup g x).alm = s.alm := by simp only [State.putGroup]
@[simp] theorem State.putGroup_cpm : (s.putGroup g x).cpm = s.cpm := by simp only [State.putGroup]
@[simp] theorem State.putGroup_blf : (s.putGroup g x).blf = s.blf := by simp only [State.putGroup]
@[simp] theorem State.putGroup_lcs : (s.putGroup g x).lcs = s.lcs := by simp only [State.putGroup]
@[simp] theorem State.putGroup_cup : (s.putGroup g x).cup = s.cup := by simp only [State.putGroup]

end putGroup

end Sys2Proof.Machine
end

