-- ==== Sys2Proof/Tests/Slice0.lean ====
section
/-! SUPPORT. The model's own small tests: the well-formedness checks, and for every statement with hypotheses a state and
operands that meet them. -/

namespace Sys2Proof.Tests

open Machine

set_option Elab.async false

/-! ### Builders -/

/-- The device with everything out of reset and every register at its reset value. -/
def up : State := { State.reset with power := ⟨true, false, false, true, true, true, true, true, true⟩ }

/-- The same with one command in front. -/
def front (c : Instr) : State := { up with pending := [c] }

/-- A descriptor: OPCODE, ALG, FLAGS, DECL_LEN, input, output, KEY_HANDLE, AUX_ADDR, PARAMS, NEXT; no context and no auxiliary
handle. -/
def desc (op alg fl decl ia il oa oc key aa : Nat) (params : List Byte) (next : Nat) : List Byte :=
  natLE 4 7 ++ natLE 2 op ++ natLE 2 alg ++ natLE 4 fl ++ natLE 4 decl ++ natLE 8 ia ++ natLE 8 il ++ natLE 8 oa ++ natLE 4 oc ++
    natLE 4 key ++ natLE 4 none32 ++ natLE 4 none32 ++ natLE 8 aa ++ fit 48 params ++ natLE 8 next ++ zeros 8

/-- A HASH job over 4 bytes at 0x2000 into 64 bytes at 0x3000, the last of its chain. -/
def dHash : List Byte := desc opHash 0x901 1 4 0x2000 4 0x3000 64 none32 0 [] 0

/-- A FENCE. -/
def dFen : List Byte := desc opFence 0 1 0 0 0 0 0 none32 0 [] 0

/-- A queue job of a descriptor at an engine. -/
def job (d : List Byte) (res : Res) (e : Nat) (ph : JobPhase) : Job :=
  { id := 0, kind := .queue, q := 0, owner := 0, addr := 0x1000, desc := d, cls := 2, res := res, engine := e, engine2 := e,
    phase := ph, wait := .none, abort := .none, hold := .own, spire := Spire.entry 0, targets := [], slotWritten := false,
    newHandle := 0, iters := 0, leaf := none, inp := none, key := [], rnd := [], discard := false, doneAt := 0, result := none }

/-- The device with jobs. -/
def withJobs (s : State) (js : List Job) : State := { s with jqm := { s.jqm with jobs := js, nextId := js.length } }

/-- The device with a queue enabled. -/
def en (q : Nat) : State := up.set (F.Q_CTL_EN q)

/-- A descriptor in hand. -/
def hand (d : List Byte) (ok : Bool) : Hand := ⟨0x1000, d, ok, [], none⟩

/-- One job that runs on engine 0x2F, the last one of AEA. -/
def oneJob (j : Job) : State := withJobs up [j]

theorem fit_length (n : Nat) (bs : List Byte) : (fit n bs).length = n := by simp [fit, zeros]

theorem ok_of {α ε : Type} {e : Except ε α} {x : α} (h : e.toOption = some x) : e = .ok x := by
  cases e with
  | error _ => exact absurd h (by simp [Except.toOption])
  | ok y => simpa [Except.toOption] using h

/-- What `worksWith` asks, as a check. -/
def works (s : State) (i op : Nat) (j : Job) (x : JobIn) : Bool :=
  decide (s.jqm.idsOk ∧ s.job? i = some j ∧ j.kind = .queue ∧ j.wait = .none ∧ dOpcode j.desc = op ∧ s.mayMove j = true ∧
    isPatchAlg j.desc = false ∧ j.abort = .none ∧ s.scatterSmall j.owner j.desc = false ∧
    (stage78 s j.owner j.desc (s.moreBufs j.owner j.desc)).toOption = some x)

theorem works_of {s : State} {i op : Nat} {j : Job} {x : JobIn} (h : works s i op j x = true) : s.worksWith i op j x := by
  have h := of_decide_eq_true h
  exact ⟨⟨h.1, h.2.1, h.2.2.1, h.2.2.2.1, h.2.2.2.2.1, h.2.2.2.2.2.1, h.2.2.2.2.2.2.1, h.2.2.2.2.2.2.2.1⟩, h.2.2.2.2.2.2.2.2.1, ok_of h.2.2.2.2.2.2.2.2.2⟩

theorem fits_of {s : State} {j : Job} {x : JobIn} {a n : Nat} {out : List Byte} (h : x.outs = [(a, n)] ∧ s.faults = [] ∧ a + n ≤ 2 ^ 64)
    (hl : out.length ≤ n) : s.outputFits j x a out := by
  refine ⟨⟨n, h.1, hl⟩, ?_⟩
  simp only [State.dmaFaults, h.2.1, List.any_nil, Bool.false_or, decide_eq_false_iff_not]
  omega

/-- A LIVE slot of generation 1. -/
def live (alg usage : Nat) (key : List Byte) : Slot :=
  { Slot.emptyGen 1 0 with st := .live, alg := alg, usage := usage, key := key, keyLen := key.length }

/-- The handle of slot 5, generation 1. -/
abbrev h5 : Nat := 0x1000005

/-- The device with RNG RUNNING, one key in slot 5 and one job that runs at a resource. -/
def workOf (d : List Byte) (res : Res) (k : Slot) : State :=
  { (withJobs up [job d res 0xC0 .running]).put F.RNG_STAT_STATE rngRunning with keep := { up.keep with slots := [(5, k)] } }

/-- The input of a job that declares no data, with its output at 0x3000. -/
def noData (cap : Nat) : JobIn := ⟨[], 0, [(0x3000, cap)]⟩

/-- A 512-byte context image: CTYPE, STATE, CIPHER. -/
def image (t st ci : Nat) : List Byte :=
  zeros 16 ++ [BitVec.ofNat 8 t, BitVec.ofNat 8 st, 0, 0, BitVec.ofNat 8 ci] ++ zeros 491

/-- One with neither predecessor nor successor. -/
def alone (x : List Byte) : List Byte := patch x 24 (natLE 8 (2 ^ 64 - 1))

/-- CTS open. -/
def ctsUp (s : State) : State := ((s.set F.CTS_STAT_READY).clr F.CTS_STAT_NO_KEY).clr F.CTS_STAT_ROTATING

/-- A job of the Context Arbiter that comes next. -/
def arbJob (d : List Byte) : Job := job d .arbiter 0x71 .waiting

/-- The device with CTS open, RNG RUNNING, one key in slot 5, context `c` and one job at the arbiter. -/
def arbOf (d : List Byte) (k : Slot) (c : Nat) (x : List Byte) : State :=
  { (ctsUp (withJobs up [arbJob d])).put F.RNG_STAT_STATE rngRunning with
    keep := { up.keep with slots := [(5, k)] }, cts := { up.cts with ctxs := [(c, x)] } }


/-! ### Well-formedness: one term that each check refuses, and its neighbour that it takes -/

theorem wf_register_write_outside_map : (Instr.registerWrite .pf 0x1000000 false 0).wf = false ∧
    (Instr.registerWrite .pf 0xFFFFFC false 0).wf = true := by decide

theorem wf_register_write_misaligned : (Instr.registerWrite .cupola 0x40000004 true 0).wf = false ∧
    (Instr.registerWrite .cupola 0x40000008 true 0).wf = true := by decide

theorem wf_subword_outside_map : (Instr.subwordWrite (.vf 0) 0x100000 true 0).wf = false ∧
    (Instr.subwordWrite (.vf 0) 0xFFFFE true 0).wf = true := by decide

theorem wf_subword_byte_too_big : (Instr.subwordWrite .pf 1 false 0x100).wf = false ∧
    (Instr.subwordWrite .pf 1 false 0xFF).wf = true := by decide

theorem wf_denied_access_misaligned : (Instr.deniedAccess .svc 0x40000002 .read32).wf = false ∧
    (Instr.deniedAccess .svc 0x40000002 .read16).wf = true := by decide

theorem wf_counter_read_outside_map : (Instr.counterLowRead .svc 0x41000000 false).wf = false ∧
    (Instr.counterLowRead .svc 0x40FFFFFC false).wf = true := by decide

theorem wf_reg_read_outside_map : (Instr.regRead 0x3FFFFFFC).wf = false ∧ (Instr.regRead 0x40000000).wf = true := by decide

theorem wf_smbus_block_too_long : (Instr.mbxWrite (List.replicate 256 0) true).wf = false ∧
    (Instr.mbxWrite (List.replicate 255 0) true).wf = true := by decide +kernel

theorem wf_token_length : (Instr.tokenLoad (List.replicate 7539 0)).wf = false ∧
    (Instr.tokenLoad (List.replicate 7540 0)).wf = true := by decide +kernel

theorem wf_id_digest_length : (Instr.gdoiMessage (.register 1 (List.replicate 31 0))).wf = false ∧
    (Instr.gdoiMessage (.register 1 (List.replicate 32 0))).wf = true := by decide +kernel

/-! ### Witnesses: states and operands that meet the hypotheses of each statement -/

theorem witness_IdleStepPassesTime : State.reset.pending = [] ∧ State.reset.power.coreUp = false := by decide

theorem witness_EveryStepKeepsForms : (front .tapReset).queueWf = true ∧ (front .tapReset).memWf = true ∧
    (front .tapReset).regsWf = true ∧ ∃ t, step (front .tapReset) = .next t := ⟨by decide, by decide, by decide, _, rfl⟩

theorem witness_OtpOnlyGrows : ∃ t, step (front .tapReset) = .next t := ⟨_, rfl⟩

theorem witness_CommandFrames : Instr.tapReset.storesNothing = true ∧ ∃ t, exec .tapReset up = .next t := ⟨rfl, _, rfl⟩

theorem witness_WellFormedCommandsGoOn : (Instr.registerWrite .pf 0xFFFFFC false 0).wf = true ∧
    (Instr.registerWrite .pf 0x1000000 false 0).access? = some (.pf, 0x1000000, 4) ∧ addrOk .pf 0x1000000 4 = false ∧
    255 < (List.replicate 256 (0 : Byte)).length ∧ Req.svc ∈ [Req.cupola, .svc] := by decide +kernel

theorem witness_RegisterAccess_refused :
    busOffset .svc 0x40000004 = some 4 ∧ up.reqUp .svc = true ∧ up.grants .svc 4 true = false ∧
    busOffset (.vf 30) 0 = some 0x100000 ∧ up.reqUp (.vf 30) = true ∧ up.grants (.vf 30) 0x100000 false = false := by
  decide +kernel

theorem witness_RegisterAccess_taken :
    busOffset .pf 0x6008 = some 0x6008 ∧ busOffset .cupola (0x40000000 + R.KEEP_BL_ADDR) = some R.KEEP_BL_ADDR ∧
    up.mayWrite .cupola R.KEEP_BL_ADDR ∧ up.mayWrite .cupola R.KEEP_BL_LEN ∧
    busOffset .pf R.GLB_STRAP = some R.GLB_STRAP ∧ up.mayWrite .pf R.GLB_STRAP ∧
    busOffset .cupola 0x40FFFFFF = some 0xFFFFFF ∧ up.grants .cupola (0xFFFFFF / 4 * 4) true = false ∧
    up.grants .cupola (R.KEEP_BL_ADDR / 4 * 4) true = true := by
  dsimp only [State.mayWrite]
  decide +kernel

theorem witness_CountersAreReadWhole : ∀ o, o = R.GLB_DENIED →
    busOffset .pf o = some o ∧ busOffset .pf (o + 4) = some (o + 4) ∧ o % 8 = 0 ∧ counterAt o = some o ∧
    counterAt (o + 4) = some o ∧ up.mayRead .pf o ∧ up.mayRead .pf (o + 4) ∧
    up.mayWrite .pf R.GLB_SNAP ∧ up.on F.GLB_STAT_SNAP_BUSY = false ∧
    (up.set F.GLB_STAT_SNAP_BUSY).mayWrite .pf R.GLB_SNAP ∧ (up.set F.GLB_STAT_SNAP_BUSY).on F.GLB_STAT_SNAP_BUSY = true := by
  rintro _ rfl
  dsimp only [State.mayWrite, State.mayRead]
  decide +kernel

/-- The registers whose CNT_CLR or LOCK bits the two statements name are writable by Cupola firmware. -/
theorem witness_CounterClearsAndLocks :
    (∀ o ∈ [R.EVC_CTL, R.KEEP_CTL, R.FLT_CTL, R.LCS_CTL, R.PWR_CTL, R.RNG_CTL, R.BLF_CTL, R.CTS_CTL, R.DKE_GCTL,
      R.LIF_PCTL 15, R.Q_CTL 4095, R.AEA_LT_CFG, R.AEA_XCFG, R.CTS_CFG, R.KEEP_CFG, R.DKE_CFG, R.FLT_CFG, R.PWR_CFG,
      R.CUP_CFG], up.grants .cupola o true = true) ∧ up.reqUp .cupola = true ∧ (up.put (F.LIF_PMODE_RATE 15) 1).portActive 15 = true ∧
    (1 : Word) &&& 0x101 = 1 ∧ (0 : Word) &&& 0x1F = 0 ∧ (0 : Word) &&& 0x80000001 = 0 ∧ (2 : Word) &&& 5 = 0 ∧
    (0 : Word).getLsbD 0 = up.on (F.Q_CTL_EN 4095) ∧ (0 : Word).getLsbD 2 = up.on (F.Q_CTL_PAUSE 4095) ∧
    (up.set F.AEA_LT_CFG_LOCK).grants .cupola R.AEA_LT_CFG true = true ∧
    (up.set F.AEA_LT_CFG_LOCK).on F.AEA_LT_CFG_LOCK = true := by
  decide +kernel

/-! ### The job queues -/

theorem witness_QueueControlWrites_enable : up.mayWrite .cupola (R.Q_CTL 4095) ∧ (0 : Word) &&& 0x700 = 0 ∧
    (0 : Word).getLsbD 2 = false ∧ up.on (F.Q_CTL_EN 4095) = false ∧ up.on (F.Q_CTL_PAUSE 4095) = false ∧
    up.sqStart 4095 % 128 = 0 ∧ up.cqBase 4095 % 4096 = 0 ∧ up.qErrStops 4095 = false ∧ up.qActive 4095 = false ∧
    (up.wr (R.SQ_START_LO 4095) 127).sqStart 4095 % 128 ≠ 0 ∧ (up.wr (R.CQ_BASE_LO 4095) 4095).cqBase 4095 % 4096 ≠ 0 := by
  dsimp only [State.mayWrite]
  decide +kernel

theorem witness_QueueControlWrites_others : (en 4095).mayWrite .cupola (R.Q_CTL 4095) ∧ (en 4095).on (F.Q_CTL_EN 4095) = true ∧
    (en 4095).on (F.Q_CTL_PAUSE 4095) = false ∧ ((en 4095).qst 4095).hand = none ∧
    (1 : Word).getLsbD 0 = (en 4095).on (F.Q_CTL_EN 4095) ∧
    ((en 4095).set (F.Q_CTL_PAUSE 4095)).on (F.Q_CTL_PAUSE 4095) = true ∧
    ((en 4095).set (F.Q_CTL_PAUSE 4095)).on (F.Q_STAT_KICK_PEND 4095) = false ∧
    (((en 4095).set (F.Q_CTL_PAUSE 4095)).qst 4095).fetch = none := by
  dsimp only [State.mayWrite]
  decide +kernel

theorem witness_QueueConfigurationWrites :
    (∀ k ∈ [QCfgReg.sqStartLo, .sqStartHi, .cqBaseLo, .cqBaseHi, .cqSize], up.grants .cupola (qCfgOff 4095 k) true = true) ∧
    up.reqUp .cupola = true ∧ up.on (F.Q_CTL_EN 4095) = false ∧ up.qActive 4095 = false ∧ cqSizeOk 16 = true ∧
    cqSizeOk 65536 = true ∧ cqSizeOk 65537 = false ∧ (en 4095).on (F.Q_CTL_EN 4095) = true ∧
    up.mayWrite .cupola (R.Q_PRIO 4095) ∧ bits 0x100 8 4 ≠ 0 ∧ groupOf 4095 = 31 ∧ bits 0x101 0 2 ≠ 0 ∧ bits 3 8 4 = 0 ∧
    groupOf 3967 ≠ 31 ∧ bits 0x100 0 2 = 0 := by
  dsimp only [State.mayWrite]
  decide +kernel

theorem witness_QueueConfigurationWrites_ring : ∀ s, s = (up.wr (R.CQ_SIZE 0) 16).put (F.CQ_TAIL_INDEX 0) 15 →
    s.mayWrite .pf (R.CQ_HEAD 0) ∧ 15 < s.cqSize 0 ∧
    (15 + s.cqSize 0 - s.get (F.CQ_HEAD_INDEX 0)) % s.cqSize 0 ≤
      (s.get (F.CQ_TAIL_INDEX 0) + s.cqSize 0 - s.get (F.CQ_HEAD_INDEX 0)) % s.cqSize 0 ∧
    (((s.put (F.CQ_TAIL_INDEX 0) 14).get (F.CQ_TAIL_INDEX 0)) + 16 - 0) % 16 < (15 + 16 - 0) % 16 ∧
    s.mayWrite .pf (R.GLB_QGRP 31) ∧ (∀ i < 128, s.qActive (31 * 128 + i) = false) ∧ bits 0x3F 0 6 = 0x3F ∧
    bits 0x1F 0 6 ≤ 0x1F ∧ (s.set (F.Q_CTL_EN 3968)).qActive (31 * 128 + 0) = true := by
  rintro _ rfl
  dsimp only [State.mayWrite]
  decide +kernel

theorem witness_JobNumbersStayDistinct : up.jobsOk ∧ ∃ t, step (front .tapReset) = .next t := by
  refine ⟨?_, _, rfl⟩
  dsimp only [State.jobsOk]
  decide +kernel

theorem witness_DoorbellRule : up.mayWrite .pf (R.SQ_KICK 0) ∧ up.on (F.Q_CTL_EN 0) = false ∧ (en 0).mayWrite .pf (R.SQ_KICK 0) ∧
    (en 0).on (F.Q_CTL_EN 0) = true ∧ (en 0).on (F.Q_STAT_ERR_STOP 0) = false ∧
    ((en 0).set (F.Q_CTL_PAUSE 0)).on (F.Q_CTL_PAUSE 0) = true ∧ (en 0).on (F.Q_CTL_PAUSE 0) = false ∧
    (en 0).on F.FLT_STAT_QUIESCED = false ∧ (en 0).on (F.Q_STAT_FLUSHING 0) = false ∧ ((en 0).qst 0).fetch = none ∧
    (((en 0).qput 0 { QueueSt.idle with parked := true }).qst 0).parked = true ∧
    (((en 0).set (F.Q_STAT_AWAIT_FIRST 0)).qst 0).parked = false ∧
    ((en 0).set (F.Q_STAT_AWAIT_FIRST 0)).on (F.Q_STAT_AWAIT_FIRST 0) = true ∧
    (((en 0).set (F.Q_STAT_AWAIT_FIRST 0)).qst 0).hand = none ∧ (en 0).on (F.Q_STAT_AWAIT_FIRST 0) = false := by
  dsimp only [State.mayWrite]
  decide +kernel

theorem witness_DoorbellRule_pending : ∀ s, s = { (en 0).qput 0 { QueueSt.idle with fetch := some ⟨.first, 0x1000, true⟩ } with
      faults := [⟨0, 0x107F, 0x1080, true, false⟩] } →
    (s.qst 0).fetch = some ⟨.first, 0x1000, true⟩ ∧ s.dmaRead (s.qOwner 0) 0x1000 128 = none ∧
    (1 : Word) &&& 0x701 = 1 ∧ s.mayWrite .pf (R.Q_CTL 0) ∧
    ∀ t, t = (((en 0).set (F.Q_CTL_PAUSE 0)).set (F.Q_STAT_KICK_PEND 0)).set (F.Q_STAT_AWAIT_FIRST 0) →
      t.on (F.Q_CTL_EN 0) = true ∧ t.on (F.Q_CTL_PAUSE 0) = true ∧ t.on (F.Q_STAT_KICK_PEND 0) = true ∧
      (t.qst 0).fetch = none ∧ (t.qst 0).hand = none ∧ t.on (F.Q_STAT_AWAIT_FIRST 0) = true := by
  rintro _ rfl
  dsimp only [State.mayWrite]
  refine ⟨by decide +kernel, by decide +kernel, by decide +kernel, by decide +kernel, ?_⟩
  rintro _ rfl
  decide +kernel

/-- A queue whose first descriptor has been read from 0x1000. -/
def fetching (k : FetchKind) (d : List Byte) : State :=
  ((en 0).qput 0 { QueueSt.idle with fetch := some ⟨k, 0x1000, true⟩ }).dmaStore 0 0x1000 d

/-- The state in which its checks run. -/
def fetched (d : List Byte) : State :=
  ((fetching .first d).qput 0 { (fetching .first d).qst 0 with
    fetch := none, parked := false, hand := some ⟨0x1000, d, false, [], none⟩ }).clr (F.Q_STAT_AWAIT_FIRST 0)

theorem witness_DescriptorReads_first : (∀ d ∈ [dHash, dFen], ((fetching .first d).qst 0).fetch = some ⟨.first, 0x1000, true⟩ ∧
      (fetching .first d).dmaRead ((fetching .first d).qOwner 0) 0x1000 128 = some d ∧
      stage1 ((fetched d).on (F.Q_CTL_DCHK_EN 0)) d = none ∧ (fetched d).stage23 d = none) ∧
    dOpcode dFen = opFence ∧ dOpcode dHash ≠ opFence ∧ dOpcode dHash ≠ opDerive ∧ dFence dHash = false ∧
    ((fetched dHash).stage456 0 dHash).toOption = some ([], fetched dHash) ∧
    { fetching .first dHash with faults := [⟨0, 0x107F, 0x1080, true, false⟩] }.dmaRead 0 0x1000 128 = none := by
  decide +kernel

theorem witness_DescriptorReads_reread : ∀ e ∈ [(0, 128), (1, 128), (0, 2 ^ 64 - 128), (0, 64), (1, 0)],
    ∀ s, s = fetching .reread (desc opHash 0x901 e.1 4 0x2000 4 0x3000 64 none32 0 [] e.2) →
      (s.qst 0).fetch = some ⟨.reread, 0x1000, true⟩ ∧ s.dmaRead (s.qOwner 0) (0x1000 + 8) 4 = some (natLE 4 e.1) ∧
      s.dmaRead (s.qOwner 0) (0x1000 + 112) 8 = some (natLE 8 e.2) ∧ bit (leNat (natLE 4 e.1)) 0 = decide (e.1 = 1) ∧
      leNat (natLE 8 e.2) = e.2 ∧ s.on (F.Q_STAT_KICK_PEND 0) = false ∧
      (s.set (F.Q_STAT_KICK_PEND 0)).on (F.Q_STAT_KICK_PEND 0) = true ∧
      { s with faults := [⟨0, 0x100B, 0x100C, true, false⟩] }.dmaRead (s.qOwner 0) (0x1000 + 8) 4 = none := by
  intro e he s hs
  subst hs
  revert e
  decide +kernel

theorem witness_FlushAndFences : (en 0).mayWrite .pf (R.Q_CTL 0) ∧ (1 : Word).getLsbD 0 = (en 0).on (F.Q_CTL_EN 0) ∧
    (1 : Word).getLsbD 2 = (en 0).on (F.Q_CTL_PAUSE 0) ∧ (1 : Word).getLsbD 9 = false ∧ (1 : Word).getLsbD 10 = false ∧
    (en 0).on (F.Q_STAT_FLUSHING 0) = false ∧ ((en 0).qst 0).hand = none ∧ (en 0).jobsOf 0 = [] ∧
    ((en 0).set (F.Q_STAT_FLUSHING 0)).on (F.Q_STAT_FLUSHING 0) = true ∧ ((en 0).set (F.Q_STAT_FLUSHING 0)).inflight 0 = 0 ∧
    ((en 0).qst 0).held = [] := by
  dsimp only [State.mayWrite]
  decide +kernel

/-- A queue with a ring of 16 slots whose descriptor waits at a fence. -/
def fenced (d : List Byte) : State :=
  (((en 0).wr (R.CQ_SIZE 0) 16).set (F.Q_STAT_FENCE_WAIT 0)).qput 0 { QueueSt.idle with hand := some (hand d false) }

theorem witness_FlushAndFences_fence : (∀ d ∈ [dHash, dFen], (fenced d).on (F.Q_STAT_FENCE_WAIT 0) = true ∧
      (fenced d).inflight 0 = 0 ∧ ((fenced d).qst 0).hand = some (hand d false)) ∧
    dOpcode dFen = opFence ∧ (hand dFen false).targets = [] ∧ (fenced dFen).holdUsed 0 .own < 2 ∧ (fenced dFen).ringReady 0 ∧
    dOpcode dHash ≠ opFence ∧ dOpcode dHash ≠ opDerive ∧
    (((fenced dHash).clr (F.Q_STAT_FENCE_WAIT 0)).stage456 0 dHash).toOption =
      some ([], (fenced dHash).clr (F.Q_STAT_FENCE_WAIT 0)) := by
  dsimp only [State.ringReady]
  decide +kernel

theorem witness_DispatchAndCompletion_dispatch : ∀ s, s = (en 0).qput 0 { QueueSt.idle with hand := some (hand dHash true) } →
    s.on F.FLT_STAT_QUIESCED = false ∧ s.inReset 4 = false ∧ s.inReset (resBit .sha2) = false ∧
    s.readyQueues .sha2 = [(0, 2)] ∧ s.waitingAt .sha2 0 = some (hand dHash true) ∧ s.place .sha2 2 = some (256, 256) ∧
    s.reserveHold 0 = some .own := by
  rintro _ rfl
  decide +kernel

theorem witness_DispatchAndCompletion_complete : ∀ s, s = withJobs ((en 0).wr (R.CQ_SIZE 0) 16)
      [{ job dHash .sha2 0x50 .done with result := some (okResult 0x50 0 32 0) }] →
    s.job? 0 = some { job dHash .sha2 0x50 .done with result := some (okResult 0x50 0 32 0) } ∧ s.ringReady 0 ∧
    s.waitingHands = [] ∧ ∀ r t, r = mkRecord 0x1000 dHash (okResult 0x50 0 32 0) 0 →
      t = s.qput 0 { QueueSt.idle with held := [(.own, r)] } →
      (t.qst 0).held = [(.own, r)] ∧ cqSizeOk (t.cqSize 0) = true ∧ t.ringFree 0 = true ∧
      t.dmaFaults (t.qOwner 0) (t.ringSlot 0) 32 true = false ∧ t.waitingHands = [] := by
  rintro _ rfl
  refine ⟨by decide +kernel, by dsimp only [State.ringReady]; decide +kernel, by decide +kernel, ?_⟩
  rintro _ _ rfl rfl
  decide +kernel

theorem witness_FunctionResets : up.regsWf = true ∧ up.waitingHands = [] ∧
    (∀ j ∈ up.jqm.jobs, j.kind = .queue → up.groupOwner (groupOf j.q) ≠ (30 : Fin 31).val + 1) ∧ up.power.hostUp = true ∧
    (up.cup.upd.map (·.holder)) ≠ some 1 ∧ (∀ j ∈ up.jqm.jobs, j.kind = .queue → groupOf j.q = 31) ∧
    up.power.svcUp = true ∧ up.inReset 12 = false ∧ (∀ j ∈ up.jqm.jobs, j.kind = .queue → groupOf j.q ≠ 31) ∧
    (up.put (F.GLB_QGRP_OWNER 30) 31).qOwner 3967 = (30 : Fin 31).val + 1 ∧ groupOf 4095 = 31 := by
  decide +kernel

/-! ### Resets, engines and Spire -/

theorem witness_BlockResetAndConnect : up.regsWf = true ∧ up.mayWrite .cupola R.PWR_BLKRST ∧ up.inReset 3 = false ∧
    up.inReset 8 = false ∧ (∀ b : Fin 13, (up.put ⟨R.PWR_BLKRST, b.val, 1⟩ 1).regsWf = true ∧
      (up.put ⟨R.PWR_BLKRST, b.val, 1⟩ 1).grants .cupola R.PWR_BLKRST true = true ∧
      (up.put ⟨R.PWR_BLKRST, b.val, 1⟩ 1).inReset b = true) := by
  dsimp only [State.mayWrite]
  decide +kernel

theorem witness_SystemResets : up.regsWf = true ∧ up.cup.upd = none ∧ up.power.pwrOk = true ∧ up.mayWrite .cupola R.PWR_CTL ∧
    (0x60 : Word) &&& 0x10F = 0 ∧ State.reset.power.pwrOk = false ∧
    { State.reset.power with sysrstLow := true }.sysrstLow = true ∧ State.reset.power.sysrstLow = false ∧
    (∀ s : State, s = { State.reset with power := { State.reset.power with pwrOk := true } }.put F.GLB_STRAP_BOOT_SRC 2 →
      s.power.pwrOk = true ∧ s.power.sysHeld = true ∧ s.fcr.lockdown = false ∧ s.cpm.tripped = false ∧ s.lcs.tapHold = false ∧
      s.pushed = true) := by
  dsimp only [State.mayWrite]
  refine ⟨by decide +kernel, by decide +kernel, by decide +kernel, by decide +kernel, by decide, by decide, by decide, by decide, ?_⟩
  rintro _ rfl
  decide +kernel

theorem witness_ViolationsAreReported : isAea (0x125 : Fin 0x126) = false ∧ isAea (0x2F : Fin 0x126) = true ∧
    up.jobsAt (0x2F : Fin 0x126) = [] ∧ isAea (0x2F : Fin 48) = true ∧ up.jobsAt (0x2F : Fin 48) = [] ∧
    (withJobs up [job dHash .sha2 0xC0 .running]).jobsOk ∧
    (withJobs up [job dHash .sha2 0xC0 .running]).job? 0 = some (job dHash .sha2 0xC0 .running) := by
  dsimp only [State.jobsOk]
  decide +kernel

theorem witness_EngineRegisters : isAea (0x2F : Fin 48) = true ∧ up.mayWrite .cupola (R.AEA_CTL (0x2F : Fin 48)) ∧
    (1 : Word).getLsbD 8 = false ∧ (up.set (F.AEA_CTL_SELFTEST 0x2F)).on (F.AEA_CTL_SELFTEST (0x2F : Fin 48)) = true ∧
    up.mayRead .pf (R.AEA_MAXINSN (0x2F : Fin 48)) ∧ isAea (0x2F : Fin 256) = true ∧
    (∀ a ∈ [AbortReq.none, .tamper 5], ∀ j, j = { job dHash .cle 0x2F .running with abort := a } →
      (oneJob j).jqm.idsOk ∧ (oneJob j).jobsAt (0x2F : Fin 256) = [j] ∧ j.phase = .running ∧ j.wait = .none ∧
      isCtxRes j.res = true ∧ j.kind = .queue ∧ j.abort = a) ∧
    (∀ j k, j = job dHash .lt 0x1F .running → k = { job dHash .lt 0x1F .waiting with id := 1, cls := 1 } →
      (withJobs up [j, k]).jqm.idsOk ∧ (withJobs up [j, k]).jobsAt (0x1F : Fin 256) = [j, k] ∧ k.cls < j.cls ∧ k.cls < 4) := by
  dsimp only [State.mayWrite, State.mayRead]
  refine ⟨by decide, by decide +kernel, by decide, by decide +kernel, by decide +kernel, by decide, ?_, ?_⟩
  · rintro a ha j rfl
    revert a
    decide +kernel
  · rintro j k rfl rfl
    decide +kernel

/-- A microword: SEQ, TARGET, COND, POL, BND; its nanoword is number 0x600, the first of the patch RAM. -/
def word (sq target cond : Nat) (pol bnd : Bool) : Nat :=
  0x600 + target * 2 ^ 11 + sq * 2 ^ 25 + cond * 2 ^ 29 + (if pol then 2 ^ 35 else 0) + (if bnd then 2 ^ 36 else 0)

/-- The job of engine 0x2F whose Spire stands at 0x3000. -/
def spin (p : Spire) : Job := { job dHash .cle 0x2F .running with spire := p }

/-- The device with that job, a microword at 0x3000 and a nanoword. -/
def spinning (p : Spire) (w n : Nat) : State := (oneJob (spin p)).putQuad 3 { Quadrant.null with micro := [(0, w)], nano := [(0, n)] }

def p0 : Spire := Spire.entry 0x3000

theorem witness_SequencingOperations : (∀ sq ∈ [sqNext, sqBr, sqCall, sqRet, sqDisp, sqLoop, sqWait], ∀ pol ∈ [true, false],
      ∀ w, w = word sq 0x3FFF 0 pol true → (spinning p0 w 0).jqm.idsOk ∧
        (spinning p0 w 0).spireJob (0x2F : Fin 48) = some (spin p0) ∧ w = (spinning p0 w 0).microAt (0x2F : Fin 48) p0.upc ∧
        p0.waiting = false ∧ nwUnit ((spinning p0 w 0).nanoAt 0x2F (mwNano w)) = 0 ∧
        nwLcLd ((spinning p0 w 0).nanoAt 0x2F (mwNano w)) = false ∧ mwSeq w = sq ∧ mwTarget w = 0x3FFF ∧
        taken (spin p0) p0 w true = some pol ∧ dispKey dHash (mwCond w) = some 1) ∧
    (∀ p, p = { p0 with stack := List.replicate 7 1, lc3 := 1 } →
      (spinning p (word sqCall 0 3 false false) 0).spireJob (0x2F : Fin 48) = some (spin p) ∧ p.stack.length < 8 ∧
      p.lc (mwCond (word sqLoop 0 3 true false) % 4) ≠ 0 ∧ p0.lc (mwCond (word sqLoop 0 3 true false) % 4) = 0 ∧
      p.stack = 1 :: List.replicate 6 1) ∧
    (∀ p, p = { p0 with waiting := true } → (spinning p (word sqWait 0 0 true false) 0).spireJob (0x2F : Fin 48) = some (spin p) ∧
      waitTaken (spin p) (word sqWait 0 0 true false) = true) := by
  refine ⟨?_, ?_, ?_⟩
  · rintro sq hs pol hp w rfl
    revert sq pol
    decide +kernel
  · rintro p rfl
    decide +kernel
  · rintro p rfl
    decide +kernel

theorem witness_AssertionsAndDone : isAea (0x2F : Fin 48) = true ∧ (spin p0).kind = .queue ∧ (spin p0).abort = .none ∧
    (∀ w, w = word sqAssert 0 0 true false → (spinning p0 w 0).jqm.idsOk ∧
      (spinning p0 w 0).spireJob (0x2F : Fin 48) = some (spin p0) ∧ w = (spinning p0 w 0).microAt (0x2F : Fin 48) p0.upc ∧
      mwSeq w = sqAssert ∧ taken (spin p0) p0 w false = some true ∧ up.on F.UCODE_ASSERT_VALID = false) ∧
    (∀ w, w = word sqDone 0 0 true false → ∀ c ∈ [0x00, 0x0F, 0x10, 0xFF], ∀ s, s = spinning p0 w (c * 2 ^ 96) →
      s.spireJob (0x2F : Fin 48) = some (spin p0) ∧ mwSeq w = sqDone ∧ nwUnit (s.nanoAt 0x2F (mwNano w)) = 0 ∧
      nwLcLd (s.nanoAt 0x2F (mwNano w)) = false ∧ nwCstat (s.nanoAt 0x2F (mwNano w)) = c ∧
      nwDsel (s.nanoAt 0x2F (mwNano w)) = 0 ∧ (spin p0).targets = []) ∧
    (∀ p, p = { p0 with sinceBnd := bndCap 2 } → (spinning p 0 0).running (0x2F : Fin 48) = some (spin p) ∧
      bndCap (kindOf (0x2F : Fin 48)) ≤ p.sinceBnd) := by
  refine ⟨by decide, by decide, by decide, ?_, ?_, ?_⟩
  · rintro w rfl
    decide +kernel
  · rintro w rfl c hc s rfl
    revert c
    decide +kernel
  · rintro p rfl
    decide +kernel

theorem witness_ControlStoreCommands : up.mayWrite .cupola (R.UCODE_Q_WR (3 : Fin 4)) ∧
    up.mayWrite .cupola (R.UCODE_Q_CTL (3 : Fin 4)) ∧ up.loadReason 3 0 0 (up.loadWord 3 0) = 0 ∧
    up.get (F.UCODE_Q_ADDR_SPACE 3) = 0 ∧ up.get (F.UCODE_Q_ADDR_INDEX 3) = 0 ∧
    (∀ s, s = (up.put (F.UCODE_Q_ADDR_SPACE 3) 1).put (F.UCODE_Q_ADDR_INDEX 3) 512 → s.grants .cupola (R.UCODE_Q_WR 3) true = true ∧
      s.loadReason 3 (s.get (F.UCODE_Q_ADDR_SPACE 3)) (s.get (F.UCODE_Q_ADDR_INDEX 3)) (s.loadWord 3 1) = 7) ∧
    (up.set (F.UCODE_Q_STAT_ARMED 3)).on (F.UCODE_Q_STAT_ARMED (3 : Fin 4)) = true ∧
    up.on (F.UCODE_Q_STAT_ARMED (3 : Fin 4)) = false ∧ (up.set (F.UCODE_Q_CTL_CLEAR 3)).on (F.UCODE_Q_CTL_CLEAR (3 : Fin 4)) = true ∧
    (up.set (F.UCODE_Q_STAT_DIGEST_BUSY 3)).on (F.UCODE_Q_STAT_DIGEST_BUSY (3 : Fin 4)) = true ∧ up.power.cupUp = true := by
  dsimp only [State.mayWrite]
  refine ⟨by decide +kernel, by decide +kernel, by decide +kernel, by decide +kernel, by decide +kernel, ?_, by decide +kernel⟩
  rintro s rfl
  decide +kernel

/-! ### Jobs -/

/-- ML-KEM-768 KEYGEN from a seed at 0x2000 with both keys to memory. -/
theorem witness_AsymmetricJobs_keygen : ∀ d s, d = desc opKeygen 0x102 1 0 0 0 0x3000 3584 none32 0x2000 (natLE 2 3) 0 →
    s = workOf d .lt (live 0 0 []) → s.worksWith 0 opKeygen (job d .lt 0xC0 .running) (noData 3584) ∧ s.rngState = rngRunning ∧
      leAt d 64 2 = 3 ∧ isMlKem (dAlg d) = true ∧ s.dmaRead 0 (dAuxAddr d) (kgSeedLen d) = some (zeros 64) ∧
      s.outputFits (job d .lt 0xC0 .running) (noData 3584) 0x3000
        ((keyPair (dAlg d) (kgParam d) (zeros 64)).1 ++ (keyPair (dAlg d) (kgParam d) (zeros 64)).2) := by
  rintro _ _ rfl rfl
  refine ⟨works_of (by decide +kernel), by decide +kernel, by decide +kernel, by decide +kernel, by decide +kernel, fits_of (n := 3584) (by decide +kernel) ?_⟩
  have h : isComp (dAlg (desc opKeygen 0x102 1 0 0 0 0x3000 3584 none32 0x2000 (natLE 2 3) 0)) = false := by decide +kernel
  simp only [keyPair, h, simpleKey, List.length_append, fit_length, Bool.false_eq_true, if_false]
  decide +kernel

/-- ML-KEM-768 ENCAPS of a public key of zeros, which passes its check, with the message in memory. -/
theorem witness_AsymmetricJobs_encaps : ∀ d s, d = desc opEncaps 0x102 1 1184 0x2000 1184 0x3000 2048 none32 0x2000 (natLE 2 2) 0 →
    s = workOf d .lt (live 0 0 []) → ∀ x, x = JobIn.mk (zeros 1184) 0 [(0x3000, 2048)] →
      s.worksWith 0 opEncaps (job d .lt 0xC0 .running) x ∧ s.rngState = rngRunning ∧ isMlKem (dAlg d) = true ∧
      dKeyHandle d = none32 ∧ bit (leAt d 64 2) 0 = false ∧ bit (leAt d 64 2) 1 = true ∧
      encapsKeyOk (dAlg d) x.data = true ∧ s.dmaRead 0 (dAuxAddr d) (mLen (dAlg d)) = some (zeros 32) ∧ ∃ ct ss, encapsOf (dAlg d) (bit (leAt d 64 2) 2) x.data (zeros 32) =
        some (ct, ss) ∧ s.outputFits (job d .lt 0xC0 .running) x 0x3000 (ct ++ ss) := by
  rintro _ _ rfl rfl x rfl
  have h : isComp (dAlg (desc opEncaps 0x102 1 1184 0x2000 1184 0x3000 2048 none32 0x2000 (natLE 2 2) 0)) = false := by decide +kernel
  refine ⟨works_of (by decide +kernel), by decide +kernel, by decide +kernel, by decide +kernel, by decide +kernel, by decide +kernel,
    by decide +kernel, by decide +kernel, _, _, by simp only [encapsOf, h, Bool.false_eq_true, if_false]; rfl, fits_of (n := 2048) (by decide +kernel) ?_⟩
  simp only [List.length_append, fit_length]
  decide +kernel

/-- The same with a public key whose first coefficient is 0xFFF, above the modulus 3329. -/
theorem witness_AsymmetricJobs_encaps_bad_key : ∀ d s, d = desc opEncaps 0x102 1 1184 0x2000 1184 0x3000 2048 none32 0x4000 (natLE 2 2) 0 →
    s = { workOf d .lt (live 0 0 []) with hostMem := [(0x2000, 0xFF), (0x2001, 0xFF)] } →
    ∀ x, x = JobIn.mk (0xFF :: 0xFF :: zeros 1182) 0 [(0x3000, 2048)] →
      s.worksWith 0 opEncaps (job d .lt 0xC0 .running) x ∧ s.rngState = rngRunning ∧ isMlKem (dAlg d) = true ∧
      dKeyHandle d = none32 ∧ bit (leAt d 64 2) 0 = false ∧ bit (leAt d 64 2) 1 = true ∧ encapsKeyOk (dAlg d) x.data = false := by
  rintro _ _ rfl rfl x rfl
  exact ⟨works_of (by decide +kernel), by decide +kernel⟩

/-- DECAPS and EXCHANGE with a slot's key, apart from the checks of the standards on the key's bytes. -/
theorem witness_AsymmetricJobs_decaps_exchange : (∀ d s, d = desc opDecaps 0x102 1 1088 0x2000 1088 0x3000 32 h5 0 [] 0 →
      s = workOf d .lt (live 0x102 2 (zeros 2400)) → ∀ x, x = JobIn.mk (zeros 1088) 0 [(0x3000, 32)] →
      s.worksWith 0 opDecaps (job d .lt 0xC0 .running) x ∧ s.rngState = rngRunning ∧
      s.liveSlot (dKeyHandle d) = some (live 0x102 2 (zeros 2400)) ∧ bit (leAt d 64 2) 0 = false ∧
      ∃ ss, decapsOf (dAlg d) (bit (leAt d 64 2) 2) (zeros 2400) x.data = some ss ∧ s.outputFits (job d .lt 0xC0 .running) x 0x3000 ss) ∧
    (∀ d s, d = desc opExchange 0x701 1 32 0x2000 32 0x3000 32 h5 0 [] 0 → s = workOf d .cle (live 0x701 4 (zeros 32)) →
      ∀ x, x = JobIn.mk (zeros 32) 0 [(0x3000, 32)] → s.worksWith 0 opExchange (job d .cle 0xC0 .running) x ∧
      s.rngState = rngRunning ∧ s.liveSlot (dKeyHandle d) = some (live 0x701 4 (zeros 32)) ∧ bit (leAt d 64 2) 0 = false ∧
      bit (leAt d 64 2) 2 = false ∧ ∀ ss, s.outputFits (job d .cle 0xC0 .running) x 0x3000 (fit (exchLen (dAlg d) (byteAt d 76)) ss)) := by
  constructor
  · rintro _ _ rfl rfl x rfl
    have h : isComp (dAlg (desc opDecaps 0x102 1 1088 0x2000 1088 0x3000 32 h5 0 [] 0)) = false := by decide +kernel
    refine ⟨works_of (by decide +kernel), by decide +kernel, by decide +kernel, by decide +kernel, _,
      by simp only [decapsOf, h, Bool.false_eq_true, if_false]; rfl, fits_of (n := 32) (by decide +kernel) ?_⟩
    simp only [fit_length]
    decide +kernel
  · rintro _ _ rfl rfl x rfl
    refine ⟨works_of (by decide +kernel), by decide +kernel, by decide +kernel, by decide +kernel, by decide +kernel,
      fun ss => fits_of (n := 32) (by decide +kernel) ?_⟩
    simp only [fit_length]
    decide +kernel

/-- Deterministic ML-DSA-65 SIGN, apart from the count of its iterations, and VERIFY with a slot's key. -/
theorem witness_AsymmetricJobs_sign_verify : (∀ d s, d = desc opSign 0x202 1 4 0x2000 4 0x3000 3309 h5 0 (natLE 2 1) 0 →
      s = workOf d .lt (live 0x202 0 (zeros 4032)) → ∀ x, x = JobIn.mk (zeros 4) 0 [(0x3000, 3309)] →
      s.worksWith 0 opSign (job d .lt 0xC0 .running) x ∧ s.rngState = rngRunning ∧ isMlDsa (dAlg d) = true ∧
      (job d .lt 0xC0 .running).inp = none ∧ s.liveSlot (dKeyHandle d) = some (live 0x202 0 (zeros 4032)) ∧ sgDet d = true ∧
      sgCtxLen d = 0 ∧ bit (leAt d 64 2) 3 = false ∧ ∀ p, s.outputFits (job d .lt 0xC0 .running) x 0x3000
        (signOf (dAlg d) (sigLen (dAlg d) (rsaOfSk 4032)) p (zeros 4032) (zeros 32) x.data)) ∧
    (∀ d s, d = desc opVerify 0x202 1 4 0x2000 4 0 0 h5 0x4000 [] 0 → s = workOf d .lt (live 0x202 1 (zeros 1952)) →
      ∀ x, x = JobIn.mk (zeros 4) 0 [(0, 0)] → s.worksWith 0 opVerify (job d .lt 0xC0 .running) x ∧ dKeyHandle d ≠ none32 ∧
      s.liveSlot (dKeyHandle d) = some (live 0x202 1 (zeros 1952)) ∧ sgCtxLen d = 0 ∧
      s.dmaRead 0 (dAuxAddr d) (verifySigLen d 1952) = some (zeros 3309)) := by
  constructor
  · rintro _ _ rfl rfl x rfl
    have h : isCompSig (dAlg (desc opSign 0x202 1 4 0x2000 4 0x3000 3309 h5 0 (natLE 2 1) 0)) = false := by decide +kernel
    refine ⟨works_of (by decide +kernel), by decide +kernel, by decide +kernel, by decide +kernel, by decide +kernel, by decide +kernel,
      by decide +kernel, by decide +kernel, fun p => fits_of (n := 3309) (by decide +kernel) ?_⟩
    simp only [signOf, h, simpleSign, fit_length, Bool.false_eq_true, if_false]
    decide +kernel
  · rintro _ _ rfl rfl x rfl
    exact ⟨works_of (by decide +kernel), by decide +kernel⟩

theorem witness_HashMacAndCipherJobs : (∀ s x, s = workOf dHash .sha2 (live 0 0 []) → x = JobIn.mk (zeros 4) 0 [(0x3000, 64)] →
      s.worksWith 0 opHash (job dHash .sha2 0xC0 .running) x ∧ ∀ m, s.outputFits (job dHash .sha2 0xC0 .running) x 0x3000
        (hashOf (dAlg dHash) (hashLen (dAlg dHash)) m)) ∧
    (∀ op ∈ [opMac, opMacCompare], ∀ d s, d = desc op 0xA01 1 4 0x2000 4 0x3000 32 h5 0x4000 (natLE 2 32) 0 →
      s = workOf d .dke (live 0xA01 0 (zeros 32)) → ∀ x, x = JobIn.mk (zeros 4) 0 [(0x3000, 32)] →
      s.worksWith 0 op (job d .dke 0xC0 .running) x ∧ s.liveSlot (dKeyHandle d) = some (live 0xA01 0 (zeros 32)) ∧
      s.rngState = rngRunning ∧ byteAt d 68 = 0 ∧ s.dmaRead 0 (dAuxAddr d) (macLen d) = some (zeros 32) ∧
      ∀ k m, s.outputFits (job d .dke 0xC0 .running) x 0x3000 (fit 32 (Config.hmac (dAlg d) k m))) ∧
    (∀ op ∈ [opEncrypt, opDecrypt], ∀ d s, d = desc op 0xB02 1 16 0x2000 16 0x3000 16 h5 0 [] 0 →
      s = workOf d .aes (live 0xB02 2 (zeros 32)) → ∀ x, x = JobIn.mk (zeros 16) 0 [(0x3000, 16)] →
      s.worksWith 0 op (job d .aes 0xC0 .running) x ∧ s.liveSlot (dKeyHandle d) = some (live 0xB02 2 (zeros 32)) ∧
      dKeyHandle d ≠ none32) := by
  refine ⟨?_, ?_, ?_⟩
  · rintro s x rfl rfl
    exact ⟨works_of (by decide +kernel), fun m => fits_of (n := 64) (by decide +kernel)
      (by simp only [hashOf, fit_length]; decide +kernel)⟩
  · rintro op hop d s rfl rfl x rfl
    simp only [List.mem_cons, List.not_mem_nil, or_false] at hop
    obtain rfl | rfl := hop <;>
    exact ⟨works_of (by decide +kernel), by decide +kernel, by decide +kernel, by decide +kernel, by decide +kernel,
      fun k m => fits_of (n := 32) (by decide +kernel) (by simp only [fit_length]; decide)⟩
  · rintro op hop d s rfl rfl x rfl
    simp only [List.mem_cons, List.not_mem_nil, or_false] at hop
    obtain rfl | rfl := hop <;> exact ⟨works_of (by decide +kernel), by decide +kernel⟩

theorem witness_DecryptUndoesEncrypt : ∀ alg ∈ [0xB01, 0xB02, 0xC01], ∀ d e,
    d = desc opEncrypt alg 1 20 0 0 0 0 h5 0 [0, 0, 16, 0, 20] 0 → e = desc opDecrypt alg 1 36 0 0 0 0 h5 0 [0, 0, 16, 0, 20] 0 →
    dAlg d = dAlg e ∧ bcAad d = bcAad e ∧ bcTag d = bcTag e ∧ bcAad d ≤ (zeros 20).length ∧ dAlg d = alg ∧
    dDeclLen e = (zeros 20).length + bcTag d := by
  rintro alg ha d e rfl rfl
  revert alg
  decide +kernel



/-- A WRAP of the key in slot 5 under itself. -/
def dWrap : List Byte := patch (desc opWrap 0xB03 1 0 0 0 0x3000 40 h5 0 [1] 0) 52 (natLE 4 h5)

/-- Context jobs on context 8. -/
def dInst : List Byte := patch (desc opCtxInstall 0 1 512 0x2000 512 0 0 h5 0 (zeros 12 ++ natLE 4 none32) 0) 48 (natLE 4 8)
def dUpd : List Byte := patch (desc opCtxUpdate 0 1 512 0x2000 512 0 0 none32 0x4000 [] 0) 48 (natLE 4 8)
def dCtx (op : Nat) : List Byte := patch (desc op 0 1 0 0 0 0x3000 512 none32 0 [] 0) 48 (natLE 4 8)

theorem witness_KeepAndContextJobs_keep :
    (∀ d s, d = desc opKeepLoad 0xB01 1 32 0x2000 32 0 0 none32 0 [0, 0] 0 →
      s = withJobs up [{ job d .keep 0x72 .running with targets := [6] }] →
      s.worksWith 0 opKeepLoad { job d .keep 0x72 .running with targets := [6] } ⟨zeros 32, 0, [(0, 0)]⟩ ∧ byteAt d 64 = 0) ∧
    (∀ d s, d = desc opKeepErase 0 1 0 0 0 0 0 h5 0 [0] 0 → s = workOf d .keep (live 0xB01 0 (zeros 32)) →
      s.worksWith 0 opKeepErase (job d .keep 0xC0 .running) ⟨[], 0, [(0, 0)]⟩ ∧ byteAt d 64 = 0 ∧ s.liveSlot (dKeyHandle d) ≠ none ∧
      (s.slot (hSlot (dKeyHandle d))).leaf = none) ∧
    (∀ d s, d = desc opDerive 0xD01 1 4 0x2000 4 0x3000 32 h5 0x4000 [0, 0, 1] 0 ++ ([3, 1] ++ zeros 10 ++ natLE 4 32) →
      s = workOf d .keep (live 0xD01 3 (zeros 32)) → ∀ x, x = JobIn.mk (zeros 4) 0 [(0x3000, 32)] →
      s.worksWith 0 opDerive (job d .keep 0xC0 .running) x ∧ bit (leAt d 64 2) 1 = false ∧
      s.liveSlot (dKeyHandle d) = some (live 0xD01 3 (zeros 32)) ∧ dAuxHandle d = none32 ∧
      ∃ e, destEntries (byteAt d 66) (d.drop 128) = [e] ∧ e.dtype = 3 ∧ (job d .keep 0xC0 .running).targets = [] ∧
        ∀ al ro sp k1 k2 p, s.outputFits (job d .keep 0xC0 .running) x 0x3000 (kdf al ro sp k1 k2 p e.len)) ∧
    (∀ s, s = workOf dWrap .keep (live 0xB03 2 (zeros 32)) → s.worksWith 0 opWrap (job dWrap .keep 0xC0 .running) (noData 40) ∧
      wFormat dWrap = 1 ∧ s.liveSlot (dAuxHandle dWrap) = some (live 0xB03 2 (zeros 32)) ∧ s.liveSlot (dKeyHandle dWrap) = some (live 0xB03 2 (zeros 32)) ∧
      ∀ m, s.outputFits (job dWrap .keep 0xC0 .running) (noData 40) 0x3000 (fit ((32 + 7) / 8 * 8 + 8) m)) ∧
    (∀ d s, d = desc opUnwrap 0xB03 1 40 0x2000 40 0 0 h5 0 ([1] ++ zeros 13 ++ natLE 2 0xB01) 0 →
      s = workOf d .keep (live 0xB03 2 (zeros 32)) →
      s.worksWith 0 opUnwrap (job d .keep 0xC0 .running) ⟨zeros 40, 0, [(0, 0)]⟩ ∧ wFormat d = 1 ∧
      s.liveSlot (dKeyHandle d) = some (live 0xB03 2 (zeros 32)) ∧ unwrappedOk (leAt d 78 2) (zeros 32).length = true) ∧
    (∀ d s, d = desc opAttest 0 1 0 0 0 0x3000 4096 none32 0 [2] 0 → s = workOf d .keep (live 0 0 []) →
      s.worksWith 0 opAttest (job d .keep 0xC0 .running) (noData 4096) ∧ s.rngState = rngRunning ∧ byteAt d 64 = 2 ∧
      s.outputFits (job d .keep 0xC0 .running) (noData 4096) 0x3000 s.attestKey.1) := by
  refine ⟨?_, ?_, ?_, ?_, ?_, ?_⟩
  · rintro _ _ rfl rfl
    exact ⟨works_of (by decide +kernel), by decide +kernel⟩
  · rintro _ _ rfl rfl
    exact ⟨works_of (by decide +kernel), by decide +kernel⟩
  · rintro _ _ rfl rfl x rfl
    refine ⟨works_of (by decide +kernel), by decide +kernel, by decide +kernel, by decide +kernel, _, rfl, by decide +kernel,
      by decide +kernel, fun al ro sp k1 k2 p => fits_of (n := 32) (by decide +kernel) ?_⟩
    simp only [kdf, fit_length]
    decide +kernel
  · rintro _ rfl
    exact ⟨works_of (by decide +kernel), by decide +kernel, by decide +kernel, by decide +kernel,
      fun m => fits_of (n := 40) (by decide +kernel) (by simp only [fit_length]; decide)⟩
  · rintro _ _ rfl rfl
    exact ⟨works_of (by decide +kernel), by decide +kernel⟩
  · rintro _ _ rfl rfl
    refine ⟨works_of (by decide +kernel), by decide +kernel, by decide +kernel, fits_of (n := 4096) (by decide +kernel) ?_⟩
    have h : isComp 0x812 = true := by decide +kernel
    simp only [State.attestKey, keyPair, h, if_true, simpleKey, List.length_append, fit_length]
    decide +kernel

/-- A CTX_INSTALL of a SESSION context, a CTX_UPDATE of byte 32, a CTX_RETIRE and a CTX_SNAPSHOT of context 8. -/
theorem witness_KeepAndContextJobs_contexts :
    (∀ s y, y = live 0xB01 0 (zeros 32) →
      s = (arbOf dInst y 8 (zeros 512)).dmaStore 0 0x2000 (image 6 0 1) →
      s.worksWith 0 opCtxInstall (arbJob dInst) ⟨image 6 0 1, 0, [(0, 0)]⟩ ∧ (arbJob dInst).q < 4096 ∧ s.ctsOpen = true ∧ dCtxId dInst = 8 ∧
      inPred dInst = none32 ∧ inFlags dInst = 0 ∧ byteAt dInst 73 = 0 ∧ dAuxHandle dInst = none32 ∧ s.liveSlot (dKeyHandle dInst) = some y ∧
      (image 6 0 1).length = 512 ∧ s.installCheck (arbJob dInst) (image 6 0 1) [] = none ∧ s.installable (arbJob dInst) 8 = true ∧
      s.ctxMoved (arbJob dInst) 8 = false ∧ s.pinBad dInst (image 6 0 1) [] = false ∧ s.poisoned (ctxAddr 8 / 64) = false) ∧
    (∀ s m, m = zeros 4 ++ [1] ++ zeros 59 → s = (arbOf dUpd (live 0 0 []) 8 (alone (image 6 3 1))).dmaStore 0 0x4000 m →
      s.worksWith 0 opCtxUpdate (arbJob dUpd) ⟨zeros 512, 0, [(0, 0)]⟩ ∧ s.ctxReach 8 = true ∧ dAuxHandle dUpd = none32 ∧ dAuxAddr dUpd ≠ 0 ∧
      s.dmaRead 0 (dAuxAddr dUpd) 64 = some m ∧ byteAt dUpd 72 = 0 ∧ s.ctxMoved (arbJob dUpd) 8 = false ∧ s.rollBusy 8 = false ∧
      s.maskBad 8 m (zeros 512) (s.ctx 8) = false ∧ masked m 17 = false ∧ masked m 18 = false ∧
      rolledBack (s.ctx 8) (merged m (zeros 512) (s.ctx 8)) = false ∧ bodyBad 8 (merged m (zeros 512) (s.ctx 8)) = false ∧
      allZero (slice (merged m (zeros 512) (s.ctx 8)) 48 16) = true) ∧
    (∀ op ∈ [opCtxRetire, opCtxSnapshot], ∀ s, s = arbOf (dCtx op) (live 0 0 []) 8 (alone (image 6 3 1)) → s.worksWith 0 op (arbJob (dCtx op)) (noData 512) ∧ dCtxId (dCtx op) ≠ none32 ∧
      s.ctxReach 8 = true ∧ s.ctxMoved (arbJob (dCtx op)) 8 = false ∧ s.rollBusy 8 = false ∧ (s.releaseFlows 8 (s.ctx 8)).isSome = true ∧
      s.waitingPair 8 = none ∧ s.outputFits (arbJob (dCtx op)) (noData 512) 0x3000 (snapshotOf (s.ctx 8))) := by
  refine ⟨?_, ?_, ?_⟩
  · rintro _ _ rfl rfl
    exact ⟨works_of (by decide +kernel), by decide +kernel⟩
  · rintro _ _ rfl rfl
    exact ⟨works_of (by decide +kernel), by decide +kernel⟩
  · rintro op hop _ rfl
    simp only [List.mem_cons, List.not_mem_nil, or_false] at hop
    obtain rfl | rfl := hop <;>
    exact ⟨works_of (by decide +kernel), by decide +kernel, by decide +kernel, by decide +kernel, by decide +kernel,
      by decide +kernel, by decide +kernel, fits_of (n := 512) (by decide +kernel) (by decide +kernel)⟩

/-- A stateful key in slot 5 with cell 63. -/
def leaf5 : LeafState := ⟨9, 4, 4, 32, 2, 0, .normal, 1, [], 16, 16, true, false⟩

def keyed (k : JrKind) : State :=
  { up with keep := { up.keep with
      slots := [(5, { live 0x401 4 (zeros 64) with leaf := some leaf5, cell := some 63 })]
      cells := [(63, (9, 0xFFFFFFFF))]
      jr := some ⟨k, 5, 63, 9, 32⟩ } }

theorem witness_WaitsAndLeafJournal :
    (∀ w ∈ [JobWait.rng, .leaf], (oneJob { job dHash .lt 0x1F .running with wait := w }).jqm.idsOk ∧
      (oneJob { job dHash .lt 0x1F .running with wait := w }).job? 0 = some { job dHash .lt 0x1F .running with wait := w }) ∧
    (∀ s, s = oneJob { job dHash .lt 0x1F .running with wait := .rng } → s.scatterSmall 0 dHash = false ∧
      (stage78 s 0 dHash (s.moreBufs 0 dHash)).toOption = some ⟨zeros 4, 0, [(0x3000, 64)]⟩) ∧
    (∀ j s, j = { job [] .lt 0x1F .running with kind := .treeBuild 5 } → s = { keyed (.erase 0) with jqm := (oneJob j).jqm } →
      s.jqm.idsOk ∧ s.job? 0 = some j ∧ j.phase = .running ∧ (s.slot 5).leaf = some leaf5) ∧
    (∀ k ∈ [JrKind.reserve 8, .seek none], (keyed k).grants .cupola R.KEEP_JR_CMD true = true ∧ (keyed k).reqUp .cupola = true ∧
      (keyed k).keep.jr = some ⟨k, 5, 63, 9, 32⟩ ∧ (keyed k).keep.jrQueue = [] ∧ ((keyed k).slot 5).leaf = some leaf5 ∧ leaf5.uid = 9 ∧
      (keyed k).cell 63 = (9, 0xFFFFFFFF) ∧ (keyed k).leafWaiters 5 = []) ∧
    (∀ s, s = ((keyed (.seek none)).wr (R.KEEP_JR_REC 1) 0xFFFFFFFF).wr (R.KEEP_JR_REC 6) 1 → leAt s.jrWindow 4 4 = 0xFFFFFFFF ∧
      leAt s.jrWindow 16 8 < leAt s.jrWindow 24 8) := by
  refine ⟨by decide +kernel, ?_, ?_, by decide +kernel, ?_⟩
  · rintro _ rfl
    decide +kernel
  · rintro _ _ rfl rfl
    decide +kernel
  · rintro _ rfl
    decide +kernel

/-! ### Ports, frames and the context store -/

/-- A port that is up. -/
def portOn (s : State) (p : Nat) : State := (((s.put (F.LIF_PMODE_RATE p) 1).set (F.LIF_PCTL_EN p)).set (F.LIF_PSTAT_LINK_UP p))

theorem witness_LineState : ∀ s, s = portOn { up with power := { up.power with svcUp := false } } 15 →
    s.portActive (15 : Fin 16) = true ∧ s.on (F.LIF_PCTL_EN (15 : Fin 16)) = true ∧ s.svcActs = false ∧ s.milestone ≠ 7 ∧
    s.portUp (15 : Fin 16) = true ∧ (s.set (F.LIF_PCFG_PREEMPT_EN 15)).on (F.LIF_PCFG_PREEMPT_EN (15 : Fin 16)) = true ∧
    s.mayWrite .cupola (R.LIF_PCTL (15 : Fin 16)) ∧ s.ipp.aui.contains (15 : Fin 16).val = false := by
  rintro _ rfl
  dsimp only [State.mayWrite]
  decide +kernel

/-- A frame of `n` bytes with an EtherType. -/
def frameOf (n ty : Nat) : List Byte := zeros 12 ++ natBE 2 ty ++ zeros (n - 14)

/-- IPP forwarding, with two ports up and CTS open. -/
def ippOn : State := (portOn (portOn (ctsUp up) 0) 15).set F.IPP_CTL_EN

theorem witness_FrameReception : ippOn.portUp (0 : Fin 16) = true ∧ ippOn.on (F.LIF_PCTL_LOOPBACK (0 : Fin 16)) = false ∧
    (ippOn.power.ippUp && ippOn.on F.IPP_CTL_EN && !ippOn.on F.FLT_STAT_QUIESCED) = true ∧
    ((ippOn.set F.FLT_STAT_QUIESCED).power.ippUp && (ippOn.set F.FLT_STAT_QUIESCED).on F.IPP_CTL_EN &&
      !(ippOn.set F.FLT_STAT_QUIESCED).on F.FLT_STAT_QUIESCED) = false ∧
    (frameOf 59 0x8100).length + 4 < 64 ∧ 64 ≤ (frameOf 60 0x8808).length + 4 ∧
    (frameOf 60 0x8808).length + 4 ≤ ippOn.get (F.LIF_MAXFRM_BYTES (0 : Fin 16)) ∧
    beAt (frameOf 60 0x8808) 12 2 = 0x8808 ∧ beAt (frameOf 60 0x88E5) 12 2 ≠ 0x8808 ∧
    parseFrame (frameOf 60 0x0800) = none ∧
    (∃ x, parseFrame (frameOf 60 0x1234) = some x ∧ x.etype = 0x1234 ∧ ptpType x (frameOf 60 0x1234) = none ∧
      firstMatch ippOn.findPin (flowKeys x (0 : Fin 16) (frameOf 60 0x1234)) = none ∧
      firstMatch ippOn.findTab (flowKeys x (0 : Fin 16) (frameOf 60 0x1234)) = none) ∧
    ippOn.on F.PWR_STAT_VIGIL = false ∧ ippOn.ctsOpen = true ∧ ippOn.get (F.LIF_PCFG_DEFAULT_ACTION (0 : Fin 16)) ≠ 1 ∧
    (ippOn.put (F.LIF_PCFG_DEFAULT_ACTION 0) 1).get (F.LIF_PCFG_DEFAULT_ACTION (0 : Fin 16)) = 1 ∧
    ippOn.frame? ippOn.ipp.nextId = none := by
  refine ⟨by decide +kernel, by decide +kernel, by decide +kernel, by decide +kernel, by decide +kernel, by decide +kernel,
    by decide +kernel, by decide +kernel, by decide +kernel, by decide +kernel, ?_, by decide +kernel⟩
  generalize hp : parseFrame (frameOf 60 0x1234) = q
  have h : (parseFrame (frameOf 60 0x1234)).all (fun x => x.etype == 0x1234 && (ptpType x (frameOf 60 0x1234)).isNone &&
      (firstMatch ippOn.findPin (flowKeys x (0 : Fin 16) (frameOf 60 0x1234))).isNone &&
      (firstMatch ippOn.findTab (flowKeys x (0 : Fin 16) (frameOf 60 0x1234))).isNone) = true ∧
      (parseFrame (frameOf 60 0x1234)).isSome = true := by decide +kernel
  rw [hp] at h
  cases q with
  | none => exact absurd h.2 (by decide)
  | some x =>
    simp only [Option.all_some, Bool.and_eq_true, beq_iff_eq, Option.isNone_iff_eq_none] at h
    exact ⟨x, rfl, h.1.1.1.1, h.1.1.1.2, h.1.1.2, h.1.2⟩

/-- A frame of port 0 for port 15. -/
def frm (action cls ctx : Nat) (ph : FramePhase) : FrameSt :=
  ⟨0, 0, frameOf 60 0x1234, 64, 0, 0, cls, none, action, false, ctx, 15, 0, none, none, false, false, ph⟩

def withFrame (f : FrameSt) : State := { ippOn with ipp := { ippOn.ipp with frames := [f], nextId := 1 } }

theorem witness_FrameTransmission_plain :
    (∀ s, s = withFrame (frm 3 2 none32 .commit) → s.nextCommit = some (frm 3 2 none32 .commit) ∧
      s.frame? 0 = some (frm 3 2 none32 .commit) ∧ s.egressTakes 15 2 60 ∧ (frameOf 60 0x1234).length = 60 ∧
      (s.put (F.LIF_MAXFRM_BYTES 15) 63).get (F.LIF_MAXFRM_BYTES 15) < 60 + 4 ∧
      (s.clr (F.LIF_PSTAT_LINK_UP 15)).portUp 15 = false ∧ 60 + 4 ≤ s.get (F.LIF_MAXFRM_BYTES 15)) ∧
    (∀ s, s = withFrame (frm 3 2 none32 .egress) → s.frame? 0 = some (frm 3 2 none32 .egress) ∧
      s.isFirst (frm 3 2 none32 .egress) = true ∧ s.portUp 15 = true ∧ s.on (F.LIF_PCTL_LOOPBACK 15) = false) ∧
    (∀ s, s = { withFrame (frm 1 2 0x100000 .held) with time := 50000000 } → s.frame? 0 = some (frm 1 2 0x100000 .held) ∧
      (frm 1 2 0x100000 .held).time + 50000000 ≤ s.time) ∧
    (∀ s, s = ippOn → s.svcRuns = true ∧ s.frame? s.ipp.nextId = none ∧ s.egressTakes (15 : Fin 16) 2 60) := by
  dsimp only [State.egressTakes]
  refine ⟨?_, ?_, ?_, ?_⟩ <;> rintro _ rfl <;> decide +kernel

/-- A MACsec context at packet number 7, class 0. -/
def tx1 : List Byte := patch (image 1 3 1) 144 (natLE 8 7)

theorem witness_FrameTransmission_macsec : ∀ s : State, s = { withFrame (frm 1 0 4 .commit) with cts := { ippOn.cts with ctxs := [(4, tx1)] } } →
    s.nextCommit = some (frm 1 0 4 .commit) ∧ s.frame? 0 = some (frm 1 0 4 .commit) ∧ s.ctx 4 = tx1 ∧ tx1.length = 512 ∧
    cCtr tx1 = 7 ∧ (parseFrame (frm 1 0 4 .commit).bytes).isSome = true ∧ cType tx1 = ctMacsecTx ∧ cState tx1 = csActive ∧
    s.ctxReach 4 = true ∧ (4 : Nat) ≠ none32 ∧ 7 + 1 < s.ctrWarn tx1 ∧ 7 + 1 < ctrLast tx1 ∧
    s.egressTakes 15 0 (macsecProtect tx1 7 (frm 1 0 4 .commit).bytes).length := by
  rintro _ rfl
  have hc : cConf tx1 = false ∧ bit (cFlags tx1) 1 = false := by decide +kernel
  have hl : (macsecProtect tx1 7 (frm 1 0 4 .commit).bytes).length ≤ 1000 := by
    simp only [macsecProtect, hc.1, hc.2, Bool.false_eq_true, if_false, streamCrypt, xorBytes, aeadTag, List.length_append,
      List.length_zipWith, List.length_take, List.length_drop, fit_length]
    have h : (frm 1 0 4 .commit).bytes.length = 60 ∧ ∀ n v, (natBE n v).length = n := by
      refine ⟨by decide +kernel, fun n v => ?_⟩
      have g : ∀ n v, (natLE n v).length = n := by
        intro n
        induction n with
        | zero => intro v; rfl
        | succ n ih => intro v; simp [natLE, ih]
      simp [natBE, g]
    simp only [h.1, h.2, List.length_nil]
    omega
  refine ⟨by decide +kernel, by decide +kernel, by decide +kernel, by decide +kernel, by decide +kernel, by decide +kernel,
    by decide +kernel, by decide +kernel, by decide +kernel, by decide +kernel, by decide +kernel, by decide +kernel,
    le_trans (Nat.add_le_add_right hl 4) (by decide +kernel), by decide +kernel, Or.inl rfl⟩

/-- A GOOSE frame that waits for time on a GROUP context whose key does not expire. -/
theorem witness_FrameTransmission_held : ∀ x f (s : State), x = patch (patch (image 5 3 0) 136 [1]) 152 (natLE 8 (2 ^ 60)) →
    f = { frm 1 2 0x100000 .held with bytes := frameOf 80 0x88B8 } →
    s = { (withFrame f).set F.IPP_STAT_PTP_LOCKED with cts := { ippOn.cts with ctxs := [(0x100000, x)] } } →
    s.timeAvail = true ∧ s.ipp.frames.filter (fun f => f.phase == .held) = [f] ∧ f.port < 8 ∧ s.ctxReach f.ctx = true ∧
    cType (s.ctx f.ctx) = ctGroup ∧ txOpen (s.ctx f.ctx) = true ∧ keyExpired (leAt (s.ctx f.ctx) 152 8) f.ptp = false ∧
    (match parseFrame f.bytes with
      | some p => suitsTx (s.ctx f.ctx) p f.bytes
      | none => false) = true := by
  rintro x f s hx rfl rfl
  generalize hy : patch (patch (image 5 3 0) 136 [1]) 152 (natLE 8 (2 ^ 60)) = y at hx
  have : x = y := hx
  subst this
  rw [← hy]
  decide +kernel

/-! ### Flow entries, time, the context store and the noise sources -/

/-- A register cell that the Context Arbiter and Cupola may reach, with time on the clock. -/
def at9 (s : State) : State := { s with time := 9000000000 }

/-- A flow entry with IDLE = 1 ms for context 8. -/
def flow1 : List Byte := patch (patch (zeros 64) 40 (natLE 4 8)) 48 (natLE 4 1)

theorem witness_FlowAgingAndRecords :
    (∀ s, s = { at9 (ctsUp up) with cts := { up.cts with flows := [(3, flow1)] } } → s.flowAt 3 = flow1 ∧ flow1 ≠ [] ∧ feIdle flow1 ≠ 0 ∧
      feIdle flow1 < (s.time / 1000000 + 2 ^ 32 - feLast flow1) % 2 ^ 32 ∧ s.ctsOpen = true ∧ s.ipp.saevt.length < 1024 ∧ (2 : Nat) ≠ 3) ∧
    (∀ s, s = { at9 up with ipp := { up.ipp with records := [(7, [(5, 0)])] } } → (s.recordsOf (7 : Fin 8))[0]? = some (5, 0) ∧
      0 + s.forgetNs (7 : Fin 8) ≤ s.time ∧ s.mayWrite .cupola (R.IPP_RG (7 : Fin 8)) ∧ s.mayRead .cupola R.IPP_SAEVT ∧
      s.ipp.saevt = [] ∧ s.get (F.IPP_RG_MEMBERS (7 : Fin 8)) = 0) ∧
    { up with ipp := { up.ipp with saevt := [5, 6] } }.mayRead .pf R.IPP_SAEVT := by
  dsimp only [State.mayWrite, State.mayRead]
  refine ⟨?_, ?_, by decide +kernel⟩ <;> rintro _ rfl <;> decide +kernel

theorem witness_TimeBase :
    (up.mayWrite .cupola R.IPP_PTP_CTL ∧ (0 : Word).getLsbD 2 = up.on F.IPP_PTP_CTL_LOCK_SET ∧ (0 : Word).getLsbD 1 = false ∧
      (0 : Word).getLsbD 0 = false ∧ up.on F.IPP_PTP_CTL_LOCK_SET = !true) ∧
    (up.mayWrite .pf R.IPP_PTP_CTL ∧ (up.set F.IPP_PTP_CTL_LOCK_SET).on F.IPP_PTP_CTL_LOCK_SET = !false) ∧
    (∀ s, s = { (at9 up).set F.IPP_STAT_PTP_HOLDOVER with time := 10 ^ 15, ipp := { up.ipp with lockLost := some 5 } } → s.ipp.lockLost = some 5 ∧
      s.on F.IPP_STAT_PTP_HOLDOVER = true ∧ 5 + s.get F.IPP_FRESH_HOLDOVER_S * 1000000000 ≤ s.time) := by
  dsimp only [State.mayWrite]
  refine ⟨by decide +kernel, by decide +kernel, ?_⟩
  rintro _ rfl
  decide +kernel

theorem witness_MemoryKeyRotation :
    (up.mayWrite .cupola R.CTS_CTL ∧ (2 : Word).getLsbD 2 = false ∧ (2 : Word).getLsbD 8 = false) ∧
    (∀ s, s = { up with mpe := { up.mpe with key := some [], fillDone := false } } → s.mpe.key.isSome = true ∧ s.mpe.fillDone = false) ∧
    (∀ s, s = (ctsUp up).set F.CTS_CTL_SCRUB_EN → s.on F.CTS_CTL_SCRUB_EN = true ∧ s.ctsOpen = true) ∧ up.power.coreUp = true := by
  dsimp only [State.mayWrite]
  refine ⟨by decide +kernel, ?_, ?_, by decide +kernel⟩ <;> rintro _ rfl <;> decide +kernel

/-- An ACTIVE context with a STANDBY successor, 8 before 9. -/
def pair8 : List Byte := patch (patch (image 1 3 1) 24 (natLE 4 9)) 28 (natLE 4 none32)
def pair9 : List Byte := patch (patch (image 1 2 1) 24 (natLE 4 none32)) 28 (natLE 4 8)

/-- A GROUP context whose next key is valid from second 1. -/
def grp1 : List Byte := patch (image 5 3 0) 160 (natLE 8 1)

theorem witness_RolloverSteps :
    (∀ s, s = { at9 up with ipp := { up.ipp with ptpNs := 1000000000 }, cts := { up.cts with ctxs := [(8, grp1)] } } →
      s.ctx (8 : Fin 0x110000) = grp1 ∧ grp1.length = 512 ∧ s.promotionDue grp1 = true) ∧
    (∀ s, s = { at9 up with cts := { up.cts with ctxs := [(8, pair8), (9, pair9)], switch := [(9, 1)] } } →
      s.ctx (9 : Fin 0x110000) = pair9 ∧ pair9.length = 512 ∧ s.waitingPair (9 : Fin 0x110000) = some 8 ∧
      s.switchOf (9 : Fin 0x110000) = 1 ∧ cSwitchAt pair9 ≤ s.time ∧ (s.ctx 8).length = 512 ∧ 8 ≠ (9 : Fin 0x110000).val) ∧
    (∀ s, s = { at9 up with cts := { up.cts with ctxs := [(0x10FFFF, image 1 4 1)], drainEnd := [(0x10FFFF, 9000000000)] } } →
      s.ctx (0x10FFFF : Fin 0x110000) = image 1 4 1 ∧ (image 1 4 1).length = 512 ∧ cState (image 1 4 1) = csDraining ∧
      s.drainEndOf (0x10FFFF : Fin 0x110000) ≤ s.time) ∧
    (up.mayWrite .cupola R.CTS_CTL ∧ up.cts.scan = none ∧ (2 : Word).getLsbD 0 = false ∧ (2 : Word).getLsbD 8 = false) ∧
    (∀ s, s = { up with cts := { up.cts with ctxs := [(8, image 1 5 1)], scan := some [8] } } → s.cts.scan = some [8] ∧
      s.cts.scan ≠ none ∧ s.cts.scanAgain = false ∧ cState (s.ctx 8) = csForward) := by
  dsimp only [State.mayWrite]
  refine ⟨?_, ?_, ?_, by decide +kernel, ?_⟩ <;> rintro _ rfl <;> decide +kernel

/-- RNG at a state, with eight live sources. -/
def rngAt (s : State) (n : Nat) : State := (s.put F.RNG_STAT_STATE n).put F.RNG_SRC_STAT_LIVE 0xFF

theorem witness_NoiseSources :
    (∀ s, s = rngAt up rngStartup → s.rngState = rngStartup ∧ s.get F.RNG_SRC_STAT_PERMANENT = 0 ∧ s.get F.RNG_MIN_SRC_MIN ≤ 8 ∧
      s.jobIds (fun j => j.wait == .rng && j.phase != .done) = []) ∧
    (∀ s, s = { (rngAt up rngSeeding).put F.CUP_BOOT_STAT_MILESTONE 7 with mpe := { up.mpe with key := some [] } } →
      s.alive = true ∧ s.rngState = rngSeeding ∧ s.mpe.key.isSome = true ∧ s.on F.KEEP_BBK_CTL_GEN = false ∧ 7 ≤ s.milestone) ∧
    (∀ s l, s = rngAt up rngRunning → l = maskSet (s.get F.RNG_SRC_STAT_LIVE) (7 : Fin 8) false → s.rngState = rngRunning ∧
      bit (s.get F.RNG_SRC_STAT_LIVE) (7 : Fin 8) = true ∧ s.get F.RNG_MIN_SRC_MIN ≤ popCount8 l) ∧
    (∀ s l, s = (rngAt up rngRunning).put F.RNG_MIN_SRC_MIN 8 → l = maskSet (s.get F.RNG_SRC_STAT_LIVE) (0 : Fin 8) false →
      bit (s.get F.RNG_SRC_STAT_LIVE) (0 : Fin 8) = true ∧ popCount8 l < s.get F.RNG_MIN_SRC_MIN) ∧
    (∀ s, s = (rngAt up rngRunning).put F.RNG_SRC_STAT_ISOLATED 0x80 → s.rngState = rngRunning ∧
      bit (s.get F.RNG_SRC_STAT_ISOLATED) (7 : Fin 8) = true ∧ bit (s.get F.RNG_SRC_STAT_PERMANENT) (7 : Fin 8) = false ∧
      s.on F.RNG_RAWSEL_EN = false ∧ sget (fun _ => []) s.rng.isoTimes (7 : Fin 8) = []) ∧
    (∀ s, s = rngAt up rngFailed → s.mayWrite .pf R.RNG_CTL ∧ s.rngState = rngFailed ∧ s.get F.RNG_STAT_RESTARTS < 3) ∧
    (rngAt up rngRunning).mayWrite .cupola R.RNG_CTL ∧ (rngAt up rngRunning).rngState ≠ rngFailed := by
  dsimp only [State.mayWrite]
  refine ⟨?_, ?_, ?_, ?_, ?_, ?_, by decide +kernel⟩
  · rintro _ rfl; decide +kernel
  · rintro _ rfl; decide +kernel
  · rintro _ _ rfl rfl; decide +kernel
  · rintro _ _ rfl rfl; decide +kernel
  · rintro _ rfl; decide +kernel
  · rintro _ rfl; decide +kernel

theorem witness_SeedsAndRandomBytes :
    (∀ s, s = rngAt up rngRunning → s.rngState = rngRunning ∧ s.rng.reservoir.length < 16) ∧
    (∀ s, s = { rngAt up rngRunning with rng := { up.rng with reservoir := [zeros 48], drbgs := [(3, ⟨true, 5, 0, true⟩)] } } →
      s.rngState = rngRunning ∧ (s.drbg (3 : Fin 16)).inst = true ∧ s.reseedDue (3 : Fin 16) = true ∧
      s.rng.reservoir = zeros 48 :: []) ∧
    (∀ s, s = { rngAt up rngRunning with rng := { up.rng with bufs := [(0, zeros 16), (2, zeros 16)] } } →
      s.mayRead .pf R.RNG_DATA ∧ rngReader .pf = some 0 ∧ s.rngValid .pf = true ∧ 8 + 8 ≤ (s.rngBuf 0).length ∧
      s.mayRead .cupola R.RNG_DATA ∧ rngReader .cupola = some 2 ∧ s.rngValid .cupola = true ∧ 4 + 8 ≤ (s.rngBuf 2).length) ∧
    (up.mayRead .svc R.RNG_DATA ∧ rngReader .svc = some 1 ∧ up.rngValid .svc = false) ∧
    (up.mayRead .cupola R.RNG_RAW ∧ up.on F.RNG_RAWSEL_EN = false) ∧
    (up.mayWrite .cupola R.RNG_RAWSEL ∧ up.locked R.RNG_RAWSEL = false ∧ (5 : Word).getLsbD 31 = false ∧
      (0x80000005 : Word).getLsbD 31 = true ∧ up.get F.LCS_STATE_STATE ≠ 1 ∧ up.get F.LCS_STATE_STATE ≠ 4) ∧
    (∀ s, s = (rngAt up rngRunning).put F.LCS_STATE_STATE 1 → s.mayWrite .cupola R.RNG_RAWSEL ∧ s.locked R.RNG_RAWSEL = false ∧
      (s.get F.LCS_STATE_STATE = 1 ∨ s.get F.LCS_STATE_STATE = 4) ∧ s.on F.RNG_RAWSEL_EN = false ∧
      s.get F.RNG_MIN_SRC_MIN ≤ popCount8 (maskSet (s.get F.RNG_SRC_STAT_LIVE) 5 false)) ∧
    (∀ s, s = rngAt up rngRunning → s.mayWrite .cupola R.RNG_MIN_SRC ∧ s.locked R.RNG_MIN_SRC = false ∧ 8 ≤ s.rngLive ∧
      (s.set F.RNG_CTL_LOCK).locked R.RNG_MIN_SRC = true) ∧
    (up.mayWrite .cupola R.RNG_MIN_SRC ∧ up.locked R.RNG_MIN_SRC = false ∧ up.rngLive < 4) := by
  dsimp only [State.mayWrite, State.mayRead]
  refine ⟨?_, ?_, ?_, by decide +kernel, by decide +kernel, by decide +kernel, ?_, ?_, by decide +kernel⟩ <;> rintro _ rfl <;>
    decide +kernel

/-! ### SVC -/

/-- A configuration image of records. -/
def cfgOf (rs : List (Nat × List Byte)) : List Byte :=
  let b := rs.flatMap (fun r => natLE 2 r.1 ++ zeros 2 ++ natLE 4 r.2.length ++ fit ((r.2.length + 7) / 8 * 8) r.2)
  zeros 16 ++ natLE 4 (96 + b.length) ++ natLE 4 rs.length ++ zeros 72 ++ b

/-- Peer 3 of policy 1 with one MACsec CHILD record, SA contexts 16 to 31, and the groups 7, of which SVC is KDC, and 9, of
which it is a member. -/
def svcCfg : List Byte := cfgOf [
  (0x11, natLE 4 16 ++ natLE 4 16 ++ natLE 4 0x100000 ++ natLE 4 16 ++ natLE 2 4),
  (0x20, natLE 2 1 ++ zeros 6 ++ natLE 4 1 ++ natLE 4 1 ++ [50, 0] ++ natLE 2 5 ++ zeros 12),
  (0x21, natLE 2 3 ++ natLE 2 1 ++ zeros 20),
  (0x22, natLE 2 3 ++ [2] ++ zeros 45),
  (0x30, natLE 4 7 ++ [1, 1, 2, 0] ++ natLE 4 0x100000 ++ natLE 4 60 ++ natLE 4 10 ++ zeros 12),
  (0x30, natLE 4 9 ++ [2, 1, 2, 0] ++ natLE 4 0x100001 ++ natLE 4 60 ++ natLE 4 10 ++ zeros 12),
  (0x31, natLE 4 7 ++ natLE 4 1 ++ zeros 32)]

/-- The device with that configuration, CTS open, RNG RUNNING and Cupola firmware up. -/
def svcUp : State :=
  { ((at9 (ctsUp up)).put F.RNG_STAT_STATE rngRunning).put F.CUP_BOOT_STAT_MILESTONE 7 with cup := { up.cup with cfg := svcCfg } }

/-- A command that waits in the SMBus window, all of them allowed there. -/
def smbCmd (s : State) (svc cmd : Nat) (p : List Byte) : State :=
  let t := (s.set F.CUP_CFG_SMB_SVC_EN).set F.CUP_CFG_SMB_UPDATE_EN
  { t with cup := { t.cup with smb := { t.cup.smb with
      req := [BitVec.ofNat 8 svc, BitVec.ofNat 8 cmd] ++ zeros 6 ++ natLE 4 p.length ++ zeros 4 ++ p, busy := true } } }

def withSvc (s : State) (ikes : List IkeSa) (childs : List ChildSa) : State := { s with svc := { s.svc with ikes := ikes, childs := childs } }

/-- An IKE SA with peer 3, and a child SA of it. -/
def ike1 : IkeSa := ⟨1, 3, true, .up, [], 0⟩
def child2 : ChildSa := ⟨2, 1, 0, 16, 20, 0, 0, none, false, 0, false⟩

theorem witness_ServiceMailbox_serves :
    (∀ s, s = { smbCmd svcUp 1 1 [] with power := { up.power with svcUp := false } } → s.serves .smbus 1 1 [] ∧ s.svcActs = false) ∧
    (∀ s, s = { smbCmd svcUp 1 5 (natLE 4 7) with power := { up.power with svcUp := false } } → s.serves .smbus 1 5 (natLE 4 7) ∧ s.svcActs = false) ∧
    (∀ s, s = smbCmd svcUp 1 1 [] → s.svcActs = true ∧ s.serves .smbus 1 1 []) ∧
    (∀ s, s = smbCmd svcUp 1 6 (natLE 2 0) → s.serves .smbus 1 6 (natLE 2 0)) ∧
    (∀ c ∈ [2, 3, 4], ∀ s, s = smbCmd svcUp 1 c (natLE 2 65535) → s.serves .smbus 1 c (natLE 2 65535) ∧
      peerOf s.cfgRecs (leAt (natLE 2 65535) 0 2) = none) ∧
    (∀ s, s = smbCmd svcUp 1 5 (natLE 4 8) → s.serves .smbus 1 5 (natLE 4 8) ∧ s.groupOfId (leAt (natLE 4 8) 0 4) = none) := by
  dsimp only [State.serves]
  refine ⟨?_, ?_, ?_, ?_, ?_, ?_⟩
  · rintro _ rfl; decide +kernel
  · rintro _ rfl; decide +kernel
  · rintro _ rfl; decide +kernel
  · rintro _ rfl; decide +kernel
  · intro c hc s hs
    simp only [List.mem_cons, List.mem_nil_iff, or_false] at hc
    rcases hc with rfl | rfl | rfl <;> subst hs <;> decide +kernel
  · rintro _ rfl; decide +kernel

theorem witness_ServiceMailbox_peers :
    (∀ s, s = smbCmd svcUp 1 2 (natLE 2 3) → s.svcActs = true ∧ (peerOf s.cfgRecs 3).isSome = true ∧ leAt (natLE 2 3) 0 2 = 3 ∧
      s.serves .smbus 1 2 (natLE 2 3) ∧ s.hasIke 3 = false ∧ s.peerActive 3 = true ∧ s.svc.ikes.length < 65536) ∧
    (∀ s, s = withSvc (smbCmd svcUp 1 3 (natLE 2 3)) [ike1] [] → s.serves .smbus 1 3 (natLE 2 3) ∧
      s.svc.ikes.filter (fun k => k.peer == 3) = [ike1] ∧ s.childsOf ike1.id = [] ∧ ike1.ctxs = []) ∧
    (∀ s, s = withSvc (smbCmd svcUp 1 4 (natLE 2 3)) [ike1] [child2] → s.serves .smbus 1 4 (natLE 2 3) ∧
      s.svc.childs.filter (fun k => s.peerOfChild k == 3) = [child2] ∧ child2.succ = none ∧ child2.initiated = false ∧
      child2.deleting = false ∧ s.child? child2.id = some child2) := by
  dsimp only [State.serves]
  refine ⟨?_, ?_, ?_⟩ <;> rintro _ rfl <;> decide +kernel

theorem witness_ServiceMailbox_push : ∀ s, s = smbCmd svcUp 1 5 (natLE 4 7) →
    s.serves .smbus 1 5 (natLE 4 7) ∧ s.groupOfId (leAt (natLE 4 7) 0 4) = some 0 ∧ gKdc (s.groupRec 0) = true ∧
    bit (byteAt (s.groupRec 0) 6) 1 = true ∧ (s.updTouch .smbus).pushes 0 := by
  dsimp only [State.serves, State.pushes]
  rintro _ rfl
  refine ⟨by decide +kernel, by decide +kernel, by decide +kernel, by decide +kernel, by decide +kernel⟩

theorem witness_ServiceMailbox_heartbeat :
    up.mayWrite .svc R.CUP_SVC_HB ∧ (∀ s, s = at9 up → s.power.svcUp = true ∧ s.power.cupUp = true ∧ s.lcs.cupHalted = false ∧
      s.svc.hbAt + 1000000000 ≤ s.time ∧ s.inReset 12 = false) := by
  dsimp only [State.mayWrite]
  refine ⟨by decide +kernel, ?_⟩
  rintro _ rfl
  decide +kernel

theorem witness_KeyExchangeMessages_ike :
    (svcUp.svcActs = true ∧ (svcUp.peerPolicy 3).isEmpty = false ∧ svcUp.halfOpen < 4096 ∧ svcUp.handshakes < 2048 ∧
      svcUp.svc.ikes.length < 65536 ∧ svcUp.peerActive 3 = true ∧ pPqRequired (svcUp.peerPolicy 3) = false ∧
      (svcUp.svcTake.handshake (svcUp.peerPolicy 3)).2 = some [16, 17, 18]) ∧
    (∀ s, s = withSvc svcUp [ike1] [] → s.svcActs = true ∧ s.ike? 1 = some ike1 ∧ ike1.peer = 3 ∧ (s.peerPolicy 3).isEmpty = false ∧
      s.childsOf ike1.id = [] ∧ ike1.ctxs = [] ∧ ike1.st = .up ∧ leAt (s.peerPolicy ike1.peer) 18 2 ≠ 0 ∧
      softAt (s.peerPolicy ike1.peer) ike1.born (leAt (s.peerPolicy ike1.peer) 8 4) ≤ s.time) := by
  refine ⟨by decide +kernel, ?_⟩
  rintro _ rfl
  decide +kernel

/-- The child SA with a successor pair 24 (receive) and 28 (transmit). -/
def child3 : ChildSa := { child2 with succ := some (24, 28) }
def ctx20 : List Byte := patch (patch (image 1 3 1) 24 (natLE 4 28)) 28 (natLE 4 none32)
def ctx28 : List Byte := patch (patch (image 1 2 1) 24 (natLE 4 none32)) 28 (natLE 4 20)

theorem witness_KeyExchangeMessages_children :
    (∀ s, s = withSvc svcUp [ike1] [child2] → s.svcActs = true ∧ s.child? 2 = some child2 ∧
      child2.succ = none ∧ child2.initiated = false ∧ child2.deleting = false ∧ s.peerPolicy (s.peerOfChild child2) = s.peerPolicy 3 ∧
      softAt (s.peerPolicy 3) child2.born (leAt (s.peerPolicy 3) 12 4) ≤ s.time ∧
      child2.born + leAt (s.peerPolicy 3) 12 4 * 1000000000 ≤ s.time ∧ cState (s.ctx child2.rx) = csEmpty ∧ cState (s.ctx child2.tx) = csEmpty) ∧
    (∀ s, s = { withSvc svcUp [ike1] [child3] with cts := { svcUp.cts with ctxs := [(20, ctx20), (28, ctx28)], switch := [(28, 3)] } } →
      s.svcActs = true ∧ s.child? 2 = some child3 ∧ child3.succ = some (24, 28) ∧ s.switchDue child3 (24, 28) = true ∧
      s.waitingPair 28 = some child3.tx ∧ 28 ≠ child3.tx ∧ s.switchOf 28 = 3 ∧ ctx28 = s.ctx 28 ∧ ctx28.length = 512 ∧
      (s.ctx child3.tx).length = 512 ∧ cState ctx28 = csStandby ∧ cType ctx28 = ctMacsecTx ∧ bodyBad 28 ctx28 = false ∧
      allZero (slice ctx28 48 16) = true ∧ s.ctxReach 28 = true ∧ s.jobsOk) := by
  dsimp only [State.jobsOk]
  refine ⟨?_, ?_⟩
  · rintro _ rfl; decide +kernel
  · rintro _ rfl; decide +kernel

theorem witness_KeyExchangeMessages_groups :
    (svcUp.groupOfId (7 : Word).toNat = some 0 ∧ gKdc (svcUp.groupRec 0) = true ∧
      (svcUp.groupAcl (7 : Word).toNat).contains [1] = false ∧ (svcUp.groupAcl (7 : Word).toNat).contains (zeros 32) = true ∧
      (svcUp.groupSt 0).members.contains (zeros 32) = false ∧ svcUp.registrations < 65536) ∧
    (svcUp.groupActive (0 : BitVec 16).toNat = true ∧ bit (byteAt (svcUp.groupRec 0) 6) 1 = true ∧
      svcUp.pushDue (svcUp.groupRec 0) = true ∧ svcUp.pushes (0 : BitVec 16).toNat) ∧
    (svcUp.groupActive (1 : BitVec 16).toNat = true ∧ gMember (svcUp.groupRec (1 : BitVec 16).toNat) = true ∧
      svcUp.joinDue (svcUp.groupRec (1 : BitVec 16).toNat) = true) := by
  dsimp only [State.pushes]
  refine ⟨by decide +kernel, ⟨by decide +kernel, by decide +kernel, by decide +kernel, by decide +kernel⟩, by decide +kernel⟩

/-! ### KEEP and the Digest Key Engine -/

/-- Bytes as the cells of a memory from `a` on. -/
def cellsFrom (a : Nat) : List Byte → List Host.Cell
  | [] => []
  | b :: bs => (a, b) :: cellsFrom (a + 1) bs

theorem memRead_skip (k : Nat) (x : Byte) (m : List Host.Cell) : ∀ n a, k < a → memRead ((k, x) :: m) a n = memRead m a n
  | 0, _, _ => rfl
  | n + 1, a, h => by
    have h1 : memByte ((k, x) :: m) a = memByte m a := by
      have : ((k : Nat) == a) = false := by simp; omega
      simp [memByte, sget, List.find?, this]
    simp only [memRead, h1, memRead_skip k x m n (a + 1) (by omega)]

theorem memRead_cells : ∀ (b : List Byte) (a : Nat), memRead (cellsFrom a b) a b.length = b
  | [], _ => rfl
  | x :: b, a => by
    have h1 : memByte (cellsFrom a (x :: b)) a = x := by simp [cellsFrom, memByte, sget]
    simp only [List.length_cons, memRead, h1]
    exact congrArg _ ((memRead_skip a x _ b.length (a + 1) (by omega)).trans (memRead_cells b (a + 1)))

/-- The header of a blob of an AES-256 key of 32 bytes, and a blob with its tag. -/
def blobHdr : List Byte := [0x4B, 0x42, 0x4C, 0x42] ++ natLE 2 1 ++ natLE 2 64 ++ natLE 2 0xB01 ++ [0, 0] ++ zeros 8 ++ natLE 4 32 ++ zeros 40
def blobOf (t : List Byte) : List Byte := blobHdr ++ (zeros 32 ++ t)

theorem blobOf_parts (t : List Byte) (h : t.length = 16) : (blobOf t).length = 112 ∧ slice (blobOf t) 32 12 = zeros 12 ∧
    (blobOf t).take 64 = blobHdr ∧ slice (blobOf t) 64 32 = zeros 32 ∧ slice (blobOf t) 96 16 = t := by
  refine ⟨?_, rfl, rfl, rfl, ?_⟩
  · simp only [blobOf, List.length_append, h]
    decide
  · change t.take 16 = t
    exact List.take_of_length_le (by omega)

theorem blobOf_len (t : List Byte) : leAt (blobOf t) 20 4 = 32 :=
  Eq.trans (b := leNat [32, 0, 0, 0]) (congrArg leNat rfl) (by decide)

theorem blobOf_attr (t : List Byte) : bit (byteAt (blobOf t) 11) 3 = false :=
  Eq.trans (b := bit (BitVec.toNat (0 : Byte)) 3) (congrArg (fun b : Byte => bit b.toNat 3) rfl) (by decide)

/-- The device with a device secret, a battery-backed key, and a blob of 112 bytes in SRAM. -/
def keepUp : State :=
  { (up.wr R.KEEP_BL_LEN 112).put F.RNG_STAT_STATE rngRunning with
    otp := { up.otp with ds := some (zeros 32) }, keep := { up.keep with bbk := zeros 32, bbkValid := true } }

theorem witness_KeepCommands_blob : ∃ (s : State) (b : List Byte) (y : Slot), s.mayWrite .cupola R.KEEP_BL_CMD ∧ s.on ⟨R.KEEP_BL_CMD, 31, 1⟩ = false ∧ s.blobFits = true ∧
    b = memRead s.cupMem (s.rd R.KEEP_BL_ADDR).toNat (s.rd R.KEEP_BL_LEN).toNat ∧ s.keep.bbkValid = true ∧ s.blobErr b none = none ∧
    s.openBlob b = some y ∧ y.leaf = none ∧ (0x80000005 : Word).getLsbD 14 = false ∧
    s.findTarget (bits (0x80000005 : Word).toNat 0 14) y.keyLen false = some 5 := by
  obtain ⟨kb, hk⟩ : ∃ kb, keepUp.blobKey = some kb := ⟨_, rfl⟩
  have hl := fit_length 16 (Config.aeadTag 0xB01 kb (zeros 12) blobHdr (zeros 32))
  obtain ⟨h1, h2, h3, h4, h5⟩ := blobOf_parts _ hl
  generalize ht : fit 16 (Config.aeadTag 0xB01 kb (zeros 12) blobHdr (zeros 32)) = t at *
  have hn := blobOf_len t
  have ho : ∃ y, { keepUp with cupMem := cellsFrom 0 (blobOf t) }.openBlob (blobOf t) = some y ∧ y.leaf = none ∧ y.keyLen = 32 := by
    have hb : { keepUp with cupMem := cellsFrom 0 (blobOf t) }.blobKey = some kb := hk
    have hg : gcmOpen kb (zeros 12) blobHdr (zeros 32) t = some (streamCrypt 0xB01 kb (zeros 12) (zeros 32)) := by
      simp only [gcmOpen, aeadTag, ht, if_true]
    have hx := blobOf_attr t
    simp only [State.openBlob, hb, hn, h2, h3, h4, h5, hg, Option.map_some, hx, Bool.false_eq_true, if_false]
    refine ⟨_, rfl, rfl, ?_⟩
    simp only [newSlot, streamCrypt, xorBytes, List.length_zipWith, fit_length]
    decide
  obtain ⟨y, ho, hy, hlen⟩ := ho
  refine ⟨{ keepUp with cupMem := cellsFrom 0 (blobOf t) }, blobOf t, y, ?_, ?_, ?_, ?_, ?_, ?_, ho, hy, by decide, ?_⟩
  · dsimp only [State.mayWrite]
    constructor
    · exact (by decide +kernel : keepUp.reqUp .cupola = true)
    · exact (by decide +kernel : keepUp.grants .cupola R.KEEP_BL_CMD true = true)
  · exact (by decide +kernel : keepUp.on ⟨R.KEEP_BL_CMD, 31, 1⟩ = false)
  · exact (by decide +kernel : keepUp.blobFits = true)
  · have ha : ({ keepUp with cupMem := cellsFrom 0 (blobOf t) } : State).rd R.KEEP_BL_ADDR = 0 := (by decide +kernel : keepUp.rd R.KEEP_BL_ADDR = 0)
    have hb : ({ keepUp with cupMem := cellsFrom 0 (blobOf t) } : State).rd R.KEEP_BL_LEN = 112 := (by decide +kernel : keepUp.rd R.KEEP_BL_LEN = 112)
    rw [ha, hb]
    exact (h1 ▸ memRead_cells (blobOf t) 0).symm
  · rfl
  · have hf : blobForm (blobOf t) = true := by
      simp only [blobForm, hn, h1]
      rfl
    have hx := blobOf_attr t
    simp only [State.blobErr, hf, hx]
    rfl
  · rw [hlen]
    exact (by decide +kernel : keepUp.findTarget (bits (0x80000005 : Word).toNat 0 14) 32 false = some 5)

theorem witness_KeepCommands :
    (∀ s, s = keepUp.put F.LCS_STATE_STATE 1 → s.mayWrite .cupola R.KEEP_BBK_CTL ∧ s.rngState = rngRunning ∧ s.get F.LCS_STATE_STATE ≠ 0 ∧
      s.get F.LCS_STATE_STATE ≠ 5 ∧ s.get F.LCS_STATE_STATE ≠ 15) ∧
    up.mayWrite .cupola R.KEEP_CTL ∧ up.mayRead .cupola R.KEEP_SFEVT ∧ up.keep.sfevt = [] := by
  dsimp only [State.mayWrite, State.mayRead]
  refine ⟨?_, by decide +kernel⟩
  rintro _ rfl
  decide +kernel

/-- A DKE channel of Cupola firmware at a state. -/
def chan (st : DkeState) : DkeCh := { DkeCh.idle with holder := 3, st := st }

/-- The device with one DKE channel not FREE. -/
def withCh (c : Nat) (x : DkeCh) : State := { up with dke := [(c, x)] }

theorem witness_DigestChannelControl_locks :
    (up.mayWrite .pf (R.DKE_CH_LOCK (3 : Fin 4)) ∧ up.dkeCh (3 : Fin 4) = DkeCh.idle ∧ dkeHolder .pf ≠ 0 ∧ DkeCh.idle.holder = 0 ∧
      DkeCh.idle.takePend = 0 ∧ up.dkeHeld < up.get F.DKE_CFG_MAX_LOCKS ∧ (up.running (0x60 + (3 : Fin 4))).isSome = false) ∧
    (∀ s, s = oneJob (job dHash .dke 0x63 .running) → s.mayWrite .pf (R.DKE_CH_LOCK (3 : Fin 4)) ∧
      s.dkeHeld < s.get F.DKE_CFG_MAX_LOCKS ∧ (s.running (0x60 + (3 : Fin 4))).isSome = true) ∧
    (∀ s, s = withCh 3 (chan .owned) → s.mayWrite .cupola (R.DKE_CH_LOCK (3 : Fin 4)) ∧ s.dkeCh (3 : Fin 4) = chan .owned ∧
      (chan .owned).holder ≠ 0 ∧ (chan .owned).holder = dkeHolder .cupola) := by
  dsimp only [State.mayWrite]
  refine ⟨by decide +kernel, ?_, ?_⟩ <;> rintro _ rfl <;> decide +kernel

theorem witness_DigestChannelControl_messages :
    (∀ s, s = withCh 0 (chan .owned) → s.mayWrite .cupola (R.DKE_CTL (0 : Fin 4)) ∧ s.dkeStartOk (0 : Fin 4) = false) ∧
    (∀ s, s = ((withCh 3 (chan .owned)).put (F.DKE_MODE_FUNC 3) 2).wr (R.DKE_KEY 3) 0xFFFFFFFF →
      s.mayWrite .cupola (R.DKE_CTL (3 : Fin 4)) ∧ s.dkeStartOk (3 : Fin 4) = true) ∧
    (∀ x s, x = { chan .absorb with abortPend := true } → s = withCh 3 x → s.mayWrite .cupola (R.DKE_CTL (3 : Fin 4)) ∧
      s.dkeCh (3 : Fin 4) = x ∧ x.inMessage = true ∧ s.running (0x60 + (3 : Fin 4)) = none ∧ x.tamperPend = false ∧ x.abortPend = true) ∧
    (∀ x s, x = { chan .absorb with tamperPend := true } → s = withCh 3 x → s.dkeCh (3 : Fin 4) = x ∧
      s.running (0x60 + (3 : Fin 4)) = none ∧ x.inMessage = true ∧ x.tamperPend = true) ∧
    (∀ s, s = withCh 3 (chan .done) → s.mayWrite .cupola (R.DKE_CTL (3 : Fin 4)) ∧ (chan .done).st = .done) ∧
    (∀ j s x, j = job dHash .dke 0x63 .running → x = { DkeCh.idle with takePend := 1 } →
      s = { oneJob j with dke := [(3, x)] } → s.jobsOk ∧ s.jobsAt (0x60 + (3 : Fin 4)) = [j] ∧ j.phase = .running ∧ j.wait = .none ∧
      j.abort = .none ∧ s.dkeCh (3 : Fin 4) = x ∧ x.takePend ≠ 0) := by
  dsimp only [State.mayWrite, State.jobsOk]
  refine ⟨?_, ?_, ?_, ?_, ?_, ?_⟩
  · rintro _ rfl; decide +kernel
  · rintro _ rfl; decide +kernel
  · rintro _ _ rfl rfl; decide +kernel
  · rintro _ _ rfl rfl; decide +kernel
  · rintro _ rfl; decide +kernel
  · rintro _ _ _ rfl rfl rfl; decide +kernel

/-- A channel in KEYING with FUNC = HMAC-SHA-256 and key handle of slot 5. -/
def keyingUp (k : Slot) : State :=
  { ((withCh 3 (chan .keying)).put (F.DKE_MODE_FUNC 3) 5).wr (R.DKE_KEY 3) (BitVec.ofNat 32 h5) with
    keep := { up.keep with slots := [(5, k)] } }

theorem witness_DigestMessages :
    (∀ s : State, s = (keyingUp (live 0xA01 usSign (zeros 32))).put F.RNG_STAT_STATE rngRunning → s.dkeCh (3 : Fin 4) = chan .keying ∧
      (chan .keying).st = .keying ∧ (s.dkePending (3 : Fin 4)).isNone = true ∧
      (s.dkeSlot (3 : Fin 4)).toOption = some (live 0xA01 usSign (zeros 32)) ∧ s.rngState = rngRunning) ∧
    (∀ s, s = withCh 3 (chan .keying) → ∃ e n, s.dkeSlot (3 : Fin 4) = .error (e, n)) ∧
    (∀ x bs s, x = { chan .absorb with packets := [⟨zeros 64, false⟩] } → bs = zeros 64 → s = withCh 3 x →
      s.dkeCh (3 : Fin 4) = x ∧ x.st = .absorb ∧ (s.dkePending (3 : Fin 4)).isNone = true ∧ x.beat = some (bs, false)) ∧
    (∀ x bs s m, x = { chan .absorb with packets := [⟨zeros 64, true⟩] } → bs = zeros 64 → s = (withCh 3 x).put (F.DKE_MODE_FUNC 3) 2 →
      m = x.msg ++ bs → s.dkeCh (3 : Fin 4) = x ∧ x.beat = some (bs, true) ∧ m.length % dkeBlock (s.get (F.DKE_MODE_FUNC (3 : Fin 4))) = 0) ∧
    (∀ x bs s m, x = { chan .absorb with packets := [⟨zeros 3, true⟩] } → bs = zeros 3 → s = (withCh 3 x).put (F.DKE_MODE_FUNC 3) 2 →
      m = x.msg ++ bs → s.dkeCh (3 : Fin 4) = x ∧ x.beat = some (bs, true) ∧ m.length % dkeBlock (s.get (F.DKE_MODE_FUNC (3 : Fin 4))) ≠ 0) ∧
    (∀ s, s = withCh 3 (chan .finish) → s.dkeCh (3 : Fin 4) = chan .finish ∧ (chan .finish).st = .finish ∧
      (s.dkePending (3 : Fin 4)).isNone = true) := by
  refine ⟨?_, ?_, ?_, ?_, ?_, ?_⟩
  · rintro _ rfl; decide +kernel
  · rintro _ rfl; exact ⟨_, _, rfl⟩
  · rintro _ _ _ rfl rfl rfl; decide +kernel
  · rintro _ _ _ _ rfl rfl rfl rfl; decide +kernel
  · rintro _ _ _ _ rfl rfl rfl rfl; decide +kernel
  · rintro _ rfl; decide +kernel

theorem witness_DigestMessages_reads :
    (∀ s, s = withCh 3 (chan .absorb) → s.mayRead .cupola (R.DKE_RES (3 : Fin 4) (15 : Fin 17)) ∧
      s.mayRead .cupola (R.DKE_CMP (3 : Fin 4)) ∧ (chan .absorb).st ≠ .done) ∧
    (∀ s, s = withCh 3 (chan .done) → s.mayRead .cupola (R.DKE_RES (3 : Fin 4) (0 : Fin 17)) ∧ s.mayRead .cupola (R.DKE_CMP (3 : Fin 4)) ∧
      (chan .done).st = .done ∧ dkeKeyed (s.get (F.DKE_MODE_FUNC (3 : Fin 4))) = false) ∧
    (∀ x s, x = { chan .done with keyVerify := true } → s = (withCh 3 x).put (F.DKE_MODE_FUNC 3) 5 →
      s.mayRead .cupola (R.DKE_RES (3 : Fin 4) (0 : Fin 17)) ∧ x.st = .done ∧ (0 : Fin 17).val ≠ 16 ∧
      dkeKeyed (s.get (F.DKE_MODE_FUNC (3 : Fin 4))) = true ∧ x.keyVerify = true) := by
  dsimp only [State.mayRead]
  refine ⟨?_, ?_, ?_⟩
  · rintro _ rfl; decide +kernel
  · rintro _ rfl; decide +kernel
  · rintro _ _ rfl rfl; decide +kernel

theorem witness_StreamLanes : ∀ x s, x = { chan .absorb with packets := [⟨zeros 60, false⟩] } → s = withCh 3 x →
    s.dkeCh (3 : Fin 4) = x ∧ x.dropping = false ∧ s.mayWrite .cupola (R.SFI_DATA (3 : Fin 4)) ∧ x.level + 4 ≤ 4096 ∧
    s.mayWrite .cupola (R.SFI_EOP (3 : Fin 4) (3 : Fin 4)) ∧ x.level + (3 : Fin 4).val + 1 ≤ 4096 ∧
    s.mayWrite .cupola (R.SFI_CTL (3 : Fin 4)) ∧ x.openPkt.isSome = true ∧ x.absorbsOpen = true := by
  dsimp only [State.mayWrite]
  rintro _ _ rfl rfl
  decide +kernel

theorem witness_StreamLanes_empty : (∀ s, s = withCh 0 (chan .absorb) → s.dkeCh (0 : Fin 4) = chan .absorb ∧ (chan .absorb).packets = [] ∧
      (chan .absorb).st = .absorb) ∧
    ({ chan .owned with packets := [⟨[], false⟩] } : DkeCh).absorbsOpen = false := by
  refine ⟨?_, by decide +kernel⟩
  rintro _ rfl
  decide +kernel

/-! ### Belfry -/

/-- The device outside the start window. -/
def blfOn : State := up.clr F.BLF_STAT_START_WINDOW

theorem witness_BelfryAlarms :
    (∀ s, s = blfOn.put (F.BLF_SRC_CFG_POLICY 3) 0 → s.alarms (3 : Fin 14) .b ∧ s.vigilBelfry = false ∧ s.aloneCounts (3 : Fin 14) .b ∧
      (s.filtering && filtered (3 : Fin 14)) = false ∧ s.detLive (3 : Fin 14) (1 - detNum .b) = true) ∧
    (∀ s, s = blfOn.put (F.BLF_SRC_CFG_POLICY 13) 1 → s.alarms (13 : Fin 14) .a ∧ s.vigilBelfry = false ∧ ¬ s.aloneCounts (13 : Fin 14) .a) ∧
    (∀ s n, s = (blfOn.set F.BLF_STAT_START_WINDOW).put (F.BLF_SRC_CFG_POLICY 2) 0 → n = (2 : Fin 14) → s.alarms n .a ∧ s.vigilBelfry = false ∧ s.aloneCounts n .a ∧
      s.filtering = true ∧ filtered n = true ∧
      ((sget (fun _ => []) s.blf.events n).filter (fun x => decide (s.time ≤ x + s.get F.BLF_FILT_W * 1000))).length + 1 < s.get F.BLF_FILT_N ∧
      (s.put F.BLF_FILT_N 1).get F.BLF_FILT_N ≤
        ((sget (fun _ => []) s.blf.events n).filter (fun x => decide (s.time ≤ x + s.get F.BLF_FILT_W * 1000))).length + 1) ∧
    (∀ s, s = { at9 up with blf := { up.blf with lone := [(27, 8999990000)] } } → (27, 8999990000) ∈ s.blf.lone ∧ s.blfUp = true ∧
      s.fuseDisabled (13 : Fin 14) = false ∧ 27 = 2 * (13 : Fin 14).val + detNum .b ∧ 8999990000 + 10000 ≤ s.time) ∧
    (∀ l ∈ [0, 4], ∀ s, s = (((blfOn.set F.PWR_STAT_VIGIL).put (F.BLF_SRC_CFG_POLICY 0) 0).put (F.BLF_SRC_CFG_LEVEL 0) l) →
      s.alarms (0 : Fin 14) .a ∧ s.vigilBelfry = true ∧ s.aloneCounts (0 : Fin 14) .a ∧ (s.filtering && filtered (0 : Fin 14)) = false ∧
      s.blf.stored = [] ∧ s.get (F.BLF_SRC_CFG_LEVEL (0 : Fin 14)) = l) := by
  dsimp only [State.aloneCounts]
  refine ⟨?_, ?_, ?_, ?_, ?_⟩
  · rintro _ rfl; exact ⟨⟨by decide +kernel, by decide +kernel, by decide +kernel, by decide +kernel, by decide +kernel, by decide +kernel⟩, by decide +kernel⟩
  · rintro _ rfl; exact ⟨⟨by decide +kernel, by decide +kernel, by decide +kernel, by decide +kernel, by decide +kernel, by decide +kernel⟩, by decide +kernel⟩
  · rintro _ _ rfl rfl; exact ⟨⟨by decide +kernel, by decide +kernel, by decide +kernel, by decide +kernel, by decide +kernel, by decide +kernel⟩, by decide +kernel⟩
  · rintro _ rfl; decide +kernel
  · intro l hl s hs
    simp only [List.mem_cons, List.mem_nil_iff, or_false] at hl
    rcases hl with rfl | rfl <;> subst hs <;>
      exact ⟨⟨by decide +kernel, by decide +kernel, by decide +kernel, by decide +kernel, by decide +kernel, by decide +kernel⟩, by decide +kernel⟩

theorem witness_BelfryTests :
    (up.mayWrite .cupola R.BLF_CTL ∧ up.blf.tests = [] ∧ up.blfUp = true ∧ up.mayWrite .cupola R.BLF_FAULTY ∧
      (0x20000001 : Word) &&& 0x3FFF3FFF &&& ~~~up.rd R.BLF_FAULTY ≠ 0) ∧
    (∀ s, s = { up with blf := { up.blf with tests := [(27, true), (3, false)] } } → s.mayWrite .cupola R.BLF_CTL ∧ s.blf.tests ≠ [] ∧
      s.blfUp = true ∧ s.blf.tests = (2 * (13 : Fin 14).val + detNum .b, true) :: [(3, false)] ∧
      s.rd R.BLF_FAULTY &&& BitVec.ofNat 32 (2 ^ detBit (13 : Fin 14) (detNum .b)) = 0) ∧
    (∀ s, s = at9 (up.set F.BLF_STAT_START_WINDOW) → s.blfUp = true ∧ s.on F.BLF_STAT_START_WINDOW = true ∧
      s.blf.startAt + 50000000 ≤ s.time) := by
  dsimp only [State.mayWrite]
  refine ⟨by decide +kernel, ?_, ?_⟩ <;> rintro _ rfl <;> decide +kernel

theorem witness_FusesAndBattery :
    (∀ s, s = up.put F.LCS_STATE_STATE 2 → s.mayWrite .cupola R.BLF_FUSE_PGM ∧ (0x30B : Word).toNat % 16 = 11 ∧ s.get F.LCS_STATE_STATE = 2) ∧
    (∀ s, s = up.put F.LCS_STATE_STATE 3 → s.mayWrite .cupola R.BLF_FUSE_PGM ∧ s.get F.LCS_STATE_STATE ≠ 1 ∧ s.get F.LCS_STATE_STATE ≠ 2 ∧
      12 ≤ (0x30C : Word).toNat % 16) ∧
    (∀ s, s = { up with otp := { up.otp with fuses := 0x8000800 } } → s.fused (11 : Fin 14) (detNum .b) = true ∧ s.fuseDisabled (11 : Fin 14) = true) ∧
    (∀ s, s = { up with blf := { up.blf with backup := true } } → s.blf.backup = true ∧ (8 : Fin 14).val ∈ [0, 1, 2, 8] ∧
      s.fuseDisabled (8 : Fin 14) = false ∧ (3 : Fin 14).val ∉ [0, 1, 2, 8] ∧ (2199 : BitVec 16).toNat < 2200) ∧
    (∀ s, s = { up with blf := { up.blf with backup := false } } → s.blfUp = true ∧ s.blf.backup = false) ∧ ((2499 : BitVec 16).toNat < 2500 ∧ State.reset.power.pwrOk = false ∧
      up.mayWrite .cupola R.BLF_BAT_CTL) := by
  dsimp only [State.mayWrite]
  refine ⟨?_, ?_, ?_, ?_, ?_, by decide +kernel⟩ <;> rintro _ rfl <;> decide +kernel

/-! ### The life cycle and the test access port -/

/-- LCS at a state. -/
def lcsAt (n : Nat) : State := (at9 up).put F.LCS_STATE_STATE n

/-- A transition to a state in progress, boot past milestone 7, one seed in the reservoir. -/
def goingTo (n : Nat) : State :=
  { ((((lcsAt n).put F.LCS_STAT_TARGET n).set F.LCS_STAT_IN_TRANSITION).put F.CUP_BOOT_STAT_MILESTONE 7).put F.RNG_STAT_STATE rngRunning with
    rng := { up.rng with reservoir := [zeros 48] } }

theorem witness_LifeCycleTransitions :
    (∀ x c, x = (4 : Word).toNat % 16 → c = (lcsAt 2).get F.LCS_STATE_STATE → (lcsAt 2).mayWrite .cupola R.LCS_TRANSITION ∧ c ≠ x ∧
      (lcsAt 2).on F.LCS_STAT_IN_TRANSITION = false ∧ ((c, x) ∈ [(0, 1), (1, 2), (2, 3), (2, 4), (3, 4)] ∨ x = 5)) ∧
    (∀ (s : State) (v : Word) (k : Fin 5), (s, v, k) ∈ [(lcsAt 3, 2, 1), (goingTo 3, 4, 2), (lcsAt 3, 3, 3), (goingTo 3, 6, 4), (lcsAt 5, 5, 3)] →
      s.mayWrite .cupola R.LCS_TRANSITION ∧ k ≠ 0 ∧ ∀ x c, x = v.toNat % 16 → c = s.get F.LCS_STATE_STATE →
        k.val = (if 6 ≤ x then 4 else if s.on F.LCS_STAT_IN_TRANSITION = true then 2 else if x = c then 3 else
          if (c, x) ∈ [(0, 1), (1, 2), (2, 3), (2, 4), (3, 4)] ∨ x = 5 then 0 else 1)) ∧
    ((goingTo 1).alive = true ∧ (goingTo 1).on F.LCS_STAT_IN_TRANSITION = true ∧ (goingTo 1).get F.LCS_STAT_TARGET = 1 ∧
      (goingTo 1).otp.ds = none ∧ (goingTo 1).rngState = rngRunning ∧ (goingTo 1).rng.reservoir = zeros 48 :: []) ∧
    (∀ s, s = (goingTo 4).set F.LCS_STAT_WIPE_WAIT → s.mayWrite .cupola R.LCS_CTL ∧ s.on F.LCS_STAT_WIPE_WAIT = true) ∧
    (∀ s, s = goingTo 3 → s.alive = true ∧ s.transitionReady = true ∧ 7 ≤ s.milestone ∧ s.get F.LCS_STAT_TARGET = 3 ∧ 3 ∈ [1, 2, 3, 4]) := by
  dsimp only [State.mayWrite]
  refine ⟨?_, ?_, by decide +kernel, ?_, ?_⟩
  · rintro _ _ rfl rfl; decide +kernel
  · intro s v k h
    simp only [List.mem_cons, List.mem_nil_iff, or_false, Prod.mk.injEq] at h
    rcases h with ⟨rfl, rfl, rfl⟩ | ⟨rfl, rfl, rfl⟩ | ⟨rfl, rfl, rfl⟩ | ⟨rfl, rfl, rfl⟩ | ⟨rfl, rfl, rfl⟩ <;>
      (refine ⟨by decide +kernel, by decide, ?_⟩; rintro _ _ rfl rfl; decide +kernel)
  · rintro _ rfl; decide +kernel
  · rintro _ rfl; decide +kernel

/-- A challenge is outstanding, and a session of the owner has every scope it may have. -/
def chalOn (s : State) : State := s.set F.LCS_STAT_CHAL_VALID
def session (s : State) (scopes : Nat) : State := (s.set F.LCS_DBG_STAT_SESSION).put F.LCS_DBG_STAT_SCOPES scopes

theorem witness_ChallengesTokensSessions :
    (∀ s, s = goingTo 3 → s.mayWrite .cupola R.LCS_CTL ∧ s.rngState = rngRunning ∧ s.rng.reservoir = zeros 48 :: [] ∧ s.power.pwrOk = true ∧
      s.alive = true) ∧
    (∀ s, s = (lcsAt 2).wr R.LCS_TOK_LEN 7540 → s.mayWrite .cupola R.LCS_CTL ∧ s.rngState ≠ rngRunning ∧ s.on F.LCS_TOK_RES_BUSY = false ∧
      (s.rd R.LCS_TOK_LEN).toNat = 7540 ∧ s.get F.LCS_STATE_STATE = 2 ∧ s.otp.ownerDigest = none) ∧
    (lcsAt 3).get F.LCS_STATE_STATE ≠ 2 ∧
    (∀ s, s = chalOn { lcsAt 3 with time := 600000000000 } → s.on F.LCS_STAT_CHAL_VALID = true ∧ s.lcs.chalAt + 600000000000 ≤ s.time) ∧
    (∀ s, s = { chalOn (lcsAt 3) with lcs := { up.lcs with token := some [] } } → s.lcs.token = some [] ∧ s.tokenCode [] ≠ 0) ∧
    (∀ s, s = session (lcsAt 3) 7 → s.lcs.sessionEnd ≤ s.time ∧ s.mayWrite .pf R.LCS_CTL ∧ s.on F.LCS_DBG_STAT_SESSION = true ∧
      s.on F.LCS_DBG_STAT_BLANK_OPEN = false ∧ bit (s.get F.LCS_DBG_STAT_SCOPES) 1 = true) := by
  dsimp only [State.mayWrite]
  refine ⟨?_, ?_, by decide +kernel, ?_, ?_, ?_⟩ <;> rintro _ rfl <;> decide +kernel

/-- The header of a token of the owner for a device in FIELD with the scope of register reads and a second's duration; the
device identifier and the challenge are zeros. -/
def tokHdr : List Byte := [0x44, 0x54, 0x4F, 0x4B] ++ natLE 2 1 ++ natLE 2 128 ++ zeros 16 ++ [3, 1, 0, 0] ++ natLE 4 1 ++ natLE 4 1 ++ zeros 92
def tokOf (r : List Byte) : List Byte := tokHdr ++ r

/-- A token whose composite signature verifies passes (what verifies is open, so the signature stands as a premise). -/
theorem witness_ChallengesTokensSessions_passes : ∀ (r : List Byte) (s : State), (tokOf r).length = tokenLen →
    s = { ((chalOn (lcsAt 3)).set (F.AEA_CTL_EN 0)).set (F.AEA_CTL_EN 0x28) with
      otp := { up.otp with devId := zeros 16, ownerDigest := some (sha384 (slice (tokOf r) 128 2689)) } } →
    compositeOk (ascii "YLT-DEBUG") (slice (tokOf r) 128 2689) ((tokOf r).take 2817) (slice (tokOf r) 2817 4723) = true →
    s.tokenCode (tokOf r) = 0 ∧ leAt (tokOf r) 28 4 &&& 0x0E = 0 := by
  intro r s hlen hx hc
  have ha : byteAt (tokOf r) 25 = 1 := congrArg BitVec.toNat (rfl : (tokOf r).getD 25 0 = 1)
  have hb : byteAt (tokOf r) 24 = 3 := congrArg BitVec.toNat (rfl : (tokOf r).getD 24 0 = 3)
  have le (o n v : Nat) (h : slice (tokOf r) o n = natLE n v) (hv : leNat (natLE n v) = v) : leAt (tokOf r) o n = v := by rw [leAt, h, hv]
  have z (o n : Nat) (h : slice (tokOf r) o n = zeros n) (hv : allZero (zeros n) = true) : allZero (slice (tokOf r) o n) = true := by rw [h, hv]
  have hs := le 28 4 1 rfl (by decide)
  have hd := le 32 4 1 rfl (by decide)
  have h4 := le 4 2 1 rfl (by decide)
  have h6 := le 6 2 128 rfl (by decide)
  refine ⟨?_, by rw [hs]; decide⟩
  have k0 : ∃ t : State, t.on F.LCS_STAT_CHAL_VALID = true ∧ t.get F.LCS_STATE_STATE = 3 ∧ t.on F.LCS_STAT_IN_TRANSITION = false ∧
      t.challenge = zeros 32 ∧ t.verifierReady = true ∧ s = { t with
        otp := { up.otp with devId := zeros 16, ownerDigest := some (sha384 (slice (tokOf r) 128 2689)) } } :=
    ⟨_, by decide +kernel, by decide +kernel, by decide +kernel, by decide +kernel, by decide +kernel, hx⟩
  obtain ⟨t, k1, k2, k3, k4, k5, hs'⟩ := k0
  clear hx
  subst hs'
  simp only [State.tokenCode, hlen, ha, hb, hs, hd, h4, h6, hc, z 26 2 rfl (by decide), z 36 4 rfl (by decide), z 72 56 rfl (by decide)]
  have e1 : (tokOf r).take 4 = [0x44, 0x54, 0x4F, 0x4B] := rfl
  have e2 : slice (tokOf r) 8 16 = zeros 16 := rfl
  have e3 : slice (tokOf r) 40 32 = zeros 32 := rfl
  simp only [e1, e2, e3]
  generalize sha384 (slice (tokOf r) 128 2689) = dg
  have c1 (o : OtpSt) : ({ t with otp := o } : State).on F.LCS_STAT_CHAL_VALID = true := k1
  have c2 (o : OtpSt) : ({ t with otp := o } : State).get F.LCS_STATE_STATE = 3 := k2
  have c3 (o : OtpSt) : ({ t with otp := o } : State).on F.LCS_STAT_IN_TRANSITION = false := k3
  have c4 (o : OtpSt) : ({ t with otp := o } : State).challenge = zeros 32 := k4
  have c5 (o : OtpSt) : ({ t with otp := o } : State).verifierReady = true := k5
  simp only [c1, c2, c3, c4, c5]
  simp [State.authorityOk, within, scopesOf]

theorem witness_TapInstructions :
    (∀ s, s = lcsAt 3 → s.power.pwrOk = true ∧ s.alive = true ∧ s.on F.LCS_TOK_RES_BUSY = false ∧ (∀ b < 6, s.scope b = false)) ∧
    (∀ s, s = (session (lcsAt 1) 0x3F).put F.CUP_BOOT_STAT_MILESTONE 7 → s.power.pwrOk = true ∧ (∀ b < 6, s.scope b = true) ∧
      7 ≤ s.milestone ∧ (0xFFFFC : Word).toNat + 4 ≤ 0x100000 ∧ (0x7FFFFFC : Word).toNat + 4 ≤ 0x8000000 ∧
      s.grants .tap R.LCS_STATE false = true ∧ (BitVec.ofNat 32 (0x40000000 + R.LCS_STATE)).toNat = 0x40000000 + R.LCS_STATE ∧
      R.LCS_STATE < 0x1000000 ∧ R.LCS_STATE % 4 = 0 ∧ (s.set F.PWR_STAT_VIGIL).grants .tap (R.DKE_RES 0 0) false = false) := by
  refine ⟨?_, ?_⟩ <;> rintro _ rfl <;> decide +kernel

/-! ### Faults, events, clocks -/

/-- A message of tile 0: KIND 0x01 with a severity, KIND 0x06. -/
def msg1 (sev : Nat) : DWord := faultMsg 0 0x01 sev 0 5
def msg6 : DWord := faultMsg 0 0x06 0 0 5

/-- What every clause of `FaultMessages` asks of a message at reset. -/
def msgReady (s : State) (m : DWord) (k l : Nat) : Prop :=
  k = msgKind m ∧ l = s.msgLevel m ∧ knownSource (msgSource m) = true ∧ s.alive = true ∧ isBelfry m = false ∧
    1 ≤ s.get F.FLT_CFG_PIN_LEVEL ∧ sget (fun _ => 0) s.fcr.seqRx (msgSource m) ∈ [0, msgSeq m + 1] ∧ s.fcr.history.length < 256 ∧ k < 32

theorem witness_FaultMessages :
    (∀ s, s = up.put (F.FLT_MAP_LEVEL 1) 0 → msgReady s (msg1 0) 1 0 ∧ msgReady s (msg1 1) 1 1 ∧ msgReady s (msg1 2) 1 2 ∧ s.reacting = false ∧
      0 < s.get F.FLT_CFG_PIN_LEVEL ∧ (s.put F.FLT_CFG_PIN_LEVEL 1).get F.FLT_CFG_PIN_LEVEL ≤ 1 ∧ s.on F.FLT_FIRST_INFO_VALID = false ∧
      (s.set F.FLT_FIRST_INFO_VALID).on F.FLT_FIRST_INFO_VALID = true) ∧
    (∀ s, s = { (((up.put (F.FLT_MAP_LEVEL 6) 0).set F.FLT_STAT_REACT_BUSY).put F.FLT_REACT_LEVEL 2) with
        fcr := { up.fcr with windowEnd := 5000 } } → msgReady s msg6 6 0 ∧ s.inWindow = true ∧ 0 ≤ s.get F.FLT_REACT_LEVEL ∧
      consequential (s.get F.FLT_REACT_LEVEL) 6 = true) ∧
    (∀ s, s = at9 (up.set F.FLT_STAT_REACT_BUSY) → s.reacting = true ∧ s.fcr.windowEnd ≤ s.time ∧ s.rd R.PWR_BLKRST = 0 ∧
      s.power.cupUp = true ∧ s.lcs.opening = none) := by
  dsimp only [msgReady]
  refine ⟨?_, ?_, ?_⟩ <;> rintro _ rfl <;> decide +kernel

/-- An entry of the fault history. -/
def entry1 : HistEntry := ⟨msg1 1, 0, false, false, 1, 0⟩

theorem witness_FaultRegisters :
    (up.mayWrite .cupola R.FLT_FIRST_INFO ∧ up.mayWrite .cupola R.FLT_STICKY ∧ up.mayWrite .cupola (R.FLT_MAP (0x14 : Fin 32)) ∧
      faultKind (0x14 : Fin 32) = true ∧ up.get (F.FLT_MAP_LEVEL (0x14 : Fin 32)) < 6 ∧ (6 : Word).toNat % 8 = 6 ∧
      up.mayWrite .cupola (R.FLT_MAP (0x15 : Fin 32)) ∧ (7 : Word).toNat % 8 = 7 ∧ faultKind (0x15 : Fin 32) = false ∧ up.mayWrite .pf R.FLT_CTL ∧
      up.mayWrite .cupola R.FLT_CTL ∧ up.mayRead .cupola R.FLT_MSG0 ∧ up.fcr.history = [] ∧ up.mayRead .cupola R.FLT_MSG3 ∧
      up.power.cupUp = true ∧ up.alm.buffer = [] ∧ up.alm.summary = [] ∧ up.alm.lost = 0) ∧
    (∀ s, s = up.set F.FLT_STAT_REACT_BUSY → s.reacting = true) ∧
    (∀ s, s = up.set F.FLT_STAT_QUIESCED → s.mayWrite .cupola R.FLT_CTL ∧ s.reacting = false ∧ s.on F.FLT_STAT_QUIESCED = true) ∧
    (∀ s, s = { up with fcr := { up.fcr with history := [entry1], latched := some entry1 } } → s.mayRead .cupola R.FLT_MSG0 ∧
      s.fcr.history = entry1 :: [] ∧ s.mayRead .cupola R.FLT_MSG3 ∧ s.fcr.latched = some entry1) := by
  dsimp only [State.mayWrite, State.mayRead]
  refine ⟨by decide +kernel, ?_, ?_, ?_⟩ <;> rintro _ rfl <;> decide +kernel

theorem witness_EventDelivery :
    (up.alive = true ∧ up.isPending (255 : Fin 256) = false ∧ up.mayWrite .cupola (R.EVC_PEND (7 : Fin 8)) ∧
      up.mayWrite .cupola (R.EVC_MASK (7 : Fin 8)) ∧ up.power.hostUp = true ∧ (63 : Fin 64).val < msixVectors (0 : Fin 32) ∧
      (3 : Fin 64).val < msixVectors (31 : Fin 32) ∧ ((31 : Fin 32).val, (3 : Fin 64).val) ∉ up.evc.msixUnmasked) ∧
    (∀ s, s = ((up.set (evcBit (R.EVC_PEND 0) 40)).set (evcBit (R.EVC_MASK 0) 40)).set (F.EVC_ROUTE_CUPOLA 40) →
      s.isPending (40 : Fin 256) = true ∧ s.on (evcBit (R.EVC_MASK 0) (40 : Fin 256)) = true ∧ s.evcNonMask (40 : Fin 256) = false ∧
      s.mayWrite .cupola (R.EVC_MASK (1 : Fin 8)) ∧ (0 : Word).getLsbD 8 = false ∧ s.on (evcBit (R.EVC_MASK 0) (32 * 1 + 8)) = true ∧
      s.isPending (32 * 1 + 8) = true ∧ s.evcNonMask (32 * 1 + 8) = false ∧ s.on (F.EVC_ROUTE_CUPOLA (32 * 1 + 8)) = true) ∧
    (∀ s, s = (up.clr (evcBit (R.EVC_MASK 0) 41)).set (F.EVC_ROUTE_CUPOLA 41) → s.isPending (41 : Fin 256) = false ∧
      s.on (evcBit (R.EVC_MASK 0) (41 : Fin 256)) = false ∧ s.on (F.EVC_ROUTE_CUPOLA (41 : Fin 256)) = true) := by
  dsimp only [State.mayWrite]
  refine ⟨by decide +kernel, ?_, ?_⟩ <;> rintro _ rfl <;> decide +kernel

/-- The device with clock sources READY. -/
def clkOn (cs : List Nat) : State := { up with cpm := { up.cpm with ready := cs } }

theorem witness_ClocksAndSupplies :
    (∀ s, s = (clkOn [0, 1, 2, 3, 4]).set F.CKG_SEL_PTP_AUTO → s.cpmUp = true ∧ (∀ c : Fin 6, c.val ≠ 5 → s.clockReady c = true) ∧
      s.on F.CKG_SEL_PTP_AUTO = true ∧ s.clockReady 2 = true ∧ s.mayWrite .cupola R.CKG_SEL ∧ s.power.cupUp = true) ∧
    (∀ s, s = { (clkOn [0, 1, 2, 3]).put F.CUP_BOOT_STAT_MILESTONE 7 with mpe := { up.mpe with key := some [] } } → s.cpmUp = true ∧
      s.clockReady (4 : Fin 6) = false ∧ s.mpe.key.isSome = true ∧ s.get F.CTS_STAT_STACK_FAULT = 0 ∧ 7 ≤ s.milestone ∧ s.power.cupUp = true) ∧
    (∀ s, s = clkOn [] → s.cpmUp = true ∧ s.clockReady (3 : Fin 6) = false ∧ (3 : Fin 6).val ≠ 4 ∧ s.mayWrite .cupola R.CKG_SEL ∧
      s.clockReady 5 = true ∧ s.clockReady 1 = false) ∧
    (∀ s, s = (clkOn [3]).set F.GLB_STRAP_HOST_EN → s.power.coreUp = true ∧ s.on F.GLB_STRAP_HOST_EN = true ∧ s.clockReady 3 = true ∧
      s.inReset 11 = false ∧ s.inVigil = false ∧ s.cpm.tripped = false) := by
  dsimp only [State.mayWrite]
  refine ⟨?_, ?_, ?_, ?_⟩ <;> rintro _ rfl <;> decide +kernel

/-! ### The governor, Boost, Vigil, restarts -/

/-- The device 1000 s after power-on with the governor in hand and Boost enabled. -/
def paceOn : State :=
  { up.set F.PWR_CFG_BOOST_EN with
    time := 1000000000000
    cpm := { up.cpm with paceValid := true, predValid := true, vcore := 800, govMv := 800, pace := 256, boostFrom := none, spans := [], powerOn := 0 } }

/-- Boost at `t`. -/
def boostAt (t : Nat) (ramp : Bool) : State :=
  { paceOn.putB F.PWR_STAT_RAMP ramp with time := t, cpm := { paceOn.cpm with boostFrom := some 0, vcore := 900 } }

theorem witness_GovernorAndBoost :
    (paceOn.mayWrite .cupola R.PWR_CTL ∧ paceOn.boosting = false ∧ paceOn.boostOk = true ∧
      paceOn.tjEffective < paceOn.get F.PWR_THERM_TJ_BOOST ∧ paceOn.power.coreUp = true ∧ paceOn.cpmUp = true ∧ paceOn.inVigil = false ∧
      paceOn.cpm.paceValid = true ∧ paceOn.on F.PWR_STAT_AVS_FAIL = false ∧ 700 ≤ paceOn.cpm.govMv ∧ paceOn.cpm.govMv ≤ 850 ∧
      (255 : BitVec 10).toNat < paceOn.paceTarget ∧ paceOn.paceTarget < (1023 : BitVec 10).toNat) ∧
    (up.mayWrite .cupola R.PWR_CTL ∧ up.boosting = false ∧ up.boostOk = false ∧ up.cpm.paceValid = false) ∧
    (∀ s, s = boostAt 5 true → s.boosting = true ∧ s.on F.PWR_STAT_RAMP = true) ∧
    (∀ s, s = boostAt 5 false → s.boosting = true ∧ s.mayWrite .cupola R.PWR_CTL ∧ s.boostCredit = 0 ∧ s.cpmUp = true ∧
      s.on F.PWR_STAT_AVS_FAIL = false ∧ (124 : BitVec 8).toInt < 125 ∧ (s.get F.PWR_THERM_TJ_BOOST : Int) ≤ (124 : BitVec 8).toInt) ∧
    (∀ s, s = { paceOn with cpm := { paceOn.cpm with vcore := 850, pace := 255 } } → s.cpmUp = true ∧ s.cpm.paceValid = true ∧
      s.boosting = false ∧ s.vigilAny = false ∧ s.cpm.vcore = 850 ∧ s.cpm.pace < 256 ∧ s.on F.PWR_STAT_PACE_LOW = false) ∧
    (∀ s, s = paceOn.set F.PWR_STAT_AVS_FAIL → s.cpmUp = true ∧ s.on F.PWR_STAT_AVS_FAIL = true) ∧
    ((124 : BitVec 8).toInt < 125 ∧ (paceOn.get F.PWR_THERM_TJ_CRIT : Int) ≤ (124 : BitVec 8).toInt ∧ paceOn.cpm.crit ≠ 1 ∧
      (125 : Int) ≤ (125 : BitVec 8).toInt) := by
  dsimp only [State.mayWrite]
  refine ⟨by decide +kernel, by decide +kernel, ?_, ?_, ?_, ?_, by decide +kernel⟩ <;> rintro _ rfl <;> decide +kernel

/-- VIGIL and VIGIL_TRANS. -/
def vigilAt (s : State) (v t : Bool) : State := (s.putB F.PWR_STAT_VIGIL v).putB F.PWR_STAT_VIGIL_TRANS t

/-- The device past milestone 7 with the pin of Vigil enabled. -/
def boot7 : State := (up.put F.CUP_BOOT_STAT_MILESTONE 7).set F.PWR_CFG_VIGIL_PIN_EN

/-- What passes the signature checks of a copy is open, so the clauses of a good copy have no closed witness. -/
theorem witness_VigilAndRestarts :
    (∀ a b, ∀ s, s = vigilAt boot7 a b → s.mayWrite .cupola R.PWR_CTL ∧ s.cpmUp = true ∧ s.on F.PWR_CFG_VIGIL_PIN_EN = true ∧
      s.on F.PWR_STAT_VIGIL = a ∧ s.on F.PWR_STAT_VIGIL_TRANS = b ∧ 7 ≤ s.milestone ∧ s.on F.LCS_STAT_IN_TRANSITION = false ∧
      s.cpm.exitWaits = false ∧ s.cpm.entryWaits = false ∧ s.blf.stored = []) ∧
    up.milestone < 7 ∧
    (∀ s n, s = { boot7 with power := { up.power with cupUp := false }, cup := { up.cup with restarts := [5, 6, 7, 8] } } →
      n = (s.cup.restarts.filter (fun t => decide (s.time < t + 60000000000))).length → s.power.pwrOk = true ∧ s.power.sysHeld = false ∧
      s.power.cupUp = false ∧ s.cpm.tripped = false ∧ 7 ≤ s.milestone ∧ 4 ≤ n) ∧
    (∀ s, s = up.put F.CUP_BOOT_STAT_MODE 3 → s.power.cupUp = true ∧ s.pushed = false ∧ ([] : List Byte).length ≤ 0x800000 ∧
      s.bootMode = 3 ∧ s.copyCheck 1 [] ≠ 0) := by
  dsimp only [State.mayWrite]
  refine ⟨?_, by decide +kernel, ?_, ?_⟩
  · intro a b s h
    cases a <;> cases b <;> subst h <;> decide +kernel
  · rintro _ _ rfl rfl; decide +kernel
  · rintro _ rfl; decide +kernel

/-! ### The mailbox and updates -/

/-- A GO frame in the host's window. -/
def hostFrame (svc cmd : Nat) (s : State) : State := s.wr (R.MBX_REQ 0 0) (BitVec.ofNat 32 (svc + cmd * 256))

theorem witness_MailboxWindows_go :
    winNo .host = some (0 : Fin 2).val ∧ winNo .svc = some (1 : Fin 2).val ∧
    (∀ s, s = svcUp.set (F.MBX_STAT_BUSY 1) → s.mayWrite .svc (R.MBX_CTL (1 : Fin 2)) ∧ s.on (F.MBX_STAT_BUSY (1 : Fin 2)) = true) ∧
    (∀ s u : State, s = hostFrame 0 1 svcUp → u = { s with cup := { s.cup with
        goBy := if (0 : Fin 2) = 0 then (reqCode .pf, s.cup.goBy.2) else (s.cup.goBy.1, reqCode .pf) } } →
      s.mayWrite .pf (R.MBX_CTL (0 : Fin 2)) ∧ s.on (F.MBX_STAT_BUSY (0 : Fin 2)) = false ∧ u.verdict .host = none) ∧
    (∀ s u : State, s = hostFrame 0 0x30 svcUp → u = { s with cup := { s.cup with
        goBy := if (0 : Fin 2) = 0 then (reqCode .pf, s.cup.goBy.2) else (s.cup.goBy.1, reqCode .pf) } } →
      u.mbxServes = true ∧ u.verdict .host = some mbUnknown) := by
  dsimp only [State.mayWrite]
  refine ⟨by decide, by decide, ?_, ?_, ?_⟩
  · rintro _ rfl; decide +kernel
  · rintro _ _ rfl rfl; decide +kernel
  · rintro _ _ rfl rfl; decide +kernel

theorem witness_MailboxWindows_commands :
    (∀ s, s = smbCmd svcUp 0 1 [] → s.power.cupUp = true ∧ s.cup.smb.busy = true ∧ s.serves .smbus 0 1 []) ∧
    (∀ s, s = { smbCmd svcUp 0 1 [] with cup := { (smbCmd svcUp 0 1 []).cup with smb := { (smbCmd svcUp 0 1 []).cup.smb with busy := false } } } →
      s.cup.smb.busy = false ∧ s.verdict .smbus = none) ∧
    (∀ s, s = smbCmd svcUp 0 2 [] → s.serves .smbus 0 2 []) ∧ (∀ s, s = smbCmd svcUp 0 4 [] → s.serves .smbus 0 4 []) ∧
    (∀ s p, s = smbCmd svcUp 0 3 p → p = zeros 8 ++ [63] → s.serves .smbus 0 3 p ∧ 1 ≤ byteAt p 8 ∧ byteAt p 8 ≤ 63 ∧
      s.alm.buffer = [] ∧ s.alm.summary = [] ∧ s.alm.lost = 0) := by
  dsimp only [State.serves]
  refine ⟨?_, ?_, ?_, ?_, ?_⟩
  · rintro _ rfl; decide +kernel
  · rintro _ rfl; decide +kernel
  · rintro _ rfl; decide +kernel
  · rintro _ rfl; decide +kernel
  · rintro _ _ rfl rfl; decide +kernel

/-- An update session of the SMBus for a BOOT image of 4 bytes. -/
def upd1 (next : Nat) : UpdSt := ⟨2, 1, 4, next, 0, none⟩
def withUpd (s : State) (u : UpdSt) (phase : Nat) : State :=
  { s.put F.CUP_UPD_STAT_PHASE phase with time := 60000000000, cup := { s.cup with upd := some u } }

/-- What passes the signature checks of an image is open, so the clause of a good update has no closed witness. -/
theorem witness_UpdatesCommitsKeys_sessions :
    (∀ s p, p = [1, 0, 0, 0] ++ natLE 4 4 → s = smbCmd svcUp 0 0x10 p → s.serves .smbus 0 0x10 p ∧ byteAt p 0 = 1 ∧ leAt p 4 4 ≤ copySize 1 ∧
      s.cup.upd = none ∧ s.mayBegin .smbus 1 = true ∧ s.awaits 1 = false) ∧
    (∀ s p, p = [1, 0, 0, 0] ++ natLE 4 4 → s = withUpd (smbCmd svcUp 0 0x10 p) (upd1 0) 1 → s.serves .smbus 0 0x10 p ∧ s.cup.upd ≠ none ∧
      s.cup.upd = some (upd1 0) ∧ s.power.cupUp = true ∧ s.get F.CUP_UPD_STAT_PHASE = 1 ∧ (upd1 0).last + 60000000000 ≤ s.time ∧
      (upd1 0).holder = winHolder .smbus ∧ (upd1 0).stage = none ∧ (upd1 0).target = 1 ∧ (upd1 0).length ≤ copySize (upd1 0).target) ∧
    (∀ s p, p = natLE 4 0 ++ [1, 2, 3, 4] → s = withUpd (smbCmd svcUp 0 0x11 p) (upd1 0) 2 → s.serves .smbus 0 0x11 p ∧
      s.cup.upd = some (upd1 0) ∧ s.get F.CUP_UPD_STAT_PHASE = 2 ∧ leAt p 0 4 = (upd1 0).next ∧
      (upd1 0).next + (p.drop 4).length ≤ (upd1 0).length) ∧
    (∀ s p, p = natLE 4 1 ++ [1] → s = withUpd (smbCmd svcUp 0 0x11 p) (upd1 0) 2 → s.serves .smbus 0 0x11 p ∧ leAt p 0 4 ≠ (upd1 0).next) ∧
    (∀ s, s = withUpd (smbCmd svcUp 0 0x12 []) (upd1 4) 2 → s.serves .smbus 0 0x12 [] ∧ s.cup.upd = some (upd1 4) ∧
      (upd1 4).next = (upd1 4).length ∧ s.updCheck (upd1 4) ≠ 0) ∧
    (∀ s, s = withUpd (smbCmd svcUp 0 0x14 []) (upd1 4) 2 → s.serves .smbus 0 0x14 []) := by
  dsimp only [State.serves]
  refine ⟨?_, ?_, ?_, ?_, ?_, ?_⟩
  · rintro _ _ rfl rfl; decide +kernel
  · rintro _ _ rfl rfl; decide +kernel
  · rintro _ _ rfl rfl; decide +kernel
  · rintro _ _ rfl rfl; decide +kernel
  · rintro _ rfl; decide +kernel
  · rintro _ rfl; decide +kernel

/-- Keys 0 and 1 programmed. -/
def keys2 : List (Nat × CfgKey) := [(0, ⟨zeros 48, 0xA55A, false⟩), (1, ⟨zeros 48, 0xA55A, false⟩)]

def withKeys (s : State) (st : Nat) (ks : List (Nat × CfgKey)) : State := { s.put F.LCS_STATE_STATE st with cup := { s.cup with keys := ks } }

theorem witness_UpdatesCommitsKeys_keys :
    (∀ s, s = smbCmd svcUp 0 0x13 [] → s.serves .smbus 0 0x13 []) ∧
    (∀ s, s = smbCmd svcUp 0 0x15 [] → s.serves .smbus 0 0x15 [] ∧ 7 ≤ s.milestone) ∧
    (∀ s, s = (smbCmd svcUp 0 0x15 []).put F.CUP_BOOT_STAT_MILESTONE 6 → s.serves .smbus 0 0x15 [] ∧ s.milestone < 7) ∧
    (∀ s, s = { up.set F.CUP_CFG_AUTO_COMMIT with time := 600000000000, cup := { up.cup with calm := true, ms7At := some 0 } } →
      s.power.cupUp = true ∧ s.on F.CUP_CFG_AUTO_COMMIT = true ∧ s.cup.calm = true ∧ s.cup.ms7At = some 0 ∧ 0 + 600000000000 ≤ s.time) ∧
    (∀ s, s = smbCmd svcUp 0 0x16 [] → s.serves .smbus 0 0x16 []) ∧
    (∀ s p, p = [3, 0, 0, 0] ++ zeros 48 → s = withKeys (smbCmd svcUp 0 0x20 p) 2 keys2 → s.serves .smbus 0 0x20 p ∧ byteAt p 0 = 3 ∧
      allZero (slice p 1 3) = true ∧ s.get F.LCS_STATE_STATE = 2 ∧ (∀ e ∈ s.cup.keys, e.1 ≠ 3)) ∧
    (∀ s p, p = [0, 0, 0, 0] ++ zeros 48 → s = withKeys (smbCmd svcUp 0 0x20 p) 2 keys2 → s.serves .smbus 0 0x20 p ∧
      (∃ e ∈ s.cup.keys, e.1 = byteAt p 0)) ∧
    (∀ s, s = withKeys (smbCmd svcUp 0 0x21 [0]) 3 keys2 → s.serves .smbus 0 0x21 [0] ∧ s.get F.LCS_STATE_STATE = 3 ∧
      (∃ e ∈ s.cup.keys, e.1 = 0) ∧ (∃ e ∈ s.usableKeys, e.1 ≠ 0)) ∧
    (∀ s, s = withKeys (smbCmd svcUp 0 0x21 [1]) 3 (keys2.drop 1) → s.serves .smbus 0 0x21 [1] ∧ (∃ e ∈ s.cup.keys, e.1 = 1) ∧
      (∀ e ∈ s.usableKeys, e.1 = 1) ∧ (∃ e ∈ s.cup.keys, e.2.done = 0xA55A)) := by
  dsimp only [State.serves]
  refine ⟨?_, ?_, ?_, ?_, ?_, ?_, ?_, ?_, ?_⟩
  · rintro _ rfl; decide +kernel
  · rintro _ rfl; decide +kernel
  · rintro _ rfl; decide +kernel
  · rintro _ rfl; decide +kernel
  · rintro _ rfl; decide +kernel
  · rintro _ _ rfl rfl; decide +kernel
  · rintro _ _ rfl rfl; decide +kernel
  · rintro _ rfl; decide +kernel
  · rintro _ rfl; decide +kernel

end Sys2Proof.Tests
end

section
/-! PROOF. O10: the reads of a 64-bit counter (R15), and the capture of all of them by GLB_SNAP (R15, R18). -/

namespace Sys2Proof.Machine

/-! ### An access in the requester's own map -/

theorem atBus_aligned (r : Req) (a : Word) (n o : Nat) (k : Nat → Out) (ho : busOffset r a.toNat = some o)
    (hn : o % n = 0) : atBus r a n k = k o := by
  simp only [atBus, ho, hn, if_true]

theorem State.readReg_counter (s : State) (r : Req) (o lo : Nat) (wide : Bool) (hc : counterAt o = some lo) :
    s.readReg r o wide = s.cntRead lo o wide := by
  simp only [State.readReg, hc]

/-- COUNTER_LOW_READ, permitted and aligned, of either word of a counter. -/
theorem exec_counterLowRead_permitted (s : State) (r : Req) (a : Word) (o lo : Nat) (wide : Bool)
    (ho : busOffset r a.toNat = some o) (hn : o % (if wide then 8 else 4) = 0) (hc : counterAt o = some lo)
    (hm : s.mayRead r o) : exec (.counterLowRead r a wide) s = .next (s.cntRead lo o wide) := by
  show execCounterLowRead r a wide s = _
  rw [execCounterLowRead, atBus_aligned r a _ o _ ho hn, State.busRead, State.gateR_granted s r o _ hm,
    State.readReg_counter s r o lo wide hc]

/-! ### What a read of a counter returns -/

theorem State.cntRead_wide (s : State) (lo o : Nat) :
    s.cntRead lo o true = { s with busOut := BitVec.ofNat 64 (s.cntShown lo) } := rfl

theorem State.cntRead_low (s : State) (lo : Nat) :
    s.cntRead lo lo false = { s with
      busOut := BitVec.ofNat 64 (s.cntShown lo % 2 ^ 32)
      hiLatch := sput (fun _ => 0) s.hiLatch lo (s.cntShown lo / 2 ^ 32 + 1) } := by
  simp [State.cntRead]

/-- Where a high word is latched (the latch holds it plus 1), the read of the high word returns it and frees the latch;
the counts have no part in it. -/
theorem State.cntRead_high_latched (s : State) (lo o n : Nat) (ho : o ≠ lo)
    (hl : sget (fun _ => 0) s.hiLatch lo = n + 1) :
    s.cntRead lo o false = { s with busOut := BitVec.ofNat 64 n, hiLatch := serase s.hiLatch lo } := by
  simp [State.cntRead, ho, hl]

/-! ### GLB_SNAP and the end of the load -/

theorem State.busWrite_glbSnap (s : State) (r : Req) (v : Word) (hm : s.mayWrite r R.GLB_SNAP) :
    s.busWrite r R.GLB_SNAP v = s.snapStart := by
  rw [State.busWrite, State.gateW_granted s r R.GLB_SNAP _ hm]
  rfl

theorem State.snapStart_idle (s : State) (hb : s.on F.GLB_STAT_SNAP_BUSY = false) :
    s.snapStart = ({ s with cntSnap := s.cnt } : State).set F.GLB_STAT_SNAP_BUSY := by
  simp only [State.snapStart, hb, Bool.false_eq_true, if_false]

theorem State.snapStart_busy (s : State) (hb : s.on F.GLB_STAT_SNAP_BUSY = true) :
    s.snapStart = s.set F.GLB_STAT_SNAP_REJECT := if_pos hb

theorem State.snapEnd_busy (s : State) (hb : s.on F.GLB_STAT_SNAP_BUSY = true) :
    s.snapEnd = ({ s with cntCopy := s.cntSnap, cntSnap := [] } : State).clr F.GLB_STAT_SNAP_BUSY := if_pos hb

/-- A write of a field touches the field's register and no other. -/
theorem State.sameRegsBut_put (s : State) (f : Fld) (x : Nat) : SameRegsBut [f.off] s (s.put f x) :=
  fun o ho => State.rd_put_of_ne s f x o (by simpa using ho)

/-! ### The obligation -/

/-- A read of the low word latches the high word, and in any later state `x` with that latch the read of the high word
returns it, whatever the counts of `x` (R15). -/
theorem counterRead_latches (s : State) (r : Req) (a b : Word) (o : Nat) (ha : busOffset r a.toNat = some o)
    (hb : busOffset r b.toNat = some (o + 4)) (h8 : o % 8 = 0) (hlo : counterAt o = some o)
    (hhi : counterAt (o + 4) = some o) (hm : s.mayRead r o) :
    ∃ t, exec (.counterLowRead r a false) s = .next t ∧ t.busOut = BitVec.ofNat 64 (s.cntShown o % 2 ^ 32) ∧
      t = { s with busOut := t.busOut, hiLatch := t.hiLatch } ∧
      (∀ x : State, x.hiLatch = t.hiLatch → x.mayRead r (o + 4) → ∃ u, exec (.counterLowRead r b false) x = .next u ∧
        u.busOut = BitVec.ofNat 64 (s.cntShown o / 2 ^ 32) ∧
        u = { x with busOut := u.busOut, hiLatch := u.hiLatch }) := by
  have hlow : o % 4 = 0 := by omega
  have hhigh : (o + 4) % 4 = 0 := by omega
  have hread := exec_counterLowRead_permitted s r a o o false ha hlow hlo hm
  rw [State.cntRead_low] at hread
  refine ⟨_, hread, rfl, rfl, fun x hx hxm => ?_⟩
  have hlatch : sget (fun _ => 0) x.hiLatch o = s.cntShown o / 2 ^ 32 + 1 := by rw [hx, sget_sput_self]
  have hnext := exec_counterLowRead_permitted x r b (o + 4) o false hb hhigh hhi hxm
  rw [State.cntRead_high_latched x o (o + 4) _ (by omega) hlatch] at hnext
  exact ⟨_, hnext, rfl, rfl⟩

theorem counterRead_wide (s : State) (r : Req) (a : Word) (o : Nat) (ha : busOffset r a.toNat = some o)
    (h8 : o % 8 = 0) (hlo : counterAt o = some o) (hm : s.mayRead r o) :
    exec (.counterLowRead r a true) s = .next { s with busOut := BitVec.ofNat 64 (s.cntShown o) } := by
  rw [exec_counterLowRead_permitted s r a o o true ha h8 hlo hm, State.cntRead_wide]

theorem exec_glbSnap_permitted (s : State) (r : Req) (v : Word) (hm : s.mayWrite r R.GLB_SNAP) :
    exec (.glbSnap r v) s = .next s.snapStart :=
  congrArg Host.Outcome.next (State.busWrite_glbSnap s r v hm)

theorem exec_snapComplete (s : State) : exec .snapComplete s = .next s.snapEnd := rfl

/-- Settles O10: each clause is the equation of its read, of `snapStart` or of `snapEnd`. -/
theorem countersAreReadWhole : Obligations.CountersAreReadWhole := by
  unfold Obligations.CountersAreReadWhole
  refine ⟨fun s r a b o ha hb h8 hlo hhi hm => ?_, fun s r v => ⟨fun hm hb => ?_, fun hm hb => ?_, fun hb => ?_⟩⟩
  · exact ⟨counterRead_latches s r a b o ha hb h8 hlo hhi hm, _, counterRead_wide s r a o ha h8 hlo hm, rfl, rfl⟩
  · rw [exec_glbSnap_permitted s r v hm, State.snapStart_idle s hb]
    exact ⟨_, rfl, State.set_cntSnap .., State.on_set_self _ _ (by decide) rfl, State.set_cntCopy ..,
      State.sameRegsBut_put { s with cntSnap := s.cnt } F.GLB_STAT_SNAP_BUSY 1, rfl⟩
  · rw [exec_glbSnap_permitted s r v hm, State.snapStart_busy s hb]
  · rw [exec_snapComplete, State.snapEnd_busy s hb]
    exact ⟨_, rfl, State.clr_cntCopy .., State.on_clr_self _ _ (by decide),
      State.sameRegsBut_put { s with cntCopy := s.cntSnap, cntSnap := [] } F.GLB_STAT_SNAP_BUSY 0, rfl⟩

end Sys2Proof.Machine
end

section
/-! PROOF. O8: which commands stop the block, and with what fault; every other command goes on (R11, R55, R56, R59, R592). -/

namespace Sys2Proof.Machine

/-! ### The addresses of a requester's map -/

theorem addrOk_iff (r : Req) (a : Word) (n : Nat) :
    addrOk r a n = true ↔ ∃ o, busOffset r a.toNat = some o ∧ o % n = 0 := by
  cases h : busOffset r a.toNat <;> simp [addrOk, h]

theorem atBus_goes (r : Req) (a : Word) (n : Nat) (k : Nat → State) (h : addrOk r a n = true) :
    Goes (atBus r a n fun o => .next (k o)) := by
  obtain ⟨o, ho, hn⟩ := (addrOk_iff r a n).1 h
  exact ⟨k o, atBus_aligned r a n o _ ho hn⟩

theorem atBus_badAddress (r : Req) (a : Word) (n : Nat) (k : Nat → Out) (h : addrOk r a n = false) :
    atBus r a n k = .fault .badAddress := by
  cases ho : busOffset r a.toNat with
  | none => simp only [atBus, ho]
  | some o =>
    have hn : o % n ≠ 0 := by simpa [addrOk, ho] using h
    simp only [atBus, ho, if_neg hn]

/-- Cupola and SVC see the block from 0x4000_0000 on (R56). -/
theorem busOffset_processor_iff (r : Req) (hr : r ∈ [Req.cupola, .svc]) (x y : Nat) :
    busOffset r y = some x ↔ x ≤ 0xFFFFFF ∧ y = 0x40000000 + x := by
  have hb : busOffset r y = if 0x40000000 ≤ y ∧ y < 0x41000000 then some (y - 0x40000000) else none := by
    rcases List.mem_pair.1 hr with rfl | rfl <;> rfl
  rw [hb, Option.ite_none_right_eq_some, Option.some.injEq]
  omega

/-! ### What a command answers -/

/-- The command makes a register access whose address is outside its requester's map, or not aligned. -/
def MisAddressed (c : Instr) : Prop := ∃ r a n, c.access? = some (r, a, n) ∧ addrOk r a n = false

/-- The command is an SMBus write of more bytes than a block holds (R592). -/
def Overlong (c : Instr) : Prop := ∃ bs pec, c = .mbxWrite bs pec ∧ 255 < bs.length

/-- Each of the five commands that make a register access at an address of their own goes through `atBus`. -/
theorem exec_of_access (c : Instr) (s : State) (r : Req) (a : Word) (n : Nat) (h : c.access? = some (r, a, n)) :
    ∃ k : Nat → State, exec c s = atBus r a n fun o => .next (k o) := by
  cases c
  case deniedAccess _ _ acc => cases acc <;> cases h <;> exact ⟨_, rfl⟩
  case registerWrite | subwordWrite | counterLowRead | regRead => cases h; exact ⟨_, rfl⟩
  all_goals cases h

/-- Every command but those five and the SMBus write answers a next state whatever its operands: the arm of each is a
`.next`. -/
theorem exec_goes_of_unchecked (c : Instr) (s : State) (ha : c.access? = none) (hm : ∀ bs pec, c ≠ .mbxWrite bs pec) :
    Goes (exec c s) := by
  cases c
  case registerWrite | subwordWrite | deniedAccess | counterLowRead | regRead => cases ha
  case mbxWrite bs pec => exact absurd rfl (hm bs pec)
  all_goals exact ⟨_, rfl⟩

theorem exec_mbxWrite (bs : List Byte) (pec : Bool) (s : State) : exec (.mbxWrite bs pec) s =
    if 255 < bs.length then .fault .badLength else .next (s.smbWrite bs pec) := rfl

/-- The one place that says what a command answers: it goes on, or it stops for its address, or for its length. -/
theorem exec_outcomes (c : Instr) (s : State) :
    (Goes (exec c s) ∧ ¬ MisAddressed c ∧ ¬ Overlong c) ∨
    (exec c s = .fault .badAddress ∧ MisAddressed c ∧ ¬ Overlong c) ∨
    (exec c s = .fault .badLength ∧ ¬ MisAddressed c ∧ Overlong c) := by
  rcases ha : c.access? with _ | ⟨r, a, n⟩
  · have hmis : ¬ MisAddressed c := by simp [MisAddressed, ha]
    by_cases hm : ∃ bs pec, c = .mbxWrite bs pec
    · obtain ⟨bs, pec, rfl⟩ := hm
      by_cases hl : 255 < bs.length
      · exact .inr (.inr ⟨by rw [exec_mbxWrite, if_pos hl], hmis, bs, pec, rfl, hl⟩)
      · have hgoes : Goes (exec (.mbxWrite bs pec) s) := ⟨_, by rw [exec_mbxWrite, if_neg hl]⟩
        exact .inl ⟨hgoes, hmis, by rintro ⟨_, _, ⟨⟩, h⟩; exact hl h⟩
    · have hunchecked : ∀ bs pec, c ≠ .mbxWrite bs pec := fun bs pec h => hm ⟨bs, pec, h⟩
      exact .inl ⟨exec_goes_of_unchecked c s ha hunchecked, hmis, fun ⟨bs, pec, h, _⟩ => hm ⟨bs, pec, h⟩⟩
  · have hover : ¬ Overlong c := by rintro ⟨_, _, rfl, _⟩; cases ha
    obtain ⟨k, hk⟩ := exec_of_access c s r a n ha
    cases hok : addrOk r a n with
    | true => exact .inl ⟨hk ▸ atBus_goes r a n k hok, by simp [MisAddressed, ha, hok], hover⟩
    | false => exact .inr (.inl ⟨hk ▸ atBus_badAddress r a n _ hok, ⟨r, a, n, ha, hok⟩, hover⟩)

theorem not_misAddressed_of_wf (c : Instr) (hw : c.wf = true) : ¬ MisAddressed c := by
  rintro ⟨r, a, n, ha, hbad⟩
  have hok := (addrOk_iff r a n).2 (Laws.WellFormedShape.of_wf c hw r a n ha)
  exact absurd (hok.symm.trans hbad) (by decide)

theorem not_overlong_of_wf (c : Instr) (hw : c.wf = true) : ¬ Overlong c := by
  rintro ⟨bs, pec, rfl, hl⟩
  have hb : bs.length ≤ 255 := of_decide_eq_true hw
  omega

theorem exec_goes_of_wf (c : Instr) (s : State) (hw : c.wf = true) : Goes (exec c s) := by
  obtain ⟨hgoes, -⟩ | ⟨-, hmis, -⟩ | ⟨-, -, hover⟩ := exec_outcomes c s
  · exact hgoes
  · exact absurd hmis (not_misAddressed_of_wf c hw)
  · exact absurd hover (not_overlong_of_wf c hw)

theorem exec_ne_refused (c : Instr) (s : State) (x : Refusal) : exec c s ≠ .refused x := by
  obtain ⟨⟨t, h⟩, -⟩ | ⟨h, -⟩ | ⟨h, -⟩ := exec_outcomes c s <;> simp [h]

theorem exec_badAddress_iff (c : Instr) (s : State) : exec c s = .fault .badAddress ↔ MisAddressed c := by
  obtain ⟨⟨t, h⟩, hmis, -⟩ | ⟨h, hmis, -⟩ | ⟨h, hmis, -⟩ := exec_outcomes c s <;> simp [h, hmis]

theorem exec_badLength_iff (c : Instr) (s : State) : exec c s = .fault .badLength ↔ Overlong c := by
  obtain ⟨⟨t, h⟩, -, hover⟩ | ⟨h, -, hover⟩ | ⟨h, -, hover⟩ := exec_outcomes c s <;> simp [h, hover]

/-! ### The obligation -/

/-- Settles O8: which commands stop and which go on is read off `exec_outcomes`, the last clause is the map of Cupola and SVC. -/
theorem wellFormedCommandsGoOn : Obligations.WellFormedCommandsGoOn := by
  unfold Obligations.WellFormedCommandsGoOn
  exact ⟨exec_goes_of_wf,
    fun c s => ⟨exec_ne_refused c s, exec_badAddress_iff c s, exec_badLength_iff c s, busOffset_processor_iff⟩⟩

end Sys2Proof.Machine
end

section
/-! PROOF. The rules of a queue's state and registers: reads after its updates, the frames of these, the event sources of its
group (R75) and its errors (R73). -/

namespace Sys2Proof.Machine

/-! ### A field after the write of another, and a queue's state after an update -/

theorem Fld.apart_bits_iff (o i p j : Nat) : Fld.apart ⟨o, i, 1⟩ ⟨p, j, 1⟩ ↔ ¬ (p = o ∧ j = i) := by
  simp only [Fld.apart]
  omega

theorem State.on_set_bit (s : State) (o i p j : Nat) (hi : i < 32) :
    (s.set ⟨o, i, 1⟩).on ⟨p, j, 1⟩ = (decide (p = o ∧ j = i) || s.on ⟨p, j, 1⟩) := by
  by_cases h : p = o ∧ j = i
  · rw [decide_eq_true h, Bool.true_or, h.1, h.2]
    exact State.on_set_self s ⟨o, i, 1⟩ hi rfl
  · rw [decide_eq_false h, Bool.false_or]
    exact State.on_put_apart s _ _ 1 ((Fld.apart_bits_iff o i p j).2 h)

theorem State.on_clr_bit (s : State) (o i p j : Nat) (hi : i < 32) :
    (s.clr ⟨o, i, 1⟩).on ⟨p, j, 1⟩ = (!decide (p = o ∧ j = i) && s.on ⟨p, j, 1⟩) := by
  by_cases h : p = o ∧ j = i
  · rw [decide_eq_true h, Bool.not_true, Bool.false_and, h.1, h.2]
    exact State.on_clr_self s ⟨o, i, 1⟩ hi
  · rw [decide_eq_false h, Bool.not_false, Bool.true_and]
    exact State.on_put_apart s _ _ 0 ((Fld.apart_bits_iff o i p j).2 h)

@[simp] theorem State.on_qput (s : State) (q : Nat) (x : QueueSt) (f : Fld) : (s.qput q x).on f = s.on f := rfl

@[simp] theorem State.qst_qput_self (s : State) (q : Nat) (x : QueueSt) : (s.qput q x).qst q = x :=
  sget_sput_self _ _ _ _

@[simp] theorem State.qst_set (s : State) (f : Fld) (q : Nat) : (s.set f).qst q = s.qst q := rfl
@[simp] theorem State.qst_clr (s : State) (f : Fld) (q : Nat) : (s.clr f).qst q = s.qst q := rfl
@[simp] theorem State.qst_wr64 (s : State) (lo hi v q : Nat) : (s.wr64 lo hi v).qst q = s.qst q := rfl

/-! ### 64-bit addresses in two registers -/

theorem State.rd_wr64 (s : State) (lo hi v o : Nat) : (s.wr64 lo hi v).rd o =
    if o = hi then BitVec.ofNat 32 (v / 2 ^ 32) else if o = lo then BitVec.ofNat 32 v else s.rd o := by
  simp only [State.wr64, State.rd_wr]

theorem State.rd64_wr64_self (s : State) (lo hi v : Nat) (h : lo ≠ hi) (hv : v < 2 ^ 64) :
    (s.wr64 lo hi v).rd64 lo hi = v := by
  simp only [State.rd64, State.rd_wr64, if_neg h, if_true, BitVec.toNat_ofNat]
  omega

/-- Storing again the address that two registers hold changes neither. -/
theorem State.rd_wr64_rd64 (s : State) (lo hi o : Nat) : (s.wr64 lo hi (s.rd64 lo hi)).rd o = s.rd o := by
  have hl := (s.rd lo).isLt
  have hh := (s.rd hi).isLt
  rw [State.rd_wr64, State.rd64]
  split_ifs with h1 h2
  · subst h1
    apply BitVec.eq_of_toNat_eq
    rw [BitVec.toNat_ofNat]
    omega
  · subst h2
    apply BitVec.eq_of_toNat_eq
    rw [BitVec.toNat_ofNat]
    omega
  · rfl

/-! ### Frames, from one update to the next -/

theorem Keeps.sameMemory {s t : State} (h : Keeps true s t) : SameMemory s t := by
  obtain ⟨hhost, hsvc, hcup, hflash, hotp⟩ := h.same rfl
  exact ⟨fun _ => by rw [hhost], fun _ => by rw [hsvc], fun _ => by rw [hcup], fun _ => by rw [hflash], hotp⟩

theorem SameRegsBut.refl (os : List Nat) (s : State) : SameRegsBut os s s := fun _ _ => rfl

theorem SameRegsBut.trans {os : List Nat} {s t u : State} (h : SameRegsBut os s t) (k : SameRegsBut os t u) :
    SameRegsBut os s u := fun o ho => (k o ho).trans (h o ho)

theorem SameRegsBut.mono {os ps : List Nat} {s t : State} (h : SameRegsBut os s t) (hs : ∀ o ∈ os, o ∈ ps) :
    SameRegsBut ps s t := fun o ho => h o fun hm => ho (hs o hm)

theorem SameRegsBut.put {os : List Nat} {s t : State} (h : SameRegsBut os s t) (f : Fld) (x : Nat) (hf : f.off ∈ os) :
    SameRegsBut os s (t.put f x) :=
  h.trans ((State.sameRegsBut_put t f x).mono (by simpa using hf))

theorem SameRegsBut.qput {os : List Nat} {s t : State} (h : SameRegsBut os s t) (q : Nat) (x : QueueSt) :
    SameRegsBut os s (t.qput q x) := h

/-- The two registers of SQ_CUR are kept together. -/
theorem SameRegsBut.sqCur {os : List Nat} {s t : State} (h : SameRegsBut os s t) (q : Nat) (hlo : R.SQ_CUR_LO q ∉ os)
    (hhi : R.SQ_CUR_HI q ∉ os) : t.sqCur q = s.sqCur q := by
  rw [State.sqCur, State.rd64, h _ hlo, h _ hhi, State.sqCur, State.rd64]

theorem SameRegsBut.on {os : List Nat} {s t : State} (h : SameRegsBut os s t) (f : Fld) (hf : f.off ∉ os) :
    t.on f = s.on f := by
  rw [State.on, State.get, h _ hf, State.on, State.get]

/-! ### The event sources of a queue's group -/

/-- The queue blocks lie above every register that an event touches (R55). -/
theorem not_mem_eventRegs (o : Nat) (h : 0x100000 ≤ o) : o ∉ eventRegs := by
  simp only [eventRegs, R.EVC_SAT, R.EVC_PEND, List.mem_cons, List.mem_map, List.mem_range, not_or, not_exists]
  exact ⟨by omega, by omega⟩

theorem ne_evcPend_of_not_mem (o n : Nat) (ho : o ∉ eventRegs) (hn : n < 256) : o ≠ R.EVC_PEND 0 + n / 32 * 4 := by
  rintro rfl
  refine ho (List.mem_cons_of_mem _ (List.mem_map.2 ⟨n / 32, List.mem_range.2 (by omega), ?_⟩))
  simp only [R.EVC_PEND]

@[simp] theorem State.inc_jqm (s : State) (o : Nat) : (s.inc o).jqm = s.jqm := by
  unfold State.inc State.count
  dsimp only
  split
  · rfl
  · split <;> rfl

@[simp] theorem State.msix_jqm (s : State) (fn vec : Nat) : (s.msix fn vec).jqm = s.jqm := by
  unfold State.msix
  split <;> simp

@[simp] theorem State.evcDeliver_jqm (s : State) (n : Nat) : (s.evcDeliver n).jqm = s.jqm := by
  have hirq : ∀ (b : Bool) (x : State), (if b = true then x.irqCup n else x).jqm = x.jqm := by
    intro b x
    cases b <;> rfl
  unfold State.evcDeliver
  split
  · rfl
  · dsimp only
    rw [hirq]
    split
    · split <;> simp
    · rfl
    · simp
    · split <;> simp

@[simp] theorem State.raise_jqm (s : State) (n : Nat) : (s.raise n).jqm = s.jqm := by
  unfold State.raise countIntn
  split
  · rfl
  · split <;> simp

@[simp] theorem State.level_jqm (s : State) (n : Nat) (b : Bool) : (s.level n b).jqm = s.jqm := by
  unfold State.level
  split
  · split <;> simp
  · rfl

@[simp] theorem State.syncQ_jqm (s : State) (q : Nat) : (s.syncQ q).jqm = s.jqm := by
  simp only [State.syncQ, State.syncGroup, State.level_jqm]

@[simp] theorem State.qst_syncQ (s : State) (p q : Nat) : (s.syncQ p).qst q = s.qst q := by
  simp only [State.qst, State.syncQ_jqm]

/-- The sources of a queue's group touch the event registers only (R75). -/
theorem State.sameRegsBut_syncQ (s : State) (q : Fin 4096) : SameRegsBut eventRegs s (s.syncQ q) := by
  intro o ho
  have hsat : o ≠ R.EVC_SAT := fun h => ho (h ▸ List.mem_cons_self ..)
  have hg : groupOf q < 32 := by
    have := q.isLt
    unfold groupOf
    omega
  rw [State.syncQ, State.syncGroup, State.rd_level _ _ _ _ (ne_evcPend_of_not_mem o _ ho (by omega)) hsat,
    State.rd_level _ _ _ _ (ne_evcPend_of_not_mem o _ ho (by omega)) hsat]

theorem State.on_syncQ (s : State) (q : Fin 4096) (f : Fld) (hf : 0x100000 ≤ f.off) : (s.syncQ q).on f = s.on f :=
  (s.sameRegsBut_syncQ q).on f (not_mem_eventRegs _ hf)

theorem State.on_syncQ_qStat (s : State) (q : Fin 4096) (i : Nat) :
    (s.syncQ q).on ⟨R.Q_STAT q, i, 1⟩ = s.on ⟨R.Q_STAT q, i, 1⟩ :=
  s.on_syncQ q _ (by simp only [R.Q_STAT]; omega)

theorem State.on_syncQ_qErr (s : State) (q : Fin 4096) (i : Nat) :
    (s.syncQ q).on ⟨R.Q_ERR q, i, 1⟩ = s.on ⟨R.Q_ERR q, i, 1⟩ :=
  s.on_syncQ q _ (by simp only [R.Q_ERR]; omega)

theorem SameRegsBut.syncQ {os : List Nat} {s t : State} (h : SameRegsBut os s t) (q : Fin 4096)
    (hos : ∀ o ∈ eventRegs, o ∈ os) : SameRegsBut os s (t.syncQ q) :=
  h.trans ((t.sameRegsBut_syncQ q).mono hos)

/-! ### An error of a queue (R73) -/

/-- What a cause of Q_ERR[2:0] leaves of a queue: no read is wanted, fetching has stopped, and nothing but Q_ERR, Q_STAT
and the event registers has changed in the register file (R73). -/
structure QueueStops (q : Nat) (f : Fld) (s t : State) : Prop where
  cause : t.on f = true
  errStop : t.on (F.Q_STAT_ERR_STOP q) = true
  errPend : t.on (F.Q_STAT_ERR_PEND q) = true
  chainIdle : t.on (F.Q_STAT_CHAIN_IDLE q) = s.on (F.Q_STAT_CHAIN_IDLE q)
  fetch : (t.qst q).fetch = none
  regs : SameRegsBut (R.Q_ERR q :: R.Q_STAT q :: eventRegs) s t
  mem : SameMemory s t

theorem State.qError_of_stops (s : State) (q : Nat) (f : Fld) (h : f.lo ≤ 2) : s.qError q f =
    ((((s.set f).set (F.Q_STAT_ERR_PEND q)).set (F.Q_STAT_ERR_STOP q)).qput q { s.qst q with fetch := none }).syncQ q := by
  simp only [State.qError, if_pos h, State.qst_set]

theorem State.qError_of_not_stops (s : State) (q : Nat) (f : Fld) (h : ¬ f.lo ≤ 2) :
    s.qError q f = ((s.set f).set (F.Q_STAT_ERR_PEND q)).syncQ q := by
  simp only [State.qError, if_neg h]

theorem State.sameMemory_qError (s : State) (q : Nat) (f : Fld) : SameMemory s (s.qError q f) :=
  (State.qError_keeps q f (Keeps.refl true s)).sameMemory

theorem State.qError_stops (s : State) (q : Fin 4096) (n : Nat) (hn : n ≤ 2) :
    QueueStops q ⟨R.Q_ERR q, n, 1⟩ s (s.qError q ⟨R.Q_ERR q, n, 1⟩) := by
  have hmem := s.sameMemory_qError q ⟨R.Q_ERR q, n, 1⟩
  rw [State.qError_of_stops _ _ _ hn] at hmem ⊢
  have hbit : n < 32 := by omega
  constructor
  case mem => exact hmem
  case fetch => simp
  case regs =>
    exact (((((SameRegsBut.refl _ s).put _ 1 (by simp)).put _ 1 (by simp)).put _ 1 (by simp)).qput q _).syncQ q
      (by simp +contextual)
  case cause =>
    rw [State.on_syncQ_qErr, State.on_qput]
    simp [State.on_set_bit, hbit]
  all_goals
    rw [State.on_syncQ_qStat, State.on_qput]
    simp [State.on_set_bit, R.Q_ERR, R.Q_STAT, hbit]

end Sys2Proof.Machine
end

section
/-! PROOF. The reads that a queue wants (R88, R89), the doorbell (R92) and the clear of PAUSE (R80). -/

namespace Sys2Proof.Machine

/-! ### Wanting a read (R88, R89) -/

/-- The register bits that let or keep a queue from reading descriptors (R88). -/
def fetchGates (q : Nat) : List Fld :=
  [F.Q_CTL_EN q, F.Q_CTL_PAUSE q, F.Q_STAT_FLUSHING q, F.Q_STAT_ERR_STOP q, F.Q_STAT_CQ_STALL q, F.FLT_STAT_QUIESCED]

/-- Whether a queue may read rests on those bits, its jobs, its descriptor in hand and power, not on the read it wants. -/
theorem State.fetchOpen_congr (s t : State) (q : Nat) (hjobs : t.jqm.jobs = s.jqm.jobs)
    (hhand : (t.qst q).hand = (s.qst q).hand) (hpower : t.power = s.power) (hon : ∀ f ∈ fetchGates q, t.on f = s.on f) :
    t.fetchOpen q = s.fetchOpen q := by
  simp only [fetchGates, List.forall_mem_cons] at hon
  obtain ⟨hen, hpause, hflush, hstop, hstall, hquiet, -⟩ := hon
  have hin : t.inflight q = s.inflight q := by rw [State.inflight, State.jobsOf, hjobs, State.inflight, State.jobsOf]
  simp only [State.fetchOpen, hin, hhand, hpower, hen, hpause, hflush, hstop, hstall, hquiet]

theorem State.fetchOpen_qput (s : State) (q : Nat) (x : QueueSt) (h : x.hand = (s.qst q).hand) :
    (s.qput q x).fetchOpen q = s.fetchOpen q :=
  State.fetchOpen_congr s _ q rfl (by rw [State.qst_qput_self, h]) rfl fun _ _ => rfl

/-- KICK_PEND and CHAIN_IDLE are none of the bits. -/
theorem State.fetchOpen_clr (s : State) (q : Nat) (f : Fld) (h : f = F.Q_STAT_KICK_PEND q ∨ f = F.Q_STAT_CHAIN_IDLE q) :
    (s.clr f).fetchOpen q = s.fetchOpen q := by
  refine State.fetchOpen_congr s _ q rfl rfl rfl ?_
  have hflt : R.FLT_STAT ≠ R.Q_STAT q := by
    simp only [R.FLT_STAT, R.Q_STAT]
    omega
  simp only [fetchGates, List.forall_mem_cons]
  rcases h with rfl | rfl <;> simp [State.on_clr_bit, hflt]

theorem State.fetchOpen_wr64_sqCur (s : State) (q a : Nat) :
    (s.wr64 (R.SQ_CUR_LO q) (R.SQ_CUR_HI q) a).fetchOpen q = s.fetchOpen q := by
  refine State.fetchOpen_congr s _ q rfl rfl rfl ?_
  have hon : ∀ f : Fld, f.off ≠ R.SQ_CUR_LO q → f.off ≠ R.SQ_CUR_HI q →
      (s.wr64 (R.SQ_CUR_LO q) (R.SQ_CUR_HI q) a).on f = s.on f := fun f hlo hhi => by
    simp only [State.on, State.get, State.rd_wr64, if_neg hlo, if_neg hhi]
  simp only [fetchGates, List.forall_mem_cons]
  refine ⟨?_, ?_, ?_, ?_, ?_, ?_, by simp⟩ <;> refine hon _ ?_ ?_ <;>
    simp only [R.Q_CTL, R.Q_STAT, R.FLT_STAT, R.SQ_CUR_LO, R.SQ_CUR_HI] <;> omega

/-- A wanted read leaves everything but JQM and SQ_CUR alone. -/
theorem State.wantFetch_frame (s : State) (q : Nat) (k : FetchKind) (a : Nat) :
    s.wantFetch q k a = { s with jqm := (s.wantFetch q k a).jqm, regs := (s.wantFetch q k a).regs } := by
  unfold State.wantFetch
  dsimp only
  split <;> rfl

@[simp] theorem State.qst_wantFetch (s : State) (q : Nat) (k : FetchKind) (a : Nat) : (s.wantFetch q k a).qst q =
    { s.qst q with fetch := some ⟨k, a, s.fetchOpen q⟩, parked := k == .reread } := by
  unfold State.wantFetch
  dsimp only
  split <;> simp only [State.qst_wr64, State.qst_qput_self]

theorem State.wantFetch_reread (s : State) (q a : Nat) : s.wantFetch q .reread a =
    s.qput q { s.qst q with fetch := some ⟨.reread, a, s.fetchOpen q⟩, parked := true } := by
  simp [State.wantFetch]

theorem State.sameRegsBut_wantFetch (s : State) (q : Nat) (k : FetchKind) (a : Nat) :
    SameRegsBut [R.SQ_CUR_LO q, R.SQ_CUR_HI q] s (s.wantFetch q k a) := by
  intro o ho
  simp only [List.mem_cons, List.not_mem_nil, or_false, not_or] at ho
  obtain ⟨hlo, hhi⟩ := ho
  unfold State.wantFetch
  dsimp only
  split
  · rw [State.rd_wr64, if_neg hhi, if_neg hlo]
    rfl
  · rfl

/-- A read of the descriptor at SQ_CUR leaves every register as it is. -/
theorem State.sameRegsBut_wantFetch_sqCur (s : State) (q : Nat) (k : FetchKind) (a : Nat) (ha : a = s.sqCur q) :
    SameRegsBut [] s (s.wantFetch q k a) := by
  intro o _
  subst ha
  unfold State.wantFetch
  dsimp only
  split
  · exact State.rd_wr64_rd64 (s.qput q _) _ _ o
  · rfl

/-- A read of another descriptor sets SQ_CUR when it is issued (R89). -/
theorem State.sqCur_wantFetch (s : State) (q : Nat) (k : FetchKind) (a : Nat) (hk : k ≠ .reread) (ha : a < 2 ^ 64) :
    (s.wantFetch q k a).sqCur q = if s.fetchOpen q = true then a else s.sqCur q := by
  have hne : R.SQ_CUR_LO q ≠ R.SQ_CUR_HI q := by simp [R.SQ_CUR_LO, R.SQ_CUR_HI]
  cases hgo : s.fetchOpen q
  · simp only [State.wantFetch, hgo, Bool.false_and, Bool.false_eq_true, if_false]
    rfl
  · simp only [State.wantFetch, hgo, bne_iff_ne.2 hk, Bool.and_self, if_true]
    exact State.rd64_wr64_self _ _ _ a hne ha

theorem State.sqCur_clr_qStat (s : State) (q i : Nat) : (s.clr ⟨R.Q_STAT q, i, 1⟩).sqCur q = s.sqCur q :=
  (s.sameRegsBut_put ⟨R.Q_STAT q, i, 1⟩ 0).sqCur q (by simp [R.SQ_CUR_LO, R.Q_STAT]) (by simp [R.SQ_CUR_HI, R.Q_STAT])

theorem State.fetchOpen_wantFetch (s : State) (q : Nat) (k : FetchKind) (a : Nat) :
    (s.wantFetch q k a).fetchOpen q = s.fetchOpen q := by
  unfold State.wantFetch
  dsimp only
  split
  · exact (State.fetchOpen_wr64_sqCur _ q a).trans (State.fetchOpen_qput s q _ rfl)
  · exact State.fetchOpen_qput s q _ rfl

/-- A read that could be issued was issued when it was wanted. -/
theorem State.issueWanted_wantFetch (s : State) (q : Nat) (k : FetchKind) (a : Nat) :
    (s.wantFetch q k a).issueWanted q = s.wantFetch q k a := by
  simp only [State.issueWanted, State.qst_wantFetch, State.fetchOpen_wantFetch, Bool.not_and_self, Bool.false_eq_true,
    if_false]

/-! ### A doorbell (R92) -/

theorem exec_sqKick_permitted (s : State) (r : Req) (q : Fin 4096) (v : Word) (hm : s.mayWrite r (R.SQ_KICK q)) :
    exec (.sqKick r q v) s = .next (s.kick q) :=
  congrArg Host.Outcome.next (State.gateW_granted s r (R.SQ_KICK q) _ hm)

theorem State.kick_ignored (s : State) (q : Nat)
    (h : s.on (F.Q_CTL_EN q) = false ∨ s.on (F.Q_STAT_ERR_STOP q) = true) :
    s.kick q = s.qError q (F.Q_ERR_KICK_IGNORED q) := by
  rcases h with h | h <;> simp [State.kick, h]

theorem State.kick_held (s : State) (q : Nat) (hen : s.on (F.Q_CTL_EN q) = true)
    (hstop : s.on (F.Q_STAT_ERR_STOP q) = false)
    (h : s.on (F.Q_CTL_PAUSE q) = true ∨ s.on F.FLT_STAT_QUIESCED = true ∨ s.on (F.Q_STAT_FLUSHING q) = true) :
    s.kick q = s.set (F.Q_STAT_KICK_PEND q) := by
  rcases h with h | h | h <;> simp [State.kick, hen, hstop, h]

/-- A queue acts on a doorbell now: it is enabled, has not stopped, and nothing holds its fetching back. -/
structure State.kickActs (s : State) (q : Nat) : Prop where
  enabled : s.on (F.Q_CTL_EN q) = true
  running : s.on (F.Q_STAT_ERR_STOP q) = false
  unpaused : s.on (F.Q_CTL_PAUSE q) = false
  unquiesced : s.on F.FLT_STAT_QUIESCED = false
  unflushed : s.on (F.Q_STAT_FLUSHING q) = false

section
variable (s : State) (q : Nat) (h : s.kickActs q)
include h

/-- The kick of a read that stands issued, or of a fetch of NEXT, waits; with a first fetch or a re-read not yet issued it
counts as one. -/
theorem State.kick_wanted (f : Fetch) (hf : (s.qst q).fetch = some f) :
    s.kick q = if f.issued = true ∨ f.kind = .next then s.set (F.Q_STAT_KICK_PEND q) else s := by
  simp [State.kick, h.enabled, h.running, h.unpaused, h.unquiesced, h.unflushed, hf]

theorem State.kick_parked (hf : (s.qst q).fetch = none) (hp : (s.qst q).parked = true) :
    s.kick q = s.wantFetch q .reread (s.sqCur q) := by
  simp [State.kick, h.enabled, h.running, h.unpaused, h.unquiesced, h.unflushed, hf, hp]

theorem State.kick_awaiting (hf : (s.qst q).fetch = none) (hp : (s.qst q).parked = false)
    (ha : s.on (F.Q_STAT_AWAIT_FIRST q) = true) (hh : (s.qst q).hand = none) :
    s.kick q = s.wantFetch q .first (s.sqCur q) := by
  simp [State.kick, h.enabled, h.running, h.unpaused, h.unquiesced, h.unflushed, hf, hp, ha, hh]

theorem State.kick_pends (hf : (s.qst q).fetch = none) (hp : (s.qst q).parked = false)
    (hb : s.on (F.Q_STAT_AWAIT_FIRST q) = false ∨ (s.qst q).hand ≠ none) :
    s.kick q = s.set (F.Q_STAT_KICK_PEND q) := by
  have hno : (s.on (F.Q_STAT_AWAIT_FIRST q) && (s.qst q).hand.isNone) = false := by
    simpa [imp_iff_not_or, Option.isSome_iff_ne_none] using hb
  simp only [State.kick, h.enabled, h.running, h.unpaused, h.unquiesced, h.unflushed, hf, hp, hno]
  simp

end

/-! ### A clear of PAUSE (R80) -/

theorem exec_pauseClear_permitted (s : State) (r : Req) (q : Fin 4096) (w : Word) (hm : s.mayWrite r (R.Q_CTL q)) :
    exec (.pauseClear r q w) s = .next (s.qCtlWrite q (w &&& ~~~4)) :=
  congrArg Host.Outcome.next (State.gateW_granted s r (R.Q_CTL q) _ hm)

/-- The written word keeps EN at 1 and clears PAUSE, and has no other effect than DCHK_EN and CPL_2STEP (R68). -/
structure Unpauses (v : Word) : Prop where
  en : bit v.toNat 0 = true
  pause : bit v.toNat 2 = false
  flush : bit v.toNat 8 = false
  snap : bit v.toNat 9 = false
  clear : bit v.toNat 10 = false

theorem unpauses_of_mask (w : Word) (hw : w &&& 0x701 = 1) : Unpauses (w &&& ~~~4) := by
  have hval : ∀ i, bit (w &&& ~~~4).toNat i = (w.getLsbD i && (~~~(4 : Word)).getLsbD i) := fun i => by
    rw [bit, BitVec.testBit_toNat, BitVec.getLsbD_and]
  have hmask : ∀ i, (w.getLsbD i && (0x701 : Word).getLsbD i) = (1 : Word).getLsbD i := fun i => by
    rw [← BitVec.getLsbD_and, hw]
  constructor <;> rw [hval]
  · simpa using hmask 0
  · exact Bool.and_eq_false_imp.2 fun _ => by decide
  · simpa using hmask 8
  · simpa using hmask 9
  · simpa using hmask 10

/-- With PAUSE at 1, such a write touches Q_CTL, and then the queue goes on. -/
theorem State.qCtlWrite_unpause (s : State) (q : Nat) (v : Word) (hv : Unpauses v)
    (hen : s.on (F.Q_CTL_EN q) = true) (hpause : s.on (F.Q_CTL_PAUSE q) = true) :
    ∃ u, s.qCtlWrite q v = (u.resumeKick q).issueWanted q ∧ u.qst q = s.qst q ∧ SameRegsBut [R.Q_CTL q] s u ∧
      Keeps true s u := by
  have hkeep : ∀ (x : State) (i j : Nat) (b : Bool), i ≠ j →
      (x.putB ⟨R.Q_CTL q, i, 1⟩ b).on ⟨R.Q_CTL q, j, 1⟩ = x.on ⟨R.Q_CTL q, j, 1⟩ := fun x i j b h =>
    State.on_put_apart x _ _ _ ((Fld.apart_bits_iff _ i _ j).2 fun e => h e.2.symm)
  refine ⟨((s.putB (F.Q_CTL_DCHK_EN q) (bit v.toNat 1)).putB (F.Q_CTL_CPL_2STEP q) (bit v.toNat 3)).clr (F.Q_CTL_PAUSE q),
    ?_, rfl, ?_, ?_⟩
  · simp [State.qCtlWrite, State.queuePause, hv.en, hv.pause, hv.flush, hv.snap, hv.clear, hkeep, hen, hpause]
  · exact (((SameRegsBut.refl _ s).put _ _ (by simp)).put _ _ (by simp)).put _ 0 (by simp)
  · exact State.clr_keeps _ (State.putB_keeps _ _ (State.putB_keeps _ _ (Keeps.refl true s)))

/-- A kick that waited is acted on, and its read is issued where it may be. -/
theorem State.resumeKick_acts (s : State) (q : Nat) (hk : s.on (F.Q_STAT_KICK_PEND q) = true)
    (hf : (s.qst q).fetch = none) (hh : (s.qst q).hand = none)
    (ha : s.on (F.Q_STAT_AWAIT_FIRST q) = true ∨ (s.qst q).parked = true) :
    (s.resumeKick q).issueWanted q = (s.clr (F.Q_STAT_KICK_PEND q)).wantFetch q
      (if s.on (F.Q_STAT_AWAIT_FIRST q) = true then .first else .reread) (s.sqCur q) := by
  rw [← State.issueWanted_wantFetch]
  by_cases hfirst : s.on (F.Q_STAT_AWAIT_FIRST q) = true
  · simp [State.resumeKick, hk, hf, hh, hfirst]
  · have hparked := ha.resolve_left hfirst
    simp [State.resumeKick, hk, hf, hh, hfirst, hparked]

theorem pauseClear_acts_on_kick (s : State) (r : Req) (q : Fin 4096) (w : Word) (hm : s.mayWrite r (R.Q_CTL q))
    (hw : w &&& 0x701 = 1) (hen : s.on (F.Q_CTL_EN q) = true) (hpause : s.on (F.Q_CTL_PAUSE q) = true)
    (hk : s.on (F.Q_STAT_KICK_PEND q) = true) (hf : (s.qst q).fetch = none) (hh : (s.qst q).hand = none)
    (ha : s.on (F.Q_STAT_AWAIT_FIRST q) = true ∨ (s.qst q).parked = true) :
    ∃ t b, exec (.pauseClear r q w) s = .next t ∧ t.on (F.Q_STAT_KICK_PEND q) = false ∧ (t.qst q).fetch =
      some ⟨if s.on (F.Q_STAT_AWAIT_FIRST q) = true then .first else .reread, s.sqCur q, b⟩ ∧
      SameRegsBut [R.Q_CTL q, R.Q_STAT q] s t ∧ SameMemory s t := by
  obtain ⟨u, hwrite, hqst, hctl, hkeep⟩ := s.qCtlWrite_unpause q _ (unpauses_of_mask w hw) hen hpause
  have hstat : ∀ j, u.on ⟨R.Q_STAT q, j, 1⟩ = s.on ⟨R.Q_STAT q, j, 1⟩ := fun j =>
    hctl.on _ (by simp [R.Q_CTL, R.Q_STAT])
  have hregs : SameRegsBut [R.Q_CTL q, R.Q_STAT q] s (u.clr (F.Q_STAT_KICK_PEND q)) :=
    (hctl.mono (by simp)).put _ 0 (by simp)
  have hcur : u.sqCur q = s.sqCur q := hctl.sqCur q (by simp [R.Q_CTL]) (by simp [R.Q_CTL])
  have hread := u.resumeKick_acts q ((hstat 5).trans hk) (hqst ▸ hf) (hqst ▸ hh) (by rwa [hstat, hqst])
  have hsame := State.sameRegsBut_wantFetch_sqCur _ q
    (if u.on (F.Q_STAT_AWAIT_FIRST q) = true then .first else .reread) _ (u.sqCur_clr_qStat q 5).symm
  have hexec := exec_pauseClear_permitted s r q w hm
  rw [hwrite, hread] at hexec
  refine ⟨_, (u.clr (F.Q_STAT_KICK_PEND q)).fetchOpen q, hexec, ?_, ?_, ?_, ?_⟩
  · exact (hsame.on _ (by simp)).trans (State.on_clr_self u _ (by simp))
  · simp [hstat, hcur]
  · exact hregs.trans (hsame.mono (by simp))
  · exact (State.wantFetch_keeps _ _ _ (State.clr_keeps _ hkeep)).sameMemory

end Sys2Proof.Machine
end

section
/-! PROOF. The end of a descriptor read (R89, R95) and of a re-read (R90, R91). -/

namespace Sys2Proof.Machine

/-! ### The end of a descriptor read (R89, R95) -/

theorem exec_descFetchComplete (s : State) (q : Fin 4096) : exec (.descFetchComplete q) s = .next (s.fetchArrive q) := rfl

theorem exec_rereadComplete (s : State) (q : Fin 4096) : exec (.rereadComplete q) s = .next (s.rereadArrive q) := rfl

/-- A re-read that saw END = 0 has ended: the queue is parked no more, and CHAIN_IDLE is 0 (R91). -/
def State.leavePark (s : State) (q : Nat) : State :=
  (s.qput q { s.qst q with fetch := none, parked := false }).clr (F.Q_STAT_CHAIN_IDLE q)

section
variable (s : State) (q : Nat) (f : Fetch) (hf : (s.qst q).fetch = some f) (hi : f.issued = true)
include hf hi

theorem State.fetchArrive_fault (hk : f.kind ≠ .reread) (hd : s.dmaRead (s.qOwner q) f.addr 128 = none) :
    s.fetchArrive q = s.qError q (if f.kind = .first then F.Q_ERR_SQ_FAULT q else F.Q_ERR_NEXT_BAD q) := by
  simp [State.fetchArrive, hf, hi, hk, hd]

theorem State.fetchArrive_data (hk : f.kind ≠ .reread) (d : List Byte)
    (hd : s.dmaRead (s.qOwner q) f.addr 128 = some d) : s.fetchArrive q = s.fetched q f.addr d := by
  simp [State.fetchArrive, hf, hi, hk, hd]

theorem State.rereadArrive_fault (hk : f.kind = .reread)
    (hd : s.dmaRead (s.qOwner q) (f.addr + 8) 4 = none ∨ s.dmaRead (s.qOwner q) (f.addr + 112) 8 = none) :
    s.rereadArrive q = s.qError q (F.Q_ERR_NEXT_BAD q) := by
  rcases hd with hd | hd <;> simp [State.rereadArrive, hf, hi, hk, hd]

theorem State.rereadArrive_end (hk : f.kind = .reread) (fl nx : List Byte)
    (hfl : s.dmaRead (s.qOwner q) (f.addr + 8) 4 = some fl) (hnx : s.dmaRead (s.qOwner q) (f.addr + 112) 8 = some nx)
    (hend : bit (leNat fl) 0 = true) : s.rereadArrive q = s.park q := by
  simp [State.rereadArrive, hf, hi, hk, hfl, hnx, hend]

theorem State.rereadArrive_next (hk : f.kind = .reread) (fl nx : List Byte)
    (hfl : s.dmaRead (s.qOwner q) (f.addr + 8) 4 = some fl) (hnx : s.dmaRead (s.qOwner q) (f.addr + 112) 8 = some nx)
    (hend : bit (leNat fl) 0 = false) : s.rereadArrive q = (s.leavePark q).followNext q (leNat nx) := by
  simp [State.rereadArrive, State.leavePark, hf, hi, hk, hfl, hnx, hend]

end

theorem descFetchComplete_fault (s : State) (q : Fin 4096) (f : Fetch) (hf : (s.qst q).fetch = some f)
    (hi : f.issued = true) (hk : f.kind ≠ .reread) (hd : s.dmaRead (s.qOwner q) f.addr 128 = none) :
    ∃ t, exec (.descFetchComplete q) s = .next t ∧
      QueueStops q (if f.kind = .first then F.Q_ERR_SQ_FAULT q else F.Q_ERR_NEXT_BAD q) s t := by
  refine ⟨_, exec_descFetchComplete s q, ?_⟩
  rw [s.fetchArrive_fault q f hf hi hk hd]
  split
  · exact s.qError_stops q 1 (by decide)
  · exact s.qError_stops q 0 (by decide)

/-! ### Stages 1 to 6 pass (R95) -/

theorem State.reserveAll_ok_frame (ws : List (Nat × Nat × Bool)) (s u : State) (is : List Nat)
    (h : s.reserveAll ws = .ok (is, u)) : u = { s with keep := u.keep } := by
  induction ws generalizing s is with
  | nil =>
    cases h
    rfl
  | cons w ws ih =>
    obtain ⟨target, n, lobj⟩ := w
    rw [State.reserveAll] at h
    split at h
    · cases h
    · split at h
      · next hrest =>
        cases h
        have hkeep := ih _ _ hrest
        exact hkeep
      · cases h

/-- The checks of stages 4 to 6 that a descriptor passes change nothing but the slots of KEEP. -/
theorem State.stage456_ok_frame (s u : State) (q : Nat) (d : List Byte) (is : List Nat)
    (h : s.stage456 q d = .ok (is, u)) : u = { s with keep := u.keep } := by
  unfold State.stage456 at h
  dsimp only at h
  iterate 7
    split at h
    · cases h
  next hslots =>
    split at h
    · cases h
    · cases h
      exact State.reserveAll_ok_frame _ _ _ _ hslots

/-- A descriptor has come into the hand, not yet checked: the state in which its checks run (R95). -/
def State.takeHand (s : State) (q addr : Nat) (d : List Byte) : State :=
  (s.qput q { s.qst q with fetch := none, parked := false, hand := some ⟨addr, d, false, [], none⟩ }).clr
    (F.Q_STAT_AWAIT_FIRST q)

section
variable (s : State) (q addr : Nat) (d : List Byte)

theorem State.qst_takeHand : (s.takeHand q addr d).qst q =
    { s.qst q with fetch := none, parked := false, hand := some ⟨addr, d, false, [], none⟩ } := by
  simp only [State.takeHand, State.qst_clr, State.qst_qput_self]

theorem State.on_takeHand_awaitFirst : (s.takeHand q addr d).on (F.Q_STAT_AWAIT_FIRST q) = false :=
  State.on_clr_self _ _ (by simp)

theorem State.inflight_takeHand : (s.takeHand q addr d).inflight q = s.inflight q := rfl

theorem State.sameRegsBut_takeHand : SameRegsBut [R.Q_STAT q] s (s.takeHand q addr d) :=
  ((SameRegsBut.refl _ s).qput q _).put _ 0 (by simp)

theorem State.takeHand_keeps : Keeps true s (s.takeHand q addr d) :=
  State.clr_keeps _ (State.qput_keeps q _ (Keeps.refl true s))

section
variable (h1 : stage1 ((s.takeHand q addr d).on (F.Q_CTL_DCHK_EN q)) d = none)
  (h23 : (s.takeHand q addr d).stage23 d = none)
include h1 h23

theorem State.fetched_fence (hop : dOpcode d = opFence) :
    s.fetched q addr d = (s.takeHand q addr d).set (F.Q_STAT_FENCE_WAIT q) := by
  rw [State.takeHand] at h1 h23 ⊢
  simp only [State.fetched, h1, h23, hop, true_or, if_true]

theorem State.fetched_unfenced (hop : dOpcode d ≠ opFence) (hf : dFence d = false ∨ s.inflight q = 0) :
    s.fetched q addr d = (s.takeHand q addr d).enlist q := by
  have hno : ¬ (dFence d = true ∧ 0 < (s.takeHand q addr d).inflight q) := by
    rw [State.inflight_takeHand]
    rcases hf with hf | hf <;> simp [hf]
  rw [State.takeHand] at h1 h23 hno ⊢
  simp only [State.fetched, h1, h23, hop, hno, or_self, if_false]

end

end

theorem State.withList_of_ne_derive (s : State) (q : Nat) (d : List Byte) (h : dOpcode d ≠ opDerive) :
    s.withList q d = d := if_neg h

theorem State.enlist_ok (s u : State) (q : Nat) (h : Hand) (is : List Nat) (hh : (s.qst q).hand = some h)
    (hok : s.stage456 q h.desc = .ok (is, u)) : s.enlist q =
      u.qput q { u.qst q with hand := some { h with desc := s.withList q h.desc, checked := true, targets := is } } := by
  simp only [State.enlist, hh, hok]

section
variable (s : State) (q : Fin 4096) (f : Fetch) (hf : (s.qst q).fetch = some f) (hi : f.issued = true)
  (hk : f.kind ≠ .reread) (d : List Byte) (hd : s.dmaRead (s.qOwner q) f.addr 128 = some d)
  (h1 : stage1 ((s.takeHand q f.addr d).on (F.Q_CTL_DCHK_EN q)) d = none)
  (h23 : (s.takeHand q f.addr d).stage23 d = none)
include hf hi hk hd h1 h23

/-- A FENCE descriptor without fault waits in the hand (R113). -/
theorem descFetchComplete_fence (hop : dOpcode d = opFence) :
    ∃ t, exec (.descFetchComplete q) s = .next t ∧ (t.qst q).hand = some ⟨f.addr, d, false, [], none⟩ ∧
      (t.qst q).fetch = none ∧ t.on (F.Q_STAT_FENCE_WAIT q) = true ∧ t.on (F.Q_STAT_AWAIT_FIRST q) = false ∧
      SameRegsBut [R.Q_STAT q] s t ∧ SameMemory s t := by
  have hexec := exec_descFetchComplete s q
  rw [s.fetchArrive_data q f hf hi hk d hd, s.fetched_fence q f.addr d h1 h23 hop] at hexec
  refine ⟨_, hexec, ?_, ?_, ?_, ?_, ?_, ?_⟩
  · rw [State.qst_set, State.qst_takeHand]
  · rw [State.qst_set, State.qst_takeHand]
  · exact State.on_set_self _ _ (by simp) rfl
  · rw [State.on_set_bit _ _ _ _ _ (by decide), s.on_takeHand_awaitFirst q f.addr d]
    simp
  · exact (s.sameRegsBut_takeHand q f.addr d).put _ 1 (by simp)
  · exact (State.set_keeps _ (s.takeHand_keeps q f.addr d)).sameMemory

/-- A descriptor that needs no fence and passes its checks waits in the hand, checked, its target slots reserved. -/
theorem descFetchComplete_checked (hop : dOpcode d ≠ opFence) (hder : dOpcode d ≠ opDerive)
    (hfence : dFence d = false ∨ s.inflight q = 0) (is : List Nat) (u : State)
    (hok : (s.takeHand q f.addr d).stage456 q d = .ok (is, u)) :
    ∃ t, exec (.descFetchComplete q) s = .next t ∧ (t.qst q).hand = some ⟨f.addr, d, true, is, none⟩ ∧
      (t.qst q).fetch = none ∧ t.on (F.Q_STAT_AWAIT_FIRST q) = false ∧
      SameRegsBut [R.Q_STAT q] s t ∧ SameMemory s t := by
  have hhand : ((s.takeHand q f.addr d).qst q).hand = some ⟨f.addr, d, false, [], none⟩ := by rw [State.qst_takeHand]
  have hexec := exec_descFetchComplete s q
  rw [s.fetchArrive_data q f hf hi hk d hd, s.fetched_unfenced q f.addr d h1 h23 hop hfence,
    State.enlist_ok _ u q _ is hhand hok, State.withList_of_ne_derive _ q d hder] at hexec
  have hmem := (s.takeHand_keeps q f.addr d).sameMemory
  have hframe := State.stage456_ok_frame _ u q d is hok
  have hfetch : (u.qst q).fetch = none := by
    rw [hframe]
    exact congrArg QueueSt.fetch (s.qst_takeHand q f.addr d)
  refine ⟨_, hexec, ?_, ?_, ?_, ?_, ?_⟩
  · rw [State.qst_qput_self]
  · rw [State.qst_qput_self, hfetch]
  · rw [State.on_qput, hframe]
    exact s.on_takeHand_awaitFirst q f.addr d
  · rw [hframe]
    exact s.sameRegsBut_takeHand q f.addr d
  · rw [hframe]
    exact ⟨hmem.host, hmem.svc, hmem.cup, hmem.flash, hmem.otp⟩

end

/-! ### The end of a re-read (R90, R91) -/

theorem State.park_kicked (s : State) (q : Nat) (hk : s.on (F.Q_STAT_KICK_PEND q) = true) :
    s.park q = ((s.qput q { s.qst q with parked := true, fetch := none }).clr (F.Q_STAT_KICK_PEND q)).wantFetch q .reread
      (s.sqCur q) := by
  simp only [State.park, State.on_qput, hk, if_true]
  rfl

theorem State.park_again (s : State) (q : Nat) (hk : s.on (F.Q_STAT_KICK_PEND q) = false)
    (hidle : s.on (F.Q_STAT_CHAIN_IDLE q) = true) : s.park q = s.qput q { s.qst q with parked := true, fetch := none } := by
  simp [State.park, hk, hidle]

theorem State.park_newly (s : State) (q : Nat) (hk : s.on (F.Q_STAT_KICK_PEND q) = false)
    (hidle : s.on (F.Q_STAT_CHAIN_IDLE q) = false) :
    s.park q = (((s.qput q { s.qst q with parked := true, fetch := none }).set (F.Q_STAT_CHAIN_IDLE q)).set
      (F.Q_STAT_IDLE_PEND q)).syncQ q := by
  simp [State.park, hk, hidle]

theorem State.qst_leavePark (s : State) (q : Nat) :
    (s.leavePark q).qst q = { s.qst q with fetch := none, parked := false } := by
  simp only [State.leavePark, State.qst_clr, State.qst_qput_self]

theorem State.on_leavePark_chainIdle (s : State) (q : Nat) : (s.leavePark q).on (F.Q_STAT_CHAIN_IDLE q) = false :=
  State.on_clr_self _ _ (by simp)

theorem State.fetchOpen_leavePark (s : State) (q : Nat) : (s.leavePark q).fetchOpen q = s.fetchOpen q :=
  (State.fetchOpen_clr _ q _ (.inr rfl)).trans (s.fetchOpen_qput q _ rfl)

theorem State.sqCur_leavePark (s : State) (q : Nat) : (s.leavePark q).sqCur q = s.sqCur q :=
  State.sqCur_clr_qStat (s.qput q _) q 1

theorem State.sameRegsBut_leavePark (s : State) (q : Nat) : SameRegsBut [R.Q_STAT q] s (s.leavePark q) :=
  ((SameRegsBut.refl _ s).qput q _).put _ 0 (by simp)

theorem State.followNext_bad (s : State) (q n : Nat) (h : n = 0 ∨ n % 128 ≠ 0) :
    s.followNext q n = s.qError q (F.Q_ERR_NEXT_BAD q) := if_pos h

theorem State.followNext_good (s : State) (q n : Nat) (h0 : n ≠ 0) (h : n % 128 = 0) :
    s.followNext q n = s.wantFetch q .next n := by
  rw [State.followNext, if_neg]
  omega

theorem State.sameMemory_rereadArrive (s : State) (q : Nat) : SameMemory s (s.rereadArrive q) :=
  (State.rereadArrive_keeps q (Keeps.refl true s)).sameMemory

theorem rereadComplete_fault (s : State) (q : Fin 4096) (f : Fetch) (hf : (s.qst q).fetch = some f)
    (hi : f.issued = true) (hk : f.kind = .reread)
    (hd : s.dmaRead (s.qOwner q) (f.addr + 8) 4 = none ∨ s.dmaRead (s.qOwner q) (f.addr + 112) 8 = none) :
    ∃ t, exec (.rereadComplete q) s = .next t ∧ QueueStops q (F.Q_ERR_NEXT_BAD q) s t := by
  refine ⟨_, exec_rereadComplete s q, ?_⟩
  rw [s.rereadArrive_fault q f hf hi hk hd]
  exact s.qError_stops q 0 (by decide)

/-- A stopped queue's SQ_CUR stays: it is neither Q_ERR, nor Q_STAT, nor a register of EVC. -/
theorem QueueStops.sqCur {q : Nat} {f : Fld} {s t : State} (h : QueueStops q f s t) : t.sqCur q = s.sqCur q :=
  h.regs.sqCur q
    (by simp [not_mem_eventRegs, R.Q_ERR, R.Q_STAT, R.SQ_CUR_LO, Nat.add_assoc])
    (by simp [not_mem_eventRegs, R.Q_ERR, R.Q_STAT, R.SQ_CUR_HI, Nat.add_assoc])

section
variable (s : State) (q : Fin 4096) (f : Fetch) (hf : (s.qst q).fetch = some f) (hi : f.issued = true)
  (hk : f.kind = .reread) (fl nx : List Byte) (hfl : s.dmaRead (s.qOwner q) (f.addr + 8) 4 = some fl)
  (hnx : s.dmaRead (s.qOwner q) (f.addr + 112) 8 = some nx)
include hf hi hk hfl hnx

/-- A re-read that sees END = 1 parks the queue, which is idle (R91). -/
theorem rereadComplete_parks (hend : bit (leNat fl) 0 = true) (hkick : s.on (F.Q_STAT_KICK_PEND q) = false) :
    ∃ t, exec (.rereadComplete q) s = .next t ∧ (t.qst q).parked = true ∧ (t.qst q).fetch = none ∧
      (t.qst q).hand = (s.qst q).hand ∧ t.on (F.Q_STAT_CHAIN_IDLE q) = true ∧
      t.on (F.Q_STAT_IDLE_PEND q) = (s.on (F.Q_STAT_IDLE_PEND q) || !s.on (F.Q_STAT_CHAIN_IDLE q)) ∧
      SameRegsBut (R.Q_STAT q :: eventRegs) s t ∧ SameMemory s t := by
  have hmem := s.sameMemory_rereadArrive q
  refine ⟨_, exec_rereadComplete s q, ?_⟩
  rw [s.rereadArrive_end q f hf hi hk fl nx hfl hnx hend] at hmem ⊢
  cases hidle : s.on (F.Q_STAT_CHAIN_IDLE q) with
  | true =>
    rw [s.park_again q hkick hidle] at hmem ⊢
    rw [State.qst_qput_self, State.on_qput, State.on_qput, hidle]
    exact ⟨rfl, rfl, rfl, rfl, by simp, (SameRegsBut.refl _ s).qput q _, hmem⟩
  | false =>
    rw [s.park_newly q hkick hidle] at hmem ⊢
    rw [State.qst_syncQ, State.qst_set, State.qst_set, State.qst_qput_self]
    refine ⟨rfl, rfl, rfl, ?_, ?_, ?_, hmem⟩
    · simp [State.on_syncQ_qStat, State.on_set_bit]
    · simp [State.on_syncQ_qStat, State.on_set_bit]
    · exact ((((SameRegsBut.refl _ s).qput q _).put _ 1 (by simp)).put _ 1 (by simp)).syncQ q (by simp +contextual)

/-- With KICK_PEND = 1 the parked queue re-reads at once (R90, R91). -/
theorem rereadComplete_kicked (hend : bit (leNat fl) 0 = true) (hkick : s.on (F.Q_STAT_KICK_PEND q) = true) :
    ∃ t, exec (.rereadComplete q) s = .next t ∧ (t.qst q).parked = true ∧ (t.qst q).hand = (s.qst q).hand ∧
      (t.qst q).fetch = some ⟨.reread, s.sqCur q, s.fetchOpen q⟩ ∧ t.on (F.Q_STAT_KICK_PEND q) = false ∧
      t.on (F.Q_STAT_CHAIN_IDLE q) = s.on (F.Q_STAT_CHAIN_IDLE q) ∧ SameRegsBut [R.Q_STAT q] s t ∧ SameMemory s t := by
  have hmem := s.sameMemory_rereadArrive q
  refine ⟨_, exec_rereadComplete s q, ?_⟩
  rw [s.rereadArrive_end q f hf hi hk fl nx hfl hnx hend, s.park_kicked q hkick] at hmem ⊢
  have hopen : ((s.qput q { s.qst q with parked := true, fetch := none }).clr (F.Q_STAT_KICK_PEND q)).fetchOpen q =
      s.fetchOpen q := (State.fetchOpen_clr _ q _ (.inl rfl)).trans (s.fetchOpen_qput q _ rfl)
  rw [State.wantFetch_reread] at hmem ⊢
  simp only [State.qst_qput_self, State.qst_clr, hopen, State.on_qput] at hmem ⊢
  refine ⟨trivial, trivial, trivial, ?_, ?_, ?_, hmem⟩
  · exact State.on_clr_self _ _ (by simp)
  · simp [State.on_clr_bit]
  · exact (((SameRegsBut.refl _ s).qput q _).put _ 0 (by simp)).qput q _

/-- A re-read that sees END = 0 wants the read of a good NEXT (R89, R91). -/
theorem rereadComplete_follows (hend : bit (leNat fl) 0 = false) (h0 : leNat nx ≠ 0) (h128 : leNat nx % 128 = 0)
    (h64 : leNat nx < 2 ^ 64) :
    ∃ t, exec (.rereadComplete q) s = .next t ∧ (t.qst q).fetch = some ⟨.next, leNat nx, s.fetchOpen q⟩ ∧
      (t.qst q).parked = false ∧ (t.qst q).hand = (s.qst q).hand ∧ t.on (F.Q_STAT_CHAIN_IDLE q) = false ∧
      t.sqCur q = (if s.fetchOpen q = true then leNat nx else s.sqCur q) ∧
      SameRegsBut [R.Q_STAT q, R.SQ_CUR_LO q, R.SQ_CUR_HI q] s t ∧ SameMemory s t := by
  have hmem := s.sameMemory_rereadArrive q
  refine ⟨_, exec_rereadComplete s q, ?_⟩
  rw [s.rereadArrive_next q f hf hi hk fl nx hfl hnx hend, State.followNext_good _ q _ h0 h128] at hmem ⊢
  have hregs := (s.leavePark q).sameRegsBut_wantFetch q .next (leNat nx)
  rw [State.qst_wantFetch, State.qst_leavePark, s.fetchOpen_leavePark]
  refine ⟨rfl, rfl, rfl, ?_, ?_, ?_, hmem⟩
  · rw [hregs.on _ (by simp [R.Q_STAT, R.SQ_CUR_LO, R.SQ_CUR_HI]), s.on_leavePark_chainIdle]
  · rw [State.sqCur_wantFetch _ q .next _ (by decide) h64, s.fetchOpen_leavePark, s.sqCur_leavePark]
  · exact ((s.sameRegsBut_leavePark q).mono (by simp)).trans (hregs.mono (by simp))

/-- A NEXT of 0, or one that is not aligned, stops the queue. -/
theorem rereadComplete_nextBad (hend : bit (leNat fl) 0 = false) (hbad : leNat nx = 0 ∨ leNat nx % 128 ≠ 0) :
    ∃ t, exec (.rereadComplete q) s = .next t ∧ t.on (F.Q_ERR_NEXT_BAD q) = true ∧ t.on (F.Q_STAT_CHAIN_IDLE q) = false ∧
      t.on (F.Q_STAT_ERR_STOP q) = true ∧ SameRegsBut (R.Q_ERR q :: R.Q_STAT q :: eventRegs) s t ∧ SameMemory s t := by
  have hmem := s.sameMemory_rereadArrive q
  refine ⟨_, exec_rereadComplete s q, ?_⟩
  rw [s.rereadArrive_next q f hf hi hk fl nx hfl hnx hend, State.followNext_bad _ q _ hbad] at hmem ⊢
  have hstop := (s.leavePark q).qError_stops q 0 (by decide)
  exact ⟨hstop.cause, hstop.chainIdle.trans (s.on_leavePark_chainIdle q), hstop.errStop,
    ((s.sameRegsBut_leavePark q).mono (by simp)).trans hstop.regs, hmem⟩

end

end Sys2Proof.Machine
end

section
/-! PROOF. O15 and O16: what a doorbell does, and what the end of a descriptor read or of a re-read does. -/

namespace Sys2Proof.Machine

/-- A doorbell that is ignored sets KICK_IGNORED and ERR_PEND, and touches nothing of JQM (R73, R92). -/
theorem sqKick_ignored (s : State) (r : Req) (q : Fin 4096) (v : Word) (hm : s.mayWrite r (R.SQ_KICK q))
    (h : s.on (F.Q_CTL_EN q) = false ∨ s.on (F.Q_STAT_ERR_STOP q) = true) :
    ∃ t, exec (.sqKick r q v) s = .next t ∧ t.on (F.Q_ERR_KICK_IGNORED q) = true ∧ t.on (F.Q_STAT_ERR_PEND q) = true ∧
      t.jqm = s.jqm ∧ SameRegsBut (R.Q_ERR q :: R.Q_STAT q :: eventRegs) s t ∧ SameMemory s t := by
  have hexec := exec_sqKick_permitted s r q v hm
  rw [s.kick_ignored q h] at hexec
  have hmem := s.sameMemory_qError q (F.Q_ERR_KICK_IGNORED q)
  rw [s.qError_of_not_stops q _ (by simp)] at hexec hmem
  refine ⟨_, hexec, ?_, ?_, ?_, ?_, hmem⟩
  · simp [State.on_syncQ_qErr, State.on_set_bit]
  · simp [State.on_syncQ_qStat, State.on_set_bit]
  · simp
  · exact (((SameRegsBut.refl _ s).put _ 1 (by simp)).put _ 1 (by simp)).syncQ q (by simp +contextual)

section
variable (s : State) (r : Req) (q : Fin 4096) (v : Word) (hm : s.mayWrite r (R.SQ_KICK q)) (h : s.kickActs q)
  (hf : (s.qst q).fetch = none)
include hm h hf

theorem sqKick_rereads (hp : (s.qst q).parked = true) :
    ∃ t, exec (.sqKick r q v) s = .next t ∧ (t.qst q).fetch = some ⟨.reread, s.sqCur q, s.fetchOpen q⟩ ∧
      SameRegsBut [] s t ∧ t = { s with jqm := t.jqm } := by
  have hexec := exec_sqKick_permitted s r q v hm
  rw [s.kick_parked q h hf hp, State.wantFetch_reread] at hexec
  exact ⟨_, hexec, by rw [State.qst_qput_self], (SameRegsBut.refl _ s).qput q _, rfl⟩

theorem sqKick_reads_first (hp : (s.qst q).parked = false) (ha : s.on (F.Q_STAT_AWAIT_FIRST q) = true)
    (hh : (s.qst q).hand = none) :
    ∃ t, exec (.sqKick r q v) s = .next t ∧ (t.qst q).fetch = some ⟨.first, s.sqCur q, s.fetchOpen q⟩ ∧
      t.sqCur q = s.sqCur q ∧ SameRegsBut [] s t ∧ t = { s with jqm := t.jqm, regs := t.regs } := by
  have hexec := exec_sqKick_permitted s r q v hm
  rw [s.kick_awaiting q h hf hp ha hh] at hexec
  have hregs := s.sameRegsBut_wantFetch_sqCur q .first _ rfl
  exact ⟨_, hexec, by rw [State.qst_wantFetch], hregs.sqCur q (by simp) (by simp), hregs, s.wantFetch_frame q _ _⟩

end

/-- Settles O15: one clause for each case of `kick`, then the fault of the first fetch and the clear of PAUSE. -/
theorem doorbellRule : Obligations.DoorbellRule := by
  unfold Obligations.DoorbellRule
  intro s r q v hm
  refine ⟨sqKick_ignored s r q v hm, fun hen hstop => ⟨fun hheld => ?_, fun hpause hquiet hflush hf => ?_,
    fun hpause hquiet hflush f hf => ?_⟩, fun f hf hi hk hd => ?_, fun w => pauseClear_acts_on_kick s r q w⟩
  · rw [exec_sqKick_permitted s r q v hm, s.kick_held q hen hstop hheld]
  · have hacts : s.kickActs q := ⟨hen, hstop, hpause, hquiet, hflush⟩
    refine ⟨sqKick_rereads s r q v hm hacts hf, sqKick_reads_first s r q v hm hacts hf, fun hp hb => ?_⟩
    rw [exec_sqKick_permitted s r q v hm, s.kick_pends q hacts hf hp hb]
  · rw [exec_sqKick_permitted s r q v hm, s.kick_wanted q ⟨hen, hstop, hpause, hquiet, hflush⟩ f hf]
  · obtain ⟨t, hexec, hstops⟩ := descFetchComplete_fault s q f hf hi (by simp [hk]) hd
    rw [if_pos hk] at hstops
    exact ⟨t, hexec, hstops.cause, hstops.regs, hstops.mem⟩

/-- Settles O16: one clause for each way in which a descriptor read or a re-read ends. -/
theorem descriptorReads : Obligations.DescriptorReads := by
  unfold Obligations.DescriptorReads
  intro s q f hf hi
  refine ⟨fun hk => ⟨fun hd => ?_, ?_⟩, fun hk => ⟨fun hd => ?_, fun fl nx hfl hnx => ?_⟩⟩
  · obtain ⟨t, hexec, hstops⟩ := descFetchComplete_fault s q f hf hi hk hd
    exact ⟨t, hexec, hstops.cause, hstops.errStop, hstops.errPend, hstops.fetch, hstops.regs, hstops.mem⟩
  · rintro d _ hd rfl h1 h23
    exact ⟨descFetchComplete_fence s q f hf hi hk d hd h1 h23,
      descFetchComplete_checked s q f hf hi hk d hd h1 h23⟩
  · obtain ⟨t, hexec, hstops⟩ := rereadComplete_fault s q f hf hi hk hd
    exact ⟨t, hexec, hstops.cause, hstops.errStop, hstops.sqCur, hstops.fetch, hstops.regs, hstops.mem⟩
  · exact ⟨rereadComplete_parks s q f hf hi hk fl nx hfl hnx, rereadComplete_kicked s q f hf hi hk fl nx hfl hnx,
      rereadComplete_follows s q f hf hi hk fl nx hfl hnx, rereadComplete_nextBad s q f hf hi hk fl nx hfl hnx⟩

end Sys2Proof.Machine
end

section
/-! PROOF. What a count, and the rise of an event source, leave unchanged (R16, R528). -/

namespace Sys2Proof.Machine

/-- Only the register file, the live counts and the state of EVC have changed. -/
def EventFrame (s t : State) : Prop := t = { s with regs := t.regs, cnt := t.cnt, evc := t.evc }

section
variable {s t u : State}

theorem EventFrame.refl (s : State) : EventFrame s s := rfl

theorem EventFrame.trans (h : EventFrame s t) (k : EventFrame t u) : EventFrame s u :=
  Eq.trans k (congrArg (fun x : State => { x with regs := u.regs, cnt := u.cnt, evc := u.evc }) h)

theorem EventFrame.blf (h : EventFrame s t) : t.blf = s.blf := (congrArg State.blf h :)
theorem EventFrame.fcr (h : EventFrame s t) : t.fcr = s.fcr := (congrArg State.fcr h :)
theorem EventFrame.mpe (h : EventFrame s t) : t.mpe = s.mpe := (congrArg State.mpe h :)

theorem EventFrame.put (h : EventFrame s t) (f : Fld) (x : Nat) : EventFrame s (t.put f x) := h.trans rfl

end

theorem State.inc_eventFrame (s : State) (o : Nat) : EventFrame s (s.inc o) := by
  unfold State.inc State.count
  dsimp only
  split
  · rfl
  · split <;> rfl

/-- What EVC does of itself: beside the frame, no counter but its own three advances (R538). -/
structure EvcOnly (s t : State) : Prop where
  frame : EventFrame s t
  counts : ∀ o, (∀ k < 3, o ≠ R.EVC_CNT k) → t.cntGet o = s.cntGet o

theorem EvcOnly.refl (s : State) : EvcOnly s s := ⟨.refl s, fun _ _ => rfl⟩

section
variable {s t : State} (h : EvcOnly s t)
include h

theorem EvcOnly.inc (k : Nat) (hk : k < 3) : EvcOnly s (t.inc (R.EVC_CNT k)) where
  frame := h.frame.trans (t.inc_eventFrame _)
  counts := fun o ho => (State.cntGet_inc_of_ne t _ o (ho k hk)).trans (h.counts o ho)

theorem EvcOnly.evc (e : EvcSt) : EvcOnly s { t with evc := e } := ⟨h.frame.trans rfl, h.counts⟩

theorem EvcOnly.put (f : Fld) (x : Nat) : EvcOnly s (t.put f x) := ⟨h.frame.put f x, h.counts⟩

theorem EvcOnly.msix (fn vec : Nat) : EvcOnly s (t.msix fn vec) := by
  unfold State.msix
  split
  · exact (h.evc _).inc 0 (by decide)
  · exact (h.evc _).inc 2 (by decide)

/-- A source goes to Cupola beside its route, to SVC, to the host by MSI-X, or nowhere (R528 to R530). -/
theorem EvcOnly.evcDeliver (n : Nat) : EvcOnly s (t.evcDeliver n) := by
  have irqCup : ∀ (b : Bool) (x : State), EvcOnly s x → EvcOnly s (if b = true then x.irqCup n else x) := by
    intro b x hx
    cases b
    · exact hx
    · exact hx.evc _
  unfold State.evcDeliver
  split
  · exact h
  · refine irqCup _ _ ?_
    split
    · split
      · exact h.msix _ _
      · exact h
    · exact h.evc _
    · exact h.msix _ _
    · split
      · exact h.msix _ _
      · exact h

theorem EvcOnly.countIntn (b : State) : EvcOnly s (countIntn b t) := by
  unfold Sys2Proof.Machine.countIntn
  split
  · exact h.inc 1 (by decide)
  · exact h

theorem EvcOnly.raise (n : Nat) : EvcOnly s (t.raise n) := by
  unfold State.raise
  split
  · exact h
  · exact ((h.put _ 1).evcDeliver n).countIntn _

theorem EvcOnly.level (n : Nat) (b : Bool) : EvcOnly s (t.level n b) := by
  unfold State.level
  split
  · split
    · exact h
    · exact (h.evc _).raise n
  · exact h.evc _

end

/-! ### A statistic counted and its event raised (R16, R528) -/

theorem SameRegsBut.raise {os : List Nat} {s t : State} (h : SameRegsBut os s t) (n : Nat) (hn : n < 256)
    (hos : ∀ o ∈ eventRegs, o ∈ os) : SameRegsBut os s (t.raise n) := by
  intro o ho
  have hev : o ∉ eventRegs := fun hm => ho (hos o hm)
  rw [State.rd_raise t n o (ne_evcPend_of_not_mem o n hev hn) (fun e => hev (e ▸ List.mem_cons_self ..))]
  exact h o ho

theorem SameRegsBut.inc {os : List Nat} {s t : State} (h : SameRegsBut os s t) (o : Nat) (g : Fld)
    (hg : satOf o = some g) (hos : g.off ∈ os) : SameRegsBut os s (t.inc o) := by
  intro p hp
  rw [State.rd_inc t o p fun f hf e => hp (e ▸ Option.some.inj (hg.symm.trans hf) ▸ hos)]
  exact h p hp

/-- A counter with the SAT bit `g` has advanced by one and an event source has risen. -/
structure CountedAndRaised (o n : Nat) (g : Fld) (s t : State) : Prop where
  frame : EventFrame s t
  count : t.cntGet o = s.plus o 1
  pending : t.isPending n = true
  regs : SameRegsBut (g.off :: eventRegs) s t

theorem State.countedAndRaised (s : State) (o n : Nat) (g : Fld) (hg : satOf o = some g) (hn : n < 256)
    (ho : ∀ k < 3, o ≠ R.EVC_CNT k) : CountedAndRaised o n g s ((s.inc o).raise n) := by
  have hraise : EvcOnly (s.inc o) ((s.inc o).raise n) := (EvcOnly.refl _).raise n
  constructor
  case frame => exact (s.inc_eventFrame o).trans hraise.frame
  case count => exact (hraise.counts o ho).trans (s.cntGet_inc o)
  case pending => exact State.raise_pend _ n hn
  case regs =>
    exact ((SameRegsBut.refl _ s).inc o g hg (List.mem_cons_self ..)).raise n hn fun _ => List.mem_cons_of_mem _

end Sys2Proof.Machine
end

section
/-! PROOF. Belfry: the alarm of a detector alone (R469 to R471), its filtering (R476) and its disagreement (R470). -/

namespace Sys2Proof.Machine

/-! ### An alarm is issued (R471) -/

theorem satOf_blfAlmCnt : ∀ n : Fin 14, satOf (R.BLF_ALM_CNT n) = some ⟨R.BLF_SAT0, n, 1⟩ := by decide
theorem satOf_blfDisCnt : ∀ n : Fin 14, satOf (R.BLF_DIS_CNT n) = some ⟨R.BLF_SAT1, n, 1⟩ := by decide
theorem satOf_blfFiltc : ∀ n : Fin 14, satOf (R.BLF_FILTC n) = some ⟨R.BLF_SAT2, n, 1⟩ := by decide

/-- A source has issued an alarm of a level with an ADDR: the messages to FCR, BLF_LATCH, the source's count and its event
show it, while Belfry's own state and the registers not in `alarmRegs` are as before. -/
structure AlarmIssued (n : Fin 14) (level addr : Nat) (s t : State) : Prop where
  reports : Reports srcBlf 0x10 level addr s t
  latch : t.on ⟨R.BLF_LATCH, n, 1⟩ = true
  count : t.cntGet (R.BLF_ALM_CNT n) = s.plus (R.BLF_ALM_CNT n) 1
  pending : t.isPending n = true
  blf : t.blf = s.blf
  regs : SameRegsBut alarmRegs s t

theorem State.alarmOut_issues (s : State) (n : Fin 14) (level addr : Nat) :
    AlarmIssued n level addr s (s.alarmOut n level addr) := by
  have hn := n.isLt
  let r := (s.report srcBlf 0x10 level addr).put ⟨R.BLF_LATCH, n, 1⟩ 1
  have hraised : CountedAndRaised (R.BLF_ALM_CNT n) n ⟨R.BLF_SAT0, n, 1⟩ r (s.alarmOut n level addr) :=
    r.countedAndRaised _ n _ (satOf_blfAlmCnt n) (by omega) (by simp only [R.BLF_ALM_CNT, R.EVC_CNT]; omega)
  constructor
  case reports => exact congrArg FcrSt.transit hraised.frame.fcr
  case latch =>
    exact (hraised.regs.on _ (by decide : R.BLF_LATCH ∉ R.BLF_SAT0 :: eventRegs)).trans
      (State.on_set_self _ _ (by simp only; omega) rfl)
  case count => exact hraised.count
  case pending => exact hraised.pending
  case blf => exact hraised.frame.blf
  case regs =>
    have hput : SameRegsBut alarmRegs s r := (SameRegsBut.refl _ s).put ⟨R.BLF_LATCH, n, 1⟩ 1 (List.mem_cons_self ..)
    exact hput.trans (hraised.regs.mono fun _ => List.mem_cons_of_mem _)

/-- The state in which a source's last alarm is the one of this moment. -/
def State.lastNoted (s : State) (n : Nat) : State :=
  { s with blf := { s.blf with last := sput (fun _ => 0) s.blf.last n (s.time + 1) } }

theorem State.alarmLimit_passes (s : State) (n : Nat) (k : State → State)
    (h : sget (fun _ => 0) s.blf.last n = 0 ∨ sget (fun _ => 0) s.blf.last n - 1 + 10000 ≤ s.time) :
    s.alarmLimit n k = k (s.lastNoted n) := by
  unfold State.alarmLimit
  exact if_neg (by omega)

/-! ### An event of a source, in a filter period or outside (R475, R476) -/

/-- The events of a source that lie within W before this moment. -/
def State.recentEvents (s : State) (n : Nat) : List Nat :=
  (sget (fun _ => []) s.blf.events n).filter (fun x => decide (s.time ≤ x + s.get F.BLF_FILT_W * 1000))

/-- The state in which an event of this moment has joined them. -/
def State.eventNoted (s : State) (n : Nat) : State :=
  { s with blf := { s.blf with events := sput (fun _ => []) s.blf.events n (s.recentEvents n ++ [s.time]) } }

section
variable (s : State) (n : Nat) (k : Bool → State → State)

theorem State.sourceEvent_unfiltered (h : (s.filtering && filtered n) = false) : s.sourceEvent n k = k false s := by
  rw [State.sourceEvent, h, if_neg Bool.false_ne_true]

theorem State.sourceEvent_filtered (hs : s.filtering = true) (hn : filtered n = true) :
    s.sourceEvent n k = if s.get F.BLF_FILT_N ≤ (s.recentEvents n).length + 1 then k true (s.eventNoted n)
      else ((s.eventNoted n).inc (R.BLF_FILTC n)).raise 19 := by
  rw [State.sourceEvent, hs, hn, Bool.and_self, if_pos rfl]
  rfl

end

/-! ### A detector alarms, alone (R469, R470) -/

/-- The state in which a detector's alarm is noted: it lasts, and, where the partner is live, waits to be matched. -/
def State.alarmNoted (s : State) (n : Fin 14) (d : Det) : State :=
  let k := 2 * n.val + detNum d
  let lone := s.blf.lone.filter (fun e => e.1 != k)
  { s with blf := { s.blf with
    alarm := s.blf.alarm.filter (·.1 != k) ++ [(k, s.time)]
    lone := if s.detLive n (1 - detNum d) then lone ++ [(k, s.time)] else lone } }

section
variable {s : State} {n : Fin 14} {d : Det} (h : s.alarms n d) (k : State → Nat → Bool → State)
include h

/-- Neither detector of the source was in alarm, so the alarm counts at once if one is enough, and else not at all. -/
theorem State.alarms.noteAlarm : s.noteAlarm n (detNum d) =
    (s.alarmNoted n d,
      if s.on (F.BLF_SRC_CFG_POLICY n) && s.detLive n (1 - detNum d) then none else some (2 ^ detNum d)) := by
  obtain ⟨hA, hB⟩ := h.quiet
  have hself : s.inAlarm (2 * n + detNum d) = false := by cases d <;> assumption
  have hpartner : s.inAlarm (2 * n + (1 - detNum d)) = false := by cases d <;> assumption
  simp only [State.noteAlarm, hself, hpartner, State.alarmNoted, Bool.and_false, Bool.not_false, Bool.and_true, Bool.or_self,
    Bool.false_eq_true, if_false]
  cases s.on (F.BLF_SRC_CFG_POLICY n) && s.detLive n (1 - detNum d) <;> rfl

theorem State.alarms.detAlarm : s.detAlarm n (detNum d) k =
    if s.on (F.BLF_SRC_CFG_POLICY n) && s.detLive n (1 - detNum d) then s.alarmNoted n d
    else (s.alarmNoted n d).sourceEvent n fun w s => k s (2 ^ detNum d) w := by
  have hlogic : (n.val == 12 && !s.logicFires (detNum d)) = false := by
    by_cases h12 : n.val = 12
    · simp [h.counts h12]
    · simp [h12]
  simp only [State.detAlarm, h.up, h.live, h.free, hlogic, h.noteAlarm, Bool.true_or, Bool.not_true, Bool.or_self,
    Bool.false_eq_true, if_false]
  cases s.on (F.BLF_SRC_CFG_POLICY n) && s.detLive n (1 - detNum d) <;> rfl

theorem State.alarms.detAlarm_unmatched (hb : ¬ s.aloneCounts n d) : s.detAlarm n (detNum d) k = s.alarmNoted n d := by
  rw [h.detAlarm, if_pos]
  simpa [State.aloneCounts] using hb

theorem State.alarms.detAlarm_alone (ha : s.aloneCounts n d) :
    s.detAlarm n (detNum d) k = (s.alarmNoted n d).sourceEvent n fun w s => k s (2 ^ detNum d) w := by
  rw [h.detAlarm, if_neg]
  rcases ha with ha | ha <;> simp [ha]

/-! ### The same outside Vigil: the source issues its alarm (R471) -/

theorem State.alarms.detectorAlarm_unfiltered (ha : s.aloneCounts n d) (hf : (s.filtering && filtered n) = false) :
    s.detectorAlarm n (detNum d) = ((s.alarmNoted n d).lastNoted n).alarmOut n (s.get (F.BLF_SRC_CFG_LEVEL n))
      (blfAddr n (2 ^ detNum d) false false false) := by
  rw [State.detectorAlarm, h.detAlarm_alone _ ha, State.sourceEvent_unfiltered (s.alarmNoted n d) _ _ hf]
  exact State.alarmLimit_passes _ n _ h.last

theorem State.alarms.detectorAlarm_windowed (ha : s.aloneCounts n d) (hs : s.filtering = true) (hn : filtered n = true)
    (hk : s.get F.BLF_FILT_N ≤ (s.recentEvents n).length + 1) :
    s.detectorAlarm n (detNum d) = (((s.alarmNoted n d).eventNoted n).lastNoted n).alarmOut n
      (s.get (F.BLF_SRC_CFG_LEVEL n)) (blfAddr n (2 ^ detNum d) true false false) := by
  rw [State.detectorAlarm, h.detAlarm_alone _ ha, State.sourceEvent_filtered (s.alarmNoted n d) _ _ hs hn]
  exact (if_pos hk).trans (State.alarmLimit_passes _ n _ h.last)

theorem State.alarms.detectorAlarm_counted (ha : s.aloneCounts n d) (hs : s.filtering = true) (hn : filtered n = true)
    (hk : (s.recentEvents n).length + 1 < s.get F.BLF_FILT_N) :
    s.detectorAlarm n (detNum d) = (((s.alarmNoted n d).eventNoted n).inc (R.BLF_FILTC n)).raise 19 := by
  rw [State.detectorAlarm, h.detAlarm_alone _ ha, State.sourceEvent_filtered (s.alarmNoted n d) _ _ hs hn]
  exact if_neg (Nat.not_le.2 hk)

end

/-! ### A disagreement (R470) -/

/-- The state in which a detector's alarm no longer waits to be matched. -/
def State.loneEnded (s : State) (n : Fin 14) (d : Det) : State :=
  { s with blf := { s.blf with lone := s.blf.lone.filter (fun e => e.1 != 2 * n.val + detNum d) } }

theorem State.disagree_unmatched (s : State) (n : Fin 14) (d : Det) (m : Nat × Nat) (hm : m ∈ s.blf.lone)
    (hup : s.blfUp = true) (hfuse : s.fuseDisabled n = false) (hk : m.1 = 2 * n.val + detNum d)
    (ht : m.2 + 10000 ≤ s.time) : s.disagree n (detNum d) =
      (((s.loneEnded n d).set ⟨R.BLF_DISAGREE, n, 1⟩).inc (R.BLF_DIS_CNT n)).raise 16 := by
  have hany : s.blf.lone.any (fun e => e.1 == 2 * n.val + detNum d && decide (e.2 + 10000 ≤ s.time)) = true :=
    List.any_eq_true.2 ⟨m, hm, by simp [hk, ht]⟩
  simp only [State.disagree, hup, hfuse, hany, Bool.not_false, Bool.and_self, if_true]
  rfl

end Sys2Proof.Machine
end

section
/-! PROOF. What the steps of the Vigil domain for an alarm leave unchanged (R481, R482): Belfry's state, and, once the memory
key is zeroed, what memory protection holds and CTS_STAT. -/

namespace Sys2Proof.Machine

/-! ### The end of a job leaves Belfry's state -/

section
variable (s : State)

@[simp] theorem State.giveEngine_blf (j : Job) : (s.giveEngine j).blf = s.blf := by
  unfold State.giveEngine
  split <;> rfl

@[simp] theorem State.schedule_blf (e : Nat) : (s.schedule e).blf = s.blf := by
  unfold State.schedule
  split
  · rfl
  · split
    · rfl
    · split
      · exact s.giveEngine_blf _
      · rfl

@[simp] theorem State.grantPool_blf (p : Res) : (s.grantPool p).blf = s.blf := by
  unfold State.grantPool
  split
  · rfl
  · split
    · exact s.giveEngine_blf _
    · rfl

@[simp] theorem State.dkeGrant_blf (e : Nat) : (s.dkeGrant e).blf = s.blf := by
  unfold State.dkeGrant
  dsimp only
  split <;> rfl

@[simp] theorem State.refill_blf (p : Res) (e e2 : Nat) : (s.refill p e e2).blf = s.blf := by
  have hengines : (if e2 = e then s.schedule e else (s.schedule e).schedule e2).blf = s.blf := by
    split <;> simp
  cases p
  case keccak | sha2 | keep => exact s.grantPool_blf _
  case dke => exact s.dkeGrant_blf e
  case arbiter => rfl
  all_goals exact hengines

@[simp] theorem State.inc_blf (o : Nat) : (s.inc o).blf = s.blf := (s.inc_eventFrame o).blf

@[simp] theorem State.countEnd_blf (e status : Nat) : (s.countEnd e status).blf = s.blf := by
  unfold State.countEnd
  split_ifs <;> simp

@[simp] theorem State.setBuilding_blf (i : Nat) (b : Bool) : (s.setBuilding i b).blf = s.blf := by
  unfold State.setBuilding
  dsimp only
  split <;> rfl

@[simp] theorem State.releaseTargets_blf (is : List Nat) : (s.releaseTargets is).blf = s.blf := by
  induction is generalizing s with
  | nil => rfl
  | cons i is ih =>
    rw [State.releaseTargets, ih]
    split <;> rfl

@[simp] theorem State.finishJob_blf (j : Job) (r : JobResult) : (s.finishJob j r).blf = s.blf := by
  unfold State.finishJob
  dsimp only
  rw [State.refill_blf]
  split
  · rw [State.countEnd_blf]
    split <;> simp [State.putJob, State.setJobs]
  · simp only [State.setBuilding_blf, State.dropJob, State.setJobs, State.countEnd_blf]
    split <;> simp [State.putJob, State.setJobs]

theorem State.writeBufs_blf (owner : Nat) (bs : List Buf) (v : List Byte) : (writeBufs s owner bs v).1.blf = s.blf := by
  have hstore : ∀ (x : State) (a : Nat) (w : List Byte), (x.dmaStore owner a w).blf = x.blf := by
    intro x a w
    unfold State.dmaStore
    split <;> rfl
  induction bs generalizing s v with
  | nil => rfl
  | cons b bs ih =>
    unfold writeBufs
    dsimp only
    split
    · exact ih s v
    · split
      · next t ht =>
        rw [ih]
        unfold State.dmaWrite at ht
        split at ht
        · cases ht
        · cases ht
          exact hstore s _ _
      · exact hstore _ _ _

theorem State.zeroBufs_blf (owner : Nat) (bs : List Buf) : (zeroBufs s owner bs).blf = s.blf := by
  induction bs generalizing s with
  | nil => rfl
  | cons b bs ih => rw [zeroBufs, ih, State.writeBufs_blf]

@[simp] theorem State.failJob_blf (j : Job) (e : Err) : (s.failJob j e).blf = s.blf := by
  unfold State.failJob
  dsimp only
  rw [State.finishJob_blf]
  split
  · unfold zeroOutput
    split
    · exact s.zeroBufs_blf _ _
    · rfl
  · rfl

theorem State.eachJob_blf (f : State → Job → State) (hf : ∀ x j, (f x j).blf = x.blf) (is : List Nat) :
    (s.eachJob f is).blf = s.blf := by
  induction is generalizing s with
  | nil => rfl
  | cons i is ih =>
    rw [State.eachJob, ih]
    split
    · exact hf _ _
    · rfl

@[simp] theorem State.loseSaves_blf : s.loseSaves.blf = s.blf := by
  refine s.eachJob_blf _ (fun x j => ?_) _
  unfold State.faultJob
  split
  · rfl
  · exact x.failJob_blf _ _

end

/-! ### Operations that leave Belfry's state, memory protection and CTS_STAT -/

/-- Belfry's state, what memory protection holds and CTS_STAT are as before. -/
structure SparesKey (s t : State) : Prop where
  blf : t.blf = s.blf
  mpe : t.mpe = s.mpe
  stat : t.rd R.CTS_STAT = s.rd R.CTS_STAT

theorem SparesKey.refl (s : State) : SparesKey s s := ⟨rfl, rfl, rfl⟩

section
variable {s t u : State}

theorem SparesKey.trans (h : SparesKey s t) (k : SparesKey t u) : SparesKey s u :=
  ⟨k.blf.trans h.blf, k.mpe.trans h.mpe, k.stat.trans h.stat⟩

theorem SparesKey.foldl {α : Type} (f : State → α → State) (hf : ∀ x a, SparesKey x (f x a)) (l : List α) (x : State) :
    SparesKey x (l.foldl f x) := by
  induction l generalizing x with
  | nil => exact .refl x
  | cons a l ih => exact (hf x a).trans (ih (f x a))

end

section
variable (s : State)

theorem State.put_sparesKey (f : Fld) (x : Nat) (hf : R.CTS_STAT ≠ f.off) : SparesKey s (s.put f x) :=
  ⟨rfl, rfl, State.rd_put_of_ne s f x _ hf⟩

theorem State.inc_sparesKey (o : Nat) (ho : (satOf o).map Fld.off ≠ some R.CTS_STAT) : SparesKey s (s.inc o) where
  blf := (s.inc_eventFrame o).blf
  mpe := (s.inc_eventFrame o).mpe
  stat := State.rd_inc s o _ fun f hf e => ho (by rw [hf, e, Option.map_some])

/-- EVC's registers lie above those of CTS (R55). -/
theorem ctsStat_ne_evcPend (n : Nat) : R.CTS_STAT ≠ R.EVC_PEND 0 + n / 32 * 4 := by
  simp only [R.CTS_STAT, R.EVC_PEND]
  omega

theorem State.raise_sparesKey (n : Nat) : SparesKey s (s.raise n) where
  blf := ((EvcOnly.refl s).raise n).frame.blf
  mpe := ((EvcOnly.refl s).raise n).frame.mpe
  stat := State.rd_raise s n _ (ctsStat_ne_evcPend n) (by decide)

theorem State.level_sparesKey (n : Nat) (b : Bool) : SparesKey s (s.level n b) where
  blf := ((EvcOnly.refl s).level n b).frame.blf
  mpe := ((EvcOnly.refl s).level n b).frame.mpe
  stat := State.rd_level s n _ b (ctsStat_ne_evcPend n) (by decide)

/-! ### KEEP -/

theorem State.eraseSlot_sparesKey (i : Nat) : SparesKey s (s.eraseSlot i) := by
  have hcount : ∀ x : State, SparesKey x (x.inc (R.KEEP_CNT 4)) := fun x => x.inc_sparesKey _ (by decide)
  unfold State.eraseSlot
  split
  · exact .refl s
  · exact SparesKey.trans (t := (s.dropTarget i).emptySlot i) ⟨rfl, rfl, rfl⟩ (hcount _)
  · exact SparesKey.trans (t := s.emptySlot i) ⟨rfl, rfl, rfl⟩ (hcount _)

theorem State.eraseSlots_sparesKey (is : List Nat) : SparesKey s (s.eraseSlots is) := by
  induction is generalizing s with
  | nil => exact .refl s
  | cons i is ih => exact (s.eraseSlot_sparesKey i).trans (ih _)

theorem State.bbkDestroy_sparesKey : SparesKey s s.bbkDestroy := by
  refine ⟨rfl, rfl, ?_⟩
  unfold State.bbkDestroy State.syncBattery
  rw [State.rd_wr_of_ne _ _ _ _ (by decide)]
  exact State.rd_put_of_ne _ _ _ _ (by decide)

theorem State.loseObjects_blf : s.loseObjects.blf = s.blf := by
  have herase := (s.eraseSlots_sparesKey (s.slotsWhere (fun x => x.lobj && x.st == .live))).blf
  unfold State.loseObjects
  dsimp only
  split
  · exact herase
  · exact (State.raise_sparesKey _ 202).blf.trans herase

/-! ### The line -/

theorem State.dropFrames_sparesKey (p : FrameSt → Bool) : SparesKey s (s.dropFrames drFlushed p) := by
  have hsat : ∀ i : Fin 16, (satOf (R.LIF_DROP i drFlushed)).map Fld.off ≠ some R.CTS_STAT := by decide
  refine SparesKey.foldl _ (fun x f => ?_) _ s
  have hgone : SparesKey x ((x.withdrawRecord f).removeFrame f.id) := by
    unfold State.withdrawRecord
    split <;> exact ⟨rfl, rfl, rfl⟩
  refine hgone.trans ?_
  unfold State.dropFrame State.countDrop
  split
  · next hport => exact State.inc_sparesKey _ _ (hsat ⟨f.port, hport⟩)
  · exact .refl _

/-- The registers of the line interface lie above those of CTS (R55). -/
theorem ctsStat_ne_lifPstat (p : Nat) : R.CTS_STAT ≠ R.LIF_PSTAT p := by
  simp only [R.CTS_STAT, R.LIF_PSTAT]
  omega

theorem State.lifPend_sparesKey (p i : Nat) : SparesKey s (s.lifPend p ⟨R.LIF_PSTAT p, i, 1⟩) :=
  (s.put_sparesKey _ 1 (ctsStat_ne_lifPstat p)).trans (State.level_sparesKey _ _ _)

theorem State.setPreempt_sparesKey (p : Nat) (b : Bool) : SparesKey s (s.setPreempt p b) := by
  unfold State.setPreempt
  split
  · exact .refl s
  · exact (s.put_sparesKey _ _ (ctsStat_ne_lifPstat p)).trans (State.lifPend_sparesKey _ p 17)

theorem State.setLink_sparesKey (p : Nat) (b : Bool) : SparesKey s (s.setLink p b) := by
  have hput : ∀ (x : State) (i v : Nat), SparesKey x (x.put ⟨R.LIF_PSTAT p, i, 1⟩ v) :=
    fun x i v => x.put_sparesKey _ v (ctsStat_ne_lifPstat p)
  unfold State.setLink
  dsimp only
  have hlocks := (hput s 1 (if b then 1 else 0)).trans (hput _ 2 (if (b && !s.ipp.aui.contains p) then 1 else 0))
  split
  · exact hlocks
  · have hlink := (hlocks.trans (hput _ 0 (if b then 1 else 0))).trans (State.lifPend_sparesKey _ p 16)
    split
    · exact hlink
    · exact hlink.trans (State.setPreempt_sparesKey _ p false)

theorem State.portDown_sparesKey (p : Nat) : SparesKey s (s.portDown p) :=
  (s.setLink_sparesKey p false).trans (State.put_sparesKey _ _ 0 (by simp only [R.CTS_STAT, R.LIF_PCTL]; omega))

theorem State.stopPair_sparesKey : SparesKey s s.stopPair :=
  (s.dropFrames_sparesKey fun _ => true).trans (SparesKey.foldl _ State.portDown_sparesKey _ _)

/-! ### The exit from Vigil (R566) -/

theorem State.restartGovernor_sparesKey : SparesKey s s.restartGovernor := by
  refine ⟨rfl, rfl, ?_⟩
  unfold State.restartGovernor
  exact (State.rd_put_of_ne _ _ _ _ (by decide)).trans (State.rd_put_of_ne _ _ _ _ (by decide))

theorem State.rngBegin_sparesKey : SparesKey s s.rngBegin :=
  (s.put_sparesKey F.RNG_STAT_STATE rngStartup (by decide)).trans (State.put_sparesKey _ F.RNG_SRC_STAT_LIVE 0 (by decide))

theorem State.vigilLeave_sparesKey : SparesKey s s.vigilLeave := by
  unfold State.vigilLeave
  split
  · split
    · exact ⟨rfl, rfl, rfl⟩
    · exact .refl s
  · split
    · exact .refl s
    · exact ((s.put_sparesKey F.PWR_STAT_VIGIL_TRANS 1 (by decide)).trans (State.restartGovernor_sparesKey _)).trans
        (State.rngBegin_sparesKey _)

/-! ### The memory key is zeroed -/

theorem State.wipeStore_blf : s.wipeStore.blf = s.blf := rfl

theorem State.zeroMemoryKey_blf : s.zeroMemoryKey.blf = s.blf := by
  simp only [State.zeroMemoryKey, State.clr_blf, State.set_blf, State.loseObjects_blf, State.wipeStore_blf,
    State.loseSaves_blf]

theorem State.zeroMemoryKey_key : s.zeroMemoryKey.mpe.key = none := by
  simp only [State.zeroMemoryKey, State.clr_mpe, State.set_mpe]

theorem State.zeroMemoryKey_noKey : s.zeroMemoryKey.on F.CTS_STAT_NO_KEY = true := by
  simp [State.zeroMemoryKey, State.on_clr_bit, State.on_set_bit]

end

/-! ### What the Vigil domain does for an alarm -/

theorem SparesKey.ite {s t : State} (p : Prop) [Decidable p] (h : SparesKey s t) : SparesKey s (if p then t else s) := by
  split
  · exact h
  · exact .refl s

section
variable (s : State) (a : StoredAlarm)

/-- An alarm acts in three parts: the memory key is zeroed from level 4 on, the alarm is stored in some state `x`, and
everything else spares both the key's state and what is stored. -/
theorem State.vigilAct_parts : ∃ x, SparesKey (if 4 ≤ a.level then s.zeroMemoryKey else s) x ∧
    SparesKey (x.storeAlarm a) (s.vigilAct a) :=
  ⟨_, (((State.eraseSlots_sparesKey _ _).ite (5 ≤ a.level)).trans ((State.bbkDestroy_sparesKey _).ite (a.level = 6))).trans
    ((State.stopPair_sparesKey _).ite (2 ≤ a.level)), (State.vigilLeave_sparesKey _).ite (1 ≤ a.level)⟩

theorem State.storeAlarm_first (h : s.blf.stored = []) :
    s.storeAlarm a = { s with blf := { s.blf with stored := [a] } } := by
  simp [State.storeAlarm, h]

theorem State.vigilAct_stored (h : s.blf.stored = []) : (s.vigilAct a).blf.stored = [a] := by
  obtain ⟨x, hx, hstored⟩ := s.vigilAct_parts a
  have hblf : x.blf = s.blf := hx.blf.trans (by split <;> simp [State.zeroMemoryKey_blf])
  rw [hstored.blf, x.storeAlarm_first a (by rw [hblf, h])]

theorem State.vigilAct_quiet (hl : a.level = 0) : s.vigilAct a = s.storeAlarm a := by
  simp [State.vigilAct, hl]

theorem State.storeAlarm_frame : s.storeAlarm a = { s with blf := (s.storeAlarm a).blf } := by
  unfold State.storeAlarm
  dsimp only
  split_ifs <;> rfl

theorem State.vigilAct_zeroes (hl : 4 ≤ a.level) :
    (s.vigilAct a).mpe.key = none ∧ (s.vigilAct a).on F.CTS_STAT_NO_KEY = true := by
  obtain ⟨x, hx, hstored⟩ := s.vigilAct_parts a
  rw [if_pos hl] at hx
  have hframe := x.storeAlarm_frame a
  have hmpe : (s.vigilAct a).mpe = s.zeroMemoryKey.mpe :=
    (hstored.mpe.trans (congrArg State.mpe hframe)).trans hx.mpe
  have hstat : (s.vigilAct a).rd R.CTS_STAT = s.zeroMemoryKey.rd R.CTS_STAT :=
    (hstored.stat.trans (congrArg (State.rd · R.CTS_STAT) hframe)).trans hx.stat
  exact ⟨hmpe ▸ s.zeroMemoryKey_key, (congrArg (fun w => fieldGet 3 1 w != 0) hstat).trans s.zeroMemoryKey_noKey⟩

end

end Sys2Proof.Machine
end

section
/-! PROOF. O47: alarms, disagreements and filtered events of Belfry (R469 to R471, R476, R481). -/

namespace Sys2Proof.Machine

theorem exec_disagreement (s : State) (n : Fin 14) (d : Det) :
    exec (.disagreement n d) s = .next (s.disagree n (detNum d)) := rfl

theorem exec_vigilAlarm (s : State) (n : Fin 14) (d : Det) :
    exec (.vigilAlarm n d) s = .next (s.vigilAlarm n (detNum d)) := rfl

/-- Outside Vigil an alarm of a detector, and the heartbeat's timeout as one of ALARM_PATH, act alike (R466, R479). -/
theorem exec_detectorAlarm (s : State) (n : Fin 14) (d : Det) (c : Instr)
    (hc : c = .detectorAlarm n d ∨ (n.val = 13 ∧ c = .heartbeatTimeout d)) (hv : s.vigilBelfry = false) :
    exec c s = .next (s.detectorAlarm n (detNum d)) := by
  have hmain : (if s.vigilBelfry then s else s.detectorAlarm n (detNum d)) = s.detectorAlarm n (detNum d) := by
    rw [hv, if_neg Bool.false_ne_true]
  rcases hc with rfl | ⟨hn, rfl⟩
  · exact congrArg Host.Outcome.next hmain
  · rw [hn] at hmain ⊢
    exact congrArg Host.Outcome.next hmain

/-! ### ADDR of an alarm (R471) -/

theorem blfAddr_main (n dets : Nat) : blfAddr n dets false false false = n + 256 * dets := by
  simp [blfAddr, Nat.mul_comm]

theorem blfAddr_windowed (n dets : Nat) : blfAddr n dets true false false = n + 256 * dets + 2 ^ 16 := by
  simp [blfAddr, Nat.mul_comm]

theorem blfAddr_vigil (n dets : Nat) : blfAddr n dets false true false = n + 256 * dets + 2 ^ 17 := by
  simp [blfAddr, Nat.mul_comm]

/-! ### The alarm of a detector, outside Vigil and in it

What an alarm sends and counts does not depend on Belfry's own state, so a fact about the state with the alarm noted is
one about the state before. -/

theorem State.sameMemory_detectorAlarm (s : State) (n d : Nat) : SameMemory s (s.detectorAlarm n d) :=
  (State.detectorAlarm_keeps n d (Keeps.refl true s)).sameMemory

theorem State.lone_alarmNoted (s : State) (n : Fin 14) (d : Det) (hp : s.detLive n (1 - detNum d) = true) :
    (s.alarmNoted n d).blf.lone =
      s.blf.lone.filter (fun e => e.1 != 2 * n.val + detNum d) ++ [(2 * n.val + detNum d, s.time)] :=
  if_pos hp

section
variable {s : State} {n : Fin 14} {d : Det} (h : s.alarms n d)
include h

theorem State.alarms.detectorAlarm_unmatched (hb : ¬ s.aloneCounts n d) :
    s.detectorAlarm n (detNum d) = s.alarmNoted n d :=
  h.detAlarm_unmatched _ hb

section
variable (ha : s.aloneCounts n d)
include ha

theorem State.alarms.issues_unfiltered (hf : (s.filtering && filtered n) = false) :
    AlarmIssued n (s.get (F.BLF_SRC_CFG_LEVEL n)) (n + 256 * 2 ^ detNum d) ((s.alarmNoted n d).lastNoted n)
      (s.detectorAlarm n (detNum d)) := by
  rw [h.detectorAlarm_unfiltered ha hf, blfAddr_main]
  exact State.alarmOut_issues _ n _ _

theorem State.alarms.issues_windowed (hs : s.filtering = true) (hn : filtered n = true)
    (hk : s.get F.BLF_FILT_N ≤ (s.recentEvents n).length + 1) :
    AlarmIssued n (s.get (F.BLF_SRC_CFG_LEVEL n)) (n + 256 * 2 ^ detNum d + 2 ^ 16)
      (((s.alarmNoted n d).eventNoted n).lastNoted n) (s.detectorAlarm n (detNum d)) := by
  rw [h.detectorAlarm_windowed ha hs hn hk, blfAddr_windowed]
  exact State.alarmOut_issues _ n _ _

theorem State.alarms.counts_filtered (hs : s.filtering = true) (hn : filtered n = true)
    (hk : (s.recentEvents n).length + 1 < s.get F.BLF_FILT_N) :
    CountedAndRaised (R.BLF_FILTC n) 19 ⟨R.BLF_SAT2, n, 1⟩ ((s.alarmNoted n d).eventNoted n)
      (s.detectorAlarm n (detNum d)) := by
  rw [h.detectorAlarm_counted ha hs hn hk]
  exact State.countedAndRaised _ _ 19 _ (satOf_blfFiltc n) (by decide) (by simp only [R.BLF_FILTC, R.EVC_CNT]; omega)

/-- In Vigil the same alarm is acted on in the Vigil domain, with VIGIL in its ADDR (R480, R481). -/
theorem State.alarms.vigilAlarm_unfiltered (hv : s.vigilBelfry = true) (hf : (s.filtering && filtered n) = false) :
    s.vigilAlarm n (detNum d) = ((s.alarmNoted n d).lastNoted n).vigilAct
      ⟨n, n + 256 * 2 ^ detNum d + 2 ^ 17, s.get (F.BLF_SRC_CFG_LEVEL n)⟩ := by
  have hdomain : (!s.vigilBelfry) ≠ true := by simp [hv]
  rw [State.vigilAlarm, if_neg hdomain, h.detAlarm_alone _ ha, State.sourceEvent_unfiltered (s.alarmNoted n d) _ _ hf,
    State.alarmLimit_passes (s.alarmNoted n d) n _ h.last, blfAddr_vigil]
  rfl

end

end

/-! ### An alarm that was not matched (R470) -/

/-- A disagreement has been recorded: besides the disagreement, its count and event 16 only the end of the wait shows it. -/
structure Disagreed (n : Fin 14) (d : Det) (s t : State) : Prop where
  latch : t.on ⟨R.BLF_DISAGREE, n, 1⟩ = true
  count : t.cntGet (R.BLF_DIS_CNT n) = s.plus (R.BLF_DIS_CNT n) 1
  pending : t.isPending 16 = true
  blf : t.blf = (s.loneEnded n d).blf
  regs : SameRegsBut (R.BLF_DISAGREE :: R.BLF_SAT1 :: eventRegs) s t
  mem : SameMemory s t

theorem State.disagree_records (s : State) (n : Fin 14) (d : Det) (m : Nat × Nat) (hm : m ∈ s.blf.lone)
    (hup : s.blfUp = true) (hfuse : s.fuseDisabled n = false) (hk : m.1 = 2 * n.val + detNum d)
    (ht : m.2 + 10000 ≤ s.time) : Disagreed n d s (s.disagree n (detNum d)) := by
  have hn := n.isLt
  let r := (s.loneEnded n d).set ⟨R.BLF_DISAGREE, n, 1⟩
  have hraised : CountedAndRaised (R.BLF_DIS_CNT n) 16 ⟨R.BLF_SAT1, n, 1⟩ r (s.disagree n (detNum d)) := by
    rw [s.disagree_unmatched n d m hm hup hfuse hk ht]
    exact State.countedAndRaised _ _ 16 _ (satOf_blfDisCnt n) (by decide) (by simp only [R.BLF_DIS_CNT, R.EVC_CNT]; omega)
  constructor
  case latch =>
    exact (hraised.regs.on _ (by decide : R.BLF_DISAGREE ∉ R.BLF_SAT1 :: eventRegs)).trans
      (State.on_set_self _ _ (by simp only; omega) rfl)
  case count => exact hraised.count
  case pending => exact hraised.pending
  case blf => exact hraised.frame.blf
  case regs =>
    have hput : SameRegsBut (R.BLF_DISAGREE :: R.BLF_SAT1 :: eventRegs) s r :=
      (SameRegsBut.refl _ (s.loneEnded n d)).put ⟨R.BLF_DISAGREE, n, 1⟩ 1 (List.mem_cons_self ..)
    exact hput.trans (hraised.regs.mono fun _ => List.mem_cons_of_mem _)
  case mem => exact (State.disagree_keeps n (detNum d) (Keeps.refl true s)).sameMemory

/-! ### The obligation -/

/-- Settles O47: outside Vigil one clause for each outcome of a lone alarm, then the disagreement, then the alarm in Vigil. -/
theorem belfryAlarms : Obligations.BelfryAlarms := by
  unfold Obligations.BelfryAlarms
  intro s n d
  refine ⟨fun c hc h hv => ?_, fun m hm hup hfuse hk ht => ?_, fun h hv ha hf hstored => ?_⟩
  · rw [exec_detectorAlarm s n d c hc hv]
    have hmem := s.sameMemory_detectorAlarm n (detNum d)
    refine ⟨fun ha hf => ?_, fun hb => ?_, fun ha hs hn => ?_⟩
    · have hissued := h.issues_unfiltered ha hf
      refine ⟨_, rfl, hissued.reports, hissued.latch, hissued.count, hissued.pending, fun hp => ?_, hissued.regs, hmem⟩
      have hlone : (s.detectorAlarm n (detNum d)).blf.lone = _ :=
        (congrArg BlfSt.lone hissued.blf).trans (s.lone_alarmNoted n d hp)
      simp [hlone]
    · rw [h.detectorAlarm_unmatched hb]
      exact ⟨_, rfl, rfl, s.lone_alarmNoted n d (by simpa using (not_or.1 hb).2)⟩
    · rintro _ rfl
      refine ⟨fun hlt => ?_, fun hge => ?_⟩
      · have hcounted := h.counts_filtered ha hs hn hlt
        exact ⟨_, rfl, hcounted.frame.fcr, hcounted.pending, hcounted.count, hcounted.regs, hmem⟩
      · have hissued := h.issues_windowed ha hs hn hge
        exact ⟨_, rfl, hissued.reports, hissued.latch, hissued.regs, hmem⟩
  · have hdis := s.disagree_records n d m hm hup hfuse hk ht
    exact ⟨_, exec_disagreement s n d, hdis.latch, hdis.count, hdis.pending, hdis.blf, hdis.regs, hdis.mem⟩
  · rw [exec_vigilAlarm, h.vigilAlarm_unfiltered ha hv hf]
    refine ⟨_, rfl, State.vigilAct_stored _ _ hstored, fun hl => ?_, fun hl => State.vigilAct_zeroes _ _ hl⟩
    rw [State.vigilAct_quiet _ _ hl]
    exact State.storeAlarm_frame _ _

end Sys2Proof.Machine
end

section
/-! PROOF. The test access port (R500, R507, R508): an instruction selected, debug access to a memory, a register read, and a
boot that has come to service. -/

namespace Sys2Proof.Machine

/-! ### An instruction is selected (R500, R507) -/

section
variable (s : State) (b code n : Nat) (k : State → State)

theorem State.tapRun_powered (h : s.power.pwrOk = true) : s.tapRun code k = k (s.tapSelect code []) := by
  simp [State.tapRun, h]

theorem State.tapScoped_granted (h : s.power.pwrOk = true) (hs : s.scope b = true) :
    s.tapScoped b code k = k (s.tapSelect code []) := by
  simp [State.tapScoped, h, hs]

/-- Without its scope an instruction acts as BYPASS (R500). -/
theorem State.tapScoped_withheld (h : s.power.pwrOk = true) (hs : s.scope b = false) :
    s.tapScoped b code k = s.tapSelect 0xFF [0] := by
  simp [State.tapScoped, State.tapBypassed, h, hs]

theorem State.length_tapFree : (s.tapFree n).lcs.tapOut.length = n := by
  simp [State.tapFree, State.freeBytes, State.tapShift]

end

/-! ### A boot that has come to service stays where it is (R599) -/

/-- No step of the boot starts from milestone 7 or later. -/
theorem State.bootPass_inService (s : State) (h : 7 ≤ s.milestone) : s.bootPass = s := by
  have hne : ∀ k < 7, s.milestone ≠ k := fun k hk => by omega
  have hrom : s.bootRom = s := if_pos (.inr (.inl (hne 1 (by decide))))
  have hstores : s.bootStores = s := if_pos (.inl (hne 2 (by decide)))
  have hconfig : s.bootConfig = s := if_pos (.inl (hne 3 (by decide)))
  have hmemory : s.bootMemory = s := if_neg fun e => hne 4 (by decide) e.1
  have hkeys : s.bootKeys = s := if_pos (.inl (hne 5 (by decide)))
  have hservice : s.bootService = s := if_pos (.inl (hne 6 (by decide)))
  rw [State.bootPass, hrom, hstores, hconfig, hmemory, hkeys, hservice]

theorem State.bootGo_inService (s : State) (h : 7 ≤ s.milestone) : s.bootGo = s := by
  rw [State.bootGo, s.bootPass_inService h, s.bootPass_inService h, s.bootPass_inService h, ite_self]

end Sys2Proof.Machine
end

section
/-! PROOF. The device held in reset by the test access port (R508, R544): what a system reset leaves, and the alarms of the
sources that stay active. -/

namespace Sys2Proof.Machine

/-! ### The registers after a reset (R13) -/

/-- A property of the default, and of whatever the map makes of a value, holds of every value read from the map. -/
theorem sget_smap_of {α : Type} [DecidableEq α] (d : Nat → α) (f : Nat → α → α) (m : List (Nat × α)) (k : Nat)
    (P : α → Prop) (hd : P (d k)) (hf : ∀ v, P (f k v)) : P (sget d (smap d f m) k) := by
  unfold sget
  split
  · next e he =>
    have hkey : e.1 = k := by simpa using List.find?_some he
    obtain ⟨x, -, rfl⟩ := List.mem_map.1 (List.mem_of_mem_filter (List.mem_of_find?_eq_some he))
    subst hkey
    exact hf x.2
  · exact hd

/-- A field that a reset of the kinds restores, whatever its register held, reads its reset value after it. -/
theorem State.get_resetRegs (s : State) (ks : List RstKind) (sel : Nat → Bool) (f : Fld) (hsel : sel f.off = true)
    (hf : ∀ v, fieldGet f.lo f.width (resetWord ks f.off v) = fieldGet f.lo f.width (regReset f.off)) :
    (s.resetRegs ks sel).get f = fieldGet f.lo f.width (regReset f.off) :=
  sget_smap_of regReset (fun o v => if sel o then resetWord ks o v else v) s.regs f.off
    (fun w => fieldGet f.lo f.width w = fieldGet f.lo f.width (regReset f.off)) rfl fun v => by rw [if_pos hsel, hf]

/-- The row of BLF_SRC_CFG in Belfry's table (R487). -/
theorem specAt_blfSrcCfg : ∀ n : Fin 14, (specAt (R.BLF_SRC_CFG n)).map (·.1.fields) =
    some [⟨0, 3, .rwl, .sys, 0⟩, ⟨4, 1, .rwl, .sys, 0⟩] := by decide

/-- A system reset restores the level of every source (R466, R487). -/
theorem fieldGet_resetWord_blfLevel (n : Fin 14) (v : Word) :
    fieldGet 0 3 (resetWord sysKinds (R.BLF_SRC_CFG n) v) = fieldGet 0 3 (regReset (R.BLF_SRC_CFG n)) := by
  obtain ⟨x, hx, hfields⟩ := Option.map_eq_some_iff.1 (specAt_blfSrcCfg n)
  simp only [resetWord, hx, hfields, List.foldl_cons, List.foldl_nil]
  rw [if_pos (by decide), if_pos (by decide), fieldGet_fieldSet_apart _ _ _ _ _ _ (by decide),
    fieldGet_fieldSet_self _ _ _ _ (by decide)]
  exact Nat.mod_eq_of_lt (Nat.mod_lt _ (by decide))

/-! ### A system reset -/

theorem State.endUpdate_frame (s : State) (b : Bool) :
    s.endUpdate b = { s with regs := (s.endUpdate b).regs, cup := (s.endUpdate b).cup } := by
  have herase : ∀ (x : State) (t n : Nat), x.eraseCopies t n = { x with cup := (x.eraseCopies t n).cup } := by
    intro x t n
    rw [State.eraseCopies]
    generalize x.updCopies t = l
    induction l generalizing x with
    | nil => rfl
    | cons c l ih => exact (ih _).trans rfl
  unfold State.endUpdate
  split
  · rfl
  · next u _ =>
    dsimp only
    have hbase : (if u.stage.isSome = true then s else s.eraseCopies u.target sectorSize) =
        { s with cup := (if u.stage.isSome = true then s else s.eraseCopies u.target sectorSize).cup } := by
      split
      · rfl
      · exact herase s _ _
    rw [hbase]
    split <;> rfl

section
variable (s : State) (cause : Nat) (h : s.power.pwrOk = true)
include h

theorem State.systemReset_powered : s.systemReset cause =
    (((s.endUpdate true).resetRegs sysKinds (fun _ => true)).clearCore).wr R.PWR_RST_CAUSE (BitVec.ofNat 32 (2 ^ cause)) := by
  simp [State.systemReset, h]

theorem State.systemReset_power : (s.systemReset cause).power = { s.power with
    sysHeld := true, coreUp := false, jqmUp := false, ippUp := false, cupUp := false, svcUp := false, hostUp := false } := by
  rw [s.systemReset_powered cause h, s.endUpdate_frame]
  rfl

theorem State.systemReset_tapInsn : (s.systemReset cause).lcs.tapInsn = s.lcs.tapInsn := by
  rw [s.systemReset_powered cause h, s.endUpdate_frame]
  rfl

/-- Every slot is EMPTY (R406). -/
theorem State.systemReset_slot (i : Nat) : ((s.systemReset cause).slot i).st = .empty := by
  rw [s.systemReset_powered cause h]
  rfl

theorem State.systemReset_rstCause : (s.systemReset cause).rd R.PWR_RST_CAUSE = BitVec.ofNat 32 (2 ^ cause) := by
  rw [s.systemReset_powered cause h, State.rd_wr_self]

theorem State.systemReset_tests : (s.systemReset cause).blf.tests = [] := by
  rw [s.systemReset_powered cause h]
  rfl

theorem State.systemReset_last : (s.systemReset cause).blf.last = [] := by
  rw [s.systemReset_powered cause h]
  rfl

theorem State.systemReset_blfLevel (n : Fin 14) :
    (s.systemReset cause).get (F.BLF_SRC_CFG_LEVEL n) = fieldGet 0 3 (regReset (R.BLF_SRC_CFG n)) := by
  have hne : R.BLF_SRC_CFG n ≠ R.PWR_RST_CAUSE := by simp only [R.BLF_SRC_CFG, R.PWR_RST_CAUSE]; omega
  have hkept : (s.systemReset cause).get (F.BLF_SRC_CFG_LEVEL n) =
      ((s.endUpdate true).resetRegs sysKinds (fun _ => true)).get (F.BLF_SRC_CFG_LEVEL n) := by
    rw [s.systemReset_powered cause h, State.get, State.rd_wr_of_ne _ _ _ _ hne]
    rfl
  rw [hkept]
  exact State.get_resetRegs _ sysKinds _ (F.BLF_SRC_CFG_LEVEL n) rfl (fieldGet_resetWord_blfLevel n)

end

/-! ### The hold (R508) -/

/-- An instruction of a code that takes the balls holds the device in a system reset. -/
theorem exec_takesBalls (s : State) (h : s.power.pwrOk = true) (e : Instr × Nat)
    (he : e ∈ [(Instr.extest, 3), (.extestPulse, 4), (.extestTrain, 5), (.clamp, 6), (.highz, 7)]) :
    exec e.1 s = .next (s.tapSelect e.2 []).tapHolds := by
  have hrun : ∀ k, s.tapRun k State.tapHolds = (s.tapSelect k []).tapHolds := fun k => s.tapRun_powered k _ h
  simp only [List.mem_cons, List.not_mem_nil, or_false] at he
  obtain rfl | rfl | rfl | rfl | rfl := he <;> exact congrArg Host.Outcome.next (hrun _)

theorem exec_sysrstNRelease_held (s : State) (u : OtpNoise) (h : s.lcs.tapHold = true) :
    exec (.sysrstNRelease u) s = .next { s with power := { s.power with sysrstLow := false } } := by
  show Host.Outcome.next (s.sysRelease u) = _
  simp [State.sysRelease, h]

theorem exec_tapReset_powered (s : State) (h : s.power.pwrOk = true) :
    exec .tapReset s = .next { s with lcs := { s.lcs with tapInsn := 1, tapHold := false } } :=
  congrArg Host.Outcome.next (if_pos h)

/-! ### Alarms while the device is held -/

section
variable {s : State} {n : Fin 14} {d : Det}

/-- Belfry is in reset, and the source is none of those that stay active. -/
theorem exec_detectorAlarm_held_inactive (hup : s.blfUp = false) (hn : n.val ∉ [0, 1, 2, 11]) :
    exec (.detectorAlarm n d) s = .next s := by
  have hheld : s.heldActive n = false := by
    rw [State.heldActive, List.contains_eq_mem, decide_eq_false hn, Bool.and_false]
  have hoff : s.detectorAlarm n (detNum d) = s := by simp [State.detectorAlarm, State.detAlarm, hup, hheld]
  show Host.Outcome.next (if s.vigilBelfry then s else s.detectorAlarm n (detNum d)) = _
  rw [hoff, ite_self]

/-- A lone alarm that counts: the source is in no alarm, and one detector is enough (R469, R470). -/
theorem State.noteAlarm_alone (ha : s.aloneCounts n d) (hA : s.inAlarm (2 * n.val) = false)
    (hB : s.inAlarm (2 * n.val + 1) = false) :
    s.noteAlarm n (detNum d) = (s.alarmNoted n d, some (2 ^ detNum d)) := by
  have hself : s.inAlarm (2 * n + detNum d) = false := by cases d <;> assumption
  have hpartner : s.inAlarm (2 * n + (1 - detNum d)) = false := by cases d <;> assumption
  have hany : (s.on (F.BLF_SRC_CFG_POLICY n) && s.detLive n (1 - detNum d)) = false := by rcases ha with ha | ha <;> simp [ha]
  simp [State.noteAlarm, State.alarmNoted, hself, hpartner, hany]

/-- One of the four sources that stay active reports a lone alarm at its level. -/
theorem exec_detectorAlarm_held_active (hpwr : s.power.pwrOk = true) (hhold : s.lcs.tapHold = true)
    (htests : s.blf.tests = []) (hlast : s.blf.last = []) (hn : n.val ∈ [0, 1, 2, 11])
    (hlive : s.detLive n (detNum d) = true) (ha : s.aloneCounts n d) (hA : s.inAlarm (2 * n.val) = false)
    (hB : s.inAlarm (2 * n.val + 1) = false) (hv : s.vigilBelfry = false) (hf : s.filtering = false) :
    ∃ u, exec (.detectorAlarm n d) s = .next u ∧
      Reports 0x100 0x10 (s.get (F.BLF_SRC_CFG_LEVEL n)) (n.val + 256 * 2 ^ detNum d) s u := by
  have hactive : s.heldActive n = true := by
    rw [State.heldActive, hpwr, hhold, List.contains_eq_mem, decide_eq_true hn]
    rfl
  have hlogic : (n.val == 12) = false := by
    simp only [List.mem_cons, List.not_mem_nil, or_false] at hn
    simp only [beq_eq_false_iff_ne]
    omega
  have hnoted : s.detectorAlarm n (detNum d) = (s.alarmNoted n d).sourceEvent n fun w x =>
      x.alarmOnce n (2 ^ detNum d) w false := by
    simp [State.detectorAlarm, State.detAlarm, hactive, hlive, hlogic, State.underTest, htests, State.noteAlarm_alone ha hA hB]
  have hquiet : sget (fun _ => 0) (s.alarmNoted n d).blf.last n = 0 := congrArg (fun l => sget (fun _ => 0) l n.val) hlast
  have hunfiltered : ((s.alarmNoted n d).filtering && filtered n) = false :=
    Bool.and_eq_false_imp.2 fun e => absurd (hf.symm.trans e) (by decide)
  have hissue : s.detectorAlarm n (detNum d) = ((s.alarmNoted n d).lastNoted n).alarmOut n
      (s.get (F.BLF_SRC_CFG_LEVEL n)) (blfAddr n (2 ^ detNum d) false false false) := by
    rw [hnoted, State.sourceEvent_unfiltered _ _ _ hunfiltered]
    exact State.alarmLimit_passes _ n _ (.inl hquiet)
  refine ⟨_, exec_detectorAlarm s n d _ (.inl rfl) hv, ?_⟩
  rw [hissue, blfAddr_main]
  exact (State.alarmOut_issues ((s.alarmNoted n d).lastNoted n) n _ _).reports

end

end Sys2Proof.Machine
end

section
/-! PROOF. O52: the instructions of the test access port (R500, R507, R508). -/

namespace Sys2Proof.Machine

/-! ### Debug access to a memory (R500) -/

theorem memRead_memWrite_word (m : List Host.Cell) (a v : Nat) :
    memRead (memWrite m a (natLE 4 v)) a 4 = natLE 4 v :=
  memRead_memWrite (natLE 4 v) m a

theorem memByte_memWrite_word (m : List Host.Cell) (a v b : Nat) (h : b < a ∨ a + 4 ≤ b) :
    memByte (memWrite m a (natLE 4 v)) b = memByte m b :=
  memByte_memWrite_outside (natLE 4 v) m a b h

theorem State.dbgRead_inside (s : State) (m : List Host.Cell) (size a : Nat) (h : a + 4 ≤ size) :
    s.dbgRead m size a = s.tapShift (memRead m a 4) := if_pos h

section
variable (s : State) (hpwr : s.power.pwrOk = true)
include hpwr

/-- In service a debugged Cupola has no boot to go on with. -/
theorem exec_cupDbg_granted (hs : s.scope 1 = true) (hm : 7 ≤ s.milestone) (op : DbgOp) :
    exec (.cupDbg op) s = .next ((s.tapSelect 0x20 []).dbgCup op) := by
  show Host.Outcome.next (s.tapScoped 1 0x20 fun s => (s.dbgCup op).dbgGo op) = _
  rw [s.tapScoped_granted _ _ _ hpwr hs, State.dbgGo]
  split
  · next h =>
    subst h
    exact congrArg Host.Outcome.next (State.bootGo_inService ((s.tapSelect 0x20 []).dbgCup .resume) hm)
  · rfl

theorem exec_svcDbg_granted (hs : s.scope 2 = true) (op : DbgOp) :
    exec (.svcDbg op) s = .next ((s.tapSelect 0x21 []).dbgSvc op) :=
  congrArg Host.Outcome.next (s.tapScoped_granted 2 0x21 _ hpwr hs)

theorem cupDbg_read (hs : s.scope 1 = true) (hm : 7 ≤ s.milestone) (a : Word) (ha : a.toNat + 4 ≤ 0x100000) :
    ∃ t, exec (.cupDbg (.read a)) s = .next t ∧ t = { s with lcs := t.lcs } ∧ t.lcs.tapOut = memRead s.cupMem a.toNat 4 := by
  have hexec := exec_cupDbg_granted s hpwr hs hm (.read a)
  rw [State.dbgCup, State.dbgRead_inside _ _ _ _ ha] at hexec
  exact ⟨_, hexec, rfl, rfl⟩

theorem cupDbg_write (hs : s.scope 1 = true) (hm : 7 ≤ s.milestone) (a v : Word) (ha : a.toNat + 4 ≤ 0x100000) :
    ∃ t, exec (.cupDbg (.write a v)) s = .next t ∧ t = { s with lcs := t.lcs, cupMem := t.cupMem } ∧
      memRead t.cupMem a.toNat 4 = natLE 4 v.toNat ∧
      ∀ b, b < a.toNat ∨ a.toNat + 4 ≤ b → memByte t.cupMem b = memByte s.cupMem b := by
  have hexec := exec_cupDbg_granted s hpwr hs hm (.write a v)
  rw [State.dbgCup, if_pos ha] at hexec
  exact ⟨_, hexec, rfl, memRead_memWrite_word _ _ _, fun b hb => memByte_memWrite_word _ _ _ b hb⟩

theorem svcDbg_read (hs : s.scope 2 = true) (a : Word) (ha : a.toNat + 4 ≤ 0x8000000) :
    ∃ t, exec (.svcDbg (.read a)) s = .next t ∧ t = { s with lcs := t.lcs } ∧ t.lcs.tapOut = memRead s.svcMem a.toNat 4 := by
  have hexec := exec_svcDbg_granted s hpwr hs (.read a)
  rw [State.dbgSvc, State.dbgRead_inside _ _ _ _ ha] at hexec
  exact ⟨_, hexec, rfl, rfl⟩

theorem svcDbg_write (hs : s.scope 2 = true) (a v : Word) (ha : a.toNat + 4 ≤ 0x8000000) :
    ∃ t, exec (.svcDbg (.write a v)) s = .next t ∧ t = { s with lcs := t.lcs, svcMem := t.svcMem } ∧
      memRead t.svcMem a.toNat 4 = natLE 4 v.toNat ∧
      ∀ b, b < a.toNat ∨ a.toNat + 4 ≤ b → memByte t.svcMem b = memByte s.svcMem b := by
  have hexec := exec_svcDbg_granted s hpwr hs (.write a v)
  rw [State.dbgSvc, if_pos ha] at hexec
  exact ⟨_, hexec, rfl, memRead_memWrite_word _ _ _, fun b hb => memByte_memWrite_word _ _ _ b hb⟩

end

/-! ### A refused access (R17, R58) -/

theorem satOf_glbDenied : satOf R.GLB_DENIED = some F.GLB_STAT_DENIED_SAT := by decide
theorem satOf_dkeCnt7 : satOf (R.DKE_CNT 7) = some ⟨R.DKE_SAT, 7, 1⟩ := by decide

section
variable (s : State) (r : Req) (o : Nat) (wr : Bool)

/-- DENIED_ACC is set in a state with the counts of before, GLB_DENIED counts, and DKE_CNT[7] where a foreign channel was
meant (R58, R418). -/
theorem State.denied_eq : ∃ x : State, x.cnt = s.cnt ∧ s.denied r o wr =
    if s.foreign r o wr then ((x.set F.GLB_STAT_DENIED_ACC).inc R.GLB_DENIED).inc (R.DKE_CNT 7)
    else (x.set F.GLB_STAT_DENIED_ACC).inc R.GLB_DENIED :=
  ⟨if s.on F.GLB_STAT_DENIED_ACC then s else s.wr R.GLB_DENIED_ADDR
    (BitVec.ofNat 32 (o % 2 ^ 24 + reqCode r * 2 ^ 24 + if wr then 2 ^ 31 else 0)), by simp [apply_ite State.cnt], rfl⟩

theorem State.cntGet_denied : (s.denied r o wr).cntGet R.GLB_DENIED = s.plus R.GLB_DENIED 1 := by
  obtain ⟨x, hx, hdenied⟩ := s.denied_eq r o wr
  have hcount : ((x.set F.GLB_STAT_DENIED_ACC).inc R.GLB_DENIED).cntGet R.GLB_DENIED = s.plus R.GLB_DENIED 1 := by
    rw [State.cntGet_inc, State.cntGet_set, State.cntGet, hx, State.plus, State.cntGet]
  rw [hdenied]
  split
  · rw [State.cntGet_inc_of_ne _ _ _ (by decide), hcount]
  · exact hcount

theorem State.on_denied : (s.denied r o wr).on F.GLB_STAT_DENIED_ACC = true := by
  obtain ⟨x, -, hdenied⟩ := s.denied_eq r o wr
  have hset : ((x.set F.GLB_STAT_DENIED_ACC).inc R.GLB_DENIED).on F.GLB_STAT_DENIED_ACC = true := by
    refine (State.on_inc _ _ _ fun g hg => ?_).trans (State.on_set_self _ _ (by decide) rfl)
    cases satOf_glbDenied.symm.trans hg
    exact .inr (.inl (by decide))
  rw [hdenied]
  split
  · refine (State.on_inc _ _ _ fun g hg => ?_).trans hset
    cases satOf_dkeCnt7.symm.trans hg
    exact .inl (by decide)
  · exact hset

end

/-! ### REG_READ -/

theorem busOffset_tap (a : Word) (o : Nat) (ha : a.toNat = 0x40000000 + o) (ho : o < 0x1000000) :
    busOffset .tap a.toNat = some o := by
  rw [ha]
  simp only [busOffset]
  rw [if_pos (by omega), Nat.add_sub_cancel_left]

theorem State.tapRead_granted (s : State) (o : Nat) (h : s.mayRead .tap o) :
    s.tapRead o = (s.readReg .tap o false).tapShift (natLE 4 (s.readReg .tap o false).busOut.toNat) := by
  rw [State.tapRead, State.busRead, State.gateR_granted s .tap o _ h]

theorem State.tapRead_denied (s : State) (o : Nat) (h : s.power.pwrOk = true) (g : s.grants .tap o false = false) :
    s.tapRead o = ({ s.denied .tap o false with busOut := 0 } : State).tapShift (natLE 4 0) := by
  rw [State.tapRead, State.busRead, State.gateR_denied s .tap o _ h g]
  rfl

section
variable (s : State) (a : Word) (o : Nat) (ha : a.toNat = 0x40000000 + o) (ho : o < 0x1000000) (h4 : o % 4 = 0)
include ha ho h4

theorem exec_regRead : exec (.regRead a) s = .next (s.tapScoped 0 0x22 (·.tapRead o)) :=
  atBus_aligned .tap a 4 o _ (busOffset_tap a o ha ho) h4

variable (hpwr : s.power.pwrOk = true)
include hpwr

theorem exec_regRead_granted (hs : s.scope 0 = true) :
    exec (.regRead a) s = .next ((s.tapSelect 0x22 []).tapRead o) := by
  rw [exec_regRead s a o ha ho h4, s.tapScoped_granted _ _ _ hpwr hs]

theorem regRead_denied (hs : s.scope 0 = true) (hg : s.grants .tap o false = false) :
    ∃ t, exec (.regRead a) s = .next t ∧ t.lcs.tapOut = natLE 4 0 ∧ t.cntGet R.GLB_DENIED = s.plus R.GLB_DENIED 1 ∧
      t.on F.GLB_STAT_DENIED_ACC = true ∧ SameMemory s t := by
  have hexec := exec_regRead_granted s a o ha ho h4 hpwr hs
  rw [(s.tapSelect 0x22 []).tapRead_denied o hpwr hg] at hexec
  have hmem := (State.denied_keeps .tap o false (Keeps.refl true (s.tapSelect 0x22 []))).sameMemory
  exact ⟨_, hexec, rfl, (s.tapSelect 0x22 []).cntGet_denied .tap o false, (s.tapSelect 0x22 []).on_denied .tap o false,
    hmem.host, hmem.svc, hmem.cup, hmem.flash, hmem.otp⟩

end

/-! ### The other clauses -/

section
variable (s : State) (hpwr : s.power.pwrOk = true)
include hpwr

theorem samplePreload_open (v : List Byte) : ∃ t, exec (.samplePreload v) s = .next t ∧ t.lcs.cells = v ∧
    t.lcs.tapInsn = 2 ∧ t.lcs.tapOut.length = v.length ∧ t = { s with lcs := t.lcs, free := t.free } :=
  ⟨_, congrArg Host.Outcome.next (s.tapRun_powered 0x02 _ hpwr), rfl, rfl, State.length_tapFree _ _, rfl⟩

/-- An instruction that takes the balls: the system reset, its hold, and the four sources that still alarm (R508). -/
theorem takesBalls_holds (e : Instr × Nat)
    (he : e ∈ [(Instr.extest, 3), (.extestPulse, 4), (.extestTrain, 5), (.clamp, 6), (.highz, 7)]) :
    ∃ t, exec e.1 s = .next t ∧ t.power.sysHeld = true ∧ t.power.coreUp = false ∧ t.power.cupUp = false ∧
      t.lcs.tapInsn = e.2 ∧ (∀ i, (t.slot i).st = .empty) ∧ t.rd R.PWR_RST_CAUSE = 32 ∧
      (∀ n : Fin 14, t.get (F.BLF_SRC_CFG_LEVEL n) = bits (regReset (R.BLF_SRC_CFG n)).toNat 0 3) ∧
      (∀ u, exec (.sysrstNRelease u) t = .next { t with power := { t.power with sysrstLow := false } }) ∧
      (∃ u, exec .tapReset t = .next u ∧ u = { t with lcs := { t.lcs with tapInsn := 1, tapHold := false } }) ∧
      ∀ (n : Fin 14) (d : Det), (n.val ∉ [0, 1, 2, 11] → exec (.detectorAlarm n d) t = .next t) ∧
        (n.val ∈ [0, 1, 2, 11] → t.detLive n (detNum d) = true → t.aloneCounts n d → t.inAlarm (2 * n.val) = false →
          t.inAlarm (2 * n.val + 1) = false → t.vigilBelfry = false → t.filtering = false →
          ∃ u, exec (.detectorAlarm n d) t = .next u ∧
            Reports 0x100 0x10 (t.get (F.BLF_SRC_CFG_LEVEL n)) (n.val + 256 * 2 ^ detNum d) t u) := by
  let x := s.tapSelect e.2 []
  have hpower := x.systemReset_power 5 hpwr
  have hheld : x.tapHolds.power.sysHeld = true := congrArg PowerSt.sysHeld hpower
  have hon : x.tapHolds.power.pwrOk = true := (congrArg PowerSt.pwrOk hpower).trans hpwr
  have hup : x.tapHolds.blfUp = false := by rw [State.blfUp, hheld, Bool.not_true, Bool.and_false]
  refine ⟨_, exec_takesBalls s hpwr e he, hheld, congrArg PowerSt.coreUp hpower, congrArg PowerSt.cupUp hpower,
    x.systemReset_tapInsn 5 hpwr, x.systemReset_slot 5 hpwr, x.systemReset_rstCause 5 hpwr, x.systemReset_blfLevel 5 hpwr,
    fun u => exec_sysrstNRelease_held _ u rfl, ⟨_, exec_tapReset_powered _ hon, rfl⟩,
    fun n d => ⟨exec_detectorAlarm_held_inactive hup, fun hn hlive ha hA hB hv hf => ?_⟩⟩
  exact exec_detectorAlarm_held_active hon rfl (x.systemReset_tests 5 hpwr) (x.systemReset_last 5 hpwr) hn hlive ha hA hB hv hf

theorem tokenLoad_presents (tok : List Byte) (halive : s.alive = true) (hidle : s.on F.LCS_TOK_RES_BUSY = false) :
    ∃ t, exec (.tokenLoad tok) s = .next t ∧ t.lcs.token = some tok ∧ t.on F.LCS_TOK_RES_BUSY = true ∧
      SameRegsBut [R.LCS_TOK_RES] s t ∧ SameMemory s t := by
  let x := s.tapSelect 0x12 []
  have hrun : s.tapRun 0x12 (fun s => if s.alive then s.tokenStart tok else s) =
      ({ x with lcs := { x.lcs with token := some tok } } : State).set F.LCS_TOK_RES_BUSY := by
    have hstart : x.tokenStart tok = _ := if_neg (by rw [show x.on F.LCS_TOK_RES_BUSY = false from hidle]; decide)
    rw [s.tapRun_powered _ _ hpwr, if_pos (by exact halive), hstart]
  have hkeep : Keeps true s (({ x with lcs := { x.lcs with token := some tok } } : State).set F.LCS_TOK_RES_BUSY) :=
    State.set_keeps _ (keeps_upd (Keeps.refl true s) rfl id)
  exact ⟨_, congrArg Host.Outcome.next hrun, rfl, State.on_set_self _ _ (by decide) rfl,
    State.sameRegsBut_put _ F.LCS_TOK_RES_BUSY 1, hkeep.sameMemory⟩

theorem exec_withheld (op : DbgOp) (v : Word) (e : Instr × Nat)
    (he : e ∈ [(Instr.cupDbg op, 1), (.svcDbg op, 2), (.prodTest v, 3), (.tapScan v, 4), (.asyncDft v, 5)])
    (hs : s.scope e.2 = false) :
    exec e.1 s = .next { s with lcs := { s.lcs with tapInsn := 0xFF, tapOut := [0] } } := by
  simp only [List.mem_cons, List.not_mem_nil, or_false] at he
  obtain rfl | rfl | rfl | rfl | rfl := he <;>
    exact congrArg Host.Outcome.next (s.tapScoped_withheld _ _ _ hpwr hs)

theorem testInstruction_open (v : Word) (e : Instr × Nat × Nat)
    (he : e ∈ [(Instr.prodTest v, 3, 0x30), (.tapScan v, 4, 0x31), (.asyncDft v, 5, 0x32)]) (hs : s.scope e.2.1 = true) :
    ∃ t, exec e.1 s = .next t ∧ t.lcs.tapInsn = e.2.2 ∧ t.lcs.tapOut.length = 4 ∧
      t = { s with lcs := t.lcs, free := t.free } := by
  have hexec : exec e.1 s = .next ((s.tapSelect e.2.2 []).tapFree 4) := by
    simp only [List.mem_cons, List.not_mem_nil, or_false] at he
    obtain rfl | rfl | rfl := he <;> exact congrArg Host.Outcome.next (s.tapScoped_granted _ _ _ hpwr hs)
  exact ⟨_, hexec, rfl, State.length_tapFree _ _, rfl⟩

end

/-- Settles O52: one lemma for each kind of instruction. -/
theorem tapInstructions : Obligations.TapInstructions := by
  unfold Obligations.TapInstructions
  intro s hpwr
  refine ⟨congrArg Host.Outcome.next (s.tapRun_powered 0x01 _ hpwr), fun b => congrArg Host.Outcome.next
    (s.tapRun_powered 0xFF _ hpwr), samplePreload_open s hpwr, takesBalls_holds s hpwr, tokenLoad_presents s hpwr,
    exec_withheld s hpwr, testInstruction_open s hpwr, fun a hs hm => ⟨?_, ?_, ?_, fun ha => ?_⟩,
    fun a hs => ⟨?_, ?_, fun ha => ?_⟩,
    fun a o ha ho h4 => ⟨fun hs => ?_, fun hs hg => ?_, regRead_denied s a o ha ho h4 hpwr⟩⟩
  · exact ⟨_, exec_cupDbg_granted s hpwr hs hm .halt, rfl, rfl⟩
  · exact ⟨_, exec_cupDbg_granted s hpwr hs hm .resume, rfl, rfl⟩
  · exact ⟨_, exec_cupDbg_granted s hpwr hs hm .step, rfl, rfl⟩
  · exact ⟨cupDbg_read s hpwr hs hm a ha, fun v => cupDbg_write s hpwr hs hm a v ha⟩
  · exact ⟨_, exec_svcDbg_granted s hpwr hs .halt, rfl, rfl⟩
  · exact ⟨_, exec_svcDbg_granted s hpwr hs .resume, rfl, rfl⟩
  · exact ⟨svcDbg_read s hpwr hs a ha, fun v => svcDbg_write s hpwr hs a v ha⟩
  · rw [exec_regRead s a o ha ho h4, s.tapScoped_withheld _ _ _ hpwr hs]
    rfl
  · rintro u rfl
    rw [exec_regRead_granted s a o ha ho h4 hpwr hs, (s.tapSelect 0x22 []).tapRead_granted o ⟨hpwr, hg⟩]

end Sys2Proof.Machine
end

section
/-! PROOF. What an operation spares that has no part in the life cycle: OTP, the registers of the life cycle and of the
detectors' policies, and the EMPTY slots of KEEP. The rules of the shared operations. -/

namespace Sys2Proof.Machine

/-! ### Entries of a map at a key -/

section
variable {α : Type} [DecidableEq α] (d : Nat → α) (m : List (Nat × α)) (k : Nat)

theorem mem_of_mem_sput (v : α) (e : Nat × α) (he : e ∈ sput d m k v) (hk : e.1 ≠ k) : e ∈ m := by
  have hsub : e ∈ serase m k → e ∈ m := List.mem_of_mem_filter
  unfold sput at he
  split at he
  · exact hsub he
  · rcases (mem_sins k v _ e).1 he with rfl | he
    · exact absurd rfl hk
    · exact hsub he

theorem snd_of_mem_sput_self (v : α) (e : Nat × α) (he : e ∈ sput d m k v) (hk : e.1 = k) : e.2 = v := by
  unfold sput at he
  split at he
  · exact absurd hk (serase_ne m k e he)
  · rcases (mem_sins k v _ e).1 he with rfl | he
    · rfl
    · exact absurd hk (serase_ne m k e he)

theorem mem_of_mem_smap (f : Nat → α → α) (hf : ∀ v, f k v = v) (e : Nat × α) (he : e ∈ smap d f m) (hk : e.1 = k) :
    e ∈ m := by
  obtain ⟨x, hx, rfl⟩ := List.mem_map.1 (List.mem_of_mem_filter he)
  obtain rfl : x.1 = k := hk
  rwa [hf]

omit [DecidableEq α] in
theorem sget_mem_or : (k, sget d m k) ∈ m ∨ (∀ e ∈ m, e.1 ≠ k) ∧ sget d m k = d k := by
  unfold sget
  split
  · next e he =>
    obtain rfl : e.1 = k := by simpa using List.find?_some he
    exact .inl (List.mem_of_find?_eq_some he)
  · next he => exact .inr ⟨by simpa using he, rfl⟩

/-- A map that leaves the values at a key leaves what is read there, if all entries at the key agree with it. -/
theorem sget_smap_of_fixed (f : Nat → α → α) (hf : ∀ v, f k v = v) (hm : ∀ e ∈ m, e.1 = k → e.2 = sget d m k) :
    sget d (smap d f m) k = sget d m k := by
  rcases sget_mem_or d (smap d f m) k with hmem | ⟨hnone, hread⟩
  · exact hm _ (mem_of_mem_smap d m k f hf _ hmem rfl) rfl
  · rw [hread]
    rcases sget_mem_or d m k with hmem | ⟨-, hdefault⟩
    · by_contra hne
      refine hnone (k, sget d m k) (List.mem_filter.2 ⟨List.mem_map.2 ⟨_, hmem, ?_⟩, ?_⟩) rfl
      · rw [hf]
      · exact decide_eq_true (Ne.symm hne)
    · exact hdefault.symm

end

/-! ### The registers of the life cycle -/

/-- The state of the life cycle, LCS_STAT and, for the policies, the sources' configuration (R469, R510). -/
def lifeCycleRegs : List Nat := R.LCS_STATE :: R.LCS_STAT :: (List.range 14).map R.BLF_SRC_CFG

/-- They lie in the blocks of LCS and of Belfry (R55). -/
theorem locate_lifeCycleRegs : ∀ o ∈ lifeCycleRegs,
    locate o = some (.lcs, 0, o - 0x20000) ∨ locate o = some (.blf, 0, o - 0x40000) := by decide

theorem lt_of_mem_lifeCycleRegs : ∀ o ∈ lifeCycleRegs, o < 0x50000 := by decide

/-- The blocks above Belfry hold none of them. -/
theorem not_mem_lifeCycleRegs (o : Nat) (h : 0x50000 ≤ o) : o ∉ lifeCycleRegs := fun hm =>
  Nat.not_lt.2 h (lt_of_mem_lifeCycleRegs o hm)

theorem mem_regTable_of_findSpec (loc : Nat) (rs : List RegSpec) (x : RegSpec × Nat) (h : findSpec loc rs = some x) :
    x.1 ∈ rs := by
  induction rs with
  | nil => cases h
  | cons r rs ih =>
    rw [findSpec] at h
    split at h
    · cases h
      exact List.mem_cons_self ..
    · exact List.mem_cons_of_mem _ (ih h)

/-- Where the SAT bits of a block's counters lie, as far as the block is not above Belfry (R16). -/
def satsApart (b : Blk) (base : Nat) : Bool :=
  (regTable b).all fun r => decide (r.sat.1 = 0 ∧ r.sat.2 = 0) || !lifeCycleRegs.contains (base + r.sat.1)

theorem satsApart_low : satsApart .glb 0 = true ∧ satsApart .cpm 0x10000 = true ∧ satsApart .lcs 0x20000 = true ∧
    satsApart .fcr 0x30000 = true ∧ satsApart .blf 0x40000 = true := by decide

theorem locate_base (o : Nat) (b : Blk) (n loc : Nat) (h : locate o = some (b, n, loc)) :
    0x50000 ≤ o - loc ∨ satsApart b (o - loc) = true := by
  obtain ⟨hglb, hcpm, hlcs, hfcr, hblf⟩ := satsApart_low
  by_cases hlow : o < 0x50000
  · right
    have hback : ∀ k, k ≤ o → o - (o - k) = k := fun k hk => by omega
    unfold locate at h
    obtain ⟨-, e⟩ | ⟨hge, h⟩ := ite_eq_iff.1 h
    · cases e
      rwa [Nat.sub_self]
    iterate 3
      obtain ⟨-, e⟩ | ⟨hge, h⟩ := ite_eq_iff.1 h
      · cases e
        rwa [hback _ (by omega)]
    rw [if_pos hlow] at h
    cases h
    rwa [hback _ (by omega)]
  · left
    unfold locate at h
    iterate 28
      obtain ⟨hlt, e⟩ | ⟨hge, h⟩ := ite_eq_iff.1 h
      · cases e <;> omega
    cases h

/-- No counter keeps its SAT bit in one of them. -/
theorem satOf_not_mem_lifeCycleRegs (o : Nat) (f : Fld) (h : satOf o = some f) : f.off ∉ lifeCycleRegs := by
  unfold satOf at h
  split at h
  · next b n loc hloc =>
    split at h
    · next r i hspec =>
      split at h
      · cases h
      · next hsat =>
        cases h
        rcases locate_base o b n loc hloc with hbase | hbase
        · exact not_mem_lifeCycleRegs _ (Nat.le_add_right_of_le hbase)
        · simpa [hsat] using List.all_eq_true.1 hbase r (mem_regTable_of_findSpec _ _ _ hspec)
    · cases h
  · cases h

/-! ### Registers whose entries agree

Two entries for one register cannot stand in a file in canonical form. No such form is assumed here, so what a reset leaves of
a register rests on it. -/

/-- Every entry that the register file lists for a register is the word that is read. -/
def State.settled (s : State) (o : Nat) : Prop := ∀ e ∈ s.regs, e.1 = o → e.2 = s.rd o

section
variable (s : State) (o p : Nat) (v : Word)

theorem State.settled_wr_self : (s.wr o v).settled o := fun e he hk => by
  rw [State.rd_wr_self]
  exact snd_of_mem_sput_self regReset s.regs o v e he hk

theorem State.settled_put_self (f : Fld) (x : Nat) : (s.put f x).settled f.off := s.settled_wr_self _ _

variable {s o p}

theorem State.settled.wr (h : s.settled p) (hp : p ≠ o) : (s.wr o v).settled p := fun e he hk => by
  rw [State.rd_wr_of_ne _ _ _ _ hp]
  exact h e (mem_of_mem_sput regReset s.regs o v e he (hk ▸ hp)) hk

/-- A reset that does not pick a settled register leaves it. -/
theorem State.settled.rd_resetRegs (h : s.settled o) (ks : List RstKind) (sel : Nat → Bool) (ho : sel o = false) :
    (s.resetRegs ks sel).rd o = s.rd o :=
  sget_smap_of_fixed regReset s.regs o (fun o v => if sel o then resetWord ks o v else v) (fun v => by simp [ho]) h

theorem State.settled.resetRegs (h : s.settled o) (ks : List RstKind) (sel : Nat → Bool) (ho : sel o = false) :
    (s.resetRegs ks sel).settled o := fun e he hk => by
  rw [h.rd_resetRegs ks sel ho]
  have hmem := mem_of_mem_smap regReset s.regs o (fun o v => if sel o then resetWord ks o v else v)
    (fun v => by simp [ho]) e he hk
  exact h e hmem hk

end

/-! ### What is spared -/

/-- OTP is as before, the registers of the life cycle are where their entries agree, and an EMPTY slot stays EMPTY. -/
structure SparesLc (s t : State) : Prop where
  otp : t.otp = s.otp
  regs : ∀ o ∈ lifeCycleRegs, s.settled o → t.settled o ∧ t.rd o = s.rd o
  slots : ∀ i, (s.slot i).st = .empty → (t.slot i).st = .empty

theorem SparesLc.refl (s : State) : SparesLc s s := ⟨rfl, fun _ _ h => ⟨h, rfl⟩, fun _ h => h⟩

section
variable {s t u : State}

theorem SparesLc.trans (h : SparesLc s t) (k : SparesLc t u) : SparesLc s u where
  otp := k.otp.trans h.otp
  regs := fun o ho hs => by
    obtain ⟨ht, hst⟩ := h.regs o ho hs
    obtain ⟨hu, htu⟩ := k.regs o ho ht
    exact ⟨hu, htu.trans hst⟩
  slots := fun i e => k.slots i (h.slots i e)

theorem SparesLc.get (h : SparesLc s t) (f : Fld) (hf : f.off ∈ lifeCycleRegs) (hs : s.settled f.off) : t.get f = s.get f :=
  congrArg (fieldGet f.lo f.width) (h.regs f.off hf hs).2

section
variable (h : SparesLc s t)
include h

/-- An update of what is not spoken of. -/
theorem SparesLc.upd (ho : u.otp = t.otp := by rfl) (hr : u.regs = t.regs := by rfl)
    (hk : u.keep.slots = t.keep.slots := by rfl) : SparesLc s u :=
  h.trans ⟨ho, fun o _ hs => by
    have hrd : u.rd o = t.rd o := by rw [State.rd, hr, State.rd]
    exact ⟨fun e he => hrd ▸ hs e (hr ▸ he), hrd⟩, fun i e => by rwa [State.slot, hk]⟩

theorem SparesLc.ite {p : Prop} [Decidable p] (k : SparesLc s u) : SparesLc s (if p then t else u) := by
  split
  · exact h
  · exact k

theorem SparesLc.foldl {α : Type} (f : State → α → State) (l : List α) (hf : ∀ x, ∀ a ∈ l, SparesLc x (f x a)) :
    SparesLc s (l.foldl f t) := by
  induction l generalizing t with
  | nil => exact h
  | cons a l ih =>
    obtain ⟨ha, hl⟩ := List.forall_mem_cons.1 fun b hb x => hf x b hb
    exact ih (h.trans (ha t)) fun x b hb => hl b hb x

theorem SparesLc.eachJob (f : State → Job → State) (hf : ∀ x j, SparesLc x (f x j)) (is : List Nat) :
    SparesLc s (t.eachJob f is) := by
  induction is generalizing t with
  | nil => exact h
  | cons i is ih =>
    rw [State.eachJob]
    split
    · exact ih (h.trans (hf t _))
    · exact ih h

/-! ### Registers, counters and resets -/

theorem SparesLc.wr (o : Nat) (v : Word) (ho : o ∉ lifeCycleRegs) : SparesLc s (t.wr o v) :=
  h.trans ⟨State.wr_otp t o v, fun p hp hs => by
    have hne : p ≠ o := fun e => ho (e ▸ hp)
    exact ⟨hs.wr v hne, State.rd_wr_of_ne t o p v hne⟩, fun _ e => e⟩

theorem SparesLc.put (f : Fld) (x : Nat) (hf : f.off ∉ lifeCycleRegs) : SparesLc s (t.put f x) := h.wr _ _ hf

/-- A register of a block above Belfry. -/
theorem SparesLc.wrAbove (o : Nat) (v : Word) (ho : 0x50000 ≤ o) : SparesLc s (t.wr o v) :=
  h.wr o v (not_mem_lifeCycleRegs o ho)

theorem SparesLc.putAbove (f : Fld) (x : Nat) (hf : 0x50000 ≤ f.off) : SparesLc s (t.put f x) :=
  h.put f x (not_mem_lifeCycleRegs _ hf)

theorem SparesLc.resetRegs (ks : List RstKind) (sel : Nat → Bool) (hsel : ∀ o ∈ lifeCycleRegs, sel o = false) :
    SparesLc s (t.resetRegs ks sel) :=
  h.trans ⟨rfl, fun o ho hs => ⟨hs.resetRegs ks sel (hsel o ho), hs.rd_resetRegs ks sel (hsel o ho)⟩, fun _ e => e⟩

theorem SparesLc.resetBlk (b : Blk) (hb : b ≠ .lcs ∧ b ≠ .blf) : SparesLc s (t.resetBlk b) :=
  h.resetRegs blkKinds (inBlock b) fun o ho => by
    rcases locate_lifeCycleRegs o ho with hl | hl <;> simp [inBlock, hl, hb.1.symm, hb.2.symm]

theorem SparesLc.resetInst (b : Blk) (n : Nat) (hb : b ≠ .lcs ∧ b ≠ .blf) : SparesLc s (t.resetRegs blkKinds (inInst b n)) :=
  h.resetRegs blkKinds (inInst b n) fun o ho => by
    rcases locate_lifeCycleRegs o ho with hl | hl <;> simp [inInst, hl, hb.1.symm, hb.2.symm]

theorem SparesLc.count (o n : Nat) : SparesLc s (t.count o n) := by
  unfold State.count
  dsimp only
  split
  · exact h.upd
  · split
    · next f hf => exact h.upd.put f 1 (satOf_not_mem_lifeCycleRegs o f hf)
    · exact h.upd

theorem SparesLc.inc (o : Nat) : SparesLc s (t.inc o) := h.count o 1

/-! ### Events (R528 to R531) -/

theorem SparesLc.msix (fn vec : Nat) : SparesLc s (t.msix fn vec) := by
  unfold State.msix
  split
  · exact h.upd.inc _
  · exact h.upd.inc _

theorem SparesLc.evcDeliver (n : Nat) : SparesLc s (t.evcDeliver n) := by
  have irqCup : ∀ (b : Bool) (x : State), SparesLc s x → SparesLc s (if b = true then x.irqCup n else x) := fun b x hx =>
    SparesLc.ite hx.upd hx
  unfold State.evcDeliver
  split
  · exact h
  · refine irqCup _ _ ?_
    split
    · exact (h.msix _ _).ite h
    · exact h.upd
    · exact h.msix _ _
    · exact (h.msix _ _).ite h

theorem SparesLc.raise (n : Nat) : SparesLc s (t.raise n) := by
  unfold State.raise countIntn
  have hpend : SparesLc s ((t.set (evcBit (R.EVC_PEND 0) n)).evcDeliver n) :=
    (h.putAbove _ 1 (Nat.le_add_right_of_le (by decide))).evcDeliver n
  exact h.ite ((hpend.inc _).ite hpend)

theorem SparesLc.level (n : Nat) (b : Bool) : SparesLc s (t.level n b) := by
  unfold State.level
  have hraw : ∀ l, SparesLc s { t with evc := { t.evc with raw := l } } := fun l => h.upd
  exact (h.ite ((hraw _).raise n)).ite (hraw _)

/-! ### Slots and memory -/

theorem SparesLc.putSlot (i : Nat) (x : Slot) (hx : (t.slot i).st = .empty → x.st = .empty) : SparesLc s (t.putSlot i x) :=
  h.trans ⟨rfl, fun _ _ hs => ⟨hs, rfl⟩, fun j e => by
    rw [State.slot, State.putSlot, sget_sput]
    split
    · next hj => exact hx (hj ▸ e)
    · exact e⟩

theorem SparesLc.emptySlot (i : Nat) : SparesLc s (t.emptySlot i) :=
  h.upd.putSlot i _ fun _ => rfl

theorem SparesLc.releaseTargets (is : List Nat) : SparesLc s (t.releaseTargets is) := by
  induction is generalizing t with
  | nil => exact h
  | cons i is ih => exact ih ((h.emptySlot i).ite h)

theorem SparesLc.setBuilding (i : Nat) (b : Bool) : SparesLc s (t.setBuilding i b) := by
  unfold State.setBuilding
  dsimp only
  split
  · exact h.putSlot i _ fun e => e
  · exact h

theorem SparesLc.dmaStore (owner a : Nat) (bs : List Byte) : SparesLc s (t.dmaStore owner a bs) := by
  unfold State.dmaStore
  split
  · exact h.upd
  · exact h.upd

theorem SparesLc.dmaWrite (owner a : Nat) (bs : List Byte) (hw : t.dmaWrite owner a bs = some u) : SparesLc s u := by
  unfold State.dmaWrite at hw
  split at hw
  · cases hw
  · cases hw
    exact h.dmaStore owner a bs

theorem SparesLc.eraseSlot (i : Nat) : SparesLc s (t.eraseSlot i) := by
  unfold State.eraseSlot
  split
  · exact h
  · exact (h.upd.emptySlot i).inc _
  · exact (h.emptySlot i).inc _

theorem SparesLc.eraseSlots (is : List Nat) : SparesLc s (t.eraseSlots is) := by
  induction is generalizing t with
  | nil => exact h
  | cons i is ih => exact ih (h.eraseSlot i)

end

end

end Sys2Proof.Machine
end

section
/-! PROOF. The queues and the jobs spare the life cycle: records, descriptors in hand, the end of a job, and a reset of queue
groups (R65, R66). -/

namespace Sys2Proof.Machine

/-- The registers of the queues lie above Belfry (R55). -/
theorem queueReg_above (q k : Nat) : 0x50000 ≤ 0x100000 + q * 0x100 + k := by omega

section
variable {s t u : State} (h : SparesLc s t)
include h

/-! ### Queues (R73 to R107) -/

theorem SparesLc.qput (q : Nat) (x : QueueSt) : SparesLc s (t.qput q x) := h.upd

theorem SparesLc.setJobs (js : List Job) : SparesLc s (t.setJobs js) := h.upd

theorem SparesLc.syncGroup (g : Nat) : SparesLc s (t.syncGroup g) := (h.level _ _).level _ _

theorem SparesLc.syncQ (q : Nat) : SparesLc s (t.syncQ q) := h.syncGroup _

theorem SparesLc.qError (q n : Nat) : SparesLc s (t.qError q ⟨R.Q_ERR q, n, 1⟩) := by
  have hcause : SparesLc s ((t.set ⟨R.Q_ERR q, n, 1⟩).set (F.Q_STAT_ERR_PEND q)) :=
    (h.putAbove _ 1 (queueReg_above q _)).putAbove _ 1 (queueReg_above q _)
  exact SparesLc.syncQ (SparesLc.ite ((hcause.putAbove _ 1 (queueReg_above q _)).qput q _) hcause) q

theorem SparesLc.wantFetch (q : Nat) (k : FetchKind) (a : Nat) : SparesLc s (t.wantFetch q k a) := by
  unfold State.wantFetch
  exact SparesLc.ite (((h.qput q _).wrAbove _ _ (queueReg_above q _)).wrAbove _ _ (queueReg_above q _)) (h.qput q _)

theorem SparesLc.park (q : Nat) : SparesLc s (t.park q) := by
  have hparked := h.qput q { t.qst q with parked := true, fetch := none }
  have hset : ∀ x i, SparesLc s x → SparesLc s (x.set ⟨R.Q_STAT q, i, 1⟩) := fun x i hx => hx.putAbove _ 1 (queueReg_above q _)
  unfold State.park
  exact ((hparked.putAbove _ 0 (queueReg_above q _)).wantFetch q _ _).ite
    (hparked.ite ((hset _ _ (hset _ _ hparked)).syncQ q))

theorem SparesLc.proceed (q : Nat) (d : List Byte) : SparesLc s (t.proceed q d) := by
  unfold State.proceed State.followNext
  exact h.ite ((h.park q).ite ((h.qError q _).ite (h.wantFetch q _ _)))

theorem SparesLc.ringWrite (q : Nat) (r : Record) : SparesLc s (t.ringWrite q r) := by
  unfold State.ringWrite
  dsimp only
  split
  · exact ((h.qError q _).inc _).setJobs _
  · next x hx =>
    let tail := (t.get (F.CQ_TAIL_INDEX q) + 1) % x.cqSize q
    have htail := SparesLc.putAbove (h.dmaWrite _ _ _ hx) (F.CQ_TAIL_INDEX q) tail (queueReg_above q _)
    have hwrapped := htail.putAbove (F.CQ_TAIL_TAIL_PHASE q) (1 - t.get (F.CQ_TAIL_TAIL_PHASE q)) (queueReg_above q _)
    have hphase := hwrapped.ite (p := tail = 0) htail
    have hdone := hphase.inc (R.Q_JOBS_DONE q)
    have hbad := (hdone.inc (R.Q_JOBS_ERR q)).ite (p := 0x10 ≤ r.result.status) hdone
    exact SparesLc.ite (SparesLc.syncQ (hbad.putAbove _ 1 (queueReg_above q _)) q) hbad

theorem SparesLc.deliverRecord (q : Nat) (k : Hold) (r : Record) : SparesLc s (t.deliverRecord q k r) := by
  unfold State.deliverRecord
  have hheld : ∀ x, SparesLc s (t.qput q x) := fun x => h.qput q x
  exact (h.ringWrite q r).ite ((SparesLc.syncQ
    (((hheld _).putAbove _ 1 (queueReg_above q _)).putAbove _ 1 (queueReg_above q _)) q).ite (hheld _))

theorem SparesLc.completeHand (q : Nat) (r : JobResult) : SparesLc s (t.completeHand q r) := by
  unfold State.completeHand
  split
  · exact h
  · split
    · exact h.qput q _
    · have hfreed : ∀ is x, SparesLc s (((t.releaseTargets is).qput q x).clr (F.Q_STAT_FENCE_WAIT q)) := fun is x =>
        ((h.releaseTargets is).qput q x).putAbove _ 0 (queueReg_above q _)
      exact ((hfreed _ _).deliverRecord q _ _).proceed q _

theorem SparesLc.settleHands : SparesLc s t.settleHands :=
  h.foldl _ _ fun x _ _ => (SparesLc.refl x).completeHand _ _

/-! ### Engines (R115 to R119) -/

theorem SparesLc.giveEngine (j : Job) : SparesLc s (t.giveEngine j) := (h.setJobs _).ite (h.setJobs _)

theorem SparesLc.schedule (e : Nat) : SparesLc s (t.schedule e) := by
  unfold State.schedule
  split
  · exact h
  · split
    · exact h
    · split
      · exact h.giveEngine _
      · exact h

theorem SparesLc.grantPool (p : Res) : SparesLc s (t.grantPool p) := by
  unfold State.grantPool
  split
  · exact h
  · split
    · exact h.giveEngine _
    · exact h

theorem SparesLc.dkeGrant (e : Nat) : SparesLc s (t.dkeGrant e) := SparesLc.ite h.upd h

theorem SparesLc.refill (p : Res) (e e2 : Nat) : SparesLc s (t.refill p e e2) := by
  have hengines := (h.schedule e).ite (p := e2 = e) ((h.schedule e).schedule e2)
  cases p
  case keccak | sha2 | keep => exact h.grantPool _
  case dke => exact h.dkeGrant e
  case arbiter => exact h
  all_goals exact hengines

theorem SparesLc.preemptAt (e : Nat) : SparesLc s (t.preemptAt e) := by
  unfold State.preemptAt
  split
  · exact h
  · next r _ =>
    split
    · exact h
    · have hheld : SparesLc s (t.putJob { r with phase := .preempted }) := h.setJobs _
      exact ((hheld.inc _).ite hheld).schedule e

theorem SparesLc.tryStart (p : Res) (e : Nat) : SparesLc s (t.tryStart p e) := by
  have hengine : SparesLc s (match t.running e with
      | none => t.schedule e
      | some r => if r.wait = .rng then t.preemptAt e else t) := by
    split
    · exact h.schedule e
    · exact (h.preemptAt e).ite h
  cases p
  case keccak | sha2 | keep => exact h.grantPool _
  case arbiter => exact h
  all_goals exact hengine

/-! ### The end of a job (R99, R108, R131) -/

theorem SparesLc.writeBufs (owner : Nat) (bs : List Buf) (v : List Byte) : SparesLc s (writeBufs t owner bs v).1 := by
  induction bs generalizing t v with
  | nil => exact h
  | cons b bs ih =>
    unfold Sys2Proof.Machine.writeBufs
    dsimp only
    split
    · exact ih h v
    · split
      · next x hx => exact ih (h.dmaWrite _ _ _ hx) _
      · exact h.upd.dmaStore owner b.1 _

theorem SparesLc.zeroBufs (owner : Nat) (bs : List Buf) : SparesLc s (zeroBufs t owner bs) := by
  induction bs generalizing t with
  | nil => exact h
  | cons b bs ih => exact ih (h.writeBufs owner [b] _)

theorem SparesLc.countEnd (e status : Nat) : SparesLc s (t.countEnd e status) :=
  h.ite ((h.inc _).ite ((h.inc _).ite h))

theorem SparesLc.finishJob (j : Job) (r : JobResult) : SparesLc s (t.finishJob j r) := by
  unfold State.finishJob
  have hdone : ∀ x, SparesLc s (t.putJob x) := fun x => h.setJobs _
  have hended : ∀ x, SparesLc s ((if 0x10 ≤ r.status then (t.putJob x).releaseTargets j.targets else t.putJob x).countEnd
      j.engine r.status) := fun x => SparesLc.countEnd (((hdone x).releaseTargets _).ite (hdone x)) _ _
  refine SparesLc.refill ?_ _ _ _
  split
  · exact hended _
  · exact ((hended _).setJobs _).setBuilding _ false

theorem SparesLc.failJob (j : Job) (e : Err) : SparesLc s (t.failJob j e) := by
  have hzero : SparesLc s (zeroOutput t j.owner j.desc) := by
    unfold zeroOutput
    split
    · exact h.zeroBufs _ _
    · exact h
  exact SparesLc.finishJob (hzero.ite h) j _

theorem SparesLc.faultJobs (kind : Nat) (p : Job → Bool) : SparesLc s (t.faultJobs kind p) :=
  h.eachJob _ (fun x j => (SparesLc.refl x).ite ((SparesLc.refl x).failJob j _)) _

theorem SparesLc.loseJob (j : Job) : SparesLc s (t.loseJob j) := SparesLc.setJobs (h.ite (h.finishJob j _)) _

/-! ### Tree builds (R181) -/

theorem SparesLc.startBuilds : SparesLc s t.startBuilds := by
  refine SparesLc.eachJob (SparesLc.foldl h _ _ fun x i _ => ?_) _ (fun x j => ?_) _
  · exact SparesLc.setBuilding (SparesLc.upd (SparesLc.refl x)) i true
  · split
    · exact ((SparesLc.refl x).setJobs _).tryStart _ _
    · exact SparesLc.refl x

/-! ### Resets of queue groups (R65, R66) -/

theorem SparesLc.resetQueues (g : Nat → Bool) (keepErr : Bool) : SparesLc s (t.resetQueues g keepErr) := by
  have hrelease : ∀ (x : State) q, SparesLc x (match (x.qst q).hand with
      | some y => x.releaseTargets y.targets
      | none => x) := fun x q => by
    split
    · exact (SparesLc.refl x).releaseTargets _
    · exact .refl x
  have hsel : ∀ o ∈ lifeCycleRegs, (match locate o with
      | some (.q, n, _) => g (groupOf n)
      | _ => false) = false := fun o ho => by
    rcases locate_lifeCycleRegs o ho with hl | hl <;> rw [hl]
  have hlost := (h.foldl _ (t.queuesIn g) fun x q _ => hrelease x q).eachJob State.loseJob fun x j => (SparesLc.refl x).loseJob j
  unfold State.resetQueues
  refine SparesLc.foldl (SparesLc.settleHands ?_) _ _ fun x n _ => (SparesLc.refl x).syncGroup n
  have hcount : ∀ x, SparesLc s x → SparesLc s (if keepErr then
      ((t.queuesIn g).map fun q => (q, t.lostRecords q)).foldl (fun s e => s.count (R.Q_JOBS_ERR e.1) e.2) x else x) :=
    fun x hx => (hx.foldl _ _ fun y _ _ => (SparesLc.refl y).count _ _).ite hx
  exact hcount _ (SparesLc.resetRegs (hlost _).upd _ _ hsel)

end

end Sys2Proof.Machine
end

section
/-! PROOF. The resets, the rotation of the memory key and the end of a debug session spare the life cycle (R302, R419, R506,
R546, R574); the erasure of every slot of KEEP (R406). -/

namespace Sys2Proof.Machine

theorem mbxReg_above (n k : Nat) : 0x50000 ≤ 0xe0000 + n * 0x4000 + k := by omega

theorem mbxRsp_above (n i : Nat) : 0x50000 ≤ R.MBX_RSP n i := by
  simp only [R.MBX_RSP]
  omega

/-- A slot whose trees have to be built again (R397). -/
def Slot.unbuilt (x : Slot) : Slot :=
  { x with leaf := x.leaf.map fun l => { l with builtEnd := l.next / (max 1 l.treeLeaves) * l.treeLeaves } }

/-- A map over the slots that leaves every state leaves the state that is read. -/
theorem st_sget_map (f : Slot → Slot) (hf : ∀ x, (f x).st = x.st) (m : List (Nat × Slot)) (i : Nat) :
    (sget slotDefault (m.map fun e => (e.1, f e.2)) i).st = (sget slotDefault m i).st := by
  induction m with
  | nil => rfl
  | cons e m ih =>
    unfold sget at ih ⊢
    by_cases he : (e.1 == i) = true
    · simp [he, hf]
    · simpa [he] using ih

section
variable {s t u : State} (h : SparesLc s t)
include h

/-! ### Fault messages, frames, and the flash -/

theorem SparesLc.disconnect (n : Nat) : SparesLc s (t.disconnect n) := h.upd.inc _

theorem SparesLc.dropFrames (code : Nat) (p : FrameSt → Bool) : SparesLc s (t.dropFrames code p) := by
  refine h.foldl _ _ fun x f _ => ?_
  have hgone : SparesLc x ((x.withdrawRecord f).removeFrame f.id) := by
    unfold State.withdrawRecord
    split
    · exact (SparesLc.refl x).upd
    · exact (SparesLc.refl x).upd
  exact (hgone.inc _).ite hgone

theorem SparesLc.endUpdate (b : Bool) : SparesLc s (t.endUpdate b) := by
  have herase : ∀ target n, SparesLc s (t.eraseCopies target n) := fun target n =>
    h.foldl _ _ fun x _ _ => (SparesLc.refl x).upd
  have hput : ∀ x lo w v, SparesLc s x → SparesLc s (x.put ⟨R.CUP_UPD_STAT, lo, w⟩ v) := fun x lo w v hx =>
    hx.putAbove _ v (show 0x50000 ≤ R.CUP_UPD_STAT by decide)
  unfold State.endUpdate
  split
  · exact h
  · next u _ =>
    have herased := h.ite (p := u.stage.isSome = true) (herase u.target sectorSize)
    refine (fun hk => SparesLc.ite (hput _ _ _ _ hk) hk) ?_
    exact hput _ _ _ _ (hput _ _ _ _ (hput _ _ _ _ herased.upd))

/-! ### DKE (R419, R438) -/

theorem SparesLc.dkeRelease (c : Nat) : SparesLc s (t.dkeRelease c) := by
  have hflushed : SparesLc s (t.sfiFlush c) := h.upd.count _ _
  exact SparesLc.resetInst hflushed.upd .dkeCh c (by decide)

theorem SparesLc.dkeHolderReset (n : Nat) : SparesLc s (t.dkeHolderReset n) := by
  refine h.foldl _ _ fun x c _ => ?_
  have htake : ∀ y, SparesLc x (if (x.dkeCh c).takePend = n then x.putDke c y else x) := fun y =>
    SparesLc.ite (SparesLc.refl x).upd (.refl x)
  exact ((htake _).dkeRelease c).ite (htake _)

/-! ### The rotation of the memory key (R302, R406) -/

theorem SparesLc.draw (i n : Nat) : SparesLc s (t.draw i n).2 := h.upd.count _ _

theorem SparesLc.wipeStore : SparesLc s t.wipeStore :=
  (h.upd.putAbove F.CTS_STAT_RELINK_BUSY 0 (by decide)).putAbove F.CTS_CTL_RELINK_NOW 0 (by decide)

theorem SparesLc.loseObjects : SparesLc s t.loseObjects := by
  have herased := h.eraseSlots (t.slotsWhere fun x => x.lobj && x.st == .live)
  have hnoted := herased.ite (p := (t.slotsWhere fun x => x.lobj && x.st == .live).isEmpty = true)
    ((herased.putAbove F.KEEP_STAT_LOBJ_LOST 1 (by decide)).raise 202)
  unfold State.loseObjects
  exact hnoted.trans ⟨rfl, fun _ _ hs => ⟨hs, rfl⟩, fun i e => (st_sget_map Slot.unbuilt (fun _ => rfl) _ i).trans e⟩

theorem SparesLc.loseSaves : SparesLc s t.loseSaves := h.faultJobs 0x09 _

theorem SparesLc.rotate : SparesLc s t.rotate := by
  unfold State.rotate
  have hdrawn : SparesLc s (if (t.rngState == rngRunning) = true then t.draw 12 32 else ([], t)).2 := by
    split
    · exact h.draw 12 32
    · exact h
  have hlost := (SparesLc.loseSaves hdrawn).wipeStore.loseObjects
  dsimp only
  generalize (if (t.rngState == rngRunning) = true then t.draw 12 32 else ([], t)).2.loseSaves.wipeStore.loseObjects = y
    at hlost ⊢
  have hput : ∀ x f v, 0x50000 ≤ f.off → SparesLc s x → SparesLc s (x.put f v) := fun x f v hf hx => hx.putAbove f v hf
  refine SparesLc.startBuilds (hput _ _ _ (by decide) (hput _ _ _ (by decide) (hput _ _ _ (by decide) (hput _ _ _ (by decide)
    (hput _ _ _ (by decide) ?_)))))
  exact hlost.upd

/-! ### Resets (R65, R66, R546, R574) -/

theorem SparesLc.resetIpp : SparesLc s t.resetIpp :=
  SparesLc.resetBlk (h.dropFrames _ _).upd .ipp (by decide)

theorem SparesLc.clearSvc : SparesLc s t.clearSvc := h.upd

theorem SparesLc.power (p : PowerSt) : SparesLc s { t with power := p } := h.upd

theorem SparesLc.resetSvc : SparesLc s t.resetSvc :=
  ((h.resetQueues (fun g => g == 31) true).dkeHolderReset 2).clearSvc.power _

theorem SparesLc.blockResetSvc : SparesLc s (t.blockReset 12) :=
  h.ite ((h.put ⟨R.PWR_BLKRST, 12, 1⟩ 1 (by decide)).resetSvc.disconnect _)

theorem SparesLc.mbxRestart (n : Nat) : SparesLc s (t.mbxRestart n) := by
  have hrsp : ∀ x i v, SparesLc s x → SparesLc s (x.wr (R.MBX_RSP n i) v) := fun x i v hx => hx.wrAbove _ v (mbxRsp_above n i)
  have hstat : ∀ x i v, SparesLc s x → SparesLc s (x.put ⟨R.MBX_STAT n, i, 1⟩ v) := fun x i v hx =>
    hx.putAbove _ v (mbxReg_above n _)
  unfold State.mbxRestart
  refine SparesLc.ite (hstat _ _ _ (hstat _ _ _ (hstat _ _ _ (SparesLc.inc ?_ _)))) h
  exact hrsp _ 3 _ (hrsp _ 2 _ (hrsp _ 1 _ (hrsp _ 0 _ h)))

theorem SparesLc.smbRestart : SparesLc s t.smbRestart := SparesLc.ite h.upd h

theorem SparesLc.processorStops (p : PowerSt) (l : LcsSt) (e : EvcSt) (c : CupSt) :
    SparesLc s { t with power := p, lcs := l, evc := e, cup := c } := h.upd

theorem SparesLc.resetCupola : SparesLc s t.resetCupola :=
  ((((h.dkeHolderReset 3).mbxRestart 0).mbxRestart 1).smbRestart.endUpdate true).processorStops _ _ _ _

/-! ### The end of a debug session (R506) -/

theorem SparesLc.undebug (w : Nat) : SparesLc s (t.undebug w) := by
  have hcup := h.resetCupola.ite (p := bit w 1 = true) h
  exact hcup.blockResetSvc.ite hcup

theorem SparesLc.endSession : SparesLc s t.endSession :=
  h.ite ((((h.wr R.LCS_DBG_STAT 0 (by decide)).wr R.LCS_DBG_REMAIN 0 (by decide)).raise 211).undebug _)

theorem SparesLc.forceEnd : SparesLc s t.forceEnd :=
  (h.put F.LCS_DBG_STAT_BLANK_OPEN 0 (by decide)).endSession

/-! ### SCRAP (R490) -/

theorem SparesLc.holdService : SparesLc s t.holdService :=
  (h.resetQueues (fun _ => true) false).resetIpp.resetSvc.power _

end

/-! ### The erasure of every slot (R404, R406) -/

section
variable (s : State) (i : Nat)

theorem State.st_emptySlot_self : ((s.emptySlot i).slot i).st = .empty := by
  unfold State.emptySlot State.putSlot State.slot
  rw [sget_sput_self]
  rfl

theorem State.st_eraseSlot_self : ((s.eraseSlot i).slot i).st = .empty := by
  unfold State.eraseSlot
  split
  · assumption
  · exact ((SparesLc.refl _).inc _).slots i (State.st_emptySlot_self _ i)
  · exact ((SparesLc.refl _).inc _).slots i (s.st_emptySlot_self i)

theorem State.st_eraseSlots_of_mem (is : List Nat) (hi : i ∈ is) : ((s.eraseSlots is).slot i).st = .empty := by
  induction is generalizing s with
  | nil => cases hi
  | cons j is ih =>
    rcases List.mem_cons.1 hi with rfl | hi
    · exact ((SparesLc.refl _).eraseSlots is).slots i (s.st_eraseSlot_self i)
    · exact ih _ hi

/-- A slot that is not EMPTY is listed, so it is among those erased. -/
theorem State.st_eraseAllSlots : (s.eraseAllSlots.slot i).st = .empty := by
  by_cases he : (s.slot i).st = .empty
  · exact ((SparesLc.refl s).eraseSlots _).slots i he
  · rcases sget_mem_or slotDefault s.keep.slots i with hmem | ⟨-, hdefault⟩
    · refine s.st_eraseSlots_of_mem i _ (List.mem_map.2 ⟨_, List.mem_filter.2 ⟨hmem, ?_⟩, rfl⟩)
      rw [Bool.and_true]
      exact bne_iff_ne.2 he
    · exact absurd (congrArg Slot.st hdefault) he

end

end Sys2Proof.Machine
end

section
/-! PROOF. The write of LCS_TRANSITION (R496, R497): who may write it, the transitions it accepts and what they do, the refusal
of every other. -/

namespace Sys2Proof.Machine

/-- LCS belongs to Cupola firmware; of LCS the others write at most LCS_CTL (R57). -/
theorem State.mayWrite_lcsTransition (s : State) (r : Req) (h : s.mayWrite r R.LCS_TRANSITION) : r = .cupola := by
  obtain ⟨-, hgrants⟩ := h
  have hmatrix : s.mayMatrix r R.LCS_TRANSITION true = true := by
    simp only [State.grants, State.may, Bool.and_eq_true] at hgrants
    exact hgrants.2.1.1
  cases r
  case cupola => rfl
  all_goals cases hmatrix

theorem exec_lcsTransition_permitted (s : State) (r : Req) (v : Word) (h : s.mayWrite r R.LCS_TRANSITION) :
    exec (.lcsTransition r v) s = .next (s.transitionWrite v) :=
  congrArg Host.Outcome.next (s.gateW_granted r R.LCS_TRANSITION (·.transitionWrite v) h)

/-- The paths of R496 as a list. -/
theorem pathOk_iff (c x : Nat) : pathOk c x = true ↔ (c, x) ∈ [(0, 1), (1, 2), (2, 3), (2, 4), (3, 4)] ∨ x = 5 := by
  simp only [pathOk, Bool.or_eq_true, Bool.and_eq_true, beq_iff_eq, List.mem_cons, Prod.mk.injEq, List.not_mem_nil, or_false]
  omega

theorem State.transitionCause_eq (s : State) (x : Nat) : s.transitionCause x =
    if 6 ≤ x then 4 else if s.on F.LCS_STAT_IN_TRANSITION = true then 2 else if x = s.get F.LCS_STATE_STATE then 3
    else if (s.get F.LCS_STATE_STATE, x) ∈ [(0, 1), (1, 2), (2, 3), (2, 4), (3, 4)] ∨ x = 5 then 0 else 1 := by
  simp only [State.transitionCause, pathOk_iff]

/-! ### An accepted write -/

/-- A transition to a state is in progress, and OTP holds `o`. -/
structure Transiting (o : OtpSt) (x : Nat) (t : State) : Prop where
  otp : t.otp = o
  settledState : t.settled R.LCS_STATE
  settledStat : t.settled R.LCS_STAT
  state : t.get F.LCS_STATE_STATE = x
  inTransition : t.on F.LCS_STAT_IN_TRANSITION = true
  target : t.get F.LCS_STAT_TARGET = x

/-- A source's policy is ANY. -/
structure PolicyAny (n : Nat) (t : State) : Prop where
  settled : t.settled (R.BLF_SRC_CFG n)
  any : t.on (F.BLF_SRC_CFG_POLICY n) = false

theorem blfSrcCfg_mem_lifeCycleRegs (n : Nat) (hn : n < 14) : R.BLF_SRC_CFG n ∈ lifeCycleRegs :=
  List.mem_cons_of_mem _ (List.mem_cons_of_mem _ (List.mem_map_of_mem (List.mem_range.2 hn)))

section
variable {s t : State} {o : OtpSt} {x n : Nat}

theorem Transiting.spares (h : Transiting o x s) (k : SparesLc s t) : Transiting o x t := by
  have hState : R.LCS_STATE ∈ lifeCycleRegs := List.mem_cons_self ..
  have hStat : R.LCS_STAT ∈ lifeCycleRegs := List.mem_cons_of_mem _ (List.mem_cons_self ..)
  exact ⟨k.otp.trans h.otp, (k.regs _ hState h.settledState).1, (k.regs _ hStat h.settledStat).1,
    (k.get _ hState h.settledState).trans h.state,
    (congrArg (· != 0) (k.get F.LCS_STAT_IN_TRANSITION hStat h.settledStat)).trans h.inTransition,
    (k.get _ hStat h.settledStat).trans h.target⟩

/-- Another field of LCS_STAT, or a field of another register than LCS_STATE. -/
theorem Transiting.put (h : Transiting o x s) (f : Fld) (v : Nat) (hoff : f.off ≠ R.LCS_STATE)
    (hin : f.apart F.LCS_STAT_IN_TRANSITION) (htgt : f.apart F.LCS_STAT_TARGET) : Transiting o x (s.put f v) where
  otp := (State.wr_otp ..).trans h.otp
  settledState := h.settledState.wr _ hoff.symm
  settledStat := by
    by_cases hf : f.off = R.LCS_STAT
    · exact hf ▸ s.settled_put_self f v
    · exact h.settledStat.wr _ (Ne.symm hf)
  state := (s.get_put_apart f _ v (.inl hoff.symm)).trans h.state
  inTransition := (s.on_put_apart f _ v hin).trans h.inTransition
  target := (s.get_put_apart f _ v htgt).trans h.target

theorem PolicyAny.spares (h : PolicyAny n s) (hn : n < 14) (k : SparesLc s t) : PolicyAny n t := by
  have hmem := blfSrcCfg_mem_lifeCycleRegs n hn
  exact ⟨(k.regs _ hmem h.settled).1, (congrArg (· != 0) (k.get (F.BLF_SRC_CFG_POLICY n) hmem h.settled)).trans h.any⟩

theorem PolicyAny.put (h : PolicyAny n s) (f : Fld) (v : Nat) (hf : R.BLF_SRC_CFG n ≠ f.off) : PolicyAny n (s.put f v) :=
  ⟨h.settled.wr _ hf, (s.on_put_apart f _ v (.inl hf)).trans h.any⟩

end

/-! ### The start: INTENT and the new state (R497) -/

section
variable (s : State) (x v : Nat)

theorem State.burnWord_otp : (s.burnWord x v).otp = { s.otp with
    lcsA := sput (fun _ => 0) s.otp.lcsA x (sget (fun _ => 0) s.otp.lcsA x ||| v)
    lcsB := sput (fun _ => 0) s.otp.lcsB x (sget (fun _ => 0) s.otp.lcsB x ||| v) } := State.wr_otp ..

/-- Beside OTP, the programming of a word touches LCS_W_RAW alone. -/
theorem State.burnWord_rd (p : Nat) (hp : p ≠ R.LCS_W_RAW (x - 1)) : (s.burnWord x v).rd p = s.rd p :=
  State.rd_wr_of_ne _ _ _ _ hp

theorem lcsWRaw_above (k : Nat) : R.LCS_STATE < R.LCS_W_RAW k ∧ R.LCS_STAT < R.LCS_W_RAW k := by
  simp only [R.LCS_STATE, R.LCS_STAT, R.LCS_W_RAW]
  omega

/-- What an accepted write does first. -/
def State.intend : State :=
  ((((s.set F.LCS_STAT_IN_TRANSITION).clr F.LCS_STAT_ROLL_FWD).put F.LCS_STAT_TARGET x).burnWord x (lcsIntent x * 65536)).put
    F.LCS_STATE_STATE x

theorem State.intend_otp : (s.intend x).otp = (s.burnWord x (lcsIntent x * 65536)).otp := by
  simp only [State.intend, State.put, State.set, State.clr, State.wr_otp, State.burnWord_otp]

theorem State.transiting_intend (hx : x < 16) : Transiting (s.burnWord x (lcsIntent x * 65536)).otp x (s.intend x) := by
  obtain ⟨hState, hStat⟩ := lcsWRaw_above (x - 1)
  let a := (s.set F.LCS_STAT_IN_TRANSITION).clr F.LCS_STAT_ROLL_FWD
  have hrd : (s.intend x).rd R.LCS_STAT = (a.put F.LCS_STAT_TARGET x).rd R.LCS_STAT :=
    (State.rd_put_of_ne _ F.LCS_STATE_STATE x _ (by decide)).trans (State.burnWord_rd _ _ _ _ hStat.ne)
  have hget : ∀ lo w, (s.intend x).get ⟨R.LCS_STAT, lo, w⟩ = (a.put F.LCS_STAT_TARGET x).get ⟨R.LCS_STAT, lo, w⟩ :=
    fun lo w => congrArg (fieldGet lo w) hrd
  constructor
  case otp => exact s.intend_otp x
  case settledState => exact State.settled_put_self _ F.LCS_STATE_STATE x
  case settledStat =>
    refine State.settled.wr _ ?_ (by decide)
    exact State.settled.wr _ (show State.settled _ _ from a.settled_put_self F.LCS_STAT_TARGET x) hStat.ne
  case state => exact (State.get_put_self _ _ x (by decide)).trans (Nat.mod_eq_of_lt hx)
  case inTransition =>
    have hkept : a.on F.LCS_STAT_IN_TRANSITION = true := (State.on_put_apart _ F.LCS_STAT_ROLL_FWD _ 0 (.inr (by decide))).trans
      (s.on_set_self F.LCS_STAT_IN_TRANSITION (by decide) rfl)
    exact (congrArg (· != 0) (hget 1 1)).trans ((State.on_put_apart a F.LCS_STAT_TARGET _ x (.inr (by decide))).trans hkept)
  case target => exact (hget 16 4).trans ((State.get_put_self a F.LCS_STAT_TARGET x (by decide)).trans (Nat.mod_eq_of_lt hx))

end

/-! ### What follows at once (R497, R503, R506) -/

/-- The registers of the outstanding challenge (R503). -/
theorem lcsChal_not_mem_lifeCycleRegs : ∀ i ∈ List.range 8, R.LCS_CHAL i ∉ lifeCycleRegs := by decide

section
variable (s : State) (n : Nat)

theorem SparesLc.dropChallenge_of_clr : SparesLc (s.clr F.LCS_STAT_CHAL_VALID) s.dropChallenge :=
  (SparesLc.refl _).foldl _ _ fun x i hi => (SparesLc.refl x).wr _ _ (lcsChal_not_mem_lifeCycleRegs i hi)

theorem Transiting.dropChallenge {s : State} {o : OtpSt} {x : Nat} (h : Transiting o x s) : Transiting o x s.dropChallenge :=
  (h.put F.LCS_STAT_CHAL_VALID 0 (by decide) (.inr (by decide)) (.inr (by decide))).spares (.dropChallenge_of_clr s)

theorem State.policyAny_clrPolicy (m : Nat) (h : m = n ∨ PolicyAny n s) : PolicyAny n (s.clr (F.BLF_SRC_CFG_POLICY m)) := by
  by_cases hm : m = n
  · subst hm
    exact ⟨s.settled_put_self (F.BLF_SRC_CFG_POLICY m) 0, s.on_clr_self _ (by decide : 4 + 1 ≤ 32)⟩
  · refine (h.resolve_left hm).put _ 0 fun e => hm ?_
    simp only [R.BLF_SRC_CFG] at e
    omega

theorem State.policyAny_clrPolicies (l : List Nat) (h : n ∈ l ∨ PolicyAny n s) :
    PolicyAny n (l.foldl (fun s n => s.clr (F.BLF_SRC_CFG_POLICY n)) s) := by
  induction l generalizing s with
  | nil => exact h.resolve_left (List.not_mem_nil)
  | cons m l ih =>
    refine ih _ ?_
    rcases h with hmem | hany
    · exact (List.mem_cons.1 hmem).symm.imp id fun e => s.policyAny_clrPolicy n m (.inl e.symm)
    · exact .inr (s.policyAny_clrPolicy n m (.inr hany))

/-- Every policy is ANY in the new state (R469). -/
theorem State.policyAny_restrict (x : Nat) (hn : n < 14) : PolicyAny n (s.restrict x) :=
  State.policyAny_clrPolicies _ n _ (.inl (List.mem_range.2 hn))

theorem blfSrcCfg_above (n : Nat) : R.LCS_STATE < R.BLF_SRC_CFG n ∧ R.LCS_STAT < R.BLF_SRC_CFG n := by
  simp only [R.LCS_STATE, R.LCS_STAT, R.BLF_SRC_CFG]
  omega

theorem Transiting.restrict {s : State} {o : OtpSt} {x : Nat} (h : Transiting o x s) (y : Nat) :
    Transiting o x (s.restrict y) := by
  have hclr : ∀ (l : List Nat) (t : State), Transiting o x t →
      Transiting o x (l.foldl (fun s n => s.clr (F.BLF_SRC_CFG_POLICY n)) t) := by
    intro l
    induction l with
    | nil => exact fun _ ht => ht
    | cons n l ih =>
      obtain ⟨hState, hStat⟩ := blfSrcCfg_above n
      exact fun t ht => ih _ (ht.put _ 0 hState.ne' (.inl hStat.ne) (.inl hStat.ne))
  refine hclr _ _ (h.spares ?_)
  exact (SparesLc.refl s).ite (((SparesLc.refl s).putAbove F.AEA_LT_CFG_TEST_VEC_EN 0 (by decide)).putAbove
    F.RNG_RAWSEL_EN 0 (by decide))

end

/-- An accepted write: the transition to `x` is in progress, every policy is ANY and every slot of KEEP is EMPTY. -/
structure Entered (o : OtpSt) (x : Nat) (t : State) : Prop where
  transiting : Transiting o x t
  policies : ∀ n < 14, PolicyAny n t
  slots : ∀ i, (t.slot i).st = .empty

theorem Entered.spares {s t : State} {o : OtpSt} {x : Nat} (h : Entered o x s) (k : SparesLc s t) : Entered o x t :=
  ⟨h.transiting.spares k, fun n hn => (h.policies n hn).spares hn k, fun i => k.slots i (h.slots i)⟩

theorem Entered.setWipeWait {s : State} {o : OtpSt} {x : Nat} (h : Entered o x s) :
    Entered o x (s.set F.LCS_STAT_WIPE_WAIT) :=
  ⟨h.transiting.put F.LCS_STAT_WIPE_WAIT 1 (by decide) (.inr (by decide)) (.inr (by decide)),
    fun n hn => (h.policies n hn).put F.LCS_STAT_WIPE_WAIT 1 (blfSrcCfg_above n).2.ne', h.slots⟩

/-- WIPE_WAIT is set after the rotation (R497 step 6). -/
theorem Entered.wipe {s : State} {o : OtpSt} {x : Nat} (h : Entered o x s) : Entered o x s.wipe :=
  (h.spares (SparesLc.refl s).rotate).setWipeWait

/-- The state in which the steps that depend on the target begin. -/
def State.takeTarget (s : State) (x : Nat) : State := (((s.intend x).forceEnd).dropChallenge.restrict x).eraseAllSlots

theorem State.entered_takeTarget (s : State) (x : Nat) (hx : x < 16) :
    Entered (s.burnWord x (lcsIntent x * 65536)).otp x (s.takeTarget x) := by
  let a := ((s.intend x).forceEnd).dropChallenge.restrict x
  have herased : SparesLc a (s.takeTarget x) := (SparesLc.refl a).eraseSlots _
  have hin := ((s.transiting_intend x hx).spares (SparesLc.refl _).forceEnd).dropChallenge.restrict x
  exact ⟨hin.spares herased, fun n hn => (State.policyAny_restrict _ n x hn).spares hn herased,
    fun i => State.st_eraseAllSlots a i⟩

theorem State.transitionWrite_accepted (s : State) (v : Word) (x : Nat) (hx : x = v.toNat % 16)
    (hc : s.transitionCause x = 0) :
    s.transitionWrite v = if x = 4 then (s.takeTarget x).wipe else if x = 5 then (s.takeTarget x).holdService
      else s.takeTarget x := by
  subst hx
  exact if_neg (not_not.2 hc)

theorem State.entered_transitionWrite (s : State) (v : Word) (x : Nat) (hx : x = v.toNat % 16)
    (hc : s.transitionCause x = 0) : Entered (s.burnWord x (lcsIntent x * 65536)).otp x (s.transitionWrite v) := by
  have hent := s.entered_takeTarget x (by omega)
  rw [s.transitionWrite_accepted v x hx hc]
  split
  · exact hent.wipe
  · split
    · exact hent.spares (SparesLc.refl _).holdService
    · exact hent

/-! ### A refused write (R496) -/

theorem satOf_lcsCnt : ∀ k : Fin 5, satOf (R.LCS_CNT k) = some ⟨R.LCS_SAT, k, 1⟩ := by decide

theorem lcsCnt_ne_evcCnt (i k : Nat) (hi : i < 5) : R.LCS_CNT i ≠ R.EVC_CNT k := by
  simp only [R.LCS_CNT, R.EVC_CNT]
  omega

theorem State.transitionWrite_refused (s : State) (v : Word) (x : Nat) (hx : x = v.toNat % 16)
    (hc : s.transitionCause x ≠ 0) : s.transitionWrite v =
      (((s.set F.LCS_STAT_REJECT).put F.LCS_STAT_REJECT_CAUSE (s.transitionCause x)).inc (R.LCS_CNT 1)).raise 209 := by
  subst hx
  exact if_pos hc

theorem State.transitionWrite_rejects (s : State) (v : Word) (x c : Nat) (hx : x = v.toNat % 16) (hc : s.transitionCause x = c)
    (h8 : c < 8) (h0 : c ≠ 0) :
    let t := s.transitionWrite v
    t.on F.LCS_STAT_REJECT = true ∧ t.get F.LCS_STAT_REJECT_CAUSE = c ∧ t.cntGet (R.LCS_CNT 1) = s.plus (R.LCS_CNT 1) 1 ∧
      t.isPending 209 = true ∧ (∀ f, f.off = R.LCS_STAT → (f.lo + f.width ≤ 4 ∨ 8 ≤ f.lo) → t.get f = s.get f) ∧
      SameRegsBut (R.LCS_STAT :: R.LCS_SAT :: eventRegs) s t ∧ t = { s with regs := t.regs, cnt := t.cnt, evc := t.evc } := by
  intro t
  let u := (s.set F.LCS_STAT_REJECT).put F.LCS_STAT_REJECT_CAUSE c
  have ht : t = (u.inc (R.LCS_CNT 1)).raise 209 := by
    rw [show t = s.transitionWrite v from rfl, s.transitionWrite_refused v x hx (hc ▸ h0), hc]
  have hraised : CountedAndRaised (R.LCS_CNT 1) 209 ⟨R.LCS_SAT, 1, 1⟩ u t := ht ▸
    u.countedAndRaised (R.LCS_CNT 1) 209 _ (satOf_lcsCnt 1) (by decide) fun k _ => lcsCnt_ne_evcCnt 1 k (by decide)
  have hstat : ∀ f : Fld, f.off = R.LCS_STAT → t.get f = u.get f := fun f hf =>
    congrArg (fieldGet f.lo f.width) (hraised.regs f.off (hf ▸ by decide))
  have hframe : EventFrame s u := ((EventFrame.refl s).put F.LCS_STAT_REJECT 1).put F.LCS_STAT_REJECT_CAUSE c
  have hregs : SameRegsBut [R.LCS_STAT] s u := ((SameRegsBut.refl _ s).put F.LCS_STAT_REJECT 1 (by decide)).put
    F.LCS_STAT_REJECT_CAUSE c (by decide)
  have hset : u.on F.LCS_STAT_REJECT = true := (State.on_put_apart _ F.LCS_STAT_REJECT_CAUSE _ c (.inr (by decide))).trans
    (s.on_set_self F.LCS_STAT_REJECT (by decide) rfl)
  refine ⟨(congrArg (· != 0) (hstat _ rfl)).trans hset, ?_, hraised.count, hraised.pending, fun f hf hapart => ?_, ?_,
    hframe.trans hraised.frame⟩
  · exact (hstat _ rfl).trans ((State.get_put_self _ F.LCS_STAT_REJECT_CAUSE c (by decide)).trans (Nat.mod_eq_of_lt h8))
  · have hreject : F.LCS_STAT_REJECT.apart f := .inr (by simp only; omega)
    have hcause : F.LCS_STAT_REJECT_CAUSE.apart f := .inr (by simp only; omega)
    exact (hstat f hf).trans ((State.get_put_apart _ _ f c hcause).trans (s.get_put_apart _ f 1 hreject))
  · exact (hregs.mono (by simp)).trans (hraised.regs.mono fun o ho => List.mem_cons_of_mem _ ho)

end Sys2Proof.Machine
end

section
/-! PROOF. The steps of a transition that follow its write (R497): the device secret, the erased partitions, and the end with
DONE, its count, its event and its entry in the Almanac (R532). -/

namespace Sys2Proof.Machine

/-! ### The device secret (R497 step 4) -/

theorem State.dsProgram_ready (s : State) (x : List Byte) (l : List (List Byte)) (hin : s.on F.LCS_STAT_IN_TRANSITION = true)
    (ht : s.get F.LCS_STAT_TARGET = 1) (hds : s.otp.ds = none) (hrun : s.rngState = rngRunning)
    (hres : s.rng.reservoir = x :: l) :
    s.dsProgram = ({ s with otp := { s.otp with ds := some (fit 32 x) }, rng := { s.rng with reservoir := l } } : State).set
      F.KEEP_STAT_DS_OK := by
  have hready : (s.on F.LCS_STAT_IN_TRANSITION && s.get F.LCS_STAT_TARGET == 1 && s.otp.ds.isNone &&
      s.rngState == rngRunning) = true := by simp [hin, ht, hds, hrun]
  simp only [State.dsProgram, if_pos hready, State.takeSeed, hres]

theorem exec_dsProgram_alive (s : State) (h : s.alive = true) : exec .dsProgram s = .next s.dsProgram :=
  congrArg Host.Outcome.next (if_pos h)

theorem dsProgram_programs (s : State) (x : List Byte) (l : List (List Byte)) (halive : s.alive = true)
    (hin : s.on F.LCS_STAT_IN_TRANSITION = true) (ht : s.get F.LCS_STAT_TARGET = 1) (hds : s.otp.ds = none)
    (hrun : s.rngState = rngRunning) (hres : s.rng.reservoir = x :: l) :
    ∃ t, exec .dsProgram s = .next t ∧ t.otp = { s.otp with ds := some (fit 32 x) } ∧ t.rng.reservoir = l ∧
      t.on F.KEEP_STAT_DS_OK = true ∧ SameRegsBut [R.KEEP_STAT] s t :=
  let u : State := { s with otp := { s.otp with ds := some (fit 32 x) }, rng := { s.rng with reservoir := l } }
  ⟨u.set F.KEEP_STAT_DS_OK,
    (exec_dsProgram_alive s halive).trans (congrArg _ (s.dsProgram_ready x l hin ht hds hrun hres)), rfl, rfl,
    u.on_set_self F.KEEP_STAT_DS_OK (by decide) rfl, u.sameRegsBut_put F.KEEP_STAT_DS_OK 1⟩

/-! ### The erased partitions (R497 step 6) -/

/-- A filter by keys leaves the values at the keys it keeps, and no other. -/
theorem sget_filter_key {α : Type} (d : Nat → α) (p : Nat → Bool) (m : List (Nat × α)) (k : Nat) :
    sget d (m.filter fun e => p e.1) k = if p k = true then sget d m k else d k := by
  have hfind : (m.filter fun e => p e.1).find? (fun e => e.1 == k) =
      if p k = true then m.find? (fun e => e.1 == k) else none := by
    rw [List.find?_filter]
    split
    · next hp =>
      refine congrArg (List.find? · m) (funext fun e => ?_)
      by_cases he : e.1 = k <;> simp [he, hp]
    · next hp =>
      refine List.find?_eq_none.2 fun e _ he => hp ?_
      obtain ⟨hpe, hk⟩ : p e.1 = true ∧ e.1 = k := by simpa using he
      exact hk ▸ hpe
  unfold sget
  rw [hfind]
  by_cases hp : p k = true
  · rw [if_pos hp, if_pos hp]
  · rw [if_neg hp, if_neg hp]

/-- Erased bytes read as FF. -/
theorem State.sget_flashErase (s : State) (a n b : Nat) : sget flashDefault (s.flashErase a n).cup.flash b =
    if a ≤ b ∧ b < a + n then 0xFF else sget flashDefault s.cup.flash b := by
  refine (sget_filter_key flashDefault (fun b => !decide (a ≤ b ∧ b < a + n)) s.cup.flash b).trans ?_
  by_cases h : a ≤ b ∧ b < a + n
  · rw [if_pos h, if_neg (by simp [h])]
    rfl
  · rw [if_neg h, if_pos (by simp [h])]

theorem State.lcsCtlWrite_wipeDone (s : State) : s.lcsCtlWrite .cupola (0 ||| 1) = s.wipeDone := rfl

theorem wipeDone_erased (s : State) (hm : s.mayWrite .cupola R.LCS_CTL) (hw : s.on F.LCS_STAT_WIPE_WAIT = true) :
    ∃ t, exec (.wipeDone .cupola 0) s = .next t ∧ t.on F.LCS_STAT_WIPE_WAIT = false ∧ SameRegsBut [R.LCS_STAT] s t ∧
      t.hostMem = s.hostMem ∧ t.svcMem = s.svcMem ∧ t.cupMem = s.cupMem ∧ t.otp = s.otp ∧
      ∀ a < 2 ^ 32, sget flashDefault t.cup.flash a =
        if (0x2810000 ≤ a ∧ a < 0x2C10000) ∨ 0x3C10000 ≤ a then 0xFF else sget flashDefault s.cup.flash a := by
  let u := (s.flashErase 0x2810000 0x400000).flashErase 0x3C10000 (2 ^ 32)
  have hexec : exec (.wipeDone .cupola 0) s = .next (u.clr F.LCS_STAT_WIPE_WAIT) :=
    congrArg Host.Outcome.next ((s.gateW_granted _ _ _ hm).trans (s.lcsCtlWrite_wipeDone.trans (if_pos hw)))
  refine ⟨_, hexec, u.on_clr_self _ (by decide), u.sameRegsBut_put F.LCS_STAT_WIPE_WAIT 0, rfl, rfl, rfl, rfl, fun a ha => ?_⟩
  have hflash : sget flashDefault u.cup.flash a = if 0x3C10000 ≤ a ∧ a < 0x3C10000 + 2 ^ 32 then 0xFF
      else if 0x2810000 ≤ a ∧ a < 0x2810000 + 0x400000 then 0xFF else sget flashDefault s.cup.flash a := by
    rw [State.sget_flashErase, State.sget_flashErase]
  refine Eq.trans hflash ?_
  split
  · next h => rw [if_pos (.inr h.1)]
  · next h =>
    refine if_congr ?_ rfl rfl
    omega

/-! ### The Almanac (R532 to R535) -/

/-- A pending bit stays when another source rises (R528). -/
theorem State.isPending_raise (s : State) (n m : Nat) (hn : n < 256) (h : s.isPending n = true) :
    (s.raise m).isPending n = true := by
  by_cases hm : m = n
  · exact hm ▸ s.raise_pend m (hm ▸ hn)
  · have hsat : (evcBit (R.EVC_PEND 0) n).off ≠ R.EVC_SAT := by
      simp only [evcBit, R.EVC_PEND, R.EVC_SAT]
      omega
    have hapart : (evcBit (R.EVC_PEND 0) m).apart (evcBit (R.EVC_PEND 0) n) := by
      simp only [Fld.apart, evcBit]
      omega
    unfold State.raise
    split
    · exact h
    · rw [State.isPending, State.on, State.get, State.rd_countIntn _ _ _ hsat, State.rd_evcDeliver _ _ _ hsat]
      exact (s.on_put_apart _ _ 1 hapart).trans h

/-- What the Almanac's log does of itself: its own state, and events with what EVC makes of them. -/
structure AlmOnly (s t : State) : Prop where
  otp : t.otp = s.otp
  regs : SameRegsBut eventRegs s t
  counts : ∀ o, (∀ k < 3, o ≠ R.EVC_CNT k) → t.cntGet o = s.cntGet o
  pending : ∀ n < 256, s.isPending n = true → t.isPending n = true

theorem AlmOnly.refl (s : State) : AlmOnly s s := ⟨rfl, .refl _ s, fun _ _ => rfl, fun _ _ h => h⟩

section
variable {s t : State} (h : AlmOnly s t)
include h

theorem AlmOnly.alm (a : AlmSt) : AlmOnly s { t with alm := a } := ⟨h.otp, h.regs, h.counts, h.pending⟩

theorem AlmOnly.raise (n : Nat) (hn : n < 256) : AlmOnly s (t.raise n) where
  otp := (congrArg State.otp ((EvcOnly.refl t).raise n).frame).trans h.otp
  regs := h.regs.raise n hn fun _ ho => ho
  counts := fun o ho => (((EvcOnly.refl t).raise n).counts o ho).trans (h.counts o ho)
  pending := fun m hm hs => t.isPending_raise m n hm (h.pending m hm hs)

theorem AlmOnly.ite {p : Prop} [Decidable p] {u : State} (k : AlmOnly s u) : AlmOnly s (if p then t else u) := by
  split
  · exact h
  · exact k

theorem AlmOnly.almStore (e : AlmEntry) : AlmOnly s (t.almStore e) := h.alm _

theorem AlmOnly.almSummarise (e : AlmEntry) : AlmOnly s (t.almSummarise e) := (h.alm _).raise 241 (by decide)

theorem AlmOnly.almLeave (e : AlmEntry) : AlmOnly s (t.almLeave e) := (h.almSummarise e).ite ((h.alm _).almStore e)

theorem AlmOnly.foldl {α : Type} (f : State → α → State) (hf : ∀ x a, AlmOnly s x → AlmOnly s (f x a)) (l : List α) :
    AlmOnly s (l.foldl f t) := by
  induction l generalizing t with
  | nil => exact h
  | cons a l ih => exact ih (hf t a h)

theorem AlmOnly.almFill : AlmOnly s t.almFill := h.ite (h.alm _)

theorem AlmOnly.almSummaries : AlmOnly s t.almSummaries := (h.alm _).foldl _ (fun _ _ hx => hx.almStore _) _

theorem AlmOnly.almDrain : AlmOnly s t.almDrain := by
  have hleft : ∀ (l : List (Nat × AlmEntry)) (x : State), AlmOnly s x →
      AlmOnly s (l.foldl (fun s e => s.almLeave e.2) x) := fun l x hx => hx.foldl _ (fun _ e hy => hy.almLeave e.2) l
  unfold State.almDrain
  refine (fun hdone => AlmOnly.ite hdone (hdone.alm _)) (hleft _ _ ?_)
  exact h.almFill.almSummaries.alm _

/-- An entry is added to one that is queued, discarded, or queued, in a full buffer in the place of the oldest (R534). -/
theorem AlmOnly.almQueue (e : AlmEntry) : AlmOnly s (t.almQueue e) := by
  unfold State.almQueue
  refine (h.almDrain.alm _).ite (((h.almDrain.alm _).raise 242 (by decide)).ite ?_)
  split
  · exact (h.almDrain.alm _).ite ((h.almDrain.alm _).almLeave _)
  · exact h.almDrain.alm _

theorem AlmOnly.almanac (etype subject data : Nat) : AlmOnly s (t.almanac etype subject data) := h.almQueue _

end

/-! ### The end of a transition (R497 step 7) -/

section
variable (s : State) (x v : Nat)

theorem State.lcsWord_burnWord (w : Nat) : (s.burnWord x v).lcsWord w = if w = x then s.lcsWord w ||| v else s.lcsWord w := by
  simp only [State.lcsWord, State.burnWord_otp, sget_sput]
  split
  · next h =>
    subst h
    rw [Nat.or_assoc, ← Nat.or_assoc v, Nat.or_comm v, Nat.or_assoc _ v v, Nat.or_self, Nat.or_assoc]
  · rfl

/-- What the end leaves: DONE in the word, the count, the event, and the registers. -/
structure TransitionEnded (s t : State) (x : Nat) : Prop where
  word : ∀ w, t.lcsWord w = if w = x then s.lcsWord w ||| lcsDone x else s.lcsWord w
  idle : t.on F.LCS_STAT_IN_TRANSITION = false
  count : t.cntGet (R.LCS_CNT 0) = s.plus (R.LCS_CNT 0) 1
  pending : t.isPending 208 = true
  regs : SameRegsBut (R.LCS_STAT :: R.LCS_W_RAW (x - 1) :: R.LCS_SAT :: eventRegs) s t

theorem State.transitionEnd_ended (hx : s.get F.LCS_STAT_TARGET = x) : TransitionEnded s s.transitionEnd x := by
  let a := s.burnWord x (lcsDone x)
  let b := a.clr F.LCS_STAT_IN_TRANSITION
  let c := (b.inc (R.LCS_CNT 0)).raise 208
  have hraised : CountedAndRaised (R.LCS_CNT 0) 208 ⟨R.LCS_SAT, 0, 1⟩ b c :=
    b.countedAndRaised (R.LCS_CNT 0) 208 _ (satOf_lcsCnt 0) (by decide) fun k _ => lcsCnt_ne_evcCnt 0 k (by decide)
  have hend : AlmOnly c s.transitionEnd := by
    subst hx
    exact (AlmOnly.refl c).almanac 3 _ 0
  have hclr : b.otp = a.otp := by simp only [b, State.clr, State.put, State.wr_otp]
  have hotp : s.transitionEnd.otp = a.otp := hend.otp.trans ((congrArg State.otp hraised.frame).trans hclr)
  have hstat : s.transitionEnd.rd R.LCS_STAT = b.rd R.LCS_STAT :=
    (hend.regs _ (by decide)).trans (hraised.regs _ (by decide))
  constructor
  case word =>
    intro w
    rw [State.lcsWord, hotp]
    exact s.lcsWord_burnWord x _ w
  case idle => exact (congrArg (fun v => fieldGet 1 1 v != 0) hstat).trans (a.on_clr_self F.LCS_STAT_IN_TRANSITION (by decide))
  case count => exact (hend.counts _ fun k _ => lcsCnt_ne_evcCnt 0 k (by decide)).trans hraised.count
  case pending => exact hend.pending 208 (by decide) hraised.pending
  case regs =>
    have hword : SameRegsBut [R.LCS_W_RAW (x - 1)] s a := fun p hp => s.burnWord_rd x _ p (by simpa using hp)
    exact ((hword.mono (by simp)).put F.LCS_STAT_IN_TRANSITION 0 (by simp)).trans
      ((hraised.regs.mono fun o ho => List.mem_cons_of_mem _ (List.mem_cons_of_mem _ ho)).trans
        (hend.regs.mono fun o ho => List.mem_cons_of_mem _ (List.mem_cons_of_mem _ (List.mem_cons_of_mem _ ho))))

end

theorem exec_transitionComplete_inService (s : State) (halive : s.alive = true) (hready : s.transitionReady = true)
    (hm : 7 ≤ s.transitionEnd.milestone) (hx : s.get F.LCS_STAT_TARGET ≠ 5) :
    exec .transitionComplete s = .next s.transitionEnd := by
  have hgo : ¬(!s.alive || !s.transitionReady) = true := by simp [halive, hready]
  exact congrArg Host.Outcome.next ((if_neg hgo).trans ((if_neg hx).trans (s.transitionEnd.bootGo_inService hm)))

theorem transitionComplete_ends (s : State) (x : Nat) (halive : s.alive = true) (hready : s.transitionReady = true)
    (hm : 7 ≤ s.milestone) (ht : s.get F.LCS_STAT_TARGET = x) (hx : x ∈ [1, 2, 3, 4]) :
    ∃ t, exec .transitionComplete s = .next t ∧ t.on F.LCS_STAT_IN_TRANSITION = false ∧
      t.lcsWord x = s.lcsWord x ||| lcsDone x ∧ (∀ w, w ≠ x → t.lcsWord w = s.lcsWord w) ∧
      t.get F.LCS_STATE_STATE = s.get F.LCS_STATE_STATE ∧ t.cntGet (R.LCS_CNT 0) = s.plus (R.LCS_CNT 0) 1 ∧
      t.isPending 208 = true := by
  have hended := s.transitionEnd_ended x ht
  have hsmall : ∀ x ∈ [1, 2, 3, 4], x ≠ 5 ∧
      ∀ o ∈ [R.LCS_STATE, R.CUP_BOOT_STAT], o ∉ R.LCS_STAT :: R.LCS_W_RAW (x - 1) :: R.LCS_SAT :: eventRegs := by decide
  obtain ⟨h5, hkept⟩ := hsmall x hx
  have hmile : s.transitionEnd.milestone = s.milestone :=
    congrArg (fieldGet _ _) (hended.regs R.CUP_BOOT_STAT (hkept _ (by decide)))
  have hstate : s.transitionEnd.get F.LCS_STATE_STATE = s.get F.LCS_STATE_STATE :=
    congrArg (fieldGet _ _) (hended.regs R.LCS_STATE (hkept _ (by decide)))
  exact ⟨_, exec_transitionComplete_inService s halive hready (hmile ▸ hm) (ht ▸ h5), hended.idle,
    (hended.word x).trans (if_pos rfl), fun w hw => (hended.word w).trans (if_neg hw), hstate, hended.count, hended.pending⟩

/-! ### The obligation -/

theorem lcsTransition_enters (s : State) (v : Word) (x : Nat) (hx : x = v.toNat % 16) (hc : s.transitionCause x = 0) :
    let t := s.transitionWrite v
    t.get F.LCS_STATE_STATE = x ∧ t.on F.LCS_STAT_IN_TRANSITION = true ∧ t.get F.LCS_STAT_TARGET = x ∧
      (∀ l m, (l, m) ∈ [(t.otp.lcsA, s.otp.lcsA), (t.otp.lcsB, s.otp.lcsB)] →
        ∀ w, sget (fun _ => 0) l w = if w = x then sget (fun _ => 0) m w ||| lcsIntent x * 65536 else sget (fun _ => 0) m w) ∧
      (∀ i, (t.slot i).st = .empty) ∧ ∀ n : Fin 14, t.on (F.BLF_SRC_CFG_POLICY n) = false := by
  intro t
  have hent : Entered (s.burnWord x (lcsIntent x * 65536)).otp x t := s.entered_transitionWrite v x hx hc
  obtain ⟨hin, hpol, hslots⟩ := hent
  refine ⟨hin.state, hin.inTransition, hin.target, fun l m hl w => ?_, hslots, fun n => (hpol n n.isLt).any⟩
  rw [hin.otp, State.burnWord_otp] at hl
  have hburnt : ∀ k : List (Nat × Nat), sget (fun _ => 0) (sput (fun _ => 0) k x (sget (fun _ => 0) k x |||
      lcsIntent x * 65536)) w = if w = x then sget (fun _ => 0) k w ||| lcsIntent x * 65536 else sget (fun _ => 0) k w := by
    intro k
    rw [sget_sput]
    split
    · next h => rw [h]
    · rfl
  simp only [List.mem_cons, Prod.mk.injEq, List.not_mem_nil, or_false] at hl
  obtain ⟨rfl, rfl⟩ | ⟨rfl, rfl⟩ := hl
  · exact hburnt _
  · exact hburnt _

/-- Settles O50: the write's cause decides between `Entered` and the refusal; each later step has a lemma of its own. -/
theorem lifeCycleTransitions : Obligations.LifeCycleTransitions := by
  unfold Obligations.LifeCycleTransitions
  intro s
  refine ⟨fun r v hm => ⟨s.mayWrite_lcsTransition r hm, fun x c hx hc => ⟨fun hne hidle hpath => ?_, fun k hk h0 => ?_⟩⟩,
    fun x l halive => dsProgram_programs s x l halive, wipeDone_erased s, fun x => transitionComplete_ends s x⟩
  · have h5 : ¬6 ≤ x := by
      simp only [List.mem_cons, Prod.mk.injEq, List.not_mem_nil, or_false] at hpath
      omega
    have hcause : s.transitionCause x = 0 := by
      rw [s.transitionCause_eq x, if_neg h5, if_neg (by simp [hidle]), if_neg (hc ▸ Ne.symm hne), if_pos (hc ▸ hpath)]
    exact ⟨_, exec_lcsTransition_permitted s r v hm, lcsTransition_enters s v x hx hcause⟩
  · subst hc
    exact ⟨_, exec_lcsTransition_permitted s r v hm, s.transitionWrite_rejects v x k hx
      ((s.transitionCause_eq x).trans hk.symm) (by omega) fun e => h0 (Fin.ext e)⟩

end Sys2Proof.Machine
end

section
/-! PROOF. The registers of FCR that hold and let go of a fault: FAULT_N and the first record (R517), the sticky bits (R516),
FLT_MAP (R519), RESUME and LD_CLR (R522, R526), and the reads of the history (R536). -/

namespace Sys2Proof.Machine

/-! ### Registers set to 0, and a bit of a register -/

theorem SameRegsBut.wr {os : List Nat} {s t : State} (h : SameRegsBut os s t) (o : Nat) (v : Word) (ho : o ∈ os) :
    SameRegsBut os s (t.wr o v) :=
  h.trans fun p hp => t.rd_wr_of_ne o p v fun e => hp (e ▸ ho)

/-- The state with the registers at the listed offsets written with 0, one after the other. -/
def State.zeroed (s : State) (os : List Nat) : State := os.foldl (fun s o => s.wr o 0) s

theorem State.rd_zeroed (s : State) (os : List Nat) (p : Nat) :
    (s.zeroed os).rd p = if p ∈ os then 0 else s.rd p := by
  induction os generalizing s with
  | nil => rfl
  | cons o os ih =>
    refine (ih (s.wr o 0)).trans ?_
    rw [State.rd_wr]
    by_cases hmem : p ∈ os <;> simp [hmem]

theorem State.sameRegsBut_zeroed (s : State) (os : List Nat) : SameRegsBut os s (s.zeroed os) :=
  fun p hp => (s.rd_zeroed os p).trans (if_neg hp)

theorem State.on_bit (s : State) (o i : Nat) : s.on ⟨o, i, 1⟩ = (s.rd o).getLsbD i := by
  rw [State.on, State.get, fieldGet, bits, BitVec.getLsbD, Nat.testBit, Nat.one_and_eq_mod_two, Nat.pow_one]

/-! ### FAULT_N and the first record (R517) -/

theorem State.faultLow_eq_false_iff (s : State) :
    s.faultLow = false ↔ s.on F.FLT_FIRST_INFO_VALID = false ∧ s.rd R.FLT_STICKY = 0 := by
  rw [State.faultLow, Bool.or_eq_false_iff, bne_eq_false_iff_eq]

/-- The registers of the first record. -/
def firstRegs : List Nat :=
  [R.FLT_FIRST_LO, R.FLT_FIRST_HI, R.FLT_FIRST_INFO, R.FLT_FIRST_TIME_LO, R.FLT_FIRST_TIME_HI, R.FLT_COUNT]

theorem exec_firstClear_permitted (s : State) (r : Req) (h : s.mayWrite r R.FLT_FIRST_INFO) :
    exec (.firstClear r) s = .next (((s.zeroed firstRegs).clr F.FLT_STAT_FIRST_VALID).level 32 false) :=
  congrArg Host.Outcome.next (s.gateW_granted r R.FLT_FIRST_INFO _ h)

theorem firstClear_clears (s : State) (r : Req) (h : s.mayWrite r R.FLT_FIRST_INFO) :
    ∃ t, exec (.firstClear r) s = .next t ∧ (∀ o ∈ firstRegs, t.rd o = 0) ∧ t.on F.FLT_STAT_FIRST_VALID = false ∧
      SameRegsBut (firstRegs ++ [R.FLT_STAT]) s t ∧ SameMemory s t := by
  have hexec := exec_firstClear_permitted s r h
  have hstat : ∀ o ∈ firstRegs, o ≠ R.FLT_STAT := by decide
  refine ⟨_, hexec, fun o ho => ?_, State.on_clr_self _ F.FLT_STAT_FIRST_VALID (by decide), ?_,
    (execFirstClear_keeps r hexec).sameMemory⟩
  · calc ((s.zeroed firstRegs).clr F.FLT_STAT_FIRST_VALID).rd o
      _ = (s.zeroed firstRegs).rd o := State.rd_put_of_ne _ _ _ o (hstat o ho)
      _ = 0 := (s.rd_zeroed firstRegs o).trans (if_pos ho)
  · exact ((s.sameRegsBut_zeroed firstRegs).mono fun _ => List.mem_append_left _).put F.FLT_STAT_FIRST_VALID 0
      (List.mem_append_right _ (List.mem_singleton_self _))

/-! ### The sticky bits (R516) -/

/-- A bit of FLT_STICKY falls where it is written with 1 and its condition is not live. -/
theorem State.on_stickyClear (s : State) (v : Word) (i : Nat) (hi : i < 32) :
    (s.stickyClear v).on ⟨R.FLT_STICKY, i, 1⟩ = (s.on ⟨R.FLT_STICKY, i, 1⟩ && (!v.getLsbD i || bit s.srcLive i)) := by
  rw [State.on_bit, State.on_bit, State.stickyClear, State.rd_wr_self]
  simp only [BitVec.getLsbD_or, BitVec.getLsbD_and, BitVec.getLsbD_not, BitVec.getLsbD_ofNat, bit, decide_eq_true hi,
    Bool.true_and]
  cases v.getLsbD i <;> simp

theorem stickyClear_clears (s : State) (r : Req) (v : Word) (h : s.mayWrite r R.FLT_STICKY) :
    ∃ t, exec (.stickyClear r v) s = .next t ∧ (∀ i < 32, t.on ⟨R.FLT_STICKY, i, 1⟩ =
      (s.on ⟨R.FLT_STICKY, i, 1⟩ && (!v.getLsbD i || bit s.srcLive i))) ∧ SameRegsBut [R.FLT_STICKY] s t ∧ OnlyRegs s t :=
  ⟨_, congrArg Host.Outcome.next (s.gateW_granted r R.FLT_STICKY _ h), s.on_stickyClear v,
    (SameRegsBut.refl _ s).wr _ _ (List.mem_singleton_self _), rfl⟩

/-! ### FLT_MAP (R519) -/

section
variable (s : State) (r : Req) (k : Fin 32) (v : Word)

theorem exec_fltMapWrite_permitted (h : s.mayWrite r (R.FLT_MAP k)) :
    exec (.fltMapWrite r k v) s = .next (s.fltMapWrite k v) :=
  congrArg Host.Outcome.next (s.gateW_granted r (R.FLT_MAP k) _ h)

theorem State.fltMapWrite_noFault (hk : faultKind k = false) : s.fltMapWrite k v = s := by
  simp only [State.fltMapWrite, hk, Bool.not_false, if_true]

theorem State.fltMapWrite_fault (hk : faultKind k = true) : s.fltMapWrite k v =
    if s.get (F.FLT_MAP_LEVEL k) < v.toNat % 8 ∧ v.toNat % 8 ≤ 6 then s.put (F.FLT_MAP_LEVEL k) (v.toNat % 8)
    else s.set F.FLT_STAT_MAP_REJECT := by
  simp only [State.fltMapWrite, hk, Bool.not_true, Bool.false_eq_true, if_false, decide_eq_true_eq]

variable (h : s.mayWrite r (R.FLT_MAP k)) (hk : faultKind k = true)
include h hk

theorem fltMapWrite_raises (hlt : s.get (F.FLT_MAP_LEVEL k) < v.toNat % 8) (h6 : v.toNat % 8 ≤ 6) :
    ∃ t, exec (.fltMapWrite r k v) s = .next t ∧ t.get (F.FLT_MAP_LEVEL k) = v.toNat % 8 ∧
      SameRegsBut [R.FLT_MAP k] s t ∧ OnlyRegs s t := by
  rw [exec_fltMapWrite_permitted s r k v h, s.fltMapWrite_fault k v hk, if_pos ⟨hlt, h6⟩]
  refine ⟨_, rfl, ?_, s.sameRegsBut_put (F.FLT_MAP_LEVEL k) _, rfl⟩
  exact (s.get_put_self (F.FLT_MAP_LEVEL k) _ (by decide : 0 + 3 ≤ 32)).trans (Nat.mod_mod _ _)

theorem fltMapWrite_rejects (hl : v.toNat % 8 ≤ s.get (F.FLT_MAP_LEVEL k) ∨ v.toNat % 8 = 7) :
    ∃ t, exec (.fltMapWrite r k v) s = .next t ∧ t.on F.FLT_STAT_MAP_REJECT = true ∧
      SameRegsBut [R.FLT_STAT] s t ∧ OnlyRegs s t := by
  rw [exec_fltMapWrite_permitted s r k v h, s.fltMapWrite_fault k v hk, if_neg (by omega)]
  exact ⟨_, rfl, State.on_set_self _ _ (by decide) rfl, s.sameRegsBut_put F.FLT_STAT_MAP_REJECT 1, rfl⟩

end

/-! ### A write of FLT_CTL (R522, R526) -/

/-- Outside the DKE channels and lanes, a refused access touches the two registers that record it (R17, R58). -/
theorem State.sameRegsBut_denied (s : State) (r : Req) (o : Nat) (wr : Bool) (h : s.foreign r o wr = false) :
    SameRegsBut [R.GLB_STAT, R.GLB_DENIED_ADDR] s (s.denied r o wr) := by
  have hstat : R.GLB_STAT ∈ [R.GLB_STAT, R.GLB_DENIED_ADDR] := List.mem_cons_self ..
  simp only [State.denied, h, Bool.false_eq_true, if_false]
  refine SameRegsBut.inc (SameRegsBut.put ?_ _ 1 hstat) _ _ satOf_glbDenied hstat
  split
  · exact .refl _ s
  · exact (SameRegsBut.refl _ s).wr _ _ (List.mem_cons_of_mem _ (List.mem_singleton_self _))

/-- RESUME and LD_CLR are writes of FLT_CTL with one bit. -/
theorem exec_fltCtl_permitted (s : State) (r : Req) (h : s.mayWrite r R.FLT_CTL) (c : Instr)
    (hc : c = .fltResume r ∨ c = .ldClr r) :
    ∃ v : Word, (bit v.toNat 0 || bit v.toNat 1) = true ∧ exec c s = .next (s.fltCtlWrite r v) := by
  obtain rfl | rfl := hc
  · exact ⟨1, rfl, congrArg Host.Outcome.next (s.gateW_granted r R.FLT_CTL _ h)⟩
  · exact ⟨2, rfl, congrArg Host.Outcome.next (s.gateW_granted r R.FLT_CTL _ h)⟩

theorem State.fltCtlWrite_denied (s : State) (r : Req) (v : Word) (hr : r ≠ .cupola)
    (hv : (bit v.toNat 0 || bit v.toNat 1) = true) : s.fltCtlWrite r v = s.denied r R.FLT_CTL true :=
  if_pos (by rw [hv, Bool.true_and, bne_iff_ne]; exact hr)

theorem fltCtl_denied (s : State) (r : Req) (h : s.mayWrite r R.FLT_CTL) (hr : r ≠ .cupola) (c : Instr)
    (hc : c = .fltResume r ∨ c = .ldClr r) :
    ∃ t, exec c s = .next t ∧ t.cntGet R.GLB_DENIED = s.plus R.GLB_DENIED 1 ∧ t.on F.GLB_STAT_DENIED_ACC = true ∧
      SameRegsBut [R.GLB_STAT, R.GLB_DENIED_ADDR] s t ∧ SameMemory s t := by
  obtain ⟨v, hv, hexec⟩ := exec_fltCtl_permitted s r h c hc
  rw [s.fltCtlWrite_denied r v hr hv] at hexec
  exact ⟨_, hexec, s.cntGet_denied .., s.on_denied .., s.sameRegsBut_denied r R.FLT_CTL true rfl,
    (State.denied_keeps r R.FLT_CTL true (Keeps.refl true s)).sameMemory⟩

theorem exec_fltResume_cupola (s : State) (h : s.mayWrite .cupola R.FLT_CTL) : exec (.fltResume .cupola) s =
    .next (if !s.reacting && s.on F.FLT_STAT_QUIESCED then (s.clr F.FLT_STAT_QUIESCED).resumeQueues else s) :=
  congrArg Host.Outcome.next (s.gateW_granted .cupola R.FLT_CTL _ h)

theorem exec_ldClr_cupola (s : State) (h : s.mayWrite .cupola R.FLT_CTL) :
    exec (.ldClr .cupola) s = .next (s.zeroed [R.FLT_LOCKDOWN_LO, R.FLT_LOCKDOWN_HI]) :=
  congrArg Host.Outcome.next (s.gateW_granted .cupola R.FLT_CTL _ h)

theorem fltResume_reacting (s : State) (h : s.mayWrite .cupola R.FLT_CTL) (hr : s.reacting = true) :
    exec (.fltResume .cupola) s = .next s := by
  rw [exec_fltResume_cupola s h, hr, Bool.not_true, Bool.false_and, if_neg Bool.false_ne_true]

theorem ldClr_clears (s : State) (h : s.mayWrite .cupola R.FLT_CTL) :
    ∃ t, exec (.ldClr .cupola) s = .next t ∧ t.rd R.FLT_LOCKDOWN_LO = 0 ∧ t.rd R.FLT_LOCKDOWN_HI = 0 ∧
      SameRegsBut [R.FLT_LOCKDOWN_LO, R.FLT_LOCKDOWN_HI] s t ∧ OnlyRegs s t :=
  ⟨_, exec_ldClr_cupola s h, s.rd_zeroed _ _, s.rd_zeroed _ _, s.sameRegsBut_zeroed _, rfl⟩

/-! ### Fetching goes on: the registers below the queues stay (R55, R520) -/

/-- The registers that a queue's fetching touches. -/
def fetchRegs (q : Nat) : List Nat := [R.Q_STAT q, R.SQ_CUR_LO q, R.SQ_CUR_HI q]

theorem fetchRegs_above (q o : Nat) (h : o ∈ fetchRegs q) : 0x100000 ≤ o := by
  simp only [fetchRegs, R.Q_STAT, R.SQ_CUR_LO, R.SQ_CUR_HI, List.mem_cons, List.not_mem_nil, or_false] at h
  omega

theorem State.sameRegsBut_resumeKick (s : State) (q : Nat) : SameRegsBut (fetchRegs q) s (s.resumeKick q) := by
  have hwant : ∀ k, SameRegsBut (fetchRegs q) s ((s.clr (F.Q_STAT_KICK_PEND q)).wantFetch q k (s.sqCur q)) := fun k =>
    ((SameRegsBut.refl (fetchRegs q) s).put (F.Q_STAT_KICK_PEND q) 0 (List.mem_cons_self ..)).trans
      ((State.sameRegsBut_wantFetch _ q k _).mono fun _ => List.mem_cons_of_mem _)
  unfold State.resumeKick
  split
  · split
    · exact hwant _
    · split
      · exact hwant _
      · exact .refl _ s
  · exact .refl _ s

theorem State.sameRegsBut_issueWanted (s : State) (q : Nat) : SameRegsBut (fetchRegs q) s (s.issueWanted q) := by
  unfold State.issueWanted
  split
  · next f _ =>
    have hissued := (SameRegsBut.refl (fetchRegs q) s).qput q { s.qst q with fetch := some { f with issued := true } }
    split
    · dsimp only
      split
      · exact (hissued.wr _ _ (by simp [fetchRegs])).wr _ _ (by simp [fetchRegs])
      · exact hissued
    · exact .refl _ s
  · exact .refl _ s

theorem State.rd_resumeQueues (s : State) (o : Nat) (ho : o < 0x100000) : s.resumeQueues.rd o = s.rd o := by
  have hbelow : ∀ q, o ∉ fetchRegs q := fun q hm => absurd (fetchRegs_above q o hm) (Nat.not_le.2 ho)
  have hfold : ∀ (qs : List Nat) (x : State),
      (qs.foldl (fun s q => (s.resumeKick q).issueWanted q) x).rd o = x.rd o := by
    intro qs
    induction qs with
    | nil => exact fun _ => rfl
    | cons q qs ih =>
      exact fun x => (ih _).trans (((x.sameRegsBut_resumeKick q).trans (State.sameRegsBut_issueWanted _ q)) o (hbelow q))
  exact hfold _ s

theorem fltResume_resumes (s : State) (h : s.mayWrite .cupola R.FLT_CTL) (hr : s.reacting = false)
    (hq : s.on F.FLT_STAT_QUIESCED = true) :
    ∃ t, exec (.fltResume .cupola) s = .next t ∧ t.on F.FLT_STAT_QUIESCED = false := by
  refine ⟨_, (exec_fltResume_cupola s h).trans (congrArg Host.Outcome.next (if_pos ?_)), ?_⟩
  · rw [hr, hq, Bool.not_false, Bool.true_and]
  · rw [State.on, State.get, State.rd_resumeQueues _ _ (by decide)]
    exact s.on_clr_self F.FLT_STAT_QUIESCED (by decide)

/-! ### The history (R536) -/

section
variable (s : State) (r : Req)

theorem exec_msgLatch_permitted (h : s.mayRead r R.FLT_MSG0) : exec (.msgLatch r) s = .next s.msgLatch :=
  congrArg Host.Outcome.next (s.gateR_granted r R.FLT_MSG0 _ h)

theorem exec_msgPop_permitted (h : s.mayRead r R.FLT_MSG3) : exec (.msgPop r) s = .next s.msgPop :=
  congrArg Host.Outcome.next (s.gateR_granted r R.FLT_MSG3 _ h)

theorem msgLatch_oldest (h : s.mayRead r R.FLT_MSG0) (e : HistEntry) (l : List HistEntry) (he : s.fcr.history = e :: l) :
    exec (.msgLatch r) s = .next { s with
      fcr := { s.fcr with latched := some e }, busOut := BitVec.ofNat 64 (e.msg.toNat % 2 ^ 32) } := by
  rw [exec_msgLatch_permitted s r h, State.msgLatch, he]

theorem msgLatch_empty (h : s.mayRead r R.FLT_MSG0) (he : s.fcr.history = []) :
    ∃ t, exec (.msgLatch r) s = .next t ∧ t.busOut = 0 ∧ t.fcr.latched = none := by
  rw [exec_msgLatch_permitted s r h, State.msgLatch, he]
  exact ⟨_, rfl, rfl, rfl⟩

theorem msgPop_latched (h : s.mayRead r R.FLT_MSG3) (e : HistEntry) (he : s.fcr.latched = some e) :
    exec (.msgPop r) s = .next { s with
      fcr := { s.fcr with latched := none, history := s.fcr.history.drop 1 }
      busOut := BitVec.ofNat 64 (e.timeUs % 2 ^ 32) } := by
  have hshown : s.msgShown = some e := by rw [State.msgShown, he, Option.some_or]
  rw [exec_msgPop_permitted s r h, State.msgPop, hshown]

end

end Sys2Proof.Machine
end

section
/-! PROOF. An Almanac entry that Cupola firmware writes while its buffer is empty, with or without a failed sector (R533,
R534). -/

namespace Sys2Proof.Machine

/-! ### The retired sector (R533) -/

/-- Beside the count of retired sectors, the retirement is its event. -/
theorem State.almRetire_frame (s : State) :
    EventFrame { s with alm := { s.alm with retired := min 255 (s.alm.retired + 1) } } s.almRetire :=
  ((EvcOnly.refl _).raise 240).frame

theorem State.almRetire_alm (s : State) : s.almRetire.alm = { s.alm with retired := min 255 (s.alm.retired + 1) } :=
  (congrArg State.alm s.almRetire_frame :)

theorem State.almRetire_time (s : State) : s.almRetire.time = s.time := (congrArg State.time s.almRetire_frame :)

theorem AlmOnly.almRetire {s t : State} (h : AlmOnly s t) : AlmOnly s t.almRetire := (h.alm _).raise 240 (by decide)

/-- The state in which the entry is queued: after the retirement of the failed sector, where one failed. -/
def State.retireIf (s : State) (bad : Bool) : State := if bad then s.almRetire else s

theorem State.retireIf_alm (s : State) (bad : Bool) : (s.retireIf bad).alm =
    { s.alm with retired := if bad then min 255 (s.alm.retired + 1) else s.alm.retired } := by
  cases bad
  · rfl
  · exact s.almRetire_alm

theorem State.retireIf_time (s : State) (bad : Bool) : (s.retireIf bad).time = s.time := by
  cases bad
  · rfl
  · exact s.almRetire_time

theorem AlmOnly.retireIf {s t : State} (h : AlmOnly s t) (bad : Bool) : AlmOnly s (t.retireIf bad) := by
  cases bad
  · exact h
  · exact h.almRetire

/-! ### An entry is queued in an empty buffer (R534) -/

/-- The refill of the write budget touches the budget alone. -/
theorem State.almFill_budget (s : State) : ∃ b a, s.almFill = { s with alm := { s.alm with budget := b, budgetAt := a } } := by
  unfold State.almFill
  dsimp only
  split
  · exact ⟨_, _, rfl⟩
  · exact ⟨_, _, rfl⟩

theorem State.almSummaries_none (s : State) (h : s.alm.summary = []) : s.almSummaries = s := by
  have halm : { s.alm with summary := [] } = s.alm := by rw [← h]
  simp only [State.almSummaries, h, List.filter_nil, List.foldl_nil, halm]

/-- With nothing queued and nothing to report, no entry leaves for flash. -/
theorem State.almDrain_idle (s : State) (hb : s.alm.buffer = []) (hs : s.alm.summary = []) (hl : s.alm.lost = 0) :
    s.almDrain = s.almFill := by
  obtain ⟨b, a, hfill⟩ := s.almFill_budget
  rw [State.almDrain, State.almSummaries_none _ (by rw [hfill]; exact hs), hfill]
  simp only [hb, hl, List.filter_nil, List.foldl_nil, true_or, if_true]

/-- The entry is alone in the buffer; beside it only the write budget has changed. -/
theorem State.almQueue_idle (s : State) (hb : s.alm.buffer = []) (hs : s.alm.summary = []) (hl : s.alm.lost = 0) (e : AlmEntry) :
    ∃ b a, (s.almQueue e).alm = { s.alm with
      budget := b, budgetAt := a, buffer := [(s.time, { e with boot := s.alm.boots })] } := by
  obtain ⟨b, a, hfill⟩ := s.almFill_budget
  refine ⟨b, a, ?_⟩
  rw [State.almQueue, s.almDrain_idle hb hs hl, hfill]
  simp [hb]

/-! ### The command -/

/-- The entry that ALMANAC_WRITE asks for, with a boot count (which the queue gives it). -/
def requestedEntry (e : AlmReq) (boot : Nat) : AlmEntry :=
  ⟨0, boot, e.time.toNat, e.etype.toNat, e.level.toNat, e.rtag.toNat, e.eflags.toNat % 4, e.subject.toNat, e.data.toNat, 1⟩

theorem exec_almanacWrite (s : State) (e : AlmReq) (bad : Bool) (h : s.power.cupUp = true) :
    exec (.almanacWrite e bad) s = .next ((s.retireIf bad).almQueue (requestedEntry e 0)) := by
  show execAlmanacWrite e bad s = _
  rw [execAlmanacWrite, h]
  rfl

theorem almanacWrite_queues (s : State) (e : AlmReq) (bad : Bool) (hup : s.power.cupUp = true) (hb : s.alm.buffer = [])
    (hs : s.alm.summary = []) (hl : s.alm.lost = 0) :
    ∃ t, exec (.almanacWrite e bad) s = .next t ∧ t.alm.buffer = [(s.time, requestedEntry e s.alm.boots)] ∧
      t.alm.retired = (if bad then min 255 (s.alm.retired + 1) else s.alm.retired) ∧ (bad = true → t.isPending 240 = true) ∧
      t.alm.written = s.alm.written ∧ SameRegsBut eventRegs s t ∧ SameMemory s t := by
  have hexec := exec_almanacWrite s e bad hup
  have halm := s.retireIf_alm bad
  obtain ⟨b, a, hqueue⟩ := (s.retireIf bad).almQueue_idle (by rw [halm, hb]) (by rw [halm, hs]) (by rw [halm, hl])
    (requestedEntry e 0)
  rw [halm, s.retireIf_time bad] at hqueue
  have honly := ((AlmOnly.refl s).retireIf bad).almQueue (requestedEntry e 0)
  refine ⟨_, hexec, congrArg AlmSt.buffer hqueue, congrArg AlmSt.retired hqueue, fun hbad => ?_,
    (congrArg AlmSt.written hqueue :), honly.regs, (execAlmanacWrite_keeps e bad hexec).sameMemory⟩
  subst hbad
  exact ((AlmOnly.refl s.almRetire).almQueue _).pending 240 (by decide) (State.raise_pend _ 240 (by decide))

/-! ### The obligation -/

/-- Settles O54: each command has a lemma for each clause; those of FLT_CTL split on the requester, those of FLT_MAP on the
KIND and the level. -/
theorem faultRegisters : Obligations.FaultRegisters := by
  unfold Obligations.FaultRegisters
  intro s r
  refine ⟨s.faultLow_eq_false_iff, firstClear_clears s r, stickyClear_clears s r, fun k v l hm hl => ?map,
    fun hm => ⟨fltCtl_denied s r hm, ?ctl⟩, fun hm => ⟨msgLatch_oldest s r hm, msgLatch_empty s r hm⟩, msgPop_latched s r,
    almanacWrite_queues s⟩
  case map =>
    subst hl
    exact ⟨fltMapWrite_raises s r k v hm,
      fun hk => by rw [exec_fltMapWrite_permitted s r k v hm, s.fltMapWrite_noFault k v hk], fltMapWrite_rejects s r k v hm⟩
  case ctl =>
    rintro rfl
    exact ⟨fltResume_reacting s hm, fltResume_resumes s hm, ldClr_clears s hm⟩

end Sys2Proof.Machine
end

section
/-! PROOF. What CPM's own operations leave unchanged (R528, R568, R570), and the end of a Boost (R562, R563). -/

namespace Sys2Proof.Machine

/-! ### PWR_STAT, CPM's counters and their events -/

/-- The SAT bits of CPM's counters (R16, R568). -/
theorem satOf_pwrCnt : ∀ k < 7, satOf (R.PWR_CNT k) = some ⟨R.PWR_SAT, k, 1⟩ := by decide

theorem not_mem_eventRegs_of_lt (o : Nat) (h : o < R.EVC_PEND 0) : o ∉ eventRegs := by
  simp only [R.EVC_PEND] at h
  simp only [eventRegs, R.EVC_SAT, R.EVC_PEND, List.mem_cons, List.mem_map, List.mem_range, not_or, not_exists]
  exact ⟨by omega, by omega⟩

/-- A pending bit of EVC lies in none of the registers below EVC. -/
theorem evcPend_ne_of_lt (o n : Nat) (h : o < R.EVC_PEND 0) : o ≠ (evcBit (R.EVC_PEND 0) n).off := by
  simp only [evcBit, R.EVC_PEND] at h ⊢
  omega

/-- A count touches the live counts and, when it saturates, a SAT bit (R16). -/
theorem State.count_frame (s : State) (o n : Nat) :
    s.count o n = { s with regs := (s.count o n).regs, cnt := (s.count o n).cnt } := by
  unfold State.count
  dsimp only
  split
  · rfl
  · split <;> rfl

theorem State.count_eventFrame (s : State) (o n : Nat) : EventFrame s (s.count o n) := by
  rw [s.count_frame o n]
  rfl

theorem EventFrame.cpm {s t : State} (h : EventFrame s t) : t.cpm = s.cpm := (congrArg State.cpm h :)

/-- Of PWR_STAT only bits of the fields `fs` have changed, of the other registers only the SAT bits of CPM and the event
registers; no pending bit has cleared. -/
structure StatOnly (fs : List Fld) (s t : State) : Prop where
  fields : ∀ i w, (∀ f ∈ fs, f.lo + f.width ≤ i ∨ i + w ≤ f.lo) → t.get ⟨R.PWR_STAT, i, w⟩ = s.get ⟨R.PWR_STAT, i, w⟩
  regs : SameRegsBut (R.PWR_STAT :: R.PWR_SAT :: eventRegs) s t
  pending : ∀ n < 256, s.isPending n = true → t.isPending n = true
  frame : EventFrame s t

theorem StatOnly.refl (fs : List Fld) (s : State) : StatOnly fs s s := ⟨fun _ _ _ => rfl, .refl _ s, fun _ _ h => h, .refl s⟩

section
variable {fs : List Fld} {s t u : State} (h : StatOnly fs s t)
include h

theorem StatOnly.trans (k : StatOnly fs t u) : StatOnly fs s u where
  fields := fun i w ha => (k.fields i w ha).trans (h.fields i w ha)
  regs := h.regs.trans k.regs
  pending := fun n hn hp => k.pending n hn (h.pending n hn hp)
  frame := h.frame.trans k.frame

theorem StatOnly.mono {gs : List Fld} (hsub : fs ⊆ gs) : StatOnly gs s t :=
  ⟨fun i w ha => h.fields i w fun f hf => ha f (hsub hf), h.regs, h.pending, h.frame⟩

theorem StatOnly.ite {p : Prop} [Decidable p] (k : StatOnly fs s u) : StatOnly fs s (if p then t else u) := by
  split
  · exact h
  · exact k

theorem StatOnly.put (f : Fld) (x : Nat) (hf : f ∈ fs) (ho : f.off = R.PWR_STAT) : StatOnly fs s (t.put f x) :=
  h.trans {
    fields := fun i w ha => t.get_put_apart f _ x (.inr (ha f hf))
    regs := (SameRegsBut.refl _ t).put f x (ho ▸ List.mem_cons_self ..)
    pending := fun n _ hp =>
      (t.on_put_apart f _ x (.inl (evcPend_ne_of_lt f.off n (ho ▸ by decide)).symm)).trans hp
    frame := (EventFrame.refl t).put f x }

theorem StatOnly.count (k n : Nat) (hk : k < 7) : StatOnly fs s (t.count (R.PWR_CNT k) n) := by
  have hsat := satOf_pwrCnt k hk
  have hrd : ∀ o, o ≠ R.PWR_SAT → (t.count (R.PWR_CNT k) n).rd o = t.rd o := fun o ho =>
    t.rd_count _ n o fun f hf => by
      cases hsat.symm.trans hf
      exact ho
  refine h.trans ⟨fun i w _ => ?_, fun o ho => hrd o fun e => ho (by simp [e]), fun m _ hp => ?_, t.count_eventFrame _ n⟩
  · rw [State.get, hrd R.PWR_STAT (by decide), State.get]
  · rw [State.isPending, State.on, State.get, hrd _ (evcPend_ne_of_lt R.PWR_SAT m (by decide)).symm]
    exact hp

theorem StatOnly.raise (n : Nat) (hn : n < 256) : StatOnly fs s (t.raise n) :=
  h.trans {
    fields := fun i w _ => t.get_raise n ⟨R.PWR_STAT, i, w⟩ (evcPend_ne_of_lt R.PWR_STAT n (by decide))
      (show R.PWR_STAT ≠ R.EVC_SAT by decide)
    regs := (SameRegsBut.refl _ t).raise n hn fun o ho => by simp [ho]
    pending := fun m hm hp => t.isPending_raise m n hm hp
    frame := ((EvcOnly.refl t).raise n).frame }

theorem StatOnly.on (i : Nat) (ha : ∀ f ∈ fs, f.lo + f.width ≤ i ∨ i + 1 ≤ f.lo) :
    t.on ⟨R.PWR_STAT, i, 1⟩ = s.on ⟨R.PWR_STAT, i, 1⟩ := by
  rw [State.on, h.fields i 1 ha, State.on]

/-- A field of another register of CPM. -/
theorem StatOnly.get (f : Fld) (hlt : f.off < R.EVC_PEND 0) (hstat : f.off ≠ R.PWR_STAT) (hsat : f.off ≠ R.PWR_SAT) :
    t.get f = s.get f := by
  have hrd := h.regs f.off (by simp [hstat, hsat, not_mem_eventRegs_of_lt _ hlt])
  rw [State.get, hrd, State.get]

end

/-! ### The end of a Boost (R562, R563) -/

/-- What the sensors and the reports of temperature say is the same. -/
structure CpmSt.SameSensors (c d : CpmSt) : Prop where
  tjMax : d.tjMax = c.tjMax
  tjPred : d.tjPred = c.tjPred
  predValid : d.predValid = c.predValid
  crit : d.crit = c.crit

theorem CpmSt.SameSensors.refl (c : CpmSt) : c.SameSensors c := ⟨rfl, rfl, rfl, rfl⟩

theorem CpmSt.closeBoost_boostFrom (c : CpmSt) (now : Nat) : (c.closeBoost now).boostFrom = none := by
  unfold CpmSt.closeBoost
  split
  · assumption
  · rfl

theorem CpmSt.closeBoost_vcore (c : CpmSt) (now : Nat) (h : c.boostFrom.isSome = true) :
    (c.closeBoost now).vcore = c.govMv := by
  obtain ⟨t, ht⟩ := Option.isSome_iff_exists.1 h
  simp only [CpmSt.closeBoost, ht]

theorem CpmSt.sameSensors_closeBoost (c : CpmSt) (now at' : Nat) : c.SameSensors { c.closeBoost now with exitAt := at' } := by
  unfold CpmSt.closeBoost
  split <;> exact ⟨rfl, rfl, rfl, rfl⟩

/-- The fields of PWR_STAT that the end of a Boost touches. -/
def exitFields : List Fld := [F.PWR_STAT_GOV_RUN, F.PWR_STAT_BOOST, F.PWR_STAT_RAMP, F.PWR_STAT_EXIT_CAUSE]

/-- The interval of the Boost that runs is closed, and the time of the exit is noted. -/
def State.boostClosed (s : State) : State := { s with cpm := { s.cpm.closeBoost s.time with exitAt := s.time } }

/-- Boost has ended; the governor goes on unless AVSBus has failed. -/
def State.boostLeft (s : State) : State :=
  ((s.boostClosed.clr F.PWR_STAT_BOOST).clr F.PWR_STAT_RAMP).putB F.PWR_STAT_GOV_RUN (!s.on F.PWR_STAT_AVS_FAIL)

/-- What an ended Boost shows: no Boost and no ramp, the cause, the governor's voltage, and event source 216. -/
structure BoostEnded (cause mv : Nat) (t : State) : Prop where
  boosting : t.boosting = false
  cause : t.get F.PWR_STAT_EXIT_CAUSE = cause
  boost : t.on F.PWR_STAT_BOOST = false
  ramp : t.on F.PWR_STAT_RAMP = false
  vcore : t.cpm.vcore = mv
  event : t.isPending 216 = true

section
variable (s : State) (cause : Nat)

theorem State.boostLeft_only : StatOnly exitFields s.boostClosed s.boostLeft :=
  (((StatOnly.refl _ _).put F.PWR_STAT_BOOST 0 (by decide) rfl).put F.PWR_STAT_RAMP 0 (by decide) rfl).put
    F.PWR_STAT_GOV_RUN _ (by decide) rfl

theorem State.boostLeft_boost : s.boostLeft.on F.PWR_STAT_BOOST = false := by
  have hleft : StatOnly [F.PWR_STAT_RAMP, F.PWR_STAT_GOV_RUN] (s.boostClosed.clr F.PWR_STAT_BOOST) s.boostLeft :=
    ((StatOnly.refl _ _).put F.PWR_STAT_RAMP 0 (by decide) rfl).put F.PWR_STAT_GOV_RUN _ (by decide) rfl
  rw [hleft.on 1 (by decide), State.on_clr_self _ _ (by decide)]

theorem State.boostLeft_ramp : s.boostLeft.on F.PWR_STAT_RAMP = false := by
  have hleft : StatOnly [F.PWR_STAT_GOV_RUN] ((s.boostClosed.clr F.PWR_STAT_BOOST).clr F.PWR_STAT_RAMP) s.boostLeft :=
    (StatOnly.refl _ _).put F.PWR_STAT_GOV_RUN _ (by decide) rfl
  rw [hleft.on 2 (by decide), State.on_clr_self _ _ (by decide)]

theorem State.boostExit_running (h : s.boosting = true) : ∃ ms,
    s.boostExit cause = ((s.boostLeft.put F.PWR_STAT_EXIT_CAUSE cause).count (R.PWR_CNT 1) ms).raise 216 := by
  obtain ⟨t, ht⟩ := Option.isSome_iff_exists.1 h
  simp only [State.boostExit, ht]
  exact ⟨_, rfl⟩

/-- Outside Boost a cause is at most recorded. -/
theorem State.boostExit_idle (h : s.boosting = false) :
    s.boostExit cause = s ∨ s.boostExit cause = s.put F.PWR_STAT_EXIT_CAUSE cause := by
  have hnone : s.cpm.boostFrom = none := Option.isNone_iff_eq_none.1 (Option.isSome_eq_false_iff.1 h)
  simp only [State.boostExit, hnone]
  split
  · exact .inr rfl
  · exact .inl rfl

/-- What follows the record of the cause touches no field of PWR_STAT. -/
theorem State.boostExit_after_cause (h : s.boosting = true) :
    StatOnly [] (s.boostLeft.put F.PWR_STAT_EXIT_CAUSE cause) (s.boostExit cause) := by
  obtain ⟨ms, hexit⟩ := s.boostExit_running cause h
  rw [hexit]
  exact ((StatOnly.refl _ _).count 1 ms (by decide)).raise 216 (by decide)

theorem State.boostExit_after_left (h : s.boosting = true) :
    StatOnly [F.PWR_STAT_EXIT_CAUSE] s.boostLeft (s.boostExit cause) :=
  ((StatOnly.refl _ _).put F.PWR_STAT_EXIT_CAUSE cause (by decide) rfl).trans
    ((s.boostExit_after_cause cause h).mono (List.nil_subset _))

theorem State.boostExit_ended (h : s.boosting = true) (hc : cause < 8) : BoostEnded cause s.cpm.govMv (s.boostExit cause) := by
  have hleft := s.boostExit_after_left cause h
  constructor
  case boosting => rw [State.boosting, hleft.frame.cpm]; exact congrArg Option.isSome (s.cpm.closeBoost_boostFrom s.time)
  case cause =>
    rw [(s.boostExit_after_cause cause h).fields 8 3 (by simp), State.get_put_self _ _ _ (by decide)]
    exact Nat.mod_eq_of_lt hc
  case boost => rw [hleft.on 1 (by decide), s.boostLeft_boost]
  case ramp => rw [hleft.on 2 (by decide), s.boostLeft_ramp]
  case vcore => rw [hleft.frame.cpm]; exact s.cpm.closeBoost_vcore s.time h
  case event =>
    obtain ⟨ms, hexit⟩ := s.boostExit_running cause h
    rw [hexit]
    exact State.raise_pend _ 216 (by decide)

/-- Whether or not a Boost ran, the sensors of CPM and the other fields of PWR_STAT are as before. -/
theorem State.boostExit_only : ∃ c, s.cpm.SameSensors c ∧ StatOnly exitFields { s with cpm := c } (s.boostExit cause) := by
  have hcause : StatOnly exitFields s (s.put F.PWR_STAT_EXIT_CAUSE cause) := (StatOnly.refl _ s).put _ cause (by decide) rfl
  cases h : s.boosting with
  | true =>
    exact ⟨_, s.cpm.sameSensors_closeBoost s.time s.time,
      s.boostLeft_only.trans ((s.boostExit_after_left cause h).mono (by decide))⟩
  | false =>
    refine ⟨s.cpm, .refl _, ?_⟩
    obtain e | e := s.boostExit_idle cause h <;> rw [e]
    · exact .refl _ s
    · exact hcause

/-- The end of a Boost starts no governor while AVSBus has failed (R559). -/
theorem State.boostExit_govRun (hfail : s.on F.PWR_STAT_AVS_FAIL = true) (hgov : s.on F.PWR_STAT_GOV_RUN = false) :
    (s.boostExit cause).on F.PWR_STAT_GOV_RUN = false := by
  have hput : (s.put F.PWR_STAT_EXIT_CAUSE cause).on F.PWR_STAT_GOV_RUN = false :=
    (s.on_put_apart _ _ cause (.inr (by decide))).trans hgov
  cases h : s.boosting with
  | true =>
    rw [(s.boostExit_after_left cause h).on 0 (by decide), State.boostLeft, hfail]
    exact State.on_clr_self _ F.PWR_STAT_GOV_RUN (by decide)
  | false => obtain e | e := s.boostExit_idle cause h <;> rw [e] <;> assumption

end

section
variable {cause mv : Nat} {fs : List Fld} {s t : State} (h : BoostEnded cause mv s)
include h

/-- An ended Boost is not undone by what leaves its fields of PWR_STAT and CPM's state alone. -/
theorem BoostEnded.after (k : StatOnly fs s t) (hfs : ∀ f ∈ fs, 3 ≤ f.lo ∧ f.lo + f.width ≤ 8) : BoostEnded cause mv t where
  boosting := (congrArg (·.boostFrom.isSome) k.frame.cpm).trans h.boosting
  cause := (k.fields 8 3 fun f hf => .inl (hfs f hf).2).trans h.cause
  boost := (k.on 1 fun f hf => .inr (by have := (hfs f hf).1; omega)).trans h.boost
  ramp := (k.on 2 fun f hf => .inr (hfs f hf).1).trans h.ramp
  vcore := (congrArg CpmSt.vcore k.frame.cpm).trans h.vcore
  event := k.pending 216 (by decide) h.event

end

end Sys2Proof.Machine
end

section
/-! PROOF. The start of a Boost (R561), the steps of the Pace governor (R556, R557), PACE_LOW (R558) and the failure of AVSBus
(R559). -/

namespace Sys2Proof.Machine

theorem State.on_putB_self (s : State) (f : Fld) (b : Bool) (h : f.lo + f.width ≤ 32) (hw : f.width = 1) :
    (s.putB f b).on f = b := by
  cases b
  · exact s.on_clr_self f h
  · exact s.on_set_self f h hw

/-! ### BOOST_REQ and BOOST_END (R561, R563) -/

theorem exec_boostReq_permitted (s : State) (r : Req) (h : s.mayWrite r R.PWR_CTL) :
    exec (.boostReq r 0) s = .next s.boostReq :=
  congrArg Host.Outcome.next (s.gateW_granted r R.PWR_CTL _ h)

theorem exec_boostEnd_permitted (s : State) (r : Req) (h : s.mayWrite r R.PWR_CTL) :
    exec (.boostEnd r 0) s = .next (s.boostExit 1) :=
  congrArg Host.Outcome.next (s.gateW_granted r R.PWR_CTL _ h)

theorem State.boostOk_iff (s : State) :
    (s.on F.PWR_CFG_BOOST_EN = true ∧ s.cpm.paceValid = true ∧ s.cpm.predValid = true ∧ s.on F.PWR_STAT_TLIMIT = false ∧
      s.on F.PWR_STAT_AVS_FAIL = false ∧ s.on F.PWR_STAT_PACE_LOW = false ∧ s.on F.PWR_STAT_VIGIL = false ∧
      s.on F.PWR_STAT_VIGIL_TRANS = false ∧ s.get F.PWR_CFG_BOOST_MIN_S * 1000 ≤ s.boostCredit) ↔ s.boostOk = true := by
  simp [State.boostOk, State.vigilAny, and_assoc]

/-- Below TJ_BOOST the thermal rule ends nothing (R560). -/
theorem State.boostThermal_cool (s : State) (h : s.tjEffective < s.get F.PWR_THERM_TJ_BOOST) : s.boostThermal = s :=
  if_neg (by simp [h])

theorem State.boostThermal_hot (s : State) (hb : s.boosting = true) (h : (s.get F.PWR_THERM_TJ_BOOST : Int) ≤ s.tjEffective) :
    s.boostThermal = s.boostExit 3 := if_pos (by simp [hb, h])

/-- Boost starts: the ramp to 0.90 V begins, the governor stops, and the entry is counted. -/
def State.boostStarted (s : State) : State :=
  ((({ s with cpm := { s.cpm with boostFrom := some s.time, vcore := 900 } } : State).set F.PWR_STAT_RAMP).clr
    F.PWR_STAT_GOV_RUN).inc (R.PWR_CNT 0)

section
variable (s : State)

theorem State.boostStarted_only : StatOnly [F.PWR_STAT_RAMP, F.PWR_STAT_GOV_RUN]
    { s with cpm := { s.cpm with boostFrom := some s.time, vcore := 900 } } s.boostStarted :=
  (((StatOnly.refl _ _).put F.PWR_STAT_RAMP 1 (by decide) rfl).put F.PWR_STAT_GOV_RUN 0 (by decide) rfl).count 0 1 (by decide)

theorem State.boostStarted_bits : s.boostStarted.on F.PWR_STAT_RAMP = true ∧ s.boostStarted.on F.PWR_STAT_GOV_RUN = false := by
  have hcount : ∀ x : State, StatOnly [] x (x.inc (R.PWR_CNT 0)) := fun x => (StatOnly.refl _ x).count 0 1 (by decide)
  rw [State.boostStarted, (hcount _).on 2 (by simp), (hcount _).on 0 (by simp)]
  simp [State.on_set_bit, State.on_clr_bit]

variable (hb : s.boosting = false)
include hb

theorem State.boostReq_accepted (hok : s.boostOk = true) (htj : s.tjEffective < s.get F.PWR_THERM_TJ_BOOST) :
    s.boostReq = s.boostStarted := by
  have honly := s.boostStarted_only
  have htj' : s.boostStarted.tjEffective = s.tjEffective := by
    simp only [State.tjEffective, honly.frame.cpm]
  have hlim : s.boostStarted.get F.PWR_THERM_TJ_BOOST = s.get F.PWR_THERM_TJ_BOOST :=
    honly.get F.PWR_THERM_TJ_BOOST (by decide) (by decide) (by decide)
  rw [← s.boostStarted.boostThermal_cool (by rwa [htj', hlim])]
  simp only [State.boostReq, hb, hok]
  rfl

theorem State.boostReq_rejected (hok : s.boostOk = false) :
    s.boostReq = (s.set F.PWR_STAT_BOOST_REJECT).inc (R.PWR_CNT 2) := by
  simp only [State.boostReq, hb, hok]
  rfl

variable (r : Req) (hm : s.mayWrite r R.PWR_CTL)
include hm

theorem boostReq_starts (hok : s.boostOk = true) (htj : s.tjEffective < s.get F.PWR_THERM_TJ_BOOST) :
    ∃ t, exec (.boostReq r 0) s = .next t ∧ t.boosting = true ∧
      t.cpm = { s.cpm with boostFrom := some s.time, vcore := 900 } ∧ t.on F.PWR_STAT_RAMP = true ∧
      t.on F.PWR_STAT_GOV_RUN = false ∧ t.cntGet (R.PWR_CNT 0) = s.plus (R.PWR_CNT 0) 1 ∧
      SameRegsBut [R.PWR_STAT, R.PWR_SAT] s t ∧ SameMemory s t := by
  have hexec := exec_boostReq_permitted s r hm
  have hmem := (State.boostReq_keeps (Keeps.refl true s)).sameMemory
  rw [s.boostReq_accepted hb hok htj] at hexec hmem
  have hcpm := s.boostStarted_only.frame.cpm
  obtain ⟨hramp, hgov⟩ := s.boostStarted_bits
  have hbase : SameRegsBut [R.PWR_STAT, R.PWR_SAT] s
      { s with cpm := { s.cpm with boostFrom := some s.time, vcore := 900 } } := fun _ _ => rfl
  have hregs : SameRegsBut [R.PWR_STAT, R.PWR_SAT] s s.boostStarted :=
    ((hbase.put F.PWR_STAT_RAMP 1 (by decide)).put F.PWR_STAT_GOV_RUN 0 (by decide)).inc _ _
      (satOf_pwrCnt 0 (by decide)) (by decide)
  exact ⟨_, hexec, congrArg (·.boostFrom.isSome) hcpm, hcpm, hramp, hgov, State.cntGet_inc _ _, hregs, hmem⟩

theorem boostReq_rejects (hok : s.boostOk = false) :
    ∃ t, exec (.boostReq r 0) s = .next t ∧ t.on F.PWR_STAT_BOOST_REJECT = true ∧
      t.cntGet (R.PWR_CNT 2) = s.plus (R.PWR_CNT 2) 1 ∧ SameRegsBut [R.PWR_STAT, R.PWR_SAT] s t ∧
      t = { s with regs := t.regs, cnt := t.cnt } := by
  have hexec := exec_boostReq_permitted s r hm
  rw [s.boostReq_rejected hb hok] at hexec
  have hcount : StatOnly [] (s.set F.PWR_STAT_BOOST_REJECT) ((s.set F.PWR_STAT_BOOST_REJECT).inc (R.PWR_CNT 2)) :=
    (StatOnly.refl _ _).count 2 1 (by decide)
  refine ⟨_, hexec, ?_, State.cntGet_inc _ _, ?_, ?_⟩
  · rw [hcount.on 16 (by simp), State.on_set_self _ _ (by decide) rfl]
  · exact ((SameRegsBut.refl _ s).put F.PWR_STAT_BOOST_REJECT 1 (by decide)).inc _ _ (satOf_pwrCnt 2 (by decide)) (by decide)
  · exact (s.set F.PWR_STAT_BOOST_REJECT).count_frame (R.PWR_CNT 2) 1

end

/-! ### The end of the ramp (R561) -/

theorem boostRampDone_ends (s : State) (hb : s.boosting = true) (hramp : s.on F.PWR_STAT_RAMP = true) :
    ∃ t, exec .boostRampDone s = .next t ∧ t.on F.PWR_STAT_BOOST = true ∧ t.on F.PWR_STAT_RAMP = false ∧
      t.isPending 216 = true ∧ t.cpm = s.cpm ∧ SameRegsBut (R.PWR_STAT :: eventRegs) s t := by
  have hexec : exec .boostRampDone s = .next (((s.set F.PWR_STAT_BOOST).clr F.PWR_STAT_RAMP).raise 216) :=
    congrArg Host.Outcome.next (if_pos (by rw [hb, hramp]; rfl))
  have hraise : StatOnly [] ((s.set F.PWR_STAT_BOOST).clr F.PWR_STAT_RAMP)
      (((s.set F.PWR_STAT_BOOST).clr F.PWR_STAT_RAMP).raise 216) := (StatOnly.refl _ _).raise 216 (by decide)
  have hregs : SameRegsBut (R.PWR_STAT :: eventRegs) s (((s.set F.PWR_STAT_BOOST).clr F.PWR_STAT_RAMP).raise 216) :=
    (((SameRegsBut.refl _ s).put F.PWR_STAT_BOOST 1 (by simp)).put F.PWR_STAT_RAMP 0 (by simp)).raise 216 (by decide)
      fun _ => List.mem_cons_of_mem _
  refine ⟨_, hexec, ?_, ?_, State.raise_pend _ 216 (by decide), hraise.frame.cpm, hregs⟩
  · rw [hraise.on 1 (by simp)]
    simp [State.on_set_bit, State.on_clr_bit]
  · rw [hraise.on 2 (by simp), State.on_clr_self _ _ (by decide)]

/-! ### The governor (R556, R557) -/

/-- The governor has read the monitors; an index of 256 or more ends PACE_LOW. -/
def State.paceSampled (s : State) (idx mon : Nat) : State :=
  if 256 ≤ idx then ({ s with cpm := { s.cpm with pace := idx, paceMon := mon } } : State).clr F.PWR_STAT_PACE_LOW
  else { s with cpm := { s.cpm with pace := idx, paceMon := mon } }

/-- The voltage after a step of `d` mV toward the target (R557). -/
def steered (target idx v d : Nat) : Nat :=
  if idx < target then min 850 (v + d) else if target < idx then max 700 (v - d) else v

theorem steered_in_range (target idx v d : Nat) (hlo : 700 ≤ v) (hhi : v ≤ 850) :
    700 ≤ steered target idx v d ∧ steered target idx v d ≤ 850 := by
  unfold steered
  split_ifs <;> omega

theorem steered_up (target idx v d : Nat) (hhi : v ≤ 850) (h : idx < target) :
    v ≤ steered target idx v d ∧ steered target idx v d ≤ v + d := by
  rw [steered, if_pos h]
  omega

theorem steered_down (target idx v d : Nat) (hlo : 700 ≤ v) (h : target < idx) :
    steered target idx v d ≤ v ∧ v ≤ steered target idx v d + d := by
  rw [steered, if_neg (by omega), if_pos h]
  omega

/-- The governor has set the regulator, by a step of at most 5 mV whose size is open. -/
def State.governed (s : State) (idx : Nat) : State :=
  { s with
    free := s.free + 2
    cpm := { s.cpm with
      vcore := steered s.paceTarget idx s.cpm.govMv (Config.freeValue s.free % 6)
      govMv := steered s.paceTarget idx s.cpm.govMv (Config.freeValue s.free % 6)
      avsMv := steered s.paceTarget idx s.cpm.govMv (Config.freeValue s.free % 6)
      amps := Config.freeValue (s.free + 1) } }

section
variable (s : State) (idx mon : Nat)

theorem State.paceSampled_only : StatOnly [F.PWR_STAT_PACE_LOW]
    { s with cpm := { s.cpm with pace := idx, paceMon := mon } } (s.paceSampled idx mon) :=
  StatOnly.ite ((StatOnly.refl _ _).put F.PWR_STAT_PACE_LOW 0 (by decide) rfl) (.refl _ _)

theorem State.sameRegsBut_paceSampled : SameRegsBut [R.PWR_STAT] s (s.paceSampled idx mon) := by
  unfold State.paceSampled
  split
  · exact (SameRegsBut.refl _ s).put F.PWR_STAT_PACE_LOW 0 (by decide)
  · exact .refl _ s

theorem State.paceTarget_paceSampled : (s.paceSampled idx mon).paceTarget = s.paceTarget := by
  have honly := s.paceSampled_only idx mon
  rw [State.paceTarget, honly.on 5 (by decide), honly.get F.PWR_PACE_TGT_TARGET (by decide) (by decide) (by decide)]
  rfl

theorem State.paceSampled_cpm : (s.paceSampled idx mon).cpm = { s.cpm with pace := idx, paceMon := mon } :=
  (s.paceSampled_only idx mon).frame.cpm

theorem State.governed_paceSampled : ∃ d ≤ 5,
    ((s.paceSampled idx mon).governed idx).cpm.govMv = steered s.paceTarget idx s.cpm.govMv d := by
  refine ⟨Config.freeValue (s.paceSampled idx mon).free % 6, Nat.le_of_lt_succ (Nat.mod_lt _ (by decide)), ?_⟩
  have hmv : (s.paceSampled idx mon).cpm.govMv = s.cpm.govMv := (congrArg CpmSt.govMv (s.paceSampled_cpm idx mon) :)
  rw [← s.paceTarget_paceSampled idx mon, ← hmv]
  rfl

variable (hcore : s.power.coreUp = true) (hcpm : s.cpmUp = true) (hv : s.inVigil = false)
include hcore hcpm hv

theorem State.paceReady_first (hval : s.cpm.paceValid = false) : s.paceReady idx mon =
    ({ s with cpm := { s.cpm with paceValid := true, pace := idx, paceMon := mon } } : State).putB F.PWR_STAT_GOV_RUN
      (!s.on F.PWR_STAT_AVS_FAIL && !s.boosting) := by
  simp only [State.paceReady, hcore, hcpm, hv, hval]
  rfl

variable (hval : s.cpm.paceValid = true)
include hval

/-- In Boost and while AVS_FAIL the governor only reads the monitors. -/
theorem State.governorStep_running : s.governorStep idx mon =
    if (s.boosting || s.on F.PWR_STAT_AVS_FAIL) = true then s.paceSampled idx mon else (s.paceSampled idx mon).governed idx := by
  have honly := s.paceSampled_only idx mon
  have hheld : ((s.paceSampled idx mon).boosting || (s.paceSampled idx mon).on F.PWR_STAT_AVS_FAIL) =
      (s.boosting || s.on F.PWR_STAT_AVS_FAIL) := by
    rw [State.boosting, honly.frame.cpm, honly.on 7 (by decide)]
    rfl
  rw [← hheld]
  exact if_neg (by simp [hcore, hcpm, hval, hv])

end

/-! ### The clauses of the governor -/

section
variable (s : State) (idx : BitVec 10) (mon : Fin 32) (hcore : s.power.coreUp = true) (hcpm : s.cpmUp = true)
  (hv : s.inVigil = false)
include hcore hcpm hv

theorem paceValid_releases (hval : s.cpm.paceValid = false) : ∃ t, exec (.paceValid idx mon) s = .next t ∧
    t.cpm = { s.cpm with paceValid := true, pace := idx.toNat, paceMon := mon } ∧
    t.on F.PWR_STAT_GOV_RUN = (!s.on F.PWR_STAT_AVS_FAIL && !s.boosting) ∧ SameRegsBut [R.PWR_STAT] s t ∧ SameMemory s t := by
  have hexec : exec (.paceValid idx mon) s = .next (s.paceReady idx.toNat mon) := rfl
  have hmem := (State.paceReady_keeps idx.toNat mon (Keeps.refl true s)).sameMemory
  rw [s.paceReady_first idx.toNat mon hcore hcpm hv hval] at hexec hmem
  have hbase : SameRegsBut [R.PWR_STAT] s
    { s with cpm := { s.cpm with paceValid := true, pace := idx.toNat, paceMon := mon } } := fun _ _ => rfl
  exact ⟨_, hexec, State.putB_cpm .., State.on_putB_self _ _ _ (by decide) rfl,
    hbase.put F.PWR_STAT_GOV_RUN _ (by decide), hmem⟩

theorem governorStep_steps (hval : s.cpm.paceValid = true) : ∃ t, exec (.governorStep idx mon) s = .next t ∧
    t.cpm.pace = idx.toNat ∧ SameRegsBut [R.PWR_STAT] s t ∧ SameMemory s t ∧
    (s.boosting = true ∨ s.on F.PWR_STAT_AVS_FAIL = true → t.cpm.vcore = s.cpm.vcore) ∧
    (s.boosting = false → s.on F.PWR_STAT_AVS_FAIL = false → 700 ≤ s.cpm.govMv → s.cpm.govMv ≤ 850 →
      t.cpm.vcore = t.cpm.govMv ∧ 700 ≤ t.cpm.govMv ∧ t.cpm.govMv ≤ 850 ∧
      (idx.toNat < s.paceTarget → s.cpm.govMv ≤ t.cpm.govMv ∧ t.cpm.govMv ≤ s.cpm.govMv + 5) ∧
      (s.paceTarget < idx.toNat → t.cpm.govMv ≤ s.cpm.govMv ∧ s.cpm.govMv ≤ t.cpm.govMv + 5)) := by
  have hexec : exec (.governorStep idx mon) s = .next (s.governorStep idx.toNat mon) := rfl
  have hmem := (State.governorStep_keeps idx.toNat mon (Keeps.refl true s)).sameMemory
  rw [s.governorStep_running idx.toNat mon hcore hcpm hv hval] at hexec hmem
  have hsampled := s.paceSampled_cpm idx.toNat mon
  have hregs := s.sameRegsBut_paceSampled idx.toNat mon
  have hpace : (s.paceSampled idx.toNat mon).cpm.pace = idx.toNat := (congrArg CpmSt.pace hsampled :)
  split at hexec
  · next hheld =>
    rw [if_pos hheld] at hmem
    refine ⟨_, hexec, hpace, hregs, hmem, fun _ => (congrArg CpmSt.vcore hsampled :), fun hb hf => ?_⟩
    simp [hb, hf] at hheld
  · next hfree =>
    rw [if_neg hfree] at hmem
    refine ⟨_, hexec, hpace, hregs, hmem, fun h => absurd (Bool.or_eq_true_iff.2 h) hfree, fun _ _ hlo hhi => ⟨rfl, ?_⟩⟩
    obtain ⟨d, hd, hmv⟩ := s.governed_paceSampled idx.toNat mon
    rw [hmv]
    obtain ⟨hmin, hmax⟩ := steered_in_range s.paceTarget idx.toNat s.cpm.govMv d hlo hhi
    refine ⟨hmin, hmax, fun h => ?_, fun h => ?_⟩
    · have hup := steered_up s.paceTarget idx.toNat s.cpm.govMv d hhi h
      omega
    · have hdown := steered_down s.paceTarget idx.toNat s.cpm.govMv d hlo h
      omega

end

/-! ### PACE_LOW (R558) -/

theorem paceLow_sets (s : State) (hcpm : s.cpmUp = true) (hval : s.cpm.paceValid = true) (hb : s.boosting = false)
    (hv : s.vigilAny = false) (hvcore : s.cpm.vcore = 850) (hpace : s.cpm.pace < 256) (hlow : s.on F.PWR_STAT_PACE_LOW = false) :
    ∃ t, exec .paceLow s = .next t ∧ t.on F.PWR_STAT_PACE_LOW = true ∧ t.isPending 218 = true ∧
      SameRegsBut (R.PWR_STAT :: eventRegs) s t ∧ SameMemory s t := by
  have hexec : exec .paceLow s = .next (((s.set F.PWR_STAT_PACE_LOW).raise 218).boostExit 5) :=
    congrArg Host.Outcome.next (if_neg (by simp [hcpm, hval, hb, hv, hvcore, hpace, hlow]))
  have hraise : StatOnly [] (s.set F.PWR_STAT_PACE_LOW) ((s.set F.PWR_STAT_PACE_LOW).raise 218) :=
    (StatOnly.refl _ _).raise 218 (by decide)
  have hregs : SameRegsBut (R.PWR_STAT :: eventRegs) s ((s.set F.PWR_STAT_PACE_LOW).raise 218) :=
    ((SameRegsBut.refl _ s).put F.PWR_STAT_PACE_LOW 1 (by simp)).raise 218 (by decide) fun _ => List.mem_cons_of_mem _
  have hidle : ((s.set F.PWR_STAT_PACE_LOW).raise 218).boosting = false := by
    rw [State.boosting, hraise.frame.cpm]
    exact hb
  obtain ⟨c, -, hexit⟩ := ((s.set F.PWR_STAT_PACE_LOW).raise 218).boostExit_only 5
  refine ⟨_, hexec, ?_, hexit.pending 218 (by decide) (State.raise_pend _ 218 (by decide)), ?_,
    (execPaceLow_keeps hexec).sameMemory⟩
  · rw [hexit.on 6 (by decide)]
    exact (hraise.on 6 (by simp)).trans (State.on_set_self s _ (by decide) rfl)
  · obtain e | e := ((s.set F.PWR_STAT_PACE_LOW).raise 218).boostExit_idle 5 hidle <;> rw [e]
    · exact hregs
    · exact hregs.put F.PWR_STAT_EXIT_CAUSE 5 (by simp)

/-! ### AVS_FAIL (R559) -/

/-- AVS_FAIL is set, the governor has stopped, and KIND 0x14 is reported, counted and raised. -/
def State.avsFailed (s : State) : State :=
  ((((s.set F.PWR_STAT_AVS_FAIL).clr F.PWR_STAT_GOV_RUN).report srcCpm 0x14 0 0).inc (R.PWR_CNT 6)).raise 221

section
variable (s : State)

/-- The count and the event touch no field of PWR_STAT. -/
theorem State.avsFailed_only :
    StatOnly [] (((s.set F.PWR_STAT_AVS_FAIL).clr F.PWR_STAT_GOV_RUN).report srcCpm 0x14 0 0) s.avsFailed :=
  ((StatOnly.refl _ _).count 6 1 (by decide)).raise 221 (by decide)

theorem State.avsFailed_bits : s.avsFailed.on F.PWR_STAT_AVS_FAIL = true ∧ s.avsFailed.on F.PWR_STAT_GOV_RUN = false := by
  have hreport : ∀ (x : State) (i : Nat), (x.report srcCpm 0x14 0 0).on ⟨R.PWR_STAT, i, 1⟩ = x.on ⟨R.PWR_STAT, i, 1⟩ :=
    fun _ _ => rfl
  rw [s.avsFailed_only.on 7 (by simp), s.avsFailed_only.on 0 (by simp), hreport, hreport]
  simp [State.on_set_bit, State.on_clr_bit]

theorem exec_avsFail (hcpm : s.cpmUp = true) (hf : s.on F.PWR_STAT_AVS_FAIL = false) :
    exec .avsFail s = .next (s.avsFailed.boostExit 5) :=
  congrArg Host.Outcome.next (if_neg (by simp [hcpm, hf]))

theorem avsFail_stops (hcpm : s.cpmUp = true) (hf : s.on F.PWR_STAT_AVS_FAIL = false) :
    ∃ t, exec .avsFail s = .next t ∧ t.on F.PWR_STAT_AVS_FAIL = true ∧ t.on F.PWR_STAT_GOV_RUN = false ∧
      Reports 0x101 0x14 0 0 s t ∧ t.isPending 221 = true ∧ SameMemory s t := by
  have hexec := exec_avsFail s hcpm hf
  obtain ⟨hfail, hgov⟩ := s.avsFailed_bits
  obtain ⟨c, -, hexit⟩ := s.avsFailed.boostExit_only 5
  refine ⟨_, hexec, ?_, s.avsFailed.boostExit_govRun 5 hfail hgov, ?_,
    hexit.pending 221 (by decide) (State.raise_pend _ 221 (by decide)), (execAvsFail_keeps hexec).sameMemory⟩
  · exact (hexit.on 7 (by decide)).trans hfail
  · have hfcr : (s.avsFailed.boostExit 5).fcr = s.avsFailed.fcr := hexit.frame.fcr
    rw [Reports, hfcr, s.avsFailed_only.frame.fcr]
    exact State.transit_report _ srcCpm 0x14 0 0

theorem avsRecover_resumes (hcpm : s.cpmUp = true) (hf : s.on F.PWR_STAT_AVS_FAIL = true) :
    ∃ t, exec .avsRecover s = .next t ∧ t.on F.PWR_STAT_AVS_FAIL = false ∧
      t.on F.PWR_STAT_GOV_RUN = (s.cpm.paceValid && !s.boosting && !s.inVigil) ∧ SameRegsBut [R.PWR_STAT] s t ∧ OnlyRegs s t := by
  have hclr : StatOnly [F.PWR_STAT_AVS_FAIL] s (s.clr F.PWR_STAT_AVS_FAIL) :=
    (StatOnly.refl _ s).put F.PWR_STAT_AVS_FAIL 0 (by decide) rfl
  have hvigil : (s.clr F.PWR_STAT_AVS_FAIL).inVigil = s.inVigil := by
    rw [State.inVigil, hclr.on 3 (by decide), hclr.on 4 (by decide), State.inVigil]
  have hexec : exec .avsRecover s = .next ((s.clr F.PWR_STAT_AVS_FAIL).putB F.PWR_STAT_GOV_RUN
      (s.cpm.paceValid && !s.boosting && !(s.clr F.PWR_STAT_AVS_FAIL).inVigil)) :=
    congrArg Host.Outcome.next (if_neg (by simp [hcpm, hf]))
  rw [hvigil] at hexec
  refine ⟨_, hexec, ?_, State.on_putB_self _ _ _ (by decide) rfl, ?_, rfl⟩
  · exact (State.on_put_apart _ _ _ _ (.inr (by decide))).trans (s.on_clr_self _ (by decide))
  · exact ((SameRegsBut.refl _ s).put F.PWR_STAT_AVS_FAIL 0 (by decide)).put F.PWR_STAT_GOV_RUN _ (by decide)

end

end Sys2Proof.Machine
end

section
/-! PROOF. The thermal limits (R560), and O57: the Pace governor, the thermal limits and Boost (R556 to R563). -/

namespace Sys2Proof.Machine

/-! ### The thermal rule of Boost and TLIMIT -/

section
variable (s : State)

theorem State.boostThermal_only : ∃ c, s.cpm.SameSensors c ∧ StatOnly exitFields { s with cpm := c } s.boostThermal := by
  unfold State.boostThermal
  split
  · exact s.boostExit_only 3
  · exact ⟨s.cpm, .refl _, .refl _ s⟩

/-- TLIMIT is set at TJ_LIMIT, cleared under 5 °C below it, and else stays; a change raises event source 217. -/
theorem State.tlimit_cases :
    (s.on F.PWR_STAT_TLIMIT = false ∧ (s.get F.PWR_THERM_TJ_LIMIT : Int) ≤ s.cpm.tjMax.toInt ∧
      s.tlimit = (s.set F.PWR_STAT_TLIMIT).raise 217) ∨
    (s.on F.PWR_STAT_TLIMIT = true ∧ s.cpm.tjMax.toInt < (s.get F.PWR_THERM_TJ_LIMIT : Int) - 5 ∧
      s.tlimit = (s.clr F.PWR_STAT_TLIMIT).raise 217) ∨
    ((s.on F.PWR_STAT_TLIMIT = false → s.cpm.tjMax.toInt < s.get F.PWR_THERM_TJ_LIMIT) ∧
      (s.on F.PWR_STAT_TLIMIT = true → (s.get F.PWR_THERM_TJ_LIMIT : Int) - 5 ≤ s.cpm.tjMax.toInt) ∧ s.tlimit = s) := by
  unfold State.tlimit
  dsimp only
  split
  · next h => exact .inl (by simpa using h)
  · next hset =>
    split
    · next h => exact .inr (.inl (by simpa using h))
    · next hclr => exact .inr (.inr (by simpa using And.intro hset hclr))

theorem State.tlimit_only : StatOnly [F.PWR_STAT_TLIMIT] s s.tlimit := by
  obtain ⟨-, -, e⟩ | ⟨-, -, e⟩ | ⟨-, -, e⟩ := s.tlimit_cases <;> rw [e]
  · exact ((StatOnly.refl _ s).put F.PWR_STAT_TLIMIT 1 (by decide) rfl).raise 217 (by decide)
  · exact ((StatOnly.refl _ s).put F.PWR_STAT_TLIMIT 0 (by decide) rfl).raise 217 (by decide)
  · exact .refl _ s

theorem State.tlimit_on : s.tlimit.on F.PWR_STAT_TLIMIT =
    if (s.get F.PWR_THERM_TJ_LIMIT : Int) ≤ s.cpm.tjMax.toInt then true
    else if s.cpm.tjMax.toInt < (s.get F.PWR_THERM_TJ_LIMIT : Int) - 5 then false else s.on F.PWR_STAT_TLIMIT := by
  have hraise : ∀ x : State, (x.raise 217).on F.PWR_STAT_TLIMIT = x.on F.PWR_STAT_TLIMIT := fun x =>
    ((StatOnly.refl [] x).raise 217 (by decide)).on 5 (by simp)
  obtain ⟨-, hhot, e⟩ | ⟨-, hcool, e⟩ | ⟨hoff, hon, e⟩ := s.tlimit_cases <;> rw [e]
  · rw [hraise, State.on_set_self _ _ (by decide) rfl, if_pos hhot]
  · rw [hraise, State.on_clr_self _ _ (by decide), if_neg (by omega), if_pos hcool]
  · cases hlim : s.on F.PWR_STAT_TLIMIT with
    | true =>
      have hnear := hon hlim
      rw [if_neg (show ¬ s.cpm.tjMax.toInt < (s.get F.PWR_THERM_TJ_LIMIT : Int) - 5 by omega), ite_self]
    | false =>
      have hbelow := hoff hlim
      rw [if_neg (by omega), ite_self]

theorem State.tlimit_event (h : s.on F.PWR_STAT_TLIMIT ≠ s.tlimit.on F.PWR_STAT_TLIMIT) : s.tlimit.isPending 217 = true := by
  obtain ⟨-, -, e⟩ | ⟨-, -, e⟩ | ⟨-, -, e⟩ := s.tlimit_cases <;> rw [e] at h ⊢
  · exact State.raise_pend _ 217 (by decide)
  · exact State.raise_pend _ 217 (by decide)
  · exact absurd rfl h

/-! ### KIND 0x13 -/

theorem State.tjCrit_frame :
    s.tjCrit = { s with cpm := { s.cpm with crit := s.tjCrit.cpm.crit }, fcr := s.tjCrit.fcr } := by
  unfold State.tjCrit
  dsimp only
  split <;> rfl

theorem State.tjCrit_get (f : Fld) : s.tjCrit.get f = s.get f := by
  rw [s.tjCrit_frame]
  rfl

theorem State.tjCrit_on (f : Fld) : s.tjCrit.on f = s.on f := by
  rw [State.on, s.tjCrit_get, State.on]

theorem critOf_hot (old : Nat) (hi lo t : Int) (h : hi ≤ t) : critOf old hi lo t = 1 := if_pos (.inl h)

variable (hhot : (s.get F.PWR_THERM_TJ_CRIT : Int) ≤ s.cpm.tjMax.toInt)
include hhot

/-- The crossing of TJ_CRIT is reported, and only the crossing. -/
theorem State.tjCrit_reports (h : s.cpm.crit ≠ 1) : Reports 0x101 0x13 0 0 s s.tjCrit := by
  simp only [State.tjCrit, critOf_hot _ _ _ _ hhot]
  rw [if_pos ⟨by decide, h.symm⟩]
  rfl

theorem State.tjCrit_silent (h : s.cpm.crit = 1) : s.tjCrit.fcr.transit = s.fcr.transit := by
  simp only [State.tjCrit, critOf_hot _ _ _ _ hhot]
  rw [if_neg fun hne => hne.2 h.symm]
  rfl

end

theorem BoostEnded.tjCrit {cause mv : Nat} {s : State} (h : BoostEnded cause mv s) : BoostEnded cause mv s.tjCrit where
  boosting := by
    rw [s.tjCrit_frame]
    exact h.boosting
  cause := (s.tjCrit_get _).trans h.cause
  boost := (s.tjCrit_on _).trans h.boost
  ramp := (s.tjCrit_on _).trans h.ramp
  vcore := by
    rw [s.tjCrit_frame]
    exact h.vcore
  event := (s.tjCrit_on _).trans h.event

/-! ### A reading of the sensors -/

/-- The state that shows a reading and its prediction. -/
def State.sensed (s : State) (tj pred : BitVec 8) (pv : Bool) : State :=
  { s with cpm := { s.cpm with tjMax := tj, tjPred := pred, predValid := pv } }

/-- The thermal rule of Boost and TLIMIT have followed a reading. -/
def State.regulated (s : State) (tj pred : BitVec 8) (pv : Bool) : State := (s.sensed tj pred pv).boostThermal.tlimit

section
variable (s : State) (tj pred : BitVec 8) (pv : Bool)

theorem State.regulated_only : ∃ c, (s.sensed tj pred pv).cpm.SameSensors c ∧
    StatOnly (F.PWR_STAT_TLIMIT :: exitFields) { s.sensed tj pred pv with cpm := c } (s.regulated tj pred pv) := by
  obtain ⟨c, hsensors, hexit⟩ := (s.sensed tj pred pv).boostThermal_only
  exact ⟨c, hsensors, (hexit.mono (by decide)).trans ((State.tlimit_only _).mono (by decide))⟩

theorem State.regulated_sensors : (s.sensed tj pred pv).cpm.SameSensors (s.regulated tj pred pv).cpm := by
  obtain ⟨c, hsensors, honly⟩ := s.regulated_only tj pred pv
  rw [honly.frame.cpm]
  exact hsensors

theorem State.regulated_fcr : (s.regulated tj pred pv).fcr = s.fcr := by
  obtain ⟨c, -, honly⟩ := s.regulated_only tj pred pv
  exact honly.frame.fcr

theorem State.regulated_tjCrit : (s.regulated tj pred pv).get F.PWR_THERM_TJ_CRIT = s.get F.PWR_THERM_TJ_CRIT := by
  obtain ⟨c, -, honly⟩ := s.regulated_only tj pred pv
  exact honly.get F.PWR_THERM_TJ_CRIT (by decide) (by decide) (by decide)

/-- The thermal rule of Boost leaves what TLIMIT follows. -/
theorem State.sensed_boostThermal :
    (s.sensed tj pred pv).boostThermal.on F.PWR_STAT_TLIMIT = s.on F.PWR_STAT_TLIMIT ∧
    (s.sensed tj pred pv).boostThermal.get F.PWR_THERM_TJ_LIMIT = s.get F.PWR_THERM_TJ_LIMIT ∧
    (s.sensed tj pred pv).boostThermal.cpm.tjMax = tj := by
  obtain ⟨c, hsensors, hexit⟩ := (s.sensed tj pred pv).boostThermal_only
  refine ⟨hexit.on 5 (by decide), hexit.get F.PWR_THERM_TJ_LIMIT (by decide) (by decide) (by decide), ?_⟩
  rw [hexit.frame.cpm]
  exact hsensors.tjMax

theorem State.regulated_tlimit : (s.regulated tj pred pv).on F.PWR_STAT_TLIMIT =
    if (s.get F.PWR_THERM_TJ_LIMIT : Int) ≤ tj.toInt then true
    else if tj.toInt < (s.get F.PWR_THERM_TJ_LIMIT : Int) - 5 then false else s.on F.PWR_STAT_TLIMIT := by
  obtain ⟨hon, hlim, hmax⟩ := s.sensed_boostThermal tj pred pv
  rw [State.regulated, State.tlimit_on, hon, hlim, hmax]

theorem State.regulated_event (h : s.on F.PWR_STAT_TLIMIT ≠ (s.regulated tj pred pv).on F.PWR_STAT_TLIMIT) :
    (s.regulated tj pred pv).isPending 217 = true := by
  obtain ⟨hon, -, -⟩ := s.sensed_boostThermal tj pred pv
  exact State.tlimit_event _ (by rwa [hon])

theorem State.regulated_tjCrit_keeps : Keeps true s (s.regulated tj pred pv).tjCrit :=
  State.tjCrit_keeps (State.tlimit_keeps (State.boostThermal_keeps (keeps_upd (Keeps.refl true s) rfl id)))

variable (hcpm : s.cpmUp = true)
include hcpm

theorem exec_tempSample_below (h : tj.toInt < 125) : exec (.tempSample tj pred pv) s = .next (s.regulated tj pred pv).tjCrit :=
  congrArg Host.Outcome.next ((if_neg (by simp [hcpm])).trans (if_neg (Int.not_le.2 h)))

theorem exec_tempSample_trips (h : 125 ≤ tj.toInt) :
    exec (.tempSample tj pred pv) s = .next (s.regulated tj pred pv).tjCrit.thermTrip :=
  congrArg Host.Outcome.next ((if_neg (by simp [hcpm])).trans (if_pos h))

theorem tempSample_limits (h : tj.toInt < 125) : ∃ t, exec (.tempSample tj pred pv) s = .next t ∧
    t.cpm.tjMax = tj ∧ t.cpm.tjPred = pred ∧ t.cpm.predValid = pv ∧
    t.on F.PWR_STAT_TLIMIT = (if (s.get F.PWR_THERM_TJ_LIMIT : Int) ≤ tj.toInt then true
      else if tj.toInt < (s.get F.PWR_THERM_TJ_LIMIT : Int) - 5 then false else s.on F.PWR_STAT_TLIMIT) ∧
    (s.on F.PWR_STAT_TLIMIT ≠ t.on F.PWR_STAT_TLIMIT → t.isPending 217 = true) ∧
    ((s.get F.PWR_THERM_TJ_CRIT : Int) ≤ tj.toInt → (s.cpm.crit ≠ 1 → Reports 0x101 0x13 0 0 s t) ∧
      (s.cpm.crit = 1 → t.fcr.transit = s.fcr.transit)) ∧ SameMemory s t := by
  have hsensors := s.regulated_sensors tj pred pv
  have hframe := (s.regulated tj pred pv).tjCrit_frame
  refine ⟨_, exec_tempSample_below s tj pred pv hcpm h, ?_, ?_, ?_, ?_, fun hne => ?_, fun hhot => ?_,
    (s.regulated_tjCrit_keeps tj pred pv).sameMemory⟩
  · exact (congrArg (·.cpm.tjMax) hframe).trans hsensors.tjMax
  · exact (congrArg (·.cpm.tjPred) hframe).trans hsensors.tjPred
  · exact (congrArg (·.cpm.predValid) hframe).trans hsensors.predValid
  · rw [State.tjCrit_on, s.regulated_tlimit]
  · rw [State.tjCrit_on] at hne
    exact (State.tjCrit_on _ _).trans (s.regulated_event tj pred pv hne)
  · have hmax : (s.regulated tj pred pv).cpm.tjMax = tj := hsensors.tjMax
    have hcrit : (s.regulated tj pred pv).cpm.crit = s.cpm.crit := hsensors.crit
    rw [← s.regulated_tjCrit tj pred pv, ← congrArg BitVec.toInt hmax] at hhot
    rw [← hcrit, Reports, ← s.regulated_fcr tj pred pv]
    exact ⟨State.tjCrit_reports _ hhot, State.tjCrit_silent _ hhot⟩

theorem tempSample_trips (h : 125 ≤ tj.toInt) : ∃ t, exec (.tempSample tj pred pv) s = .next t ∧ t.cpm.tripped = true ∧
    t.power.sysHeld = true ∧ t.power.cupUp = false ∧ t.cpmUp = false :=
  ⟨_, exec_tempSample_trips s tj pred pv hcpm h, rfl, rfl, rfl, Bool.and_false _⟩

/-- A prediction of TJ_BOOST or more ends Boost (R560). -/
theorem tempSample_endsBoost (h : tj.toInt < 125) (hb : s.boosting = true)
    (hhot : (s.get F.PWR_THERM_TJ_BOOST : Int) ≤ pred.toInt) :
    ∃ t, exec (.tempSample tj pred true) s = .next t ∧ BoostEnded 3 s.cpm.govMv t := by
  refine ⟨_, exec_tempSample_below s tj pred true hcpm h, ?_⟩
  have hthermal := (s.sensed tj pred true).boostThermal_hot hb hhot
  have hended : BoostEnded 3 s.cpm.govMv (s.sensed tj pred true).boostThermal := by
    rw [hthermal]
    exact (s.sensed tj pred true).boostExit_ended 3 hb (by decide)
  exact (hended.after (State.tlimit_only _) (by decide)).tjCrit

end

/-! ### The causes that end a Boost (R563) -/

theorem avsFail_endsBoost (s : State) (hcpm : s.cpmUp = true) (hf : s.on F.PWR_STAT_AVS_FAIL = false)
    (hb : s.boosting = true) : ∃ t, exec .avsFail s = .next t ∧ BoostEnded 5 s.cpm.govMv t := by
  have hsame : s.avsFailed.cpm = s.cpm := s.avsFailed_only.frame.cpm
  have hended := s.avsFailed.boostExit_ended 5 (by rwa [State.boosting, hsame]) (by decide)
  rw [hsame] at hended
  exact ⟨_, exec_avsFail s hcpm hf, hended⟩

theorem boostCreditExhausted_endsBoost (s : State) (hcredit : s.boostCredit = 0) (hb : s.boosting = true) :
    ∃ t, exec .boostCreditExhausted s = .next t ∧ BoostEnded 2 s.cpm.govMv t :=
  ⟨_, congrArg Host.Outcome.next (if_pos (by rw [hb, hcredit]; rfl)), s.boostExit_ended 2 hb (by decide)⟩

theorem boost_ends (s : State) (r : Req) (tj pred : BitVec 8) (e : Instr × Nat)
    (he : (e = (.boostEnd r 0, 1) ∧ s.mayWrite r R.PWR_CTL) ∨ (e = (.boostCreditExhausted, 2) ∧ s.boostCredit = 0) ∨
      (e = (.avsFail, 5) ∧ s.cpmUp = true ∧ s.on F.PWR_STAT_AVS_FAIL = false) ∨
      (e = (.tempSample tj pred true, 3) ∧ s.cpmUp = true ∧ tj.toInt < 125 ∧
        (s.get F.PWR_THERM_TJ_BOOST : Int) ≤ pred.toInt)) (hb : s.boosting = true) :
    ∃ t, exec e.1 s = .next t ∧ BoostEnded e.2 s.cpm.govMv t := by
  obtain ⟨rfl, hm⟩ | ⟨rfl, hcredit⟩ | ⟨rfl, hcpm, hf⟩ | ⟨rfl, hcpm, htrip, hhot⟩ := he
  · exact ⟨_, exec_boostEnd_permitted s r hm, s.boostExit_ended 1 hb (by decide)⟩
  · exact boostCreditExhausted_endsBoost s hcredit hb
  · exact avsFail_endsBoost s hcpm hf hb
  · exact tempSample_endsBoost s tj pred hcpm htrip hb hhot

/-! ### The obligation -/

/-- Settles O57: each clause is the lemma of its command; the ends of a Boost share what `boostExit` leaves. -/
theorem governorAndBoost : Obligations.GovernorAndBoost := by
  unfold Obligations.GovernorAndBoost
  intro s
  refine ⟨fun r hm hb => ⟨s.boostOk_iff, boostReq_starts s hb r hm, boostReq_rejects s hb r hm⟩, boostRampDone_ends s,
    fun r tj pred e he hb => ?ends, fun idx mon hcore hcpm hv => ⟨paceValid_releases s idx mon hcore hcpm hv,
      governorStep_steps s idx mon hcore hcpm hv⟩, paceLow_sets s, avsFail_stops s, avsRecover_resumes s,
    fun tj pred pv hcpm => ⟨tempSample_limits s tj pred pv hcpm, tempSample_trips s tj pred pv hcpm⟩⟩
  case ends =>
    obtain ⟨t, hexec, ⟨hboosting, hcause, hboost, hramp, hvcore, hevent⟩⟩ := boost_ends s r tj pred e he hb
    exact ⟨t, hexec, hboosting, hcause, hboost, hramp, hvcore, hevent⟩

end Sys2Proof.Machine
end

section
/-! PROOF. The frames of the mailbox (R588 to R590): bytes in the registers of a window, the screen of a request, and the
response of a window. -/

namespace Sys2Proof.Machine

/-! ### Bytes of numbers (R9) -/

@[simp] theorem natLE_length (n v : Nat) : (natLE n v).length = n := by
  induction n generalizing v with
  | zero => rfl
  | succ n ih => rw [natLE, List.length_cons, ih]

theorem natLE_zero (n : Nat) : natLE n 0 = zeros n := by
  induction n with
  | zero => rfl
  | succ n ih => rw [natLE, ih, zeros, zeros, List.replicate_succ]; rfl

theorem leNat_natLE (n v : Nat) : leNat (natLE n v) = v % 256 ^ n := by
  induction n generalizing v with
  | zero => rw [Nat.pow_zero, Nat.mod_one]; rfl
  | succ n ih =>
    rw [natLE, leNat, ih, BitVec.toNat_ofNat, pow_succ' 256 n]
    exact Nat.mod_mul.symm

/-- The bytes of the number that bytes spell are these bytes, cut or filled with zeros. -/
theorem natLE_leNat (n : Nat) (bs : List Byte) : natLE n (leNat bs) = fit n bs := by
  induction n generalizing bs with
  | zero => rfl
  | succ n ih =>
    cases bs with
    | nil => rw [leNat, natLE_zero]; simp [fit, zeros]
    | cons b bs =>
      have hb := b.isLt
      have hlow : BitVec.ofNat 8 (b.toNat + 256 * leNat bs) = b := by
        apply BitVec.eq_of_toNat_eq
        rw [BitVec.toNat_ofNat]
        omega
      have hrest : (b.toNat + 256 * leNat bs) / 256 = leNat bs := by omega
      rw [leNat, natLE, hlow, hrest, ih]
      simp [fit, zeros, List.replicate_succ', ← List.append_assoc, List.take_append_of_le_length]

theorem leNat_lt (bs : List Byte) : leNat bs < 256 ^ bs.length := by
  induction bs with
  | nil => exact Nat.one_pos
  | cons b bs ih =>
    have hb := b.isLt
    rw [leNat, List.length_cons, Nat.pow_succ]
    omega

/-- A register that is written with the first four bytes of a string reads as these. -/
theorem natLE_word (bs : List Byte) : natLE 4 (BitVec.ofNat 32 (leAt bs 0 4)).toNat = fit 4 (bs.take 4) := by
  have hlen : (slice bs 0 4).length ≤ 4 := by simp [slice]
  have hlt : leAt bs 0 4 < 2 ^ 32 := lt_of_lt_of_le (leNat_lt _) (Nat.pow_le_pow_right (by omega) hlen)
  rw [BitVec.toNat_ofNat, Nat.mod_eq_of_lt hlt, leAt, natLE_leNat]
  rfl

/-- A field that begins after the first of two strings lies in the second. -/
theorem slice_append_right (a b : List Byte) (off n : Nat) (h : a.length ≤ off) :
    slice (a ++ b) off n = slice b (off - a.length) n := by
  rw [slice, List.drop_append, List.drop_eq_nil_of_le h, List.nil_append, slice]

theorem slice_cons (b : Byte) (bs : List Byte) (off n : Nat) (h : 0 < off) : slice (b :: bs) off n = slice bs (off - 1) n :=
  slice_append_right [b] bs off n h

theorem slice_append_left (a b : List Byte) (n : Nat) (h : a.length = n) : slice (a ++ b) 0 n = a :=
  List.take_left' h

/-! ### Bytes in registers -/

theorem State.regBytes_congr {s t : State} (o n : Nat) (h : ∀ p, o ≤ p → p < o + 4 * n → t.rd p = s.rd p) :
    t.regBytes o n = s.regBytes o n := by
  induction n generalizing o with
  | zero => rfl
  | succ n ih =>
    rw [State.regBytes, State.regBytes, h o (le_refl o) (by omega), ih (o + 4) fun p hlo hhi => h p (by omega) (by omega)]

theorem State.rd_wrBytes_outside (s : State) (o n : Nat) (bs : List Byte) (p : Nat) (h : p < o ∨ o + 4 * n ≤ p) :
    (s.wrBytes o n bs).rd p = s.rd p := by
  induction n generalizing s o bs with
  | zero => rfl
  | succ n ih => rw [State.wrBytes, ih _ _ _ (by omega), State.rd_wr_of_ne _ _ _ _ (by omega)]

theorem State.wrBytes_eventFrame (s : State) (o n : Nat) (bs : List Byte) : EventFrame s (s.wrBytes o n bs) := by
  induction n generalizing s o bs with
  | zero => rfl
  | succ n ih => exact EventFrame.trans (t := s.wr o _) rfl (ih _ _ _)

/-- Bytes that are written into registers are read back from them, before whatever follows. -/
theorem State.regBytes_wrBytes_begins (s : State) (o n m : Nat) (bs : List Byte) (hbs : bs.length ≤ 4 * n) (hn : n ≤ m) :
    bs <+: (s.wrBytes o n bs).regBytes o m := by
  induction n generalizing s o m bs with
  | zero =>
    obtain rfl : bs = [] := List.length_eq_zero_iff.1 (by omega)
    exact ⟨_, rfl⟩
  | succ n ih =>
    obtain ⟨m, rfl⟩ : ∃ k, m = k + 1 := ⟨m - 1, by omega⟩
    rw [State.regBytes, State.wrBytes, State.rd_wrBytes_outside _ _ _ _ _ (by omega), State.rd_wr_self, natLE_word]
    by_cases hlong : bs.length ≤ 4
    · have hpre : bs <+: fit 4 (bs.take 4) := by
        rw [List.take_of_length_le hlong, fit, List.take_append, List.take_of_length_le hlong]
        exact ⟨_, rfl⟩
      exact hpre.trans ⟨_, rfl⟩
    · have hfit : fit 4 (bs.take 4) = bs.take 4 := by
        rw [fit, List.take_append_of_le_length (by rw [List.length_take]; omega), List.take_take]
        rfl
      obtain ⟨rest, hrest⟩ := ih (s.wr o (BitVec.ofNat 32 (leAt bs 0 4))) (o + 4) m (bs.drop 4)
        (by rw [List.length_drop]; omega) (by omega)
      refine ⟨rest, ?_⟩
      rw [hfit, ← hrest, ← List.append_assoc, List.take_append_drop]

/-! ### The screen of a request (R588 to R591) -/

/-- The registers that GO touches beside the window's response. -/
def goRegs : List Nat := [R.MBX_STAT 0, R.MBX_STAT 1, R.CUP_SAT]

/-- The request frame in the registers of the window `n`: `winReq` of the host and of SVC. -/
def State.regReq (s : State) (n : Nat) : List Byte :=
  (s.regBytes (R.MBX_REQ n 0) (4 + (min (s.rd (R.MBX_REQ n 2)).toNat 4080 + 3) / 4)).take
    (16 + min (s.rd (R.MBX_REQ n 2)).toNat 4080)

/-- What decides whether a request is served, and how it reads, is the same. -/
structure SameRequest (s t : State) : Prop where
  regs : SameRegsBut goRegs s t
  smb : t.cup.smb.req = s.cup.smb.req
  power : t.power = s.power
  lcs : t.lcs = s.lcs

section
variable {s t : State} (h : SameRequest s t)
include h

theorem SameRequest.trans {u : State} (k : SameRequest t u) : SameRequest s u :=
  ⟨h.regs.trans k.regs, k.smb.trans h.smb, k.power.trans h.power, k.lcs.trans h.lcs⟩

theorem SameRequest.get (f : Fld) (hf : f.off ∉ goRegs) : t.get f = s.get f := by rw [State.get, h.regs _ hf, State.get]

theorem SameRequest.regReq (n : Nat) : t.regReq n = s.regReq n := by
  have hout : ∀ p, R.MBX_REQ n 0 ≤ p → p < R.MBX_REQ n 0 + 4096 → t.rd p = s.rd p := by
    intro p hlo hhi
    refine h.regs p ?_
    simp only [goRegs, R.MBX_STAT, R.CUP_SAT, R.MBX_REQ, List.mem_cons, List.not_mem_nil, or_false] at hlo hhi ⊢
    omega
  have hlen : t.rd (R.MBX_REQ n 2) = s.rd (R.MBX_REQ n 2) :=
    hout _ (by simp only [R.MBX_REQ]; omega) (by simp only [R.MBX_REQ]; omega)
  unfold State.regReq
  rw [hlen, State.regBytes_congr _ _ fun p hlo hhi => hout p hlo (by omega)]

theorem SameRequest.winReq (w : MbxWin) : t.winReq w = s.winReq w := by
  cases w with
  | host => exact h.regReq 0
  | svc => exact h.regReq 1
  | smbus => exact h.smb

theorem SameRequest.romRuns : t.romRuns = s.romRuns := by
  rw [State.romRuns, h.get _ (by decide), h.get _ (by decide), State.romRuns]

theorem SameRequest.mbxServes : t.mbxServes = s.mbxServes := by
  rw [State.mbxServes, h.power, h.lcs, h.romRuns, h.get _ (by decide), h.get _ (by decide), State.mbxServes]

theorem SameRequest.mayCommand (hgo : t.cup.goBy = s.cup.goBy) (w : MbxWin) (svc cmd : Nat) :
    t.mayCommand w svc cmd = s.mayCommand w svc cmd := by
  cases w with
  | host => rw [State.mayCommand, hgo, State.mayCommand]
  | svc => rw [State.mayCommand, hgo, State.mayCommand]
  | smbus =>
    rw [State.mayCommand, State.smbMay, State.on, State.on, h.get _ (by decide), h.get _ (by decide)]
    rfl

theorem SameRequest.verdict (hgo : t.cup.goBy = s.cup.goBy) (w : MbxWin) : t.verdict w = s.verdict w := by
  simp only [State.verdict, h.winReq, h.romRuns, h.mayCommand hgo]

end

/-! ### The response of a window (R588, R589) -/

/-- The bytes of a response to the request `f`. -/
def responseBytes (f : List Byte) (status detail : Nat) (payload : List Byte) : List Byte :=
  natLE 1 (fService f) ++ natLE 1 (fCommand f) ++ natLE 1 status ++ [0] ++ fit 4 (slice f 4 4) ++
    natLE 4 payload.length ++ natLE 4 detail ++ payload

@[simp] theorem length_fit (n : Nat) (bs : List Byte) : (fit n bs).length = n := by simp [fit, zeros]

theorem responseBytes_length (f : List Byte) (status detail : Nat) (payload : List Byte) :
    (responseBytes f status detail payload).length = 16 + payload.length := by
  simp [responseBytes]
  omega

/-- An error in a response is counted. -/
def State.errorCounted (s : State) (status : Nat) : State := if status ≤ mbInProgress then s else s.inc (R.CUP_CNT 1)

/-- The response stands in the registers of a window, BUSY is 0 and DONE 1. -/
def State.fillWindow (s : State) (n : Nat) (bs : List Byte) : State :=
  ((s.wrBytes (R.MBX_RSP n 0) ((bs.length + 3) / 4) bs).clr (F.MBX_STAT_BUSY n)).set (F.MBX_STAT_DONE n)

section
variable (s : State) (status detail : Nat) (payload : List Byte)

theorem State.respond_host : s.respond .host status detail payload =
    ((s.errorCounted status).fillWindow 0 (responseBytes (s.winReq .host) status detail payload)).raise 224 := rfl

theorem State.respond_svc : s.respond .svc status detail payload =
    ((s.errorCounted status).fillWindow 1 (responseBytes (s.winReq .svc) status detail payload)).irqSvc irqMailbox := rfl

theorem State.respond_smbus : s.respond .smbus status detail payload =
    { s.errorCounted status with cup := { (s.errorCounted status).cup with smb := { (s.errorCounted status).cup.smb with
      req := [], rsp := responseBytes (s.winReq .smbus) status detail payload, pos := 0, busy := false, done := true } } } := rfl

end

/-- A window shows the end of a command: BUSY is 0, DONE 1, and its response begins with the bytes `bs`. -/
structure Ends (w : MbxWin) (bs : List Byte) (t : State) : Prop where
  busy : t.winBusy w = false
  done : t.winDone w = true
  rsp : bs <+: t.winRsp w

/-- The registers of the window `n` show the end of a command. -/
structure WindowEnds (n : Nat) (bs : List Byte) (t : State) : Prop where
  busy : t.on (F.MBX_STAT_BUSY n) = false
  done : t.on (F.MBX_STAT_DONE n) = true
  rsp : bs <+: t.regBytes (R.MBX_RSP n 0) 1024

theorem State.fillWindow_ends (s : State) (n : Nat) (bs : List Byte) (h : bs.length ≤ 4096) :
    WindowEnds n bs (s.fillWindow n bs) where
  busy := by
    rw [State.fillWindow, State.set, State.on_put_apart _ _ _ _ (.inr (.inr (le_refl 1)))]
    exact State.on_clr_self _ _ (Nat.le_add_left 1 31)
  done := State.on_set_self _ _ (Nat.le_add_left 2 30) rfl
  rsp := by
    have hstat : ∀ p, R.MBX_RSP n 0 ≤ p → p ≠ R.MBX_STAT n := fun p hp => by
      simp only [R.MBX_RSP, R.MBX_STAT] at hp ⊢
      omega
    rw [State.regBytes_congr (s := s.wrBytes (R.MBX_RSP n 0) ((bs.length + 3) / 4) bs) _ _ fun p hlo _ => ?regs]
    · exact s.regBytes_wrBytes_begins _ _ _ bs (by omega) (by omega)
    case regs =>
      rw [State.fillWindow, State.set, State.rd_put_of_ne _ _ _ _ (hstat p hlo), State.clr,
        State.rd_put_of_ne _ _ _ _ (hstat p hlo)]

theorem WindowEnds.of_regs {n : Nat} {bs : List Byte} {s t : State} (h : WindowEnds n bs s)
    (hregs : ∀ p, 0xE0000 ≤ p → t.rd p = s.rd p) : WindowEnds n bs t where
  busy := by
    rw [State.on, State.get, hregs _ (by simp only [R.MBX_STAT]; omega)]
    exact h.busy
  done := by
    rw [State.on, State.get, hregs _ (by simp only [R.MBX_STAT]; omega)]
    exact h.done
  rsp := by
    rw [State.regBytes_congr _ _ fun p hlo _ => hregs p (by simp only [R.MBX_RSP] at hlo; omega)]
    exact h.rsp

theorem WindowEnds.ends {n : Nat} {bs : List Byte} {t : State} (h : WindowEnds n bs t) (w : MbxWin) (hw : winNo w = some n) :
    Ends w bs t := by
  constructor
  case busy => simpa only [State.winBusy, hw] using h.busy
  case done => simpa only [State.winDone, hw] using h.done
  case rsp => simpa only [State.winRsp, hw] using h.rsp

theorem State.rd_raise_mbx (s : State) (n p : Nat) (hn : n < 256) (hp : 0xE0000 ≤ p) : (s.raise n).rd p = s.rd p :=
  s.rd_raise n p (by simp only [R.EVC_PEND]; omega) (by simp only [R.EVC_SAT]; omega)

/-- After its response a window shows the end of the command. -/
theorem State.respond_ends (s : State) (w : MbxWin) (status detail : Nat) (payload : List Byte) (hp : payload.length ≤ 4080) :
    Ends w (responseBytes (s.winReq w) status detail payload) (s.respond w status detail payload) := by
  have hlen : (responseBytes (s.winReq w) status detail payload).length ≤ 4096 := by
    rw [responseBytes_length]
    omega
  cases w with
  | host =>
    rw [State.respond_host]
    exact (((s.errorCounted status).fillWindow_ends 0 _ hlen).of_regs
      fun p hp => State.rd_raise_mbx _ 224 p (by decide) hp).ends .host rfl
  | svc =>
    rw [State.respond_svc]
    exact (((s.errorCounted status).fillWindow_ends 1 _ hlen).of_regs (t := State.irqSvc _ irqMailbox)
      fun _ _ => rfl).ends .svc rfl
  | smbus =>
    rw [State.respond_smbus]
    exact ⟨rfl, rfl, [], List.append_nil _⟩

/-- The fields of a response are read from its first bytes. -/
theorem Ends.answered {s t : State} {w : MbxWin} {status detail : Nat} {payload : List Byte}
    (h : Ends w (responseBytes (s.winReq w) status detail payload) t) (hst : status < 256) (hd : detail < 2 ^ 32)
    (hp : payload.length < 2 ^ 32) : Answered w status detail payload s t := by
  obtain ⟨rest, hrest⟩ := h.rsp
  constructor
  case busy => exact h.busy
  case done => exact h.done
  all_goals rw [← hrest, responseBytes]
  case service => simp [byteAt, natLE, fService]
  case command => simp [byteAt, natLE, fCommand]
  case status => simpa [byteAt, natLE] using hst
  case tag => simp [slice_cons, slice_append_right, slice_append_left]
  case len => simpa [leAt, slice_cons, slice_append_right, slice_append_left, leNat_natLE] using hp
  case detail => simpa [leAt, slice_cons, slice_append_right, slice_append_left, leNat_natLE] using hd
  case payload => simp [slice_cons, slice_append_right, slice_append_left]

/-- A command is answered by the response to its request. -/
theorem State.respond_answers (s u : State) (w : MbxWin) (status detail : Nat) (payload : List Byte) (hreq : SameRequest s u)
    (hst : status < 256) (hd : detail < 2 ^ 32) (hp : payload.length ≤ 4080) :
    Answered w status detail payload s (u.respond w status detail payload) := by
  have hends := u.respond_ends w status detail payload hp
  rw [hreq.winReq w] at hends
  exact hends.answered hst hd (by omega)

theorem State.inc_alm (s : State) (o : Nat) : (s.inc o).alm = s.alm := (congrArg State.alm (s.inc_eventFrame o) :)

@[simp] theorem State.respond_alm (s : State) (w : MbxWin) (status detail : Nat) (payload : List Byte) :
    (s.respond w status detail payload).alm = s.alm := by
  have herr : (s.errorCounted status).alm = s.alm := by
    unfold State.errorCounted
    split
    · rfl
    · exact s.inc_alm _
  have hfill : ∀ n bs, ((s.errorCounted status).fillWindow n bs).alm = s.alm := fun n bs =>
    ((congrArg State.alm ((s.errorCounted status).wrBytes_eventFrame _ _ bs) :)).trans herr
  cases w with
  | host =>
    rw [State.respond_host]
    exact (congrArg State.alm ((EvcOnly.refl _).raise 224).frame :).trans (hfill _ _)
  | svc =>
    rw [State.respond_svc]
    exact hfill _ _
  | smbus =>
    rw [State.respond_smbus]
    exact herr

end Sys2Proof.Machine
end

section
/-! PROOF. O59: GO and ABORT (R587, R589), the SMBus window (R592), and the status commands of the mailbox (R591, R597). -/

namespace Sys2Proof.Machine

/-! ### The screen of a frame (R590) -/

/-- A refusal of a frame is one of three codes. -/
theorem State.verdict_code (s : State) (w : MbxWin) (c : Nat) (h : s.verdict w = some c) :
    c = mbUnknown ∨ c = mbBadFrame ∨ c = mbDenied := by
  have hcode : ∀ x, (x = mbUnknown ∨ x = mbBadFrame ∨ x = mbDenied) → some x = some c →
      c = mbUnknown ∨ c = mbBadFrame ∨ c = mbDenied := fun x hx e => Option.some.inj e ▸ hx
  unfold State.verdict at h
  dsimp only at h
  split at h
  · exact hcode _ (by decide) h
  · split at h
    · exact hcode _ (by decide) h
    · split at h
      · exact hcode _ (by decide) h
      · split at h
        · cases h
        · exact hcode _ (by decide) h

theorem State.mbxScreen_waits (s : State) (w : MbxWin) (h : s.mbxServes = false ∨ s.verdict w = none) : s.mbxScreen w = s := by
  unfold State.mbxScreen
  rcases h with h | h
  · rw [h, Bool.and_false]
    rfl
  · rw [h, ite_self]

theorem State.mbxScreen_refuses (s : State) (w : MbxWin) (c : Nat) (hb : s.winBusy w = true) (hs : s.mbxServes = true)
    (hv : s.verdict w = some c) : s.mbxScreen w = s.respond w c 0 [] := by
  unfold State.mbxScreen
  rw [hb, hs, hv]
  rfl

/-! ### GO and ABORT of a register window (R587, R589) -/

theorem satOf_cupCnt : ∀ k < 7, satOf (R.CUP_CNT k) = some ⟨R.CUP_SAT, k, 1⟩ := by decide

/-- GO is taken: BUSY is set, and the command is counted. -/
def State.goTaken (s : State) (n : Nat) : State := (s.set (F.MBX_STAT_BUSY n)).inc (R.CUP_CNT 0)

theorem winNo_cases (w : MbxWin) (n : Fin 2) (h : winNo w = some n.val) : (w = .host ∧ n = 0) ∨ (w = .svc ∧ n = 1) := by
  cases w with
  | host => exact .inl ⟨rfl, Fin.ext (Option.some.inj h).symm⟩
  | svc => exact .inr ⟨rfl, Fin.ext (Option.some.inj h).symm⟩
  | smbus => cases h

section
variable (s : State) (n : Fin 2)

theorem State.goTaken_busy : (s.goTaken n).on (F.MBX_STAT_BUSY n) = true := by
  have happart : ∀ g, satOf (R.CUP_CNT 0) = some g → (F.MBX_STAT_BUSY n).apart g := by
    intro g hg
    obtain rfl := Option.some.inj ((satOf_cupCnt 0 (by decide)).symm.trans hg)
    left
    simp only [R.CUP_SAT, R.MBX_STAT]
    omega
  rw [State.goTaken, State.on_inc _ _ _ happart]
  exact State.on_set_self _ _ (Nat.le_add_left 1 31) rfl

theorem State.goTaken_regs : SameRegsBut [R.MBX_STAT n, R.CUP_SAT] s (s.goTaken n) :=
  ((SameRegsBut.refl _ s).put _ 1 (by simp)).inc _ _ (satOf_cupCnt 0 (by decide)) (by simp)

theorem State.goTaken_frame : s.goTaken n = { s with regs := (s.goTaken n).regs, cnt := (s.goTaken n).cnt } :=
  (s.set (F.MBX_STAT_BUSY n)).count_frame (R.CUP_CNT 0) 1

theorem State.goTaken_goBy : (s.goTaken n).cup.goBy = s.cup.goBy := by rw [s.goTaken_frame n]

theorem State.goTaken_request : SameRequest s (s.goTaken n) := by
  have hframe := s.goTaken_frame n
  refine ⟨(s.goTaken_regs n).mono fun o ho => ?regs, ?_, ?_, ?_⟩
  case regs =>
    have hn := n.isLt
    simp only [goRegs, R.MBX_STAT, R.CUP_SAT, List.mem_cons, List.not_mem_nil, or_false] at ho ⊢
    omega
  all_goals rw [hframe]

end

/-- The state in which a window's GO is taken: its requester is noted (R591). -/
def State.goFrom (s : State) (n : Fin 2) (r : Req) : State :=
  { s with cup := { s.cup with goBy := if n = 0 then (reqCode r, s.cup.goBy.2) else (s.cup.goBy.1, reqCode r) } }

section
variable (s : State) (r : Req) (n : Fin 2) (w : MbxWin) (hw : winNo w = some n.val)

theorem State.mbxGo_busy (hb : s.on (F.MBX_STAT_BUSY n) = true) : s.mbxGo n r = s.set (F.MBX_STAT_GO_REJECT n) := if_pos hb

include hw

theorem State.mbxGo_idle (hb : s.on (F.MBX_STAT_BUSY n) = false) :
    s.mbxGo n r = ((s.goFrom n r).goTaken n).mbxScreen w := by
  unfold State.mbxGo
  rw [hb]
  obtain ⟨rfl, rfl⟩ | ⟨rfl, rfl⟩ := winNo_cases w n hw <;> rfl

theorem winBusy_of_busy (t : State) (h : t.on (F.MBX_STAT_BUSY n) = true) : t.winBusy w = true := by
  simpa only [State.winBusy, hw] using h

variable (hm : s.mayWrite r (R.MBX_CTL n))
include hm

theorem exec_mbxGo_permitted : exec (.mbxGo w r) s = .next (s.mbxGo n r) := by
  show execMbxGo w r s = _
  simp only [execMbxGo, hw]
  exact congrArg Host.Outcome.next (s.gateW_granted r (R.MBX_CTL n) _ hm)

theorem exec_mbxAbort_permitted : exec (.mbxAbort w r) s = .next (s.clr (F.MBX_STAT_BUSY n)) := by
  show execMbxAbort w r s = _
  simp only [execMbxAbort, hw]
  exact congrArg Host.Outcome.next (s.gateW_granted r (R.MBX_CTL n) _ hm)

/-- GO of an idle window, as its requester is noted: the frame waits for its command, or is answered. -/
theorem exec_mbxGo_idle (hb : s.on (F.MBX_STAT_BUSY n) = false) :
    exec (.mbxGo w r) s = .next (((s.goFrom n r).goTaken n).mbxScreen w) := by
  rw [exec_mbxGo_permitted s r n w hw hm, s.mbxGo_idle r n w hw hb]

theorem mbxGo_taken (hb : s.on (F.MBX_STAT_BUSY n) = false)
    (hv : (s.goFrom n r).mbxServes = false ∨ (s.goFrom n r).verdict w = none) :
    ∃ t, exec (.mbxGo w r) s = .next t ∧ t.on (F.MBX_STAT_BUSY n) = true ∧
      t.cntGet (R.CUP_CNT 0) = s.plus (R.CUP_CNT 0) 1 ∧ SameRegsBut [R.MBX_STAT n, R.CUP_SAT] s t ∧
      t = { s.goFrom n r with regs := t.regs, cnt := t.cnt } := by
  have hreq := (s.goFrom n r).goTaken_request n
  rw [exec_mbxGo_idle s r n w hw hm hb,
    State.mbxScreen_waits _ w (by rw [hreq.mbxServes, hreq.verdict (State.goTaken_goBy _ n)]; exact hv)]
  exact ⟨_, rfl, State.goTaken_busy _ n, State.cntGet_inc _ _, (s.goFrom n r).goTaken_regs n, (s.goFrom n r).goTaken_frame n⟩

theorem mbxGo_refused (hb : s.on (F.MBX_STAT_BUSY n) = false) (c : Nat) (hs : (s.goFrom n r).mbxServes = true)
    (hv : (s.goFrom n r).verdict w = some c) :
    ∃ t, exec (.mbxGo w r) s = .next t ∧ Answered w c 0 [] s t ∧ SameMemory s t := by
  have hreq := (s.goFrom n r).goTaken_request n
  have hfrom : SameRequest s ((s.goFrom n r).goTaken n) := ⟨hreq.regs, hreq.smb, hreq.power, hreq.lcs⟩
  have hcode : c < 256 := by
    obtain rfl | rfl | rfl := State.verdict_code _ w c hv
    all_goals decide
  have hexec := exec_mbxGo_idle s r n w hw hm hb
  refine ⟨_, hexec, ?_, (execMbxGo_keeps w r hexec).sameMemory⟩
  rw [State.mbxScreen_refuses _ w c (winBusy_of_busy n w hw _ (State.goTaken_busy _ n)) (hreq.mbxServes.trans hs)
    ((hreq.verdict (State.goTaken_goBy _ n) w).trans hv)]
  exact s.respond_answers _ w c 0 [] hfrom hcode (by decide) (by decide)

theorem mbxAbort_clears : ∃ t, exec (.mbxAbort w r) s = .next t ∧ t.on (F.MBX_STAT_BUSY n) = false ∧
    SameRegsBut [R.MBX_STAT n] s t ∧ OnlyRegs s t :=
  ⟨_, exec_mbxAbort_permitted s r n w hw hm, State.on_clr_self _ _ (Nat.le_add_left 1 31),
    s.sameRegsBut_put (F.MBX_STAT_BUSY n) 0, rfl⟩

end

/-! ### The SMBus window (R592) -/

/-- The four flags of MBX_STAT in a byte. -/
def flagByte (a b c d : Bool) : Byte :=
  BitVec.ofNat 8 ((if a then 1 else 0) + (if b then 2 else 0) + (if c then 4 else 0) + if d then 8 else 0)

theorem flagByte_bits : ∀ a b c d, (flagByte a b c d).getLsbD 0 = a ∧ (flagByte a b c d).getLsbD 1 = b ∧
    (flagByte a b c d).getLsbD 2 = c ∧ (flagByte a b c d).getLsbD 3 = d ∧ (flagByte a b c d).toNat < 16 := by decide

/-- BUSY of the SMBus window is set and DONE cleared. -/
def State.smbBegins (s : State) : State :=
  { s with cup := { s.cup with smb := { s.cup.smb with busy := true, done := false } } }

/-- GO on the SMBus is taken, and the command is counted. -/
def State.smbTaken (s : State) : State := s.smbBegins.inc (R.CUP_CNT 0)

theorem State.smbTaken_frame (s : State) : EventFrame s.smbBegins s.smbTaken := s.smbBegins.inc_eventFrame _

theorem State.smbTaken_cup (s : State) : s.smbTaken.cup = { s.cup with smb := { s.cup.smb with busy := true, done := false } } :=
  (congrArg State.cup s.smbTaken_frame :)

theorem State.smbTaken_request (s : State) : SameRequest s s.smbTaken where
  regs := ((SameRegsBut.refl goRegs s.smbBegins).inc _ _ (satOf_cupCnt 0 (by decide)) (by decide) :)
  smb := by rw [State.smbTaken_cup]
  power := (congrArg State.power s.smbTaken_frame :)
  lcs := (congrArg State.lcs s.smbTaken_frame :)

section
variable (s : State) (hup : s.power.cupUp = true)
include hup

theorem smbusGo_busy (r : Req) (hb : s.cup.smb.busy = true) :
    exec (.mbxGo .smbus r) s = .next { s with cup := { s.cup with smb := { s.cup.smb with reject := true } } } :=
  congrArg Host.Outcome.next ((if_neg (by simp [hup])).trans (if_pos hb) : s.smbGo = _)

/-- GO on the SMBus is taken, before the frame is screened. -/
theorem smbusGo_idle (r : Req) (hb : s.cup.smb.busy = false) :
    exec (.mbxGo .smbus r) s = .next (s.smbTaken.mbxScreen .smbus) :=
  congrArg Host.Outcome.next ((if_neg (by simp [hup])).trans (if_neg (by simp [hb])) : s.smbGo = _)

theorem smbusGo_taken (r : Req) (hb : s.cup.smb.busy = false) (hv : s.mbxServes = false ∨ s.verdict .smbus = none) :
    ∃ t, exec (.mbxGo .smbus r) s = .next t ∧ t.cup = { s.cup with smb := { s.cup.smb with busy := true, done := false } } ∧
      t.cntGet (R.CUP_CNT 0) = s.plus (R.CUP_CNT 0) 1 := by
  have hreq := s.smbTaken_request
  have hgo : s.smbTaken.cup.goBy = s.cup.goBy := (congrArg CupSt.goBy s.smbTaken_cup :)
  rw [smbusGo_idle s hup r hb, State.mbxScreen_waits _ .smbus (by rw [hreq.mbxServes, hreq.verdict hgo]; exact hv)]
  exact ⟨_, rfl, s.smbTaken_cup, State.cntGet_inc _ _⟩

theorem mbxWrite_appends (bs : List Byte) (hlen : bs.length ≤ 255) (hb : s.cup.smb.busy = false) :
    exec (.mbxWrite bs true) s = .next { s with cup := { s.cup with smb := { s.cup.smb with req := s.cup.smb.req ++ bs } } } := by
  rw [exec_mbxWrite, if_neg (by omega), State.smbWrite]
  simp only [hup, hb, Bool.not_true, Bool.false_eq_true, if_false]

theorem mbxWrite_bad_pec (bs : List Byte) (hlen : bs.length ≤ 255) (hb : s.cup.smb.busy = false) :
    exec (.mbxWrite bs false) s = .next { s with cup := { s.cup with smb := { s.cup.smb with req := [], reject := true } } } := by
  rw [exec_mbxWrite, if_neg (by omega), State.smbWrite]
  simp only [hup, hb, Bool.not_true, Bool.not_false, Bool.false_eq_true, if_false, if_true]

theorem mbxRead_advances (n : BitVec 8) (bs : List Byte) (hbs : bs = slice s.cup.smb.rsp s.cup.smb.pos n.toNat) :
    exec (.mbxRead n) s = .next { s with cup := { s.cup with smb := { s.cup.smb with
      pos := s.cup.smb.pos + bs.length, out := bs } } } := by
  subst hbs
  exact congrArg Host.Outcome.next (if_neg (by simp [hup]) : s.smbRead n.toNat = _)

theorem mbxStatus_reads : ∃ t b, exec .mbxStatus s = .next t ∧
    t.cup = { s.cup with smb := { s.cup.smb with out := [b], reject := false, restarted := false } } ∧
    t = { s with cup := t.cup } ∧ b.getLsbD 0 = s.cup.smb.busy ∧ b.getLsbD 1 = s.cup.smb.done ∧
    b.getLsbD 2 = s.cup.smb.reject ∧ b.getLsbD 3 = s.cup.smb.restarted ∧ b.toNat < 16 :=
  ⟨_, _, congrArg Host.Outcome.next (if_neg (by simp [hup]) : s.smbStatus = _), rfl, rfl, flagByte_bits _ _ _ _⟩

end

/-! ### The status commands (R591, R597) -/

/-- A command of a session's holder touches the session alone (R593). -/
theorem State.updTouch_eq (s : State) (w : MbxWin) : ∃ u, s.updTouch w = { s with cup := { s.cup with upd := u } } := by
  unfold State.updTouch
  split
  · split
    · exact ⟨_, rfl⟩
    · exact ⟨s.cup.upd, rfl⟩
  · exact ⟨s.cup.upd, rfl⟩

theorem State.mbxRun_serves (s : State) (w : MbxWin) (svc cmd : Nat) (p : List Byte) (h : s.serves w svc cmd p)
    (k : State → List Byte → State) : s.mbxRun w svc cmd k = k (s.updTouch w) p := by
  obtain ⟨hbusy, hserves, hverdict, hsvc, hcmd, hp⟩ := h
  simp only [State.mbxRun, hbusy, hserves, hverdict, hsvc, hcmd, hp, Bool.and_self, and_self, if_true]

theorem flashRead_length (s : State) (a n : Nat) : (s.flashRead a n).length = n := by
  induction n generalizing a with
  | zero => rfl
  | succ n ih => rw [State.flashRead, List.length_cons, ih]

theorem bootStatusBytes_length (s : State) : s.bootStatusBytes.length = 24 := by
  simp [State.bootStatusBytes, State.copyGen, flashRead_length]

theorem versionBytes_length (s : State) : s.versionBytes.length = 52 := by
  simp [State.versionBytes, List.length_flatMap]

theorem AlmEntry.bytes_length (e : AlmEntry) : e.bytes.length = 64 := by
  simp [AlmEntry.bytes, zeros]

/-- The request stays while its command runs. -/
theorem State.updTouch_request (s : State) (w : MbxWin) : SameRequest s (s.updTouch w) := by
  obtain ⟨u, hu⟩ := s.updTouch_eq w
  rw [hu]
  exact ⟨.refl _ s, rfl, rfl, rfl⟩

theorem State.updTouch_alm (s : State) (w : MbxWin) : (s.updTouch w).alm = s.alm := by
  obtain ⟨u, hu⟩ := s.updTouch_eq w
  rw [hu]

section
variable (s : State) (w : MbxWin) (p : List Byte)

/-- A command whose answer does not depend on the update session answers OK with it. -/
theorem State.mbxRun_answers (svc cmd : Nat) (h : s.serves w svc cmd p) (b : State → List Byte)
    (hupd : ∀ u, b { s with cup := { s.cup with upd := u } } = b s) (hlen : (b s).length ≤ 4080) :
    Answered w mbOk 0 (b s) s (s.mbxRun w svc cmd fun s _ => s.respond w mbOk 0 (b s)) := by
  have hbytes : b (s.updTouch w) = b s := by
    obtain ⟨u, hu⟩ := s.updTouch_eq w
    rw [hu, hupd]
  rw [s.mbxRun_serves w svc cmd p h, hbytes]
  exact s.respond_answers _ w mbOk 0 _ (s.updTouch_request w) (by decide) (by decide) hlen

theorem bootStatus_answers (h : s.serves w 0 0x01 p) :
    ∃ t, exec (.bootStatus w) s = .next t ∧ Answered w mbOk 0 s.bootStatusBytes s t ∧ SameMemory s t :=
  ⟨_, rfl, s.mbxRun_answers w p 0 0x01 h State.bootStatusBytes (fun _ => rfl) (by rw [bootStatusBytes_length]; omega),
    (execBootStatus_keeps w rfl).sameMemory⟩

theorem mbxVersions_answers (h : s.serves w 0 0x04 p) :
    ∃ t, exec (.mbxVersions w) s = .next t ∧ Answered w mbOk 0 s.versionBytes s t ∧ SameMemory s t :=
  ⟨_, rfl, s.mbxRun_answers w p 0 0x04 h State.versionBytes (fun _ => rfl) (by rw [versionBytes_length]; omega),
    (execMbxVersions_keeps w rfl).sameMemory⟩

/-- The rails are sixteen bytes, sampled or free; free ones are taken from the free values alone. -/
theorem State.railBytes_cases : s.railBytes.1.length = 16 ∧ ∃ n, s.railBytes.2 = { s with free := n } := by
  unfold State.railBytes
  split
  · next h => exact ⟨by simp [List.length_flatMap, h], s.free, rfl⟩
  · exact ⟨by simp [State.freeBytes], _, rfl⟩

theorem State.sensorBytes_cases : s.sensorBytes.1.length = 32 ∧ s.sensorBytes.1.take 2 = [s.cpm.tjMax, s.cpm.tjPred] ∧
    ∃ n, s.sensorBytes.2 = { s with free := n } := by
  obtain ⟨hlen, n, hn⟩ := ({ s with free := s.free + 1 } : State).railBytes_cases
  refine ⟨?_, rfl, n, hn⟩
  simp [State.sensorBytes, State.freeBytes, hlen]

theorem mbxSensors_answers (h : s.serves w 0 0x02 p) :
    ∃ t b, exec (.mbxSensors w) s = .next t ∧ b.length = 32 ∧ Answered w mbOk 0 b s t ∧
      b.take 2 = [s.cpm.tjMax, s.cpm.tjPred] ∧ SameMemory s t := by
  obtain ⟨hlen, htake, n, hn⟩ := (s.updTouch w).sensorBytes_cases
  have hexec : exec (.mbxSensors w) s =
      .next ((s.updTouch w).sensorBytes.2.respond w mbOk 0 (s.updTouch w).sensorBytes.1) :=
    congrArg Host.Outcome.next (s.mbxRun_serves w 0 0x02 p h _)
  obtain ⟨u, hu⟩ := s.updTouch_eq w
  refine ⟨_, _, hexec, hlen, ?_, by rw [htake, hu], (execMbxSensors_keeps w hexec).sameMemory⟩
  have hreq : SameRequest s (s.updTouch w).sensorBytes.2 := by
    rw [hn, hu]
    exact ⟨.refl _ s, rfl, rfl, rfl⟩
  exact s.respond_answers _ w mbOk 0 _ hreq (by decide) (by decide) (by omega)

/-- With nothing queued, the entries that are read are those in flash (R533, R534). -/
theorem State.almRead_idle (es : List AlmEntry) (hlo : 1 ≤ byteAt p 8) (hhi : byteAt p 8 ≤ 63) (hb : s.alm.buffer = [])
    (hs : s.alm.summary = []) (hl : s.alm.lost = 0)
    (hes : es = (s.alm.written.filter (fun e => decide (leAt p 0 8 ≤ e.aseq))).take (byteAt p 8)) :
    s.almRead w p = if es.isEmpty then s.almFill.respond w mbNotFound 0 []
      else s.almFill.respond w mbOk es.length (es.flatMap AlmEntry.bytes) := by
  have hentries : s.almFill.almEntries = s.alm.written := by
    obtain ⟨b, a, hfill⟩ := s.almFill_budget
    rw [hfill, State.almEntries, hb]
    exact List.append_nil _
  have hcount : (!within 1 63 (byteAt p 8)) = false := by simp [within, hlo, hhi]
  rw [State.almRead, s.almDrain_idle hb hs hl, hentries, ← hes, hcount]
  rfl

theorem State.almFill_request : SameRequest s s.almFill := by
  obtain ⟨b, a, hfill⟩ := s.almFill_budget
  rw [hfill]
  exact ⟨.refl _ s, rfl, rfl, rfl⟩

theorem State.almFill_written : s.almFill.alm.written = s.alm.written := by
  obtain ⟨b, a, hfill⟩ := s.almFill_budget
  rw [hfill]

theorem almanacRead_answers (es : List AlmEntry) (h : s.serves w 0 0x03 p) (hlo : 1 ≤ byteAt p 8) (hhi : byteAt p 8 ≤ 63)
    (hb : s.alm.buffer = []) (hs : s.alm.summary = []) (hl : s.alm.lost = 0)
    (hes : es = (s.alm.written.filter (fun e => decide (leAt p 0 8 ≤ e.aseq))).take (byteAt p 8)) :
    ∃ t, exec (.almanacRead w) s = .next t ∧ (es ≠ [] → Answered w mbOk es.length (es.flatMap AlmEntry.bytes) s t) ∧
      (es = [] → Answered w mbNotFound 0 [] s t) ∧ t.alm.written = s.alm.written ∧ SameMemory s t := by
  have hexec : exec (.almanacRead w) s = .next ((s.updTouch w).almRead w p) :=
    congrArg Host.Outcome.next (s.mbxRun_serves w 0 0x03 p h _)
  have hmem := (execAlmanacRead_keeps w hexec).sameMemory
  have halm := s.updTouch_alm w
  have hread := (s.updTouch w).almRead_idle w p es hlo hhi (halm ▸ hb) (halm ▸ hs) (halm ▸ hl) (halm ▸ hes)
  have hreq : SameRequest s (s.updTouch w).almFill := (s.updTouch_request w).trans (s.updTouch w).almFill_request
  have hwritten : (s.updTouch w).almFill.alm.written = s.alm.written := by rw [State.almFill_written, halm]
  have hlen : es.length ≤ 63 := by
    rw [hes, List.length_take]
    omega
  have hbytes : (es.flatMap AlmEntry.bytes).length ≤ 4080 := by
    simp only [List.length_flatMap, AlmEntry.bytes_length, List.map_const', List.sum_replicate, smul_eq_mul]
    omega
  refine ⟨_, hexec, fun hne => ?found, fun hnil => ?empty, ?_, hmem⟩
  case found =>
    rw [hread, if_neg (by simpa using hne)]
    exact s.respond_answers _ w mbOk _ _ hreq (by decide) (by omega) hbytes
  case empty =>
    rw [hread, if_pos (by simpa using hnil)]
    exact s.respond_answers _ w mbNotFound 0 [] hreq (by decide) (by decide) (by decide)
  rw [hread]
  split
  · rw [State.respond_alm, hwritten]
  · rw [State.respond_alm, hwritten]

end

/-! ### The obligation -/

/-- Settles O59: each clause is the lemma of its command; the commands share what a response shows (`respond_answers`). -/
theorem mailboxWindows : Obligations.MailboxWindows := by
  unfold Obligations.MailboxWindows
  refine ⟨fun s u r n w hw hm => ⟨fun hb => ?rejected, ?idle, mbxAbort_clears s r n w hw hm⟩, ?smbus, fun s w p =>
    ⟨bootStatus_answers s w p, mbxSensors_answers s w p, mbxVersions_answers s w p,
      fun es h hlo hhi hb hs hl hes => almanacRead_answers s w p es h hlo hhi hb hs hl hes⟩⟩
  case rejected => rw [exec_mbxGo_permitted s r n w hw hm, s.mbxGo_busy r n hb]
  case idle =>
    rintro hb rfl
    exact ⟨mbxGo_taken s r n w hw hm hb, mbxGo_refused s r n w hw hm hb⟩
  case smbus =>
    rintro s _ rfl hup
    exact ⟨smbusGo_busy s hup, smbusGo_taken s hup,
      fun bs hlen hb => ⟨mbxWrite_appends s hup bs hlen hb, mbxWrite_bad_pec s hup bs hlen hb⟩,
      fun n => ⟨_, rfl, mbxRead_advances s hup n _ rfl⟩, mbxStatus_reads s hup⟩

end Sys2Proof.Machine
end

section
/-! PROOF. O1 to O4: one step, on a waiting command and on an empty queue, and the state after reset; O5, O6 and O14: what
every step keeps, read off what every command and the passing of a nanosecond keep. -/

namespace Sys2Proof.Machine

/-! ### What every command and every nanosecond keep -/

/-- What a command keeps; one that stores nothing keeps the memories as well. -/
theorem exec_keeps (c : Instr) (s t : State) : exec c s = .next t → Keeps c.storesNothing s t :=
  match c with
  | .registerWrite r addr wide v => execRegisterWrite_keeps r addr wide v
  | .subwordWrite r addr half v => execSubwordWrite_keeps r addr half v
  | .deniedAccess r addr acc => execDeniedAccess_keeps r addr acc
  | .counterLowRead r addr wide => execCounterLowRead_keeps r addr wide
  | .glbSnap r v => execGlbSnap_keeps r v
  | .snapComplete => execSnapComplete_keeps
  | .codeViolation src victim => execCodeViolation_keeps src victim
  | .handshakeStall src victim => execHandshakeStall_keeps src victim
  | .connect x => execConnect_keeps x
  | .qgrpOwnerWrite r g v => execQgrpOwnerWrite_keeps r g v
  | .vfFlr vf => execVfFlr_keeps vf
  | .hostReset c => execHostReset_keeps c
  | .svcReset => execSvcReset_keeps
  | .queueEnable r q v => execQueueEnable_keeps r q v
  | .queueDisable r q v => execQueueDisable_keeps r q v
  | .queuePause r q v => execQueuePause_keeps r q v
  | .pauseClear r q v => execPauseClear_keeps r q v
  | .queueFlush r q v => execQueueFlush_keeps r q v
  | .flushComplete q => execFlushComplete_keeps q
  | .cntSnap r q v => execCntSnap_keeps r q v
  | .qCntClr r q v => execQCntClr_keeps r q v
  | .queuePrioWrite r q v => execQueuePrioWrite_keeps r q v
  | .queueCfgWrite r q k v => execQueueCfgWrite_keeps r q k v
  | .sqKick r q v => execSqKick_keeps r q v
  | .descFetchComplete q => execDescFetchComplete_keeps q
  | .rereadComplete q => execRereadComplete_keeps q
  | .jobDispatch p => execJobDispatch_keeps p
  | .fenceRelease q => execFenceRelease_keeps q
  | .jobComplete j chk => execJobComplete_keeps j chk
  | .cqHeadWrite r q v => execCqHeadWrite_keeps r q v
  | .heldRecordTransfer q => execHeldRecordTransfer_keeps q
  | .rngWaitTimeout j => execRngWaitTimeout_keeps j
  | .keygen j => execKeygen_keeps j
  | .encaps j => execEncaps_keeps j
  | .decaps j => execDecaps_keeps j
  | .sign j => execSign_keeps j
  | .verify j => execVerify_keeps j
  | .exchange j => execExchange_keeps j
  | .hash j => execHash_keeps j
  | .mac j => execMac_keeps j
  | .macCompare j => execMacCompare_keeps j
  | .encrypt j => execEncrypt_keeps j
  | .decrypt j => execDecrypt_keeps j
  | .wrap j => execWrap_keeps j
  | .unwrap j => execUnwrap_keeps j
  | .derive j => execDerive_keeps j
  | .attest j => execAttest_keeps j
  | .ctxInstall j => execCtxInstall_keeps j
  | .ctxUpdate j => execCtxUpdate_keeps j
  | .ctxRetire j => execCtxRetire_keeps j
  | .ctxSnapshot j => execCtxSnapshot_keeps j
  | .keepLoad j => execKeepLoad_keeps j
  | .keepErase j bad => execKeepErase_keeps j bad
  | .fence q => execFence_keeps q
  | .engineInstructionBoundary e ns => execEngineInstructionBoundary_keeps e ns
  | .ltEnWrite r e v => execLtEnWrite_keeps r e v
  | .aeaSelftest r e v => execAeaSelftest_keeps r e v
  | .aeaSelftestEnd e pass => execAeaSelftestEnd_keeps e pass
  | .maxinsnRead r e => execMaxinsnRead_keeps r e
  | .ltCfgLock r v => execLtCfgLock_keeps r v
  | .xcfgLock r v => execXcfgLock_keeps r v
  | .leafWaitTimeout j => execLeafWaitTimeout_keeps j
  | .treeBuildComplete j => execTreeBuildComplete_keeps j
  | .jrAck r v => execJrAck_keeps r v
  | .jrFail r v => execJrFail_keeps r v
  | .jrPresent r v => execJrPresent_keeps r v
  | .jrNoneLeft r v => execJrNoneLeft_keeps r v
  | .seekTimeout => execSeekTimeout_keeps
  | .spireNext e => execSpireNext_keeps e
  | .spireBr e ext => execSpireBr_keeps e ext
  | .spireCall e ext => execSpireCall_keeps e ext
  | .spireRet e ext => execSpireRet_keeps e ext
  | .spireDisp e => execSpireDisp_keeps e
  | .spireLoop e => execSpireLoop_keeps e
  | .spireWait e ext => execSpireWait_keeps e ext
  | .spireWaitTaken e => execSpireWaitTaken_keeps e
  | .spireDone e => execSpireDone_keeps e
  | .spireAssert e ext => execSpireAssert_keeps e ext
  | .boundaryCap e => execBoundaryCap_keeps e
  | .controlStoreEccError e uncorr addr => execControlStoreEccError_keeps e uncorr addr
  | .ucsScrub q => execUcsScrub_keeps q
  | .ucodeQWr r q v => execUcodeQWr_keeps r q v
  | .ucodeArm r q v => execUcodeArm_keeps r q v
  | .ucodeQClear r q v => execUcodeQClear_keeps r q v
  | .ucodeQClearDone q => execUcodeQClearDone_keeps q
  | .digestStart r q v => execDigestStart_keeps r q v
  | .digestComplete q => execDigestComplete_keeps q
  | .bundleAbandon => execBundleAbandon_keeps
  | .linkChange p up aui => execLinkChange_keeps p up aui
  | .preemptVerify p ok => execPreemptVerify_keeps p ok
  | .restartAn r p v => execRestartAn_keeps r p v
  | .lifCntClr r p v => execLifCntClr_keeps r p v
  | .frameIngress p bytes rx => execFrameIngress_keeps p bytes rx
  | .dataPathAdvance f => execDataPathAdvance_keeps f
  | .frameEgress f chk => execFrameEgress_keeps f chk
  | .ptpHoldTimeout f => execPtpHoldTimeout_keeps f
  | .timeAvailable => execTimeAvailable_keeps
  | .flowAging k => execFlowAging_keeps k
  | .recordForget g k => execRecordForget_keeps g k
  | .rgWrite r g v => execRgWrite_keeps r g v
  | .saevtRead r => execSaevtRead_keeps r
  | .ptpSnap r v => execPtpSnap_keeps r v
  | .ptpStep r v => execPtpStep_keeps r v
  | .lockSet r set => execLockSet_keeps r set
  | .holdoverExpiry => execHoldoverExpiry_keeps
  | .svcFrameTx p bytes => execSvcFrameTx_keeps p bytes
  | .rotate r v => execRotate_keeps r v
  | .fillComplete => execFillComplete_keeps
  | .scrubPass find => execScrubPass_keeps find
  | .promotion c => execPromotion_keeps c
  | .switchAtReached c => execSwitchAtReached_keeps c
  | .drainEnd c => execDrainEnd_keeps c
  | .relinkNow r v => execRelinkNow_keeps r v
  | .relinkScanEnd => execRelinkScanEnd_keeps
  | .stackTempSample t => execStackTempSample_keeps t
  | .ctsCntClr r v => execCtsCntClr_keeps r v
  | .ctsCfgLock r v => execCtsCfgLock_keeps r v
  | .recoveryImage img => execRecoveryImage_keeps img
  | .svcStatus w => execSvcStatus_keeps w
  | .peerUp w => execPeerUp_keeps w
  | .peerDown w => execPeerDown_keeps w
  | .svcRekey w => execSvcRekey_keeps w
  | .groupRekey w => execGroupRekey_keeps w
  | .peerList w => execPeerList_keeps w
  | .svcHb v => execSvcHb_keeps v
  | .svcHeartbeatTimeout => execSvcHeartbeatTimeout_keeps
  | .ikeMessage m => execIkeMessage_keeps m
  | .childRekey k => execChildRekey_keeps k
  | .switchMsExpiry k => execSwitchMsExpiry_keeps k
  | .hardLifetime k => execHardLifetime_keeps k
  | .ikeDpd k ok => execIkeDpd_keeps k ok
  | .gdoiMessage m => execGdoiMessage_keeps m
  | .groupkeyPush g => execGroupkeyPush_keeps g
  | .groupReregister g => execGroupReregister_keeps g
  | .blobLoad r v => execBlobLoad_keeps r v
  | .bbkGen r v => execBbkGen_keeps r v
  | .eraseAll r v bad => execEraseAll_keeps r v bad
  | .keepCntClr r v => execKeepCntClr_keeps r v
  | .keepCfgLock r v => execKeepCfgLock_keeps r v
  | .sfevtRead r => execSfevtRead_keeps r
  | .dkeTake r c => execDkeTake_keeps r c
  | .dkeRelease r c => execDkeRelease_keeps r c
  | .dkeForce r c => execDkeForce_keeps r c
  | .dkeBlockBoundary c => execDkeBlockBoundary_keeps c
  | .dkeStart r c => execDkeStart_keeps r c
  | .dkeAbort r c => execDkeAbort_keeps r c
  | .dkeClear r c => execDkeClear_keeps r c
  | .keyingDone c => execKeyingDone_keeps c
  | .beatAbsorbed c chk => execBeatAbsorbed_keeps c chk
  | .finishDone c disagree chk => execFinishDone_keeps c disagree chk
  | .resultRead r c k => execResultRead_keeps r c k
  | .dkeCntClr r v => execDkeCntClr_keeps r v
  | .dkeCfgLock r v => execDkeCfgLock_keeps r v
  | .sfiData r c v => execSfiData_keeps r c v
  | .sfiEop r c n v => execSfiEop_keeps r c n v
  | .sfiFlush r c => execSfiFlush_keeps r c
  | .abortPkt r c => execAbortPkt_keeps r c
  | .underrun c => execUnderrun_keeps c
  | .startupTestEnd rep prop silent shakeOk drbgOk => execStartupTestEnd_keeps rep prop silent shakeOk drbgOk
  | .firstSeed => execFirstSeed_keeps
  | .healthTestFail n cause => execHealthTestFail_keeps n cause
  | .sourceRetest n pass => execSourceRetest_keeps n pass
  | .seedProduced => execSeedProduced_keeps
  | .reseed d => execReseed_keeps d
  | .rngRestart r v => execRngRestart_keeps r v
  | .rngDataRead r wide => execRngDataRead_keeps r wide
  | .rngRawsel r v => execRngRawsel_keeps r v
  | .rngMinSrcWrite r v => execRngMinSrcWrite_keeps r v
  | .rngCntClr r v => execRngCntClr_keeps r v
  | .rngLock r v => execRngLock_keeps r v
  | .detectorAlarm n d => execDetectorAlarm_keeps n d
  | .disagreement n d => execDisagreement_keeps n d
  | .blfSelftest r v => execBlfSelftest_keeps r v
  | .periodicSelftest => execPeriodicSelftest_keeps
  | .selftestResult n d pass => execSelftestResult_keeps n d pass
  | .blfFaultyDeclare r v => execBlfFaultyDeclare_keeps r v
  | .fusePgm r v => execFusePgm_keeps r v
  | .startWindowEnd => execStartWindowEnd_keeps
  | .heartbeatTimeout d => execHeartbeatTimeout_keeps d
  | .vigilAlarm n d => execVigilAlarm_keeps n d
  | .backupAlarm n hot => execBackupAlarm_keeps n hot
  | .vbatCheck mv => execVbatCheck_keeps mv
  | .vbatBrownout mv => execVbatBrownout_keeps mv
  | .vbatFirstApply => execVbatFirstApply_keeps
  | .clrEvt r v => execClrEvt_keeps r v
  | .clrFresh r v => execClrFresh_keeps r v
  | .blfCntClr r v => execBlfCntClr_keeps r v
  | .blfLock r v => execBlfLock_keeps r v
  | .lcsTransition r v => execLcsTransition_keeps r v
  | .dsProgram => execDsProgram_keeps
  | .wipeDone r v => execWipeDone_keeps r v
  | .transitionComplete => execTransitionComplete_keeps
  | .chalReq r v => execChalReq_keeps r v
  | .challengeExpiry => execChallengeExpiry_keeps
  | .tokStart r v => execTokStart_keeps r v
  | .tokenCheckDone => execTokenCheckDone_keeps
  | .sessionExpiry => execSessionExpiry_keeps
  | .endDebug r v => execEndDebug_keeps r v
  | .ownerPgm r v => execOwnerPgm_keeps r v
  | .lcsCntClr r v => execLcsCntClr_keeps r v
  | .tapIdcode => execTapIdcode_keeps
  | .samplePreload v => execSamplePreload_keeps v
  | .extest => execExtest_keeps
  | .extestPulse => execExtestPulse_keeps
  | .extestTrain => execExtestTrain_keeps
  | .clamp => execClamp_keeps
  | .highz => execHighz_keeps
  | .tapReset => execTapReset_keeps
  | .lcsStatus => execLcsStatus_keeps
  | .lcsChal => execLcsChal_keeps
  | .tokenLoad tok => execTokenLoad_keeps tok
  | .cupDbg op => execCupDbg_keeps op
  | .svcDbg op => execSvcDbg_keeps op
  | .regRead addr => execRegRead_keeps addr
  | .prodTest v => execProdTest_keeps v
  | .tapScan v => execTapScan_keeps v
  | .asyncDft v => execAsyncDft_keeps v
  | .tapBypass b => execTapBypass_keeps b
  | .faultMessage m => execFaultMessage_keeps m
  | .reactionEnd => execReactionEnd_keeps
  | .fltResume r => execFltResume_keeps r
  | .ldClr r => execLdClr_keeps r
  | .fltCntClr r => execFltCntClr_keeps r
  | .fltCfgLock r v => execFltCfgLock_keeps r v
  | .firstClear r => execFirstClear_keeps r
  | .stickyClear r v => execStickyClear_keeps r v
  | .fltMapWrite r k v => execFltMapWrite_keeps r k v
  | .msgLatch r => execMsgLatch_keeps r
  | .msgPop r => execMsgPop_keeps r
  | .eventRise src => execEventRise_keeps src
  | .evcPendClear r w v => execEvcPendClear_keeps r w v
  | .evcMaskWrite r w v => execEvcMaskWrite_keeps r w v
  | .evcCntClr r v => execEvcCntClr_keeps r v
  | .almanacWrite e bad => execAlmanacWrite_keeps e bad
  | .powerOnReset straps u => execPowerOnReset_keeps straps u
  | .pwrOkFall => execPwrOkFall_keeps
  | .systemReset => execSystemReset_keeps
  | .sysReset r v => execSysReset_keeps r v
  | .blockReset r v => execBlockReset_keeps r v
  | .pwrCntClr r v => execPwrCntClr_keeps r v
  | .pwrCfgLock r v => execPwrCfgLock_keeps r v
  | .clockFailure c => execClockFailure_keeps c
  | .clockReady c => execClockReady_keeps c
  | .ckgSelWrite r v => execCkgSelWrite_keeps r v
  | .paceValid idx mon => execPaceValid_keeps idx mon
  | .governorStep idx mon => execGovernorStep_keeps idx mon
  | .paceLow => execPaceLow_keeps
  | .avsFail => execAvsFail_keeps
  | .avsRecover => execAvsRecover_keeps
  | .tempSample tj pred pv => execTempSample_keeps tj pred pv
  | .boostReq r v => execBoostReq_keeps r v
  | .boostRampDone => execBoostRampDone_keeps
  | .boostEnd r v => execBoostEnd_keeps r v
  | .boostCreditExhausted => execBoostCreditExhausted_keeps
  | .vigilReq r v => execVigilReq_keeps r v
  | .vigilPinRequest => execVigilPinRequest_keeps
  | .vigilEntryDone => execVigilEntryDone_keeps
  | .vigilExit r v => execVigilExit_keeps r v
  | .vigilPinExit => execVigilPinExit_keeps
  | .vigilExitDone => execVigilExitDone_keeps
  | .lockstepMismatch => execLockstepMismatch_keeps
  | .warmRestart => execWarmRestart_keeps
  | .romRecoveryImage img => execRomRecoveryImage_keeps img
  | .mbxGo w r => execMbxGo_keeps w r
  | .mbxAbort w r => execMbxAbort_keeps w r
  | .mbxWrite bytes pec => execMbxWrite_keeps bytes pec
  | .mbxRead n => execMbxRead_keeps n
  | .mbxStatus => execMbxStatus_keeps
  | .bootStatus w => execBootStatus_keeps w
  | .mbxSensors w => execMbxSensors_keeps w
  | .almanacRead w => execAlmanacRead_keeps w
  | .mbxVersions w => execMbxVersions_keeps w
  | .updateBegin w => execUpdateBegin_keeps w
  | .updateEraseDone => execUpdateEraseDone_keeps
  | .updateData w => execUpdateData_keeps w
  | .updateEnd w => execUpdateEnd_keeps w
  | .updateCancel w => execUpdateCancel_keeps w
  | .updateTimeout => execUpdateTimeout_keeps
  | .updateStatus w => execUpdateStatus_keeps w
  | .arbCommit w => execArbCommit_keeps w
  | .autoCommit => execAutoCommit_keeps
  | .mbxActivate w => execMbxActivate_keeps w
  | .cfgkeyProgram w => execCfgkeyProgram_keeps w
  | .cfgkeyRevoke w => execCfgkeyRevoke_keeps w
  | .cupCfgLock r v => execCupCfgLock_keeps r v
  | .railSample v => execRailSample_keeps v
  | .sysrstNRelease u => execSysrstNRelease_keeps u
  | .pcieLinkUp => execPcieLinkUp_keeps
  | .supplyOutOfRange rail => execSupplyOutOfRange_keeps rail
  | .backupPower on => execBackupPower_keeps on
  | .hbmRefclkLongLoss => execHbmRefclkLongLoss_keeps
  | .ikeSaRekey k => execIkeSaRekey_keeps k
  | .rngRawRead r => execRngRawRead_keeps r
  | .msixUnmask fn v => execMsixUnmask_keeps fn v

/-- A nanosecond keeps all but device time, which moves on by one. -/
theorem State.tick_keeps (s : State) : Keeps false { s with time := s.time + 1 } s.tick := by
  unfold State.tick
  exact keeps_ite (State.activateTick_keeps (State.busyTick_keeps (State.ptpTick_keeps (Keeps.refl _ _)))) (Keeps.refl _ _)

theorem step_idle (s : State) (h : s.pending = []) : step s = .next s.tick := by
  simp only [step, h]

theorem step_command (s : State) (c : Instr) (cs : List Instr) (h : s.pending = c :: cs) :
    step s = exec c { s with pending := cs } := by
  simp only [step, h]

/-- A step keeps what its command keeps, from the state with the rest of the queue, or what a nanosecond keeps. -/
theorem step_keeps (s t : State) (h : step s = .next t) :
    ∃ n cs, cs <:+ s.pending ∧ Keeps false { s with time := n, pending := cs } t := by
  cases hp : s.pending with
  | nil =>
    rw [step_idle s hp, Host.Outcome.next.injEq] at h
    subst h
    exact ⟨s.time + 1, [], List.suffix_rfl, by simpa only [← hp] using s.tick_keeps⟩
  | cons c cs =>
    rw [step_command s c cs hp] at h
    exact ⟨s.time, cs, List.suffix_cons c cs, (exec_keeps c _ t h).loud⟩

/-! ### The obligations on one step and on reset -/

/-- Settles O1: it is `step`'s equation on a queue with a command in front. -/
theorem stepRunsFrontCommand : Obligations.StepRunsFrontCommand :=
  fun c cs s => step_command { s with pending := c :: cs } c cs rfl

/-- Settles O2: a nanosecond keeps the queue and the time it has reached. -/
theorem idleStepPassesTime : Obligations.IdleStepPassesTime := by
  intro s hp
  have hk := s.tick_keeps
  exact ⟨s.tick, step_idle s hp, hk.time, hk.pending.trans hp, fun hcore => by simp [State.tick, hcore]⟩

/-- At reset every register reads its reset value, for no register is listed. -/
theorem State.rd_reset (o : Nat) : State.reset.rd o = regReset o := rfl

theorem regReset_special (o v : Nat) (h : specialReset o = some v) : regReset o = BitVec.ofNat 32 v := by
  simp only [regReset, h]

/-- Q_PRIO at reset: class 2 (1 in group 31) with weight 1 (R70). -/
theorem specialReset_qPrio (q : Fin 4096) :
    specialReset (R.Q_PRIO q) = some ((if q.val / 128 = 31 then 1 else 2) + 256) := by
  have hq := q.isLt
  have ho : R.Q_PRIO q = 0x100008 + q.val * 0x100 := by unfold R.Q_PRIO; omega
  rw [ho]
  unfold specialReset
  rw [if_neg (by omega), if_neg (by omega), if_neg (by omega), if_neg (by omega), if_pos (by omega)]
  congr 2
  split <;> split <;> omega

/-- Settles O3: reset lists no register, so each reads its reset value; a queue's PRIO is `specialReset_qPrio`, the rest is
finite. -/
theorem resetRegisterValues : Obligations.ResetRegisterValues := by
  unfold Obligations.ResetRegisterValues
  refine ⟨rfl, State.rd_reset, by decide, fun q => ?prio, by decide, by decide, by decide⟩
  have hrd : State.reset.rd (R.Q_PRIO q) = BitVec.ofNat 32 ((if q.val / 128 = 31 then 1 else 2) + 256) :=
    regReset_special _ _ (specialReset_qPrio q)
  show fieldGet 8 4 (State.reset.rd (R.Q_PRIO q)) = 1 ∧ fieldGet 0 2 (State.reset.rd (R.Q_PRIO q)) = _
  rw [hrd]
  split <;> exact ⟨by decide, by decide⟩

/-- Settles O4: at reset nothing waits and nothing is stored. -/
theorem resetIsWellFormed : Obligations.ResetIsWellFormed := ⟨rfl, rfl, rfl⟩

/-! ### The obligations on every step -/

/-- Settles O5: the forms of the memories and registers are kept by `step_keeps`, and the queue only loses its front. -/
theorem everyStepKeepsForms : Obligations.EveryStepKeepsForms := by
  intro s t hqueue hmem hregs h
  obtain ⟨n, cs, hcs, hk⟩ := step_keeps s t h
  refine ⟨?_, hk.mem hmem, hk.regs hregs⟩
  have hall : ∀ c ∈ s.pending, c.wf = true := List.all_eq_true.1 hqueue
  unfold State.queueWf
  rw [hk.pending]
  exact List.all_eq_true.2 fun c hc => hall c (hcs.subset hc)

/-- Settles O6. -/
theorem otpOnlyGrows : Obligations.OtpOnlyGrows := by
  intro s t h
  obtain ⟨n, cs, -, hk⟩ := step_keeps s t h
  exact hk.otp

/-- Settles O14. -/
theorem jobNumbersStayDistinct : Obligations.JobNumbersStayDistinct := by
  unfold Obligations.JobNumbersStayDistinct
  refine ⟨⟨List.nodup_nil, fun j hj => absurd hj List.not_mem_nil⟩, fun s t hs h => ?_⟩
  obtain ⟨n, cs, -, hk⟩ := step_keeps s t h
  exact hk.jobs hs

end Sys2Proof.Machine
end

section
/-! PROOF. Counters that are zeroed together (R16), and the generic write of a register that locks itself (R12). -/

namespace Sys2Proof.Machine

/-! ### Bits of a written word -/

/-- A bit that a mask leaves visible. -/
theorem getLsbD_of_mask (v m w : Word) (h : v &&& m = w) (i : Nat) (hi : m.getLsbD i = true) : v.getLsbD i = w.getLsbD i := by
  rw [← h, BitVec.getLsbD_and, hi, Bool.and_true]

theorem bit_toNat (v : Word) (i : Nat) : bit v.toNat i = v.getLsbD i := rfl

theorem bit_or (v c : Word) (i : Nat) : bit (v ||| c).toNat i = (v.getLsbD i || c.getLsbD i) := BitVec.getLsbD_or

/-- A bit that the command sets. -/
theorem bit_or_set (v c : Word) (i : Nat) (hc : c.getLsbD i = true) : bit (v ||| c).toNat i = true := by
  rw [bit_or, hc, Bool.or_true]

/-- A bit that the command leaves as written. -/
theorem bit_or_kept (v c : Word) (i : Nat) (hc : c.getLsbD i = false) : bit (v ||| c).toNat i = v.getLsbD i := by
  rw [bit_or, hc, Bool.or_false]

/-- A bit of which a mask says how it is written. -/
theorem bit_or_masked {v m w : Word} (h : v &&& m = w) (c : Word) (i : Nat) (b : Bool) (hm : m.getLsbD i = true)
    (hb : (w.getLsbD i || c.getLsbD i) = b) : bit (v ||| c).toNat i = b := by
  rw [bit_or, getLsbD_of_mask v m w h i hm, hb]

/-! ### Counters zeroed together -/

/-- The counters at the listed offsets zeroed, in order. -/
def State.clearAll (s : State) (os : List Nat) : State := os.foldl State.cntClear s

@[simp] theorem State.clearAll_nil (s : State) : s.clearAll [] = s := rfl

theorem State.clearAll_append (s : State) (os ps : List Nat) : s.clearAll (os ++ ps) = (s.clearAll os).clearAll ps :=
  List.foldl_append

theorem countersAt_succ (o n : Nat) : countersAt o (n + 1) = o :: countersAt (o + 8) n := by
  simp only [countersAt, List.range_succ_eq_map, List.map_cons, List.map_map, Nat.mul_zero, Nat.add_zero]
  congr 1
  exact List.map_congr_left fun k _ => by simp only [Function.comp_apply]; omega

theorem State.cntClearN_eq (s : State) (o n : Nat) : s.cntClearN o n = s.clearAll (countersAt o n) := by
  induction n generalizing s o with
  | zero => rfl
  | succ n ih =>
    rw [State.cntClearN, ih, countersAt_succ]
    rfl

/-- The SAT bit of the counter at an offset, if it has one, lies in one of the registers `sat`. -/
def satIn (sat : List Nat) (o : Nat) : Bool := (satOf o).all fun f => sat.contains f.off && decide (f.lo + f.width ≤ 32)

theorem satIn_iff (sat : List Nat) (o : Nat) :
    satIn sat o = true ↔ ∀ f, satOf o = some f → f.off ∈ sat ∧ f.lo + f.width ≤ 32 := by
  simp [satIn, Option.all_eq_true]

/-- A cleared field sets no bit of another. -/
theorem State.on_clr_of_off (s : State) (f g : Fld) (h : s.on g = false) : (s.clr f).on g = false := by
  have hzero : ∀ x : State, x.on g = false ↔ ∀ i < g.width, (x.rd g.off).toNat.testBit (g.lo + i) = false := fun x => by
    simp only [State.on, State.get, fieldGet, bne_eq_false_iff_eq]
    constructor
    · intro hx i hi
      have := bits_testBit (x.rd g.off).toNat g.lo g.width i
      simpa [hx, hi] using this
    · intro hx
      refine Nat.eq_of_testBit_eq fun i => ?_
      rw [bits_testBit, Nat.zero_testBit]
      by_cases hi : i < g.width
      · rw [hx i hi, Bool.and_false]
      · simp [hi]
  rw [hzero] at h ⊢
  intro i hi
  rw [State.clr, State.put, State.rd_wr]
  split
  · next ho =>
    rcases Nat.lt_or_ge (g.lo + i) 32 with hlt | hge
    · rw [fieldSet_testBit _ _ _ _ _ hlt, Nat.zero_testBit, ← ho, h i hi, ite_self]
    · exact Nat.testBit_lt_two_pow (lt_of_lt_of_le (BitVec.isLt _) (Nat.pow_le_pow_right (by decide) hge))
  · exact h i hi

theorem State.on_cntClear_of_off (s : State) (o : Nat) (g : Fld) (h : s.on g = false) : (s.cntClear o).on g = false := by
  unfold State.cntClear
  dsimp only
  split
  · exact State.on_clr_of_off _ _ _ h
  · exact h

theorem State.on_cntClear_sat (s : State) (o : Nat) (f : Fld) (hf : satOf o = some f) (h : f.lo + f.width ≤ 32) :
    (s.cntClear o).on f = false := by
  unfold State.cntClear
  rw [hf]
  exact State.on_clr_self _ _ h

theorem State.onlyCounters_cntClear (s : State) (o : Nat) : OnlyCounters s (s.cntClear o) := by
  unfold State.cntClear
  dsimp only
  split <;> rfl

theorem OnlyCounters.trans {s t u : State} (h : OnlyCounters s t) (k : OnlyCounters t u) : OnlyCounters s u := by
  rw [OnlyCounters] at h k ⊢
  rw [k, h]

theorem OnlyRegs.onlyCounters {s t : State} (h : OnlyRegs s t) : OnlyCounters s t := by
  rw [OnlyRegs] at h
  rw [OnlyCounters, h]

/-- An update that zeroes nothing: it touches the registers `sat` only. -/
theorem zeroes_none {sat : List Nat} {s t : State} (hr : SameRegsBut sat s t) (ho : OnlyRegs s t) : Zeroes [] sat s t := by
  refine ⟨fun o ho => absurd ho List.not_mem_nil, fun o _ => ?_, hr, ho.onlyCounters⟩
  rw [OnlyRegs] at ho
  rw [ho]
  exact ⟨rfl, rfl⟩

/-- One more counter zeroed. -/
theorem Zeroes.cntClear {os sat : List Nat} {s t : State} (h : Zeroes os sat s t) (o : Nat) (ho : satIn sat o = true) :
    Zeroes (os ++ [o]) sat s (t.cntClear o) := by
  obtain ⟨hzero, hcount, hregs, honly⟩ := h
  rw [satIn_iff] at ho
  refine ⟨fun p hp => ?_, fun p hp => ?_, fun p hp => ?_, honly.trans (t.onlyCounters_cntClear o)⟩
  · rw [State.cntGet_cntClear, State.copy_cntClear]
    by_cases hpo : p = o
    · subst hpo
      exact ⟨if_pos rfl, if_pos rfl, fun f hf => t.on_cntClear_sat p f hf (ho f hf).2⟩
    · obtain ⟨hlive, hcopy, hsat⟩ := hzero p ((List.mem_append.1 hp).resolve_right (by simpa using hpo))
      rw [if_neg hpo, if_neg hpo]
      exact ⟨hlive, hcopy, fun f hf => t.on_cntClear_of_off o f (hsat f hf)⟩
  · rw [List.mem_append, List.mem_singleton, not_or] at hp
    rw [State.cntGet_cntClear, State.copy_cntClear, if_neg hp.2, if_neg hp.2]
    exact hcount p hp.1
  · rw [State.rd_cntClear t o p fun f hf e => hp (e ▸ (ho f hf).1)]
    exact hregs p hp

theorem Zeroes.clearAll {os sat : List Nat} {s t : State} (h : Zeroes os sat s t) (ps : List Nat)
    (hp : ∀ o ∈ ps, satIn sat o = true) : Zeroes (os ++ ps) sat s (t.clearAll ps) := by
  induction ps generalizing os t with
  | nil => rwa [List.append_nil]
  | cons o ps ih =>
    have := ih (h.cntClear o (hp o (List.mem_cons_self ..))) fun p hm => hp p (List.mem_cons_of_mem _ hm)
    rwa [List.append_assoc] at this

/-- The counters of a list zeroed, after an update of the registers `sat`. -/
theorem zeroes_clearAll {sat : List Nat} {s t : State} (os : List Nat) (hr : SameRegsBut sat s t) (ho : OnlyRegs s t)
    (hos : ∀ o ∈ os, satIn sat o = true) : Zeroes os sat s (t.clearAll os) :=
  (zeroes_none hr ho).clearAll os hos

theorem zeroes_clearAll_self {sat : List Nat} (s : State) (os : List Nat) (hos : ∀ o ∈ os, satIn sat o = true) :
    Zeroes os sat s (s.clearAll os) :=
  zeroes_clearAll os (.refl sat s) rfl hos

/-- A register that holds no SAT bit of the zeroed counters. -/
theorem State.rd_clearAll (s : State) (os sat : List Nat) (hos : ∀ o ∈ os, satIn sat o = true) (p : Nat) (hp : p ∉ sat) :
    (s.clearAll os).rd p = s.rd p := by
  obtain ⟨-, -, hregs, -⟩ := zeroes_clearAll_self s os hos
  exact hregs p hp

theorem State.on_clearAll (s : State) (os sat : List Nat) (hos : ∀ o ∈ os, satIn sat o = true) (f : Fld) (hf : f.off ∉ sat) :
    (s.clearAll os).on f = s.on f := by
  rw [State.on, State.get, s.rd_clearAll os sat hos _ hf, State.on, State.get]

/-- A field written beside the SAT bits of counters that are zeroed. -/
theorem Zeroes.put {os ps sat : List Nat} {s t : State} (h : Zeroes os sat s t) (hos : ∀ o ∈ os, satIn ps o = true) (f : Fld)
    (x : Nat) (hf : f.off ∈ sat) (hp : f.off ∉ ps) : Zeroes os sat s (t.put f x) := by
  obtain ⟨hzero, hcount, hregs, honly⟩ := h
  refine ⟨fun o ho => ?_, hcount, hregs.put f x hf, honly.trans rfl⟩
  obtain ⟨hlive, hcopy, hsat⟩ := hzero o ho
  refine ⟨hlive, hcopy, fun g hg => (State.on_put_apart t f g x (.inl fun e => hp ?_)).trans (hsat g hg)⟩
  exact e ▸ ((satIn_iff ps o).1 (hos o ho) g hg).1

/-! ### A field stored as it stands -/

theorem fieldSet_fieldGet (lo w : Nat) (v : Word) : fieldSet lo w v (fieldGet lo w v) = v := by
  apply BitVec.eq_of_toNat_eq
  refine Nat.eq_of_testBit_eq fun i => ?_
  rcases Nat.lt_or_ge i 32 with hi | hi
  · rw [fieldSet_testBit _ _ _ _ _ hi, fieldGet, bits_testBit]
    split
    · next h =>
      have hlt : i - lo < w := by omega
      have hadd : lo + (i - lo) = i := by omega
      rw [hadd, decide_eq_true hlt, Bool.true_and]
    · rfl
  · have hpow : (2 : Nat) ^ 32 ≤ 2 ^ i := Nat.pow_le_pow_right (by decide) hi
    rw [Nat.testBit_lt_two_pow (lt_of_lt_of_le (BitVec.isLt _) hpow), Nat.testBit_lt_two_pow (lt_of_lt_of_le (BitVec.isLt _) hpow)]

theorem fieldGet_bit (i : Nat) (v : Word) : fieldGet i 1 v = (v.getLsbD i).toNat := by
  rw [fieldGet, bits, Nat.pow_one, Nat.shiftRight_eq_div_pow, ← Nat.toNat_testBit, BitVec.testBit_toNat]

/-! ### A register that locks itself (R12) -/

/-- The fields of a register that LOCK makes read only: every field RWL but LOCK itself, the last. -/
def lockableFields (fs : List FieldSpec) : Bool :=
  fs.dropLast.all (fun f => f.acc == .rwl && decide (f.lo + f.width ≤ 31)) &&
    fs.getLast?.any (fun f => f.lo == 31 && f.width == 1 && f.acc == .w1s)

/-- The register at an offset is locked by its own bit 31. -/
def selfLocked (o : Nat) : Bool :=
  lockOf o == some ⟨o, 31, 1⟩ && (specAt o).any fun r => lockableFields r.1.fields

/-- What a write with LOCK = 1 does to such a register. -/
def LocksItself (o : Nat) (s t : State) : Prop :=
  t.on ⟨o, 31, 1⟩ = true ∧ SameRegsBut [o] s t ∧ OnlyRegs s t ∧ (s.on ⟨o, 31, 1⟩ = true → t.rd o = s.rd o)

/-- The fold of `r12Write` over RWL fields that are locked changes nothing. -/
theorem foldl_write_locked (fs : List FieldSpec) (old new : Word) (h : ∀ f ∈ fs, f.acc = .rwl) :
    fs.foldl (fun w f => fieldSet f.lo f.width w
      (f.write true (fieldGet f.lo f.width old) (fieldGet f.lo f.width new))) old = old := by
  induction fs with
  | nil => rfl
  | cons f fs ih =>
    have hf : f.write true (fieldGet f.lo f.width old) (fieldGet f.lo f.width new) = fieldGet f.lo f.width old := by
      simp [FieldSpec.write, h f (List.mem_cons_self ..)]
    rw [List.foldl_cons, hf, fieldSet_fieldGet]
    exact ih fun g hg => h g (List.mem_cons_of_mem _ hg)

/-- The two parts of a write of lockable fields: the RWL fields, and LOCK, which is written 1. -/
theorem r12Write_lockable (fs : List FieldSpec) (locked : Bool) (old new : Word) (h : lockableFields fs = true)
    (hnew : fieldGet 31 1 new = 1) : ∃ gs, (∀ f ∈ gs, f.acc = .rwl) ∧
      r12Write fs locked old new = fieldSet 31 1 (r12Write gs locked old new) 1 := by
  obtain ⟨hall, hlast⟩ : _ ∧ _ := by simpa only [lockableFields, Bool.and_eq_true] using h
  obtain ⟨f, hmem, hf⟩ : ∃ f, fs.getLast? = some f ∧ _ := (Option.any_eq_true _ _).1 hlast
  obtain ⟨⟨hlo, hw⟩, hacc⟩ : (f.lo = 31 ∧ f.width = 1) ∧ f.acc = .w1s := by simpa using hf
  refine ⟨fs.dropLast, fun g hg => ?_, ?_⟩
  · have := List.all_eq_true.1 hall g hg
    simp only [Bool.and_eq_true, beq_iff_eq] at this
    exact this.1
  · have hval : f.write locked (fieldGet 31 1 old) 1 = 1 := by
      have hbit : fieldGet 31 1 old = 0 ∨ fieldGet 31 1 old = 1 := by
        rw [fieldGet_bit]
        cases old.getLsbD 31 <;> simp
      rcases hbit with hb | hb <;> simp [FieldSpec.write, hacc, hb]
    have hsplit : fs = fs.dropLast ++ [f] := (List.dropLast_append_getLast? f hmem).symm
    conv_lhs => rw [r12Write, hsplit, List.foldl_append, List.foldl_cons, List.foldl_nil, hlo, hw, hnew, hval]
    rfl

/-- A write with LOCK = 1 locks the register, and leaves one that was locked as it is. -/
theorem State.wrGeneric_locks (s : State) (o : Nat) (v : Word) (ho : selfLocked o = true) (hv : fieldGet 31 1 v = 1) :
    LocksItself o s (s.wrGeneric o v) := by
  obtain ⟨hlock, hspec⟩ : lockOf o = some ⟨o, 31, 1⟩ ∧ _ := by simpa only [selfLocked, Bool.and_eq_true, beq_iff_eq] using ho
  obtain ⟨⟨r, i⟩, hat, hfs⟩ := (Option.any_eq_true _ _).1 hspec
  obtain ⟨gs, hgs, hwrite⟩ := r12Write_lockable r.fields (s.locked o) (s.rd o) v hfs hv
  have hgen : s.wrGeneric o v = s.wr o (fieldSet 31 1 (r12Write gs (s.locked o) (s.rd o) v) 1) := by
    simp only [State.wrGeneric, hat, hwrite]
  rw [hgen]
  refine ⟨?_, fun p hp => State.rd_wr_of_ne _ _ _ _ (by simpa using hp), rfl, fun hon => ?_⟩
  · rw [State.on, State.get, State.rd_wr_self, fieldGet_fieldSet_self 31 1 _ 1 (by decide)]
    rfl
  · have hlocked : s.locked o = true := by simp only [State.locked, hlock, hon]
    have hone : fieldGet 31 1 (s.rd o) = 1 := by
      rw [State.on_bit] at hon
      rw [fieldGet_bit, hon]
      rfl
    rw [State.rd_wr_self, hlocked, r12Write, foldl_write_locked gs _ _ hgs]
    exact (congrArg (fieldSet 31 1 (s.rd o)) hone.symm).trans (fieldSet_fieldGet 31 1 _)

/-- Bit 31 of the word written by a command that sets LOCK. -/
theorem fieldGet_lockBit (v : Word) : fieldGet 31 1 (v ||| 0x80000000) = 1 := by
  rw [fieldGet_bit, BitVec.getLsbD_or]
  simp

/-- The checked fields of a written word that keep their value leave LOCK as written. -/
theorem fieldGet_lockBit_kept (v : Word) (lo w x : Nat) (h : lo + w ≤ 31) (hv : fieldGet 31 1 v = 1) :
    fieldGet 31 1 (fieldSet lo w v x) = 1 := by
  rw [fieldGet_fieldSet_apart _ _ _ _ _ _ (.inl h), hv]

end Sys2Proof.Machine
end

section
/-! PROOF. O11: the CNT_CLR and CNT_SNAP bits (R16, R76), and the LOCK bits (R12). -/

namespace Sys2Proof.Machine

/-! ### CNT_CLR of a block -/

section
variable (s : State) (r : Req) (v : Word)

theorem evcCntClr_zeroes (h : s.mayWrite r R.EVC_CTL) :
    ∃ t, exec (.evcCntClr r v) s = .next t ∧ Zeroes (countersAt (R.EVC_CNT 0) 3) [R.EVC_SAT] s t := by
  have hexec : exec (.evcCntClr r v) s = .next (s.evcCtlWrite (v ||| 0x100)) :=
    congrArg Host.Outcome.next (s.gateW_granted r R.EVC_CTL _ h)
  rw [State.evcCtlWrite, bit_or, State.cntClearN_eq, if_pos (by simp)] at hexec
  exact ⟨_, hexec, zeroes_clearAll_self s _ (by decide)⟩

theorem keepCntClr_zeroes (h : s.mayWrite r R.KEEP_CTL) (h0 : v.getLsbD 0 = false) :
    ∃ t, exec (.keepCntClr r v) s = .next t ∧ Zeroes (countersAt (R.KEEP_CNT 0) 9) [R.KEEP_SAT] s t := by
  have hexec : exec (.keepCntClr r v) s = .next (s.keepCtlWrite 0 (v ||| 0x100)) :=
    congrArg Host.Outcome.next (s.gateW_granted r R.KEEP_CTL _ h)
  have hwrite : s.keepCtlWrite 0 (v ||| 0x100) = s.clearAll (countersAt (R.KEEP_CNT 0) 9) := by
    simp only [State.keepCtlWrite, State.cntClearN_eq, bit_or_set v 0x100 8 (by decide),
      (bit_or_kept v 0x100 0 (by decide)).trans h0, if_true, Bool.false_eq_true, if_false]
  exact ⟨_, hexec.trans (congrArg _ hwrite), zeroes_clearAll_self s _ (by decide)⟩

theorem fltCntClr_zeroes (h : s.mayWrite r R.FLT_CTL) :
    ∃ t, exec (.fltCntClr r) s = .next t ∧ Zeroes (countersAt (R.FLT_KCNT 0) 32) [R.FLT_KSAT] s t := by
  have hexec : exec (.fltCntClr r) s = .next (s.fltCtlWrite r 0x100) :=
    congrArg Host.Outcome.next (s.gateW_granted r R.FLT_CTL _ h)
  have hwrite : s.fltCtlWrite r 0x100 = s.clearAll (countersAt (R.FLT_KCNT 0) 32) := by
    rw [← State.cntClearN_eq]
    rfl
  rw [hwrite] at hexec
  exact ⟨_, hexec, zeroes_clearAll_self s _ (by decide)⟩

theorem lcsCntClr_zeroes (h : s.mayWrite .cupola R.LCS_CTL) (hv : v &&& 0x1F = 0) :
    ∃ t, exec (.lcsCntClr .cupola v) s = .next t ∧ Zeroes (countersAt (R.LCS_CNT 0) 5) [R.LCS_SAT] s t := by
  have hexec : exec (.lcsCntClr .cupola v) s = .next (s.lcsCtlWrite .cupola (v ||| 0x100)) :=
    congrArg Host.Outcome.next (s.gateW_granted .cupola R.LCS_CTL _ h)
  have hlow : ∀ i < 5, bit (v ||| 0x100).toNat i = false := fun i hi =>
    bit_or_masked hv 0x100 i false (by interval_cases i <;> decide) (by interval_cases i <;> decide)
  have hwrite : s.lcsCtlWrite .cupola (v ||| 0x100) = s.clearAll (countersAt (R.LCS_CNT 0) 5) := by
    simp only [State.lcsCtlWrite, State.cntClearN_eq, bit_or_set v 0x100 8 (by decide), hlow 0 (by decide), hlow 1 (by decide),
      hlow 2 (by decide), hlow 3 (by decide), hlow 4 (by decide), if_true, Bool.false_eq_true, if_false, ne_eq, not_true_eq_false, false_and]
  exact ⟨_, hexec.trans (congrArg _ hwrite), zeroes_clearAll_self s _ (by decide)⟩

theorem pwrCntClr_zeroes (h : s.mayWrite r R.PWR_CTL) (hv : v &&& 0x1F = 0) :
    ∃ t, exec (.pwrCntClr r v) s = .next t ∧ Zeroes (countersAt (R.PWR_CNT 0) 7) [R.PWR_SAT] s t := by
  have hexec : exec (.pwrCntClr r v) s = .next (s.pwrCtlWrite (v ||| 0x100)) :=
    congrArg Host.Outcome.next (s.gateW_granted r R.PWR_CTL _ h)
  have hlow : ∀ i < 5, bit (v ||| 0x100).toNat i = false := fun i hi =>
    bit_or_masked hv 0x100 i false (by interval_cases i <;> decide) (by interval_cases i <;> decide)
  have hwrite : s.pwrCtlWrite (v ||| 0x100) = s.clearAll (countersAt (R.PWR_CNT 0) 7) := by
    simp only [State.pwrCtlWrite, State.cntClearN_eq, bit_or_set v 0x100 8 (by decide), hlow 0 (by decide), hlow 1 (by decide),
      hlow 2 (by decide), hlow 3 (by decide), hlow 4 (by decide), if_true, Bool.false_eq_true, if_false]
  exact ⟨_, hexec.trans (congrArg _ hwrite), zeroes_clearAll_self s _ (by decide)⟩

theorem rngCntClr_zeroes (h : s.mayWrite r R.RNG_CTL) (hv : v &&& 0x80000001 = 0) :
    ∃ t, exec (.rngCntClr r v) s = .next t ∧ Zeroes (countersAt (R.RNG_CNT 0) 8) [R.RNG_SAT] s t := by
  have hexec : exec (.rngCntClr r v) s = .next (s.rngCtlWrite r (v ||| 0x100)) :=
    congrArg Host.Outcome.next (s.gateW_granted r R.RNG_CTL _ h)
  have h0 := bit_or_masked hv 0x100 0 false (by decide) (by decide)
  have h31 := bit_or_masked hv 0x100 31 false (by decide) (by decide)
  have hwrite : s.rngCtlWrite r (v ||| 0x100) = s.clearAll (countersAt (R.RNG_CNT 0) 8) := by
    simp only [State.rngCtlWrite, State.cntClearN_eq, bit_or_set v 0x100 8 (by decide), h0, h31, if_true, Bool.false_eq_true,
      if_false, Bool.not_false]
  exact ⟨_, hexec.trans (congrArg _ hwrite), zeroes_clearAll_self s _ (by decide)⟩

theorem blfCntClr_zeroes (h : s.mayWrite r R.BLF_CTL) (hv : v &&& 0x80000001 = 0) :
    ∃ t, exec (.blfCntClr r v) s = .next t ∧
      Zeroes (countersAt (R.BLF_ALM_CNT 0) 14 ++ countersAt (R.BLF_DIS_CNT 0) 14 ++ countersAt (R.BLF_FILTC 0) 14)
        [R.BLF_SAT0, R.BLF_SAT1, R.BLF_SAT2] s t := by
  have hexec : exec (.blfCntClr r v) s = .next (s.blfCtlWrite (v ||| 0x100)) :=
    congrArg Host.Outcome.next (s.gateW_granted r R.BLF_CTL _ h)
  have h0 := bit_or_masked hv 0x100 0 false (by decide) (by decide)
  have h31 := bit_or_masked hv 0x100 31 false (by decide) (by decide)
  have hwrite : s.blfCtlWrite (v ||| 0x100) = s.clearAll
      (countersAt (R.BLF_ALM_CNT 0) 14 ++ countersAt (R.BLF_DIS_CNT 0) 14 ++ countersAt (R.BLF_FILTC 0) 14) := by
    simp only [State.blfCtlWrite, State.cntClearN_eq, State.clearAll_append, bit_or_set v 0x100 8 (by decide), h0, h31, if_true,
      Bool.false_eq_true, if_false]
  exact ⟨_, hexec.trans (congrArg _ hwrite), zeroes_clearAll_self s _ (by decide)⟩

/-- SCRUB_EN is assigned by the same word (R303). -/
theorem ctsCntClr_zeroes (h : s.mayWrite r R.CTS_CTL) (hv : v &&& 5 = 0) :
    ∃ t, exec (.ctsCntClr r v) s = .next t ∧ t.on F.CTS_CTL_SCRUB_EN = v.getLsbD 1 ∧
      Zeroes (countersAt (R.CTS_CNT 0) 11) [R.CTS_CTL, R.CTS_SAT] s t := by
  have hexec : exec (.ctsCntClr r v) s = .next (s.ctsCtlWrite r (v ||| 0x100)) :=
    congrArg Host.Outcome.next (s.gateW_granted r R.CTS_CTL _ h)
  have h0 := bit_or_masked hv 0x100 0 false (by decide) (by decide)
  have h2 := bit_or_masked hv 0x100 2 false (by decide) (by decide)
  have hsat : ∀ o ∈ countersAt (R.CTS_CNT 0) 11, satIn [R.CTS_SAT] o = true := by decide
  have hwrite : s.ctsCtlWrite r (v ||| 0x100) =
      (s.putB F.CTS_CTL_SCRUB_EN (v.getLsbD 1)).clearAll (countersAt (R.CTS_CNT 0) 11) := by
    simp only [State.ctsCtlWrite, State.cntClearN_eq, bit_or_set v 0x100 8 (by decide), bit_or_kept v 0x100 1 (by decide), h0, h2,
      if_true, Bool.false_eq_true, if_false, Bool.false_and]
  refine ⟨_, hexec.trans (congrArg _ hwrite), ?_, zeroes_clearAll _ ((SameRegsBut.refl _ s).put F.CTS_CTL_SCRUB_EN _ (by simp)) rfl (by decide)⟩
  refine (State.on_clearAll _ _ _ hsat F.CTS_CTL_SCRUB_EN (by decide)).trans ?_
  exact State.on_putB_self _ _ _ (by decide) rfl

theorem dkeCntClr_zeroes (h : s.mayWrite r R.DKE_GCTL) :
    ∃ t, exec (.dkeCntClr r v) s = .next t ∧
      Zeroes (countersAt (R.DKE_CNT 0) 8 ++ (List.range 4).flatMap (fun c => countersAt (R.SFI_CNT c 0) 4))
        [R.DKE_SAT, R.SFI_SAT 0, R.SFI_SAT 1, R.SFI_SAT 2, R.SFI_SAT 3] s t := by
  have hexec : exec (.dkeCntClr r v) s = .next (s.dkeGctlWrite (v ||| 1)) :=
    congrArg Host.Outcome.next (s.gateW_granted r R.DKE_GCTL _ h)
  have hfold : ∀ (cs : List Nat) (x : State), cs.foldl (fun s c => s.cntClearN (R.SFI_CNT c 0) 4) x =
      x.clearAll (cs.flatMap fun c => countersAt (R.SFI_CNT c 0) 4) := fun cs x => by
    induction cs generalizing x with
    | nil => rfl
    | cons c cs ih => rw [List.foldl_cons, ih, State.cntClearN_eq, List.flatMap_cons, State.clearAll_append]
  rw [State.dkeGctlWrite, bit_or, if_pos (by simp), hfold, State.cntClearN_eq, ← State.clearAll_append] at hexec
  exact ⟨_, hexec, zeroes_clearAll_self s _ (by decide)⟩

end

/-! ### CNT_CLR of a port -/

theorem satIn_lif : ∀ p : Fin 16, ∀ o ∈ countersAt (R.LIF_CNT p 0) 10 ++ countersAt (R.LIF_DROP p 0) 32,
    satIn [R.LIF_SAT0 p, R.LIF_SAT1 p] o = true := by decide +kernel

/-- EN and LOOPBACK are assigned by the same word (R238). -/
theorem lifCntClr_zeroes (s : State) (r : Req) (v : Word) (p : Fin 16) (h : s.mayWrite r (R.LIF_PCTL p))
    (hact : s.portActive p = true) (hv : v &&& 0x101 = 1) :
    ∃ t, exec (.lifCntClr r p v) s = .next t ∧ t.on (F.LIF_PCTL_EN p) = true ∧
      t.on (F.LIF_PCTL_LOOPBACK p) = v.getLsbD 1 ∧
      Zeroes (countersAt (R.LIF_CNT p 0) 10 ++ countersAt (R.LIF_DROP p 0) 32)
        [R.LIF_PCTL p, R.LIF_SAT0 p, R.LIF_SAT1 p] s t := by
  have hexec : exec (.lifCntClr r p v) s = .next (s.pctlWrite p (v ||| 0x200)) :=
    congrArg Host.Outcome.next (s.gateW_granted r (R.LIF_PCTL p) _ h)
  have h0 := bit_or_masked hv 0x200 0 true (by decide) (by decide)
  have h8 := bit_or_masked hv 0x200 8 false (by decide) (by decide)
  have hwrite : s.pctlWrite p (v ||| 0x200) = ((s.putB (F.LIF_PCTL_EN p) true).putB (F.LIF_PCTL_LOOPBACK p) (v.getLsbD 1)).clearAll
      (countersAt (R.LIF_CNT p 0) 10 ++ countersAt (R.LIF_DROP p 0) 32) := by
    simp only [State.pctlWrite, State.lifCntClr, State.cntClearN_eq, State.clearAll_append, bit_or_set v 0x200 9 (by decide),
      bit_or_kept v 0x200 1 (by decide), h0, h8, hact, if_true, Bool.false_eq_true, if_false, Bool.false_and, Bool.true_and]
  have hsat := satIn_lif p
  have hregs : ∀ x y, SameRegsBut [R.LIF_PCTL p, R.LIF_SAT0 p, R.LIF_SAT1 p] s
      ((s.putB (F.LIF_PCTL_EN p) x).putB (F.LIF_PCTL_LOOPBACK p) y) := fun x y =>
    ((SameRegsBut.refl _ s).put (F.LIF_PCTL_EN p) _ (by simp)).put (F.LIF_PCTL_LOOPBACK p) _ (by simp)
  have hnot : R.LIF_PCTL p ∉ [R.LIF_SAT0 p, R.LIF_SAT1 p] := by simp [R.LIF_PCTL, R.LIF_SAT0, R.LIF_SAT1]
  refine ⟨_, hexec.trans (congrArg _ hwrite), ?_, ?_, zeroes_clearAll _ (hregs _ _) rfl fun o ho => ?_⟩
  · refine (State.on_clearAll _ _ _ hsat (F.LIF_PCTL_EN p) hnot).trans ?_
    exact (State.on_put_apart _ _ _ _ ((Fld.apart_bits_iff _ _ _ _).2 (by simp))).trans (State.on_putB_self _ _ _ (by simp) rfl)
  · refine (State.on_clearAll _ _ _ hsat (F.LIF_PCTL_LOOPBACK p) hnot).trans ?_
    exact State.on_putB_self _ _ _ (by simp) rfl
  · rw [satIn_iff]
    intro f hf
    obtain ⟨hmem, hw⟩ := (satIn_iff _ _).1 (hsat o ho) f hf
    exact ⟨List.mem_cons_of_mem _ hmem, hw⟩

/-! ### CNT_CLR and CNT_SNAP of a queue -/

theorem locate_queue (q : Fin 4096) (k : Nat) (hk : k < 0x100) :
    locate (0x100000 + q.val * 0x100 + k) = some (Blk.q, q.val, k) := by
  have hq := q.isLt
  have hn : (0x100000 + q.val * 0x100 + k - 0x100000) / 0x100 = q.val := by omega
  have hr : (0x100000 + q.val * 0x100 + k) % 0x100 = k := by omega
  unfold locate
  repeat rw [if_neg (by omega)]
  rw [if_pos (by omega), hn, hr]

theorem satOf_of_locate (o : Nat) (b : Blk) (n loc c i : Nat) (h : locate o = some (b, n, loc)) (hc : c ≠ 0)
    (hs : (findSpec loc (regTable b)).map (fun x => (x.1.sat.1, x.1.sat.2 + x.2)) = some (c, i)) :
    satOf o = some ⟨o - loc + c, i, 1⟩ := by
  obtain ⟨⟨r, k⟩, hfind, hrow⟩ := Option.map_eq_some_iff.1 hs
  obtain ⟨rfl, rfl⟩ := Prod.mk.inj hrow
  simp only [satOf, h, hfind, hc, false_and, if_false]

theorem satOf_jobsDone (q : Fin 4096) : satOf (R.Q_JOBS_DONE q) = some (F.Q_STAT_DONE_SAT q) := by
  have h := satOf_of_locate _ _ _ _ 4 28 (locate_queue q 0x48 (by decide)) (by decide) (by decide)
  rwa [Nat.add_sub_cancel] at h

theorem satOf_jobsErr (q : Fin 4096) : satOf (R.Q_JOBS_ERR q) = some (F.Q_STAT_ERR_SAT q) := by
  have h := satOf_of_locate _ _ _ _ 4 29 (locate_queue q 0x50 (by decide)) (by decide) (by decide)
  rwa [Nat.add_sub_cancel] at h

/-- The bits of Q_CTL that a write assigns as they stand, with PAUSE stored again where it is 1 (R68). -/
def State.qCtlBits (s : State) (q : Nat) (v : Word) : State :=
  (s.putB (F.Q_CTL_DCHK_EN q) (v.getLsbD 1)).putB (F.Q_CTL_CPL_2STEP q) (v.getLsbD 3)

/-- PAUSE written as it stands. -/
def State.qPauseAgain (s : State) (q : Nat) (p : Bool) : State := if p then s.set (F.Q_CTL_PAUSE q) else s

section
variable (s : State) (q : Fin 4096) (v : Word)

theorem State.sameRegsBut_qCtlBits : SameRegsBut [R.Q_CTL q] s (s.qCtlBits q v) :=
  ((SameRegsBut.refl _ s).put (F.Q_CTL_DCHK_EN q) _ (by simp)).put (F.Q_CTL_CPL_2STEP q) _ (by simp)

theorem State.on_qCtlBits (i : Nat) (h1 : i ≠ 1) (h3 : i ≠ 3) : (s.qCtlBits q v).on ⟨R.Q_CTL q, i, 1⟩ = s.on ⟨R.Q_CTL q, i, 1⟩ :=
  (State.on_put_apart _ _ _ _ ((Fld.apart_bits_iff _ _ _ _).2 fun e => h3 e.2)).trans
    (State.on_put_apart _ _ _ _ ((Fld.apart_bits_iff _ _ _ _).2 fun e => h1 e.2))

theorem State.sameRegsBut_qPauseAgain (p : Bool) : SameRegsBut [R.Q_CTL q] s (s.qPauseAgain q p) := by
  unfold State.qPauseAgain
  split
  · exact (SameRegsBut.refl _ s).put (F.Q_CTL_PAUSE q) 1 (by simp)
  · exact .refl _ s

theorem State.onlyRegs_qPauseAgain (p : Bool) : OnlyRegs s (s.qPauseAgain q p) := by
  unfold State.qPauseAgain
  split <;> rfl

/-- A write that leaves EN and PAUSE as they are does what its other bits ask for (R68). -/
theorem State.qCtlWrite_steady (x y : State)
    (hclr : x = if bit v.toNat 10 = true then (s.qCtlBits q v).queueCntClr q else s.qCtlBits q v)
    (hsnap : y = if bit v.toNat 9 = true then x.queueSnap q else x)
    (hen : bit v.toNat 0 = y.on (F.Q_CTL_EN q)) (hpause : bit v.toNat 2 = y.on (F.Q_CTL_PAUSE q)) :
    s.qCtlWrite q v = if bit v.toNat 8 = true then (y.qPauseAgain q (bit v.toNat 2)).queueFlush q
      else y.qPauseAgain q (bit v.toNat 2) := by
  have hkeep : (if bit v.toNat 0 = true then (if y.on (F.Q_CTL_EN q) = true then y else y.queueEnable q)
      else if y.on (F.Q_CTL_EN q) = true then y.queueDisable q else y) = y := by
    rw [hen]
    split_ifs <;> rfl
  have hagain : y.queuePause q (bit v.toNat 2) = y.qPauseAgain q (bit v.toNat 2) := by
    unfold State.queuePause State.qPauseAgain
    rw [hpause]
    split_ifs <;> rfl
  subst hclr
  rw [← hagain]
  conv_rhs => rw [← hkeep]
  subst hsnap
  rfl

theorem exec_qCntClr_permitted (r : Req) (h : s.mayWrite r (R.Q_CTL q)) :
    exec (.qCntClr r q v) s = .next (s.qCtlWrite q (v ||| 0x400)) :=
  congrArg Host.Outcome.next (s.gateW_granted r (R.Q_CTL q) _ h)

theorem exec_cntSnap_permitted (r : Req) (h : s.mayWrite r (R.Q_CTL q)) :
    exec (.cntSnap r q v) s = .next (s.qCtlWrite q (v ||| 0x200)) :=
  congrArg Host.Outcome.next (s.gateW_granted r (R.Q_CTL q) _ h)

theorem satIn_queue : ∀ o ∈ [R.Q_JOBS_DONE q.val, R.Q_JOBS_ERR q.val], satIn [R.Q_STAT q] o = true := by
  intro o ho
  rcases List.mem_pair.1 ho with rfl | rfl
  · simp [satIn, satOf_jobsDone]
  · simp [satIn, satOf_jobsErr]

theorem qCntClr_zeroes (r : Req) (h : s.mayWrite r (R.Q_CTL q)) (hen : v.getLsbD 0 = s.on (F.Q_CTL_EN q))
    (hpause : v.getLsbD 2 = s.on (F.Q_CTL_PAUSE q)) (h8 : v.getLsbD 8 = false) (h9 : v.getLsbD 9 = false) :
    ∃ t, exec (.qCntClr r q v) s = .next t ∧ Zeroes [R.Q_JOBS_DONE q, R.Q_JOBS_ERR q] [R.Q_CTL q, R.Q_STAT q] s t := by
  set w := v ||| 0x400 with hw
  have hbit : ∀ i, (0x400 : Word).getLsbD i = false → bit w.toNat i = v.getLsbD i := bit_or_kept v 0x400
  have hne : R.Q_CTL q ∉ [R.Q_STAT q.val] := by simp [R.Q_CTL, R.Q_STAT]
  have hctl : ∀ i, i ≠ 1 → i ≠ 3 → ((s.qCtlBits q w).clearAll [R.Q_JOBS_DONE q, R.Q_JOBS_ERR q]).on ⟨R.Q_CTL q, i, 1⟩ =
      s.on ⟨R.Q_CTL q, i, 1⟩ := fun i h1 h3 =>
    ((s.qCtlBits q w).on_clearAll _ _ (satIn_queue q) ⟨R.Q_CTL q, i, 1⟩ hne).trans (s.on_qCtlBits q w i h1 h3)
  have hwrite := s.qCtlWrite_steady q w _ _ rfl rfl
  rw [if_pos (bit_or_set v 0x400 10 (by decide)), hbit 9 (by decide), hbit 8 (by decide), hbit 2 (by decide), hbit 0 (by decide),
    h8, h9, if_neg (by decide), if_neg (by decide)] at hwrite
  refine ⟨_, (exec_qCntClr_permitted s q v r h).trans
    (congrArg _ (hwrite (hen.trans (hctl 0 (by decide) (by decide)).symm) (hpause.trans (hctl 2 (by decide) (by decide)).symm))), ?_⟩
  have hbits := ((s.sameRegsBut_qCtlBits q w).mono (ps := [R.Q_CTL q, R.Q_STAT q]) (by simp))
  have hzero : Zeroes [R.Q_JOBS_DONE q, R.Q_JOBS_ERR q] [R.Q_CTL q, R.Q_STAT q] s
      ((s.qCtlBits q w).clearAll [R.Q_JOBS_DONE q, R.Q_JOBS_ERR q]) := by
    refine zeroes_clearAll _ hbits rfl fun o ho => ?_
    rw [satIn_iff]
    intro f hf
    obtain ⟨hmem, hwd⟩ := (satIn_iff _ _).1 (satIn_queue q o ho) f hf
    exact ⟨List.mem_cons_of_mem _ hmem, hwd⟩
  unfold State.qPauseAgain
  split
  · exact hzero.put (satIn_queue q) (F.Q_CTL_PAUSE q) 1 (by simp) hne
  · exact hzero

theorem cntSnap_loads (r : Req) (h : s.mayWrite r (R.Q_CTL q)) (hen : v.getLsbD 0 = s.on (F.Q_CTL_EN q))
    (hpause : v.getLsbD 2 = s.on (F.Q_CTL_PAUSE q)) (h8 : v.getLsbD 8 = false) (h10 : v.getLsbD 10 = false) :
    ∃ t, exec (.cntSnap r q v) s = .next t ∧
      (∀ o ∈ [R.Q_JOBS_DONE q.val, R.Q_JOBS_ERR q.val], sget (fun _ => 0) t.cntCopy o = s.cntGet o) ∧
      t.cnt = s.cnt ∧ SameRegsBut [R.Q_CTL q] s t ∧ OnlyCounters s t := by
  set w := v ||| 0x200 with hw
  have hbit : ∀ i, (0x200 : Word).getLsbD i = false → bit w.toNat i = v.getLsbD i := bit_or_kept v 0x200
  have hctl : ∀ i, i ≠ 1 → i ≠ 3 → ((s.qCtlBits q w).queueSnap q).on ⟨R.Q_CTL q, i, 1⟩ = s.on ⟨R.Q_CTL q, i, 1⟩ :=
    fun i h1 h3 => s.on_qCtlBits q w i h1 h3
  have hwrite := s.qCtlWrite_steady q w _ _ rfl rfl
  rw [hbit 10 (by decide), if_pos (bit_or_set v 0x200 9 (by decide)), hbit 8 (by decide), hbit 2 (by decide), hbit 0 (by decide),
    h8, h10, if_neg (by decide), if_neg (by decide)] at hwrite
  have hpa := ((s.qCtlBits q w).queueSnap q).onlyRegs_qPauseAgain q (v.getLsbD 2)
  rw [OnlyRegs] at hpa
  refine ⟨_, (exec_cntSnap_permitted s q v r h).trans
    (congrArg _ (hwrite (hen.trans (hctl 0 (by decide) (by decide)).symm) (hpause.trans (hctl 2 (by decide) (by decide)).symm))),
    fun o ho => ?_, ?_, ?_, ?_⟩
  · rw [hpa]
    rcases List.mem_pair.1 ho with rfl | rfl
    · exact (sget_sput_of_ne _ _ _ _ _ (by simp [R.Q_JOBS_DONE, R.Q_JOBS_ERR])).trans (sget_sput_self _ _ _ _)
    · exact sget_sput_self _ _ _ _
  · rw [hpa]
    rfl
  · exact (s.sameRegsBut_qCtlBits q w).trans (State.sameRegsBut_qPauseAgain _ q _)
  · rw [hpa]
    rfl

end

/-! ### LOCK -/

/-- The last field of the eight configuration registers is their LOCK. -/
theorem selfLocked_configurations : ∀ o ∈ [R.AEA_LT_CFG, R.AEA_XCFG, R.CTS_CFG, R.KEEP_CFG, R.DKE_CFG, R.FLT_CFG, R.PWR_CFG,
    R.CUP_CFG], selfLocked o = true := by decide

section
variable (s : State) (v : Word) (hv : fieldGet 31 1 v = 1)
include hv

theorem State.ltCfgWrite_locks : LocksItself R.AEA_LT_CFG s (s.ltCfgWrite v) := by
  unfold State.ltCfgWrite
  refine s.wrGeneric_locks _ _ (selfLocked_configurations _ (by simp)) ?_
  split
  · exact fieldGet_lockBit_kept v 2 1 _ (by decide) hv
  · exact hv

theorem State.ctsCfgWrite_locks : LocksItself R.CTS_CFG s (s.ctsCfgWrite v) := by
  unfold State.ctsCfgWrite
  refine s.wrGeneric_locks _ _ (selfLocked_configurations _ (by simp)) ?_
  have hdrain : ∀ p : Prop, ∀ [Decidable p] (x : Nat), fieldGet 31 1 (if p then v else fieldSet 0 16 v x) = 1 := fun p _ x => by
    split
    · exact hv
    · exact fieldGet_lockBit_kept v 0 16 _ (by decide) hv
  split
  · exact fieldGet_lockBit_kept _ 16 8 _ (by decide) (hdrain _ _)
  · exact hdrain _ _

theorem State.dkeCfgWrite_locks : LocksItself R.DKE_CFG s (s.dkeCfgWrite v) := by
  unfold State.dkeCfgWrite
  refine s.wrGeneric_locks _ _ (selfLocked_configurations _ (by simp)) ?_
  have hlocks : ∀ p : Prop, ∀ [Decidable p] (x : Nat), fieldGet 31 1 (if p then fieldSet 0 3 v x else v) = 1 := fun p _ x => by
    split
    · exact fieldGet_lockBit_kept v 0 3 _ (by decide) hv
    · exact hv
  split
  · exact fieldGet_lockBit_kept _ 8 7 _ (by decide) (hlocks _ _)
  · exact hlocks _ _

theorem State.fltCfgWrite_locks : LocksItself R.FLT_CFG s (s.fltCfgWrite v) := by
  unfold State.fltCfgWrite
  refine s.wrGeneric_locks _ _ (selfLocked_configurations _ (by simp)) ?_
  split
  · exact hv
  · exact fieldGet_lockBit_kept v 0 3 _ (by decide) hv

theorem State.pwrCfgWrite_locks : LocksItself R.PWR_CFG s (s.pwrCfgWrite v) := by
  unfold State.pwrCfgWrite
  refine s.wrGeneric_locks _ _ (selfLocked_configurations _ (by simp)) ?_
  split
  · exact hv
  · exact fieldGet_lockBit_kept v 8 7 _ (by decide) hv

end

/-- A permitted write through the gate of a register that locks itself. -/
theorem gateW_locks (s : State) (r : Req) (o : Nat) (k : State → State) (h : s.mayWrite r o) (hk : LocksItself o s (k s)) :
    LocksItself o s (s.gateW r o k) := by
  rwa [s.gateW_granted r o k h]

theorem rngLock_sets (s : State) (r : Req) (v : Word) (h : s.mayWrite r R.RNG_CTL) (hv : v &&& 0x101 = 0) :
    exec (.rngLock r v) s = .next (s.set F.RNG_CTL_LOCK) := by
  have hexec : exec (.rngLock r v) s = .next (s.rngCtlWrite r (v ||| 0x80000000)) :=
    congrArg Host.Outcome.next (s.gateW_granted r R.RNG_CTL _ h)
  have h0 := bit_or_masked hv 0x80000000 0 false (by decide) (by decide)
  have h8 := bit_or_masked hv 0x80000000 8 false (by decide) (by decide)
  rw [hexec]
  simp only [State.rngCtlWrite, bit_or_set v 0x80000000 31 (by decide), h0, h8, if_true, Bool.false_eq_true, if_false,
    Bool.not_false]

theorem blfLock_sets (s : State) (r : Req) (v : Word) (h : s.mayWrite r R.BLF_CTL) (hv : v &&& 0x101 = 0) :
    exec (.blfLock r v) s = .next (s.set F.BLF_CTL_LOCK) := by
  have hexec : exec (.blfLock r v) s = .next (s.blfCtlWrite (v ||| 0x80000000)) :=
    congrArg Host.Outcome.next (s.gateW_granted r R.BLF_CTL _ h)
  have h0 := bit_or_masked hv 0x80000000 0 false (by decide) (by decide)
  have h8 := bit_or_masked hv 0x80000000 8 false (by decide) (by decide)
  rw [hexec]
  simp only [State.blfCtlWrite, bit_or_set v 0x80000000 31 (by decide), h0, h8, if_true, Bool.false_eq_true, if_false]

/-! ### The obligation -/

/-- Settles O11: each CNT_CLR zeroes a list of counters (`Zeroes.clearAll`), each LOCK is the generic write of a register that
locks itself (`State.wrGeneric_locks`). -/
theorem counterClearsAndLocks : Obligations.CounterClearsAndLocks := by
  unfold Obligations.CounterClearsAndLocks
  refine ⟨fun s r v => ⟨evcCntClr_zeroes s r v, keepCntClr_zeroes s r v, fltCntClr_zeroes s r, lcsCntClr_zeroes s v,
    pwrCntClr_zeroes s r v, rngCntClr_zeroes s r v, blfCntClr_zeroes s r v, ctsCntClr_zeroes s r v, dkeCntClr_zeroes s r v,
    fun p => lifCntClr_zeroes s r v p, fun q h => qCntClr_zeroes s q v r h, fun q h => cntSnap_loads s q v r h⟩, ?locks,
    rngLock_sets, blfLock_sets⟩
  simp only [List.forall_mem_cons]
  refine ⟨fun s r v h => ⟨_, rfl, gateW_locks s r _ _ h (s.ltCfgWrite_locks _ (fieldGet_lockBit v))⟩,
    fun s r v h => ⟨_, rfl, gateW_locks s r _ _ h (s.wrGeneric_locks _ _ (by decide) (fieldGet_lockBit v))⟩,
    fun s r v h => ⟨_, rfl, gateW_locks s r _ _ h (s.ctsCfgWrite_locks _ (fieldGet_lockBit v))⟩,
    fun s r v h => ⟨_, rfl, gateW_locks s r _ _ h (s.wrGeneric_locks _ _ (by decide) (fieldGet_lockBit v))⟩,
    fun s r v h => ⟨_, rfl, gateW_locks s r _ _ h (s.dkeCfgWrite_locks _ (fieldGet_lockBit v))⟩,
    fun s r v h => ⟨_, rfl, gateW_locks s r _ _ h (s.fltCfgWrite_locks _ (fieldGet_lockBit v))⟩,
    fun s r v h => ⟨_, rfl, gateW_locks s r _ _ h (s.pwrCfgWrite_locks _ (fieldGet_lockBit v))⟩,
    fun s r v h => ⟨_, rfl, gateW_locks s r _ _ h (s.wrGeneric_locks _ _ (by decide) (fieldGet_lockBit v))⟩,
    fun c hc => absurd hc List.not_mem_nil⟩

end Sys2Proof.Machine
end

section
/-! PROOF. What a queue does beside its completion ring (R88 to R92, R104), and the write of a record into the ring (R99, R100). -/

namespace Sys2Proof.Machine

/-! ### The frame of a queue's own work -/

@[simp] theorem State.qst_put (s : State) (f : Fld) (x q : Nat) : (s.put f x).qst q = s.qst q := rfl

/-- The registers that a queue's fetching and its errors touch (R73, R89), and those of its events (R75). -/
def queueRegs (q : Nat) : List Nat := R.Q_ERR q :: (fetchRegs q ++ eventRegs)

/-- The bits of Q_STAT that fetching leaves alone: CQ_STALL, FLUSHING and FENCE_WAIT. -/
def steadyBits : List Nat := [2, 4, 6]

/-- Nothing has changed but queues, events and the registers of `queueRegs`; no counter but EVC's own. -/
structure RingApart (q : Nat) (s t : State) : Prop where
  frame : t = { s with regs := t.regs, cnt := t.cnt, evc := t.evc, jqm := t.jqm }
  regs : SameRegsBut (queueRegs q) s t
  counts : ∀ o, (∀ k < 3, o ≠ R.EVC_CNT k) → t.cntGet o = s.cntGet o

/-- The same, where the jobs, the descriptor in hand, the held records and the steady bits of Q_STAT have stayed. -/
structure QueueGoesOn (q : Nat) (s t : State) : Prop extends RingApart q s t where
  jobs : t.jqm.jobs = s.jqm.jobs
  hand : (t.qst q).hand = (s.qst q).hand
  held : (t.qst q).held = (s.qst q).held
  stat : ∀ j ∈ steadyBits, t.on ⟨R.Q_STAT q, j, 1⟩ = s.on ⟨R.Q_STAT q, j, 1⟩

theorem not_mem_queueRegs (q : Fin 4096) (k : Nat) (h : k ∉ [0x4, 0x20, 0x24, 0x40]) : 0x100000 + q.val * 0x100 + k ∉ queueRegs q := by
  simp only [List.mem_cons, List.not_mem_nil, or_false, not_or] at h
  simp only [queueRegs, fetchRegs, List.mem_cons, List.mem_append, List.not_mem_nil, or_false, not_or, R.Q_ERR, R.Q_STAT,
    R.SQ_CUR_LO, R.SQ_CUR_HI]
  exact ⟨by omega, ⟨by omega, by omega, by omega⟩, not_mem_eventRegs _ (by omega)⟩

theorem groupOwner_not_mem_queueRegs (q g : Nat) (hg : g < 32) : R.GLB_QGRP g ∉ queueRegs q := by
  simp only [queueRegs, fetchRegs, List.mem_cons, List.mem_append, List.not_mem_nil, or_false, not_or, R.Q_ERR, R.Q_STAT,
    R.SQ_CUR_LO, R.SQ_CUR_HI, R.GLB_QGRP]
  exact ⟨by omega, ⟨by omega, by omega, by omega⟩, not_mem_eventRegs_of_lt _ (by simp only [R.EVC_PEND]; omega)⟩

theorem eventRegs_subset_queueRegs (q : Nat) : ∀ o ∈ eventRegs, o ∈ queueRegs q := fun _ h =>
  List.mem_cons_of_mem _ (List.mem_append_right _ h)

theorem EventFrame.withJqm {s t : State} (h : EventFrame s t) : t = { s with regs := t.regs, cnt := t.cnt, evc := t.evc, jqm := t.jqm } := by
  have hj : t.jqm = s.jqm := (congrArg State.jqm h :)
  rw [hj]
  exact h

theorem RingApart.refl (q : Nat) (s : State) : RingApart q s s := ⟨rfl, .refl _ s, fun _ _ => rfl⟩

theorem RingApart.trans {q : Nat} {s t u : State} (h : RingApart q s t) (k : RingApart q t u) : RingApart q s u where
  frame := k.frame.trans (congrArg (fun x : State => { x with regs := u.regs, cnt := u.cnt, evc := u.evc, jqm := u.jqm }) h.frame)
  regs := h.regs.trans k.regs
  counts := fun o ho => (k.counts o ho).trans (h.counts o ho)

theorem QueueGoesOn.refl (q : Nat) (s : State) : QueueGoesOn q s s := ⟨.refl q s, rfl, rfl, rfl, fun _ _ => rfl⟩

theorem QueueGoesOn.trans {q : Nat} {s t u : State} (h : QueueGoesOn q s t) (k : QueueGoesOn q t u) : QueueGoesOn q s u where
  toRingApart := h.toRingApart.trans k.toRingApart
  jobs := k.jobs.trans h.jobs
  hand := k.hand.trans h.hand
  held := k.held.trans h.held
  stat := fun j hj => (k.stat j hj).trans (h.stat j hj)

section
variable {q : Fin 4096} {s t : State} (h : QueueGoesOn q s t)
include h

theorem QueueGoesOn.putStat (j x : Nat) (hj : j ∉ steadyBits) : QueueGoesOn q s (t.put ⟨R.Q_STAT q, j, 1⟩ x) :=
  h.trans ⟨⟨rfl, State.sameRegsBut_put t _ x |>.mono (by simp [queueRegs, fetchRegs]), fun _ _ => rfl⟩, rfl, rfl, rfl, fun i hi =>
    State.on_put_apart t _ _ x ((Fld.apart_bits_iff _ _ _ _).2 fun e => hj (e.2 ▸ hi))⟩

theorem QueueGoesOn.putErr (j x : Nat) : QueueGoesOn q s (t.put ⟨R.Q_ERR q, j, 1⟩ x) :=
  h.trans ⟨⟨rfl, State.sameRegsBut_put t _ x |>.mono (by simp [queueRegs]), fun _ _ => rfl⟩, rfl, rfl, rfl, fun i _ =>
    State.on_put_apart t _ _ x (.inl (by simp [R.Q_STAT, R.Q_ERR]))⟩

theorem QueueGoesOn.qput (x : QueueSt) (hx : x.hand = (t.qst q).hand) (hy : x.held = (t.qst q).held) :
    QueueGoesOn q s (t.qput q x) :=
  h.trans ⟨⟨rfl, .refl _ t, fun _ _ => rfl⟩, rfl, by rw [State.qst_qput_self, hx], by rw [State.qst_qput_self, hy], fun _ _ => rfl⟩

theorem QueueGoesOn.syncQ : QueueGoesOn q s (t.syncQ q) := by
  have hevc : EvcOnly t (t.syncQ q) := ((EvcOnly.refl t).level _ _).level _ _
  exact h.trans ⟨⟨hevc.frame.withJqm, (t.sameRegsBut_syncQ q).mono (eventRegs_subset_queueRegs q), hevc.counts⟩, by simp, by simp,
    by simp, fun j _ => t.on_syncQ_qStat q j⟩

theorem QueueGoesOn.wr64SqCur (a : Nat) : QueueGoesOn q s (t.wr64 (R.SQ_CUR_LO q) (R.SQ_CUR_HI q) a) :=
  h.trans ⟨⟨rfl, ((SameRegsBut.refl _ t).wr _ _ (by simp [queueRegs, fetchRegs])).wr _ _ (by simp [queueRegs, fetchRegs]), fun _ _ => rfl⟩,
    rfl, rfl, rfl, fun i _ => by
      simp only [State.on, State.get, State.rd_wr64]
      rw [if_neg (by simp [R.Q_STAT]), if_neg (by simp [R.Q_STAT])]⟩

theorem QueueGoesOn.wantFetch (k : FetchKind) (a : Nat) : QueueGoesOn q s (t.wantFetch q k a) := by
  unfold State.wantFetch
  dsimp only
  split
  · refine QueueGoesOn.wr64SqCur ?_ a
    exact h.qput _ rfl rfl
  · exact h.qput _ rfl rfl

theorem QueueGoesOn.park : QueueGoesOn q s (t.park q) := by
  have hpark := h.qput { t.qst q with parked := true, fetch := none } rfl rfl
  unfold State.park
  dsimp only
  split
  · exact (hpark.putStat 5 0 (by decide)).wantFetch _ _
  · split
    · exact hpark
    · exact ((hpark.putStat 1 1 (by decide)).putStat 19 1 (by decide)).syncQ

theorem QueueGoesOn.qError (n : Nat) : QueueGoesOn q s (t.qError q ⟨R.Q_ERR q, n, 1⟩) := by
  have hset := (h.putErr n 1).putStat 17 1 (by decide)
  unfold State.qError
  dsimp only
  split
  · refine QueueGoesOn.syncQ ?_
    exact (hset.putStat 3 1 (by decide)).qput _ (by simp)
      (by simp)
  · exact hset.syncQ

theorem QueueGoesOn.followNext (next : Nat) : QueueGoesOn q s (t.followNext q next) := by
  unfold State.followNext
  split
  · exact h.qError 0
  · exact h.wantFetch _ _

theorem QueueGoesOn.proceed (d : List Byte) : QueueGoesOn q s (t.proceed q d) := by
  unfold State.proceed
  split
  · exact h
  · split
    · exact h.park
    · exact h.followNext _

theorem QueueGoesOn.issueWanted : QueueGoesOn q s (t.issueWanted q) := by
  unfold State.issueWanted
  split
  · split
    · dsimp only
      split
      · refine QueueGoesOn.wr64SqCur ?_ _
        exact h.qput _ rfl rfl
      · exact h.qput _ rfl rfl
    · exact h
  · exact h

end

/-! ### A record written, and the states around it -/

section
variable {q : Fin 4096} {s t u : State}

theorem RingApart.onlyStores (h : RingApart q s t) (owner a n : Nat) : OnlyStores owner a n s t := by
  have hf := h.frame
  constructor <;> intros <;> rw [hf]

theorem OnlyStores.trans {owner a n : Nat} (h : OnlyStores owner a n s t) (k : OnlyStores owner a n t u) :
    OnlyStores owner a n s u where
  host := fun x hx => (k.host x hx).trans (h.host x hx)
  svc := fun x hx => (k.svc x hx).trans (h.svc x hx)
  cup := fun x => (k.cup x).trans (h.cup x)
  flash := fun x => (k.flash x).trans (h.flash x)
  otp := k.otp.trans h.otp

theorem RingApart.rd (h : RingApart q s t) (k : Nat) (hk : k ∉ [0x4, 0x20, 0x24, 0x40]) :
    t.rd (0x100000 + q.val * 0x100 + k) = s.rd (0x100000 + q.val * 0x100 + k) := h.regs _ (not_mem_queueRegs q k hk)

theorem RingApart.get (h : RingApart q s t) (k lo w : Nat) (hk : k ∉ [0x4, 0x20, 0x24, 0x40]) :
    t.get ⟨0x100000 + q.val * 0x100 + k, lo, w⟩ = s.get ⟨0x100000 + q.val * 0x100 + k, lo, w⟩ := by
  rw [State.get, h.rd k hk, State.get]

theorem RingApart.qOwner (h : RingApart q s t) : t.qOwner q = s.qOwner q := by
  have hg : groupOf q < 32 := by
    have := q.isLt
    unfold groupOf
    omega
  simp only [State.qOwner, State.groupOwner, State.get]
  rw [h.regs _ (groupOwner_not_mem_queueRegs q _ hg)]

theorem RingApart.cqSize (h : RingApart q s t) : t.cqSize q = s.cqSize q := congrArg BitVec.toNat (h.rd 0x30 (by decide))

theorem RingApart.ringSlot (h : RingApart q s t) : t.ringSlot q = s.ringSlot q := by
  have h1 := h.rd 0x28 (by decide)
  have h2 := h.rd 0x2c (by decide)
  simp only [State.ringSlot, State.cqBase, State.rd64, R.CQ_BASE_LO, R.CQ_BASE_HI, h1, h2, h.get 0x34 0 16 (by decide)]

theorem RingApart.jobsDone (h : RingApart q s t) : t.cntGet (R.Q_JOBS_DONE q) = s.cntGet (R.Q_JOBS_DONE q) :=
  h.counts _ fun k hk => by simp only [R.Q_JOBS_DONE, R.EVC_CNT]; omega

theorem RingApart.jobsErr (h : RingApart q s t) : t.cntGet (R.Q_JOBS_ERR q) = s.cntGet (R.Q_JOBS_ERR q) :=
  h.counts _ fun k hk => by simp only [R.Q_JOBS_ERR, R.EVC_CNT]; omega

/-- What a queue does after a record leaves the record written. -/
theorem RecordWritten.after {r : Record} (h : RecordWritten q r s t) (k : RingApart q t u) : RecordWritten q r s u where
  bytes := by
    rw [← h.bytes, k.frame]
    rfl
  rest := h.rest.trans (k.onlyStores _ _ _)
  tail := (k.get 0x34 0 16 (by decide)).trans h.tail
  phase := (k.get 0x34 31 1 (by decide)).trans h.phase
  done := k.jobsDone.trans h.done
  err := k.jobsErr.trans h.err

/-- What a queue does before a record does not change where it goes. -/
theorem RecordWritten.before {r : Record} (k : RingApart q s t) (h : RecordWritten q r t u) : RecordWritten q r s u where
  bytes := by rw [← k.qOwner, ← k.ringSlot, h.bytes, k.get 0x34 31 1 (by decide)]
  rest := by
    rw [← k.qOwner, ← k.ringSlot]
    exact (k.onlyStores _ _ _).trans h.rest
  tail := by rw [h.tail, k.cqSize, k.get 0x34 0 16 (by decide)]
  phase := by rw [h.phase, k.cqSize, k.get 0x34 0 16 (by decide), k.get 0x34 31 1 (by decide)]
  done := by rw [h.done, k.jobsDone]
  err := by rw [h.err, k.jobsErr]

end

/-! ### The write of a record (R99, R100) -/

theorem recordBytes_length (r : Record) (p : Nat) : (recordBytes r p).length = 32 := by simp [recordBytes]

theorem cqSizeOk_bounds (n : Nat) (h : cqSizeOk n = true) : 0 < n ∧ n ≤ 65536 := by
  obtain ⟨k, hk, hn⟩ := List.any_eq_true.1 h
  have hlt : k ≤ 12 := by
    have := List.mem_range.1 hk
    omega
  have hval : n = 16 * 2 ^ k := by simpa using hn
  have hpos : 0 < 2 ^ k := Nat.two_pow_pos k
  have hle : 2 ^ k ≤ 2 ^ 12 := Nat.pow_le_pow_right (by decide) hlt
  omega

theorem onlyStores_dmaStore (s : State) (owner a : Nat) (bs : List Byte) :
    OnlyStores owner a bs.length s (s.dmaStore owner a bs) := by
  unfold State.dmaStore
  split
  · exact ⟨fun _ _ => rfl, fun x hx => memByte_memWrite_outside _ _ _ _ (hx.resolve_left (by simpa using ‹owner = 0x3F›)),
      fun _ => rfl, fun _ => rfl, rfl⟩
  · exact ⟨fun x hx => memByte_memWrite_outside _ _ _ _ (hx.resolve_left ‹¬ owner = 0x3F›), fun _ _ => rfl, fun _ => rfl,
      fun _ => rfl, rfl⟩

theorem memRead_dmaStore (s : State) (owner a : Nat) (bs : List Byte) :
    memRead ((s.dmaStore owner a bs).memOf owner) a bs.length = bs := by
  unfold State.dmaStore State.memOf
  split <;> exact memRead_memWrite _ _ _

theorem State.dmaStore_frame (s : State) (owner a : Nat) (bs : List Byte) :
    s.dmaStore owner a bs = { s with hostMem := (s.dmaStore owner a bs).hostMem, svcMem := (s.dmaStore owner a bs).svcMem } := by
  unfold State.dmaStore
  split <;> rfl

/-- The state of a ring whose record has just been stored: the tail follows, then the counters. -/
def State.tailFollows (s : State) (q n phase : Nat) : State :=
  if n = 0 then (s.put (F.CQ_TAIL_INDEX q) n).put (F.CQ_TAIL_TAIL_PHASE q) (1 - phase) else s.put (F.CQ_TAIL_INDEX q) n

def State.endCounted (s : State) (q : Nat) (bad : Bool) : State :=
  if bad then (s.inc (R.Q_JOBS_DONE q)).inc (R.Q_JOBS_ERR q) else s.inc (R.Q_JOBS_DONE q)

def State.recordStored (s : State) (q : Nat) (r : Record) : State :=
  s.dmaStore (s.qOwner q) (s.ringSlot q) (recordBytes r (s.get (F.CQ_TAIL_TAIL_PHASE q)))

/-- The record stored, the tail moved on and the end counted. -/
def State.recordPlaced (s : State) (q : Nat) (r : Record) : State :=
  ((s.recordStored q r).tailFollows q ((s.get (F.CQ_TAIL_INDEX q) + 1) % s.cqSize q) (s.get (F.CQ_TAIL_TAIL_PHASE q))).endCounted q
    (decide (0x10 ≤ r.result.status))

theorem State.endCounted_frame (s : State) (q : Nat) (bad : Bool) : EventFrame s (s.endCounted q bad) := by
  unfold State.endCounted
  split
  · exact (s.inc_eventFrame _).trans (State.inc_eventFrame _ _)
  · exact s.inc_eventFrame _

theorem State.tailFollows_frame (s : State) (q n phase : Nat) : OnlyRegs s (s.tailFollows q n phase) := by
  unfold State.tailFollows
  split <;> rfl

section
variable (s : State) (q : Fin 4096)

theorem State.rd_endCounted (bad : Bool) (o : Nat) (ho : o ≠ R.Q_STAT q) : (s.endCounted q bad).rd o = s.rd o := by
  have hregs : ∀ x : State, SameRegsBut [R.Q_STAT q.val] x (x.inc (R.Q_JOBS_DONE q)) := fun x =>
    (SameRegsBut.refl _ x).inc _ _ (satOf_jobsDone q) (by simp)
  unfold State.endCounted
  split
  · exact ((hregs s).inc _ _ (satOf_jobsErr q) (by simp)) o (by simpa using ho)
  · exact hregs s o (by simpa using ho)

theorem State.on_endCounted (bad : Bool) (j : Nat) (hj : j < 28) :
    (s.endCounted q bad).on ⟨R.Q_STAT q, j, 1⟩ = s.on ⟨R.Q_STAT q, j, 1⟩ := by
  have hdone : ∀ x : State, (x.inc (R.Q_JOBS_DONE q)).on ⟨R.Q_STAT q, j, 1⟩ = x.on ⟨R.Q_STAT q, j, 1⟩ := fun x => by
    refine State.on_inc _ _ _ fun g hg => ?_
    obtain rfl := Option.some.inj ((satOf_jobsDone q).symm.trans hg)
    exact (Fld.apart_bits_iff _ _ _ _).2 (by omega)
  unfold State.endCounted
  split
  · refine (State.on_inc _ _ _ fun g hg => ?_).trans (hdone s)
    obtain rfl := Option.some.inj ((satOf_jobsErr q).symm.trans hg)
    exact (Fld.apart_bits_iff _ _ _ _).2 (by omega)
  · exact hdone s

theorem State.cntGet_endCounted (bad : Bool) :
    (s.endCounted q bad).cntGet (R.Q_JOBS_DONE q) = s.plus (R.Q_JOBS_DONE q) 1 ∧
    (s.endCounted q bad).cntGet (R.Q_JOBS_ERR q) = if bad then s.plus (R.Q_JOBS_ERR q) 1 else s.cntGet (R.Q_JOBS_ERR q) := by
  have hne : R.Q_JOBS_DONE q ≠ R.Q_JOBS_ERR q := by simp [R.Q_JOBS_DONE, R.Q_JOBS_ERR]
  cases bad
  · exact ⟨s.cntGet_inc _, s.cntGet_inc_of_ne _ _ hne.symm⟩
  · refine ⟨(State.cntGet_inc_of_ne _ _ _ hne).trans (s.cntGet_inc _), (State.cntGet_inc _ _).trans ?_⟩
    rw [State.cntGet_inc_of_ne _ _ _ hne.symm]
    rfl

theorem State.get_tailFollows (n phase : Nat) (hn : n < 65536) (hp : phase ≤ 1) (hold : s.get (F.CQ_TAIL_TAIL_PHASE q) = phase) :
    (s.tailFollows q n phase).get (F.CQ_TAIL_INDEX q) = n ∧
    (s.tailFollows q n phase).get (F.CQ_TAIL_TAIL_PHASE q) = if n = 0 then 1 - phase else phase := by
  have hi : (s.put (F.CQ_TAIL_INDEX q) n).get (F.CQ_TAIL_INDEX q) = n :=
    (State.get_put_self _ _ _ (by simp)).trans (Nat.mod_eq_of_lt hn)
  unfold State.tailFollows
  split
  · refine ⟨(State.get_put_apart _ _ _ _ (.inr (.inr (by simp)))).trans hi, ?_⟩
    exact (State.get_put_self _ _ _ (by simp)).trans (Nat.mod_eq_of_lt (by simp only []; omega))
  · exact ⟨hi, (State.get_put_apart _ _ _ _ (.inr (.inl (by simp)))).trans hold⟩

theorem State.sameRegsBut_tailFollows (n phase : Nat) : SameRegsBut [R.CQ_TAIL q] s (s.tailFollows q n phase) := by
  have hi := (SameRegsBut.refl [R.CQ_TAIL q.val] s).put (F.CQ_TAIL_INDEX q) n (by simp)
  unfold State.tailFollows
  split
  · exact hi.put (F.CQ_TAIL_TAIL_PHASE q) _ (by simp)
  · exact hi

theorem State.get_phase_le (f : Fld) (hf : f.width = 1) : s.get f ≤ 1 := by
  have := Nat.mod_lt ((s.rd f.off).toNat >>> f.lo) (Nat.two_pow_pos f.width)
  simp only [State.get, fieldGet, bits, hf] at this ⊢
  omega

/-- The record is written: its bytes, its slot, the tail and the counts (R76, R99, R100). -/
theorem State.recordPlaced_written (r : Record) (hsize : cqSizeOk (s.cqSize q) = true) : RecordWritten q r s (s.recordPlaced q r) := by
  obtain ⟨hpos, hle⟩ := cqSizeOk_bounds _ hsize
  have hn : (s.get (F.CQ_TAIL_INDEX q) + 1) % s.cqSize q < 65536 := lt_of_lt_of_le (Nat.mod_lt _ hpos) hle
  set n := (s.get (F.CQ_TAIL_INDEX q) + 1) % s.cqSize q with hdef
  set ph := s.get (F.CQ_TAIL_TAIL_PHASE q) with hph
  have hstored := s.dmaStore_frame (s.qOwner q) (s.ringSlot q) (recordBytes r ph)
  set m := s.recordStored q r with hm
  have hmrd : ∀ f, m.get f = s.get f := fun f => by
    rw [hm, State.recordStored, ← hph, hstored]
    rfl
  have hmcnt : ∀ o, m.cntGet o = s.cntGet o := fun o => by
    rw [hm, State.recordStored, ← hph, hstored]
    rfl
  have hend := (m.tailFollows q n ph).endCounted_frame q (decide (0x10 ≤ r.result.status))
  have htail := m.tailFollows_frame q n ph
  have hhost : (s.recordPlaced q r).hostMem = m.hostMem := (congrArg State.hostMem hend :).trans (congrArg State.hostMem htail :)
  have hsvc : (s.recordPlaced q r).svcMem = m.svcMem := (congrArg State.svcMem hend :).trans (congrArg State.svcMem htail :)
  have hcup : (s.recordPlaced q r).cupMem = m.cupMem := (congrArg State.cupMem hend :).trans (congrArg State.cupMem htail :)
  have hflash : (s.recordPlaced q r).cup = m.cup := (congrArg State.cup hend :).trans (congrArg State.cup htail :)
  have hotp : (s.recordPlaced q r).otp = m.otp := (congrArg State.otp hend :).trans (congrArg State.otp htail :)
  have hregs : ∀ f : Fld, f.off ≠ R.Q_STAT q → (s.recordPlaced q r).get f = (m.tailFollows q n ph).get f := fun f hf =>
    congrArg (fieldGet f.lo f.width) (State.rd_endCounted (m.tailFollows q n ph) q _ f.off hf)
  have hcounts : ∀ o, (m.tailFollows q n ph).cntGet o = s.cntGet o := fun o => by
    rw [OnlyRegs] at htail
    rw [htail]
    exact hmcnt o
  obtain ⟨hidx, hphase⟩ := m.get_tailFollows q n ph hn (s.get_phase_le _ rfl) (hmrd _)
  obtain ⟨hdone, herr⟩ := (m.tailFollows q n ph).cntGet_endCounted q (decide (0x10 ≤ r.result.status))
  have hlen := recordBytes_length r ph
  constructor
  case bytes =>
    have hread := memRead_dmaStore s (s.qOwner q) (s.ringSlot q) (recordBytes r ph)
    rw [hlen] at hread
    rw [State.memOf, hhost, hsvc]
    exact hread
  case rest =>
    have hstores := onlyStores_dmaStore s (s.qOwner q) (s.ringSlot q) (recordBytes r ph)
    rw [hlen] at hstores
    exact ⟨fun x hx => by rw [hhost]; exact hstores.host x hx, fun x hx => by rw [hsvc]; exact hstores.svc x hx,
      fun x => by rw [hcup]; exact hstores.cup x, fun x => by rw [hflash]; exact hstores.flash x, hotp.trans hstores.otp⟩
  case tail => exact (hregs _ (by simp [R.CQ_TAIL, R.Q_STAT])).trans hidx
  case phase => exact (hregs _ (by simp [R.CQ_TAIL, R.Q_STAT])).trans hphase
  case done =>
    refine hdone.trans ?_
    rw [State.plus, hcounts]
  case err =>
    refine herr.trans ?_
    rw [State.plus, hcounts]
    simp only [decide_eq_true_eq]
    split_ifs <;> omega

theorem State.recordPlaced_jqm (r : Record) : (s.recordPlaced q r).jqm = s.jqm := by
  have hend := (congrArg State.jqm (((s.recordStored q r).tailFollows q ((s.get (F.CQ_TAIL_INDEX q) + 1) % s.cqSize q)
    (s.get (F.CQ_TAIL_TAIL_PHASE q))).endCounted_frame q (decide (0x10 ≤ r.result.status))) :)
  refine hend.trans ((congrArg State.jqm (State.tailFollows_frame _ _ _ _) :).trans ?_)
  exact (congrArg State.jqm (s.dmaStore_frame _ _ _) :)

theorem State.on_recordPlaced (r : Record) (j : Nat) (hj : j < 28) :
    (s.recordPlaced q r).on ⟨R.Q_STAT q, j, 1⟩ = s.on ⟨R.Q_STAT q, j, 1⟩ := by
  refine (State.on_endCounted _ q _ j hj).trans ((State.sameRegsBut_tailFollows _ q _ _).on _ (by simp [R.Q_STAT, R.CQ_TAIL]) |>.trans ?_)
  unfold State.recordStored
  rw [State.dmaStore_frame]
  rfl

/-- A write of a record that does not fault is the placing of it, after which the queue's pending bit may rise (R74). -/
theorem State.ringWrite_eq (r : Record) (hok : s.dmaFaults (s.qOwner q) (s.ringSlot q) 32 true = false) :
    s.ringWrite q r = if (r.int || (decide (0x10 ≤ r.result.status) && (s.recordPlaced q r).on (F.Q_EVT_EN_CPL_ON_ERR q))) = true
      then ((s.recordPlaced q r).set (F.Q_STAT_CPL_PEND q)).syncQ q else s.recordPlaced q r := by
  have hstore : s.dmaWrite (s.qOwner q) (s.cqBase q + 32 * s.get (F.CQ_TAIL_INDEX q))
      (recordBytes r (s.get (F.CQ_TAIL_TAIL_PHASE q))) = some (s.recordStored q r) := by
    rw [State.dmaWrite, recordBytes_length]
    exact if_neg (by simpa [State.ringSlot] using hok)
  have hsize : (s.recordStored q r).cqSize q = s.cqSize q := by
    unfold State.recordStored
    rw [State.dmaStore_frame]
    rfl
  simp only [State.ringWrite, hstore, hsize, State.recordPlaced, State.tailFollows, State.endCounted, decide_eq_true_eq]

theorem State.ringWrite_ok (r : Record) (hok : s.dmaFaults (s.qOwner q) (s.ringSlot q) 32 true = false) :
    QueueGoesOn q (s.recordPlaced q r) (s.ringWrite q r) := by
  rw [s.ringWrite_eq q r hok]
  split
  · exact ((QueueGoesOn.refl q _).putStat 16 1 (by decide)).syncQ
  · exact .refl q _

theorem State.ringWrite_jqm (r : Record) (hok : s.dmaFaults (s.qOwner q) (s.ringSlot q) 32 true = false) :
    (s.ringWrite q r).jqm = s.jqm := by
  rw [s.ringWrite_eq q r hok]
  split
  · rw [State.syncQ_jqm]
    exact s.recordPlaced_jqm q r
  · exact s.recordPlaced_jqm q r

end

/-- A record written into a ring that is ready for one (R99, R100). -/
structure RingTakes (q : Nat) (r : Record) (s t : State) : Prop where
  written : RecordWritten q r s t
  jobs : t.jqm.jobs = s.jqm.jobs
  hand : (t.qst q).hand = (s.qst q).hand
  held : (t.qst q).held = (s.qst q).held
  stat : ∀ j ∈ steadyBits, t.on ⟨R.Q_STAT q, j, 1⟩ = s.on ⟨R.Q_STAT q, j, 1⟩

theorem RingTakes.after {q : Fin 4096} {r : Record} {s t u : State} (h : RingTakes q r s t) (k : QueueGoesOn q t u) : RingTakes q r s u where
  written := h.written.after k.toRingApart
  jobs := k.jobs.trans h.jobs
  hand := k.hand.trans h.hand
  held := k.held.trans h.held
  stat := fun j hj => (k.stat j hj).trans (h.stat j hj)

theorem State.ringWrite_takes (s : State) (q : Fin 4096) (r : Record) (hsize : cqSizeOk (s.cqSize q) = true)
    (hok : s.dmaFaults (s.qOwner q) (s.ringSlot q) 32 true = false) : RingTakes q r s (s.ringWrite q r) := by
  have hjqm := s.recordPlaced_jqm q r
  have hqst : (s.recordPlaced q r).qst q = s.qst q := by rw [State.qst, hjqm, State.qst]
  have hplaced : RingTakes q r s (s.recordPlaced q r) := ⟨s.recordPlaced_written q r hsize, by rw [hjqm], by rw [hqst], by rw [hqst],
    fun j hj => s.on_recordPlaced q r j (by simp only [steadyBits, List.mem_cons, List.not_mem_nil, or_false] at hj; omega)⟩
  exact hplaced.after (s.ringWrite_ok q r hok)

end Sys2Proof.Machine
end

section
/-! PROOF. FLUSH and the fences of a queue (R85, R86, R113). -/

namespace Sys2Proof.Machine

section
variable (s : State) (q : Fin 4096)

/-! ### FLUSH -/

theorem State.on_stopFetch (f : Fld) (hf : (F.Q_STAT_FENCE_WAIT q).apart f) : (s.stopFetch q).on f = s.on f :=
  (State.on_put_apart _ (F.Q_STAT_FENCE_WAIT q) f 0 hf).trans (State.on_qput s q _ f)

/-- Nothing in hand and no job in flight: a flush only stops the fetching (R85). -/
theorem State.queueFlush_empty (hf : s.on (F.Q_STAT_FLUSHING q) = false) (hhand : (s.qst q).hand = none) (hjobs : s.jobsOf q = []) :
    s.queueFlush q = ((s.set (F.Q_CTL_FLUSH q)).set (F.Q_STAT_FLUSHING q)).stopFetch q := by
  set x := ((s.set (F.Q_CTL_FLUSH q)).set (F.Q_STAT_FLUSHING q)).stopFetch q with hx
  have hxhand : (x.qst q).hand = none := by
    rw [hx, State.stopFetch, State.qst_clr, State.qst_qput_self]
    exact hhand
  have hxhanded : x.flushHand q = x := by rw [State.flushHand, State.completeHand, hxhand]
  have hids : x.jobIds (fun j => j.kind == .queue && j.q == q) = [] := congrArg (List.map Job.id) hjobs
  unfold State.queueFlush
  rw [if_neg (by simp [hf]), ← hx]
  show (x.flushHand q).flushJobs q = x
  rw [hxhanded, State.flushJobs, hids, State.eachJob]

section
variable (r : Req) (v : Word) (h : s.mayWrite r (R.Q_CTL q)) (hen : v.getLsbD 0 = s.on (F.Q_CTL_EN q))
  (hpause : v.getLsbD 2 = s.on (F.Q_CTL_PAUSE q)) (hoff : s.on (F.Q_CTL_PAUSE q) = false) (h9 : v.getLsbD 9 = false)
  (h10 : v.getLsbD 10 = false)
include h hen hpause hoff h9 h10

/-- A write of FLUSH that asks for nothing else flushes the queue after it has stored the configuration bits. -/
theorem exec_queueFlush_permitted : exec (.queueFlush r q v) s = .next ((s.qCtlBits q (v ||| 0x100)).queueFlush q) := by
  set w := v ||| 0x100 with hw
  have hbit : ∀ i, (0x100 : Word).getLsbD i = false → bit w.toNat i = v.getLsbD i := bit_or_kept v 0x100
  have hctl : ∀ i, i ≠ 1 → i ≠ 3 → (s.qCtlBits q w).on ⟨R.Q_CTL q, i, 1⟩ = s.on ⟨R.Q_CTL q, i, 1⟩ := s.on_qCtlBits q w
  have hwrite := s.qCtlWrite_steady q w _ _ rfl rfl
  rw [hbit 10 (by decide), hbit 9 (by decide), if_pos (bit_or_set v 0x100 8 (by decide)), hbit 2 (by decide), hbit 0 (by decide),
    h9, h10, if_neg (by decide), if_neg (by decide)] at hwrite
  refine (congrArg Host.Outcome.next (s.gateW_granted r (R.Q_CTL q) _ h)).trans (congrArg _ ?_)
  refine (hwrite (hen.trans (hctl 0 (by decide) (by decide)).symm) (hpause.trans (hctl 2 (by decide) (by decide)).symm)).trans ?_
  rw [hpause, hoff]
  rfl

theorem queueFlush_begins (hf : s.on (F.Q_STAT_FLUSHING q) = false) (hhand : (s.qst q).hand = none) (hjobs : s.jobsOf q = []) :
    ∃ t, exec (.queueFlush r q v) s = .next t ∧ t.on (F.Q_CTL_FLUSH q) = true ∧ t.on (F.Q_STAT_FLUSHING q) = true ∧
      t.on (F.Q_STAT_FENCE_WAIT q) = false ∧ (t.qst q).fetch = none ∧ SameRegsBut [R.Q_CTL q, R.Q_STAT q] s t ∧
      SameMemory s t := by
  have hexec := exec_queueFlush_permitted s q r v h hen hpause hoff h9 h10
  rw [State.queueFlush_empty (s.qCtlBits q (v ||| 0x100)) q ((State.sameRegsBut_qCtlBits s q _).on _ (by simp [R.Q_STAT, R.Q_CTL]) |>.trans hf)
    hhand hjobs] at hexec
  have hbits := (State.sameRegsBut_qCtlBits s q (v ||| 0x100)).mono (ps := [R.Q_CTL q.val, R.Q_STAT q.val]) (by simp)
  refine ⟨_, hexec, ?_, ?_, State.on_clr_self _ _ (by simp), ?_, ?_, ?_⟩
  · rw [State.on_stopFetch _ q _ (.inl (by simp [R.Q_STAT, R.Q_CTL]))]
    exact (State.on_put_apart _ (F.Q_STAT_FLUSHING q) (F.Q_CTL_FLUSH q) 1 (.inl (by simp [R.Q_STAT, R.Q_CTL]))).trans
      (State.on_set_self _ _ (by simp) rfl)
  · rw [State.on_stopFetch _ q _ ((Fld.apart_bits_iff _ _ _ _).2 (by simp))]
    exact State.on_set_self _ _ (by simp) rfl
  · rw [State.stopFetch, State.qst_clr, State.qst_qput_self]
  · exact ((((hbits.put (F.Q_CTL_FLUSH q) 1 (by simp)).put (F.Q_STAT_FLUSHING q) 1 (by simp)).qput q _).put
      (F.Q_STAT_FENCE_WAIT q) 0 (by simp))
  · exact ⟨fun _ => rfl, fun _ => rfl, fun _ => rfl, fun _ => rfl, rfl⟩

theorem queueFlush_again (hf : s.on (F.Q_STAT_FLUSHING q) = true) :
    ∃ t, exec (.queueFlush r q v) s = .next t ∧ SameRegsBut [R.Q_CTL q] s t ∧ OnlyRegs s t := by
  have hbits := State.sameRegsBut_qCtlBits s q (v ||| 0x100)
  refine ⟨_, (exec_queueFlush_permitted s q r v h hen hpause hoff h9 h10).trans (congrArg _ (if_pos ?_)), hbits, rfl⟩
  exact (hbits.on _ (by simp [R.Q_STAT, R.Q_CTL])).trans hf

end

theorem flushComplete_ends (hf : s.on (F.Q_STAT_FLUSHING q) = true) (hn : s.inflight q = 0) :
    ∃ t, exec (.flushComplete q) s = .next t ∧ t.on (F.Q_CTL_EN q) = false ∧
      ((s.qst q).held = [] → t.on (F.Q_CTL_FLUSH q) = false ∧ t.on (F.Q_STAT_FLUSHING q) = false) ∧
      SameRegsBut [R.Q_CTL q, R.Q_STAT q] s t ∧ OnlyRegs s t := by
  have hdone : s.flushDone q = if (s.qst q).held.isEmpty = true then ((s.clr (F.Q_CTL_EN q)).clr (F.Q_CTL_FLUSH q)).clr
      (F.Q_STAT_FLUSHING q) else s.clr (F.Q_CTL_EN q) := if_neg (by simp [hf, hn])
  have hen := (SameRegsBut.refl [R.Q_CTL q.val, R.Q_STAT q.val] s).put (F.Q_CTL_EN q) 0 (by simp)
  have hoff : (s.clr (F.Q_CTL_EN q)).on (F.Q_CTL_EN q) = false := State.on_clr_self _ _ (by simp)
  refine ⟨_, congrArg Host.Outcome.next hdone, ?_⟩
  split
  · refine ⟨?_, fun _ => ⟨?_, State.on_clr_self _ _ (by simp)⟩,
      (hen.put (F.Q_CTL_FLUSH q) 0 (by simp)).put (F.Q_STAT_FLUSHING q) 0 (by simp), rfl⟩
    · exact State.on_clr_of_off _ _ _ (State.on_clr_of_off _ _ _ hoff)
    · exact State.on_clr_of_off _ _ _ (State.on_clr_self _ _ (by simp))
  · exact ⟨hoff, fun he => absurd (congrArg List.isEmpty he) ‹_›, hen, rfl⟩

/-! ### Fences -/

/-- The descriptor gone from the hand, FENCE_WAIT with it. -/
def State.handGone (s : State) (q : Nat) : State :=
  (s.qput q { s.qst q with hand := none }).clr (F.Q_STAT_FENCE_WAIT q)

theorem State.handGone_apart : RingApart q s (s.handGone q) :=
  ⟨rfl, (((SameRegsBut.refl _ s).qput q _).put (F.Q_STAT_FENCE_WAIT q) 0 (by simp [queueRegs, fetchRegs])), fun _ _ => rfl⟩

theorem State.qst_handGone : (s.handGone q).qst q = { s.qst q with hand := none } := by
  rw [State.handGone, State.qst_clr, State.qst_qput_self]

/-- With no record held and a slot free, a record goes straight into the ring (R104). -/
theorem State.deliverRecord_free (s : State) (q : Nat) (k : Hold) (r : Record) (hheld : (s.qst q).held = [])
    (hfree : s.ringFree q = true) : s.deliverRecord q k r = s.ringWrite q r := if_pos (by simp [hheld, hfree])

theorem RingApart.ringFree {s t : State} {q : Fin 4096} (h : RingApart q s t) : t.ringFree q = s.ringFree q := by
  simp only [State.ringFree, h.cqSize, h.get 0x34 0 16 (by decide), h.get 0x38 0 16 (by decide)]

variable (h : Hand) (hw : s.on (F.Q_STAT_FENCE_WAIT q) = true) (hn : s.inflight q = 0) (hh : (s.qst q).hand = some h)
include hw hn hh

theorem State.fenceReady_some : s.fenceReady q = some h := by
  rw [State.fenceReady, if_pos (by simp [hw, hn]), hh]

/-- A FENCE descriptor whose fence is released completes OK (R113). -/
theorem fence_completes (hop : dOpcode h.desc = opFence) (ht : h.targets = []) (hhold : s.holdUsed q .own < 2)
    (hring : s.ringReady q) :
    ∃ t, exec (.fence q) s = .next t ∧ (t.qst q).hand = none ∧ t.on (F.Q_STAT_FENCE_WAIT q) = false ∧
      RecordWritten q (mkRecord h.addr h.desc ⟨stOk, 0, 0, engJqm, false⟩ s.time) s t := by
  obtain ⟨-, hsize, hheld, hfree, hok⟩ := hring
  set r := mkRecord h.addr h.desc ⟨stOk, 0, 0, engJqm, false⟩ s.time
  have hapart := s.handGone_apart q
  have hgone : ((s.handGone q).qst q).held = [] := by rw [State.qst_handGone, hheld]
  have hcomplete : s.completeHand q ⟨stOk, 0, 0, engJqm, false⟩ = ((s.handGone q).ringWrite q r).proceed q h.desc := by
    rw [← (s.handGone q).deliverRecord_free q Hold.own r hgone (hapart.ringFree.trans hfree)]
    simp only [State.completeHand, hh, State.reserveHold, if_pos hhold, ht, State.releaseTargets]
    rfl
  have htakes := (s.handGone q).ringWrite_takes q r (by rwa [hapart.cqSize]) (by rw [hapart.qOwner, hapart.ringSlot]; exact hok)
  have hall := htakes.after ((QueueGoesOn.refl q _).proceed h.desc)
  refine ⟨_, ?_, ?_, ?_, .before hapart hall.written⟩
  · refine congrArg Host.Outcome.next (?_ : (match s.fenceReady q with
      | some h => if dOpcode h.desc = opFence then s.completeHand q ⟨stOk, 0, 0, engJqm, false⟩ else s
      | none => s) = _)
    rw [s.fenceReady_some q h hw hn hh]
    exact (if_pos hop).trans hcomplete
  · rw [hall.hand, State.qst_handGone]
  · exact (hall.stat 6 (by decide)).trans (State.on_clr_self _ _ (by simp))

/-- Another descriptor whose fence is released goes on with its checks (R113). -/
theorem fenceRelease_checks (hop : dOpcode h.desc ≠ opFence) (hder : dOpcode h.desc ≠ opDerive) (is : List Nat) (u : State)
    (hok : (s.clr (F.Q_STAT_FENCE_WAIT q)).stage456 q h.desc = .ok (is, u)) :
    ∃ t, exec (.fenceRelease q) s = .next t ∧ (t.qst q).hand = some { h with checked := true, targets := is } ∧
      t.on (F.Q_STAT_FENCE_WAIT q) = false ∧ SameRegsBut [R.Q_STAT q] s t ∧ SameMemory s t := by
  have henlist := State.enlist_ok (s.clr (F.Q_STAT_FENCE_WAIT q)) u q h is hh hok
  rw [State.withList_of_ne_derive _ q _ hder] at henlist
  have hframe := State.stage456_ok_frame _ u q _ is hok
  refine ⟨_, ?_, (congrArg QueueSt.hand (State.qst_qput_self u q { u.qst q with hand := some { h with checked := true, targets := is } }) :), ?_, ?_, ?_⟩
  · refine congrArg Host.Outcome.next (?_ : (match s.fenceReady q with
      | some h => if dOpcode h.desc = opFence then s else (s.clr (F.Q_STAT_FENCE_WAIT q)).enlist q
      | none => s) = _)
    rw [s.fenceReady_some q h hw hn hh]
    exact (if_neg hop).trans henlist
  · rw [State.on_qput, hframe]
    exact State.on_clr_self s _ (by simp)
  · rw [hframe]
    exact (SameRegsBut.refl [R.Q_STAT q.val] s).put (F.Q_STAT_FENCE_WAIT q) 0 (by simp)
  · rw [hframe]
    exact ⟨fun _ => rfl, fun _ => rfl, fun _ => rfl, fun _ => rfl, rfl⟩

end

/-- Settles O17: a flush of an empty queue stops its fetching, its end disables the queue, and a fence without jobs opens. -/
theorem flushAndFences : Obligations.FlushAndFences := by
  unfold Obligations.FlushAndFences
  refine ⟨fun s r q v h hen hpause hoff h9 h10 => ⟨?_, ?_⟩, flushComplete_ends, fun s q h hw hn hh => ⟨?_, ?_⟩⟩
  · exact queueFlush_begins s q r v h hen hpause hoff h9 h10
  · exact queueFlush_again s q r v h hen hpause hoff h9 h10
  · exact fence_completes s q h hw hn hh
  · exact fenceRelease_checks s q h hw hn hh

end Sys2Proof.Machine
end

section
/-! PROOF. Dispatch of a job to its resource (R110, R111) and the delivery of completion records (R98, R104). -/

namespace Sys2Proof.Machine

/-! ### Dispatch -/

theorem State.nextQueue_single (s : State) (key q : Nat) : s.nextQueue key [q] = some q := by
  unfold State.nextQueue
  dsimp only
  split
  · next h =>
    obtain ⟨-, hmem, -⟩ := h
    exact congrArg some (by simpa using hmem)
  · split
    · next x hx => exact congrArg some (by simpa using List.mem_of_find?_eq_some hx)
    · rfl

theorem minClass_single (q c : Nat) (hc : c < 4) : minClass [(q, c)] = c :=
  Nat.min_eq_left (show c ≤ 4 by omega)

/-- A queue's job as its dispatch makes it: the newest one, which waits (R110). -/
def State.dispatchedJob (s : State) (p : Res) (q c : Nat) (h : Hand) (hold : Hold) (es : Nat × Nat) : Job :=
  { id := s.jqm.nextId, kind := .queue, q := q, owner := s.qOwner q, addr := h.addr, desc := h.desc, cls := c, res := p,
    engine := es.1, engine2 := es.2, phase := .waiting, wait := .none, abort := .none, hold := hold,
    spire := Spire.entry 0, targets := h.targets, slotWritten := false, newHandle := 0, iters := 0, leaf := none,
    inp := none, key := [], rnd := [], discard := false, doneAt := 0, result := none }

/-- The state in which a job has just been made of the descriptor in hand. -/
def State.dispatched (s : State) (p : Res) (q c : Nat) (h : Hand) (hold : Hold) (es : Nat × Nat) : State :=
  let t := s.setJobs (s.jqm.jobs ++ [s.dispatchedJob p q c h hold es])
  let t := { t with jqm := { t.jqm with nextId := s.jqm.nextId + 1 } }
  (t.qput q { s.qst q with hand := none }).noteGrant (pointNo p * 4 + c) q

theorem State.dispatch_eq (s : State) (p : Res) (q c : Nat) (h : Hand) (hold : Hold) (es : Nat × Nat) :
    s.dispatch p q c h hold es =
      (((s.dispatched p q c h hold es).tryStart p es.1).tryStart p es.2).proceed q h.desc := rfl

section
variable (s : State) (p : Res) (q c : Nat) (h : Hand) (es : Nat × Nat) (k : Hold) (hquiet : s.on F.FLT_STAT_QUIESCED = false)
  (hjqm : s.inReset 4 = false) (hres : s.inReset (resBit p) = false) (hdke : p ≠ .dke) (hc : c < 4)
  (hready : s.readyQueues p = [(q, c)]) (hwait : s.waitingAt p q = some h) (hplace : s.place p c = some es)
  (hhold : s.reserveHold q = some k)
include hquiet hjqm hres hdke hc hready hwait hplace hhold

/-- The one ready queue of a dispatch point gets its grant (R111). -/
theorem State.dispatchAt_single : s.dispatchAt p = s.dispatch p q c h k es := by
  have hpoint : s.dispatchReady p [(q, c)] c = s.dispatch p q c h k es := by
    have hone : (([(q, c)] : List (Nat × Nat)).filter (fun e => e.2 == c)).map (·.1) = [q] := by simp
    simp only [State.dispatchReady, hone, State.nextQueue_single, hwait, hplace, hhold]
  unfold State.dispatchAt
  rw [if_neg (by simp [hquiet, hjqm, hres])]
  simp only [hready, minClass_single q c hc, List.isEmpty_cons, Bool.false_eq_true, and_false, if_false, if_neg hdke]
  exact hpoint

theorem jobDispatch_grants :
    ∃ (u : State) (j : Job), exec (.jobDispatch p) s = .next (((u.tryStart p es.1).tryStart p es.2).proceed q h.desc) ∧
      u.jqm.jobs = s.jqm.jobs ++ [j] ∧ j.id = s.jqm.nextId ∧ u.jqm.nextId = s.jqm.nextId + 1 ∧ j.kind = .queue ∧
      j.q = q ∧ j.cls = c ∧ j.res = p ∧ j.engine = es.1 ∧ j.engine2 = es.2 ∧ j.phase = .waiting ∧ j.addr = h.addr ∧
      j.desc = h.desc ∧ j.hold = k ∧ j.targets = h.targets ∧ (u.qst q).hand = none ∧ u = { s with jqm := u.jqm } := by
  have hat := (s.dispatchAt_single p q c h es k hquiet hjqm hres hdke hc hready hwait hplace hhold).trans (s.dispatch_eq p q c h k es)
  refine ⟨s.dispatched p q c h k es, s.dispatchedJob p q c h k es, congrArg Host.Outcome.next hat, rfl, rfl, rfl, rfl, rfl, rfl,
    rfl, rfl, rfl, rfl, rfl, rfl, rfl, rfl, ?_, rfl⟩
  exact congrArg QueueSt.hand (sget_sput_self _ _ _ _)

end

/-! ### Hands that wait for a hold record -/

/-- No descriptor waits for a hold record where no queue's does (R104). -/
theorem State.waitingHands_eq_nil (s : State) :
    s.waitingHands = [] ↔ ∀ e ∈ s.jqm.queues, e.2.hand.bind (fun h => h.result.map (fun r => (e.1, r))) = none :=
  List.filterMap_eq_nil_iff

theorem QueueSt.hand_bind_none (x : QueueSt) (q : Nat) :
    x.hand.bind (fun h => h.result.map (fun r => (q, r))) = none ↔ ∀ h, x.hand = some h → h.result = none := by
  cases x.hand with
  | none => simp
  | some h => simp

theorem State.hand_waits_not (s : State) (h : s.waitingHands = []) (q : Nat) : ∀ d, (s.qst q).hand = some d → d.result = none := by
  rcases sget_mem_or (fun _ => QueueSt.idle) s.jqm.queues q with hmem | ⟨-, hidle⟩
  · exact (QueueSt.hand_bind_none _ _).1 ((s.waitingHands_eq_nil).1 h _ hmem)
  · intro d hd
    rw [State.qst, hidle] at hd
    cases hd

theorem State.waitingHands_qput (s : State) (q : Nat) (x : QueueSt) (h : s.waitingHands = []) (hx : x.hand = (s.qst q).hand) :
    (s.qput q x).waitingHands = [] := by
  refine (State.waitingHands_eq_nil _).2 fun e he => ?_
  by_cases hk : e.1 = q
  · have hval := snd_of_mem_sput_self (fun _ => QueueSt.idle) s.jqm.queues q x e he hk
    rw [hval]
    refine (QueueSt.hand_bind_none _ _).2 fun d hd => s.hand_waits_not h q d ?_
    rw [← hx, hd]
  · exact (s.waitingHands_eq_nil).1 h e (mem_of_mem_sput (fun _ => QueueSt.idle) s.jqm.queues q x e he hk)

theorem State.settleHands_none (s : State) (h : s.waitingHands = []) : s.settleHands = s := by
  rw [State.settleHands, h, List.foldl_nil]

/-! ### Completion -/

/-- With no descriptor waiting for a hold record, what follows a record is the queue's own work (R104). -/
theorem QueueGoesOn.afterRecord {s t : State} {q : Fin 4096} (h : QueueGoesOn q s t) (hw : t.waitingHands = []) :
    QueueGoesOn q s (t.afterRecord q) := by
  rw [State.afterRecord, t.settleHands_none hw]
  exact h.issueWanted.syncQ

theorem State.waitingHands_congr {s t : State} (h : t.jqm.queues = s.jqm.queues) : t.waitingHands = s.waitingHands := by
  rw [State.waitingHands, h, State.waitingHands]

theorem State.waitingHands_ringWrite (s : State) (q : Fin 4096) (r : Record) (h : s.waitingHands = [])
    (hok : s.dmaFaults (s.qOwner q) (s.ringSlot q) 32 true = false) : (s.ringWrite q r).waitingHands = [] :=
  (State.waitingHands_congr (congrArg JqmSt.queues (s.ringWrite_jqm q r hok))).trans h

theorem State.job?_congr {s t : State} (h : t.jqm.jobs = s.jqm.jobs) (n : Nat) : t.job? n = s.job? n := by
  rw [State.job?, h, State.job?]

theorem State.job?_id (s : State) (i : Nat) (j : Job) (h : s.job? i = some j) : j.id = i := by
  simpa using List.find?_some h

theorem State.job?_dropJob_self (s : State) (i : Nat) : (s.dropJob i).job? i = none := by
  refine List.find?_eq_none.2 fun j hj => ?_
  simpa using (List.mem_filter.1 hj).2

theorem State.job?_dropJob_of_ne (s : State) (i n : Nat) (h : n ≠ i) : (s.dropJob i).job? n = s.job? n := by
  refine (List.find?_filter ..).trans ?_
  congr 1
  funext j
  by_cases hn : j.id = n
  · simp [hn, h]
  · simp [hn]

theorem State.dropJob_apart (s : State) (i : Nat) (q : Fin 4096) : RingApart q s (s.dropJob i) := ⟨rfl, .refl _ s, fun _ _ => rfl⟩

/-- A finished job of a queue leaves its record in the ring and is gone (R98 to R100). -/
theorem jobComplete_records (s : State) (i : Nat) (j : Job) (r : JobResult) (hjob : s.job? i = some j) (hkind : j.kind = .queue)
    (hr : j.result = some r) (hkeep : j.discard = false) (hring : s.ringReady j.q) (hwait : s.waitingHands = []) :
    ∃ t, exec (.jobComplete i none) s = .next t ∧ t.job? i = none ∧ (∀ n, n ≠ i → t.job? n = s.job? n) ∧
      RecordWritten j.q (mkRecord j.addr j.desc r j.doneAt) s t := by
  obtain ⟨hq, hsize, hheld, hfree, hok⟩ := hring
  obtain ⟨q, hqq⟩ : ∃ q : Fin 4096, q.val = j.q := ⟨⟨j.q, hq⟩, rfl⟩
  rw [← hqq] at hsize hheld hfree hok ⊢
  have hid := s.job?_id i j hjob
  set rec := mkRecord j.addr j.desc r j.doneAt
  have hexec : exec (.jobComplete i none) s = .next (((s.dropJob i).ringWrite q rec).afterRecord q) := by
    rw [← (s.dropJob i).deliverRecord_free q j.hold rec hheld hfree, hqq]
    refine congrArg Host.Outcome.next (?_ : (match s.job? i with
      | some k => match k.kind, k.result with
        | .queue, some r => (s.checkedResult k r none).1.jobRecord k (s.checkedResult k r none).2
        | _, _ => s
      | none => s) = _)
    simp only [hjob, hkind, hr]
    simp only [State.checkedResult, State.jobRecord, hkeep, hid, Bool.false_eq_true, if_false]
    rfl
  have hapart := s.dropJob_apart i q
  have hwrite := (s.dropJob i).ringWrite_takes q rec hsize hok
  have hall := hwrite.after ((QueueGoesOn.refl q _).afterRecord ((s.dropJob i).waitingHands_ringWrite q rec hwait hok))
  have hjobs := State.job?_congr hall.jobs
  exact ⟨_, hexec, (hjobs i).trans (s.job?_dropJob_self i), fun n hn => (hjobs n).trans (s.job?_dropJob_of_ne i n hn),
    .before hapart hall.written⟩

/-- A held record goes into the ring where a slot is free (R104). -/
theorem heldRecordTransfer_records (s : State) (q : Fin 4096) (k : Hold) (r : Record) (rest : List (Hold × Record))
    (hheld : (s.qst q).held = (k, r) :: rest) (hsize : cqSizeOk (s.cqSize q) = true) (hfree : s.ringFree q = true)
    (hok : s.dmaFaults (s.qOwner q) (s.ringSlot q) 32 true = false) (hwait : s.waitingHands = []) :
    ∃ t, exec (.heldRecordTransfer q) s = .next t ∧ (t.qst q).held = rest ∧ RecordWritten q r s t ∧
      (rest = [] → t.on (F.Q_STAT_CQ_STALL q) = false) := by
  set u := s.qput q { s.qst q with held := rest } with hu
  have hexec : exec (.heldRecordTransfer q) s = .next ((if rest.isEmpty = true then (u.ringWrite q r).clr (F.Q_STAT_CQ_STALL q)
      else u.ringWrite q r).afterRecord q) := by
    refine congrArg Host.Outcome.next ?_
    unfold State.heldTransfer
    rw [hheld]
    exact if_neg (by simp [hfree])
  have hu' : RingApart q s u := ⟨rfl, .refl _ s, fun _ _ => rfl⟩
  have huwait : u.waitingHands = [] := s.waitingHands_qput q _ hwait rfl
  have hwrite := u.ringWrite_takes q r hsize hok
  have hwaits := u.waitingHands_ringWrite q r huwait hok
  have hqst : (u.qst q).held = rest := congrArg QueueSt.held (s.qst_qput_self q _)
  by_cases hrest : rest = []
  · rw [if_pos (by simp [hrest])] at hexec
    have hclr : RingApart q (u.ringWrite q r) ((u.ringWrite q r).clr (F.Q_STAT_CQ_STALL q)) :=
      ⟨rfl, (SameRegsBut.refl _ _).put _ 0 (by simp [queueRegs, fetchRegs]), fun _ _ => rfl⟩
    have hafter := (QueueGoesOn.refl q ((u.ringWrite q r).clr (F.Q_STAT_CQ_STALL q))).afterRecord hwaits
    exact ⟨_, hexec, hafter.held.trans (hwrite.held.trans hqst), .before hu' ((hwrite.written.after hclr).after hafter.toRingApart),
      fun _ => (hafter.stat 2 (by decide)).trans (State.on_clr_self _ _ (by simp))⟩
  · rw [if_neg (by simpa using hrest)] at hexec
    have hall := hwrite.after ((QueueGoesOn.refl q _).afterRecord hwaits)
    exact ⟨_, hexec, hall.held.trans hqst, .before hu' hall.written, fun h => absurd h hrest⟩

/-- Settles O18: dispatch of the one ready job, completion of a finished one, and a held record put into the ring. -/
theorem dispatchAndCompletion : Obligations.DispatchAndCompletion := by
  unfold Obligations.DispatchAndCompletion
  exact ⟨fun s p q c h es k h1 h2 h3 h4 h5 h6 h7 h8 h9 => jobDispatch_grants s p q c h es k h1 h2 h3 h4 h5 h6 h7 h8 h9,
    jobComplete_records, heldRecordTransfer_records⟩

end Sys2Proof.Machine
end

section
/-! PROOF. Maps over sparse maps, registers restored by a reset (R13), the frame of the Almanac's log, and states that agree
on power and on some registers. -/

namespace Sys2Proof.Machine

/-! ### A map over a sparse map -/

section
variable {α : Type} (d : Nat → α) (m : List (Nat × α)) (k : Nat)

/-- A sorted list holds one entry at a key: the one that is read. -/
theorem sget_of_mem (hm : sorted m = true) (e : Nat × α) (he : e ∈ m) : sget d m e.1 = e.2 := by
  induction m with
  | nil => cases he
  | cons a m ih =>
    obtain ⟨ha, hs⟩ := (sorted_cons a m).1 hm
    unfold sget
    rcases List.mem_cons.1 he with rfl | he
    · simp
    · have hne : (a.1 == e.1) = false := by simpa using (ha e he).ne
      rw [List.find?_cons_of_neg (by simp [hne])]
      exact ih hs he

theorem sget_smap [DecidableEq α] (f : Nat → α → α) (hm : swf d m = true) (hd : f k (d k) = d k) :
    sget d (smap d f m) k = f k (sget d m k) := by
  obtain ⟨hsort, -⟩ := (swf_iff d m).1 hm
  obtain ⟨hsort', -⟩ := (swf_iff d _).1 (swf_smap d f m hm)
  rcases sget_mem_or d m k with hmem | ⟨hnone, hread⟩
  · by_cases hval : f k (sget d m k) = d k
    · rcases sget_mem_or d (smap d f m) k with hmem' | ⟨-, hread'⟩
      · obtain ⟨x, hx, hxe⟩ := List.mem_map.1 (List.mem_of_mem_filter hmem')
        obtain ⟨hkey, hfx⟩ := Prod.ext_iff.1 hxe
        simp only at hkey hfx
        rw [← hfx, hkey, ← sget_of_mem d m hsort x hx, hkey]
      · rw [hread', hval]
    · exact sget_of_mem d _ hsort' (k, f k (sget d m k))
        (List.mem_filter.2 ⟨List.mem_map.2 ⟨_, hmem, rfl⟩, decide_eq_true hval⟩)
  · rw [hread, hd]
    rcases sget_mem_or d (smap d f m) k with hmem' | ⟨-, hread'⟩
    · obtain ⟨x, hx, hxe⟩ := List.mem_map.1 (List.mem_of_mem_filter hmem')
      exact absurd (Prod.ext_iff.1 hxe).1 (hnone x hx)
    · exact hread'

end

/-! ### The registers after a reset (R13) -/

/-- A register with its reset value has it after a reset. -/
theorem resetWord_regReset (ks : List RstKind) (o : Nat) : resetWord ks o (regReset o) = regReset o := by
  unfold resetWord
  split
  · next r i _ =>
    generalize r.fields = fs
    induction fs with
    | nil => rfl
    | cons f fs ih =>
      rw [List.foldl_cons, fieldSet_fieldGet, ite_self]
      exact ih
  · rfl

/-- Every selected register is restored, as far as its fields are of the kinds. -/
theorem State.rd_resetRegs (s : State) (ks : List RstKind) (sel : Nat → Bool) (h : s.regsWf = true) (o : Nat) :
    (s.resetRegs ks sel).rd o = if sel o = true then resetWord ks o (s.rd o) else s.rd o :=
  sget_smap regReset s.regs o (fun o v => if sel o then resetWord ks o v else v) h (by
    split
    · exact resetWord_regReset ks o
    · rfl)

theorem State.rd_resetRegs_all (s : State) (ks : List RstKind) (h : s.regsWf = true) (o : Nat) :
    (s.resetRegs ks (fun _ => true)).rd o = resetWord ks o (s.rd o) := (s.rd_resetRegs ks _ h o).trans (if_pos rfl)

/-! ### The frame of the Almanac's log -/

/-- Nothing has changed but the log, events and their counters (R532 to R535). -/
structure Logs (s t : State) : Prop where
  frame : t = { s with alm := t.alm, regs := t.regs, cnt := t.cnt, evc := t.evc }
  regs : SameRegsBut eventRegs s t
  counts : ∀ o, (∀ k < 3, o ≠ R.EVC_CNT k) → t.cntGet o = s.cntGet o

theorem EventFrame.withAlm {s t : State} (h : EventFrame s t) : t = { s with alm := t.alm, regs := t.regs, cnt := t.cnt, evc := t.evc } := by
  have ha : t.alm = s.alm := (congrArg State.alm h :)
  rw [ha]
  exact h

theorem Logs.refl (s : State) : Logs s s := ⟨rfl, .refl _ s, fun _ _ => rfl⟩

section
variable {s t u : State} (h : Logs s t)
include h

theorem Logs.trans (k : Logs t u) : Logs s u where
  frame := k.frame.trans (congrArg (fun x : State => { x with alm := u.alm, regs := u.regs, cnt := u.cnt, evc := u.evc }) h.frame)
  regs := h.regs.trans k.regs
  counts := fun o ho => (k.counts o ho).trans (h.counts o ho)

theorem Logs.alm (a : AlmSt) : Logs s { t with alm := a } := h.trans ⟨rfl, .refl _ t, fun _ _ => rfl⟩

theorem Logs.raise (n : Nat) (hn : n < 256) : Logs s (t.raise n) :=
  have hevc := (EvcOnly.refl t).raise n
  h.trans ⟨hevc.frame.withAlm, (SameRegsBut.refl _ t).raise n hn fun _ ho => ho, hevc.counts⟩

theorem Logs.level (n : Nat) (hn : n < 256) (b : Bool) : Logs s (t.level n b) :=
  have hevc := (EvcOnly.refl t).level n b
  h.trans ⟨hevc.frame.withAlm, fun o ho => t.rd_level n o b (ne_evcPend_of_not_mem o n ho hn)
    fun e => ho (e ▸ List.mem_cons_self ..), hevc.counts⟩

theorem Logs.ite {p : Prop} [Decidable p] (k : Logs s u) : Logs s (if p then t else u) := by
  split
  · exact h
  · exact k

theorem Logs.almStore (e : AlmEntry) : Logs s (t.almStore e) := h.alm _

theorem Logs.almSummarise (e : AlmEntry) : Logs s (t.almSummarise e) := (h.alm _).raise 241 (by decide)

theorem Logs.almLeave (e : AlmEntry) : Logs s (t.almLeave e) := (h.almSummarise e).ite ((h.alm _).almStore e)

theorem Logs.foldl {α : Type} (f : State → α → State) (hf : ∀ x a, Logs s x → Logs s (f x a)) (l : List α) :
    Logs s (l.foldl f t) := by
  induction l generalizing t with
  | nil => exact h
  | cons a l ih => exact ih (hf t a h)

theorem Logs.almDrain : Logs s t.almDrain := by
  have hfill : Logs s t.almFill := h.ite (h.alm _)
  have hsummaries : Logs s t.almFill.almSummaries := (hfill.alm _).foldl _ (fun _ _ hx => hx.almStore _) _
  have hleft : ∀ (l : List (Nat × AlmEntry)) (x : State), Logs s x → Logs s (l.foldl (fun s e => s.almLeave e.2) x) :=
    fun l x hx => hx.foldl _ (fun _ e hy => hy.almLeave e.2) l
  unfold State.almDrain
  exact (fun hdone => Logs.ite hdone (hdone.alm _)) (hleft _ _ (hsummaries.alm _))

theorem Logs.almQueue (e : AlmEntry) : Logs s (t.almQueue e) := by
  unfold State.almQueue
  refine (h.almDrain.alm _).ite (((h.almDrain.alm _).raise 242 (by decide)).ite ?_)
  split
  · exact (h.almDrain.alm _).ite ((h.almDrain.alm _).almLeave _)
  · exact h.almDrain.alm _

theorem Logs.almanac (etype subject data : Nat) : Logs s (t.almanac etype subject data) := h.almQueue _

end

/-! ### States that agree on power and on some registers -/

/-- The power state is as before, and so are the registers of a list. -/
structure Steady (ks : List Nat) (s t : State) : Prop where
  power : t.power = s.power
  regs : ∀ o ∈ ks, t.rd o = s.rd o

theorem Steady.refl (ks : List Nat) (s : State) : Steady ks s s := ⟨rfl, fun _ _ => rfl⟩

section
variable {ks : List Nat} {s t u : State} (h : Steady ks s t)
include h

theorem Steady.trans (k : Steady ks t u) : Steady ks s u :=
  ⟨k.power.trans h.power, fun o ho => (k.regs o ho).trans (h.regs o ho)⟩

theorem Steady.mono {js : List Nat} (hj : ∀ o ∈ js, o ∈ ks) : Steady js s t := ⟨h.power, fun o ho => h.regs o (hj o ho)⟩

theorem Steady.get (f : Fld) (hf : f.off ∈ ks) : t.get f = s.get f := by
  rw [State.get, h.regs _ hf, State.get]

theorem Steady.on (f : Fld) (hf : f.off ∈ ks) : t.on f = s.on f := by
  rw [State.on, h.get f hf, State.on]

theorem Steady.upd (hp : u.power = t.power := by rfl) (hr : u.regs = t.regs := by rfl) : Steady ks s u :=
  h.trans ⟨hp, fun o _ => by rw [State.rd, hr, State.rd]⟩

theorem Steady.wr (o : Nat) (v : Word) (ho : o ∉ ks) : Steady ks s (t.wr o v) :=
  h.trans ⟨rfl, fun p hp => State.rd_wr_of_ne t o p v fun e => ho (e ▸ hp)⟩

theorem Steady.put (f : Fld) (x : Nat) (hf : f.off ∉ ks) : Steady ks s (t.put f x) := h.wr _ _ hf

theorem Steady.ite {p : Prop} [Decidable p] (k : Steady ks s u) : Steady ks s (if p then t else u) := by
  split
  · exact h
  · exact k

/-- What is done only under a condition. -/
theorem Steady.branch {p : Prop} [Decidable p] (f : State → State) (hf : ∀ x, Steady ks s x → Steady ks s (f x)) :
    Steady ks s (if p then f t else t) := (hf t h).ite h

theorem Steady.foldl {α : Type} (f : State → α → State) (l : List α) (hf : ∀ x, ∀ a ∈ l, Steady ks s x → Steady ks s (f x a)) :
    Steady ks s (l.foldl f t) := by
  induction l generalizing t with
  | nil => exact h
  | cons a l ih => exact ih (hf t a (List.mem_cons_self ..) h) fun x b hb => hf x b (List.mem_cons_of_mem _ hb)

theorem Steady.inc (o : Nat) (f : Fld) (hs : satOf o = some f) (hf : f.off ∉ ks) : Steady ks s (t.inc o) :=
  h.trans ⟨(congrArg State.power (t.inc_eventFrame o) :), fun p hp =>
    ((SameRegsBut.refl [f.off] t).inc o f hs (by simp)) p (by simpa using fun e : p = f.off => hf (e ▸ hp))⟩

section
variable (hks : ∀ o ∈ ks, o ∉ eventRegs)
include hks

theorem Steady.logs (k : Logs t u) : Steady ks s u :=
  h.trans ⟨(congrArg State.power k.frame :), fun o ho => k.regs o (hks o ho)⟩

theorem Steady.raise (n : Nat) (hn : n < 256) : Steady ks s (t.raise n) := h.logs hks ((Logs.refl t).raise n hn)

theorem Steady.almanac (a b c : Nat) : Steady ks s (t.almanac a b c) := h.logs hks ((Logs.refl t).almanac a b c)

end

end

end Sys2Proof.Machine
end

section
/-! PROOF. System reset, power-on reset and power-up (R544 to R546, R599). -/

namespace Sys2Proof.Machine

/-! ### What a reset leaves -/

section
variable (s : State) (hwf : s.regsWf = true) (hupd : s.cup.upd = none) (hp : s.power.pwrOk = true) (k : Nat)
include hupd

theorem State.endUpdate_none (b : Bool) : s.endUpdate b = s := by rw [State.endUpdate, hupd]

include hp

theorem State.systemReset_idle : s.systemReset k =
    ((s.resetRegs sysKinds (fun _ => true)).clearCore).wr R.PWR_RST_CAUSE (BitVec.ofNat 32 (2 ^ k)) := by
  rw [s.systemReset_powered k hp, s.endUpdate_none hupd]

include hwf

theorem State.rd_systemReset (o : Nat) (ho : o ≠ R.PWR_RST_CAUSE) : (s.systemReset k).rd o = resetWord sysKinds o (s.rd o) := by
  rw [s.systemReset_idle hupd hp, State.rd_wr_of_ne _ _ _ _ ho]
  exact s.rd_resetRegs_all sysKinds hwf o

end

/-- What a system reset of a cause leaves of the device (R13, R544). -/
structure ResetBy (k : Nat) (s t : State) : Prop where
  cause : t.rd R.PWR_RST_CAUSE = BitVec.ofNat 32 (2 ^ k)
  regs : ∀ o, o ≠ R.PWR_RST_CAUSE → t.rd o = resetWord sysKinds o (s.rd o)
  cleared : ∃ x : State, t = x.clearCore.wr R.PWR_RST_CAUSE (BitVec.ofNat 32 (2 ^ k)) ∧ x = { s with
    regs := x.regs, cnt := x.cnt, cntCopy := x.cntCopy, power := x.power }

theorem State.systemReset_resetBy (s : State) (k : Nat) (hwf : s.regsWf = true) (hupd : s.cup.upd = none)
    (hp : s.power.pwrOk = true) : ResetBy k s (s.systemReset k) :=
  ⟨s.systemReset_rstCause k hp, s.rd_systemReset hwf hupd hp k, _, s.systemReset_idle hupd hp k, rfl⟩

theorem exec_systemReset_powered (s : State) (hp : s.power.pwrOk = true) :
    exec .systemReset s = .next (({ s with power := { s.power with sysrstLow := true } } : State).systemReset 1) :=
  congrArg Host.Outcome.next (if_pos hp)

/-- A write of PWR_CTL that asks for a system reset alone (R545). -/
theorem exec_sysReset_permitted (s : State) (r : Req) (v : Word) (h : s.mayWrite r R.PWR_CTL) (hv : v &&& 0x10F = 0) :
    exec (.sysReset r v) s = .next (s.systemReset 2) := by
  have hbit : ∀ i, (0x10F : Word).getLsbD i = true → (0x10 : Word).getLsbD i = false → bit (v ||| 0x10).toNat i = false :=
    fun i hm hc => bit_or_masked hv 0x10 i false hm (by rw [hc, Bool.or_false]; exact BitVec.getLsbD_zero)
  have hwrite : s.pwrCtlWrite (v ||| 0x10) = s.systemReset 2 := by
    simp only [State.pwrCtlWrite, hbit 0 (by decide) (by decide), hbit 1 (by decide) (by decide), hbit 2 (by decide) (by decide),
      hbit 3 (by decide) (by decide), hbit 8 (by decide) (by decide), bit_or_set v 0x10 4 (by decide), if_true,
      Bool.false_eq_true, if_false]
  exact (congrArg Host.Outcome.next (s.gateW_granted r R.PWR_CTL _ h)).trans (congrArg _ hwrite)

theorem systemReset_resets (s : State) (c : Instr) (k : Nat) (hwf : s.regsWf = true) (hupd : s.cup.upd = none)
    (hp : s.power.pwrOk = true) (hc : (c = .systemReset ∧ k = 1) ∨
      ∃ r v, c = .sysReset r v ∧ s.mayWrite r R.PWR_CTL ∧ v &&& 0x10F = 0 ∧ k = 2) :
    ∃ t, exec c s = .next t ∧ ResetBy k s t := by
  rcases hc with ⟨rfl, rfl⟩ | ⟨r, v, rfl, hw, hv, rfl⟩
  · obtain ⟨hcause, hregs, x, hx, hframe⟩ :=
      State.systemReset_resetBy { s with power := { s.power with sysrstLow := true } } 1 hwf hupd hp
    exact ⟨_, exec_systemReset_powered s hp, hcause, hregs, x, hx, hframe⟩
  · exact ⟨_, exec_sysReset_permitted s r v hw hv, s.systemReset_resetBy 2 hwf hupd hp⟩

theorem pwrOkFall_resets (s : State) (hwf : s.regsWf = true) (hp : s.power.pwrOk = true) :
    ∃ t, exec .pwrOkFall s = .next t ∧ (∀ o, t.rd o = resetWord poKinds o (s.rd o)) ∧ t.cnt = [] ∧ t.cntCopy = [] ∧
      t.svcMem = [] ∧ t.cupMem = [] ∧ t.power = { State.reset.power with sysrstLow := s.power.sysrstLow } ∧
      t.jqm.jobs = [] ∧ t.otp = s.otp ∧ t.cup.flash = s.cup.flash ∧ t.hostMem = s.hostMem ∧ t.keep.bbk = s.keep.bbk :=
  ⟨s.powerOff, congrArg Host.Outcome.next (if_pos hp), s.rd_resetRegs_all poKinds hwf,
    rfl, rfl, rfl, rfl, rfl, rfl, rfl, rfl, rfl, rfl⟩

/-! ### Straps -/

theorem eventRegs_spare (ks : List Nat) (h : ∀ o ∈ ks, o < R.EVC_PEND 0) : ∀ o ∈ ks, o ∉ eventRegs := fun o ho =>
  not_mem_eventRegs_of_lt o (h o ho)

section
variable (s : State) (x : Straps)

/-- Two fields of one register without a common bit. -/
theorem Fld.apart_of_bits (o a n b m : Nat) (h : a + n ≤ b ∨ b + m ≤ a) : (⟨o, a, n⟩ : Fld).apart ⟨o, b, m⟩ := .inr h

theorem State.get_put_strap (t : State) (a n b m v : Nat) (h : a + n ≤ b ∨ b + m ≤ a) :
    (t.put ⟨R.GLB_STRAP, a, n⟩ v).get ⟨R.GLB_STRAP, b, m⟩ = t.get ⟨R.GLB_STRAP, b, m⟩ :=
  t.get_put_apart _ _ v (Fld.apart_of_bits _ _ _ _ _ h)

theorem State.sampleStraps_bootSrc :
    (s.sampleStraps x).get F.GLB_STRAP_BOOT_SRC = (if x.bootSrc == 1 && !x.hostEn then 2 else x.bootSrc.toNat) := by
  have hlt := x.bootSrc.isLt
  simp only [State.sampleStraps, State.putB]
  iterate 7 rw [State.get_put_strap _ _ _ _ _ _ (by decide)]
  rw [State.get_put_self _ _ _ (by decide)]
  refine Nat.mod_eq_of_lt ?_
  split
  · decide
  · exact hlt

theorem State.sampleStraps_hostEn : (s.sampleStraps x).on F.GLB_STRAP_HOST_EN = x.hostEn := by
  simp only [State.sampleStraps, State.putB, State.on]
  iterate 6 rw [State.get_put_strap _ _ _ _ _ _ (by decide)]
  rw [State.get_put_self _ _ _ (by decide)]
  cases x.hostEn <;> rfl

theorem State.sampleStraps_lineMode : (s.sampleStraps x).get F.GLB_STRAP_LINE_MODE = x.lineMode.toNat := by
  simp only [State.sampleStraps, State.putB]
  iterate 4 rw [State.get_put_strap _ _ _ _ _ _ (by decide)]
  rw [State.get_put_self _ _ _ (by decide)]
  exact Nat.mod_eq_of_lt x.lineMode.isLt

theorem State.sampleStraps_vigilEff : (s.sampleStraps x).get F.GLB_STRAP_VIGIL_EFF = x.vigilPort.toNat := by
  simp only [State.sampleStraps, State.putB]
  rw [State.get_put_strap _ _ _ _ _ _ (by decide), State.get_put_self _ _ _ (by decide)]
  exact Nat.mod_eq_of_lt x.vigilPort.isLt

theorem State.sampleStraps_conflict : (s.sampleStraps x).on F.GLB_STRAP_CONFLICT = (x.bootSrc == 1 && !x.hostEn) :=
  State.on_putB_self _ _ _ (by decide) rfl

end

/-! ### Power-up (R546) -/

/-- Power is good, and the straps are sampled. -/
def State.powerGood (s : State) (x : Straps) : State :=
  ({ s with
    power := { s.power with pwrOk := true }
    blf := { s.blf with backup := false }
    alm := { s.alm with boots := s.alm.boots + 1 }
    cpm := { s.cpm with ready := if x.hostEn then [0, 1, 2, 3, 4] else [0, 1, 2, 4], powerOn := s.time } } : State).sampleStraps x

/-- What is done before the device looks at SYSRST_N: the battery domain is looked at. -/
def State.powered (s : State) (x : Straps) : State :=
  let s := s.powerGood x
  let s := if s.get F.BLF_BAT_STAT_EVT = 0 then s else (s.raise 18).set F.KEEP_STAT_BBK_LOST
  if !s.keep.bbkValid && s.keep.bbkGen != 0 then s.bbkLost else s

theorem exec_powerOnReset_off (s : State) (x : Straps) (u : OtpNoise) (hp : s.power.pwrOk = false) :
    exec (.powerOnReset x u) s =
      .next (if (s.powered x).power.sysrstLow = true then s.powered x else (s.powered x).release u) :=
  congrArg Host.Outcome.next (if_neg (by simp [hp]))

theorem Steady.bbkLost {ks : List Nat} {s t : State} (h : Steady ks s t) (hks : ∀ o ∈ ks, o ∉ eventRegs) (hk : R.KEEP_STAT ∉ ks) :
    Steady ks s t.bbkLost := ((h.put F.KEEP_STAT_BBK_LOST 1 hk).almanac hks 5 0 0).raise hks 201 (by decide)

section
variable (s : State) (x : Straps)

/-- What follows the straps leaves them and the power as they are. -/
theorem State.powered_steady : Steady [R.GLB_STRAP] (s.powerGood x) (s.powered x) := by
  have hks := eventRegs_spare [R.GLB_STRAP] (by decide)
  have h := Steady.refl [R.GLB_STRAP] (s.powerGood x)
  have hlost := h.ite (p := (s.powerGood x).get F.BLF_BAT_STAT_EVT = 0) ((h.raise hks 18 (by decide)).put F.KEEP_STAT_BBK_LOST 1 (by decide))
  exact (hlost.bbkLost hks (by decide)).ite hlost

theorem State.powered_keeps : Keeps true s (s.powered x) := by
  have h : Keeps true s (s.powerGood x) := State.sampleStraps_keeps x (keeps_upd (Keeps.refl true s) rfl fun m => m)
  have hlost := keeps_ite (c := (s.powerGood x).get F.BLF_BAT_STAT_EVT = 0) h (State.set_keeps F.KEEP_STAT_BBK_LOST (State.raise_keeps 18 h))
  exact keeps_ite (State.bbkLost_keeps hlost) hlost

end

theorem powerOnReset_held (s : State) (x : Straps) (u : OtpNoise) (hp : s.power.pwrOk = false) (hlow : s.power.sysrstLow = true) :
    ∃ t, exec (.powerOnReset x u) s = .next t ∧ t.power = { s.power with pwrOk := true } ∧
      t.get F.GLB_STRAP_BOOT_SRC = (if x.bootSrc == 1 && !x.hostEn then 2 else x.bootSrc.toNat) ∧
      t.on F.GLB_STRAP_HOST_EN = x.hostEn ∧ t.get F.GLB_STRAP_LINE_MODE = x.lineMode.toNat ∧
      t.get F.GLB_STRAP_VIGIL_EFF = x.vigilPort.toNat ∧
      t.on F.GLB_STRAP_CONFLICT = (x.bootSrc == 1 && !x.hostEn) ∧ SameMemory s t := by
  have h := s.powered_steady x
  refine ⟨s.powered x, ?_, h.power, ?_, ?_, ?_, ?_, ?_, (s.powered_keeps x).sameMemory⟩
  · rw [exec_powerOnReset_off s x u hp, if_pos (by rw [h.power]; exact hlow)]
  · exact (h.get _ (by simp)).trans (State.sampleStraps_bootSrc _ x)
  · exact (h.on _ (by simp)).trans (State.sampleStraps_hostEn _ x)
  · exact (h.get _ (by simp)).trans (State.sampleStraps_lineMode _ x)
  · exact (h.get _ (by simp)).trans (State.sampleStraps_vigilEff _ x)
  · exact (h.on _ (by simp)).trans (State.sampleStraps_conflict _ x)

/-! ### Release of the reset (R546, R599) -/

section
variable {ks : List Nat} {s t : State} (h : Steady ks s t)
include h

theorem Steady.rngRelease (hk : R.RNG_STAT ∉ ks ∧ R.RNG_SRC_STAT ∉ ks ∧ R.RNG_DRBG_STAT ∉ ks) : Steady ks s t.rngRelease := by
  obtain ⟨h1, h2, h3⟩ := hk
  have hnone : Steady ks s t.uninstantiate := (h.upd (u := { t with rng := _ })).wr R.RNG_DRBG_STAT 0 h3
  exact (hnone.put F.RNG_STAT_STATE rngFailed h1).ite ((hnone.put F.RNG_STAT_STATE rngStartup h1).put F.RNG_SRC_STAT_LIVE 0 h2)

theorem Steady.setModes (rs : List Rec) (hk : ∀ p < 16, R.LIF_PMODE p ∉ ks) : Steady ks s (t.setModes rs) := by
  refine h.foldl _ _ fun x p hp hx => ?_
  have hmode := hk p (List.mem_range.1 hp)
  exact (((hx.put (F.LIF_PMODE_RATE p) _ hmode).put (F.LIF_PMODE_LANES p) _ hmode).put (F.LIF_PMODE_FIRST_LANE p) _ hmode).put
    (F.LIF_PMODE_VIGIL_10G p) _ hmode

theorem Steady.restartGovernor (hk : R.PWR_STAT ∉ ks) : Steady ks s t.restartGovernor :=
  ((h.upd (u := { t with cpm := _ })).put F.PWR_STAT_GOV_RUN 0 hk).put F.PWR_STAT_PACE_LOW 0 hk

theorem Steady.romClocks (hk : R.CKG_CBUS ∉ ks) : Steady ks s t.romClocks :=
  (((h.put F.CKG_CBUS_MUL 32 hk).put F.CKG_CBUS_PBUS_DIV 0 hk).put F.CKG_CBUS_XSPI_DIV 4 hk).ite h

end

section
variable {s t : State} (h : Steady [R.GLB_STRAP] s t)
include h

theorem Steady.lcsRead (u : OtpNoise) : Steady [R.GLB_STRAP] s (t.lcsRead u) := by
  have hks := eventRegs_spare [R.GLB_STRAP] (by decide)
  unfold State.lcsRead
  extract_lets ws shown noted d state ready target waited logged
  have hshown : Steady [R.GLB_STRAP] s shown := h.foldl _ _ fun x w _ hx => hx.wr _ _ (by simp only [List.mem_singleton, R.LCS_W_RAW, R.GLB_STRAP]; omega)
  have hnoted : Steady [R.GLB_STRAP] s noted := hshown.branch (fun x => ((x.report srcLcs 0x0C 0 0).set F.LCS_STAT_OTP_UNSTABLE).inc (R.LCS_CNT 4))
    fun x hx => ((hx.upd (u := x.report srcLcs 0x0C 0 0)).put F.LCS_STAT_OTP_UNSTABLE 1 (by simp)).inc _ _ (satOf_lcsCnt 4) (by simp)
  have hready : Steady [R.GLB_STRAP] s ready := ((((hnoted.put F.LCS_STATE_STATE _ (by simp)).put F.LCS_STAT_INVALID_WORD _ (by simp)).put
    F.LCS_STAT_READY 1 (by simp)).put F.LCS_STAT_IN_TRANSITION _ (by simp)).put F.LCS_STAT_ROLL_FWD _ (by simp)
  have htarget : Steady [R.GLB_STRAP] s target := (hready.put F.LCS_STAT_TARGET _ (by simp)).ite hready
  have hwaited : Steady [R.GLB_STRAP] s waited := htarget.put F.LCS_STAT_WIPE_WAIT 0 (by simp)
  have hlogged : Steady [R.GLB_STRAP] s logged := (hwaited.almanac hks 3 _ _).ite hwaited
  exact (hlogged.raise hks 210 (by decide)).ite hlogged

theorem Steady.showOwner : Steady [R.GLB_STRAP] s t.showOwner := by
  unfold State.showOwner
  split
  · exact h
  · exact (h.put F.LCS_STAT_OWNER_SET 1 (by simp)).foldl _ _ fun x i _ hx => hx.wr (R.LCS_OWN_DIG i) _ (by simp only [List.mem_singleton, R.LCS_OWN_DIG, R.GLB_STRAP]; omega)

theorem Steady.showOtp : Steady [R.GLB_STRAP] s t.showOtp := by
  have harb : ∀ {x : State} (lo hi n : Nat), Steady [R.GLB_STRAP] s x →
      Steady [R.GLB_STRAP] s ((x.put ⟨R.CUP_ARB, lo, 7⟩ n).putB ⟨R.CUP_ARB, hi, 1⟩ (n == 127)) :=
    fun lo hi n hx => (hx.put _ _ (by simp)).put _ _ (by simp)
  exact ((harb 16 26 _ (harb 8 25 _ (harb 0 24 _ h))).put F.CUP_KEYS_USABLE _ (by simp)).put F.CUP_KEYS_REVOKED _ (by simp)

theorem Steady.blankSession : Steady [R.GLB_STRAP] s t.blankSession :=
  ((h.wr R.LCS_DBG_STAT _ (by decide)).raise (eventRegs_spare _ (by decide)) 211 (by decide)).ite h

theorem Steady.syncBattery : Steady [R.GLB_STRAP] s t.syncBattery :=
  (h.put F.KEEP_STAT_BBK_VALID _ (by decide)).wr R.KEEP_BBK_GEN _ (by decide)

end

/-- A boot whose images are pushed waits for them at milestone 1 (R599). -/
theorem State.bootPass_waiting (s : State) (hm : s.milestone = 1) (hp : s.pushed = true) : s.bootPass = s := by
  have hne : ∀ k, k ≠ 1 → s.milestone ≠ k := fun k hk => hm ▸ hk.symm
  have hrom : s.bootRom = s := if_pos (.inr (.inr hp))
  have hstores : s.bootStores = s := if_pos (.inl (hne 2 (by decide)))
  have hconfig : s.bootConfig = s := if_pos (.inl (hne 3 (by decide)))
  have hmemory : s.bootMemory = s := if_neg fun e => hne 4 (by decide) e.1
  have hkeys : s.bootKeys = s := if_pos (.inl (hne 5 (by decide)))
  have hservice : s.bootService = s := if_pos (.inl (hne 6 (by decide)))
  rw [State.bootPass, hrom, hstores, hconfig, hmemory, hkeys, hservice]

theorem State.bootGo_waiting (s : State) (hm : s.milestone = 1) (hp : s.pushed = true) : s.bootGo = s := by
  rw [State.bootGo, s.bootPass_waiting hm hp, s.bootPass_waiting hm hp, s.bootPass_waiting hm hp, ite_self]

/-- The blocks are shown READY, RNG and the governor start. -/
def State.started (s : State) : State := ((s.rngRelease.setModes []).restartGovernor).reach 1

/-- The device out of reset: the life-cycle words are read, the fuses and the battery domain shown, Belfry starts. -/
def State.woken (s : State) (u : OtpNoise) : State :=
  let s := { s with power := { s.power with sysHeld := false, coreUp := true, cupUp := true } }
  let s := { s with blf := { s.blf with startAt := s.time } }
  let s := s.lcsRead u
  let s := s.putB F.LCS_STAT_WIPE_WAIT (s.on F.LCS_STAT_ROLL_FWD && s.get F.LCS_STATE_STATE == 4)
  (((s.showOwner.showOtp.blankSession.set F.KEEP_STAT_READY).putB F.KEEP_STAT_DS_OK s.otp.ds.isSome).syncBattery).set
    F.BLF_STAT_READY

/-- The clock of the management domain (R558), then the ROM's own clocks. -/
def State.clocked (s : State) : State :=
  (if s.clockReady 0 then s else { s.set F.CKG_SEL_MGMT_SRC with cpm := { s.cpm with svcHold := true } }).romClocks

theorem State.release_eq (s : State) (u : OtpNoise) :
    s.release u = ((s.woken u).set F.BLF_STAT_START_WINDOW).started.clocked.bootGo := rfl

section
variable (s : State) (u : OtpNoise)

theorem State.woken_steady : Steady [R.GLB_STRAP]
    { s with power := { s.power with sysHeld := false, coreUp := true, cupUp := true } } (s.woken u) := by
  have h : Steady [R.GLB_STRAP] { s with power := { s.power with sysHeld := false, coreUp := true, cupUp := true } }
    { s with power := { s.power with sysHeld := false, coreUp := true, cupUp := true }, blf := { s.blf with startAt := s.time } } :=
    ⟨rfl, fun _ _ => rfl⟩
  exact (((((h.lcsRead u).put F.LCS_STAT_WIPE_WAIT _ (by decide)).showOwner.showOtp.blankSession.put F.KEEP_STAT_READY 1 (by decide)).put F.KEEP_STAT_DS_OK _ (by decide)).syncBattery).put
    F.BLF_STAT_READY 1 (by decide)

theorem State.started_steady : Steady [R.GLB_STRAP, R.BLF_STAT] s s.started :=
  ((((Steady.refl _ s).rngRelease (by decide)).setModes [] (by decide)).restartGovernor (by decide)).put
    F.CUP_BOOT_STAT_MILESTONE 1 (by decide)

theorem State.clocked_steady : Steady [R.GLB_STRAP, R.BLF_STAT, R.CUP_BOOT_STAT] s s.clocked :=
  ((Steady.refl _ s).ite (((Steady.refl _ s).put F.CKG_SEL_MGMT_SRC 1 (by decide)).upd)).romClocks (by decide)

/-- Released with pushed images, the device stands at milestone 1 with its start window open. -/
theorem State.release_pushed (hp : s.pushed = true) : (s.release u).milestone = 1 ∧
    (s.release u).power = { s.power with sysHeld := false, coreUp := true, cupUp := true } ∧
    (s.release u).on F.BLF_STAT_START_WINDOW = true := by
  set w := (s.woken u).set F.BLF_STAT_START_WINDOW with hw
  have hwoken := (s.woken_steady u).put F.BLF_STAT_START_WINDOW 1 (by decide)
  have hstarted := w.started_steady
  have hclocked := w.started.clocked_steady
  have hstrap := (hwoken.trans (hstarted.mono (js := [R.GLB_STRAP]) (by simp))).trans (hclocked.mono (js := [R.GLB_STRAP]) (by simp))
  have hm : w.started.clocked.milestone = 1 := (hclocked.get F.CUP_BOOT_STAT_MILESTONE (by simp)).trans
    (State.get_put_self _ F.CUP_BOOT_STAT_MILESTONE 1 (by decide))
  have hpushed : w.started.clocked.pushed = true := by
    rw [State.pushed, hstrap.get F.GLB_STRAP_BOOT_SRC (by simp)]
    exact hp
  rw [s.release_eq u, ← hw, State.bootGo_waiting _ hm hpushed]
  refine ⟨hm, hstrap.power, ?_⟩
  exact (hclocked.on _ (by simp)).trans ((hstarted.on _ (by simp)).trans (State.on_set_self _ _ (by decide) rfl))

end

theorem sysrstNRelease_pushed (s : State) (u : OtpNoise) (hp : s.power.pwrOk = true) (hh : s.power.sysHeld = true)
    (hl : s.fcr.lockdown = false) (ht : s.cpm.tripped = false) (htap : s.lcs.tapHold = false) (hpush : s.pushed = true) :
    ∃ t, exec (.sysrstNRelease u) s = .next t ∧ t.power.sysHeld = false ∧ t.power.sysrstLow = false ∧
      t.power.coreUp = true ∧ t.power.cupUp = true ∧ t.milestone = 1 ∧ t.on F.BLF_STAT_START_WINDOW = true := by
  obtain ⟨hm, hpower, hwin⟩ := State.release_pushed { s with power := { s.power with sysrstLow := false } } u hpush
  refine ⟨_, congrArg Host.Outcome.next (if_pos (by simp [hp, hh, hl, ht, htap])), ?_, ?_, ?_, ?_, hm, hwin⟩ <;> rw [hpower]

theorem sysrstNRelease_refused (s : State) (u : OtpNoise) (h : s.fcr.lockdown = true ∨ s.cpm.tripped = true) :
    exec (.sysrstNRelease u) s = .next { s with power := { s.power with sysrstLow := false } } :=
  congrArg Host.Outcome.next (if_neg (by rcases h with h | h <;> simp [h]))

theorem powerOnReset_released (s : State) (x : Straps) (u : OtpNoise) (hp : s.power.pwrOk = false)
    (hlow : s.power.sysrstLow = false) (hx : x.bootSrc = 1 ∨ x.bootSrc = 2) :
    ∃ t, exec (.powerOnReset x u) s = .next t ∧ t.power.pwrOk = true ∧ t.power.coreUp = true ∧ t.power.cupUp = true ∧
      t.milestone = 1 := by
  have h := s.powered_steady x
  have hpush : (s.powered x).pushed = true := by
    have hsrc := (h.get F.GLB_STRAP_BOOT_SRC (by simp)).trans (State.sampleStraps_bootSrc _ x)
    rw [State.pushed, hsrc]
    rcases hx with hx | hx
    · rw [hx]
      cases x.hostEn <;> rfl
    · rw [hx]
      rfl
  obtain ⟨hm, hpower, -⟩ := (s.powered x).release_pushed u hpush
  refine ⟨_, ?_, ?_, ?_, ?_, hm⟩
  · rw [exec_powerOnReset_off s x u hp, if_neg (by rw [h.power]; simp [State.powerGood, State.sampleStraps, hlow])]
  all_goals rw [hpower]
  rw [h.power]
  rfl

/-- Settles O21: resets and power-up, from the registers' reset, the straps and the waiting boot. -/
theorem systemResets : Obligations.SystemResets := by
  unfold Obligations.SystemResets
  refine ⟨fun s c k hwf hupd hp hc => ?_, pwrOkFall_resets, powerOnReset_held, sysrstNRelease_pushed, sysrstNRelease_refused,
    powerOnReset_released⟩
  obtain ⟨t, hexec, hcause, hregs, x, rfl, hframe⟩ := systemReset_resets s c k hwf hupd hp hc
  rw [hframe] at hexec hcause hregs
  exact ⟨_, hexec, hcause, hregs, rfl, rfl, rfl, rfl, rfl, rfl, rfl, rfl, rfl, rfl, rfl, rfl, rfl, rfl, rfl⟩

end Sys2Proof.Machine
end

section
/-! PROOF. The jobs that JQM has dispatched: reads after updates, the end of a job (R131, R155), and what the next job of its
resource leaves unchanged (R39, R115, R119). -/

namespace Sys2Proof.Machine

/-! ### Reads of jobs -/

theorem State.job?_iff (s : State) (h : s.jobsOk) (i : Nat) (j : Job) : s.job? i = some j ↔ j ∈ s.jqm.jobs ∧ j.id = i := by
  obtain ⟨hnodup, -⟩ := h
  constructor
  · exact fun hj => ⟨List.mem_of_find?_eq_some hj, s.job?_id i j hj⟩
  · rintro ⟨hmem, rfl⟩
    cases hfind : s.job? j.id with
    | none => exact absurd (List.find?_eq_none.1 hfind j hmem) (by simp)
    | some k =>
      have hk := List.mem_of_find?_eq_some hfind
      exact congrArg some (List.inj_on_of_nodup_map hnodup hk hmem (s.job?_id _ _ hfind))

theorem State.job?_putJob_of_ne (s : State) (j : Job) (i : Nat) (h : i ≠ j.id) : (s.putJob j).job? i = s.job? i := by
  show (s.jqm.jobs.map (fun k => if k.id == j.id then j else k)).find? (fun k => k.id == i) = s.jqm.jobs.find? (fun k => k.id == i)
  generalize s.jqm.jobs = js
  induction js with
  | nil => rfl
  | cons k ks ih =>
    rw [List.map_cons, List.find?_cons, List.find?_cons, ih]
    by_cases hk : k.id = j.id
    · have hne : (j.id == i) = false := by simpa using Ne.symm h
      simp [hk, hne]
    · simp [hk]

theorem State.job?_putJob_self (s : State) (j k : Job) (h : s.job? j.id = some k) : (s.putJob j).job? j.id = some j := by
  show (s.jqm.jobs.map (fun k => if k.id == j.id then j else k)).find? (fun k => k.id == j.id) = some j
  unfold State.job? at h
  generalize s.jqm.jobs = js at h
  induction js with
  | nil => cases h
  | cons a as ih =>
    rw [List.map_cons, List.find?_cons]
    by_cases ha : a.id = j.id
    · simp [ha]
    · rw [List.find?_cons_of_neg (by simpa using ha)] at h
      rw [if_neg (by simpa using ha), ih h, beq_eq_false_iff_ne.2 ha]

theorem State.jobsOk_putJob (s : State) (j : Job) (h : s.jobsOk) : (s.putJob j).jobsOk :=
  (State.putJob_keeps j (Keeps.refl true s)).jobs h

/-! ### What a job that is done is spared -/

/-- A job that is done stays as it is, and no time passes. -/
structure SparesDone (i : Nat) (s t : State) : Prop where
  ids : s.jobsOk → t.jobsOk
  done : s.jobsOk → ∀ k, s.job? i = some k → k.phase = .done → t.job? i = some k
  time : t.time = s.time

theorem SparesDone.refl (i : Nat) (s : State) : SparesDone i s s := ⟨id, fun _ _ h _ => h, rfl⟩

section
variable {i : Nat} {s t u : State}

theorem SparesDone.trans (h : SparesDone i s t) (k : SparesDone i t u) : SparesDone i s u :=
  ⟨fun hok => k.ids (h.ids hok), fun hok j hj hd => k.done (h.ids hok) j (h.done hok j hj hd) hd, k.time.trans h.time⟩

theorem SparesDone.upd (hj : t.jqm.jobs = s.jqm.jobs) (hn : t.jqm.nextId = s.jqm.nextId) (ht : t.time = s.time) : SparesDone i s t :=
  ⟨fun hok => by rwa [State.jobsOk, JqmSt.idsOk, hj, hn], fun _ k hk _ => (State.job?_congr hj i).trans hk, ht⟩

theorem JobEnded.spared {r : JobResult} (h : JobEnded i r s) (hok : s.jobsOk) (k : SparesDone i s t) : JobEnded i r t := by
  obtain ⟨j, hj, hd, hr, ht⟩ := h
  exact ⟨j, k.done hok j hj hd, hd, hr, ht.trans k.time.symm⟩

end

section
variable (i : Nat) (s : State)

/-- Another job is put in the place of one that is not done. -/
theorem State.putJob_sparesDone (j k : Job) (hk : k ∈ s.jqm.jobs) (hid : k.id = j.id) (hd : k.phase ≠ .done) :
    SparesDone i s (s.putJob j) where
  ids := s.jobsOk_putJob j
  done := fun hok a ha had => by
    have hne : i ≠ j.id := by
      rintro rfl
      have hsome := (s.job?_iff hok _ k).2 ⟨hk, hid⟩
      exact hd (Option.some.inj (hsome.symm.trans ha) ▸ had)
    exact (s.job?_putJob_of_ne j i hne).trans ha
  time := rfl

theorem State.giveEngine_sparesDone (j k : Job) (hk : k ∈ s.jqm.jobs) (hid : k.id = j.id) (hd : k.phase ≠ .done) :
    SparesDone i s (s.giveEngine j) := by
  unfold State.giveEngine State.startJob
  split
  · exact s.putJob_sparesDone i _ k hk hid hd
  · exact s.putJob_sparesDone i _ k hk hid hd

theorem bestJob_mem (l : List Job) (j : Job) (h : bestJob l = some j) : j ∈ l := by
  induction l generalizing j with
  | nil => cases h
  | cons a as ih =>
    unfold bestJob at h
    split at h
    · next k hk =>
      split at h
      · cases h
        exact List.mem_cons_of_mem _ (ih _ hk)
      · cases h
        exact List.mem_cons_self ..
    · cases h
      exact List.mem_cons_self ..

theorem State.mem_jobsAt (e : Nat) (j : Job) (h : j ∈ s.jobsAt e) : j ∈ s.jqm.jobs ∧ j.phase ≠ .done := by
  obtain ⟨hmem, hat⟩ := List.mem_filter.1 h
  refine ⟨hmem, fun hd => ?_⟩
  simp [Job.at, hd] at hat

theorem State.schedule_sparesDone (e : Nat) : SparesDone i s (s.schedule e) := by
  unfold State.schedule
  split
  · exact .refl i s
  · split
    · exact .refl i s
    · split
      · next j hj =>
        obtain ⟨hmem, hd⟩ := s.mem_jobsAt e j (List.mem_of_mem_filter (bestJob_mem _ j hj))
        exact s.giveEngine_sparesDone i j j hmem rfl hd
      · exact .refl i s

theorem State.grantPool_sparesDone (p : Res) : SparesDone i s (s.grantPool p) := by
  unfold State.grantPool
  split
  · exact .refl i s
  · split
    · next j hj =>
      obtain ⟨hmem, hpick⟩ := List.mem_filter.1 (bestJob_mem _ j hj)
      exact s.giveEngine_sparesDone i _ j hmem rfl fun hd => by simp [hd] at hpick
    · exact .refl i s

theorem State.refill_sparesDone (p : Res) (e e2 : Nat) : SparesDone i s (s.refill p e e2) := by
  have hdke : SparesDone i s (s.dkeGrant e) := by
    unfold State.dkeGrant
    dsimp only
    split
    · exact .upd rfl rfl rfl
    · exact .refl i s
  have hctx : SparesDone i s (if e2 = e then s.schedule e else (s.schedule e).schedule e2) := by
    split
    · exact s.schedule_sparesDone i e
    · exact (s.schedule_sparesDone i e).trans (State.schedule_sparesDone i _ e2)
  cases p with
  | keccak | sha2 | keep => exact s.grantPool_sparesDone i _
  | dke => exact hdke
  | arbiter => exact .refl i s
  | lt | cbe | cle | composite | aes | chacha => exact hctx

theorem State.inc_sparesDone (o : Nat) : SparesDone i s (s.inc o) :=
  have hjqm : (s.inc o).jqm = s.jqm := (congrArg State.jqm (s.inc_eventFrame o) :)
  .upd (congrArg JqmSt.jobs hjqm) (congrArg JqmSt.nextId hjqm) (congrArg State.time (s.inc_eventFrame o) :)

theorem State.countEnd_sparesDone (e status : Nat) : SparesDone i s (s.countEnd e status) := by
  unfold State.countEnd
  split
  · exact .refl i s
  · split
    · exact s.inc_sparesDone i _
    · split
      · exact s.inc_sparesDone i _
      · exact .refl i s

theorem State.releaseTargets_sparesDone (is : List Nat) : SparesDone i s (s.releaseTargets is) := by
  induction is generalizing s with
  | nil => exact .refl i s
  | cons a as ih =>
    refine SparesDone.trans ?_ (ih _)
    split
    · exact .upd rfl rfl rfl
    · exact .refl i s

end

/-! ### The end of a job -/

/-- A job that is done, with its result and its time. -/
def Job.doneAs (j : Job) (r : JobResult) (now : Nat) : Job :=
  { j with phase := .done, wait := .none, abort := .none, result := some r, doneAt := now, spire := Spire.entry 0 }

/-- A job stands as done, its unfilled slots are released and its end is counted (R131, R160). -/
def State.jobStopped (s : State) (j : Job) (r : JobResult) : State :=
  (if 0x10 ≤ r.status then (s.putJob (j.doneAs r s.time)).releaseTargets j.targets
    else s.putJob (j.doneAs r s.time)).countEnd j.engine r.status

theorem State.finishJob_queue (s : State) (j : Job) (r : JobResult) (hk : j.kind = .queue) :
    s.finishJob j r = (s.jobStopped j r).refill j.res j.engine j.engine2 := by
  show State.refill (match j.kind with
    | .queue => s.jobStopped j r
    | .treeBuild i => ((s.jobStopped j r).dropJob j.id).setBuilding i false) _ _ _ = _
  rw [hk]

theorem State.finishJob_queue_sparesDone (s : State) (i : Nat) (j : Job) (r : JobResult) (hk : j.kind = .queue) :
    SparesDone i (s.putJob (j.doneAs r s.time)) (s.finishJob j r) := by
  rw [s.finishJob_queue j r hk]
  refine SparesDone.trans ?_ (State.refill_sparesDone i _ _ _ _)
  refine SparesDone.trans ?_ (State.countEnd_sparesDone i _ _ _)
  split
  · exact State.releaseTargets_sparesDone i _ _
  · exact .refl i _

theorem State.finishJob_ends (s : State) (j k : Job) (r : JobResult) (hok : s.jobsOk) (hj : s.job? j.id = some k)
    (hk : j.kind = .queue) : JobEnded j.id r (s.finishJob j r) := by
  have hself : (s.putJob (j.doneAs r s.time)).job? j.id = some (j.doneAs r s.time) := s.job?_putJob_self (j.doneAs r s.time) k hj
  have hput : JobEnded j.id r (s.putJob (j.doneAs r s.time)) := ⟨_, hself, rfl, rfl, rfl⟩
  have hok' : (s.putJob (j.doneAs r s.time)).jobsOk := s.jobsOk_putJob _ hok
  have hspare := s.finishJob_queue_sparesDone j.id j r hk
  exact JobEnded.spared hput hok' hspare

/-- Output buffers written: memory, and the bytes that a failing write leaves. -/
theorem writeBufs_frame (s : State) (owner : Nat) (bs : List Buf) (v : List Byte) : (writeBufs s owner bs v).1 =
    { s with hostMem := (writeBufs s owner bs v).1.hostMem, svcMem := (writeBufs s owner bs v).1.svcMem,
             free := (writeBufs s owner bs v).1.free } := by
  induction bs generalizing s v with
  | nil => rfl
  | cons b bs ih =>
    unfold writeBufs
    dsimp only
    split
    · exact ih _ _
    · split
      · next s' hs =>
        refine (ih s' _).trans ?_
        have hstore : s' = s.dmaStore owner b.1 (v.take (min b.2 v.length)) := by
          unfold State.dmaWrite at hs
          split at hs
          · cases hs
          · exact (Option.some.inj hs).symm
        rw [hstore, State.dmaStore_frame]
      · rw [State.dmaStore_frame]
        rfl

theorem zeroBufs_jqm (s : State) (owner : Nat) (bs : List Buf) : (zeroBufs s owner bs).jqm = s.jqm := by
  induction bs generalizing s with
  | nil => rfl
  | cons b bs ih => exact (ih _).trans (congrArg State.jqm (writeBufs_frame s owner [b] _) :)

/-- Zeroing an output buffer touches no job (R108). -/
theorem zeroOutput_jqm (s : State) (owner : Nat) (d : List Byte) : (zeroOutput s owner d).jqm = s.jqm := by
  unfold zeroOutput
  split
  · exact zeroBufs_jqm _ _ _
  · rfl

theorem State.failJob_ends (s : State) (j k : Job) (e : Err) (hok : s.jobsOk) (hj : s.job? j.id = some k)
    (hk : j.kind = .queue) : JobEnded j.id (failed j.ranOn e.1 e.2) (s.failJob j e) := by
  unfold State.failJob
  dsimp only
  split
  · have hjqm := zeroOutput_jqm s j.owner j.desc
    exact State.finishJob_ends _ j k _ (by rwa [State.jobsOk, hjqm]) ((State.job?_congr (congrArg JqmSt.jobs hjqm) j.id).trans hj) hk
  · exact s.finishJob_ends j k _ hok hj hk

end Sys2Proof.Machine
end

section
/-! PROOF. O23: the registers of an AEA engine (R160, R162) and what its instruction boundaries do (R119, R220, R221). -/

namespace Sys2Proof.Machine

theorem State.settleFilter_sameRegs (os : List Nat) (s : State) : SameRegsBut os s s.settleFilter := by
  unfold State.settleFilter
  split <;> exact .refl os s

theorem State.on_settleFilter (s : State) (f : Fld) : s.settleFilter.on f = s.on f :=
  (State.settleFilter_sameRegs [] s).on f (by simp)

theorem State.on_putB_bit_of_ne (s : State) (o i : Nat) (b : Bool) (f : Fld) (h : (⟨o, i, 1⟩ : Fld).apart f) :
    (s.putB ⟨o, i, 1⟩ b).on f = s.on f := s.on_put_apart _ f _ h

/-! ### AEA_CTL, the self-test and AEA_MAXINSN -/

section
variable (s : State) (e : Nat)

theorem State.on_aeaCtl_putEn (b : Bool) (i : Nat) (hi : i ≠ 0) (o : Nat) :
    (s.putB (F.AEA_CTL_EN e) b).on ⟨o, i, 1⟩ = s.on ⟨o, i, 1⟩ :=
  State.on_put_apart s (F.AEA_CTL_EN e) ⟨o, i, 1⟩ _ ((Fld.apart_bits_iff _ _ _ _).2 fun h => hi h.2)

theorem State.aeaCtlWrite_en (v : Word) (h : bit v.toNat 8 = false) : s.aeaCtlWrite e v = s.putB (F.AEA_CTL_EN e) (bit v.toNat 0) :=
  if_pos (by rw [h]; rfl)

theorem State.aeaCtlWrite_selftest (v : Word) (h : bit v.toNat 8 = true) : s.aeaCtlWrite e v =
    if s.drained e = true then (s.putB (F.AEA_CTL_EN e) (bit v.toNat 0)).set (F.AEA_CTL_SELFTEST e)
    else (s.putB (F.AEA_CTL_EN e) (bit v.toNat 0)).set (F.AEA_STAT_ST_REJECT e) :=
  if_neg (by rw [h]; decide)

theorem ltEnWrite_stores (r : Req) (e : Fin 48) (v : Word) (hw : s.mayWrite r (R.AEA_CTL e)) (hv : v.getLsbD 8 = false) :
    ∃ t, exec (.ltEnWrite r e v) s = .next t ∧ t.on (F.AEA_CTL_EN e) = v.getLsbD 0 ∧ SameRegsBut [R.AEA_CTL e] s t ∧
      OnlyRegs s t :=
  ⟨_, (congrArg Host.Outcome.next (s.gateW_granted r (R.AEA_CTL e) _ hw)).trans (congrArg _ (s.aeaCtlWrite_en e v hv)),
    State.on_putB_self s _ _ (by simp) rfl, (SameRegsBut.refl _ s).put (F.AEA_CTL_EN e) _ (by simp), rfl⟩

theorem aeaSelftest_asks (r : Req) (e : Fin 48) (v : Word) (hw : s.mayWrite r (R.AEA_CTL e)) :
    ∃ t, exec (.aeaSelftest r e v) s = .next t ∧
      t.on (F.AEA_CTL_SELFTEST e) = (s.drained e || s.on (F.AEA_CTL_SELFTEST e)) ∧
      t.on (F.AEA_STAT_ST_REJECT e) = (!s.drained e || s.on (F.AEA_STAT_ST_REJECT e)) ∧
      SameRegsBut [R.AEA_CTL e, R.AEA_STAT e] s t ∧ OnlyRegs s t := by
  have hput := (SameRegsBut.refl [R.AEA_CTL e.val, R.AEA_STAT e.val] s).put (F.AEA_CTL_EN e) (if bit (v ||| 0x100).toNat 0 then 1 else 0) (by simp)
  refine ⟨_, (congrArg Host.Outcome.next (s.gateW_granted r (R.AEA_CTL e) _ hw)).trans
    (congrArg _ (s.aeaCtlWrite_selftest e (v ||| 0x100) (bit_or_set v 0x100 8 (by decide)))), ?_⟩
  split
  · next h =>
    rw [h, State.on_set_bit _ _ _ _ _ (by decide), State.on_set_bit _ _ _ _ _ (by decide), s.on_aeaCtl_putEn _ _ _ (by decide),
      s.on_aeaCtl_putEn _ _ _ (by decide)]
    exact ⟨by simp, by simp, hput.put (F.AEA_CTL_SELFTEST e) 1 (by simp), rfl⟩
  · next h =>
    rw [Bool.eq_false_iff.2 h, State.on_set_bit _ _ _ _ _ (by decide), State.on_set_bit _ _ _ _ _ (by decide),
      s.on_aeaCtl_putEn _ _ _ (by decide), s.on_aeaCtl_putEn _ _ _ (by decide)]
    exact ⟨by simp, by simp, hput.put (F.AEA_STAT_ST_REJECT e) 1 (by simp), rfl⟩

theorem aeaSelftestEnd_shows (e : Fin 48) (pass : Bool) (h : s.on (F.AEA_CTL_SELFTEST e) = true) :
    ∃ t, exec (.aeaSelftestEnd e pass) s = .next t ∧ t.on (F.AEA_CTL_SELFTEST e) = false ∧
      t.on (F.AEA_STAT_ST_PASS e) = pass ∧ t.on (F.AEA_STAT_ST_FAIL e) = !pass ∧
      t.on (F.AEA_STAT_FAULTED e) = (s.on (F.AEA_STAT_FAULTED e) && !pass) ∧
      SameRegsBut [R.AEA_CTL e, R.AEA_STAT e] s t := by
  set x := (((s.clr (F.AEA_CTL_SELFTEST e)).settleFilter.putB (F.AEA_STAT_ST_PASS e) pass).putB (F.AEA_STAT_ST_FAIL e) (!pass)) with hx
  have hend : s.selftestEnd e pass = if pass = true then x.clr (F.AEA_STAT_FAULTED e) else x := if_neg (by simp [h])
  have hregs : SameRegsBut [R.AEA_CTL e.val, R.AEA_STAT e.val] s x :=
    ((((SameRegsBut.refl _ s).put (F.AEA_CTL_SELFTEST e) 0 (by simp)).trans (State.settleFilter_sameRegs _ _)).put
      (F.AEA_STAT_ST_PASS e) _ (by simp)).put (F.AEA_STAT_ST_FAIL e) _ (by simp)
  have hctl : x.on (F.AEA_CTL_SELFTEST e) = false := by
    rw [hx, State.on_putB_bit_of_ne _ _ _ _ _ (by simp [Fld.apart]), State.on_putB_bit_of_ne _ _ _ _ _ (by simp [Fld.apart]), State.on_settleFilter]
    exact State.on_clr_self _ _ (by simp)
  have hpass : x.on (F.AEA_STAT_ST_PASS e) = pass := by
    rw [hx, State.on_putB_bit_of_ne _ _ _ _ _ (by simp [Fld.apart])]
    exact State.on_putB_self _ _ _ (by simp) rfl
  have hfaulted : x.on (F.AEA_STAT_FAULTED e) = s.on (F.AEA_STAT_FAULTED e) := by
    rw [hx, State.on_putB_bit_of_ne _ _ _ _ _ (by simp [Fld.apart]), State.on_putB_bit_of_ne _ _ _ _ _ (by simp [Fld.apart]), State.on_settleFilter,
      State.on_clr_bit _ _ _ _ _ (by decide)]
    simp
  refine ⟨_, congrArg Host.Outcome.next hend, ?_⟩
  cases pass with
  | false => exact ⟨hctl, hpass, State.on_putB_self _ _ _ (by simp) rfl, by simpa using hfaulted, hregs⟩
  | true =>
    rw [if_pos rfl, State.on_clr_bit _ _ _ _ _ (by decide), State.on_clr_bit _ _ _ _ _ (by decide),
      State.on_clr_bit _ _ _ _ _ (by decide), State.on_clr_bit _ _ _ _ _ (by decide), hctl, hpass, State.on_putB_self _ _ _ (by simp) rfl]
    exact ⟨by simp, by simp, by simp, by simp, hregs.put (F.AEA_STAT_FAULTED e) 0 (by simp)⟩

theorem maxinsnRead_clears (r : Req) (e : Fin 48) (hr : s.mayRead r (R.AEA_MAXINSN e)) :
    ∃ t, exec (.maxinsnRead r e) s = .next t ∧ t.busOut = (s.rd (R.AEA_MAXINSN e)).setWidth 64 ∧
      t.rd (R.AEA_MAXINSN e) = 0 ∧ SameRegsBut [R.AEA_MAXINSN e] s t ∧ t = { s with busOut := t.busOut, regs := t.regs } :=
  ⟨_, congrArg Host.Outcome.next (s.gateR_granted r (R.AEA_MAXINSN e) _ hr), rfl, State.rd_wr_self _ _ _,
    fun p hp => State.rd_wr_of_ne _ _ p _ (by simpa using hp), rfl⟩

end

/-! ### The contexts of an engine -/

section
variable (s : State) (e : Nat)

/-- A job put back with the same place at an engine keeps its place among the engine's contexts. -/
theorem State.jobsAt_putJob (hok : s.jobsOk) (j k : Job) (hj : j ∈ s.jqm.jobs) (hid : k.id = j.id) (hat : k.at e = j.at e) :
    (s.putJob k).jobsAt e = (s.jobsAt e).map (fun x => if x.id == k.id then k else x) := by
  show (s.jqm.jobs.map (fun x => if x.id == k.id then k else x)).filter (fun x => x.at e) = _
  rw [List.filter_map]
  refine congrArg _ (List.filter_congr fun x hx => ?_)
  simp only [Function.comp]
  split
  · next h =>
    have hxj : x = j := by
      have hsome := (s.job?_iff hok j.id x).2 ⟨hx, (by simpa using h : x.id = k.id).trans hid⟩
      exact Option.some.inj (hsome.symm.trans ((s.job?_iff hok j.id j).2 ⟨hj, rfl⟩))
    rw [hat, hxj]
  · rfl

theorem State.running_eq {j : Job} {l : List Job} (h : s.jobsAt e = j :: l) (hr : j.phase = .running) : s.running e = some j := by
  rw [State.running, h, List.find?_cons_of_pos (by simp [hr])]

theorem State.noteInsn_some (ns : Nat) (he : isAea e = true) (j : Job) (h : s.running e = some j) :
    (if (s.running e).isSome = true then s.noteInsn e ns else s) = s.put (F.AEA_MAXINSN_NS e) (max (s.get (F.AEA_MAXINSN_NS e)) ns) := by
  rw [h, if_pos (by rfl), State.noteInsn, if_pos he]

/-- A boundary acts on the one job that runs at the engine (R220). -/
theorem State.boundary_running (ns : Nat) (he : isAea e = true) (hok : s.jobsOk) (j : Job) (l : List Job) (hat : s.jobsAt e = j :: l)
    (hr : j.phase = .running) (hl : ∀ k ∈ l, k.phase ≠ .running) :
    s.boundary e ns = (s.put (F.AEA_MAXINSN_NS e) (max (s.get (F.AEA_MAXINSN_NS e)) ns)).boundaryOf e j := by
  have harb : (e != engArb) = true := by
    refine bne_iff_ne.2 fun h => ?_
    rw [h] at he
    exact absurd he (by decide)
  have hids : s.jobIds (fun k => k.at e && k.phase == .running && (e != engArb)) = [j.id] := by
    have hfilter : s.jqm.jobs.filter (fun k => k.at e && k.phase == .running && (e != engArb)) =
        (s.jobsAt e).filter (fun k => k.phase == .running) := by
      rw [State.jobsAt, List.filter_filter]
      refine List.filter_congr fun k _ => ?_
      rw [harb, Bool.and_true, Bool.and_comm]
    have hnone : l.filter (fun k => k.phase == .running) = [] := List.filter_eq_nil_iff.2 fun k hk => by simpa using hl k hk
    rw [State.jobIds, hfilter, hat, List.filter_cons_of_pos (by simp [hr]), hnone]
    rfl
  have hmem := (s.mem_jobsAt e j (hat ▸ List.mem_cons_self ..)).1
  have hnoted := s.noteInsn_some e ns he j (s.running_eq e hat hr)
  unfold State.boundary
  dsimp only
  rw [hnoted]
  show State.eachJob _ _ (s.jobIds _) = _
  rw [hids]
  simp only [State.eachJob]
  have hjob : (s.put (F.AEA_MAXINSN_NS e) (max (s.get (F.AEA_MAXINSN_NS e)) ns)).job? j.id = some j := (s.job?_iff hok j.id j).2 ⟨hmem, rfl⟩
  rw [hjob]

end

/-- The running job stands at a boundary: no ASYNC microword is in progress (R220). -/
def Job.atBoundary (j : Job) : Job := { j with spire := { j.spire with asyncPend := false, atBnd := true, sinceBnd := 0 } }

section
variable (s : State) (e : Nat) (j : Job)

theorem State.boundaryOf_calm (hw : j.wait = .none) (ha : j.abort = .none) (hc : isCtxRes j.res = true) :
    s.boundaryOf e j = (s.putJob j.atBoundary).preemptAt e := by
  show (if j.wait ≠ .none then s else match j.abort with
    | .tamper n => (s.putJob j.atBoundary).tamperJob j n
    | .flush => if j.spire.committed then (s.putJob j.atBoundary).boundaryNext e j else (s.putJob j.atBoundary).failJob j (stFlushed, 2)
    | .none => (s.putJob j.atBoundary).boundaryNext e j) = _
  rw [if_neg (by simp [hw]), ha]
  exact if_pos hc

theorem State.boundaryOf_tamper (n : Nat) (hw : j.wait = .none) (ha : j.abort = .tamper n) :
    s.boundaryOf e j = (s.putJob j.atBoundary).tamperJob j n := by
  show (if j.wait ≠ .none then s else match j.abort with
    | .tamper n => (s.putJob j.atBoundary).tamperJob j n
    | .flush => if j.spire.committed then (s.putJob j.atBoundary).boundaryNext e j else (s.putJob j.atBoundary).failJob j (stFlushed, 2)
    | .none => (s.putJob j.atBoundary).boundaryNext e j) = _
  rw [if_neg (by simp [hw]), ha]

/-- The engine's contexts once its running job stands at a boundary. -/
theorem State.jobsAt_atBoundary (hok : s.jobsOk) (l : List Job) (hat : s.jobsAt e = j :: l) (hl : ∀ k ∈ l, k.id ≠ j.id) :
    (s.putJob j.atBoundary).jobsAt e = j.atBoundary :: l := by
  have hmem := (s.mem_jobsAt e j (hat ▸ List.mem_cons_self ..)).1
  rw [s.jobsAt_putJob e hok j j.atBoundary hmem rfl rfl, hat, List.map_cons, if_pos (by simp [Job.atBoundary])]
  refine congrArg _ ((List.map_congr_left fun k hk => if_neg ?_).trans (List.map_id' l))
  simpa [Job.atBoundary] using hl k hk

/-- The erasure of slots keeps every job, by its number. -/
theorem State.job?_eraseSlots (is : List Nat) (i : Nat) (h : (s.job? i).isSome = true) : ((s.eraseSlots is).job? i).isSome = true := by
  have hinc : ∀ (x : State) (o : Nat), (x.inc o).job? i = x.job? i := fun x o =>
    State.job?_congr (congrArg (fun y : State => y.jqm.jobs) (x.inc_eventFrame o) :) i
  have hdrop : ∀ (x : State) (a : Nat), (x.job? i).isSome = true → ((x.dropTarget a).job? i).isSome = true := fun x a hx => by
    obtain ⟨k, hk⟩ := Option.isSome_iff_exists.1 hx
    refine List.find?_isSome.2 ⟨_, List.mem_map_of_mem (List.mem_of_find?_eq_some hk), ?_⟩
    have hid := x.job?_id i k hk
    split <;> simpa using hid
  induction is generalizing s with
  | nil => exact h
  | cons a as ih =>
    refine ih _ ?_
    unfold State.eraseSlot
    split
    · exact h
    · rw [hinc]
      exact hdrop s a h
    · rw [hinc]
      exact h

theorem State.tamperJob_ends (n : Nat) (hok : s.jobsOk) (k : Job) (hj : s.job? j.id = some k) (hk : j.kind = .queue)
    (hp : j.phase ≠ .waiting) : JobEnded j.id (failed j.engine stTamper n) (s.tamperJob j n) := by
  have hran : j.ranOn = j.engine := if_neg fun h => hp h.1
  have hsome : (s.job? j.id).isSome = true := by rw [hj]; rfl
  unfold State.tamperJob
  rw [← hran]
  dsimp only
  split
  · obtain ⟨k', hk'⟩ := Option.isSome_iff_exists.1 (s.job?_eraseSlots j.targets j.id hsome)
    exact State.failJob_ends _ j k' _ ((State.eraseSlots_keeps _ (Keeps.refl true s)).jobs hok) hk' hk
  · exact s.failJob_ends j k _ hok hj hk

end

/-! ### Instruction boundaries -/

section
variable (s : State) (e : Fin 256) (ns : BitVec 16) (j : Job) (he : isAea e = true) (hok : s.jobsOk) (hr : j.phase = .running)
  (hw : j.wait = .none)
include he hok hr hw

/-- The longest instruction noted (R160). -/
def State.noted (s : State) (e : Nat) (ns : BitVec 16) : State :=
  s.put (F.AEA_MAXINSN_NS e) (max (s.get (F.AEA_MAXINSN_NS e)) ns.toNat)

omit hw in
theorem exec_boundary (l : List Job) (hat : s.jobsAt e = j :: l) (hl : ∀ k ∈ l, k.phase ≠ .running) :
    exec (.engineInstructionBoundary e ns) s = .next ((s.noted e ns).boundaryOf e j) :=
  congrArg Host.Outcome.next (s.boundary_running e ns.toNat he hok j l hat hr hl)

theorem boundary_counts (hat : s.jobsAt e = [j]) (hc : isCtxRes j.res = true) (ha : j.abort = .none) :
    ∃ t, exec (.engineInstructionBoundary e ns) s = .next t ∧
      t.job? j.id = some { j with spire := { j.spire with asyncPend := false, atBnd := true, sinceBnd := 0 } } ∧
      t.get (F.AEA_MAXINSN_NS e) = max (s.get (F.AEA_MAXINSN_NS e)) ns.toNat ∧ SameRegsBut [R.AEA_MAXINSN e] s t ∧
      SameMemory s t := by
  have hexec := exec_boundary s e ns j he hok hr [] hat (by simp)
  have hctx := State.jobsAt_atBoundary (s.noted e ns) e j hok [] hat (by simp)
  have halone : ((s.noted e ns).putJob j.atBoundary).preemptAt e = (s.noted e ns).putJob j.atBoundary := by
    unfold State.preemptAt
    rw [State.running_eq _ e hctx hr, hctx]
    simp only [List.filter_cons, Job.atBoundary, hr]
    rfl
  rw [State.boundaryOf_calm _ e j hw ha hc, halone] at hexec
  have hmem := (s.mem_jobsAt e j (hat ▸ List.mem_cons_self ..)).1
  refine ⟨_, hexec, State.job?_putJob_self _ j.atBoundary j ((s.job?_iff hok j.id j).2 ⟨hmem, rfl⟩), ?_,
    (SameRegsBut.refl [R.AEA_MAXINSN e.val] s).put (F.AEA_MAXINSN_NS e) _ (by simp), ⟨fun _ => rfl, fun _ => rfl, fun _ => rfl, fun _ => rfl, rfl⟩⟩
  have hlt : s.get (F.AEA_MAXINSN_NS e) < 2 ^ 16 := Nat.mod_lt _ (Nat.two_pow_pos 16)
  exact (State.get_put_self s (F.AEA_MAXINSN_NS e) _ (by simp)).trans (Nat.mod_eq_of_lt (max_lt hlt ns.isLt))

theorem boundary_tampers (hat : s.jobsAt e = [j]) (hk : j.kind = .queue) (n : Nat) (ha : j.abort = .tamper n) :
    ∃ t, exec (.engineInstructionBoundary e ns) s = .next t ∧ JobEnded j.id (failed j.engine stTamper n) t := by
  have hexec := exec_boundary s e ns j he hok hr [] hat (by simp)
  rw [State.boundaryOf_tamper _ e j n hw ha] at hexec
  have hmem := (s.mem_jobsAt e j (hat ▸ List.mem_cons_self ..)).1
  have hjob : (s.noted e ns).job? j.id = some j := (s.job?_iff hok j.id j).2 ⟨hmem, rfl⟩
  exact ⟨_, hexec, State.tamperJob_ends _ j n (State.jobsOk_putJob _ _ hok) _ (State.job?_putJob_self _ j.atBoundary j hjob) hk
    (by simp [hr])⟩

end

section
variable (s : State) (e : Nat) (j k : Job) (hok : s.jobsOk) (hat : s.jobsAt e = [j, k])
include hok hat

theorem State.jobsAt_pair_ids : k.id ≠ j.id := by
  have hnodup : ((s.jobsAt e).map (·.id)).Nodup := List.Nodup.sublist (List.Sublist.map _ List.filter_sublist) hok.1
  rw [hat] at hnodup
  intro h
  simp [h] at hnodup

variable (hne : e ≠ 256) (hjphase : j.phase = .running) (hkphase : k.phase = .waiting)
  (hj : j.engine = e ∧ j.engine2 = e) (hk : k.engine = e ∧ k.engine2 = e) (hres : isCtxRes j.res = true) (hcls : k.cls < j.cls)
include hne hjphase hkphase hj hk hres hcls

/-- A waiting job of a higher class takes the engine (R119). -/
theorem State.preemptAt_pair (he : isAea e = true) :
    s.preemptAt e = ((s.putJob { j with phase := .preempted }).inc (R.AEA_PREEMPT e)).startJob k := by
  set z := (s.putJob { j with phase := .preempted }).inc (R.AEA_PREEMPT e) with hz
  have hmem := (s.mem_jobsAt e j (hat ▸ List.mem_cons_self ..)).1
  have hids := s.jobsAt_pair_ids e j k hok hat
  have hjat : ({ j with phase := .preempted } : Job).at e = j.at e := by
    simp only [Job.at, hj.1, hjphase, hres, Bool.true_or]
    rfl
  have hafter : z.jobsAt e = [{ j with phase := .preempted }, k] := by
    have hjqm : z.jqm = (s.putJob { j with phase := .preempted }).jqm := (congrArg State.jqm (State.inc_eventFrame _ _) :)
    have hput := s.jobsAt_putJob e hok j { j with phase := .preempted } hmem rfl hjat
    rw [State.jobsAt, hjqm]
    refine hput.trans ?_
    rw [hat]
    simp [hids]
  have hrunning : z.running e = none := by
    rw [State.running, hafter]
    simp [hkphase]
  have hsched : z.schedule e = z.startJob k := by
    unfold State.schedule
    rw [if_neg hne, hrunning, hafter]
    simp only [List.filter_cons, hj.1, hj.2, hk.1, hk.2, hrunning, Option.isNone_none, Bool.and_self, if_true, List.filter_nil, bestJob,
      if_pos hcls]
    exact if_pos hkphase
  have hpick : bestJob ((s.jobsAt e).filter (fun x => x.phase != .running && decide (x.cls < j.cls))) = some k := by
    rw [hat]
    simp [hjphase, hkphase, hcls, bestJob]
  unfold State.preemptAt
  simp only [s.running_eq e hat hjphase, hpick, he, if_true]
  exact hsched

end

section
variable (s : State) (e : Nat) (j k : Job)

theorem State.job?_inc (o i : Nat) : (s.inc o).job? i = s.job? i :=
  State.job?_congr (congrArg (fun y : State => y.jqm.jobs) (s.inc_eventFrame o) :) i

/-- A job started at its engine runs (R110). -/
theorem State.job?_startJob_self (h : (s.job? k.id).isSome = true) : ∃ y, (s.startJob k).job? k.id = some y ∧ y.phase = .running := by
  obtain ⟨x, hx⟩ := Option.isSome_iff_exists.1 h
  exact ⟨_, s.job?_putJob_self _ x hx, rfl⟩

theorem State.job?_startJob_of_ne (i : Nat) (h : i ≠ k.id) : (s.startJob k).job? i = s.job? i := s.job?_putJob_of_ne _ i h

end

theorem boundary_preempts (s : State) (e : Fin 256) (ns : BitVec 16) (j k : Job) (he : isAea e = true) (hok : s.jobsOk)
    (hat : s.jobsAt e = [j, k]) (hr : j.phase = .running) (hw : j.wait = .none) (ha : j.abort = .none) (hres : j.res = .lt)
    (hje : j.engine = e) (hje2 : j.engine2 = e) (hk : k.phase = .waiting) (hke : k.engine = e) (hke2 : k.engine2 = e)
    (hcls : k.cls < j.cls) :
    ∃ t x y, exec (.engineInstructionBoundary e ns) s = .next t ∧ t.job? j.id = some x ∧ x.phase = .preempted ∧
      t.job? k.id = some y ∧ y.phase = .running ∧
      t.cntGet (R.AEA_PREEMPT e) = min (s.cntGet (R.AEA_PREEMPT e) + 1) (cntMax (R.AEA_PREEMPT e)) := by
  have hexec := exec_boundary s e ns j he hok hr [k] hat (by simp [hk])
  have hids := s.jobsAt_pair_ids e j k hok hat
  have hctx := State.jobsAt_atBoundary (s.noted e ns) e j hok [k] hat (by simpa using hids)
  have hc : isCtxRes j.res = true := by rw [hres]; rfl
  set y := (s.noted e ns).putJob j.atBoundary with hy
  have hyok : y.jobsOk := State.jobsOk_putJob _ _ hok
  have hpre := y.preemptAt_pair e j.atBoundary k hyok hctx (by have := e.isLt; omega) hr hk ⟨hje, hje2⟩ ⟨hke, hke2⟩ hc hcls he
  rw [State.boundaryOf_calm _ e j hw ha hc, hpre] at hexec
  set p : Job := { j.atBoundary with phase := .preempted } with hp
  have hmems := y.mem_jobsAt e
  have hyj : y.job? j.id = some j.atBoundary := (y.job?_iff hyok _ _).2 ⟨(hmems _ (hctx ▸ List.mem_cons_self ..)).1, rfl⟩
  have hyk : y.job? k.id = some k := (y.job?_iff hyok _ _).2 ⟨(hmems k (by rw [hctx]; simp)).1, rfl⟩
  have hz : ((y.putJob p).inc (R.AEA_PREEMPT e)).job? k.id = some k := by
    rw [State.job?_inc, y.job?_putJob_of_ne p k.id hids, hyk]
  obtain ⟨x, hx, hxr⟩ := State.job?_startJob_self _ k (by rw [hz]; rfl)
  refine ⟨_, p, x, hexec, ?_, rfl, hx, hxr, ?_⟩
  · refine (State.job?_startJob_of_ne _ k j.id hids.symm).trans ?_
    rw [State.job?_inc]
    exact y.job?_putJob_self p _ hyj
  · exact (y.putJob p).cntGet_inc (R.AEA_PREEMPT e)

/-- Settles O23: the registers of an AEA engine, its self-test, and the boundary of its instructions. -/
theorem engineRegisters : Obligations.EngineRegisters := by
  unfold Obligations.EngineRegisters
  refine ⟨fun s r e v _ hw => ⟨ltEnWrite_stores s r e v hw, aeaSelftest_asks s r e v hw⟩, fun s e pass _ h => aeaSelftestEnd_shows s e pass h,
    fun s r e _ hr => maxinsnRead_clears s r e hr, fun s e ns j he hok hat hr hw hc hk => ⟨fun ha => ?_, fun n ha => ?_⟩,
    fun s e ns j k he hok hat hr hw ha hres hje hje2 hk hke hke2 hcls _ =>
      boundary_preempts s e ns j k he hok hat hr hw ha hres hje hje2 hk hke hke2 hcls⟩
  · exact boundary_counts s e ns j he hok hr hw hat hc ha
  · exact boundary_tampers s e ns j he hok hr hw hat hk n ha

end Sys2Proof.Machine
end

section
/-! PROOF. O24: the next addresses of Spire microwords (R209 to R214), where the nanoword performs no operation (R216). -/

namespace Sys2Proof.Machine

section
variable (s : State) (e : Nat) (j : Job) (w : Nat) (hok : s.jobsOk) (hj : s.spireJob e = some j)
include hj

theorem State.running_of_spireJob : s.running e = some j := by
  unfold State.spireJob at hj
  split at hj
  · next k hk =>
    split at hj
    · exact hk.trans hj
    · cases hj
  · cases hj

theorem State.atSpire_at (q : Nat) (b : Bool) (k : Job → Nat → State) (hw : w = s.microAt e j.spire.upc) (hq : mwSeq w = q)
    (hb : j.spire.waiting = b) : s.atSpire e q b k = k j w := by
  subst hw
  simp only [State.atSpire, hj, hq, hb, and_self, if_true]

include hok

theorem State.job?_of_spireJob : s.job? j.id = some j := by
  have hmem := List.mem_of_find?_eq_some (s.running_of_spireJob e j hj)
  exact (s.job?_iff hok j.id j).2 ⟨(s.mem_jobsAt e j hmem).1, rfl⟩

/-- A nanoword that performs no operation leaves device, job and sequencer as they are (R216). -/
theorem State.issue_quiet (hq : s.quietWord j w) (k : State → Job → Spire → State) : s.issue j w k = k s j j.spire := by
  obtain ⟨hunit, hlc⟩ := hq
  have hjob := s.job?_of_spireJob e j hok hj
  have hunitOk : unitOk (kindOf j.engine) (s.nanoAt j.engine (mwNano w)) = true := by simp [unitOk, hunit]
  have hunitOps : decide (5 ≤ 0 ∧ 0 ≤ 9) = false := rfl
  unfold State.issue
  simp only [hunitOk, hlc, State.unitAct, hunit, hunitOps, hjob, Bool.and_false, Bool.or_false, Bool.not_true, Bool.false_eq_true, if_false]

theorem State.seqCond_quiet (q : Nat) (ext b : Bool) (k : State → Job → Spire → Nat → Bool → State) (hw : w = s.microAt e j.spire.upc)
    (hseq : mwSeq w = q) (hwait : j.spire.waiting = false) (hq : s.quietWord j w) (ht : taken j j.spire w ext = some b) :
    s.seqCond e q ext k = k s j j.spire w b := by
  rw [State.seqCond, s.atSpire_at e j w hj q false _ hw hseq hwait, s.issue_quiet e j w hok hj hq, ht]

/-- The sequencer goes to a next address, and nothing else changes (R210, R211, R220). -/
theorem State.advance_movesTo (p : Spire) (next : Nat) : MovesTo s (s.advance j p w next) j p w next :=
  ⟨s.job?_putJob_self _ j (s.job?_of_spireJob e j hok hj), fun i hi => s.job?_putJob_of_ne _ i hi, rfl⟩

end

section
variable (s : State) (e : Fin 48) (j : Job) (w : Nat) (hok : s.jobsOk) (hj : s.spireJob e = some j)
  (hw : w = s.microAt e j.spire.upc) (hwait : j.spire.waiting = false) (hq : s.quietWord j w)
include hok hj hw hwait hq

theorem spireNext_moves (hseq : mwSeq w = sqNext) : ∃ t, exec (.spireNext e) s = .next t ∧ MovesTo s t j j.spire w (j.spire.upc + 1) := by
  refine ⟨_, congrArg Host.Outcome.next ?_, s.advance_movesTo e j w hok hj _ _⟩
  rw [State.seqNext, s.atSpire_at e j w hj _ _ _ hw hseq hwait, s.issue_quiet e j w hok hj hq]
  rfl

section
variable (ext b : Bool) (ht : taken j j.spire w ext = some b)
include ht

theorem spireBr_moves (hseq : mwSeq w = sqBr) : ∃ t, exec (.spireBr e ext) s = .next t ∧
    MovesTo s t j j.spire w (if b then mwTarget w else j.spire.upc + 1) :=
  ⟨_, congrArg Host.Outcome.next (s.seqCond_quiet e j w hok hj sqBr ext b _ hw hseq hwait hq ht), s.advance_movesTo e j w hok hj _ _⟩

theorem exec_spireCall (hseq : mwSeq w = sqCall) : exec (.spireCall e ext) s = .next (if (!b) = true then s.advance j j.spire w j.spire.succ
    else if 8 ≤ j.spire.stack.length then s.spireAssertion j 1
    else s.advance j { j.spire with stack := j.spire.succ % 2 ^ 14 :: j.spire.stack } w (mwTarget w)) :=
  congrArg Host.Outcome.next (s.seqCond_quiet e j w hok hj sqCall ext b _ hw hseq hwait hq ht)

theorem exec_spireRet (hseq : mwSeq w = sqRet) : exec (.spireRet e ext) s = .next (if (!b) = true then s.advance j j.spire w j.spire.succ
    else match j.spire.stack with
      | [] => s.spireAssertion j 1
      | a :: r => s.advance j { j.spire with stack := r } w a) :=
  congrArg Host.Outcome.next (s.seqCond_quiet e j w hok hj sqRet ext b _ hw hseq hwait hq ht)

theorem exec_spireWait (hseq : mwSeq w = sqWait) : exec (.spireWait e ext) s = .next (if b = true then s.advance j j.spire w j.spire.succ
    else s.putJob { j with spire := { j.spire with waiting := true, atBnd := false } }) :=
  congrArg Host.Outcome.next (s.seqCond_quiet e j w hok hj sqWait ext b _ hw hseq hwait hq ht)

end

theorem spireCall_moves (ext b : Bool) (ht : taken j j.spire w ext = some b) (hseq : mwSeq w = sqCall) :
    (b = false → ∃ t, exec (.spireCall e ext) s = .next t ∧ MovesTo s t j j.spire w (j.spire.upc + 1)) ∧
    (b = true → j.spire.stack.length < 8 → ∃ t, exec (.spireCall e ext) s = .next t ∧
      MovesTo s t j { j.spire with stack := (j.spire.upc + 1) % 2 ^ 14 :: j.spire.stack } w (mwTarget w)) := by
  have hexec := exec_spireCall s e j w hok hj hw hwait hq ext b ht hseq
  constructor
  · rintro rfl
    exact ⟨_, hexec, s.advance_movesTo e j w hok hj _ _⟩
  · rintro rfl hlen
    rw [if_neg (by decide), if_neg (by omega)] at hexec
    exact ⟨_, hexec, s.advance_movesTo e j w hok hj _ _⟩

theorem spireRet_moves (ext b : Bool) (ht : taken j j.spire w ext = some b) (hseq : mwSeq w = sqRet) :
    (b = false → ∃ t, exec (.spireRet e ext) s = .next t ∧ MovesTo s t j j.spire w (j.spire.upc + 1)) ∧
    (∀ a rest, b = true → j.spire.stack = a :: rest → ∃ t, exec (.spireRet e ext) s = .next t ∧
      MovesTo s t j { j.spire with stack := rest } w a) := by
  have hexec := exec_spireRet s e j w hok hj hw hwait hq ext b ht hseq
  constructor
  · rintro rfl
    exact ⟨_, hexec, s.advance_movesTo e j w hok hj _ _⟩
  · rintro a rest rfl hstack
    rw [if_neg (by decide), hstack] at hexec
    exact ⟨_, hexec, s.advance_movesTo e j w hok hj _ _⟩

theorem spireWait_moves (ext b : Bool) (ht : taken j j.spire w ext = some b) (hseq : mwSeq w = sqWait) :
    (b = true → ∃ t, exec (.spireWait e ext) s = .next t ∧ MovesTo s t j j.spire w (j.spire.upc + 1)) ∧
    (b = false → ∃ t, exec (.spireWait e ext) s = .next t ∧
      t.job? j.id = some { j with spire := { j.spire with waiting := true, atBnd := false } }) := by
  have hexec := exec_spireWait s e j w hok hj hw hwait hq ext b ht hseq
  constructor
  · rintro rfl
    exact ⟨_, hexec, s.advance_movesTo e j w hok hj _ _⟩
  · rintro rfl
    exact ⟨_, hexec, s.job?_putJob_self { j with spire := { j.spire with waiting := true, atBnd := false } } j
      (s.job?_of_spireJob e j hok hj)⟩

theorem spireDisp_moves (k : Nat) (hseq : mwSeq w = sqDisp) (hk : dispKey j.desc (mwCond w) = some k) :
    ∃ t, exec (.spireDisp e) s = .next t ∧ MovesTo s t j j.spire w (mwTarget w + k) := by
  refine ⟨_, congrArg Host.Outcome.next ?_, s.advance_movesTo e j w hok hj _ _⟩
  rw [State.seqDisp, s.atSpire_at e j w hj _ _ _ hw hseq hwait, s.issue_quiet e j w hok hj hq, hk]

theorem exec_spireLoop (hseq : mwSeq w = sqLoop) : exec (.spireLoop e) s = .next (
    if j.spire.lc (mwCond w % 4) = 0 then s.advance j j.spire w j.spire.succ
    else s.advance j (j.spire.setLc (mwCond w % 4) (j.spire.lc (mwCond w % 4) - 1)) w (mwTarget w)) := by
  refine congrArg Host.Outcome.next ?_
  rw [State.seqLoop, s.atSpire_at e j w hj _ _ _ hw hseq hwait, s.issue_quiet e j w hok hj hq]

theorem spireLoop_moves (hseq : mwSeq w = sqLoop) :
    (j.spire.lc (mwCond w % 4) = 0 → ∃ t, exec (.spireLoop e) s = .next t ∧ MovesTo s t j j.spire w (j.spire.upc + 1)) ∧
    (j.spire.lc (mwCond w % 4) ≠ 0 → ∃ t, exec (.spireLoop e) s = .next t ∧
      MovesTo s t j (j.spire.setLc (mwCond w % 4) (j.spire.lc (mwCond w % 4) - 1)) w (mwTarget w)) := by
  have hexec := exec_spireLoop s e j w hok hj hw hwait hq hseq
  constructor
  · intro h
    rw [if_pos h] at hexec
    exact ⟨_, hexec, s.advance_movesTo e j w hok hj _ _⟩
  · intro h
    rw [if_neg h] at hexec
    exact ⟨_, hexec, s.advance_movesTo e j w hok hj _ _⟩

end

/-- Settles O24: each sequencing operation, from the microword that the Spire may execute. -/
theorem sequencingOperations : Obligations.SequencingOperations := by
  unfold Obligations.SequencingOperations
  refine fun s e j w hok hj hw => ⟨fun hwait hq => ⟨spireNext_moves s e j w hok hj hw hwait hq, fun ext b ht => ⟨?_, ?_, ?_, ?_⟩,
    fun k hseq hk => spireDisp_moves s e j w hok hj hw hwait hq k hseq hk, spireLoop_moves s e j w hok hj hw hwait hq⟩, fun hwait hseq ht => ?_⟩
  · exact spireBr_moves s e j w hok hj hw hwait hq ext b ht
  · exact spireCall_moves s e j w hok hj hw hwait hq ext b ht
  · exact spireRet_moves s e j w hok hj hw hwait hq ext b ht
  · exact spireWait_moves s e j w hok hj hw hwait hq ext b ht
  · refine ⟨_, congrArg Host.Outcome.next ?_, s.advance_movesTo e j w hok hj _ _⟩
    rw [State.seqWaitTaken, s.atSpire_at e j w hj _ _ _ hw hseq hwait, if_pos ht]
    rfl

end Sys2Proof.Machine
end

section
/-! PROOF. A job that does its work (R86, R95, R98, R108): it draws, writes its output and ends. -/

namespace Sys2Proof.Machine

/-! ### Memory that is the same -/

theorem memRead_congr {m l : List Host.Cell} (h : ∀ x, memByte m x = memByte l x) (a n : Nat) : memRead m a n = memRead l a n := by
  induction n generalizing a with
  | zero => rfl
  | succ n ih => rw [memRead, memRead, h, ih]

section
variable {s t : State} (h : SameMemory s t)
include h

theorem SameMemory.memRead (owner a n : Nat) : memRead (t.memOf owner) a n = memRead (s.memOf owner) a n := by
  unfold State.memOf
  split
  · exact memRead_congr h.svc a n
  · exact memRead_congr h.host a n

theorem SameMemory.onlyStores (owner a n : Nat) : OnlyStores owner a n s t :=
  ⟨fun x _ => h.host x, fun x _ => h.svc x, h.cup, h.flash, h.otp⟩

theorem SameMemory.trans {u : State} (k : SameMemory t u) : SameMemory s u :=
  ⟨fun a => (k.host a).trans (h.host a), fun a => (k.svc a).trans (h.svc a), fun a => (k.cup a).trans (h.cup a),
    fun a => (k.flash a).trans (h.flash a), k.otp.trans h.otp⟩

end

theorem State.finishJob_sameMemory (s : State) (j : Job) (r : JobResult) : SameMemory s (s.finishJob j r) :=
  (State.finishJob_keeps j r (Keeps.refl true s)).sameMemory

/-! ### Draws and counts -/

/-- The jobs, the slots, the memories and the time are as before: the random bit generators, the counters and the registers
may have changed. -/
structure Draws (s t : State) : Prop where
  jqm : t.jqm = s.jqm
  keep : t.keep = s.keep
  faults : t.faults = s.faults
  hostMem : t.hostMem = s.hostMem
  svcMem : t.svcMem = s.svcMem
  cupMem : t.cupMem = s.cupMem
  cup : t.cup = s.cup
  otp : t.otp = s.otp

theorem Draws.refl (s : State) : Draws s s := ⟨rfl, rfl, rfl, rfl, rfl, rfl, rfl, rfl⟩

section
variable {s t u : State} (h : Draws s t)
include h

theorem Draws.trans (k : Draws t u) : Draws s u :=
  ⟨k.jqm.trans h.jqm, k.keep.trans h.keep, k.faults.trans h.faults, k.hostMem.trans h.hostMem, k.svcMem.trans h.svcMem,
    k.cupMem.trans h.cupMem, k.cup.trans h.cup, k.otp.trans h.otp⟩

theorem Draws.events (k : EventFrame t u) : Draws s u :=
  h.trans ⟨(congrArg State.jqm k :), (congrArg State.keep k :), (congrArg State.faults k :), (congrArg State.hostMem k :),
    (congrArg State.svcMem k :), (congrArg State.cupMem k :), (congrArg State.cup k :), (congrArg State.otp k :)⟩

theorem Draws.count (o n : Nat) : Draws s (t.count o n) := h.events (t.count_eventFrame o n)

theorem Draws.inc (o : Nat) : Draws s (t.inc o) := h.events (t.inc_eventFrame o)

theorem Draws.drawMasks (e : Nat) : Draws s (t.drawMasks e) := by
  unfold State.drawMasks
  refine Draws.count ?_ _ _
  exact h.trans ⟨rfl, rfl, rfl, rfl, rfl, rfl, rfl, rfl⟩

theorem Draws.ite {p : Prop} [Decidable p] (k : Draws s u) : Draws s (if p then t else u) := by
  split
  · exact h
  · exact k

theorem Draws.jobsOk : t.jobsOk ↔ s.jobsOk := by rw [State.jobsOk, h.jqm, State.jobsOk]

theorem Draws.job? (i : Nat) : t.job? i = s.job? i := State.job?_congr (congrArg JqmSt.jobs h.jqm) i

theorem Draws.slot (n : Nat) : t.slot n = s.slot n := by rw [State.slot, h.keep, State.slot]

theorem Draws.liveSlot (n : Nat) : t.liveSlot n = s.liveSlot n := by
  unfold State.liveSlot
  rw [h.slot]

theorem Draws.dmaFaults (owner a n : Nat) (wr : Bool) : t.dmaFaults owner a n wr = s.dmaFaults owner a n wr := by
  rw [State.dmaFaults, h.faults, State.dmaFaults]

theorem Draws.dmaRead (owner a n : Nat) : t.dmaRead owner a n = s.dmaRead owner a n := by
  have hmem : t.memOf owner = s.memOf owner := by rw [State.memOf, h.hostMem, h.svcMem, State.memOf]
  unfold State.dmaRead
  rw [h.dmaFaults, hmem]

theorem Draws.sameMemory : SameMemory s t :=
  ⟨fun _ => by rw [h.hostMem], fun _ => by rw [h.svcMem], fun _ => by rw [h.cupMem], fun _ => by rw [h.cup], h.otp⟩

end

/-! ### A unit at work -/

section
variable (s : State) (i op : Nat) (j : Job) (hon : s.worksOn i op j)
include hon

theorem State.worksOn_id : j.id = i := s.job?_id i j hon.2.1

theorem State.worksOn_ranOn : j.ranOn = j.engine := by
  obtain ⟨-, -, -, -, -, hmove, -, -⟩ := hon
  refine if_neg fun h => ?_
  obtain ⟨hphase, hres⟩ := h
  rw [State.mayMove, if_neg hres, hphase] at hmove
  exact absurd hmove (by decide)

/-- A job without pending abort does the work of its opcode. -/
theorem State.atUnit_works (f : State → Job → State) : s.atUnit i op f = f s j := by
  obtain ⟨-, hj, hk, hw, hop, hmove, hpatch, habort⟩ := hon
  simp only [State.atUnit, hj, hk, hop, hmove, hpatch, hw, State.takeAbort, habort, Bool.not_false, and_self, if_true]

omit hon in
theorem State.withInput_works (x : JobIn) (h : s.worksWith i op j x) (k : JobIn → State) : s.withInput j k = k x := by
  obtain ⟨-, hsmall, hinput⟩ := h
  simp only [State.withInput, hsmall, hinput, Bool.false_eq_true, if_false]

end

section
variable (s : State) (j : Job)

theorem State.needRng_running (h : s.rngState = rngRunning) (k : State → State) : s.needRng j k = k s := if_pos h

theorem State.withBytes_read (a n code : Nat) (b : List Byte) (k : List Byte → State) (h : s.dmaRead j.owner a n = some b) :
    s.withBytes j a n code k = k b := by
  simp only [State.withBytes, h]

theorem State.withSlot_live (h idx : Nat) (y : Slot) (k : Slot → State) (hy : s.liveSlot h = some y) : s.withSlot j h idx k = k y := by
  simp only [State.withSlot, hy]

end

/-! ### The output of a job -/

/-- An output that fits the one buffer of a job is stored whole. -/
theorem writeBufs_one (s : State) (owner a n : Nat) (out : List Byte) (hn : out.length ≤ n)
    (hok : s.dmaFaults owner a out.length true = false) :
    ∃ t, writeBufs s owner [(a, n)] out = (t, true) ∧ memRead (t.memOf owner) a out.length = out ∧
      OnlyStores owner a out.length s t ∧ t.jqm = s.jqm := by
  have hmin : min n out.length = out.length := Nat.min_eq_right hn
  unfold writeBufs
  dsimp only
  rw [hmin, List.take_length]
  split
  · next h =>
    rw [h]
    exact ⟨s, rfl, (List.length_eq_zero_iff.1 h).symm, ⟨fun _ _ => rfl, fun _ _ => rfl, fun _ => rfl, fun _ => rfl, rfl⟩, rfl⟩
  · have hwrite : s.dmaWrite owner a out = some (s.dmaStore owner a out) := if_neg (by simp [hok])
    rw [hwrite]
    refine ⟨s.dmaStore owner a out, rfl, memRead_dmaStore s owner a out, onlyStores_dmaStore s owner a out, ?_⟩
    exact (congrArg State.jqm (s.dmaStore_frame owner a out) :)

/-- A job whose output fits writes it and ends OK. -/
theorem finishOut_wrote (s t : State) (i op : Nat) (j : Job) (x : JobIn) (a : Nat) (out : List Byte) (detail : Nat)
    (hon : s.worksOn i op j) (hfit : s.outputFits j x a out) (hd : Draws s t) :
    JobWrote j x a out detail s (t.finishOut j x out detail) := by
  obtain ⟨⟨n, houts, hn⟩, hok⟩ := hfit
  obtain ⟨u, hwrite, hread, honly, hjqm⟩ := writeBufs_one t j.owner a n out hn (by rwa [hd.dmaFaults])
  have hfinish : t.finishOut j x out detail = u.finishJob j (okResult j.engine detail out.length x.excess) := by
    simp only [State.finishOut, houts, hwrite]
  rw [hfinish]
  have hsame := u.finishJob_sameMemory j (okResult j.engine detail out.length x.excess)
  have hid := s.worksOn_id i op j hon
  obtain ⟨hjobs, hj, hk, -⟩ := hon
  refine ⟨(hsame.memRead _ _ _).trans hread, (hd.sameMemory.onlyStores _ _ _).trans (honly.trans (hsame.onlyStores _ _ _)), ?_⟩
  refine u.finishJob_ends j j _ ?_ ?_ hk
  · rw [State.jobsOk, hjqm, hd.jqm]
    exact hjobs
  · rw [State.job?, hjqm, hd.jqm, hid]
    exact hj

section
variable (s t : State) (i op : Nat) (j : Job) (hon : s.worksOn i op j) (hd : Draws s t)
include hon hd

/-- A job that ends without output. -/
theorem finishJob_ended (r : JobResult) : JobEnded j.id r (t.finishJob j r) := by
  have hid := s.worksOn_id i op j hon
  obtain ⟨hjobs, hj, hk, -⟩ := hon
  exact t.finishJob_ends j j r (hd.jobsOk.2 hjobs) ((hd.job? _).trans (hid ▸ hj)) hk

theorem failJob_ended (e : Err) : JobEnded j.id (failed j.engine e.1 e.2) (t.failJob j e) := by
  have hid := s.worksOn_id i op j hon
  have hran := s.worksOn_ranOn i op j hon
  obtain ⟨hjobs, hj, hk, -⟩ := hon
  rw [← hran]
  exact t.failJob_ends j j e (hd.jobsOk.2 hjobs) ((hd.job? _).trans (hid ▸ hj)) hk

theorem failQuiet_ended (e : Err) : JobEnded j.id (failed j.engine e.1 e.2) (t.failQuiet j e) := by
  have hran := s.worksOn_ranOn i op j hon
  rw [State.failQuiet, hran]
  exact finishJob_ended s t i op j hon hd _

end

end Sys2Proof.Machine
end

section
/-! PROOF. O27: the jobs of the asymmetric engines (R127 to R148, R195). -/

namespace Sys2Proof.Machine

/-! ### The classes of ALG codes (R101) -/

/-- A code of a plain key pair is of no stateful, Classic McEliece, RSA or composite scheme. -/
theorem plainPair_alg (alg : Nat)
    (h : isMlKem alg = true ∨ isMlDsa alg = true ∨ isSlhDsa alg = true ∨ isHqc alg = true) :
    isStateful alg = false ∧ isMcEliece alg = false ∧ alg ≠ 0x731 := by
  simp only [isMlKem, isMlDsa, isSlhDsa, isHqc, isStateful, isMcEliece, decide_eq_true_eq, decide_eq_false_iff_not] at *
  omega

theorem isMlKem_alg (alg : Nat) (h : isMlKem alg = true) : isMcEliece alg = false ∧ isHqc alg = false := by
  simp only [isMlKem, isMcEliece, isHqc, decide_eq_true_eq, decide_eq_false_iff_not] at *
  omega

theorem isMlDsa_alg (alg : Nat) (h : isMlDsa alg = true) :
    isStateful alg = false ∧ isEd alg = false ∧ alg ≠ 0x731 := by
  simp only [isMlDsa, isStateful, isEd, decide_eq_true_eq, decide_eq_false_iff_not, Bool.or_eq_false_iff, beq_eq_false_iff_ne] at *
  omega

section
variable (s : State) (i : Nat) (j : Job) (x : JobIn) (a : Nat)

/-! ### KEYGEN -/

/-- The end of a KEYGEN without consistency test, with both keys to memory. -/
theorem State.kgEnd_memory (pk sk : List Byte) (h : leAt j.desc 64 2 = 3) : s.kgEnd j x pk sk = s.finishOut j x (pk ++ sk) 0 := by
  have h0 : bit 3 0 = true := by decide
  have h3 : bit 3 3 = false := by decide
  simp only [State.kgEnd, h, h0, h3, Bool.not_true, Bool.and_false, Bool.or_false, Bool.false_and, Bool.false_eq_true, if_false, if_true]

theorem keygen_writes (seed : List Byte) (hwork : s.worksWith i opKeygen j x) (hrng : s.rngState = rngRunning)
    (hfl : leAt j.desc 64 2 = 3)
    (halg : isMlKem (dAlg j.desc) = true ∨ isMlDsa (dAlg j.desc) = true ∨ isSlhDsa (dAlg j.desc) = true ∨ isHqc (dAlg j.desc) = true)
    (hseed : s.dmaRead j.owner (dAuxAddr j.desc) (kgSeedLen j.desc) = some seed) (out : List Byte)
    (hout : out = (keyPair (dAlg j.desc) (kgParam j.desc) seed).1 ++ (keyPair (dAlg j.desc) (kgParam j.desc) seed).2)
    (hfit : s.outputFits j x a out) : ∃ t, exec (.keygen i) s = .next t ∧ JobWrote j x a out 0 s t := by
  obtain ⟨hstate, hmce, hrsa⟩ := plainPair_alg _ halg
  have h1 : bit 3 1 = true := by decide
  have hrun : s.runKeygen j = (s.drawMasks j.engine).finishOut j x out 0 := by
    unfold State.runKeygen
    rw [s.withInput_works i _ j x hwork, s.needRng_running j hrng]
    simp only [State.kgSeed, hfl, h1, if_true, s.withBytes_read j _ _ _ _ _ hseed, State.rsaCandidates, if_neg hrsa, hstate, hmce,
      Bool.false_eq_true, if_false]
    rw [if_neg (by decide), State.kgEnd_memory _ j x _ _ hfl, hout]
  refine ⟨_, congrArg Host.Outcome.next ((s.atUnit_works i _ j hwork.1 _).trans hrun), ?_⟩
  exact finishOut_wrote s _ i _ j x a out 0 hwork.1 hfit ((Draws.refl s).drawMasks _)

/-! ### ENCAPS and DECAPS -/

/-- A secret that goes to memory is written after what stands before it. -/
theorem State.finishSecret_memory (pre ss : List Byte) (h : bit (leAt j.desc 64 2) 0 = false) :
    s.finishSecret j x pre ss = s.finishOut j x (pre ++ ss) 0 := by
  simp only [State.finishSecret, h, Bool.false_eq_true, if_false]

section
variable (hwork : s.worksWith i opEncaps j x) (hrng : s.rngState = rngRunning) (hkey : dKeyHandle j.desc = none32)
include hwork hrng hkey

theorem encaps_rejects (hbad : encapsKeyOk (dAlg j.desc) x.data = false) :
    ∃ t, exec (.encaps i) s = .next t ∧ SameMemory s t ∧ JobEnded j.id (failed j.engine stVerifyFail 0) t := by
  have hrun : s.runEncaps j = s.failQuiet j (stVerifyFail, 0) := by
    unfold State.runEncaps
    rw [s.withInput_works i _ j x hwork, s.needRng_running j hrng, State.encapsKey, if_pos hkey]
    simp only [hbad, Bool.not_false, if_true]
  exact ⟨_, congrArg Host.Outcome.next ((s.atUnit_works i _ j hwork.1 _).trans hrun), s.finishJob_sameMemory j _,
    failQuiet_ended s s i _ j hwork.1 (.refl s) _⟩

theorem encaps_writes (halg : isMlKem (dAlg j.desc) = true) (hdest : bit (leAt j.desc 64 2) 0 = false)
    (hmin : bit (leAt j.desc 64 2) 1 = true) (m ct ss : List Byte) (hgood : encapsKeyOk (dAlg j.desc) x.data = true)
    (hm : s.dmaRead j.owner (dAuxAddr j.desc) (mLen (dAlg j.desc)) = some m)
    (hct : encapsOf (dAlg j.desc) (bit (leAt j.desc 64 2) 2) x.data m = some (ct, ss)) (hfit : s.outputFits j x a (ct ++ ss)) :
    ∃ t, exec (.encaps i) s = .next t ∧ JobWrote j x a (ct ++ ss) 0 s t := by
  obtain ⟨hmce, hhqc⟩ := isMlKem_alg _ halg
  have hdraws : s.encapsDraws j = ([], s) := by
    simp only [State.encapsDraws, encapsDraw, hmce, hhqc, hmin, if_true, Nat.sub_self, Bool.false_eq_true, if_false]
  have hrun : s.runEncaps j = (s.drawMasks j.engine).finishOut j x (ct ++ ss) 0 := by
    unfold State.runEncaps
    rw [s.withInput_works i _ j x hwork, s.needRng_running j hrng, State.encapsKey, if_pos hkey]
    simp only [hgood, Bool.not_true, Bool.false_eq_true, if_false, State.encapsMessage, hmin, if_true, s.withBytes_read j _ _ _ _ _ hm,
      hdraws, List.append_nil, hct]
    exact State.finishSecret_memory _ j x ct ss hdest
  refine ⟨_, congrArg Host.Outcome.next ((s.atUnit_works i _ j hwork.1 _).trans hrun), ?_⟩
  exact finishOut_wrote s _ i _ j x a _ 0 hwork.1 hfit ((Draws.refl s).drawMasks _)

end

theorem decaps_writes (y : Slot) (ss : List Byte) (hwork : s.worksWith i opDecaps j x) (hrng : s.rngState = rngRunning)
    (hy : s.liveSlot (dKeyHandle j.desc) = some y) (hdest : bit (leAt j.desc 64 2) 0 = false)
    (hgood : storedKeyOk (dAlg j.desc) y.key = true)
    (hss : decapsOf (dAlg j.desc) (bit (leAt j.desc 64 2) 2) y.key x.data = some ss) (hfit : s.outputFits j x a ss) :
    ∃ t, exec (.decaps i) s = .next t ∧ JobWrote j x a ss 0 s t := by
  have hrun : s.runDecaps j = (s.drawMasks j.engine).finishOut j x ss 0 := by
    unfold State.runDecaps
    rw [s.withInput_works i _ j x hwork, s.needRng_running j hrng, s.withSlot_live j _ _ y _ hy]
    simp only [hgood, Bool.not_true, Bool.false_eq_true, if_false, hss]
    exact State.finishSecret_memory _ j x [] ss hdest
  refine ⟨_, congrArg Host.Outcome.next ((s.atUnit_works i _ j hwork.1 _).trans hrun), ?_⟩
  exact finishOut_wrote s _ i _ j x a ss 0 hwork.1 hfit ((Draws.refl s).drawMasks _)

/-! ### SIGN and VERIFY -/

/-- The parameters of a signature without context string. -/
theorem State.withContext_none (k : SigParams → State) (h : sgCtxLen j.desc = 0) :
    s.withContext j k = k ⟨sgMode j.desc, sgPh j.desc, byteAt j.desc 69, byteAt j.desc 70, []⟩ := if_pos h

theorem sign_writes (y : Slot) (n : Nat) (out : List Byte) (hwork : s.worksWith i opSign j x) (hrng : s.rngState = rngRunning)
    (halg : isMlDsa (dAlg j.desc) = true) (hinp : j.inp = none) (hy : s.liveSlot (dKeyHandle j.desc) = some y)
    (hdet : sgDet j.desc = true) (hctx : sgCtxLen j.desc = 0) (hafter : bit (leAt j.desc 64 2) 3 = false) (p : SigParams)
    (hp : p = SigParams.mk (sgMode j.desc) (sgPh j.desc) (byteAt j.desc 69) (byteAt j.desc 70) [])
    (hn : n = itersOf (dAlg j.desc) p y.key (zeros 32) x.data) (hcap : n ≤ 1024)
    (hout : out = signOf (dAlg j.desc) (sigLen (dAlg j.desc) (rsaOfSk y.keyLen)) p y.key (zeros 32) x.data)
    (hfit : s.outputFits j x a out) : ∃ t, exec (.sign i) s = .next t ∧ JobWrote j x a out (max n 1) s t := by
  obtain ⟨hstate, hed, hrsa⟩ := isMlDsa_alg _ halg
  have hrnd : s.signRnd j y = (zeros 32, s) := by
    simp only [State.signRnd, signDraw, hstate, hed, if_neg hrsa, hdet, halg, Bool.true_or, Bool.false_eq_true, if_false, if_true]
  have hlen : ∀ t : State, t.signOut j.desc = sigLen (dAlg j.desc) (rsaOfSk y.keyLen) := fun t => by
    simp only [State.signOut, hstate, Bool.false_eq_true, if_false, sigLen, if_neg hrsa]
  set m := s.drawMasks j.engine with hm
  set c := if n ≤ 1 then m else m.count (R.AEA_REJ j.engine) (n - 1) with hc
  have hcounts : m.signCounts j n = (max n 1, c) := by
    simp only [State.signCounts, halg, Bool.true_or, if_true, hc]
  have hcapped : ¬ ((isMlDsa (dAlg j.desc) || isCompSig (dAlg j.desc)) && decide (1024 < n)) = true := by
    simp [Nat.not_lt.2 hcap]
  have hend : m.signEnd j x p y (zeros 32) = c.finishOut j x out (max n 1) := by
    unfold State.signEnd
    dsimp only
    rw [← hn, if_neg hcapped, hcounts, hlen, ← hout, hafter, decide_eq_false hrsa]
    rfl
  have hrun : s.runSign j = c.finishOut j x out (max n 1) := by
    unfold State.runSign
    rw [hinp]
    show s.withInput j _ = _
    rw [s.withInput_works i _ j x hwork, s.needRng_running j hrng, s.withContext_none j _ hctx, s.withSlot_live j _ _ y _ hy]
    simp only [hrnd, hstate, Bool.false_eq_true, if_false, ← hp, ← hm]
    exact hend
  refine ⟨_, congrArg Host.Outcome.next ((s.atUnit_works i _ j hwork.1 _).trans hrun), ?_⟩
  have hdraw := (Draws.refl s).drawMasks j.engine
  exact finishOut_wrote s c i _ j x a out _ hwork.1 hfit (hdraw.ite (hdraw.count _ _))

theorem verify_ends (y : Slot) (sig : List Byte) (hwork : s.worksWith i opVerify j x) (hkey : dKeyHandle j.desc ≠ none32)
    (hy : s.liveSlot (dKeyHandle j.desc) = some y) (hctx : sgCtxLen j.desc = 0)
    (hsig : s.dmaRead j.owner (dAuxAddr j.desc) (verifySigLen j.desc y.key.length) = some sig) (p : SigParams)
    (hp : p = SigParams.mk (sgMode j.desc) (sgPh j.desc) (byteAt j.desc 69) (byteAt j.desc 70) []) :
    ∃ t, exec (.verify i) s = .next t ∧ JobEnded j.id (if verifyOf (dAlg j.desc) p y.key x.data sig then
      okResult j.engine 0 0 x.excess else failed j.engine stVerifyFail 0) t := by
  have hrun : s.runVerify j = if verifyOf (dAlg j.desc) p y.key x.data sig then s.finishJob j (okResult j.engine 0 0 x.excess)
      else s.failJob j (stVerifyFail, 0) := by
    unfold State.runVerify
    rw [s.withInput_works i _ j x hwork, s.withContext_none j _ hctx, State.withPublic, if_pos hkey, s.withSlot_live j _ _ y _ hy,
      s.withBytes_read j _ _ _ _ _ hsig, hp]
  refine ⟨_, congrArg Host.Outcome.next ((s.atUnit_works i _ j hwork.1 _).trans hrun), ?_⟩
  split
  · exact finishJob_ended s s i _ j hwork.1 (.refl s) _
  · exact failJob_ended s s i _ j hwork.1 (.refl s) _

/-! ### EXCHANGE -/

theorem exchange_writes (y : Slot) (ss : List Byte) (hwork : s.worksWith i opExchange j x) (hrng : s.rngState = rngRunning)
    (hy : s.liveSlot (dKeyHandle j.desc) = some y) (hdest : bit (leAt j.desc 64 2) 0 = false)
    (hone : bit (leAt j.desc 64 2) 2 = false) (hss : Config.exchange (dAlg j.desc) (byteAt j.desc 76) y.key x.data = some ss)
    (out : List Byte) (hout : out = fit (exchLen (dAlg j.desc) (byteAt j.desc 76)) ss) (hfit : s.outputFits j x a out) :
    ∃ t, exec (.exchange i) s = .next t ∧ JobWrote j x a out 0 s t := by
  have hrun : s.runExchange j = (s.drawMasks j.engine).finishOut j x out 0 := by
    unfold State.runExchange
    rw [s.withInput_works i _ j x hwork, s.needRng_running j hrng]
    simp only [State.exchangeKey, hone, Bool.false_eq_true, if_false, s.withSlot_live j _ _ y _ hy, hss, ← hout]
    exact State.finishSecret_memory _ j x [] out hdest
  refine ⟨_, congrArg Host.Outcome.next ((s.atUnit_works i _ j hwork.1 _).trans hrun), ?_⟩
  exact finishOut_wrote s _ i _ j x a out 0 hwork.1 hfit ((Draws.refl s).drawMasks _)

end

/-- Settles O27: each job of the asymmetric engines, from what its unit does with its input, its keys and its draws. -/
theorem asymmetricJobs : Obligations.AsymmetricJobs := by
  unfold Obligations.AsymmetricJobs
  refine fun s i j x a => ⟨?_, fun hwork hrng halg hkey hdest hmin => ⟨?_, ?_⟩, ?_, ?_, ?_, ?_⟩
  · exact keygen_writes s i j x a
  · exact encaps_rejects s i j x hwork hrng hkey
  · exact encaps_writes s i j x a hwork hrng hkey halg hdest hmin
  · exact decaps_writes s i j x a
  · exact sign_writes s i j x a
  · exact verify_ends s i j x
  · exact exchange_writes s i j x a

end Sys2Proof.Machine
end

section
/-! PROOF. O28 and O29: HASH (R174), MAC and MAC_COMPARE (R282, R428, R429), ENCRYPT and DECRYPT (R278 to R280). -/

namespace Sys2Proof.Machine

section
variable (s : State) (i : Nat) (j : Job) (x : JobIn) (a : Nat) (out : List Byte)

theorem hash_writes (hwork : s.worksWith i opHash j x) (hfit : s.outputFits j x a out)
    (hout : out = hashOf (dAlg j.desc) (if dAlg j.desc = 0x921 ∨ dAlg j.desc = 0x922 then leAt j.desc 64 4 else hashLen (dAlg j.desc))
      x.data) : ∃ t, exec (.hash i) s = .next t ∧ JobWrote j x a out 0 s t := by
  have hrun : s.runHash j = s.finishOut j x out 0 := (s.withInput_works i _ j x hwork _).trans (by rw [hout])
  exact ⟨_, congrArg Host.Outcome.next ((s.atUnit_works i _ j hwork.1 _).trans hrun),
    finishOut_wrote s s i _ j x a out 0 hwork.1 hfit (.refl s)⟩

/-! ### MAC and MAC_COMPARE -/

theorem Draws.dkeCounts {s t : State} (h : Draws s t) (j : Job) : Draws s (t.dkeCounts j) := by
  unfold State.dkeCounts
  split
  · exact h
  · refine Draws.count (Draws.inc ?_ _) _ _
    exact h.trans ⟨rfl, rfl, rfl, rfl, rfl, rfl, rfl, rfl⟩

/-- The masks of a MAC: drawn where RNG is RUNNING, none for GMAC (R28, R415). -/
theorem State.macMasks_draws (h : dAlg j.desc = 0xB01 ∨ (s.rngState = rngRunning ∧ byteAt j.desc 68 = 0)) :
    ∃ t, Draws s t ∧ (∀ k, s.macMasks j k = k t) ∧ ∀ k : List Byte → State, t.withCust j k = k [] := by
  by_cases hg : dAlg j.desc = 0xB01
  · exact ⟨s, .refl s, fun k => if_pos hg, fun k => if_pos (.inl hg)⟩
  · obtain ⟨hrng, hcust⟩ := h.resolve_left hg
    exact ⟨s.drawMasks j.engine, (Draws.refl s).drawMasks _, fun k => (if_neg hg).trans (s.needRng_running j hrng _),
      fun k => if_pos (.inr hcust)⟩

variable (y : Slot) (hy : s.liveSlot (dKeyHandle j.desc) = some y)
include hy

theorem mac_writes (h : dAlg j.desc = 0xB01 ∨ (s.rngState = rngRunning ∧ byteAt j.desc 68 = 0)) (hwork : s.worksWith i opMac j x)
    (hout : out = jobMac j.desc y.key [] x.data) (hfit : s.outputFits j x a out) :
    ∃ t, exec (.mac i) s = .next t ∧ JobWrote j x a out 0 s t := by
  obtain ⟨t, hd, hmasks, hcust⟩ := s.macMasks_draws j h
  have hrun : s.runMac j = (t.dkeCounts j).finishOut j x out 0 := by
    unfold State.runMac
    rw [s.withInput_works i _ j x hwork, hmasks, hcust, t.withSlot_live j _ _ y _ ((hd.liveSlot _).trans hy), hout]
  exact ⟨_, congrArg Host.Outcome.next ((s.atUnit_works i _ j hwork.1 _).trans hrun),
    finishOut_wrote s _ i _ j x a out 0 hwork.1 hfit (hd.dkeCounts j)⟩

theorem macCompare_ends (h : dAlg j.desc = 0xB01 ∨ (s.rngState = rngRunning ∧ byteAt j.desc 68 = 0)) (e : List Byte)
    (hwork : s.worksWith i opMacCompare j x) (he : s.dmaRead j.owner (dAuxAddr j.desc) (macLen j.desc) = some e) :
    ∃ t, exec (.macCompare i) s = .next t ∧ JobEnded j.id (if jobMac j.desc y.key [] x.data = e then
      okResult j.engine 0 0 x.excess else failed j.engine stVerifyFail 0) t := by
  obtain ⟨t, hd, hmasks, hcust⟩ := s.macMasks_draws j h
  set c := if dAlg j.desc = 0xB01 then t.dkeCounts j
    else (t.dkeCounts j).inc (R.DKE_CNT (if jobMac j.desc y.key [] x.data = e then 2 else 3)) with hc
  have hrun : s.runMacCompare j = if jobMac j.desc y.key [] x.data = e then c.finishJob j (okResult j.engine 0 0 x.excess)
      else c.failJob j (stVerifyFail, 0) := by
    unfold State.runMacCompare
    rw [s.withInput_works i _ j x hwork, hmasks, hcust, t.withSlot_live j _ _ y _ ((hd.liveSlot _).trans hy),
      t.withBytes_read j _ _ _ e _ ((hd.dmaRead _ _ _).trans he)]
  have hcounted : Draws s c := (hd.dkeCounts j).ite ((hd.dkeCounts j).inc _)
  refine ⟨_, congrArg Host.Outcome.next ((s.atUnit_works i _ j hwork.1 _).trans hrun), ?_⟩
  split
  · exact finishJob_ended s c i _ j hwork.1 hcounted _
  · exact failJob_ended s c i _ j hwork.1 hcounted _

/-! ### ENCRYPT and DECRYPT -/

variable (hkey : dKeyHandle j.desc ≠ none32)
include hkey

theorem encrypt_writes (hwork : s.worksWith i opEncrypt j x) (hout : out = bcEncrypt j.desc y.key (bcIv j.desc) x.data)
    (hfit : s.outputFits j x a out) : ∃ t, exec (.encrypt i) s = .next t ∧ JobWrote j x a out 0 s t := by
  have hrun : s.runEncrypt j = s.finishOut j x out 0 := by
    unfold State.runEncrypt
    rw [s.withInput_works i _ j x hwork, if_neg hkey, s.withSlot_live j _ _ y _ hy, hout]
  exact ⟨_, congrArg Host.Outcome.next ((s.atUnit_works i _ j hwork.1 _).trans hrun),
    finishOut_wrote s s i _ j x a out 0 hwork.1 hfit (.refl s)⟩

theorem exec_decrypt (hwork : s.worksWith i opDecrypt j x) : exec (.decrypt i) s =
    .next (match bcDecrypt j.desc y.key (bcIv j.desc) x.data with
      | some pt => s.finishOut j x pt 0
      | none => s.failJob j (stVerifyFail, 0)) := by
  refine congrArg Host.Outcome.next ((s.atUnit_works i _ j hwork.1 _).trans ?_)
  unfold State.runDecrypt
  rw [s.withInput_works i _ j x hwork, if_neg hkey, s.withSlot_live j _ _ y _ hy] <;> rfl

theorem decrypt_ends (hwork : s.worksWith i opDecrypt j x) :
    (bcDecrypt j.desc y.key (bcIv j.desc) x.data = some out → s.outputFits j x a out →
      ∃ t, exec (.decrypt i) s = .next t ∧ JobWrote j x a out 0 s t) ∧
    (bcDecrypt j.desc y.key (bcIv j.desc) x.data = none →
      ∃ t, exec (.decrypt i) s = .next t ∧ JobEnded j.id (failed j.engine stVerifyFail 0) t) := by
  have hexec := exec_decrypt s i j x y hy hkey hwork
  constructor
  · intro hout hfit
    rw [hout] at hexec
    exact ⟨_, hexec, finishOut_wrote s s i _ j x a out 0 hwork.1 hfit (.refl s)⟩
  · intro hout
    rw [hout] at hexec
    exact ⟨_, hexec, failJob_ended s s i _ j hwork.1 (.refl s) _⟩

end

/-- Settles O28: each job of the hash, digest and lane engines, from what its unit does with its input and its key. -/
theorem hashMacAndCipherJobs : Obligations.HashMacAndCipherJobs := by
  unfold Obligations.HashMacAndCipherJobs
  refine fun s i j x a out => ⟨hash_writes s i j x a out, fun y hy => ⟨fun h => ⟨?_, ?_⟩, fun hkey => ⟨?_, ?_⟩⟩⟩
  · exact mac_writes s i j x a out y hy h
  · exact macCompare_ends s i j x y hy h
  · exact encrypt_writes s i j x a out y hy hkey
  · exact decrypt_ends s i j x a out y hy hkey

/-! ### DECRYPT after ENCRYPT -/

theorem xorBytes_xorBytes (a b : List Byte) (h : a.length ≤ b.length) : xorBytes (xorBytes a b) b = a := by
  induction a generalizing b with
  | nil => rfl
  | cons x xs ih =>
    cases b with
    | nil => simp at h
    | cons y ys =>
      have hxs : xs.length ≤ ys.length := by simpa using h
      show ((x ^^^ y) ^^^ y) :: xorBytes (xorBytes xs ys) ys = x :: xs
      rw [ih ys hxs, BitVec.xor_assoc, BitVec.xor_self, BitVec.xor_zero]

theorem streamCrypt_length (alg : Nat) (key iv data : List Byte) : (streamCrypt alg key iv data).length = data.length := by
  simp [streamCrypt, xorBytes, length_fit]

/-- A stream cipher is its own inverse (R278). -/
theorem streamCrypt_streamCrypt (alg : Nat) (key iv data : List Byte) :
    streamCrypt alg key iv (streamCrypt alg key iv data) = data := by
  rw [streamCrypt, streamCrypt_length]
  exact xorBytes_xorBytes _ _ (by simp [length_fit])

/-- The input of a DECRYPT falls into its AAD, its ciphertext and its tag. -/
theorem slice_parts (aad ct tag : List Byte) : slice (aad ++ (ct ++ tag)) aad.length ct.length = ct ∧
    (aad ++ (ct ++ tag)).take aad.length = aad ∧ (aad ++ (ct ++ tag)).drop (aad.length + ct.length) = tag := by
  simp [slice]

theorem bcDecrypt_aead (d e key iv data : List Byte) (halg : dAlg d = dAlg e) (haad : bcAad d = bcAad e) (htag : bcTag d = bcTag e)
    (hlen : bcAad d ≤ data.length) (hd : dAlg d = 0xB01 ∨ dAlg d = 0xC01) (hdecl : dDeclLen e = data.length + bcTag d) :
    bcDecrypt e key iv (data.take (bcAad d) ++ bcEncrypt d key iv data) = some (data.drop (bcAad d)) := by
  have haead : isAead (dAlg e) = true := by
    rw [← halg]
    rcases hd with hd | hd <;> rw [hd] <;> rfl
  set ct := streamCrypt (dAlg e) (key.take 32) iv (data.drop (bcAad e)) with hct
  set aad := data.take (bcAad e) with haadb
  have haadLen : aad.length = bcAad e := by
    rw [haadb, List.length_take]
    omega
  have hctLen : ct.length = dDeclLen e - bcAad e - bcTag e := by
    rw [hct, streamCrypt_length, List.length_drop]
    omega
  set tag := aeadTag (dAlg e) (key.take 32) iv aad ct (bcTag e) with htagb
  obtain ⟨hslice, htake, hdrop⟩ := slice_parts aad ct tag
  have henc : bcEncrypt d key iv data = ct ++ tag := by
    rw [bcEncrypt, halg, haad, htag]
    exact if_pos haead
  rw [henc, haad, ← haadb]
  have hopens : bcDecrypt e key iv (aad ++ (ct ++ tag)) = some (streamCrypt (dAlg e) (key.take 32) iv ct) := by
    simp only [bcDecrypt, haead, if_true]
    rw [← hctLen, ← haadLen, hslice, htake, hdrop, if_pos htagb.symm]
  rw [hopens, hct, streamCrypt_streamCrypt]

theorem bcDecrypt_ctr (d e key iv data : List Byte) (halg : dAlg d = dAlg e) (hd : dAlg d = 0xB02) :
    bcDecrypt e key iv (bcEncrypt d key iv data) = some data := by
  have he : dAlg e = 0xB02 := halg ▸ hd
  have hno : isAead 0xB02 = false := rfl
  simp only [bcDecrypt, bcEncrypt, hd, he, hno, Bool.false_eq_true, if_false, if_true, streamCrypt_streamCrypt]

/-- Settles O29: the key stream is taken off again, and the tag is the one that ENCRYPT made. -/
theorem decryptUndoesEncrypt : Obligations.DecryptUndoesEncrypt := by
  unfold Obligations.DecryptUndoesEncrypt
  exact fun d e key iv data halg haad htag hlen =>
    ⟨bcDecrypt_aead d e key iv data halg haad htag hlen, bcDecrypt_ctr d e key iv data halg⟩

end Sys2Proof.Machine
end

section
/-! PROOF. The slots of KEEP through the work around them: reads after updates, the requests of the leaf journal (R412), and the
tree builds that start (R181). -/

namespace Sys2Proof.Machine

/-! ### Slots after updates -/

@[simp] theorem State.slot_putSlot_self (s : State) (i : Nat) (x : Slot) : (s.putSlot i x).slot i = x := sget_sput_self _ _ _ _

theorem State.slot_putSlot_of_ne (s : State) (i k : Nat) (x : Slot) (h : k ≠ i) : (s.putSlot i x).slot k = s.slot k :=
  sget_sput_of_ne _ _ _ _ _ h

@[simp] theorem State.cell_putCell_self (s : State) (c : Nat) (v : Nat × Nat) : (s.putCell c v).cell c = v := sget_sput_self _ _ _ _

theorem State.leaf_putLeaf_self (s : State) (i : Nat) (l : LeafState) : ((s.putLeaf i l).slot i).leaf = some l := by
  rw [State.putLeaf, State.slot_putSlot_self]

theorem State.slot_putLeaf_of_ne (s : State) (i k : Nat) (l : LeafState) (h : k ≠ i) : (s.putLeaf i l).slot k = s.slot k :=
  s.slot_putSlot_of_ne i k _ h

/-! ### The journal's own work -/

/-- Slots, cells and jobs are as before, and so are the memories: the registers, events, the log and the requests of the
journal may have changed. -/
structure Journals (s t : State) : Prop where
  slots : t.keep.slots = s.keep.slots
  cells : t.keep.cells = s.keep.cells
  jobs : t.jqm.jobs = s.jqm.jobs
  result : t.rd R.KEEP_BL_RES = s.rd R.KEEP_BL_RES
  mem : SameMemory s t

theorem SameMemory.of_eq {s t : State} (hh : t.hostMem = s.hostMem := by rfl) (hs : t.svcMem = s.svcMem := by rfl)
    (hc : t.cupMem = s.cupMem := by rfl) (hf : t.cup.flash = s.cup.flash := by rfl) (ho : t.otp = s.otp := by rfl) : SameMemory s t :=
  ⟨fun _ => by rw [hh], fun _ => by rw [hs], fun _ => by rw [hc], fun _ => by rw [hf], ho⟩

theorem Journals.refl (s : State) : Journals s s := ⟨rfl, rfl, rfl, rfl, .of_eq⟩

section
variable {s t u : State} (h : Journals s t)
include h

theorem Journals.trans (k : Journals t u) : Journals s u :=
  ⟨k.slots.trans h.slots, k.cells.trans h.cells, k.jobs.trans h.jobs, k.result.trans h.result, h.mem.trans k.mem⟩

theorem Journals.slot (i : Nat) : t.slot i = s.slot i := by rw [State.slot, h.slots, State.slot]

theorem Journals.cell (c : Nat) : t.cell c = s.cell c := by rw [State.cell, h.cells, State.cell]

theorem Journals.wr (o : Nat) (v : Word) (ho : R.KEEP_BL_RES ≠ o) : Journals s (t.wr o v) :=
  h.trans ⟨rfl, rfl, rfl, State.rd_wr_of_ne t o _ v ho, .of_eq⟩

theorem Journals.put (f : Fld) (x : Nat) (hf : R.KEEP_BL_RES ≠ f.off) : Journals s (t.put f x) := h.wr _ _ hf

theorem Journals.logs (k : Logs t u) : Journals s u :=
  have hf := k.frame
  h.trans ⟨(congrArg (fun x => x.keep.slots) hf :), (congrArg (fun x => x.keep.cells) hf :),
    (congrArg (fun x => x.jqm.jobs) hf :), k.regs _ (by decide),
    .of_eq (congrArg State.hostMem hf :) (congrArg State.svcMem hf :) (congrArg State.cupMem hf :)
      (congrArg (fun x => x.cup.flash) hf :) (congrArg State.otp hf :)⟩

theorem Journals.raise (n : Nat) (hn : n < 256) : Journals s (t.raise n) := h.logs ((Logs.refl t).raise n hn)

theorem Journals.upd (hs : u.keep.slots = t.keep.slots := by rfl) (hc : u.keep.cells = t.keep.cells := by rfl)
    (hj : u.jqm.jobs = t.jqm.jobs := by rfl) (hr : u.regs = t.regs := by rfl) (hm : SameMemory t u := by exact .of_eq) :
    Journals s u := h.trans ⟨hs, hc, hj, by rw [State.rd, hr, State.rd], hm⟩

theorem Journals.ite {p : Prop} [Decidable p] (k : Journals s u) : Journals s (if p then t else u) := by
  split
  · exact h
  · exact k

theorem Journals.setJrWindow (b : List Byte) : Journals s (t.setJrWindow b) := by
  unfold State.setJrWindow
  have hstep : ∀ (l : List Nat) (x : State), (∀ i ∈ l, i < 16) → Journals s x →
      Journals s (l.foldl (fun s i => s.wr (R.KEEP_JR_REC i) (BitVec.ofNat 32 (leAt b (4 * i) 4))) x) := by
    intro l
    induction l with
    | nil => exact fun x _ hx => hx
    | cons i l ih =>
      intro x hl hx
      have hi := hl i (List.mem_cons_self ..)
      exact ih _ (fun k hk => hl k (List.mem_cons_of_mem _ hk)) (hx.wr _ _ (by simp only [R.KEEP_BL_RES, R.KEEP_JR_REC]; omega))
  exact hstep _ _ (fun i hi => List.mem_range.1 hi) h

theorem Journals.jrServe (r : JrReq) : Journals s (t.jrServe r) := by
  have hcell := (h.upd (u := { t with keep := { t.keep with jr := some r } })).put F.KEEP_JR_STAT_CELL r.cell (by decide)
  unfold State.jrServe
  dsimp only
  split
  · exact ((hcell.setJrWindow _).put F.KEEP_JR_STAT_REQ 1 (by decide)).raise 204 (by decide)
  · exact ((hcell.setJrWindow _).put F.KEEP_JR_STAT_REQ 1 (by decide)).raise 204 (by decide)
  · exact (hcell.setJrWindow _).put F.KEEP_JR_STAT_SEEK 1 (by decide)

theorem Journals.jrRequest (r : JrReq) : Journals s (t.jrRequest r) := by
  unfold State.jrRequest
  split
  · exact h.jrServe r
  · exact h.upd

theorem Journals.jrEnd : Journals s t.jrEnd := by
  have hclr := (h.put F.KEEP_JR_STAT_REQ 0 (by decide)).put F.KEEP_JR_STAT_SEEK 0 (by decide)
  unfold State.jrEnd
  dsimp only
  split
  · exact hclr.upd
  · exact hclr.upd.jrServe _

theorem Journals.reserveCheck (i : Nat) : Journals s (t.reserveCheck i) := by
  unfold State.reserveCheck
  split
  · exact (h.jrRequest _).ite h
  · exact h

theorem Journals.sfEvent (slot kind : Nat) : Journals s (t.sfEvent slot kind) := by
  unfold State.sfEvent
  split
  · exact (h.upd (u := { t with keep := { t.keep with sfevt := _ } })).logs ((Logs.refl _).level 200 (by decide) _)
  · exact h.put F.KEEP_STAT_SFEVT_OVF 1 (by decide)

end

/-! ### Tree builds that start (R181) -/

/-- The leaf state apart from whether a tree build runs. -/
def LeafState.unbuilt (l : LeafState) : LeafState := { l with building := false }

/-- Of a slot nothing has changed but whether a tree build runs, and a job that was gone is still gone. -/
structure Builds (s t : State) : Prop where
  st : ∀ i, (t.slot i).st = (s.slot i).st
  leaf : ∀ i, (t.slot i).leaf.map LeafState.unbuilt = (s.slot i).leaf.map LeafState.unbuilt
  absent : ∀ i < s.jqm.nextId, s.job? i = none → t.job? i = none
  next : s.jqm.nextId ≤ t.jqm.nextId

theorem Builds.refl (s : State) : Builds s s := ⟨fun _ => rfl, fun _ => rfl, fun _ _ h => h, le_refl _⟩

theorem Builds.trans {s t u : State} (h : Builds s t) (k : Builds t u) : Builds s u :=
  ⟨fun i => (k.st i).trans (h.st i), fun i => (k.leaf i).trans (h.leaf i),
    fun i hi hn => k.absent i (lt_of_lt_of_le hi h.next) (h.absent i hi hn), h.next.trans k.next⟩

section
variable (s : State)

theorem State.job?_putJob_none (j : Job) (i : Nat) (h : s.job? i = none) : (s.putJob j).job? i = none := by
  by_cases hi : i = j.id
  · have hnone := List.find?_eq_none.1 h
    refine List.find?_eq_none.2 fun k hk => ?_
    obtain ⟨x, hx, rfl⟩ := List.mem_map.1 hk
    have hne : ¬ x.id = i := by simpa using hnone x hx
    rw [if_neg (by simpa using hi ▸ hne)]
    simpa using hne
  · exact (s.job?_putJob_of_ne j i hi).trans h

theorem State.putJob_builds (j : Job) : Builds s (s.putJob j) :=
  ⟨fun _ => rfl, fun _ => rfl, fun i _ h => s.job?_putJob_none j i h, le_refl _⟩

theorem State.giveEngine_builds (j : Job) : Builds s (s.giveEngine j) := by
  unfold State.giveEngine State.startJob
  split <;> exact s.putJob_builds _

theorem State.schedule_builds (e : Nat) : Builds s (s.schedule e) := by
  unfold State.schedule
  split
  · exact .refl s
  · split
    · exact .refl s
    · split
      · exact s.giveEngine_builds _
      · exact .refl s

theorem State.inc_builds (o : Nat) : Builds s (s.inc o) := by
  have hf := s.inc_eventFrame o
  have hkeep : (s.inc o).keep = s.keep := (congrArg State.keep hf :)
  have hslot : ∀ i, (s.inc o).slot i = s.slot i := fun i => by rw [State.slot, hkeep, State.slot]
  exact ⟨fun i => by rw [hslot], fun i => by rw [hslot], fun i _ h => (s.job?_inc o i).trans h,
    le_of_eq (congrArg (fun x : State => x.jqm.nextId) hf :).symm⟩

theorem State.grantPool_builds (p : Res) : Builds s (s.grantPool p) := by
  unfold State.grantPool
  split
  · exact .refl s
  · split
    · exact s.giveEngine_builds _
    · exact .refl s

theorem State.preemptAt_builds (e : Nat) : Builds s (s.preemptAt e) := by
  unfold State.preemptAt
  split
  · exact .refl s
  · next r hr =>
    split
    · exact .refl s
    · have hput := s.putJob_builds { r with phase := .preempted }
      refine Builds.trans ?_ (State.schedule_builds _ e)
      split
      · exact hput.trans (State.inc_builds _ _)
      · exact hput

theorem State.tryStart_builds (p : Res) (e : Nat) : Builds s (s.tryStart p e) := by
  have hctx : Builds s (match s.running e with
      | none => s.schedule e
      | some r => if r.wait = .rng then s.preemptAt e else s) := by
    split
    · exact s.schedule_builds e
    · split
      · exact s.preemptAt_builds e
      · exact .refl s
  cases p with
  | keccak | sha2 | keep => exact s.grantPool_builds _
  | arbiter => exact .refl s
  | lt | cbe | cle | composite | dke | aes | chacha => exact hctx

theorem State.setBuilding_builds (i : Nat) (b : Bool) : Builds s (s.setBuilding i b) := by
  unfold State.setBuilding
  dsimp only
  split
  · next l hl =>
    refine ⟨fun k => ?_, fun k => ?_, fun _ _ h => h, le_refl _⟩
    · by_cases hk : k = i
      · rw [hk, State.slot_putSlot_self]
      · rw [State.slot_putSlot_of_ne _ _ _ _ hk]
    · by_cases hk : k = i
      · rw [hk, State.slot_putSlot_self, hl]
        rfl
      · rw [State.slot_putSlot_of_ne _ _ _ _ hk]
  · exact .refl s

theorem State.eachJob_builds (f : State → Job → State) (hf : ∀ x j, Builds x (f x j)) (is : List Nat) : Builds s (s.eachJob f is) := by
  induction is generalizing s with
  | nil => exact .refl s
  | cons i is ih =>
    refine Builds.trans ?_ (ih _)
    split
    · exact hf s _
    · exact .refl s

theorem State.placeBuilds_builds : Builds s s.placeBuilds :=
  s.eachJob_builds _ (fun x j => by
    split
    · exact (x.putJob_builds _).trans (State.tryStart_builds _ _ _)
    · exact .refl x) _

/-- A tree build becomes the newest job (R181). -/
theorem State.newBuild_builds (i : Nat) : Builds s
    { s with jqm := { s.jqm with jobs := s.jqm.jobs ++ [buildJob s.jqm.nextId i], nextId := s.jqm.nextId + 1 } } := by
  refine ⟨fun _ => rfl, fun _ => rfl, fun k hk h => ?_, Nat.le_succ _⟩
  have hne : ¬ s.jqm.nextId = k := by omega
  refine List.find?_eq_none.2 fun j hj => ?_
  rcases List.mem_append.1 hj with hj | hj
  · exact List.find?_eq_none.1 h j hj
  · rw [List.mem_singleton.1 hj]
    simpa [buildJob] using hne

theorem State.startBuilds_builds : Builds s s.startBuilds := by
  have hfold : ∀ (l : List Nat) (x : State), Builds x (l.foldl (fun s i =>
      ({ s with jqm := { s.jqm with jobs := s.jqm.jobs ++ [buildJob s.jqm.nextId i], nextId := s.jqm.nextId + 1 } } : State).setBuilding i true) x) := by
    intro l
    induction l with
    | nil => exact fun x => .refl x
    | cons i l ih => exact fun x => ((x.newBuild_builds i).trans (State.setBuilding_builds _ i true)).trans (ih _)
  exact (hfold _ s).trans (State.placeBuilds_builds _)

end

/-- The leaf state of a slot after builds have started. -/
theorem Builds.leaf_some {s t : State} (h : Builds s t) (i : Nat) (l : LeafState) (hl : (s.slot i).leaf = some l) :
    ∃ m, (t.slot i).leaf = some m ∧ m.unbuilt = l.unbuilt := by
  have hmap := h.leaf i
  rw [hl, Option.map_some] at hmap
  exact Option.map_eq_some_iff.1 hmap

end Sys2Proof.Machine
end

section
/-! PROOF. O31: waits that end (R110, R184), tree builds that end (R181), and the leaf journal (R186, R412). -/

namespace Sys2Proof.Machine

/-! ### What the end of a failed job counts -/

section
variable (s : State)

theorem zeroOutput_cnt (owner : Nat) (d : List Byte) : (zeroOutput s owner d).cnt = s.cnt := by
  have hbufs : ∀ (bs : List Buf) (x : State), (zeroBufs x owner bs).cnt = x.cnt := fun bs => by
    induction bs with
    | nil => exact fun _ => rfl
    | cons b bs ih => exact fun x => (ih _).trans (congrArg State.cnt (writeBufs_frame x owner [b] _) :)
  unfold zeroOutput
  split
  · exact hbufs _ _
  · rfl

theorem State.releaseTargets_cnt (is : List Nat) : (s.releaseTargets is).cnt = s.cnt := by
  induction is generalizing s with
  | nil => rfl
  | cons i is ih =>
    refine (ih _).trans ?_
    split <;> rfl

theorem State.giveEngine_cnt (j : Job) : (s.giveEngine j).cnt = s.cnt := by
  unfold State.giveEngine
  split <;> rfl

theorem State.schedule_cnt (e : Nat) : (s.schedule e).cnt = s.cnt := by
  unfold State.schedule
  split
  · rfl
  · split
    · rfl
    · split
      · exact s.giveEngine_cnt _
      · rfl

theorem State.refill_cnt (p : Res) (e e2 : Nat) : (s.refill p e e2).cnt = s.cnt := by
  have hpool : ∀ q, (s.grantPool q).cnt = s.cnt := fun q => by
    unfold State.grantPool
    split
    · rfl
    · split
      · exact s.giveEngine_cnt _
      · rfl
  have hctx : (if e2 = e then s.schedule e else (s.schedule e).schedule e2).cnt = s.cnt := by
    split
    · exact s.schedule_cnt e
    · exact (State.schedule_cnt _ e2).trans (s.schedule_cnt e)
  have hdke : (s.dkeGrant e).cnt = s.cnt := by
    unfold State.dkeGrant
    dsimp only
    split <;> rfl
  cases p with
  | keccak | sha2 | keep => exact hpool _
  | dke => exact hdke
  | arbiter => rfl
  | lt | cbe | cle | composite | aes | chacha => exact hctx

/-- No counter of an engine advances with a job that fails by no fault (R160). -/
theorem State.failJob_cnt (j : Job) (e : Err) (hk : j.kind = .queue) (h1 : ¬ e.1 ≤ 1) (hf : e.1 ≠ stFault) :
    (s.failJob j e).cnt = s.cnt := by
  have hend : ∀ x : State, (x.finishJob j (failed j.ranOn e.1 e.2)).cnt = x.cnt := fun x => by
    have hstatus : (failed j.ranOn e.1 e.2).status = e.1 := rfl
    rw [x.finishJob_queue j _ hk, State.refill_cnt, State.jobStopped, State.countEnd, hstatus, if_neg h1, if_neg hf, ite_self]
    split
    · exact State.releaseTargets_cnt _ _
    · rfl
  unfold State.failJob
  dsimp only
  split
  · exact (hend _).trans (zeroOutput_cnt s _ _)
  · exact hend s

end

/-! ### Waits that end -/

section
variable (s : State) (i : Nat) (j : Job) (hok : s.jobsOk) (hj : s.job? i = some j) (hk : j.kind = .queue) (hp : j.phase ≠ .done)
include hok hj hk hp

theorem rngWaitTimeout_fails (x : JobIn) (hw : j.wait = .rng) (hsmall : s.scatterSmall j.owner j.desc = false)
    (hin : stage78 s j.owner j.desc (s.moreBufs j.owner j.desc) = .ok x) :
    ∃ t, exec (.rngWaitTimeout i) s = .next t ∧ JobEnded i (failed j.ranOn stRngNotReady 0) t ∧
      t.cntGet (R.RNG_CNT 6) = min (s.cntGet (R.RNG_CNT 6) + 1) (cntMax (R.RNG_CNT 6)) := by
  have hid := s.job?_id i j hj
  have hexec : exec (.rngWaitTimeout i) s = .next ((s.inc (R.RNG_CNT 6)).failJob j (stRngNotReady, 0)) := by
    refine congrArg Host.Outcome.next (?_ : (match s.job? i with
      | some k => if k.wait = JobWait.rng ∧ k.phase ≠ JobPhase.done then s.withInput k fun _ => (s.inc (R.RNG_CNT 6)).failJob k (stRngNotReady, 0)
        else s
      | none => s) = _)
    simp only [hj, hw, hp, ne_eq, not_false_eq_true, and_self, if_true, State.withInput, hsmall, hin, Bool.false_eq_true, if_false]
  have hinc := (Draws.refl s).inc (R.RNG_CNT 6)
  have hend := State.failJob_ends (s.inc (R.RNG_CNT 6)) j j (stRngNotReady, 0) (hinc.jobsOk.2 hok) ((hinc.job? _).trans (hid ▸ hj)) hk
  refine ⟨_, hexec, hid ▸ hend, ?_⟩
  have hcnt := (s.inc (R.RNG_CNT 6)).failJob_cnt j (stRngNotReady, 0) hk (by decide) (by decide)
  rw [State.cntGet, hcnt]
  exact s.cntGet_inc _

theorem leafWaitTimeout_fails (hw : j.wait = .leaf) :
    ∃ t, exec (.leafWaitTimeout i) s = .next t ∧ JobEnded i (failed j.ranOn stStateExh 0) t := by
  have hid := s.job?_id i j hj
  have hexec : exec (.leafWaitTimeout i) s = .next (s.failJob j (stStateExh, 0)) := by
    refine congrArg Host.Outcome.next (?_ : (match s.job? i with
      | some k => if k.wait = JobWait.leaf ∧ k.phase ≠ JobPhase.done then s.failJob k (stStateExh, 0) else s
      | none => s) = _)
    simp only [hj, hw, hp, ne_eq, not_false_eq_true, and_self, if_true]
  exact ⟨_, hexec, hid ▸ s.failJob_ends j j _ hok (hid ▸ hj) hk⟩

end

/-! ### Tree builds that end -/

section
variable (s : State)

/-- The slot whose tree is built, and the build gone. -/
def State.treeStored (s : State) (i n : Nat) (l : LeafState) : State :=
  ((s.dropJob i).setBuilding n false).putLeaf n { l with building := false, builtEnd := min (l.builtEnd + l.treeLeaves) l.limit }

theorem State.leaf_setBuilding (n : Nat) (b : Bool) (l : LeafState) (hl : (s.slot n).leaf = some l) :
    ((s.setBuilding n b).slot n).leaf = some { l with building := b } := by
  simp only [State.setBuilding, hl, State.slot_putSlot_self]

/-- The jobs that waited for the tree go on. -/
def State.treeWaitersGo (s : State) (n built : Nat) : State :=
  s.setJobs (s.jqm.jobs.map (fun k =>
    if k.wait = .tree ∧ hSlot (dKeyHandle k.desc) = n ∧ k.leaf.getD 0 < built then { k with wait := .none } else k))

theorem State.treeWaitersGo_builds (n built : Nat) : Builds s (s.treeWaitersGo n built) := by
  refine ⟨fun _ => rfl, fun _ => rfl, fun i _ h => ?_, le_refl _⟩
  have hnone := List.find?_eq_none.1 h
  refine List.find?_eq_none.2 fun k hk => ?_
  obtain ⟨x, hx, rfl⟩ := List.mem_map.1 hk
  have hne := hnone x hx
  split <;> exact hne

theorem State.treeBuilt_eq (j : Job) (n : Nat) (l : LeafState) (hl : (s.slot n).leaf = some l) :
    s.treeBuilt j n = ((State.treeWaitersGo (s.treeStored j.id n l) n (min (l.builtEnd + l.treeLeaves) l.limit)).refill .lt
      j.engine j.engine2).startBuilds := by
  have hb : (((s.dropJob j.id).setBuilding n false).slot n).leaf = some { l with building := false } :=
    State.leaf_setBuilding (s.dropJob j.id) n false l hl
  unfold State.treeBuilt
  simp only [hb, State.leaf_putLeaf_self]
  rfl

theorem treeBuildComplete_extends (i n : Nat) (j : Job) (l : LeafState) (hok : s.jobsOk) (hj : s.job? i = some j)
    (hk : j.kind = .treeBuild n) (hp : j.phase = .running) (hl : (s.slot n).leaf = some l) :
    ∃ t m, exec (.treeBuildComplete i) s = .next t ∧ t.job? i = none ∧
      (t.slot n).leaf = some m ∧ m.builtEnd = min (l.builtEnd + l.treeLeaves) l.limit ∧ SameMemory s t := by
  have hid := s.job?_id i j hj
  have hexec : exec (.treeBuildComplete i) s = .next (s.treeBuilt j n) := by
    refine congrArg Host.Outcome.next (?_ : (match s.job? i with
      | some k => match k.kind with
        | .treeBuild i => if k.phase = JobPhase.running then s.treeBuilt k i else s
        | .queue => s
      | none => s) = _)
    simp only [hj, hk, hp, if_true]
  have hlt : i < s.jqm.nextId := by
    have hmem := (s.job?_iff hok i j).1 hj
    exact hmem.2 ▸ hok.2 j hmem.1
  set u := s.treeStored j.id n l with hu
  set v := u.treeWaitersGo n (min (l.builtEnd + l.treeLeaves) l.limit)
  have hrefill : Builds v (v.refill .lt j.engine j.engine2) := by
    have hctx : Builds v (if j.engine2 = j.engine then v.schedule j.engine else (v.schedule j.engine).schedule j.engine2) := by
      split
      · exact v.schedule_builds _
      · exact (v.schedule_builds _).trans (State.schedule_builds _ _)
    exact hctx
  have hbuilds : Builds u (s.treeBuilt j n) := by
    rw [s.treeBuilt_eq j n l hl]
    exact ((u.treeWaitersGo_builds n _).trans hrefill).trans (State.startBuilds_builds _)
  have hjobs : u.jqm = (s.dropJob j.id).jqm := by
    show ((s.dropJob j.id).setBuilding n false).jqm = _
    unfold State.setBuilding
    dsimp only
    split <;> rfl
  have hgone : u.job? i = none := (State.job?_congr (congrArg JqmSt.jobs hjobs) i).trans (hid ▸ s.job?_dropJob_self j.id)
  have hnext : i < u.jqm.nextId := by
    rw [hjobs]
    exact hlt
  obtain ⟨m, hm, hcore⟩ := hbuilds.leaf_some n _ (State.leaf_putLeaf_self _ n _)
  exact ⟨_, m, hexec, hbuilds.absent i hnext hgone, hm, (congrArg LeafState.builtEnd hcore :),
    (State.treeBuilt_keeps j n (Keeps.refl true s)).sameMemory⟩

end

/-! ### The leaf journal -/

section
variable (s : State) (r : Req) (h : s.mayWrite r R.KEEP_JR_CMD)
include h

theorem exec_jrAck : exec (.jrAck r 0) s = .next s.jrAck := by
  refine (congrArg Host.Outcome.next (s.gateW_granted r R.KEEP_JR_CMD _ h)).trans (congrArg Host.Outcome.next ?_)
  unfold State.jrCmdWrite
  simp +decide

theorem exec_jrFail : exec (.jrFail r 0) s = .next s.jrFail := by
  refine (congrArg Host.Outcome.next (s.gateW_granted r R.KEEP_JR_CMD _ h)).trans (congrArg Host.Outcome.next ?_)
  unfold State.jrCmdWrite
  simp +decide

theorem exec_jrPresent : exec (.jrPresent r 0) s = .next s.jrPresent := by
  refine (congrArg Host.Outcome.next (s.gateW_granted r R.KEEP_JR_CMD _ h)).trans (congrArg Host.Outcome.next ?_)
  unfold State.jrCmdWrite
  simp +decide

theorem exec_jrNoneLeft : exec (.jrNoneLeft r 0) s = .next s.jrNone := by
  refine (congrArg Host.Outcome.next (s.gateW_granted r R.KEEP_JR_CMD _ h)).trans (congrArg Host.Outcome.next ?_)
  unfold State.jrCmdWrite
  simp +decide

end

section
variable (s : State) (x : JrReq) (l : LeafState)

theorem Journals.releaseLeafWaits_none {s t : State} (h : Journals s t) (i : Nat) (hw : s.leafWaiters i = []) :
    t.releaseLeafWaits i = t := by
  have hwt : t.leafWaiters i = [] := by
    rw [← hw, State.leafWaiters, State.leafWaiters, State.jobIds, State.jobIds, h.jobs]
  rw [State.releaseLeafWaits, hwt]
  rfl

/-- The slot and the cell of a key whose reservation the journal has stored (R412 Reserve 3). -/
def State.reserved (s : State) (x : JrReq) (l : LeafState) (e n : Nat) : State :=
  (s.putCell x.cell (x.uid, (n + 1) % 2 ^ 32)).putLeaf x.slot { l with resEnd := e }

theorem jrAck_reserves (e n : Nat) (hjr : s.keep.jr = some x) (hl : (s.slot x.slot).leaf = some l) (hu : l.uid = x.uid)
    (hk : x.kind = .reserve e) (hc : s.cell x.cell = (x.uid, n)) (hw : s.leafWaiters x.slot = []) :
    Journals (s.reserved x l e n) s.jrAck := by
  have hlp : ((s.putCell x.cell (x.uid, (n + 1) % 2 ^ 32)).slot x.slot).leaf = some l := hl
  have heq : s.jrAck = ((((s.reserved x l e n).jrEnd).releaseLeafWaits x.slot).reserveCheck x.slot) := by
    unfold State.jrAck
    simp only [hjr, hk, hc, if_true, hlp, eq_true hu]
    rfl
  have hend := (Journals.refl (s.reserved x l e n)).jrEnd
  rw [heq, hend.releaseLeafWaits_none x.slot hw]
  exact hend.reserveCheck _

theorem Logs.keep {s t : State} (h : Logs s t) : t.keep = s.keep := (congrArg State.keep h.frame :)

theorem State.syncSfevt_keep : s.syncSfevt.keep = s.keep := ((Logs.refl s).level 200 (by decide) _).keep

theorem State.sfEvent_jrQueue (slot kind : Nat) : (s.sfEvent slot kind).keep.jrQueue = s.keep.jrQueue := by
  unfold State.sfEvent
  split
  · rw [State.syncSfevt_keep]
  · rfl

theorem State.jrEnd_jr (hq : s.keep.jrQueue = []) : s.jrEnd.keep.jr = none := by
  have hq2 : ((s.clr F.KEEP_JR_STAT_REQ).clr F.KEEP_JR_STAT_SEEK).keep.jrQueue = [] := hq
  simp only [State.jrEnd, hq2]

theorem State.setLeafMode_some (i : Nat) (m : LeafMode) (hl : (s.slot i).leaf = some l) :
    s.setLeafMode i m = (s.putLeaf i { l with mode := m }).sfEvent i (if m = .blocked then 2 else 3) := by
  simp only [State.setLeafMode, hl]

theorem jrFail_blocks (e : Nat) (hjr : s.keep.jr = some x) (hq : s.keep.jrQueue = []) (hl : (s.slot x.slot).leaf = some l)
    (hu : l.uid = x.uid) (hk : x.kind = .reserve e) (hw : s.leafWaiters x.slot = []) :
    Journals (s.putLeaf x.slot { l with mode := .blocked }) s.jrFail ∧ s.jrFail.keep.jr = none := by
  set u := s.putLeaf x.slot { l with mode := .blocked }
  have hset : s.setLeafMode x.slot .blocked = u.sfEvent x.slot 2 := s.setLeafMode_some l _ _ hl
  have heq : s.jrFail = (((u.sfEvent x.slot 2).jrEnd).releaseLeafWaits x.slot).almanac 5 x.uid x.slot := by
    unfold State.jrFail
    simp only [hjr, hk, hl, Option.map_some, hu, if_true, hset]
  have hend := ((Journals.refl u).sfEvent x.slot 2).jrEnd
  have hlog := (Logs.refl (u.sfEvent x.slot 2).jrEnd).almanac 5 x.uid x.slot
  rw [heq, hend.releaseLeafWaits_none x.slot hw]
  exact ⟨hend.logs hlog, (congrArg (fun y : KeepSt => y.jr) hlog.keep).trans
    (State.jrEnd_jr _ ((u.sfEvent_jrQueue x.slot 2).trans hq))⟩

/-- The registers after a load by KEEP_BL_CMD that fills the slot (R406). -/
def State.loadAnswered (s : State) (handle : Nat) : State :=
  ((s.clr ⟨R.KEEP_BL_CMD, 31, 1⟩).wr R.KEEP_BL_RES 0).wr R.KEEP_BL_HANDLE (BitVec.ofNat 32 handle)

theorem State.slot_loadAnswered (handle i : Nat) : (s.loadAnswered handle).slot i = s.slot i := rfl

theorem State.result_loadAnswered (handle : Nat) : (s.loadAnswered handle).rd R.KEEP_BL_RES = 0 := by
  rw [State.loadAnswered, State.rd_wr_of_ne _ _ _ _ (by decide), State.rd_wr_self]

theorem SameMemory.wr {s t : State} (h : SameMemory s t) (o : Nat) (v : Word) : SameMemory s (t.wr o v) := h.trans .of_eq

/-- The end of a load by KEEP_BL_CMD: the slot is LIVE, its leaf state as the record left it. -/
theorem State.seekEnd_live (rec : Option (List Byte)) (hl : ((s.loadLeaf x rec).slot x.slot).leaf = some l) (hu : l.uid = x.uid) :
    ∃ m, ((s.seekEnd x none rec).slot x.slot).leaf = some m ∧ m.unbuilt = l.unbuilt ∧
      ((s.seekEnd x none rec).slot x.slot).st = .live ∧ (s.seekEnd x none rec).rd R.KEEP_BL_RES = 0 ∧
      SameMemory s (s.seekEnd x none rec) := by
  set u := s.loadLeaf x rec with hu'
  set v := u.putSlot x.slot { u.slot x.slot with st := .live } with hv
  set w := v.startBuilds.loadAnswered (v.startBuilds.handleOf x.slot) with hw
  have hkept : ((u.slot x.slot).leaf.map (·.uid) == some x.uid) = true := by
    rw [hl, Option.map_some, hu, beq_self_eq_true]
  have hload : u.loadEnd x none = w := by
    unfold State.loadEnd
    simp only [hkept, if_true]
    rfl
  have heq : s.seekEnd x none rec = w.jrEnd := congrArg State.jrEnd hload
  have hend := (Journals.refl w).jrEnd
  have hslot : w.jrEnd.slot x.slot = v.startBuilds.slot x.slot :=
    (hend.slot _).trans (State.slot_loadAnswered _ _ _)
  have hbuilds := v.startBuilds_builds
  obtain ⟨m, hm, hcore⟩ := hbuilds.leaf_some x.slot l (by rw [hv, State.slot_putSlot_self]; exact hl)
  have hst := hbuilds.st x.slot
  rw [hv, State.slot_putSlot_self] at hst
  have hres : w.rd R.KEEP_BL_RES = 0 := State.result_loadAnswered _ _
  have hmem : SameMemory s w := by
    have hstart := (State.startBuilds_keeps (State.putSlot_keeps x.slot { u.slot x.slot with st := .live }
      (State.loadLeaf_keeps x rec (Keeps.refl true s)))).sameMemory
    exact ((hstart.wr _ _).wr _ _).wr _ _
  refine ⟨m, ?_, hcore, ?_, ?_, ?_⟩
  · rw [heq, hslot, hm]
  · rw [heq, hslot, hst]
  · rw [heq, hend.result, hres]
  · rw [heq]
    exact hmem.trans hend.mem

/-- A valid record of the cell's JSEQ, or of the one after it, sets the leaf state (R186). -/
theorem loadLeaf_record (b : List Byte) (n : Nat) (hl : (s.slot x.slot).leaf = some l) (hc : s.cell x.cell = (x.uid, n))
    (hn : leAt b 4 4 = n ∨ leAt b 4 4 = n + 1) (he : leAt b 16 8 < leAt b 24 8) :
    ((s.loadLeaf x (some b)).slot x.slot).leaf = some
      { l with next := leAt b 16 8, resEnd := leAt b 16 8, limit := leAt b 24 8,
               builtEnd := leAt b 16 8 / l.treeLeaves * l.treeLeaves, mode := .normal } := by
  have h1 : ¬ n + 1 < leAt b 4 4 := by omega
  have h2 : ¬ leAt b 4 4 < n := by omega
  have h3 : ¬ leAt b 16 8 = leAt b 24 8 := by omega
  unfold State.loadLeaf
  simp only [hl, hc, if_neg h1, h2, h3, if_false, ne_eq, not_true_eq_false, Bool.not_true, Bool.false_eq_true, or_self]
  rw [((Journals.refl _).reserveCheck x.slot).slot, State.leaf_putLeaf_self]

theorem loadLeaf_none (hl : (s.slot x.slot).leaf = some l) :
    ((s.loadLeaf x none).slot x.slot).leaf = some { l with mode := .blocked } := by
  have heq : s.loadLeaf x none = s.setLeafMode x.slot .blocked := by simp only [State.loadLeaf, hl]
  rw [heq, s.setLeafMode_some l _ _ hl, ((Journals.refl _).sfEvent x.slot _).slot, State.leaf_putLeaf_self]

end

/-- Settles O31. A slot that a tree build concerns is followed by `Builds`, one that the journal concerns by `Journals`. -/
theorem waitsAndLeafJournal : Obligations.WaitsAndLeafJournal := by
  unfold Obligations.WaitsAndLeafJournal
  refine ⟨fun s i j hok hj hk hp => ⟨fun x hw hsmall hin => rngWaitTimeout_fails s i j hok hj hk hp x hw hsmall hin,
    fun hw => leafWaitTimeout_fails s i j hok hj hk hp hw⟩,
    fun s i n j l => treeBuildComplete_extends s i n j l, fun s r x l h hjr hq hl hu => ⟨fun e n hk hc hw => ⟨?_, ?_⟩, fun hk => ⟨?_, ?_⟩⟩⟩
  · have hack := jrAck_reserves s x l e n hjr hl hu hk hc hw
    refine ⟨_, exec_jrAck s r h, ?_, ?_, fun k hne => ?_, SameMemory.trans .of_eq hack.mem⟩
    · rw [hack.slot, State.reserved, State.leaf_putLeaf_self]
    · rw [hack.cell]
      exact State.cell_putCell_self s _ _
    · rw [hack.slot, State.reserved, State.slot_putLeaf_of_ne _ _ _ _ hne]
      rfl
  · obtain ⟨hfail, hnone⟩ := jrFail_blocks s x l e hjr hq hl hu hk hw
    refine ⟨_, exec_jrFail s r h, ?_, hnone, fun k hne => ?_, SameMemory.trans .of_eq hfail.mem⟩
    · rw [hfail.slot, State.leaf_putLeaf_self]
    · rw [hfail.slot, State.slot_putLeaf_of_ne _ _ _ _ hne]
  · intro n e lim hc hv hn he' hlim' he
    rw [he', hlim'] at he
    have hexec : s.jrPresent = s.seekEnd x none (some s.jrWindow) := by simp only [State.jrPresent, hjr, hk, hv, if_true]
    obtain ⟨m, hm, hcore, hst, hres, hmem⟩ := s.seekEnd_live x _ _ (loadLeaf_record s x l _ n hl hc hn he) hu
    have hmode := congrArg LeafState.mode hcore
    have hnext := congrArg LeafState.next hcore
    have hend := congrArg LeafState.resEnd hcore
    have hlim := congrArg LeafState.limit hcore
    exact ⟨_, m, (exec_jrPresent s r h).trans (congrArg Host.Outcome.next hexec), hm, hmode, hnext.trans he'.symm,
      hend.trans he'.symm, hlim.trans hlim'.symm, hst, hres, hmem⟩
  · have hexec : s.jrNone = s.seekEnd x none none := by simp only [State.jrNone, hjr, hk]
    obtain ⟨m, hm, hcore, hst, hres, hmem⟩ := s.seekEnd_live x _ none (loadLeaf_none s x l hl) hu
    have hmode := congrArg LeafState.mode hcore
    intro c hc
    have hrun : exec c s = .next s.jrNone := by
      rcases List.mem_pair.1 hc with rfl | rfl
      · exact exec_jrNoneLeft s r h
      · rfl
    exact ⟨_, m, hrun.trans (congrArg Host.Outcome.next hexec), hm, hmode, hst, hres, hmem⟩

end Sys2Proof.Machine
end

section
/-! PROOF. O32: the link and preemption state of a port (R242, R243, R289, R290). -/

namespace Sys2Proof.Machine

theorem SameRegsBut.logs {os : List Nat} {s t u : State} (h : SameRegsBut os s t) (k : Logs t u) (hos : ∀ o ∈ eventRegs, o ∈ os) :
    SameRegsBut os s u := h.trans (k.regs.mono hos)

/-- A register outside the event block reads as before once an event source has followed its cause. -/
theorem State.on_level (s : State) (n : Nat) (hn : n < 256) (b : Bool) (f : Fld) (hf : f.off ∉ eventRegs) : (s.level n b).on f = s.on f :=
  ((Logs.refl s).level n hn b).regs.on f hf

/-! ### What line work touches -/

/-- Only the status register of a port and events have changed. -/
structure LineOnly (p : Nat) (s t : State) : Prop where
  frame : EventFrame s t
  regs : SameRegsBut (R.LIF_PSTAT p :: eventRegs) s t

theorem LineOnly.refl (p : Nat) (s : State) : LineOnly p s s := ⟨rfl, .refl _ s⟩

section
variable {p : Nat} {s t u : State} (h : LineOnly p s t)
include h

theorem LineOnly.putB (i : Nat) (b : Bool) : LineOnly p s (t.putB ⟨R.LIF_PSTAT p, i, 1⟩ b) :=
  ⟨h.frame.trans rfl, h.regs.put ⟨R.LIF_PSTAT p, i, 1⟩ _ (List.mem_cons_self ..)⟩

theorem LineOnly.syncLif (hp : p < 16) : LineOnly p s (t.syncLif p) :=
  ⟨h.frame.trans ((EvcOnly.refl t).level (64 + p) _).frame,
    h.regs.logs ((Logs.refl t).level (64 + p) (by omega) _) fun _ ho => List.mem_cons_of_mem _ ho⟩

theorem LineOnly.ite {c : Prop} [Decidable c] (k : LineOnly p s u) : LineOnly p s (if c then t else u) := by
  split
  · exact h
  · exact k

theorem LineOnly.setPreempt (hp : p < 16) (b : Bool) : LineOnly p s (t.setPreempt p b) :=
  h.ite (((h.putB 3 b).putB 17 true).syncLif hp)

theorem LineOnly.setLink (hp : p < 16) (b : Bool) : LineOnly p s (t.setLink p b) := by
  have hlock := (h.putB 1 b).putB 2 (b && !t.ipp.aui.contains p)
  have hup := ((hlock.putB 0 b).putB 16 true).syncLif hp
  unfold State.setLink
  exact hlock.ite (hup.ite (hup.setPreempt hp false))

end

/-! ### What the line work sets -/

section
variable (s : State) (p : Nat) (hp : p < 16)
include hp

theorem pstat_not_event : R.LIF_PSTAT p ∉ eventRegs := not_mem_eventRegs_of_lt _ (by simp only [R.LIF_PSTAT, R.EVC_PEND]; omega)

theorem State.on_syncLif_pstat (i : Nat) : (s.syncLif p).on ⟨R.LIF_PSTAT p, i, 1⟩ = s.on ⟨R.LIF_PSTAT p, i, 1⟩ :=
  s.on_level _ (by omega) _ _ (pstat_not_event p hp)

theorem State.on_lifPend_of_ne (k i : Nat) (hk : k ≠ i) :
    (s.lifPend p ⟨R.LIF_PSTAT p, k, 1⟩).on ⟨R.LIF_PSTAT p, i, 1⟩ = s.on ⟨R.LIF_PSTAT p, i, 1⟩ :=
  (State.on_syncLif_pstat _ p hp i).trans (s.on_put_apart _ _ 1 ((Fld.apart_bits_iff _ _ _ _).2 fun h => hk h.2.symm))

theorem State.on_setPreempt_self (b : Bool) : (s.setPreempt p b).on (F.LIF_PSTAT_PREEMPT_ACTIVE p) = b := by
  unfold State.setPreempt
  split
  · next h => exact h
  · rw [State.on_lifPend_of_ne _ p hp 17 3 (by decide), State.on_putB_self _ _ _ (by simp) rfl]

theorem State.on_setPreempt_of_ne (b : Bool) (i : Nat) (h3 : 3 ≠ i) (h17 : 17 ≠ i) :
    (s.setPreempt p b).on ⟨R.LIF_PSTAT p, i, 1⟩ = s.on ⟨R.LIF_PSTAT p, i, 1⟩ := by
  unfold State.setPreempt
  split
  · rfl
  · rw [State.on_lifPend_of_ne _ p hp 17 i h17, State.on_putB_bit_of_ne _ _ _ _ _ ((Fld.apart_bits_iff _ _ _ _).2 fun h => h3 h.2.symm)]

theorem State.on_setLink (b : Bool) :
    (s.setLink p b).on (F.LIF_PSTAT_LINK_UP p) = b ∧ (s.setLink p b).on (F.LIF_PSTAT_AM_LOCK p) = b := by
  have hlock : ∀ c, ((s.putB (F.LIF_PSTAT_AM_LOCK p) b).putB (F.LIF_PSTAT_AN_DONE p) c).on (F.LIF_PSTAT_AM_LOCK p) = b := fun c => by
    rw [State.on_putB_bit_of_ne _ _ _ _ _ ((Fld.apart_bits_iff _ _ _ _).2 (by simp)), State.on_putB_self _ _ _ (by simp) rfl]
  unfold State.setLink
  extract_lets u v w
  have hv : v.on (F.LIF_PSTAT_AM_LOCK p) = b := hlock _
  have hwup : w.on (F.LIF_PSTAT_LINK_UP p) = b := by
    rw [State.on_lifPend_of_ne _ p hp 16 0 (by decide), State.on_putB_self _ _ _ (by simp) rfl]
  have hwlock : w.on (F.LIF_PSTAT_AM_LOCK p) = b := by
    rw [State.on_lifPend_of_ne _ p hp 16 1 (by decide), State.on_putB_bit_of_ne _ _ _ _ _ ((Fld.apart_bits_iff _ _ _ _).2 (by simp)), hv]
  split
  · next h => exact ⟨h, hv⟩
  · split
    · exact ⟨hwup, hwlock⟩
    · rw [w.on_setPreempt_of_ne p hp false 0 (by decide) (by decide), w.on_setPreempt_of_ne p hp false 1 (by decide) (by decide)]
      exact ⟨hwup, hwlock⟩

end

/-! ### The commands -/

theorem linkChange_sets (s : State) (p : Fin 16) (up aui : Bool) (ha : s.portActive p = true) (he : s.on (F.LIF_PCTL_EN p) = true)
    (hsvc : s.svcActs = false) (hms : s.milestone ≠ 7) :
    ∃ t, exec (.linkChange p up aui) s = .next t ∧ t.on (F.LIF_PSTAT_LINK_UP p) = up ∧
      t.on (F.LIF_PSTAT_AM_LOCK p) = up ∧ SameRegsBut (R.LIF_PSTAT p :: eventRegs) s t ∧ SameMemory s t := by
  set x : State := { s with ipp := { s.ipp with aui := if aui then setIns p s.ipp.aui else setDel p s.ipp.aui } } with hx
  have hlink : s.linkChange p up aui = x.setLink p up := if_neg (by rw [ha, he]; decide)
  have hline := (LineOnly.refl p.val x).setLink p.isLt up
  have hregs : SameRegsBut (R.LIF_PSTAT p :: eventRegs) s (x.setLink p up) := hline.regs
  have hnot : ∀ o, o < 0xc0000 ∨ 0xd0000 ≤ o → o ∉ eventRegs → o ∉ R.LIF_PSTAT p :: eventRegs := fun o h1 h2 hm => by
    rcases List.mem_cons.1 hm with h | h
    · simp only [R.LIF_PSTAT] at h
      omega
    · exact h2 h
  have hnote : (x.setLink p up).noteLink p = x.setLink p up := by
    have hm : (x.setLink p up).milestone ≠ 7 := by
      rw [State.milestone, State.get, hregs _ (hnot _ (by decide) (by decide))]
      exact hms
    exact if_neg fun h => hm h.1
  have hacts : (x.setLink p up).svcActs = false := by
    have hruns : (x.setLink p up).svcRuns = s.svcRuns := (congrArg State.svcRuns hline.frame :)
    have hpow : (x.setLink p up).power = s.power := (congrArg State.power hline.frame :)
    have hq : (x.setLink p up).on F.FLT_STAT_QUIESCED = s.on F.FLT_STAT_QUIESCED := hregs.on _ (hnot _ (by decide) (by decide))
    rw [State.svcActs, hruns, hpow, hq]
    exact hsvc
  have hsvcUp : (x.setLink p up).svcLinkUp p = x.setLink p up := if_neg (by rw [hacts]; exact Bool.false_ne_true)
  have hexec : exec (.linkChange p up aui) s = .next (x.setLink p up) :=
    congrArg Host.Outcome.next (by rw [hlink, hnote, hsvcUp])
  obtain ⟨hup, hlock⟩ := x.on_setLink p p.isLt up
  exact ⟨_, hexec, hup, hlock, hregs, hlink ▸ (State.linkChange_keeps p up aui (Keeps.refl true s)).sameMemory⟩

theorem preemptVerify_sets (s : State) (p : Fin 16) (ok : Bool) (hu : s.portUp p = true) (he : s.on (F.LIF_PCFG_PREEMPT_EN p) = true) :
    ∃ t, exec (.preemptVerify p ok) s = .next t ∧ t.on (F.LIF_PSTAT_PREEMPT_ACTIVE p) = ok ∧
      SameRegsBut (R.LIF_PSTAT p :: eventRegs) s t ∧ SameMemory s t :=
  ⟨s.setPreempt p ok, congrArg Host.Outcome.next (if_pos (by rw [hu, he]; rfl)), s.on_setPreempt_self p p.isLt ok,
    ((LineOnly.refl p.val s).setPreempt p.isLt ok).regs, (State.setPreempt_keeps p ok (Keeps.refl true s)).sameMemory⟩

theorem restartAn_takesDown (s : State) (r : Req) (p : Fin 16) (h : s.mayWrite r (R.LIF_PCTL p)) (ha : s.portActive p = true)
    (haui : s.ipp.aui.contains p.val = false) : ∃ t, exec (.restartAn r p 1) s = .next t ∧ t.on (F.LIF_PCTL_EN p) = true ∧
      t.on (F.LIF_PSTAT_LINK_UP p) = false ∧ SameRegsBut (R.LIF_PCTL p :: R.LIF_PSTAT p :: eventRegs) s t ∧ SameMemory s t := by
  set x := (s.putB (F.LIF_PCTL_EN p) true).putB (F.LIF_PCTL_LOOPBACK p) false with hx
  have hwrite : s.pctlWrite p (1 ||| 0x100) =
      if x.on (F.LIF_PSTAT_LINK_UP p) = true then x.setLink p false else x := by
    unfold State.pctlWrite
    extract_lets n en u v w
    have hen : en = true := by simp [en, n, ha, bit]
    have hbit1 : bit n 1 = false := by decide
    have hu : u = x := by simp only [u, hen, hx, hbit1]
    have hv : v = x := by simp only [v, hen, if_true, hu]
    have hbit : bit n 8 = true := by decide
    have hbit9 : bit n 9 = false := by decide
    have hcontains : x.ipp.aui.contains p.val = false := haui
    simp only [w, hv, hbit, hbit9, hcontains, Bool.true_and, Bool.not_false, Bool.and_true, Bool.false_eq_true, if_false]
  have hexec : exec (.restartAn r p 1) s = .next (s.pctlWrite p (1 ||| 0x100)) :=
    congrArg Host.Outcome.next (s.gateW_granted r _ _ h)
  have hxen : x.on (F.LIF_PCTL_EN p) = true := by
    rw [hx, State.on_putB_bit_of_ne _ _ _ _ _ ((Fld.apart_bits_iff _ _ _ _).2 (by simp)), State.on_putB_self _ _ _ (by simp) rfl]
  have hxregs : SameRegsBut (R.LIF_PCTL p :: R.LIF_PSTAT p :: eventRegs) s x :=
    ((SameRegsBut.refl _ s).put (F.LIF_PCTL_EN p) _ (List.mem_cons_self ..)).put (F.LIF_PCTL_LOOPBACK p) _ (List.mem_cons_self ..)
  have hmem : SameMemory s (s.pctlWrite p (1 ||| 0x100)) := (State.pctlWrite_keeps p _ (Keeps.refl true s)).sameMemory
  have hline := (LineOnly.refl p.val x).setLink p.isLt false
  have hpctl : R.LIF_PCTL p ∉ R.LIF_PSTAT p :: eventRegs := fun hm => by
    rcases List.mem_cons.1 hm with h | h
    · simp only [R.LIF_PCTL, R.LIF_PSTAT] at h
      omega
    · exact not_mem_eventRegs_of_lt _ (by simp only [R.LIF_PCTL, R.EVC_PEND]; omega) h
  refine ⟨_, hexec, ?_, ?_, ?_, hmem⟩ <;> rw [hwrite] <;> split
  · exact (hline.regs.on (F.LIF_PCTL_EN p) hpctl).trans hxen
  · exact hxen
  · exact (x.on_setLink p p.isLt false).1
  · next hoff => exact Bool.eq_false_iff.2 hoff
  · exact hxregs.trans (hline.regs.mono fun _ ho => List.mem_cons_of_mem _ ho)
  · exact hxregs

/-- Settles O32: the line work changes the status register of its port alone (`LineOnly`). -/
theorem lineState : Obligations.LineState :=
  ⟨fun s p up aui ha he hsvc hms => linkChange_sets s p up aui ha he hsvc hms,
    fun s p ok hu he => preemptVerify_sets s p ok hu he,
    fun s r p h ha haui => restartAn_takesDown s r p h ha haui⟩

end Sys2Proof.Machine
end

section
/-! PROOF. O35: aging of flow entries (R255), duplicate records (R271, R292) and SA events (R284, R292). -/

namespace Sys2Proof.Machine

/-! ### Writes of plain RW fields (R12) -/

/-- The bits of a register that its fields cover. -/
def coveredBy (fs : List FieldSpec) (i : Nat) : Bool := fs.any (fun f => decide (f.lo ≤ i ∧ i < f.lo + f.width))

/-- A bit of an RW field is stored; a reserved bit stays. -/
theorem getLsbD_r12Write_rw (fs : List FieldSpec) (locked : Bool) (old new : Word) (h : ∀ f ∈ fs, f.acc = .rw) (i : Nat) (hi : i < 32) :
    (r12Write fs locked old new).getLsbD i = if coveredBy fs i = true then new.getLsbD i else old.getLsbD i := by
  have hfold : ∀ (gs : List FieldSpec) (w : Word), (∀ f ∈ gs, f.acc = .rw) →
      (gs.foldl (fun w f => fieldSet f.lo f.width w (f.write locked (fieldGet f.lo f.width old) (fieldGet f.lo f.width new))) w).getLsbD i =
        if coveredBy gs i = true then new.getLsbD i else w.getLsbD i := by
    intro gs
    induction gs with
    | nil => exact fun w _ => rfl
    | cons f gs ih =>
      intro w hgs
      have hwrite : f.write locked (fieldGet f.lo f.width old) (fieldGet f.lo f.width new) = fieldGet f.lo f.width new := by
        simp only [FieldSpec.write, hgs f (List.mem_cons_self ..)]
      rw [List.foldl_cons, ih _ fun g hg => hgs g (List.mem_cons_of_mem _ hg), hwrite]
      by_cases hf : f.lo ≤ i ∧ i < f.lo + f.width
      · have hset : (fieldSet f.lo f.width w (fieldGet f.lo f.width new)).getLsbD i = new.getLsbD i := by
          have hlt : i - f.lo < f.width := by omega
          rw [← BitVec.testBit_toNat, fieldSet_testBit _ _ _ _ _ hi, if_pos hf, fieldGet, bits_testBit, decide_eq_true hlt,
            Bool.true_and, Nat.add_sub_cancel' hf.1, BitVec.testBit_toNat]
        have hcov : coveredBy (f :: gs) i = true := by rw [coveredBy, List.any_cons, decide_eq_true hf, Bool.true_or]
        rw [hcov, if_pos rfl, hset, ite_self]
      · have hset : (fieldSet f.lo f.width w (fieldGet f.lo f.width new)).getLsbD i = w.getLsbD i := by
          rw [← BitVec.testBit_toNat, fieldSet_testBit _ _ _ _ _ hi, if_neg hf, BitVec.testBit_toNat]
        have hcov : coveredBy (f :: gs) i = coveredBy gs i := by rw [coveredBy, List.any_cons, decide_eq_false hf, Bool.false_or, coveredBy]
        rw [hcov, hset]
  exact hfold fs old h

/-- What a generic write of a register with plain RW fields stores. -/
def rwWord (fs : List FieldSpec) (old new : Word) : Word := r12Write fs false old new

theorem r12Write_rw (fs : List FieldSpec) (locked : Bool) (old new : Word) (h : ∀ f ∈ fs, f.acc = .rw) :
    r12Write fs locked old new = rwWord fs old new := by
  refine BitVec.eq_of_getLsbD_eq fun i hi => ?_
  rw [rwWord, getLsbD_r12Write_rw fs locked old new h i hi, getLsbD_r12Write_rw fs false old new h i hi]

theorem State.wrGeneric_rw (s : State) (o : Nat) (v : Word) (fs : List FieldSpec) (hat : (specAt o).map (·.1.fields) = some fs)
    (h : ∀ f ∈ fs, f.acc = .rw) : s.wrGeneric o v = s.wr o (rwWord fs (s.rd o) v) := by
  obtain ⟨x, hx, rfl⟩ := Option.map_eq_some_iff.1 hat
  simp only [State.wrGeneric, hx, r12Write_rw x.1.fields _ _ _ h]

/-- A field whose bits are all covered reads as written. -/
theorem fieldGet_rwWord (fs : List FieldSpec) (old new : Word) (h : ∀ f ∈ fs, f.acc = .rw) (lo w : Nat) (hw : lo + w ≤ 32)
    (hc : ∀ i < w, coveredBy fs (lo + i) = true) : fieldGet lo w (rwWord fs old new) = bits new.toNat lo w := by
  refine Nat.eq_of_testBit_eq fun i => ?_
  rw [fieldGet, bits_testBit, bits_testBit]
  by_cases hi : i < w
  · rw [BitVec.testBit_toNat, BitVec.testBit_toNat, rwWord, getLsbD_r12Write_rw fs false old new h _ (by omega), if_pos (hc i hi)]
  · rw [decide_eq_false hi, Bool.false_and, Bool.false_and]

/-! ### A write of IPP_RG[g] -/

/-- The fields of IPP_RG (R292). -/
def rgFields : List FieldSpec := [⟨0, 8, .rw, .sys, 0⟩, ⟨8, 1, .rw, .sys, 0⟩, ⟨9, 1, .rw, .sys, 0⟩, ⟨10, 1, .rw, .sys, 0⟩, ⟨16, 16, .rw, .sys, 0⟩]

theorem specAt_rg : ∀ g : Fin 8, (specAt (R.IPP_RG g)).map (·.1.fields) = some rgFields := by decide

/-- MEMBERS, MODE and EN are the bits that a mask selects. -/
theorem members_mode_en_iff (v w : Word) : (v ^^^ w) &&& 0x6FF = 0 ↔
    fieldGet 0 8 w = fieldGet 0 8 v ∧ w.getLsbD 9 = v.getLsbD 9 ∧ w.getLsbD 10 = v.getLsbD 10 := by
  have hmask : ∀ i < 32, (0x6FF : Word).getLsbD i = decide (i < 8 ∨ i = 9 ∨ i = 10) := by decide
  have hbit : (v ^^^ w) &&& 0x6FF = 0 ↔ ∀ i < 32, i < 8 ∨ i = 9 ∨ i = 10 → w.getLsbD i = v.getLsbD i := by
    rw [BitVec.eq_of_getLsbD_eq_iff]
    refine forall_congr' fun i => forall_congr' fun hi => ?_
    have hzero : (0 : Word).getLsbD i = false := BitVec.getLsbD_zero
    rw [BitVec.getLsbD_and, BitVec.getLsbD_xor, hmask i hi, hzero]
    by_cases hm : i < 8 ∨ i = 9 ∨ i = 10
    · simp only [hm, decide_true, Bool.and_true, forall_const]
      cases v.getLsbD i <;> cases w.getLsbD i <;> decide
    · simp only [hm, decide_false, Bool.and_false, false_imp_iff]
  rw [hbit]
  constructor
  · intro h
    refine ⟨Nat.eq_of_testBit_eq fun i => ?_, h 9 (by decide) (by omega), h 10 (by decide) (by omega)⟩
    rw [fieldGet, fieldGet, bits_testBit, bits_testBit, Nat.zero_add]
    by_cases hi : i < 8
    · rw [BitVec.testBit_toNat, BitVec.testBit_toNat, h i (by omega) (.inl hi)]
    · rw [decide_eq_false hi, Bool.false_and, Bool.false_and]
  · rintro ⟨hmem, h9, h10⟩ i _ (hi | rfl | rfl)
    · have hb := congrArg (·.testBit i) hmem
      simpa only [fieldGet, bits_testBit, hi, decide_true, Bool.true_and, Nat.zero_add, BitVec.testBit_toNat] using hb
    · exact h9
    · exact h10

section
variable (s : State)

@[simp] theorem State.recordsOf_putRecords_self (g : Nat) (l : List (Nat × Nat)) : (s.putRecords g l).recordsOf g = l :=
  sget_sput_self _ _ _ _

theorem State.recordsOf_putRecords_of_ne (g i : Nat) (l : List (Nat × Nat)) (h : i ≠ g) :
    (s.putRecords g l).recordsOf i = s.recordsOf i := sget_sput_of_ne _ _ _ _ _ h

theorem rgWrite_stores (r : Req) (g : Fin 8) (v : Word) (h : s.mayWrite r (R.IPP_RG g)) :
    ∃ t, exec (.rgWrite r g v) s = .next t ∧ t.get (F.IPP_RG_MEMBERS g) = bits v.toNat 0 8 ∧
      t.on (F.IPP_RG_SIDE g) = v.getLsbD 8 ∧ t.on (F.IPP_RG_MODE g) = v.getLsbD 9 ∧ t.on (F.IPP_RG_EN g) = v.getLsbD 10 ∧
      t.get (F.IPP_RG_FORGET_MS g) = bits v.toNat 16 16 ∧
      t.recordsOf g = (if t.get (F.IPP_RG_MEMBERS g) = s.get (F.IPP_RG_MEMBERS g) ∧
        t.on (F.IPP_RG_MODE g) = s.on (F.IPP_RG_MODE g) ∧ t.on (F.IPP_RG_EN g) = s.on (F.IPP_RG_EN g)
        then s.recordsOf g else []) ∧ SameRegsBut [R.IPP_RG g] s t ∧
      t = { s with regs := t.regs, ipp := { s.ipp with records := t.ipp.records } } := by
  set w := rwWord rgFields (s.rd (R.IPP_RG g)) v with hw
  have hrw : ∀ f ∈ rgFields, f.acc = .rw := by decide
  have hgen : s.wrGeneric (R.IPP_RG g) v = s.wr (R.IPP_RG g) w := s.wrGeneric_rw _ v _ (specAt_rg g) hrw
  have hwbit : ∀ i < 32, coveredBy rgFields i = true → w.getLsbD i = v.getLsbD i := fun i hi hc => by
    rw [hw, rwWord, getLsbD_r12Write_rw rgFields _ _ _ hrw i hi, if_pos hc]
  set u := s.wr (R.IPP_RG g) w with hu
  have hrd : u.rd (R.IPP_RG g) = w := s.rd_wr_self _ _
  have hwrite : s.rgWrite g v = if (s.rd (R.IPP_RG g) ^^^ w) &&& 0x6FF = 0 then u else u.putRecords g [] := by
    simp only [State.rgWrite, hgen, hrd]
  have hregs : ∀ x, (if (s.rd (R.IPP_RG g) ^^^ w) &&& 0x6FF = 0 then u else u.putRecords g []) = x → x.regs = u.regs := by
    rintro x rfl
    split <;> rfl
  set t := s.rgWrite g v with ht
  have htregs : t.regs = u.regs := hregs t hwrite.symm
  have htrd : ∀ o, t.rd o = u.rd o := fun o => by rw [State.rd, htregs, State.rd]
  have htg : t.rd (R.IPP_RG g) = w := (htrd _).trans hrd
  refine ⟨t, congrArg Host.Outcome.next (s.gateW_granted r _ _ h), ?_, ?_, ?_, ?_, ?_, ?_, fun o ho => ?_, ?_⟩
  · rw [State.get, htg]
    exact fieldGet_rwWord rgFields _ v hrw 0 8 (by decide) (by decide)
  · rw [State.on_bit, htg, hwbit 8 (by decide) (by decide)]
  · rw [State.on_bit, htg, hwbit 9 (by decide) (by decide)]
  · rw [State.on_bit, htg, hwbit 10 (by decide) (by decide)]
  · rw [State.get, htg]
    exact fieldGet_rwWord rgFields _ v hrw 16 16 (by decide) (by decide)
  · rw [State.get, State.get, State.on_bit, State.on_bit, State.on_bit, State.on_bit, htg]
    rw [hwrite]
    by_cases hm : (s.rd (R.IPP_RG g) ^^^ w) &&& 0x6FF = 0
    · rw [if_pos hm, if_pos ((members_mode_en_iff _ _).1 hm)]
      rfl
    · rw [if_neg hm, if_neg fun k => hm ((members_mode_en_iff _ _).2 k), State.recordsOf_putRecords_self]
  · rw [htrd, State.rd_wr_of_ne _ _ _ _ (by simpa using ho)]
  · rw [hwrite]
    split <;> rfl

/-! ### Aging, forgetting, and the events -/

theorem State.mpeWrite_frame (line : Nat) : s.mpeWrite line = { s with
    mpe := (s.mpeWrite line).mpe, regs := (s.mpeWrite line).regs, cnt := (s.mpeWrite line).cnt, evc := (s.mpeWrite line).evc } := by
  unfold State.mpeWrite
  extract_lets leaf m blk minor roll m1 x
  split
  · have hf : EventFrame x (x.inc (R.CTS_CNT 5)) := x.inc_eventFrame _
    have hmpe : (x.inc (R.CTS_CNT 5)).mpe = m1 := (congrArg State.mpe hf :)
    rw [hmpe]
    exact hf
  · rfl

theorem State.dropFlow_tab (k : Nat) : (s.dropFlow (.tab k)).ipp = s.ipp ∧ (s.dropFlow (.tab k)).cts.ctxs = s.cts.ctxs ∧
    (s.dropFlow (.tab k)).cts.flows = sput noFlow s.cts.flows k [] := by
  have hf := State.mpeWrite_frame ({ s with cts := { s.cts with flows := sput noFlow s.cts.flows k [] } }) (flowAddr k / 64)
  exact ⟨(congrArg State.ipp hf :), (congrArg (fun x : State => x.cts.ctxs) hf :), (congrArg (fun x : State => x.cts.flows) hf :)⟩

/-- An SA event that the queue has room for. -/
theorem State.pushSaevt_room (c kind : Nat) (h : s.ipp.saevt.length < 1024) :
    (s.pushSaevt c kind).cts = s.cts ∧
      (s.pushSaevt c kind).ipp.saevt = s.ipp.saevt ++ [BitVec.ofNat 32 (c % 2 ^ 21 + kind * 2 ^ 24 + 2 ^ 31)] := by
  set x : State := { s with ipp := { s.ipp with
    saevt := s.ipp.saevt ++ [BitVec.ofNat 32 (c % 2 ^ 21 + kind * 2 ^ 24 + 2 ^ 31)] } } with hx
  have hpush : s.pushSaevt c kind = x.level 80 true := if_neg (by omega)
  have hf := ((Logs.refl x).level 80 (by decide) true).frame
  rw [hpush]
  exact ⟨(congrArg State.cts hf :), (congrArg (fun y : State => y.ipp.saevt) hf :)⟩

theorem flowAging_drops (k : Nat) (e : List Byte) (he : e = s.flowAt k) (hne : e ≠ []) (hidle : feIdle e ≠ 0)
    (hold : feIdle e < (s.time / 1000000 + 2 ^ 32 - feLast e) % 2 ^ 32) (ho : s.ctsOpen = true) (hroom : s.ipp.saevt.length < 1024) :
    ∃ t, exec (.flowAging k) s = .next t ∧ t.flowAt k = [] ∧ (∀ i, i ≠ k → t.flowAt i = s.flowAt i) ∧
      t.cts.ctxs = s.cts.ctxs ∧
      t.ipp.saevt = s.ipp.saevt ++ [BitVec.ofNat 32 (feCtx e % 2 ^ 21 + 3 * 2 ^ 24 + 2 ^ 31)] ∧ SameMemory s t := by
  have hage : s.ageFlow k = (s.dropFlow (.tab k)).pushSaevt (feCtx e) 3 := by
    refine (if_neg ?_).trans (by rw [he])
    simp only [← he, List.isEmpty_iff, hne, hidle, ho, not_le.2 hold, Bool.not_true, Bool.false_eq_true, or_self, not_false_eq_true]
  obtain ⟨hipp, hctxs, hflows⟩ := s.dropFlow_tab k
  obtain ⟨hcts, hev⟩ := (s.dropFlow (.tab k)).pushSaevt_room (feCtx e) 3 (hipp ▸ hroom)
  refine ⟨_, congrArg Host.Outcome.next hage, ?_, fun i hi => ?_, by rw [hcts, hctxs], by rw [hev, hipp],
    (State.pushSaevt_keeps _ 3 (State.dropFlow_keeps (.tab k) (Keeps.refl true s))).sameMemory⟩
  · rw [State.flowAt, hcts, hflows, sget_sput_self]
  · rw [State.flowAt, hcts, hflows, sget_sput_of_ne _ _ _ _ _ hi, State.flowAt]

theorem recordForget_forgets (g : Fin 8) (k : Nat) (x : Nat × Nat) (hx : (s.recordsOf g)[k]? = some x) (ht : x.2 + s.forgetNs g ≤ s.time) :
    ∃ t, exec (.recordForget g k) s = .next t ∧ t.recordsOf g = (s.recordsOf g).eraseIdx k ∧
      (∀ i, i ≠ g.val → t.recordsOf i = s.recordsOf i) ∧ t = { s with ipp := { s.ipp with records := t.ipp.records } } := by
  have hforget : s.forget g k = s.putRecords g ((s.recordsOf g).eraseIdx k) := by simp only [State.forget, hx, ht, if_true]
  exact ⟨_, congrArg Host.Outcome.next hforget, s.recordsOf_putRecords_self _ _, fun i hi => s.recordsOf_putRecords_of_ne _ i _ hi, rfl⟩

theorem saevtRead_takes (r : Req) (h : s.mayRead r R.IPP_SAEVT) (e : Word) (l : List Word) (he : s.ipp.saevt = e :: l) :
    ∃ t, exec (.saevtRead r) s = .next t ∧ t.busOut = e.setWidth 64 ∧ t.ipp.saevt = l ∧ SameRegsBut eventRegs s t ∧ SameMemory s t := by
  set x : State := { s with busOut := e.setWidth 64, ipp := { s.ipp with saevt := l } } with hx
  have htake : s.saevtTake = x.level 80 (!l.isEmpty) := by simp only [State.saevtTake, he, hx]
  have hlog := (Logs.refl x).level 80 (by decide) (!l.isEmpty)
  exact ⟨_, congrArg Host.Outcome.next ((s.gateR_granted r _ _ h).trans htake), (congrArg State.busOut hlog.frame :),
    (congrArg (fun y : State => y.ipp.saevt) hlog.frame :), hlog.regs,
    SameMemory.trans (t := x) .of_eq (State.level_keeps 80 (!l.isEmpty) (Keeps.refl true x)).sameMemory⟩

end

/-- Settles O35: one lemma per command; the fields of IPP_RG are plain RW fields. -/
theorem flowAgingAndRecords : Obligations.FlowAgingAndRecords := by
  refine ⟨fun s k e he hne hi ho hc hl => flowAging_drops s k e he hne hi ho hc hl, fun s g k x hx ht => recordForget_forgets s g k x hx ht,
    fun s r g v h => rgWrite_stores s r g v h, fun s r h => ⟨fun hnil => ?_, fun e l he => saevtRead_takes s r h e l he⟩⟩
  have htake : s.saevtTake = { s with busOut := 0 } := by simp only [State.saevtTake, hnil]
  exact congrArg Host.Outcome.next ((s.gateR_granted r _ _ h).trans htake)

end Sys2Proof.Machine
end

section
/-! PROOF. O36: the PTP time base (R275, R292). -/

namespace Sys2Proof.Machine

/-! ### A field that takes the value it has -/

theorem State.wr_rd (s : State) (o p : Nat) : (s.wr o (s.rd o)).rd p = s.rd p := by
  by_cases h : p = o
  · rw [h, State.rd_wr_self]
  · exact State.rd_wr_of_ne _ _ _ _ h

theorem State.rd_putB_same (s : State) (o i : Nat) (b : Bool) (h : s.on ⟨o, i, 1⟩ = b) (p : Nat) : (s.putB ⟨o, i, 1⟩ b).rd p = s.rd p := by
  have hval : fieldGet i 1 (s.rd o) = if b then 1 else 0 := by
    rw [fieldGet_bit, ← State.on_bit, h]
    cases b <;> rfl
  have hset : fieldSet i 1 (s.rd o) (if b then 1 else 0) = s.rd o := (congrArg _ hval.symm).trans (fieldSet_fieldGet i 1 _)
  have hput : s.putB ⟨o, i, 1⟩ b = s.wr o (s.rd o) := congrArg (s.wr o) hset
  rw [hput, State.wr_rd]

theorem EventFrame.wr {s t : State} (h : EventFrame s t) (o : Nat) (v : Word) : EventFrame s (t.wr o v) := h.trans rfl

theorem EventFrame.inc {s t : State} (h : EventFrame s t) (o : Nat) : EventFrame s (t.inc o) := h.trans (t.inc_eventFrame o)

theorem State.denied_eventFrame (s : State) (r : Req) (o : Nat) (wr : Bool) : EventFrame s (s.denied r o wr) := by
  have hdone : ∀ u : State, EventFrame s u → EventFrame s (if s.foreign r o wr then
      ((u.set F.GLB_STAT_DENIED_ACC).inc R.GLB_DENIED).inc (R.DKE_CNT 7) else (u.set F.GLB_STAT_DENIED_ACC).inc R.GLB_DENIED) := by
    intro u hu
    have hinc := (hu.put F.GLB_STAT_DENIED_ACC 1).inc R.GLB_DENIED
    split
    · exact hinc.inc _
    · exact hinc
  refine hdone _ ?_
  split
  · rfl
  · exact (EventFrame.refl s).wr _ _

section
variable (s : State)

/-! ### PTP_LOCKED and PTP_HOLDOVER -/

theorem ippStat_not_event : R.IPP_STAT ∉ eventRegs := by decide

theorem State.setTimeState_eventFrame (a b : Bool) : EventFrame s (s.setTimeState a b) := by
  unfold State.setTimeState
  split
  · rfl
  · exact (((EventFrame.refl s).put _ _).put _ _).trans ((EvcOnly.refl _).raise 81).frame

theorem State.on_setTimeState (a b : Bool) : (s.setTimeState a b).on F.IPP_STAT_PTP_LOCKED = a ∧
    (s.setTimeState a b).on F.IPP_STAT_PTP_HOLDOVER = b := by
  unfold State.setTimeState
  split
  · next h => exact h
  · have hraise : ∀ f : Fld, f.off = R.IPP_STAT → ∀ x : State, (x.raise 81).on f = x.on f := fun f hf x =>
      ((Logs.refl x).raise 81 (by decide)).regs.on f (hf ▸ ippStat_not_event)
    rw [hraise _ rfl, hraise _ rfl, State.on_putB_bit_of_ne _ _ _ _ _ ((Fld.apart_bits_iff _ _ _ _).2 (by decide)),
      State.on_putB_self _ _ _ (by decide) rfl, State.on_putB_self _ _ _ (by decide) rfl]
    exact ⟨rfl, rfl⟩

theorem SameRegsBut.setTimeState {os : List Nat} {s t : State} (h : SameRegsBut os s t) (a b : Bool) (ho : R.IPP_STAT ∈ os)
    (hev : ∀ o ∈ eventRegs, o ∈ os) : SameRegsBut os s (t.setTimeState a b) := by
  unfold State.setTimeState
  split
  · exact h
  · exact ((h.put F.IPP_STAT_PTP_LOCKED _ ho).put F.IPP_STAT_PTP_HOLDOVER _ ho).raise 81 (by decide) hev

/-! ### A write of IPP_PTP_CTL -/

theorem State.setLock_same (b : Bool) (h : s.on F.IPP_PTP_CTL_LOCK_SET = b) :
    s.setLock b = s.putB F.IPP_PTP_CTL_LOCK_SET b := if_pos h.symm

theorem State.ptpCtlWrite_steady (r : Req) (v : Word) (h : bit v.toNat 2 = s.on F.IPP_PTP_CTL_LOCK_SET) :
    s.ptpCtlWrite r v =
      State.setLock (if bit v.toNat 1 = true then State.ptpApply (if bit v.toNat 0 = true then s.ptpCapture else s)
        else if bit v.toNat 0 = true then s.ptpCapture else s) (s.on F.IPP_PTP_CTL_LOCK_SET) := by
  rw [← h]
  exact if_neg fun k => k.2 h

theorem ptpSnap_stores (r : Req) (v : Word) (h : s.mayWrite r R.IPP_PTP_CTL) (h2 : v.getLsbD 2 = s.on F.IPP_PTP_CTL_LOCK_SET)
    (h1 : v.getLsbD 1 = false) : ∃ t, exec (.ptpSnap r v) s = .next t ∧
      t.get F.IPP_PTP_SEC_HI_SECONDS = s.ipp.ptpNs / 1000000000 / 2 ^ 32 % 2 ^ 16 ∧
      (t.rd R.IPP_PTP_SEC_LO).toNat = s.ipp.ptpNs / 1000000000 % 2 ^ 32 ∧
      t.get F.IPP_PTP_NS_NS = s.ipp.ptpNs % 1000000000 ∧
      SameRegsBut [R.IPP_PTP_SEC_HI, R.IPP_PTP_SEC_LO, R.IPP_PTP_NS] s t ∧ OnlyRegs s t := by
  have hbits : bit (v ||| 1).toNat 2 = s.on F.IPP_PTP_CTL_LOCK_SET := (bit_or_kept v 1 2 (by decide)).trans h2
  have hbit1 : bit (v ||| 1).toNat 1 = false := (bit_or_kept v 1 1 (by decide)).trans h1
  have hbit0 : bit (v ||| 1).toNat 0 = true := bit_or_set v 1 0 (by decide)
  set u := s.ptpCapture with hu
  have huregs : SameRegsBut [R.IPP_PTP_SEC_HI, R.IPP_PTP_SEC_LO, R.IPP_PTP_NS] s u :=
    (((SameRegsBut.refl _ s).put F.IPP_PTP_SEC_HI_SECONDS _ (by decide)).wr R.IPP_PTP_SEC_LO _ (by decide)).put F.IPP_PTP_NS_NS _ (by decide)
  have huon : u.on F.IPP_PTP_CTL_LOCK_SET = s.on F.IPP_PTP_CTL_LOCK_SET := huregs.on _ (by decide)
  set t := u.putB F.IPP_PTP_CTL_LOCK_SET (s.on F.IPP_PTP_CTL_LOCK_SET)
  have hwrite : s.ptpCtlWrite r (v ||| 1) = t := by
    rw [s.ptpCtlWrite_steady r _ hbits, hbit1, hbit0, if_neg Bool.false_ne_true, if_pos rfl, u.setLock_same _ huon]
  have hrd : ∀ p, t.rd p = u.rd p := u.rd_putB_same _ _ _ huon
  have hns : s.ipp.ptpNs % 1000000000 < 2 ^ 30 := lt_trans (Nat.mod_lt _ (by decide)) (by decide)
  refine ⟨t, congrArg Host.Outcome.next ((s.gateW_granted r _ _ h).trans hwrite), ?_, ?_, ?_, fun p hp => ?_, rfl⟩
  · rw [State.get, hrd, hu, State.ptpCapture, State.rd_put_of_ne _ _ _ _ (by decide), State.rd_wr_of_ne _ _ _ _ (by decide)]
    exact State.get_put_self _ F.IPP_PTP_SEC_HI_SECONDS _ (by decide)
  · rw [hrd, hu, State.ptpCapture, State.rd_put_of_ne _ _ _ _ (by decide), State.rd_wr_self, BitVec.toNat_ofNat]
  · rw [State.get, hrd, hu, State.ptpCapture]
    exact (State.get_put_self _ F.IPP_PTP_NS_NS _ (by decide)).trans (Nat.mod_eq_of_lt hns)
  · rw [hrd]
    exact huregs p hp

theorem ptpStep_adds (r : Req) (v : Word) (h : s.mayWrite r R.IPP_PTP_CTL) (h2 : v.getLsbD 2 = s.on F.IPP_PTP_CTL_LOCK_SET)
    (h0 : v.getLsbD 0 = false) : ∃ t, exec (.ptpStep r v) s = .next t ∧
      t.ipp = { s.ipp with ptpNs := ((s.ipp.ptpNs : Int) + (s.rd R.IPP_PTP_STEP).toInt).toNat } ∧
      SameRegsBut [] s t ∧ t = { s with regs := t.regs, ipp := t.ipp } := by
  have hbits : bit (v ||| 2).toNat 2 = s.on F.IPP_PTP_CTL_LOCK_SET := (bit_or_kept v 2 2 (by decide)).trans h2
  have hbit1 : bit (v ||| 2).toNat 1 = true := bit_or_set v 2 1 (by decide)
  have hbit0 : bit (v ||| 2).toNat 0 = false := (bit_or_kept v 2 0 (by decide)).trans h0
  have hwrite : s.ptpCtlWrite r (v ||| 2) = s.ptpApply.putB F.IPP_PTP_CTL_LOCK_SET (s.on F.IPP_PTP_CTL_LOCK_SET) := by
    rw [s.ptpCtlWrite_steady r _ hbits, hbit1, hbit0, if_pos rfl, if_neg Bool.false_ne_true, s.ptpApply.setLock_same (s.on F.IPP_PTP_CTL_LOCK_SET) rfl]
  exact ⟨_, congrArg Host.Outcome.next ((s.gateW_granted r _ _ h).trans hwrite), rfl,
    fun p _ => s.ptpApply.rd_putB_same _ _ _ rfl p, rfl⟩

/-! ### LOCK_SET changes, and the holdover ends -/

/-- The time state once LOCK_SET has taken a new value. -/
theorem State.setLock_changed (b : Bool) (h : s.on F.IPP_PTP_CTL_LOCK_SET = !b) (u : State)
    (hu : u = s.putB F.IPP_PTP_CTL_LOCK_SET b) :
    s.setLock b = ({ u with ipp := { u.ipp with lockLost := if b then none else some s.time } } : State).setTimeState b
      (!b && s.get F.IPP_FRESH_HOLDOVER_S != 0) := by
  subst hu
  have hget : (s.putB F.IPP_PTP_CTL_LOCK_SET b).get F.IPP_FRESH_HOLDOVER_S = s.get F.IPP_FRESH_HOLDOVER_S :=
    s.get_put_apart _ _ _ (.inl (by decide))
  unfold State.setLock
  simp only [h]
  cases b
  · simp only [Bool.not_false, Bool.true_and, Bool.false_eq_true, if_false, hget]
    rfl
  · simp only [Bool.not_true, Bool.false_and, Bool.true_eq_false, if_false, if_true]

theorem lockSet_cupola (b : Bool) (h : s.mayWrite .cupola R.IPP_PTP_CTL) (hb : s.on F.IPP_PTP_CTL_LOCK_SET = !b) :
    ∃ t, exec (.lockSet .cupola b) s = .next t ∧ t.on F.IPP_PTP_CTL_LOCK_SET = b ∧
      t.on F.IPP_STAT_PTP_LOCKED = b ∧ t.on F.IPP_STAT_PTP_HOLDOVER = (!b && s.get F.IPP_FRESH_HOLDOVER_S != 0) ∧
      t.ipp.lockLost = (if b then none else some s.time) ∧
      SameRegsBut (R.IPP_PTP_CTL :: R.IPP_STAT :: eventRegs) s t ∧ SameMemory s t := by
  set v : Word := if b then 4 else 0 with hv
  have hv2 : bit v.toNat 2 = b ∧ bit v.toNat 1 = false ∧ bit v.toNat 0 = false := by
    rw [hv]
    cases b <;> decide
  obtain ⟨hbit2, hbit1, hbit0⟩ := hv2
  set u := s.putB F.IPP_PTP_CTL_LOCK_SET b with hu
  set x : State := { u with ipp := { u.ipp with lockLost := if b then none else some s.time } } with hx
  have hwrite : s.ptpCtlWrite .cupola v = x.setTimeState b (!b && s.get F.IPP_FRESH_HOLDOVER_S != 0) := by
    have hpass : s.ptpCtlWrite .cupola v = s.setLock (bit v.toNat 2) := by
      unfold State.ptpCtlWrite
      simp only [hbit1, hbit0, ne_eq, not_true_eq_false, false_and, if_false, Bool.false_eq_true]
    rw [hpass, hbit2, s.setLock_changed b hb u rfl]
  obtain ⟨hlocked, hhold⟩ := x.on_setTimeState b (!b && s.get F.IPP_FRESH_HOLDOVER_S != 0)
  have hxregs : SameRegsBut (R.IPP_PTP_CTL :: R.IPP_STAT :: eventRegs) s x :=
    (SameRegsBut.refl _ s).put F.IPP_PTP_CTL_LOCK_SET _ (List.mem_cons_self ..)
  have hstat : SameRegsBut (R.IPP_STAT :: eventRegs) x (x.setTimeState b (!b && s.get F.IPP_FRESH_HOLDOVER_S != 0)) :=
    (SameRegsBut.refl _ x).setTimeState _ _ (List.mem_cons_self ..) fun o ho => List.mem_cons_of_mem _ ho
  have hset : x.on F.IPP_PTP_CTL_LOCK_SET = b := s.on_putB_self F.IPP_PTP_CTL_LOCK_SET b (by decide) rfl
  have hipp : (x.setTimeState b (!b && s.get F.IPP_FRESH_HOLDOVER_S != 0)).ipp = x.ipp :=
    (congrArg State.ipp (x.setTimeState_eventFrame b _) :)
  exact ⟨_, congrArg Host.Outcome.next ((s.gateW_granted .cupola _ _ h).trans hwrite), (hstat.on _ (by decide)).trans hset, hlocked, hhold,
    congrArg IppSt.lockLost hipp, hxregs.trans (hstat.mono fun o ho => List.mem_cons_of_mem _ ho),
    SameMemory.trans (t := x) .of_eq (State.setTimeState_keeps b _ (Keeps.refl true x)).sameMemory⟩

theorem lockSet_refused (r : Req) (b : Bool) (h : s.mayWrite r R.IPP_PTP_CTL) (hb : s.on F.IPP_PTP_CTL_LOCK_SET = !b) (hr : r ≠ .cupola) :
    ∃ t, exec (.lockSet r b) s = .next t ∧ t.rd R.IPP_PTP_CTL = s.rd R.IPP_PTP_CTL ∧ t.rd R.IPP_STAT = s.rd R.IPP_STAT ∧
      t.ipp = s.ipp := by
  have hv : bit (if b then (4 : Word) else 0).toNat 2 ≠ s.on F.IPP_PTP_CTL_LOCK_SET := by
    rw [hb]
    cases b <;> decide
  have hwrite : s.ptpCtlWrite r (if b then 4 else 0) = s.denied r R.IPP_PTP_CTL true := if_pos ⟨hr, hv⟩
  have hregs := s.sameRegsBut_denied r R.IPP_PTP_CTL true rfl
  exact ⟨_, congrArg Host.Outcome.next ((s.gateW_granted r _ _ h).trans hwrite), hregs _ (by decide), hregs _ (by decide),
    (congrArg State.ipp (s.denied_eventFrame r R.IPP_PTP_CTL true) :)⟩

theorem holdoverExpiry_ends (l : Nat) (hl : s.ipp.lockLost = some l) (hh : s.on F.IPP_STAT_PTP_HOLDOVER = true)
    (ht : l + s.get F.IPP_FRESH_HOLDOVER_S * 1000000000 ≤ s.time) : ∃ t, exec .holdoverExpiry s = .next t ∧
      t.on F.IPP_STAT_PTP_LOCKED = false ∧ t.on F.IPP_STAT_PTP_HOLDOVER = false ∧
      SameRegsBut (R.IPP_STAT :: eventRegs) s t ∧ SameMemory s t := by
  have hend : s.holdoverEnd = s.setTimeState false false := by simp only [State.holdoverEnd, hl, hh, ht, and_self, if_true]
  obtain ⟨hlocked, hhold⟩ := s.on_setTimeState false false
  exact ⟨_, congrArg Host.Outcome.next hend, hlocked, hhold,
    (SameRegsBut.refl _ s).setTimeState _ _ (List.mem_cons_self ..) fun o ho => List.mem_cons_of_mem _ ho,
    (State.setTimeState_keeps false false (Keeps.refl true s)).sameMemory⟩

end

/-- Settles O36: SNAP and STEP leave LOCK_SET at its value (`rd_putB_same`); a change of it moves the time state. -/
theorem timeBase : Obligations.TimeBase := by
  refine fun s r => ⟨fun v h h2 => ⟨fun h1 => ptpSnap_stores s r v h h2 h1, fun h0 => ptpStep_adds s r v h h2 h0⟩,
    fun b h hb => ⟨fun hr => ?_, fun hr => lockSet_refused s r b h hb hr⟩, fun l hl hh ht => holdoverExpiry_ends s l hl hh ht⟩
  subst hr
  exact lockSet_cupola s b h hb

end Sys2Proof.Machine
end

section
/-! PROOF. Where the SAT bits of the counters lie (R16, R55), and the frame of the work on jobs and slots. -/

namespace Sys2Proof.Machine

/-! ### SAT registers -/

/-- The length of one block of a kind (R55). -/
def blockSpan : Blk → Nat
  | .dkeCh => 0x200
  | .dkeCom => 0x7800
  | .sfi | .q => 0x100
  | .ucsCom | .ucsQ | .aeaCom | .lif | .cup => 0x1000
  | .aea => 0x400
  | .mbx => 0x4000
  | .glb | .cpm | .lcs | .fcr | .blf | .rng | .keep | .cts | .ipp | .evc => 0x10000

/-- The places of SAT bits in a block; those of UCODE's counters lie in a slot's status. -/
def satPlaces (b : Blk) : List Nat :=
  if b = .ucsQ then [4] else ((regTable b).filter (fun r => r.sat != (0, 0))).map (·.sat.1)

/-- Whether a register holds SAT bits. -/
def satReg (o : Nat) : Bool :=
  match locate o with
  | some (b, _, loc) => (satPlaces b).contains loc
  | none => false

/-- Every place of a block is located there. -/
theorem locate_inside (o : Nat) (b : Blk) (n loc k : Nat) (h : locate o = some (b, n, loc)) (hk : k < blockSpan b) :
    locate (o - loc + k) = some (b, n, k) := by
  unfold locate at h
  iterate 28
    obtain ⟨hlt, e⟩ | ⟨hge, h⟩ := ite_eq_iff.1 h
    · cases e <;> clear h <;> simp only [blockSpan] at hk <;> unfold locate <;>
        simp (disch := omega) only [if_neg, if_pos, Option.some.injEq, Prod.mk.injEq, true_and] <;> omega
  cases h

/-- The SAT bits of a block lie in it, but for those of UCODE, which lie in the first slot's block. -/
theorem satPlace_inside (b : Blk) : (regTable b).all (fun r => r.sat == (0, 0) || decide (r.sat.1 < blockSpan b) &&
    (satPlaces b).contains r.sat.1 || b == .ucsCom && r.sat.1 == 0x1004) = true := by
  cases b <;> decide

theorem locate_ucsCom (o n loc : Nat) (h : locate o = some (.ucsCom, n, loc)) : o - loc = 0x80000 := by
  unfold locate at h
  iterate 28
    obtain ⟨hlt, e⟩ | ⟨hge, h⟩ := ite_eq_iff.1 h
    · cases e <;> omega
  cases h

theorem satReg_of_satOf (o : Nat) (f : Fld) (h : satOf o = some f) : satReg f.off = true := by
  unfold satOf at h
  split at h
  · next b n loc hloc =>
    split at h
    · next r i hspec =>
      split at h
      · cases h
      · next hsat =>
        cases h
        have hr := List.all_eq_true.1 (satPlace_inside b) r (mem_regTable_of_findSpec _ _ _ hspec)
        have hne : (r.sat == (0, 0)) = false := by
          refine beq_eq_false_iff_ne.2 fun e => hsat ?_
          rw [e]
          exact ⟨rfl, rfl⟩
        rw [hne, Bool.false_or, Bool.or_eq_true, Bool.and_eq_true, Bool.and_eq_true, decide_eq_true_eq, beq_iff_eq, beq_iff_eq] at hr
        rcases hr with ⟨hspan, hplace⟩ | ⟨rfl, hplace⟩
        · simp only [satReg, locate_inside o b n loc _ hloc hspan, hplace]
        · simp only [locate_ucsCom o n loc hloc, hplace]
          decide
    · cases h
  · cases h

theorem State.rd_count_of_plain (s : State) (o n p : Nat) (h : satReg p = false) : (s.count o n).rd p = s.rd p :=
  State.rd_count s o n p fun f hf e => by
    rw [e, satReg_of_satOf o f hf] at h
    cases h

/-- A register that neither an event nor a counter changes. -/
def plainReg (o : Nat) : Bool := !satReg o && !eventRegs.contains o

theorem plainReg_not_event (o : Nat) (h : plainReg o = true) : o ∉ eventRegs := by
  simp only [plainReg, Bool.and_eq_true, Bool.not_eq_true', List.contains_eq_mem, decide_eq_false_iff_not] at h
  exact h.2

theorem plainReg_not_sat (o : Nat) (h : plainReg o = true) : satReg o = false := by
  simp only [plainReg, Bool.and_eq_true, Bool.not_eq_true'] at h
  exact h.1

/-! ### The work on jobs and slots -/

/-- The state with the jobs, channels, slots, memories, registers, counters and events of another. -/
def State.withJobs (s t : State) : State :=
  { s with jqm := t.jqm, dke := t.dke, keep := t.keep, hostMem := t.hostMem, svcMem := t.svcMem, free := t.free,
           regs := t.regs, cnt := t.cnt, evc := t.evc }

/-- Jobs, channels, slots, memories, counters and events may have changed, and nothing else. -/
structure JobsOnly (s t : State) : Prop where
  frame : t = s.withJobs t
  regs : ∀ o, plainReg o = true → t.rd o = s.rd o

theorem JobsOnly.refl (s : State) : JobsOnly s s := ⟨rfl, fun _ _ => rfl⟩

theorem EventFrame.withJobs {s t : State} (h : EventFrame s t) : t = s.withJobs t := by
  have hjqm : t.jqm = s.jqm := (congrArg State.jqm h :)
  have hdke : t.dke = s.dke := (congrArg State.dke h :)
  have hkeep : t.keep = s.keep := (congrArg State.keep h :)
  have hhost : t.hostMem = s.hostMem := (congrArg State.hostMem h :)
  have hsvc : t.svcMem = s.svcMem := (congrArg State.svcMem h :)
  have hfree : t.free = s.free := (congrArg State.free h :)
  rw [State.withJobs, hjqm, hdke, hkeep, hhost, hsvc, hfree]
  exact h

section
variable {s t u : State} (h : JobsOnly s t)
include h

theorem JobsOnly.trans (k : JobsOnly t u) : JobsOnly s u where
  frame := (k.frame.trans (congrArg (fun x : State => x.withJobs u) h.frame :) :)
  regs := fun o ho => (k.regs o ho).trans (h.regs o ho)

theorem JobsOnly.get (f : Fld) (hf : plainReg f.off = true) : t.get f = s.get f := by
  rw [State.get, h.regs _ hf, State.get]

theorem JobsOnly.on (f : Fld) (hf : plainReg f.off = true) : t.on f = s.on f := by
  rw [State.on, h.get f hf, State.on]

theorem JobsOnly.ite {p : Prop} [Decidable p] (k : JobsOnly s u) : JobsOnly s (if p then t else u) := by
  split
  · exact h
  · exact k

theorem JobsOnly.count (o n : Nat) : JobsOnly s (t.count o n) := by
  refine h.trans ⟨?_, fun p hp => t.rd_count_of_plain o n p (plainReg_not_sat p hp)⟩
  unfold State.count
  dsimp only
  split
  · rfl
  · split <;> rfl

theorem JobsOnly.raise (n : Nat) (hn : n < 256) : JobsOnly s (t.raise n) :=
  h.trans ⟨((EvcOnly.refl t).raise n).frame.withJobs,
    fun o ho => ((SameRegsBut.refl eventRegs t).raise n hn fun _ ho => ho) o (plainReg_not_event o ho)⟩

theorem JobsOnly.jqm (x : JqmSt) : JobsOnly s { t with jqm := x } := h.trans ⟨rfl, fun _ _ => rfl⟩

theorem JobsOnly.keep (x : KeepSt) : JobsOnly s { t with keep := x } := h.trans ⟨rfl, fun _ _ => rfl⟩

theorem JobsOnly.giveEngine (j : Job) : JobsOnly s (t.giveEngine j) := by
  unfold State.giveEngine
  split
  · exact h.jqm _
  · exact h.jqm _

theorem JobsOnly.schedule (e : Nat) : JobsOnly s (t.schedule e) := by
  unfold State.schedule
  split
  · exact h
  · split
    · exact h
    · split
      · exact h.giveEngine _
      · exact h

theorem JobsOnly.grantPool (p : Res) : JobsOnly s (t.grantPool p) := by
  unfold State.grantPool
  split
  · exact h
  · split
    · exact h.giveEngine _
    · exact h

theorem JobsOnly.preemptAt (e : Nat) : JobsOnly s (t.preemptAt e) := by
  unfold State.preemptAt
  split
  · exact h
  · next r _ =>
    split
    · exact h
    · have hput : JobsOnly s (t.putJob { r with phase := .preempted }) := h.jqm _
      exact JobsOnly.schedule ((hput.count (R.AEA_PREEMPT e) 1).ite hput) e

theorem JobsOnly.tryStart (p : Res) (e : Nat) : JobsOnly s (t.tryStart p e) := by
  have hctx : JobsOnly s (match t.running e with
      | none => t.schedule e
      | some r => if r.wait = .rng then t.preemptAt e else t) := by
    split
    · exact h.schedule e
    · exact (h.preemptAt e).ite h
  cases p with
  | keccak | sha2 | keep => exact h.grantPool _
  | arbiter => exact h
  | lt | cbe | cle | composite | dke | aes | chacha => exact hctx

theorem JobsOnly.setBuilding (i : Nat) (b : Bool) : JobsOnly s (t.setBuilding i b) := by
  unfold State.setBuilding
  dsimp only
  split
  · exact h.keep _
  · exact h

theorem JobsOnly.eachJob (f : State → Job → State) (hf : ∀ x j, JobsOnly s x → JobsOnly s (f x j)) (is : List Nat) :
    JobsOnly s (t.eachJob f is) := by
  induction is generalizing t with
  | nil => exact h
  | cons i is ih =>
    refine ih ?_
    split
    · exact hf t _ h
    · exact h

theorem JobsOnly.startBuilds : JobsOnly s t.startBuilds := by
  have hfold : ∀ (l : List Nat) (x : State), JobsOnly s x → JobsOnly s (l.foldl (fun s i =>
      ({ s with jqm := { s.jqm with jobs := s.jqm.jobs ++ [buildJob s.jqm.nextId i], nextId := s.jqm.nextId + 1 } } : State).setBuilding i true) x) := by
    intro l
    induction l with
    | nil => exact fun _ hx => hx
    | cons i l ih => exact fun x hx => ih _ ((hx.jqm _).setBuilding i true)
  refine (hfold _ t h).eachJob _ (fun x j hx => ?_) _
  split
  · exact JobsOnly.tryStart (hx.jqm _) _ _
  · exact hx

theorem JobsOnly.releaseTargets (is : List Nat) : JobsOnly s (t.releaseTargets is) := by
  induction is generalizing t with
  | nil => exact h
  | cons i is ih => exact ih (JobsOnly.ite (h.keep _) h)

theorem JobsOnly.eraseSlots (is : List Nat) : JobsOnly s (t.eraseSlots is) := by
  induction is generalizing t with
  | nil => exact h
  | cons i is ih =>
    refine ih ?_
    unfold State.eraseSlot
    split
    · exact h
    · exact JobsOnly.count ((h.jqm _).keep _) (R.KEEP_CNT 4) 1
    · exact JobsOnly.count (h.keep _) (R.KEEP_CNT 4) 1

theorem JobsOnly.refill (p : Res) (e e2 : Nat) : JobsOnly s (t.refill p e e2) := by
  have hdke : JobsOnly s (t.dkeGrant e) := by
    unfold State.dkeGrant
    dsimp only
    split
    · exact h.trans ⟨rfl, fun _ _ => rfl⟩
    · exact h
  have hctx : JobsOnly s (if e2 = e then t.schedule e else (t.schedule e).schedule e2) :=
    (h.schedule e).ite ((h.schedule e).schedule e2)
  cases p with
  | keccak | sha2 | keep => exact h.grantPool _
  | dke => exact hdke
  | arbiter => exact h
  | lt | cbe | cle | composite | aes | chacha => exact hctx

theorem JobsOnly.finishJob (j : Job) (r : JobResult) : JobsOnly s (t.finishJob j r) := by
  have hput : JobsOnly s (t.putJob (j.doneAs r t.time)) := h.jqm _
  have hstop := (hput.releaseTargets j.targets).ite (p := 0x10 ≤ r.status) hput
  have hcount : ∀ x, JobsOnly s x → JobsOnly s (x.countEnd j.engine r.status) := fun x hx =>
    hx.ite ((hx.count _ 1).ite ((hx.count _ 1).ite hx))
  have hkind : ∀ x, JobsOnly s x → JobsOnly s (match j.kind with
      | .queue => x
      | .treeBuild i => (x.dropJob j.id).setBuilding i false) := fun x hx => by
    split
    · exact hx
    · exact JobsOnly.setBuilding (hx.jqm _) _ _
  exact (hkind _ (hcount _ hstop)).refill _ _ _

theorem JobsOnly.bufsWritten (owner : Nat) (bs : List Buf) (v : List Byte) : JobsOnly s (writeBufs t owner bs v).1 := by
  have hf := writeBufs_frame t owner bs v
  have hregs : (writeBufs t owner bs v).1.regs = t.regs := (congrArg State.regs hf :)
  refine h.trans ⟨?_, fun o _ => by rw [State.rd, hregs, State.rd]⟩
  rw [hf]
  rfl

theorem JobsOnly.outputZeroed (owner : Nat) (d : List Byte) : JobsOnly s (zeroOutput t owner d) := by
  have hbufs : ∀ (bs : List Buf) (x : State), JobsOnly s x → JobsOnly s (zeroBufs x owner bs) := fun bs => by
    induction bs with
    | nil => exact fun _ hx => hx
    | cons b bs ih => exact fun x hx => ih _ (hx.bufsWritten owner [b] _)
  unfold zeroOutput
  split
  · exact hbufs _ _ h
  · exact h

theorem JobsOnly.failJob (j : Job) (e : Err) : JobsOnly s (t.failJob j e) :=
  JobsOnly.finishJob ((h.outputZeroed j.owner j.desc).ite h) j _

theorem JobsOnly.faultJobs (kind : Nat) (p : Job → Bool) : JobsOnly s (t.faultJobs kind p) :=
  h.eachJob _ (fun _ j hx => hx.ite (hx.failJob j _)) _

end

end Sys2Proof.Machine
end

section
/-! PROOF. O37: the memory key (R302 to R305), the scrub (R301) and the temperatures of the stacks (R332). -/

namespace Sys2Proof.Machine

section
variable (s : State)

/-! ### Rotation -/

/-- The draw of the memory key. -/
def State.drawKey (s : State) : List Byte × State := if (s.rngState == rngRunning) = true then s.draw 12 32 else ([], s)

theorem State.rd_drawKey (o : Nat) (ho : plainReg o = true) : s.drawKey.2.rd o = s.rd o := by
  unfold State.drawKey
  split
  · exact State.rd_count_of_plain _ _ _ o (plainReg_not_sat o ho)
  · rfl

theorem State.loseObjects_steady : s.loseObjects.cts = s.cts ∧ ∀ o, plainReg o = true → o ≠ R.KEEP_STAT → s.loseObjects.rd o = s.rd o := by
  have herase : JobsOnly s (s.eraseSlots (s.slotsWhere (fun x => x.lobj && x.st == .live))) := (JobsOnly.refl s).eraseSlots _
  unfold State.loseObjects
  extract_lets lost u v
  have hu : u.cts = s.cts := (congrArg State.cts herase.frame :)
  have hraise := ((JobsOnly.refl (u.set F.KEEP_STAT_LOBJ_LOST)).raise 202 (by decide))
  have hv : v.cts = s.cts ∧ ∀ o, plainReg o = true → o ≠ R.KEEP_STAT → v.rd o = s.rd o := by
    unfold v
    split
    · exact ⟨hu, fun o ho _ => herase.regs o ho⟩
    · exact ⟨(congrArg State.cts hraise.frame :).trans hu, fun o ho hne => (hraise.regs o ho).trans
        ((State.rd_put_of_ne _ _ _ _ hne).trans (herase.regs o ho))⟩
  exact hv

/-- The device after step 3 of a rotation: what lay under the old key is gone. -/
def State.rotateLost (s : State) : State := s.drawKey.2.loseSaves.wipeStore.loseObjects

theorem State.rotateLost_cts : s.rotateLost.cts.ctxs = [] ∧ s.rotateLost.cts.flows = [] ∧ s.rotateLost.cts.pinFlows = [] := by
  have hcts := (State.loseObjects_steady s.drawKey.2.loseSaves.wipeStore).1
  exact ⟨(congrArg CtsSt.ctxs hcts :), (congrArg CtsSt.flows hcts :), (congrArg CtsSt.pinFlows hcts :)⟩

theorem State.rotateLost_regs (f : Fld) (ho : plainReg f.off = true) (hk : f.off ≠ R.KEEP_STAT)
    (hs : f.off ≠ R.CTS_STAT) (hc : (F.CTS_CTL_RELINK_NOW).apart f) : s.rotateLost.get f = s.get f := by
  have hsaves : JobsOnly s.drawKey.2 s.drawKey.2.loseSaves := (JobsOnly.refl _).faultJobs _ _
  have hobjects := (State.loseObjects_steady s.drawKey.2.loseSaves.wipeStore).2 f.off ho hk
  have hwipe : s.drawKey.2.loseSaves.wipeStore.get f = s.drawKey.2.loseSaves.get f :=
    (State.get_put_apart _ _ f 0 hc).trans (State.get_put_apart _ _ f 0 (.inl hs))
  rw [State.get, State.rotateLost, hobjects]
  refine hwipe.trans ((hsaves.get f ho).trans ?_)
  rw [State.get, s.rd_drawKey _ ho, State.get]

/-- The device with the memory key of a rotation, or none (R302 steps 4 and 5). -/
def State.keyed (s : State) (k : List Byte) (ok : Bool) : State :=
  let s := { s with mpe := { s.mpe with
    key := if ok then some k else none
    majors := [], minors := [], nodes := [], root := [], poison := [], filled := [], fillDone := false } }
  let s := s.put F.CTS_KEY_GEN_GEN (s.keyGen + 1)
  (((s.clr F.CTS_STAT_POISON_FULL).putB F.CTS_STAT_NO_KEY (!ok)).putB F.CTS_STAT_READY
    (ok && s.cpm.ready.contains 4)).putB F.CTS_STAT_FILLING ok

theorem State.keyed_cts (k : List Byte) (ok : Bool) : (s.keyed k ok).cts = s.cts := rfl

theorem State.keyed_mpe (k : List Byte) (ok : Bool) : (s.keyed k ok).mpe.poison = [] ∧ (s.keyed k ok).mpe.fillDone = false ∧
    (s.keyed k ok).mpe.key.isSome = ok := by
  refine ⟨rfl, rfl, ?_⟩
  cases ok <;> rfl

theorem State.keyed_get (k : List Byte) (ok : Bool) (f : Fld) (h : f.off ≠ R.CTS_STAT) :
    (s.keyed k ok).get f = (s.put F.CTS_KEY_GEN_GEN (s.keyGen + 1)).get f := by
  have hstat : ∀ (x : State) (i v : Nat), (x.put ⟨R.CTS_STAT, i, 1⟩ v).get f = x.get f := fun x i v => x.get_put_apart _ f v (.inl h)
  unfold State.keyed
  dsimp only
  rw [State.putB, hstat, State.putB, hstat, State.putB, hstat, State.clr, hstat]
  rfl

theorem State.keyed_noKey (k : List Byte) (ok : Bool) : (s.keyed k ok).on F.CTS_STAT_NO_KEY = !ok := by
  unfold State.keyed
  exact (State.on_putB_bit_of_ne _ _ _ _ _ ((Fld.apart_bits_iff _ _ _ _).2 (by decide))).trans
    ((State.on_putB_bit_of_ne _ _ _ _ _ ((Fld.apart_bits_iff _ _ _ _).2 (by decide))).trans (State.on_putB_self _ _ _ (by decide) rfl))

theorem State.rotate_eq : s.rotate = (s.rotateLost.keyed s.drawKey.1 (s.rngState == rngRunning)).startBuilds := rfl

theorem JobsOnly.cts {s t : State} (h : JobsOnly s t) : t.cts = s.cts := (congrArg State.cts h.frame :)

theorem JobsOnly.mpe {s t : State} (h : JobsOnly s t) : t.mpe = s.mpe := (congrArg State.mpe h.frame :)

theorem State.rotate_empties : s.rotate.cts.ctxs = [] ∧ s.rotate.cts.flows = [] ∧ s.rotate.cts.pinFlows = [] ∧
    s.rotate.mpe.poison = [] ∧ s.rotate.mpe.fillDone = false ∧ s.rotate.mpe.key.isSome = (s.rngState == rngRunning) := by
  have hbuilds := (JobsOnly.refl (s.rotateLost.keyed s.drawKey.1 (s.rngState == rngRunning))).startBuilds
  obtain ⟨hctxs, hflows, hpins⟩ := s.rotateLost_cts
  obtain ⟨hpoison, hfill, hkey⟩ := s.rotateLost.keyed_mpe s.drawKey.1 (s.rngState == rngRunning)
  rw [State.rotate_eq, hbuilds.cts, hbuilds.mpe, State.keyed_cts]
  exact ⟨hctxs, hflows, hpins, hpoison, hfill, hkey⟩

theorem State.rotate_regs : s.rotate.get F.CTS_KEY_GEN_GEN = (s.get F.CTS_KEY_GEN_GEN + 1) % 2 ^ 16 ∧
    s.rotate.on F.CTS_STAT_NO_KEY = !(s.rngState == rngRunning) ∧ s.rotate.on F.CTS_CTL_SCRUB_EN = s.on F.CTS_CTL_SCRUB_EN := by
  have hbuilds := (JobsOnly.refl (s.rotateLost.keyed s.drawKey.1 (s.rngState == rngRunning))).startBuilds
  have hgen : s.rotateLost.keyGen = s.get F.CTS_KEY_GEN_GEN :=
    s.rotateLost_regs F.CTS_KEY_GEN_GEN (by decide) (by decide) (by decide) (.inl (by decide))
  have hscrub : s.rotateLost.get F.CTS_CTL_SCRUB_EN = s.get F.CTS_CTL_SCRUB_EN :=
    s.rotateLost_regs _ (by decide) (by decide) (by decide) ((Fld.apart_bits_iff _ _ _ _).2 (by decide))
  refine ⟨?_, ?_, ?_⟩
  · rw [State.rotate_eq, hbuilds.get _ (by decide), State.keyed_get _ _ _ _ (by decide),
      State.get_put_self _ F.CTS_KEY_GEN_GEN _ (by decide), hgen]
  · rw [State.rotate_eq, hbuilds.on _ (by decide), State.keyed_noKey]
  · rw [State.rotate_eq, hbuilds.on _ (by decide), State.on, State.keyed_get _ _ _ _ (by decide),
      State.get_put_apart _ _ _ _ (.inl (by decide)), hscrub, State.on]

theorem rotate_renews (v : Word) (h : s.mayWrite .cupola R.CTS_CTL) (h2 : v.getLsbD 2 = false) (h8 : v.getLsbD 8 = false) :
    ∃ t, exec (.rotate .cupola v) s = .next t ∧ t.cts.ctxs = [] ∧ t.cts.flows = [] ∧ t.cts.pinFlows = [] ∧ t.mpe.poison = [] ∧
      t.mpe.fillDone = false ∧ t.get F.CTS_KEY_GEN_GEN = (s.get F.CTS_KEY_GEN_GEN + 1) % 2 ^ 16 ∧
      t.mpe.key.isSome = decide (s.rngState = rngRunning) ∧ t.on F.CTS_STAT_NO_KEY = decide (s.rngState ≠ rngRunning) ∧
      t.on F.CTS_CTL_SCRUB_EN = v.getLsbD 1 := by
  set u := s.putB F.CTS_CTL_SCRUB_EN (v.getLsbD 1) with hu
  have hwrite : s.ctsCtlWrite .cupola (v ||| 1) = u.rotate := by
    have hb0 := bit_or_set v 1 0 (by decide)
    have hb1 : bit (v ||| 1).toNat 1 = v.getLsbD 1 := bit_or_kept v 1 1 (by decide)
    have hb2 : bit (v ||| 1).toNat 2 = false := (bit_or_kept v 1 2 (by decide)).trans h2
    have hb8 : bit (v ||| 1).toNat 8 = false := (bit_or_kept v 1 8 (by decide)).trans h8
    unfold State.ctsCtlWrite
    simp only [hb0, hb1, hb2, hb8, bne_self_eq_false, Bool.and_false, Bool.false_eq_true, if_false, if_true, hu]
  have hrng : u.rngState = s.rngState := s.get_put_apart _ _ _ (.inl (by decide))
  have hgen : u.get F.CTS_KEY_GEN_GEN = s.get F.CTS_KEY_GEN_GEN := s.get_put_apart _ _ _ (.inl (by decide))
  obtain ⟨hctxs, hflows, hpins, hpoison, hfill, hkey⟩ := u.rotate_empties
  obtain ⟨hnext, hno, hscrub⟩ := u.rotate_regs
  exact ⟨_, congrArg Host.Outcome.next ((s.gateW_granted .cupola _ _ h).trans hwrite), hctxs, hflows, hpins, hpoison, hfill,
    hnext.trans (by rw [hgen]), hkey.trans (by rw [hrng]; rfl), hno.trans (by rw [hrng]; exact (decide_not ..).symm), hscrub.trans (s.on_putB_self _ _ (by decide) rfl)⟩

/-! ### Fill, scrub and temperatures -/

theorem State.count_onlyCounters (o n : Nat) : OnlyCounters s (s.count o n) := by
  rw [OnlyCounters, s.count_frame o n]

theorem scrubLines_eq : scrubLines = 36 * 2 ^ 26 := by decide

theorem State.report_transit (source kind sev addr : Nat) : (s.report source kind sev addr).fcr.transit = s.fcr.transit ++
    [faultMsg source kind sev (sget (fun _ => 0) s.fcr.seqTx source) addr] := rfl

theorem State.report_cntGet (source kind sev addr o : Nat) : (s.report source kind sev addr).cntGet o = s.cntGet o := rfl

theorem State.report_mpe (source kind sev addr : Nat) : (s.report source kind sev addr).mpe = s.mpe := rfl

theorem fillComplete_done (hk : s.mpe.key.isSome = true) (hf : s.mpe.fillDone = false) : ∃ t, exec .fillComplete s = .next t ∧
    t.mpe = { s.mpe with fillDone := true, filled := [] } ∧ t.on F.CTS_STAT_FILLING = false ∧ SameRegsBut [R.CTS_STAT] s t ∧
    t = { s with mpe := t.mpe, regs := t.regs } := by
  have hfill : s.fillComplete = ({ s with mpe := { s.mpe with fillDone := true, filled := [] } } : State).clr F.CTS_STAT_FILLING :=
    if_neg (by rw [hf, Option.isNone_eq_false_iff.2 hk]; decide)
  exact ⟨_, congrArg Host.Outcome.next hfill, rfl, State.on_clr_self _ _ (by decide),
    (SameRegsBut.refl [R.CTS_STAT] s).put F.CTS_STAT_FILLING 0 (by decide), rfl⟩

section
variable (hen : s.on F.CTS_CTL_SCRUB_EN = true) (ho : s.ctsOpen = true) (n : Nat) (hn : n = s.cntGet (R.CTS_CNT 6) + 36 * 2 ^ 26)
include hen ho hn

theorem scrubPass_clean : ∃ t, exec (.scrubPass .clean) s = .next t ∧ t.cntGet (R.CTS_CNT 6) = min n (cntMax (R.CTS_CNT 6)) ∧
    OnlyCounters s t := by
  have hpass : s.scrubPass .clean = s.count (R.CTS_CNT 6) scrubLines := if_neg (by rw [hen, ho]; decide)
  refine ⟨_, congrArg Host.Outcome.next hpass, ?_, ?_⟩
  · rw [State.cntGet_count, hn, scrubLines_eq]
  · exact s.count_onlyCounters _ _

theorem scrubPass_corrected (a : BitVec 37) : ∃ t, exec (.scrubPass (.corrected a)) s = .next t ∧
    t.cntGet (R.CTS_CNT 6) = min n (cntMax (R.CTS_CNT 6)) ∧
    t.cntGet (R.CTS_CNT 7) = min (s.cntGet (R.CTS_CNT 7) + 1) (cntMax (R.CTS_CNT 7)) ∧ t.fcr.transit = s.fcr.transit ++
      [faultMsg (stackSource a.toNat) 0x01 0 (sget (fun _ => 0) s.fcr.seqTx (stackSource a.toNat)) a.toNat] ∧ t.mpe = s.mpe := by
  set u := s.count (R.CTS_CNT 6) scrubLines with hu
  have hpass : s.scrubPass (.corrected a) = (u.report (stackSource a.toNat) 0x01 0 a.toNat).inc (R.CTS_CNT 7) :=
    if_neg (by rw [hen, ho]; decide)
  have hf : EventFrame s u := s.count_eventFrame (R.CTS_CNT 6) scrubLines
  have hinc := State.inc_eventFrame (u.report (stackSource a.toNat) 0x01 0 a.toNat) (R.CTS_CNT 7)
  have hfcr : u.fcr = s.fcr := hf.fcr
  refine ⟨_, congrArg Host.Outcome.next hpass, ?_, ?_, ?_, ?_⟩
  · rw [State.cntGet_inc_of_ne _ _ _ (by decide), State.report_cntGet, hu, State.cntGet_count, hn, scrubLines_eq]
  · rw [State.cntGet_inc, State.report_cntGet, hu, State.cntGet_count_of_ne _ _ _ _ (by decide)]
  · rw [hinc.fcr, State.report_transit, hfcr]
  · rw [hinc.mpe, State.report_mpe, hf.mpe]

theorem scrubPass_uncorrectable (a : BitVec 37) : ∃ t, exec (.scrubPass (.uncorrectable a)) s = .next t ∧
    t.cntGet (R.CTS_CNT 6) = min n (cntMax (R.CTS_CNT 6)) ∧ t.fcr.transit = s.fcr.transit ++
      [faultMsg (stackSource a.toNat) 0x02 0 (sget (fun _ => 0) s.fcr.seqTx (stackSource a.toNat)) a.toNat] ∧ t.mpe = s.mpe := by
  set u := s.count (R.CTS_CNT 6) scrubLines with hu
  have hpass : s.scrubPass (.uncorrectable a) = u.report (stackSource a.toNat) 0x02 0 a.toNat := if_neg (by rw [hen, ho]; decide)
  have hf : EventFrame s u := s.count_eventFrame (R.CTS_CNT 6) scrubLines
  have hfcr : u.fcr = s.fcr := hf.fcr
  refine ⟨_, congrArg Host.Outcome.next hpass, ?_, ?_, (State.report_mpe ..).trans hf.mpe⟩
  · rw [State.report_cntGet, hu, State.cntGet_count, hn, scrubLines_eq]
  · rw [State.report_transit, hfcr]

end

theorem stackTempSample_shows (x : Temps4) (h : s.power.coreUp = true) : ∃ t, exec (.stackTempSample x) s = .next t ∧
    t.rd R.CTS_TEMP = x.t3 ++ x.t2 ++ x.t1 ++ x.t0 ∧ SameRegsBut [R.CTS_TEMP] s t ∧
    t = { s with regs := t.regs, mpe := t.mpe, fcr := t.fcr } := by
  have hfold : ∀ (f : State → Nat → State), (∀ y i, f y i = { y with fcr := (f y i).fcr }) → ∀ (l : List Nat) (y : State),
      l.foldl f y = { y with fcr := (l.foldl f y).fcr } := by
    intro f hf l
    induction l with
    | nil => exact fun _ => rfl
    | cons i l ih => exact fun y => (ih _).trans (congrArg (fun z : State => { z with fcr := ((i :: l).foldl f y).fcr }) (hf y i))
  have hexec : exec (.stackTempSample x) s = .next (s.stackTemps x) := congrArg Host.Outcome.next (if_pos h)
  have hframe : ∃ y : State, y.regs = (s.wr R.CTS_TEMP (x.t3 ++ x.t2 ++ x.t1 ++ x.t0)).regs ∧ y = { s with regs := y.regs, mpe := y.mpe } ∧
      s.stackTemps x = { y with fcr := (s.stackTemps x).fcr } := by
    unfold State.stackTemps
    extract_lets ts crit new u m v w
    exact ⟨v, rfl, rfl, (hfold _ (fun _ _ => rfl) new w).trans
      (congrArg (fun z : State => { z with fcr := (new.foldl (fun (s : State) i => s.report (0x120 + i) 0x13 0 0) w).fcr })
        (hfold _ (fun _ _ => rfl) (List.range 4) v))⟩
  obtain ⟨y, hregs, hy, ht⟩ := hframe
  have hrd : ∀ o, (s.stackTemps x).rd o = (s.wr R.CTS_TEMP (x.t3 ++ x.t2 ++ x.t1 ++ x.t0)).rd o := fun o => by
    rw [ht, State.rd, State.rd, hregs]
  refine ⟨_, hexec, (hrd _).trans (s.rd_wr_self _ _), fun o hm => (hrd o).trans (s.rd_wr_of_ne _ _ _ (by simpa using hm)), ?_⟩
  rw [ht, hy]

end

/-- Settles O37. A rotation is followed through its parts (`rotateLost`, `rotateKeyed`); the jobs that it fails and the builds
that it starts touch none of them (`JobsOnly`). -/
theorem memoryKeyRotation : Obligations.MemoryKeyRotation :=
  ⟨fun s v h h2 h8 => rotate_renews s v h h2 h8, fun s hk hf => fillComplete_done s hk hf,
    fun s hen ho n hn => ⟨scrubPass_clean s hen ho n hn, fun a => ⟨scrubPass_corrected s hen ho n hn a, scrubPass_uncorrectable s hen ho n hn a⟩⟩,
    fun s x h => stackTempSample_shows s x h⟩

end Sys2Proof.Machine
end

section
/-! PROOF. O34, first part: fields of a record of bytes after a write, and the frames in the device after updates. -/

namespace Sys2Proof.Machine

/-! ### Fields of a record of bytes -/

@[simp] theorem patch_length (bs : List Byte) (off : Nat) (v : List Byte) : (patch bs off v).length = bs.length := by
  rw [patch, List.length_take, List.length_append, List.length_append, List.length_take, List.length_drop]
  omega

theorem patch_getElem? (bs : List Byte) (off : Nat) (v : List Byte) (i : Nat) :
    (patch bs off v)[i]? = if off ≤ i ∧ i < off + v.length ∧ i < bs.length then v[i - off]? else bs[i]? := by
  rw [patch, List.getElem?_take]
  by_cases hi : i < bs.length
  · rw [if_pos hi]
    rcases Nat.lt_or_ge i off with hlt | hge
    · have hlen : (bs.take off ++ v).length > i := by
        rw [List.length_append, List.length_take]
        omega
      rw [List.getElem?_append_left hlen, List.getElem?_append_left (by rw [List.length_take]; omega), List.getElem?_take, if_pos hlt,
        if_neg (by omega)]
    · have htake : (bs.take off).length = off := by
        rw [List.length_take]
        omega
      rcases Nat.lt_or_ge i (off + v.length) with hv | hv
      · rw [List.getElem?_append_left (by rw [List.length_append, htake]; omega), List.getElem?_append_right (by omega), htake,
          if_pos ⟨hge, hv, hi⟩]
      · rw [List.getElem?_append_right (by rw [List.length_append, htake]; omega), List.length_append, htake, List.getElem?_drop,
          if_neg (by omega)]
        congr 1
        omega
  · rw [if_neg hi, if_neg (by omega), List.getElem?_eq_none (by omega)]

theorem slice_getElem? (bs : List Byte) (off n i : Nat) : (slice bs off n)[i]? = if i < n then bs[off + i]? else none := by
  rw [slice, List.getElem?_take, List.getElem?_drop]

/-- Two stretches of a record that do not meet. -/
def stretchesApart (o n p m : Nat) : Prop := o + n ≤ p ∨ p + m ≤ o

theorem slice_patch_of_apart (bs : List Byte) (off : Nat) (v : List Byte) (o n : Nat) (h : stretchesApart off v.length o n) :
    slice (patch bs off v) o n = slice bs o n := by
  refine List.ext_getElem? fun i => ?_
  rw [slice_getElem?, slice_getElem?, patch_getElem?]
  by_cases hi : i < n
  · have hout : ¬ (off ≤ o + i ∧ o + i < off + v.length ∧ o + i < bs.length) := by
      rcases h with h | h <;> omega
    rw [if_neg hout]
  · rw [if_neg hi, if_neg hi]

theorem slice_patch_self (bs : List Byte) (off : Nat) (v : List Byte) (h : off + v.length ≤ bs.length) :
    slice (patch bs off v) off v.length = v := by
  refine List.ext_getElem? fun i => ?_
  rw [slice_getElem?, patch_getElem?]
  by_cases hi : i < v.length
  · rw [if_pos hi, if_pos (by omega), Nat.add_sub_cancel_left]
  · rw [if_neg hi, List.getElem?_eq_none (by omega)]

@[simp] theorem setLE_length (x : List Byte) (off len v : Nat) : (setLE x off len v).length = x.length := patch_length ..

theorem leAt_setLE_of_apart (x : List Byte) (off len v o n : Nat) (h : stretchesApart off len o n) :
    leAt (setLE x off len v) o n = leAt x o n := by
  rw [leAt, setLE, slice_patch_of_apart _ _ _ _ _ (by rwa [natLE_length]), leAt]

theorem leAt_setLE_self (x : List Byte) (off len v : Nat) (h : off + len ≤ x.length) :
    leAt (setLE x off len v) off len = v % 256 ^ len := by
  have hs := slice_patch_self x off (natLE len v) (by rwa [natLE_length])
  rw [natLE_length] at hs
  rw [leAt, setLE, hs, leNat_natLE]

theorem byteAt_setLE_of_apart (x : List Byte) (off len v o : Nat) (h : stretchesApart off len o 1) :
    byteAt (setLE x off len v) o = byteAt x o := by
  rw [byteAt, byteAt, List.getD_eq_getElem?_getD, List.getD_eq_getElem?_getD, setLE, patch_getElem?, natLE_length, if_neg]
  rcases h with h | h <;> omega

/-- The statistics of a context lie beside its type and its counter (R307). -/
theorem ctxUse_kept (x : List Byte) (octets now : Nat) :
    (ctxUse x octets now).length = x.length ∧ byteAt (ctxUse x octets now) 16 = byteAt x 16 ∧
      leAt (ctxUse x octets now) 144 8 = leAt x 144 8 := by
  have hadd : ∀ (y : List Byte) (i n : Nat), (cntAdd y i n).length = y.length ∧ byteAt (cntAdd y i n) 16 = byteAt y 16 ∧
      leAt (cntAdd y i n) 144 8 = leAt y 144 8 := by
    intro y i n
    unfold cntAdd
    dsimp only
    split
    · exact ⟨setLE_length .., byteAt_setLE_of_apart _ _ _ _ _ (.inr (by omega)), leAt_setLE_of_apart _ _ _ _ _ _ (.inr (by omega))⟩
    · exact ⟨(setLE_length ..).trans (setLE_length ..),
        (byteAt_setLE_of_apart _ _ _ _ _ (.inr (by omega))).trans (byteAt_setLE_of_apart _ _ _ _ _ (.inr (by omega))),
        (leAt_setLE_of_apart _ _ _ _ _ _ (.inl (by omega))).trans (leAt_setLE_of_apart _ _ _ _ _ _ (.inr (by omega)))⟩
  obtain ⟨hl, hb, hc⟩ := hadd (cntAdd x 0 1) 1 octets
  obtain ⟨hl0, hb0, hc0⟩ := hadd x 0 1
  exact ⟨(setLE_length ..).trans (hl.trans hl0), (byteAt_setLE_of_apart _ _ _ _ _ (.inr (by omega))).trans (hb.trans hb0),
    (leAt_setLE_of_apart _ _ _ _ _ _ (.inr (by omega))).trans (hc.trans hc0)⟩

/-! ### Frames after updates -/

section
variable (s : State)

theorem State.frame?_congr {s t : State} (h : t.ipp.frames = s.ipp.frames) (i : Nat) : t.frame? i = s.frame? i := by
  rw [State.frame?, h, State.frame?]

theorem State.frame?_removeFrame (k i : Nat) : (s.removeFrame k).frame? i = if i = k then none else s.frame? i := by
  show (s.ipp.frames.filter (fun f => f.id != k)).find? (fun f => f.id == i) = _
  split
  · next h =>
    refine List.find?_eq_none.2 fun f hf => ?_
    have hne := (List.mem_filter.1 hf).2
    simpa [h] using hne
  · next h =>
    unfold State.frame?
    generalize s.ipp.frames = fs
    induction fs with
    | nil => rfl
    | cons f fs ih =>
      by_cases hf : f.id = k
      · have hne : ¬ (f.id == i) = true := by simpa [hf] using Ne.symm h
        rw [List.filter_cons_of_neg (by simpa using hf), ih]
        exact (List.find?_cons_of_neg (p := fun f : FrameSt => f.id == i) hne).symm
      · rw [List.filter_cons_of_pos (by simpa using hf), List.find?_cons, List.find?_cons, ih]

theorem State.frame?_putFrame_self (f g : FrameSt) (h : s.frame? f.id = some g) : (s.putFrame f).frame? f.id = some f := by
  show (s.ipp.frames.map (fun g => if g.id == f.id then f else g)).find? (fun g => g.id == f.id) = some f
  unfold State.frame? at h
  generalize s.ipp.frames = fs at h
  induction fs with
  | nil => cases h
  | cons a fs ih =>
    rw [List.map_cons, List.find?_cons]
    by_cases ha : a.id = f.id
    · simp [ha]
    · rw [List.find?_cons_of_neg (by simpa using ha)] at h
      rw [if_neg (by simpa using ha), ih h, beq_eq_false_iff_ne.2 ha]

theorem State.frame?_putFrame_of_ne (f : FrameSt) (i : Nat) (h : i ≠ f.id) : (s.putFrame f).frame? i = s.frame? i := by
  show (s.ipp.frames.map (fun g => if g.id == f.id then f else g)).find? (fun g => g.id == i) = s.ipp.frames.find? (fun g => g.id == i)
  generalize s.ipp.frames = fs
  induction fs with
  | nil => rfl
  | cons a fs ih =>
    rw [List.map_cons, List.find?_cons, List.find?_cons, ih]
    by_cases ha : a.id = f.id
    · have hne : (f.id == i) = false := by simpa using Ne.symm h
      simp [ha, hne]
    · simp [ha]

theorem State.inc_frames (o : Nat) : (s.inc o).ipp.frames = s.ipp.frames := (congrArg (fun x : State => x.ipp.frames) (s.inc_eventFrame o) :)

theorem State.withdrawRecord_frames (f : FrameSt) : (s.withdrawRecord f).ipp.frames = s.ipp.frames ∧ (s.withdrawRecord f).cnt = s.cnt := by
  unfold State.withdrawRecord
  split <;> exact ⟨rfl, rfl⟩

/-- A frame of a port that is dropped. -/
theorem State.dropFrame_drops (f g : FrameSt) (code : Nat) (hp : f.port < 16) (hid : f.id = g.id) (hport : f.port = g.port) :
    FrameDropped g code s (s.dropFrame f code) := by
  obtain ⟨hframes, hcnt⟩ := s.withdrawRecord_frames f
  have hdrop : s.dropFrame f code = ((s.withdrawRecord f).removeFrame f.id).inc (R.LIF_DROP f.port code) := if_pos hp
  have hframe : ∀ i, (s.dropFrame f code).frame? i = if i = f.id then none else s.frame? i := fun i => by
    rw [hdrop, State.frame?_congr (State.inc_frames _ _), State.frame?_removeFrame, State.frame?_congr hframes]
  refine ⟨?_, fun i hi => ?_, ?_, (State.dropFrame_keeps f code (Keeps.refl true s)).sameMemory⟩
  · rw [hframe, if_pos hid.symm]
  · rw [hframe, if_neg (hid ▸ hi)]
  · rw [hdrop, ← hport, State.cntGet_inc]
    have hget : ((s.withdrawRecord f).removeFrame f.id).cntGet (R.LIF_DROP f.port code) = s.cntGet (R.LIF_DROP f.port code) :=
      congrArg (fun c => sget (fun _ => 0) c _) hcnt
    rw [hget]

end

end Sys2Proof.Machine
end

section
/-! PROOF. O34: commit, egress, the hold for time, and frames of SVC (R244 to R248, R257, R269, R324, R360). -/

namespace Sys2Proof.Machine

/-! ### Work in the context store -/

/-- The store, memory protection, counters and events may have changed, and nothing else. -/
structure StoreWork (s t : State) : Prop where
  frame : t = { s with cts := t.cts, mpe := t.mpe, regs := t.regs, cnt := t.cnt, evc := t.evc }
  regs : ∀ o, plainReg o = true → t.rd o = s.rd o

theorem StoreWork.refl (s : State) : StoreWork s s := ⟨rfl, fun _ _ => rfl⟩

section
variable {s t u : State} (h : StoreWork s t)
include h

theorem StoreWork.trans (k : StoreWork t u) : StoreWork s u where
  frame := (k.frame.trans (congrArg (fun x : State => { x with cts := u.cts, mpe := u.mpe, regs := u.regs, cnt := u.cnt, evc := u.evc }) h.frame :) :)
  regs := fun o ho => (k.regs o ho).trans (h.regs o ho)

theorem StoreWork.cts (x : CtsSt) : StoreWork s { t with cts := x } := h.trans ⟨rfl, fun _ _ => rfl⟩

theorem StoreWork.mpe (x : MpeSt) : StoreWork s { t with mpe := x } := h.trans ⟨rfl, fun _ _ => rfl⟩

theorem StoreWork.ite {p : Prop} [Decidable p] (k : StoreWork s u) : StoreWork s (if p then t else u) := by
  split
  · exact h
  · exact k

theorem StoreWork.inc (o : Nat) : StoreWork s (t.inc o) := by
  have hf := t.inc_eventFrame o
  have hcts : (t.inc o).cts = t.cts := (congrArg State.cts hf :)
  have hmpe : (t.inc o).mpe = t.mpe := hf.mpe
  refine h.trans ⟨?_, fun p hp => t.rd_count_of_plain o 1 p (plainReg_not_sat p hp)⟩
  rw [hcts, hmpe]
  exact hf

theorem StoreWork.mpeWriteN (line k : Nat) : StoreWork s (t.mpeWriteN line k) := by
  induction k generalizing t line with
  | zero => exact h
  | succ k ih =>
    refine ih ?_ _
    unfold State.mpeWrite
    dsimp only
    exact ((h.mpe _).inc _).ite (h.mpe _)

theorem StoreWork.touch (c : Nat) : StoreWork s (t.touch c) := by
  unfold State.touch
  dsimp only
  split
  · exact h.inc _
  · exact StoreWork.inc (((h.cts _).mpeWriteN _ 8).ite (h.cts _)) _

theorem StoreWork.commitCtx (c : Nat) (b : Bool) (x : List Byte) : StoreWork s (t.commitCtx c b x) := (h.touch c).cts _

theorem StoreWork.commitBegin : StoreWork s t.commitBegin := (h.cts _).inc _

theorem StoreWork.get (f : Fld) (hf : plainReg f.off = true) : t.get f = s.get f := by
  rw [State.get, h.regs _ hf, State.get]

theorem StoreWork.on (f : Fld) (hf : plainReg f.off = true) : t.on f = s.on f := by
  rw [State.on, h.get f hf, State.on]

theorem StoreWork.ipp : t.ipp = s.ipp := (congrArg State.ipp h.frame :)

end

section
variable (s : State)

theorem State.mpeWriteN_ctxs (line k : Nat) : (s.mpeWriteN line k).cts.ctxs = s.cts.ctxs := by
  induction k generalizing s line with
  | zero => rfl
  | succ k ih => exact (ih _ _).trans (congrArg (fun x : State => x.cts.ctxs) (s.mpeWrite_frame line) :)

theorem State.inc_ctxs (o : Nat) : (s.inc o).cts.ctxs = s.cts.ctxs := (congrArg (fun x : State => x.cts.ctxs) (s.inc_eventFrame o) :)

theorem State.touch_ctxs (c : Nat) : (s.touch c).cts.ctxs = s.cts.ctxs := by
  unfold State.touch
  dsimp only
  split
  · exact s.inc_ctxs _
  · refine (State.inc_ctxs _ _).trans ?_
    split
    · exact State.mpeWriteN_ctxs _ _ _
    · rfl

theorem State.ctx_touch (c d : Nat) : (s.touch c).ctx d = s.ctx d := by rw [State.ctx, s.touch_ctxs, State.ctx]

theorem State.ctx_commitCtx_self (c : Nat) (x : List Byte) : (s.commitCtx c false x).ctx c =
    setLE (setLE x 0 8 (cVersion (s.ctx c))) 8 8 s.cts.csn := sget_sput_self _ _ _ _

/-! ### The ports, as far as a frame's way to them goes -/

theorem plainReg_line : ∀ p : Fin 16, plainReg (R.LIF_MAXFRM p) = true ∧ plainReg (R.LIF_PMODE p) = true ∧ plainReg (R.LIF_PSTAT p) = true ∧
    plainReg (R.LIF_PCTL p) = true ∧ plainReg (R.LIF_QMAX p) = true := by decide

/-- A port takes a frame as before where its registers and what is queued are as before. -/
theorem State.egressTakes_congr {s t : State} (hqueued : ∀ P, t.queuedBytes P = s.queuedBytes P) (hr : ∀ o, plainReg o = true → t.rd o = s.rd o)
    (p : Fin 16) (cls n : Nat) (h : s.egressTakes p cls n) : t.egressTakes p cls n := by
  have hget : ∀ f : Fld, plainReg f.off = true → t.get f = s.get f := fun f ho => by rw [State.get, hr _ ho, State.get]
  have hon : ∀ f : Fld, plainReg f.off = true → t.on f = s.on f := fun f ho => by rw [State.on, hget f ho, State.on]
  have hactive : ∀ q : Fin 16, t.portActive q = s.portActive q := fun q => by
    rw [State.portActive, hget _ (plainReg_line q).2.1, hon _ (plainReg_line q).2.2.1, State.portActive]
  have hup : t.portUp p = s.portUp p := by
    rw [State.portUp, hactive, hon _ (plainReg_line p).2.2.2.1, hon _ (plainReg_line p).2.2.1, State.portUp]
  have hshared : t.sharedBuffer = s.sharedBuffer := by
    rw [State.sharedBuffer, State.sharedBuffer, List.filter_congr fun q hq => hactive ⟨q, List.mem_range.1 hq⟩]
  rw [State.egressTakes, hget _ (plainReg_line p).1, hup, hqueued, hqueued, hshared, hget _ (plainReg_line p).2.2.2.2]
  exact h

theorem State.enqueuePort_takes (f : FrameSt) (bs : List Byte) (h : s.egressTakes f.egress f.cls bs.length) :
    s.enqueuePort f bs = s.putFrame { f with bytes := bs, phase := .egress } := by
  obtain ⟨hmax, hup, hroom⟩ := h
  have hfull : ¬ (f.cls ≠ 0 ∧ (s.sharedBuffer < s.queuedBytes (fun _ => true) + bs.length + 4 ∨
      s.get (F.LIF_QMAX_BYTES f.egress) < s.queuedBytes (· == f.egress) + bs.length + 4)) := by
    rintro ⟨hcls, hlt⟩
    obtain ⟨h1, h2⟩ := hroom.resolve_left hcls
    omega
  unfold State.enqueuePort
  simp only [if_neg (Nat.not_lt.2 hmax), hup, Bool.not_true, Bool.false_eq_true, if_false, if_neg hfull]

/-! ### The commit of a frame that is not transformed -/

section
variable (k : Nat) (f : FrameSt) (hnext : s.nextCommit = some f) (hf : s.frame? k = some f) (hid : f.id = k)
include hnext hid

theorem exec_dataPathAdvance : exec (.dataPathAdvance k) s = .next (s.commitFrame f) := by
  refine congrArg Host.Outcome.next (?_ : s.dataPath k = _)
  simp only [State.dataPath, hnext, hid, if_true]

include hf

theorem State.commitFrame_plain (hi : f.ident = none) (ha : f.action = 3) (he : f.egress < 16) :
    exec (.dataPathAdvance k) s = .next (s.enqueuePort f f.bytes) := by
  rw [exec_dataPathAdvance s k f hnext hid]
  refine congrArg Host.Outcome.next ?_
  have hdup : s.isDuplicate f = false := by simp only [State.isDuplicate, hi]
  have hrecord : s.recordFrame f = s := by simp only [State.recordFrame, hi]
  have he16 : ¬ f.egress = 16 := by omega
  subst hid
  simp only [State.commitFrame, ha, State.commitPlain, hdup, hi, Option.isSome_none, hrecord, State.sendOn, hf, State.enqueue, he16,
    Bool.false_eq_true, if_false, Nat.reduceEqDiff]

theorem dataPath_dropsBig (hi : f.ident = none) (ha : f.action = 3) (he : f.egress < 16) (hp : f.port < 16)
    (hbig : s.get (F.LIF_MAXFRM_BYTES f.egress) < f.bytes.length + 4) :
    ∃ t, exec (.dataPathAdvance k) s = .next t ∧ FrameDropped f drTooBig s t := by
  have henq : s.enqueuePort f f.bytes = s.dropFrame { f with phase := .egress } drTooBig := if_pos hbig
  exact ⟨_, (s.commitFrame_plain k f hnext hf hid hi ha he).trans (congrArg _ henq), s.dropFrame_drops _ f _ hp rfl rfl⟩

theorem dataPath_dropsDown (hi : f.ident = none) (ha : f.action = 3) (he : f.egress < 16) (hp : f.port < 16)
    (hfit : f.bytes.length + 4 ≤ s.get (F.LIF_MAXFRM_BYTES f.egress)) (hdown : s.portUp f.egress = false) :
    ∃ t, exec (.dataPathAdvance k) s = .next t ∧ FrameDropped f drEgressDown s t := by
  have henq : s.enqueuePort f f.bytes = s.dropFrame { f with phase := .egress } drEgressDown := by
    unfold State.enqueuePort
    simp only [if_neg (Nat.not_lt.2 hfit), hdown, Bool.not_false, if_true]
  exact ⟨_, (s.commitFrame_plain k f hnext hf hid hi ha he).trans (congrArg _ henq), s.dropFrame_drops _ f _ hp rfl rfl⟩

theorem dataPath_enqueues (hi : f.ident = none) (ha : f.action = 3) (he : f.egress < 16) (ht : s.egressTakes f.egress f.cls f.bytes.length) :
    ∃ t, exec (.dataPathAdvance k) s = .next t ∧ t.frame? k = some { f with phase := .egress } ∧ (∀ i, i ≠ k → t.frame? i = s.frame? i) ∧
      t = { s with ipp := { s.ipp with frames := t.ipp.frames } } := by
  have hput := s.frame?_putFrame_self { f with phase := .egress } f (hid ▸ hf)
  refine ⟨_, (s.commitFrame_plain k f hnext hf hid hi ha he).trans (congrArg _ (s.enqueuePort_takes f f.bytes ht)), ?_, fun i hne => ?_, rfl⟩
  · rw [← hid]
    exact hput
  · exact s.frame?_putFrame_of_ne _ i (hid ▸ hne)

end

/-! ### The commit of a MACsec frame -/

theorem State.advanceTx_plain (c n len : Nat) (hty : cType (s.ctx c) = ctMacsecTx) (hw : n + 1 < s.ctrWarn (s.ctx c))
    (hl : n + 1 < ctrLast (s.ctx c)) :
    s.advanceTx c n len = s.commitBegin.commitCtx c false (ctxUse (setLE (s.ctx c) 144 8 (n + 1)) len s.time) := by
  have hwarn : decide (s.ctrWarn (s.ctx c) ≤ n + 1) = false := decide_eq_false (Nat.not_le.2 hw)
  have hne : ¬ n = ctrLast (s.ctx c) := by omega
  have hlast : ctrLast (s.ctx c) ≤ 2 ^ 64 - 1 := by
    unfold ctrLast
    split <;> omega
  have hmin : min (n + 1) (2 ^ 64 - 1) = n + 1 := Nat.min_eq_left (by omega)
  unfold State.advanceTx
  simp only [hwarn, beq_eq_false_iff_ne.2 hne, Bool.or_self, Bool.false_eq_true, if_false, if_neg hne, hty, cCtrOff, hmin]
  rfl

/-- The counter of a MACsec transmit context after a commit. -/
theorem cCtr_committed (x : List Byte) (n len now ver csn : Nat) (hlen : x.length = 512) (hty : cType x = ctMacsecTx) (hn : n < 2 ^ 64) :
    cCtr (setLE (setLE (ctxUse (setLE x 144 8 n) len now) 0 8 ver) 8 8 csn) = n := by
  obtain ⟨-, hbyte, hctr⟩ := ctxUse_kept (setLE x 144 8 n) len now
  have htype : cType (setLE (setLE (ctxUse (setLE x 144 8 n) len now) 0 8 ver) 8 8 csn) = ctMacsecTx := by
    rw [cType, byteAt_setLE_of_apart _ _ _ _ _ (.inl (by decide)), byteAt_setLE_of_apart _ _ _ _ _ (.inl (by decide)), hbyte,
      byteAt_setLE_of_apart _ _ _ _ _ (.inr (by decide))]
    exact hty
  rw [cCtr, htype, show cCtrOff ctMacsecTx = 144 from rfl, leAt_setLE_of_apart _ _ _ _ _ _ (.inl (by decide)),
    leAt_setLE_of_apart _ _ _ _ _ _ (.inl (by decide)), hctr, leAt_setLE_self _ _ _ _ (by rw [hlen]; decide)]
  exact Nat.mod_eq_of_lt hn

theorem dataPath_protects (k : Nat) (f : FrameSt) (hnext : s.nextCommit = some f) (hf : s.frame? k = some f) (hid : f.id = k)
    (hi : f.ident = none) (he : f.egress < 16) (x : List Byte) (n : Nat) (p : Parsed) (out : List Byte) (ha : f.action = 1)
    (hx : x = s.ctx f.ctx) (hlen : x.length = 512) (hn : n = cCtr x) (hp : parseFrame f.bytes = some p) (hty : cType x = ctMacsecTx)
    (hst : cState x = csActive) (hreach : s.ctxReach f.ctx = true) (hnone : f.ctx ≠ none32) (hw : n + 1 < s.ctrWarn x) (hl : n + 1 < ctrLast x)
    (hout : out = macsecProtect x n f.bytes) (ht : s.egressTakes f.egress f.cls out.length) :
    ∃ t, exec (.dataPathAdvance k) s = .next t ∧ cCtr (t.ctx f.ctx) = n + 1 ∧
      t.frame? k = some { f with bytes := out, phase := .egress } ∧ SameMemory s t := by
  set u := s.commitBegin.commitCtx f.ctx false (ctxUse (setLE x 144 8 (n + 1)) f.len s.time) with hu
  have hcommit : s.commitFrame f = (u.enqueuePort f out) := by
    have hdup : s.isDuplicate f = false := by simp only [State.isDuplicate, hi]
    have hrecord : ∀ y : State, y.recordFrame f = y := fun y => by simp only [State.recordFrame, hi]
    have htx : s.txCtx f.ctx = f.ctx := by
      rw [State.txCtx, if_neg]
      rw [← hx, hst]
      decide
    have hadv : s.advanceTx f.ctx n f.len = u := by
      subst hx
      exact s.advanceTx_plain f.ctx n f.len hty hw hl
    have hsuits : suitsTx x p f.bytes = true := by rw [suitsTx, hty]; rfl
    have hexh : ¬ csActive = csExhausted := by decide
    have hgroup : ¬ ctMacsecTx = ctGroup := by decide
    have hprot : protectedBytes x n f.ptp p f.bytes = out := by rw [protectedBytes, if_pos hty, hout]
    have hframe : u.frame? f.id = some f :=
      (State.frame?_congr (congrArg IppSt.frames (((StoreWork.refl s).commitBegin).commitCtx f.ctx false _).ipp) _).trans (hid ▸ hf)
    have h16 : ¬ f.egress = 16 := by omega
    have hsend : u.sendOn f.id out = u.enqueuePort f out := by simp only [State.sendOn, hframe, State.enqueue, if_neg h16]
    unfold State.commitFrame
    rw [if_pos ha, hp]
    show s.commitTx f p = _
    unfold State.commitTx
    simp only [htx, ← hx, hreach, hsuits, hst, hdup, hty, ← hn, hadv, hrecord, hprot, hsend, hnone, Bool.not_true, Bool.false_eq_true,
      if_false, or_self, ne_eq, not_true_eq_false, hexh, hgroup]
  have hwork : StoreWork s u := ((StoreWork.refl s).commitBegin).commitCtx f.ctx false _
  have hframes : u.ipp.frames = s.ipp.frames := congrArg IppSt.frames hwork.ipp
  have htakes : u.egressTakes f.egress f.cls out.length := State.egressTakes_congr (fun P => by rw [State.queuedBytes, hframes, State.queuedBytes]) hwork.regs ⟨f.egress, he⟩ f.cls _ ht
  have hput := u.frame?_putFrame_self { f with bytes := out, phase := .egress } f ((State.frame?_congr hframes _).trans (hid ▸ hf))
  refine ⟨_, (exec_dataPathAdvance s k f hnext hid).trans (congrArg _ (hcommit.trans (u.enqueuePort_takes f out htakes))), ?_, ?_, ?_⟩
  · have hctx : u.ctx f.ctx = _ := State.ctx_commitCtx_self s.commitBegin f.ctx _
    show cCtr (u.ctx f.ctx) = _
    rw [hctx]
    have hlast : ctrLast x ≤ 2 ^ 64 := by
      unfold ctrLast
      split <;> omega
    exact cCtr_committed x (n + 1) f.len s.time _ _ hlen hty (by omega)
  · rw [← hid]
    exact hput
  · exact (State.putFrame_keeps _ (State.commitCtx_keeps f.ctx false _ (State.commitBegin_keeps (Keeps.refl true s)))).sameMemory

/-! ### Egress, the hold for time, and frames of SVC -/

theorem State.count_ipp (o n : Nat) : (s.count o n).ipp = s.ipp := (congrArg State.ipp (s.count_eventFrame o n) :)

theorem frameEgress_leaves (k : Nat) (f : FrameSt) (hf : s.frame? k = some f) (hid : f.id = k) (hph : f.phase = .egress)
    (hfirst : s.isFirst f = true) (hup : s.portUp f.egress = true) (htc : f.tc = false)
    (hloop : s.on (F.LIF_PCTL_LOOPBACK f.egress) = false) :
    ∃ t, exec (.frameEgress k none) s = .next t ∧ t.ipp.txLog = s.ipp.txLog ++ [(f.egress, padFrame f.bytes)] ∧
      t.frame? k = none ∧ t.cntGet (R.LIF_CNT f.egress 2) =
        min (s.cntGet (R.LIF_CNT f.egress 2) + 1) (cntMax (R.LIF_CNT f.egress 2)) ∧
      t.cntGet (R.LIF_CNT f.egress 3) =
        min (s.cntGet (R.LIF_CNT f.egress 3) + ((padFrame f.bytes).length + 4)) (cntMax (R.LIF_CNT f.egress 3)) ∧
      SameMemory s t := by
  set u := s.removeFrame k with hu
  have hexec : exec (.frameEgress k none) s = .next (s.frameOut k none) := rfl
  have hdepart : s.frameOut k none = u.transmit f.egress f.bytes := by
    have hlu : (s.removeFrame f.id).on (F.LIF_PCTL_LOOPBACK f.egress) = false := hloop
    unfold State.frameOut
    simp only [hf, hph, hfirst, hup, ne_eq, not_true_eq_false, Bool.not_true, Bool.false_eq_true, or_self, if_false, State.depart, htc, hlu]
    rw [hid]
  set v : State := { u with ipp := { u.ipp with txLog := u.ipp.txLog ++ [(f.egress, padFrame f.bytes)] } } with hv
  have htransmit : u.transmit f.egress f.bytes = (v.inc (R.LIF_CNT f.egress 2)).count (R.LIF_CNT f.egress 3) ((padFrame f.bytes).length + 4) := rfl
  have hipp : (u.transmit f.egress f.bytes).ipp = v.ipp := by
    rw [htransmit, State.count_ipp, State.inc, State.count_ipp]
  have hne : R.LIF_CNT f.egress 2 ≠ R.LIF_CNT f.egress 3 := by
    simp only [R.LIF_CNT]
    omega
  have hcnt : ∀ o, v.cntGet o = s.cntGet o := fun _ => rfl
  refine ⟨_, hexec.trans (congrArg _ hdepart), ?_, ?_, ?_, ?_, ?_⟩
  · exact congrArg IppSt.txLog hipp
  · exact (State.frame?_congr (s := v) (congrArg IppSt.frames hipp) k).trans ((s.frame?_removeFrame k k).trans (if_pos rfl))
  · rw [htransmit, State.cntGet_count_of_ne _ _ _ _ hne, State.cntGet_inc, hcnt]
  · rw [htransmit, State.cntGet_count, State.cntGet_inc_of_ne _ _ _ hne.symm, hcnt]
  · exact (State.transmit_keeps f.egress f.bytes (State.removeFrame_keeps k (Keeps.refl true s))).sameMemory

theorem State.dropUnlocked_drops (f : FrameSt) (hp : f.port < 16) : FrameDropped f drPtp s (s.dropUnlocked f) := by
  obtain ⟨hgone, hother, hcnt, hmem⟩ := s.dropFrame_drops f f drPtp hp rfl rfl
  set u := s.dropFrame f drPtp with hu
  have hraise := (Logs.refl ({ u with ipp := { u.ipp with unlockedSeen := true } } : State)).raise 83 (by decide)
  have hframes : (s.dropUnlocked f).ipp.frames = u.ipp.frames := by
    unfold State.dropUnlocked
    dsimp only
    split
    · rfl
    · exact (congrArg (fun x : State => x.ipp.frames) hraise.frame :)
  have hcounts : (s.dropUnlocked f).cntGet (R.LIF_DROP f.port drPtp) = u.cntGet (R.LIF_DROP f.port drPtp) := by
    unfold State.dropUnlocked
    dsimp only
    split
    · rfl
    · exact hraise.counts _ fun k hk => by
        simp only [R.LIF_DROP, R.EVC_CNT, drPtp]
        omega
  exact ⟨(State.frame?_congr hframes _).trans hgone, fun i hi => (State.frame?_congr hframes _).trans (hother i hi), hcounts.trans hcnt,
    (State.dropUnlocked_keeps f (Keeps.refl true s)).sameMemory⟩

theorem ptpHoldTimeout_drops (k : Nat) (f : FrameSt) (hf : s.frame? k = some f) (hph : f.phase = .held) (hp : f.port < 16)
    (ht : f.time + 50000000 ≤ s.time) : ∃ t, exec (.ptpHoldTimeout k) s = .next t ∧ FrameDropped f drPtp s t := by
  refine ⟨s.dropUnlocked f, congrArg Host.Outcome.next (?_ : (match s.frame? k with
    | some x => if x.phase = FramePhase.held ∧ x.time + 50000000 ≤ s.time then s.dropUnlocked x else s
    | none => s) = _), s.dropUnlocked_drops f hp⟩
  simp only [hf, hph, ht, and_self, if_true]

theorem timeAvailable_commits (k : Nat) (f : FrameSt) (p : Parsed) (hf : s.frame? k = some f) (hid : f.id = k)
    (htime : s.timeAvail = true) (hheld : s.ipp.frames.filter (fun f => f.phase == .held) = [f]) (ha : f.action = 1) (hp8 : f.port < 8)
    (hreach : s.ctxReach f.ctx = true) (hp : parseFrame f.bytes = some p) (hty : cType (s.ctx f.ctx) = ctGroup)
    (hsuits : suitsTx (s.ctx f.ctx) p f.bytes = true) (hopen : txOpen (s.ctx f.ctx) = true)
    (hkey : keyExpired (leAt (s.ctx f.ctx) 152 8) f.ptp = false) :
    ∃ t g, exec .timeAvailable s = .next t ∧ t.frame? k = some g ∧ g.phase = .commit ∧ g.bytes = f.bytes ∧
      t.ipp.unlockedSeen = false ∧ SameMemory s t := by
  set u : State := { s with ipp := { s.ipp with unlockedSeen := false } } with hu
  set g : FrameSt := { f with phase := .commit } with hg
  set v := u.touch f.ctx with hv
  have hwork : StoreWork u v := (StoreWork.refl u).touch f.ctx
  have hctx : v.ctx f.ctx = s.ctx f.ctx := u.ctx_touch f.ctx f.ctx
  have htv : v.timeAvail = true := by
    have hlocked : v.on F.IPP_STAT_PTP_LOCKED = s.on F.IPP_STAT_PTP_LOCKED := hwork.on F.IPP_STAT_PTP_LOCKED (by decide)
    have hhold : v.on F.IPP_STAT_PTP_HOLDOVER = s.on F.IPP_STAT_PTP_HOLDOVER := hwork.on F.IPP_STAT_PTP_HOLDOVER (by decide)
    rw [State.timeAvail, hlocked, hhold]
    exact htime
  have hport : ¬ 8 ≤ f.port := by omega
  have hrelease : s.releaseHeld = v.enterCommit g f.bytes := by
    have hreachU : u.ctxReach f.ctx = true := hreach
    have hpre : u.preCommit g = v.preProtect g p := by
      unfold State.preCommit
      simp only [hg, ha, hreachU, hp, true_or, if_true, Bool.not_true, Bool.false_eq_true, if_false, hv]
    have hprotect : v.preProtect g p = v.enterCommit g f.bytes := by
      unfold State.preProtect
      simp only [hg, hctx, hport, hsuits, hopen, hty, htv, hkey, Bool.not_true, Bool.false_eq_true, or_self, if_true, if_false]
    unfold State.releaseHeld
    simp only [htime, Bool.not_true, Bool.false_eq_true, if_false]
    show (u.ipp.frames.filter (fun f => f.phase == FramePhase.held)).foldl (fun s f => s.preCommit { f with phase := .commit }) u = _
    rw [show u.ipp.frames.filter (fun f => f.phase == FramePhase.held) = [f] from hheld, List.foldl_cons, List.foldl_nil]
    exact hpre.trans hprotect
  have hframe : v.frame? f.id = some f := (State.frame?_congr (s := u) (congrArg IppSt.frames hwork.ipp) _).trans (hid ▸ hf)
  have hput := v.frame?_putFrame_self { g with bytes := f.bytes, ident := v.identFor g f.bytes, phase := .commit } f hframe
  refine ⟨_, { g with bytes := f.bytes, ident := v.identFor g f.bytes, phase := .commit }, congrArg Host.Outcome.next hrelease, ?_, rfl, rfl, ?_, ?_⟩
  · rw [← hid]
    exact hput
  · exact congrArg IppSt.unlockedSeen hwork.ipp
  · exact SameMemory.trans (t := u) .of_eq (State.putFrame_keeps _ (State.touch_keeps f.ctx (Keeps.refl true u))).sameMemory

theorem svcFrameTx_enqueues (p : Fin 16) (bs : List Byte) (hruns : s.svcRuns = true) (hnew : s.frame? s.ipp.nextId = none)
    (ht : s.egressTakes p 2 bs.length) :
    ∃ t, exec (.svcFrameTx p bs) s = .next t ∧ t.frame? s.ipp.nextId = some { s.newFrame 16 bs with egress := p.val, phase := .egress } ∧
      t = { s with ipp := { s.ipp with frames := t.ipp.frames, nextId := s.ipp.nextId + 1 } } := by
  set g : FrameSt := { s.newFrame 16 bs with egress := p.val } with hg
  set u := s.addFrame g with hu
  have hqueued : ∀ P, u.queuedBytes P = s.queuedBytes P := fun P => by
    have hcommit : (g.phase == .egress && g.cls != 0 && P g.egress) = false := rfl
    show (((s.ipp.frames ++ [g]).filter _).map _).sum = _
    rw [List.filter_append, List.filter_cons_of_neg (by rw [hcommit]; exact Bool.false_ne_true), List.filter_nil, List.append_nil]
    rfl
  have htakes : u.egressTakes g.egress g.cls bs.length := State.egressTakes_congr hqueued (fun _ _ => rfl) p 2 _ ht
  have hsend : s.svcSend p bs = u.putFrame { g with bytes := bs, phase := .egress } := by
    rw [← u.enqueuePort_takes g bs htakes, State.svcSend, hruns]
    rfl
  have hframe : u.frame? g.id = some g := by
    show (s.ipp.frames ++ [g]).find? (fun f => f.id == g.id) = some g
    rw [List.find?_append, show s.ipp.frames.find? (fun f => f.id == g.id) = none from hnew, Option.none_or,
      List.find?_cons_of_pos (by simp)]
  exact ⟨_, congrArg Host.Outcome.next hsend, u.frame?_putFrame_self { g with bytes := bs, phase := .egress } g hframe, rfl⟩

end

/-- Settles O34: one lemma per clause; the commit leaves the ports as they are (`StoreWork`). -/
theorem frameTransmission : Obligations.FrameTransmission := by
  unfold Obligations.FrameTransmission
  refine ⟨fun s k f hnext hf hid hi he => ⟨fun ha hp hbig => dataPath_dropsBig s k f hnext hf hid hi ha he hp hbig,
    fun ha hp hfit hdown => dataPath_dropsDown s k f hnext hf hid hi ha he hp hfit hdown,
    fun ha ht => dataPath_enqueues s k f hnext hf hid hi ha he ht, ?_⟩,
    fun s k f hf hid hph hfirst _ hup htc hloop => frameEgress_leaves s k f hf hid hph hfirst hup htc hloop,
    fun s k f hf hid hph hp => ⟨fun ht => ptpHoldTimeout_drops s k f hf hph hp ht, ?_⟩,
    fun s p bs hruns hnew ht => svcFrameTx_enqueues s p bs hruns hnew ht⟩
  · rintro c x n p out ha rfl hx hlen hn hp hty hst hreach hnone hw hl hout ht
    exact dataPath_protects s k f hnext hf hid hi he x n p out ha hx hlen hn hp hty hst hreach hnone hw hl hout ht
  · intro p htime hheld ha hp8 hreach hpf hty hsuits hopen hkey
    exact timeAvailable_commits s k f p hf hid htime hheld ha hp8 hreach hpf hty hsuits hopen hkey

end Sys2Proof.Machine
end

section
/-! PROOF. O43: blobs (R411), the battery-backed key (R399), ERASE_ALL and stateful events (R408). -/

namespace Sys2Proof.Machine

/-- A field of a word is not touched by the bits that a command sets outside it. -/
theorem bits_or_kept (v c : Word) (lo w : Nat) (h : ∀ i < w, c.getLsbD (lo + i) = false) : bits (v ||| c).toNat lo w = bits v.toNat lo w := by
  refine Nat.eq_of_testBit_eq fun i => ?_
  rw [bits_testBit, bits_testBit]
  by_cases hi : i < w
  · rw [BitVec.testBit_toNat, BitVec.testBit_toNat, BitVec.getLsbD_or, h i hi, Bool.or_false]
  · rw [decide_eq_false hi, Bool.false_and, Bool.false_and]

section
variable (s : State)

/-! ### A blob in Cupola's SRAM -/

/-- The registers of a load that has begun. -/
def State.blBegun (s : State) (v : Word) : State :=
  ((s.put F.KEEP_BL_CMD_TARGET (bits v.toNat 0 14)).putB F.KEEP_BL_CMD_ANY (v.getLsbD 14)).set ⟨R.KEEP_BL_CMD, 31, 1⟩

theorem State.blBegun_target (v : Word) : (s.blBegun v).on F.KEEP_BL_CMD_ANY = v.getLsbD 14 ∧
    (s.blBegun v).get F.KEEP_BL_CMD_TARGET = bits v.toNat 0 14 := by
  unfold State.blBegun
  constructor
  · rw [State.on_set_bit _ _ _ _ _ (by decide)]
    exact (Bool.false_or _).trans (State.on_putB_self _ _ _ (by decide) rfl)
  · refine (State.get_put_apart _ _ _ _ (.inr (.inr (by decide)))).trans ((State.get_put_apart _ _ _ _ (.inr (.inr (by decide)))).trans ?_)
    rw [State.get_put_self _ _ _ (by decide), Nat.mod_eq_of_lt]
    exact Nat.mod_lt _ (by decide)

theorem State.blBegun_regs (v : Word) : SameRegsBut [R.KEEP_BL_CMD] s (s.blBegun v) :=
  (((SameRegsBut.refl _ s).put F.KEEP_BL_CMD_TARGET _ (by decide)).put F.KEEP_BL_CMD_ANY _ (by decide)).put ⟨R.KEEP_BL_CMD, 31, 1⟩ 1 (by decide)

/-- The slot that a blob fills, and its counter. -/
def State.blFilled (s : State) (i : Nat) (y : Slot) : State := ((s.reserveSlot i y.keyLen false).fillSlot i y).inc (R.KEEP_CNT 3)

theorem State.blFilled_slot (i : Nat) (y : Slot) : (s.blFilled i y).slot i =
    { y with st := .live, gen := (s.slot i).gen, freedAt := (s.slot i).freedAt } ∧ ∀ k, k ≠ i → (s.blFilled i y).slot k = s.slot k := by
  have hkeep : (s.blFilled i y).keep = ((s.reserveSlot i y.keyLen false).fillSlot i y).keep :=
    (congrArg State.keep (State.inc_eventFrame _ _) :)
  have hslot : ∀ k, (s.blFilled i y).slot k = ((s.reserveSlot i y.keyLen false).fillSlot i y).slot k := fun k => by
    rw [State.slot, hkeep, State.slot]
  refine ⟨?_, fun k hk => ?_⟩
  · rw [hslot, State.fillSlot, State.slot_putSlot_self, State.reserveSlot, State.slot_putSlot_self]
  · rw [hslot, State.fillSlot, State.slot_putSlot_of_ne _ _ _ _ hk, State.reserveSlot, State.slot_putSlot_of_ne _ _ _ _ hk]

/-- The answer to a load that has filled its slot. -/
theorem State.blAnswer_ok (h : Nat) : (s.blAnswer (stOk, 0) h).rd R.KEEP_BL_RES = 0 ∧
    (s.blAnswer (stOk, 0) h).rd R.KEEP_BL_HANDLE = BitVec.ofNat 32 h ∧ (s.blAnswer (stOk, 0) h).on ⟨R.KEEP_BL_CMD, 31, 1⟩ = false ∧
    (s.blAnswer (stOk, 0) h).keep = s.keep := by
  have heq : s.blAnswer (stOk, 0) h =
      ((s.wr R.KEEP_BL_RES 0).wr R.KEEP_BL_HANDLE (BitVec.ofNat 32 h)).clr ⟨R.KEEP_BL_CMD, 31, 1⟩ := rfl
  rw [heq]
  refine ⟨?_, ?_, State.on_clr_self _ _ (by decide), rfl⟩
  · rw [State.clr, State.rd_put_of_ne _ _ _ _ (by decide), State.rd_wr_of_ne _ _ _ _ (by decide), State.rd_wr_self]
  · rw [State.clr, State.rd_put_of_ne _ _ _ _ (by decide), State.rd_wr_self]

theorem blobLoad_fills (r : Req) (v : Word) (b : List Byte) (y : Slot) (i : Nat) (h : s.mayWrite r R.KEEP_BL_CMD)
    (hidle : s.on ⟨R.KEEP_BL_CMD, 31, 1⟩ = false) (hfits : s.blobFits = true)
    (hb : b = memRead s.cupMem (s.rd R.KEEP_BL_ADDR).toNat (s.rd R.KEEP_BL_LEN).toNat) (hbbk : s.keep.bbkValid = true)
    (herr : s.blobErr b none = none) (hopen : s.openBlob b = some y) (hleaf : y.leaf = none)
    (htarget : s.findTarget (if v.getLsbD 14 then none32 else bits v.toNat 0 14) y.keyLen false = some i) :
    ∃ t, exec (.blobLoad r v) s = .next t ∧ (t.slot i).st = .live ∧ (t.slot i).key = y.key ∧ (t.slot i).gen = (s.slot i).gen ∧
      (∀ k, k ≠ i → t.slot k = s.slot k) ∧ t.rd R.KEEP_BL_RES = 0 ∧
      t.rd R.KEEP_BL_HANDLE = BitVec.ofNat 32 (s.handleOf i) ∧ t.on ⟨R.KEEP_BL_CMD, 31, 1⟩ = false ∧ SameMemory s t := by
  set w := v ||| 0x80000000 with hw
  set u := s.blBegun v with hu
  have hregs := s.blBegun_regs v
  obtain ⟨hany, htgt⟩ := s.blBegun_target v
  have h31 : bit w.toNat 31 = true := bit_or_set v 0x80000000 31 (by decide)
  have h14 : bit w.toNat 14 = v.getLsbD 14 := bit_or_kept v 0x80000000 14 (by decide)
  have hlow : bits w.toNat 0 14 = bits v.toNat 0 14 := bits_or_kept v 0x80000000 0 14 (by decide)
  have hbegin : s.blCmdWrite w = u.blobLoad := by
    have hfits' : ((s.put F.KEEP_BL_CMD_TARGET (bits w.toNat 0 14)).putB F.KEEP_BL_CMD_ANY (bit w.toNat 14)).blobFits = true := by
      have hlen : ((s.put F.KEEP_BL_CMD_TARGET (bits w.toNat 0 14)).putB F.KEEP_BL_CMD_ANY (bit w.toNat 14)).rd R.KEEP_BL_LEN = s.rd R.KEEP_BL_LEN :=
        (State.rd_put_of_ne _ _ _ _ (by decide)).trans (State.rd_put_of_ne _ _ _ _ (by decide))
      rw [State.blobFits, hlen]
      exact hfits
    unfold State.blCmdWrite
    simp only [hidle, h31, Bool.not_true, Bool.or_self, Bool.false_eq_true, if_false, hfits', if_true]
    rw [hu, State.blBegun, hlow, h14]
  have hmem : memRead u.cupMem (u.rd R.KEEP_BL_ADDR).toNat (u.rd R.KEEP_BL_LEN).toNat = b := by
    rw [hregs _ (by decide), hregs _ (by decide), hb]
    rfl
  have herr' : u.blobErr b none = none := herr
  have hopen' : u.openBlob b = some y := by
    have hkey : u.blobKey = s.blobKey := by
      have hlcs : u.get F.LCS_STATE_STATE = s.get F.LCS_STATE_STATE := by rw [State.get, hregs _ (by decide), State.get]
      rw [State.blobKey, hlcs]
      rfl
    rw [State.openBlob, hkey]
    exact hopen
  have htarget' : u.findTarget (if u.on F.KEEP_BL_CMD_ANY = true then none32 else u.get F.KEEP_BL_CMD_TARGET) y.keyLen false = some i := by
    rw [hany, htgt]
    exact htarget
  have hbbk' : u.keep.bbkValid = true := hbbk
  have hload : u.blobLoad = (u.blFilled i y).blAnswer (stOk, 0) ((u.reserveSlot i y.keyLen false).handleOf i) := by
    unfold State.blobLoad
    simp only [hmem, hbbk', if_true, herr', hopen', htarget', hleaf]
    rfl
  have hhandle : (u.reserveSlot i y.keyLen false).handleOf i = s.handleOf i := by
    rw [State.handleOf, State.reserveSlot, State.slot_putSlot_self]
    rfl
  obtain ⟨hself, hother⟩ := u.blFilled_slot i y
  obtain ⟨hres, hhan, hstart, hkeep⟩ := (u.blFilled i y).blAnswer_ok ((u.reserveSlot i y.keyLen false).handleOf i)
  have hslot : ∀ k, ((u.blFilled i y).blAnswer (stOk, 0) ((u.reserveSlot i y.keyLen false).handleOf i)).slot k = (u.blFilled i y).slot k :=
    fun k => by rw [State.slot, hkeep, State.slot]
  refine ⟨_, congrArg Host.Outcome.next ((s.gateW_granted r _ _ h).trans (hbegin.trans hload)), ?_, ?_, ?_, fun k hk => ?_, hres,
    hhan.trans (congrArg (BitVec.ofNat 32) hhandle), hstart, ?_⟩
  · rw [hslot, hself]
  · rw [hslot, hself]
  · rw [hslot, hself]
    rfl
  · rw [hslot, hother k hk]
    rfl
  · rw [← hload, ← hbegin]
    exact (State.blCmdWrite_keeps w (Keeps.refl true s)).sameMemory

/-! ### The battery-backed key -/

theorem bbkGen_makes (r : Req) (h : s.mayWrite r R.KEEP_BBK_CTL) (hrng : s.rngState = rngRunning) (h0 : s.get F.LCS_STATE_STATE ≠ 0)
    (h5 : s.get F.LCS_STATE_STATE ≠ 5) (h15 : s.get F.LCS_STATE_STATE ≠ 15) : ∃ t, exec (.bbkGen r 0) s = .next t ∧
      t.keep.bbkValid = true ∧ t.keep.bbk.length = 32 ∧ t.keep.bbkGen = (s.keep.bbkGen + 1) % 2 ^ 32 ∧ t.keep.cells = [] ∧
      t.keep.slots = s.keep.slots ∧ t.on F.KEEP_STAT_BBK_LOST = false ∧ t.on F.KEEP_STAT_BBK_VALID = true ∧
      t.rd R.KEEP_BBK_GEN = BitVec.ofNat 32 t.keep.bbkGen ∧ SameMemory s t := by
  set u := (s.draw 11 32).2 with hu
  set x : State := { u with keep := { u.keep with
    bbk := (s.draw 11 32).1, bbkValid := true, bbkGen := (u.keep.bbkGen + 1) % 2 ^ 32, cells := [] } } with hx
  set y := (x.clr F.KEEP_STAT_BBK_LOST).clr F.KEEP_BBK_CTL_GEN with hy
  have hgen : s.bbkGenerate = y.syncBattery := by
    have hfailed : ¬ rngRunning = rngFailed := by decide
    unfold State.bbkGenerate
    simp only [hrng, h0, h5, h15, hfailed, or_self, if_false, ne_eq, not_true_eq_false]
    rfl
  have hkeep : u.keep = s.keep := (congrArg State.keep (State.count_eventFrame _ (R.RNG_CNT 2) 32) :)
  have hlen : (s.draw 11 32).1.length = 32 := by
    show ((List.range 32).map _).length = 32
    rw [List.length_map, List.length_range]
  refine ⟨y.syncBattery, congrArg Host.Outcome.next ((s.gateW_granted r _ _ h).trans hgen), rfl, hlen, ?_, rfl, ?_, ?_, ?_, ?_, ?_⟩
  · exact congrArg (fun k : KeepSt => (k.bbkGen + 1) % 2 ^ 32) hkeep
  · show u.keep.slots = _
    rw [hkeep]
  · have hlost : y.on F.KEEP_STAT_BBK_LOST = false := (State.on_put_apart _ _ _ _ (.inl (by decide))).trans (State.on_clr_self _ _ (by decide))
    rw [State.syncBattery, State.on, State.get, State.rd_wr_of_ne _ _ _ _ (by decide)]
    exact (State.on_putB_bit_of_ne y _ _ _ F.KEEP_STAT_BBK_LOST ((Fld.apart_bits_iff _ _ _ _).2 (by decide))).trans hlost
  · rw [State.syncBattery, State.on, State.get, State.rd_wr_of_ne _ _ _ _ (by decide)]
    exact State.on_putB_self y F.KEEP_STAT_BBK_VALID true (by decide) rfl
  · exact State.rd_wr_self _ _ _
  · rw [← hgen]
    exact (State.bbkGenerate_keeps (Keeps.refl true s)).sameMemory

/-! ### ERASE_ALL -/

/-- An EMPTY slot without a key, as a slot is after its erasure. -/
def Slot.blank (x : Slot) : Prop := x.st = .empty ∧ x.key = []

theorem State.eraseSlot_keep (i : Nat) : (s.eraseSlot i).keep.bbk = s.keep.bbk ∧ (s.eraseSlot i).keep.cells = s.keep.cells ∧
    (∀ k, k ≠ i → (s.eraseSlot i).slot k = s.slot k) ∧ ((s.slot i).st = .empty → (s.eraseSlot i).slot i = s.slot i) ∧
    ((s.slot i).st ≠ .empty → ((s.eraseSlot i).slot i).blank) := by
  have hcount : ∀ x : State, (x.inc (R.KEEP_CNT 4)).keep = x.keep := fun x => (congrArg State.keep (x.inc_eventFrame _) :)
  have hempty : ∀ x : State, x.keep = s.keep → ((x.emptySlot i).inc (R.KEEP_CNT 4)).keep.bbk = s.keep.bbk ∧
      ((x.emptySlot i).inc (R.KEEP_CNT 4)).keep.cells = s.keep.cells ∧
      (∀ k, k ≠ i → ((x.emptySlot i).inc (R.KEEP_CNT 4)).slot k = s.slot k) ∧ (((x.emptySlot i).inc (R.KEEP_CNT 4)).slot i).blank := by
    intro x hx
    have hslot : ∀ k, ((x.emptySlot i).inc (R.KEEP_CNT 4)).slot k = (x.emptySlot i).slot k := fun k => by
      rw [State.slot, hcount, State.slot]
    refine ⟨by rw [hcount, ← hx]; rfl, by rw [hcount, ← hx]; rfl, fun k hk => ?_, ?_⟩
    · rw [hslot, State.emptySlot, State.slot_putSlot_of_ne _ _ _ _ hk]
      show sget slotDefault x.keep.slots k = _
      rw [hx, State.slot]
    · rw [hslot, State.emptySlot, State.slot_putSlot_self]
      exact ⟨rfl, rfl⟩
  unfold State.eraseSlot
  split
  · next h => exact ⟨rfl, rfl, fun _ _ => rfl, fun _ => rfl, fun hne => absurd h hne⟩
  · next h =>
    obtain ⟨hbbk, hcells, hother, hself⟩ := hempty (s.dropTarget i) rfl
    exact ⟨hbbk, hcells, hother, fun he => absurd (h.symm.trans he) (by decide), fun _ => hself⟩
  · next h =>
    obtain ⟨hbbk, hcells, hother, hself⟩ := hempty s rfl
    exact ⟨hbbk, hcells, hother, fun he => absurd (h.symm.trans he) (by decide), fun _ => hself⟩

theorem State.eraseSlots_keep (l : List Nat) : (s.eraseSlots l).keep.bbk = s.keep.bbk ∧ (s.eraseSlots l).keep.cells = s.keep.cells ∧
    ∀ k, ((s.slot k).st = .empty → (s.eraseSlots l).slot k = s.slot k) ∧ ((s.slot k).st ≠ .empty → k ∈ l → ((s.eraseSlots l).slot k).blank) := by
  induction l generalizing s with
  | nil => exact ⟨rfl, rfl, fun k => ⟨fun _ => rfl, fun _ hk => absurd hk List.not_mem_nil⟩⟩
  | cons i l ih =>
    obtain ⟨hbbk, hcells, hother, hstay, hblank⟩ := s.eraseSlot_keep i
    obtain ⟨hbbk', hcells', hrest⟩ := ih (s.eraseSlot i)
    refine ⟨hbbk'.trans hbbk, hcells'.trans hcells, fun k => ?_⟩
    obtain ⟨hsame, herase⟩ := hrest k
    by_cases hk : k = i
    · subst hk
      refine ⟨fun he => ?_, fun hne _ => ?_⟩
      · rw [State.eraseSlots, hsame (by rw [hstay he]; exact he), hstay he]
      · rw [State.eraseSlots, hsame (hblank hne).1]
        exact hblank hne
    · rw [hother k hk] at hsame herase
      exact ⟨hsame, fun hne hmem => herase hne ((List.mem_cons.1 hmem).resolve_left hk)⟩

theorem eraseAll_empties (r : Req) (h : s.mayWrite r R.KEEP_CTL) : ∃ t, exec (.eraseAll r 0 0) s = .next t ∧
    (∀ i, (t.slot i).st = .empty) ∧ (∀ i, (s.slot i).st ≠ .empty → (t.slot i).key = []) ∧
    t.keep.bbk = s.keep.bbk ∧ t.keep.cells = s.keep.cells ∧ SameMemory s t := by
  have hwrite : s.keepCtlWrite 0 (0 ||| 1) = s.eraseAllSlots := rfl
  have hlisted : ∀ i, (s.slot i).st ≠ .empty → i ∈ s.slotsWhere (fun _ => true) := by
    intro i hi
    rcases sget_mem_or slotDefault s.keep.slots i with hmem | ⟨-, hread⟩
    · refine List.mem_map.2 ⟨_, List.mem_filter.2 ⟨hmem, ?_⟩, rfl⟩
      have hst : (sget slotDefault s.keep.slots i).st ≠ .empty := hi
      simpa using hst
    · exact absurd (congrArg Slot.st hread) hi
  obtain ⟨hbbk, hcells, hslots⟩ := s.eraseSlots_keep (s.slotsWhere (fun _ => true))
  refine ⟨_, congrArg Host.Outcome.next ((s.gateW_granted r _ _ h).trans hwrite), fun i => ?_, fun i hi => ((hslots i).2 hi (hlisted i hi)).2,
    hbbk, hcells, (State.eraseSlots_keeps _ (Keeps.refl true s)).sameMemory⟩
  by_cases hi : (s.slot i).st = .empty
  · exact (congrArg Slot.st ((hslots i).1 hi)).trans hi
  · exact ((hslots i).2 hi (hlisted i hi)).1

/-! ### Stateful events -/

theorem sfevtRead_takes (r : Req) (h : s.mayRead r R.KEEP_SFEVT) (e : Word) (l : List Word) (he : s.keep.sfevt = e :: l) :
    ∃ t, exec (.sfevtRead r) s = .next t ∧ t.busOut = e.setWidth 64 ∧ t.keep = { s.keep with sfevt := l } ∧
      SameRegsBut eventRegs s t ∧ SameMemory s t := by
  set x : State := { s with busOut := e.setWidth 64, keep := { s.keep with sfevt := l } } with hx
  have htake : s.sfevtTake = x.syncSfevt := by simp only [State.sfevtTake, he, hx]
  have hlog : Logs x x.syncSfevt := (Logs.refl x).level 200 (by decide) _
  exact ⟨_, congrArg Host.Outcome.next ((s.gateR_granted r _ _ h).trans htake), (congrArg State.busOut hlog.frame :), hlog.keep, hlog.regs,
    SameMemory.trans (t := x) .of_eq (State.syncSfevt_keeps (Keeps.refl true x)).sameMemory⟩

end

/-- Settles O43: one lemma per command. -/
theorem keepCommands : Obligations.KeepCommands := by
  refine ⟨fun s r v b y i h hidle hfits hb hbbk herr hopen hleaf ht => blobLoad_fills s r v b y i h hidle hfits hb hbbk herr hopen hleaf ht,
    fun s r h hrng h0 h5 h15 => bbkGen_makes s r h hrng h0 h5 h15, fun s r h => eraseAll_empties s r h,
    fun s r h => ⟨fun hnil => ?_, fun e l he => sfevtRead_takes s r h e l he⟩⟩
  have htake : s.sfevtTake = { s with busOut := 0 } := by simp only [State.sfevtTake, hnil]
  exact congrArg Host.Outcome.next ((s.gateR_granted r _ _ h).trans htake)

end Sys2Proof.Machine
end

section
/-! PROOF. The channels of DKE (10): reads after updates, and the frame of the work in one channel. -/

namespace Sys2Proof.Machine

@[simp] theorem State.dkeCh_putDke_self (s : State) (c : Nat) (x : DkeCh) : (s.putDke c x).dkeCh c = x := sget_sput_self _ _ _ _

theorem State.dkeCh_putDke_of_ne (s : State) (c d : Nat) (x : DkeCh) (h : d ≠ c) : (s.putDke c x).dkeCh d = s.dkeCh d :=
  sget_sput_of_ne _ _ _ _ _ h

theorem State.count_dke (s : State) (o n : Nat) : (s.count o n).dke = s.dke := (congrArg State.dke (s.count_eventFrame o n) :)

theorem State.dkeCh_count (s : State) (o n c : Nat) : (s.count o n).dkeCh c = s.dkeCh c := by
  rw [State.dkeCh, s.count_dke, State.dkeCh]

/-! ### Words stored one after the other -/

theorem State.wrWords_frame (s : State) (o : Nat) (vs : List Word) : s.wrWords o vs = { s with regs := (s.wrWords o vs).regs } := by
  induction vs generalizing s o with
  | nil => rfl
  | cons v vs ih => exact ih _ _

theorem State.rd_wrWords_of_out (s : State) (o p : Nat) (vs : List Word) (h : p < o ∨ o + 4 * vs.length ≤ p) :
    (s.wrWords o vs).rd p = s.rd p := by
  induction vs generalizing s o with
  | nil => rfl
  | cons v vs ih =>
    rw [List.length_cons] at h
    rw [State.wrWords, ih _ _ (by omega), State.rd_wr_of_ne _ _ _ _ (by omega)]

theorem State.rd_wrWords_at (s : State) (o i : Nat) (vs : List Word) (h : i < vs.length) :
    (s.wrWords o vs).rd (o + i * 4) = vs.getD i 0 := by
  induction vs generalizing s o i with
  | nil => exact absurd h (Nat.not_lt_zero _)
  | cons v vs ih =>
    rw [State.wrWords]
    cases i with
    | zero =>
      rw [State.rd_wrWords_of_out _ _ _ _ (.inl (by omega))]
      exact s.rd_wr_self o v
    | succ i =>
      rw [List.getD_cons_succ, ← ih (s.wr o v) (o + 4) i (by simpa using h)]
      congr 1
      omega

/-! ### The work in one channel -/

/-- Only a channel, the registers and the counters have changed. -/
structure ChannelWork (c : Nat) (s t : State) : Prop where
  frame : t = { s with dke := t.dke, regs := t.regs, cnt := t.cnt }
  others : ∀ d, d ≠ c → t.dkeCh d = s.dkeCh d

theorem ChannelWork.refl (c : Nat) (s : State) : ChannelWork c s s := ⟨rfl, fun _ _ => rfl⟩

section
variable {c : Nat} {s t u : State} (h : ChannelWork c s t)
include h

theorem ChannelWork.trans (k : ChannelWork c t u) : ChannelWork c s u where
  frame := (k.frame.trans (congrArg (fun x : State => { x with dke := u.dke, regs := u.regs, cnt := u.cnt }) h.frame :) :)
  others := fun d hd => (k.others d hd).trans (h.others d hd)

theorem ChannelWork.putDke (x : DkeCh) : ChannelWork c s (t.putDke c x) :=
  h.trans ⟨rfl, fun d hd => t.dkeCh_putDke_of_ne c d x hd⟩

theorem ChannelWork.wr (o : Nat) (v : Word) : ChannelWork c s (t.wr o v) := h.trans ⟨rfl, fun _ _ => rfl⟩

theorem ChannelWork.put (f : Fld) (x : Nat) : ChannelWork c s (t.put f x) := h.wr _ _

theorem ChannelWork.wr64 (lo hi v : Nat) : ChannelWork c s (t.wr64 lo hi v) := (h.wr _ _).wr _ _

theorem ChannelWork.wrWords (o : Nat) (vs : List Word) : ChannelWork c s (t.wrWords o vs) := by
  refine h.trans ⟨?_, fun d _ => ?_⟩
  · rw [t.wrWords_frame o vs]
  · rw [t.wrWords_frame o vs]
    rfl

theorem ChannelWork.count (o n : Nat) : ChannelWork c s (t.count o n) := by
  refine h.trans ⟨?_, fun d _ => t.dkeCh_count o n d⟩
  rw [t.count_frame o n]

theorem ChannelWork.inc (o : Nat) : ChannelWork c s (t.inc o) := h.count o 1

theorem ChannelWork.ite {p : Prop} [Decidable p] (k : ChannelWork c s u) : ChannelWork c s (if p then t else u) := by
  split
  · exact h
  · exact k

theorem ChannelWork.sfiFlush : ChannelWork c s (t.sfiFlush c) := (h.putDke _).count _ _

theorem ChannelWork.dkeError (err info : Nat) : ChannelWork c s (t.dkeError c err info) :=
  (((h.putDke _).put _ _).put _ _).inc _

theorem ChannelWork.sfiDrop (ended : Bool) : ChannelWork c s (t.sfiDrop c ended) := by
  have hdrop := (h.putDke { (t.dkeCh c).dropOpen with dropping := !ended }).inc (R.SFI_CNT c 2)
  exact (hdrop.dkeError stLenShort 0).ite hdrop

theorem ChannelWork.dkeZeroRes : ChannelWork c s (t.dkeZeroRes c) := (h.wrWords _ _).wrWords _ _

theorem ChannelWork.sameMemory : SameMemory s t :=
  .of_eq (congrArg State.hostMem h.frame :) (congrArg State.svcMem h.frame :) (congrArg State.cupMem h.frame :)
    (congrArg (fun x : State => x.cup.flash) h.frame :) (congrArg State.otp h.frame :)

end

/-! ### What the shared operations leave in the channel -/

section
variable (s : State) (c : Nat)

theorem State.dkeCh_sfiFlush : (s.sfiFlush c).dkeCh c = { s.dkeCh c with packets := [], dropping := false } := by
  rw [State.sfiFlush, State.dkeCh_count, State.dkeCh_putDke_self]

theorem State.dkeCh_dkeError (err info : Nat) : (s.dkeError c err info).dkeCh c =
    { s.dkeCh c with st := .error, msg := [], key := [], abortPend := false, tamperPend := false } := by
  rw [State.dkeError, State.inc, State.dkeCh_count]
  exact State.dkeCh_putDke_self _ _ _

theorem dkeRegs_plain : ∀ c : Fin 4, satReg (R.DKE_STAT c) = false ∧ satReg (R.DKE_CMP c) = false ∧ satReg (R.DKE_BYTES_LO c) = false ∧
    satReg (R.DKE_BYTES_HI c) = false ∧ satReg (R.DKE_MODE c) = false ∧ satReg (R.SFI_STAT c) = false ∧
    ∀ i : Fin 16, satReg (R.DKE_RES c i) = false ∧ satReg (R.DKE_EXP c i) = false := by decide

theorem State.get_count_of_plain (o n : Nat) (f : Fld) (h : satReg f.off = false) : (s.count o n).get f = s.get f := by
  rw [State.get, s.rd_count_of_plain o n _ h, State.get]

theorem State.on_count_of_plain (o n : Nat) (f : Fld) (h : satReg f.off = false) : (s.count o n).on f = s.on f := by
  rw [State.on, s.get_count_of_plain o n f h, State.on]

/-- The error code of a channel that moves to ERROR. -/
theorem State.err_dkeError (c : Fin 4) (err info : Nat) : (s.dkeError c err info).get (F.DKE_STAT_ERR c) = err % 2 ^ 8 := by
  rw [State.dkeError, State.inc, State.get_count_of_plain _ _ _ _ (dkeRegs_plain c).1,
    State.get_put_apart _ _ _ _ (.inr (.inr (by simp))), State.get_put_self _ _ _ (by simp)]

theorem State.dkeZeroRes_frame : s.dkeZeroRes c = { s with regs := (s.dkeZeroRes c).regs } := by
  rw [State.dkeZeroRes, State.wrWords_frame, State.wrWords_frame s]

theorem State.rd_dkeZeroRes (i : Fin 16) : (s.dkeZeroRes c).rd (R.DKE_RES c i) = 0 ∧ (s.dkeZeroRes c).rd (R.DKE_EXP c i) = 0 := by
  have hzero : ∀ i : Fin 16, (List.replicate 16 (0 : Word)).getD i 0 = 0 := by decide
  have hlen : (List.replicate 16 (0 : Word)).length = 16 := List.length_replicate
  have hlt := i.isLt
  constructor
  · rw [State.dkeZeroRes, State.rd_wrWords_of_out _ _ _ _ (.inr (by rw [hlen]; simp only [R.DKE_RES, R.DKE_EXP]; omega))]
    exact (State.rd_wrWords_at s (R.DKE_RES c 0) i _ (by rw [hlen]; exact hlt)).trans (hzero i)
  · rw [State.dkeZeroRes]
    exact (State.rd_wrWords_at _ (R.DKE_EXP c 0) i _ (by rw [hlen]; exact hlt)).trans (hzero i)

theorem State.rd_dkeZeroRes_of_out (p : Nat) (h : p < R.DKE_EXP c 0 ∨ R.DKE_RES c 16 ≤ p) : (s.dkeZeroRes c).rd p = s.rd p := by
  have hlen : (List.replicate 16 (0 : Word)).length = 16 := List.length_replicate
  simp only [R.DKE_EXP, R.DKE_RES] at h
  rw [State.dkeZeroRes, State.rd_wrWords_of_out _ _ _ _ (by rw [hlen]; simp only [R.DKE_EXP]; omega),
    State.rd_wrWords_of_out _ _ _ _ (by rw [hlen]; simp only [R.DKE_RES]; omega)]

end

end Sys2Proof.Machine
end

section
/-! PROOF. Ownership and control of a channel of DKE (R417 to R420, R430). -/

namespace Sys2Proof.Machine

section
variable (s : State) (c : Fin 4)

/-! ### Taking and releasing -/

theorem dkeTake_owns (r : Req) (x : DkeCh) (hx : x = s.dkeCh c) (hh : dkeHolder r ≠ 0) (hfree : x.holder = 0) (htake : x.takePend = 0)
    (hmax : s.dkeHeld < s.get F.DKE_CFG_MAX_LOCKS) :
    s.dkeLockWrite r c 1 = if (s.running (0x60 + c)).isSome then s.putDke c { x with takePend := dkeHolder r }
      else s.putDke c { x with holder := dkeHolder r, st := .owned } := by
  subst hx
  show s.dkeTake r c = _
  have hno : ¬ (dkeHolder r = 0 ∨ (s.dkeCh c).holder ≠ 0 ∨ (s.dkeCh c).takePend ≠ 0 ∨ s.get F.DKE_CFG_MAX_LOCKS ≤ s.dkeHeld) := by
    rw [hfree, htake]
    omega
  unfold State.dkeTake
  simp only [if_neg hno]

/-- The counters of a lane are no registers of the channel. -/
theorem sfiCnt_outside : ∀ c : Fin 4, inInst .dkeCh c (R.SFI_CNT c 2) = false := by decide

theorem State.cntGet_resetRegs_of_out (ks : List RstKind) (sel : Nat → Bool) (o : Nat) (h : sel o = false) :
    (s.resetRegs ks sel).cntGet o = s.cntGet o := by
  show sget (fun _ => 0) (s.cnt.filter fun e => !(sel e.1 && resetsCounter ks e.1)) o = _
  rw [sget_filter_key (fun _ => 0) (fun k => !(sel k && resetsCounter ks k)), h]
  rfl

theorem State.resetRegs_frame (t : State) (ks : List RstKind) (sel : Nat → Bool)
    (h : t = { s with dke := t.dke, regs := t.regs, cnt := t.cnt }) : t.resetRegs ks sel = { s with
      dke := (t.resetRegs ks sel).dke
      regs := (t.resetRegs ks sel).regs
      cnt := (t.resetRegs ks sel).cnt
      cntCopy := (t.resetRegs ks sel).cntCopy } :=
  (congrArg (fun x : State =>
    { x with regs := (t.resetRegs ks sel).regs, cnt := (t.resetRegs ks sel).cnt, cntCopy := (t.resetRegs ks sel).cntCopy }) h :)

theorem State.dkeCh_resetRegs (t : State) (ks : List RstKind) (sel : Nat → Bool) (d : Nat) :
    (t.resetRegs ks sel).dkeCh d = t.dkeCh d := rfl

/-- A released channel: its lane is flushed, then the channel is idle, then its registers are reset. -/
theorem dkeRelease_eq : s.dkeRelease c =
    ((s.sfiFlush c).putDke c { DkeCh.idle with takePend := (s.dkeCh c).takePend }).resetRegs blkKinds (inInst .dkeCh c) := by
  rw [State.dkeRelease, State.dkeCh_sfiFlush]

theorem dkeRelease_frees : (s.dkeRelease c).dkeCh c = { DkeCh.idle with takePend := (s.dkeCh c).takePend } ∧
    (∀ d, d ≠ c.val → (s.dkeRelease c).dkeCh d = s.dkeCh d) ∧
    (s.dkeRelease c).cntGet (R.SFI_CNT c 2) =
      min (s.cntGet (R.SFI_CNT c 2) + (s.dkeCh c).packets.length) (cntMax (R.SFI_CNT c 2)) ∧
    s.dkeRelease c = { s with
      dke := (s.dkeRelease c).dke
      regs := (s.dkeRelease c).regs
      cnt := (s.dkeRelease c).cnt
      cntCopy := (s.dkeRelease c).cntCopy } := by
  rw [dkeRelease_eq]
  set x : DkeCh := { DkeCh.idle with takePend := (s.dkeCh c).takePend } with hx
  have hflush := (ChannelWork.refl c.val s).sfiFlush
  have hcnt : (s.sfiFlush c).cntGet (R.SFI_CNT c 2) = _ := State.cntGet_count _ _ _
  generalize s.sfiFlush c = y at hflush hcnt
  refine ⟨?_, fun d hd => ?_, ?_, State.resetRegs_frame _ _ _ _ (hflush.putDke x).frame⟩
  · rw [State.dkeCh_resetRegs, State.dkeCh_putDke_self]
  · rw [State.dkeCh_resetRegs, State.dkeCh_putDke_of_ne _ _ _ _ hd, hflush.others d hd]
  · rw [State.cntGet_resetRegs_of_out _ _ _ _ (sfiCnt_outside c)]
    exact hcnt

theorem lockWrite_releases (r : Req) (hheld : (s.dkeCh c).holder ≠ 0) (hmine : (s.dkeCh c).holder = dkeHolder r) :
    s.dkeLockWrite r c 2 = s.dkeRelease c := by
  have hown : ((s.dkeCh c).holder != 0 && (s.dkeCh c).holder == dkeHolder r) = true := by
    rw [Bool.and_eq_true, bne_iff_ne, beq_iff_eq]
    exact ⟨hheld, hmine⟩
  show (if (true && ((s.dkeCh c).holder != 0 && (s.dkeCh c).holder == dkeHolder r)) = true then s.dkeRelease c else s) = _
  rw [hown]
  rfl

theorem lockWrite_forces (hheld : (s.dkeCh c).holder ≠ 0) : s.dkeLockWrite .cupola c 4 = s.dkeRelease c := by
  show (if (true && (s.dkeCh c).holder != 0) = true then s.dkeRelease c else s) = _
  rw [bne_iff_ne.2 hheld]
  rfl

/-! ### Starting and clearing -/

theorem ctlWrite_starts (hok : s.dkeStartOk c = true) : s.dkeCtlWrite c 1 = s.putDke c { s.dkeCh c with
    st := if dkeKeyed (s.get (F.DKE_MODE_FUNC c)) then .keying else .absorb, msg := [], key := [] } := by
  show s.dkeStart c = _
  rw [State.dkeStart, if_pos hok]

theorem ctlWrite_rejects (hok : s.dkeStartOk c = false) : s.dkeCtlWrite c 1 = s.set (F.DKE_STAT_CTL_REJECT c) := by
  show s.dkeStart c = _
  rw [State.dkeStart, hok, if_neg Bool.false_ne_true]

theorem ctlWrite_aborts (hmsg : (s.dkeCh c).inMessage = true) :
    s.dkeCtlWrite c 2 = s.putDke c { s.dkeCh c with abortPend := true } := by
  show s.dkeAbort c = _
  rw [State.dkeAbort, if_pos hmsg]

/-- The registers that CLEAR zeroes are the channel's own. -/
theorem dkeRegs_inside : ∀ c : Fin 4, inInst .dkeCh c (R.DKE_CMP c) = true ∧ inInst .dkeCh c (R.DKE_BYTES_LO c) = true ∧
    inInst .dkeCh c (R.DKE_BYTES_HI c) = true ∧ inInst .dkeCh c (R.DKE_STAT c) = true := by decide

theorem dkeBlock_inside (k : Nat) (hk : k < 0x200) : inInst .dkeCh c (0x70000 + c * 0x200 + k) = true := by
  have hbase : ∀ c : Fin 4, locate (0x70000 + c * 0x200) = some (.dkeCh, c.val, 0) := by decide
  have hat := locate_inside _ _ _ _ k (hbase c) hk
  rw [Nat.sub_zero] at hat
  rw [inInst, hat]
  simp

/-- The channel's registers as CLEAR leaves them. -/
def State.dkeRegsCleared (c : Nat) : State :=
  ((((s.dkeZeroRes c).wr (R.DKE_CMP c) 0).wr64 (R.DKE_BYTES_LO c) (R.DKE_BYTES_HI c) 0).put (F.DKE_STAT_ERR c) 0).put
    (F.DKE_STAT_ERR_INFO c) 0

theorem State.dkeRegsCleared_frame : s.dkeRegsCleared c = { s with regs := (s.dkeRegsCleared c).regs } := by
  have hgen : ∀ z : State, z = { s with regs := z.regs } → ∀ o v, z.wr o v = { s with regs := (z.wr o v).regs } := fun z hz o v =>
    (congrArg (fun x : State => { x with regs := (z.wr o v).regs }) hz :)
  exact hgen _ (hgen _ (hgen _ (hgen _ (hgen _ (s.dkeZeroRes_frame c) _ _) _ _) _ _) _ _) _ _

theorem State.rd_dkeRegsCleared_of_ne (p : Nat) (hcmp : p ≠ R.DKE_CMP c) (hlo : p ≠ R.DKE_BYTES_LO c) (hhi : p ≠ R.DKE_BYTES_HI c)
    (hstat : p ≠ R.DKE_STAT c) : (s.dkeRegsCleared c).rd p = (s.dkeZeroRes c).rd p := by
  rw [State.dkeRegsCleared, State.rd_put_of_ne _ _ _ _ hstat, State.rd_put_of_ne _ _ _ _ hstat, State.wr64,
    State.rd_wr_of_ne _ _ _ _ hhi, State.rd_wr_of_ne _ _ _ _ hlo, State.rd_wr_of_ne _ _ _ _ hcmp]

theorem State.rd_dkeRegsCleared (i : Fin 16) :
    (s.dkeRegsCleared c).rd (R.DKE_RES c i) = 0 ∧ (s.dkeRegsCleared c).rd (R.DKE_EXP c i) = 0 := by
  obtain ⟨hres, hexp⟩ := s.rd_dkeZeroRes c i
  have hi := i.isLt
  constructor
  · rw [s.rd_dkeRegsCleared_of_ne c _ (by simp only [R.DKE_RES, R.DKE_CMP]; omega) (by simp only [R.DKE_RES, R.DKE_BYTES_LO]; omega)
      (by simp only [R.DKE_RES, R.DKE_BYTES_HI]; omega) (by simp only [R.DKE_RES, R.DKE_STAT]; omega), hres]
  · rw [s.rd_dkeRegsCleared_of_ne c _ (by simp only [R.DKE_EXP, R.DKE_CMP]; omega) (by simp only [R.DKE_EXP, R.DKE_BYTES_LO]; omega)
      (by simp only [R.DKE_EXP, R.DKE_BYTES_HI]; omega) (by simp only [R.DKE_EXP, R.DKE_STAT]; omega), hexp]

theorem State.dkeRegsCleared_zero : (s.dkeRegsCleared c).rd (R.DKE_CMP c) = 0 ∧ (s.dkeRegsCleared c).rd (R.DKE_BYTES_LO c) = 0 ∧
    (s.dkeRegsCleared c).rd (R.DKE_BYTES_HI c) = 0 ∧ (s.dkeRegsCleared c).get (F.DKE_STAT_ERR c) = 0 := by
  refine ⟨?_, ?_, ?_, ?_⟩
  · rw [State.dkeRegsCleared, State.rd_put_of_ne _ _ _ _ (by simp), State.rd_put_of_ne _ _ _ _ (by simp), State.wr64,
      State.rd_wr_of_ne _ _ _ _ (by simp), State.rd_wr_of_ne _ _ _ _ (by simp), State.rd_wr_self]
  · rw [State.dkeRegsCleared, State.rd_put_of_ne _ _ _ _ (by simp), State.rd_put_of_ne _ _ _ _ (by simp), State.wr64,
      State.rd_wr_of_ne _ _ _ _ (by simp), State.rd_wr_self]
    rfl
  · rw [State.dkeRegsCleared, State.rd_put_of_ne _ _ _ _ (by simp), State.rd_put_of_ne _ _ _ _ (by simp), State.wr64, State.rd_wr_self]
    rfl
  · rw [State.dkeRegsCleared, State.get_put_apart _ _ _ _ (.inr (.inr (by simp))), State.get_put_self _ _ _ (by simp),
      Nat.zero_mod]

theorem State.dkeCh_congr {s t : State} (d : Nat) (h : t.dke = s.dke) : t.dkeCh d = s.dkeCh d := by
  rw [State.dkeCh, h, State.dkeCh]

theorem State.dkeCh_dkeZeroRes (d : Nat) : (s.dkeZeroRes c).dkeCh d = s.dkeCh d :=
  State.dkeCh_congr d (congrArg State.dke (s.dkeZeroRes_frame c) :)

theorem State.rd_dkeRegsCleared_of_out (o : Nat) (h : inInst .dkeCh c o = false) : (s.dkeRegsCleared c).rd o = s.rd o := by
  have hne : ∀ p, inInst .dkeCh c p = true → o ≠ p := fun p hp e => by
    rw [e, hp] at h
    cases h
  have hout : o < R.DKE_EXP c 0 ∨ R.DKE_RES c 16 ≤ o := by
    by_contra hin
    simp only [R.DKE_EXP, R.DKE_RES, not_or, not_lt, not_le] at hin
    exact hne _ (dkeBlock_inside c (o - (0x70000 + c * 0x200)) (by omega)) (by omega)
  obtain ⟨hcmp, hlo, hhi, hstat⟩ := dkeRegs_inside c
  rw [s.rd_dkeRegsCleared_of_ne c o (hne _ hcmp) (hne _ hlo) (hne _ hhi) (hne _ hstat), s.rd_dkeZeroRes_of_out c o hout]

theorem ctlWrite_clears (hst : (s.dkeCh c).st = .done ∨ (s.dkeCh c).st = .error) :
    s.dkeCtlWrite c 4 = (s.putDke c { s.dkeCh c with st := .owned, msg := [], key := [] }).dkeRegsCleared c := by
  show s.dkeClear c = _
  rw [State.dkeClear, if_pos hst, State.dkeRegsCleared]

/-! ### Block boundaries -/

theorem State.dkePending_tamper (hmsg : (s.dkeCh c).inMessage = true) (ht : (s.dkeCh c).tamperPend = true) :
    s.dkePending c = some (s.dkeLost c stTamper 0) := by
  simp only [State.dkePending, hmsg, ht, Bool.not_true, Bool.false_eq_true, if_false, if_true]

theorem State.dkePending_abort (hmsg : (s.dkeCh c).inMessage = true) (ht : (s.dkeCh c).tamperPend = false)
    (ha : (s.dkeCh c).abortPend = true) : s.dkePending c = some (s.dkeAborted c) := by
  simp only [State.dkePending, hmsg, ht, ha, Bool.not_true, Bool.false_eq_true, if_false, if_true]

theorem dkeBoundary_pending (hrun : s.running (0x60 + c) = none) {u : State} (h : s.dkePending c = some u) : s.dkeBoundary c = u := by
  rw [State.dkeBoundary, hrun, h]
  rfl

theorem dkeAborted_owned : ChannelWork c s (s.dkeAborted c) ∧ ((s.dkeAborted c).dkeCh c).st = .owned ∧
    ((s.dkeAborted c).dkeCh c).msg = [] ∧ ((s.dkeAborted c).dkeCh c).key = [] ∧
    (s.dkeAborted c).rd (R.DKE_BYTES_LO c) = 0 ∧ (s.dkeAborted c).rd (R.DKE_BYTES_HI c) = 0 := by
  have hch : (s.dkeAborted c).dkeCh c = _ := (State.dkeCh_count _ _ _ _).trans (State.dkeCh_putDke_self _ _ _)
  refine ⟨(((ChannelWork.refl c.val s).putDke _).count _ _).wr64 _ _ _, ?_, ?_, ?_, ?_, ?_⟩
  · rw [hch]
  · rw [hch]
  · rw [hch]
  · rw [State.dkeAborted, State.wr64, State.rd_wr_of_ne _ _ _ _ (by simp), State.rd_wr_self]
    rfl
  · rw [State.dkeAborted, State.wr64, State.rd_wr_self]
    rfl

theorem State.rd_sfiFlush (p : Nat) (h : satReg p = false) : (s.sfiFlush c).rd p = s.rd p := by
  rw [State.sfiFlush, State.rd_count_of_plain _ _ _ _ h]
  rfl

theorem dkeLost_error (err info : Nat) : ChannelWork c s (s.dkeLost c err info) ∧ ((s.dkeLost c err info).dkeCh c).st = .error ∧
    ((s.dkeLost c err info).dkeCh c).key = [] ∧ (s.dkeLost c err info).get (F.DKE_STAT_ERR c) = err % 2 ^ 8 ∧
    ∀ i : Fin 16, (s.dkeLost c err info).rd (R.DKE_RES c i) = 0 := by
  obtain ⟨hstat, -, -, -, -, -, hplain⟩ := dkeRegs_plain c
  have hwork := (ChannelWork.refl c.val s).dkeError err info
  have herr := s.err_dkeError c err info
  have hch := s.dkeCh_dkeError c err info
  rw [State.dkeLost]
  generalize s.dkeError c err info = y at hwork herr hch
  refine ⟨hwork.dkeZeroRes.sfiFlush, ?_, ?_, ?_, fun i => ?_⟩
  · rw [State.dkeCh_sfiFlush, State.dkeCh_dkeZeroRes, hch]
  · rw [State.dkeCh_sfiFlush, State.dkeCh_dkeZeroRes, hch]
  · rw [State.get, State.rd_sfiFlush _ _ _ hstat, State.rd_dkeZeroRes_of_out _ _ _ (.inl (by simp))]
    exact herr
  · rw [State.rd_sfiFlush _ _ _ (hplain i).1, (y.rd_dkeZeroRes c i).1]

end

/-- A queue job that gives its channel to a TAKE that waits. -/
theorem dkeBoundary_gives (s : State) (c : Fin 4) (j : Job) (hok : s.jobsOk) (hat : s.jobsAt (0x60 + c) = [j])
    (hrun : j.phase = .running) (hw : j.wait = .none) (ha : j.abort = .none) (htake : (s.dkeCh c).takePend ≠ 0) :
    (s.dkeBoundary c).job? j.id = some { j with phase := .preempted } ∧
    (s.dkeBoundary c).dkeCh c = { s.dkeCh c with holder := (s.dkeCh c).takePend, takePend := 0, st := .owned } ∧
    SameMemory s (s.dkeBoundary c) := by
  have hmem : j ∈ s.jqm.jobs := by
    have hj : j ∈ s.jobsAt (0x60 + c) := hat ▸ List.mem_cons_self ..
    exact (List.mem_filter.1 hj).1
  have hbound : s.dkeBoundary c = s.dkePreempt c j := by
    unfold State.dkeBoundary
    simp only [s.running_eq _ hat hrun, hw, ha, ne_eq, not_true_eq_false, if_false, htake, not_false_eq_true, true_or, if_true]
  set y := (s.putJob { j with phase := .preempted }).inc (R.DKE_CNT 6) with hy
  have hjqm : y.jqm = (s.putJob { j with phase := .preempted }).jqm :=
    (congrArg State.jqm ((s.putJob { j with phase := .preempted }).inc_eventFrame (R.DKE_CNT 6)) :)
  have hdke : y.dkeCh c = s.dkeCh c := State.dkeCh_count _ _ _ _
  have hidle : y.running (0x60 + c) = none := by
    refine List.find?_eq_none.2 fun x hx => ?_
    rw [State.jobsAt, hjqm] at hx
    obtain ⟨hxm, hxat⟩ := List.mem_filter.1 hx
    obtain ⟨z, hz, rfl⟩ := List.mem_map.1 hxm
    by_cases hid : (z.id == j.id) = true
    · simp [hid]
    · rw [if_neg hid] at hxat
      have hzj : z ∈ s.jobsAt (0x60 + c) := List.mem_filter.2 ⟨hz, hxat⟩
      rw [hat, List.mem_singleton] at hzj
      exact absurd (by rw [hzj]; exact beq_self_eq_true _) hid
  have hgrant : y.dkeGrant (0x60 + c) = y.putDke c { y.dkeCh c with holder := (y.dkeCh c).takePend, takePend := 0, st := .owned } := by
    have hsub : 0x60 + c.val - 0x60 = c.val := by omega
    rw [State.dkeGrant, hsub, if_pos ⟨by omega, by rw [hdke]; exact htake, by rw [hidle]; rfl⟩]
  have hall : s.dkeBoundary c = y.putDke c { y.dkeCh c with holder := (y.dkeCh c).takePend, takePend := 0, st := .owned } := by
    rw [hbound, State.dkePreempt, ← hy, hgrant]
  refine ⟨?_, ?_, ?_⟩
  · rw [hall]
    show y.jqm.jobs.find? _ = _
    rw [hjqm]
    exact s.job?_putJob_self { j with phase := .preempted } j ((s.job?_iff hok _ _).2 ⟨hmem, rfl⟩)
  · rw [hall, State.dkeCh_putDke_self, hdke]
  · rw [hall]
    have hput : SameMemory s (s.putJob { j with phase := .preempted }) := .of_eq rfl rfl rfl rfl rfl
    exact hput.trans (((ChannelWork.refl c.val _).inc (R.DKE_CNT 6)).putDke _).sameMemory

theorem exec_dkeBoundary (s : State) (c : Fin 4) : exec (.dkeBlockBoundary c) s = .next (s.dkeBoundary c) := rfl

/-- Settles O44: taking, releasing, starting, aborting and clearing a channel of DKE. -/
theorem digestChannelControl : Obligations.DigestChannelControl := by
  unfold Obligations.DigestChannelControl
  intro s r c x hx
  subst hx
  refine ⟨fun hw => ⟨fun hh hfree htake hmax => ?_, fun k hk hheld hrel hforce => ?_⟩, fun hw => ⟨fun hok => ?_, fun hok => ?_, fun hmsg => ?_,
    fun hst => ?_⟩, fun hrun hmsg => ⟨fun ht ha => ?_, fun ht => ?_⟩, fun j hok hat hrun hw ha htake => ?_⟩
  · exact congrArg Host.Outcome.next ((s.gateW_granted r _ _ hw).trans (dkeTake_owns s c r _ rfl hh hfree htake hmax))
  · refine ⟨s.dkeRelease c, ?_, dkeRelease_frees s c⟩
    rcases List.mem_pair.1 hk with rfl | rfl
    · exact congrArg Host.Outcome.next ((s.gateW_granted r _ _ hw).trans (lockWrite_releases s c r hheld (hrel rfl)))
    · obtain rfl := hforce rfl
      exact congrArg Host.Outcome.next ((s.gateW_granted .cupola _ _ hw).trans (lockWrite_forces s c hheld))
  · exact congrArg Host.Outcome.next ((s.gateW_granted r _ _ hw).trans (ctlWrite_starts s c hok))
  · exact congrArg Host.Outcome.next ((s.gateW_granted r _ _ hw).trans (ctlWrite_rejects s c hok))
  · exact congrArg Host.Outcome.next ((s.gateW_granted r _ _ hw).trans (ctlWrite_aborts s c hmsg))
  · refine ⟨_, congrArg Host.Outcome.next ((s.gateW_granted r _ _ hw).trans (ctlWrite_clears s c hst)), ?_⟩
    set y := s.putDke c { s.dkeCh c with st := .owned, msg := [], key := [] } with hy
    have hframe := y.dkeRegsCleared_frame c
    have hch : ∀ d, (y.dkeRegsCleared c).dkeCh d = y.dkeCh d := fun d =>
      State.dkeCh_congr d (congrArg State.dke hframe :)
    obtain ⟨hcmp, hlo, hhi, herr⟩ := y.dkeRegsCleared_zero c
    refine ⟨?_, fun d hd => ?_, y.rd_dkeRegsCleared c, hcmp, hlo, hhi, herr, fun o ho => y.rd_dkeRegsCleared_of_out c o ho, ?_⟩
    · rw [hch, hy, State.dkeCh_putDke_self]
    · rw [hch, hy, State.dkeCh_putDke_of_ne _ _ _ _ hd]
    · rw [hframe]
      rfl
  · obtain ⟨hwork, hst, hm, hk, hlo, hhi⟩ := dkeAborted_owned s c
    exact ⟨_, (exec_dkeBoundary s c).trans (congrArg Host.Outcome.next (dkeBoundary_pending s c hrun (s.dkePending_abort c hmsg ht ha))), hst, hm, hk, hlo, hhi,
      hwork.others, hwork.sameMemory⟩
  · obtain ⟨hwork, hst, hk, herr, hres⟩ := dkeLost_error s c stTamper 0
    exact ⟨_, (exec_dkeBoundary s c).trans (congrArg Host.Outcome.next (dkeBoundary_pending s c hrun (s.dkePending_tamper c hmsg ht))), hst, hk, herr, hres, hwork.sameMemory⟩
  · exact ⟨_, exec_dkeBoundary s c, dkeBoundary_gives s c j hok hat hrun hw ha htake⟩

end Sys2Proof.Machine
end

section
/-! PROOF. A message of a channel of DKE, from its key to its result (R420 to R427). -/

namespace Sys2Proof.Machine

section
variable (s : State) (c : Fin 4)

theorem State.dkeStep_runs {st : DkeState} (k : State → State) (h : (s.dkeCh c).st = st) (hp : s.dkePending c = none) :
    s.dkeStep c st none k = k s := by
  simp only [State.dkeStep, h, hp, ne_eq, not_true_eq_false, if_false]

theorem State.dkeCh_wrWords (o d : Nat) (vs : List Word) : (s.wrWords o vs).dkeCh d = s.dkeCh d :=
  State.dkeCh_congr d (congrArg State.dke (s.wrWords_frame o vs) :)

/-! ### Keying -/

theorem keying_done (x : DkeCh) (hx : x = s.dkeCh c) (hst : x.st = .keying) (hp : s.dkePending c = none) (y : Slot)
    (hslot : s.dkeSlot c = .ok y) (hrng : s.rngState = rngRunning) :
    s.dkeKeyingDone c = (s.drawMasks (0x60 + c)).putDke c { x with st := .absorb, key := y.key, keyVerify := y.usage == usVerify } := by
  subst hx
  have hch : (s.drawMasks (0x60 + c)).dkeCh c = s.dkeCh c := State.dkeCh_congr _ (State.count_dke _ _ _)
  rw [State.dkeKeyingDone, s.dkeStep_runs c _ hst hp]
  simp only [hslot, hrng, ne_eq, not_true_eq_false, if_false]
  rw [hch]

theorem keying_fails (hst : (s.dkeCh c).st = .keying) (hp : s.dkePending c = none) (e n : Nat) (hslot : s.dkeSlot c = .error (e, n)) :
    s.dkeKeyingDone c = s.dkeError c e n := by
  rw [State.dkeKeyingDone, s.dkeStep_runs c _ hst hp]
  simp only [hslot]

/-! ### A beat -/

/-- The channel with a beat absorbed, before the end of the packet is looked at. -/
def State.absorbed (m : List Byte) : State :=
  ((s.putDke c { (s.dkeCh c).tail with msg := m }).wr64 (R.DKE_BYTES_LO c) (R.DKE_BYTES_HI c) m.length).count (R.DKE_CNT 1)
    (m.length / dkeBlock (s.get (F.DKE_MODE_FUNC c)) - (s.dkeCh c).msg.length / dkeBlock (s.get (F.DKE_MODE_FUNC c)))

theorem absorbed_work (m : List Byte) : ChannelWork c s (s.absorbed c m) :=
  (((ChannelWork.refl c.val s).putDke _).wr64 _ _ _).count _ _

theorem absorbed_dkeCh (m : List Byte) : (s.absorbed c m).dkeCh c = { (s.dkeCh c).tail with msg := m } :=
  (State.dkeCh_count _ _ _ _).trans (State.dkeCh_putDke_self _ _ _)

theorem absorbed_bytes (m : List Byte) : ((s.absorbed c m).rd (R.DKE_BYTES_LO c)).toNat = m.length % 2 ^ 32 := by
  obtain ⟨-, -, hlo, -⟩ := dkeRegs_plain c
  rw [State.absorbed, State.rd_count_of_plain _ _ _ _ hlo, State.wr64, State.rd_wr_of_ne _ _ _ _ (by simp), State.rd_wr_self,
    BitVec.toNat_ofNat]

theorem dkeBeat_eq (bs : List Byte) (eop : Bool) (hst : (s.dkeCh c).st = .absorb) (hp : s.dkePending c = none)
    (hbeat : (s.dkeCh c).beat = some (bs, eop)) (m : List Byte) (hm : m = (s.dkeCh c).msg ++ bs) :
    s.dkeBeat c none = if !eop then s.absorbed c m
      else if m.length % dkeBlock (s.get (F.DKE_MODE_FUNC c)) ≠ 0 then (s.absorbed c m).dkeError c stMalformed 0
      else (s.absorbed c m).putDke c { (s.absorbed c m).dkeCh c with st := .finish } := by
  subst hm
  simp only [State.dkeBeat, hbeat]
  rw [s.dkeStep_runs c _ hst hp]
  rfl

/-! ### The end of the message -/

theorem resWords_length (d : List Byte) : (resWords d).length = 16 := by rw [resWords, List.length_map, List.length_range]

/-- The channel with its digest stored, before the comparison. -/
def State.digested (d : List Byte) : State :=
  ((s.putDke c { s.dkeCh c with st := .done, msg := [], key := [] }).wrWords (R.DKE_RES c 0) (resWords d)).inc (R.DKE_CNT 0)

theorem digested_work (d : List Byte) : ChannelWork c s (s.digested c d) := (((ChannelWork.refl c.val s).putDke _).wrWords _ _).inc _

theorem digested_dkeCh (d : List Byte) : (s.digested c d).dkeCh c = { s.dkeCh c with st := .done, msg := [], key := [] } := by
  rw [State.digested, State.inc, State.dkeCh_count, State.dkeCh_wrWords, State.dkeCh_putDke_self]

theorem digested_res (d : List Byte) (i : Fin 16) : (s.digested c d).rd (R.DKE_RES c i) = (resWords d).getD i 0 := by
  obtain ⟨-, -, -, -, -, -, hplain⟩ := dkeRegs_plain c
  rw [State.digested, State.inc, State.rd_count_of_plain _ _ _ _ (hplain i).1]
  exact State.rd_wrWords_at _ (R.DKE_RES c 0) i _ (by rw [resWords_length]; exact i.isLt)

theorem digested_rd_below (d : List Byte) (p : Nat) (h : p < R.DKE_RES c 0) (hplain : satReg p = false) :
    (s.digested c d).rd p = s.rd p := by
  rw [State.digested, State.inc, State.rd_count_of_plain _ _ _ _ hplain, State.rd_wrWords_of_out _ _ _ _ (.inl h)]
  rfl

theorem digested_dkeExp (d : List Byte) : (s.digested c d).dkeExp c = s.dkeExp c := by
  obtain ⟨-, -, -, -, -, -, hplain⟩ := dkeRegs_plain c
  rw [State.dkeExp, State.dkeExp]
  refine List.flatMap_congr fun i hi => ?_
  have hlt := List.mem_range.1 hi
  rw [digested_rd_below s c d _ (by simp only [R.DKE_EXP, R.DKE_RES]; omega) (hplain ⟨i, hlt⟩).2]

/-- The flags that the comparison of a digest stores. -/
def cmpFlags (d : List Byte) (n : Nat) (expected : List Byte) : Word := if d.take n = expected.take n then 0x9696 else 0x6969

theorem dkeFinish_eq (hst : (s.dkeCh c).st = .finish) (hp : s.dkePending c = none) (d : List Byte)
    (hd : d = dkeResult (s.get (F.DKE_MODE_FUNC c)) (s.dkeCh c).key (s.dkeCh c).msg) (n : Nat) (hn : n = s.get (F.DKE_MODE_CMP_LEN c)) :
    s.dkeFinish c false none = if s.on (F.DKE_MODE_COMPARE c) then
        ((s.digested c d).wr (R.DKE_CMP c) (cmpFlags d n (s.dkeExp c))).inc (R.DKE_CNT (if d.take n = (s.dkeExp c).take n then 2 else 3))
      else s.digested c d := by
  obtain ⟨-, -, -, -, hmode, -⟩ := dkeRegs_plain c
  subst hd hn
  set d := dkeResult (s.get (F.DKE_MODE_FUNC c)) (s.dkeCh c).key (s.dkeCh c).msg with hd
  have hrd := digested_rd_below s c d (R.DKE_MODE c) (by simp only [R.DKE_RES, R.DKE_MODE]; omega) hmode
  have hon : (s.digested c d).on (F.DKE_MODE_COMPARE c) = s.on (F.DKE_MODE_COMPARE c) := by
    rw [State.on, State.get, hrd, State.on, State.get]
  have hlen : (s.digested c d).get (F.DKE_MODE_CMP_LEN c) = s.get (F.DKE_MODE_CMP_LEN c) := by rw [State.get, hrd, State.get]
  have hexp := digested_dkeExp s c d
  have hfin : s.dkeFinish c false none =
      if !(s.digested c d).on (F.DKE_MODE_COMPARE c) then s.digested c d
      else if d.take ((s.digested c d).get (F.DKE_MODE_CMP_LEN c)) = ((s.digested c d).dkeExp c).take ((s.digested c d).get (F.DKE_MODE_CMP_LEN c))
        then ((s.digested c d).wr (R.DKE_CMP c) 0x9696).inc (R.DKE_CNT 2)
        else ((s.digested c d).wr (R.DKE_CMP c) 0x6969).inc (R.DKE_CNT 3) := by
    rw [State.dkeFinish, s.dkeStep_runs c _ hst hp]
    rfl
  rw [hfin, hon, hlen, hexp, cmpFlags]
  cases s.on (F.DKE_MODE_COMPARE c) with
  | false => rfl
  | true =>
    rw [if_neg (by simp), if_pos rfl]
    split <;> rfl

theorem dkeFinish_shows (hst : (s.dkeCh c).st = .finish) (hp : s.dkePending c = none) (d : List Byte)
    (hd : d = dkeResult (s.get (F.DKE_MODE_FUNC c)) (s.dkeCh c).key (s.dkeCh c).msg) (n : Nat) (hn : n = s.get (F.DKE_MODE_CMP_LEN c))
    (t : State) (ht : t = s.dkeFinish c false none) : t.dkeCh c = { s.dkeCh c with st := .done, msg := [], key := [] } ∧
    (∀ i : Fin 16, t.rd (R.DKE_RES c i) = (resWords d).getD i 0) ∧
    t.rd (R.DKE_CMP c) = (if s.on (F.DKE_MODE_COMPARE c) then (if d.take n = (s.dkeExp c).take n then 0x9696 else 0x6969)
      else s.rd (R.DKE_CMP c)) ∧ ChannelWork c s t := by
  obtain ⟨-, hcmp, -, -, -, -, hplain⟩ := dkeRegs_plain c
  have hwork := digested_work s c d
  rw [dkeFinish_eq s c hst hp d hd n hn] at ht
  cases hon : s.on (F.DKE_MODE_COMPARE c) with
  | false =>
    rw [hon, if_neg Bool.false_ne_true] at ht
    subst ht
    exact ⟨digested_dkeCh s c d, digested_res s c d,
      digested_rd_below s c d _ (by simp only [R.DKE_RES, R.DKE_CMP]; omega) hcmp, hwork⟩
  | true =>
    rw [hon, if_pos rfl] at ht
    subst ht
    refine ⟨(State.dkeCh_count _ _ _ _).trans (digested_dkeCh s c d), fun i => ?_, ?_, (hwork.wr _ _).inc _⟩
    · rw [State.inc, State.rd_count_of_plain _ _ _ _ (hplain i).1,
        State.rd_wr_of_ne _ _ _ _ (by simp only [R.DKE_RES, R.DKE_CMP]; omega), digested_res s c d i]
    · rw [State.inc, State.rd_count_of_plain _ _ _ _ hcmp, State.rd_wr_self, if_pos rfl, cmpFlags]

/-! ### Reading the result -/

theorem resRead_early (hst : (s.dkeCh c).st ≠ .done) (k : Nat) :
    s.dkeResRead c k = { (s.set (F.DKE_STAT_EARLY_READ c)).inc (R.DKE_CNT 5) with busOut := 0 } := by
  rw [State.dkeResRead, if_pos hst]

theorem resRead_shows (k : Fin 17) (hst : (s.dkeCh c).st = .done)
    (hopen : k.val = 16 ∨ dkeKeyed (s.get (F.DKE_MODE_FUNC c)) = false ∨ (s.dkeCh c).keyVerify = false) :
    s.dkeResRead c k = { s with busOut := (s.rd (if k.val = 16 then R.DKE_CMP c else R.DKE_RES c k)).setWidth 64 } := by
  rw [State.dkeResRead, if_neg (not_not_intro hst)]
  by_cases hk : k.val = 16
  · rw [if_pos hk, if_pos hk]
  · have hopen : ¬ (dkeKeyed (s.get (F.DKE_MODE_FUNC c)) && (s.dkeCh c).keyVerify) = true := by
      rcases hopen.resolve_left hk with h | h <;> simp [h]
    rw [if_neg hk, if_neg hk, if_neg hopen]

theorem resRead_denied (k : Fin 17) (hst : (s.dkeCh c).st = .done) (hk : k.val ≠ 16)
    (hkeyed : dkeKeyed (s.get (F.DKE_MODE_FUNC c)) = true) (hv : (s.dkeCh c).keyVerify = true) :
    s.dkeResRead c k = { s.set (F.DKE_STAT_RES_DENIED c) with busOut := 0 } := by
  rw [State.dkeResRead, if_neg (not_not_intro hst), if_neg hk, hkeyed, hv, Bool.and_self, if_pos rfl]

end

/-- Settles O45: a message of a channel of DKE from its key to its result. -/
theorem digestMessages : Obligations.DigestMessages := by
  unfold Obligations.DigestMessages
  intro s c x hx
  refine ⟨fun hst hp => ⟨fun y hslot hrng => ?_, fun e n hslot => ?_⟩, fun bs eop m hst hp hbeat hm => ?_,
    fun d n hst hp hd hn => ?_, fun r k o ho hr => ?_⟩
  · refine ⟨_, congrArg Host.Outcome.next (keying_done s c x hx hst hp y hslot hrng), State.dkeCh_putDke_self _ _ _, fun d hd => ?_, ?_⟩
    · rw [State.dkeCh_putDke_of_ne _ _ _ _ hd]
      exact State.dkeCh_congr _ (State.count_dke _ _ _)
    · exact ((Draws.refl s).drawMasks _).sameMemory.trans ((ChannelWork.refl c.val _).putDke _).sameMemory
  · subst hx
    exact ⟨_, congrArg Host.Outcome.next (keying_fails s c hst hp e n hslot), by rw [State.dkeCh_dkeError],
      s.err_dkeError c e n, ((ChannelWork.refl c.val s).dkeError e n).sameMemory⟩
  · subst hx
    have hrun := dkeBeat_eq s c bs eop hst hp hbeat m hm
    have hwork := absorbed_work s c m
    have hch := absorbed_dkeCh s c m
    refine ⟨fun he => ?_, fun he hlen => ?_, fun he hlen => ?_⟩
    · rw [he, Bool.not_false, if_pos rfl] at hrun
      exact ⟨_, congrArg Host.Outcome.next hrun, hch, absorbed_bytes s c m, hwork.others, hwork.sameMemory⟩
    · rw [he, Bool.not_true, if_neg Bool.false_ne_true, if_neg (not_not_intro hlen)] at hrun
      exact ⟨_, congrArg Host.Outcome.next hrun, by rw [State.dkeCh_putDke_self, hch], (hwork.putDke _).others, (hwork.putDke _).sameMemory⟩
    · rw [he, Bool.not_true, if_neg Bool.false_ne_true, if_pos hlen] at hrun
      exact ⟨_, congrArg Host.Outcome.next hrun, by rw [State.dkeCh_dkeError], State.err_dkeError _ c stMalformed 0,
        (hwork.dkeError _ _).sameMemory⟩
  · subst hx
    obtain ⟨hch, hres, hcmp, hwork⟩ := dkeFinish_shows s c hst hp d hd n hn _ rfl
    exact ⟨_, rfl, hch, hres, hcmp, hwork.others, hwork.sameMemory⟩
  · subst hx ho
    obtain ⟨hstat, -⟩ := dkeRegs_plain c
    have hgate := s.gateR_granted r _ (·.dkeResRead c k) hr
    refine ⟨fun hst => ⟨_, congrArg Host.Outcome.next (hgate.trans (resRead_early s c hst k)), rfl, ?_, ?_, ?_⟩, fun hst hopen => ?_,
      fun hst hk hkeyed hv => ?_⟩
    · exact (State.on_count_of_plain (s.set (F.DKE_STAT_EARLY_READ c)) (R.DKE_CNT 5) 1 (F.DKE_STAT_EARLY_READ c) hstat).trans
        (State.on_set_self s _ (by simp) rfl)
    · exact (s.set (F.DKE_STAT_EARLY_READ c)).cntGet_inc (R.DKE_CNT 5)
    · exact State.count_dke _ _ _
    · exact congrArg Host.Outcome.next (hgate.trans (resRead_shows s c k hst hopen))
    · exact congrArg Host.Outcome.next (hgate.trans (resRead_denied s c k hst hk hkeyed hv))

end Sys2Proof.Machine
end

section
/-! PROOF. The lanes of the Stream FIFO Interface (R433 to R438). -/

namespace Sys2Proof.Machine

/-- The counters of a lane differ from each other and from those of DKE. -/
theorem sfiCnt_ne : ∀ c : Fin 4, R.SFI_CNT c 2 ≠ R.DKE_CNT 4 ∧ R.SFI_CNT c 1 ≠ R.SFI_CNT c 0 ∧ R.SFI_STAT c ≠ R.DKE_STAT c := by decide

theorem DkeCh.packets_of_open (x : DkeCh) (h : x.openPkt.isSome = true) : x.packets ≠ [] := by
  intro e
  rw [DkeCh.openPkt, e] at h
  cases h

section
variable (s : State) (c : Fin 4)

/-! ### Words -/

/-- The lane with a word's bytes in it. -/
def State.laneFed (bs : List Byte) (n : Nat) (last : Bool) : State := (s.putDke c ((s.dkeCh c).append bs last)).count (R.SFI_CNT c 1) n

theorem sfiWord_eq (v : Word) (n : Nat) (last : Bool) (hd : (s.dkeCh c).dropping = false) (hroom : (s.dkeCh c).level + n ≤ 4096) :
    s.sfiWord c v n last = if last then (s.laneFed c ((natLE 4 v.toNat).take n) n last).inc (R.SFI_CNT c 0)
      else s.laneFed c ((natLE 4 v.toNat).take n) n last := by
  simp only [State.sfiWord, hd, Bool.false_eq_true, if_false, if_neg (Nat.not_lt.2 hroom)]
  rfl

theorem laneFed_work (bs : List Byte) (n : Nat) (last : Bool) : ChannelWork c s (s.laneFed c bs n last) :=
  ((ChannelWork.refl c.val s).putDke _).count _ _

theorem laneFed_dkeCh (bs : List Byte) (n : Nat) (last : Bool) : (s.laneFed c bs n last).dkeCh c = (s.dkeCh c).append bs last :=
  (State.dkeCh_count _ _ _ _).trans (State.dkeCh_putDke_self _ _ _)

theorem laneFed_counts (bs : List Byte) (n : Nat) (last : Bool) :
    (s.laneFed c bs n last).cntGet (R.SFI_CNT c 1) = min (s.cntGet (R.SFI_CNT c 1) + n) (cntMax (R.SFI_CNT c 1)) ∧
    (s.laneFed c bs n last).cntGet (R.SFI_CNT c 0) = s.cntGet (R.SFI_CNT c 0) :=
  ⟨State.cntGet_count _ _ _, State.cntGet_count_of_ne _ _ _ _ (sfiCnt_ne c).2.1.symm⟩

/-! ### Dropping the open packet -/

theorem State.cntGet_dkeError (err info o : Nat) (h : o ≠ R.DKE_CNT 4) : (s.dkeError c err info).cntGet o = s.cntGet o :=
  State.cntGet_count_of_ne _ _ _ _ h

theorem State.rd_dkeError (err info p : Nat) (h : p ≠ R.DKE_STAT c) (hplain : satReg p = false) : (s.dkeError c err info).rd p = s.rd p := by
  rw [State.dkeError, State.inc, State.rd_count_of_plain _ _ _ _ hplain, State.rd_put_of_ne _ _ _ _ h, State.rd_put_of_ne _ _ _ _ h]
  rfl

/-- The lane without its open packet, counted. -/
def State.laneCut (ended : Bool) : State :=
  (s.putDke c { (s.dkeCh c).dropOpen with dropping := !ended }).inc (R.SFI_CNT c 2)

theorem sfiDrop_eq (ended : Bool) : s.sfiDrop c ended =
    if (s.dkeCh c).absorbsOpen then (s.laneCut c ended).dkeError c stLenShort 0 else s.laneCut c ended := rfl

theorem laneCut_dkeCh (ended : Bool) : (s.laneCut c ended).dkeCh c = { (s.dkeCh c).dropOpen with dropping := !ended } :=
  (State.dkeCh_count _ _ _ _).trans (State.dkeCh_putDke_self _ _ _)

theorem laneCut_counts (ended : Bool) :
    (s.laneCut c ended).cntGet (R.SFI_CNT c 2) = min (s.cntGet (R.SFI_CNT c 2) + 1) (cntMax (R.SFI_CNT c 2)) :=
  State.cntGet_inc _ _

theorem rd_laneCut (ended : Bool) (p : Nat) (hplain : satReg p = false) : (s.laneCut c ended).rd p = s.rd p := by
  rw [State.laneCut, State.inc, State.rd_count_of_plain _ _ _ _ hplain]
  rfl

theorem sfiDrop_drops (ended : Bool) : ChannelWork c s (s.sfiDrop c ended) ∧
    ((s.sfiDrop c ended).dkeCh c).packets = (s.dkeCh c).packets.filter (·.closed) ∧ ((s.sfiDrop c ended).dkeCh c).dropping = !ended ∧
    ((s.dkeCh c).absorbsOpen = false → ((s.sfiDrop c ended).dkeCh c).st = (s.dkeCh c).st) ∧
    ((s.dkeCh c).absorbsOpen = true → ((s.sfiDrop c ended).dkeCh c).st = .error ∧ (s.sfiDrop c ended).get (F.DKE_STAT_ERR c) = stLenShort) ∧
    (s.sfiDrop c ended).cntGet (R.SFI_CNT c 2) = min (s.cntGet (R.SFI_CNT c 2) + 1) (cntMax (R.SFI_CNT c 2)) ∧
    (s.sfiDrop c ended).rd (R.SFI_STAT c) = s.rd (R.SFI_STAT c) := by
  obtain ⟨-, -, -, -, -, hstat, -⟩ := dkeRegs_plain c
  refine ⟨(ChannelWork.refl c.val s).sfiDrop ended, ?_⟩
  rw [sfiDrop_eq]
  have hch := laneCut_dkeCh s c ended
  have hcnt := laneCut_counts s c ended
  have hrd := rd_laneCut s c ended (R.SFI_STAT c) hstat
  generalize s.laneCut c ended = y at hch hcnt hrd
  cases (s.dkeCh c).absorbsOpen with
  | false =>
    rw [if_neg Bool.false_ne_true]
    exact ⟨by rw [hch, DkeCh.dropOpen], by rw [hch], fun _ => by rw [hch, DkeCh.dropOpen], (absurd · Bool.false_ne_true), hcnt, hrd⟩
  | true =>
    rw [if_pos rfl]
    refine ⟨?_, ?_, (absurd · Bool.false_ne_true.symm), fun _ => ⟨?_, y.err_dkeError c stLenShort 0⟩, ?_, ?_⟩
    · rw [State.dkeCh_dkeError, hch, DkeCh.dropOpen]
    · rw [State.dkeCh_dkeError, hch]
    · rw [State.dkeCh_dkeError]
    · rw [State.cntGet_dkeError _ _ _ _ _ (sfiCnt_ne c).1, hcnt]
    · rw [State.rd_dkeError _ _ _ _ _ (sfiCnt_ne c).2.2 hstat, hrd]

theorem ctlWrite_drops (h : (s.dkeCh c).openPkt.isSome = true) : s.sfiCtlWrite c 2 = s.sfiDrop c false := by
  show (if (true && (s.dkeCh c).openPkt.isSome) = true then s.sfiDrop c false else s) = _
  rw [h]
  rfl

/-! ### Underruns -/

theorem underrun_drops (h : (s.dkeCh c).openPkt.isSome = true) : s.sfiUnderrun c = (s.set (F.SFI_STAT_UNDERRUN c)).sfiDrop c false := by
  have hsome : (s.dkeCh c).packets.isEmpty = false := List.isEmpty_eq_false_iff.2 ((s.dkeCh c).packets_of_open h)
  have hnone : (s.dkeCh c).openPkt.isNone = false := by
    rw [← Option.not_isSome, h]
    rfl
  simp only [State.sfiUnderrun, hsome, hnone, h, Bool.and_false, Bool.false_eq_true, if_false, if_true]

theorem underrun_fails (h : (s.dkeCh c).packets = []) (hst : (s.dkeCh c).st = .absorb ∨ (s.dkeCh c).st = .keying) :
    s.sfiUnderrun c = (s.set (F.SFI_STAT_UNDERRUN c)).dkeError c stLenShort 0 := by
  have hopen : (s.dkeCh c).openPkt = none := by rw [DkeCh.openPkt, h, List.getLast?_nil]
  have hwaits : (((s.dkeCh c).st == .absorb || (s.dkeCh c).st == .keying) && (s.dkeCh c).packets.isEmpty) = true := by
    rw [h]
    rcases hst with e | e <;> rw [e] <;> rfl
  simp only [State.sfiUnderrun, hopen, hwaits, Option.isSome_none, Bool.not_true, Bool.false_and, Bool.false_eq_true, if_false, if_true]

end

/-- Settles O46: words, flush, abort and underrun of a lane. -/
theorem streamLanes : Obligations.StreamLanes := by
  unfold Obligations.StreamLanes
  intro s c x hx
  subst hx
  refine ⟨fun r v hd => ⟨fun hw hroom => ?_, fun n hw hroom => ?_⟩, fun r hw => ⟨?_, fun hopen => ?_⟩, fun hopen => ?_, fun hnil hst => ?_⟩
  · have hrun := sfiWord_eq s c v 4 false hd hroom
    rw [if_neg Bool.false_ne_true, List.take_of_length_le (by rw [natLE_length])] at hrun
    have hwork := laneFed_work s c (natLE 4 v.toNat) 4 false
    exact ⟨_, congrArg Host.Outcome.next ((s.gateW_granted r _ _ hw).trans hrun), laneFed_dkeCh s c _ 4 false,
      (laneFed_counts s c _ 4 false).1, hwork.others, hwork.frame⟩
  · have hrun := sfiWord_eq s c v (n + 1) true hd hroom
    rw [if_pos rfl] at hrun
    have hwork := laneFed_work s c ((natLE 4 v.toNat).take (n + 1)) (n + 1) true
    obtain ⟨hbytes, hpkts⟩ := laneFed_counts s c ((natLE 4 v.toNat).take (n + 1)) (n + 1) true
    refine ⟨_, congrArg Host.Outcome.next ((s.gateW_granted r _ _ hw).trans hrun),
      (State.dkeCh_count _ _ _ _).trans (laneFed_dkeCh s c _ (n + 1) true), ?_, ?_, (hwork.inc _).others, (hwork.inc _).frame⟩
    · exact (State.cntGet_count_of_ne _ _ _ _ (sfiCnt_ne c).2.1).trans hbytes
    · rw [State.cntGet_inc, hpkts]
  · have hwork := (ChannelWork.refl c.val s).sfiFlush
    exact ⟨s.sfiFlush c, congrArg Host.Outcome.next (s.gateW_granted r _ _ hw), s.dkeCh_sfiFlush c, State.cntGet_count _ _ _,
      hwork.others, hwork.frame⟩
  · obtain ⟨hwork, hpkts, hdrop, hkeep, herr, hcnt, -⟩ := sfiDrop_drops s c false
    exact ⟨_, congrArg Host.Outcome.next ((s.gateW_granted r _ _ hw).trans (ctlWrite_drops s c hopen)), hpkts, hdrop, hkeep, herr, hcnt,
      hwork.others, hwork.sameMemory⟩
  · obtain ⟨hwork, hpkts, -, -, -, -, hrd⟩ := sfiDrop_drops (s.set (F.SFI_STAT_UNDERRUN c)) c false
    have hall := ((ChannelWork.refl c.val s).put (F.SFI_STAT_UNDERRUN c) 1).trans hwork
    refine ⟨_, congrArg Host.Outcome.next (underrun_drops s c hopen), ?_, hpkts, hall.others, hall.sameMemory⟩
    rw [State.on, State.get, hrd]
    exact State.on_set_self s (F.SFI_STAT_UNDERRUN c) (by simp) rfl
  · obtain ⟨-, -, -, -, -, hstat, -⟩ := dkeRegs_plain c
    have hwork := ((ChannelWork.refl c.val s).put (F.SFI_STAT_UNDERRUN c) 1).dkeError stLenShort 0
    refine ⟨_, congrArg Host.Outcome.next (underrun_fails s c hnil hst), ?_, by rw [State.dkeCh_dkeError],
      State.err_dkeError _ c stLenShort 0, hwork.others, hwork.sameMemory⟩
    rw [State.on, State.get, State.rd_dkeError _ _ _ _ _ (sfiCnt_ne c).2.2 hstat]
    exact State.on_set_self s (F.SFI_STAT_UNDERRUN c) (by simp) rfl

end Sys2Proof.Machine
end

section
/-! PROOF. Silicon fuses and the battery domain (R478, R483 to R485, R614). -/

namespace Sys2Proof.Machine

/-! ### The frame of Belfry's work -/

/-- Only Belfry, the messages to FCR, the registers, the counters and the events have changed. -/
def BelfryWork (s t : State) : Prop := t = { s with regs := t.regs, cnt := t.cnt, evc := t.evc, blf := t.blf, fcr := t.fcr }

theorem BelfryWork.refl (s : State) : BelfryWork s s := rfl

section
variable {s t u : State} (h : BelfryWork s t)
include h

theorem BelfryWork.trans (k : BelfryWork t u) : BelfryWork s u :=
  Eq.trans k (congrArg (fun x : State => { x with regs := u.regs, cnt := u.cnt, evc := u.evc, blf := u.blf, fcr := u.fcr }) h)

theorem BelfryWork.events (k : EventFrame t u) : BelfryWork s u := by
  have hblf : u.blf = t.blf := k.blf
  have hfcr : u.fcr = t.fcr := k.fcr
  refine h.trans ?_
  rw [BelfryWork, hblf, hfcr]
  exact k

theorem BelfryWork.put (f : Fld) (x : Nat) : BelfryWork s (t.put f x) := h.trans rfl

theorem BelfryWork.withBlf (b : BlfSt) : BelfryWork s { t with blf := b } := h.trans rfl

theorem BelfryWork.report (source kind sev addr : Nat) : BelfryWork s (t.report source kind sev addr) := h.trans rfl

theorem BelfryWork.ite {p : Prop} [Decidable p] (k : BelfryWork s u) : BelfryWork s (if p then t else u) := by
  split
  · exact h
  · exact k

theorem BelfryWork.raise (n : Nat) : BelfryWork s (t.raise n) := h.events ((EvcOnly.refl t).raise n).frame

theorem BelfryWork.alarmOut (n level addr : Nat) : BelfryWork s (t.alarmOut n level addr) :=
  (((h.report _ _ _ _).put _ _).events (State.inc_eventFrame _ _)).raise n

theorem BelfryWork.alarmOnce (n dets : Nat) (windowed noLive : Bool) : BelfryWork s (t.alarmOnce n dets windowed noLive) := by
  unfold State.alarmOnce State.alarmLimit
  exact h.ite ((h.withBlf _).alarmOut _ _ _)

theorem BelfryWork.liveChanged (n0 : Nat → Nat) : BelfryWork s (t.liveChanged n0) := by
  unfold State.liveChanged
  refine List.foldlRecOn _ _ h fun u hu n _ => ?_
  refine ((hu.withBlf _).alarmOnce _ _ _ _).ite ?_
  have hlive := (hu.withBlf { u.blf with silent := setDel n u.blf.silent }).ite (p := u.liveDets n ≠ 0) hu
  exact (hlive.raise 21).ite hlive

theorem BelfryWork.syncTests : BelfryWork s t.syncTests := by
  unfold State.syncTests State.settleFilter
  exact ((h.put _ _).put _ _).ite (((h.put _ _).put _ _).withBlf _)

theorem BelfryWork.dropTests : BelfryWork s t.dropTests := by
  unfold State.dropTests
  exact (h.withBlf _).syncTests.ite h

end

section
variable (s : State)

/-! ### Fuses -/

theorem view_blfFused : s.view .cupola R.BLF_FUSED = s.otp.fuses := rfl

/-- GO, set by the command itself, leaves the other bits of the word. -/
theorem goBit_bits (v : Word) : bit (v ||| 0x80000000).toNat 31 = true ∧ bits (v ||| 0x80000000).toNat 0 4 = v.toNat % 16 ∧
    bit (v ||| 0x80000000).toNat 8 = v.getLsbD 8 ∧ bit (v ||| 0x80000000).toNat 9 = v.getLsbD 9 := by
  have hlow : bits v.toNat 0 4 = v.toNat % 16 := rfl
  exact ⟨bit_or_set _ _ _ (by decide), (bits_or_kept v _ 0 4 (by decide)).trans hlow, bit_or_kept _ _ _ (by decide),
    bit_or_kept _ _ _ (by decide)⟩

/-- The bits that a request blows. -/
def fuseMask (v : Word) (n : Nat) : Nat := (if v.getLsbD 8 then 2 ^ n else 0) ||| if v.getLsbD 9 then 2 ^ (16 + n) else 0

theorem fuseWrite_blows (v : Word) (n : Nat) (hn : n = v.toNat % 16) (hlo : 1 ≤ n) (hhi : n ≤ 11)
    (hst : s.get F.LCS_STATE_STATE = 1 ∨ s.get F.LCS_STATE_STATE = 2) :
    BelfryWork { s with otp := { s.otp with fuses := s.otp.fuses ||| fuseMask v n } } (s.fuseWrite (v ||| 0x80000000)) := by
  obtain ⟨hgo, hsrc, ha, hb⟩ := goBit_bits v
  have hok : (!fusable n || (s.get F.LCS_STATE_STATE != 1 && s.get F.LCS_STATE_STATE != 2)) = false := by
    rw [fusable, decide_eq_true ⟨hlo, hhi⟩]
    rcases hst with e | e <;> rw [e] <;> rfl
  unfold State.fuseWrite
  simp only [hgo, hsrc, ha, hb, ← hn, hok, Bool.not_true, Bool.false_eq_true, if_false]
  refine BelfryWork.liveChanged (BelfryWork.dropTests ?_) _
  rfl

theorem fuseWrite_refuses (v : Word) (n : Nat) (hn : n = v.toNat % 16)
    (hbad : n = 0 ∨ 12 ≤ n ∨ (s.get F.LCS_STATE_STATE ≠ 1 ∧ s.get F.LCS_STATE_STATE ≠ 2)) :
    s.fuseWrite (v ||| 0x80000000) = (s.wr R.BLF_FUSE_PGM ((v ||| 0x80000000) &&& 0x30F)).set F.BLF_STAT_CFG_REJECT := by
  obtain ⟨hgo, hsrc, -, -⟩ := goBit_bits v
  have hno : (!fusable n || (s.get F.LCS_STATE_STATE != 1 && s.get F.LCS_STATE_STATE != 2)) = true := by
    rw [Bool.or_eq_true, Bool.not_eq_true', fusable, decide_eq_false_iff_not, Bool.and_eq_true, bne_iff_ne, bne_iff_ne]
    omega
  unfold State.fuseWrite
  simp only [hgo, hsrc, ← hn, hno, Bool.not_true, Bool.false_eq_true, if_false, if_true]

theorem detectorAlarm_fused (n : Nat) (d : Nat) (h : s.fused n d = true) : s.detectorAlarm n d = s := by
  rw [State.detectorAlarm, State.detAlarm, State.detLive, h]
  simp

theorem disagree_disabled (n d : Nat) (h : s.fuseDisabled n = true) : s.disagree n d = s := by
  rw [State.disagree, h]
  simp

/-! ### On backup power -/

theorem syncBattery_regs (os : List Nat) (h1 : R.KEEP_STAT ∈ os) (h2 : R.KEEP_BBK_GEN ∈ os) : SameRegsBut os s s.syncBattery :=
  ((SameRegsBut.refl os s).put F.KEEP_STAT_BBK_VALID _ h1).wr _ _ h2

theorem backupAlarm_eq (n : Nat) (hot : Bool) (hb : s.blf.backup = true) (hn : n ∈ [0, 1, 2, 8]) (hf : s.fuseDisabled n = false)
    (f : Fld) (hfld : f = ⟨R.BLF_BAT_STAT, if n = 8 then (if hot then 4 else 3) else n, 1⟩) :
    s.backupAlarm n hot = (s.bbkDestroy.put f 1).put F.BLF_BAT_STAT_BAT_TCNT (min 15 ((s.bbkDestroy.put f 1).get F.BLF_BAT_STAT_BAT_TCNT + 1)) := by
  have hcont : [0, 1, 2, 8].contains n = true := List.elem_eq_true_of_mem hn
  unfold State.backupAlarm
  simp only [hb, hcont, hf, hfld, Bool.not_true, Bool.or_self, Bool.false_eq_true, if_false]

theorem backupAlarm_other (n : Nat) (hot : Bool) (hn : n ∉ [0, 1, 2, 8]) : s.backupAlarm n hot = s := by
  have hcont : [0, 1, 2, 8].contains n = false := by
    rw [List.contains_eq_mem, decide_eq_false hn]
  unfold State.backupAlarm
  simp only [hcont, Bool.not_false, Bool.or_true, Bool.true_or, if_true]

theorem bbkDestroy_regs (os : List Nat) (h1 : R.KEEP_STAT ∈ os) (h2 : R.KEEP_BBK_GEN ∈ os) : SameRegsBut os s s.bbkDestroy :=
  syncBattery_regs { s with keep := { s.keep with bbk := zeros s.keep.bbk.length, bbkValid := false, cells := [] } } os h1 h2

theorem backupAlarm_destroys (n : Nat) (hot : Bool) (hb : s.blf.backup = true) (hn : n ∈ [0, 1, 2, 8]) (hf : s.fuseDisabled n = false)
    (t : State) (ht : t = s.backupAlarm n hot) :
    t.keep = { s.keep with bbk := zeros s.keep.bbk.length, bbkValid := false, cells := [] } ∧
    t.on ⟨R.BLF_BAT_STAT, if n = 8 then (if hot then 4 else 3) else n, 1⟩ = true ∧
    t.get F.BLF_BAT_STAT_BAT_TCNT = min 15 (s.get F.BLF_BAT_STAT_BAT_TCNT + 1) ∧
    SameRegsBut [R.BLF_BAT_STAT, R.KEEP_STAT, R.KEEP_BBK_GEN] s t ∧ t = { s with regs := t.regs, keep := t.keep } := by
  rw [backupAlarm_eq s n hot hb hn hf _ rfl] at ht
  have hlow : (if n = 8 then (if hot then 4 else 3) else n) ≤ 4 := by
    simp only [List.mem_cons, List.not_mem_nil, or_false] at hn
    split
    · split <;> omega
    · omega
  generalize (if n = 8 then (if hot then 4 else 3) else n) = b at ht hlow ⊢
  have hdes := bbkDestroy_regs s [R.BLF_BAT_STAT, R.KEEP_STAT, R.KEEP_BBK_GEN] (by simp) (by simp)
  have hapart : (⟨R.BLF_BAT_STAT, b, 1⟩ : Fld).apart F.BLF_BAT_STAT_BAT_TCNT := by
    simp only [Fld.apart]
    omega
  have hget : (s.bbkDestroy.put ⟨R.BLF_BAT_STAT, b, 1⟩ 1).get F.BLF_BAT_STAT_BAT_TCNT = s.get F.BLF_BAT_STAT_BAT_TCNT := by
    rw [State.get_put_apart _ _ _ _ hapart]
    rw [State.get, bbkDestroy_regs s [R.KEEP_STAT, R.KEEP_BBK_GEN] (by simp) (by simp) _ (by decide), State.get]
  rw [hget] at ht
  subst ht
  refine ⟨rfl, ?_, ?_, (hdes.put _ _ (by simp)).put _ _ (by simp), rfl⟩
  · rw [State.on_put_apart _ _ _ _ (by simp only [Fld.apart] at hapart ⊢; omega)]
    exact State.on_set_self _ _ (by simp only; omega) rfl
  · rw [State.get_put_self _ _ _ (by decide)]
    exact Nat.mod_eq_of_lt (by simp only; omega)

/-! ### On main power, and the loss of the battery -/

theorem vbatCheck_eq (mv : Nat) (hup : s.blfUp = true) (hb : s.blf.backup = false) :
    s.vbatCheck mv = if mv < 2500 then (({ s with blf := { s.blf with vbat := mv } }).set F.BLF_BAT_STAT_VBAT_LOW).raise 20
      else ({ s with blf := { s.blf with vbat := mv } }).clr F.BLF_BAT_STAT_VBAT_LOW := by
  unfold State.vbatCheck
  simp only [hup, hb, Bool.not_true, Bool.or_self, Bool.false_eq_true, if_false]

theorem vbatCheck_shows (mv : Nat) (hup : s.blfUp = true) (hb : s.blf.backup = false) (t : State) (ht : t = s.vbatCheck mv) :
    t.on F.BLF_BAT_STAT_VBAT_LOW = decide (mv < 2500) ∧ (mv < 2500 → t.isPending 20 = true) ∧
    t.blf = { s.blf with vbat := mv } ∧ SameRegsBut (R.BLF_BAT_STAT :: eventRegs) s t ∧ SameMemory s t := by
  rw [vbatCheck_eq s mv hup hb] at ht
  set y : State := { s with blf := { s.blf with vbat := mv } } with hy
  have hregs : SameRegsBut (R.BLF_BAT_STAT :: eventRegs) s y := .refl _ _
  have hwork : BelfryWork s y := rfl
  by_cases hlow : mv < 2500
  · rw [if_pos hlow] at ht
    have hev : EventFrame (y.set F.BLF_BAT_STAT_VBAT_LOW) t := ht ▸ ((EvcOnly.refl (y.set F.BLF_BAT_STAT_VBAT_LOW)).raise 20).frame
    have hmem := (hwork.put F.BLF_BAT_STAT_VBAT_LOW 1).events hev
    refine ⟨?_, fun _ => ht ▸ State.raise_pend _ 20 (by decide), hev.blf, ?_, ?_⟩
    · have hkeep : SameRegsBut eventRegs (y.set F.BLF_BAT_STAT_VBAT_LOW) t :=
        ht ▸ (SameRegsBut.refl _ _).raise 20 (by decide) fun _ h => h
      rw [hkeep.on _ (by decide), decide_eq_true hlow]
      exact State.on_set_self _ _ (by decide) rfl
    · exact ht ▸ (hregs.put F.BLF_BAT_STAT_VBAT_LOW 1 (List.mem_cons_self ..)).raise 20 (by decide) fun _ => List.mem_cons_of_mem _
    · exact .of_eq (congrArg State.hostMem hmem :) (congrArg State.svcMem hmem :) (congrArg State.cupMem hmem :)
        (congrArg (fun x : State => x.cup.flash) hmem :) (congrArg State.otp hmem :)
  · rw [if_neg hlow] at ht
    subst ht
    refine ⟨?_, fun h => absurd h hlow, rfl, hregs.put F.BLF_BAT_STAT_VBAT_LOW 0 (List.mem_cons_self ..), .of_eq rfl rfl rfl rfl rfl⟩
    rw [decide_eq_false hlow]
    exact State.on_clr_self _ _ (by decide)

/-- A battery domain that has lost its contents, and shows it. -/
theorem batteryLost_fresh (y t : State) (hk : y.keep = s.keep) (hm : SameMemory s y) (ht : t = y.batteryLost.set F.BLF_BAT_STAT_VBAT_FRESH) :
    t.keep = { s.keep with bbk := [], bbkValid := false, bbkGen := 0, uidCount := 0, cells := [] } ∧
    t.on F.BLF_BAT_STAT_VBAT_FRESH = true ∧ t.get F.BLF_BAT_STAT_EVT = 0 ∧ t.get F.BLF_BAT_STAT_BAT_TCNT = 0 ∧ SameMemory s t := by
  subst ht
  have hlost : SameMemory y (y.batteryLost.set F.BLF_BAT_STAT_VBAT_FRESH) := .of_eq rfl rfl rfl rfl rfl
  refine ⟨?_, State.on_set_self _ _ (by decide) rfl, ?_, ?_, hm.trans hlost⟩
  · rw [← hk]
    rfl
  · rw [State.set, State.get_put_apart _ _ _ _ (.inr (.inr (by decide))), State.batteryLost, State.get_put_apart _ _ _ _ (.inr (.inr (by decide))),
      State.get_put_self _ _ _ (by decide)]
    rfl
  · rw [State.set, State.get_put_apart _ _ _ _ (.inr (.inr (by decide))), State.batteryLost, State.get_put_self _ _ _ (by decide)]
    rfl

theorem vbatBrownout_loses (mv : Nat) (hb : s.blf.backup = true) (h : mv < 2200) :
    s.vbatBrownout mv = ({ s with blf := { s.blf with vbat := mv } }).batteryLost.set F.BLF_BAT_STAT_VBAT_FRESH := by
  rw [State.vbatBrownout, hb, decide_eq_true h]
  rfl

theorem vbatFirst_loses (h : s.power.pwrOk = false) :
    s.vbatFirst = (s.resetRegs [.bat] fun _ => true).batteryLost.set F.BLF_BAT_STAT_VBAT_FRESH := by
  rw [State.vbatFirst, h]
  rfl

/-! ### Clearing -/

theorem batCtl_clrEvt : s.batCtlWrite (0 ||| 1) = (s.put F.BLF_BAT_STAT_EVT 0).put F.BLF_BAT_STAT_BAT_TCNT 0 := rfl

theorem batCtl_clrFresh : s.batCtlWrite (0 ||| 2) = s.clr F.BLF_BAT_STAT_VBAT_FRESH := rfl

end

/-- Settles O49: silicon fuses, and the battery domain on main and on backup power. -/
theorem fusesAndBattery : Obligations.FusesAndBattery := by
  unfold Obligations.FusesAndBattery
  intro s
  refine ⟨fun r v n hw hn => ⟨fun hr hst => ?_, fun hbad => ?_⟩, fun n d => ⟨fun h => ?_, fun h => ?_⟩,
    fun n hot hb => ⟨fun hn hf => ?_, fun hn => ?_⟩, fun mv => ⟨fun hup hb => ?_, fun c hc => ?_⟩, fun b => rfl, fun r hw => ⟨?_, ?_⟩⟩
  · have hwork := fuseWrite_blows s v n hn hr.1 hr.2 hst
    refine ⟨_, congrArg Host.Outcome.next (s.gateW_granted r _ _ hw), view_blfFused _, (congrArg State.otp hwork :),
      (congrArg State.hostMem hwork :), (congrArg State.svcMem hwork :), (congrArg State.cupMem hwork :), (congrArg State.cup hwork :)⟩
  · refine ⟨_, congrArg Host.Outcome.next ((s.gateW_granted r _ _ hw).trans (fuseWrite_refuses s v n hn hbad)),
      State.on_set_self _ _ (by decide) rfl, ?_, rfl⟩
    exact ((SameRegsBut.refl _ s).wr _ _ (by decide)).put _ _ (by decide)
  · show Host.Outcome.next (if s.vigilBelfry then s else s.detectorAlarm n (detNum d)) = _
    rw [detectorAlarm_fused s n _ h, ite_self]
  · exact congrArg Host.Outcome.next (disagree_disabled s n _ h)
  · exact ⟨_, rfl, backupAlarm_destroys s n hot hb hn hf _ rfl⟩
  · exact congrArg Host.Outcome.next (backupAlarm_other s n hot hn)
  · exact ⟨_, rfl, vbatCheck_shows s mv.toNat hup hb _ rfl⟩
  · rcases hc with ⟨rfl, hb, hmv⟩ | ⟨rfl, hpwr⟩
    · exact ⟨_, congrArg Host.Outcome.next (vbatBrownout_loses s mv.toNat hb hmv),
        batteryLost_fresh s { s with blf := { s.blf with vbat := mv.toNat } } _ rfl (.of_eq rfl rfl rfl rfl rfl) rfl⟩
    · exact ⟨_, congrArg Host.Outcome.next (vbatFirst_loses s hpwr),
        batteryLost_fresh s (s.resetRegs [.bat] fun _ => true) _ rfl (.of_eq rfl rfl rfl rfl rfl) rfl⟩
  · refine ⟨_, congrArg Host.Outcome.next ((s.gateW_granted r _ _ hw).trans (batCtl_clrEvt s)), ?_, ?_, ?_, rfl⟩
    · rw [State.get_put_apart _ _ _ _ (.inr (.inr (by decide))), State.get_put_self _ _ _ (by decide)]
      rfl
    · rw [State.get_put_self _ _ _ (by decide)]
      rfl
    · exact ((SameRegsBut.refl _ s).put _ _ (by decide)).put _ _ (by decide)
  · exact ⟨_, congrArg Host.Outcome.next ((s.gateW_granted r _ _ hw).trans (batCtl_clrFresh s)), State.on_clr_self _ _ (by decide),
      (SameRegsBut.refl _ s).put _ _ (by decide), rfl⟩

end Sys2Proof.Machine
end

section
/-! PROOF. Pending bits, masks and MSI-X (R528 to R531). -/

namespace Sys2Proof.Machine

theorem mem_setIns (n m : Nat) (l : List Nat) : m ∈ setIns n l ↔ m = n ∨ m ∈ l := by
  induction l with
  | nil => simp [setIns]
  | cons a l ih =>
    unfold setIns
    split
    · simp
    · split
      · next h => simp [h]
      · simp only [List.mem_cons, ih]
        tauto

theorem State.count_evc (s : State) (o n : Nat) : (s.count o n).evc = s.evc := (congrArg State.evc (s.count_frame o n) :)

/-! ### A delivery -/

/-- An event has gone to its destinations: the registers are as before, but for the saturation bits of EVC. -/
structure Delivers (s t : State) : Prop where
  frame : EventFrame s t
  regs : SameRegsBut [R.EVC_SAT] s t
  raw : t.evc.raw = s.evc.raw
  irq : ∀ m ∈ s.evc.cupIrq, m ∈ t.evc.cupIrq

theorem Delivers.refl (s : State) : Delivers s s := ⟨.refl s, .refl _ s, rfl, fun _ h => h⟩

section
variable {s t : State} (h : Delivers s t)
include h

theorem Delivers.trans {u : State} (k : Delivers t u) : Delivers s u :=
  ⟨h.frame.trans k.frame, h.regs.trans k.regs, k.raw.trans h.raw, fun m hm => k.irq m (h.irq m hm)⟩

theorem Delivers.inc (k : Nat) (hk : k < 3) : Delivers s (t.inc (R.EVC_CNT k)) where
  frame := h.frame.trans (t.inc_eventFrame _)
  regs := h.regs.trans fun p hp => t.rd_inc_evc k p hk (by simpa using hp)
  raw := (congrArg EvcSt.raw (t.count_evc _ 1)).trans h.raw
  irq := fun m hm => (congrArg EvcSt.cupIrq (t.count_evc _ 1)) ▸ h.irq m hm

theorem Delivers.withEvc (e : EvcSt) (hr : e.raw = t.evc.raw) (hi : ∀ m ∈ s.evc.cupIrq, m ∈ e.cupIrq) : Delivers s { t with evc := e } :=
  ⟨h.frame.trans rfl, h.regs, hr.trans h.raw, hi⟩

theorem Delivers.msix (fn vec : Nat) : Delivers s (t.msix fn vec) := by
  unfold State.msix
  split
  · exact (h.withEvc { t.evc with msixLog := t.evc.msixLog ++ [(fn, vec)] } rfl h.irq).inc 0 (by decide)
  · exact (h.withEvc { t.evc with pba := if t.evc.pba.contains (fn, vec) then t.evc.pba else t.evc.pba ++ [(fn, vec)] } rfl h.irq).inc 2
      (by decide)

theorem Delivers.irqCup (n : Nat) : Delivers s (t.irqCup n) :=
  h.withEvc _ rfl fun m hm => (mem_setIns n m _).2 (.inr (h.irq m hm))

theorem Delivers.countIntn (b : State) : Delivers s (countIntn b t) := by
  unfold Sys2Proof.Machine.countIntn
  split
  · exact h.inc 1 (by decide)
  · exact h

end

section
variable (s : State)

/-- The destinations of a source beside Cupola. -/
def State.routed (n : Nat) : State :=
  match s.evcGroupOwner n with
  | some 0 => if s.on (F.EVC_ROUTE_MSIX n) then s.msix 0 (s.get (F.EVC_ROUTE_VECTOR n)) else s
  | some 0x3F => s.irqSvc n
  | some vf => s.msix vf ((n - 128) % 4)
  | none => if s.on (F.EVC_ROUTE_MSIX n) then s.msix 0 (s.get (F.EVC_ROUTE_VECTOR n)) else s

theorem evcDeliver_eq (n : Nat) : s.evcDeliver n = if s.on (evcBit (R.EVC_MASK 0) n) && !s.evcNonMask n then s
    else if s.on (F.EVC_ROUTE_CUPOLA n) || s.evcNonMask n then (s.routed n).irqCup n else s.routed n := rfl

theorem routed_delivers (n : Nat) : Delivers s (s.routed n) := by
  have h := Delivers.refl s
  unfold State.routed
  split
  · split
    · exact h.msix _ _
    · exact h
  · exact ⟨rfl, h.regs, h.raw, h.irq⟩
  · exact h.msix _ _
  · split
    · exact h.msix _ _
    · exact h

theorem evcDeliver_delivers (n : Nat) : Delivers s (s.evcDeliver n) := by
  have h := routed_delivers s n
  rw [evcDeliver_eq]
  split
  · exact .refl s
  · split
    · exact h.irqCup n
    · exact h

/-- A source that is not masked and is routed to Cupola reaches its interrupt controller. -/
theorem evcDeliver_irq (n : Nat) (hm : s.on (evcBit (R.EVC_MASK 0) n) = false) (hr : s.on (F.EVC_ROUTE_CUPOLA n) = true) :
    n ∈ (s.evcDeliver n).evc.cupIrq := by
  rw [evcDeliver_eq, hm, hr, Bool.false_and, if_neg Bool.false_ne_true, Bool.true_or, if_pos rfl]
  exact (mem_setIns n n _).2 (.inl rfl)

theorem evcDeliver_masked (n : Nat) (hm : s.on (evcBit (R.EVC_MASK 0) n) = true) (hn : s.evcNonMask n = false) : s.evcDeliver n = s := by
  rw [evcDeliver_eq, hm, hn]
  rfl

/-! ### The rise of a source -/

theorem raise_eq (n : Nat) (h : s.isPending n = false) :
    s.raise n = countIntn s ((s.set (evcBit (R.EVC_PEND 0) n)).evcDeliver n) := by
  rw [State.raise, if_neg]
  rw [show s.on (evcBit (R.EVC_PEND 0) n) = false from h]
  exact Bool.false_ne_true

theorem raise_pending (n : Nat) (h : s.isPending n = true) : s.raise n = s := if_pos h

theorem raise_delivers (n : Nat) (h : s.isPending n = false) : Delivers (s.set (evcBit (R.EVC_PEND 0) n)) (s.raise n) := by
  rw [raise_eq s n h]
  exact (evcDeliver_delivers _ n).countIntn s

theorem evcPend_ne_sat (n : Nat) (hn : n < 256) : (evcBit (R.EVC_PEND 0) n).off ∉ [R.EVC_SAT] := by
  simp only [evcBit, R.EVC_PEND, R.EVC_SAT, List.mem_singleton]
  omega

theorem isPending_set (n m : Nat) : (s.set (evcBit (R.EVC_PEND 0) n)).isPending m = (s.isPending m || m == n) := by
  by_cases h : m = n
  · subst h
    rw [beq_self_eq_true, Bool.or_true]
    exact State.on_set_self _ _ (by simp only [evcBit]; omega) rfl
  · rw [beq_eq_false_iff_ne.2 h, Bool.or_false]
    exact State.on_put_apart _ _ _ _ (by simp only [Fld.apart, evcBit]; omega)

theorem isPending_raise_iff (n m : Nat) (hm : m < 256) : (s.raise n).isPending m = (s.isPending m || m == n) := by
  cases h : s.isPending n with
  | true =>
    rw [raise_pending s n h]
    by_cases he : m = n
    · rw [he, h, Bool.true_or]
    · rw [beq_eq_false_iff_ne.2 he, Bool.or_false]
  | false =>
    rw [State.isPending, (raise_delivers s n h).regs.on _ (evcPend_ne_sat m hm)]
    exact isPending_set s n m

theorem raise_raw (n : Nat) : (s.raise n).evc.raw = s.evc.raw := by
  cases h : s.isPending n with
  | true => rw [raise_pending s n h]
  | false => exact (raise_delivers s n h).raw

theorem raise_regs (n : Nat) : SameRegsBut [R.EVC_SAT, R.EVC_PEND (n / 32)] s (s.raise n) := fun p hp => by
  simp only [List.mem_cons, List.not_mem_nil, or_false, not_or] at hp
  exact s.rd_raise n p (by simpa [R.EVC_PEND] using hp.2) hp.1

theorem countIntn_evc (a b : State) : (countIntn a b).evc = b.evc := by
  unfold countIntn
  split
  · exact b.count_evc _ 1
  · rfl

/-- The pending bits are no part of what masks and routes a source. -/
theorem set_pend_route (n : Fin 256) (y : State) (hy : y = s.set (evcBit (R.EVC_PEND 0) n)) :
    y.on (evcBit (R.EVC_MASK 0) n) = s.on (evcBit (R.EVC_MASK 0) n) ∧ y.on (F.EVC_ROUTE_CUPOLA n) = s.on (F.EVC_ROUTE_CUPOLA n) ∧
    y.evcNonMask n = s.evcNonMask n := by
  have hlt := n.isLt
  have hregs : SameRegsBut [(evcBit (R.EVC_PEND 0) n).off] s y := hy ▸ s.sameRegsBut_put _ 1
  refine ⟨hregs.on _ (by simp only [evcBit, R.EVC_MASK, R.EVC_PEND, List.mem_singleton]; omega),
    hregs.on _ (by simp only [evcBit, R.EVC_ROUTE, R.EVC_PEND, List.mem_singleton]; omega), ?_⟩
  rw [State.evcNonMask, State.get, hregs _ (by simp only [evcBit, R.BLF_SRC_CFG, R.EVC_PEND, List.mem_singleton]; omega), State.evcNonMask,
    State.get]

theorem raise_masked (n : Fin 256) (hp : s.isPending n = false) (hm : s.on (evcBit (R.EVC_MASK 0) n) = true) (hn : s.evcNonMask n = false) :
    (s.raise n).evc = s.evc := by
  obtain ⟨hmask, -, hnon⟩ := set_pend_route s n _ rfl
  rw [raise_eq s n hp, countIntn_evc, evcDeliver_masked _ n (hmask.trans hm) (hnon.trans hn)]
  rfl

theorem raise_irq (n : Fin 256) (hp : s.isPending n = false) (hm : s.on (evcBit (R.EVC_MASK 0) n) = false)
    (hr : s.on (F.EVC_ROUTE_CUPOLA n) = true) : n.val ∈ (s.raise n).evc.cupIrq := by
  obtain ⟨hmask, hroute, -⟩ := set_pend_route s n _ rfl
  rw [raise_eq s n hp, countIntn_evc]
  exact evcDeliver_irq _ n (hmask.trans hm) (hroute.trans hr)

/-! ### A write of EVC_PEND -/

theorem reRaise_pending (l : List Nat) (m : Nat) (hm : m < 256) :
    (s.reRaise l).isPending m = (s.isPending m || (l.contains m && s.evc.raw.contains m)) := by
  induction l generalizing s with
  | nil => simp [State.reRaise]
  | cons n l ih =>
    rw [State.reRaise, ih]
    cases hraw : s.evc.raw.contains n with
    | true =>
      rw [if_pos rfl, raise_raw, isPending_raise_iff s n m hm, List.contains_cons]
      by_cases he : m = n
      · subst he
        rw [beq_self_eq_true, hraw]
        simp
      · rw [beq_eq_false_iff_ne.2 he, Bool.or_false, Bool.false_or]
    | false =>
      rw [if_neg Bool.false_ne_true, List.contains_cons]
      by_cases he : m = n
      · subst he
        rw [hraw, Bool.and_false, Bool.and_false]
      · rw [beq_eq_false_iff_ne.2 he, Bool.false_or]

theorem reRaise_regs (w : Nat) (l : List Nat) (hl : ∀ n ∈ l, n / 32 = w) : SameRegsBut [R.EVC_SAT, R.EVC_PEND w] s (s.reRaise l) := by
  induction l generalizing s with
  | nil => exact .refl _ s
  | cons n l ih =>
    refine SameRegsBut.trans (t := if s.evc.raw.contains n then s.raise n else s) ?_ (ih _ fun k hk => hl k (List.mem_cons_of_mem _ hk))
    split
    · exact hl n (List.mem_cons_self ..) ▸ raise_regs s n
    · exact .refl _ s

theorem reRaise_frame (l : List Nat) : EventFrame s (s.reRaise l) := by
  induction l generalizing s with
  | nil => exact .refl s
  | cons n l ih =>
    refine EventFrame.trans (t := if s.evc.raw.contains n then s.raise n else s) ?_ (ih _)
    split
    · exact ((EvcOnly.refl s).raise n).frame
    · exact .refl s

/-- A bit of an event word is the bit of its register. -/
theorem State.on_evcBit (base w i : Nat) (hi : i < 32) : s.on (evcBit base (32 * w + i)) = (s.rd (base + w * 4)).getLsbD i := by
  have hfld : evcBit base (32 * w + i) = ⟨base + w * 4, i, 1⟩ := by
    rw [evcBit, show (32 * w + i) / 32 = w by omega, show (32 * w + i) % 32 = i by omega]
  rw [hfld, State.on_bit]

theorem mem_bitsOf (w : Nat) (v : Word) (i : Nat) (hi : i < 32) : 32 * w + i ∈ bitsOf w v ↔ v.getLsbD i = true := by
  simp only [bitsOf, List.mem_map, List.mem_filter, List.mem_range]
  constructor
  · rintro ⟨k, ⟨-, hk⟩, he⟩
    obtain rfl : k = i := by omega
    exact hk
  · exact fun h => ⟨i, ⟨hi, h⟩, rfl⟩

theorem div_of_mem_bitsOf {w : Nat} {v : Word} {n : Nat} (h : n ∈ bitsOf w v) : n / 32 = w := by
  simp only [bitsOf, List.mem_map, List.mem_filter, List.mem_range] at h
  omega

theorem pendClear_clears (w : Fin 8) (v : Word) (i : Nat) (hi : i < 32) : (s.pendClear w v).isPending (32 * w.val + i) =
    (s.isPending (32 * w.val + i) && (!v.getLsbD i || s.evc.raw.contains (32 * w.val + i))) := by
  have hw := w.isLt
  set l := (bitsOf w (s.rd (R.EVC_PEND w))).filter (fun n => v.getLsbD (n % 32)) with hl
  have hpend : s.isPending (32 * w.val + i) = (s.rd (R.EVC_PEND w)).getLsbD i := s.on_evcBit (R.EVC_PEND 0) w i hi
  have hcon : l.contains (32 * w.val + i) = ((s.rd (R.EVC_PEND w)).getLsbD i && v.getLsbD i) := by
    rw [List.contains_eq_mem, Bool.eq_iff_iff, decide_eq_true_eq, hl, List.mem_filter, mem_bitsOf w _ i hi, Bool.and_eq_true,
      show (32 * w.val + i) % 32 = i by omega]
  have hcleared : (s.wr (R.EVC_PEND w) (s.rd (R.EVC_PEND w) &&& ~~~v)).isPending (32 * w.val + i) =
      ((s.rd (R.EVC_PEND w)).getLsbD i && !v.getLsbD i) := by
    rw [State.isPending, State.on_evcBit _ _ _ _ hi, show R.EVC_PEND 0 + w.val * 4 = R.EVC_PEND w by simp, State.rd_wr_self,
      BitVec.getLsbD_and, BitVec.getLsbD_not, decide_eq_true hi, Bool.true_and]
  rw [State.pendClear, ← hl, reRaise_pending _ l _ (by omega), hcleared, hcon, hpend]
  show ((_ && _) || (_ && s.evc.raw.contains (32 * w.val + i))) = _
  cases (s.rd (R.EVC_PEND w)).getLsbD i <;> cases v.getLsbD i <;> rfl

theorem pendClear_frame (w : Nat) (v : Word) :
    SameRegsBut [R.EVC_SAT, R.EVC_PEND w] s (s.pendClear w v) ∧ EventFrame s (s.pendClear w v) := by
  have hput : SameRegsBut [R.EVC_SAT, R.EVC_PEND w] s (s.wr (R.EVC_PEND w) (s.rd (R.EVC_PEND w) &&& ~~~v)) :=
    (SameRegsBut.refl _ s).wr _ _ (by simp)
  refine ⟨hput.trans (reRaise_regs _ w _ fun n hn => div_of_mem_bitsOf (List.mem_filter.1 hn).1), ?_⟩
  exact EventFrame.trans (t := s.wr (R.EVC_PEND w) (s.rd (R.EVC_PEND w) &&& ~~~v)) rfl (reRaise_frame _ _)

/-! ### A write of EVC_MASK -/

theorem deliverAll_delivers (l : List Nat) : Delivers s (l.foldl (fun s n => s.evcDeliver n) s) := by
  induction l generalizing s with
  | nil => exact .refl s
  | cons n l ih => exact (evcDeliver_delivers s n).trans (ih _)

theorem deliverAll_irq (l : List Nat) (n : Nat) (hn : n ∈ l) (hlt : n < 256) (hm : s.on (evcBit (R.EVC_MASK 0) n) = false)
    (hr : s.on (F.EVC_ROUTE_CUPOLA n) = true) : n ∈ (l.foldl (fun s n => s.evcDeliver n) s).evc.cupIrq := by
  induction l generalizing s with
  | nil => cases hn
  | cons k l ih =>
    rcases List.mem_cons.1 hn with rfl | hn
    · exact (deliverAll_delivers _ l).irq _ (evcDeliver_irq s n hm hr)
    · have hregs := (evcDeliver_delivers s k).regs
      refine ih _ hn ((hregs.on _ ?_).trans hm) ((hregs.on _ ?_).trans hr)
      · simp only [evcBit, R.EVC_MASK, R.EVC_SAT, List.mem_singleton]
        omega
      · simp only [R.EVC_ROUTE, R.EVC_SAT, List.mem_singleton]
        omega

/-- The sources that a write of EVC_MASK unmasks while they are pending. -/
def State.freed (w : Nat) (v : Word) : List Nat :=
  (bitsOf w (s.rd (R.EVC_MASK w) &&& ~~~v)).filter fun n => s.on (evcBit (R.EVC_PEND 0) n) && !s.evcNonMask n

theorem maskWrite_eq (w : Nat) (v : Word) :
    s.maskWrite w v = countIntn s ((s.freed w v).foldl (fun s n => s.evcDeliver n) (s.wr (R.EVC_MASK w) v)) := rfl

theorem maskWrite_delivers (w : Nat) (v : Word) : Delivers (s.wr (R.EVC_MASK w) v) (s.maskWrite w v) := by
  rw [maskWrite_eq]
  exact (deliverAll_delivers _ _).countIntn s

theorem maskWrite_irq (w : Fin 8) (v : Word) (i : Nat) (hi : i < 32) (hv : v.getLsbD i = false)
    (hm : s.on (evcBit (R.EVC_MASK 0) (32 * w.val + i)) = true) (hp : s.isPending (32 * w.val + i) = true)
    (hn : s.evcNonMask (32 * w.val + i) = false) (hr : s.on (F.EVC_ROUTE_CUPOLA (32 * w.val + i)) = true) :
    32 * w.val + i ∈ (s.maskWrite w v).evc.cupIrq := by
  have hw := w.isLt
  have hword : s.on (evcBit (R.EVC_MASK 0) (32 * w.val + i)) = (s.rd (R.EVC_MASK w)).getLsbD i := s.on_evcBit (R.EVC_MASK 0) w i hi
  have hfreed : 32 * w.val + i ∈ s.freed w v := by
    refine List.mem_filter.2 ⟨(mem_bitsOf w _ i hi).2 ?_, ?_⟩
    · rw [BitVec.getLsbD_and, BitVec.getLsbD_not, hv, ← hword, hm, decide_eq_true hi]
      rfl
    · rw [show s.on (evcBit (R.EVC_PEND 0) (32 * w.val + i)) = true from hp, hn]
      rfl
  rw [maskWrite_eq, countIntn_evc]
  refine deliverAll_irq _ _ _ hfreed (by omega) ?_ ?_
  · rw [State.on_evcBit _ _ _ _ hi, show R.EVC_MASK 0 + w.val * 4 = R.EVC_MASK w by simp, State.rd_wr_self, hv]
  · refine Eq.trans ?_ hr
    rw [State.on, State.get, State.rd_wr_of_ne _ _ _ _ (by simp only [R.EVC_ROUTE, R.EVC_MASK]; omega), State.on, State.get]

/-! ### MSI-X -/

theorem sendHeld_evc : s.sendHeld.evc = { s.evc with
    pba := s.evc.pba.filter fun p => !(s.evc.msixEnabled.contains p.1 && s.evc.msixUnmasked.contains p)
    msixLog := s.evc.msixLog ++ s.evc.pba.filter fun p => s.evc.msixEnabled.contains p.1 && s.evc.msixUnmasked.contains p } :=
  State.count_evc _ _ _

theorem sendHeld_frame : EventFrame s s.sendHeld :=
  EventFrame.trans (t := { s with evc := s.sendHeld.evc }) rfl (by
    rw [sendHeld_evc]
    exact State.count_eventFrame _ _ _)

theorem EventFrame.sameMemory {s t : State} (h : EventFrame s t) : SameMemory s t :=
  .of_eq (congrArg State.hostMem h :) (congrArg State.svcMem h :) (congrArg State.cupMem h :)
    (congrArg (fun x : State => x.cup.flash) h :) (congrArg State.otp h :)

theorem msixUnmask_enable (f : Nat) (hup : s.power.hostUp = true) :
    s.msixUnmask f .enable = ({ s with evc := { s.evc with msixEnabled := setIns f s.evc.msixEnabled } }).sendHeld := by
  unfold State.msixUnmask
  simp only [hup, Bool.not_true, Bool.false_eq_true, if_false]

theorem msixUnmask_vector (f : Nat) (n : Fin 64) (hup : s.power.hostUp = true) (hn : n.val < msixVectors f)
    (hnew : (f, n.val) ∉ s.evc.msixUnmasked) : s.msixUnmask f (.vector n) =
      ({ s with evc := { s.evc with msixUnmasked := s.evc.msixUnmasked ++ [(f, n.val)] } }).sendHeld := by
  have hcon : s.evc.msixUnmasked.contains (f, n.val) = false := by rw [List.contains_eq_mem, decide_eq_false hnew]
  unfold State.msixUnmask
  simp only [hup, hcon, hn, Bool.not_true, Bool.not_false, Bool.false_eq_true, if_false, and_self, if_true]

end

/-- Settles O55: pending bits, masks and MSI-X. -/
theorem eventDelivery : Obligations.EventDelivery := by
  unfold Obligations.EventDelivery
  intro s
  refine ⟨fun n hal => ?_, fun r w v hw => ?_, fun r w v hw => ?_, fun f hup => ⟨?_, fun n hn hnew => ?_⟩⟩
  · have hexec : exec (.eventRise n) s = .next (s.raise n) := congrArg Host.Outcome.next (if_pos hal)
    refine ⟨fun hp => hexec.trans (congrArg Host.Outcome.next (raise_pending s n hp)), fun hp => ⟨_, hexec, ?_, ?_, ?_, raise_regs s n, ?_⟩⟩
    · exact fun m hm => isPending_raise_iff s n m hm
    · exact raise_masked s n hp
    · exact raise_irq s n hp
    · exact ((EvcOnly.refl s).raise n).frame
  · obtain ⟨hregs, hframe⟩ := pendClear_frame s w v
    exact ⟨_, congrArg Host.Outcome.next (s.gateW_granted r _ _ hw), fun i hi => pendClear_clears s w v i hi, hregs, hframe⟩
  · have hdel := maskWrite_delivers s w v
    have hput : SameRegsBut [R.EVC_SAT, R.EVC_MASK w] s (s.wr (R.EVC_MASK w) v) := (SameRegsBut.refl _ s).wr _ _ (by simp)
    refine ⟨_, congrArg Host.Outcome.next (s.gateW_granted r _ _ hw), ?_, fun i hi hv hm hp hn hr => maskWrite_irq s w v i hi hv hm hp hn hr,
      hput.trans (hdel.regs.mono (by simp)), EventFrame.trans (t := s.wr (R.EVC_MASK w) v) rfl hdel.frame⟩
    rw [hdel.regs _ (by simp only [R.EVC_MASK, R.EVC_SAT, List.mem_singleton]; omega), State.rd_wr_self]
  · set y : State := { s with evc := { s.evc with msixEnabled := setIns f s.evc.msixEnabled } } with hy
    have hevc := sendHeld_evc y
    have hframe : EventFrame s y.sendHeld := EventFrame.trans (t := y) rfl (sendHeld_frame y)
    refine ⟨_, congrArg Host.Outcome.next (msixUnmask_enable s f hup), ?_, ?_, ?_, hframe.sameMemory⟩
    · rw [hevc]
      exact (mem_setIns f f _).2 (.inl rfl)
    · rw [hevc]
    · rw [hevc]
  · set y : State := { s with evc := { s.evc with msixUnmasked := s.evc.msixUnmasked ++ [(f.val, n.val)] } } with hy
    have hevc := sendHeld_evc y
    have hframe : EventFrame s y.sendHeld := EventFrame.trans (t := y) rfl (sendHeld_frame y)
    refine ⟨_, congrArg Host.Outcome.next (msixUnmask_vector s f n hup hn hnew), ?_, ?_, ?_, hframe.sameMemory⟩
    · rw [hevc]
    · rw [hevc]
    · rw [hevc]

end Sys2Proof.Machine
end

section
/-! PROOF. What FCR does with a fault message: its receipt, its latching and its entry in the history (R513 to R516). -/

namespace Sys2Proof.Machine

/-! ### Receipt -/

theorem BelfryWork.sameMemory {s t : State} (h : BelfryWork s t) : SameMemory s t :=
  .of_eq (congrArg State.hostMem h :) (congrArg State.svcMem h :) (congrArg State.cupMem h :)
    (congrArg (fun x : State => x.cup.flash) h :) (congrArg State.otp h :)

theorem BelfryWork.time {s t : State} (h : BelfryWork s t) : t.time = s.time := (congrArg State.time h :)

section
variable (s : State) (m : DWord)

/-- A message has arrived; one of KIND 3 or 4 is noted for LOGIC. -/
def State.received : State :=
  if msgKind m = 3 ∨ msgKind m = 4 then { s.takeMsg m with blf := { (s.takeMsg m).blf with
      logic := (s.takeMsg m).blf.logic.filter (fun e => decide ((s.takeMsg m).time < e.1 + 1000000)) ++
        [((s.takeMsg m).time, msgSource m)] } }
  else s.takeMsg m

/-- What FCR makes of a message that has arrived: `l` is its level, `l0` that of the reaction in progress. -/
def State.judged (l l0 : Nat) : State :=
  if s.reacting then
    if l0 < l then
      (((((s.latch m (s.get F.FLT_REACT_RTAG) l).enter m (s.get F.FLT_REACT_RTAG) true false l).kindEvent (msgKind m) l).put
        F.FLT_REACT_LEVEL l).openWindow.belfryPart m l).act l0 l m (msgVigil m)
    else if s.inWindow && consequential l0 (msgKind m) then s.enter m (s.get F.FLT_REACT_RTAG) false true l
    else (((s.latch m (s.get F.FLT_REACT_RTAG) l).enter m (s.get F.FLT_REACT_RTAG) true false l).kindEvent (msgKind m) l).belfryPart m l
  else if 2 ≤ l then
    ((((((s.beginReaction l).latch m ((s.beginReaction l).get F.FLT_REACT_RTAG) l).enter m
      ((s.beginReaction l).get F.FLT_REACT_RTAG) true false l).kindEvent (msgKind m) l).raise 53).belfryPart m l).act 0 l m (msgVigil m)
  else ((s.latch m 0 l).enter m 0 false false l).kindEvent (msgKind m) l

theorem faultReceived_eq : s.faultReceived m =
    (s.received m).judged m ((s.takeMsg m).msgLevel m) ((s.takeMsg m).get F.FLT_REACT_LEVEL) := rfl

/-- A message in order leaves the way, and the next sequence number is due. -/
theorem takeMsg_ordered (h : sget (fun _ => 0) s.fcr.seqRx (msgSource m) ∈ [0, msgSeq m + 1]) :
    s.takeMsg m = { s with fcr := { s.fcr with
      transit := s.fcr.transit.erase m
      seqRx := sput (fun _ => 0) s.fcr.seqRx (msgSource m) ((msgSeq m + 1) % 32 + 1) } } :=
  if_pos (by simpa using h)

/-- The state in which a message in order has arrived. -/
structure Arrived (t : State) : Prop where
  frame : t = { s with fcr := t.fcr, blf := t.blf }
  history : t.fcr.history = s.fcr.history
  transit : t.fcr.transit = s.fcr.transit.erase m
  window : t.fcr.windowEnd = s.fcr.windowEnd
  blf : msgKind m ≠ 3 → msgKind m ≠ 4 → t.blf = s.blf

theorem received_arrived (h : sget (fun _ => 0) s.fcr.seqRx (msgSource m) ∈ [0, msgSeq m + 1]) : Arrived s m (s.received m) := by
  rw [State.received, takeMsg_ordered s m h]
  split
  · next hk => exact ⟨rfl, rfl, rfl, rfl, fun h3 h4 => (hk.elim h3 h4).elim⟩
  · exact ⟨rfl, rfl, rfl, rfl, fun _ _ => rfl⟩

theorem exec_faultMessage (hsrc : knownSource (msgSource m) = true) (hal : s.alive = true)
    (h : sget (fun _ => 0) s.fcr.seqRx (msgSource m) ∈ [0, msgSeq m + 1]) :
    exec (.faultMessage m) s = .next ((s.received m).judged m (s.msgLevel m) (s.get F.FLT_REACT_LEVEL)) := by
  show Host.Outcome.next (if knownSource (msgSource m) && (s.alive || _) then s.faultReceived m else s) = _
  rw [hsrc, hal, Bool.true_or, Bool.and_self, if_pos rfl, faultReceived_eq, takeMsg_ordered s m h]
  rfl

/-! ### Entry in the history -/

theorem satOf_fltKcnt : ∀ k : Fin 32, satOf (R.FLT_KCNT k) = some ⟨R.FLT_KSAT, k, 1⟩ := by decide

/-- A message has been entered and counted. -/
structure MessageEntered (e : HistEntry) (s t : State) : Prop where
  work : BelfryWork s t
  fcr : t.fcr = { s.fcr with history := s.fcr.history ++ [e] }
  blf : t.blf = s.blf
  count : t.cntGet (R.FLT_KCNT (msgKind e.msg)) = s.plus (R.FLT_KCNT (msgKind e.msg)) 1

theorem BelfryWork.withFcr {s t : State} (h : BelfryWork s t) (f : FcrSt) : BelfryWork s { t with fcr := f } := h.trans rfl

theorem enter_eq (tag : Nat) (cause conseq : Bool) (l : Nat) (hk : msgKind m < 32) (hlen : s.fcr.history.length < 256) :
    s.enter m tag cause conseq l = { s.inc (R.FLT_KCNT (msgKind m)) with
      fcr := { s.fcr with history := s.fcr.history ++ [⟨m, tag, cause, conseq, l, s.time / 1000 % 2 ^ 32⟩] } } := by
  have hframe := s.inc_eventFrame (R.FLT_KCNT (msgKind m))
  have hfcr : (s.inc (R.FLT_KCNT (msgKind m))).fcr = s.fcr := hframe.fcr
  have htime : (s.inc (R.FLT_KCNT (msgKind m))).time = s.time := (congrArg State.time hframe :)
  unfold State.enter
  simp only [if_pos hk, hfcr, htime, if_neg (Nat.not_le.2 hlen)]

theorem enter_enters (tag : Nat) (cause conseq : Bool) (l : Nat) (hk : msgKind m < 32) (hlen : s.fcr.history.length < 256) :
    MessageEntered ⟨m, tag, cause, conseq, l, s.time / 1000 % 2 ^ 32⟩ s (s.enter m tag cause conseq l) ∧
    SameRegsBut [R.FLT_KSAT] s (s.enter m tag cause conseq l) ∧ (s.enter m tag cause conseq l).evc = s.evc := by
  have hframe := s.inc_eventFrame (R.FLT_KCNT (msgKind m))
  rw [enter_eq s m tag cause conseq l hk hlen]
  refine ⟨⟨((BelfryWork.refl s).events hframe).withFcr _, rfl, hframe.blf, s.cntGet_inc _⟩, ?_, s.count_evc _ 1⟩
  exact (SameRegsBut.refl _ s).inc (R.FLT_KCNT (msgKind m)) _ (satOf_fltKcnt ⟨msgKind m, hk⟩) (List.mem_cons_self ..)

theorem fltKcnt_ne_evc (k : Nat) (hk : k < 32) : ∀ i < 3, R.FLT_KCNT k ≠ R.EVC_CNT i := fun i _ => by
  simp only [R.FLT_KCNT, R.EVC_CNT]
  omega

theorem kindEvent_only (k l : Nat) : EvcOnly s (s.kindEvent k l) := by
  unfold State.kindEvent
  split
  · exact (EvcOnly.refl s).raise _
  · exact .refl s

theorem kindEvent_regs (k l : Nat) (hk : k < 32) : SameRegsBut eventRegs s (s.kindEvent k l) := by
  unfold State.kindEvent
  split
  · exact (SameRegsBut.refl _ s).raise _ (by omega) fun _ h => h
  · exact .refl _ s

theorem kindEvent_first (k l : Nat) : (s.kindEvent k l).isPending 32 = s.isPending 32 := by
  unfold State.kindEvent
  split
  · next h =>
    rw [isPending_raise_iff s _ 32 (by decide), beq_eq_false_iff_ne.2 (by omega), Bool.or_false]
  · rfl

theorem kindEvent_pending (k l n : Nat) (hn : n < 256) (h : s.isPending n = true) :
    (s.kindEvent k l).isPending n = true := by
  unfold State.kindEvent
  split
  · exact s.isPending_raise n _ hn h
  · exact h

theorem kindEvent_raises (k l : Nat) (hl : 1 ≤ l) (h1 : 1 ≤ k) (h2 : k ≤ 0x14) : (s.kindEvent k l).isPending (32 + k) = true := by
  rw [State.kindEvent, if_pos ⟨hl, h1, h2⟩]
  exact s.raise_pend _ (by omega)

/-- A message entered, counted, and shown by the event of its KIND. -/
def State.entered (tag : Nat) (cause conseq : Bool) (l : Nat) : State := (s.enter m tag cause conseq l).kindEvent (msgKind m) l

theorem entered_enters (tag : Nat) (cause conseq : Bool) (l : Nat) (hk : msgKind m < 32) (hlen : s.fcr.history.length < 256)
    (t : State) (ht : t = s.entered m tag cause conseq l) :
    MessageEntered ⟨m, tag, cause, conseq, l, s.time / 1000 % 2 ^ 32⟩ s t ∧ SameRegsBut (R.FLT_KSAT :: eventRegs) s t ∧
    t.isPending 32 = s.isPending 32 := by
  obtain ⟨hent, hregs, hevc⟩ := enter_enters s m tag cause conseq l hk hlen
  have hkind := kindEvent_only (s.enter m tag cause conseq l) (msgKind m) l
  have hkregs := kindEvent_regs (s.enter m tag cause conseq l) (msgKind m) l hk
  have hfirst := kindEvent_first (s.enter m tag cause conseq l) (msgKind m) l
  rw [State.entered] at ht
  subst ht
  refine ⟨⟨hent.work.events hkind.frame, hkind.frame.fcr.trans hent.fcr, hkind.frame.blf.trans hent.blf,
    (hkind.counts _ (fltKcnt_ne_evc _ hk)).trans hent.count⟩, ?_, ?_⟩
  · exact (hregs.mono (by simp)).trans (hkregs.mono fun _ => List.mem_cons_of_mem _)
  · rw [hfirst, State.isPending, hregs.on _ (by decide), State.isPending]

/-! ### Latching -/

/-- The registers of the first record, of the count and of the sticky bits. -/
def latchRegs : List Nat :=
  [R.FLT_STICKY, R.FLT_COUNT, R.FLT_STAT, R.FLT_FIRST_LO, R.FLT_FIRST_HI, R.FLT_FIRST_INFO, R.FLT_FIRST_TIME_LO, R.FLT_FIRST_TIME_HI]

theorem EvcOnly.wr {s t : State} (h : EvcOnly s t) (o : Nat) (v : Word) : EvcOnly s (t.wr o v) := ⟨h.frame.trans rfl, h.counts⟩

theorem ite_lt_of {p : Prop} [Decidable p] {a b n : Nat} (ha : p → a < n) (hb : ¬ p → b < n) : (if p then a else b) < n := by
  split
  · exact ha ‹_›
  · exact hb ‹_›

theorem sourceGroup_lt (n : Nat) : sourceGroup n < 32 := by
  unfold sourceGroup
  iterate 12 refine ite_lt_of (fun h => by omega) fun h => ?_
  decide

/-- The sticky bit of the message's group is set. -/
def State.stuck : State := s.put ⟨R.FLT_STICKY, sourceGroup (msgSource m), 1⟩ 1

/-- A further message at or above PIN_LEVEL is counted. -/
def State.counted : State := (s.put F.FLT_COUNT_COUNT (min 0xFFFF (s.get F.FLT_COUNT_COUNT + 1))).set F.FLT_STAT_OVERFLOW

/-- The first record. -/
def State.firstHeld (tag l : Nat) : State :=
  (((((s.wr R.FLT_FIRST_LO (m.setWidth 32)).wr R.FLT_FIRST_HI (BitVec.ofNat 32 (m.toNat / 2 ^ 32))).put F.FLT_FIRST_INFO_LEVEL l).put
    F.FLT_FIRST_INFO_RTAG tag).set F.FLT_FIRST_INFO_VALID).wr64 R.FLT_FIRST_TIME_LO R.FLT_FIRST_TIME_HI s.time

theorem latch_eq (tag l : Nat) : s.latch m tag l = if l < s.get F.FLT_CFG_PIN_LEVEL then s
    else if (s.stuck m).on F.FLT_FIRST_INFO_VALID then ((s.stuck m).counted).level 55 true
    else (((s.stuck m).firstHeld m tag l).set F.FLT_STAT_FIRST_VALID).level 32 true := by
  unfold State.latch State.counted State.firstHeld State.stuck
  rfl

theorem SameRegsBut.level {os : List Nat} {s t : State} (h : SameRegsBut os s t) (n : Nat) (b : Bool) (hn : n < 256)
    (hos : ∀ o ∈ eventRegs, o ∈ os) : SameRegsBut os s (t.level n b) := by
  unfold State.level
  split
  · split
    · exact h
    · exact SameRegsBut.raise (t := { t with evc := { t.evc with raw := setIns n t.evc.raw } }) h n hn hos
  · exact h

theorem isPending_level (n : Nat) (hn : n < 256) : (s.level n true).isPending n = (s.isPending n || !s.evc.raw.contains n) := by
  rw [State.level, if_pos rfl]
  cases h : s.evc.raw.contains n with
  | true => rw [if_pos rfl, Bool.not_true, Bool.or_false]
  | false =>
    rw [if_neg Bool.false_ne_true, isPending_raise_iff _ n n hn, beq_self_eq_true, Bool.or_true, Bool.not_false, Bool.or_true]

/-- What the latching of a message leaves alone. -/
structure LatchFrame (s t : State) : Prop where
  only : EvcOnly s t
  regs : SameRegsBut (latchRegs ++ eventRegs) s t
  stat : ∀ i, 2 ≤ i → t.on ⟨R.FLT_STAT, i, 1⟩ = s.on ⟨R.FLT_STAT, i, 1⟩

theorem LatchFrame.refl : LatchFrame s s := ⟨.refl s, .refl _ s, fun _ _ => rfl⟩

theorem LatchFrame.put {s t : State} (h : LatchFrame s t) (f : Fld) (x : Nat) (hf : f.off ∈ latchRegs) (hstat : f.off = R.FLT_STAT → f.lo + f.width ≤ 2) :
    LatchFrame s (t.put f x) := by
  refine ⟨h.only.put f x, h.regs.put f x (List.mem_append_left _ hf), fun i hi => (State.on_put_apart _ _ _ _ ?_).trans (h.stat i hi)⟩
  by_cases ho : f.off = R.FLT_STAT
  · exact .inr (.inl ((hstat ho).trans hi))
  · exact .inl (Ne.symm ho)

theorem LatchFrame.wr {s t : State} (h : LatchFrame s t) (o : Nat) (v : Word) (ho : o ∈ latchRegs) (hne : o ≠ R.FLT_STAT) :
    LatchFrame s (t.wr o v) := by
  refine ⟨h.only.wr o v, h.regs.wr o v (List.mem_append_left _ ho), fun i hi => ?_⟩
  rw [State.on, State.get, State.rd_wr_of_ne _ _ _ _ hne.symm]
  exact h.stat i hi

theorem LatchFrame.level {s t : State} (h : LatchFrame s t) (n : Nat) (hn : n < 256) : LatchFrame s (t.level n true) := by
  have hlev : SameRegsBut eventRegs t (t.level n true) := (SameRegsBut.refl _ t).level n true hn fun _ h => h
  exact ⟨h.only.level n true, h.regs.trans (hlev.mono fun _ => List.mem_append_right _),
    fun i hi => (hlev.on _ (by decide : R.FLT_STAT ∉ eventRegs)).trans (h.stat i hi)⟩

theorem stuck_frame : LatchFrame s (s.stuck m) := (LatchFrame.refl s).put _ 1
  (show R.FLT_STICKY ∈ latchRegs by decide) (fun h => absurd h (show R.FLT_STICKY ≠ R.FLT_STAT by decide))

theorem latch_frame (tag l : Nat) : LatchFrame s (s.latch m tag l) := by
  have hstuck := stuck_frame s m
  rw [latch_eq]
  split
  · exact .refl s
  · split
    · exact ((hstuck.put _ _ (by decide) (fun h => absurd h (by decide))).put _ _ (by decide) (fun _ => by decide)).level 55 (by decide)
    · refine LatchFrame.level (LatchFrame.put ?_ _ _ (by decide) (fun _ => by decide)) 32 (by decide)
      have hrec := ((hstuck.wr R.FLT_FIRST_LO (m.setWidth 32) (by decide) (by decide)).wr R.FLT_FIRST_HI
        (BitVec.ofNat 32 (m.toNat / 2 ^ 32)) (by decide) (by decide))
      have hinfo := ((hrec.put F.FLT_FIRST_INFO_LEVEL l (by decide) (fun h => absurd h (by decide))).put F.FLT_FIRST_INFO_RTAG tag (by decide)
        (fun h => absurd h (by decide))).put F.FLT_FIRST_INFO_VALID 1 (by decide) (fun h => absurd h (by decide))
      exact (hinfo.wr _ _ (by decide) (by decide)).wr _ _ (by decide) (by decide)

theorem latch_below (tag l : Nat) (h : l < s.get F.FLT_CFG_PIN_LEVEL) : s.latch m tag l = s := by rw [latch_eq, if_pos h]

theorem stuck_valid : (s.stuck m).on F.FLT_FIRST_INFO_VALID = s.on F.FLT_FIRST_INFO_VALID := 
  State.on_put_apart _ _ _ _ (.inl (show R.FLT_FIRST_INFO ≠ R.FLT_STICKY by decide))

theorem stuck_on : (s.stuck m).on ⟨R.FLT_STICKY, sourceGroup (msgSource m), 1⟩ = true :=
  State.on_set_self _ _ (by have := sourceGroup_lt (msgSource m); simp only; omega) rfl

theorem stuck_rd (o : Nat) (h : o ≠ R.FLT_STICKY) : (s.stuck m).rd o = s.rd o := State.rd_put_of_ne _ _ _ _ h

theorem firstHeld_rd (tag l o : Nat)
    (h : o ∉ [R.FLT_FIRST_LO, R.FLT_FIRST_HI, R.FLT_FIRST_INFO, R.FLT_FIRST_TIME_LO, R.FLT_FIRST_TIME_HI]) :
    (s.firstHeld m tag l).rd o = s.rd o := by
  simp only [List.mem_cons, List.not_mem_nil, or_false, not_or] at h
  obtain ⟨hlo, hhi, hinfo, htlo, hthi⟩ := h
  rw [State.firstHeld, State.wr64, State.rd_wr_of_ne _ _ _ _ hthi, State.rd_wr_of_ne _ _ _ _ htlo, State.set,
    State.rd_put_of_ne _ _ _ _ hinfo, State.rd_put_of_ne _ _ _ _ hinfo, State.rd_put_of_ne _ _ _ _ hinfo, State.rd_wr_of_ne _ _ _ _ hhi,
    State.rd_wr_of_ne _ _ _ _ hlo]

theorem firstHeld_holds (tag l : Nat) (hl : l < 8) : (s.firstHeld m tag l).rd R.FLT_FIRST_LO = m.setWidth 32 ∧
    (s.firstHeld m tag l).rd R.FLT_FIRST_HI = BitVec.ofNat 32 (m.toNat / 2 ^ 32) ∧ (s.firstHeld m tag l).get F.FLT_FIRST_INFO_LEVEL = l ∧
    (s.firstHeld m tag l).on F.FLT_FIRST_INFO_VALID = true := by
  have hrd : ∀ (x : State) (o : Nat), o ≠ R.FLT_FIRST_TIME_LO → o ≠ R.FLT_FIRST_TIME_HI →
      (x.wr64 R.FLT_FIRST_TIME_LO R.FLT_FIRST_TIME_HI s.time).rd o = x.rd o := fun x o h1 h2 => by
    rw [State.wr64, State.rd_wr_of_ne _ _ _ _ h2, State.rd_wr_of_ne _ _ _ _ h1]
  refine ⟨?_, ?_, ?_, ?_⟩
  · rw [State.firstHeld, hrd _ _ (by decide) (by decide), State.set, State.rd_put_of_ne _ _ _ _ (by decide),
      State.rd_put_of_ne _ _ _ _ (by decide), State.rd_put_of_ne _ _ _ _ (by decide), State.rd_wr_of_ne _ _ _ _ (by decide), State.rd_wr_self]
  · rw [State.firstHeld, hrd _ _ (by decide) (by decide), State.set, State.rd_put_of_ne _ _ _ _ (by decide),
      State.rd_put_of_ne _ _ _ _ (by decide), State.rd_put_of_ne _ _ _ _ (by decide), State.rd_wr_self]
  · rw [State.get, State.firstHeld, hrd _ _ (by decide) (by decide)]
    refine (State.get_put_apart _ _ F.FLT_FIRST_INFO_LEVEL _ (.inr (.inr (by decide)))).trans
      ((State.get_put_apart _ _ _ _ (.inr (.inr (by decide)))).trans ((State.get_put_self _ _ _ (by decide)).trans ?_))
    exact Nat.mod_eq_of_lt hl
  · rw [State.on, State.get, State.firstHeld, hrd _ _ (by decide) (by decide)]
    exact State.on_set_self _ F.FLT_FIRST_INFO_VALID (by decide) rfl

/-- The first record that FCR holds: the message, its level, and event 32. -/
theorem latch_first (tag l : Nat) (hl : l < 8) (hpin : s.get F.FLT_CFG_PIN_LEVEL ≤ l) (hv : s.on F.FLT_FIRST_INFO_VALID = false)
    (t : State) (ht : t = s.latch m tag l) : t.on ⟨R.FLT_STICKY, sourceGroup (msgSource m), 1⟩ = true ∧
    t.rd R.FLT_FIRST_LO = m.setWidth 32 ∧ t.rd R.FLT_FIRST_HI = BitVec.ofNat 32 (m.toNat / 2 ^ 32) ∧ t.get F.FLT_FIRST_INFO_LEVEL = l ∧
    t.on F.FLT_FIRST_INFO_VALID = true ∧ t.isPending 32 = (s.isPending 32 || !s.evc.raw.contains 32) := by
  rw [latch_eq, if_neg (Nat.not_lt.2 hpin), stuck_valid, hv, if_neg Bool.false_ne_true] at ht
  obtain ⟨hlo, hhi, hlevel, hvalid⟩ := firstHeld_holds (s.stuck m) m tag l hl
  have hsticky : ((s.stuck m).firstHeld m tag l).rd R.FLT_STICKY = (s.stuck m).rd R.FLT_STICKY :=
    firstHeld_rd _ m tag l _ (by decide)
  have hpword : ((s.stuck m).firstHeld m tag l).isPending 32 = s.isPending 32 := by
    rw [State.isPending, State.on, State.get, firstHeld_rd _ m tag l _ (by decide), stuck_rd s m _ (by decide)]
    rfl
  have hraw : ((s.stuck m).firstHeld m tag l).evc = s.evc := rfl
  generalize (s.stuck m).firstHeld m tag l = y at ht hlo hhi hlevel hvalid hsticky hpword hraw
  have hlev : SameRegsBut (R.FLT_STAT :: eventRegs) y t :=
    ht ▸ ((SameRegsBut.refl _ _).put F.FLT_STAT_FIRST_VALID 1 (List.mem_cons_self ..)).level 32 true (by decide) fun _ => List.mem_cons_of_mem _
  refine ⟨?_, (hlev _ (by decide)).trans hlo, (hlev _ (by decide)).trans hhi, ?_, (hlev.on _ (by decide)).trans hvalid, ?_⟩
  · rw [hlev.on _ (show R.FLT_STICKY ∉ R.FLT_STAT :: eventRegs by decide), State.on, State.get, hsticky]
    exact stuck_on s m
  · rw [State.get, hlev _ (by decide)]
    exact hlevel
  · rw [ht, isPending_level _ 32 (by decide), State.isPending, State.set, State.on_put_apart _ _ _ _ (.inl (by decide)), ← hpword, ← hraw]
    rfl

/-- A further message: it is counted, and the first record stays. -/
theorem latch_counts (tag l : Nat) (hpin : s.get F.FLT_CFG_PIN_LEVEL ≤ l) (hv : s.on F.FLT_FIRST_INFO_VALID = true)
    (t : State) (ht : t = s.latch m tag l) : t.on ⟨R.FLT_STICKY, sourceGroup (msgSource m), 1⟩ = true ∧
    t.rd R.FLT_FIRST_LO = s.rd R.FLT_FIRST_LO ∧ t.get F.FLT_COUNT_COUNT = min 0xFFFF (s.get F.FLT_COUNT_COUNT + 1) ∧
    t.on F.FLT_STAT_OVERFLOW = true := by
  rw [latch_eq, if_neg (Nat.not_lt.2 hpin), stuck_valid, hv, if_pos rfl] at ht
  have hlev : SameRegsBut eventRegs (s.stuck m).counted t := ht ▸ (SameRegsBut.refl _ _).level 55 true (by decide) fun _ h => h
  have hbut : SameRegsBut [R.FLT_COUNT, R.FLT_STAT] (s.stuck m) (s.stuck m).counted :=
    ((SameRegsBut.refl _ _).put F.FLT_COUNT_COUNT _ (by decide)).put F.FLT_STAT_OVERFLOW 1 (by decide)
  have hcount : (s.stuck m).get F.FLT_COUNT_COUNT = s.get F.FLT_COUNT_COUNT := by
    rw [State.get, stuck_rd s m _ (by decide), State.get]
  refine ⟨?_, ?_, ?_, ?_⟩
  · rw [hlev.on _ (show R.FLT_STICKY ∉ eventRegs by decide), hbut.on _ (show R.FLT_STICKY ∉ [R.FLT_COUNT, R.FLT_STAT] by decide)]
    exact stuck_on s m
  · rw [hlev _ (by decide), hbut _ (by decide), stuck_rd s m _ (by decide)]
  · rw [State.get, hlev _ (by decide)]
    refine (State.get_put_apart _ _ F.FLT_COUNT_COUNT _ (.inl (by decide))).trans ((State.get_put_self _ _ _ (by decide)).trans ?_)
    rw [hcount]
    exact Nat.mod_eq_of_lt (by simp only; omega)
  · rw [hlev.on _ (by decide)]
    exact State.on_set_self _ _ (by decide) rfl

end

end Sys2Proof.Machine
end

section
/-! PROOF. Messages below level 2, the start of a reaction at level 2, its window, and its end (R515, R520 to R524). -/

namespace Sys2Proof.Machine

/-- Both parts of a message's way: latched, then entered. -/
theorem latched_entered (m : DWord) (x : State) (tag : Nat) (cause conseq : Bool) (l : Nat) (hk : msgKind m < 32)
    (hlen : x.fcr.history.length < 256) (t : State) (ht : t = (x.latch m tag l).entered m tag cause conseq l) :
    BelfryWork x t ∧ t.fcr = { x.fcr with history := x.fcr.history ++ [⟨m, tag, cause, conseq, l, x.time / 1000 % 2 ^ 32⟩] } ∧
    t.cntGet (R.FLT_KCNT (msgKind m)) = x.plus (R.FLT_KCNT (msgKind m)) 1 ∧
    SameRegsBut (R.FLT_KSAT :: eventRegs) (x.latch m tag l) t ∧ t.isPending 32 = (x.latch m tag l).isPending 32 := by
  have hl := latch_frame x m tag l
  have hfcr : (x.latch m tag l).fcr = x.fcr := hl.only.frame.fcr
  have htime : (x.latch m tag l).time = x.time := (congrArg State.time hl.only.frame :)
  obtain ⟨hent, hregs, hfirst⟩ := entered_enters (x.latch m tag l) m tag cause conseq l hk (by rw [hfcr]; exact hlen) t ht
  refine ⟨((BelfryWork.refl x).events hl.only.frame).trans hent.work, ?_, ?_, hregs, hfirst⟩
  · rw [hent.fcr, hfcr, htime]
  · rw [hent.count, State.plus, hl.only.counts _ (fltKcnt_ne_evc _ hk), State.plus]

section
variable {s y : State} {m : DWord} (h : Arrived s m y)
include h

theorem Arrived.regs : y.regs = s.regs := (congrArg State.regs h.frame :)

theorem Arrived.cnt : y.cnt = s.cnt := (congrArg State.cnt h.frame :)

theorem Arrived.rd (o : Nat) : y.rd o = s.rd o := by rw [State.rd, h.regs, State.rd]

theorem Arrived.get (f : Fld) : y.get f = s.get f := by rw [State.get, h.rd, State.get]

theorem Arrived.on (f : Fld) : y.on f = s.on f := by rw [State.on, h.get, State.on]

theorem Arrived.cntGet (o : Nat) : y.cntGet o = s.cntGet o := by rw [State.cntGet, h.cnt, State.cntGet]

theorem Arrived.evc : y.evc = s.evc := (congrArg State.evc h.frame :)

theorem Arrived.time : y.time = s.time := (congrArg State.time h.frame :)

theorem Arrived.work : BelfryWork s y := by
  rw [BelfryWork, h.regs, h.cnt, h.evc]
  exact h.frame

theorem Arrived.isPending (n : Nat) : y.isPending n = s.isPending n := h.on _

/-! ### Below level 2 -/

theorem Arrived.judged_low (l l0 : Nat) (hr : s.reacting = false) (hl : l < 2) :
    y.judged m l l0 = (y.latch m 0 l).entered m 0 false false l := by
  rw [State.judged, if_neg (by rw [State.reacting, h.on]; exact (hr ▸ Bool.false_ne_true : ¬ s.reacting = true)),
    if_neg (Nat.not_le.2 hl), State.entered]

theorem Arrived.low (l : Nat) (hl : l < 2) (hlen : s.fcr.history.length < 256)
    (hk : msgKind m < 32) (hr : s.reacting = false) (t : State) (ht : t = (y.latch m 0 l).entered m 0 false false l) :
    t.fcr.history = s.fcr.history ++ [⟨m, 0, false, false, l, s.time / 1000 % 2 ^ 32⟩] ∧
    t.fcr.transit = s.fcr.transit.erase m ∧ t.cntGet (R.FLT_KCNT (msgKind m)) = s.plus (R.FLT_KCNT (msgKind m)) 1 ∧ t.reacting = false ∧
    (l = 1 → 1 ≤ msgKind m → msgKind m ≤ 0x14 → t.isPending (32 + msgKind m) = true) ∧
    (l < s.get F.FLT_CFG_PIN_LEVEL → ∀ o ∈ [R.FLT_FIRST_LO, R.FLT_FIRST_HI, R.FLT_FIRST_INFO, R.FLT_COUNT, R.FLT_STICKY],
      t.rd o = s.rd o) ∧
    (s.get F.FLT_CFG_PIN_LEVEL ≤ l → t.on ⟨R.FLT_STICKY, sourceGroup (msgSource m), 1⟩ = true ∧
      (s.on F.FLT_FIRST_INFO_VALID = false → t.rd R.FLT_FIRST_LO = m.setWidth 32 ∧
        t.rd R.FLT_FIRST_HI = BitVec.ofNat 32 (m.toNat / 2 ^ 32) ∧ t.get F.FLT_FIRST_INFO_LEVEL = l ∧
        t.on F.FLT_FIRST_INFO_VALID = true ∧ t.isPending 32 = (s.isPending 32 || !s.evc.raw.contains 32)) ∧
      (s.on F.FLT_FIRST_INFO_VALID = true → t.rd R.FLT_FIRST_LO = s.rd R.FLT_FIRST_LO ∧
        t.get F.FLT_COUNT_COUNT = min 0xFFFF (s.get F.FLT_COUNT_COUNT + 1) ∧ t.on F.FLT_STAT_OVERFLOW = true)) ∧
    SameMemory s t := by
  obtain ⟨hwork, hfcr, hcnt, hregs, hfirst⟩ := latched_entered m y 0 false false l hk (by rw [h.history]; exact hlen) t ht
  have hlf := latch_frame y m 0 l
  have hget : ∀ f : Fld, f.off ∉ R.FLT_KSAT :: eventRegs → t.get f = (y.latch m 0 l).get f := fun f hf => by
    rw [State.get, hregs _ hf, State.get]
  refine ⟨?_, ?_, ?_, ?_, fun hl1 h1 h2 => ?_, fun hlow o ho => ?_, fun hhigh => ⟨?_, fun hv => ?_, fun hv => ?_⟩,
    (h.work.trans hwork).sameMemory⟩
  · rw [hfcr, h.history, h.time]
  · rw [hfcr]
    exact h.transit
  · rw [hcnt, State.plus, h.cntGet, State.plus]
  · rw [State.reacting, hregs.on _ (by decide), hlf.stat 2 (by decide), h.on]
    exact hr
  · rw [ht]
    exact kindEvent_raises _ _ l (by omega) h1 h2
  · rw [hregs _ (by revert o; decide), latch_below y m 0 l (by rw [h.get]; exact hlow), h.rd]
  · rw [hregs.on _ (show R.FLT_STICKY ∉ R.FLT_KSAT :: eventRegs by decide)]
    cases hv : y.on F.FLT_FIRST_INFO_VALID with
    | false => exact (latch_first y m 0 l (by omega) (by rw [h.get]; exact hhigh) hv _ rfl).1
    | true => exact (latch_counts y m 0 l (by rw [h.get]; exact hhigh) hv _ rfl).1
  · obtain ⟨-, hlo, hhi, hlevel, hvalid, hpend⟩ :=
      latch_first y m 0 l (by omega) (by rw [h.get]; exact hhigh) (by rw [h.on]; exact hv) _ rfl
    refine ⟨(hregs _ (by decide)).trans hlo, (hregs _ (by decide)).trans hhi, (hget _ (by decide)).trans hlevel,
      (hregs.on _ (by decide)).trans hvalid, ?_⟩
    rw [hfirst, hpend, h.isPending, h.evc]
  · obtain ⟨-, hlo, hcount, hovf⟩ := latch_counts y m 0 l (by rw [h.get]; exact hhigh) (by rw [h.on]; exact hv) _ rfl
    refine ⟨(hregs _ (by decide)).trans (hlo.trans (h.rd _)), (hget _ (by decide)).trans ?_, (hregs.on _ (by decide)).trans hovf⟩
    rw [hcount, h.get]

end

/-! ### A reaction of level 2 starts -/

theorem beginReaction_shows (x t : State) (ht : t = x.beginReaction 2) :
    t.get F.FLT_REACT_LEVEL = 2 ∧ t.get F.FLT_REACT_RTAG = (x.get F.FLT_REACT_RTAG + 1) % 2 ^ 16 ∧
    t.on F.FLT_STAT_REACT_BUSY = true ∧ t.fcr = { x.fcr with windowEnd := x.time + 5000 } ∧ t.time = x.time ∧ BelfryWork x t := by
  subst ht
  refine ⟨?_, ?_, State.on_set_self _ F.FLT_STAT_REACT_BUSY (by decide) rfl, rfl, rfl, rfl⟩
  · refine (State.get_put_apart _ F.FLT_STAT_REACT_BUSY F.FLT_REACT_LEVEL 1 (.inl (by decide))).trans
      ((State.get_put_apart _ F.FLT_REACT_BUSY _ 1 (.inr (.inr (by decide)))).trans (State.get_put_self _ _ _ (by decide)))
  · refine (State.get_put_apart _ F.FLT_STAT_REACT_BUSY F.FLT_REACT_RTAG 1 (.inl (by decide))).trans
      ((State.get_put_apart _ F.FLT_REACT_BUSY _ 1 (.inr (.inl (by decide)))).trans
        ((State.get_put_apart _ F.FLT_REACT_LEVEL _ 2 (.inr (.inl (by decide)))).trans ((State.get_put_self _ _ _ (by decide)).trans ?_)))
    exact Nat.mod_mod _ _

/-- The actions of level 2 alone. -/
theorem act_two (x : State) (m : DWord) : x.act 0 2 m false = x.quiesce.boostExit 5 := rfl

section
variable {s y : State} {m : DWord} (h : Arrived s m y)
include h

theorem Arrived.judged_two (l0 : Nat) (hr : s.reacting = false) (hb : isBelfry m = false) :
    y.judged m 2 l0 = (((((y.beginReaction 2).latch m ((y.beginReaction 2).get F.FLT_REACT_RTAG) 2).entered m
      ((y.beginReaction 2).get F.FLT_REACT_RTAG) true false 2).raise 53).quiesce).boostExit 5 := by
  have hvig : msgVigil m = false := by rw [msgVigil, hb, Bool.false_and]
  have hpart : ∀ x : State, x.belfryPart m 2 = x := fun x => by
    rw [State.belfryPart, hb, Bool.false_and, if_neg Bool.false_ne_true]
  rw [State.judged, if_neg (by rw [State.reacting, h.on]; exact (hr ▸ Bool.false_ne_true : ¬ s.reacting = true)),
    if_pos (by decide), hvig, hpart, act_two, State.entered]

theorem Arrived.two (hlen : s.fcr.history.length < 256) (hk : msgKind m < 32) (x w t : State) (hx : x = y.beginReaction 2)
    (hw : w = (x.latch m (x.get F.FLT_REACT_RTAG) 2).entered m (x.get F.FLT_REACT_RTAG) true false 2)
    (ht : t = ((w.raise 53).quiesce).boostExit 5) : t.reacting = true ∧
    t.get F.FLT_REACT_LEVEL = 2 ∧ t.get F.FLT_REACT_RTAG = (s.get F.FLT_REACT_RTAG + 1) % 2 ^ 16 ∧
    t.on F.FLT_STAT_QUIESCED = true ∧ t.isPending 53 = true ∧ t.fcr.windowEnd = s.time + 5000 ∧
    t.fcr.history = s.fcr.history ++
      [⟨m, (s.get F.FLT_REACT_RTAG + 1) % 2 ^ 16, true, false, 2, s.time / 1000 % 2 ^ 32⟩] ∧ SameMemory s t := by
  obtain ⟨hlevel, htag, hbusy, hxfcr, hxtime, hxwork⟩ := beginReaction_shows y x hx
  rw [h.get] at htag
  have hxlen : x.fcr.history.length < 256 := by
    rw [hxfcr]
    exact h.history ▸ hlen
  obtain ⟨hwork, hwfcr, -, hwregs, -⟩ := latched_entered m x _ true false 2 hk hxlen w hw
  have hlf := latch_frame x m (x.get F.FLT_REACT_RTAG) 2
  have hraise : SameRegsBut eventRegs w (w.raise 53) := (SameRegsBut.refl _ w).raise 53 (by decide) fun _ h => h
  obtain ⟨c, -, hexit⟩ := ((w.raise 53).quiesce).boostExit_only 5
  rw [← ht] at hexit
  have hrd : ∀ o, o ∉ R.FLT_STAT :: R.PWR_STAT :: R.PWR_SAT :: R.FLT_KSAT :: (latchRegs ++ eventRegs) → t.rd o = x.rd o := fun o ho => by
    simp only [List.mem_cons, List.mem_append, not_or] at ho
    obtain ⟨hstat, hpstat, hpsat, hksat, hlat, hev⟩ := ho
    rw [hexit.regs o (by simp [hpstat, hpsat, hev])]
    refine (State.rd_put_of_ne (w.raise 53) F.FLT_STAT_QUIESCED 1 o hstat).trans ?_
    rw [hraise o hev, hwregs o (by simp [hksat, hev]), hlf.regs o (by simp [hlat, hev])]
  have hstat : ∀ i, t.on ⟨R.FLT_STAT, i, 1⟩ = ((w.raise 53).quiesce).on ⟨R.FLT_STAT, i, 1⟩ := fun i =>
    hexit.regs.on ⟨R.FLT_STAT, i, 1⟩ (show R.FLT_STAT ∉ R.PWR_STAT :: R.PWR_SAT :: eventRegs by decide)
  have hfcr : t.fcr = w.fcr := hexit.frame.fcr.trans ((EvcOnly.refl w).raise 53).frame.fcr
  refine ⟨?_, ?_, ?_, ?_, ?_, ?_, ?_, ?_⟩
  · refine (hstat 2).trans ((State.on_put_apart _ F.FLT_STAT_QUIESCED _ 1 (.inr (.inr (by decide)))).trans ?_)
    rw [hraise.on _ (by decide), hwregs.on _ (by decide), hlf.stat 2 (by decide)]
    exact hbusy
  · rw [State.get, hrd _ (by decide)]
    exact hlevel
  · rw [State.get, hrd _ (by decide)]
    exact htag
  · exact (hstat 3).trans (State.on_set_self _ F.FLT_STAT_QUIESCED (by decide) rfl)
  · refine hexit.pending 53 (by decide) ((State.on_put_apart _ F.FLT_STAT_QUIESCED _ 1 (.inl (by decide))).trans ?_)
    exact w.raise_pend 53 (by decide)
  · rw [hfcr, hwfcr, hxfcr, h.time]
  · rw [hfcr, hwfcr, hxfcr, htag, hxtime, h.time, h.history]
  · have hall : SameMemory s (w.raise 53) := (((h.work.trans hxwork).trans hwork).raise 53).sameMemory
    have hquiet : SameMemory (w.raise 53) ((w.raise 53).quiesce) := .of_eq rfl rfl rfl rfl rfl
    have hcpm : SameMemory ((w.raise 53).quiesce) { (w.raise 53).quiesce with cpm := c } := .of_eq rfl rfl rfl rfl rfl
    exact hall.trans (hquiet.trans (hcpm.trans hexit.frame.sameMemory))

/-! ### In the window of a reaction -/

theorem Arrived.judged_conseq (l : Nat) (hwin : s.inWindow = true) (hl : l ≤ s.get F.FLT_REACT_LEVEL)
    (hc : consequential (s.get F.FLT_REACT_LEVEL) (msgKind m) = true) :
    y.judged m l (s.get F.FLT_REACT_LEVEL) = y.enter m (s.get F.FLT_REACT_RTAG) false true l := by
  have hr : s.reacting = true ∧ decide (s.time < s.fcr.windowEnd) = true := Bool.and_eq_true_iff.1 hwin
  have hry : y.reacting = true := by
    rw [State.reacting, h.on]
    exact hr.1
  have hwy : y.inWindow = true := by
    rw [State.inWindow, hry, h.time, h.window]
    exact hr.2
  rw [State.judged, if_pos hry, if_neg (Nat.not_lt.2 hl), hwy, hc, Bool.and_self, if_pos rfl, h.get]

theorem Arrived.conseq (l : Nat) (hlen : s.fcr.history.length < 256) (hk : msgKind m < 32) (h3 : msgKind m ≠ 3) (h4 : msgKind m ≠ 4)
    (t : State) (ht : t = y.enter m (s.get F.FLT_REACT_RTAG) false true l) :
    t.fcr.history = s.fcr.history ++ [⟨m, s.get F.FLT_REACT_RTAG, false, true, l, s.time / 1000 % 2 ^ 32⟩] ∧
    t.cntGet (R.FLT_KCNT (msgKind m)) = s.plus (R.FLT_KCNT (msgKind m)) 1 ∧ SameRegsBut [R.FLT_KSAT] s t ∧
    t = { s with fcr := t.fcr, cnt := t.cnt, regs := t.regs } := by
  obtain ⟨hent, hregs, hevc⟩ := enter_enters y m (s.get F.FLT_REACT_RTAG) false true l hk (by rw [h.history]; exact hlen)
  rw [← ht] at hent hregs hevc
  refine ⟨?_, ?_, fun o ho => (hregs o ho).trans (h.rd o), ?_⟩
  · rw [hent.fcr, h.history, h.time]
  · rw [hent.count, State.plus, h.cntGet, State.plus]
  · have hall := h.work.trans hent.work
    rw [BelfryWork, hevc, h.evc, hent.blf, h.blf h3 h4] at hall
    exact hall

end

/-! ### The end of a reaction -/

theorem reactionEnd_ends (s : State) (hr : s.reacting = true) (hw : s.fcr.windowEnd ≤ s.time) (hb : s.rd R.PWR_BLKRST = 0)
    (hc : s.power.cupUp = true) (ho : s.lcs.opening = none) :
    s.reactionEnd = ((s.clr F.FLT_STAT_REACT_BUSY).clr F.FLT_REACT_BUSY).raise 54 := by
  have hwin : s.inWindow = false := by rw [State.inWindow, decide_eq_false (Nat.not_lt.2 hw), Bool.and_false]
  have hlcs : (((s.clr F.FLT_STAT_REACT_BUSY).clr F.FLT_REACT_BUSY).raise 54).lcs = s.lcs :=
    (congrArg State.lcs ((EvcOnly.refl ((s.clr F.FLT_STAT_REACT_BUSY).clr F.FLT_REACT_BUSY)).raise 54).frame :)
  unfold State.reactionEnd
  simp only [hr, hwin, hb, hc, hlcs, ho, Bool.not_false, Bool.and_self, beq_self_eq_true, if_true]

theorem reactionEnd_shows (s t : State) (ht : t = ((s.clr F.FLT_STAT_REACT_BUSY).clr F.FLT_REACT_BUSY).raise 54) :
    t.reacting = false ∧ t.on F.FLT_REACT_BUSY = false ∧ t.isPending 54 = true ∧
    t.on F.FLT_STAT_QUIESCED = s.on F.FLT_STAT_QUIESCED ∧ t.get F.FLT_REACT_RTAG = s.get F.FLT_REACT_RTAG ∧
    SameRegsBut (R.FLT_STAT :: R.FLT_REACT :: eventRegs) s t ∧ SameMemory s t := by
  have hev : SameRegsBut eventRegs ((s.clr F.FLT_STAT_REACT_BUSY).clr F.FLT_REACT_BUSY) t :=
    ht ▸ (SameRegsBut.refl _ _).raise 54 (by decide) fun _ h => h
  have hstat : SameRegsBut [R.FLT_REACT] (s.clr F.FLT_STAT_REACT_BUSY) ((s.clr F.FLT_STAT_REACT_BUSY).clr F.FLT_REACT_BUSY) :=
    (SameRegsBut.refl _ _).put _ _ (by decide)
  refine ⟨?_, ?_, ht ▸ State.raise_pend _ 54 (by decide), ?_, ?_, ?_, ?_⟩
  · rw [State.reacting, hev.on _ (by decide), hstat.on _ (by decide)]
    exact State.on_clr_self _ _ (by decide)
  · rw [hev.on _ (by decide)]
    exact State.on_clr_self _ _ (by decide)
  · rw [hev.on _ (by decide), hstat.on _ (by decide)]
    exact State.on_put_apart _ _ _ _ (.inr (.inl (by decide)))
  · rw [State.get, hev _ (by decide)]
    refine (State.get_put_apart _ F.FLT_REACT_BUSY F.FLT_REACT_RTAG 0 (.inr (.inl (by decide)))).trans ?_
    exact State.get_put_apart _ _ _ _ (.inl (by decide))
  · exact ht ▸ (((SameRegsBut.refl _ s).put _ _ (by simp)).put _ _ (by simp)).raise 54 (by decide) fun _ h => by simp [h]
  · exact ht ▸ ((((BelfryWork.refl s).put _ _).put _ _).raise 54).sameMemory

/-- Settles O53: what FCR does with a message, in and out of a reaction, and the end of one. -/
theorem faultMessages : Obligations.FaultMessages := by
  unfold Obligations.FaultMessages
  intro s m k l hk hl
  subst hk
  refine ⟨fun hsrc hal hb hpin hseq hlen hk => ?_, fun hr hw hblk hc ho =>
    ⟨_, congrArg Host.Outcome.next (reactionEnd_ends s hr hw hblk hc ho), reactionEnd_shows s _ rfl⟩⟩
  have harr := received_arrived s m hseq
  have hexec := exec_faultMessage s m hsrc hal hseq
  rw [← hl] at hexec
  refine ⟨fun hr hlow => ?_, fun hr htwo => ?_, fun hwin hle hc h3 h4 => ?_⟩
  · exact ⟨_, hexec.trans (congrArg Host.Outcome.next (harr.judged_low l _ hr hlow)), harr.low l hlow hlen hk hr _ rfl⟩
  · rw [htwo] at hexec
    exact ⟨_, hexec.trans (congrArg Host.Outcome.next (harr.judged_two _ hr hb)), harr.two hlen hk _ _ _ rfl rfl rfl⟩
  · exact ⟨_, hexec.trans (congrArg Host.Outcome.next (harr.judged_conseq l hwin hle hc)), harr.conseq l hlen hk h3 h4 _ rfl⟩

end Sys2Proof.Machine
end

section
/-! PROOF. O41 fails: the reset of SVC frees the hold records for every queue, and a queue that waited for one writes its
record (R66, R103). -/

namespace Sys2Proof.Machine

/-- A device in service, 1 s after SVC's last heartbeat, whose queue 0 of the host PF has the result of its descriptor in hand
and waits for a hold record. -/
def recordWaits : State :=
  { State.reset with
    power := ⟨true, false, false, true, true, true, true, true, true⟩
    time := 1000000000
    jqm := { State.reset.jqm with
      queues := [(0, ⟨some ⟨0, List.replicate 128 1, true, [], some ⟨0, 0, 0, 0, false⟩⟩, none, false, []⟩)] } }

/-- The first byte of host memory after a command. -/
def firstHostByte : Out → Byte
  | .next t => memByte t.hostMem 0
  | _ => 0

theorem recordWaits_due : recordWaits.power.svcUp = true ∧ recordWaits.power.cupUp = true ∧ recordWaits.lcs.cupHalted = false ∧
    recordWaits.svc.hbAt + 1000000000 ≤ recordWaits.time ∧ recordWaits.inReset 12 = false := by decide +kernel

/-- The TAG of the record stands in the ring of queue 0. -/
theorem heartbeatTimeout_writes : firstHostByte (exec .svcHeartbeatTimeout recordWaits) = 1 := by decide +kernel

/-- Refutes O41: the heartbeat timeout resets SVC's queues, after which the record of another queue that waited for a hold
record is written to host memory. -/
theorem not_serviceMailbox : ¬ Obligations.ServiceMailbox := by
  unfold Obligations.ServiceMailbox
  rintro ⟨-, -, h⟩
  obtain ⟨hsvc, hcup, hhalt, hdue, hrst⟩ := recordWaits_due
  obtain ⟨t, hexec, -, -, -, -, hmem⟩ := h recordWaits hsvc hcup hhalt hdue hrst
  have hbyte : memByte t.hostMem 0 = 1 := (congrArg firstHostByte hexec).symm.trans heartbeatTimeout_writes
  have hzero : memByte recordWaits.hostMem 0 = 0 := by decide
  rw [hmem.host 0, hzero] at hbyte
  exact absurd hbyte (by decide)

end Sys2Proof.Machine
end

section
/-! PROOF. O58 fails: it speaks of every state, also of one whose register file lists GLB_STRAP twice. The reset of SVC's queues
drops the first entry, which has the reset value, so the Vigil pair that the entry brings up is that of the second entry
(R277, R565). -/

namespace Sys2Proof.Machine

/-- A register whose field has a value and which has its reset value elsewhere. -/
def resetWith (f : Fld) (n : Nat) : Nat × Word := (f.off, fieldSet f.lo f.width (regReset f.off) n)

/-- A device at milestone 7 with the Vigil pin enabled, whose register file lists GLB_STRAP with its reset value, which is read,
and once more with VIGIL_EFF = 3. -/
def strapTwice : State :=
  { State.reset with
    power := ⟨true, false, false, true, true, true, true, true, true⟩
    regs := [(R.GLB_STRAP, regReset R.GLB_STRAP), resetWith F.GLB_STRAP_VIGIL_EFF 3, resetWith F.PWR_CFG_VIGIL_PIN_EN 1,
      resetWith F.CUP_BOOT_STAT_MILESTONE 7] }

theorem strapTwice_requests : strapTwice.cpmUp = true ∧ strapTwice.on F.PWR_CFG_VIGIL_PIN_EN = true ∧
    strapTwice.on F.PWR_STAT_VIGIL = false ∧ strapTwice.on F.PWR_STAT_VIGIL_TRANS = false ∧ 7 ≤ strapTwice.milestone ∧
    strapTwice.on F.LCS_STAT_IN_TRANSITION = false ∧ 0 ∈ strapTwice.vigilPair := by decide +kernel

/-- Whether port 0 is enabled after a command. -/
def firstPortEnabled : Out → Bool
  | .next t => t.on (F.LIF_PCTL_EN 0)
  | _ => false

/-- Port 0 is of the Vigil pair before the entry, and goes down in it. -/
theorem vigilPinRequest_disables : firstPortEnabled (exec .vigilPinRequest strapTwice) = false := by decide +kernel

/-- Refutes O58: an accepted Vigil request by the pin does not bring up the Vigil pair of the state before it, where the register
file is not in canonical form. -/
theorem not_vigilAndRestarts : ¬ Obligations.VigilAndRestarts := by
  unfold Obligations.VigilAndRestarts
  intro h
  obtain ⟨hcpm, hpin, hvigil, htrans, hms, hlc, hpair⟩ := strapTwice_requests
  obtain ⟨-, -, haccept⟩ := (h strapTwice).1 .vigilPinRequest .pf (.inr ⟨rfl, hcpm, hpin⟩)
  obtain ⟨t, hexec, -, -, -, -, -, -, hup⟩ := (haccept hvigil htrans).2 hms hlc
  have henabled : t.on (F.LIF_PCTL_EN 0) = true := (hup 0 hpair).1
  have hdown : t.on (F.LIF_PCTL_EN 0) = false := (congrArg firstPortEnabled hexec).symm.trans vigilPinRequest_disables
  exact absurd (henabled.symm.trans hdown) (by decide)

end Sys2Proof.Machine
end

section
/-! PROOF. The work of SVC's jobs in the pipeline (R316 to R318, R358, R366 to R368): what it leaves of SVC's own state. -/

namespace Sys2Proof.Machine

/-- Of SVC only the handles of its slots may have changed, and the time and Cupola's state are as before. -/
structure SvcWork (s t : State) : Prop where
  svc : t.svc = { s.svc with
    auth := t.svc.auth
    groupKeys := t.svc.groupKeys }
  time : t.time = s.time
  cup : t.cup = s.cup

theorem SvcWork.refl (s : State) : SvcWork s s := ⟨rfl, rfl, rfl⟩

section
variable {s t u : State} (h : SvcWork s t)
include h

theorem SvcWork.sent : t.svc.sent = s.svc.sent := (congrArg SvcSt.sent h.svc :)

theorem SvcWork.ikes : t.svc.ikes = s.svc.ikes := (congrArg SvcSt.ikes h.svc :)

theorem SvcWork.childs : t.svc.childs = s.svc.childs := (congrArg SvcSt.childs h.svc :)

theorem SvcWork.groups : t.svc.groups = s.svc.groups := (congrArg SvcSt.groups h.svc :)

theorem SvcWork.cfgRecs : t.cfgRecs = s.cfgRecs := by rw [State.cfgRecs, h.cup, State.cfgRecs]

theorem SvcWork.trans (k : SvcWork t u) : SvcWork s u where
  svc := (k.svc.trans (congrArg (fun x : SvcSt => { x with
    auth := u.svc.auth
    groupKeys := u.svc.groupKeys }) h.svc :) :)
  time := k.time.trans h.time
  cup := k.cup.trans h.cup

theorem SvcWork.upd (hsvc : u.svc = t.svc) (htime : u.time = t.time) (hcup : u.cup = t.cup) : SvcWork s u := by
  refine h.trans ⟨?_, htime, hcup⟩
  rw [hsvc]

theorem SvcWork.cts (x : CtsSt) : SvcWork s { t with cts := x } := h.trans ⟨rfl, rfl, rfl⟩

theorem SvcWork.ctsIpp (x : CtsSt) (y : IppSt) : SvcWork s { t with
    cts := x
    ipp := y } := h.trans ⟨rfl, rfl, rfl⟩

theorem SvcWork.jqm (x : JqmSt) : SvcWork s { t with jqm := x } := h.trans ⟨rfl, rfl, rfl⟩

theorem SvcWork.free (n : Nat) : SvcWork s { t with free := n } := h.trans ⟨rfl, rfl, rfl⟩

theorem SvcWork.events (k : EventFrame t u) : SvcWork s u :=
  h.upd (congrArg State.svc k :) (congrArg State.time k :) (congrArg State.cup k :)

theorem SvcWork.inc (o : Nat) : SvcWork s (t.inc o) := h.events (t.inc_eventFrame o)

theorem SvcWork.raise (n : Nat) : SvcWork s (t.raise n) := h.events ((EvcOnly.refl t).raise n).frame

theorem SvcWork.ite {p : Prop} [Decidable p] (k : SvcWork s u) : SvcWork s (if p then t else u) := by
  split
  · exact h
  · exact k

theorem SvcWork.foldl {α : Type} (f : State → α → State) (xs : List α) (hf : ∀ x a, SvcWork x (f x a)) :
    SvcWork s (xs.foldl f t) := by
  induction xs generalizing t with
  | nil => exact h
  | cons a xs ih => exact ih (h.trans (hf _ _))

/-! ### Key slots -/

theorem SvcWork.putSlot (i : Nat) (x : Slot) : SvcWork s (t.putSlot i x) := h.upd rfl rfl rfl

theorem SvcWork.emptySlot (i : Nat) : SvcWork s (t.emptySlot i) := h.upd rfl rfl rfl

theorem SvcWork.eraseSlot (i : Nat) : SvcWork s (t.eraseSlot i) := by
  unfold State.eraseSlot
  split
  · exact h
  · exact ((h.jqm _).emptySlot i).inc _
  · exact (h.emptySlot i).inc _

theorem SvcWork.releaseTargets (is : List Nat) : SvcWork s (t.releaseTargets is) := by
  induction is generalizing t with
  | nil => exact h
  | cons i is ih => exact ih ((h.emptySlot i).ite h)

theorem SvcWork.svcErase (xs : List Nat) : SvcWork s (t.svcErase xs) :=
  h.foldl _ _ fun x _ => ((SvcWork.refl x).eraseSlot _).ite (.refl x)

theorem SvcWork.svcSlot (x : List Byte → Slot) (key : List Byte) : SvcWork s (t.svcSlot x key).1 := by
  unfold State.svcSlot
  split
  · exact h
  · exact h.putSlot _ _

theorem SvcWork.putAuth (c : Nat) (xs : List Nat) : SvcWork s (t.putAuth c xs) := h.trans ⟨rfl, rfl, rfl⟩

theorem SvcWork.putGroupKey (g k : Nat) : SvcWork s (t.putGroupKey g k) := h.trans ⟨rfl, rfl, rfl⟩

/-! ### The end of a job -/

theorem SvcWork.dmaStore (owner a : Nat) (bs : List Byte) : SvcWork s (t.dmaStore owner a bs) := by
  unfold State.dmaStore
  split
  · exact h.upd rfl rfl rfl
  · exact h.upd rfl rfl rfl

theorem SvcWork.writeBufs (owner : Nat) (bs : List Buf) (v : List Byte) : SvcWork s (writeBufs t owner bs v).1 := by
  induction bs generalizing t v with
  | nil => exact h
  | cons b bs ih =>
    unfold Sys2Proof.Machine.writeBufs
    dsimp only
    split
    · exact ih h v
    · split
      · next x hx =>
        refine ih ?_ _
        obtain ⟨-, hstore⟩ := (Option.ite_none_left_eq_some.1 hx)
        obtain rfl := Option.some.inj hstore
        exact h.dmaStore _ _ _
      · exact (h.free _).dmaStore owner b.1 _

theorem SvcWork.zeroBufs (owner : Nat) (bs : List Buf) : SvcWork s (zeroBufs t owner bs) := by
  induction bs generalizing t with
  | nil => exact h
  | cons b bs ih => exact ih (h.writeBufs owner [b] _)

/-- A context job is a queue job at the arbiter, which no other waits for. -/
def Job.atArbiter (j : Job) : Prop := j.res = .arbiter ∧ j.kind = .queue

variable {j : Job} (hj : j.atArbiter)
include hj

theorem SvcWork.finishJob (r : JobResult) : SvcWork s (t.finishJob j r) := by
  obtain ⟨hres, hkind⟩ := hj
  have hput : ∀ x, SvcWork s (t.putJob x) := fun x => h.upd rfl rfl rfl
  unfold State.finishJob
  simp only [hres, hkind, State.refill, State.countEnd]
  have hended : ∀ x, SvcWork s (if 0x10 ≤ r.status then (t.putJob x).releaseTargets j.targets else t.putJob x) :=
    fun x => ((hput x).releaseTargets _).ite (hput x)
  exact (hended _).ite (((hended _).inc _).ite (((hended _).inc _).ite (hended _)))

theorem SvcWork.failJob (e : Err) : SvcWork s (t.failJob j e) := by
  have hzero : SvcWork s (zeroOutput t j.owner j.desc) := by
    unfold zeroOutput
    split
    · exact h.zeroBufs _ _
    · exact h
  exact SvcWork.finishJob (hzero.ite h) hj _

theorem SvcWork.ctxBusy : SvcWork s (t.ctxBusy j) := (h.inc _).failJob hj _

theorem SvcWork.ctxStale (c : Nat) : SvcWork s (t.ctxStale j c) := (h.inc _).failJob hj _

theorem SvcWork.ctxReject (e : Err) : SvcWork s (t.ctxReject j e) := h.finishJob hj _

theorem SvcWork.ctxRefuse (e : Err) : SvcWork s (t.ctxRefuse j e) := h.failJob hj _

theorem SvcWork.ctxDone (x : JobIn) : SvcWork s (t.ctxDone j x) := h.finishJob hj _

end

theorem StoreWork.svcWork {s t : State} (h : StoreWork s t) : SvcWork s t :=
  (SvcWork.refl s).upd (congrArg State.svc h.frame :) (congrArg State.time h.frame :) (congrArg State.cup h.frame :)

/-! ### The context store -/

section
variable {s t u : State} (h : SvcWork s t)
include h

theorem SvcWork.commitBegin : SvcWork s t.commitBegin := h.trans (StoreWork.refl t).commitBegin.svcWork

theorem SvcWork.commitCtx (c : Nat) (b : Bool) (x : List Byte) : SvcWork s (t.commitCtx c b x) :=
  h.trans ((StoreWork.refl t).commitCtx c b x).svcWork

theorem SvcWork.mpeWriteN (line n : Nat) : SvcWork s (t.mpeWriteN line n) :=
  h.trans ((StoreWork.refl t).mpeWriteN line n).svcWork

theorem SvcWork.switchPair (p n : Nat) : SvcWork s (t.switchPair p n) :=
  (((h.commitCtx p true _).cts _).commitCtx n true _).cts _

theorem SvcWork.emptyCtx (c : Nat) : SvcWork s (t.emptyCtx c) := by
  unfold State.emptyCtx
  exact ((h.commitCtx c true _).cts _).ctsIpp _ _

theorem SvcWork.flowPut (r : FlowRef) (e : List Byte) : SvcWork s (t.flowPut r e) := by
  cases r with
  | pin i => exact h.cts _
  | tab i => exact (h.cts _).mpeWriteN _ 1

theorem SvcWork.flowRejected : SvcWork s t.flowRejected := (h.inc _).raise 82

theorem SvcWork.insertFlows (pin : Bool) (es : List (List Byte)) (hu : t.insertFlows pin es = some u) : SvcWork s u := by
  induction es generalizing t with
  | nil =>
    obtain rfl := Option.some.inj hu
    exact h
  | cons e es ih =>
    rw [State.insertFlows] at hu
    split at hu
    · next x hx =>
      refine ih ?_ hu
      split at hx
      · obtain ⟨-, hpin⟩ := (Option.ite_none_right_eq_some.1 hx)
        obtain rfl := Option.some.inj hpin
        exact h.cts _
      · obtain ⟨i, -, rfl⟩ := Option.map_eq_some_iff.1 hx
        exact h.flowPut _ _
    · exact absurd hu (by simp)

theorem SvcWork.pinEntries (c : Nat) (hu : t.pinEntries c = some u) : SvcWork s u :=
  (h.foldl _ _ fun x _ => (SvcWork.refl x).flowPut _ _).insertFlows _ _ hu

theorem SvcWork.unpinEntries (c : Nat) (hu : t.unpinEntries c = some u) : SvcWork s u :=
  (h.cts _).insertFlows _ _ hu

theorem SvcWork.installFlows (d img : List Byte) (es : List (List Byte)) (hu : t.installFlows d img es = some u) : SvcWork s u := by
  unfold State.installFlows at hu
  dsimp only at hu
  split at hu
  · next x hx =>
    refine SvcWork.insertFlows ?_ _ _ hu
    split at hx
    · exact h.pinEntries _ hx
    · obtain rfl := Option.some.inj hx
      exact h
  · exact absurd hu (by simp)

theorem SvcWork.releaseFlows (c : Nat) (x : List Byte) (hu : t.releaseFlows c x = some u) : SvcWork s u := by
  unfold State.releaseFlows at hu
  split at hu
  · split at hu
    · exact h.unpinEntries _ hu
    · obtain rfl := Option.some.inj hu
      exact h
  · obtain rfl := Option.some.inj hu
    exact h.cts _

theorem SvcWork.updatePin (d cur : List Byte) (hu : t.updatePin d cur = .ok u) : SvcWork s u := by
  unfold State.updatePin at hu
  dsimp only at hu
  split at hu
  · split at hu
    · exact absurd hu (by simp)
    · split at hu
      · next x hx =>
        obtain rfl := Except.ok.inj hu
        exact h.pinEntries _ hx
      · exact absurd hu (by simp)
  · split at hu
    · split at hu
      · obtain rfl := Except.ok.inj hu
        exact h
      · split at hu
        · next x hx =>
          obtain rfl := Except.ok.inj hu
          exact h.unpinEntries _ hx
        · exact absurd hu (by simp)
    · obtain rfl := Except.ok.inj hu
      exact h

/-! ### Context jobs (R316 to R318) -/

variable {j : Job} (hj : j.atArbiter)
include hj

theorem SvcWork.installCommit (x : JobIn) (img key next : List Byte) (epoch : Nat) :
    SvcWork s (t.installCommit j x img key next epoch) := by
  unfold State.installCommit
  dsimp only
  refine SvcWork.ctxDone ?_ hj x
  have hbegun : SvcWork s (if t.commitBegin.poisoned (ctxAddr (dCtxId j.desc) / 64) then
      t.commitBegin.mpeWriteN (ctxAddr (dCtxId j.desc) / 64) 8 else t.commitBegin) :=
    (h.commitBegin.mpeWriteN _ 8).ite h.commitBegin
  have hnew := fun v w x => ((hbegun.commitCtx (dCtxId j.desc) true v).cts w).cts x
  refine (hnew _ _ _).ite (SvcWork.ite ?_ ?_)
  · exact ((hnew _ _ _).commitCtx _ true _).cts _
  · exact (hnew _ _ _).commitCtx _ true _

theorem SvcWork.installRun (x : JobIn) (img : List Byte) (es : List (List Byte)) (key next : List Byte) (epoch : Nat) :
    SvcWork s (t.installRun j x img es key next epoch) := by
  unfold State.installRun
  dsimp only
  split
  · exact h.ctxRefuse hj _
  · refine (h.ctxStale hj _).ite ((h.ctxBusy hj).ite ((h.ctxRefuse hj _).ite ((h.ctxRefuse hj _).ite ?_)))
    split
    · exact h.flowRejected.ctxRefuse hj _
    · next u hu => exact (h.installFlows _ _ _ hu).installCommit hj x img key next epoch

theorem SvcWork.withSlot (n i : Nat) (k : Slot → State) (hk : ∀ x, SvcWork s (k x)) : SvcWork s (t.withSlot j n i k) := by
  unfold State.withSlot
  split
  · exact h.failJob hj _
  · exact hk _

theorem SvcWork.runInstallCtx (x : JobIn) : SvcWork s (t.runInstallCtx j x) := by
  unfold State.runInstallCtx
  dsimp only
  split
  · exact (SvcWork.ite (h.inc _) h).ctxReject hj _
  · unfold State.withNextKey
    refine SvcWork.ite ?_ (h.withSlot hj _ 1 _ fun y => ?_) <;>
      exact (h.installRun hj x _ _ _ _ _).ite (h.withSlot hj _ 0 _ fun y => h.installRun hj x _ _ _ _ _)

theorem SvcWork.runRetireCtx (x : JobIn) : SvcWork s (t.runRetireCtx j x) := by
  unfold State.runRetireCtx
  dsimp only
  refine (h.ctxStale hj _).ite ((h.ctxBusy hj).ite ?_)
  split
  · exact h.flowRejected.ctxRefuse hj _
  · next u hu =>
    refine SvcWork.ctxDone (SvcWork.emptyCtx ?_ _) hj x
    split
    · exact (h.releaseFlows _ _ hu).commitBegin.commitCtx _ true _
    · exact (h.releaseFlows _ _ hu).commitBegin

theorem SvcWork.updateCommit (x : JobIn) (cur new : List Byte) (sw : Bool) : SvcWork s (t.updateCommit j x cur new sw) := by
  unfold State.updateCommit
  dsimp only
  split
  · exact (SvcWork.ite h.flowRejected h).ctxRefuse hj _
  · next u hu =>
    have hu := (h.updatePin _ _ hu).commitBegin
    have hset := fun v y => (hu.commitCtx (dCtxId j.desc) v y)
    have hpinned := fun (p : Prop) [Decidable p] v y => SvcWork.ite (p := p) ((hset v y).mpeWriteN (ctxAddr (dCtxId j.desc) / 64) 8) (hset v y)
    refine SvcWork.ctxDone ?_ hj x
    split
    · exact (hpinned _ _ _).switchPair _ _
    · exact hpinned _ _ _

theorem SvcWork.updateRun (x : JobIn) (m next : List Byte) : SvcWork s (t.updateRun j x m next) := by
  unfold State.updateRun
  dsimp only
  exact (h.ctxStale hj _).ite ((h.ctxBusy hj).ite ((h.ctxRefuse hj _).ite ((h.ctxRefuse hj _).ite
    (h.updateCommit hj x _ _ _))))

end

/-- What a fold of steps that each give a state and more leaves. -/
theorem SvcWork.foldlFst {α β : Type} {s : State} (f : State × β → α → State × β) (xs : List α) (r : State × β)
    (hr : SvcWork s r.1) (hf : ∀ r a, SvcWork r.1 (f r a).1) : SvcWork s (xs.foldl f r).1 := by
  induction xs generalizing r with
  | nil => exact hr
  | cons a xs ih => exact ih _ (hr.trans (hf _ _))

theorem SvcWork.fst {α : Type} {s u : State} {r : State × α} {a : α} (hr : SvcWork s r.1) (h : r = (u, a)) : SvcWork s u := by
  rw [h] at hr
  exact hr

/-! ### SVC's jobs and its slots (R358, R366, R367, R375) -/

section
variable {s t u : State} (h : SvcWork s t)
include h

theorem SvcWork.svcJob (d : List Byte) (f : State → Job → State)
    (hf : ∀ (x : State) (j : Job), j.atArbiter → SvcWork x (f x j)) : SvcWork s (t.svcJob d f).1 :=
  ((h.jqm _).trans (hf _ _ ⟨rfl, rfl⟩)).jqm _

theorem SvcWork.svcInstall (c pred switch : Nat) (pin : Bool) (img : List Byte) (es : List (List Byte)) :
    SvcWork s (t.svcInstall c pred switch pin img es).1 :=
  h.svcJob _ _ fun x _ hj => (SvcWork.refl x).runInstallCtx hj _

theorem SvcWork.svcRetire (c : Nat) : SvcWork s (t.svcRetire c) :=
  h.ite (h.svcJob _ _ fun x _ hj => (SvcWork.refl x).runRetireCtx hj _)

theorem SvcWork.svcRetireAll (cs : List Nat) : SvcWork s (t.svcRetireAll cs) :=
  h.foldl _ _ fun x c => (SvcWork.refl x).svcRetire c

theorem SvcWork.deriveContexts (g : Nat) (ps : List (Dest × List Byte)) : SvcWork s (t.deriveContexts g ps) :=
  h.foldl _ _ fun x _ => ((SvcWork.refl x).cts _).commitCtx _ true _

theorem SvcWork.svcDerive (cs : List (Nat × Nat)) : SvcWork s (t.svcDerive cs) := by
  unfold State.svcDerive
  dsimp only
  refine SvcWork.inc (SvcWork.deriveContexts (SvcWork.commitBegin ?_) 31 _) _
  exact SvcWork.foldlFst _ _ (t, []) h fun r _ => (SvcWork.refl r.1).free _

theorem SvcWork.sessions (p : List Byte) : SvcWork s (t.sessions p).1 := by
  unfold State.sessions
  split
  · exact h.raise 237
  · split
    · exact h.raise 237
    · split
      · exact h.raise 237
      · dsimp only
        have hdrawn : ∀ cs, SvcWork s (t.svcDerive cs).freeNat.2 := fun cs => (h.svcDerive cs).free _
        generalize setLE _ 144 8 _ = img
        split
        · refine SvcWork.foldlFst _ _ _ (hdrawn _) ?_
          exact fun r x => (SvcWork.refl r.1).svcInstall x none32 0 false img []
        · dsimp only
          refine (SvcWork.foldlFst _ _ _ (hdrawn _) ?_).svcRetireAll _
          exact fun r x => (SvcWork.refl r.1).svcInstall x none32 0 false img []

theorem SvcWork.authKeys (p : List Byte) (cs : List Nat) : SvcWork s (t.authKeys p cs).1 := by
  unfold State.authKeys
  dsimp only
  have hdrawn : SvcWork s (t.freeBytes (pPrf p).2).2.freeNat.2 := (h.free _).free _
  split
  · next x hx => exact ((hdrawn.svcSlot _ _).fst hx).svcRetireAll _
  · next x i hx =>
    have hone := (hdrawn.svcSlot _ _).fst hx
    split
    · next y hy => exact (((hone.svcSlot _ _).fst hy).svcErase _).svcRetireAll _
    · next y k hy => exact ((hone.svcSlot _ _).fst hy).putAuth _ _

theorem SvcWork.handshake (p : List Byte) : SvcWork s (t.handshake p).1 := by
  unfold State.handshake
  split
  · next x hx => exact (h.sessions p).fst hx
  · next x cs hx => exact ((h.sessions p).fst hx).authKeys p cs

theorem SvcWork.dropAuth (k : IkeSa) : SvcWork s (t.dropAuth k) := (h.svcErase _).putAuth _ _

/-! ### Group keys (R375) -/

theorem SvcWork.groupInstall (b key : List Byte) (id from_ to_ : Nat) : SvcWork s (t.groupInstall b key id from_ to_).1 := by
  unfold State.groupInstall
  dsimp only
  exact h.svcJob _ _ fun x _ hj => (SvcWork.refl x).installRun hj _ _ _ _ _ _

theorem SvcWork.groupNext (b key : List Byte) (id from_ to_ : Nat) : SvcWork s (t.groupNext b key id from_ to_).1 := by
  unfold State.groupNext
  dsimp only
  exact h.svcJob _ _ fun x _ hj => (SvcWork.refl x).updateRun hj _ _ _

theorem SvcWork.groupKey (b key : List Byte) (id from_ to_ : Nat) : SvcWork s (t.groupKey b key id from_ to_).1 := by
  unfold State.groupKey
  split
  · exact h
  · split
    · exact h.groupInstall _ _ _ _ _
    · exact h.groupNext _ _ _ _ _

theorem SvcWork.groupSlot (g : Nat) (key : List Byte) : SvcWork s (t.groupSlot g key).1 := by
  unfold State.groupSlot
  dsimp only
  split
  · next x hx => exact (h.svcSlot _ _).fst hx
  · next x n hx => exact (((h.svcSlot _ _).fst hx).svcErase _).putGroupKey _ _

theorem SvcWork.groupFresh (g : Nat) : SvcWork s (t.groupFresh g).1 := by
  unfold State.groupFresh
  dsimp only
  have hdrawn : SvcWork s (t.freeNat.2.freeBytes 32).2 := (h.free _).free _
  split
  · next x hx => exact (hdrawn.groupSlot _ _).fst hx
  · next x hx =>
    have hslot := (hdrawn.groupSlot _ _).fst hx
    split
    · next y hy => exact (hslot.groupKey _ _ _ _ _).fst hy
    · next y hy => exact (hslot.groupKey _ _ _ _ _).fst hy

end

end Sys2Proof.Machine
end

section
/-! PROOF. O42: IKEv2 and GDOI in SVC (R348 to R352, R365 to R376). -/

namespace Sys2Proof.Machine

theorem byteAt_setLE_self (x : List Byte) (o v : Nat) (h : o < x.length) : byteAt (setLE x o 1 v) o = v % 256 := by
  have hone : 1 ≤ 1 := le_refl _
  rw [byteAt, List.getD_eq_getElem?_getD, setLE, patch_getElem?, natLE_length, if_pos ⟨le_refl _, by omega, h⟩]
  simp [natLE]

theorem leAt_lt (x : List Byte) (o n : Nat) : leAt x o n < 256 ^ n := by
  have hlen : (slice x o n).length ≤ n := by
    rw [slice, List.length_take]
    exact Nat.min_le_left _ _
  exact (leNat_lt _).trans_le (Nat.pow_le_pow_right (by decide) hlen)

section
variable (s : State)

/-! ### The switch of a rollover at once (R317, R328, R372) -/

theorem State.ctx_commitBegin (c : Nat) : s.commitBegin.ctx c = s.ctx c := by
  rw [State.ctx, State.commitBegin, State.inc_ctxs, State.ctx]

theorem State.ctx_commitCtx_of_ne (c d : Nat) (b : Bool) (x : List Byte) (h : d ≠ c) : (s.commitCtx c b x).ctx d = s.ctx d :=
  (sget_sput_of_ne _ _ _ _ _ h).trans (s.ctx_touch c d)

/-- What a commit stores beside VERSION and LAST_CSN. -/
theorem State.commitCtx_stores (c : Nat) (b : Bool) (x : List Byte) : ∃ v n, (s.commitCtx c b x).ctx c = setLE (setLE x 0 8 v) 8 8 n := by
  unfold State.commitCtx
  dsimp only
  split
  · exact ⟨_, _, sget_sput_self _ _ _ _⟩
  · exact ⟨_, _, sget_sput_self _ _ _ _⟩

theorem State.ctx_commitCtx_length (c : Nat) (b : Bool) (x : List Byte) : ((s.commitCtx c b x).ctx c).length = x.length := by
  obtain ⟨v, n, h⟩ := s.commitCtx_stores c b x
  rw [h, setLE_length, setLE_length]

theorem State.byteAt_commitCtx (c : Nat) (b : Bool) (x : List Byte) (o : Nat) (h : 16 ≤ o) :
    byteAt ((s.commitCtx c b x).ctx c) o = byteAt x o := by
  obtain ⟨v, n, hx⟩ := s.commitCtx_stores c b x
  rw [hx, byteAt_setLE_of_apart _ _ _ _ _ (.inl h), byteAt_setLE_of_apart _ _ _ _ _ (.inl (by omega))]

theorem State.leAt_commitCtx (c : Nat) (b : Bool) (x : List Byte) (o n : Nat) (h : 16 ≤ o) :
    leAt ((s.commitCtx c b x).ctx c) o n = leAt x o n := by
  obtain ⟨v, m, hx⟩ := s.commitCtx_stores c b x
  rw [hx, leAt_setLE_of_apart _ _ _ _ _ _ (.inl h), leAt_setLE_of_apart _ _ _ _ _ _ (.inl (by omega))]

theorem State.cState_commitCtx_setLE (c : Nat) (b : Bool) (x : List Byte) (v : Nat) (hx : x.length = 512) (hv : v < 256) :
    cState ((s.commitCtx c b (setLE x 17 1 v)).ctx c) = v := by
  rw [cState, s.byteAt_commitCtx _ _ _ _ (by decide), byteAt_setLE_self _ _ _ (by omega), Nat.mod_eq_of_lt hv]

theorem State.ctx_drainEnd (m : List (Nat × Nat)) (c : Nat) : ({ s with cts := { s.cts with drainEnd := m } } : State).ctx c = s.ctx c := rfl

theorem State.ctx_startDrain (p : Nat) (x : List Byte) (c : Nat) : (s.startDrain p x).ctx c = s.ctx c :=
  s.ctx_drainEnd _ c

theorem State.ctx_setSwitch (n v c : Nat) : (s.setSwitch n v).ctx c = s.ctx c := rfl

/-- The successor's half of the switch. -/
theorem State.successor_switched (n : Nat) (hn : (s.ctx n).length = 512) :
    cState (((s.commitCtx n true (setLE (s.ctx n) 17 1 csActive)).setSwitch n 0).ctx n) = csActive :=
  (congrArg cState (State.ctx_setSwitch _ n 0 n)).trans (s.cState_commitCtx_setLE n true _ csActive hn (by decide))

/-- The switch makes the successor ACTIVE and its predecessor DRAINING. -/
theorem State.switchPair_states (p n : Nat) (hne : n ≠ p) (hp : (s.ctx p).length = 512) (hn : (s.ctx n).length = 512) :
    cState ((s.switchPair p n).ctx n) = csActive ∧ cState ((s.switchPair p n).ctx p) = csDraining := by
  obtain ⟨t, ht⟩ : ∃ t, t = (s.commitCtx p true (setLE (s.ctx p) 17 1 csDraining)).startDrain p (s.ctx p) := ⟨_, rfl⟩
  have hctx : ∀ c, t.ctx c = (s.commitCtx p true (setLE (s.ctx p) 17 1 csDraining)).ctx c := fun c => by
    rw [ht, State.ctx_startDrain]
  have heq : s.switchPair p n = (t.commitCtx n true (setLE (t.ctx n) 17 1 csActive)).setSwitch n 0 := by
    rw [ht]
    rfl
  rw [heq]
  have hlen : (t.ctx n).length = 512 := by rw [hctx, State.ctx_commitCtx_of_ne _ _ _ _ _ hne, hn]
  refine ⟨t.successor_switched n hlen, ?_⟩
  rw [State.ctx_setSwitch, State.ctx_commitCtx_of_ne _ _ _ _ _ hne.symm, hctx]
  exact s.cState_commitCtx_setLE _ _ _ _ hp (by decide)

/-! ### CTX_UPDATE that writes ACTIVE (R317, R372) -/

/-- The mask that selects byte 17 alone, and the image that writes ACTIVE there. -/
theorem masked_stateByte : ∀ i < 512, masked (setLE (zeros 64) 2 1 2) i = decide (i = 17) := by decide +kernel

theorem merged_stateByte (img x : List Byte) (hx : x.length = 512) : setLE (merged (setLE (zeros 64) 2 1 2) img x) 17 1 (cState x) = x := by
  have hget : ∀ i < 512, (merged (setLE (zeros 64) 2 1 2) img x)[i]? = if i = 17 then some (img.getD 17 0) else x[i]? := fun i hi => by
    rw [merged, List.getElem?_map, List.getElem?_range hi, Option.map_some, masked_stateByte i hi]
    by_cases h : i = 17
    · simp [h]
    · simp [h, List.getD_eq_getElem?_getD, List.getElem?_eq_getElem (hx.symm ▸ hi)]
  have hlen : (merged (setLE (zeros 64) 2 1 2) img x).length = 512 := by simp [merged]
  refine List.ext_getElem? fun i => ?_
  rw [setLE, patch_getElem?, natLE_length, hlen]
  by_cases hi : i = 17
  · subst hi
    rw [if_pos (by decide)]
    simp [natLE, cState, byteAt, hx]
  · rw [if_neg (by omega)]
    by_cases hlt : i < 512
    · rw [hget i hlt, if_neg hi]
    · rw [List.getElem?_eq_none (by omega), List.getElem?_eq_none (by omega)]

/-- The mask and the image with which SVC activates a successor. -/
theorem State.maskBad_stateByte (c : Nat) (x : List Byte) (hx : cState x = csStandby) (hsw : s.switchOf c = 3) :
    s.maskBad c (setLE (zeros 64) 2 1 2) (setLE (zeros 512) 17 1 csActive) x = false := by
  have hany : (List.range 512).any (fun i => masked (setLE (zeros 64) 2 1 2) i && maskForbids (cType x) i) = false := by
    rw [List.any_eq_false]
    intro i hi
    rw [masked_stateByte i (List.mem_range.1 hi)]
    by_cases h : i = 17
    · subst h
      simp [maskForbids]
    · simp [h]
  have himg : byteAt (setLE (zeros 512) 17 1 csActive) 17 = csActive := byteAt_setLE_self _ _ _ (by rw [zeros, List.length_replicate]; decide)
  rw [State.maskBad, hany, masked_stateByte 18 (by decide), masked_stateByte 17 (by decide), himg, hx, hsw]
  rfl

theorem rolledBack_self (x : List Byte) (h : cType x = ctMacsecTx) : rolledBack x x = false := by
  simp [rolledBack, h]
  
theorem State.ctx_congr {s t : State} (h : t.cts.ctxs = s.cts.ctxs) (c : Nat) : t.ctx c = s.ctx c := by
  rw [State.ctx, h, State.ctx]

/-- The pair still waits after a commit that leaves its states and links. -/
theorem State.waitingPair_commitCtx (c p : Nat) (b : Bool) (x : List Byte) (h : s.waitingPair c = some p) (hne : c ≠ p)
    (hst : cState x = cState (s.ctx c)) (hpred : cPred x = cPred (s.ctx c)) : (s.commitCtx c b x).waitingPair c = some p := by
  unfold State.waitingPair at h
  obtain ⟨⟨hstandby, hsucc⟩, hp⟩ := Option.ite_none_right_eq_some.1 h
  have hp := Option.some.inj hp
  have hst' : cState ((s.commitCtx c b x).ctx c) = cState (s.ctx c) := (s.byteAt_commitCtx c b x 17 (by decide)).trans hst
  have hpred' : cPred ((s.commitCtx c b x).ctx c) = cPred (s.ctx c) := (s.leAt_commitCtx c b x 28 4 (by decide)).trans hpred
  have hother : (s.commitCtx c b x).ctx p = s.ctx p := s.ctx_commitCtx_of_ne c p b x hne.symm
  unfold State.waitingPair
  have hsucc' : (s.commitCtx c b x).isSuccessor c = true := by
    rw [State.isSuccessor] at hsucc ⊢
    simp only [cLinked, hst', hpred', hp, hother] at hsucc ⊢
    exact hsucc
  rw [if_pos ⟨hst'.trans hstandby, hsucc'⟩, hpred', hp]

theorem setPinned_kept (x : List Byte) (b : Bool) : (setPinned x b).length = x.length ∧ cState (setPinned x b) = cState x ∧
    cPred (setPinned x b) = cPred x :=
  ⟨setLE_length _ _ _ _, byteAt_setLE_of_apart _ _ _ _ _ (.inr (by decide)), leAt_setLE_of_apart _ _ _ _ _ _ (.inl (by decide))⟩

section
variable (j : Job) (c p : Nat) (hc : dCtxId j.desc = c) (hversion : leAt j.desc 64 8 = 0) (hflags : byteAt j.desc 72 = 0)
  (hpair : s.waitingPair c = some p) (hne : c ≠ p) (hlen : (s.ctx c).length = 512) (hlenp : (s.ctx p).length = 512)
include hc hflags hpair hne hlen hlenp

/-- The update commit performs the switch. -/
theorem State.updateCommit_switches (x : JobIn) (cur : List Byte) (hcur : cur = s.ctx c) : ∃ t, StoreWork s t ∧ cState (t.ctx c) = csActive ∧
    cState (t.ctx p) = csDraining ∧ s.updateCommit j x cur cur true = t.ctxDone j x := by
  have hpin : s.updatePin j.desc cur = .ok s := by
    unfold State.updatePin
    simp [hflags, bit]
  obtain ⟨u, hu⟩ : ∃ u, u = s.commitBegin.commitCtx c (beyondUp cur (setPinned cur (cPinned cur)) && !true) (setPinned cur (cPinned cur)) := ⟨_, rfl⟩
  obtain ⟨hpinLen, hpinState, hpinPred⟩ := setPinned_kept cur (cPinned cur)
  have hbegun : s.commitBegin.waitingPair c = some p := by
    rw [State.waitingPair, State.isSuccessor] at hpair ⊢
    simpa only [State.ctx_commitBegin] using hpair
  have hwait : u.waitingPair c = some p := by
    rw [hu]
    exact State.waitingPair_commitCtx _ _ _ _ _ hbegun hne (by rw [hpinState, hcur, s.ctx_commitBegin]) (by rw [hpinPred, hcur, s.ctx_commitBegin])
  have hstates := u.switchPair_states p c hne
    (by rw [hu, State.ctx_commitCtx_of_ne _ _ _ _ _ hne.symm, s.ctx_commitBegin, hlenp])
    (by rw [hu, State.ctx_commitCtx_length, hpinLen, hcur, hlen])
  have hwork : StoreWork s u := by
    rw [hu]
    exact (StoreWork.refl s).commitBegin.commitCtx _ _ _
  refine ⟨u.switchPair p c, ?_, hstates.1, hstates.2, ?_⟩
  · exact (((hwork.commitCtx p true _).cts _).commitCtx c true _).cts _
  · unfold State.updateCommit
    simp only [hpin, hc, hflags, bit, Nat.zero_testBit, Bool.or_false, Bool.not_false, Bool.and_true, Bool.and_not_self, Bool.false_eq_true, if_false]
    rw [← hu, hwait]

include hversion in
/-- SVC's CTX_UPDATE passes its checks and switches. -/
theorem State.updateRun_switches (n : Nat) (hb : cState (s.ctx c) = csStandby) (hty : cType (s.ctx c) = ctMacsecTx) (hsw : s.switchOf c = 3)
    (hbody : bodyBad c (s.ctx c) = false) (hzero : allZero (slice (s.ctx c) 48 16) = true) :
    ∃ t, StoreWork s t ∧ cState (t.ctx c) = csActive ∧ cState (t.ctx p) = csDraining ∧
      s.updateRun j ⟨setLE (zeros 512) 17 1 csActive, n, []⟩ (setLE (zeros 64) 2 1 2) [] =
        t.ctxDone j ⟨setLE (zeros 512) 17 1 csActive, n, []⟩ := by
  obtain ⟨t, hwork, hactive, hdraining, heq⟩ := s.updateCommit_switches j c p hc hflags hpair hne hlen hlenp
    ⟨setLE (zeros 512) 17 1 csActive, n, []⟩ (s.ctx c) rfl
  refine ⟨t, hwork, hactive, hdraining, Eq.trans ?_ heq⟩
  have hmoved : s.ctxMoved j c = false := by simp [State.ctxMoved, hversion]
  have hbusy : s.rollBusy c = false := by simp [State.rollBusy, hb]
  unfold State.updateRun
  simp only [hc, hmoved, hbusy, s.maskBad_stateByte c _ hb hsw, merged_stateByte _ _ hlen, masked_stateByte 17 (by decide),
    rolledBack_self _ hty, hbody, hzero, Bool.and_false, Bool.or_false, Bool.not_true, Bool.false_eq_true, if_false, decide_true,
    List.isEmpty_nil, if_true]

end

/-- The fields of the descriptor of SVC's CTX_UPDATE. -/
theorem svcDesc_update (c : Nat) (h : c < 2 ^ 32) : dCtxId (svcDesc opCtxUpdate c none32 0 0) = c ∧
    leAt (svcDesc opCtxUpdate c none32 0 0) 64 8 = 0 ∧ byteAt (svcDesc opCtxUpdate c none32 0 0) 72 = 0 := by
  have hlen : 48 + 4 ≤ (zeros 128).length := by
    rw [zeros, List.length_replicate]
    decide
  refine ⟨?_, ?_, ?_⟩
  · unfold dCtxId svcDesc
    rw [leAt_setLE_of_apart _ _ _ _ _ _ (.inr (by decide)), leAt_setLE_of_apart _ _ _ _ _ _ (.inr (by decide)),
      leAt_setLE_of_apart _ _ _ _ _ _ (.inr (by decide)), leAt_setLE_of_apart _ _ _ _ _ _ (.inr (by decide)),
      leAt_setLE_of_apart _ _ _ _ _ _ (.inl (by decide)), leAt_setLE_self _ _ _ _ (by rwa [setLE_length])]
    exact Nat.mod_eq_of_lt h
  · unfold svcDesc
    rw [leAt_setLE_of_apart _ _ _ _ _ _ (.inr (by decide)), leAt_setLE_of_apart _ _ _ _ _ _ (.inr (by decide)),
      leAt_setLE_of_apart _ _ _ _ _ _ (.inr (by decide)), leAt_setLE_of_apart _ _ _ _ _ _ (.inl (by decide)),
      leAt_setLE_of_apart _ _ _ _ _ _ (.inl (by decide)), leAt_setLE_of_apart _ _ _ _ _ _ (.inl (by decide)),
      leAt_setLE_of_apart _ _ _ _ _ _ (.inl (by decide))]
    decide
  · unfold svcDesc
    rw [byteAt_setLE_of_apart _ _ _ _ _ (.inr (by decide)), byteAt_setLE_of_apart _ _ _ _ _ (.inr (by decide)),
      byteAt_setLE_self _ _ _ (by simp [zeros])]

/-- A job of SVC's runs on the state that lists it. -/
theorem State.svcJob_runs (d : List Byte) (f : State → Job → State) : ∃ x j, j.desc = d ∧ j.atArbiter ∧
    (s.svcJob d f).1 = (f { s with jqm := x } j).dropJob s.jqm.nextId := ⟨_, _, rfl, ⟨rfl, rfl⟩, rfl⟩

theorem State.ctx_ctxDone (j : Job) (x : JobIn) (c : Nat) : (s.ctxDone j x).ctx c = s.ctx c :=
  State.ctx_congr (congrArg (fun t : State => t.cts.ctxs) ((JobsOnly.refl s).finishJob j (okResult j.engine 0 0 x.excess)).frame :) c

theorem StoreWork.sameMemory {s t : State} (h : StoreWork s t) : SameMemory s t :=
  .of_eq (congrArg State.hostMem h.frame :) (congrArg State.svcMem h.frame :) (congrArg State.cupMem h.frame :)
    (congrArg (fun x : State => x.cup.flash) h.frame :) (congrArg State.otp h.frame :)

/-- SVC's job that activates a successor performs the switch, and no memory changes (R358, R372). -/
theorem State.svcActivate_switches (c p : Nat) (hpair : s.waitingPair c = some p) (hne : c ≠ p) (hlen : (s.ctx c).length = 512)
    (hlenp : (s.ctx p).length = 512) (hty : cType (s.ctx c) = ctMacsecTx) (hsw : s.switchOf c = 3)
    (hbody : bodyBad c (s.ctx c) = false) (hzero : allZero (slice (s.ctx c) 48 16) = true) (hreach : s.ctxReach c = true) :
    cState ((s.svcActivate c).ctx c) = csActive ∧ cState ((s.svcActivate c).ctx p) = csDraining ∧ SameMemory s (s.svcActivate c) := by
  obtain ⟨hstandby, hsucc⟩ : cState (s.ctx c) = csStandby ∧ s.isSuccessor c = true := (Option.ite_none_right_eq_some.1 hpair).1
  have hsmall : c < 2 ^ 32 := by
    have hlink := (Bool.and_eq_true _ _ ▸ hsucc : _ ∧ _).2
    rw [← beq_iff_eq.1 hlink]
    exact leAt_lt _ _ _
  obtain ⟨hc, hversion, hflags⟩ := svcDesc_update c hsmall
  unfold State.svcActivate
  rw [if_neg (by simp [hstandby, hreach])]
  obtain ⟨x, j, hdesc, -, hrun⟩ := s.svcJob_runs (svcDesc opCtxUpdate c none32 0 0)
    (fun s j => s.updateRun j ⟨setLE (zeros 512) 17 1 csActive, 0, []⟩ (setLE (zeros 64) 2 1 2) [])
  obtain ⟨t, hwork, hactive, hdraining, heq⟩ := State.updateRun_switches { s with jqm := x } j c p (hdesc ▸ hc) (hdesc ▸ hversion)
    (hdesc ▸ hflags) hpair hne hlen hlenp 0 hstandby hty hsw hbody hzero
  rw [hrun, heq]
  have hctx : ∀ i, ((t.ctxDone j ⟨setLE (zeros 512) 17 1 csActive, 0, []⟩).dropJob s.jqm.nextId).ctx i = t.ctx i := fun i =>
    t.ctx_ctxDone j _ i
  refine ⟨(congrArg cState (hctx c)).trans hactive, (congrArg cState (hctx p)).trans hdraining, ?_⟩
  have hlisted : SameMemory s { s with jqm := x } := .of_eq
  have hdone := (hlisted.trans hwork.sameMemory).trans (t.finishJob_sameMemory j (okResult j.engine 0 0 0))
  exact hdone.trans (.of_eq (t := (t.finishJob j (okResult j.engine 0 0 0)).dropJob s.jqm.nextId))

end

end Sys2Proof.Machine
end

section
/-! PROOF. O42: the messages and timers of IKEv2 and GDOI (R351, R352, R365 to R376). -/

namespace Sys2Proof.Machine

section
variable (s : State)

/-! ### Tables -/

theorem State.ike?_id (n : Nat) (k : IkeSa) (h : s.ike? n = some k) : k.id = n := by simpa using List.find?_some h

theorem State.child?_id (n : Nat) (k : ChildSa) (h : s.child? n = some k) : k.id = n := by simpa using List.find?_some h

theorem State.ike?_dropIke (n : Nat) : (s.dropIke n).ike? n = none := by
  simp [State.ike?, State.dropIke, List.find?_eq_none]

theorem State.child?_dropChild (n : Nat) : (s.dropChild n).child? n = none := by
  simp [State.child?, State.dropChild, List.find?_eq_none]

theorem State.child?_putChild (k c : ChildSa) (h : s.child? k.id = some c) : (s.putChild k).child? k.id = some k := by
  have hid := s.child?_id _ _ h
  unfold State.child? at h ⊢
  unfold State.putChild
  rw [List.find?_map]
  have hsame : ((fun x : ChildSa => x.id == k.id) ∘ fun x : ChildSa => if (x.id == k.id) = true then k else x) = fun x => x.id == k.id := by
    funext x
    by_cases hx : x.id = k.id <;> simp [hx]
  rw [hsame, h, Option.map_some]
  simp [hid]

theorem State.groupSt_putGroup (g : Nat) (x : GroupSt) : (s.putGroup g x).groupSt g = x := sget_sput_self _ _ _ _

/-! ### Messages of a peer (R365, R366) -/

section
variable (m : IkeMsg) (hacts : s.svcActs = true) (hpolicy : (s.peerPolicy m.peer.toNat).isEmpty = false)
include hacts hpolicy

theorem ikeMessage_init (fits ke ck : Bool) (hkind : m.kind = .initReq fits ke ck) :
    exec (.ikeMessage m) s = .next (s.svcTake.onInitReq m.peer.toNat fits ke ck) := by
  refine congrArg Host.Outcome.next ?_
  have hempty : (s.svcTake.peerPolicy m.peer.toNat).isEmpty = false := hpolicy
  simp [State.onMessage, hacts, hempty, hkind]

theorem ikeMessage_onIke (k : IkeSa) (hk : s.ike? m.ike = some k) (hpeer : k.peer = m.peer.toNat)
    (hkind : ∀ a b c, m.kind ≠ .initReq a b c) : exec (.ikeMessage m) s = .next (s.svcTake.onIke k m.kind) := by
  refine congrArg Host.Outcome.next ?_
  have hempty : (s.svcTake.peerPolicy m.peer.toNat).isEmpty = false := hpolicy
  have hk : s.svcTake.ike? m.ike = some k := hk
  unfold State.onMessage
  simp only [hacts, hempty, hk, hpeer, Bool.not_true, Bool.false_eq_true, if_false, if_true]

end

section
variable (i : Nat) (fits ke ck : Bool) (hopen : s.halfOpen < 4096) (hhand : s.handshakes < 2048) (hikes : s.svc.ikes.length < 65536)
include hopen hhand hikes

/-- A request that fits no proposal is refused. -/
theorem State.onInitReq_refuses : s.onInitReq i false ke ck = (s.setPeer i 0 pfNoProposal).svcSay i .noProposal := by
  unfold State.onInitReq
  dsimp only
  rw [if_neg (by omega), if_neg (by omega), if_neg (by omega), if_pos (by simp)]

/-- One that fits makes an IKE SA, where the contexts and slots are to be had. -/
theorem State.onInitReq_accepts (cs : List Nat) (hactive : s.peerActive i = true) (hpq : pPqRequired (s.peerPolicy i) = true → ke = true)
    (hcs : (s.handshake (s.peerPolicy i)).2 = some cs) : ∃ n, (s.onInitReq i true ke ck).svc.sent = s.svc.sent ++ [(i, .initResp)] ∧
      (s.onInitReq i true ke ck).svc.ikes = s.svc.ikes ++ [⟨n, i, false, .inter, cs, s.time⟩] := by
  have hrequired : (pPqRequired (s.peerPolicy i) && !ke) = false := by
    cases hp : pPqRequired (s.peerPolicy i) with
    | false => rfl
    | true => simp [hpq hp]
  obtain ⟨t, ht⟩ : ∃ t, s.handshake (s.peerPolicy i) = (t, some cs) := ⟨_, Prod.ext rfl hcs⟩
  have hwork : SvcWork s t := ((SvcWork.refl s).handshake _).fst ht
  have heq : s.onInitReq i true ke ck = (t.newSa.2.addIke ⟨t.newSa.1, i, false, .inter, cs, t.newSa.2.time⟩).svcSay i .initResp := by
    unfold State.onInitReq
    dsimp only
    rw [if_neg (by omega), if_neg (by omega), if_neg (by omega), if_neg (by simp [hactive, hrequired]), ht]
  rw [heq]
  refine ⟨t.newSa.1, congrArg (· ++ [(i, SvcMsg.initResp)]) hwork.sent, ?_⟩
  rw [← hwork.ikes, ← hwork.time]
  rfl

end

/-! ### An IKE SA without child SAs goes down (R366, R367) -/

/-- A Delete of an IKE SA without child SAs and contexts: its slots are erased, and it is gone. -/
theorem State.ikeDown_alone (k : IkeSa) (failure : Nat) (hchilds : s.childsOf k.id = []) (hctxs : k.ctxs = []) :
    (s.ikeDown k failure).ike? k.id = none ∧ (s.ikeDown k failure).svc.sent = s.svc.sent ∧
      (s.ikeDown k failure).svc.childs = s.svc.childs ∧ SameMemory s (s.ikeDown k failure) := by
  have heq : s.ikeDown k failure = (((s.dropAuth k).dropIke k.id).setPeer k.peer 0 failure).raise 233 := by
    unfold State.ikeDown
    dsimp only
    rw [hchilds, hctxs]
    rfl
  have hdrop : SvcWork s (s.dropAuth k) := (SvcWork.refl s).dropAuth k
  have hkeep : SameMemory s (s.dropAuth k) := (State.dropAuth_keeps k (Keeps.refl true s)).sameMemory
  have hgone := (s.dropAuth k).ike?_dropIke k.id
  obtain ⟨u, hu⟩ : ∃ u, u = ((s.dropAuth k).dropIke k.id).setPeer k.peer 0 failure := ⟨_, rfl⟩
  have hmem : SameMemory (s.dropAuth k) u := by
    rw [hu]
    exact .of_eq
  have hsent : u.svc.sent = (s.dropAuth k).svc.sent := by rw [hu]; rfl
  have hchild : u.svc.childs = (s.dropAuth k).svc.childs := by rw [hu]; rfl
  have hike : u.ike? k.id = ((s.dropAuth k).dropIke k.id).ike? k.id := by rw [hu]; rfl
  rw [heq, ← hu]
  have hraised := ((EvcOnly.refl u).raise 233).frame
  have hsvc : (u.raise 233).svc = u.svc := (congrArg State.svc hraised :)
  refine ⟨?_, ?_, ?_, (hkeep.trans hmem).trans hraised.sameMemory⟩
  · rw [State.ike?, hsvc]
    exact hike.trans hgone
  · rw [hsvc, hsent, hdrop.sent]
  · rw [hsvc, hchild, hdrop.childs]

/-! ### Child SAs (R349, R371, R372) -/

/-- A child SA that is due asks for its rekey. -/
theorem childRekey_asks (n : Nat) (k : ChildSa) (hk : s.child? n = some k) (hacts : s.svcActs = true) (hsucc : k.succ = none)
    (hini : k.initiated = false) (hdel : k.deleting = false)
    (hdue : softAt (s.peerPolicy (s.peerOfChild k)) k.born (leAt (s.peerPolicy (s.peerOfChild k)) 12 4) ≤ s.time) :
    ∃ t, exec (.childRekey n) s = .next t ∧ t.child? n = some { k with initiated := true } ∧
      t.svc.sent = s.svc.sent ++ [(s.peerOfChild k, .rekeyReq n)] ∧ t = { s with svc := t.svc } := by
  have hid := s.child?_id n k hk
  refine ⟨(s.putChild { k with initiated := true }).svcSay (s.peerOfChild k) (.rekeyReq k.id), congrArg Host.Outcome.next ?_, ?_, ?_, rfl⟩
  · unfold State.childRekey
    simp only [hk, hacts, Bool.not_true, Bool.false_eq_true, if_false, if_pos hdue]
    unfold State.rekeyStart
    rw [if_neg (by simp [hsucc, hini, hdel])]
  · subst hid
    exact s.child?_putChild { k with initiated := true } k hk
  · rw [hid]
    rfl

/-- The hard lifetime of a child SA whose contexts are EMPTY. -/
theorem hardLifetime_ends (n : Nat) (k : ChildSa) (hk : s.child? n = some k) (hacts : s.svcActs = true) (hsucc : k.succ = none)
    (hend : k.born + leAt (s.peerPolicy (s.peerOfChild k)) 12 4 * 1000000000 ≤ s.time)
    (hrx : cState (s.ctx k.rx) = csEmpty) (htx : cState (s.ctx k.tx) = csEmpty) :
    ∃ t, exec (.hardLifetime n) s = .next t ∧ t.child? n = none ∧
      t.svc.sent = s.svc.sent ++ [(s.peerOfChild k, .deleteChild n)] ∧ SameMemory s t := by
  have hid := s.child?_id n k hk
  refine ⟨(s.dropChild k.id).svcSay (s.peerOfChild k) (.deleteChild n), congrArg Host.Outcome.next ?_, ?_, rfl, .of_eq⟩
  · have hdown : s.childDown k = s.dropChild k.id := by
      have hidle : ∀ c, cState (s.ctx c) = csEmpty → s.svcRetire c = s := fun c hc => if_pos (.inl hc)
      simp [State.childDown, hsucc, hrx, htx, State.svcRetireAll, hidle, csStandby]
    unfold State.hardLife
    simp only [hk, hacts, hsucc, hdown, Bool.not_true, Bool.false_or, decide_eq_true_eq, if_neg (Nat.not_lt.2 hend)]
  · rw [hid]
    exact s.child?_dropChild n

/-- A switch that is due. -/
theorem switchMsExpiry_switches (n : Nat) (k : ChildSa) (hk : s.child? n = some k) (hacts : s.svcActs = true) (a b : Nat)
    (hsucc : k.succ = some (a, b)) (hdue : s.switchDue k (a, b) = true) :
    exec (.switchMsExpiry n) s = .next (s.svcActivate b) := by
  refine congrArg Host.Outcome.next ?_
  unfold State.switchExpiry
  simp only [hk, hsucc, hacts, hdue, Bool.and_self, if_true]

/-! ### Timers of an IKE SA -/

theorem ikeDpd_sends (n : Nat) (k : IkeSa) (hk : s.ike? n = some k) (hup : k.st = .up) (hacts : s.svcActs = true)
    (hdpd : leAt (s.peerPolicy k.peer) 18 2 ≠ 0) : exec (.ikeDpd n true) s = .next (s.svcSay k.peer .liveness) := by
  refine congrArg Host.Outcome.next ?_
  unfold State.liveness
  simp [hk, hacts, hup, hdpd]

theorem ikeSaRekey_asks (n : Nat) (k : IkeSa) (hk : s.ike? n = some k) (hup : k.st = .up) (hacts : s.svcActs = true)
    (hdue : softAt (s.peerPolicy k.peer) k.born (leAt (s.peerPolicy k.peer) 8 4) ≤ s.time) :
    exec (.ikeSaRekey n) s = .next (s.svcSay k.peer .ikeRekeyReq) := by
  refine congrArg Host.Outcome.next ?_
  unfold State.ikeRekey
  simp [hk, hacts, hup, Nat.not_lt.2 hdue]

/-! ### Groups (R374 to R376) -/

section
variable (id : Word) (d : List Byte) (g : Nat) (hacts : s.svcActs = true) (hg : s.groupOfId id.toNat = some g)
  (hkdc : gKdc (s.groupRec g) = true)
include hacts hg hkdc

theorem gdoiRegister_refuses (hacl : (s.groupAcl id.toNat).contains d = false) : exec (.gdoiMessage (.register id d)) s =
    .next (s.svcTake.svcSay g .authFailed) := by
  refine congrArg Host.Outcome.next ((if_pos hacts).trans ?_)
  change s.svcTake.register id.toNat d = _
  have hg : s.svcTake.groupOfId id.toNat = some g := hg
  have hkdc : gKdc (s.svcTake.groupRec g) = true := hkdc
  have hacl : (s.svcTake.groupAcl id.toNat).contains d = false := hacl
  unfold State.register
  simp only [hg, hkdc, hacl, Bool.not_true, Bool.not_false, Bool.false_eq_true, if_false, if_true]

theorem gdoiRegister_enters (hacl : (s.groupAcl id.toNat).contains d = true) (hnew : (s.groupSt g).members.contains d = false)
    (hroom : s.registrations < 65536) : exec (.gdoiMessage (.register id d)) s =
    .next ((s.svcTake.putGroup g { s.groupSt g with members := (s.groupSt g).members ++ [d] }).svcSay g .registration) := by
  refine congrArg Host.Outcome.next ((if_pos hacts).trans ?_)
  change s.svcTake.register id.toNat d = _
  have hg : s.svcTake.groupOfId id.toNat = some g := hg
  have hkdc : gKdc (s.svcTake.groupRec g) = true := hkdc
  have hacl : (s.svcTake.groupAcl id.toNat).contains d = true := hacl
  have hnew : (s.svcTake.groupSt g).members.contains d = false := hnew
  have hroom : ¬ 65536 ≤ s.svcTake.registrations := Nat.not_le.2 hroom
  unfold State.register
  simp only [hg, hkdc, hacl, hnew, hroom, Bool.not_true, Bool.false_eq_true, if_false]
  rfl

end

/-- A KDC pushes the key that it could make. -/
theorem State.groupPush_sends (g : Nat) (hmulti : bit (byteAt (s.groupRec g) 6) 1 = true) (hfresh : s.pushes g) :
    ((s.groupPush g).groupSt g).seq = (s.groupSt g).seq + 1 ∧ (s.groupPush g).svc.sent = s.svc.sent ++ [(g, .push)] := by
  obtain ⟨id, hid⟩ := Option.isSome_iff_exists.1 hfresh
  obtain ⟨t, ht⟩ : ∃ t, s.groupFresh g = (t, some id) := ⟨_, Prod.ext rfl hid⟩
  have hwork : SvcWork s t := ((SvcWork.refl s).groupFresh g).fst ht
  have hrec : t.groupRec g = s.groupRec g := by rw [State.groupRec, State.groupRecs, hwork.cfgRecs, State.groupRec, State.groupRecs]
  have hst : t.groupSt g = s.groupSt g := by rw [State.groupSt, hwork.groups, State.groupSt]
  obtain ⟨x, hx⟩ : ∃ x, x = { t.groupSt g with
    seq := (t.groupSt g).seq + 1
    keyId := id } := ⟨_, rfl⟩
  have heq : s.groupPush g = ((t.putGroup g x).svcSay g .push).raise 235 := by
    unfold State.groupPush
    rw [ht]
    dsimp only
    rw [hrec, if_pos hmulti, hx]
  have hsvc : (s.groupPush g).svc = ((t.putGroup g x).svcSay g .push).svc := by
    rw [heq]
    exact (congrArg State.svc ((EvcOnly.refl _).raise 235).frame :)
  refine ⟨?_, (congrArg SvcSt.sent hsvc).trans (congrArg (· ++ [(g, SvcMsg.push)]) hwork.sent)⟩
  have hgroup : (s.groupPush g).groupSt g = x := (congrArg (fun y : SvcSt => sget noGroup y.groups g) hsvc).trans (t.groupSt_putGroup g x)
  rw [hgroup, hx, hst]

theorem groupReregister_joins (g : BitVec 16) (hactive : s.groupActive g.toNat = true) (hmember : gMember (s.groupRec g.toNat) = true)
    (hdue : s.joinDue (s.groupRec g.toNat) = true) : exec (.groupReregister g) s = .next (s.groupJoin g.toNat) := by
  refine congrArg Host.Outcome.next ?_
  simp [hactive, hmember, hdue]

theorem groupkeyPush_pushes (g : BitVec 16) (hactive : s.groupActive g.toNat = true) (hkdc : gKdc (s.groupRec g.toNat) = true)
    (hdue : s.pushDue (s.groupRec g.toNat) = true) : exec (.groupkeyPush g) s = .next (s.groupPush g.toNat) := by
  refine congrArg Host.Outcome.next ?_
  simp [hactive, hkdc, hdue]

end

/-- Settles O42: each message and timer is one branch of what SVC does, and its jobs leave its tables as they are. -/
theorem keyExchangeMessages : Obligations.KeyExchangeMessages := by
  unfold Obligations.KeyExchangeMessages
  intro s hacts
  refine ⟨fun m i hi hpolicy => ?_, fun n k hk p hp => ?_, fun n k hk hup => ?_, fun id d g hg hkdc => ?_, fun g hactive => ?_⟩
  · subst hi
    refine ⟨fun fits ke ck hkind hopen hhand hikes => ?_, fun k hk hpeer => ?_⟩
    · have hexec := ikeMessage_init s m hacts hpolicy fits ke ck hkind
      refine ⟨fun hfits => ?_, fun cs hfits hactive hpq hcs => ?_⟩ <;> subst hfits
      · exact ⟨_, hexec.trans (congrArg Host.Outcome.next (s.svcTake.onInitReq_refuses _ ke ck hopen hhand hikes)), rfl, rfl, .of_eq⟩
      · obtain ⟨j, hsent, hikes⟩ := s.svcTake.onInitReq_accepts _ ke ck hopen hhand hikes cs hactive hpq hcs
        exact ⟨_, j, hexec, hsent, hikes⟩
    · refine ⟨fun hkind => ?_, fun hkind hchilds hctxs => ?_⟩
      · refine (ikeMessage_onIke s m hacts hpolicy k hk hpeer (by simp [hkind])).trans (congrArg Host.Outcome.next ?_)
        rw [hkind, ← hpeer]
        rfl
      · obtain ⟨hgone, hsent, hchild, hmem⟩ := (s.svcTake.svcSay k.peer .infoResp).ikeDown_alone k pfDeleted hchilds hctxs
        have hexec := ikeMessage_onIke s m hacts hpolicy k hk hpeer (by simp [hkind])
        rw [hkind] at hexec
        exact ⟨_, hexec, hgone, hsent.trans (by rw [← hpeer]; rfl), hchild, SameMemory.trans .of_eq hmem⟩
  · subst hp
    refine ⟨fun hsucc hini hdel hdue => childRekey_asks s n k hk hacts hsucc hini hdel hdue, ?_,
      fun hsucc hend hrx htx => hardLifetime_ends s n k hk hacts hsucc hend hrx htx⟩
    intro a b x hsucc hdue hpair hne hsw hx hlen hlenp _ hty hbody hzero hreach _
    subst hx
    exact ⟨_, switchMsExpiry_switches s n k hk hacts a b hsucc hdue,
      s.svcActivate_switches b k.tx hpair hne hlen hlenp hty hsw hbody hzero hreach⟩
  · exact ⟨ikeDpd_sends s n k hk hup hacts, ikeSaRekey_asks s n k hk hup hacts⟩
  · refine ⟨fun hacl => ⟨_, gdoiRegister_refuses s id d g hacts hg hkdc hacl, rfl⟩, fun hacl hnew hroom =>
      ⟨_, gdoiRegister_enters s id d g hacts hg hkdc hacl hnew hroom, ?_, rfl⟩⟩
    exact congrArg GroupSt.members (s.svcTake.groupSt_putGroup g _)
  · refine ⟨fun hkdc hmulti hdue hfresh => ?_, fun hmember hdue => ?_⟩
    · obtain ⟨hseq, hsent⟩ := s.groupPush_sends g.toNat hmulti hfresh
      exact ⟨_, groupkeyPush_pushes s g hactive hkdc hdue, hseq, hsent⟩
    · exact ⟨_, groupReregister_joins s g hactive hmember hdue, congrArg GroupSt.registered (s.groupSt_putGroup g.toNat _), rfl, rfl⟩

end Sys2Proof.Machine
end

section
/-! PROOF. What the resets of the host, of SVC and of Cupola leave alone: CPM, the debug session, the clock status and an event that
is pending (R65, R66, R506, R574). -/

namespace Sys2Proof.Machine

/-- The clock status, and what LCS shows of challenge, session and token. -/
def asideRegs : List Nat := [R.CKG_STAT, R.LCS_STAT, R.LCS_DBG_STAT, R.LCS_TOK_RES]

/-- The counts of clock failures and of sessions. -/
def asideCnts : List Nat := [R.PWR_CNT 4, R.LCS_CNT 2]

/-- They and the pending bit of source 211 lie in the blocks of CPM, LCS and EVC (R55). -/
theorem locate_aside : ∀ o ∈ R.EVC_PEND 6 :: (asideRegs ++ asideCnts), (locate o).map Prod.fst = some .cpm ∨
    (locate o).map Prod.fst = some .lcs ∨ (locate o).map Prod.fst = some .evc := by decide

theorem satReg_aside : ∀ o ∈ R.EVC_PEND 6 :: asideRegs, satReg o = false := by decide

theorem aside_low : ∀ o ∈ asideRegs ++ asideCnts, o < 0x50000 := by decide

theorem aside_below : ∀ o ∈ R.EVC_PEND 6 :: (asideRegs ++ asideCnts), o < 0xe0000 := by decide

/-- CPM and the end of the session are as before, a stopped Cupola stays stopped, and so do the registers whose entries agree, the
counts and the pending bit. -/
structure Aside (s t : State) : Prop where
  cpm : t.cpm = s.cpm
  session : t.lcs.sessionEnd = s.lcs.sessionEnd
  stopped : s.power.cupUp = false → t.power.cupUp = false
  regs : ∀ o ∈ asideRegs, s.settled o → t.settled o ∧ t.rd o = s.rd o
  counts : ∀ o ∈ asideCnts, t.cntGet o = s.cntGet o
  pending : s.isPending 211 = true → t.isPending 211 = true

theorem Aside.refl (s : State) : Aside s s := ⟨rfl, rfl, id, fun _ _ h => ⟨h, rfl⟩, fun _ _ => rfl, id⟩

/-- A map that leaves the values at a key leaves one that is read there and is not the default. -/
theorem sget_smap_of_ne {α : Type} [DecidableEq α] (d : Nat → α) (m : List (Nat × α)) (k : Nat) (f : Nat → α → α) (hf : ∀ v, f k v = v)
    (h : sget d m k ≠ d k) : sget d (smap d f m) k = sget d m k := by
  induction m with
  | nil => rfl
  | cons e m ih =>
    by_cases he : e.1 = k
    · have hread : sget d (e :: m) k = e.2 := by simp [sget, he]
      rw [hread] at h ⊢
      simp [smap, sget, he, hf, h]
    · have hskip : ∀ (v : α) (l : List (Nat × α)), sget d ((e.1, v) :: l) k = sget d l k := fun v l => by simp [sget, he]
      have hread : sget d (e :: m) k = sget d m k := hskip e.2 m
      rw [hread] at h ⊢
      have hrest : smap d f (e :: m) = (if f e.1 e.2 ≠ d e.1 then [(e.1, f e.1 e.2)] else []) ++ smap d f m := by
        by_cases hd : f e.1 e.2 = d e.1 <;> simp [smap, hd]
      rw [hrest, ← ih h]
      split
      · exact hskip _ _
      · rfl

section
variable {s t u : State} (h : Aside s t)
include h

theorem Aside.trans (k : Aside t u) : Aside s u where
  cpm := k.cpm.trans h.cpm
  session := k.session.trans h.session
  stopped := fun hs => k.stopped (h.stopped hs)
  regs := fun o ho hs => by
    obtain ⟨ht, hst⟩ := h.regs o ho hs
    obtain ⟨hu, htu⟩ := k.regs o ho ht
    exact ⟨hu, htu.trans hst⟩
  counts := fun o ho => (k.counts o ho).trans (h.counts o ho)
  pending := fun hp => k.pending (h.pending hp)

/-- An update of what is not spoken of. -/
theorem Aside.upd (hc : u.cpm = t.cpm := by rfl) (hl : u.lcs.sessionEnd = t.lcs.sessionEnd := by rfl)
    (hp : u.power.cupUp = t.power.cupUp := by rfl) (hr : u.regs = t.regs := by rfl) (hn : u.cnt = t.cnt := by rfl) : Aside s u :=
  have hrd : ∀ o, u.rd o = t.rd o := fun o => by rw [State.rd, hr, State.rd]
  h.trans ⟨hc, hl, fun hs => hp.trans hs, fun o _ hs => ⟨fun e he => hrd o ▸ hs e (hr ▸ he), hrd o⟩,
    fun o _ => by rw [State.cntGet, hn, State.cntGet], fun hs => by rwa [State.isPending, State.on, State.get, hrd, ← State.get]⟩

theorem Aside.ite {p : Prop} [Decidable p] (k : Aside s u) : Aside s (if p then t else u) := by
  split
  · exact h
  · exact k

theorem Aside.foldl {α : Type} (f : State → α → State) (l : List α) (hf : ∀ x a, Aside x (f x a)) : Aside s (l.foldl f t) := by
  induction l generalizing t with
  | nil => exact h
  | cons a l ih => exact ih (h.trans (hf t a))

theorem Aside.eachJob (f : State → Job → State) (hf : ∀ x j, Aside x (f x j)) (is : List Nat) : Aside s (t.eachJob f is) := by
  induction is generalizing t with
  | nil => exact h
  | cons i is ih =>
    rw [State.eachJob]
    split
    · exact ih (h.trans (hf t _))
    · exact ih h

/-! ### Registers and counters -/

theorem Aside.wr (o : Nat) (v : Word) (ho : o ∉ R.EVC_PEND 6 :: asideRegs) : Aside s (t.wr o v) :=
  h.trans ⟨rfl, rfl, id, fun p hp hs => by
    have hne : p ≠ o := fun e => ho (e ▸ List.mem_cons_of_mem _ hp)
    exact ⟨hs.wr v hne, State.rd_wr_of_ne t o p v hne⟩, fun _ _ => rfl, fun hs => by
    have hne : (evcBit (R.EVC_PEND 0) 211).off ≠ o := fun e => ho (e ▸ List.mem_cons_self ..)
    rwa [State.isPending, State.on, State.get, State.rd_wr_of_ne t o _ v hne]⟩

theorem Aside.put (f : Fld) (x : Nat) (hf : f.off ∉ R.EVC_PEND 6 :: asideRegs) : Aside s (t.put f x) := h.wr _ _ hf

/-- A register of the mailbox, of Cupola or of a queue, which lie above EVC (R55). -/
theorem Aside.wrAbove (o : Nat) (v : Word) (ho : 0xe0000 ≤ o) : Aside s (t.wr o v) :=
  h.wr o v fun hm => Nat.not_lt.2 ho (aside_below o (List.mem_cons.2 ((List.mem_cons.1 hm).imp id (List.mem_append_left _))))

theorem Aside.putAbove (f : Fld) (x : Nat) (hf : 0xe0000 ≤ f.off) : Aside s (t.put f x) := h.wrAbove _ _ hf

/-- A reset that does not pick them. -/
theorem Aside.resetRegs (ks : List RstKind) (sel : Nat → Bool) (hsel : ∀ o ∈ R.EVC_PEND 6 :: (asideRegs ++ asideCnts), sel o = false) :
    Aside s (t.resetRegs ks sel) :=
  have hreg : ∀ o ∈ asideRegs, sel o = false := fun o ho => hsel o (List.mem_cons_of_mem _ (List.mem_append_left _ ho))
  have hcnt : ∀ o ∈ asideCnts, sel o = false := fun o ho => hsel o (List.mem_cons_of_mem _ (List.mem_append_right _ ho))
  have hpend : sel (R.EVC_PEND 6) = false := hsel _ (List.mem_cons_self ..)
  h.trans ⟨rfl, rfl, id, fun o ho hs => ⟨hs.resetRegs ks sel (hreg o ho), hs.rd_resetRegs ks sel (hreg o ho)⟩,
    fun o ho => t.cntGet_resetRegs_of_out ks sel o (hcnt o ho), fun hs => by
      have hne : t.rd (R.EVC_PEND 6) ≠ regReset (R.EVC_PEND 6) := fun e => by
        rw [State.isPending, State.on, State.get, show (evcBit (R.EVC_PEND 0) 211).off = R.EVC_PEND 6 from rfl, e] at hs
        exact absurd hs (by decide)
      have hrd : (t.resetRegs ks sel).rd (R.EVC_PEND 6) = t.rd (R.EVC_PEND 6) :=
        sget_smap_of_ne regReset t.regs _ (fun o v => if sel o then resetWord ks o v else v) (fun v => by simp [hpend]) hne
      rw [State.isPending, State.on, State.get, show (evcBit (R.EVC_PEND 0) 211).off = R.EVC_PEND 6 from rfl] at hs ⊢
      rwa [hrd]⟩

theorem Aside.resetInst (b : Blk) (n : Nat) (hb : b ≠ .cpm ∧ b ≠ .lcs ∧ b ≠ .evc) : Aside s (t.resetRegs blkKinds (inInst b n)) := by
  obtain ⟨hcpm, hlcs, hevc⟩ := hb
  refine h.resetRegs blkKinds (inInst b n) fun o ho => ?_
  have hl := locate_aside o ho
  unfold inInst
  rcases hx : locate o with - | ⟨b', n', k⟩
  · rfl
  · rw [hx] at hl
    simp only [Option.map_some, Option.some.injEq] at hl
    rcases hl with rfl | rfl | rfl <;> simp [hcpm.symm, hlcs.symm, hevc.symm]

theorem Aside.count (o n : Nat) (ho : o ∉ asideCnts) : Aside s (t.count o n) := by
  have hcnt : ∀ v, Aside s { t with cnt := sput (fun _ => 0) t.cnt o v } := fun v =>
    h.trans ⟨rfl, rfl, id, fun _ _ hs => ⟨hs, rfl⟩, fun p hp => sget_sput_of_ne _ _ _ _ _ (fun e => ho (e ▸ hp)), id⟩
  unfold State.count
  dsimp only
  split
  · exact hcnt _
  · split
    · next f hf =>
      refine (hcnt _).put f 1 fun hm => ?_
      have hsat := satReg_of_satOf o f hf
      rw [satReg_aside f.off hm] at hsat
      cases hsat
    · exact hcnt _

theorem Aside.inc (o : Nat) (ho : o ∉ asideCnts) : Aside s (t.inc o) := h.count o 1 ho

/-- A counter of a block above Belfry. -/
theorem Aside.incAbove (o : Nat) (ho : 0x50000 ≤ o) : Aside s (t.inc o) :=
  h.inc o fun hm => Nat.not_lt.2 ho (aside_low o (List.mem_append_right _ hm))

/-! ### Events (R528 to R531) -/

theorem Aside.msix (fn vec : Nat) : Aside s (t.msix fn vec) := by
  unfold State.msix
  split
  · exact h.upd.incAbove _ (by decide)
  · exact h.upd.incAbove _ (by decide)

theorem Aside.evcDeliver (n : Nat) : Aside s (t.evcDeliver n) := by
  have irqCup : ∀ (b : Bool) (x : State), Aside s x → Aside s (if b = true then x.irqCup n else x) := fun b x hx => Aside.ite hx.upd hx
  unfold State.evcDeliver
  split
  · exact h
  · refine irqCup _ _ ?_
    split
    · exact (h.msix _ _).ite h
    · exact h.upd
    · exact h.msix _ _
    · exact (h.msix _ _).ite h

/-- A pending bit is set. -/
theorem Aside.setPending (n : Nat) : Aside s (t.set (evcBit (R.EVC_PEND 0) n)) :=
  h.trans ⟨rfl, rfl, id, fun p hp hs => by
    have hlow := aside_low p (List.mem_append_left _ hp)
    have hne : p ≠ (evcBit (R.EVC_PEND 0) n).off := by
      simp only [evcBit, R.EVC_PEND]
      omega
    exact ⟨hs.wr _ hne, State.rd_wr_of_ne t _ p _ hne⟩, fun _ _ => rfl, fun hs => by rw [isPending_set, hs, Bool.true_or]⟩

theorem Aside.raise (n : Nat) : Aside s (t.raise n) := by
  unfold State.raise countIntn
  have hpend := (h.setPending n).evcDeliver n
  exact h.ite ((hpend.incAbove _ (by decide)).ite hpend)

theorem Aside.level (n : Nat) (b : Bool) : Aside s (t.level n b) := by
  unfold State.level
  have hraw : ∀ l, Aside s { t with evc := { t.evc with raw := l } } := fun l => h.upd
  exact (h.ite ((hraw _).raise n)).ite (hraw _)

end

end Sys2Proof.Machine
end

section
/-! PROOF. The queues, the jobs and the resets leave CPM, the debug session, the clock status and a pending event alone (R65, R66,
R99, R419, R506, R574). -/

namespace Sys2Proof.Machine

theorem queueReg_top (q k : Nat) : 0xe0000 ≤ 0x100000 + q * 0x100 + k := by omega

theorem aeaBase_above (e : Nat) : 0xa0000 ≤ aeaBase e := by
  unfold aeaBase
  split
  · omega
  · split <;> omega

section
variable {s t u : State} (h : Aside s t)
include h

/-! ### Slots and memory -/

theorem Aside.putSlot (i : Nat) (x : Slot) : Aside s (t.putSlot i x) := h.upd

theorem Aside.emptySlot (i : Nat) : Aside s (t.emptySlot i) := h.upd

theorem Aside.releaseTargets (is : List Nat) : Aside s (t.releaseTargets is) := by
  induction is generalizing t with
  | nil => exact h
  | cons i is ih => exact ih ((h.emptySlot i).ite h)

theorem Aside.setBuilding (i : Nat) (b : Bool) : Aside s (t.setBuilding i b) := by
  unfold State.setBuilding
  dsimp only
  split
  · exact h.putSlot i _
  · exact h

theorem Aside.dmaStore (owner a : Nat) (bs : List Byte) : Aside s (t.dmaStore owner a bs) := by
  unfold State.dmaStore
  split
  · exact h.upd
  · exact h.upd

theorem Aside.dmaWrite (owner a : Nat) (bs : List Byte) (hw : t.dmaWrite owner a bs = some u) : Aside s u := by
  unfold State.dmaWrite at hw
  obtain ⟨-, hstore⟩ := Option.ite_none_left_eq_some.1 hw
  obtain rfl := Option.some.inj hstore
  exact h.dmaStore owner a bs

/-! ### Queues (R73 to R107) -/

theorem Aside.qput (q : Nat) (x : QueueSt) : Aside s (t.qput q x) := h.upd

theorem Aside.setJobs (js : List Job) : Aside s (t.setJobs js) := h.upd

theorem Aside.syncGroup (g : Nat) : Aside s (t.syncGroup g) := (h.level _ _).level _ _

theorem Aside.syncQ (q : Nat) : Aside s (t.syncQ q) := h.syncGroup _

theorem Aside.qError (q n : Nat) : Aside s (t.qError q ⟨R.Q_ERR q, n, 1⟩) := by
  have hcause : Aside s ((t.set ⟨R.Q_ERR q, n, 1⟩).set (F.Q_STAT_ERR_PEND q)) :=
    (h.putAbove _ 1 (queueReg_top q _)).putAbove _ 1 (queueReg_top q _)
  exact Aside.syncQ (Aside.ite ((hcause.putAbove _ 1 (queueReg_top q _)).qput q _) hcause) q

theorem Aside.wantFetch (q : Nat) (k : FetchKind) (a : Nat) : Aside s (t.wantFetch q k a) := by
  unfold State.wantFetch
  exact Aside.ite (((h.qput q _).wrAbove _ _ (queueReg_top q _)).wrAbove _ _ (queueReg_top q _)) (h.qput q _)

theorem Aside.park (q : Nat) : Aside s (t.park q) := by
  have hparked := h.qput q { t.qst q with parked := true, fetch := none }
  have hset : ∀ x i, Aside s x → Aside s (x.set ⟨R.Q_STAT q, i, 1⟩) := fun x i hx => hx.putAbove _ 1 (queueReg_top q _)
  unfold State.park
  exact ((hparked.putAbove _ 0 (queueReg_top q _)).wantFetch q _ _).ite
    (hparked.ite ((hset _ _ (hset _ _ hparked)).syncQ q))

theorem Aside.proceed (q : Nat) (d : List Byte) : Aside s (t.proceed q d) := by
  unfold State.proceed State.followNext
  exact h.ite ((h.park q).ite ((h.qError q _).ite (h.wantFetch q _ _)))

/-- A counter of a queue. -/
theorem Aside.incQueue (q k : Nat) : Aside s (t.inc (0x100000 + q * 0x100 + k)) := h.incAbove _ (by omega)

theorem Aside.ringWrite (q : Nat) (r : Record) : Aside s (t.ringWrite q r) := by
  unfold State.ringWrite
  dsimp only
  split
  · exact ((h.qError q _).incQueue q _).setJobs _
  · next x hx =>
    let tail := (t.get (F.CQ_TAIL_INDEX q) + 1) % x.cqSize q
    have htail := Aside.putAbove (h.dmaWrite _ _ _ hx) (F.CQ_TAIL_INDEX q) tail (queueReg_top q _)
    have hwrapped := htail.putAbove (F.CQ_TAIL_TAIL_PHASE q) (1 - t.get (F.CQ_TAIL_TAIL_PHASE q)) (queueReg_top q _)
    have hphase := hwrapped.ite (p := tail = 0) htail
    have hdone := hphase.incQueue q 0x48
    have hbad := (hdone.incQueue q 0x50).ite (p := 0x10 ≤ r.result.status) hdone
    exact Aside.ite (Aside.syncQ (hbad.putAbove _ 1 (queueReg_top q _)) q) hbad

theorem Aside.deliverRecord (q : Nat) (k : Hold) (r : Record) : Aside s (t.deliverRecord q k r) := by
  unfold State.deliverRecord
  have hheld : ∀ x, Aside s (t.qput q x) := fun x => h.qput q x
  exact (h.ringWrite q r).ite ((Aside.syncQ
    (((hheld _).putAbove _ 1 (queueReg_top q _)).putAbove _ 1 (queueReg_top q _)) q).ite (hheld _))

theorem Aside.completeHand (q : Nat) (r : JobResult) : Aside s (t.completeHand q r) := by
  unfold State.completeHand
  split
  · exact h
  · split
    · exact h.qput q _
    · have hfreed : ∀ is x, Aside s (((t.releaseTargets is).qput q x).clr (F.Q_STAT_FENCE_WAIT q)) := fun is x =>
        ((h.releaseTargets is).qput q x).putAbove _ 0 (queueReg_top q _)
      exact ((hfreed _ _).deliverRecord q _ _).proceed q _

theorem Aside.settleHands : Aside s t.settleHands := h.foldl _ _ fun x _ => (Aside.refl x).completeHand _ _

/-! ### Engines and the end of a job (R99, R108, R115 to R119, R131) -/

theorem Aside.giveEngine (j : Job) : Aside s (t.giveEngine j) := (h.setJobs _).ite (h.setJobs _)

theorem Aside.schedule (e : Nat) : Aside s (t.schedule e) := by
  unfold State.schedule
  split
  · exact h
  · split
    · exact h
    · split
      · exact h.giveEngine _
      · exact h

theorem Aside.grantPool (p : Res) : Aside s (t.grantPool p) := by
  unfold State.grantPool
  split
  · exact h
  · split
    · exact h.giveEngine _
    · exact h

theorem Aside.refill (p : Res) (e e2 : Nat) : Aside s (t.refill p e e2) := by
  have hengines := (h.schedule e).ite (p := e2 = e) ((h.schedule e).schedule e2)
  cases p
  case keccak | sha2 | keep => exact h.grantPool _
  case dke => exact Aside.ite h.upd h
  case arbiter => exact h
  all_goals exact hengines

theorem Aside.countEnd (e status : Nat) : Aside s (t.countEnd e status) := by
  have hops : Aside s (t.inc (R.AEA_OPS e)) := h.incAbove _ (by
    have hbase := aeaBase_above e
    simp only [R.AEA_OPS]
    omega)
  have hfault : Aside s (t.inc (R.AEA_FAULT e)) := h.incAbove _ (by
    have hbase := aeaBase_above e
    simp only [R.AEA_FAULT]
    omega)
  exact h.ite (hops.ite (hfault.ite h))

theorem Aside.finishJob (j : Job) (r : JobResult) : Aside s (t.finishJob j r) := by
  unfold State.finishJob
  have hdone : ∀ x, Aside s (t.putJob x) := fun x => h.setJobs _
  have hended : ∀ x, Aside s ((if 0x10 ≤ r.status then (t.putJob x).releaseTargets j.targets else t.putJob x).countEnd
      j.engine r.status) := fun x => Aside.countEnd (((hdone x).releaseTargets _).ite (hdone x)) _ _
  refine Aside.refill ?_ _ _ _
  split
  · exact hended _
  · exact ((hended _).setJobs _).setBuilding _ false

theorem Aside.loseJob (j : Job) : Aside s (t.loseJob j) := Aside.setJobs (h.ite (h.finishJob j _)) _

/-! ### Resets (R65, R66, R419, R574) -/

theorem Aside.resetQueues (g : Nat → Bool) (keepErr : Bool) : Aside s (t.resetQueues g keepErr) := by
  have hrelease : ∀ (x : State) q, Aside x (match (x.qst q).hand with
      | some y => x.releaseTargets y.targets
      | none => x) := fun x q => by
    split
    · exact (Aside.refl x).releaseTargets _
    · exact .refl x
  have hsel : ∀ o ∈ R.EVC_PEND 6 :: (asideRegs ++ asideCnts), (match locate o with
      | some (.q, n, _) => g (groupOf n)
      | _ => false) = false := fun o ho => by
    have hl := locate_aside o ho
    rcases hx : locate o with - | ⟨b, n, k⟩
    · rfl
    · rw [hx] at hl
      simp only [Option.map_some, Option.some.injEq] at hl
      rcases hl with rfl | rfl | rfl <;> rfl
  have hlost := (h.foldl _ (t.queuesIn g) hrelease).eachJob State.loseJob fun x j => (Aside.refl x).loseJob j
  unfold State.resetQueues
  refine Aside.foldl (Aside.settleHands ?_) _ _ fun x n => (Aside.refl x).syncGroup n
  have hcount : ∀ x, Aside s x → Aside s (if keepErr then
      ((t.queuesIn g).map fun q => (q, t.lostRecords q)).foldl (fun s e => s.count (R.Q_JOBS_ERR e.1) e.2) x else x) := fun x hx =>
    (hx.foldl _ _ fun y e => (Aside.refl y).count _ _ fun hm => by
      have hlow := aside_low _ (List.mem_append_right _ hm)
      simp only [R.Q_JOBS_ERR] at hlow
      omega).ite hx
  exact hcount _ (Aside.resetRegs (hlost _).upd _ _ hsel)

theorem Aside.disconnect (n : Nat) : Aside s (t.disconnect n) := h.upd.inc _ (by decide)

theorem Aside.endUpdate (b : Bool) : Aside s (t.endUpdate b) := by
  have herase : ∀ target n, Aside s (t.eraseCopies target n) := fun target n => h.foldl _ _ fun x _ => (Aside.refl x).upd
  have hput : ∀ x lo w v, Aside s x → Aside s (x.put ⟨R.CUP_UPD_STAT, lo, w⟩ v) := fun x lo w v hx =>
    hx.putAbove _ v (show 0xe0000 ≤ R.CUP_UPD_STAT by decide)
  unfold State.endUpdate
  split
  · exact h
  · next u _ =>
    have herased := h.ite (p := u.stage.isSome = true) (herase u.target sectorSize)
    refine (fun hk => Aside.ite (hput _ _ _ _ hk) hk) ?_
    exact hput _ _ _ _ (hput _ _ _ _ (hput _ _ _ _ herased.upd))

theorem Aside.dkeRelease (c : Nat) : Aside s (t.dkeRelease c) := by
  have hflushed : Aside s (t.sfiFlush c) := h.upd.count _ _ fun hm => by
    have hlow := aside_low _ (List.mem_append_right _ hm)
    simp only [R.SFI_CNT] at hlow
    omega
  exact Aside.resetInst hflushed.upd .dkeCh c (by decide)

theorem Aside.dkeHolderReset (n : Nat) : Aside s (t.dkeHolderReset n) := by
  refine h.foldl _ _ fun x c => ?_
  have htake : ∀ y, Aside x (if (x.dkeCh c).takePend = n then x.putDke c y else x) := fun y =>
    Aside.ite (Aside.refl x).upd (.refl x)
  exact ((htake _).dkeRelease c).ite (htake _)

theorem Aside.resetMsix : Aside s t.resetMsix := h.upd

theorem Aside.resetHost : Aside s t.resetHost := by
  have hend : ∀ x, Aside s x → Aside s (if (x.cup.upd.map (·.holder)) = some 1 then x.endUpdate true else x) := fun x hx =>
    (hx.endUpdate true).ite hx
  have hlost := ((h.resetQueues (fun g => decide (g < 31)) false).dkeHolderReset 1).resetMsix
  unfold State.resetHost
  exact hend _ hlost

theorem Aside.linkDown : Aside s t.linkDown := h.upd

theorem Aside.clearSvc : Aside s t.clearSvc := h.upd

theorem Aside.svcStops : Aside s { t with power := { t.power with svcUp := false } } := h.upd

theorem Aside.resetSvc : Aside s t.resetSvc := ((h.resetQueues (fun g => g == 31) true).dkeHolderReset 2).clearSvc.svcStops

theorem Aside.holdSvc : Aside s (t.put ⟨R.PWR_BLKRST, 12, 1⟩ 1) := h.put _ 1 (show R.PWR_BLKRST ∉ R.EVC_PEND 6 :: asideRegs by decide)

theorem Aside.blockResetSvc : Aside s (t.blockReset 12) := h.ite (h.holdSvc.resetSvc.disconnect (liveSide 12))

theorem Aside.mbxRestart (n : Nat) : Aside s (t.mbxRestart n) := by
  have hrsp : ∀ x i v, Aside s x → Aside s (x.wr (R.MBX_RSP n i) v) := fun x i v hx => hx.wrAbove _ v (by
    simp only [R.MBX_RSP]
    omega)
  have hstat : ∀ x i v, Aside s x → Aside s (x.put ⟨R.MBX_STAT n, i, 1⟩ v) := fun x i v hx => hx.putAbove _ v (by
    simp only [R.MBX_STAT]
    omega)
  unfold State.mbxRestart
  refine Aside.ite (hstat _ _ _ (hstat _ _ _ (hstat _ _ _ (Aside.incAbove ?_ _ (by decide))))) h
  exact hrsp _ 3 _ (hrsp _ 2 _ (hrsp _ 1 _ (hrsp _ 0 _ h)))

theorem Aside.smbRestart : Aside s t.smbRestart := Aside.ite h.upd h

theorem Aside.cupolaStops (e : EvcSt) (c : CupSt) : Aside s { t with
    power := { t.power with cupUp := false }
    lcs := { t.lcs with cupHalted := false }
    evc := e
    cup := c } :=
  h.trans ⟨rfl, rfl, fun _ => rfl, fun _ _ hs => ⟨hs, rfl⟩, fun _ _ => rfl, id⟩

theorem Aside.resetCupola : Aside s t.resetCupola :=
  ((((h.dkeHolderReset 3).mbxRestart 0).mbxRestart 1).smbRestart.endUpdate true).cupolaStops _ _

theorem Aside.undebug (w : Nat) : Aside s (t.undebug w) := by
  have hcup := h.resetCupola.ite (p := bit w 1 = true) h
  exact hcup.blockResetSvc.ite hcup

end

end Sys2Proof.Machine
end

section
/-! PROOF. O51, first part: the challenge, and the end of a session (R501, R506). -/

namespace Sys2Proof.Machine

/-! ### Words and bytes -/

/-- The little-endian words of a record are its bytes. -/
theorem flatMap_slice (c : List Byte) (n : Nat) : (List.range n).flatMap (fun i => slice c (4 * i) 4) = c.take (4 * n) := by
  induction n with
  | zero => simp
  | succ n ih =>
    rw [List.range_succ, List.flatMap_append, ih, List.flatMap_singleton, slice, Nat.mul_succ, List.take_add]

theorem fit_slice (c : List Byte) (o n : Nat) (h : o + n ≤ c.length) : fit n (slice c o n) = slice c o n := by
  have hlen : (slice c o n).length = n := by
    rw [slice, List.length_take, List.length_drop]
    omega
  rw [fit, List.take_left' hlen]

theorem natLE_leAt (c : List Byte) (o n : Nat) (h : o + n ≤ c.length) : natLE n (leAt c o n) = slice c o n := by
  rw [leAt, natLE_leNat, fit_slice c o n h]

/-- The word of a register that holds four bytes. -/
theorem toNat_leAt (c : List Byte) (o : Nat) : (BitVec.ofNat 32 (leAt c o 4)).toNat = leAt c o 4 := by
  rw [BitVec.toNat_ofNat]
  exact Nat.mod_eq_of_lt (leAt_lt c o 4)

section
variable (s : State)

/-! ### The challenge (R501) -/

/-- The challenge that the eight words show. -/
theorem State.challenge_wrWords (vs : List Word) (h : vs.length = 8) : (s.wrWords (R.LCS_CHAL 0) vs).challenge =
    (List.range 8).flatMap (fun i => natLE 4 (vs.getD i 0).toNat) := by
  unfold State.challenge
  refine List.flatMap_congr fun i hi => ?_
  rw [show R.LCS_CHAL i = R.LCS_CHAL 0 + i * 4 from rfl, s.rd_wrWords_at _ _ _ (by rw [h]; exact List.mem_range.1 hi)]

/-- The challenge that a state shows rests on its eight words. -/
theorem State.challenge_congr {s t : State} (h : ∀ i < 8, t.rd (R.LCS_CHAL i) = s.rd (R.LCS_CHAL i)) : t.challenge = s.challenge :=
  List.flatMap_congr fun i hi => by rw [h i (List.mem_range.1 hi)]

theorem State.dropChallenge_eq : s.dropChallenge = (s.clr F.LCS_STAT_CHAL_VALID).wrWords (R.LCS_CHAL 0) (List.replicate 8 0) := rfl

/-- The registers of the challenge. -/
def chalRegs : List Nat := (List.range 8).map R.LCS_CHAL

theorem rd_wrWords_of_ne (o p : Nat) (vs : List Word) (h : ∀ i < vs.length, p ≠ o + i * 4) : (s.wrWords o vs).rd p = s.rd p := by
  induction vs generalizing s o with
  | nil => rfl
  | cons v vs ih =>
    have hrest : ∀ i < vs.length, p ≠ o + 4 + i * 4 := fun i hi e => h (i + 1) (by simpa using hi) (by omega)
    rw [State.wrWords, ih _ _ hrest, State.rd_wr_of_ne _ _ _ _ (by simpa using h 0 (by simp))]

theorem rd_wrChal (vs : List Word) (h : vs.length = 8) (o : Nat) (ho : o ∉ chalRegs) : (s.wrWords (R.LCS_CHAL 0) vs).rd o = s.rd o :=
  rd_wrWords_of_ne s _ o vs fun i hi e => ho (List.mem_map.2 ⟨i, List.mem_range.2 (h ▸ hi), e.symm⟩)

/-- A challenge lapses. -/
theorem State.dropChallenge_lapses : s.dropChallenge.on F.LCS_STAT_CHAL_VALID = false ∧ s.dropChallenge.challenge = zeros 32 ∧
    OnlyRegs s s.dropChallenge ∧ SameRegsBut (R.LCS_STAT :: chalRegs) s s.dropChallenge := by
  have hrd := fun o ho => rd_wrChal (s.clr F.LCS_STAT_CHAL_VALID) (List.replicate 8 0) rfl o ho
  rw [s.dropChallenge_eq]
  refine ⟨?_, ?_, ?_, fun o ho => ?_⟩
  · rw [State.on, State.get, hrd _ (by decide), ← State.get, ← State.on]
    exact State.on_clr_self _ _ (by decide)
  · rw [State.challenge_wrWords _ _ rfl]
    rfl
  · exact State.wrWords_frame _ _ _
  · rw [hrd o fun hm => ho (List.mem_cons_of_mem _ hm)]
    exact State.rd_put_of_ne _ _ _ _ fun e => ho (e ▸ List.mem_cons_self ..)

/-- The words of a challenge. -/
def chalWords (c : List Byte) : List Word := (List.range 8).map (fun i => BitVec.ofNat 32 (leAt c (4 * i) 4))

/-- A new challenge shows the seed that is drawn for it. -/
theorem State.challenge_drawn (c : List Byte) (h : c.length = 32) : (s.wrWords (R.LCS_CHAL 0) (chalWords c)).challenge = c := by
  rw [State.challenge_wrWords _ _ (by simp [chalWords])]
  have hword : ∀ i ∈ List.range 8, natLE 4 ((chalWords c).getD i 0).toNat = slice c (4 * i) 4 := fun i hi => by
    have hlt := List.mem_range.1 hi
    rw [chalWords, List.getD_eq_getElem?_getD, List.getElem?_map, List.getElem?_range hlt, Option.map_some, Option.getD_some, toNat_leAt,
      natLE_leAt _ _ _ (by omega)]
  rw [List.flatMap_congr hword, flatMap_slice, List.take_of_length_le (by omega)]

theorem drawn_words (c : List Byte) : (List.range 8).foldl (fun s i => s.wr (R.LCS_CHAL i) (BitVec.ofNat 32 (leAt c (4 * i) 4))) s =
    s.wrWords (R.LCS_CHAL 0) (chalWords c) := rfl

theorem wrWords_withRng (r : RngSt) (o : Nat) (vs : List Word) : ({ s with rng := r } : State).wrWords o vs = { s.wrWords o vs with rng := r } := by
  induction vs generalizing s o with
  | nil => rfl
  | cons v vs ih => exact ih (s.wr o v) (o + 4)

section
variable (x : List Byte) (l : List (List Byte)) (hrun : s.rngState = rngRunning) (hseed : s.rng.reservoir = x :: l)
include hrun hseed

theorem State.chalReq_eq : ∃ u, u = s.dropChallenge.wrWords (R.LCS_CHAL 0) (chalWords (fit 32 x)) ∧
    s.chalReq = ({ u with
      rng := { s.rng with reservoir := l }
      lcs := { s.lcs with chalAt := s.time } } : State).set F.LCS_STAT_CHAL_VALID := by
  refine ⟨_, rfl, ?_⟩
  obtain ⟨d, hd⟩ : ∃ d, d = s.dropChallenge := ⟨_, rfl⟩
  obtain ⟨-, -, hframe, hregs⟩ := s.dropChallenge_lapses
  rw [← hd] at hframe hregs
  have hdrun : d.rngState = rngRunning := by
    rw [← hrun]
    exact congrArg (fieldGet F.RNG_STAT_STATE.lo F.RNG_STAT_STATE.width) (hregs _ (by decide))
  have hdrng : d.rng = s.rng := (congrArg State.rng hframe :)
  have hdlcs : d.lcs = s.lcs := (congrArg State.lcs hframe :)
  have htime : d.time = s.time := (congrArg State.time hframe :)
  have hdseed : d.takeSeed = (fit 32 x, { d with rng := { d.rng with reservoir := l } }) := by
    unfold State.takeSeed
    rw [hdrng, hseed]
  unfold State.chalReq
  dsimp only
  rw [← hd, if_neg (not_not_intro hdrun), hdseed, drawn_words, wrWords_withRng]
  obtain ⟨u, hu⟩ : ∃ u, u = d.wrWords (R.LCS_CHAL 0) (chalWords (fit 32 x)) := ⟨_, rfl⟩
  have hframe := d.wrWords_frame (R.LCS_CHAL 0) (chalWords (fit 32 x))
  rw [← hu] at hframe ⊢
  have hulcs : u.lcs = s.lcs := (congrArg State.lcs hframe :).trans hdlcs
  have hutime : u.time = s.time := (congrArg State.time hframe :).trans htime
  rw [hulcs, hutime, hdrng]

/-- With RNG RUNNING a challenge is drawn. -/
theorem State.chalReq_draws : s.chalReq.challenge = fit 32 x ∧ s.chalReq.on F.LCS_STAT_CHAL_VALID = true ∧
    s.chalReq.lcs = { s.lcs with chalAt := s.time } ∧ s.chalReq.rng = { s.rng with reservoir := l } ∧
    SameRegsBut (R.LCS_STAT :: chalRegs) s s.chalReq ∧ SameMemory s s.chalReq := by
  obtain ⟨u, hu, heq⟩ := s.chalReq_eq x l hrun hseed
  obtain ⟨-, -, hdrop, hregs⟩ := s.dropChallenge_lapses
  have hchal : u.challenge = fit 32 x := by
    rw [hu]
    exact State.challenge_drawn _ _ (by simp [fit, zeros])
  have hframe : u = { s with regs := u.regs } := by
    have hw := s.dropChallenge.wrWords_frame (R.LCS_CHAL 0) (chalWords (fit 32 x))
    rw [← hu] at hw
    exact hw.trans (congrArg (fun y : State => { y with regs := u.regs }) hdrop :)
  have hurd : ∀ o, o ∉ R.LCS_STAT :: chalRegs → u.rd o = s.rd o := fun o ho => by
    rw [hu, rd_wrChal _ _ (by simp [chalWords]) o fun hm => ho (List.mem_cons_of_mem _ hm), hregs o ho]
  rw [heq]
  refine ⟨?_, State.on_set_self _ _ (by decide) rfl, rfl, rfl, fun o ho => ?_, ?_⟩
  · rw [← hchal]
    refine State.challenge_congr fun i hi => State.rd_put_of_ne _ _ _ _ ?_
    simp only [R.LCS_CHAL, R.LCS_STAT]
    omega
  · exact (State.rd_put_of_ne _ F.LCS_STAT_CHAL_VALID _ _ fun e => ho (List.mem_cons.2 (.inl e))).trans (hurd o ho)
  · exact .of_eq (congrArg State.hostMem hframe :) (congrArg State.svcMem hframe :) (congrArg State.cupMem hframe :)
      (congrArg (fun y : State => y.cup.flash) hframe :) (congrArg State.otp hframe :)

end

/-- Without RNG none is drawn. -/
theorem State.chalReq_refused (hrun : s.rngState ≠ rngRunning) : s.chalReq.on F.LCS_STAT_CHAL_REJECT = true ∧
    s.chalReq.on F.LCS_STAT_CHAL_VALID = false ∧ SameRegsBut (R.LCS_STAT :: chalRegs) s s.chalReq ∧ OnlyRegs s s.chalReq := by
  obtain ⟨hvalid, -, hframe, hregs⟩ := s.dropChallenge_lapses
  have hdrun : s.dropChallenge.rngState ≠ rngRunning := fun e => hrun (by
    rw [← e]
    exact (congrArg (fieldGet F.RNG_STAT_STATE.lo F.RNG_STAT_STATE.width) (hregs _ (by decide))).symm)
  have heq : s.chalReq = s.dropChallenge.set F.LCS_STAT_CHAL_REJECT := by
    unfold State.chalReq
    dsimp only
    rw [if_pos hdrun]
  rw [heq]
  refine ⟨State.on_set_self _ _ (by decide) rfl, (State.on_put_apart _ _ _ _ (.inr (.inr (by decide)))).trans hvalid, fun o ho => ?_, ?_⟩
  · exact (State.rd_put_of_ne _ F.LCS_STAT_CHAL_REJECT _ _ fun e => ho (List.mem_cons.2 (.inl e))).trans (hregs o ho)
  · exact (congrArg (fun y : State => { y with regs := (s.dropChallenge.set F.LCS_STAT_CHAL_REJECT).regs }) hframe :)

theorem challengeExpiry_lapses (hvalid : s.on F.LCS_STAT_CHAL_VALID = true) (hdue : s.lcs.chalAt + 600000000000 ≤ s.time) :
    exec .challengeExpiry s = .next s.dropChallenge := by
  refine congrArg Host.Outcome.next (if_pos ?_)
  rw [hvalid, decide_eq_true hdue]
  rfl

/-! ### The end of a session (R506) -/

/-- The session ends: no scope is granted, event 211 is pending, and Cupola stops where it was debugged. -/
theorem State.endSession_ends (hsession : s.on F.LCS_DBG_STAT_SESSION = true) (hblank : s.on F.LCS_DBG_STAT_BLANK_OPEN = false) :
    s.endSession.rd R.LCS_DBG_STAT = 0 ∧ s.endSession.isPending 211 = true ∧
      (bit (s.get F.LCS_DBG_STAT_SCOPES) 1 = true → s.endSession.power.cupUp = false) := by
  obtain ⟨u, hu⟩ : ∃ u, u = (s.wr R.LCS_DBG_STAT 0).wr R.LCS_DBG_REMAIN 0 := ⟨_, rfl⟩
  have hsettled : u.settled R.LCS_DBG_STAT := by
    rw [hu]
    exact (s.settled_wr_self _ _).wr _ (by decide)
  have hrd : u.rd R.LCS_DBG_STAT = 0 := by
    rw [hu, State.rd_wr_of_ne _ _ _ _ (by decide)]
    exact s.rd_wr_self _ _
  have heq : s.endSession = (u.raise 211).undebug (s.get F.LCS_DBG_STAT_SCOPES) := by
    unfold State.endSession
    rw [hsession, hblank, hu]
    rfl
  have hmem : R.LCS_DBG_STAT ∈ asideRegs := by decide
  have hraised := (Aside.refl u).raise 211
  have hpend : (u.raise 211).isPending 211 = true := by rw [isPending_raise_iff u 211 211 (by decide), beq_self_eq_true, Bool.or_true]
  have hdone := (Aside.refl (u.raise 211)).undebug (s.get F.LCS_DBG_STAT_SCOPES)
  rw [heq]
  refine ⟨?_, hdone.pending hpend, fun hbit => ?_⟩
  · rw [((hraised.trans hdone).regs _ hmem hsettled).2, hrd]
  · unfold State.undebug
    rw [if_pos hbit]
    have hstop : (u.raise 211).resetCupola.power.cupUp = false := rfl
    exact ((Aside.refl _).blockResetSvc.ite (Aside.refl _)).stopped hstop

end

end Sys2Proof.Machine
end

section
/-! PROOF. O51: tokens, the owner digest and the TAP (R499 to R505). -/

namespace Sys2Proof.Machine

section
variable (s : State)

/-! ### Commands of LCS_CTL (R510) -/

theorem State.lcsCtlWrite_chalReq : s.lcsCtlWrite .cupola (0 ||| 2) = s.chalReq := rfl

theorem State.lcsCtlWrite_tokStart : s.lcsCtlWrite .cupola (0 ||| 4) = s.tokenFromSram := rfl

theorem State.lcsCtlWrite_ownerPgm : s.lcsCtlWrite .cupola (0 ||| 16) = s.ownerPgm := rfl

/-- The host PF may write END_DEBUG alone. -/
theorem State.lcsCtlWrite_endDebug (r : Req) : s.lcsCtlWrite r (0 ||| 8) = s.endSession := by
  unfold State.lcsCtlWrite
  exact if_neg fun h => h.2 rfl

/-! ### Tokens (R502 to R505) -/

theorem State.tokenFromSram_takes (hidle : s.on F.LCS_TOK_RES_BUSY = false) (hlen : (s.rd R.LCS_TOK_LEN).toNat = 7540) :
    s.tokenFromSram = ({ s with lcs := { s.lcs with
      token := some (memRead s.cupMem (s.rd R.LCS_TOK_ADDR).toNat 7540) } } : State).set F.LCS_TOK_RES_BUSY := by
  unfold State.tokenFromSram State.tokenStart
  rw [hlen, hidle]
  rfl

section
variable (tok : List Byte) (htok : s.lcs.token = some tok)

/-- The state in which the outcome of a check is shown: the token is gone and the challenge has lapsed. -/
def State.tokenShown (s : State) (code : Nat) : State :=
  ({ s with lcs := { s.lcs with token := none } } : State).dropChallenge.wr R.LCS_TOK_RES (BitVec.ofNat 32 code)

theorem State.settled.wrWords {s : State} {p : Nat} (h : s.settled p) (o : Nat) (vs : List Word) (hp : ∀ i < vs.length, p ≠ o + i * 4) :
    (s.wrWords o vs).settled p := by
  induction vs generalizing s o with
  | nil => exact h
  | cons v vs ih =>
    exact ih (h.wr v (by simpa using hp 0 (by simp))) _ fun i hi e => hp (i + 1) (by simpa using hi) (by omega)

theorem State.settled.count {s : State} {p : Nat} (h : s.settled p) (o n : Nat) (hp : satReg p = false) : (s.count o n).settled p := by
  have hcnt : ∀ m, ({ s with cnt := m } : State).settled p := fun m => h
  unfold State.count
  dsimp only
  split
  · exact hcnt _
  · split
    · next f hf =>
      refine (hcnt _).wr _ fun e => ?_
      rw [e, satReg_of_satOf o f hf] at hp
      cases hp
    · exact hcnt _

theorem State.tokenShown_settled (code : Nat) : (s.tokenShown code).settled R.LCS_STAT ∧ (s.tokenShown code).settled R.LCS_TOK_RES := by
  unfold State.tokenShown
  refine ⟨State.settled.wr _ ?_ (by decide), State.settled_wr_self _ _ _⟩
  rw [State.dropChallenge_eq]
  exact (State.settled_put_self _ F.LCS_STAT_CHAL_VALID 0).wrWords _ _ (by decide)

theorem State.tokenShown_shows (code : Nat) : (s.tokenShown code).rd R.LCS_TOK_RES = BitVec.ofNat 32 code ∧
    (s.tokenShown code).on F.LCS_STAT_CHAL_VALID = false ∧ (∀ o, o ≠ R.LCS_TOK_RES → o ∉ R.LCS_STAT :: chalRegs → (s.tokenShown code).rd o = s.rd o) ∧
    s.tokenShown code = { s with
      regs := (s.tokenShown code).regs
      lcs := { s.lcs with token := none } } := by
  obtain ⟨hvalid, -, hframe, hregs⟩ := State.dropChallenge_lapses { s with lcs := { s.lcs with token := none } }
  unfold State.tokenShown
  refine ⟨State.rd_wr_self _ _ _, ?_, fun o hne ho => (State.rd_wr_of_ne _ _ _ _ hne).trans (hregs o ho), ?_⟩
  · rw [State.on, State.get, State.rd_wr_of_ne _ _ _ _ (by decide), ← State.get, ← State.on]
    exact hvalid
  · generalize State.dropChallenge _ = d at hframe
    rw [hframe]
    rfl

include htok

theorem State.tokenDone_fails (hcode : s.tokenCode tok ≠ 0) : s.tokenDone = ((s.tokenShown (s.tokenCode tok)).inc (R.LCS_CNT 3)).raise 212 := by
  unfold State.tokenDone
  rw [htok]
  exact if_pos hcode

theorem State.tokenDone_opens (hcode : s.tokenCode tok = 0) (hscope : leAt tok 28 4 &&& 0x0E = 0) :
    s.tokenDone = ((s.tokenShown 0).inc (R.LCS_CNT 2)).openSession ⟨byteAt tok 25, leAt tok 28 4, leAt tok 32 4⟩ := by
  unfold State.tokenDone
  rw [htok]
  dsimp only
  rw [hcode, if_neg (not_not_intro rfl), if_neg fun h => h.2 hscope]
  rfl

end

/-- The word of LCS_DBG_STAT that shows a session. -/
theorem sessionWord_fields (a m : Nat) : fieldGet 0 1 (BitVec.ofNat 32 (1 + a % 2 * 2 + m % 256 * 256)) = 1 ∧
    fieldGet 8 8 (BitVec.ofNat 32 (1 + a % 2 * 2 + m % 256 * 256)) = m % 256 := by
  have hword : (BitVec.ofNat 32 (1 + a % 2 * 2 + m % 256 * 256)).toNat = 1 + a % 2 * 2 + m % 256 * 256 := by
    rw [BitVec.toNat_ofNat]
    omega
  simp only [fieldGet, bits, hword, Nat.shiftRight_eq_div_pow]
  omega

/-- A session that opens (R504, R505). -/
theorem State.openSession_opens (g : Grant) : (s.openSession g).on F.LCS_DBG_STAT_SESSION = true ∧
    (s.openSession g).get F.LCS_DBG_STAT_SCOPES = g.scopes % 256 ∧
    (s.openSession g).lcs.sessionEnd = s.time + g.seconds * 1000000000 ∧
    (∀ o ∈ asideRegs, o ≠ R.LCS_DBG_STAT → s.settled o → (s.openSession g).rd o = s.rd o) ∧
    (s.openSession g).cntGet (R.LCS_CNT 2) = s.cntGet (R.LCS_CNT 2) := by
  obtain ⟨w, hw⟩ : ∃ w, w = BitVec.ofNat 32 (1 + g.authority % 2 * 2 + g.scopes % 256 * 256) := ⟨_, rfl⟩
  obtain ⟨hfirst, hscopes⟩ := sessionWord_fields g.authority g.scopes
  rw [← hw] at hfirst hscopes
  obtain ⟨x, hx⟩ : ∃ x, x = s.wr R.LCS_DBG_STAT w := ⟨_, rfl⟩
  obtain ⟨y, hy⟩ : ∃ y : LcsSt, y = { x.lcs with
    opening := none
    sessionEnd := x.time + g.seconds * 1000000000 } := ⟨_, rfl⟩
  obtain ⟨u, hu⟩ : ∃ u : State, u = { x with lcs := y } := ⟨_, rfl⟩
  obtain ⟨m, heq⟩ : ∃ m, s.openSession g = (u.raise 211).undebug m := by
    rw [hu, hy, hx, hw]
    exact ⟨_, rfl⟩
  have htime : x.time = s.time := by
    rw [hx]
    rfl
  have hdone := ((Aside.refl u).raise 211).undebug m
  have hend : u.lcs.sessionEnd = s.time + g.seconds * 1000000000 := by rw [hu, hy, htime]
  have hcnt : u.cntGet (R.LCS_CNT 2) = s.cntGet (R.LCS_CNT 2) := by
    rw [hu, hx]
    rfl
  have hstat : u.settled R.LCS_DBG_STAT ∧ u.rd R.LCS_DBG_STAT = w := by
    rw [hu, hx]
    exact ⟨s.settled_wr_self _ _, s.rd_wr_self _ _⟩
  have hother : ∀ o, o ≠ R.LCS_DBG_STAT → s.settled o → u.settled o ∧ u.rd o = s.rd o := fun o ho hs => by
    rw [hu, hx]
    exact ⟨hs.wr _ ho, s.rd_wr_of_ne _ _ _ ho⟩
  have hshown := (hdone.regs R.LCS_DBG_STAT (by decide) hstat.1).2.trans hstat.2
  rw [heq]
  refine ⟨?_, ?_, hdone.session.trans hend, fun o ho hne hs => ?_, (hdone.counts _ (by decide)).trans hcnt⟩
  · rw [State.on, State.get, hshown, hfirst]
    rfl
  · rw [State.get, hshown, hscopes]
  · obtain ⟨hset, hrd⟩ := hother o hne hs
    exact (hdone.regs o ho hset).2.trans hrd

theorem State.cntGet_congr {s t : State} (h : t.cnt = s.cnt) (o : Nat) : t.cntGet o = s.cntGet o := by rw [State.cntGet, h, State.cntGet]

/-- A token that fails a check: the outcome is shown, counted and reported. -/
theorem State.tokenRefused_shows (code : Nat) {t : State} (ht : t = ((s.tokenShown code).inc (R.LCS_CNT 3)).raise 212) :
    t.rd R.LCS_TOK_RES = BitVec.ofNat 32 code ∧ t.lcs = { s.lcs with token := none } ∧ t.on F.LCS_STAT_CHAL_VALID = false ∧
      t.cntGet (R.LCS_CNT 3) = s.plus (R.LCS_CNT 3) 1 ∧ t.isPending 212 = true ∧ t.rd R.LCS_DBG_STAT = s.rd R.LCS_DBG_STAT ∧ SameMemory s t := by
  obtain ⟨hcode, hgone, hregs, hframe⟩ := s.tokenShown_shows code
  obtain ⟨hev, hcnt, hpend, hsame⟩ := (s.tokenShown code).countedAndRaised (R.LCS_CNT 3) 212 ⟨R.LCS_SAT, 3, 1⟩ (by decide) (by decide)
    (by decide)
  rw [← ht] at hev hcnt hpend hsame
  have hshown : SameMemory s (s.tokenShown code) := .of_eq (congrArg State.hostMem hframe :) (congrArg State.svcMem hframe :)
    (congrArg State.cupMem hframe :) (congrArg (fun x : State => x.cup.flash) hframe :) (congrArg State.otp hframe :)
  have hcounts : (s.tokenShown code).cnt = s.cnt := (congrArg State.cnt hframe :)
  have hplus : (s.tokenShown code).plus (R.LCS_CNT 3) 1 = s.plus (R.LCS_CNT 3) 1 := by
    rw [State.plus, State.cntGet_congr hcounts, State.plus]
  refine ⟨(hsame _ (by decide)).trans hcode, (congrArg State.lcs hev :).trans (congrArg State.lcs hframe :), ?_, hcnt.trans hplus, hpend,
    (hsame _ (by decide)).trans (hregs _ (by decide) (by decide)), hshown.trans hev.sameMemory⟩
  rw [hsame.on _ (by decide)]
  exact hgone

/-- A token that passes: its session is open. -/
theorem State.tokenAccepted_shows (g : Grant) {t : State} (ht : t = ((s.tokenShown 0).inc (R.LCS_CNT 2)).openSession g) :
    t.on F.LCS_DBG_STAT_SESSION = true ∧ t.get F.LCS_DBG_STAT_SCOPES = g.scopes % 256 ∧
      t.lcs.sessionEnd = s.time + g.seconds * 1000000000 ∧ t.on F.LCS_STAT_CHAL_VALID = false ∧
      t.rd R.LCS_TOK_RES = 0 ∧ t.cntGet (R.LCS_CNT 2) = s.plus (R.LCS_CNT 2) 1 := by
  obtain ⟨hres, hgone, -, hframe⟩ := s.tokenShown_shows 0
  obtain ⟨hstat, htok⟩ := s.tokenShown_settled 0
  obtain ⟨x, hx⟩ : ∃ x, x = s.tokenShown 0 := ⟨_, rfl⟩
  rw [← hx] at ht hres hgone hframe hstat htok
  obtain ⟨hsession, hscopes, hend, hkept, hcnt⟩ := (x.inc (R.LCS_CNT 2)).openSession_opens g
  rw [← ht] at hsession hscopes hend hkept hcnt
  have hrd : ∀ o, o ∈ asideRegs → o ≠ R.LCS_DBG_STAT → satReg o = false → x.settled o → t.rd o = x.rd o := fun o ho hne hsat hs =>
    (hkept o ho hne (hs.count _ _ hsat)).trans (x.rd_count_of_plain _ _ o hsat)
  have htime : (x.inc (R.LCS_CNT 2)).time = s.time :=
    (congrArg State.time (x.inc_eventFrame (R.LCS_CNT 2)) :).trans (congrArg State.time hframe :)
  refine ⟨hsession, hscopes, by rw [hend, htime], ?_, ?_, ?_⟩
  · rw [State.on, State.get, hrd _ (by decide) (by decide) (by decide) hstat, ← State.get, ← State.on]
    exact hgone
  · exact (hrd _ (by decide) (by decide) (by decide) htok).trans hres
  · have hcounts : x.cnt = s.cnt := (congrArg State.cnt hframe :)
    rw [hcnt, State.cntGet_inc, State.cntGet_congr hcounts, State.plus]

/-! ### The owner digest (R501) -/

theorem State.ownerPgm_programs (hst : s.get F.LCS_STATE_STATE = 2) (hnone : s.otp.ownerDigest = none) :
    s.ownerPgm = ({ s with otp := { s.otp with
      ownerDigest := some ((List.range 12).flatMap fun i => natLE 4 (s.rd (R.LCS_OWN_DIG i)).toNat) } } : State).set F.LCS_STAT_OWNER_SET :=
  if_pos ⟨hst, by rw [hnone]; rfl⟩

theorem State.ownerPgm_refuses (hbad : s.get F.LCS_STATE_STATE ≠ 2 ∨ s.otp.ownerDigest ≠ none) :
    s.ownerPgm = (s.set F.LCS_STAT_REJECT).put F.LCS_STAT_REJECT_CAUSE 1 :=
  if_neg fun h => hbad.elim (fun hst => hst h.1) fun hown => hown (Option.isNone_iff_eq_none.1 h.2)

/-! ### The TAP (R507, R508) -/

/-- LCS_DBG_STAT as the TAP sees it rests on the registers. -/
theorem State.view_dbgStat_tapSelect (code : Nat) (out : List Byte) : (s.tapSelect code out).view .tap R.LCS_DBG_STAT = s.view .tap R.LCS_DBG_STAT := rfl

theorem exec_lcsStatus (hpwr : s.power.pwrOk = true) : exec .lcsStatus s = .next { s with lcs := { s.lcs with
    tapInsn := 0x10
    tapOut := natLE 4 (s.rd R.LCS_STATE).toNat ++ natLE 4 (s.view .tap R.LCS_DBG_STAT) } } := by
  refine congrArg Host.Outcome.next ?_
  unfold State.tapRun
  rw [hpwr, (s.view_dbgStat_tapSelect 0x10 []).symm]
  rfl

theorem exec_lcsChal (hpwr : s.power.pwrOk = true) (halive : s.alive = true) : exec .lcsChal s =
    .next ((s.tapSelect 0x11 []).chalReq.tapShift (s.tapSelect 0x11 []).chalReq.challenge) := by
  refine congrArg Host.Outcome.next ?_
  have halive : (s.tapSelect 0x11 []).alive = true := halive
  unfold State.tapRun
  dsimp only
  simp only [hpwr, halive, Bool.not_true, Bool.false_eq_true, if_false, if_true]

end

/-- Settles O51: a challenge is eight words that are drawn, a token that passes and an end write LCS_DBG_STAT before what was
debugged is reset, and the resets leave the life cycle's registers alone. -/
theorem challengesTokensSessions : Obligations.ChallengesTokensSessions := by
  unfold Obligations.ChallengesTokensSessions
  intro s
  refine ⟨fun hw => ⟨fun x l hrun hseed => ?_, fun hrun => ?_, fun hidle hlen => ?_, fun ⟨hst, hnone⟩ => ?_, fun hbad => ?_⟩,
    fun hvalid hdue => ?_, fun tok htok => ⟨fun hcode => ?_, fun hcode hscope => ?_⟩, fun c hc hsession hblank => ?_,
    fun hpwr => ⟨⟨_, exec_lcsStatus s hpwr, rfl, rfl⟩, fun x l halive hrun hseed => ?_⟩⟩
  · exact ⟨_, congrArg Host.Outcome.next ((s.gateW_granted _ _ _ hw).trans s.lcsCtlWrite_chalReq), s.chalReq_draws x l hrun hseed⟩
  · exact ⟨_, congrArg Host.Outcome.next ((s.gateW_granted _ _ _ hw).trans s.lcsCtlWrite_chalReq), s.chalReq_refused hrun⟩
  · refine ⟨_, congrArg Host.Outcome.next ((s.gateW_granted _ _ _ hw).trans (s.lcsCtlWrite_tokStart.trans (s.tokenFromSram_takes hidle hlen))),
      rfl, State.on_set_self _ _ (by decide) rfl, fun o ho => ?_, .of_eq⟩
    exact State.rd_put_of_ne _ F.LCS_TOK_RES_BUSY _ _ fun e => ho (List.mem_singleton.2 e)
  · refine ⟨_, congrArg Host.Outcome.next ((s.gateW_granted _ _ _ hw).trans (s.lcsCtlWrite_ownerPgm.trans (s.ownerPgm_programs hst hnone))),
      rfl, State.on_set_self _ _ (by decide) rfl, fun o ho => ?_⟩
    exact State.rd_put_of_ne _ F.LCS_STAT_OWNER_SET _ _ fun e => ho (List.mem_singleton.2 e)
  · refine ⟨_, congrArg Host.Outcome.next ((s.gateW_granted _ _ _ hw).trans (s.lcsCtlWrite_ownerPgm.trans (s.ownerPgm_refuses hbad))), ?_,
      State.get_put_self _ _ _ (by decide), ?_, rfl⟩
    · exact (State.on_put_apart _ _ _ _ (.inr (.inr (by decide)))).trans (State.on_set_self _ _ (by decide) rfl)
    · exact ((SameRegsBut.refl _ s).put _ _ (by decide)).put _ _ (by decide)
  · obtain ⟨hgone, hzero, hframe, -⟩ := s.dropChallenge_lapses
    exact ⟨_, challengeExpiry_lapses s hvalid hdue, hgone, hzero, hframe⟩
  · exact ⟨_, congrArg Host.Outcome.next (s.tokenDone_fails tok htok hcode), s.tokenRefused_shows _ rfl⟩
  · exact ⟨_, congrArg Host.Outcome.next (s.tokenDone_opens tok htok hcode hscope), s.tokenAccepted_shows ⟨byteAt tok 25, leAt tok 28 4, leAt tok 32 4⟩ rfl⟩
  · obtain ⟨hstat, hpend, hstop⟩ := s.endSession_ends hsession hblank
    have hexec : exec c s = .next s.endSession := by
      rcases hc with ⟨rfl, hend⟩ | ⟨r, -, hwr, rfl⟩
      · exact congrArg Host.Outcome.next (if_pos hend)
      · exact congrArg Host.Outcome.next ((s.gateW_granted _ _ _ hwr).trans (s.lcsCtlWrite_endDebug r))
    exact ⟨_, hexec, hstat, hpend, hstop⟩
  · obtain ⟨hchal, hvalid, -, hrng, -, hmem⟩ := (s.tapSelect 0x11 []).chalReq_draws x l hrun hseed
    obtain ⟨u, hu⟩ : ∃ u, u = (s.tapSelect 0x11 []).chalReq := ⟨_, rfl⟩
    have hexec := exec_lcsChal s hpwr halive
    have hselected : SameMemory s (s.tapSelect 0x11 []) := .of_eq
    rw [← hu] at hchal hvalid hrng hmem hexec
    exact ⟨_, hexec, hchal, hchal, hvalid, hrng, (hselected.trans hmem).trans .of_eq⟩

end Sys2Proof.Machine
end

section
/-! PROOF. O56: clock sources, the switchable clocks, rails and the PCIe link (R540, R547 to R550, R622). -/

namespace Sys2Proof.Machine

/-! ### The ports and the time base, as far as a clock failure goes (R549) -/

section
variable {s t : State} (h : Aside s t)
include h

theorem Aside.putB (f : Fld) (b : Bool) (hf : f.off ∉ R.EVC_PEND 6 :: asideRegs) : Aside s (t.putB f b) := h.put f _ hf

theorem Aside.putPstat (p i : Nat) (b : Bool) : Aside s (t.putB ⟨R.LIF_PSTAT p, i, 1⟩ b) := h.putB _ b (by
  simp only [R.LIF_PSTAT, R.EVC_PEND, asideRegs, R.CKG_STAT, R.LCS_STAT, R.LCS_DBG_STAT, R.LCS_TOK_RES, List.mem_cons, List.not_mem_nil,
    or_false]
  omega)

theorem Aside.lifPend (p i : Nat) : Aside s (t.lifPend p ⟨R.LIF_PSTAT p, i, 1⟩) := (h.putPstat p i true).level _ _

theorem Aside.setPreempt (p : Nat) (b : Bool) : Aside s (t.setPreempt p b) := h.ite ((h.putPstat p 3 b).lifPend p 17)

theorem Aside.setLink (p : Nat) (b : Bool) : Aside s (t.setLink p b) := by
  have hlock := (h.putPstat p 1 b).putPstat p 2 (b && !t.ipp.aui.contains p)
  have hup := (hlock.putPstat p 0 b).lifPend p 16
  unfold State.setLink
  exact hlock.ite (hup.ite (hup.setPreempt p false))

theorem Aside.setTimeState (a b : Bool) : Aside s (t.setTimeState a b) :=
  h.ite (((h.putB F.IPP_STAT_PTP_LOCKED _ (by decide)).putB F.IPP_STAT_PTP_HOLDOVER _ (by decide)).raise 81)

theorem Aside.lockLost (x : Option Nat) : Aside s { t with ipp := { t.ipp with lockLost := x } } := h.upd

theorem Aside.setLock (b : Bool) : Aside s (t.setLock b) := by
  have hput := h.putB F.IPP_PTP_CTL_LOCK_SET b (by decide)
  unfold State.setLock
  exact hput.ite (((hput.lockLost _).setTimeState _ _).ite ((hput.lockLost _).setTimeState _ _))

end

section
variable (s : State)

/-! ### READY of a source (R547, R548) -/

theorem clockReady_setDel (c : Nat) (x : State) (h : x.cpm.ready = setDel c s.cpm.ready) (hc : c ≠ 5) :
    x.clockReady c = false ∧ ∀ d, d ≠ c → x.clockReady d = s.clockReady d := by
  have hmem : ∀ d, (setDel c s.cpm.ready).contains d = (s.cpm.ready.contains d && d != c) := fun d => by
    rw [Bool.eq_iff_iff]
    simp [setDel, List.mem_filter]
  refine ⟨?_, fun d hd => ?_⟩
  · rw [State.clockReady, h, hmem, beq_eq_false_iff_ne.2 hc, bne_self_eq_false, Bool.and_false, Bool.or_false]
  · rw [State.clockReady, h, hmem, bne_iff_ne.2 hd, Bool.and_true, State.clockReady]

theorem clockReady_setIns (c : Nat) (x : State) (h : x.cpm.ready = setIns c s.cpm.ready) :
    x.clockReady c = true ∧ ∀ d, d ≠ c → x.clockReady d = s.clockReady d := by
  have hmem : ∀ d, (setIns c s.cpm.ready).contains d = (d == c || s.cpm.ready.contains d) := fun d => by
    rw [Bool.eq_iff_iff]
    simp [mem_setIns]
  refine ⟨?_, fun d hd => ?_⟩
  · rw [State.clockReady, h, hmem, beq_self_eq_true, Bool.true_or, Bool.or_true]
  · rw [State.clockReady, h, hmem, beq_eq_false_iff_ne.2 hd, Bool.false_or, State.clockReady]

/-! ### A clock failure (R548, R549) -/

/-- The state in which the failed source is no longer READY, is kept in CKG_STAT and is counted. -/
def State.clockNoted (s : State) (c : Nat) : State :=
  (({ s with cpm := { s.cpm with ready := setDel c s.cpm.ready } } : State).put ⟨R.CKG_STAT, 8 + c, 1⟩ 1).inc (R.PWR_CNT 4)

/-- What its failure ends with: the report, the condition and the event. -/
def State.clockReported (s : State) : State := ((s.report srcCpm 0x11 0 0).clockLive).raise 220

theorem clockFailure_eq (c : Fin 6) (hup : s.cpmUp = true) (hc : c.val ≠ 5) (hready : s.clockReady c = true) :
    exec (.clockFailure c) s = .next ((s.clockNoted c).clockLost c).clockReported := by
  refine congrArg Host.Outcome.next (if_neg ?_)
  rw [hup, hready, beq_eq_false_iff_ne.2 hc]
  decide

/-- CPM's failure is kept while only what lies aside changes. -/
theorem State.clockNoted_shows (c : Nat) (hc : c < 5) : (s.clockNoted c).cpm = { s.cpm with ready := setDel c s.cpm.ready } ∧
    (s.clockNoted c).settled R.CKG_STAT ∧ (s.clockNoted c).on ⟨R.CKG_STAT, 8 + c, 1⟩ = true ∧
    (s.clockNoted c).cntGet (R.PWR_CNT 4) = s.plus (R.PWR_CNT 4) 1 ∧
    (∀ o, satReg o = false → o ≠ R.CKG_STAT → (s.clockNoted c).rd o = s.rd o) := by
  obtain ⟨x, hx⟩ : ∃ x : State, x = { s with cpm := { s.cpm with ready := setDel c s.cpm.ready } } := ⟨_, rfl⟩
  have hcpm : x.cpm = { s.cpm with ready := setDel c s.cpm.ready } := by rw [hx]
  have hcnt : x.cnt = s.cnt := by rw [hx]
  have hregs : x.regs = s.regs := by rw [hx]
  unfold State.clockNoted
  rw [← hx]
  obtain ⟨y, hy⟩ : ∃ y, y = x.put ⟨R.CKG_STAT, 8 + c, 1⟩ 1 := ⟨_, rfl⟩
  have hyset : y.settled R.CKG_STAT := hy ▸ x.settled_put_self ⟨R.CKG_STAT, 8 + c, 1⟩ 1
  have hyon : y.on ⟨R.CKG_STAT, 8 + c, 1⟩ = true := hy ▸ x.on_set_self ⟨R.CKG_STAT, 8 + c, 1⟩ (by simp only; omega) rfl
  have hycnt : y.cnt = s.cnt := by
    rw [hy]
    exact hcnt
  have hycpm : y.cpm = x.cpm := by
    rw [hy]
    rfl
  have hyrd : ∀ o, o ≠ R.CKG_STAT → y.rd o = s.rd o := fun o ho => by
    rw [hy, State.rd_put_of_ne _ ⟨R.CKG_STAT, 8 + c, 1⟩ _ _ ho, State.rd, hregs, State.rd]
  rw [← hy]
  have hsat : satReg R.CKG_STAT = false := by decide
  refine ⟨?_, hyset.count _ 1 hsat, ?_, ?_, fun o ho hne => (y.rd_count_of_plain _ 1 o ho).trans (hyrd o hne)⟩
  · exact (congrArg State.cpm (y.inc_eventFrame (R.PWR_CNT 4)) :).trans (hycpm.trans hcpm)
  · have hkept := y.rd_count_of_plain (R.PWR_CNT 4) 1 R.CKG_STAT hsat
    exact (congrArg (fun w => fieldGet (8 + c) 1 w != 0) hkept).trans hyon
  · rw [State.cntGet_inc, State.cntGet_congr hycnt, State.plus]

/-- The report leaves the failure as it is. -/
theorem State.clockReported_shows : s.clockReported.cpm = s.cpm ∧ (∀ f : Fld, f.off ∉ eventRegs → s.clockReported.on f = s.on f) ∧
    s.clockReported.cntGet (R.PWR_CNT 4) = s.cntGet (R.PWR_CNT 4) ∧ s.clockReported.isPending 220 = true ∧
    ∃ n, faultMsg 0x101 0x11 0 n 0 ∈ s.clockReported.fcr.transit := by
  obtain ⟨x, hx⟩ : ∃ x, x = (s.report srcCpm 0x11 0 0).clockLive := ⟨_, rfl⟩
  have hcpm : x.cpm = s.cpm := by rw [hx]; rfl
  have hon : ∀ f, x.on f = s.on f := fun f => by rw [hx]; rfl
  have hcnt : x.cntGet (R.PWR_CNT 4) = s.cntGet (R.PWR_CNT 4) := by rw [hx]; rfl
  have htransit : ∃ n, faultMsg 0x101 0x11 0 n 0 ∈ x.fcr.transit := by
    rw [hx]
    exact ⟨_, List.mem_append_right _ (List.mem_singleton_self _)⟩
  have hraised := (EvcOnly.refl x).raise 220
  have hfcr : (x.raise 220).fcr = x.fcr := (congrArg State.fcr hraised.frame :)
  unfold State.clockReported
  rw [← hx]
  refine ⟨(congrArg State.cpm hraised.frame :).trans hcpm, fun f hf => ?_, (hraised.counts _ (by decide)).trans hcnt,
    State.raise_pend x 220 (by decide), by rwa [hfcr]⟩
  rw [← hon f]
  exact ((Logs.refl x).raise 220 (by decide)).regs.on f hf

/-- What every failure shows, while what the source's users lose leaves CPM's list, CKG_STAT and the count alone. -/
theorem State.clockFailed (c : Fin 6) (hc : c.val ≠ 5) (y : State) (hcpm : y.cpm.ready = setDel c s.cpm.ready)
    (hon : y.on ⟨R.CKG_STAT, 8 + c.val, 1⟩ = true) (hcnt : y.cntGet (R.PWR_CNT 4) = s.plus (R.PWR_CNT 4) 1) :
    y.clockReported.clockReady c = false ∧ (∀ d, d ≠ c.val → y.clockReported.clockReady d = s.clockReady d) ∧
      y.clockReported.on ⟨R.CKG_STAT, 8 + c.val, 1⟩ = true ∧ y.clockReported.cntGet (R.PWR_CNT 4) = s.plus (R.PWR_CNT 4) 1 ∧
      y.clockReported.isPending 220 = true ∧ ∃ n, faultMsg 0x101 0x11 0 n 0 ∈ y.clockReported.fcr.transit := by
  obtain ⟨hrcpm, hron, hrcnt, hpend, hmsg⟩ := y.clockReported_shows
  have hready := clockReady_setDel s c y.clockReported (by rw [hrcpm, hcpm]) hc
  exact ⟨hready.1, hready.2, (hron _ (show R.CKG_STAT ∉ eventRegs by decide)).trans hon, hrcnt.trans hcnt, hpend, hmsg⟩

/-- A source whose users leave CPM alone. -/
theorem State.clockFailed_aside (c : Fin 6) (hc : c.val ≠ 5) (y : State) (h : Aside (s.clockNoted c) y) :
    y.clockReported.clockReady c = false ∧ (∀ d, d ≠ c.val → y.clockReported.clockReady d = s.clockReady d) ∧
      y.clockReported.on ⟨R.CKG_STAT, 8 + c.val, 1⟩ = true ∧ y.clockReported.cntGet (R.PWR_CNT 4) = s.plus (R.PWR_CNT 4) 1 ∧
      y.clockReported.isPending 220 = true ∧ ∃ n, faultMsg 0x101 0x11 0 n 0 ∈ y.clockReported.fcr.transit := by
  obtain ⟨hcpm, hset, hon, hcnt, -⟩ := s.clockNoted_shows c (by omega)
  have hkept := (h.regs R.CKG_STAT (by decide) hset).2
  refine s.clockFailed c hc y (by rw [h.cpm, hcpm]) ?_ ((h.counts _ (by decide)).trans hcnt)
  exact (congrArg (fun w => fieldGet (8 + c.val) 1 w != 0) hkept).trans hon

/-! ### What the users of a source lose (R549) -/

/-- Ports go down. -/
def State.portsDown (s : State) (ps : List Nat) : State := ps.foldl (fun s p => s.setLink p false) s

theorem State.setLink_down (p q : Nat) (hp : p < 16) (hq : q < 16) (h : s.on (F.LIF_PSTAT_LINK_UP q) = false) :
    (s.setLink p false).on (F.LIF_PSTAT_LINK_UP q) = false := by
  by_cases he : q = p
  · rw [he]
    exact (s.on_setLink p hp false).1
  · have hout : R.LIF_PSTAT q ∉ R.LIF_PSTAT p :: eventRegs := fun hm => by
      rcases List.mem_cons.1 hm with h | h
      · simp only [R.LIF_PSTAT] at h
        omega
      · exact pstat_not_event q hq h
    exact (((LineOnly.refl p s).setLink hp false).regs.on (F.LIF_PSTAT_LINK_UP q) hout).trans h

theorem State.portsDown_down (ps : List Nat) (hps : ∀ p ∈ ps, p < 16) (q : Nat) (hq : q < 16) (h : q ∈ ps ∨ s.on (F.LIF_PSTAT_LINK_UP q) = false) :
    (s.portsDown ps).on (F.LIF_PSTAT_LINK_UP q) = false := by
  induction ps generalizing s with
  | nil => exact h.resolve_left (List.not_mem_nil)
  | cons p ps ih =>
    obtain ⟨hp, hrest⟩ := List.forall_mem_cons.1 hps
    refine ih (s.setLink p false) hrest ?_
    rcases h with h | h
    · rcases List.mem_cons.1 h with rfl | h
      · exact .inr (s.on_setLink q hp false).1
      · exact .inl h
    · exact .inr (s.setLink_down p q hp hq h)

theorem State.portsDown_aside (ps : List Nat) : Aside s (s.portsDown ps) := (Aside.refl s).foldl _ _ fun x p => (Aside.refl x).setLink p false

/-- The registers below the ports stay. -/
theorem State.rd_portsDown (ps : List Nat) (hps : ∀ p ∈ ps, p < 16) (o : Nat) (ho : o < 0xc0000) : (s.portsDown ps).rd o = s.rd o := by
  induction ps generalizing s with
  | nil => rfl
  | cons p ps ih =>
    obtain ⟨hp, hrest⟩ := List.forall_mem_cons.1 hps
    refine (ih (s.setLink p false) hrest).trans (((LineOnly.refl p s).setLink hp false).regs o fun hm => ?_)
    rcases List.mem_cons.1 hm with h | h
    · simp only [R.LIF_PSTAT] at h
      omega
    · exact not_mem_eventRegs_of_lt o (by simp only [R.EVC_PEND]; omega) h

theorem SameRegsBut.setLock (b : Bool) : SameRegsBut (R.IPP_PTP_CTL :: R.IPP_STAT :: eventRegs) s (s.setLock b) := by
  have hput : SameRegsBut (R.IPP_PTP_CTL :: R.IPP_STAT :: eventRegs) s (s.putB F.IPP_PTP_CTL_LOCK_SET b) :=
    (SameRegsBut.refl _ s).put F.IPP_PTP_CTL_LOCK_SET _ (List.mem_cons_self ..)
  have htime : ∀ x c d, SameRegsBut (R.IPP_PTP_CTL :: R.IPP_STAT :: eventRegs) s
      (({ s.putB F.IPP_PTP_CTL_LOCK_SET b with ipp := x } : State).setTimeState c d) := fun x c d =>
    SameRegsBut.setTimeState (t := { s.putB F.IPP_PTP_CTL_LOCK_SET b with ipp := x }) hput c d (by decide)
      fun o ho => List.mem_cons_of_mem _ (List.mem_cons_of_mem _ ho)
  unfold State.setLock
  dsimp only
  split
  · exact hput
  · split
    · exact htime _ _ _
    · exact htime _ _ _

/-- SYSCLK: the management domain moves to IROSC, and SVC's clock is held. -/
theorem State.sysclkLost (y : State) (hy : y = (s.clockNoted 0).clockLost 0) : y.cpm.ready = setDel 0 s.cpm.ready ∧
    y.on ⟨R.CKG_STAT, 8, 1⟩ = true ∧ y.cntGet (R.PWR_CNT 4) = s.plus (R.PWR_CNT 4) 1 ∧
    y.on F.CKG_SEL_MGMT_SRC = true ∧ y.cpm.svcHold = true := by
  obtain ⟨hcpm, -, hon, hcnt, -⟩ := s.clockNoted_shows 0 (by decide)
  subst hy
  generalize s.clockNoted 0 = x at hcpm hon hcnt
  refine ⟨congrArg CpmSt.ready hcpm, (State.on_put_apart x F.CKG_SEL_MGMT_SRC _ _ (.inl (by decide))).trans hon, hcnt,
    x.on_set_self F.CKG_SEL_MGMT_SRC (by decide) rfl, rfl⟩

/-- SDREFCLK_A: its ports are down, and the PTP time base moves to B where it follows by itself. -/
theorem State.sdrefclkALost (y : State) (hy : y = (s.clockNoted 1).clockLost 1) : Aside (s.clockNoted 1) y ∧
    (∀ p < 8, y.on (F.LIF_PSTAT_LINK_UP p) = false) ∧
    (s.on F.CKG_SEL_PTP_AUTO = true → s.clockReady 2 = true → y.on F.CKG_SEL_PTP_SRC = true) := by
  obtain ⟨hcpm, -, -, -, hrd⟩ := s.clockNoted_shows 1 (by decide)
  have hready : ∀ d, d ≠ 1 → (s.clockNoted 1).clockReady d = s.clockReady d := (clockReady_setDel s 1 _ (congrArg CpmSt.ready hcpm) (by decide)).2
  have hauto : (s.clockNoted 1).on F.CKG_SEL_PTP_AUTO = s.on F.CKG_SEL_PTP_AUTO := by
    rw [State.on, State.get, hrd _ (by decide) (by decide), ← State.get, ← State.on]
  generalize s.clockNoted 1 = x at hy hready hauto
  obtain ⟨z, hz⟩ : ∃ z, z = x.portsDown (List.range 8) := ⟨_, rfl⟩
  obtain ⟨w, hw⟩ : ∃ w, w = if z.on F.CKG_SEL_PTP_AUTO && z.clockReady 2 then z.set F.CKG_SEL_PTP_SRC else z := ⟨_, rfl⟩
  have heq : y = w.setLock false := by
    rw [hy, hw, hz]
    rfl
  have hrange : ∀ p ∈ List.range 8, p < 16 := by decide
  have hzx : Aside x z := hz ▸ x.portsDown_aside _
  have hzauto : z.on F.CKG_SEL_PTP_AUTO = x.on F.CKG_SEL_PTP_AUTO := by
    rw [hz, State.on, State.get, x.rd_portsDown _ hrange _ (by decide), ← State.get, ← State.on]
  have hlock := SameRegsBut.setLock w false
  have hlink : ∀ p < 8, R.LIF_PSTAT p ∉ R.IPP_PTP_CTL :: R.IPP_STAT :: eventRegs := by decide
  rw [heq]
  refine ⟨Aside.setLock ?_ false, fun p hp => ?_, fun hs h2 => ?_⟩
  · rw [hw]
    exact (hzx.put _ _ (by decide)).ite hzx
  · have hdown : z.on (F.LIF_PSTAT_LINK_UP p) = false := by
      rw [hz]
      exact x.portsDown_down _ hrange p (by omega) (.inl (List.mem_range.2 hp))
    refine (hlock.on (F.LIF_PSTAT_LINK_UP p) (hlink p hp)).trans ?_
    rw [hw]
    split
    · refine (State.on_put_apart z _ _ _ (.inl ?_)).trans hdown
      simp only [R.CKG_SEL, R.LIF_PSTAT]
      omega
    · exact hdown
  · have hz2 : z.clockReady 2 = true := by
      rw [State.clockReady, hzx.cpm, ← State.clockReady, hready 2 (by decide), h2]
    refine (hlock.on F.CKG_SEL_PTP_SRC (by decide)).trans ?_
    rw [hw, hzauto, hauto, hs, hz2]
    exact z.on_set_self F.CKG_SEL_PTP_SRC (by decide) rfl

/-- SDREFCLK_B: its ports are down. -/
theorem State.sdrefclkBLost (y : State) (hy : y = (s.clockNoted 2).clockLost 2) : Aside (s.clockNoted 2) y ∧
    ∀ p < 8, y.on (F.LIF_PSTAT_LINK_UP (8 + p)) = false := by
  have heq : y = (s.clockNoted 2).portsDown ((List.range 8).map (8 + ·)) := by
    rw [hy, State.portsDown, List.foldl_map]
    rfl
  rw [heq]
  refine ⟨State.portsDown_aside _ _, fun p hp => State.portsDown_down _ _ (by decide) _ (by omega) (.inl ?_)⟩
  exact List.mem_map.2 ⟨p, List.mem_range.2 hp, rfl⟩

/-- PCIE_REFCLK: the host is reset, and its link is down. -/
theorem State.pcieRefclkLost : Aside (s.clockNoted 3) ((s.clockNoted 3).clockLost 3) :=
  ((Aside.refl _).resetHost.disconnect 0x070).linkDown.ite (.refl _)

/-- HBM_REFCLK: the context store is not READY. -/
theorem State.hbmRefclkLost (y : State) (hy : y = (s.clockNoted 4).clockLost 4) : Aside (s.clockNoted 4) y ∧ y.on F.CTS_STAT_READY = false := by
  subst hy
  exact ⟨(Aside.refl _).put F.CTS_STAT_READY 0 (by decide), State.on_clr_self _ F.CTS_STAT_READY (by decide)⟩

end

end Sys2Proof.Machine
end

section
/-! PROOF. O56: the failure and the return of each source, CKG_SEL, the rails, and the host's link (R547 to R550, R610, R622). -/

namespace Sys2Proof.Machine

section
variable (s : State)

/-! ### A failure, source by source (R548, R549) -/

theorem clockFailure_loses (c : Fin 6) (hup : s.cpmUp = true) (hc : c.val ≠ 5) (hready : s.clockReady c = true) :
    ∃ t, exec (.clockFailure c) s = .next t ∧
      t.clockReady c = false ∧ (∀ d, d ≠ c.val → t.clockReady d = s.clockReady d) ∧ t.on ⟨R.CKG_STAT, 8 + c.val, 1⟩ = true ∧
      t.cntGet (R.PWR_CNT 4) = s.plus (R.PWR_CNT 4) 1 ∧ t.isPending 220 = true ∧ (∃ n, faultMsg 0x101 0x11 0 n 0 ∈ t.fcr.transit) ∧
      (c.val = 0 → t.on F.CKG_SEL_MGMT_SRC = true ∧ t.cpm.svcHold = true) ∧
      (c.val = 1 → (∀ p < 8, t.on (F.LIF_PSTAT_LINK_UP p) = false) ∧
        (s.on F.CKG_SEL_PTP_AUTO = true → s.clockReady 2 = true → t.on F.CKG_SEL_PTP_SRC = true)) ∧
      (c.val = 2 → ∀ p < 8, t.on (F.LIF_PSTAT_LINK_UP (8 + p)) = false) ∧ (c.val = 4 → t.on F.CTS_STAT_READY = false) := by
  refine ⟨_, clockFailure_eq s c hup hc hready, ?_⟩
  obtain ⟨y, hy⟩ : ∃ y, y = (s.clockNoted c).clockLost c := ⟨_, rfl⟩
  rw [← hy]
  obtain ⟨hcpm, hon, -⟩ := y.clockReported_shows
  have hports : ∀ p < 16, R.LIF_PSTAT p ∉ eventRegs := fun p hp => pstat_not_event p hp
  match c, hc, hready, hy with
  | 0, hc, _, hy =>
    obtain ⟨hlist, hkept, hcnt, hsel, hhold⟩ := s.sysclkLost y hy
    obtain ⟨h1, h2, h3, h4, h5, h6⟩ := s.clockFailed 0 hc y hlist hkept hcnt
    exact ⟨h1, h2, h3, h4, h5, h6, fun _ => ⟨(hon F.CKG_SEL_MGMT_SRC (by decide)).trans hsel, (congrArg CpmSt.svcHold hcpm).trans hhold⟩,
      by simp, by simp, by simp⟩
  | 1, hc, _, hy =>
    obtain ⟨haside, hdown, hsel⟩ := s.sdrefclkALost y hy
    obtain ⟨h1, h2, h3, h4, h5, h6⟩ := s.clockFailed_aside 1 hc y haside
    exact ⟨h1, h2, h3, h4, h5, h6, by simp, fun _ => ⟨fun p hp => (hon (F.LIF_PSTAT_LINK_UP p) (hports p (by omega))).trans (hdown p hp),
      fun ha hb => (hon F.CKG_SEL_PTP_SRC (by decide)).trans (hsel ha hb)⟩, by simp, by simp⟩
  | 2, hc, _, hy =>
    obtain ⟨haside, hdown⟩ := s.sdrefclkBLost y hy
    obtain ⟨h1, h2, h3, h4, h5, h6⟩ := s.clockFailed_aside 2 hc y haside
    exact ⟨h1, h2, h3, h4, h5, h6, by simp, by simp,
      fun _ p hp => (hon (F.LIF_PSTAT_LINK_UP (8 + p)) (hports _ (by omega))).trans (hdown p hp), by simp⟩
  | 3, hc, _, hy =>
    obtain ⟨h1, h2, h3, h4, h5, h6⟩ := s.clockFailed_aside 3 hc y (hy ▸ s.pcieRefclkLost)
    exact ⟨h1, h2, h3, h4, h5, h6, by simp, by simp, by simp, by simp⟩
  | 4, hc, _, hy =>
    obtain ⟨haside, hclr⟩ := s.hbmRefclkLost y hy
    obtain ⟨h1, h2, h3, h4, h5, h6⟩ := s.clockFailed_aside 4 hc y haside
    exact ⟨h1, h2, h3, h4, h5, h6, by simp, by simp, by simp, fun _ => (hon F.CTS_STAT_READY (by decide)).trans hclr⟩
  | 5, hc, _, _ => exact absurd rfl hc

/-! ### A source that is READY again (R548) -/

/-- The state in which CPM shows the source READY. -/
def State.withReady (s : State) (c : Nat) : State := { s with cpm := { s.cpm with ready := setIns c s.cpm.ready } }

theorem State.clockReturns_other (c : Nat) (hup : s.cpmUp = true) (hc : c ≠ 4) (hready : s.clockReady c = false) :
    s.clockReturns c = (s.withReady c).clockLive := by
  have hback : s.clockBack c = (s.withReady c).clockLive := by
    rw [State.clockBack, hup, hready]
    exact congrArg State.clockLive (if_neg fun e => hc e.1)
  rw [State.clockReturns, hback, if_neg hc]

theorem clockReady_shows (c : Fin 6) (hup : s.cpmUp = true) (hc : c.val ≠ 4) (hready : s.clockReady c = false) :
    ∃ t, exec (.clockReady c) s = .next t ∧ t.clockReady c = true ∧ (∀ d, d ≠ c.val → t.clockReady d = s.clockReady d) ∧
      t = { s with cpm := t.cpm, fcr := t.fcr } := by
  obtain ⟨hself, hothers⟩ := clockReady_setIns s c (s.withReady c).clockLive rfl
  exact ⟨_, congrArg Host.Outcome.next (s.clockReturns_other c hup hc hready), hself, hothers, rfl⟩

/-- With HBM_REFCLK the memory is READY, and in service nothing more begins. -/
theorem State.clockReturns_hbm (hup : s.cpmUp = true) (hready : s.clockReady 4 = false) (hkey : s.mpe.key.isSome = true)
    (hstack : s.get F.CTS_STAT_STACK_FAULT = 0) (hm : 7 ≤ s.milestone) :
    s.clockReturns 4 = ((s.withReady 4).set F.CTS_STAT_READY).clockLive := by
  have hback : s.clockBack 4 = ((s.withReady 4).set F.CTS_STAT_READY).clockLive := by
    rw [State.clockBack, hup, hready]
    exact congrArg State.clockLive (if_pos ⟨rfl, hkey, hstack⟩)
  rw [State.clockReturns, hback, if_pos rfl]
  obtain ⟨x, hx⟩ : ∃ x, x = ((s.withReady 4).set F.CTS_STAT_READY).clockLive := ⟨_, rfl⟩
  have hxkey : x.mpe.key.isNone = false := by
    have hkept : x.mpe.key = s.mpe.key := by
      rw [hx]
      rfl
    rw [hkept, ← Option.not_isSome, hkey]
    rfl
  have hxm : x.milestone = s.milestone := by
    rw [hx]
    exact (s.withReady 4).get_put_apart F.CTS_STAT_READY F.CUP_BOOT_STAT_MILESTONE 1 (.inl (by decide))
  have hrotate : x.bootRotate = x := by
    rw [State.bootRotate, hxkey]
    rfl
  rw [← hx, hrotate, x.bootGo_inService (hxm ▸ hm)]

theorem clockReady_hbm (hup : s.cpmUp = true) (hready : s.clockReady 4 = false) (hkey : s.mpe.key.isSome = true)
    (hstack : s.get F.CTS_STAT_STACK_FAULT = 0) (hm : 7 ≤ s.milestone) :
    ∃ t, exec (.clockReady 4) s = .next t ∧ t.clockReady 4 = true ∧ t.on F.CTS_STAT_READY = true ∧
      SameRegsBut [R.CTS_STAT] s t ∧ SameMemory s t := by
  refine ⟨_, congrArg Host.Outcome.next (s.clockReturns_hbm hup hready hkey hstack hm), (clockReady_setIns s 4 _ rfl).1,
    (s.withReady 4).on_set_self F.CTS_STAT_READY (by decide) rfl, ?_, ?_⟩
  · exact (SameRegsBut.refl [R.CTS_STAT] (s.withReady 4)).put F.CTS_STAT_READY 1 (List.mem_singleton_self _)
  · exact ⟨fun _ => rfl, fun _ => rfl, fun _ => rfl, fun _ => rfl, rfl⟩

/-! ### CKG_SEL (R550, R569) -/

/-- The source that a bit of CKG_SEL selects. -/
def selSrc (n lo : Nat) : Nat :=
  match lo, bit n lo with
  | 0, false => 0
  | 0, true => 5
  | _, false => 1
  | _, true => 2

/-- A field of CKG_SEL takes its bit where the source is READY, by the sources of `s`. -/
def State.takeSel (s x : State) (n lo : Nat) : State :=
  if s.clockReady (selSrc n lo) then x.put ⟨R.CKG_SEL, lo, 1⟩ (bits n lo 1) else x

/-- CKG_SEL as it is written. -/
def State.selTaken (s : State) (n : Nat) : State :=
  (s.takeSel (s.takeSel (s.takeSel s n 0) n 1) n 2).putB F.CKG_SEL_PTP_AUTO (bit n 3)

/-- SEL_REJECT shows a selection that was not taken. -/
def State.selJudged (s : State) (n : Nat) : State :=
  if [0, 1, 2].all (fun lo => s.clockReady (selSrc n lo)) then s.selTaken n else (s.selTaken n).set F.CKG_STAT_SEL_REJECT

/-- SVC's clock is released with SYSCLK. -/
def State.selReleased (s : State) (n : Nat) : State :=
  if !bit n 0 && s.clockReady (selSrc n 0) then
    { s.selJudged n with cpm := { (s.selJudged n).cpm with svcHold := false } }
  else s.selJudged n

theorem State.ckgSelWrite_eq (v : Word) : s.ckgSelWrite v =
    if bits ((s.selReleased v.toNat).rd R.CKG_SEL).toNat 0 3 = bits (s.rd R.CKG_SEL).toNat 0 3 then s.selReleased v.toNat
    else (s.selReleased v.toNat).raise 220 := rfl

theorem bits_one (n lo : Nat) : bits n lo 1 = if bit n lo then 1 else 0 := by
  rw [bits, Nat.shiftRight_eq_div_pow, pow_one, ← Nat.toNat_testBit, ← bit]
  cases bit n lo <;> rfl

theorem State.takeSel_on_self (x : State) (n lo : Nat) (hlo : lo < 32) : (s.takeSel x n lo).on ⟨R.CKG_SEL, lo, 1⟩ =
    if s.clockReady (selSrc n lo) then bit n lo else x.on ⟨R.CKG_SEL, lo, 1⟩ := by
  unfold State.takeSel
  split
  · rw [bits_one]
    exact x.on_putB_self ⟨R.CKG_SEL, lo, 1⟩ (bit n lo) (by simp only; omega) rfl
  · rfl

theorem State.takeSel_on_other (x : State) (n lo i : Nat) (hi : i ≠ lo) :
    (s.takeSel x n lo).on ⟨R.CKG_SEL, i, 1⟩ = x.on ⟨R.CKG_SEL, i, 1⟩ := by
  unfold State.takeSel
  split
  · exact x.on_put_apart _ _ _ ((Fld.apart_bits_iff _ _ _ _).2 fun e => hi e.2)
  · rfl

theorem State.selTaken_on (n i : Nat) (hi : i < 3) : (s.selTaken n).on ⟨R.CKG_SEL, i, 1⟩ =
    if s.clockReady (selSrc n i) then bit n i else s.on ⟨R.CKG_SEL, i, 1⟩ := by
  have hauto : (s.selTaken n).on ⟨R.CKG_SEL, i, 1⟩ =
      (s.takeSel (s.takeSel (s.takeSel s n 0) n 1) n 2).on ⟨R.CKG_SEL, i, 1⟩ :=
    State.on_putB_bit_of_ne _ _ _ _ _ ((Fld.apart_bits_iff _ _ _ _).2 fun e => absurd e.2 (by omega))
  rw [hauto]
  match i, hi with
  | 0, _ => rw [s.takeSel_on_other _ n 2 0 (by decide), s.takeSel_on_other _ n 1 0 (by decide), s.takeSel_on_self s n 0 (by decide)]
  | 1, _ => rw [s.takeSel_on_other _ n 2 1 (by decide), s.takeSel_on_self _ n 1 (by decide), s.takeSel_on_other s n 0 1 (by decide)]
  | 2, _ => rw [s.takeSel_on_self _ n 2 (by decide), s.takeSel_on_other _ n 1 2 (by decide), s.takeSel_on_other s n 0 2 (by decide)]

theorem State.selReleased_regs (n : Nat) : (s.selReleased n).regs = (s.selJudged n).regs := by
  unfold State.selReleased
  split
  · rfl
  · rfl

theorem State.selJudged_sel (n i : Nat) : (s.selJudged n).on ⟨R.CKG_SEL, i, 1⟩ = (s.selTaken n).on ⟨R.CKG_SEL, i, 1⟩ := by
  unfold State.selJudged
  split
  · rfl
  · exact State.on_put_apart _ F.CKG_STAT_SEL_REJECT _ _ (.inl (show R.CKG_SEL ≠ R.CKG_STAT by decide))

theorem State.on_selReleased (n : Nat) (f : Fld) : (s.selReleased n).on f = (s.selJudged n).on f := by
  rw [State.on, State.get, State.rd, s.selReleased_regs, ← State.rd, ← State.get, ← State.on]

/-- The event leaves CKG_SEL and CKG_STAT as they are. -/
theorem State.ckgSelWrite_on (v : Word) (f : Fld) (hf : f.off ∉ eventRegs) :
    (s.ckgSelWrite v).on f = (s.selJudged v.toNat).on f := by
  rw [s.ckgSelWrite_eq, ← s.on_selReleased]
  split
  · rfl
  · exact ((Logs.refl _).raise 220 (by decide)).regs.on f hf

theorem SameRegsBut.takeSel {os : List Nat} {x : State} (h : SameRegsBut os s x) (n lo : Nat) (ho : R.CKG_SEL ∈ os) :
    SameRegsBut os s (s.takeSel x n lo) := by
  unfold State.takeSel
  split
  · exact h.put _ _ ho
  · exact h

theorem State.ckgSelWrite_regs (v : Word) : SameRegsBut (R.CKG_SEL :: R.CKG_STAT :: eventRegs) s (s.ckgSelWrite v) := by
  have hsel : R.CKG_SEL ∈ R.CKG_SEL :: R.CKG_STAT :: eventRegs := List.mem_cons_self ..
  have htaken : SameRegsBut (R.CKG_SEL :: R.CKG_STAT :: eventRegs) s (s.selTaken v.toNat) :=
    ((((SameRegsBut.refl _ s).takeSel _ _ 0 hsel).takeSel _ _ 1 hsel).takeSel _ _ 2 hsel).put F.CKG_SEL_PTP_AUTO _ hsel
  have hjudged : SameRegsBut (R.CKG_SEL :: R.CKG_STAT :: eventRegs) s (s.selJudged v.toNat) := by
    unfold State.selJudged
    split
    · exact htaken
    · exact htaken.put F.CKG_STAT_SEL_REJECT 1 (List.mem_cons_of_mem _ (List.mem_cons_self ..))
  have hreleased : SameRegsBut (R.CKG_SEL :: R.CKG_STAT :: eventRegs) s (s.selReleased v.toNat) := fun o ho => by
    rw [State.rd, s.selReleased_regs, ← State.rd]
    exact hjudged o ho
  rw [s.ckgSelWrite_eq]
  split
  · exact hreleased
  · exact hreleased.raise 220 (by decide) fun o ho => List.mem_cons_of_mem _ (List.mem_cons_of_mem _ ho)

/-- What each of the three fields selects, and SEL_REJECT where it could not. -/
theorem State.ckgSelWrite_field (v : Word) (i : Nat) (hi : i < 3) :
    (s.ckgSelWrite v).on ⟨R.CKG_SEL, i, 1⟩ =
      (if s.clockReady (selSrc v.toNat i) then v.getLsbD i else s.on ⟨R.CKG_SEL, i, 1⟩) ∧
    (s.clockReady (selSrc v.toNat i) = false → (s.ckgSelWrite v).on F.CKG_STAT_SEL_REJECT = true) := by
  refine ⟨?_, fun hnot => ?_⟩
  · rw [s.ckgSelWrite_on v _ (show R.CKG_SEL ∉ eventRegs by decide), s.selJudged_sel, s.selTaken_on v.toNat i hi, bit_toNat]
  · rw [s.ckgSelWrite_on v F.CKG_STAT_SEL_REJECT (by decide), State.selJudged, if_neg]
    · exact State.on_set_self _ F.CKG_STAT_SEL_REJECT (by decide) rfl
    · intro hall
      have htrue := List.all_eq_true.1 hall i (by interval_cases i <;> decide)
      exact Bool.false_ne_true (hnot.symm.trans htrue)

theorem selSrc_mgmt (n : Nat) : selSrc n 0 = if bit n 0 then 5 else 0 := by
  unfold selSrc
  cases bit n 0 <;> rfl

theorem selSrc_succ (n lo : Nat) : selSrc n (lo + 1) = if bit n (lo + 1) then 2 else 1 := by
  unfold selSrc
  cases bit n (lo + 1) <;> rfl

theorem ckgSelWrite_selects (r : Req) (v : Word) (hw : s.mayWrite r R.CKG_SEL) : ∃ t, exec (.ckgSelWrite r v) s = .next t ∧
    (∀ e ∈ [(0, if v.getLsbD 0 then 5 else 0), (1, if v.getLsbD 1 then 2 else 1), (2, if v.getLsbD 2 then 2 else 1)],
      t.on ⟨R.CKG_SEL, e.1, 1⟩ = (if s.clockReady e.2 then v.getLsbD e.1 else s.on ⟨R.CKG_SEL, e.1, 1⟩) ∧
      (s.clockReady e.2 = false → t.on F.CKG_STAT_SEL_REJECT = true)) ∧
    t.on F.CKG_SEL_PTP_AUTO = v.getLsbD 3 ∧ SameRegsBut (R.CKG_SEL :: R.CKG_STAT :: eventRegs) s t ∧ SameMemory s t := by
  refine ⟨_, congrArg Host.Outcome.next (s.gateW_granted _ _ _ hw), ?_, ?_, s.ckgSelWrite_regs v,
    (State.ckgSelWrite_keeps v (Keeps.refl true s)).sameMemory⟩
  · intro e he
    have h0 := s.ckgSelWrite_field v 0 (by decide)
    have h1 := s.ckgSelWrite_field v 1 (by decide)
    have h2 := s.ckgSelWrite_field v 2 (by decide)
    rw [selSrc_mgmt] at h0
    rw [selSrc_succ] at h1 h2
    simp only [List.mem_cons, List.not_mem_nil, or_false] at he
    rcases he with rfl | rfl | rfl
    · exact h0
    · exact h1
    · exact h2
  · refine (s.ckgSelWrite_on v F.CKG_SEL_PTP_AUTO (by decide)).trans ((s.selJudged_sel v.toNat 3).trans ?_)
    exact State.on_putB_self _ F.CKG_SEL_PTP_AUTO _ (by decide) rfl

/-! ### HBM_REFCLK gone for long, the rails and the host's link (R549, R610, R622) -/

theorem hbmRefclkLongLoss_resets (hup : s.cpmUp = true) (hready : s.clockReady 4 = false) (hcup : s.power.cupUp = true) :
    ∃ t, exec .hbmRefclkLongLoss s = .next t ∧ t.power.sysHeld = true ∧ t.power.cupUp = false ∧ t.rd R.PWR_RST_CAUSE = 4 := by
  have hpwr : s.power.pwrOk = true := by
    rw [State.cpmUp, Bool.and_eq_true, Bool.and_eq_true] at hup
    exact hup.1.1
  have hlost : s.hbmLost = (s.put F.CTS_STAT_STACK_FAULT 15).systemReset 2 := by
    rw [State.hbmLost, hup, hready]
    exact if_pos hcup
  have hpower := (s.put F.CTS_STAT_STACK_FAULT 15).systemReset_power 2 hpwr
  refine ⟨_, congrArg Host.Outcome.next hlost, ?_, ?_, (s.put F.CTS_STAT_STACK_FAULT 15).systemReset_rstCause 2 hpwr⟩
  · rw [hpower]
  · rw [hpower]

theorem State.live_setLive (source kind : Nat) (b : Bool) :
    sget (fun _ => 0) (s.setLive source kind b).fcr.live (source * 64 + kind) = if b then 1 else 0 := sget_sput_self _ _ _ _

theorem supplyOutOfRange_reports (rail : Fin 8) (hup : s.cpmUp = true) : ∃ t, exec (.supplyOutOfRange rail) s = .next t ∧
    Reports 0x101 0x14 0 0 s t ∧ sget (fun _ => 0) t.fcr.live (0x101 * 64 + 0x14) = 1 ∧ t = { s with fcr := t.fcr } :=
  ⟨_, congrArg Host.Outcome.next (if_pos hup), rfl, s.live_setLive srcCpm 0x14 true, rfl⟩

theorem railSample_stands (v : Rails) (hcup : s.power.cupUp = true) : ∃ t, exec (.railSample v) s = .next t ∧
    t.cup.rails = [v.sram, v.vgl, v.io, v.sdL, v.sdH, v.hbmQ, v.hbm, v.vpp].map BitVec.toNat ∧
    ((t.cup.rails.zip railRange).all (fun e => railIn e.1 e.2) = true → sget (fun _ => 0) t.fcr.live (0x101 * 64 + 0x14) = 0) ∧
    t = { s with cup := { s.cup with rails := t.cup.rails }, fcr := t.fcr } := by
  obtain ⟨l, hl⟩ : ∃ l, l = [v.sram, v.vgl, v.io, v.sdL, v.sdH, v.hbmQ, v.hbm, v.vpp].map BitVec.toNat := ⟨_, rfl⟩
  obtain ⟨x, hx⟩ : ∃ x : State, x = { s with cup := { s.cup with rails := l } } := ⟨_, rfl⟩
  have hsample : s.sampleRails v = if (l.zip railRange).all (fun e => railIn e.1 e.2) then x.setLive srcCpm 0x14 false else x := by
    rw [State.sampleRails, hcup, hx, hl]
    rfl
  rw [← hl]
  cases hall : (l.zip railRange).all (fun e => railIn e.1 e.2) with
  | true =>
    rw [if_pos hall] at hsample
    refine ⟨_, congrArg Host.Outcome.next hsample, ?_, fun _ => x.live_setLive srcCpm 0x14 false, ?_⟩ <;> rw [hx] <;> rfl
  | false =>
    rw [if_neg (by rw [hall]; decide)] at hsample
    have hrails : x.cup.rails = l := by rw [hx]
    refine ⟨x, congrArg Host.Outcome.next hsample, hrails, fun h => ?_, ?_⟩
    · rw [hrails, hall] at h
      exact absurd h (by decide)
    · rw [hx]

theorem pcieLinkUp_brings (hcore : s.power.coreUp = true) (hhost : s.on F.GLB_STRAP_HOST_EN = true) (hclk : s.clockReady 3 = true)
    (hreset : s.inReset 11 = false) (hvigil : s.inVigil = false) (htrip : s.cpm.tripped = false) :
    exec .pcieLinkUp s = .next { s with power := { s.power with hostUp := true } } := by
  refine congrArg Host.Outcome.next (if_pos ?_)
  rw [hcore, hhost, hclk, hreset, hvigil, htrip]
  rfl

end

/-- Settles O56: a failure is noted, costs the source's users what R549 says and is reported, none of the latter touching what the
former wrote; each field of CKG_SEL is followed through the write on its own. -/
theorem clocksAndSupplies : Obligations.ClocksAndSupplies := by
  unfold Obligations.ClocksAndSupplies
  intro s
  refine ⟨clockFailure_loses s, fun c hup hready => ⟨fun hc => clockReady_shows s c hup hc hready, fun hc hkey hstack hm => ?_⟩,
    ckgSelWrite_selects s, hbmRefclkLongLoss_resets s, supplyOutOfRange_reports s, railSample_stands s, pcieLinkUp_brings s⟩
  obtain rfl : c = 4 := Fin.ext hc
  exact clockReady_hbm s hup hready hkey hstack hm

end Sys2Proof.Machine
end
